-- ==== Sys2Proof/Word.lean ====
section
/-! DEFINITION. The plain word types of the model and the finite names that both the commands and the
state use: blocks, operating states, masters, halves. Nothing here depends on the machine. -/

namespace Sys2Proof

/-- One byte. -/
abbrev Byte := BitVec 8

/-- One register word (00_scope R13: registers are 32 bits wide). -/
abbrev Word := BitVec 32

/-- One 64-bit word (an Attic word, a register pair). -/
abbrev Dword := BitVec 64

/-- The twenty-one register-bearing blocks, in the row order of Table 01-1 (01_architecture R18). -/
inductive Block where
  | dev | hst | drc | cht | sui | stw | sav | cel | dmw | nrg | gau | rek | plk | att | ecc | tws
  | twp | svc | log | pwr | fpl
  deriving DecidableEq, Repr

/-- Row of a block in Table 01-1, counted from 0 (01_architecture R18; 02_floor_plan R61). -/
def Block.row : Block → Fin 21
  | .dev => 0 | .hst => 1 | .drc => 2 | .cht => 3 | .sui => 4 | .stw => 5 | .sav => 6 | .cel => 7
  | .dmw => 8 | .nrg => 9 | .gau => 10 | .rek => 11 | .plk => 12 | .att => 13 | .ecc => 14
  | .tws => 15 | .twp => 16 | .svc => 17 | .log => 18 | .pwr => 19 | .fpl => 20

/-- All blocks in row order (Table 01-1). -/
def Block.all : List Block :=
  [.dev, .hst, .drc, .cht, .sui, .stw, .sav, .cel, .dmw, .nrg, .gau, .rek, .plk, .att, .ecc, .tws,
   .twp, .svc, .log, .pwr, .fpl]

/-- The block of a row of Table 01-1. -/
def Block.ofRow (r : Nat) : Option Block := Block.all[r]?

/-- Base of a block's window in BAR0 (Table 01-1, 01_architecture R18). -/
def Block.base : Block → Nat
  | .dev => 0x000000 | .hst => 0x010000 | .drc => 0x020000 | .cht => 0x040000 | .sui => 0x050000
  | .stw => 0x060000 | .sav => 0x070000 | .cel => 0x080000 | .dmw => 0x090000 | .nrg => 0x0A0000
  | .gau => 0x0B0000 | .rek => 0x0C0000 | .plk => 0x0D0000 | .att => 0x0E0000 | .ecc => 0x0F0000
  | .tws => 0x100000 | .twp => 0x110000 | .svc => 0x120000 | .log => 0x130000 | .pwr => 0x140000
  | .fpl => 0x150000

/-- The operating states of Table 01-6 (01_architecture R33). -/
inductive OpState where
  | off | boot | restore | tenancy | service | fenced | saving | saved | warmReturn | harbour
  | drydock
  deriving DecidableEq, Repr

/-- Code of an operating state (Table 01-6). -/
def OpState.code : OpState → Nat
  | .off => 0 | .boot => 1 | .restore => 2 | .tenancy => 3 | .service => 4 | .fenced => 5
  | .saving => 6 | .saved => 7 | .warmReturn => 8 | .harbour => 9 | .drydock => 10

/-- The states in which host memory is served (Table 01-6, column Host memory; 03_host_link R117). -/
def OpState.hostMemory : OpState → Bool
  | .tenancy | .service | .harbour => true
  | _ => false

/-- A Vestibule half (Table 00-2; 07_fence_save). -/
inductive Half where
  | port | starboard
  deriving DecidableEq, Repr

/-- Code of a half: 0 Port, 1 Starboard (DEV_HARBOUR.HALF, Table 03-11). -/
def Half.code : Half → Nat
  | .port => 0 | .starboard => 1

/-- The other half. -/
def Half.other : Half → Half
  | .port => .starboard | .starboard => .port

/-- Master IDs of Table 01-8 (01_architecture R40) as their codes. -/
def mHost : Nat := 0x00
def mPartner : Nat := 0x01
def mStow : Nat := 0x02
def mSave : Nat := 0x03
def mRestore : Nat := 0x04
def mFold : Nat := 0x05
def mDramScrub : Nat := 0x06
def mSramScrub : Nat := 0x07
def mCellarPatrol : Nat := 0x08
def mSteward : Nat := 0x09
def mPurser : Nat := 0x0A
def mPilot : Nat := 0x0B
def mKeeper : Nat := 0x0C
def mService : Nat := 0x0D
def mAttic : Nat := 0x0E
/-- Dumbwaiter channel `n` (Table 01-8: 0x10 to 0x1F). -/
def mDmw (n : Nat) : Nat := 0x10 + n
/-- No master (FCAP_MSTR, Table 03-12: 0xFF when none). -/
def mNone : Nat := 0xFF

/-- Bytes in a beat, a tile and a Room (01_architecture Table 01-10). -/
def beatBytes : Nat := 64
def tileBytes : Nat := 65536
def roomBytes : Nat := 4194304
/-- Tiles in a Room, beats in a tile (01_architecture Table 01-10). -/
def tilesPerRoom : Nat := 64
def beatsPerTile : Nat := 1024

end Sys2Proof
end

