-- ==== Sys2Proof/Machine/Store.lean ====
section
/-! DEFINITION. Plain-data containers of the state: a sparse table in one canonical form (keys strictly
rising, no entry equal to the table's default), fixed vectors read and changed by a natural index, and
small list helpers. The laws are in `Sys2Proof.Laws.Store`. -/

namespace Sys2Proof.Machine

/-- A sparse table: key and value pairs, keys strictly rising, default values not listed. -/
abbrev Table (α : Type) := List (Nat × α)

/-- The value at key `k`; `d` where nothing is listed. -/
def tget {α : Type} (d : α) : Table α → Nat → α
  | [], _ => d
  | (k', v) :: t, k => if k = k' then v else if k < k' then d else tget d t k

/-- Put a value in front of a table unless it is the default. -/
def tcons {α : Type} [DecidableEq α] (d : α) (k : Nat) (v : α) (t : Table α) : Table α :=
  if v = d then t else (k, v) :: t

/-- Set key `k` to `v`, keeping the canonical form. -/
def tset {α : Type} [DecidableEq α] (d : α) : Table α → Nat → α → Table α
  | [], k, v => tcons d k v []
  | (k', v') :: t, k, v =>
    if k = k' then tcons d k v t
    else if k < k' then tcons d k v ((k', v') :: t)
    else (k', v') :: tset d t k v

/-- Change the value at key `k`. -/
def tmod {α : Type} [DecidableEq α] (d : α) (t : Table α) (k : Nat) (f : α → α) : Table α :=
  tset d t k (f (tget d t k))

/-- Return every key from `lo` up to but not including `hi` to the default. -/
def tclear {α : Type} (t : Table α) (lo hi : Nat) : Table α :=
  t.filter fun p => !(lo ≤ p.1 && p.1 < hi)

/-- The entries with keys from `lo` up to but not including `hi`, keys counted from `lo`. -/
def tslice {α : Type} (t : Table α) (lo hi : Nat) : Table α :=
  (t.filter fun p => lo ≤ p.1 && p.1 < hi).map fun p => (p.1 - lo, p.2)

/-- Write a list of key and value pairs, each key moved up by `base`. -/
def tput {α : Type} [DecidableEq α] (d : α) (t : Table α) (base : Nat) : Table α → Table α
  | [] => t
  | (k, v) :: r => tput d (tset d t (base + k) v) base r

/-- Change every listed value; one that becomes the default is listed no more. -/
def tmap {α : Type} [DecidableEq α] (d : α) (f : Nat → α → α) (t : Table α) : Table α :=
  (t.map fun p => (p.1, f p.1 p.2)).filter fun p => p.2 ≠ d

/-- Keys strictly rising above `lo`, and no listed default. -/
def twfFrom {α : Type} [DecidableEq α] (d : α) : Option Nat → Table α → Bool
  | _, [] => true
  | lo, (k, v) :: t =>
    (match lo with | none => true | some l => decide (l < k)) && decide (v ≠ d) && twfFrom d (some k) t

/-- The canonical form of a table. -/
def twf {α : Type} [DecidableEq α] (d : α) (t : Table α) : Bool := twfFrom d none t

/-- Read a vector at a natural index; `d` past its end. -/
def vget {α : Type} {n : Nat} (d : α) (v : Vector α n) (i : Nat) : α :=
  if h : i < n then v[i] else d

/-- Change a vector at a natural index; nothing past its end. -/
def vmod {α : Type} {n : Nat} (v : Vector α n) (i : Nat) (f : α → α) : Vector α n :=
  if h : i < n then v.set i (f v[i]) else v

/-- Set a vector at a natural index; nothing past its end. -/
def vset {α : Type} {n : Nat} (v : Vector α n) (i : Nat) (x : α) : Vector α n := vmod v i fun _ => x

/-- One more, stopping at `m` (the counters that stop at a maximum). -/
def satInc (m n : Nat) : Nat := if n < m then n + 1 else m

/-- `k` more, stopping at `m`. -/
def satAdd (m n k : Nat) : Nat := min m (n + k)

/-- Value of a key in a list of pairs kept in any order. -/
def alookup {α β : Type} [DecidableEq α] (l : List (α × β)) (k : α) : Option β :=
  (l.find? fun p => p.1 = k).map Prod.snd

/-- Remove a key from a list of pairs. -/
def aerase {α β : Type} [DecidableEq α] (l : List (α × β)) (k : α) : List (α × β) :=
  l.filter fun p => p.1 ≠ k

/-- Set a key in a list of pairs. -/
def aset {α β : Type} [DecidableEq α] (l : List (α × β)) (k : α) (v : β) : List (α × β) :=
  (k, v) :: aerase l k

/-- `n` little-endian bytes of a number. -/
def leBytes : Nat → Nat → List Byte
  | 0, _ => []
  | n + 1, v => BitVec.ofNat 8 v :: leBytes n (v / 256)

/-- The number that little-endian bytes spell. -/
def leNat : List Byte → Nat
  | [] => 0
  | b :: r => b.toNat + 256 * leNat r

/-- Replace a byte range of a list by other bytes. -/
def patchBytes (l : List Byte) (ofs : Nat) (new : List Byte) : List Byte :=
  l.take ofs ++ new ++ l.drop (ofs + new.length)

/-- A list cut or filled with zeros to `n` bytes. -/
def padTo (n : Nat) (l : List Byte) : List Byte :=
  (l ++ List.replicate (n - l.length) 0).take n

/-- Round a division up (0 for a divisor of 0). -/
def ceilDiv (a b : Nat) : Nat := if b = 0 then 0 else (a + b - 1) / b

end Sys2Proof.Machine
end

