-- ==== Sys2Proof/Machine/TypesEnergy.lean ====
section
/-! DEFINITION. Plain data of the energy block NRG (10_energy_pack). The value after `:=` is the value at
reset. -/

namespace Sys2Proof.Machine

/-- Power path states (R362, Table 10-1). -/
inductive PowerPath where
  | aux | mains | pack | exercise
  deriving DecidableEq, Repr

/-- Code of a power path (Table 10-1). -/
def PowerPath.code : PowerPath → Nat
  | .aux => 0 | .mains => 1 | .pack => 2 | .exercise => 3

/-- Charger phases (R387, Table 10-7). -/
inductive ChargePhase where
  | off | precharge | constCurrent | constVoltage | done
  deriving DecidableEq, Repr

/-- Code of a charger phase (Table 10-7). -/
def ChargePhase.code : ChargePhase → Nat
  | .off => 0 | .precharge => 1 | .constCurrent => 2 | .constVoltage => 3 | .done => 4

/-- A thermistor reading: quarter degrees, or open or short (R373). -/
inductive Therm where
  | ok (quarterC : Int)
  | open_
  | short
  deriving DecidableEq, Repr

/-- What PACK_ID reads (R372). -/
inductive PackIdReading where
  | code (n : Nat)
  | open_
  | short
  | invalid
  deriving DecidableEq, Repr

/-- Resistors of the pack classes, Ω, from code 1 on (Table 10-4). -/
def packResistors : List Nat :=
  [1000, 1500, 2200, 3300, 4700, 6800, 10000, 15000, 22000, 33000, 47000, 68000, 100000, 150000, 220000]

/-- What a resistance at PACK_ID, in Ω, reads: open above 400 kΩ, short below 600 Ω, a code within ±6 % of its resistor (R372). -/
def packReading (ohms : Nat) : PackIdReading :=
  if 400000 < ohms then .open_
  else if ohms < 600 then .short
  else
    let k := packResistors.findIdx fun r => 94 * r ≤ 100 * ohms ∧ 100 * ohms ≤ 106 * r
    if k < packResistors.length then .code (k + 1) else .invalid

/-- A thermistor is converted over −40 to 100 °C (R373). -/
def Therm.converted : Therm → Therm
  | .ok q => .ok (max (-160) (min 400 q))
  | t => t

/-- An authentication in progress (R382): its CHALLENGE has been written. -/
structure AuthRun where
  /-- Almanac time of the CHALLENGE write. -/
  startedAt : Nat
  /-- VERSION word, SERIAL, CLASS and nonce of the message M. -/
  version : Nat
  serial : List Byte
  cls : Nat
  nonce : List Byte
  deriving DecidableEq, Repr

/-- An Exercise in progress (R389 to R392). -/
structure ExerciseRun where
  startedAt : Nat
  /-- Energy drawn, pJ (mV × mA × µs). -/
  drawnPj : Nat
  /-- A fault station has escalated above Notify since the start (R391). -/
  fault : Bool := false
  deriving DecidableEq, Repr

/-- The energy block NRG (10_energy_pack). -/
structure Nrg where
  /-- NRG_STATUS.PATH (R362). -/
  path : PowerPath := .aux
  /-- P12V valid (R249), and P12V present at all as the comparator sees it. -/
  p12vValid : Bool := false
  /-- NRG_STATUS.AUX_VALID. -/
  auxValid : Bool := false
  /-- Host reset input: PERST_N is asserted (R34, R118). -/
  perst : Bool := true
  /-- PACK_ID reading (R372). -/
  packId : PackIdReading := .open_
  /-- Thermistors (R373). -/
  th0 : Therm := .ok 0
  th1 : Therm := .ok 0
  /-- A thermistor read open or short while PACK_ID read valid, at the last reading since boot (R394). -/
  thermBad : Bool := false
  /-- Presence has held for 500 ms and the insertion has been handled (R377). -/
  inserted : Bool := false
  /-- NRG_FENCE_TH.CODE, NRG_ILIM.DA (R248, R368). -/
  fenceTh : Nat := 12
  ilimDa : Nat := 90
  /-- NRG_VOLT.PACK_MV, .P12V_MV, NRG_PACK_I.MA (R374). -/
  packMv : Nat := 0
  p12vMv : Nat := 0
  packMa : Int := 0
  /-- NRG_CHG.PHASE, .REST, .TEMP_PAUSE, .ILIM_ACTIVE, .MA (R386, R387). -/
  chg : ChargePhase := .off
  rest : Bool := false
  tempPause : Bool := false
  ilimActive : Bool := false
  chgMa : Nat := 0
  /-- Almanac time at which the charger entered its present phase (R387, R390). -/
  chgAt : Nat := 0
  /-- Charging is stopped until reinsertion after PRECHG_TIMEOUT (R387). -/
  prechgFailed : Bool := false
  /-- Charging is stopped by PACK_OV until the voltage falls below V_MAX (R388). -/
  overVolt : Bool := false
  /-- NRG_AUTH.RESULT, .ENTRY, .ATTEMPTS, .PACK_VER (R384). -/
  authResult : Nat := 0
  authEntry : Nat := 0
  authAttempts : Nat := 0
  packVer : Nat := 0
  auth : Option AuthRun := none
  /-- A Fence has cut an authentication short: it starts again (17_two_wire_ports R602). -/
  authAgain : Bool := false
  /-- Almanac time of the last failed attempt (R384). -/
  authFailedAt : Option Nat := none
  /-- NRG_PROFILE.SLOT, .KNOWN, .INSERTIONS (R378). -/
  profSlot : Nat := 0
  profKnown : Bool := false
  insertions : Nat := 0
  /-- The insertion's report waits for the end of its authentication (R379). -/
  announce : Bool := false
  /-- A removal discarded a Reckoning run: the next run follows the next insertion (11_gauge_reckoning R415). -/
  runHold : Bool := false
  /-- NRG_EXER_CTL.DEPTH_PCT, .MAX_MIN (R391). -/
  depthPct : Nat := 20
  maxMin : Nat := 120
  /-- NRG_EXER_STAT.RESULT, .DEPTH_PCT (R391). -/
  exerResult : Nat := 0
  exerDepth : Nat := 0
  /-- The last due hour that has fired, in hours of the calendar (R389; 19_almanac_log_identity R654). -/
  exerFired : Nat := 0
  /-- An Exercise has fallen due and its conditions failed: tries so far, time of the last one (R390). -/
  exerTries : Nat := 0
  exerTryAt : Nat := 0
  exerWaiting : Bool := false
  exer : Option ExerciseRun := none
  /-- Pack energy since the last Fence, pJ: NRG_SAVE_E (R374). -/
  savePj : Nat := 0
  /-- Almanac time of the last voltage and current sample (R374). -/
  measAt : Nat := 0
  deriving DecidableEq, Repr

/-- A thermistor reads a temperature (R375). -/
def Therm.good : Therm → Bool
  | .ok _ => true
  | _ => false

/-- NRG_STATUS.PRESENT: PACK_ID reads a valid code and both thermistors read neither open nor short (R375). -/
def Nrg.present (n : Nrg) : Bool :=
  (match n.packId with | .code _ => true | _ => false) && n.th0.good && n.th1.good

/-- Pack energy since the last Fence, mJ (R374). -/
def Nrg.saveMj (n : Nrg) : Nat := n.savePj / 1000000000

end Sys2Proof.Machine
end

