-- ==== Sys2Proof/Machine/TypesCore.lean ====
section
/-! DEFINITION. Plain data of the parts every block shares: fault stations, the operating state (DEV),
the Almanac and Log (LOG), and vendor events. Each field names the rule of the spec that gives it; the value after
`:=` is its value at reset. -/

namespace Sys2Proof.Machine

/-- A fault station (16_fault_stations, R554 to R576; Table 01-9). -/
structure Station where
  /-- FSTAT.LIVE: live classes (R563). -/
  live : Word := 0
  /-- FSTICKY.STICKY: sticky classes (R555, R564). -/
  sticky : Word := 0
  /-- FCAP_ADDR: captured address (R556). -/
  capAddr : Nat := 0
  /-- FCAP_MSTR: captured master, 0xFF when none (R556). -/
  capMstr : Nat := 0xFF
  /-- FCAP_TYPE.CLASS: captured class (R556). -/
  capClass : Nat := 0
  /-- FCAP_TYPE.ACCESS: 0 none, 1 read, 2 write, 3 fetch, 4 command (R556). -/
  capAccess : Nat := 0
  /-- FCAP_TYPE.LEVEL: level after the capturing raise (R556). -/
  capLevel : Nat := 0
  /-- FCAP_TYPE.STATE: operating state at the raise (R556). -/
  capState : Nat := 0
  /-- FCAP_TYPE.VALID: a capture has been made since boot (R556). -/
  capValid : Bool := false
  /-- FCAP_TIME: Almanac time of the capture (R556). -/
  capTime : Nat := 0
  /-- FCOUNT.RAISED: raises since FSTICKY was last 0 (R555, R564). -/
  raised : Nat := 0
  /-- FCOUNT.QUARANTINED: detections quarantined since boot (R566). -/
  quarantined : Nat := 0
  /-- FGRACE.MS: grace time, ms (R558, R61). -/
  graceMs : Nat := 1000
  /-- FQUIET.TEN_MS: quiet period in 10 ms (R563, R61). -/
  quietTenMs : Nat := 50
  /-- FLEVEL.LEVEL: 0 none, 1 Notify, 2 Contain, 3 Harbour, 4 Abandon (R557). -/
  level : Nat := 0
  /-- FLEVEL.CAP: highest level that hardware may reach (R61, R557). -/
  cap : Nat := 4
  /-- FRECOV.RECOVERIES: fault states ended since boot (R563). -/
  recoveries : Nat := 0
  /-- FRECOV.ESCALATIONS: level rises since boot (R559). -/
  escalations : Nat := 0
  /-- FVECTOR.VECTOR: MSI-X vector of the station (R114). -/
  vector : Nat := 8
  /-- Grace timers that run: class and the Almanac time at which each expires (R557, R558). -/
  graceAt : List (Nat × Nat) := []
  /-- Quiet timers that run: class and the Almanac time at which each expires (R555, R563). -/
  quietAt : List (Nat × Nat) := []
  /-- End of the quarantine of this block's detectors, Almanac time; none when no reset runs (R566). -/
  quarUntil : Option Nat := none
  deriving DecidableEq, Repr

/-- Where the precautionary stow of Safe Harbour stands (DEV_HARBOUR.PHASE, R573, R574). -/
inductive HarbourPhase where
  | none | waiting | writing | ended
  deriving DecidableEq, Repr

/-- The DEV block (01_architecture R33 to R39; 16_fault_stations R569 to R575). -/
structure Dev where
  /-- DEV_STATE.STATE (R33); BOOT at reset (code 0x1). -/
  state : OpState := .boot
  /-- DEV_STATE.PREV_STATE (R34). -/
  prev : OpState := .off
  /-- DEV_STATE.ENTRY_CAUSE (R34). -/
  entryCause : Nat := 0x01
  /-- DEV_STATE.ARMED (R238). -/
  armed : Bool := false
  /-- DEV_STATE.ACK_PEND: a Harbour acknowledge is held (R575). -/
  ackPend : Bool := false
  /-- DEV_REPL.REASONS: replace reasons of Table 16-5 (R569). -/
  reasons : BitVec 6 := 0
  /-- DEV_REPL.RAISES: reason bits raised, lifetime (R570). -/
  raises : Nat := 0
  /-- DEV_HARBOUR.PHASE (R573, R574). -/
  phase : HarbourPhase := .none
  /-- DEV_HARBOUR.HALF: half of the precautionary stow. -/
  harbourHalf : Half := .port
  /-- DEV_HARBOUR.SHORT: the last precautionary stow ended SHORT (R574). -/
  short : Bool := false
  /-- DEV_HARBOUR.LEFT is the length of this list: listed tiles not yet written (R573). -/
  harbourList : List Nat := []
  /-- Almanac time at which the precautionary stow became due (R572, R574). -/
  harbourDueAt : Nat := 0
  /-- A Harbour escalation is held until entry to SERVICE (R36, R561). -/
  heldHarbour : Bool := false
  /-- A replace request is held until entry to SERVICE (R36, R38). -/
  heldReplace : Bool := false
  /-- An Abandon is held until entry to SERVICE (R561, WARM-RETURN). -/
  heldAbandon : Bool := false
  /-- R17 holding copies: high words captured by reads of _LO registers, by offset of the _HI register. -/
  hiCopies : List (Nat × Word) := []
  /-- R17 held _LO writes, by offset of the _LO register. -/
  loHeld : List (Nat × Word) := []
  deriving DecidableEq, Repr

/-- A Log record (19_almanac_log_identity R658, Table 19-3); the CRC is computed when it is written. -/
structure LogRecord where
  /-- INDEX (R657). -/
  index : Nat
  /-- TYPE, Table 19-4. -/
  type : Nat
  /-- BLOCK: row of Table 01-1, 0xFF for none. -/
  block : Nat
  /-- STATE when raised. -/
  state : Nat
  /-- ALMANAC when raised. -/
  time : Nat
  /-- ARG0, ARG1, ARG2, each 64 bits. -/
  arg0 : Nat
  arg1 : Nat
  arg2 : Nat
  /-- SUITE_ID, 0xFFFF for none. -/
  suite : Nat
  /-- MASTER, 0xFF for none. -/
  master : Nat
  /-- FLAGS bit 0: held (R659). -/
  held : Bool
  /-- FLAGS bit 1: time after a cold loss. -/
  afterCold : Bool
  /-- NAME of the Suite (R200). -/
  name : List Byte
  deriving DecidableEq, Repr

/-- The lifetime counters of Table 19-5 (R660); times that make up hours are kept in µs. -/
structure LifeCounters where
  /-- FIRST_BOOT: Almanac of the first boot with a plan other than the factory default. -/
  firstBoot : Option Nat := none
  /-- POWER_ON_H, kept as µs in states other than OFF, SAVED and DRYDOCK. -/
  powerOnUs : Nat := 0
  /-- SAVED_H, kept as µs in SAVED. -/
  savedUs : Nat := 0
  boots : Nat := 0
  savesStowed : Nat := 0
  savesFull : Nat := 0
  unsealed : Nat := 0
  warmReturns : Nat := 0
  restores : Nat := 0
  harbours : Nat := 0
  dirtyShutdowns : Nat := 0
  exercises : Nat := 0
  updates : Nat := 0
  /-- HOST_WRITTEN_GIB, kept in bytes of accepted host write data. -/
  hostBytes : Nat := 0
  /-- STOWED_GIB, kept in tiles confirmed by stow or Fold. -/
  stowedTiles : Nat := 0
  coldGaps : Nat := 0
  deriving DecidableEq, Repr

/-- The Almanac, host calendar and Log (19_almanac_log_identity). -/
structure Log where
  /-- OFFSET of the host calendar, ns, signed (R652). -/
  offset : Int := 0
  /-- LOG_STATUS.CAL_VALID (R652, R653). -/
  calValid : Bool := false
  /-- LOG_STATUS.GAP_UNKNOWN (R649). -/
  gapUnknown : Bool := false
  /-- Last-run mark: Almanac at entry to SAVED, OFF or power removal in DRYDOCK (R650). -/
  lastRun : Nat := 0
  /-- LOG_GAP.S source: the gap of the last boot in µs; none when unknown (R650). -/
  gapUs : Option Nat := some 0
  /-- LOG_INDEX.INDEX: INDEX of the next record (R657). -/
  next : Nat := 0
  /-- Records ready to be written, oldest first (R657). -/
  ready : List LogRecord := []
  /-- The holding queue of the always-on domain, oldest first, at most 256 (R659). -/
  holding : List LogRecord := []
  /-- LOG_HOLD.DROPPED: records dropped, lifetime (R659). -/
  dropped : Nat := 0
  /-- Records dropped since the last loss report (R659, TYPE 0x0105). -/
  dropUnreported : Nat := 0
  /-- A cold loss emptied the holding queue and its loss is not yet reported (R659). -/
  coldUnreported : Bool := false
  /-- Records written to the ring so far; the write position is this count modulo 36,828 (R656, R657). -/
  written : Nat := 0
  /-- The ring of sectors 106 to 123 of both banks: position to the record's 64 bytes (R656). -/
  ring : Table (List Byte) := []
  /-- LOG_NAND_SEL.DIE and .WORD (R667). -/
  selDie : Nat := 0
  selWord : Nat := 0
  /-- Lifetime counters of the always-on domain (R660, R661). -/
  life : LifeCounters := {}
  /-- The Attic copy of the counters and its Almanac time (R661). -/
  lifeStored : LifeCounters := {}
  lifeStoredAt : Nat := 0
  /-- Almanac time of the last hourly counter store (R661). -/
  lastStore : Nat := 0
  /-- The always-on domain has power; false between a cold loss and the next power-up (R649). -/
  aonPowered : Bool := true
  /-- A Set Timestamp has been served since the last cold loss (R653). -/
  timeSetSinceCold : Bool := true
  /-- A cold loss has happened since the last boot: its gap is unknown (R650). -/
  coldGap : Bool := false
  /-- Almanac times of the current boot follow a cold loss (FLAGS bit 1 of Table 19-3). -/
  afterCold : Bool := false
  deriving DecidableEq, Repr

/-- A vendor event record (03_host_link R112, Table 03-12). -/
structure VendorEvent where
  code : Nat
  block : Nat
  master : Nat
  suite : Nat
  state : Nat
  dpa : Nat
  arg0 : Nat
  arg1 : Nat
  time : Nat
  deriving DecidableEq, Repr

/-- An event record of the CXL event logs (R112). -/
inductive EventRecord where
  /-- Vendor record of Table 03-12. -/
  | vendor (e : VendorEvent)
  /-- General Media Event: DRAM uncorrectable error at a DPA (R112, R161). -/
  | generalMedia (dpa : Nat) (time : Nat)
  /-- Memory Module Event (R112): a pack change (0 inserted, 1 removed) or a temperature change (3, a throttle stage). -/
  | memoryModule (what : Nat) (time : Nat)
  deriving DecidableEq, Repr

/-- One CXL event log (R111). -/
structure EventLog where
  /-- Records with their handles, oldest first, at most 64 (R111). -/
  records : List (Nat × EventRecord) := []
  /-- Overflow flag and dropped-record count (R111). -/
  overflow : Bool := false
  dropped : Nat := 0
  /-- Almanac times of the first and last dropped record (CXL overflow timestamps). -/
  firstDrop : Nat := 0
  lastDrop : Nat := 0
  /-- Handle of the next record. -/
  nextHandle : Nat := 1
  /-- Interrupt policy: signalling enabled, and the vector (R114). -/
  irq : Bool := false
  vector : Nat
  deriving DecidableEq, Repr

end Sys2Proof.Machine
end

