-- ==== Sys2Proof/Machine/TypesHost.lean ====
section
/-! DEFINITION. Plain data of the host link HST (03_host_link): decoders, tracker, mailbox, poison list, event
logs, interrupts, Global Persistent Flush, IDE. The value after `:=` is the value at reset. -/

namespace Sys2Proof.Machine

/-- An HDM decoder (R84). -/
structure HdmDecoder where
  base : Nat := 0
  size : Nat := 0
  ways : Nat := 1
  gran : Nat := 256
  /-- This device's position in the interleave set. -/
  pos : Nat := 0
  committed : Bool := false
  /-- The last commit failed on an unsupported value (R84). -/
  err : Bool := false
  deriving DecidableEq, Repr

/-- What holds a write back before acceptance, beside its claim. -/
inductive WriteHold where
  /-- Nothing holds it. -/
  | none
  /-- Its Room is not restored yet, TENANCY (R311). -/
  | room
  /-- The fill of its Unwritten volatile tile (R191). -/
  | fill
  deriving DecidableEq, Repr

/-- Where a write's claim stands (R210, R231 to R234). -/
inductive ClaimState where
  | notPresented | stalled | granted
  deriving DecidableEq, Repr

/-- A 64 B beat write: data of 64 bytes, one enable per byte, poison (R92, R133). -/
structure BeatWrite where
  /-- Global beat index: DPA / 64. -/
  beat : Nat
  data : List Byte
  enables : BitVec 64
  poison : Bool
  deriving DecidableEq, Repr

/-- A host write in the tracker (R88, R95). -/
structure HostWrite where
  /-- The host's tag. -/
  tag : Nat
  w : BeatWrite
  /-- Ingress byte parity failed (R92). -/
  parityBad : Bool
  /-- Almanac time of the request. -/
  at_ : Nat
  hold : WriteHold
  claim : ClaimState
  /-- The write has been accepted (R88). -/
  accepted : Bool
  /-- Accepted, and its completion waits for the standby's acknowledgement of this WSEQ (R91). -/
  waitAck : Option Nat
  /-- Its data has been written to DRAM (R95). -/
  inDram : Bool
  /-- The set of its Suite has left the roles that decode since the request was decoded: it completes under the old role
  (05_rooms_suites_chart R204). -/
  oldRole : Bool
  deriving DecidableEq, Repr

/-- A host read that holds an entry, or waits for one (R93, R95, R311). -/
structure HostRead where
  tag : Nat
  beat : Nat
  at_ : Nat
  /-- The order number of its DRAM request; none while the restore of its tile holds it (R134, R311). -/
  req : Option Nat
  /-- Its number among the accesses that the restore holds, in order of arrival (R312). -/
  arrival : Nat := 0
  deriving DecidableEq, Repr

/-- A poison list entry: one beat, or one whole tile (R103). -/
structure PoisonEntry where
  /-- First DPA of the range. -/
  dpa : Nat
  /-- The range is a whole tile (64 KiB). -/
  tile : Bool
  /-- Source as CXL codes it: 1 external, 2 internal, 3 injected, 7 vendor (R103). -/
  source : Nat
  deriving DecidableEq, Repr

/-- Background mailbox command in progress (R104). -/
structure BgOp where
  opcode : Nat
  startedAt : Nat
  deriving DecidableEq, Repr

/-- Alert configuration set by Set Alert Configuration (Table 03-5). -/
structure AlertConfig where
  enables : Nat := 0
  lifeUsedPct : Nat := 0
  overTempC : Int := 0
  underTempC : Int := 0
  corrVolatile : Nat := 0
  corrPersistent : Nat := 0
  deriving DecidableEq, Repr

/-- A pending Global Persistent Flush phase 2 (R98). -/
structure GpfPhase2 where
  /-- Almanac time of the request. -/
  at_ : Nat
  /-- Tags of the earlier writes that the flush waits for. -/
  waits : List Nat
  deriving DecidableEq, Repr

/-- The host link HST (03_host_link). -/
structure Hst where
  /-- HST_LINK.CXL_VER, .RATE, .WIDTH (R81). -/
  cxlVer : Nat := 0
  rate : Nat := 0
  width : Nat := 0
  /-- HST_LINK.FLIT256, .LINK_UP. -/
  flit256 : Bool := false
  linkUp : Bool := false
  /-- HST_LINK.DEGRADED (R83). -/
  degraded : Bool := false
  /-- HST_LINK.IDE_FAIL (R116). -/
  ideFail : Bool := false
  /-- IDE stream states: CXL.io and CXL.cachemem secure (R115). -/
  ideIoSecure : Bool := false
  ideMemSecure : Bool := false
  /-- An IDE failure holds until the host re-keys (R116). -/
  ideBroken : Bool := false
  /-- HDM decoders (R84). -/
  hdm : Vector HdmDecoder 4 := Vector.replicate 4 {}
  /-- The Fence has closed the ingress gate; open after a release (R25 to R27). The spec does not say how the gate stands before the
  first release after a power cycle: it is closed at reset and through BOOT, RESTORE, until the entry to SERVICE or TENANCY (DESIGN CHOICE:
  assumption 108). -/
  gateClosed : Bool := true
  /-- Host writes that hold entries, in order of arrival (R94, R95). -/
  writes : List HostWrite := []
  /-- Write requests that wait for credits, in order of arrival (R96). -/
  waiting : List HostWrite := []
  /-- Host reads that hold entries (R95, R311). -/
  reads : List HostRead := []
  /-- Reads that wait for credits, in order of arrival (R96). -/
  readsWaiting : List HostRead := []
  /-- Almanac time since which the entries for writes are exhausted and write credits withheld (R96). -/
  creditHeldAt : Option Nat := none
  /-- Spans of the last 10 s for which they were withheld: start and end (R105, Table 03-3). -/
  creditSpans : List (Nat × Nat) := []
  /-- HST_CREDIT_WAIT.US (R96). -/
  creditWaitUs : Nat := 0
  /-- HST_TRK_STALLED.PEAK. -/
  stallPeak : Nat := 0
  /-- HST_ACCEPT: accepted host writes since boot. -/
  accepts : Nat := 0
  /-- HST_DISCARD.COUNT, .LAST_REASON (R90). -/
  discards : Nat := 0
  lastReason : Nat := 0
  /-- Discards in the present 1 ms window, by reason (R90). -/
  windowDiscards : List (Nat × Nat) := []
  /-- HST_FENCE_REFUSED.COUNT; kept by the always-on domain. -/
  fenceRefused : Nat := 0
  /-- HST_GPF.PH2_COUNT, .LAST_US (R98). -/
  ph2Count : Nat := 0
  gpfLastUs : Nat := 0
  /-- Phase-2 requests that wait (R98). -/
  gpf : List GpfPhase2 := []
  /-- Advertised phase-2 duration, µs: STALL_US + 20 µs rounded up to what the CXL encoding expresses, 3,000 for the default STALL_US of
  2,000 (R98). -/
  gpfAdvertUs : Nat := 3000
  /-- Poison list (R103). -/
  poisonList : List PoisonEntry := []
  /-- Overflow flag and timestamp of the poison list (R103). -/
  poisonOverflow : Bool := false
  poisonOverflowAt : Nat := 0
  /-- HST_POISON.PARITY_POISON (R92). -/
  parityPoison : Nat := 0
  /-- Event logs: Informational, Warning, Failure, Fatal (R111, Table 03-14 vectors 1 to 4). -/
  logs : Vector EventLog 4 :=
    #v[{ vector := 1 }, { vector := 2 }, { vector := 3 }, { vector := 4 }]
  /-- MSI-X enable, vector masks and pending bits (R114). -/
  msixEnable : Bool := false
  msixMask : Word := 0
  msixPending : Word := 0
  /-- Background command in progress, and opcode and return code of the last one (R104, R106). -/
  bg : Option BgOp := none
  lastBgOpcode : Nat := 0
  lastBgRc : Nat := 0
  /-- Shutdown state: true dirty (R100). -/
  shutdownDirty : Bool := false
  /-- Last Set Shutdown State since boot: true dirty (R100 case 3). -/
  hostShutdown : Option Bool := none
  /-- Dirty Shutdown Count (R100, Table 03-3). -/
  dirtyShutdowns : Nat := 0
  /-- A dirty shutdown is already recorded for the present Fence (R100). -/
  dirtyRecorded : Bool := false
  /-- Alert configuration (Table 03-5). -/
  alerts : AlertConfig := {}
  /-- Scan Media: running, and the beats found poisoned by the last scan (R164, R103). -/
  scanning : Bool := false
  scanResults : List Nat := []
  /-- Where the next Get Poison List and Get Scan Media Results of the same range go on: range and record, record. -/
  poisonNext : Option (Nat × Nat × Nat) := none
  scanNext : Nat := 0
  /-- Sanitize or Secure Erase opcode being carried out (R107, R709). -/
  sanitizing : Option Nat := none
  deriving DecidableEq, Repr

end Sys2Proof.Machine
end

