-- ==== Sys2Proof/Machine/TypesPartner.lean ====
section
/-! DEFINITION. Plain data of the partner link PLK: mirror sets, forwarding, the real-time buffer, the Watch,
contact, Lantern, handover and drill (12_partner_mirroring). The value after `:=` is the value at reset. -/

namespace Sys2Proof.Machine

/-- Mirror set states (R437, Table 12-5). -/
inductive SetState where
  | pairing | active | activeSync | activeSingle | standby | standbySync | standbyFrozen | handing
  deriving DecidableEq, Repr

/-- Code of a set state (Table 12-5). -/
def SetState.code : SetState → Nat
  | .pairing => 0 | .active => 1 | .activeSync => 2 | .activeSingle => 3 | .standby => 4
  | .standbySync => 5 | .standbyFrozen => 6 | .handing => 7

/-- The decoding states (Table 12-5). -/
def SetState.decodes : SetState → Bool
  | .active | .activeSync | .activeSingle => true
  | _ => false

/-- The states in which Single is set (Table 12-5). -/
def SetState.single : SetState → Bool
  | .activeSync | .activeSingle => true
  | _ => false

/-- A beat that waits to be forwarded (R443, R446). -/
structure FwdBeat where
  set : Nat
  wseq : Nat
  w : BeatWrite
  /-- Carried by resynchronisation (R462). -/
  resync : Bool
  /-- Host tag whose write it forwards, none for a resynchronisation beat. -/
  hostTag : Option Nat
  /-- Almanac time of the acceptance. -/
  at_ : Nat
  deriving DecidableEq, Repr

/-- A poison record of a WATCH (Table 12-7): DPA, OP (1 inject, 2 clear, 3 media error), LEN (0 beat, 1 tile). -/
structure WatchPoison where
  dpa : Nat
  op : Nat
  len : Nat
  deriving DecidableEq, Repr

/-- A Suite record of a WATCH (Table 12-7). -/
structure WatchSuite where
  id : Nat
  flags : Nat
  dirty : Nat
  deriving DecidableEq, Repr

/-- A WATCH message (Table 12-7). -/
structure Watch where
  no : Nat
  almanac : Nat
  ceil : Nat
  dirtyTotal : Nat
  flags : Nat
  set : Nat
  suites : List WatchSuite
  poison : List WatchPoison
  deriving DecidableEq, Repr

/-- Why a ROLE record is being programmed: what follows when it has passed (R439). -/
inductive RoleNext where
  /-- Contact: take the active role and resynchronise the standby (R440). -/
  | authority
  /-- No contact: become ACTIVE_SINGLE (R440). -/
  | single
  /-- A promotion (R459). -/
  | promotion
  /-- Handover step 3: give up the role, send HANDOVER (R464). -/
  | handOut (last : Nat)
  /-- Handover step 4: take the role, send TAKEN (R464). -/
  | handIn
  /-- Contact: the other side is the authority (R440). -/
  | standby
  deriving DecidableEq, Repr

/-- A ROLE record on its way into Meta (R439). -/
structure RoleRun where
  role : Nat
  epoch : Nat
  next : RoleNext
  deriving DecidableEq, Repr

/-- A drill in progress (R469). -/
structure DrillRun where
  phase : Nat
  /-- Almanac time at which the phase began. -/
  phaseAt : Nat
  dwellS : Nat
  /-- Phase 1: the standby has reported STUCK in time, and ABANDON in time. -/
  stuckOk : Bool := false
  abandonOk : Bool := false
  deriving DecidableEq, Repr

/-- The result of the last drill (Table 12-14). -/
structure DrillResult where
  outcome : Nat := 0
  phase : Nat := 0
  lanternUs : Nat := 0
  takeUs : Nat := 0
  returnUs : Nat := 0
  endAt : Nat := 0
  deriving DecidableEq, Repr

/-- One mirror set (R437 to R470). -/
structure MirrorSet where
  st : SetState := .pairing
  /-- PLK_SET_STATE.PARTED, .ABANDON_SEEN, .DRIFT_VALID. -/
  parted : Bool := false
  abandonSeen : Bool := false
  driftValid : Bool := false
  /-- EPOCH of this part's newest ROLE record and its ROLE: 0 none, 1 active, 2 standby (R439). -/
  epoch : Nat := 0
  role : Nat := 0
  /-- Highest EPOCH seen from the partner (R459). -/
  epochSeen : Nat := 0
  /-- Partner's HELLO: its HOME bit; none before a HELLO (R442). -/
  peerHome : Option Bool := none
  /-- Home conflict raised (R442). -/
  homeConflict : Bool := false
  /-- A HELLO settled the pairing with equal descriptors (R432). -/
  paired : Bool := false
  /-- Next WSEQ to give (active), highest WSEQ acknowledged (active). -/
  wseq : Nat := 0
  acked : Nat := 0
  /-- Highest WSEQ entered (standby, R445); `synced` once the first beat since the pairing has given its base. -/
  entered : Nat := 0
  synced : Bool := false
  /-- Drift map: Rooms (R460). -/
  drift : List Nat := []
  /-- Tiles in scope not yet compared or copied, ascending (R461). -/
  resync : List Nat := []
  /-- Tiles whose digest has been sent and not answered, tiles whose DIFF waits to be copied (R461). -/
  digestSent : List Nat := []
  diffs : List Nat := []
  /-- The tile that is being copied (R462). -/
  copying : Option Nat := none
  /-- WSEQ of the last RESYNC beat (R463). -/
  lastResync : Option Nat := none
  /-- Writes accepted while ACTIVE_SINGLE (R441). -/
  singleWrites : Nat := 0
  /-- Last Watch sent or stored, and Watches without a WATCH_ACK (R448, R449). -/
  watch : Option Watch := none
  watchMissed : Nat := 0
  /-- Suite records of the last Watch that the standby acknowledged (R448). -/
  suitesAcked : List WatchSuite := []
  /-- Poison records that wait for the next Watch (R448). -/
  watchPoison : List WatchPoison := []
  /-- Scheduled handover: Almanac time of its boundary (R465). -/
  handAt : Option Nat := none
  /-- Boundary of the handover in progress (R464, R469). -/
  boundary : Nat := 0
  /-- HANDING, its step 3 has been taken (R464, R467). -/
  handStep3 : Bool := false
  /-- EPOCH and last WSEQ named by a received HANDOVER (R464). -/
  handIn : Option (Nat × Nat) := none
  /-- ROLE and EPOCH of the partner, by a HELLO that came while a ROLE record was being programmed: the roles are settled after it (R440). -/
  settleDue : Option (Nat × Nat) := none
  /-- A ROLE record is being programmed. -/
  roleRun : Option RoleRun := none
  /-- A promotion is in progress (R459, R471). -/
  promoting : Bool := false
  drill : Option DrillRun := none
  drillResult : DrillResult := {}
  /-- Standby side of phase 1 of a drill: judging the Lantern (R469). -/
  drillJudge : Bool := false
  deriving DecidableEq, Repr

/-- LANTERN_IN readings (R455). -/
inductive Lantern where
  | toggling | stuck | abandon
  deriving DecidableEq, Repr

/-- Code of a reading (Table 12-13). -/
def Lantern.code : Lantern → Nat
  | .toggling => 0 | .stuck => 1 | .abandon => 2

/-- A beat of the partner real-time buffer (R445): its set, whether it is a RESYNC write, and its place as a request of the
real-time port (04_dram R132, R134). -/
structure RtBeat where
  set : Nat
  w : BeatWrite
  resync : Bool
  /-- Order of issue among all requests of the DRC. -/
  seq : Nat
  /-- Order in which it took its entry of the pool; none while it waits in the buffer. -/
  entered : Option Nat
  deriving DecidableEq, Repr

/-- The partner link PLK (12_partner_mirroring). -/
structure Plk where
  /-- PLK_LINK.REV, .CONTACT, .PARTNER, .PEER_STATE, .RETRAINS. -/
  rev : Nat := 0
  contact : Bool := false
  partner : Nat := 0
  peerState : Nat := 0
  retrains : Nat := 0
  /-- Unit identity of the partner (R440). -/
  peerId : List Byte := []
  /-- PLK_CTL.CAP_GBPS, .RESYNC_GBPS, .HOME_NOTICE_MS, .PAIR_WAIT_MS. -/
  capGbps : Nat := 50
  resyncGbps : Nat := 20
  homeNotice : Nat := 100
  pairWait : Nat := 200
  /-- PLK_LANTERN.IN, .OUT_ABANDON, .STUCK_COUNT. -/
  lanternIn : Lantern := .stuck
  /-- LANTERN_IN has been classified since boot (R455). -/
  lanternRead : Bool := false
  outAbandon : Bool := false
  stuckCount : Nat := 0
  /-- PLK_HB.MISSED, .LOSSES; counter and time of the last valid heartbeat (R450, R451). -/
  hbMissed : Nat := 0
  losses : Nat := 0
  hbLast : Option Nat := none
  hbAt : Nat := 0
  /-- This part's heartbeat counter (R450). -/
  hbCount : Nat := 0
  /-- PLK_FWD.ACK_MAX_US. -/
  ackMaxUs : Nat := 0
  /-- Beats that wait to be sent, in acceptance order (R443); beats sent and not acknowledged. -/
  fwd : List FwdBeat := []
  sent : List FwdBeat := []
  /-- Credits held for sending: in-step and RESYNC beats (R436). -/
  credits : Nat := 0
  resyncCredits : Nat := 0
  /-- Credits granted to the partner and not used (R436). -/
  granted : Nat := 0
  resyncGranted : Nat := 0
  /-- Partner real-time buffer: beats not yet drained by the DRC, with their set (R140, R445). -/
  rt : List RtBeat := []
  /-- Flits: last FSEQ sent, last FSEQ received in order, replays of one flit (R435). -/
  fseq : Nat := 0
  rack : Nat := 0
  replays : Nat := 0
  retraining : Bool := false
  /-- Almanac time at which the retrain began (R435). -/
  retrainAt : Nat := 0
  /-- A revision mismatch waits for its retry since this time (R431). -/
  revMismatchAt : Option Nat := none
  /-- Mirror sets. -/
  sets : Vector MirrorSet 4 := Vector.replicate 4 {}
  /-- Resync watch: tiles (R462). -/
  watches : List Nat := []
  /-- Number of the last Watch sent (R448). -/
  watchNo : Nat := 0
  /-- PARTING sent since the Fence (R452). -/
  partingSent : Bool := false
  deriving DecidableEq, Repr

end Sys2Proof.Machine
end

