-- ==== Sys2Proof/Syntax.lean ====
section
/-! DEFINITION. The commands of the block: one constructor for each row of spec/opcode_table.json, in the
table's order. The table gives the rows no operand fields, so the operands are the model's own (assumption 2):
what reaches the part from outside with the command, or the outcome of an analogue operation that the command
reports. -/

namespace Sys2Proof

/-- What the Meta read of a boot finds wrong: dies whose identity differs from the fused record (19_almanac_log_identity R666),
save headers by SAVE_ID and service-open records by OPEN_ID (08_startup_restore R293), checkpoints by CKPT_SEQ (09_cellar R342). -/
structure MetaBad where
  dies : List Nat := []
  headers : List Nat := []
  opens : List Nat := []
  ckpts : List Nat := []
  deriving DecidableEq, Repr

/-- What resets the host link (03_host_link R118). -/
inductive LinkResetKind where
  | perst | hot | linkDown
  deriving DecidableEq, Repr

/-- What an inserted pack answers to VERSION, SERIAL, CLASS and METHOD; none where it does not acknowledge
(10_energy_pack R380, R382). -/
structure PackReply where
  version : Option Nat
  serial : Option (List Byte)
  cls : Option Nat
  method : Option Nat
  deriving DecidableEq, Repr

/-- What a HELLO says of one mirror set (12_partner_mirroring Table 12-3), and whether the partner has booted since the set
was last in step, as its heartbeats showed (R460). -/
structure PeerSet where
  desc : List Byte
  home : Bool
  role : Nat
  epoch : Nat
  booted : Bool
  deriving DecidableEq, Repr

/-- One window write of an Attic command: its offset in the bank and its value (14_attic R509). -/
structure AtticCycle where
  ofs : Nat
  value : Nat
  deriving DecidableEq, Repr

/-- What receives a fabric transfer with a parity error, with what the transfer carried (15_onchip_integrity Table 15-4). -/
inductive ParityReceiver where
  /-- An SRAM write of bytes from an address; `bad` marks the failing bytes. -/
  | sram (data : List Byte) (bad : Byte)
  /-- A read response to a requester; the beat that it carries, if one. -/
  | response (requester : Nat) (beat : Option Nat)
  /-- A write beat to the DRC. -/
  | drc (beat : Nat) (data : List Byte) (enables : BitVec 64)
  /-- A beat of a tile from staging to the encoder. -/
  | cel (beat : Nat)
  /-- A write to a block's registers. -/
  | register
  /-- A command cycle or program data of an Attic bank. -/
  | attic (bank : Nat)
  deriving DecidableEq, Repr

/-- What a scrubber's read of an SRAM word finds (15_onchip_integrity R542). -/
inductive ScrubFinding where
  | clean | corrected | uncorrectable
  deriving DecidableEq, Repr

/-- What a calibration that a command runs comes to (04_dram R131): whether its result lies within the trained window, and the
read-gate fine delay that a DQS oscillator read gives. -/
structure CalOutcome where
  ok : Bool
  fine : Byte
  deriving DecidableEq, Repr

/-- A command of the block. -/
inductive Instr where
  /-- P12V_BELOW_THRESHOLD (07_fence_save R247): The NRG comparator sees P12V fall below the Fence threshold,
      closes the Fence with cause 0x07 and drives MUSTER_OUT_N. -/
  | p12vBelowThreshold
  /-- P12V_VALID (07_fence_save R249): P12V has stayed above the threshold plus 0.3 V for 10 ms; this starts
      BOOT, returns the power path to MAINS, or takes SAVED to BOOT. -/
  | p12vValid (aux : Bool)
  /-- MUSTER_IN_LOW (07_fence_save R255): A filtered low level on an enabled MUSTER_IN_N closes the Fence with
      cause 0x08, or ends a restore into SAVED. -/
  | musterInLow (highAfter : Option Nat)
  /-- PERST_N_DEASSERT (01_architecture R34): PERST_N is deasserted with P12V valid, which takes OFF or SAVED
      to BOOT. -/
  | perstNDeassert
  /-- HOST_LINK_RESET (03_host_link R118): Assertion of PERST_N, a hot reset or a link-down resets only the
      host link and drops unaccepted requests. -/
  | hostLinkReset (kind : LinkResetKind)
  /-- HOST_LINK_TRAINED (03_host_link R81): The host link trains to the best version, rate and width, and sets
      DEGRADED with event 0x0010 when narrower or slower. -/
  | hostLinkTrained (vers : Nat) (rates : Nat) (widths : Nat) (answers : Bool) (msixEnable : Bool) (msixMask : Word)
  /-- DRYDOCK_POWER_REMOVED (01_architecture R39): Power is removed in DRYDOCK and the part goes to OFF. -/
  | drydockPowerRemoved
  /-- BAD_ACCESS (00_scope R14): A Control Block or BAR2 access of wrong size, alignment or an unoccupied
      offset reads all ones, ignores writes and raises a Notify at HST. -/
  | badAccess (bar2 : Bool) (offset : Nat) (size : Nat) (write : Bool)
  /-- REGISTER_WRITE (00_scope R16): A write to a register field with no row of its own takes effect by its
      access code, or is ignored with BAD_WRITE when out of range. -/
  | registerWrite (bar2 : Bool) (offset : Nat) (value : Word)
  /-- REG_PAIR_LO_READ (00_scope R17): A read of a _LO register captures _HI into its holding copy. -/
  | regPairLoRead (bar2 : Bool) (offset : Nat)
  /-- REG_PAIR_HI_WRITE (00_scope R17): A write to a _HI register makes the held _LO value and _HI take effect
      as one 64-bit value. -/
  | regPairHiWrite (offset : Nat) (lo : Word) (hi : Word)
  /-- HOST_WRITE_REQUEST (03_host_link R95): A host write request takes a host tracker entry, or waits for
      credits, and is discarded if undecoded or read-only. -/
  | hostWriteRequest (tag : Nat) (hpa : Nat) (data : List Byte) (enables : Dword) (poison : Bool) (parityBad : Bool)
  /-- CLAIM_PRESENT (06_stowing_ceiling R231): A write to a Clean tile of a saved class presents a claim,
      which STW grants, stalls or sends to exposure. -/
  | claimPresent (tag : Nat)
  /-- HOST_WRITE_ACCEPT (03_host_link R88): On the HCLK edge at which all conditions hold, the write is
      accepted, reaches its tile and is queued for forwarding. -/
  | hostWriteAccept (tag : Nat)
  /-- HOST_READ (03_host_link R93): A host read returns the last write accepted before its entry was
      allocated, poisoned if the beat is poisoned or undecoded. -/
  | hostRead (tag : Nat) (hpa : Nat)
  /-- VOLATILE_FILL_DONE (05_rooms_suites_chart R191): The zero fill of an Unwritten volatile tile ends, the
      tile becomes Live and the held write proceeds. -/
  | volatileFillDone (tile : Nat)
  /-- DISCARD_WINDOW_END (03_host_link R90): At the end of each 1 ms Almanac window with discards, event
      0x0004 is logged for each reason. -/
  | discardWindowEnd
  /-- GPF_PHASE1 (03_host_link R97): The part answers GPF phase 1 at once. -/
  | gpfPhase1
  /-- GPF_PHASE2 (03_host_link R98): A GPF phase 2 request waits for earlier writes to be accepted or
      discarded and drained. -/
  | gpfPhase2
  /-- GPF_PHASE2_DRAINED (03_host_link R98): Once the flush has drained, the part responds and increments
      PH2_COUNT. -/
  | gpfPhase2Drained
  /-- IDE_KEY_PROGRAM (03_host_link R115): An IDE key management message over DOE programs keys and sets
      IDE_ACTIVE once both streams are secure. -/
  | ideKeyProgram (ioSecure : Bool) (memSecure : Bool)
  /-- IDE_INTEGRITY_FAILURE (03_host_link R116): An IDE check failure rejects the flit's writes, makes streams
      insecure, logs 0x0015 and poisons reads until rekey. -/
  | ideIntegrityFailure (stream : Nat)
  /-- IDENTIFY (03_host_link R106): Mailbox command 0x0001 returns device identity. -/
  | identify
  /-- BACKGROUND_OPERATION_STATUS (03_host_link R106): Mailbox command 0x0002 returns the status of the
      background command. -/
  | backgroundOperationStatus
  /-- GET_EVENT_RECORDS (03_host_link R111): Mailbox command 0x0100 returns records of an event log. -/
  | getEventRecords (log : Nat)
  /-- CLEAR_EVENT_RECORDS (03_host_link R111): Mailbox command 0x0101 clears records of an event log. -/
  | clearEventRecords (log : Nat) (all : Bool) (handles : List Nat)
  /-- GET_EVENT_INTERRUPT_POLICY (03_host_link R114): Mailbox command 0x0102 returns the event log interrupt
      policy. -/
  | getEventInterruptPolicy
  /-- SET_EVENT_INTERRUPT_POLICY (03_host_link R114): Mailbox command 0x0103 enables log interrupts and may
      move log vectors within 1 to 15. -/
  | setEventInterruptPolicy (settings : List Nat)
  /-- GET_FW_INFO (03_host_link R106): Mailbox command 0x0200 reports both Attic slots read-only. -/
  | getFwInfo
  /-- TRANSFER_FW (03_host_link R80): Mailbox command 0x0201 returns Unsupported. -/
  | transferFw
  /-- ACTIVATE_FW (03_host_link R80): Mailbox command 0x0202 returns Unsupported. -/
  | activateFw
  /-- GET_TIMESTAMP (19_almanac_log_identity R652): Mailbox command 0x0300 returns the host calendar, or 0
      when CAL_VALID is clear. -/
  | getTimestamp
  /-- SET_TIMESTAMP (19_almanac_log_identity R652): Mailbox command 0x0301 sets OFFSET and CAL_VALID and logs
      CAL_STEP for a step above 1 s. -/
  | setTimestamp (ns : Nat)
  /-- GET_SUPPORTED_LOGS (03_host_link R106): Mailbox command 0x0400 lists the Command Effects Log. -/
  | getSupportedLogs
  /-- GET_LOG (03_host_link R106): Mailbox command 0x0401 returns the Command Effects Log. -/
  | getLog (ofs : Nat) (len : Nat)
  /-- IDENTIFY_MEMORY_DEVICE (03_host_link R86): Mailbox command 0x4000 reports the capacities V_R and P_R,
      the LSA and the poison list size. -/
  | identifyMemoryDevice
  /-- GET_PARTITION_INFO (03_host_link R86): Mailbox command 0x4100 reports partition alignment 0. -/
  | getPartitionInfo
  /-- SET_PARTITION_INFO (03_host_link R106): Mailbox command 0x4101 returns Unsupported. -/
  | setPartitionInfo
  /-- GET_LSA (03_host_link R106): Mailbox command 0x4102 reads the Label Storage Area in 8 B multiples. -/
  | getLsa (ofs : Nat) (len : Nat) (ok : Bool)
  /-- SET_LSA (03_host_link R105): Mailbox command 0x4103 writes the Label Storage Area in the Attic. -/
  | setLsa (ofs : Nat) (data : List Byte)
  /-- GET_HEALTH_INFO (03_host_link R105): Mailbox command 0x4200 returns the health fields of Table 03-3. -/
  | getHealthInfo
  /-- GET_ALERT_CONFIGURATION (03_host_link R106): Mailbox command 0x4201 returns the alert configuration. -/
  | getAlertConfiguration
  /-- SET_ALERT_CONFIGURATION (03_host_link R106): Mailbox command 0x4202 sets alerts on life used,
      temperature and corrected counts. -/
  | setAlertConfiguration (cfg : List Nat)
  /-- GET_SHUTDOWN_STATE (03_host_link R100): Mailbox command 0x4203 returns the shutdown state last set. -/
  | getShutdownState
  /-- SET_SHUTDOWN_STATE (03_host_link R100): Mailbox command 0x4204 sets the shutdown state used by case 3 of
      the dirty shutdown rule. -/
  | setShutdownState (dirty : Bool)
  /-- GET_POISON_LIST (03_host_link R103): Mailbox command 0x4300 returns the poison list entries with lengths
      and sources. -/
  | getPoisonList (dpa : Nat) (len : Nat)
  /-- INJECT_POISON (03_host_link R101): Mailbox command 0x4301 poisons a decoded beat as a write event
      without stall. -/
  | injectPoison (dpa : Nat)
  /-- CLEAR_POISON (05_rooms_suites_chart R190): Mailbox command 0x4302 writes data as a full-beat host write
      that clears poison. -/
  | clearPoison (dpa : Nat) (data : List Byte)
  /-- GET_SCAN_MEDIA_CAPABILITIES (03_host_link R106): Mailbox command 0x4303 returns Scan Media capabilities. -/
  | getScanMediaCapabilities
  /-- SCAN_MEDIA (04_dram R164): Mailbox command 0x4304 starts the DRAM patrol at full rate from the start of
      the DPA space. -/
  | scanMedia
  /-- SCAN_MEDIA_COMPLETE (03_host_link R103): Scan Media ends, rebuilds the poison list, clears overflow and
      clean Room summaries, and returns the patrol to its paced position. -/
  | scanMediaComplete
  /-- GET_SCAN_MEDIA_RESULTS (03_host_link R106): Mailbox command 0x4305 returns Scan Media results. -/
  | getScanMediaResults
  /-- SANITIZE (03_host_link R107): Mailbox command 0x4400 programs the pending mark and starts erasing the
      Cellar, Vestibule and Meta and zeroing DRAM. -/
  | sanitize
  /-- SECURE_ERASE (03_host_link R107): Mailbox command 0x4401 programs the pending mark, replaces every key
      slot, invalidates Room maps and zeroes DRAM. -/
  | secureErase
  /-- SANITIZE_COMPLETE (05_rooms_suites_chart R205): Sanitize or Secure Erase completes, resets the Chart,
      tile state and poison, sets SANITIZED and clears the pending mark. -/
  | sanitizeComplete
  /-- PENDING_SANITIZE_REPLAY (03_host_link R709): At boot a pending Sanitize or Secure Erase mark is found
      and the command is carried out from its start before the restore decision. -/
  | pendingSanitizeReplay
  /-- MAILBOX_UNSUPPORTED (03_host_link R108): A standard or vendor opcode that is not listed returns
      Unsupported. -/
  | mailboxUnsupported (opcode : Nat)
  /-- GET_VENDOR_IDENTITY (03_host_link R109): Vendor command 0xC000 returns the command-set version,
      stepping, variant, grade, image versions and unit identity. -/
  | getVendorIdentity
  /-- GET_PERSISTENCE_STATUS (03_host_link R108): Vendor command 0xC001 returns state, flags, ceiling, dirty
      tiles and save estimate. -/
  | getPersistenceStatus
  /-- GET_SUITE_STATUS (03_host_link R109): Vendor command 0xC002 returns status records of a range of Suite
      IDs. -/
  | getSuiteStatus (first : Nat) (count : Nat)
  /-- HARBOUR_ACKNOWLEDGE (16_fault_stations R575): Vendor command 0xC003 acknowledges Safe Harbour as
      DEV_HARBOUR_ACK does. -/
  | harbourAcknowledge
  /-- SET_ENERGY_GRANT (03_host_link R110): Vendor command 0xC010 accepts a grant with a higher SEQ in grant
      mode and triggers the Reckoning. -/
  | setEnergyGrant (joules : Nat) (validS : Nat) (seq : Nat)
  /-- GRANT_LAPSE (11_gauge_reckoning R422): A grant's VALID_S expires, no grant is in force, GRANT_LAPSE is
      raised and the Reckoning runs. -/
  | grantLapse
  /-- GET_RECKONING (11_gauge_reckoning R426): Vendor command 0xC011 returns the results of the last Reckoning
      run. -/
  | getReckoning
  /-- GET_LAST_SAVE_REPORT (03_host_link R108): Vendor command 0xC020 returns the report of the last save. -/
  | getLastSaveReport
  /-- GET_RESTORED_POISON_TILES (08_startup_restore R316): Vendor command 0xC021 returns roster entries from
      START. -/
  | getRestoredPoisonTiles (start : Nat)
  /-- GET_LIFETIME_COUNTERS (19_almanac_log_identity R660): Vendor command 0xC030 returns the lifetime
      counters. -/
  | getLifetimeCounters
  /-- GET_MIRROR_STATUS (12_partner_mirroring R471): Vendor command 0xC050 returns link and per-set mirror
      status. -/
  | getMirrorStatus
  /-- PROMOTE (12_partner_mirroring R458): Vendor command 0xC051 schedules a handover, promotes at once or
      returns Invalid Input by set state and FORCE. -/
  | promote (set : Nat) (force : Bool)
  /-- HANDOVER (12_partner_mirroring R465): Vendor command 0xC052 schedules a handover on the active after
      NOTICE_MS. -/
  | handover (set : Nat) (noticeMs : Nat)
  /-- DRILL (12_partner_mirroring R469): Vendor command 0xC053 starts the drill phases for one set on the
      active. -/
  | drill (set : Nat) (dwellS : Nat)
  /-- GET_DRILL_RESULT (12_partner_mirroring R471): Vendor command 0xC054 returns the drill outcome and
      timings. -/
  | getDrillResult (set : Nat)
  /-- TRAINING_ATTEMPT_END (04_dram R126): A subchannel training attempt passes or fails; a failure retries
      from the next record or excludes the subchannel after three. -/
  | trainingAttemptEnd (sc : Nat) (pass : Bool) (record : List Byte)
  /-- ZQ_CAL_DUE (04_dram R130): The ZQ period expires and ZQ calibration runs, or is deferred while the
      real-time port is urgent or panic. -/
  | zqCalDue (sc : Nat) (ok : Bool)
  /-- DQS_OSC_DUE (04_dram R130): The DQS oscillator period expires and the read gate is adjusted. -/
  | dqsOscDue (sc : Nat) (fine : Byte) (ok : Bool)
  /-- CAL_DEFER_EXPIRE (04_dram R131): A deferred calibration waits DEFER_MS and then runs as a forced class-1
      item. -/
  | calDeferExpire (sc : Nat) (kind : Nat)
  /-- DRC_PICK (04_dram R137): In each command slot the DRC issues one command chosen by the priority classes
      and the rotating pick. -/
  | drcPick (sc : Nat) (cal : CalOutcome)
  /-- REFRESH_TICK (04_dram R144): At each refresh tick the DRC issues due, forced, catch-up or pulled-in
      same-bank refreshes. -/
  | refreshTick (sc : Nat) (elapsedNs : Nat)
  /-- MR4_READ (04_dram R146): The MR4 period expires; the DRC reads MR4 and changes refresh rate, starts
      catch-up, recentres, or raises TEMP_HIGH. -/
  | mr4Read (sc : Nat) (rank : Nat) (band : Nat) (twox : Bool) (high : Bool) (ok : Bool)
  /-- SELF_REFRESH_IDLE (04_dram R152): A subchannel idle for IDLE_US completes its requests and refreshes and
      enters self-refresh. -/
  | selfRefreshIdle (sc : Nat)
  /-- SELF_REFRESH_EXIT (04_dram R153): A request, a Fence or Warm Return takes a subchannel out of
      self-refresh with a recheck within 5 µs. -/
  | selfRefreshExit (sc : Nat) (ok : Bool)
  /-- DRAM_READ_RETURN (04_dram R157): A DRAM read is decoded as clean, poisoned, corrected or uncorrectable. -/
  | dramReadReturn (beat : Nat) (mstr : Nat) (errors : List (Nat × Byte))
  /-- PATROL_READ (04_dram R162): The paced patrol reads the next beat and writes back a corrected beat when
      REPAIR is 1. -/
  | patrolRead (errors : List (Nat × Byte))
  /-- PATROL_PASS_END (04_dram R164): A patrol pass ends, sets LATE when over 10 % late and restarts the
      correction counts. -/
  | patrolPassEnd
  /-- CHART_ENTRY_UE (05_rooms_suites_chart R182): An uncorrectable Chart entry is rebuilt, its tiles made
      Dirty, MAP_STALE set and a Room-map re-read started. -/
  | chartEntryUe (room : Nat)
  /-- MAP_REREAD_DONE (05_rooms_suites_chart R182): The Room-map re-read passes, finds no record or fails,
      restoring MAP_PTR and clearing MAP_STALE. -/
  | mapRereadDone (room : Nat) (pass : Bool)
  /-- TILE_STATE_UE (05_rooms_suites_chart R193): An uncorrectable tile-state byte makes its saved tiles
      Dirty, refills volatile tiles poisoned and raises TSTATE_UE. -/
  | tileStateUe (byte : Nat)
  /-- CHT_ROOM_SEL_WRITE (05_rooms_suites_chart R206): A write to CHT_ROOM_SEL snapshots the Room's Chart
      entry and tile states in one cycle. -/
  | chtRoomSelWrite (value : Word)
  /-- SUITE_CONTEXT_UE (05_rooms_suites_chart R208): An uncorrectable Suite context is reloaded and recounted,
      ARMED cleared and CTX_UE raised. -/
  | suiteContextUe (suite : Nat)
  /-- SWEEP_VISIT (06_stowing_ceiling R222): The paced sweep visits a Room, clears Touched and enqueues quiet
      Dirty tiles as candidates. -/
  | sweepVisit
  /-- STOW_START (06_stowing_ceiling R224): STW takes a candidate when conditions allow, moves it Dirty to
      Stowing and takes one tile from the bucket. -/
  | stowStart
  /-- PAD_TIMEOUT (09_cellar R331): The oldest tile in a die's latches has waited PAD_US and the wordline is
      programmed with filler pages. -/
  | padTimeout (die : Nat)
  /-- NAND_PROGRAM_DONE (09_cellar R330): A Cellar or half program ends with pass or fail status; a failure
      retires the block. -/
  | nandProgramDone (die : Nat) (us : Nat) (pass : Bool)
  /-- ROOM_MAP_BUILD (09_cellar R340): CEL builds and issues a Room's next record for the copies that wait,
      within 1 ms of the first. -/
  | roomMapBuild (room : Nat)
  /-- JOURNAL_PAGE_ISSUE (09_cellar R339): A journal page program is issued when 16 records wait or the oldest
      has waited 100 µs. -/
  | journalPageIssue
  /-- META_PROGRAM_DONE (09_cellar R337): Both copies of a Meta page have ended, which resolves condition (c)
      for its records. -/
  | metaProgramDone (page : Nat) (us : Nat) (passA : Bool) (passB : Bool)
  /-- STOW_COMPLETION (06_stowing_ceiling R217): The port applies a stow completion to every tile the record
      confirms and brings the record into force. -/
  | stowCompletion (room : Nat)
  /-- STALL_REEVALUATE (06_stowing_ceiling R233): At a count decrease, ceiling or quota change or tile leaving
      Clean, stalled claims are granted by priority. -/
  | stallReevaluate
  /-- STALL_BOUND (06_stowing_ceiling R234): A stalled claim reaches STALL_US and is granted under the
      exposure policy. -/
  | stallBound (index : Nat)
  /-- STALL_EVENT_WINDOW (06_stowing_ceiling R234): At the end of a 1 ms window in which claims reached their
      bound, event 0x0012 is logged. -/
  | stallEventWindow
  /-- WEAR_ACCRUAL_TICK (06_stowing_ceiling R241): Each second the accrual is added to the Wear Allowance
      bucket, capped at 30 days. -/
  | wearAccrualTick
  /-- COUNTER_STORE (19_almanac_log_identity R661): Each hour the lifetime counters and the bucket value are
      written to the Attic. -/
  | counterStore
  /-- WEAR_PROJECTION (06_stowing_ceiling R244): The daily comparison of endurance used with service life
      elapsed sets or clears SHORT. -/
  | wearProjection
  /-- STAGGER_ELAPSED (07_fence_save R258): The stagger delay from the Fence expires. -/
  | staggerElapsed
  /-- DRAIN_COMPLETE (06_stowing_ceiling R212): Every accepted write and buffered partner beat is in DRAM and
      its write event applied. -/
  | drainComplete
  /-- SAVING_ENTRY (07_fence_save R253): At the later of drain and stagger the part enters SAVING, makes
      Stowing and Voided tiles Dirty and chooses the half. -/
  | savingEntry
  /-- SAVE_HEADER_DONE (07_fence_save R266): The save header has been programmed and the list pass begins. -/
  | saveHeaderDone
  /-- SAVE_TILE_READ (07_fence_save R270): The Keeper reads a listed tile from DRAM, encrypts it and issues
      its program at the target rate. -/
  | saveTileRead
  /-- SAVE_TILE_DONE (07_fence_save R271): A save tile program ends; a failure skips the slot and a full half
      raises HALF_FULL. -/
  | saveTileDone (index : Nat) (us : Nat) (pass : Bool)
  /-- SAVE_RATE_TICK (07_fence_save R279): Every 100 µs the Keeper adjusts the save rate from pack current and
      voltage. -/
  | saveRateTick (packMa : Int) (packMv : Nat)
  /-- PACK_EXHAUSTED (07_fence_save R281): The pack is exhausted; the Keeper stops issuing programs and the
      part enters OFF with cause 0x11. -/
  | packExhausted
  /-- VBUS_LOW_TIMEOUT (07_fence_save R281): VBUS stays below 10.0 V for 100 µs at the floor rate on the pack,
      which is exhaustion. -/
  | vbusLowTimeout
  /-- KEEPER_BUS_ERROR (15_onchip_integrity R539): A bus error in SAVING stops the Keeper, turns the rails off
      and enters SAVED with cause 0x12. -/
  | keeperBusError (fromAttic : Bool)
  /-- SAVE_SEAL_DONE (07_fence_save R285): The Save Seal passes and the part enters WARM-RETURN or turns off
      the rails and enters SAVED. -/
  | saveSealDone (pass : Bool)
  /-- WARM_RETURN_COMPLETE (07_fence_save R286): All rechecks pass and the host link is up, so the part enters
      SERVICE and releases the sealed half. -/
  | warmReturnComplete
  /-- SERVICE_OPEN_PROGRAMMED (07_fence_save R265): The service-open record passes, after which host writes
      may be accepted. -/
  | serviceOpenProgrammed
  /-- HALF_ERASE_DONE (07_fence_save R263): The background erase of a RELEASED or PRECAUTION half ends and it
      becomes READY. -/
  | halfEraseDone (half : Half)
  /-- BOOT_IMAGE_CHECK (18_service_update R634): The boot ROM selects a CONFIRMED bank and checks the images,
      or enters DRYDOCK. -/
  | bootImageCheck (pass : Bool)
  /-- FLOOR_PLAN_LOAD (02_floor_plan R69): At boot the sealed slot of higher GENERATION is loaded and
      validated, falling back to the other slot or the default. -/
  | floorPlanLoad
  /-- RAILS_VALID (20_power_clocks_thermal R672): The DRAM rails reach tolerance in order and training begins. -/
  | railsValid
  /-- RAIL_UV (20_power_clocks_thermal R673): A rail below 95 % for 10 µs raises RAIL_UV. -/
  | railUv (rail : Nat) (foldback : Bool)
  /-- RAIL_LOST (20_power_clocks_thermal R673): A rail below 90 % for 1 ms raises RAIL_LOST at entry level
      Abandon. -/
  | railLost (rail : Nat)
  /-- META_READ_DONE (09_cellar R342): CEL loads the checkpoint, replays the journal, sets MAP_PTR, GEN and
      STOW_SEQ, and compares die identities. -/
  | metaReadDone (lostPages : List Nat) (lostKeys : List Nat) (bad : MetaBad)
  /-- RESTORE_DECISION (08_startup_restore R294): After training, Meta read and 10 ms of Muster high, SAV
      decides hold, fresh start, headerless restore or restore of S. -/
  | restoreDecision
  /-- ZERO_FILL_DONE (08_startup_restore R298): The fresh-start zero fill ends and the part enters SERVICE. -/
  | zeroFillDone
  /-- RESTORE_PRESET_DONE (08_startup_restore R305): Lists are read, copies located, the overlay index built
      and tile states preset. -/
  | restorePresetDone (badOwn : List Nat) (badBase : List Nat) (mapBad : Bool)
  /-- EARLY_TENANCY_ENTRY (08_startup_restore R310): With presets done and the service-open record programmed,
      the part enters TENANCY and sets Memory_Active. -/
  | earlyTenancyEntry
  /-- RESTORE_TILE_WRITTEN (08_startup_restore R299): A restore or demand-fetch tile write ends, releases held
      reads and ends the Room once all 64 tiles are written. -/
  | restoreTileWritten (tile : Nat) (halfBad : Bool) (imageBad : Bool)
  /-- FOLD_START (08_startup_restore R318): The Fold moves the next Dirty tile of the Fold set to Stowing at
      up to MAX_TPS. -/
  | foldStart
  /-- NAND_READ_DONE (09_cellar R334): A NAND read decodes after hard and soft tries over the threshold sets,
      or fails with READ_UE. -/
  | nandReadDone (part : Nat) (die : Nat) (block : Nat) (hard : List Nat) (soft : List Nat) (ok : Bool) (tile : Option Nat)
  /-- NAND_ERASE_DONE (09_cellar R350): A NAND erase ends; a failure retires the block to a Spare block. -/
  | nandEraseDone (part : Nat) (die : Nat) (block : Nat) (pass : Bool)
  /-- CHECKPOINT_DUE (09_cellar R341): After 65,536 records, before a journal erase or on entry to SERVICE, a
      checkpoint is programmed. -/
  | checkpointDue
  /-- JOURNAL_BLOCK_RECLAIM (09_cellar R344): Refresh records are written for Rooms in force in a journal
      block before it is erased. -/
  | journalBlockReclaim (die : Nat) (block : Nat)
  /-- GC_RECLAIM (09_cellar R347): A die short of free Cellar blocks relocates live copies from its emptiest
      block. -/
  | gcReclaim (die : Nat)
  /-- WEAR_LEVEL_MOVE (09_cellar R348): An erase-count spread above the limit relocates the block of lowest
      count. -/
  | wearLevelMove (part : Nat) (die : Nat)
  /-- NAND_PATROL_READ (09_cellar R352): The retention patrol reads pages and relocates or rescues as needed. -/
  | nandPatrolRead (part : Nat) (die : Nat) (block : Nat) (set : Nat) (soft : Bool) (bad : List Nat) (last : Bool)
  /-- PACK_REMOVED (10_energy_pack R376): An open or short on PACK_ID or a thermistor forces the ceiling to 0,
      stops the charger and raises PACK_REMOVED. -/
  | packRemoved (packId : Nat) (ohms : Nat) (th0 : Machine.Therm) (th1 : Machine.Therm)
  /-- PACK_INSERTED (10_energy_pack R377): Presence held 500 ms checks the code, starts authentication,
      matches the profile and starts a Reckoning. -/
  | packInserted (packId : Nat) (ohms : Nat) (th0 : Machine.Therm) (th1 : Machine.Therm) (atBoot : Bool) (reply : PackReply)
  /-- PACK_AUTH_POLL (10_energy_pack R382): Every 10 ms NRG polls STATUS and on response checks the signature
      or MAC, or times out at 500 ms. -/
  | packAuthPoll (status : Option Nat) (pubkey : List Byte) (resp : List Byte)
  /-- PACK_AUTH_RETRY (10_energy_pack R384): Every 10 minutes a failed authentication is retried. -/
  | packAuthRetry (reply : PackReply)
  /-- PACK_THERM_SAMPLE (10_energy_pack R373): The thermistors are sampled and the charger paused or resumed
      by temperature. -/
  | packThermSample (th0 : Machine.Therm) (th1 : Machine.Therm) (ohms : Nat)
  /-- PACK_MEASURE (10_energy_pack R374): Pack voltage and current are sampled, energy integrated and charger
      phases advanced. -/
  | packMeasure (packMv : Nat) (packMa : Int) (p12vMv : Nat) (limited : Bool)
  /-- PRECHARGE_TIMEOUT (10_energy_pack R387): A cell pack in precharge for 30 min stops charging and raises
      PRECHG_TIMEOUT. -/
  | prechargeTimeout
  /-- EXERCISE_DUE (10_energy_pack R389): An Exercise falls due at EXER_HOUR and starts when its conditions
      hold. -/
  | exerciseDue
  /-- EXERCISE_RETRY (10_energy_pack R390): An Exercise whose conditions failed is tried again each hour, up
      to 24 times, then SKIPPED. -/
  | exerciseRetry
  /-- EXERCISE_START (10_energy_pack R390): A write of NRG_EXER_CTL.START starts an Exercise under the same
      conditions. -/
  | exerciseStart
  /-- EXERCISE_ABORT (10_energy_pack R391): A write of NRG_EXER_CTL.ABORT ends a running Exercise. -/
  | exerciseAbort
  /-- EXERCISE_STOP_CHECK (10_energy_pack R391): Every 100 ms NRG checks the stop conditions and ends the
      Exercise back to MAINS. -/
  | exerciseStopCheck
  /-- RESISTANCE_PULSE (11_gauge_reckoning R411): The daily pulse draws 2 A from the pack for 200 ms and takes
      a resistance sample. -/
  | resistancePulse
  /-- PULSE_NOW (11_gauge_reckoning R411): A write of GAU_CTL.PULSE_NOW runs one resistance pulse. -/
  | pulseNow
  /-- GAUGE_REST_REFERENCE (11_gauge_reckoning R398): A rest held for the chemistry's rest time gives a
      reference and may yield a learning sample. -/
  | gaugeRestReference
  /-- FORCE_REF (11_gauge_reckoning R402): A write of GAU_CTL.FORCE_REF opens a rest window. -/
  | forceRef
  /-- REST_WINDOW_OPEN (11_gauge_reckoning R402): The Purser requests a rest hold in charger phase 4. -/
  | restWindowOpen
  /-- REST_WINDOW_TIMEOUT (11_gauge_reckoning R402): A rest window ends after 3 h without a qualifying rest. -/
  | restWindowTimeout
  /-- ESTIMATOR_STALE (11_gauge_reckoning R403): 72 h without a reference raise Estimator Stale and event
      0x000C. -/
  | estimatorStale
  /-- CAPACITY_DERATE (11_gauge_reckoning R410): After 90 days and each further 30 days without a sample, the
      learned capacity falls by 1 %. -/
  | capacityDerate
  /-- GAUGE_RECORD_STORE (11_gauge_reckoning R412): The Purser writes gauge and cost records to the Attic
      daily and on listed occasions. -/
  | gaugeRecordStore (pass : Bool)
  /-- RECKONING_RUN (11_gauge_reckoning R414): The Reckoning runs every 10 s or on a trigger and computes
      ceiling, FULL_OK and plan rate. -/
  | reckoningRun
  /-- RECKONING_PUBLISH (11_gauge_reckoning R420): At the end of a run the Purser writes the ceiling, FULL_OK
      and plan rate and logs 0x0005 on a large change. -/
  | reckoningPublish
  /-- REK_RUN (11_gauge_reckoning R414): A write of REK_CTL.RUN requests a Reckoning run. -/
  | rekRun
  /-- PACK_EOL_EVAL (11_gauge_reckoning R423): The daily end-of-life evaluation sets or clears EOL and the
      pack replace reason. -/
  | packEolEval
  /-- KL_TRAINED (12_partner_mirroring R431): The Kenene Link trains at the lower maximum revision, or raises
      REV_MISMATCH. -/
  | klTrained (peerMax : Nat) (peerMin : Nat)
  /-- REV_RETRY (12_partner_mirroring R431): After a revision mismatch the link retries every 10 s. -/
  | revRetry
  /-- HELLO_MESSAGE (12_partner_mirroring R440): A HELLO is received, descriptors are compared and the
      authority for each set is settled. -/
  | helloMessage (partner : Nat) (ident : List Byte) (peers : List PeerSet)
  /-- FLIT_RECEIVE (12_partner_mirroring R435): A flit is received and checked; failed or out-of-order flits
      are discarded and replayed. -/
  | flitReceive (crcOk : Bool) (fseq : Nat) (hbState : Nat) (hbCount : Option Nat)
  /-- LINK_RETRAIN_END (12_partner_mirroring R435): A retrain ends within 1 ms or the link is down, raising
      LINK_DOWN. -/
  | linkRetrainEnd (ok : Bool)
  /-- CREDIT_MESSAGE (12_partner_mirroring R436): A CREDIT message grants in-step and RESYNC beat credits. -/
  | creditMessage (inStep : Nat) (resync : Nat)
  /-- PARTNER_FORWARD_SEND (12_partner_mirroring R446): PLK sends forwarded beats in acceptance order, paced
      to the cap and gated by credits. -/
  | partnerForwardSend
  /-- PARTNER_WRITE_ENTRY (12_partner_mirroring R445): The standby enters a partner beat in the real-time
      buffer, which acknowledges it and is its write event. -/
  | partnerWriteEntry (set : Nat) (wseq : Nat) (beat : Nat) (data : List Byte) (enables : Dword) (poison : Bool) (resync : Bool)
  /-- ACK_MESSAGE (12_partner_mirroring R444): An ACK covering a WSEQ releases the waiting writes, which
      complete to the host. -/
  | ackMessage (set : Nat) (wseq : Nat)
  /-- WATCH_SEND (12_partner_mirroring R448): At each 1 ms Almanac boundary the active sends a WATCH for each
      in-step set. -/
  | watchSend
  /-- WATCH_MESSAGE (12_partner_mirroring R449): The standby applies poison records, stores the Watch and
      answers WATCH_ACK. -/
  | watchMessage (w : Machine.Watch)
  /-- WATCH_ACK_MESSAGE (12_partner_mirroring R449): A WATCH_ACK is received; three WATCHes without one raise
      WATCH_LATE. -/
  | watchAckMessage (no : Nat)
  /-- HEARTBEAT_SEND (12_partner_mirroring R450): PLK sends a heartbeat with the part state and counter at
      least every 10 µs. -/
  | heartbeatSend
  /-- CONTACT_TIMEOUT (12_partner_mirroring R451): No valid heartbeat for 100 µs loses contact and changes set
      states by Table 12-8. -/
  | contactTimeout
  /-- PARTING_MESSAGE (12_partner_mirroring R452): A PARTING is received; the standby enters its earlier beats
      and loses contact with PARTED set. -/
  | partingMessage (cause : Nat)
  /-- PAIR_WAIT_EXPIRE (12_partner_mirroring R440): PAIR_WAIT_MS passes without contact and the set becomes
      ACTIVE_SINGLE, STANDBY_FROZEN or stays PAIRING. -/
  | pairWaitExpire
  /-- ROLE_RECORD_PROGRAMMED (12_partner_mirroring R439): A ROLE record passes in Meta and the new role takes
      effect at one FCLK edge. -/
  | roleRecordProgrammed (set : Nat) (pass : Bool)
  /-- LANTERN_ABANDON (12_partner_mirroring R457): LANTERN_IN reads a steady low beyond 5 ms, promoting a
      frozen parted standby or setting ABANDON_SEEN. -/
  | lanternAbandon
  /-- LANTERN_STUCK (12_partner_mirroring R455): LANTERN_IN reads a steady high beyond 5 ms and raises
      LANTERN_STUCK. -/
  | lanternStuck
  /-- LANTERN_TOGGLING (12_partner_mirroring R455): An edge returns LANTERN_IN to TOGGLING. -/
  | lanternToggling
  /-- RESYNC_TILE_COPY (12_partner_mirroring R462): The active reads a tile under a resync watch and queues it
      as RESYNC beats. -/
  | resyncTileCopy (set : Nat) (equal : List Nat)
  /-- DIGEST_MESSAGE (12_partner_mirroring R461): The standby compares a tile digest and answers DIFF when its
      own differs. -/
  | digestMessage (tile : Nat) (digest : List Byte)
  /-- DIFF_MESSAGE (12_partner_mirroring R461): The active receives a DIFF and copies that tile. -/
  | diffMessage (tile : Nat)
  /-- HANDOVER_BOUNDARY (12_partner_mirroring R464): At the scheduled Watch boundary the active enters HANDING
      and waits for its ACKs. -/
  | handoverBoundary (set : Nat)
  /-- HANDOVER_MESSAGE (12_partner_mirroring R464): The standby checks WSEQ, programs ROLE active, enters
      ACTIVE and sends TAKEN. -/
  | handoverMessage (set : Nat) (epoch : Nat) (last : Nat)
  /-- TAKEN_MESSAGE (12_partner_mirroring R464): On TAKEN the former active enters STANDBY. -/
  | takenMessage (set : Nat) (epoch : Nat)
  /-- HOME_REQ_SEND (12_partner_mirroring R466): A Home part with a STANDBY set in SERVICE and AUTO_HOME sends
      HOME_REQ. -/
  | homeReqSend (set : Nat)
  /-- HOME_REQ_MESSAGE (12_partner_mirroring R465): A HOME_REQ schedules a Homecoming handover after
      HOME_NOTICE_MS. -/
  | homeReqMessage (set : Nat)
  /-- DRILL_MESSAGE (12_partner_mirroring R469): A DRILL message sets the standby to judge the Lantern phase. -/
  | drillMessage (set : Nat) (phase : Nat) (result : Nat)
  /-- DRILL_PHASE_END (12_partner_mirroring R469): A drill phase timer or dwell ends, passing to the next
      phase or failing with DRILL_FAIL. -/
  | drillPhaseEnd (set : Nat)
  /-- DMW_CH_TAIL_WRITE (13_dumbwaiter R476): A write of DMW_CH_TAIL makes descriptors up to TAIL ready for
      the part. -/
  | dmwChTailWrite (ch : Nat) (value : Word)
  /-- DMW_ENABLE (13_dumbwaiter R500): A write of DMW_CH_CTL.ENABLE takes a channel between OFF and RUN. -/
  | dmwEnable (ch : Nat) (value : Word)
  /-- DMW_PAUSE (13_dumbwaiter R491): A write of DMW_CH_CTL.PAUSE pre-empts the channel at its next step
      boundary. -/
  | dmwPause (ch : Nat)
  /-- DMW_RESUME (13_dumbwaiter R493): A write of DMW_CH_CTL.RESUME returns a PAUSED, HALTED or FENCED channel
      to RUN. -/
  | dmwResume (ch : Nat)
  /-- DMW_RESET (13_dumbwaiter R499): A write of DMW_CH_CTL.RESET ends the descriptor with ABORTED and puts
      the channel OFF. -/
  | dmwReset (ch : Nat)
  /-- DMW_COPY (13_dumbwaiter R480): A COPY descriptor starts, is translated and copies DRAM beats between
      Suites. -/
  | dmwCopy (ch : Nat)
  /-- DMW_FILL (13_dumbwaiter R479): A FILL descriptor starts and writes PATTERN over the destination. -/
  | dmwFill (ch : Nat)
  /-- DMW_STOW (13_dumbwaiter R497): A STOW descriptor starts and presents stow requests for each tile, or
      completes NOSTOW. -/
  | dmwStow (ch : Nat)
  /-- DMW_FETCH (13_dumbwaiter R488): A FETCH descriptor starts and writes confirmed images of source tiles
      into the destination. -/
  | dmwFetch (ch : Nat)
  /-- DMW_CHECK (13_dumbwaiter R489): A CHECK descriptor starts and computes a CRC or compares Clean tiles
      with their images. -/
  | dmwCheck (ch : Nat)
  /-- DMW_STEP_GRANT (13_dumbwaiter R491): The Dumbwaiter grants the next step to the highest-priority channel
      with free entries. -/
  | dmwStepGrant (unreadable : Bool)
  /-- DMW_WRITE_ACCEPT (13_dumbwaiter R484): A Dumbwaiter beat write is accepted on the FCLK edge at which all
      its conditions hold. -/
  | dmwWriteAccept (ch : Nat)
  /-- DMW_DESCRIPTOR_COMPLETE (13_dumbwaiter R495): A descriptor completes, STATUS and results are written,
      HEAD advances and the vector is signalled. -/
  | dmwDescriptorComplete (ch : Nat)
  /-- ATTIC_PROGRAM (14_attic R507): The PROGRAM command sequence programs one word as a first or second
      program. -/
  | atticProgram (master : Nat) (bank : Nat) (cycles : List AtticCycle)
  /-- ATTIC_ROW_PROGRAM (14_attic R512): The ROW PROGRAM command programs 32 words or fails before any pulse. -/
  | atticRowProgram (master : Nat) (bank : Nat) (cycles : List AtticCycle)
  /-- ATTIC_SECTOR_ERASE (14_attic R520): The SECTOR ERASE command programs an intent record and starts erase
      pulses. -/
  | atticSectorErase (master : Nat) (bank : Nat) (cycles : List AtticCycle)
  /-- ATTIC_RECOVER (14_attic R528): The RECOVER command erases a mirrored sector and rebuilds it from its
      twin. -/
  | atticRecover (master : Nat) (bank : Nat) (cycles : List AtticCycle)
  /-- ATTIC_SUSPEND (14_attic R517): The SUSPEND command ends the erase pulse within 10 µs and suspends the
      erase. -/
  | atticSuspend (master : Nat) (bank : Nat)
  /-- ATTIC_RESUME (14_attic R517): The RESUME command resumes a suspended erase with the interrupted pulse
      run again. -/
  | atticResume (master : Nat) (bank : Nat)
  /-- ATTIC_READ_RESET (14_attic R513): The READ_RESET command returns the bank to read mode after an error. -/
  | atticReadReset (master : Nat) (bank : Nat)
  /-- ATTIC_SEQ_TIMEOUT (14_attic R510): More than 10 µs between cycles abandons a command sequence and raises
      SEQ_ERR. -/
  | atticSeqTimeout (bank : Nat)
  /-- ATTIC_BAD_ACCESS (14_attic R503): An invalid Attic window access returns a bus error and raises SEQ_ERR. -/
  | atticBadAccess (master : Nat) (offset : Nat)
  /-- ATTIC_PROGRAM_DONE (14_attic R513): A program operation ends and the bank returns to read mode or holds
      the error status. -/
  | atticProgramDone (bank : Nat) (pass : Bool)
  /-- ATTIC_ERASE_PULSE_DONE (14_attic R520): An erase pulse and verify end; a pass writes the seal, 200
      failures end with VERIFY_FAIL. -/
  | atticErasePulseDone (bank : Nat) (pass : Bool) (twinUe : Bool)
  /-- ATTIC_FOREIGN_ACCESS (14_attic R515): An access by a non-owner to a busy bank suspends an erase pulse or
      waits for the program. -/
  | atticForeignAccess (master : Nat) (offset : Nat) (reads : List (List Nat))
  /-- ATTIC_AUTO_RESUME (14_attic R515): An erase suspended only by foreign accesses resumes 5 µs after the
      last one. -/
  | atticAutoResume (bank : Nat)
  /-- FETCH_FAULT (14_attic R514): The owner fetches from its own busy bank, receives the status word and
      takes a Fetch Fault. -/
  | fetchFault (master : Nat) (offset : Nat)
  /-- ERASE_STARVE (14_attic R519): An erase's summed suspended time exceeds STARVE_MS and raises ERASE_STARVE
      once. -/
  | eraseStarve (bank : Nat)
  /-- ATTIC_BOOT_SCAN (14_attic R522): At power-up each sector is classified sealed, half-erased or seal-lost
      and re-erases start. -/
  | atticBootScan (lostSeals : List Nat)
  /-- ATTIC_BROWNOUT (14_attic R525): The Attic supply drops below threshold and the operation ends with
      BROWNOUT. -/
  | atticBrownout
  /-- ATTIC_READ (14_attic R527): An Attic word read that fails to decode is retried at shifted thresholds,
      else bus error and READ_UE. `reads` lists the cells that read inverted at each of the four thresholds
      (`Sys2Proof.Machine.readWord`). -/
  | atticRead (master : Nat) (offset : Nat) (reads : List (List Nat))
  /-- SRAM_UE (15_onchip_integrity R543): An uncorrectable SRAM byte gives a bus error and the outcome of its
      region. -/
  | sramUe (address : Nat) (master : Nat) (beat : Option Nat)
  /-- FABRIC_PARITY_ERROR (15_onchip_integrity R535): A fabric parity error has its receiver's outcome and
      raises FABRIC_PAR. -/
  | fabricParityError (sender : Nat) (address : Nat) (receiver : ParityReceiver)
  /-- CORE_RELOAD (15_onchip_integrity R540): A core memory with an uncorrectable byte is held in reset,
      reloaded from the Attic and restarted. -/
  | coreReload (core : Nat)
  /-- SRAM_SCRUB_READ (15_onchip_integrity R542): The paced SRAM scrubber reads a word, writes back
      corrections and makes patch entries. -/
  | sramScrubRead (finding : ScrubFinding) (beat : Option Nat)
  /-- ATTIC_SCRUB_READ (15_onchip_integrity R544): The Attic scrubber reads a word and counts, patches,
      recovers or raises ATTIC_LOSS. -/
  | atticScrubRead (reads : List (List Nat))
  /-- ECC_TEST_WRITE (15_onchip_integrity R551): A write of ECC_TEST_CTL.WRITE stores test data with forced
      check groups or inverted parity. -/
  | eccTestWrite (value : Word)
  /-- ECC_TEST_READ (15_onchip_integrity R551): A write of ECC_TEST_CTL.READ decodes the test word and returns
      data and RESULT. -/
  | eccTestRead (value : Word)
  /-- GRACE_EXPIRE (16_fault_stations R558): A class's grace timer expires with the class sticky and live,
      raising the level to Contain. -/
  | graceExpire (block : Block) (cls : Nat)
  /-- QUIET_EXPIRE (16_fault_stations R563): A class's quiet timer expires, the class stops being live and the
      fault state may end. -/
  | quietExpire (block : Block) (cls : Nat)
  /-- FACK_WRITE (16_fault_stations R564): A write of FACK clears sticky bits and stops their grace timers. -/
  | fackWrite (block : Block) (value : Word)
  /-- QUARANTINE_END (16_fault_stations R566): The quarantine after a block reset ends at its reset time plus
      1 µs. -/
  | quarantineEnd (block : Block)
  /-- DEV_HARBOUR_ACK_WRITE (16_fault_stations R575): A write of DEV_HARBOUR_ACK.ACK acknowledges Safe Harbour
      or sets ACK_PEND. -/
  | devHarbourAckWrite (value : Word)
  /-- PRECAUTION_START (16_fault_stations R573): The precautionary stow starts once a half allows, listing
      dirty tiles into a KIND 3 record. -/
  | precautionStart
  /-- PRECAUTION_END (16_fault_stations R574): The precautionary stow ends sealed or SHORT and any held
      acknowledge returns the part to SERVICE. -/
  | precautionEnd
  /-- PRECAUTION_WAIT_TIMEOUT (16_fault_stations R574): The precautionary stow has waited 600 s without
      starting and ends SHORT. -/
  | precautionWaitTimeout
  /-- FLOOR_PLAN_APPLY (02_floor_plan R74): At the apply point in SERVICE or HARBOUR the Steward changes every
      altered live field at one instant. -/
  | floorPlanApply
  /-- SB_SLEEP (17_two_wire_ports R581): SB sees no START for SLEEP_MS and the target sleeps. -/
  | sbSleep
  /-- SB_WAKE (17_two_wire_ports R582): A START wakes the sleeping target and that transaction is not
      acknowledged. -/
  | sbWake
  /-- SB_READ (17_two_wire_ports R584): An SB read snapshots the page and returns bytes, with a PEC after
      RD_LEN when enabled. -/
  | sbRead (addr : Nat) (n : Nat)
  /-- SB_WRITE (17_two_wire_ports R585): An SB write transaction is buffered and applied at its STOP or
      repeated START. -/
  | sbWrite (addr : Nat) (data : List Byte) (reread : Option Nat)
  /-- SB_ALERT_RESPONSE (17_two_wire_ports R589): A read of 0x0C while alerting sends SB_ADDR with arbitration
      and sets ARA_HELD on success. -/
  | sbAlertResponse (other : Option Nat) (more : Bool)
  /-- SB_CLK_LOW_TIMEOUT (17_two_wire_ports R592): SCL low for 25 ms discards the transaction and raises
      TIMEOUT. -/
  | sbClkLowTimeout (acked : Bool)
  /-- SB_DATA_LOW_TIMEOUT (17_two_wire_ports R592): SDA low for 25 ms with SCL high sets DATA_LOW_TO and
      raises TIMEOUT. -/
  | sbDataLowTimeout
  /-- SB_PROTOCOL_ERROR (17_two_wire_ports R593): A START in an acknowledge slot discards the transaction and
      raises PROTO. -/
  | sbProtocolError (released : Bool)
  /-- TWS_ALERT_WRITE (17_two_wire_ports R590): A write of TWS_ALERT clears ALERT_STATUS bits and ARA_HELD. -/
  | twsAlertWrite (value : Word)
  /-- PB_TRANSACTION (17_two_wire_ports R597): A PB block read or write ends in success or failure. -/
  | pbTransaction (cmd : Nat) (ok : Bool)
  /-- PB_RETRY (17_two_wire_ports R597): 1 ms after a failed transaction it is retried, up to twice, then
      XFER_FAIL. -/
  | pbRetry (ok : Bool)
  /-- PB_CLK_LOW_TIMEOUT (17_two_wire_ports R598): A target holds SCL low for 25 ms and the transaction fails
      with TIMEOUT. -/
  | pbClkLowTimeout (cmd : Nat) (sdaLow : Bool)
  /-- PB_ARBITRATION_LOSS (17_two_wire_ports R599): SDA differs from a released bit; the controller stops and
      the transaction fails. -/
  | pbArbitrationLoss (cmd : Nat) (cond : Bool)
  /-- PB_PROTOCOL_ERROR (17_two_wire_ports R600): A foreign START in an acknowledge slot fails the transaction
      with PROTO. -/
  | pbProtocolError (cmd : Nat)
  /-- PB_BUS_CLEAR (17_two_wire_ports R601): The controller pulses SCL and forms a STOP, raising BUSHUNG if
      SDA stays low. -/
  | pbBusClear (sdaHigh : Bool)
  /-- SVC_HELLO (18_service_update R612): The service HELLO opens a session and returns version, identity,
      nonce and ephemeral key. -/
  | svcHello (seq : Nat) (input : List Byte)
  /-- SVC_AUTH (18_service_update R613): The service AUTH verifies the tool key and signature and derives the
      session key, or counts a failure. -/
  | svcAuth (seq : Nat) (input : List Byte)
  /-- SVC_CLOSE (18_service_update R615): The service CLOSE ends the session. -/
  | svcClose (seq : Nat)
  /-- SVC_STATUS (18_service_update R617): The service STATUS returns state and update registers. -/
  | svcStatus (seq : Nat)
  /-- READ_LOG (19_almanac_log_identity R657): The service READ_LOG returns Log records from an INDEX. -/
  | readLog (seq : Nat) (input : List Byte)
  /-- READ_REG (18_service_update R617): The service READ_REG returns register values as host software reads
      them. -/
  | readReg (seq : Nat) (input : List Byte)
  /-- READ_ATTIC (18_service_update R618): The service READ_ATTIC returns decoded Attic words, denying sectors
      101 to 103. -/
  | readAttic (seq : Nat) (input : List Byte) (failAt : Option Nat)
  /-- READ_NAND (18_service_update R645): The service READ_NAND returns a decoded NAND codeword and page tag. -/
  | readNand (seq : Nat) (input : List Byte) (ok : Bool)
  /-- PKG_BEGIN (18_service_update R624): The service PKG_BEGIN checks the package header and prepares the
      staging target. -/
  | pkgBegin (seq : Nat) (input : List Byte) (attic : Option Nat)
  /-- PKG_CHUNK (18_service_update R628): The service PKG_CHUNK decrypts, checks and programs a TABLE or DATA
      chunk. -/
  | pkgChunk (seq : Nat) (input : List Byte) (attic : Option Nat) (readBack : Bool)
  /-- PKG_END (18_service_update R630): The service PKG_END checks the whole target and marks STAGED, seals a
      plan or programs a store. -/
  | pkgEnd (seq : Nat) (attic : Option Nat)
  /-- ACTIVATE (18_service_update R636): The service ACTIVATE runs the probe and hands over the cores. -/
  | activate (seq : Nat) (cores : Nat) (attic : Option Nat)
  /-- HANDOVER_READY_TIMEOUT (18_service_update R639): A new core fails to report ready in 50 ms and all cores
      restart on the old set. -/
  | handoverReadyTimeout
  /-- CONFIRM (18_service_update R642): The service CONFIRM confirms the new set, retires the old and migrates
      settings. -/
  | confirm (seq : Nat) (first : Bool) (second : Bool)
  /-- AUTO_CONFIRM (18_service_update R641): Probation time of PROBATION_MIN passes without escalation and the
      set is confirmed. -/
  | autoConfirm (first : Bool) (second : Bool)
  /-- SVC_ABORT (18_service_update R631): The service ABORT ends staging or retires an activated bank not in
      force. -/
  | svcAbort (seq : Nat)
  /-- SVC_PROGRESS (18_service_update R611): Every 100 ms of a long operation the part sends a PROGRESS frame. -/
  | svcProgress (seq : Nat) (permille : Nat)
  /-- SVC_FRAME_TIMEOUT (18_service_update R609): More than 1 ms between frame bytes discards the frame. -/
  | svcFrameTimeout
  /-- SVC_PRES_HIGH (18_service_update R606): SVC_PRES_N held high for 10 ms ends the session. -/
  | svcPresHigh
  /-- SVC_SESSION_IDLE (18_service_update R615): 300 s without a valid command ends the session. -/
  | svcSessionIdle
  /-- AUTH_LOCKOUT_EXPIRE (18_service_update R614): The AUTH lockout period ends. -/
  | authLockoutExpire
  /-- ALMANAC_COLD_RESTORE (19_almanac_log_identity R649): After a cold loss the Almanac is set past the
      latest stored time and GAP_UNKNOWN set. -/
  | almanacColdRestore
  /-- LOG_RECORD_WRITE (19_almanac_log_identity R657): The Steward writes ready Log records, held ones first,
      into the ring. -/
  | logRecordWrite
  /-- DIE_TEMP_SAMPLE (20_power_clocks_thermal R682): The die sensors are sampled, throttle stages entered and
      THERM_TRIP raised at 115 °C. -/
  | dieTempSample (die : List Int) (stackTemps : Word) (rails : List Nat) (powerDw : Nat) (refPresent : Bool)
  /-- THROTTLE_EXIT (20_power_clocks_thermal R683): The junction stays 3 °C below a stage for 1 s and the part
      moves down one stage. -/
  | throttleExit
  /-- PEAK_CLEAR (00_scope R16): A write of a W1S clear bit such as PEAK_CLR or CLR resets its peak or maximum
      field. -/
  | peakClear (offset : Nat)
  /-- JTAG_BYPASS (21_package_pins_electrical R696): The TAP instruction BYPASS selects the bypass register. -/
  | jtagBypass
  /-- JTAG_IDCODE (21_package_pins_electrical R696): The TAP instruction IDCODE returns the part's
      identification code. -/
  | jtagIdcode
  /-- JTAG_SAMPLE_PRELOAD (21_package_pins_electrical R696): The TAP instruction SAMPLE/PRELOAD samples and
      loads boundary cells. -/
  | jtagSamplePreload (pins : List Bool) (cells : List Bool)
  /-- JTAG_EXTEST (21_package_pins_electrical R697): The TAP instruction EXTEST drives pins only with the
      default plan and no data held, else acts as BYPASS. -/
  | jtagExtest (pins : List Bool) (cells : List Bool)
  /-- JTAG_CLAMP (21_package_pins_electrical R697): The TAP instruction CLAMP holds pins only with the default
      plan and no data held, else acts as BYPASS. -/
  | jtagClamp
  /-- JTAG_HIGHZ (21_package_pins_electrical R697): The TAP instruction HIGHZ floats pins only with the
      default plan and no data held, else acts as BYPASS. -/
  | jtagHighz
  /-- HDM_DECODER_COMMIT (03_host_link R84): Host software commits an HDM decoder, which takes effect for
      decoding or fails its commit on an unsupported way, granularity, base or size. -/
  | hdmDecoderCommit (index : Nat) (base : Nat) (size : Nat) (ways : Nat) (gran : Nat) (pos : Nat)
  /-- DISCARDED_FRAME (18_service_update R609): A service-hatch frame with a wrong CRC or MAC, an oversize LEN
      or a reserved bit set is discarded, counted in BAD_FRAMES, and the receiver hunts for the next SYNC. -/
  | discardedFrame
  /-- COLD_LOSS (19_almanac_log_identity R649): The always-on domain loses power when P3V3_AUX is absent and
      the pack cannot supply it, which loses the Almanac, empties the Log holding queue and clears CAL_VALID. -/
  | coldLoss
  /-- BACKGROUND_ERASE_RESUME (09_cellar R335): A suspended background NAND erase resumes once its die has
      been free of higher-precedence work for 1 ms. -/
  | backgroundEraseResume (die : Nat)
  /-- CORRECTION_COUNT_24H (04_dram R165): With PERIOD_H 0, each 24 h of the Almanac ends the DRAM per-device
      correction count, which restarts, and may clear the DRAM replace reason. -/
  | correctionCount24h
  deriving DecidableEq, Repr

end Sys2Proof
end

