-- ==== Sys2Proof/Config.lean ====
section
/-! DEFINITION. What the model takes as given without a value: the free values and the functions of published
standards that the spec cites and does not retell. None has a body here, so no proof can see what one is. -/

namespace Sys2Proof.Config

/-- The `n`-th free value, of any width: a value that the spec says is not defined, or does not state
(assumption 6). -/
opaque freeNat : Nat → Nat

/-- A byte of data that the spec leaves open: the data returned beside a poison mark (assumption 7). -/
opaque freeByte : Nat → Byte

/-- SHA-256 (18_service_update R613, R619; 10_energy_pack R382). -/
opaque sha256 : List Byte → List Byte

/-- ECDSA P-256 verification: public key, digest, signature (R613, R619). -/
opaque ecdsaVerify : List Byte → List Byte → List Byte → Bool

/-- HMAC-SHA-256: key, message (R613; 10_energy_pack R382). -/
opaque hmacSha256 : List Byte → List Byte → List Byte

/-- The session key of R613: ECDH of the part's ephemeral key and the tool's, then HKDF with salt N_P. -/
opaque sessionKey : List Byte → List Byte → List Byte → List Byte

/-- The random source: 32 bytes of the `n`-th draw (R612). -/
opaque random32 : Nat → List Byte

/-- A fresh ephemeral public key of 64 bytes, of the `n`-th draw (R612). -/
opaque ephemeralKey : Nat → List Byte

/-- The entries of a pack trust store object: HMAC key or not, value (10_energy_pack R383; the spec gives no layout). -/
opaque trustEntries : List Byte → List (Bool × List Byte)

/-- AES-256-GCM decryption under the firmware delivery key: nonce, additional data, body with its tag; none when
the tag does not verify (R629). -/
opaque gcmOpen : List Byte → List Byte → List Byte → Option (List Byte)

/-- AES-256-XTS encryption of a page of 16 KiB: key identity, tweak, page (09_cellar R355; 18_service_update R645). -/
opaque cipherPage : Nat → Nat → List Byte → List Byte

/-- The Wing bodies that a format-1 plan translates to, by format-2 TYPE (02_floor_plan R67): the spec gives no
format-1 layouts. -/
opaque format1Wings : List Byte → List (Nat × List Byte)

/-- The firmware revision string of 16 bytes that a Steward version is shown as (03_host_link Table 03-5 names no format). -/
opaque fwRevision : Nat → List Byte

/-- The effects of a mailbox command, by opcode, as the Command Effects Log gives them (03_host_link Table 03-5). -/
opaque celEffects : Nat → Nat

/-- The critical alert thresholds of Get Alert Configuration: life used, over- and under-temperature (03_host_link Table
03-5). -/
opaque alertCritical : Nat → Nat

end Sys2Proof.Config
end

