-- ==== Sys2Proof/Machine/TypesAttic.lean ====
section
/-! DEFINITION. Plain data of the Attic embedded flash ATT (14_attic). The value after `:=` is the value at
reset. -/

namespace Sys2Proof.Machine

/-- A stored word (R506, R507): its value, and whether it has been programmed a second time. A word whose
value is all ones is Erased. -/
structure AtticWord where
  value : Dword := BitVec.allOnes 64
  twice : Bool := false
  /-- The value of the first program of a word programmed twice: check slot A holds its groups. -/
  first : Dword := BitVec.allOnes 64
  /-- The word reads uncorrectable at all four thresholds (R525, R527). -/
  torn : Bool := false
  deriving DecidableEq, Repr

/-- Operation codes of Table 14-5. -/
inductive AtticOpKind where
  | program | rowProgram | sectorErase | reErase | recover
  deriving DecidableEq, Repr

/-- OP field of an operation (Table 14-5). -/
def AtticOpKind.code : AtticOpKind → Nat
  | .program => 1 | .rowProgram => 2 | .sectorErase => 3 | .reErase => 4 | .recover => 5

/-- How an erase is suspended (R515, R517). -/
inductive SuspendKind where
  | no | byCommand | byForeign
  deriving DecidableEq, Repr

/-- An operation of a bank (R511, R513). -/
structure AtticOp where
  kind : AtticOpKind
  owner : Nat
  sector : Nat
  /-- Word offset in the bank (bytes) and the values to program. -/
  ofs : Nat
  words : List Dword
  /-- Whole erase pulses completed (Table 14-5 PULSES). -/
  pulses : Nat := 0
  /-- STEPPED since the owner's last status read. -/
  stepped : Bool := true
  susp : SuspendKind := .no
  /-- Almanac time since which the erase is suspended, and the time summed before (R519). -/
  suspSince : Nat := 0
  suspUs : Nat := 0
  /-- ERASE_STARVE already raised for this erase (R519). -/
  starved : Bool := false
  /-- SEQ and COUNT of the erase's intent record (R520). -/
  seq : Nat := 0
  count : Nat := 0
  deriving DecidableEq, Repr

/-- An erase-intent record (Table 14-6). -/
structure IntentRec where
  sector : Nat
  owner : Nat
  seq : Nat
  count : Nat
  time : Nat
  deriving DecidableEq, Repr

/-- A sector seal (R520 step 3). -/
structure SectorSeal where
  seq : Nat
  count : Nat
  deriving DecidableEq, Repr

/-- What the boot scan made of a sector that is not sealed (R522); `partial_` is a sector whose erase has ended early and that
no scan has classified yet (R525). -/
inductive SectorScan where
  | halfErased | sealLost | partial_
  deriving DecidableEq, Repr

/-- One bank (R502 to R528). -/
structure AtticBank where
  /-- Words by offset / 8 within the bank (R502). -/
  words : Table AtticWord := []
  /-- Seals by sector, over a default of the seal that the factory leaves (assumption 44); none is a seal that is not valid
  (R505, R522). -/
  seals : Table (Option SectorSeal) := []
  /-- Sectors that the scan found seal-lost or half-erased and that are not sealed since (R522 to R524). -/
  scan : List (Nat × SectorScan) := []
  /-- Intent records of log sectors 124 and 125, oldest first (R521). -/
  intent0 : List IntentRec := []
  intent1 : List IntentRec := []
  /-- ATT_STATUS.Bn_LOG: true when sector 125 is active (R521). -/
  log1 : Bool := false
  /-- Sequencer: the bound master and the cycles taken (R510). -/
  bound : Option (Nat × List (Nat × Nat)) := none
  /-- Operation in progress or suspended (R511). -/
  op : Option AtticOp := none
  /-- A program that runs while the erase is suspended (R518). -/
  prog : Option AtticOp := none
  /-- Operation ended with an error that its owner has not cleared: owner, status word (R513). -/
  err : Option (Nat × Nat) := none
  deriving DecidableEq, Repr

/-- Bank 0 as it leaves the factory: a boot record with GENERATION 1 whose set is CONFIRMED and MIGRATED, its header zero but
for MAGIC, FORMAT 1, KIND 1 and ENCRYPTED; the rest of the array erased (DESIGN CHOICE: assumption 46; 18_service_update R632,
R634). -/
def factoryBank : AtticBank :=
  { words := (0, { value := 0x02010001474B5048 }) :: (List.range 49).map (fun i => (i + 1, { value := 0 })) ++
      [(50, { value := 1 }), (256, { value := 0xA100000001 }), (257, { value := 0xA200000001 }),
       (258, { value := 0xA300000001 }), (260, { value := 0xA500000001 })] }

/-- The Attic ATT (14_attic). -/
structure Att where
  bank : Vector AtticBank 2 := #v[factoryBank, {}]
  /-- ATT_STATUS.SCANNED, .CLOSED (R522, R526). -/
  scanned : Bool := false
  closed : Bool := false
  /-- ATT_CTL.STARVE_MS (R519). -/
  starveMs : Nat := 500
  /-- ATT_ERASE_SEQ.SEQ: next SEQ (R520). -/
  eraseSeq : Nat := 0
  /-- ATT_RETRY.RETRIED, .UE (R527). -/
  retried : Nat := 0
  ue : Nat := 0
  /-- ATT_FETCH_FAULT.COUNT, .LAST_MSTR (R514). -/
  fetchFaults : Nat := 0
  lastFetchMstr : Nat := 0
  /-- ATT_SUSPEND.COUNT (R517). -/
  suspends : Nat := 0
  /-- ATT_STARVE.COUNT, .LONGEST_MS (R519). -/
  starves : Nat := 0
  longestUs : Nat := 0
  /-- ATT_REERASE.COUNT, .SEAL_LOST, lifetime (R523, R524). -/
  reErases : Nat := 0
  sealLost : Nat := 0
  /-- ATT_BROWNOUT.COUNT lifetime, .SEQ_ERR since boot (R510, R525). -/
  brownouts : Nat := 0
  seqErr : Nat := 0
  /-- ATT_RECOVER.RECOVERED, .UNRECOVERABLE, lifetime (R528). -/
  recovered : Nat := 0
  unrecoverable : Nat := 0
  /-- ATT_WEAR.MAX_COUNT, .BANK_SECTOR (R522). -/
  maxCount : Nat := 0
  maxSector : Nat := 0
  /-- ATT_WEAK: sector of the last shifted read (R527). -/
  weak : Option Nat := none
  /-- Brown-out: the supply is below its threshold (R525). -/
  brownout : Bool := false
  deriving DecidableEq, Repr

end Sys2Proof.Machine
end

