-- ==== Sys2Proof/Machine/TypesSave.lean ====
section
/-! DEFINITION. Plain data of the save and restore sequencer SAV and of the Vestibule halves
(07_fence_save, 08_startup_restore). The value after `:=` is the value at reset. -/

namespace Sys2Proof.Machine

/-- The content of a copied tile: bytes by offset in the tile over a default of 0, and its poisoned beats by
number in the tile (R225, R270). -/
structure Image where
  bytes : Table Byte := []
  poison : Table Bool := []
  deriving DecidableEq, Repr

/-- State of a Vestibule half (R260, Table 07-3). -/
inductive HalfState where
  | ready | erasing | released | image | precaution | writing
  deriving DecidableEq, Repr

/-- Code of a half state (Table 07-3). -/
def HalfState.code : HalfState → Nat
  | .ready => 0 | .erasing => 1 | .released => 2 | .image => 3 | .precaution => 4 | .writing => 5

/-- A save header (Table 07-5). -/
structure SaveHeader where
  kind : Nat
  /-- 0 Port, 1 Starboard, 0xFF for KIND 2 and 4. -/
  half : Nat
  saveId : Nat
  fenceTime : Nat
  cause : Nat
  armed : Bool
  exposedAny : Bool
  baseValid : Bool
  pending : Bool
  eraseAhead : Bool
  memberId : Nat
  planCrc : Nat
  baseSaveId : Nat
  baseHalf : Nat
  ratePlan : Nat
  wearBucket : Nat
  openId : Nat
  deriving DecidableEq, Repr

/-- A list entry (R269). -/
structure ListEntry where
  tile : Nat
  suite : Nat
  prio : Nat
  deriving DecidableEq, Repr

/-- A Save Seal (Table 07-6). -/
structure SaveSeal where
  saveId : Nat
  listed : Nat
  written : Nat
  listPages : Nat
  durationMs : Nat
  energyJ : Nat
  skipped : Nat
  rateDown : Nat
  deriving DecidableEq, Repr

/-- A tile written in a slot of a half, with the tag it carries (R270, R271). -/
structure SavedTile where
  saveId : Nat
  idx : Nat
  tile : Nat
  keySlot : Nat
  keyId : Nat
  img : Image
  deriving DecidableEq, Repr

/-- A written save: header, list, pending map, Save Seal (R266, R273). List pages that cannot be read are named
by their index (R302). -/
structure SaveRecord where
  header : SaveHeader
  list : List ListEntry := []
  /-- The last list page (FLAGS bit 0) has been programmed (R269). -/
  listDone : Bool := false
  /-- The pending map: Rooms whose restore had not ended (R268). -/
  pendingRooms : List Nat := []
  sealed : Option SaveSeal := none
  deriving DecidableEq, Repr

/-- One Vestibule half (R260). -/
structure HalfData where
  st : HalfState := .ready
  rec_ : Option SaveRecord := none
  /-- Tiles by slot. -/
  slots : Table (Option SavedTile) := []
  deriving DecidableEq, Repr

/-- SAV_STATUS.PHASE. -/
inductive SavPhase where
  | idle | drain | stagger | header | list | tiles | sealing | rebuild
  deriving DecidableEq, Repr

/-- Code of a phase (SAV_STATUS.PHASE). -/
def SavPhase.code : SavPhase → Nat
  | .idle => 0 | .drain => 1 | .stagger => 2 | .header => 3 | .list => 4 | .tiles => 5 | .sealing => 6
  | .rebuild => 7

/-- The save in progress (R266 to R281). -/
structure SaveRun where
  header : SaveHeader
  /-- Half written; none for Full save and Cellar fallback. -/
  half : Option Half
  list : List ListEntry
  /-- Tiles still to be read, with their list index (Stowed save) or in copy order (Full save, fallback). -/
  todo : List (Nat × Nat)
  /-- Tiles read, whose program has not ended: list index, tile, copy (R270, R271). -/
  inFlight : List (Nat × Nat × Image) := []
  /-- Next free slot of the half (R271). -/
  nextSlot : Nat := 0
  written : Nat := 0
  skipped : Nat := 0
  rateDown : Nat := 0
  /-- Rooms of the pending map (R268). -/
  pending : List Nat := []
  deriving DecidableEq, Repr

/-- Decision of Table 08-2. -/
inductive BootDecision where
  | notTaken | fresh | restoreS | headerless | hold
  deriving DecidableEq, Repr

/-- Code of a decision (SAV_BOOT.DECISION). -/
def BootDecision.code : BootDecision → Nat
  | .notTaken => 0 | .fresh => 1 | .restoreS => 2 | .headerless => 3 | .hold => 4

/-- The restore in progress or ended (R299 to R316). -/
structure RestoreRun where
  /-- The current save S: its record and the half that holds it (none for KIND 2 and 4); none in a
  headerless restore (R293). -/
  s : Option (SaveRecord × Option Half) := none
  /-- The base half that is used, when S names one that is found (R303). -/
  base : Option Half := none
  /-- S names a base that is not found, or its pending map cannot be read (R303). -/
  baseLost : Bool := false
  pendingMapLost : Bool := false
  /-- List indices of S's and of the base's pages that cannot be read (R302). -/
  badPages : List Nat := []
  badBasePages : List Nat := []
  /-- The overlay index of R306, for S's list and for the base's: Room and list index of its first listed tile. It lies in the
  partner real-time buffer from the presets to the end of the restore. -/
  overlay : List (Nat × Nat) := []
  overlayBase : List (Nat × Nat) := []
  /-- Rooms still to be restored, in background order (R307). -/
  order : List Nat := []
  /-- Tiles already written (R307). -/
  written : Table Bool := []
  /-- Tiles that the restore has written Dirty (R317), and those of them that failed under R301. -/
  left : Table Bool := []
  failed : Table Bool := []
  /-- Count of Rooms ended (R307). -/
  roomsEnded : Nat := 0
  /-- Rooms in demand fetch with the Almanac time of the first access, in order of arrival (R312);
  the second part tells whether its first held read has been released. -/
  demand : List (Nat × Nat × Bool) := []
  /-- Reads that the restore has held so far, of the host and of Dumbwaiter steps (R312). -/
  arrivals : Nat := 0
  /-- Presets and lists done (R305). -/
  presetDone : Bool := false
  /-- Almanac time of the decision (SAV_RESTORE_MS). -/
  startedAt : Nat := 0
  /-- Duration once ended, µs. -/
  endedUs : Option Nat := none
  /-- The restore runs. -/
  running : Bool := false
  /-- A Fence has stopped it (R314). -/
  cut : Bool := false
  deriving DecidableEq, Repr

/-- The save and restore sequencer SAV (07_fence_save, 08_startup_restore). -/
structure Sav where
  /-- SAV_STATUS.PHASE. -/
  phase : SavPhase := .idle
  /-- SAV_STATUS.KIND, .CAUSE, .OUTCOME, .ERASE_AHEAD: present or last save. -/
  kind : Nat := 0
  cause : Nat := 0
  outcome : Nat := 0
  eraseAhead : Bool := false
  /-- HALF of the last save (03_host_link Table 03-11): 0, 1, or 0xFF. -/
  lastHalf : Nat := 0xFF
  /-- Vestibule halves (R260). -/
  port : HalfData := {}
  stbd : HalfData := {}
  /-- SAV_SAVE_ID: SAVE_ID of the last save (R266). -/
  saveId : Nat := 0
  /-- SAV_RATE.PLAN_MBPS, .NOW_MBPS (R278, R279). -/
  planRate : Nat := 0
  nowRate : Nat := 0
  /-- up_hold and end_timer of R279, µs; VBUS low timer is an event of its own (R281). -/
  upHold : Nat := 0
  endTimer : Nat := 0
  /-- SAV_LISTED, SAV_WRITTEN, SAV_DURATION, SAV_ENERGY. -/
  listed : Nat := 0
  written : Nat := 0
  durationMs : Nat := 0
  energyJ : Nat := 0
  /-- MUSTER_IN_N after its filter, high true (SAV_MUSTER.IN_LEVEL), and since when it has been high (R256). -/
  musterIn : Bool := true
  musterHighAt : Nat := 0
  /-- MUSTER_OUT_N driven low (SAV_MUSTER.OUT_DRIVEN, R257). -/
  musterOut : Bool := false
  /-- SAV_MUSTER.LATE_TRIGGERS (R250). -/
  lateTriggers : Nat := 0
  /-- The Fence: its time, state before it, ARMED and EXPOSED_ANY at it, plan rate at it (R251). -/
  fenceTime : Nat := 0
  fenceFrom : OpState := .boot
  fenceArmed : Bool := false
  fenceExposed : Bool := false
  /-- A Sanitize or Secure Erase ran at the Fence (R709). -/
  fenceSanitizing : Bool := false
  /-- DRAM rails held without a break since the Fence (R285). -/
  railsHeld : Bool := true
  /-- Drain complete, stagger elapsed (R253). -/
  drained : Bool := false
  staggered : Bool := false
  /-- An absence of P12V or an assertion of PERST_N has begun since the Fence (R710). -/
  absenceSinceFence : Bool := false
  /-- The save in progress. -/
  run : Option SaveRun := none
  /-- Halves sealed by saves that ended in Warm Return, to be released on entry to SERVICE (R262). -/
  warmHalves : List Half := []
  /-- OPEN_ID of the newest service-open record, and one that waits to be programmed (R265). -/
  openId : Nat := 0
  openPending : Bool := false
  /-- The service-open record of the present session has passed: host writes may be accepted (R265). -/
  opened : Bool := false
  /-- SAV_BOOT.DECISION, .ET, .BASE, .HOLD_REASON, .DECIDE_MS. -/
  decision : BootDecision := .notTaken
  et : Bool := false
  baseNamed : Bool := false
  holdReason : Nat := 0
  decideMs : Nat := 0
  /-- SAVE_IDs of the headers whose MAGIC, FORMAT or CRC is wrong, and OPEN_IDs of the service-open records whose CRC is, as
  the Meta read of this boot found them (R293). -/
  badHeaders : List Nat := []
  badOpens : List Nat := []
  /-- Reference CRC of a hold (R295, R296). -/
  holdCrc : Nat := 0
  /-- Almanac time of PERST_N deassertion at the last boot (SAV_BOOT.DECIDE_MS). -/
  bootAt : Nat := 0
  /-- The restore. -/
  restore : RestoreRun := {}
  /-- Roster of the last restore: tiles in the order written (R315). -/
  roster : List Nat := []
  /-- Half of S for vendor event 0x0007: 0, 1 or 0xFF (R316). -/
  rosterHalf : Nat := 0xFF
  /-- SAV_SKIPS.POINTS, .TAG_READS (R304). -/
  skipPoints : Nat := 0
  tagReads : Nat := 0
  /-- SAV_DEMAND.ROOMS, SAV_DEMAND_LAT.LAST_US, .MAX_US (R313). -/
  demandRooms : Nat := 0
  latLast : Nat := 0
  latMax : Nat := 0
  /-- Fold set tiles not yet visited, phase, and MAX_TPS (R317 to R320). -/
  foldLeft : List Nat := []
  foldPhase : Nat := 0
  foldMaxTps : Nat := 20000
  /-- Tiles of the Fold whose completion is awaited. -/
  foldInFlight : List Nat := []
  /-- Fold starts in the present second (R319). -/
  foldSecond : Nat := 0
  foldStarts : Nat := 0
  /-- Halves that the Fold releases when it ends (R320). -/
  foldHalves : List Half := []
  /-- Slots listed by S for IMPAIRED Rooms (R320 step 1): tiles. -/
  foldImpaired : List Nat := []
  /-- SAVE_ID of the newest save that the lifetime counters hold (19_almanac_log_identity R661). -/
  countedId : Nat := 0
  /-- The save has run wholly on the pack so far, with no return to P12V (11_gauge_reckoning R413). -/
  packOnly : Bool := false
  deriving DecidableEq, Repr

end Sys2Proof.Machine
end

