-- ==== Sys2Proof/Machine/TypesCellar.lean ====
section
/-! DEFINITION. Plain data of the Cellar controller CEL and of what the Cellar and Meta partitions hold
(09_cellar, 05_rooms_suites_chart R183 to R187). The value after `:=` is the value at reset. -/

namespace Sys2Proof.Machine

/-- A Room-map tile entry (R184, Table 05-3); SLOT 0xFFFF_FFFF is none. -/
structure MapEntry where
  slot : Option Nat := none
  seq : Nat := 0
  poisoned : Bool := false
  whole : Bool := false
  deriving DecidableEq, Repr

/-- A Room-map record (R183, Table 05-2). -/
structure RoomMap where
  room : Nat
  gen : Nat
  suite : Nat
  key : Nat
  /-- FLAGS bit 0: written by Full save. -/
  full : Bool
  planCrc : Nat
  time : Nat
  /-- Entries by tile of the Room. -/
  tiles : Table MapEntry
  deriving DecidableEq, Repr

/-- A Room-map record programmed in the journal, at its Meta record index (R338). -/
structure JournalRec where
  ptr : Nat
  rec_ : RoomMap
  deriving DecidableEq, Repr

/-- A copy programmed in a Cellar slot (R332, R333). `keyId` names the key that encrypted it; 0 for none. -/
structure CellCopy where
  tile : Nat
  seq : Nat
  keySlot : Nat
  keyId : Nat
  img : Image
  progAt : Nat
  deriving DecidableEq, Repr

/-- Why a copy is made (R214, R226, R318, R347, R354, R273). -/
inductive CopySrc where
  | stow | request (channel : Nat) | fold | full
  /-- Relocation of the copy in a slot (R347). -/
  | reloc (slot : Nat)
  /-- Rescue of an uncorrectable confirmed copy (R354). -/
  | rescue
  deriving DecidableEq, Repr

/-- How far a copy has come: its DRAM read waits with its copy-beat entries for page buffers, in staging without a slot, in a
die's latches, its program issued, ended with pass or fail. -/
inductive CopyPhase where
  | reading | staged | latched | issued | passed | failed
  deriving DecidableEq, Repr

/-- Users of the copy-beat pool that 01_architecture R31 tells apart. -/
inductive CopyUser where
  | stow | save | demand | other
  deriving DecidableEq, Repr

/-- A copy on its way into the Cellar (R330 to R332). -/
structure CopyFlight where
  tile : Nat
  seq : Nat
  src : CopySrc
  die : Nat
  /-- Cellar slot; none for a copy in staging that has none yet and for a Fold record that names no slot (R318). -/
  slot : Option Nat
  keySlot : Nat
  keyId : Nat
  img : Image
  /-- POISONED and WHOLE of its Room-map entry (R225, R318). -/
  poisoned : Bool
  whole : Bool
  phase : CopyPhase
  /-- Almanac time at which it entered its present phase. -/
  at_ : Nat
  deriving DecidableEq, Repr

/-- How far a Room's record has come (R339, R217). -/
inductive RecPhase where
  /-- Waits for a journal page. -/
  | waiting
  /-- Its page program has been issued: Meta page number. -/
  | issued (page : Nat)
  /-- Both copies ended: passed or not. -/
  | resolved (pass : Bool)
  deriving DecidableEq, Repr

/-- A Room's record on its way into the journal with the copies it confirms (R340). -/
structure RecFlight where
  rec_ : RoomMap
  ptr : Nat
  /-- Copies that the record names: tile, STOW_SEQ, source. -/
  names : List (Nat × Nat × CopySrc)
  phase : RecPhase
  at_ : Nat
  deriving DecidableEq, Repr

/-- A block of a partition: erases, whether it holds programmed rows, retirement, program time
(R346 to R353). -/
structure NandBlock where
  erases : Nat := 0
  /-- Erases of its half that the block at this place did not see: it came there from elsewhere (R348, R350). -/
  less : Nat := 0
  inUse : Bool := false
  /-- Lost: retired with no Spare left (R350). -/
  lost : Bool := false
  /-- An erase was suspended by the Fence; the block is erased again before use (R359). -/
  reErase : Bool := false
  progAt : Nat := 0
  /-- Threshold set that last decoded in the block: 0 nominal, 1 to 16 shifted (R334). It is the first that the next read tries. -/
  set : Nat := 0
  deriving DecidableEq, Repr

/-- One die (R322 to R331). -/
structure Die where
  /-- Good blocks at assembly, at least 2,732; those beyond add to the die's Spare (R322). -/
  good : Nat := 2732
  /-- Write frontier: Cellar block index and next row (R330). -/
  frontier : Option (Nat × Nat) := none
  /-- Relocation frontier. -/
  gcFrontier : Option (Nat × Nat) := none
  /-- Background erase in progress: partition code and block, and whether it is suspended (R335). -/
  erasing : Option (Nat × Nat × Bool) := none
  /-- Almanac time of the die's last work of items 1 to 5 (R335). -/
  busyAt : Nat := 0
  /-- CEL holds the die's operations until this Almanac time, while its NAND table is reloaded (15_onchip_integrity Table 15-6). -/
  heldUntil : Nat := 0
  /-- Spare blocks used up as replacements on this die (R350). -/
  spareUsed : Nat := 0
  deriving DecidableEq, Repr

/-- A checkpoint (R341). -/
structure Checkpoint where
  seq : Nat
  /-- Page sequence of the last journal page that it covers. -/
  upTo : Nat
  nextGen : Nat
  nextSeq : Nat
  /-- Room, MAP_PTR and GEN of every Room that has a record. -/
  entries : List (Nat × Nat × Nat)
  deriving DecidableEq, Repr

/-- A service-open record (Table 07-4). -/
structure OpenRec where
  openId : Nat
  lastSaveId : Nat
  time : Nat
  deriving DecidableEq, Repr

/-- A release record (Table 07-4). -/
structure ReleaseRec where
  half : Nat
  saveId : Nat
  time : Nat
  deriving DecidableEq, Repr

/-- A mirror role record in Meta (12_partner_mirroring R439): set, role code, mark. -/
structure RoleRec where
  set : Nat
  role : Nat
  term : Nat
  partner : List Byte
  time : Nat
  deriving DecidableEq, Repr

/-- A Meta block in use (R336): the content type of its header (Table 09-4), the save area it serves (0 A, 1 B), the page sequence of its
page 0, the pages programmed so far, and the block whose pages it holds as second copy. -/
structure MetaBlk where
  type : Nat
  sub : Nat
  seq : Nat
  next : Nat := 1
  copyOf : Option Nat := none
  /-- Its content is superseded as a whole: it awaits its erase. -/
  dead : Bool := false
  deriving DecidableEq, Repr

/-- Content of Meta pages other than the journal's (Table 09-4). -/
inductive MetaItem where
  /-- A checkpoint by its sequence: header page, then 384 pages of entries (R341). -/
  | ckpt (seq : Nat)
  /-- The save in area A or B: header, list, pending map, Seal in the order of R329. -/
  | area (b : Bool)
  | opened (o : OpenRec)
  | released (r : ReleaseRec)
  | role (r : RoleRec)
  | roster
  | blockTable
  | keyStore
  deriving DecidableEq, Repr

/-- Pages of one item that lie one after another in one block: the first page number (R338), how many, and the number that the first has in
the item. -/
structure MetaExt where
  page : Nat
  count : Nat
  first : Nat
  item : MetaItem
  deriving DecidableEq, Repr

/-- The Cellar controller CEL (09_cellar). -/
structure Cel where
  /-- Cellar slots that hold a copy (R330). -/
  slots : Table (Option CellCopy) := []
  /-- Room-map records in the journal, oldest first (R183, R336). -/
  journal : List JournalRec := []
  /-- Copies in flight (R330). -/
  copies : List CopyFlight := []
  /-- Records in flight (R340). -/
  recs : List RecFlight := []
  /-- Dies. -/
  dies : Vector Die 32 := Vector.replicate 32 {}
  /-- Blocks by partition × 131,072 + die × 4,096 + block: 0 Cellar, 1 Vestibule, 2 Meta, 3 Spare, of which blocks 0 and 1 are the heads of
  Port and Starboard (R325, R326). -/
  blocks : Table NandBlock := []
  /-- Erases of every block of all partitions together, by Sanitize (03_host_link R107). -/
  allErases : Nat := 0
  /-- Background erases of the whole of each Vestibule half (07_fence_save R263). -/
  portErases : Nat := 0
  stbdErases : Nat := 0
  /-- Die at which the rotation of R330 continues. -/
  nextDie : Nat := 0
  /-- Next STOW_SEQ and GEN (R332, R339). -/
  nextSeq : Nat := 1
  nextGen : Nat := 1
  /-- Meta blocks in use, by block index × D + die (R336, R338), the pages that hold other content than the journal, and the page sequence
  that the next block's header takes. -/
  metaBlks : Table (Option MetaBlk) := []
  metaExts : List MetaExt := []
  nextPageSeq : Nat := 1
  /-- Checkpoints that lie in Meta, newest first, and records since the newest (R341, R342). -/
  ckpts : List Checkpoint := []
  sinceCkpt : Nat := 0
  /-- Block table: physical block plus 1 of a block that does not lie at its first place (R326, R348, R350). Key as in `blocks`, with
  partition 3 for Spare; 0 for a block that does. -/
  remap : Table Nat := []
  /-- Cellar slots whose copy was found uncorrectable since boot (R334, R354). -/
  badSlots : List Nat := []
  /-- Save areas A and B of Meta for KIND 2 and 4 (R345). -/
  areaA : Option SaveRecord := none
  areaB : Option SaveRecord := none
  /-- Service-open records, newest first, and release records (R262, R265). -/
  opens : List OpenRec := []
  released : List ReleaseRec := []
  /-- ROLE records, newest first (R439). -/
  roles : List RoleRec := []
  /-- Key store: key identity by slot (R356); 0 where the slot holds no key. -/
  keys : Table Nat := []
  /-- Identity of the next key drawn from the random source (R356, R357). -/
  nextKey : Nat := 1
  /-- CEL_STATUS.META_LOADED (R342). -/
  metaLoaded : Bool := false
  /-- CEL_STATUS.RECLAIM (R347). -/
  reclaim : Bool := false
  /-- CEL_CTL.PAD_US, .GC_LOW. -/
  padUs : Nat := 1000
  gcLow : Nat := 8
  /-- CEL_SPARE.THRESH (R351). -/
  spareThresh : Nat := 8
  /-- CEL_TPROG: slowest recent programs, µs (the last 1,024 of each kind, newest first). -/
  tlcUs : List Nat := []
  pslcUs : List Nat := []
  /-- CEL_DECODE.SOFT, .SHIFTED; CEL_UE (R334). -/
  soft : Nat := 0
  shifted : Nat := 0
  ue : Nat := 0
  /-- CEL_RETIRED.PROG, .ERASE (R350). -/
  retiredProg : Nat := 0
  retiredErase : Nat := 0
  /-- CEL_PATROL.PERIOD_D, .AGE_D, .LATE, .PASSES; position; pass start (R352). -/
  patrolD : Nat := 30
  ageD : Nat := 180
  patrolLate : Bool := false
  patrolPasses : Nat := 0
  patrolDie : Nat := 0
  patrolBlock : Nat := 0
  patrolRun : Bool := false
  patrolStart : Nat := 0
  /-- Rescue watches on tiles (R354). -/
  watches : List Nat := []
  /-- Rooms whose kept record is disregarded after JOURNAL_LOST (R343). -/
  lostRooms : List Nat := []
  /-- Keys of the Vestibule blocks that failed a program of a save and are retired after it (R350). -/
  retireAfterSave : List Nat := []
  deriving DecidableEq, Repr

end Sys2Proof.Machine
end

