-- ==== Sys2Proof/Machine/TypesPlan.lean ====
section
/-! DEFINITION. The Floor Plan as plain data: Wings of 02_floor_plan (Tables 02-3 to 02-10), and the state of the
Floor Plan loader FPL. The value after `:=` is the factory default of the Wing tables (R47, R66). -/

namespace Sys2Proof.Machine

/-- Topology Wing (R49, Table 02-3). -/
structure Topology where
  subchMask : Nat := 0
  physRanks : Nat := 1
  stack : Nat := 1
  devWidth : Nat := 4
  dieGbit : Nat := 16
  speed : Nat := 4800
  seedValid : Nat := 0
  /-- 16 training seeds of 16 bytes (R124). -/
  seeds : List (List Byte) := []
  deriving DecidableEq, Repr

/-- Layout Wing (R51, Table 02-4). The partition sizes default to those of the -4T. -/
structure Layout where
  ilWays : Nat := 1
  ilGran : Nat := 2
  persRooms : Nat := 0
  volRooms : Nat := 0
  cellarGib : Nat := 2816
  vestGib : Nat := 1152
  metaGib : Nat := 64
  spareGib : Nat := 64
  deriving DecidableEq, Repr

/-- Suite POLICY (R53, Table 05-5). -/
inductive Policy where
  | persistent | volatile | mirrored | readOnly
  deriving DecidableEq, Repr

/-- Code of a policy (R53). -/
def Policy.code : Policy → Nat
  | .persistent => 0 | .volatile => 1 | .mirrored => 2 | .readOnly => 3

/-- Policy of a code (R53). -/
def Policy.ofCode : Nat → Option Policy
  | 0 => some .persistent | 1 => some .volatile | 2 => some .mirrored | 3 => some .readOnly
  | _ => none

/-- The saved classes (R173). -/
def Policy.saved : Policy → Bool
  | .volatile => false
  | _ => true

/-- A Suite record (R53, Table 02-5). -/
structure SuiteRec where
  id : Nat
  policy : Policy
  priority : Nat
  firstRoom : Nat
  roomCount : Nat
  quota : Nat
  exposure : Nat
  keySlot : Nat
  etPermit : Bool
  mirrorSet : Nat
  name : List Byte
  deriving DecidableEq, Repr

/-- An OCV entry of the Energy Wing (R55). -/
structure OcvEntry where
  tempC : Int
  cellMv : Nat
  socPermille : Nat
  deriving DecidableEq, Repr

/-- Energy Wing (R55, Table 02-6). -/
structure Energy where
  chem : Nat := 0
  cells : Nat := 0
  auth : Nat := 0
  rated : Nat := 0
  vmaxMv : Nat := 0
  vminMv : Nat := 0
  ichgMa : Nat := 0
  idisMa : Nat := 0
  tchgMin : Int := 0
  tchgMax : Int := 0
  tdisMin : Int := 0
  tdisMax : Int := 0
  ocv : List OcvEntry := []
  deriving DecidableEq, Repr

/-- Policy Wing (R57, Table 02-7). -/
structure PolicyWing where
  saveMode : Nat := 0
  stowEn : Bool := false
  etEn : Bool := false
  autoHome : Bool := true
  sweepMs : Nat := 1000
  stallUs : Nat := 2000
  ceilCapGib : Nat := 192
  reservePct : Nat := 15
  serviceYears : Nat := 7
  exerDays : Nat := 30
  exerHour : Nat := 3
  exposeDefault : Nat := 1
  deriving DecidableEq, Repr

/-- Pins Wing (R59, Table 02-8). -/
structure PinsWing where
  indFn : List Nat := [1, 3, 0, 0]
  musterInEn : Bool := true
  musterOutEn : Bool := true
  drive : Nat := 0x05
  slew : Nat := 0x07
  deriving DecidableEq, Repr

/-- Sideband Wing (R60, Table 02-10; the PB timing words default to the Standard-mode values of R594). -/
structure SidebandWing where
  addr : Nat := 0x5A
  mode : Nat := 1
  pec : Bool := false
  timeoutEn : Bool := true
  pbTiming0 : Nat
  pbTiming1 : Nat
  deriving DecidableEq, Repr

/-- An entry of the Faults Wing (R61). -/
structure FaultsEntry where
  block : Nat
  cap : Nat
  grace : Nat
  quiet : Nat
  deriving DecidableEq, Repr

/-- Identity Wing (R62). -/
structure IdentityWing where
  subsysVid : Nat := 0x1F3A
  subsysId : Nat := 0x7824
  maker : List Byte := []
  model : List Byte := []
  moduleSn : List Byte := []
  deriving DecidableEq, Repr

/-- Domain Wing (R63). -/
structure DomainWing where
  memberId : Nat := 0
  slot100ns : Nat := 10
  grantMode : Bool := false
  deriving DecidableEq, Repr

/-- Partner Wing (R64). -/
structure PartnerWing where
  sets : Nat := 0
  klMax : Nat := 2
  klMin : Nat := 1
  home : Nat := 0
  deriving DecidableEq, Repr

/-- A whole Floor Plan as the part uses it (R42 to R65). -/
structure Plan where
  topo : Topology := {}
  layout : Layout := {}
  suites : List SuiteRec := []
  energy : Energy := {}
  policy : PolicyWing := {}
  pins : PinsWing := {}
  sideband : SidebandWing
  faults : List FaultsEntry := []
  identity : IdentityWing := {}
  domain : DomainWing := {}
  partner : PartnerWing := {}
  /-- A Lock Wing with LOCK_WORD is present (R65). -/
  lock : Bool := false
  /-- Header CRC (R43, R44). -/
  crc : Nat := 0
  /-- 1 when translated from format 1 (R67). -/
  srcFmt1 : Bool := false
  deriving DecidableEq, Repr

/-- A plan in process or held: the plan, its stored bytes, and the slot it was sealed in (R70, R77). -/
structure HeldPlan where
  plan : Plan
  slot : Nat
  deriving DecidableEq, Repr

/-- The Floor Plan loader FPL (02_floor_plan R69 to R78). -/
structure Fpl where
  /-- The plan in force; the factory default until a boot loads another (R66, R69). -/
  plan : Plan
  /-- The slot that the plan in force was loaded from; none while the factory default is (R70). -/
  slot : Option Nat := none
  /-- FPL_STATUS.PENDING with the pending plan: sealed, structural, waits for boot (R73). -/
  pending : Option HeldPlan := none
  /-- FPL_STATUS.LIVE_HELD with the held plan: live, waits for its apply point (R75). -/
  liveHeld : Option HeldPlan := none
  /-- FPL_STATUS.SANITIZED (R73). -/
  sanitized : Bool := false
  /-- FPL_STATUS.DEFAULT (R69). -/
  isDefault : Bool := false
  /-- FPL_STATUS.LAST_CODE (Table 02-12). -/
  lastCode : Nat := 0
  /-- FPL_REJECT.CODE, FPL_REJECT.WING, FPL_REJECT_OFS (R68). -/
  rejCode : Nat := 0
  rejWing : Nat := 0
  rejOfs : Nat := 0
  /-- FPL_LIVE_COUNT: apply points since boot (R74). -/
  liveCount : Nat := 0
  deriving DecidableEq, Repr

end Sys2Proof.Machine
end

