-- ==== Sys2Proof/Machine/TypesChart.lean ====
section
/-! DEFINITION. Plain data of the Chart CHT, the Suite table SUI and the stow engine STW
(05_rooms_suites_chart, 06_stowing_ceiling). The value after `:=` is the value at reset. -/

namespace Sys2Proof.Machine

/-- Bits [1:0] of a tile's state (R188, Table 05-4). In a volatile Room `clean` is the code of Unwritten and
`dirty` the code of Live. -/
inductive TileSt where
  | clean | dirty | stowing | voided
  deriving DecidableEq, Repr

/-- Code of a tile state (Table 05-4). -/
def TileSt.code : TileSt → Nat
  | .clean => 0 | .dirty => 1 | .stowing => 2 | .voided => 3

/-- A tile that counts as dirty: Dirty, Stowing or Voided (R219). -/
def TileSt.counts : TileSt → Bool
  | .clean => false
  | _ => true

/-- The three bits of a tile (R188). -/
structure Tile where
  st : TileSt := .clean
  touched : Bool := false
  deriving DecidableEq, Repr

/-- CLASS of a Chart entry (Table 05-1). -/
inductive RoomClass where
  | unassigned | persistent | volatile | mirrored | readOnly
  deriving DecidableEq, Repr

/-- Code of a class (Table 05-1). -/
def RoomClass.code : RoomClass → Nat
  | .unassigned => 0 | .persistent => 1 | .volatile => 2 | .mirrored => 3 | .readOnly => 4

/-- The saved classes (R173). -/
def RoomClass.saved : RoomClass → Bool
  | .persistent | .mirrored | .readOnly => true
  | _ => false

/-- Class of a Suite's Rooms (Table 05-1, Table 05-5). -/
def RoomClass.ofPolicy : Policy → RoomClass
  | .persistent => .persistent | .volatile => .volatile | .mirrored => .mirrored
  | .readOnly => .readOnly

/-- A Chart entry (R176, Table 05-1). -/
structure ChartEntry where
  suiteId : Nat := 0
  cls : RoomClass := .unassigned
  impaired : Bool := false
  mapStale : Bool := false
  dirtyCnt : Nat := 0
  stowingCnt : Nat := 0
  poisonAny : Bool := false
  poisonTile : Bool := false
  poisonUnlisted : Bool := false
  poisonCnt : Nat := 0
  /-- MAP_PTR; none is 0xFFFF_FFFF. -/
  mapPtr : Option Nat := none
  /-- GEN of the record in force; MAP_GEN shows bits [31:0] (R179). -/
  mapGen : Nat := 0
  deriving DecidableEq, Repr

/-- The Chart block CHT (05_rooms_suites_chart). -/
structure Cht where
  /-- Chart entries by Room (R176). -/
  entries : Table ChartEntry := []
  /-- Tile states by global tile index (R188). -/
  tiles : Table Tile := []
  /-- CHT_STATUS.BUILT (R177). -/
  built : Bool := false
  /-- Rooms whose re-read of the Room map runs (R182); CHT_STATUS.REBUILD_BUSY while any. -/
  rereads : List Nat := []
  /-- CHT_DIRTY_TOTAL, CHT_STOWING_TOTAL (R178). -/
  dirtyTotal : Nat := 0
  stowingTotal : Nat := 0
  /-- CHT_REBUILDS.ENTRY, .TSTATE. -/
  rebuildsEntry : Nat := 0
  rebuildsTstate : Nat := 0
  /-- CHT_ROOM_SEL.ROOM and its snapshot: entry words and tile-state words (R206). -/
  sel : Nat := 0
  snapEntry : List Word := []
  snapTiles : List Word := []
  deriving DecidableEq, Repr

/-- A Suite context (SUI, R194 to R209). -/
structure SuiteCtx where
  /-- Configuration from the plan in force (R201, R202). -/
  cfg : SuiteRec
  /-- ROOM_COUNT above 0. -/
  enabled : Bool
  /-- SUI_DIRTY, SUI_STOWING (R178). -/
  dirty : Nat := 0
  stowing : Nat := 0
  /-- SUI_FLAGS.ARMED, .EXPOSED, .SINGLE. -/
  armed : Bool := false
  exposed : Bool := false
  single : Bool := false
  /-- ARMED stays clear until the next Reckoning after a context error (R208). -/
  armHold : Bool := false
  /-- SUI_EVENTS (R234, R235). -/
  exposeCount : Nat := 0
  boundCount : Nat := 0
  /-- EXPOSED_SINCE (Table 03-9). -/
  exposedSince : Nat := 0
  /-- ET_PERMIT in force when the present restore began (R199). -/
  etAtRestore : Bool := false
  deriving DecidableEq, Repr

/-- A stalled claim (R231 to R234): the host write of a tag, or the write of a Dumbwaiter channel. -/
structure StalledClaim where
  /-- Host tag, or none for a Dumbwaiter channel. -/
  hostTag : Option Nat
  /-- Dumbwaiter channel when not a host write. -/
  channel : Nat
  tile : Nat
  suite : Nat
  /-- Almanac time at which it stalled. -/
  start : Nat
  /-- STALL_US in force when it stalled. -/
  bound : Nat
  deriving DecidableEq, Repr

/-- The stow engine STW (06_stowing_ceiling). -/
structure Stw where
  /-- STW_CTL.PRESS_PCT, .MAX_STOWING. -/
  pressPct : Nat := 75
  maxStowing : Nat := 512
  /-- STW_CTL.PRESSED (R239). -/
  pressed : Bool := false
  /-- STW_RATE.MAX_TPS. -/
  maxTps : Nat := 45000
  /-- Stow starts in the present second, and STW_RATE.START_TPS of the last whole second. -/
  startsSecond : Nat := 0
  secondNo : Nat := 0
  lastTps : Nat := 0
  /-- Stow starts in the present 1 ms and its number (R224). -/
  startsMs : Nat := 0
  msNo : Nat := 0
  /-- STW_REK_CEIL.TILES, .FULL_OK (R229, R230). -/
  rekCeil : Nat := 0
  fullOk : Bool := false
  /-- STW_SWEEP.PERIOD_MS, .PASSES; next Room of the sweep (R222). -/
  sweepMs : Nat := 0
  passes : Nat := 0
  sweepRoom : Nat := 0
  /-- Candidate queues of tiles, oldest first (R223). -/
  urgent : List Nat := []
  normal : List Nat := []
  /-- STW_CAND_DROP, STW_CONFIRMED, STW_VOIDED, STW_STOW_ERR.FAIL, .STRAY. -/
  candDrop : Nat := 0
  confirmed : Nat := 0
  voidedCnt : Nat := 0
  failCnt : Nat := 0
  strayCnt : Nat := 0
  /-- Stalled claims, in the order in which they stalled (R233). -/
  stalled : List StalledClaim := []
  /-- STW_STALL.BOUND_HITS. -/
  boundHits : Nat := 0
  /-- Suites whose claims reached their bound in the present 1 ms window (R234). -/
  windowSuites : List Nat := []
  /-- STW_STALL_MAX.US. -/
  stallMax : Nat := 0
  /-- Wear Allowance bucket, tiles, and the accrual remainder in tiles × 86,400 (R241). -/
  bucket : Nat := 0
  accrualRem : Nat := 0
  /-- STW_WEAR_BUCKET.EMPTY (R243). -/
  bucketEmpty : Bool := false
  /-- STW_WEAR_ACCRUAL.TILES: the daily accrual (R240). -/
  accrual : Nat := 0
  /-- Bucket value kept in the Attic and its Almanac time (R242); none before the first write. -/
  bucketStored : Option (Nat × Nat) := none
  /-- STW_WEAR_PROJ.USED_PCT, .ELAPSED_PCT, .RUN, .SHORT; consecutive comparisons within the limit (R244). -/
  usedPct : Nat := 0
  elapsedPct : Nat := 0
  overRun : Nat := 0
  underRun : Nat := 0
  wearShort : Bool := false
  deriving DecidableEq, Repr

end Sys2Proof.Machine
end

