-- ==== Sys2Proof/Machine/TypesDmw.lean ====
section
/-! DEFINITION. Plain data of the Dumbwaiter DMW (13_dumbwaiter). The value after `:=` is the value at
reset. -/

namespace Sys2Proof.Machine

/-- Channel states (DMW_CH_STAT.STATE). -/
inductive ChState where
  | off | run | paused | halted | fenced
  deriving DecidableEq, Repr

/-- Code of a channel state. -/
def ChState.code : ChState → Nat
  | .off => 0 | .run => 1 | .paused => 2 | .halted => 3 | .fenced => 4

/-- A descriptor as the part reads it from the ring (R477, Table 13-1). -/
structure Descriptor where
  op : Nat
  flags : Nat
  rsv1 : Nat
  len : Nat
  srcSuite : Nat
  dstSuite : Nat
  rsv2 : Nat
  srcOfs : Nat
  dstOfs : Nat
  pattern : Nat
  cookie : Nat
  deriving DecidableEq, Repr

/-- The descriptor in progress on a channel (R490). -/
structure DescRun where
  d : Descriptor
  /-- Cursor: bytes covered by completed steps (R490). -/
  cursor : Nat := 0
  /-- The present step has been granted (R491), and its bytes done so far. -/
  granted : Bool := false
  stepDone : Nat := 0
  /-- RESULT0 and RESULT1 counted by completed steps, and by the present step; CRC state of a CHECK (Table 13-2). -/
  res0 : Nat := 0
  res1 : Nat := 0
  add0 : Nat := 0
  add1 : Nat := 0
  crc : Word := 0xFFFFFFFF
  /-- Status with which it will complete; none while it runs (R498). -/
  status : Option Nat := none
  /-- Watches of a CHECK VERIFY on the tiles of its step (R489). -/
  watch : List Nat := []
  /-- The tile of a STOW whose stow it awaits (R497). -/
  waitTile : Option Nat := none
  /-- The claim of the next write has been granted (R484). -/
  claimed : Bool := false
  /-- What a FETCH step writes: the image of its source tile (R488). -/
  image : Image := {}
  /-- The slot that a FETCH step reads, live until the step ends (R488). -/
  slot : Option Nat := none
  deriving DecidableEq, Repr

/-- One channel (R475 to R500). -/
structure Channel where
  st : ChState := .off
  /-- DMW_CH_CTL.SIZE, .PRIO. -/
  size : Nat := 8
  prio : Nat := 0
  /-- DMW_CH_HEAD, DMW_CH_TAIL (R475). -/
  head : Nat := 0
  tail : Nat := 0
  /-- Descriptor in progress. -/
  run : Option DescRun := none
  /-- PAUSE, RESET written and waiting for the step boundary (R491, R499). -/
  pausePend : Bool := false
  resetPend : Bool := false
  /-- DMW_CH_STAT.LAST_STATUS, .STALLED, .HELD, .ENTRIES. -/
  lastStatus : Nat := 0
  stalled : Bool := false
  held : Bool := false
  /-- Tiles not restored yet that the held step reads (08_startup_restore R312). -/
  heldReads : List Nat := []
  /-- Their number among the accesses that the restore holds (08_startup_restore R312). -/
  arrival : Nat := 0
  entries : Nat := 0
  /-- DMW_CH_WIN.SUITE_LO, .SUITE_HI, .RO_WRITE (R482). -/
  winLo : Nat := 0
  winHi : Nat := 0
  roWrite : Bool := false
  /-- DMW_CH_FENCE_IDX, DMW_CH_FENCE_CUR, of the always-on domain (R492). -/
  fenceIdx : Nat := 0
  fenceValid : Bool := false
  fenceCur : Nat := 0
  /-- DMW_CH_DONE.COUNT. -/
  done : Nat := 0
  deriving DecidableEq, Repr

/-- The Dumbwaiter DMW (13_dumbwaiter). -/
structure Dmw where
  ch : Vector Channel 16 := Vector.replicate 16 {}
  /-- The ring store, BAR2, by byte offset (R474). -/
  ring : Table Byte := []
  /-- Ring store bytes that are marked uncorrectable (Table 15-6 row 10). -/
  ringBad : Table Bool := []
  /-- DMW_ENTRIES.PEAK. -/
  peak : Nat := 0
  /-- Channel granted last at each PRIO, for the rotation of R491. -/
  lastGrant : Vector Nat 4 := Vector.replicate 4 15
  deriving DecidableEq, Repr

end Sys2Proof.Machine
end

