-- ==== Sys2Proof/Machine/TypesDram.lean ====
section
/-! DEFINITION. Plain data of the DRAM controller DRC (04_dram): subchannels, queues, refresh, calibration,
patrol, correction budget; and of the DRAM array itself. The value after `:=` is the value at reset. -/

namespace Sys2Proof.Machine

/-- Who waits for a DRAM request, and what the request does. -/
inductive DrcKind where
  /-- Read of one beat for a master. -/
  | read
  /-- Write of one beat. `hostTag` names the host tracker entry that the write releases (R95). -/
  | write (w : BeatWrite) (hostTag : Option Nat)
  deriving DecidableEq, Repr

/-- A queued DRAM request (R132 to R136). -/
structure DrcReq where
  /-- Master ID (R133). -/
  src : Nat
  /-- Global beat index. -/
  beat : Nat
  /-- Order of issue among all requests of the DRC (R134). -/
  seq : Nat
  /-- Order in which it took its entry of the pool; none while it waits at its source for one (R132, R133, R135). -/
  entered : Option Nat
  kind : DrcKind
  deriving DecidableEq, Repr

/-- A read whose column command has issued and whose data has not returned (R134, R157). -/
structure ReadFlight where
  src : Nat
  beat : Nat
  seq : Nat
  /-- The beat and its mark as the array held them when the command issued. -/
  data : List Byte
  mark : Bool
  /-- A write to the beat has entered the bank queue since (R161, R163). -/
  overtaken : Bool
  deriving DecidableEq, Repr

/-- One bank: its open row, the column commands issued to it since its activate, and the time, ns of the subchannel's clock, of the
sampled activate for which it owes a directed refresh management command (R138, R149, R150). -/
structure Bank where
  openRow : Option Nat := none
  hitStreak : Nat := 0
  owesRfm : Option Nat := none
  deriving DecidableEq, Repr

/-- One bank index of one logical rank: due time in ns of the subchannel's clock, and catch-up (R143, R147). -/
structure RefreshIdx where
  due : Int := 0
  catchup : Bool := false
  deriving DecidableEq, Repr

/-- A calibration that is due and has not run: put off while the real-time port is urgent or panic, or behind work of a higher
class (R131, R137). -/
structure DeferredCal where
  /-- 0 ZQ, 1 DQS oscillator, 2 temperature recentring (Table 04-5). -/
  kind : Nat
  /-- Almanac time, and time of the subchannel's clock in ns, at which it fell due. -/
  since : Nat
  sinceNs : Nat
  deriving DecidableEq, Repr

/-- One subchannel (04_dram). -/
structure Subch where
  /-- SC_STATUS.TRAINED, .FAILED, .SELFREF (R126, R151). -/
  trained : Bool := false
  failed : Bool := false
  selfRef : Bool := false
  /-- SC_STATUS.TRIES, .SEED_SRC (R125, R126). -/
  tries : Nat := 0
  seedSrc : Nat := 0
  /-- SC_TRAIN0 to SC_TRAIN3: the trained record of 16 bytes (R124). -/
  train : List Byte := []
  /-- RDQS_FINE as training found it: the centre of the trained window (R131). -/
  trainFine : Nat := 0
  /-- Requests issued to the subchannel, oldest first: those that hold an entry of its pool and those that wait for one (R132). -/
  queue : List DrcReq := []
  /-- Reads that have issued and not returned, oldest first (R134). -/
  flight : List ReadFlight := []
  /-- A copy-beat access has asked for the exit from self-refresh (R153). -/
  wake : Bool := false
  /-- Banks, by (logical rank, bank group, bank) numbered in rotation order (R138). -/
  banks : Table Bank := []
  /-- Bank last activated by the rotating pick (R138). -/
  lastBank : Nat := 0
  /-- Write drain (R139). -/
  draining : Bool := false
  /-- Time of the subchannel's refresh clock, ns (R143). -/
  clockNs : Nat := 0
  /-- Refresh due times by logical rank × 4 + bank index (R143). -/
  refresh : Table RefreshIdx := []
  /-- Logical ranks at double rate (R146); the register shows it as SC_STATUS.RATE_2X. -/
  rate2x : List Nat := []
  /-- MR4 temperature band last read, by logical rank (R130). -/
  bands : List (Nat × Nat) := []
  /-- SC_DEBT.PEAK_NS. -/
  debtPeak : Nat := 0
  /-- SC_ERR.CE, .UE (R159, R161). -/
  ce : Nat := 0
  ue : Nat := 0
  /-- Deferred calibrations (R131). -/
  deferred : List DeferredCal := []
  /-- Forced calibrations that wait for class 1 (R131). -/
  forcedCal : List DeferredCal := []
  /-- Almanac times at which ZQ calibration and the DQS oscillator read last fell due, and of the last MR4 read by logical rank
  (R130, R146). -/
  zqAt : Nat := 0
  dqsAt : Nat := 0
  mr4At : List (Nat × Nat) := []
  /-- Almanac time of the last request other than patrol (R151). -/
  lastReq : Nat := 0
  deriving DecidableEq, Repr

/-- The DRAM controller DRC (04_dram). -/
structure Drc where
  subch : Vector Subch 16 := Vector.replicate 16 {}
  /-- Next order number of a request (R134). -/
  nextSeq : Nat := 0
  /-- DRC_SCHED.WR_HI, .WR_LO, .ROW_HIT_CAP (R138, R139). -/
  wrHi : Nat := 48
  wrLo : Nat := 16
  rowHitCap : Nat := 4
  /-- DRC_RTLVL.URGENT, .PANIC (R140). -/
  urgent : Nat := 64
  panic : Nat := 96
  /-- DRC_REFCTL.LIMIT, .PULLIN, .FORCE_2X, .MR4_MS (R144 to R146). -/
  refLimit : Nat := 4
  pullin : Nat := 2
  force2x : Bool := false
  mr4Ms : Nat := 32
  /-- DRC_REFCNT.FORCED, .CATCHUP. -/
  forced : Nat := 0
  catchups : Nat := 0
  /-- DRC_NRF.LOG2N (R149). -/
  nrfLog2n : Nat := 11
  /-- DRC_CAL.ZQ_MS, .DQSOSC_MS, .DEFER_MS (R130, R131). -/
  zqMs : Nat := 128
  dqsMs : Nat := 32
  deferMs : Nat := 10
  /-- DRC_SR.IDLE_US (R151). -/
  srIdleUs : Nat := 0
  /-- DRC_PATROL.PERIOD_H, .REPAIR, .LATE (R162 to R164). -/
  patrolH : Nat := 24
  patrolRepair : Bool := true
  patrolLate : Bool := false
  /-- DRC_PATROL_POS: beat index of the next paced beat; the register shows its DPA (R164). -/
  patrolBeat : Nat := 0
  /-- Beat index of the Scan Media patrol (R164). -/
  scanBeat : Nat := 0
  /-- Almanac time at which the present patrol pass began; none before its first beat (R164). -/
  passStart : Option Nat := none
  /-- DRC_CE_PERS, DRC_CE_VOL, DRC_UE (R159, R161). -/
  cePers : Nat := 0
  ceVol : Nat := 0
  ueCount : Nat := 0
  /-- DRC_BUDGET.LIMIT (R166). -/
  budget : Nat := 1024
  /-- DRC_BUDGET_HIT: the first device over budget: subchannel, physical rank, logical rank, device (R166). -/
  budgetHit : Option (Nat × Nat × Nat × Nat) := none
  /-- Corrections per device in the present pass (R165). -/
  devCounts : List ((Nat × Nat × Nat × Nat) × Nat) := []
  /-- The devices that have exceeded their budget in the present pass (R166, Table 16-5 row 0). -/
  overDevs : List (Nat × Nat × Nat × Nat) := []
  /-- Almanac time at which the 24 h count began: the boot, the write that put PERIOD_H to 0, or the end of the last count (R165). -/
  dayStart : Nat := 0
  /-- Beats to which a write has entered the bank queue since a copy that is still in the making read them (R161). -/
  lateBeats : List Nat := []
  /-- The recheck of Warm Return failed on a subchannel (R154). -/
  recheckFailed : Bool := false
  /-- DRAM rails valid (R672); training may run. -/
  railsValid : Bool := false
  deriving DecidableEq, Repr

/-- The DRAM array: bytes in canonical form over a default of 0, and the beats that carry the poison mark
(R158). -/
structure Dram where
  bytes : Table Byte := []
  poison : Table Bool := []
  deriving DecidableEq, Repr

end Sys2Proof.Machine
end

