-- ==== Sys2Proof/Machine/TypesEcc.lean ====
section
/-! DEFINITION. Plain data of the on-chip integrity block ECC (15_onchip_integrity) and of the two two-wire
ports TWS and TWP (17_two_wire_ports). The value after `:=` is the value at reset. -/

namespace Sys2Proof.Machine

/-- A stored byte: data and check group c4..c0 (R531). -/
structure CodedByte where
  data : Byte := 0
  chk : BitVec 5 := 0
  deriving DecidableEq, Repr

/-- The integrity block ECC (15_onchip_integrity). -/
structure Ecc where
  /-- ECC_SCRUB.SRAM_MIN, .ATTIC_H. -/
  sramMin : Nat := 10
  atticH : Nat := 24
  /-- ECC_SRAM_ERR.CE, .REPAIRED (R538, R542). -/
  ce : Nat := 0
  repaired : Nat := 0
  /-- ECC_SRAM_UE.DEMAND, .SCRUB (R539, R542). -/
  demandUe : Nat := 0
  scrubUe : Nat := 0
  /-- ECC_PASS.SRAM, .ATTIC (R541, R544). -/
  sramPasses : Nat := 0
  atticPasses : Nat := 0
  /-- ECC_PARITY.COUNT, .LAST_MSTR (R535). -/
  parity : Nat := 0
  parityMstr : Nat := 0
  /-- ECC_ATTIC_ERR.CE, .LOSS (R544). -/
  atticCe : Nat := 0
  atticLoss : Nat := 0
  /-- SRAM patch entries: SRAM address / 8, by entry (R548). -/
  spatch : List Nat := []
  /-- Attic patch entries: window offset / 8 and the value that a read returns (R549). -/
  apatch : List (Nat × Dword) := []
  /-- Words in which the present and the previous SRAM pass found an error (R548). -/
  errNow : List Nat := []
  errPrev : List Nat := []
  /-- Next SRAM word of the scrubber, address / 8 (R541). -/
  sramPos : Nat := 0
  /-- Almanac time of its last read (R541). -/
  sramAt : Nat := 0
  /-- SRAM bytes that a parity error has left marked uncorrectable, outside the test window and the ring store (R535, R537). -/
  marked : Table Bool := []
  /-- Words of each bank that the Attic scrubber has read in its pass; a pass is in progress; its start (R544). -/
  atticPos0 : Nat := 0
  atticPos1 : Nat := 0
  atticRun : Bool := false
  atticStart : Nat := 0
  /-- Sectors recovered in the present Attic pass (Table 15-7), by index. -/
  passRecovered : List Nat := []
  /-- A RECOVER that waits until neither bank has an operation: bank and sector (R545). -/
  recoverWait : List (Nat × Nat) := []
  /-- ECC_STATUS.TEST_BUSY (R552). -/
  testBusy : Bool := false
  /-- ECC_TEST_CTL.KIND, .WORD, .PAR_MASK, .RESULT (R551). -/
  kind : Bool := false
  word : Nat := 0
  parMask : Byte := 0
  result : Nat := 0
  /-- ECC_TEST_DATA and ECC_TEST_CHK. -/
  testData : Dword := 0
  chkLo : BitVec 30 := 0
  chkHi : BitVec 10 := 0
  /-- The test window: stored bytes by offset (R534 REGION 8, R551). -/
  window : Table CodedByte := []
  /-- Cores held in reset for a reload, by master ID, until the Almanac time given (R540). -/
  reload : List (Nat × Nat) := []
  deriving DecidableEq, Repr

/-- The sideband target TWS (17_two_wire_ports R577 to R593). -/
structure Tws where
  /-- TWS_CTL.SLEEP_MS (R581). -/
  sleepMs : Nat := 100
  /-- Mode, PEC and timeout enable in use, taken up at a START (R579). -/
  mode : Nat := 1
  pec : Bool := false
  timeoutEn : Bool := true
  /-- TWS_STAT.SLEEPING, .BUSY. -/
  sleeping : Bool := false
  busy : Bool := false
  /-- TWS_STAT.CLK_LOW_TO, .DATA_LOW_TO, .PROTO, .PEC_ERR, .OVERLONG (R585 to R593). -/
  clkLowTo : Bool := false
  dataLowTo : Bool := false
  proto : Bool := false
  pecErr : Bool := false
  overlong : Bool := false
  /-- TWS_STAT.PAGE, .POINTER (R583). -/
  page : Byte := 0
  pointer : Byte := 0
  /-- TWS_COUNT.XFERS, .WAKE_NAK. -/
  xfers : Nat := 0
  wakeNak : Nat := 0
  /-- TWS_ALERT.STATUS, .MASK, .ARA_HELD (R588 to R590). -/
  alert : Byte := 0
  mask : Byte := 0x1E
  araHeld : Bool := false
  /-- RD_LEN of page 0x04 (Table 17-4). -/
  rdLen : Nat := 4
  /-- Almanac time of the last START (R581), and of the START that woke the target (R582). -/
  startAt : Nat := 0
  wokeAt : Option Nat := none
  /-- After a protocol error the bus is ignored until a STOP (R593). -/
  ignoring : Bool := false
  deriving DecidableEq, Repr

/-- A pack-bus transaction that failed and waits for its retry (R597). -/
structure PbPending where
  /-- Command of Table 10-5. -/
  cmd : Nat
  /-- Failures so far. -/
  fails : Nat
  failedAt : Nat
  deriving DecidableEq, Repr

/-- The pack-bus controller TWP (R594 to R602). -/
structure Twp where
  /-- TWP_STAT.BUSY, .BUSHUNG (R601). -/
  busy : Bool := false
  bushung : Bool := false
  /-- TWP_STAT.CLK_LOW_TO, .ARB_LOST, .ARB_COND, .PROTO, .XFER_FAIL. -/
  clkLowTo : Bool := false
  arbLost : Bool := false
  arbCond : Bool := false
  proto : Bool := false
  xferFail : Bool := false
  /-- TWP_COUNT.XFERS, .RETRIES, .CLEARS. -/
  xfers : Nat := 0
  retries : Nat := 0
  clears : Nat := 0
  /-- Failed transaction that waits for its retry (R597). -/
  pending : Option PbPending := none
  /-- A bus clear is owed before the next transaction: at boot, after a block reset, or SDA is low (R598, R601). -/
  clearOwed : Bool := true
  deriving DecidableEq, Repr

end Sys2Proof.Machine
end

