-- ==== Sys2Proof/Machine/TypesGauge.lean ====
section
/-! DEFINITION. Plain data of the gauge GAU and the Reckoning REK (11_gauge_reckoning). Charges are kept in
µC, energies in mJ, resistances in 0.1 mΩ. The value after `:=` is the value at reset. -/

namespace Sys2Proof.Machine

/-- A pack profile record in the Attic (R378, Table 11-4). -/
structure PackProfile where
  serial : Option (List Byte) := none
  cls : Nat := 0
  learned : Bool := false
  /-- Q_L in mAh or C_L in mF. -/
  cap : Nat := 0
  res25 : Nat := 0
  resFirst : Nat := 0
  /-- SOC_C and U at the time of writing, per mille. -/
  socC : Nat := 0
  u : Nat := 0
  /-- Almanac times of the last reference, learning sample and insertion. -/
  tRef : Nat := 0
  tLearn : Nat := 0
  tSeen : Nat := 0
  /-- GAU_LEARN.QUALIFIED, .DISQUALIFIED of the profile. -/
  qualified : Nat := 0
  disqualified : Nat := 0
  /-- Almanac time of the last derating (R410). -/
  derateAt : Nat := 0
  deriving DecidableEq, Repr

/-- The unit's save-cost record (R412, R413, Table 11-4). -/
structure CostRecord where
  stowedHist : List Nat := []
  fullHist : List Nat := []
  fMeas : Nat := 0
  deriving DecidableEq, Repr

/-- A learning cycle that is open (R406, R407). -/
structure LearnRun where
  /-- SOC in 1/1,000 ‰ (cells) or V_OC in mV (supercapacitor) at its start. -/
  from_ : Nat
  /-- Charge counted in and out since its start, nC (R399). -/
  inNc : Nat := 0
  outNc : Nat := 0
  /-- 0 not disqualified, else the code of GAU_LEARN.LAST_DQ (R407). -/
  dq : Nat := 0
  /-- It runs over an Exercise (R406). -/
  exercise : Bool := false
  deriving DecidableEq, Repr

/-- A current step whose resistance sample is due 10 ms later (R411). -/
structure StepMark where
  at_ : Nat
  mv : Nat
  ma : Int
  deriving DecidableEq, Repr

/-- The pack current held between two samples, mA (R407). -/
structure RateSeg where
  from_ : Nat
  end_ : Nat
  ma : Int
  deriving DecidableEq, Repr

/-- The gauge GAU (R395 to R413). -/
structure Gau where
  /-- GAU_STATUS.REF_VALID; the rest condition holds since; GAU_STATUS.REST_WINDOW with its start (R398, R402). -/
  refValid : Bool := false
  restSince : Option Nat := none
  restWindow : Option Nat := none
  /-- GAU_STATUS.DISAGREE, .STALE (R401, R403). -/
  disagree : Bool := false
  stale : Bool := false
  /-- SOC_C at the start of the count, and U there, in 1/1,000 ‰ (R398, R404). -/
  socRef : Nat := 0
  u0 : Nat := 0
  /-- Almanac time of that start (R399). -/
  uAt : Nat := 0
  /-- Charge counted in and out of the pack since then, nC (R399). -/
  inNc : Nat := 0
  outNc : Nat := 0
  /-- The first reading after an insertion is awaited: true when the gap before it was a rest (R404). -/
  starting : Option Bool := none
  /-- Almanac time of the last reference (GAU_REF_TIME), and the time from which staleness counts (R403). -/
  refAt : Nat := 0
  staleFrom : Nat := 0
  /-- Profile values in use: Q_L in mAh or C_L in mF, RES_25, RES_FIRST in 0.1 mΩ, learned (R408). -/
  cap : Nat := 0
  res25 : Nat := 0
  resFirst : Nat := 0
  learned : Bool := false
  /-- RES_25 at the last record write (R412). -/
  resStored : Nat := 0
  /-- Almanac time of the last qualified sample, and of the last derating (R410). -/
  learnAt : Nat := 0
  derateAt : Nat := 0
  /-- GAU_LEARN.QUALIFIED, .DISQUALIFIED, .LAST_DQ. -/
  qualified : Nat := 0
  disqualified : Nat := 0
  lastDq : Nat := 0
  learn : Option LearnRun := none
  /-- The current of the last 20 s, newest first, for the rate condition of R407. -/
  rate : List RateSeg := []
  /-- GAU_CTL.PULSE_EN; a FORCE_REF that waits for phase 4 (R402). -/
  pulseEn : Bool := true
  forceRef : Bool := false
  /-- An Exercise has ended and its closing reference is wanted (R409). -/
  exerRef : Bool := false
  /-- Almanac time of the last window opened for want of a reference (R402). -/
  windowAt : Option Nat := none
  /-- Almanac time of the last daily pulse; a pulse after an insertion is due; end of the pulse that runs (R411). -/
  pulseAt : Option Nat := none
  pulseDue : Bool := false
  /-- The pack inserted last has not authenticated yet: its pulse follows when it does (R411). -/
  pulseOwed : Bool := false
  pulseEnd : Option Nat := none
  step : Option StepMark := none
  /-- A Disagreement's event 0x000B waits for the run it triggered (R401). -/
  disagreeEvent : Bool := false
  /-- Pack profiles in the Attic (R378). -/
  profiles : Vector PackProfile 4 := Vector.replicate 4 {}
  /-- The profile of the pack inserted last, not yet stored (R378, R412). -/
  prof : PackProfile := {}
  /-- The unit's cost record in use, and its copy in the Attic (R412, R413). -/
  cost : CostRecord := {}
  costStored : CostRecord := {}
  /-- A record write is due (R412), and the Almanac time of the last one. -/
  storeDue : Bool := false
  storedAt : Nat := 0
  deriving DecidableEq, Repr

/-- An energy grant (R110, R421). -/
structure Grant where
  joules : Nat
  validS : Nat
  seq : Nat
  /-- Almanac time at which it took effect. -/
  at_ : Nat
  deriving DecidableEq, Repr

/-- What one run of the Reckoning gives (R418 to R420, R426). Energies in mJ. -/
structure RekOut where
  /-- REK_STATUS.SOURCE (1 grant), .LIMIT, .FALLBACK, .FULL_OK. -/
  source : Nat := 0
  limit : Nat := 5
  fallback : Bool := false
  fullOk : Bool := false
  /-- The Reckoning ceiling, tiles. -/
  ceiling : Nat := 0
  /-- REK_COST.PER_GIB_MJ, REK_COST_MEAS.F_USED_J, REK_COST_FULL.FULL_MJ. -/
  perGibMj : Nat := 0
  fUsedJ : Nat := 0
  fullMj : Nat := 0
  /-- REK_TEMP.T_NOW, .T_FCAST, quarter °C. -/
  tNow : Int := 0
  tFcast : Int := 0
  /-- REK_PLAN.RATE_MBPS, .POWER_DW. -/
  planRate : Nat := 0
  powerDw : Nat := 0
  /-- E_USE, E_BUDGET, NEED, FULL_NEED; GAU_E_V, GAU_E_C. -/
  eUse : Nat := 0
  eBudget : Nat := 0
  need : Nat := 0
  fullNeed : Nat := 0
  eV : Nat := 0
  eC : Nat := 0
  /-- SAVE_EST_MS (R418). -/
  saveEstMs : Nat := 0
  /-- SOC_V, SOC_C, U in ‰; CAP; RES_25; Disagreement, Stale, unlearned, EOL; pack life (Table 11-7). -/
  socV : Nat := 0
  socC : Nat := 0
  u : Nat := 0
  cap : Nat := 0
  res25 : Nat := 0
  disagree : Bool := false
  stale : Bool := false
  unlearned : Bool := false
  eol : Bool := false
  life : Nat := 0
  /-- The run was triggered by a Disagreement, whose event 0x000B is logged at its end (R401). -/
  logsDis : Bool := false
  /-- SOC_C − U at the run, 1/1,000 ‰ (Table 11-5). -/
  countLow : Int := 0
  deriving DecidableEq, Repr

/-- The Reckoning REK (R414 to R427). -/
structure Rek where
  /-- The outputs of the last run (R420), and of the run in progress (R414). -/
  out : RekOut := {}
  running : Option RekOut := none
  /-- REK_STATUS.EOL, .RUNS. -/
  eol : Bool := false
  runs : Nat := 0
  /-- A run is wanted (R414). -/
  again : Bool := false
  /-- REK_COST.FIXED_J (R416). -/
  fixedJ : Nat := 60
  /-- REK_LAST: Almanac time of the last run. -/
  lastAt : Nat := 0
  /-- Ceiling logged last by event 0x0005 (R420). -/
  loggedCeil : Nat := 0
  /-- REK_EOL.FADE_PCT, .RISE_PCT, .CEIL_PCT, .REASON; consecutive daily evaluations without a condition (R424). -/
  fadePct : Nat := 70
  risePct : Nat := 200
  ceilPct : Nat := 50
  eolReason : Nat := 0
  eolClear : Nat := 0
  /-- Grant in force, and the last SEQ accepted since boot (R110). -/
  grant : Option Grant := none
  lastSeq : Option Nat := none
  deriving DecidableEq, Repr

end Sys2Proof.Machine
end

