-- ==== Sys2Proof/Machine/TypesService.lean ====
section
/-! DEFINITION. Plain data of the service hatch SVC (18_service_update), of power and thermal PWR
(20_power_clocks_thermal), of the TAP (21_package_pins_electrical), of the fuses and of the typed records of
the Attic calibration sectors. The value after `:=` is the value at reset. -/

namespace Sys2Proof.Machine

/-- A package header (R619, Table 18-5). -/
structure PkgHeader where
  magic : Nat
  format : Nat
  kind : Nat
  delta : Bool
  encrypted : Bool
  autoConfirm : Bool
  raiseEpoch : Bool
  variants : Nat
  epoch : Nat
  entries : Nat
  /-- Steward, Purser, Pilot and Keeper image versions. -/
  versions : List Nat
  minFrom : Nat
  setFmt : Nat
  setReadMin : Nat
  icMin : Nat
  icOwn : Nat
  nonceBase : List Byte
  baseDigest : List Byte
  /-- Four digests of 32 bytes. -/
  imageDigest : List (List Byte)
  imageLen : List Nat
  tableDigest : List Byte
  signer : List Byte
  signature : List Byte
  /-- FLAGS, offsets 0x00A, 0x02C and 0x038: a reserved bit or byte is set. -/
  reservedSet : Bool
  deriving DecidableEq, Repr

/-- A chunk-table entry (R621, Table 18-6). -/
structure ChunkEntry where
  op : Nat
  core : Nat
  target : Nat
  len : Nat
  base : Nat
  digest : List Byte
  /-- The reserved bytes at 0x02 are set. -/
  reservedSet : Bool
  deriving DecidableEq, Repr

/-- A package between PKG_BEGIN and PKG_END (R624 to R629). -/
structure PkgRun where
  hdr : PkgHeader
  /-- Bytes of the chunk table received so far, and the next TABLE index (R626). -/
  tableBytes : List Byte := []
  tableNext : Nat := 0
  /-- The table after its last chunk has been checked (R626). -/
  table : Option (List ChunkEntry) := none
  /-- The next DATA index (R627). -/
  dataNext : Nat := 0
  /-- The target object of KIND 2, 3 and 4 by offset (R625). -/
  object : Table Byte := []
  deriving DecidableEq, Repr

/-- A session (SVC_STATUS.SESSION). -/
inductive Session where
  | none | open_ | authenticated
  deriving DecidableEq, Repr

/-- Code of a session state. -/
def Session.code : Session → Nat
  | .none => 0 | .open_ => 1 | .authenticated => 2

/-- An entry of the service key store (R616). -/
structure KeyEntry where
  hash : List Byte
  roles : Nat
  deriving DecidableEq, Repr

/-- An entry of the pack trust store: an ECDSA key hash, or an HMAC key (10_energy_pack R383). -/
structure TrustEntry where
  hmac : Bool
  value : List Byte
  deriving DecidableEq, Repr

/-- The service hatch SVC (R605 to R647). -/
structure Svc where
  /-- SVC_STATUS.PRES: SVC_PRES_N reads low (R606). -/
  pres : Bool := false
  /-- SVC_STATUS.SESSION, .ROLES, .KEY (R612 to R615). -/
  session : Session := .none
  roles : BitVec 4 := 0
  key : Nat := 7
  /-- The tool's HELLO named another major version (R612). -/
  badVersion : Bool := false
  /-- Nonce N_P and ephemeral key Q_P of the session (R612). -/
  nonce : List Byte := []
  ephemeral : List Byte := []
  /-- Session key (R613). -/
  sessionKey : List Byte := []
  /-- SEQ of the last command and the stored response payload (R614). -/
  lastSeq : Option Nat := none
  lastResp : List Byte := []
  /-- Failed AUTH commands of the session; those since the last success that lengthen the lockout (R614). -/
  sessionFails : Nat := 0
  locks : Nat := 0
  /-- AUTH is locked out until this Almanac time; SVC_STATUS.LOCKOUT (R614). -/
  lockedUntil : Option Nat := none
  /-- Almanac time of the last valid command (R615). -/
  lastCmdAt : Nat := 0
  /-- A long operation runs: permille done (R611). -/
  progress : Option Nat := none
  /-- SVC_BANKS.IN_FORCE: bank whose set runs. -/
  inForce : Nat := 0
  /-- The boot ROM has selected a bank and started the cores in this boot: step 2 of Table 08-1 (R634). -/
  selected : Bool := false
  /-- SVC_UPD.PHASE, .KIND, .RESULT, .CHUNKS. -/
  phase : Nat := 0
  kind : Nat := 0
  result : Nat := 0
  chunks : Nat := 0
  /-- The package in progress (R624). -/
  pkg : Option PkgRun := none
  /-- Cores already handed over in the activation in progress: Keeper, Purser, Pilot, Steward (R638). -/
  handed : Nat := 0
  /-- SEQ of an ACTIVATE whose answer waits for the handover's end (R611). -/
  owed : Option Nat := none
  /-- Probation time counted, µs, and the automatic confirmation is pending (R641). -/
  probUs : Nat := 0
  auto : Bool := false
  /-- SVC_CTL.DENY_UPDATE, .AUTO_CONFIRM_EN, .PROBATION_MIN. -/
  denyUpdate : Bool := false
  autoConfirmEn : Bool := true
  probationMin : Nat := 5
  /-- SVC_COUNT.BAD_FRAMES, .AUTH_FAILS. -/
  badFrames : Nat := 0
  authFails : Nat := 0
  /-- Service key store (R616) and pack trust store (R383), of the calibration sectors. -/
  keyStore : List KeyEntry := []
  trustStore : List TrustEntry := []
  deriving DecidableEq, Repr

/-- Power, clocks and thermal PWR (20_power_clocks_thermal). -/
structure Pwr where
  /-- PWR_STATUS.RAILS_VALID, .VPP_ON, .VDD_ON, .FOLDBACK, .REF_PRESENT. -/
  railsValid : Bool := false
  vppOn : Bool := false
  vddOn : Bool := false
  foldback : Bool := false
  /-- A rail has gone below 95 % of its setpoint and is not back within tolerance (R671, R673). -/
  uv : Bool := false
  refPresent : Bool := false
  /-- PWR_DRAM_V.VDD_MV, .VDDQ_MV, .VPP_10MV. -/
  vddMv : Nat := 0
  vddqMv : Nat := 0
  vpp10mv : Nat := 0
  /-- PWR_DRAM_I.VDD_DA, .VDDQ_DA, .VPP_DA. -/
  vddDa : Nat := 0
  vddqDa : Nat := 0
  vppDa : Nat := 0
  /-- PWR_SSC.CORE_DEPTH, .DRAM_DEPTH, .CONV_DEPTH. -/
  coreDepth : Nat := 8
  dramDepth : Nat := 8
  convDepth : Nat := 8
  /-- PWR_TEMP.TJ, .HOTTEST: quarter °C. -/
  tj : Int := 0
  hottest : Nat := 0
  /-- PWR_TEMP_NAND.STACKS, byte k stack k. -/
  stackTemps : Word := 0
  /-- PWR_THROTTLE.STAGE, .DRAM_FORCED, .TJ_MAX, .ENTRIES. -/
  stage : Nat := 0
  dramForced : Bool := false
  tjMax : Int := 0
  entries : Nat := 0
  /-- Almanac time since which the junction has stayed at least 3 °C below the stage's threshold (R683). -/
  coolSince : Option Nat := none
  /-- PWR_POWER.NOW_DW, .PEAK_DW. -/
  nowDw : Nat := 0
  peakDw : Nat := 0
  deriving DecidableEq, Repr

/-- TAP instructions (R696). -/
inductive TapInstr where
  | bypass | idcode | samplePreload | extest | clamp | highz
  deriving DecidableEq, Repr

/-- The TAP (R696, R697). -/
structure Jtag where
  /-- Instruction in effect; IDCODE after test-logic reset, as IEEE 1149.1 requires. -/
  instr : TapInstr := .idcode
  /-- Boundary cells, in scan order. -/
  cells : List Bool := []
  deriving DecidableEq, Repr

/-- The fuses (R663, R613, R620, R623, R629): the unit's identity, keys and epoch. -/
structure Fuses where
  /-- True for a -2T (Table 00-1). -/
  is2T : Bool := false
  /-- True for grade I (Table 00-1). -/
  gradeI : Bool := false
  /-- Six characters, ASCII. -/
  lot : List Byte := List.replicate 6 0x30
  wafer : Nat := 1
  dieX : Int := 0
  dieY : Int := 0
  fab : Nat := 0
  asm : Nat := 0
  /-- Identity records of the Cellar dies, 16 bytes each, in die order. -/
  nandIds : List (List Byte) := []
  /-- Fuse epoch, 0 to 31. -/
  epoch : Nat := 0
  /-- Vendor root hash and vendor firmware key hash. -/
  rootHash : List Byte := []
  fwKeyHash : List Byte := []
  deriving DecidableEq, Repr

/-- Typed records of the calibration sectors (Table 14-1) that no other block's structure holds. -/
structure Calib where
  /-- Training records by subchannel, 16 bytes each, and the Topology Wing that each was found under (04_dram R124,
  R125, R128). -/
  training : Table (List Byte) := []
  trainTopo : List (Nat × Topology) := []
  /-- The Label Storage Area of 64 KiB, over a default of 0xFF (R105; assumption 23). -/
  lsa : Table Byte := []
  /-- Replace reasons kept over power loss (16_fault_stations R570). -/
  reasons : BitVec 6 := 0
  /-- Pending Sanitize or Secure Erase mark: opcode (03_host_link R709). -/
  sanitizeMark : Option Nat := none
  /-- Stored OFFSET (R652). -/
  offset : Int := 0
  /-- Settings format of the records (18_service_update R642). -/
  setFmt : Nat := 0
  /-- Plan slots that hold a plan translated from format 1 (R67; assumption 31). -/
  fmt1Slots : List Nat := []
  /-- SRAM patch entries kept over power loss (15_onchip_integrity R548). -/
  spatch : List Nat := []
  deriving DecidableEq, Repr

/-- What the part has given to the outside, newest first in the state's list. This is the model's own record:
no rule gives the part such a list. -/
inductive Output where
  /-- A host write's completion: tag, and whether it took effect (R90, R91). -/
  | writeDone (tag : Nat) (effect : Bool)
  /-- A host read's data: tag, 64 bytes, poison (R93). -/
  | readData (tag : Nat) (data : List Byte) (poison : Bool)
  /-- A register read: BAR0 offset and value. -/
  | regValue (offset : Nat) (value : Word)
  /-- A host read of the ring store, BAR2: offset, bytes, and the PCIe poisoned-data indication (13_dumbwaiter R474;
  15_onchip_integrity Table 15-6). -/
  | ringData (offset : Nat) (bytes : List Byte) (poisoned : Bool)
  /-- A mailbox response: opcode, return code, payload (R104). -/
  | mailbox (opcode : Nat) (rc : Nat) (payload : List Byte)
  /-- An MSI-X message of a vector (R114). -/
  | msix (vector : Nat)
  /-- A response to Global Persistent Flush phase 1 or 2 (R97, R98). -/
  | gpf (phase : Nat)
  /-- A service response: TYPE, SEQ, payload, MAC where the frame carries one (R608, R610, R613). -/
  | service (type : Nat) (seq : Nat) (payload : List Byte) (mac : List Byte)
  /-- Bytes given on SB, with the acknowledge of the address (R582 to R589). -/
  | sb (acked : Bool) (bytes : List Byte)
  /-- A Kenene Link message: type code and payload words (Table 12-4). -/
  | link (type : Nat) (payload : List Nat)
  /-- An answer of the Attic window: bus error, or a word (R503, R513). -/
  | attic (busError : Bool) (word : Dword)
  /-- A pack-bus transaction started: command and attempt (R597). -/
  | pb (cmd : Nat) (attempt : Nat)
  /-- Bytes that the pack-bus controller puts on the bus for the pack at its 7-bit address: the command, and of a block write the count, the
  data and the PEC (10_energy_pack R380). -/
  | pbBytes (address : Nat) (bytes : List Byte)
  /-- A value shifted out of the TAP (R696). -/
  | tap (value : Nat)
  deriving DecidableEq, Repr

end Sys2Proof.Machine
end

