-- ==== Sys2Proof/Machine/State.lean ====
section
/-! DEFINITION. The state of the block as plain data, the reasons a step can stop, and the state after reset. -/

namespace Sys2Proof.Machine

/-- Why the machine stops. No command stops this machine: the spec gives every row of its table an effect, and what
it calls a fault is the state of a fault station (16_fault_stations). So the type is empty. -/
inductive Fault where
  deriving DecidableEq, Repr

/-- Why a command has no meaning. -/
inductive Refusal where
  /-- The dispatcher raises it for a command whose meaning is not written yet; safe. -/
  | notModelled (mnemonic : String)
  deriving DecidableEq, Repr

/-- The timing words of the pack bus that the factory default plan holds: Standard mode (17_two_wire_ports R594;
02_floor_plan R60, R66). -/
def factorySideband : SidebandWing := { pbTiming0 := 0x001C21F4, pbTiming1 := 0x7232321E }

/-- The factory default Floor Plan (02_floor_plan R66). -/
def factoryPlan : Plan := { sideband := factorySideband }

/-- Everything the spec gives the part, the queue of waiting commands, and the model's own fields `out` and
`free`. -/
structure State where
  /-- The Almanac, µs (19_almanac_log_identity R648). -/
  almanac : Nat := 0
  /-- Operating state, replace requests, Safe Harbour, pair copies (DEV). -/
  dev : Dev := {}
  /-- Fault stations by row of Table 01-1 (16_fault_stations R554). -/
  stations : Vector Station 21 := Vector.replicate 21 {}
  /-- Host link (HST). -/
  hst : Hst := {}
  /-- DRAM controller (DRC). -/
  drc : Drc := {}
  /-- The DRAM array with its poison marks. -/
  dram : Dram := {}
  /-- Chart (CHT). -/
  cht : Cht := {}
  /-- Suite table (SUI): one context for each Suite record of the plan in force, in the plan's order. -/
  sui : List SuiteCtx := []
  /-- Stow engine (STW). -/
  stw : Stw := {}
  /-- Save and restore sequencer (SAV) with the Vestibule halves. -/
  sav : Sav := {}
  /-- Cellar controller (CEL) with the Cellar and Meta partitions. -/
  cel : Cel := {}
  /-- Dumbwaiter (DMW). -/
  dmw : Dmw := {}
  /-- Energy block (NRG). -/
  nrg : Nrg := {}
  /-- Gauge (GAU). -/
  gau : Gau := {}
  /-- Reckoning (REK). -/
  rek : Rek := {}
  /-- Partner link (PLK). -/
  plk : Plk := {}
  /-- Attic (ATT). -/
  att : Att := {}
  /-- On-chip integrity (ECC). -/
  ecc : Ecc := {}
  /-- Sideband target (TWS). -/
  tws : Tws := {}
  /-- Pack-bus controller (TWP). -/
  twp : Twp := {}
  /-- Service hatch (SVC). -/
  svc : Svc := {}
  /-- Almanac, calendar and Log (LOG). -/
  log : Log := {}
  /-- Power, clocks and thermal (PWR). -/
  pwr : Pwr := {}
  /-- Floor Plan loader (FPL) with the plan in force. -/
  fpl : Fpl := { plan := factoryPlan }
  /-- TAP. -/
  jtag : Jtag := {}
  /-- Fuses. -/
  fuses : Fuses := {}
  /-- Typed records of the Attic calibration sectors. -/
  cal : Calib := {}
  /-- The model's own: what the part has given to the outside, newest first. -/
  out : List Output := []
  /-- The model's own: how many free values have been taken. -/
  free : Nat := 0
  /-- Commands that wait, first in, first out. -/
  pending : List Instr := []
  deriving DecidableEq, Repr

/-- The machine right after reset: every field at the value its declaration gives. -/
def State.reset : State := {}

end Sys2Proof.Machine
end

