-- ==== Sys2Proof/Machine/Ops.lean ====
section
/-! DEFINITION. The named operations that many commands share: outputs and interrupts, event logs and Log
records, time, state transitions. -/

namespace Sys2Proof.Machine

/-- What a command answers. -/
abbrev Res := Host.Outcome State Fault Refusal

/-- The row of a block as a number. -/
def blockNum (b : Block) : Nat := b.row.val

/-! ### Figures of the variant (Table 00-2) -/

/-- Rooms of the Chart, on either variant (R7). -/
def chartRooms : Nat := 524288

/-- The identity values of the PCIe configuration header (R8, R82): vendor, device, revision, class code, subsystem vendor and
subsystem. No row of the opcode table reads configuration space. -/
def configIdentity (s : State) : List Nat :=
  [0x1F3A, 0x7824, 0xB0, 0x050210, s.fpl.plan.identity.subsysVid, s.fpl.plan.identity.subsysId]

/-- Cellar dies. -/
def dieCount (s : State) : Nat := if s.fuses.is2T then 16 else 32

/-- PWR_TEMP_NAND: the bytes of the stacks; a stack that is not fitted, 2 and 3 on the -2T, reads 0x80 (Table 00-2, R680). -/
def fittedStacks (s : State) (w : Word) : Word := if s.fuses.is2T then (w &&& 0xFFFF) ||| 0x80800000 else w

/-- Maximum Dirty Ceiling, tiles (R229). -/
def ceilMax (s : State) : Nat := if s.fuses.is2T then 1572864 else 3145728

/-! ### Outputs and interrupts -/

/-- Give something to the outside. -/
def emit (o : Output) (s : State) : State := { s with out := o :: s.out }

/-- Take the next free value. -/
def takeFree (s : State) : Nat × State := (Config.freeNat s.free, { s with free := s.free + 1 })

/-- CRC-8 of a list of bytes, polynomial 0x07, initial 0x00 (04_dram Table 04-3; the PEC of SMBus). -/
def crc8Bit (c : Byte) : Byte := if c.getLsbD 7 then (c <<< 1) ^^^ 0x07#8 else c <<< 1
def crc8 (l : List Byte) : Byte :=
  l.foldl (fun c b => crc8Bit (crc8Bit (crc8Bit (crc8Bit (crc8Bit (crc8Bit (crc8Bit (crc8Bit (c ^^^ b))))))))) 0

/-- Signal an MSI-X vector (03_host_link R114): lost while the link is down or MSI-X is disabled, pending while
the vector is masked. -/
def notify (v : Nat) (s : State) : State :=
  if s.hst.linkUp && s.hst.msixEnable then
    if s.hst.msixMask.getLsbD v then
      { s with hst := { s.hst with msixPending := s.hst.msixPending ||| BitVec.ofNat 32 (2 ^ v) } }
    else emit (.msix v) s
  else s

/-! ### SB alert bits (17_two_wire_ports R588, R590) -/

/-- Set an ALERT_STATUS bit, which also clears ARA_HELD (Table 17-5, R590). -/
def alertBit (k : Nat) (s : State) : State :=
  { s with tws := { s.tws with alert := s.tws.alert ||| BitVec.ofNat 8 (2 ^ k), araHeld := false } }

/-- FSTICKY of some station is not 0 (R567). -/
def anySticky (s : State) : Bool := s.stations.toList.any fun x => x.sticky ≠ 0

/-- FAULT_N is driven low (R567). -/
def faultPinLow (s : State) : Bool :=
  match s.dev.state with
  | .saved | .off => false
  | .drydock => true
  | _ => anySticky s

/-! ### Suites by identity -/

/-- The context of a Suite ID. -/
def suiteOf (s : State) (id : Nat) : Option SuiteCtx := s.sui.find? fun c => c.cfg.id = id

/-- Change the context of a Suite ID. -/
def modSuite (id : Nat) (f : SuiteCtx → SuiteCtx) (s : State) : State :=
  { s with sui := s.sui.map fun c => if c.cfg.id = id then f c else c }

/-- NAME of a Suite for a Log record, 12 bytes; zeros for none (R200, Table 19-3). -/
def suiteName (s : State) (id : Nat) : List Byte :=
  match suiteOf s id with
  | some c => padTo 12 c.cfg.name
  | none => List.replicate 12 0

/-! ### The Log (19_almanac_log_identity R657 to R659) -/

/-- The Log cannot be written now: the Attic refuses commands, or its boot scan has not ended (R659). -/
def logHolds (s : State) : Bool := s.att.closed || !s.att.scanned

/-- A Log record as it arises now (Table 19-3). INDEX is given to it here (DEDUCED: assumption 8). -/
def mkLog (type block a0 a1 a2 suite master : Nat) (s : State) : LogRecord :=
  { index := s.log.next, type := type, block := block, state := s.dev.state.code, time := s.almanac,
    arg0 := a0, arg1 := a1, arg2 := a2, suite := suite, master := master, held := logHolds s,
    afterCold := s.log.afterCold, name := suiteName s suite }

/-- Take a record in: into the holding queue while the Log cannot be written, dropped when the queue is full,
else among the records ready to be written (R657, R659). -/
def logCore (type block a0 a1 a2 suite master : Nat) (s : State) : State :=
  let l := s.log
  if logHolds s then
    if l.holding.length < 256 then
      { s with log := { l with holding := l.holding ++ [mkLog type block a0 a1 a2 suite master s],
                               next := (l.next + 1) % 2 ^ 32 } }
    else { s with log := { l with dropped := satInc 0xFFFF l.dropped, dropUnreported := l.dropUnreported + 1 } }
  else { s with log := { l with ready := l.ready ++ [mkLog type block a0 a1 a2 suite master s],
                                next := (l.next + 1) % 2 ^ 32 } }

/-! ### Event logs (03_host_link R111 to R114) -/

/-- Add a record to event log `i`: 0 Informational, 1 Warning, 2 Failure, 3 Fatal. A full log keeps its oldest
records (R111). -/
def addEvent (i : Nat) (r : EventRecord) (s : State) : State :=
  let l := vget ({ vector := 1 } : EventLog) s.hst.logs i
  if l.records.length < 64 then
    let l' := { l with records := l.records ++ [(l.nextHandle, r)],
                       nextHandle := if l.nextHandle = 0xFFFF then 1 else l.nextHandle + 1 }
    let s := { s with hst := { s.hst with logs := vset s.hst.logs i l' } }
    if l.irq then notify l.vector s else s
  else
    let l' := { l with overflow := true, dropped := satInc 0xFFFF l.dropped,
                       firstDrop := if l.overflow then l.firstDrop else s.almanac, lastDrop := s.almanac }
    { s with hst := { s.hst with logs := vset s.hst.logs i l' } }

/-- The log of a vendor event (Table 03-13). -/
def eventLogOf (code a0 : Nat) : Nat :=
  if code = 0x0002 then (if a0 = 0 then 1 else 0)
  else if code = 0x000A then (if a0 = 4 then 3 else 1)
  else if code = 0x0015 then 3
  else if code = 0x0007 ∨ code = 0x0008 ∨ code = 0x0009 then 2
  else if code = 0x0001 ∨ code = 0x0005 ∨ code = 0x0006 ∨ code = 0x000D ∨ code = 0x0011 ∨ code = 0x0012 then 0
  else 1

/-- Log a vendor event in its event log and in the Log (R112, R113, Table 19-4). -/
def vendorEvent (code : Nat) (b : Block) (master suite dpa a0 a1 : Nat) (s : State) : State :=
  let e : VendorEvent := { code := code, block := (blockNum b), master := master, suite := suite,
                           state := s.dev.state.code, dpa := dpa, arg0 := a0, arg1 := a1, time := s.almanac }
  logCore code (blockNum b) a0 a1 dpa suite master (addEvent (eventLogOf code a0) (.vendor e) s)

/-- A vendor event that concerns no Suite, master or address. -/
def event (code : Nat) (b : Block) (a0 a1 : Nat) (s : State) : State :=
  vendorEvent code b mNone 0xFFFF 0 a0 a1 s

/-! ### Time (19_almanac_log_identity R648, R660) -/

/-- The boot stays in a restore hold: nothing is written to the Cellar, Vestibule or Meta partitions (08_startup_restore R296). -/
def holding (s : State) : Bool := s.dev.state = .boot && s.sav.decision = .hold

/-- The part is powered as far as POWER_ON_H counts (Table 19-5). -/
def poweredState : OpState → Bool
  | .off | .saved | .drydock => false
  | _ => true

/-- Move the Almanac on to `t`, never back, and count the hours of Table 19-5 and the probation time of R641. -/
def advanceTo (t : Nat) (s : State) : State :=
  if s.log.aonPowered then
    let d := t - s.almanac
    let lf := s.log.life
    let lf := if poweredState s.dev.state then { lf with powerOnUs := lf.powerOnUs + d } else lf
    let lf := if s.dev.state = .saved then { lf with savedUs := lf.savedUs + d } else lf
    let pr := s.svc.phase = 4 ∧ (s.dev.state = .service ∨ s.dev.state = .harbour)
    { s with almanac := max s.almanac t, log := { s.log with life := lf },
             svc := if pr then { s.svc with probUs := s.svc.probUs + d } else s.svc }
  else s

/-- One microsecond passes. -/
def tick (s : State) : State := advanceTo (s.almanac + 1) s

/-! ### State transitions (01_architecture R34) -/

/-- Enter an operating state with a cause: DEV_STATE, the Log's transition record, vendor event 0x0001, and the
last-run mark at entry to SAVED and OFF (R34, R650). -/
def transition (new : OpState) (cause : Nat) (s : State) : State :=
  let old := s.dev.state
  let s := { s with dev := { s.dev with state := new, prev := old, entryCause := cause } }
  let s := alertBit 0 (if new = .saved ∨ new = .off then { s with log := { s.log with lastRun := s.almanac } } else s)
  event 0x0001 .dev new.code cause (logCore 0x0100 (blockNum .dev) new.code cause old.code 0xFFFF mNone s)

/-! ### Plan shorthand -/

/-- The plan in force. -/
def State.plan (s : State) : Plan := s.fpl.plan

/-- SAVE_MODE is Stowed save (R57). -/
def stowedMode (s : State) : Bool := s.plan.policy.saveMode = 1

/-- PERS_ROOMS and VOL_ROOMS of the plan in force. -/
def persRooms (s : State) : Nat := s.plan.layout.persRooms
def volRooms (s : State) : Nat := s.plan.layout.volRooms

/-- The replace request is raised (R569). -/
def replSet (s : State) : Bool := s.dev.reasons ≠ 0

/-- The throttle stage in force: that of the junction, at least 2 while class TEMP_HIGH of the DRC station is live; nothing is
shed in FENCED and SAVING (20_power_clocks_thermal R682, R684, R685). -/
def stageNow (s : State) : Nat :=
  if s.dev.state = .fenced ∨ s.dev.state = .saving then 0
  else if (vget {} s.stations (blockNum .drc)).live.getLsbD 6 then max 2 s.pwr.stage else s.pwr.stage

/-- A CRC-32 step over one byte, reflected polynomial 0xEDB88320 (02_floor_plan R44). -/
def crc32Bit (c : Word) : Word := if c.getLsbD 0 then (c >>> 1) ^^^ 0xEDB88320#32 else c >>> 1

/-- One byte into a CRC-32 register (R44). -/
def crc32Byte (c : Word) (b : Byte) : Word :=
  let c := c ^^^ b.setWidth 32
  crc32Bit (crc32Bit (crc32Bit (crc32Bit (crc32Bit (crc32Bit (crc32Bit (crc32Bit c)))))))

/-- CRC-32 of a list of bytes (R44). -/
def crc32 (l : List Byte) : Word := (l.foldl crc32Byte 0xFFFFFFFF#32) ^^^ 0xFFFFFFFF#32

end Sys2Proof.Machine
end

