-- ==== Sys2Proof/Machine/OpsTile.lean ====
section
/-! DEFINITION. Shared operations on DRAM data, the Chart, the tile state port, the counts, the Dirty Ceiling and
the Armed and Exposed flags (05_rooms_suites_chart, 06_stowing_ceiling). -/

namespace Sys2Proof.Machine

/-! ### DRAM data and poison marks -/

/-- All 64 byte enables. -/
def allEnables : Dword := BitVec.allOnes 64

/-- The 64 bytes that DRAM holds for a beat. -/
def dramBytes (d : Dram) (beat : Nat) : List Byte :=
  (List.range beatBytes).map fun i => tget 0 d.bytes (beat * beatBytes + i)

/-- The poison mark of a beat in DRAM (R158). -/
def dramPoison (d : Dram) (beat : Nat) : Bool := tget false d.poison beat

/-- Store bytes of a beat where their enable is set, from byte `i` on. -/
def storeBytes (beat : Nat) (en : Dword) : Nat → List Byte → Table Byte → Table Byte
  | _, [], t => t
  | i, b :: r, t =>
    storeBytes beat en (i + 1) r (if en.getLsbD i then tset 0 t (beat * beatBytes + i) b else t)

/-- One beat write into DRAM: a full write without poison clears the mark, a partial write keeps it, a write with
poison sets it (R92, R102). -/
def dramWrite (w : BeatWrite) (d : Dram) : Dram :=
  { bytes := storeBytes w.beat w.enables 0 (padTo beatBytes w.data) d.bytes,
    poison := tset false d.poison w.beat (w.poison || (w.enables ≠ allEnables && dramPoison d w.beat)) }

/-- Set the poison mark of a beat. -/
def dramMark (beat : Nat) (d : Dram) : Dram := { d with poison := tset false d.poison beat true }

/-- Is a request a write? -/
def DrcReq.isWrite (q : DrcReq) : Bool := match q.kind with | .write _ _ => true | .read => false

/-- A read whose command issues: what the array holds for it is on its way (R157); `later` tells that a write to the beat has entered the
bank queue behind it (R161, R163). -/
def takeFlight (d : Dram) (later : Bool) (q : DrcReq) : ReadFlight :=
  { src := q.src, beat := q.beat, seq := q.seq, data := dramBytes d q.beat, mark := dramPoison d q.beat, overtaken := later }

/-- Write zeros without poison to every beat of a tile. -/
def zeroTile (t : Nat) (d : Dram) : Dram :=
  { bytes := tclear d.bytes (t * tileBytes) ((t + 1) * tileBytes),
    poison := tclear d.poison (t * beatsPerTile) ((t + 1) * beatsPerTile) }

/-- Poison every beat of a tile. -/
def markTile (t : Nat) (d : Dram) : Dram :=
  (List.range beatsPerTile).foldl (fun d i => dramMark (t * beatsPerTile + i) d) d

/-- The image of a tile as DRAM holds it (R225, R270). -/
def tileImage (d : Dram) (t : Nat) : Image :=
  { bytes := tslice d.bytes (t * tileBytes) ((t + 1) * tileBytes),
    poison := tslice d.poison (t * beatsPerTile) ((t + 1) * beatsPerTile) }

/-- Write an image into a tile. -/
def writeImage (t : Nat) (i : Image) (d : Dram) : Dram :=
  let d := zeroTile t d
  { bytes := tput 0 d.bytes (t * tileBytes) i.bytes, poison := tput false d.poison (t * beatsPerTile) i.poison }

/-- Every beat of an image is poisoned (WHOLE, R225). -/
def imageWhole (i : Image) : Bool := i.poison.length = beatsPerTile

/-! ### Host credits (03_host_link R96) -/

/-- Write credits are no longer withheld: the span is added to HST_CREDIT_WAIT, and kept for 10 s (R96, R105). -/
def creditSpan (now : Nat) (h : Hst) : Hst :=
  match h.creditHeldAt with
  | some t => { h with creditHeldAt := none,
                       creditSpans := (t, now) :: h.creditSpans.filter fun x => decide (now < x.2 + 10000000),
                       creditWaitUs := satAdd 0xFFFFFFFF h.creditWaitUs (now - t) }
  | none => h

/-! ### The Chart -/

/-- Chart entry of a Room. -/
def entryAt (s : State) (r : Nat) : ChartEntry := tget {} s.cht.entries r

/-- Change the Chart entry of a Room. -/
def modEntry (r : Nat) (f : ChartEntry → ChartEntry) (s : State) : State :=
  { s with cht := { s.cht with entries := tmod {} s.cht.entries r f } }

/-- State of a tile. -/
def tileAt (s : State) (t : Nat) : Tile := tget {} s.cht.tiles t

/-- Class of a tile's Room. -/
def tileClass (s : State) (t : Nat) : RoomClass := (entryAt s (t / tilesPerRoom)).cls

/-- Suite of a tile's Room. -/
def tileSuite (s : State) (t : Nat) : Nat := (entryAt s (t / tilesPerRoom)).suiteId

/-- The tiles of a Room. -/
def roomTiles (r : Nat) : List Nat := (List.range tilesPerRoom).map fun i => r * tilesPerRoom + i

/-- One or nothing. -/
def b2n (b : Bool) : Nat := if b then 1 else 0

/-- A count after one member left (`o`) and one came (`n`). -/
def recount (c : Nat) (o n : Bool) : Nat := c + b2n n - b2n o

/-- The tile state port sets a tile's bits and, for a Room of a saved class, updates DIRTY_CNT, STOWING_CNT, the
Suite's counts and the device totals in the same cycle (R178). -/
def putTile (t : Nat) (x : Tile) (s : State) : State :=
  let r := t / tilesPerRoom
  let o := tileAt s t
  let e := entryAt s r
  let s := { s with cht := { s.cht with tiles := tset {} s.cht.tiles t x } }
  if e.cls.saved then
    let dO := o.st.counts
    let dN := x.st.counts
    let sO := o.st = .stowing
    let sN := x.st = .stowing
    let s := modEntry r (fun e => { e with dirtyCnt := recount e.dirtyCnt dO dN,
                                           stowingCnt := recount e.stowingCnt sO sN }) s
    let s := modSuite e.suiteId (fun c => { c with dirty := recount c.dirty dO dN,
                                                   stowing := recount c.stowing sO sN }) s
    { s with cht := { s.cht with dirtyTotal := recount s.cht.dirtyTotal dO dN,
                                 stowingTotal := recount s.cht.stowingTotal sO sN } }
  else s

/-- Record a poisoning in the Chart: ANY, POISON_CNT, and TILE or UNLISTED where they apply (R180). -/
def chartPoison (r : Nat) (tile unlisted : Bool) (s : State) : State :=
  modEntry r (fun e => { e with poisonAny := true, poisonTile := e.poisonTile || tile,
                                poisonUnlisted := e.poisonUnlisted || unlisted,
                                poisonCnt := satInc 0xFFFF e.poisonCnt }) s

/-- Enter a poisoning in the poison list, unless it is listed, and in the Chart. A full list overflows, and from then on nothing is
entered until Scan Media has rebuilt the list (R103); what is not entered sets UNLISTED (R180). -/
def listPoison (dpa : Nat) (tile : Bool) (source : Nat) (s : State) : State :=
  let r := dpa / roomBytes
  let h := s.hst
  if h.poisonList.any (fun p => p.dpa = dpa ∧ p.tile = tile) then chartPoison r tile false s
  else if h.poisonList.length < 8192 ∧ h.poisonOverflow = false then
    chartPoison r tile false
      { s with hst := { h with poisonList := h.poisonList ++ [{ dpa := dpa, tile := tile, source := source }] } }
  else
    chartPoison r tile true
      { s with hst := { h with poisonOverflow := true,
                               poisonOverflowAt := if h.poisonOverflow then h.poisonOverflowAt else s.almanac } }

/-- Remove a beat's own entry from the poison list (R102). -/
def unlistBeat (beat : Nat) (s : State) : State :=
  { s with hst := { s.hst with
      poisonList := s.hst.poisonList.filter fun p => !(p.dpa = beat * beatBytes && !p.tile) } }

/-! ### Suites -/

/-- An enabled Suite of a saved class. -/
def savedSuite (c : SuiteCtx) : Bool := c.enabled && c.cfg.policy.saved

/-- The enabled Suite that holds a Room (R172). -/
def suiteOfRoom (s : State) (r : Nat) : Option SuiteCtx :=
  s.sui.find? fun c => c.enabled && c.cfg.firstRoom ≤ r && r < c.cfg.firstRoom + c.cfg.roomCount

/-- EXPOSURE in force, 0 replaced by EXPOSE_DEFAULT (R53, SUI_CFG.EXPOSURE). -/
def exposureOf (s : State) (c : SuiteCtx) : Nat :=
  if c.cfg.exposure = 0 then s.plan.policy.exposeDefault else c.cfg.exposure

/-! ### The Dirty Ceiling, Pressed, Armed (06_stowing_ceiling R229 to R239) -/

/-- The four inputs of the ceiling, in the order of STW_CEIL.SOURCE (R229). -/
def ceilInputs (s : State) : List Nat :=
  [s.stw.rekCeil, s.plan.policy.ceilCapGib * 16384, s.plan.layout.vestGib / 6 * 16384, ceilMax s]

/-- The Dirty Ceiling in force, tiles (R229). -/
def ceiling (s : State) : Nat := (ceilInputs s).foldl min (ceilMax s)

/-- STW_CEIL.SOURCE: the lowest code among the least inputs (R229). -/
def ceilSource (s : State) : Nat := (ceilInputs s).findIdx fun v => v = ceiling s

/-- Stowing runs (R221). A SWEEP_MS of 0 counts from the next sweep: one that has begun goes on (02_floor_plan Table 02-13). -/
def stowRuns (s : State) : Bool :=
  stowedMode s && s.plan.policy.stowEn && (s.plan.policy.sweepMs ≠ 0 || s.stw.sweepRoom ≠ 0) &&
    (s.dev.state = .tenancy || s.dev.state = .service || s.dev.state = .harbour)

/-- cum(S): dirty tiles of the enabled saved Suites whose PRIORITY is at or below `p` (R238). -/
def cumDirty (s : State) (p : Nat) : Nat :=
  ((s.sui.filter fun c => savedSuite c && c.cfg.priority ≤ p).map fun c => c.dirty).foldl (· + ·) 0

/-- What ARMED of a Suite should be now, in a state in which STW evaluates it (R230, R238, R208). -/
def armedNow (s : State) (c : SuiteCtx) : Bool :=
  savedSuite c && !c.armHold &&
    (if stowedMode s then 0 < ceiling s && cumDirty s c.cfg.priority ≤ ceiling s else s.stw.fullOk)

/-- The states in which STW evaluates Armed and Exposed (R238). -/
def evaluates (o : OpState) : Bool := o = .tenancy || o = .service || o = .harbour

/-- PRESSED after an evaluation (R239). -/
def pressedNow (s : State) : Bool :=
  let c := ceiling s
  let stalled := !s.stw.stalled.isEmpty
  let t := s.cht.dirtyTotal
  0 < c &&
    (stalled || c * s.stw.pressPct ≤ t * 100 || (s.stw.pressed && c * (s.stw.pressPct - 5) ≤ t * 100))

/-- The AND of the Armed flags of the enabled saved Suites, 0 with none (R238). -/
def allArmed (l : List SuiteCtx) : Bool := l.any savedSuite && l.all fun c => !savedSuite c || c.armed

/-- Set DEV_STATE.ARMED; a change logs vendor event 0x0002 and signals vector 5 (R238). -/
def setArmed (a : Bool) (s : State) : State :=
  if s.dev.armed = a then s
  else alertBit 1 (notify 5 (event 0x0002 .stw (b2n a) (ceiling s) { s with dev := { s.dev with armed := a } }))

/-- Whether an Exposed flag clears: the Suite is Armed and its dirty count is at or below its quota (R237). -/
def exposedClears (c : SuiteCtx) : Bool := c.exposed && c.armed && c.dirty ≤ c.cfg.quota

/-- Evaluate Pressed, Armed and Exposed (R237 to R239). In BOOT and RESTORE no Suite is Armed; from the Fence on
the flags hold. -/
def reeval (s : State) : State :=
  let s := { s with stw := { s.stw with pressed := pressedNow s } }
  if evaluates s.dev.state then
    let l := s.sui.map fun c => { c with armed := armedNow s c }
    let clears := l.any exposedClears
    let l := l.map fun c => if exposedClears c then { c with exposed := false, exposedSince := 0 } else c
    let s := setArmed (allArmed l) { s with sui := l }
    if clears then notify 5 s else s
  else if s.dev.state = .boot ∨ s.dev.state = .restore then
    setArmed false { s with sui := s.sui.map fun c => { c with armed := false } }
  else s

/-! ### Tile state transitions without exposure (Table 06-1) -/

/-- The write-event row of Table 06-1 for a tile of a saved class. -/
def writeEventTile (x : Tile) : Tile :=
  { st := match x.st with
          | .clean => .dirty | .dirty => .dirty | .stowing => .voided | .voided => .voided,
    touched := true }

/-- A granted claim or write event clears every watch on its tile: rescue (09_cellar R354), resynchronisation
(12_partner_mirroring R462) and CHECK VERIFY (13_dumbwaiter R489). -/
def clearWatches (t : Nat) (s : State) : State :=
  { s with cel := { s.cel with watches := s.cel.watches.filter (· ≠ t) },
           plk := { s.plk with watches := s.plk.watches.filter (· ≠ t) },
           dmw := { s.dmw with ch := s.dmw.ch.map fun c =>
             { c with run := c.run.map fun r => { r with watch := r.watch.filter (· ≠ t) } } } }

/-- Apply a write event to a tile (R190, R214): counts STW_VOIDED; a volatile or unassigned tile is unchanged. -/
def writeEventCore (t : Nat) (s : State) : State :=
  let s := clearWatches t s
  if (tileClass s t).saved then
    let x := tileAt s t
    let s := if x.st = .stowing then { s with stw := { s.stw with voidedCnt := satInc 0xFFFFFFFF s.stw.voidedCnt } }
             else s
    putTile t (writeEventTile x) s
  else s

/-- A granted claim: Clean becomes Dirty with Touched set (R210, R214). On a Dirty, Stowing or Voided tile Table 06-1 changes neither the
state nor Touched, where R215 says that every granted claim sets Touched: the model follows the table (DESIGN CHOICE: assumption 123). -/
def claimTile (t : Nat) (s : State) : State :=
  let s := clearWatches t s
  if (tileAt s t).st = .clean then putTile t { st := .dirty, touched := true } s else s

/-- The completion rows of Table 06-1 for one tile: passed or failed. -/
def completionTile (pass : Bool) (x : Tile) : Tile :=
  { x with st := match x.st with
                 | .clean => .clean | .dirty => .dirty
                 | .stowing => if pass then .clean else .dirty
                 | .voided => .dirty }

/-- The stow of a tile has ended: the Fold and the Dumbwaiter channels that wait for it go on (R214 row "on request",
08_startup_restore R320, 13_dumbwaiter R497). -/
def endWait (t : Nat) (s : State) : State :=
  { s with sav := { s.sav with foldInFlight := s.sav.foldInFlight.filter (· ≠ t) },
           dmw := { s.dmw with ch := s.dmw.ch.map fun c =>
             { c with run := c.run.map fun r => if r.waitTile = some t then { r with waitTile := none } else r } } }

/-- Apply a completion to a tile, with the counts of R227 (classes STOW_FAIL and STRAY are raised by the caller):
answers the state, whether the tile became Clean. -/
def completeTile (pass : Bool) (t : Nat) (s : State) : State :=
  let x := tileAt s t
  let w := s.stw
  let w := if pass && x.st = .stowing then { w with confirmed := w.confirmed + 1 } else w
  let w := if !pass then { w with failCnt := satInc 0xFFFF w.failCnt } else w
  let w := if x.st = .clean then { w with strayCnt := satInc 0xFFFF w.strayCnt } else w
  let s := { s with stw := w }
  let s := if pass && x.st = .stowing then
      { s with log := { s.log with life := { s.log.life with stowedTiles := s.log.life.stowedTiles + 1 } } }
    else s
  endWait t (putTile t (completionTile pass x) s)

/-- Drop a tile from the candidate queues. -/
def dropCandidate (t : Nat) (s : State) : State :=
  { s with stw := { s.stw with urgent := s.stw.urgent.filter (· ≠ t), normal := s.stw.normal.filter (· ≠ t) } }

end Sys2Proof.Machine
end

