-- ==== Sys2Proof/Machine/OpsByte.lean ====
section
/-! DEFINITION. The byte code of the SRAM and the Attic (15_onchip_integrity R531 to R533, R537), and the stored form and the reads of
an Attic word (14_attic R506 to R508, R527). -/

namespace Sys2Proof.Machine

/-! ### The byte code (R531, R532, R537) -/

/-- Exclusive-OR of the bits of a byte at places. -/
def xorBits (b : Byte) (l : List Nat) : Bool := l.foldl (fun a i => a != b.getLsbD i) false

/-- c3..c0 of a data byte (Table 15-1). -/
def hamming (d : Byte) : BitVec 4 :=
  BitVec.ofNat 4 (b2n (xorBits d [0, 1, 3, 4, 6]) + 2 * b2n (xorBits d [0, 2, 3, 5, 6]) +
    4 * b2n (xorBits d [1, 2, 3, 7]) + 8 * b2n (xorBits d [4, 5, 6, 7]))

/-- Odd number of ones among bits. -/
def oddOnes (n : Nat) (l : List Nat) : Bool := (l.filter fun i => n.testBit i).length % 2 = 1

/-- The check group c4..c0 of a data byte (Table 15-1): c4 makes all thirteen bits even. -/
def checkGroup (d : Byte) : BitVec 5 :=
  let h := (hamming d).toNat
  BitVec.ofNat 5 (h + 16 * b2n (oddOnes d.toNat (List.range 8) != oddOnes h (List.range 4)))

/-- The stored form of a byte (R536), and of a byte that the SRAM marks uncorrectable (R537). -/
def encodeByte (d : Byte) : CodedByte := { data := d, chk := checkGroup d }
def markByte (d : Byte) : CodedByte := { data := d, chk := checkGroup d ^^^ 0b00011#5 }

/-- Result of a byte decode (Table 15-2). -/
inductive ByteResult where
  | clean | corrected | uncorrectable
  deriving DecidableEq, Repr

/-- Code of a result (ECC_TEST_CTL.RESULT). -/
def ByteResult.code : ByteResult → Nat
  | .clean => 0 | .corrected => 1 | .uncorrectable => 2

/-- The data bit at a Hamming position; none for the positions of check bits (R531). -/
def dataBitAt (pos : Nat) : Option Nat :=
  [none, none, none, some 0, none, some 1, some 2, some 3, none, some 4, some 5, some 6, some 7].getD pos none

/-- Decode a stored byte (R532): its result and, where it is not uncorrectable, its value. -/
def decodeByte (b : CodedByte) : ByteResult × Byte :=
  let syn := (hamming b.data).toNat ^^^ (b.chk.toNat % 16)
  let odd := oddOnes b.data.toNat (List.range 8) != oddOnes b.chk.toNat (List.range 5)
  if syn = 0 then (if odd then .corrected else .clean, b.data)
  else if odd && syn ≤ 12 then
    (.corrected, match dataBitAt syn with | some i => b.data ^^^ BitVec.ofNat 8 (2 ^ i) | none => b.data)
  else (.uncorrectable, b.data)

/-- The worst of some results. -/
def worst (l : List ByteResult) : ByteResult :=
  if l.contains .uncorrectable then .uncorrectable else if l.contains .corrected then .corrected else .clean

/-! ### Attic words (R506 to R508, R527, R533) -/

/-- A byte as the Attic stores it: its data cells, and the cells of check slots A and B (R506). -/
structure AtticByte where
  data : Byte
  slotA : BitVec 5
  slotB : BitVec 5
  deriving DecidableEq, Repr

/-- The cells of a check group (R533). -/
def atticGroup (d : Byte) : BitVec 5 := checkGroup d ^^^ 0b11100#5

/-- The stored bytes of a word: slot A from its first program, slot B erased until the second (R506, R507, Table 14-3). -/
def AtticWord.stored (w : AtticWord) : List AtticByte :=
  let a := leBytes 8 (if w.twice then w.first else w.value).toNat
  (leBytes 8 w.value.toNat).zipWith (fun d x => { data := d, slotA := atticGroup x,
                                                  slotB := if w.twice then atticGroup d else 0b11111 }) a

/-- Invert a cell of a byte: 0 to 7 data, 8 to 12 slot A, 13 to 17 slot B. -/
def flipCell (c : Nat) (x : AtticByte) : AtticByte :=
  if c < 8 then { x with data := x.data ^^^ BitVec.ofNat 8 (2 ^ c) }
  else if c < 13 then { x with slotA := x.slotA ^^^ BitVec.ofNat 5 (2 ^ (c - 8)) }
  else { x with slotB := x.slotB ^^^ BitVec.ofNat 5 (2 ^ (c - 13)) }

/-- What a read finds in byte `i` where the cells of a list read inverted: 18 cells a byte. -/
def readByte (flips : List Nat) (x : AtticByte) (i : Nat) : AtticByte :=
  flips.foldl (fun x c => if c / 18 = i then flipCell (c % 18) x else x) x

/-- Marker cells that a read finds programmed, of three: cells 144 to 146 (R506, R507). -/
def markerCells (twice : Bool) (flips : List Nat) : Nat :=
  ([144, 145, 146].filter fun c => twice != decide ((flips.filter (· = c)).length % 2 = 1)).length

/-- Decode the bytes with one slot: whether one was corrected, and the word; none where a byte does not decode (R508). -/
def decodeSlot (useB : Bool) (l : List AtticByte) : Option (Bool × Dword) :=
  let r := l.map fun x => decodeByte { data := x.data, chk := (if useB then x.slotB else x.slotA) ^^^ 0b11100#5 }
  if (r.any fun x => x.1 = .uncorrectable) then none
  else some (r.any fun x => x.1 = .corrected, BitVec.ofNat 64 (leNat (r.map fun x => x.2)))

/-- One read of a word (R508): the slot that the marker's majority selects, then the other where the marker cells disagree. -/
def readOnce (w : AtticWord) (flips : List Nat) : Option (Bool × Dword) :=
  let l := w.stored.zipIdx.map fun x => readByte flips x.1 x.2
  let n := markerCells w.twice flips
  match decodeSlot (decide (2 ≤ n)) l with
  | some r => some r
  | none => if n = 1 ∨ n = 2 then decodeSlot (decide (n < 2)) l else none

/-- How a word has been read: at the nominal threshold without or with a correction, or at a shifted one (R527, Table 15-7). -/
inductive WordDecode where
  | clean | corrected | shifted
  deriving DecidableEq, Repr

/-- The reads of a word at the nominal and the three shifted thresholds: the first in which every byte decodes (R527). `reads` lists for
each the cells that read inverted; none where all four fail. -/
def readWord (w : AtticWord) (reads : List (List Nat)) : Option (WordDecode × Dword) :=
  if w.torn then none
  else (List.range 4).findSome? fun k => (readOnce w ((reads[k]?).getD [])).map fun r =>
    (if k ≠ 0 then .shifted else if r.1 then .corrected else .clean, r.2)

end Sys2Proof.Machine
end

