-- ==== Sys2Proof/Machine/OpsBoot.lean ====
section
/-! DEFINITION. Entry to BOOT, SAVED and OFF: what outlives a power cycle, the DRAM rails, the power path
(01_architecture R34, R710; 08_startup_restore R290; 10_energy_pack R362; 20_power_clocks_thermal R672). -/

namespace Sys2Proof.Machine

/-- The DRAM rails go off (R672). -/
def railsOff (s : State) : State :=
  { s with pwr := { s.pwr with railsValid := false, vppOn := false, vddOn := false, foldback := false, uv := false },
           drc := { s.drc with railsValid := false }, sav := { s.sav with railsHeld := false } }

/-- An Attic bank after a power cycle: the array, its seals and intent logs stay; the sequencer, the operation in
progress and the error status do not (14_attic R502, R520, R522). -/
def bootBank (b : AtticBank) : AtticBank :=
  { words := b.words, seals := b.seals, intent0 := b.intent0, intent1 := b.intent1, log1 := b.log1 }

/-- The Attic after a power cycle: array and lifetime counts (ATT_REERASE, ATT_BROWNOUT.COUNT, ATT_RECOVER). -/
def bootAtt (a : Att) : Att :=
  { bank := a.bank.map bootBank, eraseSeq := a.eraseSeq, reErases := a.reErases, sealLost := a.sealLost,
    brownouts := a.brownouts, recovered := a.recovered, unrecoverable := a.unrecoverable,
    maxCount := a.maxCount, maxSector := a.maxSector }

/-- The Log and Almanac block after a power cycle: the always-on domain and the Attic keep everything but the
select register (R649 to R661). -/
def bootLog (l : Log) : Log :=
  { l with selDie := 0, selWord := 0, timeSetSinceCold := l.timeSetSinceCold, ready := l.ready,
           life := { l.life with boots := satInc 0xFFFFFFFF l.life.boots } }

/-- The Cellar controller after a power cycle: what the arrays and the calibration sectors hold (R325, R336, R345,
R350, R356); counts "since boot" and work in flight do not stay. -/
def bootCel (c : Cel) : Cel :=
  { slots := c.slots, journal := c.journal, blocks := c.blocks, nextSeq := c.nextSeq, nextGen := c.nextGen,
    metaBlks := c.metaBlks, metaExts := c.metaExts, nextPageSeq := c.nextPageSeq, ckpts := c.ckpts, remap := c.remap, sinceCkpt := c.sinceCkpt, areaA := c.areaA, areaB := c.areaB,
    opens := c.opens, released := c.released, roles := c.roles, keys := c.keys, nextKey := c.nextKey,
    retiredProg := c.retiredProg, retiredErase := c.retiredErase,
    patrolPasses := c.patrolPasses, allErases := c.allErases, portErases := c.portErases,
    stbdErases := c.stbdErases, patrolStart := c.patrolStart,
    dies := c.dies.map fun d => { good := d.good, spareUsed := d.spareUsed } }

/-- A half after a power cycle: its content stays; the Meta read classifies it again (R260). -/
def bootHalf (h : HalfData) : HalfData := h

/-- The sequencer after a power cycle: the halves, the pins' levels, what the always-on domain counts, and the roster of the last
restore, which lies in Meta (08_startup_restore R315). -/
def bootSav (v : Sav) (t : Nat) : Sav :=
  { port := v.port, stbd := v.stbd, musterIn := v.musterIn, musterHighAt := v.musterHighAt, bootAt := t,
    saveId := v.saveId, openId := v.openId, countedId := v.countedId, fenceTime := v.fenceTime,
    packOnly := v.packOnly, roster := v.roster, rosterHalf := v.rosterHalf }

/-- The Dumbwaiter after a power cycle: only the Fence index and cursor of each channel stay (13_dumbwaiter
R493). -/
def bootDmw (d : Dmw) : Dmw :=
  { ch := d.ch.map fun c => { fenceIdx := c.fenceIdx, fenceValid := c.fenceValid, fenceCur := c.fenceCur } }

/-- The energy block after a power cycle: what the detectors read, NRG_SAVE_E, the lifetime count and the due dates
that have fired stay; the pack is inserted again once its presence has held (10_energy_pack R374, R377, R378; 19_almanac_log_identity
R654). -/
def bootNrg (n : Nrg) (t : Nat) : Nrg :=
  { path := .mains, p12vValid := n.p12vValid, auxValid := n.auxValid, perst := n.perst, packId := n.packId,
    th0 := n.th0, th1 := n.th1, insertions := n.insertions, savePj := n.savePj,
    exerFired := n.exerFired, measAt := t }

/-- The gauge after a power cycle: the Attic's profiles and cost record, and a learning cycle that the gap may yet
disqualify (11_gauge_reckoning R407, R412, R413). -/
def bootGau (g : Gau) : Gau :=
  { profiles := g.profiles, cost := g.costStored, costStored := g.costStored, storedAt := g.storedAt,
    learn := g.learn, windowAt := g.windowAt, pulseAt := g.pulseAt }

/-- The integrity block after a power cycle: the recorded patch entries are applied (15_onchip_integrity R548,
R549); ECC_ATTIC_ERR.LOSS is a lifetime count. -/
def bootEcc (e : Ecc) (cal : Calib) : Ecc :=
  { spatch := cal.spatch, apatch := e.apatch, atticLoss := e.atticLoss }

/-- The host link after a power cycle: HST_FENCE_REFUSED, the shutdown state and the Dirty Shutdown Count stay
(03_host_link R100, HST_FENCE_REFUSED). -/
def bootHst (h : Hst) : Hst :=
  { fenceRefused := h.fenceRefused, shutdownDirty := h.shutdownDirty, dirtyShutdowns := h.dirtyShutdowns,
    dirtyRecorded := h.dirtyRecorded }

/-- The service hatch after a power cycle: the tool's presence, the bank in force and the stores of the calibration
sectors (R616, R383). -/
def bootSvc (v : Svc) : Svc :=
  { pres := v.pres, keyStore := v.keyStore, trustStore := v.trustStore, inForce := v.inForce }

/-- The stow engine after a power cycle: the Attic copy of the bucket (06_stowing_ceiling R242). -/
def bootStw (w : Stw) : Stw := { bucketStored := w.bucketStored }

/-- The gap of this boot (R650): none after a cold loss. -/
def bootGap (s : State) : Option Nat := if s.log.coldGap then none else some (s.almanac - s.log.lastRun)

/-- Everything but what outlives a power cycle takes its reset value (R290, R493, R568). -/
def powerCycle (s : State) : State :=
  { almanac := s.almanac, dev := { s.dev with ackPend := false, phase := .none, short := false,
                                              harbourList := [], heldHarbour := false, heldReplace := false,
                                              heldAbandon := false, armed := false, hiCopies := [], loHeld := [],
                                              reasons := s.cal.reasons },
    hst := bootHst s.hst, dram := s.dram, sav := bootSav s.sav s.almanac, cel := bootCel s.cel, stw := bootStw s.stw,
    dmw := bootDmw s.dmw, nrg := bootNrg s.nrg s.almanac, gau := bootGau s.gau, att := bootAtt s.att,
    ecc := bootEcc s.ecc s.cal, svc := bootSvc s.svc, log := bootLog s.log,
    drc := { dayStart := s.almanac }, plk := {}, rek := { eol := s.rek.eol, eolReason := s.rek.eolReason, eolClear := s.rek.eolClear }, tws := {}, fuses := s.fuses, cal := s.cal, out := s.out,
    free := s.free, pending := s.pending,
    pwr := { refPresent := s.pwr.refPresent, tj := s.pwr.tj, hottest := s.pwr.hottest, stackTemps := s.pwr.stackTemps } }

/-- Enter BOOT from OFF or SAVED (Table 01-7): the power cycle's state, the transition, the GAP record (R650). -/
def enterBoot (s : State) : State :=
  let gap := bootGap s
  let mark := s.log.lastRun
  let s := powerCycle s
  let s := { s with log := { s.log with gapUs := gap, gapUnknown := gap.isNone, afterCold := gap.isNone, coldGap := false } }
  let s := transition .boot 0x01 s
  logCore 0x0102 0xFF (gap.getD 0) (b2n gap.isNone) mark 0xFFFF mNone s

/-- An absence of P12V or an assertion of PERST_N has begun since the Fence, and both are over now (R710). -/
def bootsAtOnce (s : State) : Bool := s.sav.absenceSinceFence && s.nrg.p12vValid && !s.nrg.perst

/-- Enter SAVED: rails off, path AUX, and BOOT at once under R710. -/
def enterSaved (cause : Nat) (s : State) : State :=
  let s := railsOff s
  let s := transition .saved cause { s with nrg := { s.nrg with path := .aux }, sav := { s.sav with phase := .idle } }
  if bootsAtOnce s then enterBoot s else s

/-- Enter OFF: rails off, path AUX. -/
def enterOff (cause : Nat) (s : State) : State :=
  let s := railsOff s
  transition .off cause { s with nrg := { s.nrg with path := .aux }, sav := { s.sav with phase := .idle } }

/-! ### Figures of the pack that the Fence uses too (10_energy_pack R370, R387, R391) -/

/-- V_MAX and V_MIN of the pack, mV (R387). -/
def vMax (s : State) : Nat := s.plan.energy.cells * s.plan.energy.vmaxMv
def vMin (s : State) : Nat := s.plan.energy.cells * s.plan.energy.vminMv

/-- Energy in mJ of a capacity in mAh or mF (R370). -/
def capMj (s : State) (x : Nat) : Nat :=
  let e := s.plan.energy
  if e.chem = 3 then x * (vMax s * vMax s - vMin s * vMin s) / 2000000
  else x * 3600 * e.cells * (if e.chem = 1 then 36 else 32) / 10

/-- Energy drawn as a percentage of the learned capacity, rounded down (R391, NRG_EXER_STAT.DEPTH_PCT). -/
def exerDepthNow (s : State) (x : ExerciseRun) : Nat :=
  let c := capMj s s.gau.cap
  if c = 0 then 0 else x.drawnPj / 1000000000 * 100 / c

/-- A current step may have happened: its resistance sample is due 10 ms later (R411). -/
def markStep (s : State) : State :=
  { s with gau := { s.gau with step := some { at_ := s.almanac, mv := s.nrg.packMv, ma := s.nrg.packMa } } }

end Sys2Proof.Machine
end

