-- ==== Sys2Proof/Machine/OpsDmw.lean ====
section
/-! DEFINITION. Shared operations of the Dumbwaiter (13_dumbwaiter): rings, descriptors, completion, the Fence. -/

namespace Sys2Proof.Machine

/-- A channel. -/
def chanAt (s : State) (n : Nat) : Channel := vget {} s.dmw.ch n

/-- Change a channel. -/
def modChan (n : Nat) (f : Channel → Channel) (s : State) : State :=
  { s with dmw := { s.dmw with ch := vmod s.dmw.ch n f } }

/-- BAR2 offset of descriptor `i` of channel `n` (R474, R475). -/
def descOffset (n i : Nat) : Nat := n * 0x4000 + 64 * i

/-- A little-endian number of the ring store. -/
def ringNat (d : Dmw) (ofs len : Nat) : Nat := leNat ((List.range len).map fun i => tget 0 d.ring (ofs + i))

/-- Write bytes into the ring store; a written byte is no longer marked uncorrectable (R536). -/
def ringWrite (ofs : Nat) : List Byte → Dmw → Dmw
  | [], d => d
  | b :: r, d => ringWrite (ofs + 1) r { d with ring := tset 0 d.ring ofs b, ringBad := tset false d.ringBad ofs false }

/-- A byte of the ring store lies in a descriptor that the part owns: from HEAD up to TAIL (R475, R476). -/
def ringOwned (s : State) (ofs : Nat) : Bool :=
  let c := chanAt s (ofs / 0x4000)
  let n := 2 ^ c.size
  let i := ofs % 0x4000 / 64
  i < n && (i + n - c.head) % n < (c.tail + n - c.head) % n

/-- The descriptor at an offset of the ring store (Table 13-1). -/
def readDesc (d : Dmw) (ofs : Nat) : Descriptor :=
  { op := ringNat d ofs 1, flags := ringNat d (ofs + 1) 1, rsv1 := ringNat d (ofs + 3) 1,
    len := ringNat d (ofs + 4) 4, srcSuite := ringNat d (ofs + 8) 2, dstSuite := ringNat d (ofs + 10) 2,
    rsv2 := ringNat d (ofs + 12) 4, srcOfs := ringNat d (ofs + 16) 8, dstOfs := ringNat d (ofs + 24) 8,
    pattern := ringNat d (ofs + 32) 8, cookie := ringNat d (ofs + 40) 8 }

/-- Some byte of a descriptor is marked uncorrectable (Table 15-6 row 10). -/
def descBad (d : Dmw) (ofs : Nat) : Bool := (List.range 64).any fun i => tget false d.ringBad (ofs + i)

/-- The descriptor in progress completes with a status and results: they are written with DONE_TIME, HEAD advances,
with IRQ the vector is signalled, and any status but OK and EMPTY halts the channel (R495, R498). -/
def dmwComplete (n status r0 r1 : Nat) (irq : Bool) (s : State) : State :=
  let c := chanAt s n
  let ofs := descOffset n c.head
  let d := ringWrite (ofs + 2) (leBytes 1 status) s.dmw
  let d := ringWrite (ofs + 0x30) (leBytes 4 r0 ++ leBytes 4 r1 ++ leBytes 8 s.almanac) d
  let s := modChan n (fun c =>
    { c with run := none, head := (c.head + 1) % 2 ^ c.size, lastStatus := status, stalled := false, held := false,
             entries := 0, done := (c.done + 1) % 2 ^ 32,
             st := if status = 1 ∨ status = 2 then c.st else .halted }) { s with dmw := d }
  if irq then notify (16 + n) s else s

/-- The IRQ flag of a descriptor (Table 13-1). -/
def Descriptor.irq (d : Descriptor) : Bool := d.flags % 2 = 1

/-- FLAGS.RO_OK and FLAGS.VERIFY of a descriptor (Table 13-1). -/
def Descriptor.roOk (d : Descriptor) : Bool := d.flags / 2 % 2 = 1
def Descriptor.verify (d : Descriptor) : Bool := d.flags / 4 % 2 = 1

/-- The first DPA of the source and of the destination (R482). -/
def srcDpa (s : State) (d : Descriptor) : Nat :=
  ((suiteOf s d.srcSuite).map fun c => c.cfg.firstRoom * roomBytes).getD 0 + d.srcOfs
def dstDpa (s : State) (d : Descriptor) : Nat :=
  ((suiteOf s d.dstSuite).map fun c => c.cfg.firstRoom * roomBytes).getD 0 + d.dstOfs

/-- Tiles of a STOW that its completed steps cover, counted Clean and not Clean now (Table 13-2). -/
def stowCount (s : State) (r : DescRun) : Nat × Nat :=
  let t0 := srcDpa s r.d / tileBytes
  let l := (List.range (r.cursor / tileBytes)).map fun i => decide ((tileAt s (t0 + i)).st = .clean)
  ((l.filter fun b => b).length, (l.filter fun b => !b).length)

/-- RESULT0 and RESULT1 of a descriptor that ends now with a status (Table 13-2, R483). -/
def descResults (s : State) (r : DescRun) (status : Nat) : Nat × Nat :=
  if r.d.op = 3 then stowCount s r
  else if r.d.op = 5 then
    (if r.d.verify then r.res0 else (r.crc ^^^ 0xFFFFFFFF#32).toNat, r.res1)
  else (r.res0, if status = 5 then r.cursor else r.res1)

/-- The status with which the descriptor in progress ends, when its last step has ended, is written with its results
(R495, R498). -/
def dmwFinish (n status : Nat) (r : DescRun) (s : State) : State :=
  let x := descResults s r status
  dmwComplete n status x.1 x.2 r.d.irq s

/-- End the descriptor in progress with status ABORTED (R499, Table 13-3); nothing when none is in progress. -/
def dmwAbort (n : Nat) (s : State) : State :=
  match (chanAt s n).run with
  | some r => dmwFinish n 8 r s
  | none => s

/-- RESET at a step boundary (R499): ABORTED, then OFF with HEAD, TAIL and cursor 0. -/
def dmwReset (n : Nat) (s : State) : State :=
  modChan n (fun c => { c with st := .off, head := 0, tail := 0, pausePend := false, resetPend := false })
    (dmwAbort n s)

/-- The block reset of DMW on one channel: the descriptor in progress ends as RESET does, and the channel is HALTED
(Table 16-3); an OFF channel has nothing to halt (DEDUCED: assumption 21). -/
def dmwResetChan (n : Nat) (s : State) : State :=
  let s := dmwAbort n { s with stw := { s.stw with stalled := s.stw.stalled.filter fun k =>
                                          k.hostTag.isSome || k.channel ≠ n } }
  modChan n (fun c => if c.st = .off then c
                      else { c with st := .halted, pausePend := false, resetPend := false }) s

/-- The Fence on one channel: ring index and cursor recorded, writes not accepted abandoned, state FENCED, nothing
completed (R492). -/
def dmwFenceChan (c : Channel) : Channel :=
  let c := { c with fenceIdx := c.head, fenceValid := c.run.isSome,
                    fenceCur := (c.run.map fun (r : DescRun) => r.cursor).getD 0 }
  let run' : Option DescRun := c.run.map fun (r : DescRun) =>
    { r with granted := false, stepDone := 0, watch := [], waitTile := none, add0 := 0, add1 := 0, claimed := false,
             image := {}, slot := none }
  { c with st := .fenced, stalled := false, held := false, entries := 0, pausePend := false, resetPend := false,
                run := run' }

end Sys2Proof.Machine
end

