-- ==== Sys2Proof/Machine/OpsFlit.lean ====
section
/-! DEFINITION. The flits of the Kenene Link that carry writes (12_partner_mirroring R433, R434). -/

namespace Sys2Proof.Machine

/-- The write header of a beat (R434, Table 12-2). -/
def writeHeader (b : FwdBeat) : List Byte :=
  leBytes 5 (b.w.beat % 2 ^ 35 + b.set % 4 * 2 ^ 35 + (decide (b.w.enables ≠ BitVec.allOnes 64)).toNat * 2 ^ 37 +
    b.w.poison.toNat * 2 ^ 38 + b.resync.toNat * 2 ^ 39) ++ leBytes 4 (b.wseq % 2 ^ 32) ++ [0, 0, 0]

/-- The header slot of one write, with its byte-enable entry when it is partial, and the data slot (R433, R434). -/
def writeSlots (b : FwdBeat) : List Byte :=
  padTo 64 ([1, 1, 0, 0] ++ writeHeader b ++
    (if b.w.enables ≠ BitVec.allOnes 64 then leBytes 8 b.w.enables.toNat ++ [0, 0, 0, 0] else [])) ++ padTo 64 b.w.data

/-- A flit: four slots and the trailer FSEQ, RACK and the CRC-32 of the 260 bytes before it (R433). -/
def flitBytes (fseq rack : Nat) (slots : List Byte) : List Byte :=
  let l := padTo 256 slots ++ leBytes 2 fseq ++ leBytes 2 rack
  l ++ leBytes 4 (crc32 l).toNat

/-- The mirrored write cap of a link revision in GB/s (Table 12-1), and the cap in force (R446): rates, which show in no state (assumption
100). -/
def revCap (rev : Nat) : Nat := if rev = 1 then 12 else 50
def capInForce (s : State) : Nat := min s.plk.capGbps (revCap s.plk.rev)

/-- Send a beat in a flit of its own, its other two slots zero (R433, R434; DESIGN CHOICE: assumption 134). -/
def sendFlit (b : FwdBeat) (s : State) : State :=
  let n := (s.plk.fseq + 1) % 0x10000
  emit (.link 0x100 ((flitBytes n s.plk.rack (writeSlots b)).map BitVec.toNat)) { s with plk := { s.plk with fseq := n } }

end Sys2Proof.Machine
end

