-- ==== Sys2Proof/Machine/OpsAttic.lean ====
section
/-! DEFINITION. Shared operations of the Attic (14_attic): banks, words, the status word, ends of operations. -/

namespace Sys2Proof.Machine

/-- Words in a sector and in a bank (R502). -/
def sectorWords : Nat := 8192
def bankBytes : Nat := 0x800000

/-- Sector of an offset within a bank (R502). -/
def sectorOf (ofs : Nat) : Nat := ofs / 0x10000

/-- A bank. -/
def bankAt (s : State) (b : Nat) : AtticBank := vget {} s.att.bank b

/-- Change a bank. -/
def modBank (b : Nat) (f : AtticBank → AtticBank) (s : State) : State :=
  { s with att := { s.att with bank := vmod s.att.bank b f } }

/-- A stored word by its offset within the bank. -/
def atticWord (k : AtticBank) (ofs : Nat) : AtticWord := tget {} k.words (ofs / 8)

/-- The little-endian number of `n` bytes at an offset; bytes past the end read 0. -/
def num (l : List Byte) (ofs n : Nat) : Nat := leNat (padTo n ((l.drop ofs).take n))

/-- Words of a bank from an offset on, as bytes, little-endian; none when a word of them is uncorrectable. -/
def atticBytes (k : AtticBank) (ofs len : Nat) : Option (List Byte) :=
  let ws := (List.range ((len + 7) / 8)).map fun i => atticWord k (ofs + 8 * i)
  if ws.any fun w => w.torn then none else some ((ws.flatMap fun w => leBytes 8 w.value.toNat).take len)

/-- Status codes of Table 14-5. -/
inductive AtticCode where
  | none | zeroToOne | thirdProgram | verifyFail | brownout | protect | suspendedSector | fence | twinBusy | twinUe
  deriving DecidableEq, Repr

/-- CODE of a status (Table 14-5). -/
def AtticCode.num : AtticCode → Nat
  | .none => 0 | .zeroToOne => 1 | .thirdProgram => 2 | .verifyFail => 3 | .brownout => 4 | .protect => 5
  | .suspendedSector => 6 | .fence => 7 | .twinBusy => 8 | .twinUe => 9

/-- The status word of an operation (Table 14-5). -/
def statusWord (b : Nat) (o : AtticOp) (busy err : Bool) (code : AtticCode) : Nat :=
  b2n busy + 2 * b2n (busy && o.stepped) + 4 * b2n (busy && decide (o.susp ≠ .no)) + 8 * b2n err
    + 16 * o.kind.code + 256 * code.num + 2 ^ 16 * o.sector + 2 ^ 23 * b + 2 ^ 24 * o.owner
    + 2 ^ 32 * (o.pulses % 2 ^ 16)

/-- An operation ends with an error: the status stays for its owner until READ_RESET; the Attic controller, which
polls nothing, leaves the bank in read mode (R513; DEDUCED: assumption 20). -/
def opFails (b : Nat) (o : AtticOp) (code : AtticCode) (k : AtticBank) : AtticBank :=
  { k with err := if o.owner = mAttic then Option.none else some (o.owner, statusWord b o false true code) }

/-- The summed suspended time of an erase up to now, µs (R519). -/
def suspTotal (t : Nat) (o : AtticOp) : Nat :=
  o.suspUs + (if o.susp = .no then 0 else t - o.suspSince)

/-- The seal that the factory leaves in every sector (assumption 44). -/
def factorySeal : Option SectorSeal := some { seq := 0, count := 0 }

/-- The seal of a sector. -/
def sealOf (k : AtticBank) (sector : Nat) : Option SectorSeal := tget factorySeal k.seals sector

/-- What the last scan, or an early end of an erase since, makes of a sector; none for a sealed one. -/
def scanOf (k : AtticBank) (sector : Nat) : Option SectorScan := alookup k.scan sector

/-- A word once a value has been programmed into it (R507, Table 14-3), when the program is allowed. -/
def programmed (v : Dword) (w : AtticWord) : AtticWord :=
  if v = BitVec.allOnes 64 then w
  else if w.value = BitVec.allOnes 64 then { w with value := v }
  else { w with value := v, twice := true, first := w.value }

/-- Why a program of a value into a word is refused, if it is (Table 14-3). -/
def programCode (v : Dword) (w : AtticWord) : AtticCode :=
  if v = BitVec.allOnes 64 ∨ w.value = BitVec.allOnes 64 then .none
  else if w.twice then .thirdProgram
  else if v &&& ~~~ w.value ≠ 0 then .zeroToOne
  else .none

/-- Program the words of an operation into its bank. -/
def putWords (o : AtticOp) (k : AtticBank) : AtticBank :=
  { k with words := (o.words.zipIdx).foldl (fun t x => tmod {} t (o.ofs / 8 + x.2) (programmed x.1)) k.words }

/-- The words that a program in progress had not finished when it was cut short are as before, programmed, or
uncorrectable: a free value each (R525). A value of all ones changes nothing (R507). -/
def tearWords (b : Nat) (o : AtticOp) (s : State) : State :=
  o.words.zipIdx.foldl (fun s x =>
    let (v, s) := takeFree s
    modBank b (fun k => { k with words := tmod {} k.words (o.ofs / 8 + x.2) fun w =>
      if v % 3 = 0 ∨ x.1 = BitVec.allOnes 64 then w else if v % 3 = 1 then { w with torn := true } else programmed x.1 w }) s) s

/-- The longest summed suspended time, with that of an erase that ends now (ATT_STARVE.LONGEST_MS, R519). -/
def noteSuspended (o : AtticOp) (s : State) : State :=
  { s with att := { s.att with longestUs := max s.att.longestUs (suspTotal s.almanac o) } }

/-- End the operation of a bank early, as R525 does: code BROWNOUT or FENCE; an unfinished erase is left to the
next scan, an unfinished program may tear its words. -/
def cutOp (b : Nat) (code : AtticCode) (s : State) : State :=
  match (bankAt s b).op with
  | Option.none => s
  | some o =>
    let s := modBank b (fun k => opFails b o code { k with op := Option.none }) s
    let s := if o.kind = .program ∨ o.kind = .rowProgram then tearWords b o s
             else noteSuspended o (modBank b (fun k => { k with scan := aset k.scan o.sector .partial_ }) s)
    { s with att := { s.att with brownouts := if code = .brownout then satInc 0xFFFF s.att.brownouts
                                              else s.att.brownouts } }

/-- End a program that ran beside a suspended erase early (R518, R525). -/
def cutProg (b : Nat) (code : AtticCode) (s : State) : State :=
  match (bankAt s b).prog with
  | Option.none => s
  | some o =>
    let s := tearWords b o (modBank b (fun k => opFails b o code { k with prog := Option.none }) s)
    { s with att := { s.att with brownouts := if code = .brownout then satInc 0xFFFF s.att.brownouts
                                              else s.att.brownouts } }

/-- The Attic closes at the Fence (R526): programs in progress complete, erases end with FENCE; sequences are
dropped. -/
def atticFence (s : State) : State :=
  let f := fun (b : Nat) (s : State) =>
    match (bankAt s b).op with
    | some o => if o.kind = .program ∨ o.kind = .rowProgram then s else cutOp b .fence s
    | Option.none => s
  let s := f 0 (f 1 s)
  { s with att := { s.att with closed := true, bank := s.att.bank.map fun k => { k with bound := Option.none } } }

end Sys2Proof.Machine
end

