-- ==== Sys2Proof/Machine/OpsSvc.lean ====
section
/-! DEFINITION. The boot records of the Attic banks: generation, markers, bank states, the set in force
(18_service_update R632 to R634). -/

namespace Sys2Proof.Machine

/-- The markers of Table 18-7, in the order of their words. -/
inductive Marker where
  | staged | activated | confirmed | retired | migrated
  deriving DecidableEq, Repr

/-- Offset of a marker in the boot record (Table 18-7). -/
def Marker.ofs : Marker → Nat
  | .staged => 0x800 | .activated => 0x808 | .confirmed => 0x810 | .retired => 0x818 | .migrated => 0x820

/-- Code of a marker (Table 18-7). -/
def Marker.code : Marker → Nat
  | .staged => 0xA1 | .activated => 0xA2 | .confirmed => 0xA3 | .retired => 0xA4 | .migrated => 0xA5

/-- GENERATION of a bank's boot record (Table 18-7). -/
def bankGen (k : AtticBank) : Nat := (atticWord k 0x190).value.toNat

/-- The value of a marker word (R632). -/
def markerValue (gen : Nat) (m : Marker) : Dword := BitVec.ofNat 64 (gen % 2 ^ 32 + m.code * 2 ^ 32)

/-- A marker counts (R632): its word decodes and equals its value. -/
def markerCounts (k : AtticBank) (m : Marker) : Bool :=
  let w := atticWord k m.ofs
  !w.torn && w.value = markerValue (bankGen k) m

/-- The header's first word carries a correct MAGIC and FORMAT (Table 18-5, Table 18-8). -/
def hasHeader (k : AtticBank) : Bool :=
  let w := atticWord k 0
  !w.torn && w.value.toNat % 2 ^ 48 = 0x1474B5048

/-- Code of a bank's state: the first row of Table 18-8 that holds (R633). -/
def bankState (k : AtticBank) : Nat :=
  if markerCounts k .retired then 5
  else if markerCounts k .confirmed then 4
  else if markerCounts k .activated then 3
  else if markerCounts k .staged then 2
  else if hasHeader k then 1
  else 0

/-- The bank of a number. -/
def svcBank (s : State) (b : Nat) : AtticBank := vget {} s.att.bank b

/-- The bank not in force. -/
def spareBank (s : State) : Nat := 1 - s.svc.inForce

/-- The bank that the boot ROM selects (R634 steps 1 and 2): none with no bank in CONFIRMED. -/
def selectBank (s : State) : Option Nat :=
  let c0 := bankState (svcBank s 0) = 4
  let c1 := bankState (svcBank s 1) = 4
  if c0 ∧ c1 then some (if bankGen (svcBank s 0) < bankGen (svcBank s 1) then 1 else 0)
  else if c0 then some 0
  else if c1 then some 1
  else none

/-- Bytes of a package header in a boot record (Table 18-7); zeros where they do not decode. -/
def headerBytes (s : State) (b : Nat) : List Byte := (atticBytes (svcBank s b) 0 400).getD []

/-- A field of a bank's package header (Table 18-5). -/
def hdrField (s : State) (b ofs len : Nat) : Nat := num (headerBytes s b) ofs len

/-- Steward image version of a bank's header (Table 18-5, VERSIONS). -/
def stewardVersion (s : State) (b : Nat) : Nat := hdrField s b 0x10 4

/-- SVC_UPD. -/
def updWord (s : State) : Nat :=
  let v := s.svc
  v.phase % 8 + 8 * (v.kind % 8) + 64 * (v.result % 16) + 65536 * (v.chunks % 65536)

/-- Staging ends without effect, where the session ends, at a Fence or at a block reset (R631), with the Log record of the phase's
change (19_almanac_log_identity Table 19-4, TYPE 0x0104). -/
def cutStaging (s : State) : State :=
  if s.svc.phase = 1 then
    let s := { s with svc := { s.svc with pkg := none, phase := 0 } }
    logCore 0x0104 (blockNum .svc) (updWord s) (spareBank s) (stewardVersion s (spareBank s)) 0xFFFF mNone s
  else s

end Sys2Proof.Machine
end

