-- ==== Sys2Proof/Machine/OpsFence.lean ====
section
/-! DEFINITION. The Fence as one shared operation: what closing it does to every block (07_fence_save R247 to R259,
03_host_link R100, 06_stowing_ceiling R228, 09_cellar R359, 12_partner_mirroring R452), the dirty shutdown, entry
to HARBOUR and to SERVICE. -/

namespace Sys2Proof.Machine

/-- Record a dirty shutdown with its case, at most once for each Fence (R100). -/
def recordDirty (case_ : Nat) (s : State) : State :=
  if s.hst.dirtyRecorded then s
  else
    event 0x0014 .hst case_ 0
      { s with hst := { s.hst with dirtyRecorded := true, dirtyShutdowns := satInc 0xFFFFFFFF s.hst.dirtyShutdowns },
               log := { s.log with life := { s.log.life with
                          dirtyShutdowns := satInc 0xFFFFFFFF s.log.life.dirtyShutdowns } } }

/-- Case 1 of R100: some enabled Suite of a saved class is not Armed or is Exposed. -/
def dirtyCase1 (s : State) : Bool := s.sui.any fun c => savedSuite c && (!c.armed || c.exposed)

/-- Case 3 of R100: the last Set Shutdown State since boot set dirty. -/
def dirtyCase3 (s : State) : Bool := s.hst.hostShutdown = some true

/-- The dirty shutdown at the Fence: the lowest case that holds (R100). -/
def fenceDirty (s : State) : State :=
  let s := { s with hst := { s.hst with dirtyRecorded := false } }
  if dirtyCase1 s then recordDirty 1 s else if dirtyCase3 s then recordDirty 3 s else s

/-- HST at the Fence: the gate closes; entries not accepted are released without completion and counted; waiting
requests and held reads are never answered (R25, R26, R99, HST_FENCE_REFUSED). -/
def hstFence (now : Nat) (h : Hst) : Hst :=
  let h := creditSpan now h
  { h with gateClosed := true, fenceRefused := min 0xFFFF (h.writes.filter fun w => !w.accepted).length,
           writes := h.writes.filter fun w => w.accepted, waiting := [], reads := [], readsWaiting := [],
           gpf := [] }

/-- CEL at the Fence: copies and records not issued are abandoned, erases are suspended and marked, relocation,
reclaim and patrol stop; a journal page already issued completes; a record that has passed waits without its completions to be applied
(R228, R359). -/
def celFence (c : Cel) : Cel :=
  let erasing := c.dies.toList.zipIdx.filterMap fun d =>
    d.1.erasing.map fun e => e.1 * 131072 + d.2 * 4096 + e.2.1
  { c with copies := [],
           recs := c.recs.filterMap fun r => match r.phase with
             | .issued _ => some r
             | .resolved true => some { r with names := [] }
             | _ => none,
           dies := c.dies.map fun d => { d with erasing := d.erasing.map fun e => (e.1, e.2.1, true) },
           blocks := erasing.foldl (fun t k => tmod {} t k fun b => { b with reErase := true }) c.blocks,
           reclaim := false, patrolRun := false, watches := [] }

/-- A mirror set at the Fence: a handover before its step 3 is cancelled to ACTIVE (R467); a drill ends as cancelled (R470). -/
def setFence (now : Nat) (m : MirrorSet) : MirrorSet :=
  let m := match m.drill with
    | some d => { m with drill := none, drillResult := { m.drillResult with outcome := 4, phase := d.phase, endAt := now } }
    | none => m
  let m := { m with drillJudge := false, handAt := none }
  if m.st = .handing && !m.handStep3 then { m with st := .active, roleRun := none } else m

/-- A handover of a set that the Fence cancels, scheduled or begun (R467). -/
def handCancelled (m : MirrorSet) : Bool := m.handAt.isSome || (m.st = .handing && !m.handStep3)

/-- The beats at the head of the forward queue that have credits of their kinds, in order (R436, R446). -/
def sendable : Nat → Nat → List FwdBeat → List FwdBeat
  | _, _, [] => []
  | c, d, b :: r =>
    if b.resync then (match d with | 0 => [] | d + 1 => b :: sendable c d r)
    else match c with | 0 => [] | c + 1 => b :: sendable c d r

/-- The last WSEQ of a set that has been sent, with beats that are not. -/
def lastSent (unsent : List FwdBeat) (k : Nat) (m : MirrorSet) : Nat :=
  match unsent.find? fun b => b.set = k with
  | some b => b.wseq - 1
  | none => m.wseq

/-- PLK at the Fence: PARTING is sent once the queued beats that have a credit are sent, in their order, with the last WSEQ sent of each
set; no credit is granted, and no further beat goes out (R436, R452): the others wait for their set to leave its state (R444). Sending is
taken in this step, and nothing but PARTING leaves on a link that retrains (DESIGN CHOICE: assumption 144). -/
def plkFence (s : State) : State :=
  let p := s.plk
  let ids := (List.range 4).filter fun k => handCancelled (vget {} p.sets k)
  let out := if p.contact && !p.retraining then sendable p.credits p.resyncCredits p.fwd else []
  let left := p.fwd.drop out.length
  let n := (out.filter fun b => b.resync).length
  let s := out.foldl (fun s b => sendFlit b s) s
  let q := { s.plk with fwd := left.filter fun b => !b.resync, sent := p.sent ++ out, credits := p.credits - (out.length - n),
                        resyncCredits := p.resyncCredits - n, granted := 0, resyncGranted := 0, partingSent := p.contact, sets := p.sets.map (setFence s.almanac), watches := [] }
  let s := { s with plk := q }
  let s := ids.foldl (fun s k => notify 7 (event 0x000F .plk k (vget {} s.plk.sets k).st.code s)) s
  if p.contact then emit (.link 0x06 (s.dev.entryCause :: p.sets.toList.zipIdx.map fun x => lastSent left x.2 x.1)) s else s

/-- The Abandon on LANTERN_OUT (R454). -/
def giveAbandon (s : State) : State := { s with plk := { s.plk with outAbandon := true } }

/-- The half of a precautionary stow that the Fence stops becomes PRECAUTION (R264). -/
def stopPrecaution (s : State) : State :=
  if s.dev.phase = .writing then
    let v := s.sav
    let v := match s.dev.harbourHalf with
             | .port => { v with port := { v.port with st := .precaution } }
             | .starboard => { v with stbd := { v.stbd with st := .precaution } }
    { s with sav := v, dev := { s.dev with phase := .ended, ackPend := false } }
  else if s.dev.phase = .waiting then { s with dev := { s.dev with phase := .ended, ackPend := false } }
  else { s with dev := { s.dev with ackPend := false } }

/-- The power path at the Fence (R252, R362, R365): the pack for cause 0x07, else MAINS while P12V is valid. -/
def fencePath (cause : Nat) (n : Nrg) : PowerPath :=
  if cause = 0x07 then .pack else if n.p12vValid then .mains else .pack

/-- The energy block at the Fence: the path, the charger off, the energy count started; an Exercise ends (R374, R386,
R391, R392). -/
def nrgFence (cause : Nat) (s : State) : Nrg :=
  let n := { s.nrg with path := fencePath cause s.nrg, chg := .off, chgMa := 0, rest := false, savePj := 0,
                        auth := none, authAgain := s.nrg.auth.isSome }
  match n.exer with
  | some x => { n with exer := none, exerResult := 9, exerDepth := exerDepthNow s x }
  | none => n

/-- The gauge at the Fence: a rest window ends; the change to the pack, the charger's stop and the end of an Exercise are current steps; the end of an Exercise wants its
closing reference and its record (11_gauge_reckoning R402, R409, R411, R412). -/
def gauFence (cause : Nat) (s : State) : State :=
  let s := { s with gau := { s.gau with restWindow := none } }
  let flows : Bool := s.nrg.chg = .precharge || s.nrg.chg = .constCurrent || s.nrg.chg = .constVoltage
  let s := if fencePath cause s.nrg = .pack || s.nrg.exer.isSome || flows then markStep s else s
  if s.nrg.exer.isSome then
    let l := { s.log.life with exercises := satInc 0xFFFFFFFF s.log.life.exercises }
    { s with gau := { s.gau with storeDue := true, exerRef := s.plan.energy.chem ≠ 3 },
             log := { s.log with life := l } }
  else s

/-- The Reckoning and the gauge stop (R414): the verdict is frozen. -/
def rekFence (r : Rek) : Rek := { r with running := none, again := false }

/-- A Fence stops the restore and every demand fetch at once; what is written stays written (08_startup_restore R314). SAV_RESTORE_MS
keeps the time that it has run (DESIGN CHOICE: assumption 124). -/
def stopRestore (now : Nat) (r : RestoreRun) : RestoreRun :=
  { r with running := false, demand := [], overlay := [], overlayBase := [], cut := r.running || r.cut,
           endedUs := if r.running then some (now - r.startedAt) else r.endedUs }

/-- The save sequencer at the Fence (R247, R251, R253, R257): what the save uses is fixed now. -/
def savFence (cause : Nat) (s : State) : Sav :=
  { s.sav with phase := .drain, cause := cause, fenceTime := s.almanac, fenceFrom := s.dev.state,
               fenceArmed := s.dev.armed, fenceExposed := s.sui.any fun c => c.exposed,
               fenceSanitizing := s.hst.sanitizing.isSome, railsHeld := s.pwr.railsValid, drained := false,
               staggered := false, absenceSinceFence := cause = 0x07, run := none,
               musterOut := cause = 0x07 && s.plan.pins.musterOutEn, packOnly := cause = 0x07, opened := false, openPending := false,
               foldInFlight := [], foldPhase := 0, restore := stopRestore s.almanac s.sav.restore }

/-- Close the Fence in SERVICE, TENANCY, HARBOUR or WARM-RETURN (R247): the transition to FENCED and what each block
does. -/
def closeFence (cause : Nat) (s : State) : State :=
  let s := atticFence { s with sav := savFence cause s }
  let s := transition .fenced cause s
  let s := fenceDirty s
  let s := cutStaging (gauFence cause (stopPrecaution (plkFence s)))
  let bg := if s.hst.sanitizing.isSome then none else s.hst.bg
  let s := { s with hst := { hstFence s.almanac s.hst with bg := bg, sanitizing := none },
                    stw := { s.stw with stalled := [], windowSuites := s.stw.windowSuites },
                    cel := celFence s.cel, dmw := { s.dmw with ch := s.dmw.ch.map dmwFenceChan },
                    nrg := nrgFence cause s, twp := { s.twp with pending := none }, rek := rekFence s.rek, svc := { s.svc with progress := none } }
  { s with stw := { s.stw with pressed := pressedNow s } }

/-- What a Fence trigger of a cause does in each state (Table 01-7, R250, R255, R39): SERVICE, TENANCY, HARBOUR and
WARM-RETURN close the Fence; RESTORE goes to SAVED with nothing written; BOOT goes to OFF on P12V and to SAVED on an
Abandon; FENCED, SAVING and SAVED only count it. From RESTORE and BOOT the trigger itself stands for the Fence of R710: what
began before it does not count (assumption 109). -/
def fenceTrigger (cause : Nat) (s : State) : State :=
  match s.dev.state with
  | .service | .tenancy | .harbour => closeFence cause s
  | .warmReturn => if cause = 0x09 then { s with dev := { s.dev with heldAbandon := true } } else closeFence cause s
  | .restore =>
    enterSaved cause { s with sav := { s.sav with absenceSinceFence := cause = 0x07,
                                                  restore := stopRestore s.almanac s.sav.restore } }
  | .boot =>
    if cause = 0x07 then enterOff cause s
    else if cause = 0x09 then enterSaved cause { s with sav := { s.sav with absenceSinceFence := false } }
    else s
  | .fenced | .saving | .saved =>
    { s with sav := { s.sav with lateTriggers := satInc 0xFFFF s.sav.lateTriggers } }
  | .off | .drydock => s

/-- MUSTER_IN_N is low after its filter: until it has risen at `musterHighAt` (R255, SAV_MUSTER.IN_LEVEL). -/
def musterPinLow (s : State) : Bool := !s.sav.musterIn || s.almanac < s.sav.musterHighAt

/-- The level of MUSTER_IN_N acts: it is low and MUSTER_IN_EN is 1 (R255, R256). -/
def musterLow (s : State) : Bool := s.plan.pins.musterInEn && musterPinLow s

/-- A level that is low where the part comes into a state that it closes the Fence in, or as it becomes enabled, closes
the Fence (R255). -/
def levelMuster (s : State) : State :=
  if musterLow s then
    match s.dev.state with
    | .service | .tenancy | .harbour | .warmReturn => closeFence 0x08 s
    | _ => s
  else s

/-! ### Safe Harbour (16_fault_stations R572) and entry to SERVICE (01_architecture R36, R38) -/

/-- A half by name, and its change. -/
def halfAt (s : State) : Half → HalfData
  | .port => s.sav.port
  | .starboard => s.sav.stbd

/-- Put a half. -/
def putHalf (h : Half) (f : HalfData → HalfData) (s : State) : State :=
  match h with
  | .port => { s with sav := { s.sav with port := f s.sav.port } }
  | .starboard => { s with sav := { s.sav with stbd := f s.sav.stbd } }

/-- A half qualifies for a new save (R261). -/
def halfQualifies (d : HalfData) : Bool := d.st ≠ .image && d.st ≠ .writing

/-- Some half qualifies (SAV_VEST.READY_ANY, with a Vestibule). -/
def anyQualifies (s : State) : Bool := halfQualifies s.sav.port || halfQualifies s.sav.stbd

/-- SAV_VEST.READY_ANY: a half qualifies, once Meta has been read. -/
def readyAny (s : State) : Bool := s.cel.metaLoaded && anyQualifies s

/-- A change of READY_ANY triggers a Reckoning (11_gauge_reckoning Table 11-5). -/
def noteReadyAny (before s : State) : State :=
  if readyAny before = readyAny s then s else { s with rek := { s.rek with again := true } }

/-- Change a half. -/
def modHalf (h : Half) (f : HalfData → HalfData) (s : State) : State := noteReadyAny s (putHalf h f s)

/-- Start the background erase of a half (R263, R572): its content is gone from then on. -/
def startErase (h : Half) (s : State) : State := modHalf h (fun d => { d with st := .erasing }) s

/-- Enter HARBOUR (R572): transition, event 0x0009, vector 6, a PRECAUTION half erased, the precautionary stow due;
with VEST_GIB 0 it ends at once with nothing written (R574). -/
def enterHarbour (cause : Nat) (s : State) : State :=
  let s := transition .harbour cause s
  let s := notify 6 (event 0x0009 .dev cause 0 s)
  let s := if s.sav.port.st = .precaution then startErase .port s else s
  let s := if s.sav.stbd.st = .precaution then startErase .starboard s else s
  { s with dev := { s.dev with phase := if s.plan.layout.vestGib = 0 then .ended else .waiting,
                               short := false, harbourList := [], harbourDueAt := s.almanac },
           log := { s.log with life := { s.log.life with harbours := satInc 0xFFFFFFFF s.log.life.harbours } },
           gau := { s.gau with storeDue := true } }

/-- Held Harbour escalations and replace requests take effect on entry to SERVICE: HARBOUR once, cause 0x0F with a
replace request (R36, R38). -/
def takeHeld (s : State) : State :=
  let d := s.dev
  if d.heldAbandon then
    closeFence 0x09 (giveAbandon { s with dev := { d with heldAbandon := false } })
  else if d.heldReplace then
    enterHarbour 0x0F { s with dev := { d with heldReplace := false, heldHarbour := false } }
  else if d.heldHarbour then enterHarbour 0x0E { s with dev := { d with heldHarbour := false } }
  else s

/-- Enter SERVICE with a cause (Table 01-7): the shutdown state becomes dirty (R100), the counters are stored
(R661), the Reckoning is wanted (R414), the flags are evaluated, and what was held takes effect. -/
def enterService (cause : Nat) (s : State) : State :=
  let s := transition .service cause s
  let s := { s with hst := { s.hst with shutdownDirty := true, gateClosed := false },
                    log := { s.log with lifeStored := s.log.life, lifeStoredAt := s.almanac },
                    rek := { s.rek with again := true } }
  takeHeld (reeval s)

end Sys2Proof.Machine
end

