-- ==== Sys2Proof/Machine/OpsMap.lean ====
section
/-! DEFINITION. The map from a DPA to a subchannel and its bank, and the requests of a subchannel (02_floor_plan R50; 04_dram R123, R132 to
R135; 05_rooms_suites_chart R174, R175). -/

namespace Sys2Proof.Machine

/-- A subchannel is populated: its bit of SUBCH_MASK (R49). -/
def populated (s : State) (sc : Nat) : Bool := s.plan.topo.subchMask.testBit sc

/-- Subchannels populated. -/
def populatedList (s : State) : List Nat := (List.range 16).filter (populated s)

/-- Channels whose two subchannels are populated, in ascending order (R175). -/
def channelList (s : State) : List Nat :=
  (List.range 8).filter fun c => populated s (2 * c) && populated s (2 * c + 1)

/-- DRAM capacity in bytes (R50). -/
def capacity (t : Topology) : Nat :=
  let n := ((List.range 16).filter t.subchMask.testBit).length
  n * t.physRanks * t.stack * (32 / t.devWidth) * t.dieGbit * 2 ^ 30 / 8

/-- Interleave unit of IL_GRAN (R174). -/
def ilUnit : Nat → Nat
  | 0 => 256
  | 1 => 4096
  | _ => 4194304

/-- The subchannel and subchannel beat index of a DPA (R174); none with no channel populated. -/
def dpaToSubch (s : State) (dpa : Nat) : Option (Nat × Nat) :=
  let chs := channelList s
  let n := chs.length
  let w := s.plan.layout.ilWays
  if n = 0 ∨ w = 0 ∨ n / w = 0 then none
  else
    let g := ilUnit s.plan.layout.ilGran
    let setBytes := capacity s.plan.topo / (n / w)
    if setBytes = 0 then none
    else
      let set := dpa / setBytes
      let x := dpa % setBytes
      let u := x / g
      let o := x % g
      let v := u / w
      match chs[set * w + u % w]? with
      | none => none
      | some c =>
        let y := v * g + o
        some (2 * c + (y / 256) % 2, y / 512 * 4 + (y % 256) / 64)

/-- Subchannel of a beat. -/
def subchOf (s : State) (beat : Nat) : Option Nat := (dpaToSubch s (beat * beatBytes)).map Prod.fst

/-- Subchannels that serve a Room (R174, R175): with 4 MiB units one channel, else every channel of its set. -/
def roomSubch (s : State) (r : Nat) : List Nat :=
  let chs := channelList s
  let w := s.plan.layout.ilWays
  let n := chs.length
  if n = 0 ∨ w = 0 ∨ n / w = 0 then []
  else
    let setBytes := capacity s.plan.topo / (n / w)
    let set := if setBytes = 0 then 0 else r * roomBytes / setBytes
    let x := if setBytes = 0 then 0 else r * roomBytes % setBytes
    let ways := if ilUnit s.plan.layout.ilGran = roomBytes then [x / roomBytes % w] else List.range w
    ways.flatMap fun k => match chs[set * w + k]? with | some c => [2 * c, 2 * c + 1] | none => []

/-- The DRAM coordinates of a subchannel beat index (R123, Table 04-2). -/
structure Coord where
  /-- Logical rank: physical rank and rank within the stack. -/
  rank : Nat
  group : Nat
  bank : Nat
  row : Nat
  /-- Beat within the row: column high above column low. -/
  col : Nat
  deriving DecidableEq, Repr

/-- DRAM coordinates of a subchannel beat index (R123, Table 04-2). -/
def coordOf (t : Topology) (a : Nat) : Coord :=
  let c := if t.devWidth = 4 then 32 else 16
  let group := (a / 4) % 8
  let r := a / 32 / c
  let bank := r % 4
  let r := r / 4
  let lrank := r % t.stack
  let r := r / t.stack
  let prank := r % t.physRanks
  { rank := prank * t.stack + lrank, group := group, bank := bank, row := r / t.physRanks,
    col := a / 32 % c * 4 + a % 4 }

/-- Number of a bank in rotation order, logical rank, bank group, bank (R138): 4 banks in 8 groups of a logical rank. -/
def bankNo (c : Coord) : Nat := c.rank * 32 + c.group * 4 + c.bank

/-- A subchannel. -/
def subchAt (s : State) (sc : Nat) : Subch := vget {} s.drc.subch sc

/-- Change a subchannel. -/
def modSubch (sc : Nat) (f : Subch → Subch) (s : State) : State :=
  { s with drc := { s.drc with subch := vmod s.drc.subch sc f } }

/-! ### The pool of request entries (R132, R133) -/

/-- Bank number and row of a beat. -/
def beatBank (s : State) (beat : Nat) : Nat × Nat :=
  match dpaToSubch s (beat * beatBytes) with
  | some x => let k := coordOf s.plan.topo x.2; (bankNo k, k.row)
  | none => (0, 0)

/-- A buffered partner beat as a request of the real-time port, source PARTNER (R132). -/
def rtReq (p : RtBeat) : DrcReq :=
  { src := mPartner, beat := p.w.beat, seq := p.seq, entered := p.entered, kind := .write p.w none }

/-- Beats of the partner buffer for a subchannel. -/
def rtMine (s : State) (sc : Nat) : List RtBeat := s.plk.rt.filter fun p => subchOf s p.w.beat = some sc

/-- The requests that hold an entry of a subchannel's pool: shared and maintenance entries, and the real-time port (R132). -/
def pool (s : State) (sc : Nat) : List DrcReq :=
  ((subchAt s sc).queue ++ (rtMine s sc).map rtReq).filter fun q => q.entered.isSome

/-- Entries that the real-time port holds (SC_STATUS.RT_QUEUE). -/
def rtHeld (s : State) (sc : Nat) : Nat := ((pool s sc).filter fun q => q.src = mPartner).length

/-- A source's share of the pool has a free entry, and the bank of the beat too (R132, R133): 32 entries of the real-time port, 8 of
maintenance, 88 that the other sources share, 16 of one bank. -/
def entryFree (s : State) (sc src beat : Nat) : Bool :=
  let p := pool s sc
  let cals := (subchAt s sc).deferred.length + (subchAt s sc).forcedCal.length
  (p.filter fun q => (beatBank s q.beat).1 = (beatBank s beat).1).length < 16 &&
    (if src = mPartner then (p.filter fun q => q.src = mPartner).length < 32
     else if src = mDramScrub then (p.filter fun q => q.src = mDramScrub).length + cals < 8
     else (p.filter fun q => q.src ≠ mPartner ∧ q.src ≠ mDramScrub).length < 88)

/-- The entries that maintenance holds, for the patrol and for calibrations that wait, are all taken (R132). -/
def maintFull (s : State) (sc : Nat) : Bool :=
  8 ≤ ((pool s sc).filter fun q => q.src = mDramScrub).length + (subchAt s sc).deferred.length + (subchAt s sc).forcedCal.length

/-- The next order number of an entry of a subchannel's pool (R135). -/
def nextEntry (s : State) (sc : Nat) : Nat := ((pool s sc).map fun q => q.entered.getD 0).foldl max 0 + 1

/-- The entry that a new request of a source takes; none where it waits at its source, behind an earlier one or for an entry
(R133). -/
def entryNow (s : State) (sc src beat : Nat) : Option Nat :=
  let behind := if src = mPartner then (rtMine s sc).any fun p => p.entered.isNone
                else (subchAt s sc).queue.any fun q => q.src = src && q.entered.isNone
  if !behind && entryFree s sc src beat then some (nextEntry s sc) else none

/-! ### Every request completes (R134, R135; 16_fault_stations Table 16-3) -/

/-- A request goes before another one: those with an entry in the order of entry, then those without one in the order of issue (R134,
R135). -/
def DrcReq.before (a b : DrcReq) : Bool :=
  match a.entered, b.entered with
  | some x, some y => x < y
  | some _, none => true
  | none, some _ => false
  | none, none => a.seq < b.seq

/-- A request put in its place among requests that are in order. -/
def placeReq (q : DrcReq) : List DrcReq → List DrcReq
  | [] => [q]
  | p :: r => if q.before p then q :: p :: r else p :: placeReq q r

/-- Requests in the order in which they complete when all of them do. -/
def execOrder (l : List DrcReq) : List DrcReq := l.foldl (fun r q => placeReq q r) []

/-- What requests that complete in turn make of DRAM and of the reads on their way (R135, R161). -/
def completeAll : List DrcReq → Dram × List ReadFlight → Dram × List ReadFlight
  | [], x => x
  | q :: r, x =>
    match q.kind with
    | .read => completeAll r (x.1, x.2 ++ [takeFlight x.1 false q])
    | .write w _ => completeAll r (dramWrite w x.1, x.2.map fun f => if f.beat = q.beat then { f with overtaken := true } else f)

/-- Every request of a subchannel completes, those of the real-time port with the others. -/
def drainSubch (sc : Nat) (s : State) : State :=
  let c := subchAt s sc
  let x := completeAll (execOrder (c.queue ++ (rtMine s sc).map rtReq)) (s.dram, c.flight)
  modSubch sc (fun c => { c with queue := [], flight := x.2, draining := false }) { s with dram := x.1 }

/-- The write events that are still owed: of writes that wait for an entry (06_stowing_ceiling R211). -/
def owedEvents (s : State) : List Nat :=
  s.drc.subch.toList.flatMap fun c =>
    (c.queue.filter fun q => q.isWrite && q.entered.isNone && q.src ≠ mDramScrub).map fun q => q.beat * beatBytes / tileBytes

/-- Every queued request completes (R565), with the write events that were owed; the host entries of the writes are released. An accepted
mirrored write whose acknowledgement is still awaited keeps its completion pending (03_host_link R91, R95). -/
def drainAll (s : State) : State :=
  let owed := owedEvents s
  let s := (List.range 16).foldl (fun s sc => drainSubch sc s) s
  let l : List HostWrite := s.hst.writes.filterMap fun w =>
    if w.accepted then (if w.waitAck.isSome then some { w with inDram := true } else none) else some w
  let s := { s with plk := { s.plk with rt := [] }, hst := { s.hst with writes := l } }
  if s.dev.state = OpState.saving then s else reeval (owed.foldl (fun s t => writeEventCore t s) s)

end Sys2Proof.Machine
end

