-- ==== Sys2Proof/Machine/OpsFault.lean ====
section
/-! DEFINITION. The fault stations as shared operations (16_fault_stations R554 to R568): raise, escalation, level
actions, block resets, quarantine; and the replace request (R569 to R571). -/

namespace Sys2Proof.Machine

/-- A fault class: its block and its FSTAT bit. -/
structure FClass where
  blk : Block
  bit : Nat
  deriving DecidableEq, Repr

/-! ### The classes of every station (Tables 02-14, 04-9, 05-6, 05-7, 06-3, 07-10, 08-5, 09-5, 10-8, 11-8, 11-9,
12-15, 13-5, 14-8, 15-8, 16-1, 17-7, 17-8, 18-11, 19-7, 20-7) -/

def hstBadAccess : FClass := ⟨.hst, 0⟩
def hstIngressParity : FClass := ⟨.hst, 1⟩
def hstIdeFail : FClass := ⟨.hst, 2⟩
def devPrecautionShort : FClass := ⟨.dev, 0⟩
def fplSlotFail : FClass := ⟨.fpl, 0⟩
def fplDefault : FClass := ⟨.fpl, 1⟩
def fplPlanReject : FClass := ⟨.fpl, 2⟩
def drcDemandUe : FClass := ⟨.drc, 0⟩
def drcPatrolUe : FClass := ⟨.drc, 1⟩
def drcTrainFail : FClass := ⟨.drc, 2⟩
def drcCalFail : FClass := ⟨.drc, 3⟩
def drcBudget : FClass := ⟨.drc, 4⟩
def drcBadWrite : FClass := ⟨.drc, 5⟩
def drcTempHigh : FClass := ⟨.drc, 6⟩
def chtEntryUe : FClass := ⟨.cht, 0⟩
def chtTstateUe : FClass := ⟨.cht, 1⟩
def chtMapReadFail : FClass := ⟨.cht, 2⟩
def suiCtxUe : FClass := ⟨.sui, 0⟩
def stwExpose : FClass := ⟨.stw, 0⟩
def stwStowFail : FClass := ⟨.stw, 1⟩
def stwStray : FClass := ⟨.stw, 2⟩
def stwWearShort : FClass := ⟨.stw, 3⟩
def stwBadWrite : FClass := ⟨.stw, 4⟩
def savProgFail : FClass := ⟨.sav, 0⟩
def savHalfFull : FClass := ⟨.sav, 1⟩
def savFallback : FClass := ⟨.sav, 2⟩
def savUnsealed : FClass := ⟨.sav, 3⟩
def savNoHeader : FClass := ⟨.sav, 4⟩
def savListGap : FClass := ⟨.sav, 5⟩
def savBaseLost : FClass := ⟨.sav, 6⟩
def savRestoreRead : FClass := ⟨.sav, 7⟩
def savPlanHold : FClass := ⟨.sav, 8⟩
def celReadUe : FClass := ⟨.cel, 0⟩
def celProgFail : FClass := ⟨.cel, 1⟩
def celEraseFail : FClass := ⟨.cel, 2⟩
def celSpareLow : FClass := ⟨.cel, 3⟩
def celRescue : FClass := ⟨.cel, 4⟩
def celJournalLost : FClass := ⟨.cel, 5⟩
def celKeyLost : FClass := ⟨.cel, 6⟩
def celBadWrite : FClass := ⟨.cel, 7⟩
def nrgPackRemoved : FClass := ⟨.nrg, 0⟩
def nrgIdMismatch : FClass := ⟨.nrg, 1⟩
def nrgAuthFail : FClass := ⟨.nrg, 2⟩
def nrgThermFault : FClass := ⟨.nrg, 3⟩
def nrgPackOv : FClass := ⟨.nrg, 4⟩
def nrgPrechgTimeout : FClass := ⟨.nrg, 5⟩
def nrgExerAbort : FClass := ⟨.nrg, 6⟩
def nrgBadWrite : FClass := ⟨.nrg, 7⟩
def gauDisagree : FClass := ⟨.gau, 0⟩
def gauStale : FClass := ⟨.gau, 1⟩
def gauStoreFail : FClass := ⟨.gau, 2⟩
def gauBadWrite : FClass := ⟨.gau, 3⟩
def rekPackEol : FClass := ⟨.rek, 0⟩
def rekGrantLapse : FClass := ⟨.rek, 1⟩
def rekPowerFloor : FClass := ⟨.rek, 2⟩
def rekBadWrite : FClass := ⟨.rek, 3⟩
def plkLinkDown : FClass := ⟨.plk, 0⟩
def plkRevMismatch : FClass := ⟨.plk, 1⟩
def plkSetMismatch : FClass := ⟨.plk, 2⟩
def plkContactLost : FClass := ⟨.plk, 3⟩
def plkLanternStuck : FClass := ⟨.plk, 4⟩
def plkSplit : FClass := ⟨.plk, 5⟩
def plkPairWait : FClass := ⟨.plk, 6⟩
def plkWatchLate : FClass := ⟨.plk, 7⟩
def plkDrillFail : FClass := ⟨.plk, 8⟩
def plkBadWrite : FClass := ⟨.plk, 9⟩
def plkHomeConflict : FClass := ⟨.plk, 10⟩
def dmwProt : FClass := ⟨.dmw, 0⟩
def dmwRingUe : FClass := ⟨.dmw, 1⟩
def dmwImageMismatch : FClass := ⟨.dmw, 2⟩
def dmwBadWrite : FClass := ⟨.dmw, 3⟩
def attFetchFault : FClass := ⟨.att, 0⟩
def attReadUe : FClass := ⟨.att, 1⟩
def attWeakRead : FClass := ⟨.att, 2⟩
def attOpError : FClass := ⟨.att, 3⟩
def attSeqErr : FClass := ⟨.att, 4⟩
def attEraseStarve : FClass := ⟨.att, 5⟩
def attHalfErased : FClass := ⟨.att, 6⟩
def attSealLost : FClass := ⟨.att, 7⟩
def attBrownout : FClass := ⟨.att, 8⟩
def attRecoverFail : FClass := ⟨.att, 9⟩
def attBadWrite : FClass := ⟨.att, 10⟩
def eccSramUe : FClass := ⟨.ecc, 0⟩
def eccFabricPar : FClass := ⟨.ecc, 1⟩
def eccCoreUe : FClass := ⟨.ecc, 2⟩
def eccPatchMade : FClass := ⟨.ecc, 3⟩
def eccPatchFull : FClass := ⟨.ecc, 4⟩
def eccAtticLoss : FClass := ⟨.ecc, 5⟩
def eccBadWrite : FClass := ⟨.ecc, 6⟩
def twsTimeout : FClass := ⟨.tws, 0⟩
def twsProto : FClass := ⟨.tws, 1⟩
def twsPecErr : FClass := ⟨.tws, 2⟩
def twpBushung : FClass := ⟨.twp, 0⟩
def twpTimeout : FClass := ⟨.twp, 1⟩
def twpArbLost : FClass := ⟨.twp, 2⟩
def twpArbCond : FClass := ⟨.twp, 3⟩
def twpProto : FClass := ⟨.twp, 4⟩
def twpXferFail : FClass := ⟨.twp, 5⟩
def svcAuthFail : FClass := ⟨.svc, 0⟩
def svcPkgReject : FClass := ⟨.svc, 1⟩
def svcRefused : FClass := ⟨.svc, 2⟩
def svcHandoverFail : FClass := ⟨.svc, 3⟩
def svcConfirmFail : FClass := ⟨.svc, 4⟩
def svcInterrupted : FClass := ⟨.svc, 5⟩
def svcBadWrite : FClass := ⟨.svc, 6⟩
def logHoldDrop : FClass := ⟨.log, 0⟩
def logNandId : FClass := ⟨.log, 1⟩
def logBadWrite : FClass := ⟨.log, 2⟩
def pwrRailUv : FClass := ⟨.pwr, 0⟩
def pwrRailLost : FClass := ⟨.pwr, 1⟩
def pwrThrottle3 : FClass := ⟨.pwr, 2⟩
def pwrThermTrip : FClass := ⟨.pwr, 3⟩
def pwrBadWrite : FClass := ⟨.pwr, 4⟩

/-! ### Stations -/

/-- The station of a block. -/
def stationAt (s : State) (b : Block) : Station := vget {} s.stations (blockNum b)

/-- Change the station of a block. -/
def modStation (b : Block) (f : Station → Station) (s : State) : State :=
  { s with stations := vmod s.stations (blockNum b) f }

/-- The station of a block is in its reset's quarantine now (R566). -/
def resetting (s : State) (b : Block) : Bool :=
  match (stationAt s b).quarUntil with
  | some t => s.almanac < t
  | none => false

/-- The block whose sender ID a master is, for FABRIC_PAR (R566, Table 01-8). -/
def senderBlock (m : Nat) : Option Block :=
  if m = mHost then some .hst else if m = mPartner then some .plk else if m = mStow then some .stw
  else if m = mSave ∨ m = mRestore ∨ m = mFold ∨ m = mKeeper then some .sav else if m = mDramScrub then some .drc
  else if m = mSramScrub then some .ecc else if m = mCellarPatrol then some .cel
  else if m = mPurser then some .gau else if m = mPilot then some .plk else if m = mService then some .svc
  else if m = mAttic then some .att else if m = mSteward then some .fpl
  else if 0x10 ≤ m ∧ m < 0x20 then some .dmw else none

/-- The reset blocks whose quarantine holds a class of another block (Table 16-6). -/
def quarantinedBy (c : FClass) : List Block :=
  if c = dmwImageMismatch then [.drc, .cel]
  else if c = stwStowFail ∨ c = stwStray ∨ c = savProgFail ∨ c = savListGap ∨ c = savBaseLost ∨
      c = savRestoreRead ∨ c = chtMapReadFail then [.cel]
  else if c = gauDisagree ∨ c = rekPowerFloor then [.nrg]
  else if c = gauStoreFail ∨ c = eccAtticLoss ∨ c = logHoldDrop then [.att]
  else if c = nrgAuthFail then [.twp] else []

/-- A detection of a class by a master is quarantined now (R566). -/
def quarantined (s : State) (c : FClass) (mstr : Nat) : Bool :=
  resetting s c.blk || (quarantinedBy c).any (resetting s) ||
    (c = eccFabricPar && match senderBlock mstr with | some b => resetting s b | none => false)

/-! ### Block resets (R565, Table 16-3) -/

/-- Reset time of a block, µs; none where Contain acts as Notify (Table 16-3). -/
def resetTime : Block → Option Nat
  | .dev | .cht | .sui | .pwr => none
  | .hst => some 10 | .drc => some 5 | .stw => some 2 | .sav => some 1000 | .cel => some 10000 | .dmw => some 2
  | .nrg => some 1000 | .gau | .rek => some 5000 | .plk => some 5000 | .att => some 2000 | .ecc => some 2
  | .tws | .twp => some 100 | .svc => some 10 | .log => some 10 | .fpl => some 10

/-- The blocks whose detectors a reset of a block quarantines as its own: the Purser's blocks reset together
(R566). -/
def resetGroup : Block → List Block
  | .gau | .rek => [.gau, .rek, .nrg]
  | b => [b]

/-- The host link reset of R118: unaccepted requests are dropped without completion, decoders and MSI-X pending bits
return to reset, the link is down; accepted entries stay. Reads that hold or await an entry are dropped unanswered with them: R88 defines
acceptance for writes only (DESIGN CHOICE: assumption 147). -/
def linkReset (s : State) : State :=
  let h := creditSpan s.almanac s.hst
  let gone := (h.writes.filter fun w => !w.accepted).map fun w => w.tag
  { s with
    hst := { h with cxlVer := 0, rate := 0, width := 0, flit256 := false, linkUp := false, ideIoSecure := false,
                    ideMemSecure := false, hdm := Vector.replicate 4 {}, writes := h.writes.filter fun w => w.accepted,
                    waiting := [], reads := [], readsWaiting := [], gpf := [],
                    msixEnable := false, msixMask := 0, msixPending := 0 },
    stw := { s.stw with stalled := s.stw.stalled.filter fun c =>
               match c.hostTag with | some t => !gone.contains t | none => true } }

/-- The copies not yet issued to a die end as failed completions (Table 16-3, CEL); STOW_FAIL detections fall in the
quarantine and are counted there (R566). -/
def celResetCopies (s : State) : State :=
  let lost := s.cel.copies.filter fun c => c.phase = .latched ∨ c.phase = .staged ∨ c.phase = .reading
  let s := { s with cel := { s.cel with copies := s.cel.copies.filter fun c =>
                      !(c.phase = .latched ∨ c.phase = .staged ∨ c.phase = .reading) } }
  let stows := lost.filter fun c => match c.src with | .stow | .request _ | .fold => true | _ => false
  let s := stows.foldl (fun s c => completeTile false c.tile s) s
  modStation .stw (fun x => { x with quarantined := satAdd 0xFFFF x.quarantined stows.length }) s

/-- A core is held in reset for the reload of its whole memory, at most 5 ms (R540): a Reckoning that the Purser was
working on is lost with it (DEDUCED: assumption 45). -/
def holdCore (core : Nat) (s : State) : State :=
  { s with ecc := { s.ecc with reload := aset s.ecc.reload core (s.almanac + 5000) },
           rek := if core = mPurser then { s.rek with running := none } else s.rek }

/-- The blocks that a core runs, which its reload resets for the purpose of quarantine (R566). -/
def coreBlocks (core : Nat) : List Block :=
  if core = mSteward then [.dev, .fpl, .svc, .log] else if core = mPurser then [.gau, .rek, .nrg]
  else if core = mPilot then [.plk] else if core = mKeeper then [.sav] else []

/-- The quarantine of blocks begins: their reset time plus 1 µs (R566). -/
def quarantine (bs : List Block) (t : Nat) (s : State) : State :=
  bs.foldl (fun s c => modStation c (fun x => { x with quarUntil := some (max (x.quarUntil.getD 0) (s.almanac + t + 1)) }) s) s

/-- The effect of a block reset on its block's working logic (Table 16-3). -/
def blockEffect (b : Block) (s : State) : State :=
  match b with
  | .dev | .cht | .sui | .pwr | .log => s
  | .hst => reeval (linkReset s)
  | .drc =>
    let s := drainAll s
    { s with drc := { s.drc with subch := s.drc.subch.map fun c =>
      { c with banks := tmap {} (fun _ b => { b with openRow := none, hitStreak := 0 }) c.banks, lastBank := 0 } } }
  | .stw => { s with stw := { s.stw with urgent := [], normal := [] } }
  | .sav => s
  | .cel =>
    let s := celResetCopies s
    { s with cel := { s.cel with dies := s.cel.dies.map fun d => { d with heldUntil := max d.heldUntil (s.almanac + 10000) } } }
  | .dmw => reeval ((List.range 16).foldl (fun s n => dmwResetChan n s) s)
  | .nrg => { s with nrg := { s.nrg with auth := none, chg := .off, chgMa := 0, measAt := s.almanac,
                                         authAgain := s.nrg.authAgain || s.nrg.auth.isSome },
                     twp := { s.twp with pending := none } }
  | .gau | .rek => holdCore mPurser s
  | .plk =>
    let s := if s.plk.rev = 0 ∨ s.plk.retraining = true then s
             else modStation .plk (fun x => { x with quarantined := satAdd 0xFFFF x.quarantined 1 })
               { s with plk := { s.plk with replays := 0, retraining := true, retrains := satInc 0xFFFF s.plk.retrains } }
    holdCore mPilot s
  | .att =>
    let s := cutOp 0 .brownout (cutOp 1 .brownout (cutProg 0 .brownout (cutProg 1 .brownout s)))
    { s with att := { s.att with scanned := false, bank := s.att.bank.map fun k => { k with bound := none } } }
  | .ecc => { s with ecc := { s.ecc with sramPos := 0, atticPos0 := 0, atticPos1 := 0 } }
  | .tws => { s with tws := { s.tws with busy := false, page := 0, pointer := 0, ignoring := false } }
  | .twp => { s with twp := { s.twp with busy := false, pending := none, clearOwed := true } }
  | .svc =>
    let s := cutStaging s
    { s with svc := { s.svc with session := .none, roles := 0, key := 7, sessionKey := [], lastSeq := none,
                                         lastResp := [], sessionFails := 0, badVersion := false, owed := none } }
  | .fpl => s

/-- A block reset with its quarantine (R565, R566). -/
def blockReset (b : Block) (s : State) : State :=
  match resetTime b with
  | none => s
  | some t =>
    blockEffect b (quarantine (resetGroup b) t s)

/-! ### Raise and escalation (R555 to R561) -/

/-- The first part of a raise: count, live bit and quiet timer, captures, sticky bit, new level and grace timer
(R555 steps 1 to 4, R557). An FGRACE of 0 expires at once: Contain, within CAP (R558). -/
def raiseStation (c : FClass) (addr mstr access entry : Nat) (s : State) (x : Station) : Station :=
  let bit := BitVec.ofNat 32 (2 ^ c.bit)
  let was := x.sticky.getLsbD c.bit
  let lvl := min x.cap (if was then max (x.level + 1) entry else max x.level entry)
  let lvl := if !was && x.graceMs = 0 then max lvl (min x.cap 2) else lvl
  let first := x.sticky = 0
  let x := { x with raised := satInc 0xFFFF x.raised, live := x.live ||| bit,
                    quietAt := aset x.quietAt c.bit (s.almanac + x.quietTenMs * 10000) }
  let x := if first then
      { x with capAddr := addr, capMstr := mstr, capClass := c.bit, capAccess := access, capLevel := lvl,
               capState := s.dev.state.code, capValid := true, capTime := s.almanac }
    else x
  { x with sticky := x.sticky ||| bit, level := lvl, escalations := if x.level < lvl then satInc 0xFFFF x.escalations
                                                                      else x.escalations,
           graceAt := if was || x.graceMs = 0 then x.graceAt else aset x.graceAt c.bit (s.almanac + x.graceMs * 1000) }

/-- FCAP_TYPE as a word. -/
def capType (x : Station) : Nat :=
  x.capClass + 2 ^ 5 * x.capAccess + 2 ^ 8 * x.capLevel + 2 ^ 12 * x.capState + 2 ^ 31 * b2n x.capValid

/-- The Abandon action in each state (R559, R561, Table 01-7). -/
def abandon (s : State) : State :=
  match s.dev.state with
  | .warmReturn => { s with dev := { s.dev with heldAbandon := true } }
  | .fenced | .saving | .saved | .off | .drydock => s
  | _ => fenceTrigger 0x09 (giveAbandon s)

/-- The Harbour action in each state (R36, R561). -/
def harbourAction (s : State) : State :=
  match s.dev.state with
  | .service => enterHarbour 0x0E s
  | .boot | .restore | .tenancy | .warmReturn => { s with dev := { s.dev with heldHarbour := true } }
  | _ => s

/-- The action of a level that a station has reached (Table 16-2, R254, R561). In FENCED and SAVING an Abandon escalation is a
Fence trigger that only counts (R247, R250). -/
def levelAction (b : Block) (level : Nat) (s : State) : State :=
  let s := if level = 0 then s else notify (stationAt s b).vector s
  if s.dev.state = .fenced ∨ s.dev.state = .saving then (if level = 4 then fenceTrigger 0x09 s else s)
  else if level = 2 then blockReset b s
  else if level = 3 then harbourAction s
  else if level = 4 then abandon s
  else s

/-- A rise above Notify stops the automatic confirmation of an update (18_service_update R641) and ends a running Exercise at its next
check (10_energy_pack R391). -/
def stopAuto (level : Nat) (s : State) : State :=
  if 2 ≤ level then
    { s with svc := { s.svc with auto := false },
             nrg := { s.nrg with exer := s.nrg.exer.map fun x => { x with fault := true } } }
  else s

/-- Note that the station's level rose: vendor event 0x000A and the action of the level reached (R559). In DRYDOCK
the station only records (R561; assumption 22). -/
def escalate (b : Block) (old : Nat) (s : State) : State :=
  let x := stationAt s b
  let s := if old < x.level then stopAuto x.level s else s
  if old < x.level ∧ s.dev.state ≠ .drydock then
    levelAction b x.level (event 0x000A b x.level (capType x) s)
  else s

/-- One raise of a class that is not quarantined (R555). -/
def raiseNow (c : FClass) (addr mstr access entry : Nat) (s : State) : State :=
  let low := faultPinLow s
  let old := (stationAt s c.blk).level
  let s := modStation c.blk (fun x => raiseStation c addr mstr access entry s x) s
  let s := if !low && faultPinLow s then alertBit 3 s else s
  escalate c.blk old s

/-- A detection: quarantined (counted only) or raised (R555, R566). Records that the raise's own reports drop are
not raised again here. -/
def raiseCore (c : FClass) (addr mstr access entry : Nat) (s : State) : State :=
  if quarantined s c mstr then
    modStation c.blk (fun x => { x with quarantined := satInc 0xFFFF x.quarantined }) s
  else raiseNow c addr mstr access entry s

/-- Raise HOLD_DROP when records have been dropped since a state (R659). -/
def noteDrops (before s : State) : State :=
  if before.log.dropped < s.log.dropped then raiseCore logHoldDrop 0 mNone 0 1 s else s

/-- Raise a class with its address, master, access and entry level (R555). -/
def raiseAt (c : FClass) (addr mstr access entry : Nat) (s : State) : State :=
  noteDrops s (raiseCore c addr mstr access entry s)

/-- Raise a class that enters at Notify and captures no address or master. -/
def raise (c : FClass) (s : State) : State := raiseAt c 0 mNone 0 1 s

/-- Raise a class that enters at Notify with an address and a master. -/
def raiseAddr (c : FClass) (addr mstr access : Nat) (s : State) : State := raiseAt c addr mstr access 1 s

/-- A Log record, with HOLD_DROP when the holding queue drops it (R659). -/
def logRecord (type block a0 a1 a2 suite master : Nat) (s : State) : State :=
  noteDrops s (logCore type block a0 a1 a2 suite master s)

/-! ### The replace request (R569 to R571) -/

/-- Signal a replace reason that has just been set: event 0x0008, vector 6, HARBOUR (R570, R36, R38). -/
def replaceSignal (s : State) : State :=
  let s := alertBit 2 (notify 6 (event 0x0008 .dev s.dev.reasons.toNat 0 s))
  match s.dev.state with
  | .service => enterHarbour 0x0F s
  | .boot | .restore | .tenancy | .warmReturn | .harbour => { s with dev := { s.dev with heldReplace := true } }
  | _ => s

/-- Set a replace reason; nothing when it is already set. The Steward stores the bits at each change (R571). -/
def setReason (k : Nat) (s : State) : State :=
  if s.dev.reasons.getLsbD k then s
  else
    let r := s.dev.reasons ||| BitVec.ofNat 6 (2 ^ k)
    replaceSignal { s with dev := { s.dev with reasons := r, raises := satInc 0xFFFF s.dev.raises },
                           cal := { s.cal with reasons := r } }

/-- Clear a replace reason (Table 16-5). -/
def clearReason (k : Nat) (s : State) : State :=
  let r := s.dev.reasons &&& ~~~ (BitVec.ofNat 6 (2 ^ k))
  { s with dev := { s.dev with reasons := r }, cal := { s.cal with reasons := r } }

/-! ### Exposure (06_stowing_ceiling R235, R236) -/

/-- Flag a Suite Exposed, with event 0x0003 and vector 5 at the change, and class EXPOSE under policy 2 (R235). -/
def expose (id tile : Nat) (s : State) : State :=
  match suiteOf s id with
  | none => s
  | some c =>
    let s1 :=
      if c.exposed then s
      else
        let s1 := modSuite id (fun c => { c with exposed := true, exposedSince := s.almanac,
                                                 exposeCount := satInc 0xFFFF c.exposeCount }) s
        let s1 := if s.sui.any fun c => c.exposed then s1 else alertBit 4 s1
        notify 5 (vendorEvent 0x0003 .stw mNone id (tile * tileBytes) c.dirty (ceiling s) s1)
    if exposureOf s c = 2 then raiseAt stwExpose (tile * tileBytes) mNone 0 3 s1 else s1

/-- After a write event moved a Clean tile to Dirty in Stowed save: the Suite is Exposed when the device total is
above the ceiling or the Suite's count above its quota (R236); from the Fence on the flags hold (R238). -/
def exposeCheck (t : Nat) (s : State) : State :=
  match suiteOf s (tileSuite s t) with
  | none => s
  | some c =>
    if evaluates s.dev.state ∧ stowedMode s ∧ (ceiling s < s.cht.dirtyTotal ∨ c.cfg.quota < c.dirty) then expose c.cfg.id t s else s

/-- A write event at the tile state port (R190, R214, R236), with the flags evaluated again (R238). In SAVING no
tile state changes (R253). -/
def writeEvent (t : Nat) (s : State) : State :=
  if s.dev.state = .saving then s else
  let clean := (tileClass s t).saved && (tileAt s t).st = .clean
  let s := writeEventCore t s
  reeval (if clean then exposeCheck t s else s)

/-- Poison a beat already held in DRAM: the mark, the Chart and the poison list (R101, R103, R158). -/
def poisonBeat (beat source : Nat) (s : State) : State :=
  listPoison (beat * beatBytes) false source { s with dram := dramMark beat s.dram }

end Sys2Proof.Machine
end

