-- ==== Sys2Proof/Machine/OpsFlash.lean ====
section
/-! DEFINITION. Shared operations of the Attic that raise classes (14_attic R505 to R528): command cycles, starts and ends of
operations, reads. -/

namespace Sys2Proof.Machine

/-! ### Places -/

/-- A sector is mirrored (Table 14-1). -/
def mirroredSector (sector : Nat) : Bool := 97 ≤ sector && sector ≤ 104

/-- Window offset of a sector's base (R502, R530). -/
def sectorBase (b sector : Nat) : Nat := b * bankBytes + sector * 0x10000

/-- BANK_SECTOR: bit 7 bank, bits [6:0] sector (Table 14-6, ATT_WEAR, ATT_WEAK). -/
def bankSector (b sector : Nat) : Nat := b * 128 + sector

/-- The other bank. -/
def otherBank (b : Nat) : Nat := 1 - b

/-- The operation kinds that erase (R517). -/
def AtticOpKind.erases : AtticOpKind → Bool
  | .program | .rowProgram => false
  | _ => true

/-! ### Errors -/

/-- A sequence is abandoned, or a write or command is not taken, at an offset of the bank (R510). -/
def seqError (b ofs master : Nat) (s : State) : State :=
  raiseAddr attSeqErr (b * bankBytes + ofs) master 4 { s with att := { s.att with seqErr := satInc 0xFFFF s.att.seqErr } }

/-- Class OP_ERROR for an operation that ends with ERROR set (Table 14-8). -/
def raiseOpError (b : Nat) (o : AtticOp) (s : State) : State :=
  raiseAddr attOpError (sectorBase b o.sector) o.owner 4 s

/-- An operation that has not begun ends with an error and changes nothing (R505, R507, R512, R518, R528). -/
def refuseOp (b : Nat) (o : AtticOp) (code : AtticCode) (s : State) : State :=
  raiseOpError b o (modBank b (opFails b o code) s)

/-! ### Erase intent and seal (R520, R521) -/

/-- The newest intent record that names a sector, from either log sector (R522). -/
def newestIntent (k : AtticBank) (sector : Nat) : Option IntentRec :=
  ((k.intent0 ++ k.intent1).filter fun r => r.sector = sector).foldl (fun m r =>
    match m with
    | none => some r
    | some x => if x.seq < r.seq then some r else some x) none

/-- COUNT of the next erase of a sector (R520). -/
def nextCount (k : AtticBank) (sector : Nat) : Nat :=
  1 + max (((sealOf k sector).map fun x => x.count).getD 0) (((newestIntent k sector).map fun x => x.count).getD 0)

/-- The highest COUNT of any sector, with that of an erase (ATT_WEAR). -/
def noteWear (b sector count : Nat) (s : State) : State :=
  if s.att.maxCount < count then
    { s with att := { s.att with maxCount := min 0xFFFFFF count, maxSector := bankSector b sector } }
  else s

/-- Program an intent record for an erase of a sector into the active log sector, with the next SEQ (R520 step 1). -/
def programIntent (b sector owner : Nat) (s : State) : State :=
  let k := bankAt s b
  let r : IntentRec := { sector := sector, owner := owner, seq := s.att.eraseSeq, count := nextCount k sector,
                         time := s.almanac }
  let s := { s with att := { s.att with eraseSeq := (s.att.eraseSeq + 1) % 2 ^ 32 } }
  noteWear b sector r.count
    (modBank b (fun k => if k.log1 then { k with intent1 := k.intent1 ++ [r] } else { k with intent0 := k.intent0 ++ [r] }) s)

/-- Rotate the intent log when its active sector has one free position left (R521): the other log sector is erased and
sealed under its own intent record and becomes active. -/
def rotateIntent (b : Nat) (s : State) : State :=
  let k := bankAt s b
  let l := if k.log1 then k.intent1 else k.intent0
  if l.length < 2046 then s
  else
    let other := if k.log1 then 124 else 125
    let x : SectorSeal := { seq := s.att.eraseSeq, count := nextCount k other }
    let s := programIntent b other mAttic s
    modBank b (fun k =>
      { (if k.log1 then { k with intent0 := [] } else { k with intent1 := [] }) with
          log1 := !k.log1, seals := tset factorySeal k.seals other (some x) }) s

/-- Begin an erase operation (R511, R520): rotation, intent record, then pulses. -/
def beginErase (b sector owner : Nat) (kind : AtticOpKind) (s : State) : State :=
  let s := rotateIntent b s
  let seq := s.att.eraseSeq
  let count := nextCount (bankAt s b) sector
  let s := programIntent b sector owner s
  let o : AtticOp := { kind := kind, owner := owner, sector := sector, ofs := sector * 0x10000, words := [],
                       seq := seq, count := count }
  modBank b (fun k => { k with op := some o }) s

/-- The next sector that the scan found half-erased in a bank. -/
def nextHalfErased (k : AtticBank) : Option Nat :=
  (k.scan.find? fun x => x.2 = .halfErased).map Prod.fst

/-- Begin the re-erase of the next half-erased sector of a bank (R523). -/
def beginReErase (b : Nat) (s : State) : State :=
  match nextHalfErased (bankAt s b) with
  | none => s
  | some sec =>
    let s := { s with att := { s.att with reErases := satInc 0xFFFF s.att.reErases } }
    raiseAddr attHalfErased (sectorBase b sec) mAttic 0 (beginErase b sec mAttic .reErase s)

/-- The words of a sector are Erased; patch entries of the sector are removed (R506, 15_onchip_integrity R549). -/
def eraseWords (b sector : Nat) (s : State) : State :=
  let w0 := sector * sectorWords
  let p0 := b * 0x100000 + w0
  let s := modBank b (fun k => { k with words := tclear k.words w0 (w0 + sectorWords) }) s
  let s := { s with ecc := { s.ecc with apatch := s.ecc.apatch.filter fun x => !(p0 ≤ x.1 && x.1 < p0 + sectorWords) } }
  if s.ecc.apatch.length < 8 then clearReason 3 s else s

/-- A SECTOR ERASE from its intent record to its seal (14_attic R520). -/
def eraseSector (b sector : Nat) (s : State) : State :=
  let seq := s.att.eraseSeq
  let count := nextCount (bankAt s b) sector
  let s := eraseWords b sector (programIntent b sector mSteward (rotateIntent b s))
  modBank b (fun k => { k with seals := tset factorySeal k.seals sector (some { seq := seq, count := count % 2 ^ 24 }),
                               scan := aerase k.scan sector }) s

/-- Rebuild a sector from its twin's words (R528 step 3): each word whose value is not all ones, once. -/
def rebuildWords (b sector : Nat) (s : State) : State :=
  let w0 := sector * sectorWords
  let src := tslice (bankAt s (otherBank b)).words w0 (w0 + sectorWords)
  modBank b (fun k => { k with words := src.foldl (fun t x =>
    if x.2.value = BitVec.allOnes 64 then t else tset {} t (w0 + x.1) { value := x.2.value }) k.words }) s

/-- A word of the twin is uncorrectable (R528). -/
def twinTorn (b sector : Nat) (s : State) : Bool :=
  (tslice (bankAt s (otherBank b)).words (sector * sectorWords) ((sector + 1) * sectorWords)).any fun x => x.2.torn

/-! ### Starts of operations (R505, R507, R512, R518, R524, R525, R528) -/

/-- The operation of a RECOVER that runs in the other bank on the twin of a sector (R528). -/
def twinBusy (s : State) (b sector : Nat) : Bool :=
  match (bankAt s (otherBank b)).op with
  | some o => o.kind = .recover && o.sector = sector
  | none => false

/-- Why an operation ends before any pulse, if it does. -/
def startCode (s : State) (b : Nat) (o : AtticOp) : AtticCode :=
  let k := bankAt s b
  let onSeal := o.kind = .program ∧ o.ofs % 0x10000 = 0xFFF8 ∨ o.kind = .rowProgram ∧ o.ofs % 0x10000 = 0xFF00
  if o.owner ≠ mAttic ∧ (124 ≤ o.sector ∨ onSeal) then .protect
  else if o.kind = .recover ∧ mirroredSector o.sector = false then .protect
  else if twinBusy s b o.sector then .twinBusy
  else if !o.kind.erases ∧ scanOf k o.sector = some .sealLost then .protect
  else if !o.kind.erases ∧ (match k.op with | some x => x.sector = o.sector | none => false) = true then .suspendedSector
  else
    match (o.words.zipIdx.map fun x => programCode x.1 (atticWord k (o.ofs + 8 * x.2))).find? fun c => c ≠ .none with
    | some c => c
    | none => .none

/-- A bank takes a command that changes the array now: no operation, or a program beside a suspended erase (R510, R518). -/
def bankTakes (k : AtticBank) (kind : AtticOpKind) : Bool :=
  match k.op with
  | none => k.prog.isNone
  | some o => !kind.erases && o.susp ≠ .no && k.prog.isNone

/-- An operation starts at its command's last cycle (R511): refused while the bank is busy, ended at once by an error, or
begun. Below the brown-out threshold no pulse starts (R525). -/
def startOp (b : Nat) (o : AtticOp) (s : State) : State :=
  let k := bankAt s b
  if !bankTakes k o.kind then seqError b o.ofs o.owner s
  else
    let s := modBank b (fun k => { k with err := match k.err with
                                                 | some e => if e.1 = o.owner then none else some e
                                                 | none => none }) s
    let c := startCode s b o
    if c ≠ .none then refuseOp b o c s
    else if s.att.brownout then
      raiseAddr attBrownout (sectorBase b o.sector) o.owner 4
        (modBank b (opFails b o .brownout) { s with att := { s.att with brownouts := satInc 0xFFFF s.att.brownouts } })
    else if o.kind.erases then beginErase b o.sector o.owner o.kind s
    else if k.op.isSome then modBank b (fun k => { k with prog := some o }) s
    else modBank b (fun k => { k with op := some o }) s

/-! ### Command cycles (R509, R510, Table 14-4) -/

/-- Code of cycle 3 (Table 14-4). -/
def AtticOpKind.cycle3 : AtticOpKind → Nat
  | .program => 0x4D | .rowProgram => 0x52 | .sectorErase | .reErase => 0x45 | .recover => 0x72

/-- Cycles of a command (Table 14-4). -/
def AtticOpKind.cycles : AtticOpKind → Nat
  | .rowProgram => 36
  | _ => 4

/-- Cycle `i` of a command, counted from 0, fits Table 14-4; `base` is the offset of cycle 3. -/
def cycleFits (kind : AtticOpKind) (base i ofs value : Nat) : Bool :=
  match i with
  | 0 => ofs = 0x1A38 && value % 256 = 0x6E
  | 1 => ofs = 0x2C70 && value % 256 = 0xD1
  | 2 =>
    value % 256 = kind.cycle3 &&
      (match kind with
       | .program => ofs = 0x1A38
       | .rowProgram => ofs % 256 = 0
       | _ => ofs % 0x10000 = 0) && ofs < bankBytes
  | j + 3 =>
    match kind with
    | .program => ofs % 8 = 0 && ofs < bankBytes
    | .rowProgram => if j < 32 then ofs = base + 8 * j else ofs = base && value % 256 = 0xAD
    | k => ofs = base && value % 256 = 255 - k.cycle3

/-- Every cycle of a list fits, in order. -/
def cyclesFit (kind : AtticOpKind) (l : List (Nat × Nat)) : Bool :=
  let base := ((l[2]?).map Prod.fst).getD 0
  l.length ≤ kind.cycles && l.zipIdx.all fun x => cycleFits kind base x.2 x.1.1 x.1.2

/-- Offset of the first cycle that does not fit, and of the last cycle, of a list. -/
def misfitOfs (kind : AtticOpKind) (l : List (Nat × Nat)) : Nat :=
  let base := ((l[2]?).map Prod.fst).getD 0
  match l.zipIdx.find? fun x => kind.cycles ≤ x.2 || !cycleFits kind base x.2 x.1.1 x.1.2 with
  | some x => x.1.1
  | none => 0
def lastOfs (l : List (Nat × Nat)) : Nat := (l.getLast?.map Prod.fst).getD 0

/-- The operation that a whole sequence commands. -/
def opOf (kind : AtticOpKind) (master : Nat) (l : List (Nat × Nat)) : AtticOp :=
  let data := (l.drop 3).map fun c => BitVec.ofNat 64 c.2
  match kind with
  | .program =>
    let ofs := ((l[3]?).map Prod.fst).getD 0
    { kind := kind, owner := master, sector := sectorOf ofs, ofs := ofs, words := data }
  | .rowProgram =>
    let ofs := ((l[2]?).map Prod.fst).getD 0
    { kind := kind, owner := master, sector := sectorOf ofs, ofs := ofs, words := data.take 32 }
  | _ =>
    let ofs := ((l[2]?).map Prod.fst).getD 0
    { kind := kind, owner := master, sector := sectorOf ofs, ofs := ofs, words := [] }

/-- The Attic takes commands now (R522, R526). -/
def atticOpen (s : State) : Bool := !s.att.closed && s.att.scanned

/-- Cycles of a command by a master reach a bank (R510): another master's binding has them ignored; a misfit abandons the
sequence; the last cycle starts the operation. -/
def atticCycles (kind : AtticOpKind) (b master : Nat) (cycles : List (Nat × Nat)) (s : State) : State :=
  if b < 2 ∧ atticOpen s = true ∧ cycles ≠ [] then
    match (bankAt s b).bound with
    | some (m, taken) =>
      if m ≠ master then cycles.foldl (fun s c => seqError b c.1 master s) s
      else
        let l := taken ++ cycles
        if !cyclesFit kind l then seqError b (misfitOfs kind l) master (modBank b (fun k => { k with bound := none }) s)
        else if l.length = kind.cycles then
          startOp b (opOf kind master l) (modBank b (fun k => { k with bound := none }) s)
        else modBank b (fun k => { k with bound := some (m, l) }) s
    | none =>
      if !cyclesFit kind cycles then seqError b (misfitOfs kind cycles) master s
      else if cycles.length = kind.cycles then startOp b (opOf kind master cycles) s
      else modBank b (fun k => { k with bound := some (master, cycles) }) s
  else s

/-- A one-cycle command (SUSPEND, RESUME, READ_RESET) reaches a bank (R509, R510): ignored while another master's binding
holds, a misfit within the writer's own sequence; else it acts. -/
def oneCycle (b master : Nat) (f : State → State) (s : State) : State :=
  if b < 2 ∧ atticOpen s = true then
    match (bankAt s b).bound with
    | some (m, _) =>
      if m ≠ master then seqError b 0 master s
      else seqError b 0 master (modBank b (fun k => { k with bound := none }) s)
    | none => f s
  else s

/-! ### Suspend and resume (R515, R517) -/

/-- Suspend the erase of a bank while its pulses run (R517). -/
def suspendErase (b : Nat) (how : SuspendKind) (s : State) : State :=
  match (bankAt s b).op with
  | some o =>
    if o.kind.erases ∧ o.susp = .no then
      let o := { o with susp := how, suspSince := s.almanac }
      let s := { s with att := { s.att with suspends := satInc 0xFFFFFFFF s.att.suspends } }
      modBank b (fun k => { k with op := some o }) s
    else s
  | none => s

/-- Resume a suspended erase: the interrupted pulse is run again (R517). -/
def resumeErase (b : Nat) (s : State) : State :=
  match (bankAt s b).op with
  | some o =>
    let s := noteSuspended o s
    let o := { o with susp := .no, suspUs := suspTotal s.almanac o, stepped := true }
    modBank b (fun k => { k with op := some o }) s
  | none => s

/-! ### Reads (R508, R513, R515, R518, R523, R525, R527) -/

/-- The status word that an owner reads in a bank, with STEPPED cleared by the read (R513); none when it owns nothing. -/
def ownerStatus (b master : Nat) (s : State) : Option Nat × State :=
  let k := bankAt s b
  match k.prog with
  | some o =>
    if o.owner = master then
      (some (statusWord b o true false .none), modBank b (fun k => { k with prog := some { o with stepped := false } }) s)
    else (none, s)
  | none =>
    match k.op with
    | some o =>
      if o.owner = master then
        (some (statusWord b o true false .none), modBank b (fun k => { k with op := some { o with stepped := false } }) s)
      else (none, s)
    | none =>
      match k.err with
      | some e => if e.1 = master then (some e.2, s) else (none, s)
      | none => (none, s)

/-- An erase-intent record (Table 14-6). -/
def intentBytes (bank : Nat) (r : IntentRec) : List Byte :=
  let b := leBytes 4 0x544E4945 ++ [BitVec.ofNat 8 (bank * 128 + r.sector), BitVec.ofNat 8 r.owner, 0, 0] ++ leBytes 4 r.seq ++
    leBytes 4 r.count ++ leBytes 8 r.time ++ leBytes 4 0
  b ++ leBytes 4 (crc32 b).toNat

/-- The word of a sector seal (R520 step 3). -/
def sealWord (x : SectorSeal) : Nat := x.seq % 2 ^ 32 + x.count % 2 ^ 24 * 2 ^ 32 + 0xA5 * 2 ^ 56

/-- The word that a bank holds at an offset: a sector's seal at its last word, intent records in sectors 124 and 125, else what was
programmed (R505, R520, R521). A seal that is not valid and a place without a record read as erased. -/
def shownWord (b : Nat) (k : AtticBank) (ofs : Nat) : AtticWord :=
  let sec := sectorOf ofs
  let o := ofs % 0x10000
  if o / 8 = 0x1FFF then
    (match sealOf k sec with | some x => { value := BitVec.ofNat 64 (sealWord x) } | none => {})
  else if sec = 124 || sec = 125 then
    match (if sec = 124 then k.intent0 else k.intent1)[o / 32]? with
    | some r => { value := BitVec.ofNat 64 (leNat (((intentBytes b r).drop (o % 32 / 8 * 8)).take 8)) }
    | none => {}
  else atticWord k ofs

/-- The array's answer for a word: all ones in a half-erased sector, an open value in a sector whose erase ended early, else
the decoded word, a patch entry's value, or a bus error (R522 to R527; 15_onchip_integrity R549). -/
def readArray (master offset : Nat) (reads : List (List Nat)) (s : State) : Option Dword × State :=
  let b := offset / bankBytes
  let ofs := offset % bankBytes
  let k := bankAt s b
  let sec := sectorOf ofs
  match s.ecc.apatch.find? fun x => x.1 = offset / 8 with
  | some x => (some x.2, s)
  | none =>
    if scanOf k sec = some .halfErased then (some (BitVec.allOnes 64), s)
    else if scanOf k sec = some .partial_ then
      let (v, s) := takeFree s
      (some (BitVec.ofNat 64 v), s)
    else match readWord (shownWord b k ofs) reads with
      | none => (none, raiseAddr attReadUe offset master 1 { s with att := { s.att with ue := satInc 0xFFFF s.att.ue } })
      | some (.shifted, v) => (some v, raiseAddr attWeakRead offset master 1
          { s with att := { s.att with retried := satInc 0xFFFF s.att.retried, weak := some (bankSector b sec) } })
      | some (_, v) => (some v, s)

/-- An erase pulse or a program of another owner is in the way of a master's access to a bank (R515): the Attic controller's
own operations are foreign to everyone. -/
def foreignTo (k : AtticBank) (master : Nat) : Bool :=
  (match k.op with | some o => o.owner = mAttic || o.owner ≠ master | none => false) ||
    (match k.prog with | some o => o.owner ≠ master | none => false)

/-- A window read of a word: status for the owner, status for every master in the sector of a suspended erase (R518), else
the array. A foreign read suspends an erase and waits for a program (R515): none while it waits. -/
def readWindow (master offset : Nat) (reads : List (List Nat)) (s : State) : Option (Option Dword) × State :=
  let b := offset / bankBytes
  match ownerStatus b master s with
  | (some x, s) => (some (some (BitVec.ofNat 64 x)), s)
  | (none, s) =>
    let k := bankAt s b
    let progRuns := k.prog.isSome || (match k.op with | some o => !o.kind.erases | none => false)
    if progRuns then (none, s)
    else
      let s := suspendErase b .byForeign s
      match (bankAt s b).op with
      | some o =>
        if o.sector = sectorOf (offset % bankBytes) ∧ o.kind ≠ .reErase then
          (some (some (BitVec.ofNat 64 (statusWord b o true false .none))), s)
        else let x := readArray master offset reads s; (some x.1, x.2)
      | none => let x := readArray master offset reads s; (some x.1, x.2)

/-- Give a master the answer of a window read. -/
def giveWord (x : Option (Option Dword) × State) : State :=
  match x.1 with
  | none => x.2
  | some (some v) => emit (.attic false v) x.2
  | some none => emit (.attic true 0) x.2

end Sys2Proof.Machine
end

