-- ==== Sys2Proof/Machine/Attic.lean ====
section
/-! DEFINITION. The commands of the Attic (14_attic): command sequences, ends of operations, suspends, the boot scan,
brown-out, reads. -/

namespace Sys2Proof.Machine

/-- Cycles as pairs. -/
def cyclePairs (l : List AtticCycle) : List (Nat × Nat) := l.map fun c => (c.ofs, c.value)

/-- ATTIC_PROGRAM (R507, R509 to R511). -/
def execAtticProgram (master bank : Nat) (cycles : List AtticCycle) (s : State) : Res :=
  .next (atticCycles .program bank master (cyclePairs cycles) s)

/-- ATTIC_ROW_PROGRAM (R512). -/
def execAtticRowProgram (master bank : Nat) (cycles : List AtticCycle) (s : State) : Res :=
  .next (atticCycles .rowProgram bank master (cyclePairs cycles) s)

/-- ATTIC_SECTOR_ERASE (R520, R521). -/
def execAtticSectorErase (master bank : Nat) (cycles : List AtticCycle) (s : State) : Res :=
  .next (atticCycles .sectorErase bank master (cyclePairs cycles) s)

/-- ATTIC_RECOVER (R528). -/
def execAtticRecover (master bank : Nat) (cycles : List AtticCycle) (s : State) : Res :=
  .next (atticCycles .recover bank master (cyclePairs cycles) s)

/-- ATTIC_SUSPEND (R517): lasts until RESUME; ignored while no erase pulse phase runs. -/
def execAtticSuspend (master bank : Nat) (s : State) : Res :=
  .next (oneCycle bank master (suspendErase bank .byCommand) s)

/-- A program runs beside the erase of a bank; one to a sector that waits for its re-erase has not begun (R518, R523). -/
def besideRuns (k : AtticBank) : Bool :=
  match k.prog with
  | some o => scanOf k o.sector ≠ some .halfErased
  | none => false

/-- A RESUME on a suspended bank (R517): the erase goes on at once, or after the program that runs beside it (R518). -/
def resumeBank (b : Nat) (s : State) : State :=
  match (bankAt s b).op with
  | some o =>
    if o.susp = .no then s
    else if besideRuns (bankAt s b) then modBank b (fun k => { k with op := some { o with susp := .byForeign } }) s
    else resumeErase b s
  | none => s

/-- ATTIC_RESUME (R509, R517, R518). -/
def execAtticResume (master bank : Nat) (s : State) : Res := .next (oneCycle bank master (resumeBank bank) s)

/-- ATTIC_READ_RESET (R513): the owner's error status is left. -/
def execAtticReadReset (master bank : Nat) (s : State) : Res :=
  .next (oneCycle bank master (fun s => modBank bank (fun k =>
    { k with err := match k.err with
                    | some e => if e.1 = master then none else some e
                    | none => none }) s) s)

/-- ATTIC_SEQ_TIMEOUT (R510): more than 10 µs between two cycles. -/
def execAtticSeqTimeout (bank : Nat) (s : State) : Res :=
  match (bankAt s bank).bound with
  | some (m, l) => .next (seqError bank (lastOfs l) m (modBank bank (fun k => { k with bound := none }) s))
  | none => .next s

/-- ATTIC_BAD_ACCESS (R503): a bus error and class SEQ_ERR. -/
def execAtticBadAccess (master offset : Nat) (s : State) : Res :=
  .next (raiseAddr attSeqErr offset master 4 (emit (.attic true 0) s))

/-- The program of a bank that runs: the one beside a suspended erase, else the operation. -/
def runningProgram (k : AtticBank) : Option AtticOp :=
  match k.prog with
  | some o => some o
  | none => match k.op with | some o => if o.kind.erases then none else some o | none => none

/-- ATTIC_PROGRAM_DONE (R507, R513): with pass the words are programmed and the bank returns to read mode, and values of all
ones always pass; else VERIFY_FAIL,
and what the words then hold is open. A program to a half-erased sector waits for its re-erase (R523). -/
def execAtticProgramDone (bank : Nat) (pass : Bool) (s : State) : Res :=
  match runningProgram (bankAt s bank) with
  | none => .next s
  | some o =>
    if scanOf (bankAt s bank) o.sector = some .halfErased then .next s
    else
      let s := modBank bank (fun k => if k.prog.isSome then { k with prog := none } else { k with op := none }) s
      if pass || o.words.all (fun v => v = BitVec.allOnes 64) then .next (modBank bank (putWords o) s)
      else .next (raiseOpError bank o (tearWords bank o (modBank bank (opFails bank o .verifyFail) s)))

/-- After an operation of the Attic controller: the RECOVER that follows the re-erase of a mirrored sector, then the next
re-erase (R523; 15_onchip_integrity R546). -/
def afterErase (b : Nat) (o : AtticOp) (s : State) : State :=
  if o.kind = .reErase ∧ mirroredSector o.sector = true then beginErase b o.sector mAttic .recover s
  else if o.owner = mAttic then beginReErase b s else s

/-- The rebuild of a RECOVER (R528): TWIN_UE on an uncorrectable word of the twin, else RECOVERED. One that the scrubber
started raises ATTIC_LOSS too (15_onchip_integrity R545). -/
def finishRecover (b : Nat) (o : AtticOp) (twinUe : Bool) (s : State) : State :=
  let a := s.att
  if twinUe || twinTorn b o.sector s then
    let s := modBank b (opFails b o .twinUe) { s with att := { a with unrecoverable := satInc 0xFFFF a.unrecoverable } }
    let s := raiseOpError b o (raiseAddr attRecoverFail (sectorBase b o.sector) o.owner 4 s)
    if o.owner = mAttic then
      raiseAddr eccAtticLoss (sectorBase b o.sector) mAttic 1
        { s with ecc := { s.ecc with atticLoss := satInc 0xFFFF s.ecc.atticLoss } }
    else s
  else rebuildWords b o.sector { s with att := { a with recovered := satInc 0xFFFF a.recovered } }

/-- The verify of an erase pulse has passed (R520 steps 3 and 4): sealed, words Erased; a RECOVER rebuilds the sector. -/
def sealErase (b : Nat) (o : AtticOp) (twinUe : Bool) (s : State) : State :=
  let x : SectorSeal := { seq := o.seq, count := o.count % 2 ^ 24 }
  let s := noteSuspended o (eraseWords b o.sector s)
  let s := modBank b (fun k => { k with op := none, seals := tset factorySeal k.seals o.sector (some x),
                                        scan := aerase k.scan o.sector }) s
  afterErase b o (if o.kind = .recover then finishRecover b o twinUe s else s)

/-- ATTIC_ERASE_PULSE_DONE (R520): a whole pulse with its verify. A pass seals the sector; after 200 pulses the erase ends
with VERIFY_FAIL. -/
def execAtticErasePulseDone (bank : Nat) (pass twinUe : Bool) (s : State) : Res :=
  match (bankAt s bank).op with
  | none => .next s
  | some o =>
    if o.kind.erases ∧ o.susp = .no then
      let o := { o with pulses := o.pulses + 1, stepped := true }
      if pass then .next (sealErase bank o twinUe s)
      else if o.pulses < 200 then .next (modBank bank (fun k => { k with op := some o }) s)
      else
        let s := noteSuspended o (modBank bank (fun k =>
          opFails bank o .verifyFail { k with op := none, seals := tset factorySeal k.seals o.sector none,
                                              scan := aset k.scan o.sector .partial_ }) s)
        .next (raiseOpError bank o s)
    else .next s

/-- ATTIC_FOREIGN_ACCESS (R515, R517): during an erase pulse it suspends the erase and is then served; during a program it
waits. -/
def execAtticForeignAccess (master offset : Nat) (reads : List (List Nat)) (s : State) : Res :=
  if offset < 2 * bankBytes ∧ s.att.scanned = true ∧ foreignTo (bankAt s (offset / bankBytes)) master = true then
    .next (giveWord (readWindow master offset reads s))
  else .next s

/-- ATTIC_AUTO_RESUME (R515, R518): an erase suspended only by foreign accesses. -/
def execAtticAutoResume (bank : Nat) (s : State) : Res :=
  match (bankAt s bank).op with
  | some o => if o.susp = .byForeign ∧ besideRuns (bankAt s bank) = false then .next (resumeErase bank s) else .next s
  | none => .next s

/-- FETCH_FAULT (R514): the owner's fetch from the bank of its own operation. -/
def execFetchFault (master offset : Nat) (s : State) : Res :=
  let b := offset / bankBytes
  let k := bankAt s b
  let mine := fun (o : AtticOp) => o.owner = master && master ≠ mAttic
  match (k.prog.filter mine).or (k.op.filter mine) with
  | some o =>
    let s := { s with att := { s.att with fetchFaults := satInc 0xFFFF s.att.fetchFaults, lastFetchMstr := master } }
    .next (raiseAddr attFetchFault offset master 3 (emit (.attic false (BitVec.ofNat 64 (statusWord b o true false .none))) s))
  | none => .next s

/-- ERASE_STARVE (R519): the summed suspended time exceeds STARVE_MS, once per erase. -/
def execEraseStarve (bank : Nat) (s : State) : Res :=
  match (bankAt s bank).op with
  | none => .next s
  | some o =>
    if o.kind.erases ∧ o.susp ≠ .no ∧ o.starved = false then
      let s := advanceTo (o.suspSince + (s.att.starveMs * 1000 - o.suspUs) + 1) s
      let s := noteSuspended o (modBank bank (fun k => { k with op := some { o with starved := true } }) s)
      .next (raiseAddr attEraseStarve (sectorBase bank o.sector) o.owner 4
        { s with att := { s.att with starves := satInc 0xFFFF s.att.starves } })
    else .next s

/-! ### The boot scan (R522 to R524) -/

/-- The class of a sector at the scan; none for Sealed (R522). -/
def classifySector (k : AtticBank) (sector : Nat) : Option SectorScan :=
  match newestIntent k sector, sealOf k sector with
  | none, some _ => none
  | some r, some x => if x.seq < r.seq then some .halfErased else none
  | some _, none => some .halfErased
  | none, none => some .sealLost

/-- Every SEQ that the scan reads in a bank. -/
def seqsOf (k : AtticBank) : List Nat :=
  (k.intent0 ++ k.intent1).map (fun r => r.seq) ++ (List.range 128).filterMap fun i => (sealOf k i).map fun x => x.seq

/-- Scan one bank: the classes, the erase counter above every SEQ read, ATT_WEAR, SEAL_LOST, the first re-erase. -/
def scanBank (b : Nat) (s : State) : State :=
  let k := bankAt s b
  let l := (List.range 128).filterMap fun i => (classifySector k i).map fun c => (i, c)
  let s := modBank b (fun k => { k with scan := l }) s
  let top := (seqsOf k).foldl (fun m x => max m (x + 1)) s.att.eraseSeq
  let s := { s with att := { s.att with eraseSeq := top % 2 ^ 32 } }
  let s := (List.range 128).foldl (fun s i => noteWear b i (nextCount k i - 1) s) s
  let s := (l.filter fun x => x.2 = .sealLost).foldl (fun s x =>
    raiseAddr attSealLost (sectorBase b x.1) mAttic 1
      { s with att := { s.att with sealLost := satInc 0xFFFF s.att.sealLost } }) s
  beginReErase b s

/-- ATTIC_BOOT_SCAN (R522, R526): at power-up and on entry to WARM-RETURN; `lostSeals` names the seals that do not decode,
by bank × 128 + sector. -/
def execAtticBootScan (lostSeals : List Nat) (s : State) : Res :=
  if s.att.scanned = false ∧ poweredState s.dev.state = true ∧ s.att.closed = false then
    let s := lostSeals.foldl (fun s x =>
      modBank (x / 128) (fun k => { k with seals := tset factorySeal k.seals (x % 128) none }) s) s
    let s := scanBank 1 (scanBank 0 s)
    .next { s with att := { s.att with scanned := true } }
  else .next s

/-- Cut every operation of a bank at brown-out, with class BROWNOUT for each (R525). -/
def brownBank (b : Nat) (s : State) : State :=
  let k := bankAt s b
  let one := fun (o : Option AtticOp) (s : State) =>
    match o with
    | some o => raiseAddr attBrownout (sectorBase b o.sector) o.owner 4 s
    | none => s
  one k.prog (one k.op (cutProg b .brownout (cutOp b .brownout s)))

/-- ATTIC_BROWNOUT (R525): from now on no pulse starts. -/
def execAtticBrownout (s : State) : Res :=
  .next (brownBank 1 (brownBank 0 { s with att := { s.att with brownout := true } }))

/-- ATTIC_READ (R503, R513, R527): a word of the window, for a master whose access is not held up. -/
def execAtticRead (master offset : Nat) (reads : List (List Nat)) (s : State) : Res :=
  if offset < 2 * bankBytes ∧ s.att.scanned = true then .next (giveWord (readWindow master offset reads s)) else .next s

end Sys2Proof.Machine
end

