-- ==== Sys2Proof/Machine/OpsDram.lean ====
section
/-! DEFINITION. Shared operations of the DRAM controller: capacity, the map from a DPA to a subchannel and its bank
(02_floor_plan R50; 04_dram R123; 05_rooms_suites_chart R174, R175), queue entry and the accesses of copies (R132 to R136). -/

namespace Sys2Proof.Machine

/-! ### Requests (R132 to R136) -/

/-- Copies whose data has been read from DRAM and that are still in the making: of a stow, a save, the Fold or a relocation, and the step of
a Dumbwaiter channel (R161). -/
def underCopy (s : State) (beat : Nat) : Bool :=
  (s.cel.copies.any fun c => c.tile = beat / beatsPerTile) ||
    (s.sav.run.any fun r => r.inFlight.any fun x => x.2.1 = beat / beatsPerTile) ||
    s.dmw.ch.toList.any fun c =>
      match c.run with
      | some r => r.granted && srcDpa s r.d + r.cursor ≤ beat * beatBytes && beat * beatBytes < srcDpa s r.d + r.cursor + tileBytes
      | none => false

/-- A write to a beat has its entry of the bank queue: the reads of the beat that have not returned note it, those of copies too (R161,
R163). -/
def noteEntry (sc beat : Nat) (s : State) : State :=
  let late := s.drc.lateBeats.filter (underCopy s)
  let late := if underCopy s beat && !late.contains beat then late ++ [beat] else late
  modSubch sc (fun c => { c with flight := c.flight.map fun r => if r.beat = beat then { r with overtaken := true } else r })
    { s with drc := { s.drc with lateBeats := late } }

/-- Issue a request of a source for a beat: it takes an entry of the pool or waits for one (R132, R133); a subchannel in self-refresh
keeps it until its exit (R152, R153); a request that is not the patrol's ends its idle time (R151). A request with no subchannel behind it is
dropped: the plan gives the beat no DRAM. -/
def enqueue (src beat : Nat) (k : DrcKind) (s : State) : State :=
  match subchOf s beat with
  | none => s
  | some sc =>
    let q : DrcReq := { src := src, beat := beat, seq := s.drc.nextSeq, entered := entryNow s sc src beat, kind := k }
    let s := { s with drc := { s.drc with
        nextSeq := s.drc.nextSeq + 1,
        subch := vmod s.drc.subch sc fun c =>
          { c with queue := c.queue ++ [q], lastReq := if src = mDramScrub then c.lastReq else s.almanac } } }
    if q.isWrite && q.entered.isSome then noteEntry sc beat s else s

/-- A write of a source takes its entry as it is issued; where no DRAM stands behind the beat there is none to wait for. -/
def entersNow (s : State) (src beat : Nat) : Bool :=
  match subchOf s beat with
  | some sc => (entryNow s sc src beat).isSome
  | none => true

/-- Issue a write that has a write event: the event is delivered once the write has its entry, at once where it takes one now
(06_stowing_ceiling R211). -/
def enqueueWrite (src : Nat) (w : BeatWrite) (tag : Option Nat) (s : State) : State :=
  let now := entersNow s src w.beat
  let s := enqueue src w.beat (.write w tag) s
  if now then writeEvent (w.beat * beatBytes / tileBytes) s else s

/-- Requests that wait at their sources take the entries that have come free: of the shared and maintenance entries in order of issue, then
of the real-time port in order of the buffer (R132, R133); the write events of the writes among them are delivered (06_stowing_ceiling
R211). -/
def fillPool (sc : Nat) (s : State) : State :=
  let s := (subchAt s sc).queue.foldl (fun s q =>
    let c := subchAt s sc
    if q.entered.isSome || c.queue.any (fun p => p.src = q.src && p.seq < q.seq && p.entered.isNone) || !entryFree s sc q.src q.beat
    then s
    else
      let n := nextEntry s sc
      let s := modSubch sc (fun c => { c with queue := c.queue.map fun p =>
        if p.seq = q.seq then { p with entered := some n } else p }) s
      if !q.isWrite then s
      else if q.src = mDramScrub then noteEntry sc q.beat s
      else writeEvent (q.beat * beatBytes / tileBytes) (noteEntry sc q.beat s)) s
  (rtMine s sc).foldl (fun s q =>
    if q.entered.isSome || (rtMine s sc).any (fun p => p.seq < q.seq && p.entered.isNone) || !entryFree s sc mPartner q.w.beat then s
    else
      let n := nextEntry s sc
      noteEntry sc q.w.beat
        { s with plk := { s.plk with rt := s.plk.rt.map fun p => if p.seq = q.seq then { p with entered := some n } else p } }) s

/-! ### The accesses of copies (R133 to R136, R149, R150, R153) -/

/-- A subchannel can serve the beats of a copy in turn: it is out of self-refresh, the share of the pool that the copy's source draws on has
an entry free, no request that has entered goes to one of the beats, and none of the source itself waits (R132 to R136, R152). -/
def copyServed (s : State) (src sc : Nat) (mine : Nat → Bool) : Bool :=
  let c := subchAt s sc
  !c.selfRef && !c.queue.any (fun q => q.src = src) && !(pool s sc).any (fun q => mine q.beat) &&
    ((pool s sc).filter fun q => q.src ≠ mPartner ∧ q.src ≠ mDramScrub).length < 88

/-- A copy of a tile, or of one beat, of a source may read or write DRAM now. A command that makes a copy does so once this holds: its
requests execute in turn within the command, each with an entry of the pool that comes back (DESIGN CHOICE: assumption 104). -/
def tileServed (s : State) (src t : Nat) : Bool :=
  (roomSubch s (t / tilesPerRoom)).all fun sc => copyServed s src sc fun b => b / beatsPerTile = t
def beatServed (s : State) (src beat : Nat) : Bool :=
  (subchOf s beat).all fun sc => copyServed s src sc fun b => b = beat

/-- A request of a copy stands before its subchannels: it ends their idle time and takes them out of self-refresh (R151, R153). -/
def callSubch (l : List Nat) (s : State) : State :=
  let touch := fun (i : Nat) (c : Subch) =>
    if i ∈ l then { c with lastReq := s.almanac, wake := c.wake || c.selfRef } else c
  { s with drc := { s.drc with subch := s.drc.subch.mapIdx touch } }
def callTile (t : Nat) (s : State) : State := callSubch (roomSubch s (t / tilesPerRoom)) s

/-- An activate: row opened, and the activate sampled with the probability of R149, by a free value; a bank that owes a command is not
sampled again (R150). With `turn` it is one of the rotating pick, which moves the pointer past the bank (R138). -/
def activate (sc bank row : Nat) (turn : Bool) (s : State) : State :=
  let (v, s) := takeFree s
  let n := s.drc.nrfLog2n
  modSubch sc (fun c => { c with
      lastBank := if turn then bank else c.lastBank,
      banks := tmod {} c.banks bank fun b =>
        { openRow := some row, hitStreak := 0,
          owesRfm := if b.owesRfm.isSome then b.owesRfm else if n ≠ 0 && v % 2 ^ n = 0 then some c.clockNs else none } }) s

/-- The directed refresh management command that a bank owes issues (R150). -/
def payRfm (sc bank : Nat) (s : State) : State :=
  modSubch sc (fun c => { c with banks := tmod {} c.banks bank fun x => { x with owesRfm := none } }) s

/-- The row of a copy's beat is opened, where it is not open: an owed refresh management command first (R138, R149, R150). -/
def openFor (s : State) (dpa : Nat) : State :=
  match dpaToSubch s dpa with
  | none => s
  | some x =>
    let k := coordOf s.plan.topo x.2
    if (tget {} (subchAt s x.1).banks (bankNo k)).openRow = some k.row then s
    else activate x.1 (bankNo k) k.row true (payRfm x.1 (bankNo k) s)

/-- The first DPA of every 256 bytes of a tile: four beats of one row (R123, R174). -/
def tileUnits (t : Nat) : List Nat := (List.range 256).map fun i => t * tileBytes + i * 256

/-- Copy beats access a tile, or one beat: their rows are opened, and from here on a write to one of the beats is later than the copy's read of
it (R161). -/
def tileAccess (t : Nat) (s : State) : State :=
  let s := callTile t { s with drc := { s.drc with lateBeats := s.drc.lateBeats.filter fun b => b / beatsPerTile ≠ t } }
  if (roomSubch s (t / tilesPerRoom)).isEmpty then s else (tileUnits t).foldl openFor s
def beatAccess (beat : Nat) (s : State) : State :=
  openFor (callSubch (subchOf s beat).toList { s with drc := { s.drc with lateBeats := s.drc.lateBeats.filter (· ≠ beat) } })
    (beat * beatBytes)

/-! ### Refresh debt and self-refresh (R143, R146, R152) -/

/-- Logical ranks of a subchannel. -/
def logicalRanks (s : State) : Nat := s.plan.topo.physRanks * s.plan.topo.stack

/-- tREFI of a logical rank, ns (R143, R146). -/
def trefi (s : State) (c : Subch) (r : Nat) : Nat := if s.drc.force2x || c.rate2x.contains r then 1950 else 3900

/-- Postponement debt of a bank index, ns (R143). -/
def debt (c : Subch) (x : RefreshIdx) : Nat := ((c.clockNs : Int) - x.due).toNat

/-- All bank indices of a subchannel: logical rank and bank index. -/
def allIdx (s : State) : List (Nat × Nat) :=
  (List.range (logicalRanks s)).flatMap fun r => (List.range 4).map fun b => (r, b)

/-- A bank index with its refreshes issued until it has no debt (R152 step 3): each adds tREFI to its due time, and catch-up ends. -/
def paid (t : Nat) (c : Subch) (x : RefreshIdx) : RefreshIdx :=
  { due := x.due + (t * ceilDiv (debt c x) t : Nat), catchup := false }

/-- A subchannel enters self-refresh (R152): every owed refresh management command and every refresh in debt has issued, banks are
closed. -/
def enterSelfRef (s : State) (c : Subch) : Subch :=
  { c with selfRef := true, wake := false, banks := [],
           refresh := (allIdx s).foldl (fun t i => tmod {} t (i.1 * 4 + i.2) (paid (trefi s c i.1) c)) c.refresh }

/-! ### Uncorrectable reads (R161) -/

/-- The bytes of an uncorrectable beat and of an undecoded read: any (assumption 7). -/
def poisonData : List Byte := (List.range beatBytes).map Config.freeByte


/-- The bytes of an uncorrectable beat are lost: any stand beside the mark (assumption 7). -/
def dramLost (beat : Nat) (d : Dram) : Dram := { d with bytes := storeBytes beat allEnables 0 poisonData d.bytes }

/-- An uncorrectable read of a beat by a master (R161): the poison list with source "media error" (internal), the Chart, the class,
the General Media Event; and the mark, with its write event, unless a write to the beat has entered the queue since (`later`). -/
def uncorrectable (beat mstr : Nat) (later : Bool) (s : State) : State :=
  let dpa := beat * beatBytes
  let s := { s with drc := { s.drc with ueCount := satInc 0xFFFFFFFF s.drc.ueCount } }
  let s := match subchOf s beat with
           | some sc => modSubch sc (fun c => { c with ue := satInc 0xFFFF c.ue }) s
           | none => s
  let s := if later then listPoison dpa false 2 s
           else writeEvent (dpa / tileBytes) (poisonBeat beat 2 { s with dram := dramLost beat s.dram })
  addEvent 2 (.generalMedia dpa s.almanac)
    (raiseAddr (if mstr = mDramScrub then drcPatrolUe else drcDemandUe) dpa mstr 1 s)

end Sys2Proof.Machine
end

