-- ==== Sys2Proof/Machine/OpsMirror.lean ====
section
/-! DEFINITION. Shared operations of mirroring: set states, forwarding at acceptance (12_partner_mirroring R437 to R448). -/

namespace Sys2Proof.Machine

/-- A mirror set. -/
def setAt (s : State) (k : Nat) : MirrorSet := vget {} s.plk.sets k

/-- Change a mirror set. -/
def modSet (k : Nat) (f : MirrorSet → MirrorSet) (s : State) : State :=
  { s with plk := { s.plk with sets := vmod s.plk.sets k f } }

/-- The mirror set of a Suite, when it is mirrored (R53). -/
def suiteSet (c : SuiteCtx) : Option Nat := if c.cfg.policy = .mirrored then some c.cfg.mirrorSet else none

/-- A mirrored Suite's set does not decode on this part (R87, R437). -/
def standbyFor (s : State) (c : SuiteCtx) : Bool :=
  match suiteSet c with
  | some k => !(setAt s k).st.decodes
  | none => false

/-- DEV_STATE.SINGLE_ANY (R438). -/
def singleAny (s : State) : Bool := s.sui.any fun c => c.single

/-- Mark a Room in the drift map of a set (R460). -/
def markDrift (k room : Nat) (s : State) : State :=
  modSet k (fun m => if m.drift.contains room then m else { m with drift := m.drift ++ [room] }) s

/-- The set of a mirrored Suite forwards writes now (R443). -/
def forwards (s : State) (k : Nat) : Bool := (setAt s k).st = .active || (setAt s k).st = .activeSync

/-- A write decoded before its set entered HANDING is forwarded as under the old role, until the ROLE record of step 3 (R204, R464). -/
def forwardsOld (s : State) (k : Nat) : Bool :=
  (setAt s k).st = .handing && !(setAt s k).handStep3 && (setAt s k).roleRun.isNone

/-- Forward an accepted write of a mirrored Suite (R443), with `old` one that was decoded under the role that the set has left (R204): the
next WSEQ is given and the beat queued; an ACTIVE_SINGLE set marks its drift map and counts the write (R441, R460). Answers the WSEQ that
the completion waits for. -/
def mirrorAccept (k : Nat) (w : BeatWrite) (tag : Option Nat) (old : Bool) (s : State) : Option Nat × State :=
  let m := setAt s k
  if forwards s k || (old && forwardsOld s k) then
    let n := m.wseq + 1
    let s := modSet k (fun m => { m with wseq := n }) s
    (some n, { s with plk := { s.plk with fwd := s.plk.fwd ++
        [{ set := k, wseq := n, w := w, resync := false, hostTag := tag, at_ := s.almanac }] } })
  else if m.st = .activeSingle then
    (none, markDrift k (w.beat * beatBytes / roomBytes)
      (modSet k (fun m => { m with singleWrites := m.singleWrites + 1 }) s))
  else (none, s)

/-- Add a poison record to the Watch of the set that holds a DPA (R448): 1 inject, 2 clear, 3 media error. -/
def watchRecord (dpa op len : Nat) (s : State) : State :=
  match suiteOfRoom s (dpa / roomBytes) with
  | none => s
  | some c =>
    match suiteSet c with
    | none => s
    | some k =>
      if forwards s k then
        modSet k (fun m => { m with watchPoison := m.watchPoison ++ [{ dpa := dpa, op := op, len := len }] }) s
      else s

end Sys2Proof.Machine
end

