-- ==== Sys2Proof/Machine/OpsHost.lean ====
section
/-! DEFINITION. Shared operations of the host link (03_host_link R84 to R103): address decoding, the tracker,
discards, acceptance, claims (06_stowing_ceiling R210, R231 to R235). -/

namespace Sys2Proof.Machine

/-! ### From host address to DPA -/

/-- Link DPA of a host physical address under one committed decoder: the interleave of the host is undone (R84). -/
def hdmOffset (d : HdmDecoder) (hpa : Nat) : Option Nat :=
  if d.committed && d.base ≤ hpa && hpa < d.base + d.size then
    let o := hpa - d.base
    if (o / d.gran) % d.ways = d.pos then some (o / (d.gran * d.ways) * d.gran + o % d.gran) else none
  else none

/-- Link DPA at which each decoder begins: decoders are committed in index order, each above the one before
(R84; PRESUMED: assumption 9). -/
def linkDpaFrom : Nat → List HdmDecoder → Nat → Option Nat
  | _, [], _ => none
  | b, d :: r, hpa =>
    match hdmOffset d hpa with
    | some o => some (b + o)
    | none => linkDpaFrom (if d.committed then b + d.size / d.ways else b) r hpa

/-- V_R and P_R of R85. -/
def volReported (s : State) : Nat := volRooms s * roomBytes / 2 ^ 28 * 2 ^ 28
def persReported (s : State) : Nat := persRooms s * roomBytes / 2 ^ 28 * 2 ^ 28

/-- DPA of a link DPA (R85). -/
def linkToDpa (s : State) (l : Nat) : Option Nat :=
  if l < volReported s then some (persRooms s * roomBytes + l)
  else if l < volReported s + persReported s then some (l - volReported s)
  else none

/-- DPA of a host physical address. -/
def hpaToDpa (s : State) (hpa : Nat) : Option Nat := (linkDpaFrom 0 s.hst.hdm.toList hpa).bind (linkToDpa s)

/-- The Room of a DPA is impaired (R127). -/
def impaired (s : State) (dpa : Nat) : Bool := (entryAt s (dpa / roomBytes)).impaired

/-- The Suite is not decoded in TENANCY: it had no ET_PERMIT when the restore began (R199). -/
def etHidden (s : State) (c : SuiteCtx) : Bool := s.dev.state = .tenancy && !c.etAtRestore

/-- The enabled Suite that decodes a DPA for the host, or the discard reason: 0 undecoded, 2 standby mirrored
(R87, R127, R199). -/
def decodeDpa (s : State) (dpa : Nat) : Except Nat SuiteCtx :=
  match suiteOfRoom s (dpa / roomBytes) with
  | none => .error 0
  | some c =>
    if impaired s dpa || etHidden s c then .error 0
    else if standbyFor s c then .error 2
    else .ok c

/-- The restore of a Room has not ended, in TENANCY (R311). -/
def roomPending (s : State) (room : Nat) : Bool := s.dev.state = .tenancy && s.sav.restore.order.contains room

/-- Start a demand fetch of a Room on the first held access, in order of arrival (R311, R312). -/
def demandFetch (room : Nat) (s : State) : State :=
  let r := s.sav.restore
  if roomPending s room && !(r.demand.any fun d => d.1 = room) then
    { s with sav := { s.sav with restore := { r with demand := r.demand ++ [(room, s.almanac, false)] } } }
  else s

/-! ### Completions and discards -/

/-- Tags from here on name the write of a Clear Poison command, whose completion is the command's response
(05_rooms_suites_chart R190). -/
def clearTags : Nat := 2 ^ 64

/-- Give the host a completion while the link is up. The spec does not say whether the completion of an accepted mirrored write whose
acknowledgement comes after the link went down and trained again is still given: the model gives it on the new link (DESIGN CHOICE:
assumption 117). -/
def complete (tag : Nat) (effect : Bool) (s : State) : State :=
  if s.hst.linkUp then
    emit (if clearTags ≤ tag then .mailbox 0x4302 (if effect then 0 else 2) [] else .writeDone tag effect) s
  else s

/-- Discard a write (R90): completed, counted with its reason, noted for the 1 ms window. Nothing while the
synchronised Fence flag is set. -/
def discard (tag reason : Nat) (s : State) : State :=
  if s.hst.gateClosed then s
  else
    let h := s.hst
    let n := (alookup h.windowDiscards reason).getD 0
    complete tag false
      { s with hst := { h with discards := satInc 0xFFFFFFF h.discards, lastReason := reason,
                               windowDiscards := aset h.windowDiscards reason (n + 1) } }

/-- Why a host write to a DPA is discarded, if it is (R87, R90, R116, R194). -/
def discardReason (s : State) (dpa : Option Nat) : Option Nat :=
  if s.hst.ideBroken then some 3
  else
    match dpa with
    | none => some 0
    | some a =>
      match decodeDpa s a with
      | .error r => some r
      | .ok c => if c.cfg.policy = .readOnly then some 1 else none

/-! ### The tracker -/

/-- A host write of the tracker by its tag. -/
def findWrite (s : State) (tag : Nat) : Option HostWrite := s.hst.writes.find? fun w => w.tag = tag && !w.accepted

/-- Change a host write that is not accepted. -/
def modWrite (tag : Nat) (f : HostWrite → HostWrite) (s : State) : State :=
  { s with hst := { s.hst with writes := s.hst.writes.map fun w => if w.tag = tag && !w.accepted then f w else w } }

/-- Remove a host write that is not accepted. -/
def dropWrite (tag : Nat) (s : State) : State :=
  { s with hst := { s.hst with writes := s.hst.writes.filter fun w => !(w.tag = tag && !w.accepted) } }

/-- The tile of a beat write. -/
def writeTile (w : BeatWrite) : Nat := w.beat * beatBytes / tileBytes

/-- What holds a write back when it enters the tracker: its Room's restore, or the fill of its Unwritten volatile
tile (R191, R311). -/
def holdFor (s : State) (w : BeatWrite) : WriteHold :=
  let t := writeTile w
  if roomPending s (t / tilesPerRoom) then .room
  else if tileClass s t = .volatile && (tileAt s t).st = .clean then .fill
  else .none

/-- Write entries free (R94). -/
def writeRoom (s : State) : Bool := s.hst.writes.length < 14336

/-- Read entries free (R94). -/
def readRoom (s : State) : Bool := s.hst.reads.length < 2048

/-- A host write enters the tracker (R95), with the hold that applies; a held Room starts its demand fetch. With the last entry for
writes taken their credits are withheld (R96). -/
def enterWrite (w : HostWrite) (s : State) : State :=
  let s := demandFetch (writeTile w.w / tilesPerRoom) s
  let s := { s with hst := { s.hst with writes := s.hst.writes ++ [{ w with hold := holdFor s w.w }] } }
  if writeRoom s || s.hst.creditHeldAt.isSome then s else { s with hst := { s.hst with creditHeldAt := some s.almanac } }

/-- Waiting requests take the entries that have come free, in order of arrival (R96). -/
def admitWaiting : Nat → State → State
  | 0, s => s
  | n + 1, s =>
    match s.hst.waiting with
    | [] => s
    | w :: r =>
      if writeRoom s then
        let s := { s with hst := { s.hst with waiting := r } }
        match discardReason s (some (w.w.beat * beatBytes)) with
        | some k => admitWaiting n (discard w.tag k s)
        | none => admitWaiting n (enterWrite w s)
      else s

/-- Entries for writes have come free: the waiting requests take them, and write credits are given again where one is left (R96). -/
def admitWrites (s : State) : State :=
  let s := admitWaiting s.hst.waiting.length s
  if writeRoom s then { s with hst := creditSpan s.almanac s.hst } else s

/-- Release the host entry of a write whose data has reached DRAM (R95); a mirrored write that waits for its
acknowledgement keeps it (R444). -/
def releaseEntry (tag : Nat) (s : State) : State :=
  let l : List HostWrite := s.hst.writes.filterMap fun w =>
    if w.tag = tag && w.accepted then (if w.waitAck.isSome then some { w with inDram := true } else none)
    else some w
  admitWrites { s with hst := { s.hst with writes := l } }

/-! ### Claims (R210, R231 to R235) -/

/-- STW grants a claim on a Clean tile of a Suite at once (R230, R231). -/
def claimFits (s : State) (c : SuiteCtx) : Bool :=
  !stowedMode s || (s.cht.dirtyTotal < ceiling s && c.dirty < c.cfg.quota)

/-- A claim that does not fit is stalled, and not exposed at once (R232). -/
def claimStalls (s : State) : Bool := stowRuns s && 0 < ceiling s && 0 < s.plan.policy.stallUs

/-- What STW does with a presented claim. -/
inductive Verdict where
  | grant | stall | expose
  deriving DecidableEq, Repr

/-- The verdict on a claim for a tile of a Suite (R210, R231, R232). -/
def claimVerdict (s : State) (t : Nat) (c : SuiteCtx) : Verdict :=
  if (tileAt s t).st ≠ .clean ∨ claimFits s c then .grant
  else if claimStalls s then .stall else .expose

/-- Grant a claim: Clean becomes Dirty; under the exposure policy the Suite is flagged (R210, R235). -/
def grantClaim (t : Nat) (exposed : Bool) (s : State) : State :=
  let id := tileSuite s t
  let s := claimTile t s
  reeval (if exposed then expose id t s else s)

/-- A claim joins the stalled claims with the bound in force (R234). -/
def stallClaim (tag : Option Nat) (ch t suite : Nat) (s : State) : State :=
  let k : StalledClaim := { hostTag := tag, channel := ch, tile := t, suite := suite, start := s.almanac,
                            bound := s.plan.policy.stallUs }
  let s := { s with stw := { s.stw with stalled := s.stw.stalled ++ [k] } }
  let n := (s.stw.stalled.filter fun c => c.hostTag.isSome).length
  reeval { s with hst := { s.hst with stallPeak := max s.hst.stallPeak n } }

/-- A stalled claim has ended: STW_STALL_MAX. -/
def noteStall (c : StalledClaim) (s : State) : State :=
  { s with stw := { s.stw with stallMax := max s.stw.stallMax (min 0xFFF (s.almanac - c.start)) } }

/-- Tell the source of a claim that it is granted: the host write, or the Dumbwaiter channel. -/
def claimGranted (c : StalledClaim) (s : State) : State :=
  match c.hostTag with
  | some tag => modWrite tag (fun w => { w with claim := .granted }) s
  | none =>
    { s with dmw := { s.dmw with ch := vmod s.dmw.ch c.channel fun x =>
        { x with stalled := false, run := x.run.map fun r => { r with claimed := true } } } }

/-! ### Acceptance (R88 to R92, R102) -/

/-- An accepted beat write from the host, Clear Poison or a Dumbwaiter channel reaches its tile: poison and list
bookkeeping, SANITIZED for a write of the host, the DRC queue and the write event (R21, R73, R92, R102, R190, R211). `src` is the
master and `tag` the host entry that the DRAM write frees. -/
def acceptBeat (src : Nat) (w : BeatWrite) (tag : Option Nat) (poisonSource : Nat) (s : State) : State :=
  let s := if w.poison then listPoison (w.beat * beatBytes) false poisonSource s
           else if w.enables = allEnables then unlistBeat w.beat s else s
  enqueueWrite src w tag { s with fpl := { s.fpl with sanitized := s.fpl.sanitized && src != mHost } }

/-- The Suite that decodes a write of the tracker, or the discard reason: a write decoded under the role that its set has left keeps its
decoding (R204). -/
def decodeWrite (s : State) (w : HostWrite) : Except Nat SuiteCtx :=
  match decodeDpa s (w.w.beat * beatBytes) with
  | .ok c => .ok c
  | .error k =>
    match suiteOfRoom s (w.w.beat * beatBytes / roomBytes) with
    | some c => if k = 2 && w.oldRole then .ok c else .error k
    | none => .error k

/-- A tile is volatile and Unwritten: a write to it waits for its fill (R191). -/
def needsFill (s : State) (t : Nat) : Bool := tileClass s t = .volatile && (tileAt s t).st = .clean

/-- All that R88 asks of a write in the tracker at this moment. -/
def acceptable (s : State) (w : HostWrite) : Bool :=
  !w.accepted && !s.hst.gateClosed && s.sav.opened && w.hold = .none && !needsFill s (writeTile w.w) &&
    (match decodeWrite s w with
     | .ok c => c.cfg.policy ≠ .readOnly
     | .error _ => false) &&
    (!(tileClass s (writeTile w.w)).saved || w.claim = .granted ||
      (w.claim ≠ .stalled && (tileAt s (writeTile w.w)).st ≠ .clean))

/-- Accept a host write (R88): the write reaches its tile, the completion leaves now or waits for the standby
(R91). -/
def acceptWrite (w : HostWrite) (s : State) : State :=
  let b := { w.w with poison := w.w.poison || w.parityBad }
  let s := { s with hst := { s.hst with accepts := s.hst.accepts + 1 },
                    log := { s.log with life := { s.log.life with hostBytes := s.log.life.hostBytes + beatBytes } } }
  let k := (suiteOfRoom s (b.beat * beatBytes / roomBytes)).bind suiteSet
  let (ack, s) := match k with
                  | some k => mirrorAccept k b (some w.tag) w.oldRole s
                  | none => (none, s)
  let s := { s with hst := { s.hst with writes := s.hst.writes.map fun x =>
      if x.tag = w.tag && !x.accepted then { x with accepted := true, waitAck := ack } else x } }
  let s := acceptBeat mHost b (some w.tag) 1 s
  let s := if ack.isNone then complete w.tag true s else s
  if w.parityBad then
    raiseAddr hstIngressParity (b.beat * beatBytes) mHost 2
      { s with hst := { s.hst with parityPoison := satInc 0xFFFF s.hst.parityPoison } }
  else s

/-! ### Reads (R93, R101) -/

/-- A read that nothing holds: zeros at once for an Unwritten volatile tile (R191), else a DRAM request of the host, whose return
answers it (R93, R95, R136). -/
def startRead (r : HostRead) (s : State) : State :=
  let t := r.beat * beatBytes / tileBytes
  if tileClass s t = .volatile && (tileAt s t).st = .clean then
    emit (.readData r.tag (List.replicate beatBytes 0) false) s
  else if (subchOf s r.beat).isNone then emit (.readData r.tag poisonData true) s
  else enqueue mHost r.beat .read
    { s with hst := { s.hst with reads := s.hst.reads ++ [{ r with req := some s.drc.nextSeq }] } }

/-- A read takes an entry: held while its tile is not restored yet, else started; an access to a Room whose restore has not ended
starts its demand fetch (R95, R311). -/
def admitRead (r : HostRead) (s : State) : State :=
  let t := r.beat * beatBytes / tileBytes
  let s := demandFetch (t / tilesPerRoom) s
  if roomPending s (t / tilesPerRoom) && !tget false s.sav.restore.written t then
    let n := s.sav.restore.arrivals
    { s with hst := { s.hst with reads := s.hst.reads ++ [{ r with arrival := n }] },
             sav := { s.sav with restore := { s.sav.restore with arrivals := n + 1 } } }
  else startRead r s

/-- Waiting reads take the entries that have come free, in order of arrival (R96). -/
def admitReads : Nat → State → State
  | 0, s => s
  | n + 1, s =>
    match s.hst.readsWaiting with
    | [] => s
    | r :: l =>
      if readRoom s then admitReads n (admitRead r { s with hst := { s.hst with readsWaiting := l } }) else s

/-- Release the held reads of a Room, or of one tile of it, in order of arrival (R311, R313). -/
def releaseReads (keep : Nat → Bool) (s : State) : State :=
  let stays := fun (r : HostRead) => r.req.isSome || keep (r.beat * beatBytes / tileBytes)
  let go := s.hst.reads.filter fun r => !stays r
  let s := { s with hst := { s.hst with reads := s.hst.reads.filter stays } }
  let s := go.foldl (fun s r => startRead r s) s
  admitReads s.hst.readsWaiting.length s

/-- Release the held writes of a Room whose restore has ended: each may now present its claim (R311). -/
def releaseRoomWrites (room : Nat) (s : State) : State :=
  { s with hst := { s.hst with writes := s.hst.writes.map fun w =>
      if w.hold = .room && writeTile w.w / tilesPerRoom = room then
        { w with hold := holdFor s w.w } else w } }

/-! ### The fill of a volatile tile (05_rooms_suites_chart R191) -/

/-- The next write of a channel is held and goes to a tile (R191, R485). -/
def chanHeldAt (s : State) (t : Nat) (c : Channel) : Bool :=
  c.held && match c.run with | some r => (dstDpa s r.d + r.cursor + r.stepDone) / tileBytes = t | none => false

/-- Writes held for the fill of a tile are let go, of the host and of Dumbwaiter channels (R191). -/
def releaseFill (t : Nat) (s : State) : State :=
  { s with hst := { s.hst with writes := s.hst.writes.map fun w =>
             if w.hold = .fill && writeTile w.w = t then { w with hold := .none } else w },
           dmw := { s.dmw with ch := s.dmw.ch.map fun c => { c with held := c.held && !chanHeldAt s t c } } }

/-- Zeros in every beat of an Unwritten tile, then Live, then what waits for it proceeds (R191). -/
def fillTile (t : Nat) (s : State) : State :=
  let s := tileAccess t s
  releaseFill t (putTile t { tileAt s t with st := .dirty } { s with dram := zeroTile t s.dram })

end Sys2Proof.Machine
end

