-- ==== Sys2Proof/Machine/OpsRoles.lean ====
section
/-! DEFINITION. The change of a mirror set's state, Single, and the release of waiting writes (12_partner_mirroring R438, R444, R447;
05_rooms_suites_chart R204). -/

namespace Sys2Proof.Machine

/-- The host entries of writes that no longer wait for an acknowledgement: free once in DRAM (R444, R95). -/
def freeEntries (tags : List Nat) (s : State) : State :=
  let l : List HostWrite := s.hst.writes.filterMap fun w =>
    if tags.contains w.tag && w.accepted then (if w.inDram then none else some { w with waitAck := none }) else some w
  admitWrites { s with hst := { s.hst with writes := l } }

/-- The beats of a set's writes that wait for their acknowledgement, sent or not. -/
def ackBeats (s : State) (k : Nat) : List FwdBeat := (s.plk.fwd ++ s.plk.sent).filter fun b => b.set = k && !b.resync

/-- Release every write that waits for the acknowledgement of a set: completed as though acknowledged, entries freed once in DRAM, their
Rooms marked in the drift map (R447). -/
def releaseWaiting (k : Nat) (s : State) : State :=
  let mine := ackBeats s k
  let tags := mine.filterMap fun b => b.hostTag
  let s := mine.foldl (fun s b => markDrift k (b.w.beat * beatBytes / roomBytes) s) s
  let s := tags.foldl (fun s t => complete t true s) s
  freeEntries tags
    { s with plk := { s.plk with fwd := s.plk.fwd.filter fun b => b.set ≠ k, sent := s.plk.sent.filter fun b => b.set ≠ k } }

/-- The host writes of a set's Suites that were decoded and not accepted when the set leaves the roles that decode: they complete under
the old role (05_rooms_suites_chart R204). -/
def oldRoles (k : Nat) (s : State) : State :=
  let mine := fun (w : HostWrite) => (suiteOfRoom s (w.w.beat * beatBytes / roomBytes)).bind suiteSet = some k
  { s with hst := { s.hst with writes := s.hst.writes.map fun w =>
                                     if !w.accepted && mine w then { w with oldRole := true } else w } }

/-- What a set's change of state releases: in HANDING the entries of forwarded writes, whose completions still wait for their
acknowledgement; in a state in which none comes any more the writes themselves (R91, R444, R447; DEDUCED: assumption 142). -/
def leaveActive (k : Nat) (old new : SetState) (s : State) : State :=
  if !(old = .active ∨ old = .activeSync ∨ old = .handing) ∨ new = .active ∨ new = .activeSync then s
  else if new = .handing then freeEntries ((ackBeats s k).filterMap fun b => b.hostTag) s
  else releaseWaiting k s

/-- Change the state of a mirror set (R438): Single of its Suites in the same cycle, events 0x000E and 0x000F with vector 7, the count of a
new stretch of ACTIVE_SINGLE (R441), and what it releases (R444, R447). -/
def changeSet (k : Nat) (new : SetState) (s : State) : State :=
  let old := (setAt s k).st
  if old = new then s
  else
    let any0 := singleAny s
    let s := modSet k (fun m => { m with st := new, singleWrites := if new = .activeSingle then 0 else m.singleWrites }) s
    let s := { s with sui := s.sui.map fun c => if suiteSet c = some k then { c with single := new.single } else c }
    let s := if any0 = singleAny s then s else alertBit 5 s
    let s := if old.single = new.single then s
             else notify 7 (event 0x000E .plk k (b2n new.single) s)
    let s := if old.decodes = new.decodes then s else notify 7 (event 0x000F .plk k new.code s)
    let s := if old.decodes && !new.decodes then oldRoles k s else s
    leaveActive k old new s

end Sys2Proof.Machine
end

