-- ==== Sys2Proof/Machine/OpsCellar.lean ====
section
/-! DEFINITION. Shared operations of the Cellar controller (09_cellar): geometry, slots of a half, frontiers, copies, records, Meta blocks
and pages, checkpoints, block retirement, reads. -/

namespace Sys2Proof.Machine

/-! ### Geometry (R325 to R328) -/

/-- Blocks per die of a partition of so many GiB (R325). -/
def partBlocks (s : State) (gib : Nat) : Nat := ceilDiv (gib * 1024) (48 * dieCount s)

/-- Blocks per die of the Cellar, Vestibule, Meta and Spare partitions (R325, R326). -/
def cellarBlocks (s : State) : Nat := partBlocks s s.plan.layout.cellarGib
def vestBlocks (s : State) : Nat := partBlocks s s.plan.layout.vestGib
def metaBlocks (s : State) : Nat := partBlocks s s.plan.layout.metaGib

/-- Channel of a die, and its position on the channel (R322). -/
def dieChannel (d : Nat) : Nat := d % 8
def diePosition (d : Nat) : Nat := d / 8

/-- Die, Cellar block and position in the block of a slot (R327): position 3 × wordline + page. -/
def slotDie (s : State) (x : Nat) : Nat := x / 3 % dieCount s
def slotBlock (s : State) (x : Nat) : Nat := x / 3 / dieCount s / 256
def slotPos (s : State) (x : Nat) : Nat := x / 3 / dieCount s % 256 * 3 + x % 3

/-- The slot at a die, Cellar block and position (R327 inverted). -/
def slotAt (s : State) (d b pos : Nat) : Nat := ((b * 256 + pos / 3) * dieCount s + d) * 3 + pos % 3

/-- Key of a block in the block table: partition 0 Cellar, 1 Vestibule, 2 Meta (R325). -/
def blockKey (part d b : Nat) : Nat := part * 131072 + d * 4096 + b

/-- A block, and its change. -/
def nandAt (s : State) (part d b : Nat) : NandBlock := tget {} s.cel.blocks (blockKey part d b)
def modNand (part d b : Nat) (f : NandBlock → NandBlock) (s : State) : State :=
  { s with cel := { s.cel with blocks := tmod {} s.cel.blocks (blockKey part d b) f } }

/-- First place of a block on its die: the partitions one after another, Cellar, Vestibule, Meta, Spare (assumption 25). -/
def homeBlock (s : State) (part b : Nat) : Nat :=
  (match part with
   | 0 => 0
   | 1 => cellarBlocks s
   | 2 => cellarBlocks s + vestBlocks s
   | _ => cellarBlocks s + vestBlocks s + metaBlocks s) + b

/-- Physical block of a block on its die, by the block table (R326). -/
def physBlock (s : State) (part d b : Nat) : Nat :=
  match tget 0 s.cel.remap (blockKey part d b) with
  | 0 => homeBlock s part b
  | n + 1 => n

/-- A die, and its change. -/
def dieAt (s : State) (d : Nat) : Die := vget {} s.cel.dies d
def modDie (d : Nat) (f : Die → Die) (s : State) : State :=
  { s with cel := { s.cel with dies := vmod s.cel.dies d f } }

/-- Spare blocks of a die: what its other partitions leave of its good blocks (R322, R325). -/
def spareBlocks (s : State) (d : Nat) : Nat := (dieAt s d).good - (cellarBlocks s + vestBlocks s + metaBlocks s)

/-- The least of a figure over the dies. -/
def minDies (s : State) (f : Nat → Nat) : Nat := (List.range (dieCount s)).foldl (fun m d => min m (f d)) (f 0)

/-- Replacement Spare blocks left on a die: the Spare count less the two heads and those used (R326). -/
def spareLeft (s : State) (d : Nat) : Nat := spareBlocks s d - 2 - (dieAt s d).spareUsed

/-! ### Slots of a half (R326, R328) -/

/-- Vestibule blocks per die of one half. -/
def runBlocks (s : State) : Nat := vestBlocks s / 2

/-- pSLC capacity P of a half in tiles. -/
def halfTiles (s : State) : Nat := runBlocks s * dieCount s * 256

/-- All slots of a half, the overflow slots among them; none without a Vestibule. -/
def halfSlots (s : State) : Nat := if runBlocks s = 0 then 0 else halfTiles s + 128 * dieCount s

/-- The die of a slot of a half, overflow slots too. -/
def halfDieOf (s : State) (x : Nat) : Nat := x % dieCount s

/-- Partition, die and block of a slot of a half: a Vestibule block, or the half's head block for an overflow slot. -/
def slotPlace (s : State) (h : Half) (x : Nat) : Nat × Nat × Nat :=
  if x < halfTiles s then
    (1, halfDieOf s x, (if h = .port then 0 else runBlocks s) + x / dieCount s / 256)
  else (3, halfDieOf s x, h.code)

/-- The block of a slot is lost (R350). -/
def slotLost (s : State) (h : Half) (x : Nat) : Bool :=
  let p := slotPlace s h x
  (nandAt s p.1 p.2.1 p.2.2).lost

/-- The first slot from `x` on whose block is not lost. -/
def usableSlot (s : State) (h : Half) : Nat → Nat → Nat
  | 0, x => x
  | n + 1, x => if slotLost s h x then usableSlot s h n (x + 1) else x

/-- Next free slot of a half from `x` on. -/
def nextSlot (s : State) (h : Half) (x : Nat) : Nat := usableSlot s h (halfSlots s - x) x

/-- The slots that so many programs in flight to a half take, from `x` on. -/
def flightSlots (s : State) (h : Half) : Nat → Nat → List Nat
  | 0, _ => []
  | n + 1, x => nextSlot s h x :: flightSlots s h n (nextSlot s h x + 1)

/-- Fewest replacement Spare blocks left on any die, and that die (CEL_SPARE). -/
def spareMin (s : State) : Nat × Nat :=
  (List.range (dieCount s)).foldl (fun a d => if spareLeft s d < a.1 then (spareLeft s d, d) else a)
    (spareLeft s 0, 0)

/-! ### Wear (R348, R349) -/

/-- Erases of a block, those of Sanitize and of background erases of a whole half among them (CEL_ERASE_MAX). -/
def halfErases (s : State) (part b : Nat) : Nat :=
  let port := s.cel.portErases
  let stbd := s.cel.stbdErases
  match part with
  | 1 => if b < runBlocks s then port else if b < 2 * runBlocks s then stbd else 0
  | 3 => if b = 0 then port else if b = 1 then stbd else 0
  | _ => 0
def blockErases (s : State) (part b : Nat) (n : NandBlock) : Nat := n.erases + s.cel.allErases + halfErases s part b - n.less

/-- A block at a place whose own erases, those of Sanitize aside, are so many. -/
def withErases (s : State) (part b e : Nat) (n : NandBlock) : NandBlock :=
  { n with erases := e - halfErases s part b, less := halfErases s part b - e }

/-- Mean erase count of a partition's blocks against a rating, in percent. -/
def wearPct (s : State) (part blocks rating : Nat) : Nat :=
  let n := blocks * dieCount s
  let sum := ((s.cel.blocks.filter fun p => p.1 / 131072 = part).map fun p => p.2.erases).foldl (· + ·) 0
  if n = 0 then 0 else (sum + s.cel.allErases * n) * 100 / (n * rating)

/-- Cellar endurance consumed, percent (R349). -/
def cellarWear (s : State) : Nat := wearPct s 0 (cellarBlocks s) 3000

/-! ### Records (05_rooms_suites_chart R183 to R187; R340) -/

/-- The record in force of a Room (R179). -/
def roomRec (s : State) (r : Nat) : Option RoomMap :=
  match (entryAt s r).mapPtr with
  | none => none
  | some p => (s.cel.journal.find? fun j => j.ptr = p).map fun j => j.rec_

/-- The record of a Room with the highest GEN in the journal (R182, R342). -/
def newestRecord (s : State) (r : Nat) : Option JournalRec :=
  (s.cel.journal.filter fun j => j.rec_.room = r).foldl (fun a j =>
    match a with
    | some b => if b.rec_.gen < j.rec_.gen then some j else a
    | none => some j) none

/-- The journal's record that stands for a Room: the one in force, or while MAP_STALE hides it the one that the re-read will find (R182,
R344, R346). -/
def standing (s : State) (r : Nat) : Option JournalRec :=
  let e := entryAt s r
  if e.mapStale then newestRecord s r else e.mapPtr.bind fun p => s.cel.journal.find? fun j => j.ptr = p

/-- Tile entry of a tile in the record in force; none has SLOT none (R185). -/
def mapEntry (s : State) (t : Nat) : MapEntry :=
  match roomRec s (t / tilesPerRoom) with
  | some m => tget {} m.tiles (t % tilesPerRoom)
  | none => {}

/-- Slots that records in force or in flight name, and those that a FETCH step reads (13_dumbwaiter R488): the live slots (R346). A Room whose map is stale keeps those of its record. -/
def liveSlots (s : State) : List Nat :=
  let named := fun (m : RoomMap) => m.tiles.filterMap fun e => e.2.slot
  (s.cht.entries.flatMap fun e => match standing s e.1 with | some j => named j.rec_ | none => []) ++
    s.cel.recs.flatMap (fun r => named r.rec_) ++ s.dmw.ch.toList.filterMap fun c => c.run.bind fun r => r.slot

/-- Live slots of a Cellar block. -/
def liveOf (s : State) (d b : Nat) : List Nat :=
  (liveSlots s).filter fun x => slotDie s x = d && slotBlock s x = b

/-- Key slot and key identity of a tile's Suite (R198, R356). -/
def tileKey (s : State) (t : Nat) : Nat × Nat :=
  match suiteOf s (tileSuite s t) with
  | some c => (c.cfg.keySlot, if c.cfg.keySlot = 0 then 0 else tget 0 s.cel.keys c.cfg.keySlot)
  | none => (0, 0)

/-- The copy that a tile entry names reads good: its pages carry the entry's SEQ and the tile, and it is decrypted
under the key that its slot holds (R332, R358). -/
def readCopy (s : State) (t : Nat) (e : MapEntry) : Option Image :=
  match e.slot with
  | none => none
  | some x =>
    match tget none s.cel.slots x with
    | some c => if c.tile = t && c.seq = e.seq && (c.keySlot = 0 || c.keyId = tget 0 s.cel.keys c.keySlot)
                then some c.img else none
    | none => none

/-! ### Frontiers (R330, R348) -/

/-- A frontier of some kind holds a Cellar block of a die. -/
def onFrontier (x : Die) (b : Nat) : Bool :=
  (x.frontier.any fun f => f.1 = b) || x.gcFrontier.any fun f => f.1 = b

/-- The free Cellar block of least erase count on a die (R348). -/
def freeBlock (s : State) (d : Nat) : Option Nat :=
  (List.range (cellarBlocks s)).foldl (fun a b =>
    let n := nandAt s 0 d b
    if n.inUse || n.lost || onFrontier (dieAt s d) b then a
    else match a with
         | some c => if n.erases < (nandAt s 0 d c).erases then some b else a
         | none => some b) none

/-- Free Cellar blocks of a die. -/
def freeCount (s : State) (d : Nat) : Nat :=
  ((List.range (cellarBlocks s)).filter fun b =>
    let n := nandAt s 0 d b
    !(n.inUse || n.lost || onFrontier (dieAt s d) b)).length

/-- The frontier of a die, a new block opened where it is full; none when no block is free. -/
def frontierOf (s : State) (d : Nat) (reloc : Bool) : Option (Nat × Nat) :=
  match (if reloc then (dieAt s d).gcFrontier else (dieAt s d).frontier) with
  | some (b, p) => if p < 768 then some (b, p) else (freeBlock s d).map fun b => (b, 0)
  | none => (freeBlock s d).map fun b => (b, 0)

/-- The next die of the rotation whose frontier has a free slot, with that frontier (R330). Both frontiers of a die share one rotation (DESIGN
CHOICE: assumption 154). -/
def nextFrontier (s : State) (reloc : Bool) : Option (Nat × Nat × Nat) :=
  (List.range (dieCount s)).findSome? fun i =>
    let d := (s.cel.nextDie + i) % dieCount s
    (frontierOf s d reloc).map fun f => (d, f.1, f.2)

/-- Relocation and rescue use the second frontier (R330). -/
def CopySrc.reloc? : CopySrc → Bool
  | .reloc _ | .rescue => true
  | _ => false

/-! ### The copy-beat pool (01_architecture R30, R31; 07_fence_save R275) -/

/-- Entries held by all Dumbwaiter channels now (DMW_ENTRIES.NOW). -/
def entriesNow (s : State) : Nat := (s.dmw.ch.toList.map fun c => c.entries).foldl (· + ·) 0

/-- Copies of stows: their entries are those of user STOW. -/
def CopySrc.isStow : CopySrc → Bool
  | .stow | .request _ => true
  | _ => false

/-- Copies whose data comes from DRAM: all but those of a relocation, which is read from flash. -/
def CopySrc.readsDram : CopySrc → Bool
  | .reloc _ => false
  | _ => true

/-- Copy-beat entries of the tiles that some copies read: 1,024 each until the beats are in page buffers. -/
def readingHeld (s : State) (f : CopySrc → Bool) : Nat :=
  beatsPerTile * (s.cel.copies.filter fun c => c.phase = .reading && f c.src).length

/-- The master that a copy's accesses carry (01_architecture R40; R354, 08_startup_restore R318). -/
def CopySrc.master : CopySrc → Nat
  | .stow | .request _ => mStow
  | .fold => mFold
  | .full => mSave
  | .reloc _ | .rescue => mCellarPatrol

/-- Entries of the copy-beat pool that a user may take now (R30, R31): from the Fence until SAVING ends all are SAVE's; in TENANCY
one tile is kept for demand fetch; in SERVICE and HARBOUR what STOW does not hold of its 4,096 is kept for it. -/
def copyFree (s : State) (u : CopyUser) : Nat :=
  let free := 32768 - (entriesNow s + readingHeld s CopySrc.readsDram)
  match s.dev.state with
  | .fenced | .saving => if u = .save then free else 0
  | .tenancy => if u = .demand then free else free - 1024
  | .service | .harbour => if u = .stow then free else free - (4096 - readingHeld s CopySrc.isStow)
  | _ => free

/-- The entries of a tile's copy are available to a user (R31; 06_stowing_ceiling R224). -/
def tileEntries (s : State) (u : CopyUser) : Bool := beatsPerTile ≤ copyFree s u

/-- Give the page buffers of staging, 256 pages of 16 KiB and so 64 tiles, to the copies that have no slot, oldest first; the
others keep reading with their entries held (Table 07-7). -/
def buffered (l : List CopyFlight) : List CopyFlight :=
  (l.foldl (fun (a : List CopyFlight × Nat) c =>
    if c.phase = .staged ∨ c.phase = .reading then
      (a.1 ++ [{ c with phase := if a.2 < 64 then .staged else .reading }], a.2 + 1)
    else (a.1 ++ [c], a.2)) ([], 0)).1

/-! ### Programs (R324, R331) -/

/-- Die and block of a Meta block by its number: block index × D + die (R338). -/
def metaDie (s : State) (q : Nat) : Nat := q % dieCount s
def metaNo (s : State) (q : Nat) : Nat := q / dieCount s

/-- A Meta block in use, and the block that holds its second copies, which the block table finds (R338). -/
def metaBlk (s : State) (q : Nat) : Option MetaBlk := tget none s.cel.metaBlks q
def secondOf (s : State) (q : Nat) : Option Nat :=
  (s.cel.metaBlks.find? fun x => x.2.any fun b => b.copyOf = some q && !b.dead).map fun x => x.1

/-- Dies on which the copies of a Meta page lie (R337). -/
def pageDies (s : State) (m : Nat) : List Nat :=
  metaDie s (m / 1024) :: ((secondOf s (m / 1024)).toList.map (metaDie s))

/-- Dies that program a half now. -/
def halfDies (s : State) : List Nat :=
  match s.sav.run with
  | some r =>
    (match r.half with
     | some h => (flightSlots s h r.inFlight.length r.nextSlot).map (halfDieOf s)
     | none => [])
  | none => []

/-- A die's operations are held while its NAND table is reloaded (15_onchip_integrity Table 15-6 row 5). -/
def dieHeld (s : State) (d : Nat) : Bool := s.almanac < (dieAt s d).heldUntil

/-- Dies that program now: for Cellar copies, journal pages and tiles of a half (R324). -/
def programming (s : State) : List Nat :=
  let copies := (s.cel.copies.filter fun c => c.phase = .issued).map fun c => c.die
  let pages : List Nat := s.cel.recs.flatMap fun r => match r.phase with | .issued m => pageDies s m | _ => []
  (copies ++ pages ++ halfDies s).eraseDups

/-- A die takes up or ends work of items 1 to 5 of R335: a background erase in progress on it is suspended. -/
def dieWorks (d : Nat) (s : State) : State :=
  modDie d (fun x => { x with busyAt := s.almanac, erasing := x.erasing.map fun e => (e.1, e.2.1, true) }) s

/-- A background erase runs on a die, not suspended. -/
def eraseRuns (s : State) (d : Nat) : Bool := (dieAt s d).erasing.any fun e => !e.2.2

/-- The wordline of a copy: its slot without the page. -/
def CopyFlight.line (c : CopyFlight) : Nat := c.slot.getD 0 / 3

/-- A wordline has its three positions filled: by copies in the latches or by filler, when the frontier has moved
past it. -/
def lineFull (s : State) (c : CopyFlight) : Bool :=
  let x := c.slot.getD 0
  let f := if c.src.reloc? then (dieAt s c.die).gcFrontier else (dieAt s c.die).frontier
  match f with
  | some (b, p) => slotBlock s x ≠ b || slotPos s x / 3 * 3 + 3 ≤ p
  | none => true

/-- A full wordline waits in the latches of a die, of relocation and rescue or of the others. -/
def lineWaits (s : State) (d : Nat) (reloc : Bool) : Option CopyFlight :=
  s.cel.copies.find? fun c => c.phase = .latched && c.die = d && c.src.reloc? = reloc && lineFull s c

/-- The full wordline that a die programs next: stow, Fold and Full save go before relocation and rescue, which do not suspend a
background erase and wait for its end (R335 items 5, 6 and 8). -/
def nextLine (s : State) (d : Nat) : Option CopyFlight :=
  match lineWaits s d false with
  | some c => some c
  | none => if eraseRuns s d then none else lineWaits s d true

/-- A journal page is due and waits for its dies (R339). -/
def pageDue (s : State) : Bool :=
  let w := s.cel.recs.filter fun r => r.phase = .waiting
  16 ≤ w.length || w.any fun r => r.at_ + 100 ≤ s.almanac

/-- The journal block that takes the next page. -/
def journalOpen (s : State) : Option Nat :=
  (s.cel.metaBlks.find? fun x => x.2.any fun b => b.type = 1 && b.copyOf.isNone && b.next < 1024).map fun x => x.1

/-- A due journal page waits for a die: it goes before the copies (R335 items 4 to 6). -/
def metaWaits (s : State) (d : Nat) : Bool := pageDue s && (journalOpen s).any fun q => (pageDies s (q * 1024)).contains d

/-- Issue the full wordline of a die, when it programs nothing and fewer than 16 dies program (R324, R331, R335). -/
def issueDie (d : Nat) (s : State) : State :=
  let busy := programming s
  if busy.contains d || dieHeld s d || 16 ≤ busy.length || metaWaits s d then s
  else
    match nextLine s d with
    | none => s
    | some l =>
      let cs : List CopyFlight := s.cel.copies.map fun c =>
        if c.phase = .latched && c.die = d && c.line = l.line then { c with phase := .issued, at_ := s.almanac }
        else c
      let s := { s with cel := { s.cel with copies := cs } }
      if l.src.reloc? then s else dieWorks d s

/-- Issue what can be issued on every die. -/
def issueAll (s : State) : State := (List.range (dieCount s)).foldl (fun s d => issueDie d s) s

/-- The slot of a copy: the one it has, or the next free one of the rotation (R330). A block opened while marked for re-erase is erased first
(R359). -/
def giveSlot (c : CopyFlight) (s : State) : CopyFlight × State :=
  if c.slot.isSome then (c, s)
  else
    match nextFrontier s c.src.reloc? with
    | none => (c, s)
    | some (d, b, p) =>
      let s := modDie d (fun x => { x with
          frontier := if c.src.reloc? then x.frontier else some (b, p + 1),
          gcFrontier := if c.src.reloc? then some (b, p + 1) else x.gcFrontier }) s
      let s := modNand 0 d b (fun n => { n with inUse := true, reErase := false,
                                                erases := if n.reErase then n.erases + 1 else n.erases,
                                                progAt := if n.inUse then n.progAt else s.almanac }) s
      ({ c with die := d, slot := some (slotAt s d b p) },
       { s with cel := { s.cel with nextDie := (d + 1) % dieCount s } })

/-- The latches of a copy's die hold no other wordline of its frontier: a copy takes an encoder lane and its place there (R331, Table
07-7). -/
def latchFree (s : State) (c : CopyFlight) : Bool :=
  !s.cel.copies.any fun x => x.phase = .latched && x.die = c.die && x.src.reloc? = c.src.reloc? && x.line ≠ c.line

/-- Place a copy that is in staging or waits for it: it takes a slot, and goes to the latches of the slot's die once they are free. The encoder
lane is taken and returned within the step (assumption 112). -/
def placeCopy (c : CopyFlight) (s : State) : State :=
  let (n, s) := giveSlot c s
  let n := if n.slot.isSome && latchFree s n then { n with phase := .latched, at_ := s.almanac } else n
  { s with cel := { s.cel with copies := s.cel.copies.map fun x => if x = c then n else x } }

/-- Copies in staging, and those that wait to enter it, take slots and latches that have come free, oldest first (R330). -/
def placeAll (s : State) : State :=
  (s.cel.copies.filter fun c => c.phase = .staged ∨ c.phase = .reading).foldl (fun s c => placeCopy c s) s

/-- The copies go on: full wordlines issue, what is in staging takes their place, and the page buffers that this leaves are given out (R330,
R331, Table 07-7). -/
def placeStaged (s : State) : State :=
  let s := issueAll (placeAll (issueAll s))
  { s with cel := { s.cel with copies := buffered s.cel.copies } }

/-- Start a copy of an image of a tile: STOW_SEQ drawn (R332), key and poison marks taken, placed and issued. -/
def startCopy (t : Nat) (src : CopySrc) (img : Image) (s : State) : State :=
  let k := tileKey s t
  let c : CopyFlight := { tile := t, seq := s.cel.nextSeq, src := src, die := 0, slot := none, keySlot := k.1,
                          keyId := k.2, img := img, poisoned := !img.poison.isEmpty, whole := imageWhole img,
                          phase := .staged, at_ := s.almanac }
  placeStaged { s with cel := { s.cel with nextSeq := (s.cel.nextSeq + 1) % 2 ^ 32, copies := s.cel.copies ++ [c] } }

/-- The tile as a copy that starts now reads it: the DRC serves a copy's beats after the writes that entered before them, so every write
whose event has been applied has reached DRAM (06_stowing_ceiling R211, R216, R220). -/
def tileNow (s : State) (t : Nat) : Image := tileImage s.dram t

/-! ### Program times (CEL_TPROG) -/

/-- The slowest of the recent programs of a kind. -/
def slowest (l : List Nat) : Nat := l.foldl max 0

/-- A Reckoning is wanted when the slowest time crosses a multiple of 10 % of the typical time (Table 09-1,
11_gauge_reckoning Table 11-5). -/
def tprogBand (typ : Nat) (old new : List Nat) (s : State) : State :=
  if slowest old * 10 / typ = slowest new * 10 / typ then s else { s with rek := { s.rek with again := true } }

/-- The time of a TLC wordline program, and of a pSLC program. -/
def noteTlc (us : Nat) (s : State) : State :=
  let l := (us :: s.cel.tlcUs).take 1024
  tprogBand 900 s.cel.tlcUs l { s with cel := { s.cel with tlcUs := l } }
def notePslc (us : Nat) (s : State) : State :=
  let l := (us :: s.cel.pslcUs).take 1024
  tprogBand 85 s.cel.pslcUs l { s with cel := { s.cel with pslcUs := l } }

/-! ### Retirement (R350, R351) -/

/-- SPARE_LOW and the NAND spare reason when a die is short of Spare (R351). -/
def spareCheck (s : State) : State :=
  if (spareMin s).1 < s.cel.spareThresh then setReason 1 (raise celSpareLow s) else s

/-- Reason 1 at boot, once the block table is known: it stands while LEFT_MIN is below THRESH (16_fault_stations Table 16-5). -/
def spareAtBoot (s : State) : State :=
  if (spareMin s).1 < s.cel.spareThresh then (if s.dev.reasons.getLsbD 1 then s else spareCheck s) else clearReason 1 s

/-- Copies that wait for slots of a lost block go back to staging: the slots are skipped (R350). -/
def unplace (d b : Nat) (s : State) : State :=
  let there := fun (c : CopyFlight) => (c.phase = .latched || c.phase = .staged || c.phase = .reading) && c.slot.any fun x =>
    slotDie s x = d && slotBlock s x = b
  let l := s.cel.copies.map fun c =>
    if there c then { c with phase := if c.phase = .latched then .staged else c.phase, slot := none } else c
  { s with cel := { s.cel with copies := l } }

/-- Retire a block after a failed program or erase: a replacement Spare block of the die takes its place in the block table, with
the Spare block's own erases, or its slots are lost (R350). Spare blocks go in the order of their indices (DESIGN CHOICE: assumption 154). -/
def retireBlock (part d b : Nat) (onErase : Bool) (s : State) : State :=
  let s := { s with cel := { s.cel with
      retiredProg := if onErase then s.cel.retiredProg else satInc 0xFFFF s.cel.retiredProg,
      retiredErase := if onErase then satInc 0xFFFF s.cel.retiredErase else s.cel.retiredErase } }
  let s := if spareLeft s d = 0 then modNand part d b (fun n => { n with lost := true }) s
           else
             let k := 2 + (dieAt s d).spareUsed
             let place := physBlock s 3 d k + 1
             let e := blockErases s 3 k (nandAt s 3 d k) - s.cel.allErases
             modNand part d b (withErases s part b e) (modDie d (fun x => { x with spareUsed := x.spareUsed + 1 })
               { s with cel := { s.cel with remap := tset 0 s.cel.remap (blockKey part d b) place } })
  let s := modDie d (fun x => if part = 0 && (nandAt s part d b).lost then
      { x with frontier := x.frontier.filter (fun f => f.1 ≠ b),
               gcFrontier := x.gcFrontier.filter (fun f => f.1 ≠ b) } else x) s
  spareCheck (if part = 0 && (nandAt s part d b).lost then unplace d b s else s)

/-- FCAP_ADDR of PROG_FAIL and ERASE_FAIL (R361). -/
def blockAddr (s : State) (part d b : Nat) : Nat := d * 65536 + physBlock s part d b

/-! ### Meta blocks and pages (R336 to R341) -/

/-- Content types with two copies (Table 09-4). -/
def twoCopies (type : Nat) : Bool := type ≠ 3 && type ≠ 5

/-- A Meta block is free: erased, not lost. -/
def metaIsFree (s : State) (q : Nat) : Bool :=
  let n := nandAt s 2 (metaDie s q) (metaNo s q)
  (metaBlk s q).isNone && !n.inUse && !n.lost

/-- The free Meta block of lowest erase count among those that a test admits (R348). -/
def freeMeta (s : State) (ok : Nat → Bool) : Option Nat :=
  (List.range (metaBlocks s * dieCount s)).foldl (fun a q =>
    if metaIsFree s q && ok q then
      match a with
      | some c => if (nandAt s 2 (metaDie s q) (metaNo s q)).erases < (nandAt s 2 (metaDie s c) (metaNo s c)).erases then some q
                  else a
      | none => some q
    else a) none

/-- Open a Meta block: page 0 is programmed with the header (R336). Its pages take 1,024 page sequences in order, the header the first
(DESIGN CHOICE: assumption 126). -/
def putMeta (q : Nat) (x : MetaBlk) (s : State) : State :=
  modNand 2 (metaDie s q) (metaNo s q) (fun n => { n with inUse := true, reErase := false, progAt := s.almanac })
    { s with cel := { s.cel with metaBlks := tset none s.cel.metaBlks q (some x) } }

/-- The block of a content type that still has pages to program, opened where there is none; a type with two copies takes a second
block on a die of another channel (R336, R337). None when no block is free. -/
def openMeta (type sub : Nat) (s : State) : Option (Nat × State) :=
  match s.cel.metaBlks.find? fun x => x.2.any fun b => b.type = type && b.sub = sub && b.copyOf.isNone && b.next < 1024 && !b.dead &&
      !(x.1 :: (secondOf s x.1).toList).any fun q => (nandAt s 2 (metaDie s q) (metaNo s q)).lost with
  | some x => some (x.1, s)
  | none =>
    match freeMeta s fun _ => true with
    | none => none
    | some q =>
      let x : MetaBlk := { type := type, sub := sub, seq := s.cel.nextPageSeq }
      let put := fun (s : State) => putMeta q x { s with cel := { s.cel with nextPageSeq := s.cel.nextPageSeq + 1024 } }
      if twoCopies type then
        (freeMeta s fun p => dieChannel (metaDie s p) ≠ dieChannel (metaDie s q)).map fun p =>
          (q, putMeta p { x with copyOf := some q } (put s))
      else some (q, put s)

/-- Program the next pages of a block and of its second copy, which suspends a background erase on their dies (R335). -/
def takePages (q n : Nat) (s : State) : State :=
  let qs := q :: (secondOf s q).toList
  let more := fun (s : State) (p : Nat) =>
    match metaBlk s p with
    | some x => dieWorks (metaDie s p) (putMeta p { x with next := x.next + n } s)
    | none => s
  qs.foldl more s

/-- Meta blocks go out of use: their background erases may begin (R345). -/
def retireMeta (mine : MetaBlk → Bool) (l : Table (Option MetaBlk)) : Table (Option MetaBlk) :=
  l.map fun x => (x.1, x.2.map fun b => if mine b then { b with dead := true } else b)

/-- An item that a newer copy supersedes leaves its pages; a full block of content that is superseded as a whole goes out of use, and its
background erase may begin. Journal, save area and control blocks stay (R344, R345). -/
def dropDead (s : State) : State :=
  let dead := fun (q : Nat) (x : MetaBlk) =>
    (x.type = 2 || 5 ≤ x.type) && x.next = 1024 && !s.cel.metaExts.any fun e => e.page / 1024 = q
  let gone : List Nat := s.cel.metaBlks.filterMap fun x =>
    match x.2 with | some b => if dead (b.copyOf.getD x.1) b then some x.1 else none | none => none
  let l := s.cel.metaBlks.map fun x => if gone.contains x.1 then (x.1, x.2.map fun b => { b with dead := true }) else x
  { s with cel := { s.cel with metaBlks := l } }

/-- Drop an item's pages. -/
def dropItem (i : MetaItem) (s : State) : State :=
  dropDead { s with cel := { s.cel with metaExts := s.cel.metaExts.filter fun e => e.item ≠ i } }

/-- Program pages of an item, the first of them number `first` of it, over as many blocks as they take (R336, R337). -/
def programPages (type sub : Nat) (i : MetaItem) : Nat → Nat → Nat → State → State
  | 0, _, _, s => s
  | f + 1, first, n, s =>
    if n = 0 then s
    else
      match openMeta type sub s with
      | none => s
      | some (q, s) =>
        let x := ((metaBlk s q).map fun b => b.next).getD 1024
        let k := min n (1024 - x)
        let e : MetaExt := { page := q * 1024 + x, count := k, first := first, item := i }
        programPages type sub i f (first + k) (n - k) (takePages q k { s with cel := { s.cel with metaExts := s.cel.metaExts ++ [e] } })

/-- Program so many pages of an item from its page `first` on. Both copies of a type with two pass within the command that programs the page
(DESIGN CHOICE: assumption 126); a journal page's end is META_PROGRAM_DONE. -/
def programItem (type sub : Nat) (i : MetaItem) (first n : Nat) (s : State) : State :=
  programPages type sub i (n / 1023 + 2) first n s

/-- Pages of an item that are programmed. -/
def itemPages (s : State) (i : MetaItem) : Nat :=
  ((s.cel.metaExts.filter fun e => e.item = i).map fun e => e.count).foldl (· + ·) 0

/-- Program an item that replaces its older pages: block table and key store. -/
def replaceItem (type : Nat) (i : MetaItem) (s : State) : State := programItem type 0 i 0 1 (dropItem i s)

/-- Page sequence of a Meta page (R336). -/
def pageSeq (s : State) (m : Nat) : Nat := ((metaBlk s (m / 1024)).map fun x => x.seq + m % 1024).getD 0

/-- Page sequence of the last journal page that has been issued; 0 before the first. -/
def lastJournal (s : State) : Nat :=
  (s.cel.metaBlks.filterMap fun x => x.2.bind fun b => if b.type = 1 then some (b.seq + b.next - 1) else none).foldl max 0

/-- Journal pages whose records have not yet come into force: their programs run, or their completions wait. -/
def openPages (s : State) : List Nat :=
  s.cel.recs.filterMap fun r => match r.phase with
    | .issued m => some (pageSeq s m)
    | .resolved _ => some (pageSeq s (r.ptr / 16))
    | .waiting => none

/-- Page sequence of the last journal page that a checkpoint taken now covers: that before the first whose records are not yet in force
(R341). -/
def coveredTo (s : State) : Nat := (openPages s).foldl (fun a n => min a (n - 1)) (lastJournal s)

/-- Meta block and die of a page number (R338). -/
def pageDie (s : State) (m : Nat) : Nat := metaDie s (m / 1024)
def pageBlock (s : State) (m : Nat) : Nat := metaNo s (m / 1024)

/-- A tile entry for a copy (R184, R225). -/
def CopyFlight.entry (c : CopyFlight) : MapEntry :=
  { slot := c.slot, seq := c.seq, poisoned := c.poisoned, whole := c.whole }

/-- A new record of a Room, from the record in force, not yet given its GEN (R187, R340). -/
def blankRecord (s : State) (r : Nat) (full : Bool) : RoomMap :=
  let e := entryAt s r
  let base := roomRec s r
  { room := r, gen := s.cel.nextGen, suite := e.suiteId,
    key := ((suiteOf s e.suiteId).map fun c => c.cfg.keySlot).getD 0, full := full, planCrc := s.plan.crc,
    time := s.almanac, tiles := match base with | some m => m.tiles | none => [] }

/-- A copy is carried by the record built now: a relocation only while the record in force names its source, a
rescue only while its watch is set and its tile Clean (R347, R354). -/
def carried (s : State) (c : CopyFlight) : Bool :=
  match c.src with
  | .reloc x => (mapEntry s c.tile).slot = some x
  | .rescue => s.cel.watches.contains c.tile && (tileAt s c.tile).st = .clean
  | _ => true

/-- The entry of a carried copy in its Room's new record: of a relocation only slot and SEQ change (R347). -/
def CopyFlight.entryOver (c : CopyFlight) (old : MapEntry) : MapEntry :=
  match c.src with
  | .reloc _ => { old with slot := c.slot, seq := c.seq }
  | _ => c.entry

/-- Set the entries of the carried copies in a record. -/
def withCopies (m : RoomMap) (l : List CopyFlight) : RoomMap :=
  { m with tiles := l.foldl (fun t c => tmod {} t (c.tile % tilesPerRoom) c.entryOver) m.tiles }

/-- Some record of a Room is in flight (R218). One that passed and waits for its completion over a save does not hold up the record that the
save itself writes. -/
def recBusy (s : State) (r : Nat) : Bool :=
  s.cel.recs.any fun x => x.rec_.room = r && !(s.dev.state = .saving && x.phase = .resolved true)

/-- Build a Room's next record for the copies that wait, with any that `extra` names (R340). -/
def buildRecord (r : Nat) (full : Bool) (s : State) : State :=
  let wait := s.cel.copies.filter fun c => c.phase = .passed && c.tile / tilesPerRoom = r
  let use := wait.filter (carried s)
  let rest := s.cel.copies.filter fun c => !(c.phase = .passed && c.tile / tilesPerRoom = r)
  if use.isEmpty then { s with cel := { s.cel with copies := rest } }
  else
    let m := withCopies (blankRecord s r full) use
    let f : RecFlight := { rec_ := m, ptr := 0, names := use.map fun c => (c.tile, c.seq, c.src),
                           phase := .waiting, at_ := s.almanac }
    { s with cel := { s.cel with copies := rest, recs := s.cel.recs ++ [f], nextGen := s.cel.nextGen + 1 } }

/-- A refresh record of a Room: its entries unchanged under a new GEN (R344). -/
def refreshRecord (r : Nat) (s : State) : State :=
  if recBusy s r || (roomRec s r).isNone then s
  else
    let f : RecFlight := { rec_ := blankRecord s r false, ptr := 0, names := [], phase := .waiting, at_ := s.almanac }
    { s with cel := { s.cel with recs := s.cel.recs ++ [f], nextGen := s.cel.nextGen + 1 } }

/-- A record comes into force when its GEN is above the full GEN in force (R179). -/
def putInForce (m : RoomMap) (ptr : Nat) (s : State) : State :=
  if (entryAt s m.room).mapGen < m.gen then
    modEntry m.room (fun e => { e with mapPtr := some ptr, mapGen := m.gen }) s
  else s

/-- The copies that a block takes part in are over: no slot of it is live, in flight or on a frontier (R346). -/
def blockDead (s : State) (d b : Nat) : Bool :=
  !onFrontier (dieAt s d) b && (liveOf s d b).isEmpty &&
    !s.cel.copies.any fun c => match c.slot with
      | some x => slotDie s x = d && slotBlock s x = b
      | none => false

/-- A die has nothing queued that goes before a background erase (R335). -/
def dieIdle (s : State) (d : Nat) : Bool :=
  !(programming s).contains d && !dieHeld s d && (lineWaits s d false).isNone && (lineWaits s d true).isNone

/-- A block in use that nothing needs: a Cellar block whose live count is 0, or a Meta block out of use (R345, R346). -/
def erasable (s : State) (key : Nat) : Bool :=
  let d := key / 4096 % 32
  let b := key % 4096
  match key / 131072 with
  | 0 => blockDead s d b
  | 2 => (metaBlk s (b * dieCount s + d)).all fun x => x.dead
  | _ => false

/-- The die may begin a background erase: it erases nothing; in SAVING an erase that the Fence suspended does not count, since its block is
erased again before use (R346, R359). -/
def mayBegin (s : State) (d : Nat) : Bool :=
  match (dieAt s d).erasing with
  | none => dieIdle s d
  | some e => e.2.2 && s.dev.state = .saving && dieIdle s d

/-- Background erases of blocks that nothing needs begin on the dies that erase nothing (R335, R346). -/
def startErasures (s : State) : State :=
  (List.range (dieCount s)).foldl (fun s d =>
    if mayBegin s d then
      match s.cel.blocks.find? fun p => p.1 / 4096 % 32 = d && p.2.inUse && !p.2.lost && erasable s p.1 with
      | some p => modDie d (fun x => { x with erasing := some (p.1 / 131072, p.1 % 4096, false) }) s
      | none => s
    else s) s

/-- Pages of a checkpoint: its header page and 384 pages of entries (R341). -/
def ckptPages : Nat := 385

/-- A checkpoint as things stand (R341). The newest two are kept (DESIGN CHOICE: assumption 126); without room in Meta none is taken. -/
def takeCheckpoint (s : State) : State :=
  let entries := s.cht.entries.filterMap fun e => (standing s e.1).map fun j => (e.1, j.ptr, j.rec_.gen)
  let k : Checkpoint := { seq := ((s.cel.ckpts.head?).map fun c => c.seq + 1).getD 1, upTo := coveredTo s,
                          nextGen := s.cel.nextGen, nextSeq := s.cel.nextSeq, entries := entries }
  let open_ := (s.cel.recs.filter fun r => r.phase ≠ .waiting).length
  let s1 := programItem 2 0 (.ckpt k.seq) 0 ckptPages s
  if itemPages s1 (.ckpt k.seq) < ckptPages then s
  else
    let s := (s.cel.ckpts.drop 1).foldl (fun s c => dropItem (.ckpt c.seq) s) s1
    { s with cel := { s.cel with ckpts := k :: s.cel.ckpts.take 1, sinceCkpt := open_ } }

/-- A beat of a copy on its way to flash takes the poison mark (Table 15-4, Table 15-6 row 2; 06_stowing_ceiling R225). -/
def poisonInFlight (beat : Nat) (s : State) : State :=
  let t := beat / beatsPerTile
  let i := beat % beatsPerTile
  let mark := fun (m : Image) => { m with poison := tset false m.poison i true }
  let copies := s.cel.copies.map fun c =>
    if c.tile = t ∧ (c.phase = .reading ∨ c.phase = .staged ∨ c.phase = .latched) then
      { c with img := mark c.img, poisoned := true, whole := imageWhole (mark c.img) }
    else c
  let run := s.sav.run.map fun r =>
    { r with inFlight := r.inFlight.map fun x => if x.2.1 = t then (x.1, x.2.1, mark x.2.2) else x }
  { s with cel := { s.cel with copies := copies }, sav := { s.sav with run := run } }

end Sys2Proof.Machine
end

