-- ==== Sys2Proof/Machine/OpsChart.lean ====
section
/-! DEFINITION. Shared operations of the Chart: entries as the boot builds them (05_rooms_suites_chart R172, R177;
04_dram R127), tiles in bulk, the snapshot words, stalled claims. -/

namespace Sys2Proof.Machine

/-- Class of a Room from the plan (R172, R177): in the persistent or volatile range, held by an enabled Suite. -/
def planClass (s : State) (r : Nat) : RoomClass :=
  if r < persRooms s + volRooms s then
    match suiteOfRoom s r with
    | some c => RoomClass.ofPolicy c.cfg.policy
    | none => .unassigned
  else .unassigned

/-- IMPAIRED of a Room: some subchannel that serves it is excluded (R127). -/
def planImpaired (s : State) (r : Nat) : Bool := (roomSubch s r).any fun c => (subchAt s c).failed

/-- A Chart entry as the boot builds it (R177, R181). -/
def builtEntry (s : State) (r : Nat) : ChartEntry :=
  let k := planClass s r
  if k = .unassigned then {}
  else { suiteId := ((suiteOfRoom s r).map fun c => c.cfg.id).getD 0, cls := k, impaired := planImpaired s r }

/-- Rooms of the enabled Suites, ascending by Suite. -/
def suiteRooms (c : SuiteCtx) : List Nat :=
  if c.enabled then (List.range c.cfg.roomCount).map fun i => c.cfg.firstRoom + i else []

/-- The Chart entries as the boot builds them for the plan in force. -/
def buildEntries (s : State) : Table ChartEntry :=
  (s.sui.flatMap suiteRooms).foldl (fun t r => tset {} t r (builtEntry s r)) []

/-- Sum of a count over the Rooms of a Suite (R178, R208). -/
def sumRooms (s : State) (c : SuiteCtx) (f : ChartEntry → Nat) : Nat :=
  ((s.cht.entries.filter fun e => e.2.cls.saved && c.enabled && c.cfg.firstRoom ≤ e.1 &&
    e.1 < c.cfg.firstRoom + c.cfg.roomCount).map fun e => f e.2).foldl (· + ·) 0

/-- A Chart entry of a saved class with its counts taken from the tile states. -/
def recountEntry (tiles : Table Tile) (r : Nat) (e : ChartEntry) : ChartEntry :=
  if e.cls.saved then
    let l := tiles.filter fun t => t.1 / tilesPerRoom = r
    { e with dirtyCnt := (l.filter fun t => t.2.st.counts).length,
             stowingCnt := (l.filter fun t => t.2.st = .stowing).length }
  else e

/-- The counts of a Suite summed over its Rooms (R178, R208). -/
def recountSuite (s : State) (c : SuiteCtx) : SuiteCtx :=
  { c with dirty := sumRooms s c (fun e => e.dirtyCnt), stowing := sumRooms s c (fun e => e.stowingCnt) }

/-- The device totals summed over the Suites (R178). -/
def retotal (s : State) : State :=
  { s with cht := { s.cht with dirtyTotal := (s.sui.map fun c => c.dirty).foldl (· + ·) 0,
                               stowingTotal := (s.sui.map fun c => c.stowing).foldl (· + ·) 0 } }

/-- Recompute every count of R178 from the tile states. -/
def recountAll (s : State) : State :=
  let s := { s with cht := { s.cht with
      entries := tmap {} (recountEntry s.cht.tiles) s.cht.entries } }
  retotal { s with sui := s.sui.map (recountSuite s) }

/-- Apply a function to every tile of a Room through the tile state port. -/
def modRoomTiles (r : Nat) (f : Tile → Tile) (s : State) : State :=
  (roomTiles r).foldl (fun s t => putTile t (f (tileAt s t)) s) s

/-- Reset of the Chart and the tile state on completion of Sanitize or Secure Erase (R205); writes to volatile tiles, Unwritten now, wait for
their fills (R191). -/
def resetChart (s : State) : State :=
  let es := tmap {} (fun _ (e : ChartEntry) => { suiteId := e.suiteId, cls := e.cls, impaired := e.impaired }) s.cht.entries
  { s with cht := { s.cht with entries := es, tiles := [], rereads := [], dirtyTotal := 0, stowingTotal := 0 },
           sui := s.sui.map fun c => { c with dirty := 0, stowing := 0 },
           hst := { s.hst with writes := s.hst.writes.map fun w =>
             if !w.accepted && w.hold = .none && tileClass s (writeTile w.w) = .volatile then { w with hold := .fill } else w } }

/-- The four words of a Chart entry (R176, CHT_ENTRYn). An entry of CLASS 0 has zero in every field, MAP_PTR too (R181). While MAP_STALE is
set MAP_PTR shows 0xFFFF_FFFF and MAP_GEN 0: the spec gives no value (DESIGN CHOICE: assumption 122). -/
def entryWords (e : ChartEntry) : List Word :=
  if e.cls = .unassigned then [0, 0, 0, 0] else
  let c := e.cls.code + 8 * b2n e.impaired + 16 * b2n e.mapStale
  let p := b2n e.poisonAny + 2 * b2n e.poisonTile + 4 * b2n e.poisonUnlisted
  [BitVec.ofNat 32 (e.suiteId + 2 ^ 16 * c + 2 ^ 24 * e.dirtyCnt),
   BitVec.ofNat 32 (e.stowingCnt + 2 ^ 8 * p + 2 ^ 16 * e.poisonCnt),
   BitVec.ofNat 32 (e.mapPtr.getD 0xFFFFFFFF), BitVec.ofNat 32 e.mapGen]

/-- The three bits of a tile (R188). -/
def Tile.code (x : Tile) : Nat := x.st.code + 4 * b2n x.touched

/-- The six words of a Room's tile states (R189, CHT_ROOM_TSn). -/
def tileWords (s : State) (r : Nat) : List Word :=
  let n := ((List.range tilesPerRoom).map fun i => (tileAt s (r * tilesPerRoom + i)).code * 2 ^ (3 * i)).foldl (· + ·) 0
  (List.range 6).map fun k => BitVec.ofNat 32 (n / 2 ^ (32 * k))

/-- Re-evaluate the stalled claims (06_stowing_ceiling R233): by PRIORITY, then in the order in which they stalled. A
claim whose tile has left Clean is granted; another when the total is below the ceiling and its Suite below its
quota. -/
def reevalStalled (s : State) : State :=
  let prio := fun (c : StalledClaim) => ((suiteOf s c.suite).map fun x => x.cfg.priority).getD 8
  let order := (List.range 9).flatMap fun p => s.stw.stalled.filter fun c => prio c = p
  order.foldl (fun (s : State) (c : StalledClaim) =>
    let fits : Bool := match suiteOf s c.suite with | some x => claimFits s x | none => true
    if (tileAt s c.tile).st ≠ .clean ∨ fits = true then
      let s := { s with stw := { s.stw with stalled := s.stw.stalled.erase c } }
      claimGranted c (noteStall c (grantClaim c.tile false s))
    else s) s

end Sys2Proof.Machine
end

