-- ==== Sys2Proof/Machine/OpsStow.lean ====
section
/-! DEFINITION. Shared operations of stowing (06_stowing_ceiling R221 to R244): the sweep, stow starts, the Wear
Allowance. -/

namespace Sys2Proof.Machine

/-- Sweep period that the present pressure asks for (R222). -/
def sweepPeriod (s : State) : Nat :=
  let p := s.plan.policy.sweepMs
  if s.stw.pressed then max 100 (p / 4) else p

/-- A Room is swept: of a saved class, not impaired, and in TENANCY restored (R221, R222). -/
def swept (s : State) (r : Nat) (e : ChartEntry) : Bool := e.cls.saved && !e.impaired && !roomPending s r

/-- The first Room from `r` on that the sweep visits. -/
def nextSwept (s : State) (r : Nat) : Option Nat :=
  (s.cht.entries.find? fun e => r ≤ e.1 && swept s e.1 e.2).map fun e => e.1

/-- A tile's Suite feeds the urgent queue: it has a stalled claim or is over its quota (R223). -/
def urgentSuite (s : State) (id : Nat) : Bool :=
  (s.stw.stalled.any fun c => c.suite = id) ||
    match suiteOf s id with | some c => c.cfg.quota ≤ c.dirty | none => false

/-- Enter a candidate, unless it waits already or the queues are full (R223). -/
def addCandidate (t : Nat) (s : State) : State :=
  let w := s.stw
  if w.urgent.contains t || w.normal.contains t then s
  else if 65536 ≤ w.urgent.length + w.normal.length then
    { s with stw := { w with candDrop := satInc 0xFFFFFFFF w.candDrop } }
  else if urgentSuite s (tileSuite s t) then { s with stw := { w with urgent := w.urgent ++ [t] } }
  else { s with stw := { w with normal := w.normal ++ [t] } }

/-- The sweep-visit row of Table 06-1 for one tile. -/
def visitTile (t : Nat) (s : State) : State :=
  let x := tileAt s t
  let cand := x.st = .dirty && !x.touched && !(entryAt s (t / tilesPerRoom)).mapStale
  let s := putTile t { x with touched := false } s
  if cand then addCandidate t s else s

/-- Stow starts that 1 ms allows (R224). -/
def perMs (s : State) : Nat := ceilDiv s.stw.maxTps 1000

/-- Count a stow start in the present 1 ms and second (R224, STW_RATE). -/
def noteStart (s : State) : State :=
  let w := s.stw
  let ms := s.almanac / 1000
  let sec := s.almanac / 1000000
  let w := if w.msNo = ms then { w with startsMs := w.startsMs + 1 } else { w with msNo := ms, startsMs := 1 }
  let w := if w.secondNo = sec then { w with startsSecond := w.startsSecond + 1 }
           else { w with secondNo := sec, startsSecond := 1,
                         lastTps := if w.secondNo + 1 = sec then min 0xFFFF w.startsSecond else 0 }
  { s with stw := w }

/-- Every condition of R224 but the candidate, the copy-beat entries of 01_architecture R31 among them. -/
def mayStow (s : State) : Bool :=
  stowRuns s && s.cht.stowingTotal < s.stw.maxStowing && 1 ≤ s.stw.bucket &&
    (s.stw.msNo ≠ s.almanac / 1000 || s.stw.startsMs < perMs s) && tileEntries s .stow

/-- The first candidate of a queue, in arrival order, whose Room's map is not stale (R182, R223). -/
def freshIn (s : State) (l : List Nat) : Option Nat := l.find? fun t => !(entryAt s (t / tilesPerRoom)).mapStale

/-- A start from the urgent queue is possible now (08_startup_restore R319). -/
def urgentWaits (s : State) : Bool := mayStow s && (freshIn s s.stw.urgent).isSome

/-- The rates that a Fold start must meet, after starts from the urgent queue (08_startup_restore R319). -/
def foldMay (s : State) : Bool :=
  stageNow s = 0 && s.cht.stowingTotal < s.stw.maxStowing &&
    (s.sav.foldSecond ≠ s.almanac / 1000000 || s.sav.foldStarts < s.sav.foldMaxTps) && tileEntries s .other &&
    !urgentWaits s

/-- A visit of the Fold can be made now: starts from the normal queue wait for it (08_startup_restore R319). -/
def foldWaits (s : State) : Bool :=
  (s.dev.state = .service || s.dev.state = .harbour) && s.sav.foldPhase = 1 && !s.sav.foldLeft.isEmpty && foldMay s

/-- The candidate that the next stow start takes: of the urgent queue, then, while no Fold visit can be made, of the normal queue
(R223; 08_startup_restore R319). -/
def nextCandidate (s : State) : Option Nat :=
  match freshIn s s.stw.urgent with
  | some t => some t
  | none => if foldWaits s then none else freshIn s s.stw.normal

/-- Take one tile from the bucket; EMPTY when it falls below one tile, with event 0x0013 only as EMPTY becomes set; a boot that loads such a
bucket leaves EMPTY clear (R224, R243; DESIGN CHOICE: assumption 149). -/
def takeWear (s : State) : State :=
  let b := s.stw.bucket - 1
  let s1 := { s with stw := { s.stw with bucket := b, bucketEmpty := s.stw.bucketEmpty || b = 0 } }
  if b = 0 && !s.stw.bucketEmpty then event 0x0013 .hst (s.stw.accrual / 16) 0 s1 else s1

/-- Start the stow of a Dirty tile (R214, R224, R226): Stowing, one tile from the bucket, its copy begun. -/
def startStow (t : Nat) (src : CopySrc) (s : State) : State :=
  let s := putTile t { tileAt s t with st := .stowing } s
  let s := tileAccess t (takeWear (noteStart s))
  startCopy t src (tileNow s t) s

/-- The daily accrual, tiles (R240). -/
def dailyAccrual (s : State) : Nat :=
  let y := s.plan.policy.serviceYears
  if y = 0 then 0 else s.plan.layout.cellarGib * 16384 * 2000 * 100 / (y * 36525)

/-- The next Almanac time at a phase of so many hours in the day (19_almanac_log_identity R655). -/
def nextPhase (s : State) (hours : Nat) : Nat :=
  let t := s.almanac / 86400000000 * 86400000000 + hours * 3600000000
  if s.almanac < t then t else t + 86400000000

/-- The next multiple of a period. -/
def nextMultiple (s : State) (us : Nat) : Nat := (s.almanac / us + 1) * us

end Sys2Proof.Machine
end

