-- ==== Sys2Proof/Machine/OpsSave.lean ====
section
/-! DEFINITION. Shared operations of the save (07_fence_save R258 to R285) and of the precautionary stow
(16_fault_stations R573): halves and their slots, the list, the header, the written record, the ends of a save. -/

namespace Sys2Proof.Machine

/-- The subchannels from which the Keeper still has tiles to read (04_dram R151). -/
def keeperNeeds (s : State) : List Nat :=
  match s.sav.run with
  | some r =>
    let rd := (s.cel.copies.filter fun c => c.phase = .reading).map fun c => c.tile / tilesPerRoom
    (((r.todo.map fun (x : Nat × Nat) => x.2 / tilesPerRoom) ++ rd).eraseDups.flatMap (roomSubch s)).eraseDups
  | none => []

/-! ### The pack (10_energy_pack R372, R375) -/

/-- CHEM and CELLS of a pack class code (Table 10-4). -/
def packClass (n : Nat) : Option (Nat × Nat) :=
  if 1 ≤ n ∧ n ≤ 4 then some (1, n)
  else if 5 ≤ n ∧ n ≤ 8 then some (2, n - 4)
  else if 9 ≤ n ∧ n ≤ 15 then some (3, n - 7) else none

/-- The pack's class code names the CHEM and CELLS of the Energy Wing. -/
def packMatches (s : State) : Bool :=
  match s.nrg.packId with
  | .code n => packClass n = some (s.plan.energy.chem, s.plan.energy.cells)
  | _ => false

/-- The pack is usable (R375). An authentication is that of the present insertion. -/
def packUsable (s : State) : Bool :=
  s.nrg.present && packMatches s && (s.plan.energy.auth = 0 || (s.nrg.inserted && s.nrg.authResult = 1)) && 2000 ≤ s.nrg.packMv

/-- NRG_STATUS.PRESENT or USABLE differs from what it was in a state: alert bit 7 (17_two_wire_ports Table 17-5). -/
def packAlert (before s : State) : State :=
  if before.nrg.present = s.nrg.present ∧ packUsable before = packUsable s then s else alertBit 7 s

/-- A pack is fitted and present: without one a save on the pack is exhausted at once (Table 07-9, R376). -/
def packFitted (s : State) : Bool := s.plan.energy.chem ≠ 0 && s.nrg.present

/-- The save converter is held biased and ready (10_energy_pack R363). -/
def converterReady (s : State) : Bool := s.nrg.path = .mains && s.nrg.present && 2000 ≤ s.nrg.packMv

/-- The limit of the save converter's input current, mA: IDIS_MA plus 10 %, never more than 13.2 A (10_energy_pack R366). -/
def clampMa (s : State) : Nat := min (s.plan.energy.idisMa * 11 / 10) 13200

/-- A pack current, positive while charging, as the save converter's clamp lets it be while it feeds VBUS (R366). -/
def clamped (s : State) (ma : Int) : Int :=
  if s.nrg.path = .pack ∨ s.nrg.path = .exercise then max ma (-(clampMa s : Int)) else ma

/-! ### Rates (R278, R279), MB/s -/

/-- The maximum of a save's mode. -/
def modeMax (kind : Nat) : Nat := if kind = 1 then 12000 else 3500

/-- The floor of the target rate. -/
def rateFloor (kind : Nat) : Nat := if kind = 1 then 1000 else 500

/-- The highest target rate on the pack: the plan rate within the mode's maximum (R278, R279), and never below the floor
(DEDUCED: assumption 111). -/
def packTop (s : State) (kind : Nat) : Nat := max (rateFloor kind) (min s.sav.planRate (modeMax kind))

/-! ### The half and the list -/

/-- Rank of a half for a new save (R261); none for IMAGE and WRITING. -/
def halfRank : HalfState → Option Nat
  | .ready => some 0
  | .erasing => some 1
  | .released => some 2
  | .precaution => some 3
  | _ => none

/-- The half that a Stowed save takes: the lower rank, Port at a tie; none when no half qualifies or the plan has no
Vestibule (R261, R277). -/
def chooseHalf (s : State) : Option Half :=
  if runBlocks s = 0 then none
  else
    match halfRank s.sav.port.st, halfRank s.sav.stbd.st with
    | some a, some b => if b < a then some .starboard else some .port
    | some _, none => some .port
    | none, some _ => some .starboard
    | none, none => none

/-- PRIORITY of a tile's Suite. -/
def tilePrio (s : State) (t : Nat) : Nat := ((suiteOf s (tileSuite s t)).map fun c => c.cfg.priority).getD 0

/-- A save may list a tile: of a saved class, its Room not impaired and its restore ended (R267). -/
def listable (s : State) (t : Nat) : Bool :=
  let e := entryAt s (t / tilesPerRoom)
  e.cls.saved && !e.impaired && !s.sav.restore.order.contains (t / tilesPerRoom)

/-- The dirty-tile list: by PRIORITY, then by ascending tile (R267). -/
def dirtyList (s : State) : List ListEntry :=
  let ds := s.cht.tiles.filter fun x => x.2.st.counts && listable s x.1
  (List.range 8).flatMap fun p =>
    (ds.filter fun x => tilePrio s x.1 = p).map fun x => { tile := x.1, suite := tileSuite s x.1, prio := p }

/-- Tiles that a Full save copies, in its order: by PRIORITY, then by Room, all tiles of a Room but those whose restore
has not ended (R273, R274). -/
def fullOrder (s : State) : List Nat :=
  let rooms := s.cht.entries.filter fun e => e.2.cls.saved && !e.2.impaired
  let order := (List.range 8).flatMap fun p =>
    (rooms.filter fun e => tilePrio s (e.1 * tilesPerRoom) = p).map fun e => e.1
  order.flatMap fun r => (roomTiles r).filter fun t =>
    !s.sav.restore.order.contains r || tget false s.sav.restore.written t

/-- Number a list from 0. -/
def number (l : List Nat) : List (Nat × Nat) := l.zipIdx.map fun x => (x.2, x.1)

/-! ### The header (R268, Table 07-5) -/

/-- The save leaves Rooms whose restore has not ended: it began in TENANCY, or in a Warm Return that was rebuilding
(R268; the second is DEDUCED: assumption 27). -/
def leavesPending (s : State) : Bool :=
  s.sav.fenceFrom = .tenancy || (s.sav.fenceFrom = .warmReturn && s.sav.restore.cut)

/-- The base: the IMAGE half that the restore reads (R268). -/
def baseOf (s : State) : Option (Nat × Half) :=
  if leavesPending s then
    match s.sav.restore.s with
    | some (r, some h) => some (r.header.saveId, h)
    | _ => none
  else none

/-- A save header of a KIND (Table 07-5); a KIND 3 record names no base. -/
def makeHeader (s : State) (kind : Nat) (h : Option Half) (ahead : Bool) : SaveHeader :=
  let b := if kind = 3 then none else baseOf s
  { kind := kind, half := (h.map Half.code).getD 0xFF, saveId := s.sav.saveId + 1,
    fenceTime := if kind = 3 then s.almanac else s.sav.fenceTime,
    cause := if kind = 3 then s.dev.entryCause else s.sav.cause,
    armed := if kind = 3 then s.dev.armed else s.sav.fenceArmed,
    exposedAny := if kind = 3 then s.sui.any (fun c => c.exposed) else s.sav.fenceExposed,
    baseValid := b.isSome, pending := kind ≠ 3 && leavesPending s, eraseAhead := ahead,
    memberId := s.plan.domain.memberId, planCrc := s.plan.crc, baseSaveId := (b.map fun x => x.1).getD 0,
    baseHalf := (b.map fun x => x.2.code).getD 0xFF, ratePlan := s.sav.planRate, wearBucket := s.stw.bucket,
    openId := s.sav.openId }

/-! ### The record in flash -/

/-- The MAGIC, FORMAT and CRC of a header are correct (08_startup_restore R293). -/
def headerReads (s : State) (h : SaveHeader) : Bool := !s.sav.badHeaders.contains h.saveId

/-- Validity of a header (08_startup_restore R293): it reads correctly, its KIND is 1, 2 or 4, and no release record names its
SAVE_ID. -/
def headerValid (s : State) (h : SaveHeader) : Bool :=
  headerReads s h && (h.kind = 1 || h.kind = 2 || h.kind = 4) && !(s.cel.released.any fun x => x.saveId = h.saveId)

/-- The newest valid header of KIND 2 or 4 lies in area A (R345). -/
def newestInA (s : State) : Bool :=
  match s.cel.areaA, s.cel.areaB with
  | some a, some b => headerValid s a.header && (!headerValid s b.header || b.header.saveId < a.header.saveId)
  | some a, none => headerValid s a.header
  | none, _ => false

/-- Change the record of the save in progress: in its half, or in the Meta area that it writes. -/
def modRec (f : SaveRecord → SaveRecord) (s : State) : State :=
  match s.sav.run with
  | none => s
  | some r =>
    match r.half with
    | some h => modHalf h (fun d => { d with rec_ := d.rec_.map f }) s
    | none =>
      let mine := fun (x : SaveRecord) => if x.header.saveId = r.header.saveId then f x else x
      { s with cel := { s.cel with areaA := s.cel.areaA.map mine, areaB := s.cel.areaB.map mine } }

/-- Change the save in progress. -/
def modRun (f : SaveRun → SaveRun) (s : State) : State :=
  { s with sav := { s.sav with run := s.sav.run.map f } }

/-- Erase-ahead of the head blocks of a half, before the save header is programmed (R261; 09_cellar R326). -/
def eraseHeads (h : Half) (ahead : Bool) (s : State) : State :=
  if ahead then
    (List.range (dieCount s)).foldl (fun s d => modNand 3 d h.code (fun n => { n with erases := n.erases + 1 }) s) s
  else s

/-- A save area goes out of use: its blocks await their background erase (R345). -/
def clearArea (b : Bool) (s : State) : State :=
  { s with cel := { s.cel with metaBlks := retireMeta (fun k => k.type = 3 && k.sub = b2n b) s.cel.metaBlks,
                               metaExts := s.cel.metaExts.filter fun e => e.item ≠ .area b } }

/-- Program the save header: the half or the Meta area then holds this save (R266, R273, R345). -/
def programHeader (s : State) : State :=
  match s.sav.run with
  | none => s
  | some r =>
    let x : SaveRecord := { header := r.header }
    let s := { s with sav := { s.sav with saveId := r.header.saveId } }
    match r.half with
    | some h =>
      let s := eraseHeads h r.header.eraseAhead (modHalf h (fun d => { d with st := .writing, rec_ := some x, slots := [] }) s)
      (List.range (dieCount s)).foldl (fun s d => modNand 3 d h.code (fun n => { n with progAt := s.almanac }) s) s
    | none =>
      let b := newestInA s
      let s := programItem 3 (b2n b) (.area b) 0 1 (clearArea b s)
      if b then { s with cel := { s.cel with areaB := some x } }
      else { s with cel := { s.cel with areaA := some x } }

/-- List pages of so many entries (R269); an empty list still has its last page. -/
def listPages (n : Nat) : Nat := max 1 (ceilDiv n 2046)

/-- Head pages of a save before its Seal: header, list pages and, with PENDING, the 4 pages of the pending map (09_cellar R329). -/
def sealPage (r : SaveRun) : Nat := 1 + listPages r.list.length + (if r.header.pending then 4 else 0)

/-- The save in progress writes save area B (R345). -/
def writesB (s : State) (r : SaveRun) : Bool := s.cel.areaB.any fun x => x.header.saveId = r.header.saveId

/-- The list has been programmed already. -/
def listIn (s : State) (r : SaveRun) : Bool :=
  match r.half with
  | some h => (halfAt s h).rec_.any fun x => x.listDone
  | none => (if writesB s r then s.cel.areaB else s.cel.areaA).any fun x => x.listDone

/-- Pages of a save of KIND 2 or 4 in its Meta area, from a head page on (R273, R345). -/
def programArea (first n : Nat) (s : State) : State :=
  match s.sav.run with
  | some r => if r.half.isSome then s else programItem 3 (b2n (writesB s r)) (.area (writesB s r)) first n s
  | none => s

/-- Program the list pages and, with PENDING, the pending map (R266, R268, R269). -/
def programList (s : State) : State :=
  match s.sav.run with
  | none => s
  | some r =>
    let s := if listIn s r then s else programArea 1 (sealPage r - 1) s
    modRec (fun x => if x.listDone then x
                               else { x with list := r.list, listDone := true, pendingRooms := r.pending }) s

/-- Count written tiles. -/
def countWritten (n : Nat) (s : State) : State :=
  let s := modRun (fun r => { r with written := r.written + n }) s
  match s.sav.run with
  | some r => if r.header.kind = 3 then s else { s with sav := { s.sav with written := r.written } }
  | none => s

/-! ### Programs of a half (R270, R271) -/

/-- What a tile program leaves in a slot (R270). -/
def savedTile (s : State) (r : SaveRun) (idx t : Nat) (img : Image) : SavedTile :=
  let k := tileKey s t
  { saveId := r.header.saveId, idx := idx, tile := t, keySlot := k.1, keyId := k.2, img := img }

/-- Erase-ahead: a Vestibule block is erased just before its first row is programmed (R261); the head blocks went with the header. -/
def eraseAheadOf (h : Half) (x : Nat) (ahead : Bool) (s : State) : State :=
  let p := slotPlace s h x
  if ahead && p.1 = 1 && x / dieCount s % 256 = 0 then
    modNand 1 p.2.1 p.2.2 (fun n => { n with erases := n.erases + 1, reErase := false }) s
  else s

/-- The half is full: the tiles not yet read stay unwritten, and programs already issued go on; HALF_FULL in a save (R271). -/
def halfFull (s : State) : State :=
  match s.sav.run with
  | none => s
  | some r =>
    let s := modRun (fun r => { r with todo := [] }) s
    if r.header.kind = 3 then s else raise savHalfFull s

/-- Note a block for retirement after the save; a block is retired once (09_cellar R350). -/
def noteRetire (k : Nat) (s : State) : State :=
  if s.cel.retireAfterSave.contains k then s
  else { s with cel := { s.cel with retireAfterSave := s.cel.retireAfterSave ++ [k] } }

/-- The oldest tile in flight to a half has ended its program: with pass it lies in the next free slot, with failure the
slot is skipped, the block noted for retirement, and the tile is written again (R271). -/
def halfProgramEnd (pass : Bool) (s : State) : State :=
  match s.sav.run with
  | none => s
  | some r =>
    match r.half, r.inFlight with
    | some h, (idx, t, img) :: rest =>
      let x := nextSlot s h r.nextSlot
      if halfSlots s ≤ x then halfFull (modRun (fun r => { r with inFlight := [] }) s)
      else
        let s := dieWorks (halfDieOf s x) (eraseAheadOf h x r.header.eraseAhead s)
        let s := modNand (slotPlace s h x).1 (slotPlace s h x).2.1 (slotPlace s h x).2.2
          (fun n => { n with progAt := s.almanac }) s
        let skip := x - r.nextSlot
        if pass then
          let s := modHalf h (fun d => { d with slots := tset none d.slots x (some (savedTile s r idx t img)) }) s
          countWritten 1 (modRun (fun r => { r with inFlight := rest, nextSlot := x + 1, skipped := r.skipped + skip }) s)
        else
          let s := modRun (fun r => { r with nextSlot := x + 1, skipped := r.skipped + skip + 1 }) s
          let p := slotPlace s h x
          raiseAddr savProgFail x mSave 2 (noteRetire (blockKey p.1 p.2.1 p.2.2) s)
    | _, _ => s

/-- Programs already issued end (R281, Table 15-5). -/
def endIssued (s : State) : State :=
  match s.sav.run with
  | none => s
  | some r => (List.range r.inFlight.length).foldl (fun s _ => if r.half.isSome then halfProgramEnd true s else s) s

/-- The Vestibule and head blocks that failed during a save are retired after it (R350). -/
def retireFailed (s : State) : State :=
  let l := s.cel.retireAfterSave
  l.foldl (fun s k => retireBlock (k / 131072) (k / 4096 % 32) (k % 4096) false s) { s with cel := { s.cel with retireAfterSave := [] } }

/-! ### The ends of a save -/

/-- Before SAVING ends, the Keeper writes the captures of every station that has any to the Log (16_fault_stations
R568). -/
def logCaptures (s : State) : State :=
  Block.all.foldl (fun s b =>
    let x := stationAt s b
    if x.sticky ≠ 0 ∨ x.capValid = true then
      logRecord 0x0101 (blockNum b) x.sticky.toNat (capType x) x.capAddr 0xFFFF x.capMstr s
    else s) s

/-- What leaving SAVING has in common: captures logged, MUSTER_OUT_N released (R257), no save in progress. -/
def leaveSaving (outcome : Nat) (s : State) : State :=
  let s := retireFailed (logCaptures s)
  { s with sav := { s.sav with phase := .idle, outcome := outcome, musterOut := false, run := none } }

/-- The Keeper stops before the Save Seal: nothing further is issued (R281). -/
def stopUnsealed (s : State) : State :=
  let s := endIssued s
  let jn : List JournalRec := s.cel.recs.filterMap fun r =>
    match r.phase with | .issued _ => some { ptr := r.ptr, rec_ := r.rec_ } | _ => none
  leaveSaving 1 { s with cel := { s.cel with copies := [], recs := [], journal := s.cel.journal ++ jn } }

/-- Pack exhaustion in SAVING: Abandon on LANTERN_OUT, OFF with cause 0x11 (R281; 12_partner_mirroring R454). -/
def exhausted (s : State) : State :=
  if s.dev.state = .saving then enterOff 0x11 (giveAbandon (stopUnsealed s)) else s

/-- A bus error of the Keeper in SAVING: it stops, and the part enters SAVED with cause 0x12 (15_onchip_integrity Table
15-5). -/
def keeperStops (s : State) : State :=
  if s.dev.state = .saving then enterSaved 0x12 (stopUnsealed s) else s

/-- The report of the last save can be read: event 0x0006 with its OUTCOME and TILES_WRITTEN (03_host_link R113), once for each save: at the
boot that first reads it, or at the Warm Return that ends it (DEDUCED: assumption 116). -/
def saveReport (s : State) : State := event 0x0006 .sav s.sav.outcome s.sav.written s

/-- Every condition of R285 for Warm Return. -/
def warmReturns (s : State) : Bool :=
  s.nrg.p12vValid && s.sav.railsHeld &&
    (s.sav.fenceFrom = .service || s.sav.fenceFrom = .harbour || s.sav.fenceFrom = .warmReturn) &&
    (s.sav.cause = 0x07 || s.sav.cause = 0x08) && !s.sav.fenceSanitizing

/-- Every volatile tile becomes Unwritten (05_rooms_suites_chart R192). -/
def unwriteVolatile (s : State) : State :=
  { s with cht := { s.cht with tiles := s.cht.tiles.filter fun x => tileClass s x.1 ≠ .volatile } }

/-- Enter WARM-RETURN (R285, R286; 14_attic R522, R526): volatile tiles Unwritten, the Attic opens and scans again; a low
MUSTER_IN_N closes the Fence at once (R255). -/
def enterWarm (half : Option Half) (s : State) : State :=
  let s := transition .warmReturn 0x0C s
  let s := unwriteVolatile s
  levelMuster (saveReport
  { s with sav := { s.sav with outcome := 2, warmHalves := s.sav.warmHalves ++ half.toList, countedId := s.sav.saveId },
           drc := { s.drc with recheckFailed := false },
           att := { s.att with closed := false, scanned := false },
           log := { s.log with life := { s.log.life with
                      warmReturns := satInc 0xFFFFFFFF s.log.life.warmReturns,
                      savesStowed := if s.sav.kind = 1 then satInc 0xFFFFFFFF s.log.life.savesStowed
                                     else s.log.life.savesStowed,
                      savesFull := if s.sav.kind = 1 then s.log.life.savesFull
                                   else satInc 0xFFFFFFFF s.log.life.savesFull } } })

/-- The Save Seal of the save in progress (Table 07-6). -/
def makeSeal (s : State) (r : SaveRun) : SaveSeal :=
  { saveId := r.header.saveId, listed := r.list.length, written := r.written, listPages := listPages r.list.length,
    durationMs := (s.almanac - (if r.header.kind = 3 then r.header.fenceTime else s.sav.fenceTime)) / 1000,
    energyJ := if r.header.kind = 3 then 0 else s.nrg.saveMj / 1000, skipped := r.skipped, rateDown := r.rateDown }

/-- The Save Seal has passed (R266, R285): the half is IMAGE, the shutdown state clean, and the part goes to
WARM-RETURN or SAVED. -/
def sealPassed (r : SaveRun) (s : State) : State :=
  let k := makeSeal s r
  let s := modRec (fun x => { x with sealed := some k }) (programArea (sealPage r) 1 (programList s))
  let s := match r.half with | some h => modHalf h (fun d => { d with st := .image }) s | none => s
  let s := { s with sav := { s.sav with listed := k.listed, written := k.written, durationMs := k.durationMs,
                                        energyJ := k.energyJ },
                    hst := { s.hst with shutdownDirty := false } }
  let s := leaveSaving 0 s
  if warmReturns s then enterWarm r.half s else enterSaved 0x0B s

/-! ### Releases and half states (R262, R263) -/

/-- Program the release record of a half; it is erased in the background in the serving states (R262, R263). -/
def releaseHalf (h : Half) (s : State) : State :=
  match (halfAt s h).rec_ with
  | none => s
  | some r =>
    let x : ReleaseRec := { half := h.code, saveId := r.header.saveId, time := s.almanac }
    let s := programItem 4 0 (.released x) 0 1 { s with cel := { s.cel with released := s.cel.released ++ [x] } }
    modHalf h (fun d => { d with st := if evaluates s.dev.state then .erasing else .released }) s

/-- Background erases of RELEASED halves begin on entry to a serving state (R263). -/
def eraseReleased (s : State) : State :=
  let f := fun (d : HalfData) => if d.st = .released then { d with st := .erasing } else d
  { s with sav := { s.sav with port := f s.sav.port, stbd := f s.sav.stbd } }

/-- The Meta area that does not hold the newest valid header is erased in the background (R345). -/
def eraseOldArea (s : State) : State :=
  if newestInA s then startErasures (clearArea true { s with cel := { s.cel with areaB := none } })
  else startErasures (clearArea false { s with cel := { s.cel with areaA := none } })

/-- SAVE_ID of the newest save held: the valid header of highest SAVE_ID; 0 when there is none (R265, R293). -/
def newestSaveId (s : State) : Nat :=
  let l := [s.sav.port.rec_, s.sav.stbd.rec_, s.cel.areaA, s.cel.areaB].filterMap id
  (l.filter fun r => headerValid s r.header).foldl (fun a r => max a r.header.saveId) 0

/-- Entry to SERVICE from BOOT, RESTORE or WARM-RETURN (R263, R265, R341, R345): the service-open record waits unless
this session has one, RELEASED halves and the older Meta area are erased, a checkpoint is taken, and the block table is stored (when it
is, is a DESIGN CHOICE: assumption 126). -/
def openService (cause : Nat) (s : State) : State :=
  let s := enterService cause s
  let s := if evaluates s.dev.state then { s with sav := { s.sav with openPending := !s.sav.opened } } else s
  replaceItem 6 .blockTable (takeCheckpoint (eraseOldArea (eraseReleased s)))

/-! ### Safe Harbour's end (16_fault_stations R574, R575) -/

/-- A half that may take the precautionary stow: READY, with the other half READY, ERASING or RELEASED (R264). -/
def precautionHalf (s : State) : Option Half :=
  let free := fun (d : HalfData) => d.st = .ready || d.st = .erasing || d.st = .released
  if runBlocks s = 0 then none
  else if s.sav.port.st = .ready && free s.sav.stbd then some .port
  else if s.sav.stbd.st = .ready && free s.sav.port then some .starboard
  else none

/-- An acknowledge is taken up: SERVICE with cause 0x10 and a checkpoint (R575; 09_cellar R341). -/
def leaveHarbour (s : State) : State :=
  takeCheckpoint (enterService 0x10 { s with dev := { s.dev with ackPend := false } })

/-- An acknowledge of Safe Harbour: taken up when the precautionary stow has ended, held before that, ignored outside
HARBOUR (R575, DEV_HARBOUR_ACK). -/
def acknowledge (s : State) : State :=
  if s.dev.state = .harbour then
    if s.dev.phase = .ended then leaveHarbour s else { s with dev := { s.dev with ackPend := true } }
  else s

/-- The precautionary stow has ended; a held acknowledge is taken up (R574, R575). -/
def endPrecaution (short : Bool) (s : State) : State :=
  let s := { s with dev := { s.dev with phase := .ended, short := short, harbourList := [] } }
  let s := if short then raise devPrecautionShort s else s
  if s.dev.ackPend && s.dev.state = .harbour then leaveHarbour s else s

end Sys2Proof.Machine
end

