-- ==== Sys2Proof/Machine/Cellar.lean ====
section
/-! DEFINITION. The commands of the Cellar controller (09_cellar): program and read ends, records, journal pages,
checkpoints, reclaim, wear levelling, patrol, erases. -/

namespace Sys2Proof.Machine

/-! ### Programs -/

/-- A Full save still has tiles to read, so it does not pad (R331). -/
def fullGoesOn (s : State) : Bool := s.sav.run.any fun r => r.half.isNone && !r.todo.isEmpty

/-- Copies in the latches of a die whose wordline is not full, the oldest of each frontier; a Full save's do not pad while it goes on
(R331). -/
def padCandidates (s : State) (d : Nat) : List CopyFlight :=
  let of_ := fun (reloc : Bool) =>
    s.cel.copies.find? fun c => c.phase = .latched && c.die = d && c.src.reloc? = reloc && !lineFull s c
  ((of_ false).toList ++ (of_ true).toList).filter fun c => !(c.src = .full && fullGoesOn s)

/-- The copy whose wordline is padded next on a die: the one that has waited longest. -/
def padNext (s : State) (d : Nat) : Option CopyFlight :=
  (padCandidates s d).foldl (fun a c => match a with | some b => if c.at_ < b.at_ then some c else a | none => some c) none

/-- PAD_TIMEOUT (R331): a wordline of a die whose oldest tile has waited CEL_CTL.PAD_US is filled and issued. -/
def execPadTimeout (die : Nat) (s : State) : Res :=
  match padNext s die with
  | none => .next s
  | some c =>
      let s := advanceTo (c.at_ + s.cel.padUs) s
      let up := fun (f : Option (Nat × Nat)) => f.map fun f => (f.1, (f.2 + 2) / 3 * 3)
      .next (placeStaged (modDie die (fun x =>
        if c.src.reloc? then { x with gcFrontier := up x.gcFrontier } else { x with frontier := up x.frontier }) s))

/-- What a copy leaves in its slot (R332, R333). -/
def CopyFlight.cell (c : CopyFlight) (t : Nat) : CellCopy :=
  { tile := c.tile, seq := c.seq, keySlot := c.keySlot, keyId := c.keyId, img := c.img, progAt := t }

/-- The copies of a die's program have ended (R330). -/
def endProgram (d : Nat) (pass : Bool) (s : State) : State :=
  let mine := s.cel.copies.filter fun c => c.phase = .issued && c.die = d
  let slots := if pass then mine.foldl (fun (t : Table (Option CellCopy)) c =>
      match c.slot with | some x => tset none t x (some (c.cell s.almanac)) | none => t) s.cel.slots
    else s.cel.slots
  let cs : List CopyFlight := s.cel.copies.map fun c =>
    if c.phase = .issued && c.die = d then { c with phase := if pass then .passed else .failed, at_ := s.almanac }
    else c
  let s := { s with cel := { s.cel with copies := cs, slots := slots } }
  if mine.any fun c => !c.src.reloc? then dieWorks d s else s

/-- The state is that of a save, in which PROG_FAIL is not raised (R361). -/
def inSave (s : State) : Bool := s.dev.state = .saving

/-- NAND_PROGRAM_DONE (R330, R350): the wordline program of a die ends; a failure retires the block. -/
def execNandProgramDone (die us : Nat) (pass : Bool) (s : State) : Res :=
  match s.cel.copies.find? fun c => c.phase = .issued && c.die = die with
  | none => .next s
  | some c =>
    let s := endProgram die pass (noteTlc us s)
    let s := if pass then s
             else
               let b := slotBlock s (c.slot.getD 0)
               let a := blockAddr s 0 die b
               let s := retireBlock 0 die b false s
               if inSave s then s else raiseAddr celProgFail a c.src.master 2 s
    .next (placeStaged s)

/-! ### Records -/

/-- A Full save or a Cellar fallback still has tiles of a Room to read or to program (07_fence_save R273, R277). -/
def fullPending (s : State) (room : Nat) : Bool :=
  s.sav.run.any fun r => r.half.isNone &&
    ((r.todo.any fun x => x.2 / tilesPerRoom = room) || r.inFlight.any fun x => x.2.1 / tilesPerRoom = room)

/-- ROOM_MAP_BUILD (R218, R340, R182): the Room's next record for the copies that wait, when none of the Room is in
flight and its map is not stale; in a Full save once all its copies have passed (07_fence_save R273). -/
def execRoomMapBuild (room : Nat) (s : State) : Res :=
  if recBusy s room || (entryAt s room).mapStale || fullPending s room then .next s
  else
    let full := s.cel.copies.any fun c => c.tile / tilesPerRoom = room && c.src = .full
    .next (buildRecord room full s)

/-- Records that wait for a page. -/
def waitingRecs (s : State) : List RecFlight := s.cel.recs.filter fun r => r.phase = .waiting

/-- Up to 16 waiting records take the positions of a journal page, in order (R338, R339). -/
def fillPage (m : Nat) (l : List RecFlight) : List RecFlight × Nat :=
  l.foldl (fun (a : List RecFlight × Nat) r =>
    if r.phase = .waiting && a.2 < 16 then (a.1 ++ [{ r with phase := .issued m, ptr := m * 16 + a.2 }], a.2 + 1)
    else (a.1 ++ [r], a.2)) ([], 0)

/-- Issue a journal page for up to 16 waiting records at the next page of the journal, on the two dies of its copies, which suspend a
background erase (R335, R337 to R339); it waits while one of them programs or no die may (R324), or while Meta has no free block. -/
def issuePage (s : State) : State :=
  match openMeta 1 0 s with
  | none => s
  | some (q, s1) =>
    let m := q * 1024 + ((metaBlk s1 q).map fun b => b.next).getD 0
    let ds := pageDies s1 m
    let busy := programming s
    if (ds.any fun d => busy.contains d || dieHeld s d) || 16 < busy.length + ds.length then s
    else
      let (l, n) := fillPage m s1.cel.recs
      let s2 := takePages q 1 { s1 with cel := { s1.cel with recs := l, sinceCkpt := s1.cel.sinceCkpt + n } }
      ds.foldl (fun s d => dieWorks d s) s2

/-- JOURNAL_PAGE_ISSUE (R339): when 16 records wait, or the oldest has waited 100 µs. -/
def execJournalPageIssue (s : State) : Res :=
  match waitingRecs s with
  | [] => .next s
  | r :: l =>
    if 16 ≤ l.length + 1 then .next (issuePage s) else .next (issuePage (advanceTo (r.at_ + 100) s))

/-- From the Fence until SAVING ends. -/
def fencedOrSaving (s : State) : Bool := s.dev.state = .fenced || s.dev.state = .saving

/-- In SAVING the Keeper erases a Cellar block as soon as its live count reaches 0 (R346). -/
def keeperErases (s : State) : State := if s.dev.state = .saving then startErasures s else s

/-- Records that end after the Fence. No completion is applied (06_stowing_ceiling R228): a record that passed keeps its page and is applied
after the save, by the boot or by the completion that a Warm Return brings, which names no tile (R359, R344; 05_rooms_suites_chart R179).
A Full save's own record comes into force, and its tiles count as written (07_fence_save R273, R276; DEDUCED: assumption 28). -/
def settleRecs (l : List RecFlight) (ok : Bool) (s : State) : State :=
  let s := { s with cel := { s.cel with recs := s.cel.recs.filterMap fun r => match r.phase with
      | .resolved p => if p && !r.rec_.full then some { r with names := [] } else none
      | _ => some r } }
  if ok then (l.filter fun r => r.rec_.full).foldl (fun s r => countWritten r.names.length (putInForce r.rec_ r.ptr s)) s |> keeperErases
  else s

/-- The master of a journal page: that of the first copy its records confirm; none for a page of refresh or release of slots only
(01_architecture R40; DEDUCED: assumption 110). -/
def recsMaster (l : List RecFlight) : Nat :=
  match l.flatMap fun r => r.names with
  | n :: _ => n.2.2.master
  | [] => mNone

/-- META_PROGRAM_DONE (R337): both copies of a journal page have ended; it counts as passed only when both passed. A
copy that failed retires its block. -/
def execMetaProgramDone (page us : Nat) (passA passB : Bool) (s : State) : Res :=
  let mine := s.cel.recs.filter fun r => r.phase = .issued page
  if mine.isEmpty then .next s
  else
    let ok := passA && passB
    let s := notePslc us s
    let recs : List RecFlight := s.cel.recs.map fun r =>
      if r.phase = .issued page then { r with phase := .resolved ok } else r
    let jn : List JournalRec := if ok then mine.map fun r => { ptr := r.ptr, rec_ := r.rec_ } else []
    let s := { s with cel := { s.cel with recs := recs, journal := s.cel.journal ++ jn } }
    let s := if fencedOrSaving s then settleRecs mine ok s else s
    let s := (pageDies s page).foldl (fun s d => dieWorks d s) s
    let fail := fun (q : Nat) (s : State) =>
      let a := blockAddr s 2 (metaDie s q) (metaNo s q)
      let s := retireBlock 2 (metaDie s q) (metaNo s q) false s
      if inSave s then s else raiseAddr celProgFail a (recsMaster mine) 2 s
    let s := if passA then s else fail (page / 1024) s
    let s := if passB then s else (secondOf s (page / 1024)).elim s fun q => fail q s
    .next (placeStaged s)

/-- The part works on Meta in the present state; in a restore hold it writes nothing there (08_startup_restore R296). -/
def metaWorks (s : State) : Bool :=
  s.cel.metaLoaded && !holding s && match s.dev.state with
    | .boot | .restore | .tenancy | .service | .warmReturn | .harbour => true
    | _ => false

/-- Journal records after which a checkpoint is due (R341). -/
def ckptEvery : Nat := 65536

/-- CHECKPOINT_DUE (R341): after every 65,536 journal records; the checkpoints before a journal erase and on entry to SERVICE are taken
there (`execJournalBlockReclaim`, `openService`). -/
def execCheckpointDue (s : State) : Res :=
  if metaWorks s && ckptEvery ≤ s.cel.sinceCkpt then .next (takeCheckpoint s) else .next s

/-- Rooms whose record in force lies in a Meta block (R344). -/
def roomsIn (s : State) (d b : Nat) : List Nat :=
  (s.cht.entries.filter fun e => match standing s e.1 with
    | some j => pageDie s (j.ptr / 16) = d && pageBlock s (j.ptr / 16) = b
    | none => false).map fun e => e.1

/-- The newest checkpoint covers every page of a Meta block (R344). -/
def ckptCovers (s : State) (x : MetaBlk) : Bool := s.cel.ckpts.head?.any fun c => x.seq + x.next - 1 ≤ c.upTo

/-- A block may be erased: a Cellar block with no live slot, a Meta block out of use or a journal block that a checkpoint covers and in
which no record in force lies, a Vestibule block (R344, R346). A second copy's block goes with the first's. -/
def mayErase (s : State) (part d b : Nat) : Bool :=
  if part = 0 then blockDead s d b
  else if part = 2 then
    match metaBlk s (b * dieCount s + d) with
    | none => true
    | some x => x.dead || x.type = 1 && x.copyOf.isNone && ckptCovers s x && (roomsIn s d b).isEmpty
  else true

/-- A Meta block is a journal block, the first of its copies. -/
def journalBlock (s : State) (d b : Nat) : Bool :=
  (metaBlk s (b * dieCount s + d)).any fun x => x.type = 1 && x.copyOf.isNone

/-- JOURNAL_BLOCK_RECLAIM (R341, R344): refresh records for the Rooms in force in the block; with none left, a
checkpoint is taken and the block's erase begins once the die erases nothing and has no other work (R335). -/
def execJournalBlockReclaim (die block : Nat) (s : State) : Res :=
  if metaWorks s && journalBlock s die block then
    let l := roomsIn s die block
    if l.isEmpty then
      let s := takeCheckpoint s
      .next (if mayErase s 2 die block && (dieAt s die).erasing.isNone && dieIdle s die then
               modDie die (fun x => { x with erasing := some (2, block, false) }) s
             else s)
    else .next (l.foldl (fun s r => refreshRecord r s) s)
  else .next s

/-! ### Reads and erases -/

/-- The channel whose FETCH or CHECK VERIFY step reads the confirmed copy of a tile (13_dumbwaiter R488, R489). -/
def dmwReads (s : State) (t : Nat) : Option Nat :=
  (List.range 16).find? fun n =>
    match (chanAt s n).run with
    | some r => r.granted && (r.d.op = 4 || (r.d.op = 5 && r.watch.contains t)) && (srcDpa s r.d + r.cursor) / tileBytes = t
    | none => false

/-- The master of a read of flash in the present state (01_architecture Table 01-8; DEDUCED: assumption 110), `tile` the tile whose copy
it reads: the Dumbwaiter channel whose step reads that copy, else RESTORE while a restore or a rebuild runs, SAVE in a save, the Keeper at boot, which reads Meta and the halves' heads, else the Cellar patrol, under
which relocation reads too. -/
def nandMaster (s : State) (tile : Option Nat) : Nat :=
  match tile.bind (dmwReads s) with
  | some n => mDmw n
  | none =>
  match s.dev.state with
  | .boot => mKeeper
  | .restore | .tenancy => mRestore
  | .fenced | .saving => mSave
  | .warmReturn => if s.sav.restore.running then mRestore else mKeeper
  | _ => mCellarPatrol

/-- The threshold sets in the order in which a read of a block tries them: the one that last decoded there, the nominal one, then 1 to 16
(R334). -/
def trialSets (last : Nat) : List Nat := last :: (List.range 17).filter (· ≠ last)

/-- The set on which a read decodes, with whether it took the soft decode: the first of the order on which every codeword of the page
decodes, hard or else soft, and the tag CRC is correct (R334). -/
def decodedAt (last : Nat) (hard soft : List Nat) : Option (Nat × Bool) :=
  ((trialSets last).find? fun n => hard.contains n || soft.contains n).map fun n => (n, !hard.contains n)

/-- Count a read that decoded, and note its set for the block (R334, CEL_DECODE). -/
def noteDecode (part die block : Nat) (x : Nat × Bool) (s : State) : State :=
  let c := s.cel
  modNand part die block (fun n => { n with set := x.1 % 17 })
    { s with cel := { c with soft := if x.2 then satInc 0xFFFF c.soft else c.soft,
                             shifted := if x.1 ≠ 0 then satInc 0xFFFF c.shifted else c.shifted } }

/-- Note the copy of a tile as uncorrectable: relocation does not take it (R347). -/
def noteBad (t : Nat) (s : State) : State :=
  match (mapEntry s t).slot with
  | some x => if s.cel.badSlots.contains x then s else { s with cel := { s.cel with badSlots := s.cel.badSlots ++ [x] } }
  | none => s

/-- NAND_READ_DONE (R334): `hard` and `soft` are the threshold sets on which the page decodes hard, and soft, with `ok` telling that the
tag CRC is then correct; a page that decodes on none is uncorrectable, READ_UE. -/
def execNandReadDone (part die block : Nat) (hard soft : List Nat) (ok : Bool) (tile : Option Nat) (s : State) : Res :=
  match (if ok then decodedAt (nandAt s part die block).set hard soft else none) with
  | some x => .next (noteDecode part die block x s)
  | none =>
    let s := { s with cel := { s.cel with ue := satInc 0xFFFFFFFF s.cel.ue } }
    let s := if part = 0 then tile.elim s fun t => noteBad t s else s
    .next (raiseAddr celReadUe (tile.getD 0 * tileBytes) (nandMaster s tile) 1 s)

/-- Forget what an erased block held. -/
def wipeBlock (part d b : Nat) (s : State) : State :=
  if part = 0 then
    let mine := fun (x : Nat) => slotDie s x = d && slotBlock s x = b
    { s with cel := { s.cel with slots := s.cel.slots.filter fun x => !mine x.1,
                                 badSlots := s.cel.badSlots.filter fun x => !mine x } }
  else if part = 2 then
    let q := b * dieCount s + d
    { s with cel := { s.cel with
        journal := s.cel.journal.filter fun j => !(pageDie s (j.ptr / 16) = d && pageBlock s (j.ptr / 16) = b),
        metaBlks := retireMeta (fun y => y.copyOf = some q) (s.cel.metaBlks.filter fun x => x.1 ≠ q) } }
  else s

/-- The erase of a block is suspended: it cannot end (R335). -/
def suspended (s : State) (part d b : Nat) : Bool := (dieAt s d).erasing = some (part, b, true)

/-- NAND_ERASE_DONE (R346, R350): the block is free, or retired on failure; what waited for the die goes on. -/
def execNandEraseDone (part die block : Nat) (pass : Bool) (s : State) : Res :=
  if mayErase s part die block && !suspended s part die block then
    let s := modDie die (fun x => { x with erasing := x.erasing.filter fun e => !(e.1 = part && e.2.1 = block) }) s
    let s := modNand part die block (fun n => { n with erases := if pass then n.erases + 1 else 0, inUse := false,
                                                       reErase := false }) (wipeBlock part die block s)
    let s := if pass then s
             else
               let a := blockAddr s part die block
               raiseAddr celEraseFail a mNone 0 (retireBlock part die block true s)
    .next (startErasures (placeStaged s))
  else .next s

/-- BACKGROUND_ERASE_RESUME (R335): once the die has been free of work of items 1 to 5 for 1 ms. -/
def execBackgroundEraseResume (die : Nat) (s : State) : Res :=
  match (dieAt s die).erasing with
  | some (p, b, true) =>
    if !dieIdle s die then .next s
    else
      let s := advanceTo ((dieAt s die).busyAt + 1000) s
      .next (modDie die (fun x => { x with erasing := some (p, b, false) }) s)
  | _ => .next s

/-! ### Reclaim, wear levelling, patrol -/

/-- Relocate the live copies of a Cellar block that records in force name (R347); one that is known to be uncorrectable cannot be copied. -/
def relocateBlock (d b : Nat) (s : State) : State :=
  let live := s.cel.slots.filter fun x => slotDie s x.1 = d && slotBlock s x.1 = b
  live.foldl (fun s x =>
    match x.2 with
    | none => s
    | some c =>
      if (mapEntry s c.tile).slot = some x.1 && !s.cel.badSlots.contains x.1 then
        match readCopy s c.tile (mapEntry s c.tile) with
        | some i => startCopy c.tile (.reloc x.1) i s
        | none => s
      else s) s

/-- The Cellar block in use with the fewest live slots on a die (R347). -/
def emptiest (s : State) (d : Nat) : Option Nat :=
  let bs := (s.cel.blocks.filter fun p => p.1 / 131072 = 0 && p.1 / 4096 % 32 = d && p.2.inUse && !p.2.lost &&
    !onFrontier (dieAt s d) (p.1 % 4096)).map fun p => p.1 % 4096
  bs.foldl (fun (a : Option Nat) b =>
    match a with
    | some c => if (liveOf s d b).length < (liveOf s d c).length then some b else a
    | none => some b) none

/-- GC_RECLAIM (R347): a die short of free Cellar blocks relocates the live copies of its emptiest block. -/
def execGcReclaim (die : Nat) (s : State) : Res :=
  if evaluates s.dev.state && die < dieCount s && freeCount s die < s.cel.gcLow then
    match emptiest s die with
    | some b => .next (startErasures (relocateBlock die b { s with cel := { s.cel with reclaim := true } }))
    | none => .next s
  else .next { s with cel := { s.cel with reclaim := false } }

/-- Blocks of a die with their erase counts: highest count, and count and place of the first block that has the lowest. -/
def wearSpread (s : State) (d : Nat) (l : List (Nat × Nat)) : Nat × Nat × (Nat × Nat) :=
  let e := fun (x : Nat × Nat) => blockErases s x.1 x.2 (nandAt s x.1 d x.2)
  let first := l.headD (0, 0)
  l.foldl (fun a x => (max a.1 (e x), if e x < a.2.1 then e x else a.2.1, if e x < a.2.1 then x else a.2.2)) (e first, e first, first)

/-- TLC blocks of a die: the Cellar's. -/
def tlcBlocks (s : State) : List (Nat × Nat) := (List.range (cellarBlocks s)).map fun b => (0, b)

/-- pSLC blocks of a die: those of the Vestibule and of Meta, and the heads (Table 09-2). -/
def pslcBlocks (s : State) : List (Nat × Nat) :=
  ((List.range (vestBlocks s)).map fun b => (1, b)) ++ ((List.range (metaBlocks s)).map fun b => (2, b)) ++ [(3, 0), (3, 1)]

/-- The replacement Spare block of lowest erase count that a die has left (R348). -/
def freeSpare (s : State) (d : Nat) : Option Nat :=
  (List.range (spareLeft s d)).foldl (fun a i =>
    let k := 2 + (dieAt s d).spareUsed + i
    match a with
    | some c => if (nandAt s 3 d k).erases < (nandAt s 3 d c).erases then some k else a
    | none => some k) none

/-- Rewrite a pSLC block in a free block of the die: its rows are copied into that block, the two exchange their places in the block
table, and the first is erased (R348, R353; the destination is a DESIGN CHOICE: assumption 127). -/
def exchangeBlock (part d b part' k : Nat) (s : State) : State :=
  let n := nandAt s part d b
  let m := nandAt s part' d k
  let p := physBlock s part d b + 1
  let p' := physBlock s part' d k + 1
  let mine := blockErases s part b n - s.cel.allErases
  let other := blockErases s part' k m - s.cel.allErases
  let s := { s with cel := { s.cel with remap := tset 0 (tset 0 s.cel.remap (blockKey part d b) p') (blockKey part' d k) p } }
  let s := modNand part d b (fun x => { withErases s part b other x with progAt := s.almanac }) s
  modNand part' d k (withErases s part' k (mine + 1)) s

/-- A half has pages in a block: tiles in slots of it, or its header in its head block (R329). -/
def halfHolds (s : State) (h : Half) (part d b : Nat) : Bool :=
  (part = 3 && b = h.code && (halfAt s h).rec_.isSome) ||
    (halfAt s h).slots.any fun x => x.2.isSome && slotPlace s h x.1 = (part, d, b)

/-- The patrol reads a block: one with confirmed copies of the Cellar, with pages of an IMAGE or PRECAUTION half, or of Meta (R352). -/
def patrolled (s : State) (part d b : Nat) : Bool :=
  if part = 0 then !(liveOf s d b).isEmpty
  else if part = 2 then (metaBlk s (b * dieCount s + d)).any fun x => !x.dead
  else [Half.port, .starboard].any fun h =>
    ((halfAt s h).st = .image || (halfAt s h).st = .precaution) && halfHolds s h part d b

/-- The free block of lowest erase count of a block's partition on its die (R353): of Meta, of a half that is READY, of Spare for a head. -/
def freeWithin (s : State) (part d : Nat) : Option Nat :=
  let least := fun (l : List Nat) => l.foldl (fun (a : Option Nat) b =>
    match a with
    | some c => if (nandAt s part d b).erases < (nandAt s part d c).erases then some b else a
    | none => some b) none
  if part = 2 then least ((List.range (metaBlocks s)).filter fun b => metaIsFree s (b * dieCount s + d))
  else if part = 1 then least ((List.range (2 * runBlocks s)).filter fun b =>
    (halfAt s (if b < runBlocks s then .port else .starboard)).st = .ready && !(nandAt s 1 d b).lost)
  else freeSpare s d

/-- The pages of a half's or a Meta block are rewritten within its partition, once a block of it is free (R353). -/
def rewriteBlock (part d b : Nat) (s : State) : State :=
  match freeWithin s part d with
  | some k => if k = b then s else exchangeBlock part d b part k s
  | none => s

/-- The block after one in the order of the patrol: the next on the die, then the first of the next die (CEL_PATROL_POS; the order is a
DESIGN CHOICE: assumption 132). -/
def patrolAfter (s : State) (d p : Nat) : Nat × Nat :=
  if p + 1 < (dieAt s d).good then (d, p + 1) else ((d + 1) % dieCount s, 0)

/-- WEAR_LEVEL_MOVE (R348): the block of lowest count is relocated and so free for use again, when the spread of the die is above the limit: 200 among the TLC blocks,
2,000 among the pSLC blocks of all partitions together. -/
def execWearLevelMove (part die : Nat) (s : State) : Res :=
  if evaluates s.dev.state then
    if part = 0 then
      let w := wearSpread s die (tlcBlocks s)
      if w.2.1 + 200 < w.1 then .next (relocateBlock die w.2.2.2 s) else .next s
    else
      let w := wearSpread s die (pslcBlocks s)
      if w.2.1 + 2000 < w.1 then
        .next (rewriteBlock w.2.2.1 die w.2.2.2 s)
      else .next s
  else .next s

/-- Days of Almanac time in µs. -/
def dayUs : Nat := 86400000000

/-- A block that the patrol relocates (R353). -/
def patrolMoves (s : State) (n : NandBlock) (set : Nat) (soft : Bool) : Bool :=
  4 ≤ set || soft || s.cel.ageD * dayUs < s.almanac - n.progAt

/-- A confirmed copy that the patrol found uncorrectable (R354): RESCUE, and a rescue when the tile is Clean. -/
def rescue (t : Nat) (s : State) : State :=
  let s := { s with cel := { s.cel with ue := satInc 0xFFFFFFFF s.cel.ue } }
  let s := raiseAddr celRescue (t * tileBytes) mCellarPatrol 1 (raiseAddr celReadUe (t * tileBytes) mCellarPatrol 1 s)
  if (tileAt s t).st = .clean && (tileClass s t).saved then
    let s := tileAccess t s
    startCopy t .rescue (tileNow s t) { s with cel := { s.cel with watches := s.cel.watches ++ [t] } }
  else s

/-- The end of a pass (R352, CEL_PATROL). -/
def endPatrol (s : State) : State :=
  let c := s.cel
  { s with cel := { c with patrolRun := false, patrolDie := 0, patrolBlock := 0, patrolPasses := (c.patrolPasses + 1) % 32768,
                           patrolLate := c.patrolLate || c.patrolD * dayUs * 11 / 10 < s.almanac - c.patrolStart,
                           patrolStart := s.almanac } }

/-- NAND_PATROL_READ (R352 to R354): the patrol has read one block, with the worst set and effort, the tiles whose
confirmed copy it found uncorrectable, and whether it was the last block of the pass; with tiles to rescue it waits for their
copy-beat entries (01_architecture R31), and it waits while the die has work that goes before it or an erase runs there (R335 item 7). -/
def execNandPatrolRead (part die block set : Nat) (soft : Bool) (bad : List Nat) (last : Bool) (s : State) : Res :=
  if evaluates s.dev.state && stageNow s = 0 && s.cel.patrolD ≠ 0 && patrolled s part die block && dieIdle s die && !eraseRuns s die &&
      (bad.isEmpty || bad.length * beatsPerTile ≤ copyFree s .other) && bad.all (tileServed s mCellarPatrol) then
    let c := s.cel
    let n := nandAt s part die block
    let next := patrolAfter s die (physBlock s part die block)
    let s := { s with cel := { c with patrolRun := true, patrolDie := next.1, patrolBlock := next.2 } }
    let s := noteDecode part die block (set, soft) s
    let s := bad.foldl (fun s t => rescue t (noteBad t s)) s
    let s := if patrolMoves s n set soft then
        (if part = 0 then relocateBlock die block s
         else rewriteBlock part die block s)
      else s
    .next (if last then endPatrol s else s)
  else .next s

end Sys2Proof.Machine
end

