-- ==== Sys2Proof/Machine/Chart.lean ====
section
/-! DEFINITION. The commands of the Chart and the Suite table (05_rooms_suites_chart R182, R193, R206, R208). -/

namespace Sys2Proof.Machine

/-- The tile row "Uncorrectable Chart entry" of Table 06-1. -/
def entryUeTile (x : Tile) : Tile :=
  { x with st := match x.st with | .clean => .dirty | .dirty => .dirty | .stowing => .voided | .voided => .voided }

/-- Stowing tiles of a Room. -/
def stowingIn (s : State) (r : Nat) : Nat := ((roomTiles r).filter fun t => (tileAt s t).st = .stowing).length

/-- An uncorrectable Chart entry (R182): the entry rebuilt, a saved Room's tiles made Dirty and Voided, its Room map to be read
again, the poison summary lost. ANY is set; TILE, UNLISTED and POISON_CNT, of which the spec says only that they are lost, are cleared,
and MAP_PTR and MAP_GEN are empty while MAP_STALE is set (DESIGN CHOICE: assumption 122). In SAVING no tile state changes
(07_fence_save R253). -/
def chartEntryUe (room : Nat) (s : State) : State :=
  let e := builtEntry s room
  let v := stowingIn s room
  let s := if e.cls.saved && s.dev.state ≠ .saving then
      let s := modRoomTiles room entryUeTile s
      { s with stw := { s.stw with voidedCnt := satAdd 0xFFFFFFFF s.stw.voidedCnt v } }
    else s
  let s := if e.cls.saved && !s.cht.rereads.contains room then
      { s with cht := { s.cht with rereads := s.cht.rereads ++ [room] } }
    else s
  let old := entryAt s room
  let s := modEntry room (fun _ => { e with mapStale := e.cls.saved, poisonAny := e.cls ≠ .unassigned,
                                            dirtyCnt := if e.cls.saved then old.dirtyCnt else 0,
                                            stowingCnt := if e.cls.saved then old.stowingCnt else 0 }) s
  let s := { s with cht := { s.cht with rebuildsEntry := satInc 0xFFFF s.cht.rebuildsEntry } }
  reeval (raiseAddr chtEntryUe (room * roomBytes) mNone 0 s)

/-- CHART_ENTRY_UE (R182). -/
def execChartEntryUe (room : Nat) (s : State) : Res := .next (chartEntryUe room s)

/-- MAP_REREAD_DONE (R182): passes with a record or with none, or fails with MAP_READ_FAIL; MAP_GEN then stays as it is, which the spec
leaves open (DESIGN CHOICE: assumption 122). -/
def execMapRereadDone (room : Nat) (pass : Bool) (s : State) : Res :=
  if s.cht.rereads.contains room then
    let s := { s with cht := { s.cht with rereads := s.cht.rereads.filter (· ≠ room) } }
    if pass then
      let j := newestRecord s room
      .next (modEntry room (fun e => { e with mapStale := false, mapPtr := j.map fun x => x.ptr,
                                              mapGen := (j.map fun x => x.rec_.gen).getD 0 }) s)
    else
      .next (raiseAddr chtMapReadFail (room * roomBytes) mNone 0
        (modEntry room (fun e => { e with mapStale := false, mapPtr := none }) s))
  else .next s

/-- Tiles with any bit in a byte of the tile state region (R189, R193). -/
def byteTiles (byte : Nat) : List Nat :=
  let g := byte / 3 * 8
  let k := 8 * (byte % 3)
  (List.range 8).filterMap fun i => if k / 3 ≤ i ∧ i ≤ (k + 7) / 3 then some (g + i) else none

/-- What R193 does to one tile; the accesses that wait for a fill of it go on with its end. Requests that stand before the fill complete
first. -/
def tileUe (t : Nat) (s : State) : State :=
  match tileClass s t with
  | .unassigned => s
  | .volatile =>
    let r := t / tilesPerRoom
    let was := (entryAt s r).poisonTile
    let s := tileAccess t (if tileServed s mNone t then s else drainAll s)
    let s := { s with dram := markTile t (zeroTile t s.dram) }
    let s := listPoison (t * tileBytes) true 2 (putTile t { st := .dirty, touched := false } s)
    releaseFill t (modEntry r (fun e => { e with poisonTile := was }) s)
  | _ => putTile t { st := .dirty, touched := true } s

/-- An uncorrectable byte of the tile state region (R193): every tile with a bit in the byte; in SAVING no tile state changes
(07_fence_save R253). -/
def tileStateUe (byte : Nat) (s : State) : State :=
  if byte < 12582912 then
    let l := byteTiles byte
    let s := if s.dev.state = .saving then s else l.foldl (fun s t => tileUe t s) s
    let s := { s with cht := { s.cht with rebuildsTstate := satInc 0xFFFF s.cht.rebuildsTstate } }
    reeval (raiseAddr chtTstateUe (l.headD 0 * tileBytes) mNone 0 s)
  else s

/-- TILE_STATE_UE (R193). -/
def execTileStateUe (byte : Nat) (s : State) : Res := .next (tileStateUe byte s)

/-- CHT_ROOM_SEL_WRITE (R206): the snapshot of the selected Room. -/
def selectRoom (value : Word) (s : State) : State :=
  let r := value.toNat % 2 ^ 19
  { s with cht := { s.cht with sel := r, snapEntry := entryWords (entryAt s r), snapTiles := tileWords s r } }

/-- CHT_ROOM_SEL_WRITE (R206). -/
def execChtRoomSelWrite (value : Word) (s : State) : Res := .next (selectRoom value s)

/-- An uncorrectable Suite context (R208): configuration reloaded, counts summed again, ARMED cleared until the next
Reckoning. -/
def suiteContextUe (suite : Nat) (s : State) : State :=
  let s1 := modSuite suite (fun c =>
    { recountSuite s c with cfg := (s.plan.suites.find? fun r => r.id = suite).getD c.cfg, armed := false,
                            armHold := true }) s
  let s := retotal s1
  reeval (raiseAddr suiCtxUe suite mNone 0 s)

/-- SUITE_CONTEXT_UE (R208). -/
def execSuiteContextUe (suite : Nat) (s : State) : Res := .next (suiteContextUe suite s)

end Sys2Proof.Machine
end

