-- ==== Sys2Proof/Machine/OpsShown.lean ====
section
/-! DEFINITION. What the part shows at its pins and in its configuration space as functions of the state: the indicator pins
(02_floor_plan R59), LANTERN_OUT and LANTERN_IN (12_partner_mirroring R453), the drive and the idle levels of other
pins (17_two_wire_ports R579, R595; 18_service_update R605; 21_package_pins_electrical R693), what is advertised to the host (03_host_link R79, R82, R98;
08_startup_restore R292). No row of the opcode table reads them. -/

namespace Sys2Proof.Machine

/-! ### Configuration space -/

/-- Configuration space responds from BOOT on (08_startup_restore R292). -/
def configResponds (s : State) : Bool := s.hst.linkUp && poweredState s.dev.state

/-- Mailbox Interface Ready (Table 03-2; 08_startup_restore R292): 0 in BOOT, and where the mailbox serves no command. -/
def mailboxReady (s : State) : Bool :=
  match s.dev.state with
  | .restore | .tenancy | .service | .harbour | .warmReturn => true
  | _ => false

/-- The advertised Memory_Active timeout, seconds (Table 03-1). -/
def memoryActiveTimeoutS : Nat := 256

/-- Base and scale of the phase-2 duration of CXL: the least value of base × 10^scale µs, base at most 15 and scale at most 7, that is not
below a duration (03_host_link R98; the encoding is CXL's, PRESUMED: assumption 118). -/
def gpfEncode (us : Nat) : Nat × Nat :=
  match (List.range 8).find? fun k => ceilDiv us (10 ^ k) ≤ 15 with
  | some k => (ceilDiv us (10 ^ k), k)
  | none => (15, 7)

/-- The phase-2 duration that a STALL_US makes the part advertise, µs (R98). -/
def gpfAdvert (stallUs : Nat) : Nat :=
  let e := gpfEncode (stallUs + 20)
  e.1 * 10 ^ e.2

/-- What the part advertises: identity (R82), the Memory_Active timeout (R79), the GPF phase-2 duration as base and scale (R98). -/
def advertised (s : State) : List Nat :=
  configIdentity s ++ [memoryActiveTimeoutS, (gpfEncode s.hst.gpfAdvertUs).1, (gpfEncode s.hst.gpfAdvertUs).2]

/-! ### Pins -/

/-- A function of Table 02-9 is asserted. -/
def indAsserted (s : State) (f : Nat) : Bool :=
  match f with
  | 1 => s.dev.reasons ≠ 0
  | 2 => s.dev.armed
  | 3 => !s.dev.armed
  | 4 => s.dev.state = .fenced || s.dev.state = .saving
  | 5 => s.sui.any fun c => c.exposed
  | 6 => s.sui.any fun c => c.single
  | 7 => s.nrg.present
  | _ => false

/-- IND`k`_N is driven low: its function is asserted, in a powered part (R59, R66); the pin floats otherwise. -/
def indLow (s : State) (k : Nat) : Bool :=
  (poweredState s.dev.state || s.dev.state = .drydock) && indAsserted s ((s.plan.pins.indFn[k]?).getD 0)

/-- What LANTERN_OUT does: toggling at 1 kHz, held low, or left to the pull-up of the partner's input. -/
inductive LanternOut where
  | toggling | low | released
  deriving DecidableEq, Repr

/-- LANTERN_OUT in phase 1 of a drill: high for 8 ms, then low for 8 ms (R469). -/
def lanternDrill (s : State) : Option LanternOut :=
  s.plk.sets.toList.findSome? fun m => match m.drill with
    | some d => if d.phase ≠ 1 then none else if s.almanac < d.phaseAt + 8000 then some .released
                else if s.almanac < d.phaseAt + 16000 then some .low else none
    | none => none

/-- LANTERN_OUT (R453, R454, R469): toggling from BOOT on, in SAVED too; low while the Abandon is given; nothing drives it in OFF. -/
def lanternOut (s : State) : LanternOut :=
  if s.plk.outAbandon then .low
  else match s.dev.state with
    | .off => .released
    | .drydock => .low
    | _ => (lanternDrill s).getD .toggling

/-- The level of LANTERN_OUT: 1 kHz with a duty cycle of 50 %, so half periods of 500 µs, counted from multiples of 1 ms of the Almanac
(DESIGN CHOICE: assumption 114, the spec gives no phase). -/
def lanternLevel (s : State) : Bool :=
  match lanternOut s with
  | .toggling => s.almanac / 500 % 2 = 0
  | .low => false
  | .released => true

/-- The level that LANTERN_IN reads: the partner's, or high by the pull-up where nothing drives the pin (R453, R455). -/
def lanternInLevel (driven : Option Bool) : Bool := driven.getD true

/-- The drive of the indicators, and of MUSTER_OUT_N and LANTERN_OUT, mA (02_floor_plan Table 02-8; 20_power_clocks_thermal R679). -/
def driveMa (code : Nat) : Nat := if code % 4 = 0 then 2 else if code % 4 = 1 then 4 else if code % 4 = 2 then 8 else 12
def indDrive (s : State) : Nat := driveMa s.plan.pins.drive
def musterDrive (s : State) : Nat := driveMa (s.plan.pins.drive / 4)

/-- A group of pins has slow edges: 0 indicators, 1 Muster and Lantern, 2 SVC_TX (Table 02-8; 18_service_update R605). -/
def slowEdge (s : State) (group : Nat) : Bool := s.plan.pins.slew.testBit group

/-- SVC_TX between frames: high impedance while SVC_PRES_N is high, else idling high (18_service_update R605). -/
def svcTxIdle (s : State) : Option Bool := if s.svc.pres then some true else none

/-- The SB target's sink at 0.4 V, mA, and its data hold, ns, in the mode in use (17_two_wire_ports R579). -/
def sbOutput (s : State) : Nat × Nat := if s.tws.mode = 2 then (20, 150) else (3, 300)

/-- The internal pull-up on PB_SCL and PB_SDA, Ω; none for PULLUP 0. While PB_TIMING0 is 0 it is 4.7 kΩ (17_two_wire_ports Table 17-6;
21_package_pins_electrical R693). -/
def pbPullup (s : State) : Option Nat :=
  let w := s.plan.sideband
  if w.pbTiming0 = 0 then some 4700
  else match w.pbTiming1 / 2 ^ 30 % 4 with
    | 0 => none
    | 1 => some 4700
    | 2 => some 2200
    | _ => some 1000

/-- The SCL period of the pack bus, ns, for a rise to the input threshold and a fall: the high time counts from the filtered SCL, 50 ns
late (17_two_wire_ports R595). -/
def sclPeriod (s : State) (rise fall : Nat) : Nat :=
  let t := s.plan.sideband.pbTiming0
  10 * (t % 4096) + rise + 50 + 10 * (t / 4096 % 4096) + fall

/-- The DRC parks the signals of a subchannel that the plan does not populate, and DQS5 to DQS9 of x8 devices, at a static low level
(21_package_pins_electrical R693). -/
def parked (s : State) (sc : Nat) : Bool := !s.plan.topo.subchMask.testBit sc
def dqsParked (s : State) (sc k : Nat) : Bool := parked s sc || (s.plan.topo.devWidth = 8 && decide (5 ≤ k))

/-- The input buffer of MUSTER_IN_N is enabled (R693). -/
def musterBuffer (s : State) : Bool := s.plan.pins.musterInEn

end Sys2Proof.Machine
end

