-- ==== Sys2Proof/Machine/OpsPlan.lean ====
section
/-! DEFINITION. The Floor Plan as bytes (02_floor_plan R42 to R77): framing, ranges, rules across fields, the plan that
the bytes state, the plan slots of the Attic, the change rules, sealing, the live apply point, and what the load at
boot sets. -/

namespace Sys2Proof.Machine

/-- A rejection: code of Table 02-12, Wing and offset (R68). -/
structure PlanErr where
  code : Nat
  wing : Nat
  ofs : Nat
  deriving DecidableEq, Repr

/-- A signed byte. -/
def sbyte (l : List Byte) (ofs : Nat) : Int := (BitVec.ofNat 8 (num l ofs 1)).toInt

/-- A Wing as framed: TYPE, offset of its header, BODY_LEN (R45). -/
structure WingAt where
  ty : Nat
  ofs : Nat
  len : Nat
  deriving DecidableEq, Repr

/-! ### Steps 1 to 3 (R68) -/

/-- Whether a BODY_LEN is the defined length of a Wing type (R46, R47). -/
def lenOk (img : List Byte) (ty ofs len : Nat) : Bool :=
  len = 0 ||
    (if ty = 0x01 then len = 272 else if ty = 0x02 then len = 24
     else if ty = 0x03 then len = 8 + 32 * num img (ofs + 8) 2
     else if ty = 0x04 then len = 24 + 8 * num img (ofs + 8 + 0x14) 2
     else if ty = 0x05 then len = 24 else if ty = 0x06 then len = 16 else if ty = 0x07 then len = 16
     else if ty = 0x08 then len = 8 + 8 * num img (ofs + 8) 2
     else if ty = 0x09 then len = 112 else len = 8)

/-- The Wing types of Table 02-2. -/
def knownWing (ty : Nat) : Bool := (1 ≤ ty && ty ≤ 0x0B) || ty = 0x0F

/-- Wing framing, Wing by Wing (R68 step 3). -/
def frame (img : List Byte) (length : Nat) : Nat → Nat → List WingAt → Except PlanErr (List WingAt)
  | 0, _, acc => .ok acc.reverse
  | n + 1, o, acc =>
    if length ≤ o then .ok acc.reverse
    else
      let ty := num img o 1
      let len := num img (o + 4) 4
      if !knownWing ty then .error ⟨0x05, ty, o⟩
      else if num img (o + 1) 1 ≠ 1 then .error ⟨0x05, ty, o + 1⟩
      else if acc.any fun w => w.ty = ty then .error ⟨0x06, ty, o⟩
      else
        match acc.find? fun w => w.ty = 0x0F with
        | some w => .error ⟨0x08, 0x0F, w.ofs⟩
        | none =>
          if !lenOk img ty o len ∨ length < o + 8 + len then .error ⟨0x07, ty, o + 4⟩
          else frame img length n (o + 8 + len) ({ ty := ty, ofs := o, len := len } :: acc)

/-- CRC of an image with its CRC field taken as zero (R44). -/
def planCrcOf (img : List Byte) : Nat := (crc32 (patchBytes img 12 (List.replicate 4 0))).toNat

/-- Steps 1 and 2 of R68. -/
def headerErr (img : List Byte) : Option PlanErr :=
  if num img 0 4 ≠ 0x4C504648 then some ⟨0x01, 0, 0⟩
  else if num img 4 2 ≠ 1 ∧ num img 4 2 ≠ 2 then some ⟨0x02, 0, 4⟩
  else if num img 8 4 % 8 ≠ 0 ∨ num img 8 4 ≠ img.length then some ⟨0x03, 0, 8⟩
  else if planCrcOf img ≠ num img 12 4 then some ⟨0x04, 0, 0x0C⟩
  else none

/-! ### Step 4: ranges and reserved bytes -/

/-- One check: offset in the body, whether it concerns reserved bytes, and whether it holds. -/
structure FieldCheck where
  ofs : Nat
  reserved : Bool
  ok : Bool
  deriving DecidableEq, Repr

/-- A field's range. -/
def rng (ofs : Nat) (ok : Bool) : FieldCheck := ⟨ofs, false, ok⟩

/-- Reserved bytes from an offset on, each on its own. -/
def rsv (b : List Byte) (ofs n : Nat) : List FieldCheck :=
  (List.range n).map fun i => ⟨ofs + i, true, num b (ofs + i) 1 = 0⟩

/-- A mask that sets subchannels only in pairs (R49). -/
def pairsOnly (m : Nat) : Bool := (List.range 8).all fun c => m.testBit (2 * c) == m.testBit (2 * c + 1)

/-- CEIL_CAP_GIB's variant maximum (Table 02-7, 00_scope Table 00-2). -/
def ceilCapMax (is2T : Bool) : Nat := if is2T then 96 else 192

/-- Ranges of a Suite record at an offset of the body (Table 02-5). -/
def suiteChecks (b : List Byte) (o : Nat) : List FieldCheck :=
  [rng o (num b o 2 ≤ 1023), rng (o + 2) (num b (o + 2) 1 ≤ 3), rng (o + 3) (num b (o + 3) 1 ≤ 7),
   rng (o + 4) (num b (o + 4) 4 ≤ 524287), rng (o + 8) (num b (o + 8) 4 ≤ 524288),
   rng (o + 0xC) (num b (o + 0xC) 4 ≤ 3145728), rng (o + 0x10) (num b (o + 0x10) 1 ≤ 2),
   rng (o + 0x11) (num b (o + 0x11) 1 ≤ 63), ⟨o + 0x12, true, num b (o + 0x12) 1 < 8⟩] ++ rsv b (o + 0x13) 1

/-- Ranges and reserved bytes of a Wing's body, in ascending offset (Tables 02-3 to 02-10, R53 to R65). -/
def wingChecks (is2T : Bool) (ty : Nat) (b : List Byte) : List FieldCheck :=
  let u8 := fun (o : Nat) => num b o 1
  let u16 := fun (o : Nat) => num b o 2
  if ty = 0x01 then
    [rng 0 (pairsOnly (u16 0)), rng 2 (u8 2 = 1 || u8 2 = 2), rng 3 ([1, 2, 4].contains (u8 3)),
     rng 4 (u8 4 = 4 || u8 4 = 8), rng 5 ([16, 24, 32, 48, 64].contains (u8 5)),
     rng 6 ([4800, 5200, 5600, 6000, 6400, 6800, 7200].contains (u16 6))] ++ rsv b 0xA 6
  else if ty = 0x02 then
    [rng 0 ([1, 2, 4, 8].contains (u8 0)), rng 1 (u8 1 ≤ 2)] ++ rsv b 2 2 ++
    [rng 4 (num b 4 4 ≤ 524288), rng 8 (num b 8 4 ≤ 524288), rng 0xE (u16 0xE % 6 = 0), rng 0x10 (16 ≤ u16 0x10),
     rng 0x12 ((if is2T then 16 else 32) ≤ u16 0x12)] ++ rsv b 0x14 4
  else if ty = 0x03 then
    [rng 0 (u16 0 ≤ 1024)] ++ rsv b 2 6 ++ (List.range (u16 0)).flatMap (fun i => suiteChecks b (8 + 32 * i))
  else if ty = 0x04 then
    [rng 0 (u8 0 ≤ 3), rng 2 (u8 2 ≤ 2)] ++ rsv b 3 1 ++
    [rng 0xC (u16 0xC ≤ 3000), rng 0xE (u16 0xE ≤ 12000), rng 0x14 (u16 0x14 ≤ 256)] ++ rsv b 0x16 2 ++
    (List.range (u16 0x14)).flatMap fun i =>
      let o := 24 + 8 * i
      rsv b (o + 1) 1 ++ [rng (o + 4) (u16 (o + 4) ≤ 1000)] ++ rsv b (o + 6) 2
  else if ty = 0x05 then
    [rng 0 (u8 0 ≤ 1), rng 1 (u8 1 ≤ 1), rng 2 (u8 2 ≤ 1), rng 3 (u8 3 ≤ 1),
     rng 4 (u16 4 = 0 || (100 ≤ u16 4 && u16 4 ≤ 10000)), rng 6 (u16 6 ≤ 4000), rng 8 (u16 8 ≤ ceilCapMax is2T),
     rng 0xA (15 ≤ u8 0xA && u8 0xA ≤ 50), rng 0xB (1 ≤ u8 0xB && u8 0xB ≤ 15), rng 0xC (u16 0xC ≤ 90),
     rng 0xE (u8 0xE ≤ 23), rng 0xF (1 ≤ u8 0xF && u8 0xF ≤ 2)] ++ rsv b 0x10 8
  else if ty = 0x06 then
    (List.range 4).map (fun i => rng i (u8 i ≤ 7)) ++ [rng 4 (u8 4 ≤ 1), rng 5 (u8 5 ≤ 1)] ++ rsv b 8 8
  else if ty = 0x07 then
    let t := num b 4 4
    [rng 0 (8 ≤ u8 0 && u8 0 ≤ 0x77 && u8 0 ≠ 0x0C), rng 1 (u8 1 ≤ 2), rng 2 (u8 2 ≤ 1), rng 3 (u8 3 ≤ 1),
     rng 4 (t = 0 || (50 ≤ t % 4096 && 26 ≤ t / 4096 % 4096 && t / 2 ^ 24 = 0))] ++ rsv b 0xC 4
  else if ty = 0x08 then
    [rng 0 (u16 0 ≤ 21)] ++ rsv b 2 6 ++
    (List.range (u16 0)).flatMap fun i =>
      let o := 8 + 8 * i
      [rng o (u8 o ≤ 20), rng (o + 1) (u8 (o + 1) ≤ 4)] ++ rsv b (o + 2) 2
  else if ty = 0x09 then rsv b 4 4 ++ rsv b 0x68 8
  else if ty = 0x0A then
    [rng 0 (u16 0 ≤ 1023), rng 2 (u8 2 ≤ 100), rng 3 (u8 3 ≤ 1)] ++ rsv b 4 4
  else if ty = 0x0B then
    [rng 0 (u8 0 ≤ 4), rng 1 (u8 1 = 1 || u8 1 = 2)] ++ rsv b 3 1 ++ rsv b 5 3
  else [rng 0 (num b 0 4 = 0x4B434F4C)] ++ rsv b 4 4

/-- The body of a framed Wing. -/
def bodyOf (img : List Byte) (w : WingAt) : List Byte := (img.drop (w.ofs + 8)).take w.len

/-- First failure of step 4: the header's reserved bytes, then Wing by Wing (R68). -/
def rangeErr (is2T : Bool) (img : List Byte) (ws : List WingAt) : Option PlanErr :=
  match (rsv img 6 2).find? fun c => !c.ok with
  | some c => some ⟨0x0A, 0, c.ofs⟩
  | none => ws.findSome? fun w =>
    match (rsv img (w.ofs + 2) 2).find? fun c => !c.ok with
    | some c => some ⟨0x0A, w.ty, c.ofs⟩
    | none =>
      if w.len = 0 then none
      else
        match (wingChecks is2T w.ty (bodyOf img w)).find? fun c => !c.ok with
        | some c => some ⟨if c.reserved then 0x0A else 0x09, w.ty, w.ofs + 8 + c.ofs⟩
        | none => none

/-! ### The plan that the bytes state -/

/-- The Layout's defaults of the variant (Table 02-4). -/
def defaultLayout (is2T : Bool) : Layout :=
  if is2T then { cellarGib := 1408, vestGib := 576, metaGib := 32, spareGib := 32 } else {}

/-- The Policy's defaults of the variant (Table 02-7). -/
def defaultPolicy (is2T : Bool) : PolicyWing := { ceilCapGib := ceilCapMax is2T }

/-- The CRC of the factory default, which consists of the header alone (R44, R66). -/
def defaultCrc : Nat := (crc32 (leBytes 4 0x4C504648 ++ leBytes 2 2 ++ leBytes 2 0 ++ leBytes 4 16 ++ leBytes 4 0)).toNat

/-- The factory default of the variant (R66). -/
def defaultPlan (is2T : Bool) : Plan :=
  { layout := defaultLayout is2T, policy := defaultPolicy is2T, sideband := factorySideband, crc := defaultCrc }

/-- A Topology body (Table 02-3). -/
def topologyOf (b : List Byte) : Topology :=
  { subchMask := num b 0 2, physRanks := num b 2 1, stack := num b 3 1, devWidth := num b 4 1, dieGbit := num b 5 1,
    speed := num b 6 2, seedValid := num b 8 2,
    seeds := (List.range 16).map fun i => (b.drop (0x10 + 16 * i)).take 16 }

/-- A Layout body (Table 02-4). -/
def layoutOf (b : List Byte) : Layout :=
  { ilWays := num b 0 1, ilGran := num b 1 1, persRooms := num b 4 4, volRooms := num b 8 4, cellarGib := num b 0xC 2,
    vestGib := num b 0xE 2, metaGib := num b 0x10 2, spareGib := num b 0x12 2 }

/-- A Suite record (Table 02-5). -/
def suiteRecOf (b : List Byte) (o : Nat) : SuiteRec :=
  { id := num b o 2, policy := (Policy.ofCode (num b (o + 2) 1)).getD .persistent, priority := num b (o + 3) 1,
    firstRoom := num b (o + 4) 4, roomCount := num b (o + 8) 4, quota := num b (o + 0xC) 4,
    exposure := num b (o + 0x10) 1, keySlot := num b (o + 0x11) 1, etPermit := num b (o + 0x12) 1 % 2 = 1,
    mirrorSet := num b (o + 0x12) 1 / 2 % 4, name := (b.drop (o + 0x14)).take 12 }

/-- An Energy body (Table 02-6, R55). -/
def energyOf (b : List Byte) : Energy :=
  { chem := num b 0 1, cells := num b 1 1, auth := num b 2 1, rated := num b 4 4, vmaxMv := num b 8 2,
    vminMv := num b 0xA 2, ichgMa := num b 0xC 2, idisMa := num b 0xE 2, tchgMin := sbyte b 0x10,
    tchgMax := sbyte b 0x11, tdisMin := sbyte b 0x12, tdisMax := sbyte b 0x13,
    ocv := (List.range (num b 0x14 2)).map fun i =>
      { tempC := sbyte b (24 + 8 * i), cellMv := num b (26 + 8 * i) 2, socPermille := num b (28 + 8 * i) 2 } }

/-- A Policy body (Table 02-7). -/
def policyOf (b : List Byte) : PolicyWing :=
  { saveMode := num b 0 1, stowEn := num b 1 1 = 1, etEn := num b 2 1 = 1, autoHome := num b 3 1 = 1,
    sweepMs := num b 4 2, stallUs := num b 6 2, ceilCapGib := num b 8 2, reservePct := num b 0xA 1,
    serviceYears := num b 0xB 1, exerDays := num b 0xC 2, exerHour := num b 0xE 1, exposeDefault := num b 0xF 1 }

/-- A Pins body (Table 02-8). -/
def pinsOf (b : List Byte) : PinsWing :=
  { indFn := (List.range 4).map fun i => num b i 1, musterInEn := num b 4 1 = 1, musterOutEn := num b 5 1 = 1,
    drive := num b 6 1, slew := num b 7 1 }

/-- A Sideband body (Table 02-10). -/
def sidebandOf (b : List Byte) : SidebandWing :=
  { addr := num b 0 1, mode := num b 1 1, pec := num b 2 1 = 1, timeoutEn := num b 3 1 = 1, pbTiming0 := num b 4 4,
    pbTiming1 := num b 8 4 }

/-- A Faults body (R61). -/
def faultsOf (b : List Byte) : List FaultsEntry :=
  (List.range (num b 0 2)).map fun i =>
    let o := 8 + 8 * i
    { block := num b o 1, cap := num b (o + 1) 1, grace := num b (o + 4) 2, quiet := num b (o + 6) 2 }

/-- An Identity body (R62). -/
def identityOf (b : List Byte) : IdentityWing :=
  { subsysVid := num b 0 2, subsysId := num b 2 2, maker := (b.drop 8).take 32, model := (b.drop 0x28).take 32,
    moduleSn := (b.drop 0x48).take 32 }

/-- A Domain body (R63). -/
def domainOf (b : List Byte) : DomainWing :=
  { memberId := num b 0 2, slot100ns := num b 2 1, grantMode := num b 3 1 = 1 }

/-- A Partner body (R64). -/
def partnerOf (b : List Byte) : PartnerWing :=
  { sets := num b 0 1, klMax := num b 1 1, klMin := num b 2 1, home := num b 4 1 }

/-- The body of a Wing that is present and not empty. -/
def bodyAt (img : List Byte) (ws : List WingAt) (ty : Nat) : Option (List Byte) :=
  (ws.find? fun w => w.ty = ty && w.len ≠ 0).map (bodyOf img)

/-- The plan of an image whose framing stands (R47): a Wing that is absent or empty gives the factory default. -/
def planOf (is2T : Bool) (img : List Byte) (ws : List WingAt) (fmt1 : Bool) : Plan :=
  let get := bodyAt img ws
  { topo := ((get 0x01).map topologyOf).getD {}, layout := ((get 0x02).map layoutOf).getD (defaultLayout is2T),
    suites := ((get 0x03).map fun b => (List.range (num b 0 2)).map fun i => suiteRecOf b (8 + 32 * i)).getD [],
    energy := ((get 0x04).map energyOf).getD {}, policy := ((get 0x05).map policyOf).getD (defaultPolicy is2T),
    pins := ((get 0x06).map pinsOf).getD {}, sideband := ((get 0x07).map sidebandOf).getD factorySideband,
    faults := ((get 0x08).map faultsOf).getD [], identity := ((get 0x09).map identityOf).getD {},
    domain := ((get 0x0A).map domainOf).getD {}, partner := ((get 0x0B).map partnerOf).getD {},
    lock := (get 0x0F).isSome, crc := num img 12 4, srcFmt1 := fmt1 }

/-! ### Step 5: Table 02-15 -/

/-- Offset of a field of a Wing in the plan; 0 where the Wing is absent or empty (R68). -/
def fieldAt (ws : List WingAt) (ty f : Nat) : Nat :=
  match ws.find? fun w => w.ty = ty && w.len ≠ 0 with
  | some w => w.ofs + 8 + f
  | none => 0

/-- Variant maxima of Table 00-2: DRAM bytes and the raw Cellar array in GiB. -/
def dramMax (is2T : Bool) : Nat := if is2T then 2 ^ 40 else 2 ^ 41
def rawMax (is2T : Bool) : Nat := if is2T then 2048 else 4096

/-- Channels populated. -/
def channelsOf (t : Topology) : Nat :=
  ((List.range 8).filter fun c => t.subchMask.testBit (2 * c) && t.subchMask.testBit (2 * c + 1)).length

/-- Two Room ranges share a Room. -/
def overlap (a b : SuiteRec) : Bool :=
  0 < a.roomCount && 0 < b.roomCount && a.firstRoom < b.firstRoom + b.roomCount && b.firstRoom < a.firstRoom + a.roomCount

/-- The checks of R54 for one record against those before it: offset of the field within the record. A shared Room is found at the later
of the two records, as Table 02-15 says of a repeated SUITE_ID only (DESIGN CHOICE: assumption 120). -/
def suiteErr (p : Plan) (before : List SuiteRec) (c : SuiteRec) : Option Nat :=
  let l := p.layout
  if before.any fun b => b.id = c.id then some 0
  else if before.any (overlap c) then some 4
  else if c.policy.saved && 0 < c.roomCount && l.persRooms < c.firstRoom + c.roomCount then some 4
  else if c.policy = .volatile && 0 < c.roomCount &&
      (c.firstRoom < l.persRooms || l.persRooms + l.volRooms < c.firstRoom + c.roomCount) then some 4
  else if c.policy = .mirrored && p.partner.sets ≤ c.mirrorSet then some 0x12
  else if c.policy ≠ .mirrored && c.mirrorSet ≠ 0 then some 0x12
  else none

/-- First record that breaks R54: its number and the field's offset within it. -/
def suitesErr (p : Plan) : Nat → List SuiteRec → List SuiteRec → Option (Nat × Nat)
  | _, _, [] => none
  | i, before, c :: r =>
    match suiteErr p before c with
    | some f => some (i, f)
    | none => suitesErr p (i + 1) (before ++ [c]) r

/-- Rated usable energy E_R exactly, in units of 0.5 nJ (10_energy_pack R370). -/
def ratedHalfNj (e : Energy) : Nat :=
  if e.chem = 1 then e.rated * 36 * e.cells * 36 * 10 * 2000000
  else if e.chem = 2 then e.rated * 36 * e.cells * 32 * 10 * 2000000
  else e.rated * ((e.cells * e.vmaxMv) ^ 2 - (e.cells * e.vminMv) ^ 2)

/-- Rated usable energy in whole mJ, rounded down. -/
def ratedMj (e : Energy) : Nat := ratedHalfNj e / 2000000

/-- One row of Table 10-3 after another: offset of the offending field (10_energy_pack R369). Of a check of two fields Table 02-15 says
only "the field concerned": the model names CELL_VMIN_MV where it is not below CELL_VMAX_MV, the maximum of a temperature range, RATED
for E_R (DESIGN CHOICE: assumption 119). -/
def chemErr (e : Energy) : Option Nat :=
  let li := e.chem = 1
  let sc := e.chem = 3
  let vx := if li then (4000, 4400) else if sc then (2000, 3000) else (3450, 3650)
  let vn := if li then (2800, 3400) else if sc then (250, 1500) else (2000, 2900)
  let tc : Int × Int := if sc then (-40, 65) else (0, 45)
  let td : Int × Int := if sc then (-40, 65) else (-20, 60)
  if e.vmaxMv < vx.1 ∨ vx.2 < e.vmaxMv then some 8
  else if e.vminMv < vn.1 ∨ vn.2 < e.vminMv ∨ e.vmaxMv ≤ e.vminMv then some 0xA
  else if e.ichgMa < 100 ∨ 3000 < e.ichgMa then some 0xC
  else if e.idisMa < 1000 ∨ 12000 < e.idisMa then some 0xE
  else if e.tchgMin < tc.1 ∨ tc.2 < e.tchgMin then some 0x10
  else if e.tchgMax < tc.1 ∨ tc.2 < e.tchgMax ∨ e.tchgMax ≤ e.tchgMin then some 0x11
  else if e.tdisMin < td.1 ∨ td.2 < e.tdisMin then some 0x12
  else if e.tdisMax < td.1 ∨ td.2 < e.tdisMax ∨ e.tdisMax ≤ e.tdisMin then some 0x13
  else if ratedHalfNj e < 500 * 2000000000 ∨ 400000 * 2000000000 < ratedHalfNj e then some 4
  else none

/-- First OCV entry out of order (R55). -/
def ocvErr : Nat → List OcvEntry → Option Nat
  | i, a :: b :: r =>
    if b.tempC < a.tempC ∨ (b.tempC = a.tempC ∧ b.cellMv ≤ a.cellMv) then some (i + 1) else ocvErr (i + 1) (b :: r)
  | _, _ => none

/-- The cases of R56 in order: offset of the field within the body. For the products with CELLS the model names CELL_VMAX_MV and CELL_VMIN_MV
(DESIGN CHOICE: assumption 119). -/
def energyErr (e : Energy) : Option Nat :=
  if e.chem = 0 then none
  else if e.rated = 0 then some 4
  else if (if e.chem = 3 then e.cells < 2 ∨ 8 < e.cells else e.cells < 1 ∨ 4 < e.cells) then some 1
  else if 17000 < e.cells * e.vmaxMv then some 8
  else if e.cells * e.vminMv < 2000 then some 0xA
  else
    match chemErr e with
    | some f => some f
    | none => (ocvErr 0 e.ocv).map fun i => 24 + 8 * i

/-- PB_TIMING1 breaks R594: a field outside its range, or HD_DAT + SU_DAT above SCL_LOW; not checked with PB_TIMING0 0. -/
def pbErr (b : SidebandWing) : Bool :=
  let t := b.pbTiming1
  b.pbTiming0 ≠ 0 &&
    (t / 256 % 256 < 5 || t / 2 ^ 16 % 256 < 5 || t / 2 ^ 24 % 64 < 3 || b.pbTiming0 % 4096 < t % 256 + t / 256 % 256)

/-- First Faults entry that repeats a block (R61). -/
def faultsErr : Nat → List Nat → List FaultsEntry → Option Nat
  | _, _, [] => none
  | i, seen, e :: r => if seen.contains e.block then some i else faultsErr (i + 1) (e.block :: seen) r

/-- The first check of Table 02-15 that fails. -/
def crossErr (is2T : Bool) (p : Plan) (ws : List WingAt) : Option PlanErr :=
  let t := p.topo
  let l := p.layout
  let at_ := fieldAt ws
  let rooms := (l.persRooms + l.volRooms) * roomBytes
  if t.seedValid &&& t.subchMask ≠ t.seedValid then some ⟨0x09, 0x01, at_ 0x01 8⟩
  else if dramMax is2T < capacity t then some ⟨0x0B, 0x01, at_ 0x01 0⟩
  else if capacity t < rooms ∨ (is2T = true ∧ 2 ^ 40 < rooms) then some ⟨0x0B, 0x02, at_ 0x02 4⟩
  else if channelsOf t % l.ilWays ≠ 0 then some ⟨0x0C, 0x02, at_ 0x02 0⟩
  else if rawMax is2T < l.cellarGib + l.vestGib + l.metaGib + l.spareGib then some ⟨0x0C, 0x02, at_ 0x02 0xC⟩
  else if 4 * l.cellarGib * 2 ^ 30 < 5 * (l.persRooms * roomBytes) then some ⟨0x0C, 0x02, at_ 0x02 4⟩
  else
    match suitesErr p 0 [] p.suites with
    | some (i, f) => some ⟨0x0D, 0x03, at_ 0x03 (8 + 32 * i + f)⟩
    | none =>
    match energyErr p.energy with
    | some f => some ⟨0x0E, 0x04, at_ 0x04 f⟩
    | none =>
      if p.policy.saveMode = 1 ∧ l.vestGib = 0 then some ⟨0x0E, 0x05, at_ 0x05 0⟩
      else if p.policy.stowEn = true ∧ p.policy.saveMode = 0 then some ⟨0x0E, 0x05, at_ 0x05 1⟩
      else if pbErr p.sideband then some ⟨0x09, 0x07, at_ 0x07 8⟩
      else if p.sideband.pbTiming0 = 0 ∧ p.energy.auth ≠ 0 then some ⟨0x0E, 0x07, at_ 0x07 4⟩
      else
        match faultsErr 0 [] p.faults with
        | some i => some ⟨0x0E, 0x08, at_ 0x08 (8 + 8 * i)⟩
        | none =>
          if p.partner.klMin ≠ 1 ∧ p.partner.klMin ≠ p.partner.klMax then some ⟨0x09, 0x0B, at_ 0x0B 2⟩ else none

/-! ### Format 1 (R67) -/

/-- The format-1 Wing types that Table 02-11 lists. -/
def listedF1 (ty : Nat) : Bool := [1, 2, 3, 4, 6, 7, 9, 0x0B].contains ty

/-- First format-1 Wing of a type that the table does not list: TYPE and offset. The framing of R45 is taken for
format 1 too (PRESUMED: assumption 31). -/
def badF1 (img : List Byte) : Nat → Nat → Option PlanErr
  | 0, _ => none
  | n + 1, o =>
    if img.length < o + 8 then none
    else if !listedF1 (num img o 1) then some ⟨0x12, num img o 1, o⟩
    else badF1 img n (o + 8 + num img (o + 4) 4)

/-- What Table 02-11 fixes in a translated body: region records become Suites with their index, quota and defaults. Of more than 256
regions the first 256 are kept: the spec does not say what becomes of the others (DESIGN CHOICE: assumption 121). -/
def fixSuites (b : List Byte) : List Byte :=
  let n := min 256 (num b 0 2)
  let recs := (List.range n).flatMap fun i =>
    let r := padTo 32 ((b.drop (8 + 32 * i)).take 32)
    let r := patchBytes r 0 (leBytes 2 i)
    let r := patchBytes r 0xC (leBytes 4 (num r 8 4 * 64) ++ [0, 0])
    patchBytes r 0x12 [BitVec.ofNat 8 (num r 0x12 1 / 2 * 2)]
  leBytes 2 n ++ List.replicate 6 0 ++ recs

/-- The bodies of defaults of the Pins, Sideband and Identity Wings (Tables 02-8 and 02-10, R62, R594). -/
def defaultBody (ty : Nat) : List Byte :=
  if ty = 0x06 then [1, 3, 0, 0, 1, 1, 0x05, 0x07] ++ List.replicate 8 0
  else if ty = 0x07 then
    [0x5A, 1, 0, 1] ++ leBytes 4 factorySideband.pbTiming0 ++ leBytes 4 factorySideband.pbTiming1 ++ List.replicate 4 0
  else leBytes 2 0x1F3A ++ leBytes 2 0x7824 ++ List.replicate 108 0

/-- A body whose missing fields, those past its end, take their defaults (R67). -/
def fillFrom (d b : List Byte) : List Byte := b.take d.length ++ d.drop b.length

/-- Rooms that hold every format-1 region: PERS_ROOMS of the translated plan (Table 02-11: all regions persistent; DEDUCED: assumption
125). -/
def regionRooms (ws : List (Nat × List Byte)) : Nat :=
  match ws.find? fun w => w.1 = 0x03 with
  | some (_, b) =>
    (List.range (min 256 (num b 0 2))).foldl (fun a i => max a (num b (12 + 32 * i) 4 + num b (16 + 32 * i) 4)) 0
  | none => 0

/-- A translated Wing body with what Table 02-11 fixes (R67); `pers` are the Rooms of all regions. -/
def fixF1 (is2T : Bool) (pers ty : Nat) (b : List Byte) : List Byte :=
  if ty = 0x01 then patchBytes (padTo 272 b) 3 [1] |> fun b => patchBytes b 8 (List.replicate 264 0)
  else if ty = 0x02 then
    let l := defaultLayout is2T
    let b := patchBytes (padTo 24 b) 1 [2]
    patchBytes b 4 (leBytes 4 pers ++ leBytes 4 0 ++ leBytes 2 l.cellarGib ++ leBytes 2 l.vestGib ++ leBytes 2 l.metaGib ++
      leBytes 2 l.spareGib)
  else if ty = 0x03 then fixSuites b
  else if ty = 0x04 then patchBytes (padTo 24 b) 0x14 (leBytes 2 0)
  else if ty = 0x06 ∨ ty = 0x07 ∨ ty = 0x09 then fillFrom (defaultBody ty) b
  else patchBytes (padTo 8 b) 1 [1]

/-- A whole format-2 image of Wings, with its length and CRC (R43 to R45). -/
def imageOf (ws : List (Nat × List Byte)) : List Byte :=
  let body := ws.flatMap fun w => BitVec.ofNat 8 w.1 :: 1 :: 0 :: 0 :: leBytes 4 w.2.length ++ w.2
  let hdr := leBytes 4 0x4C504648 ++ leBytes 2 2 ++ leBytes 2 0 ++ leBytes 4 (16 + body.length) ++ leBytes 4 0
  let img := hdr ++ body
  patchBytes img 12 (leBytes 4 (crc32 img).toNat)

/-- The format-2 image that a format-1 plan is translated to (R67). -/
def translateF1 (is2T : Bool) (img : List Byte) : List Byte :=
  let ws := (Config.format1Wings img).filter fun w => listedF1 w.1
  imageOf (ws.map fun w => (w.1, fixF1 is2T (regionRooms ws) w.1 w.2))

/-! ### Validation (R68 steps 1 to 5) -/

/-- A validated plan: what it states, its format-2 bytes and its Wings. -/
structure ValidPlan where
  plan : Plan
  img : List Byte
  ws : List WingAt
  deriving DecidableEq, Repr

/-- Steps 3 to 5 on a format-2 image. -/
def validate2 (is2T : Bool) (img : List Byte) (fmt1 : Bool) : Except PlanErr ValidPlan :=
  match frame img img.length (img.length / 8 + 1) 16 [] with
  | .error e => .error e
  | .ok ws =>
    if img.length < 16 then .error ⟨0x07, 0, 8⟩
    else
      match rangeErr is2T img ws with
      | some e => .error e
      | none =>
        let p := planOf is2T img ws fmt1
        match crossErr is2T p ws with
        | some e => .error e
        | none => .ok { plan := p, img := img, ws := ws }

/-- Steps 1 to 5 of R68. -/
def validate (is2T : Bool) (img : List Byte) : Except PlanErr ValidPlan :=
  match headerErr img with
  | some e => .error e
  | none =>
    if num img 4 2 = 1 then
      match badF1 img (img.length / 8 + 1) 16 with
      | some e => .error e
      | none => validate2 is2T (translateF1 is2T img) true
    else validate2 is2T img false

/-! ### The plan slots (R69, R70) -/

/-- Offsets of a slot's plan and of its seal (R70). -/
def slotPlanOfs : Nat := 89 * 0x10000
def slotSealOfs : Nat := 90 * 0x10000

/-- GENERATION of a slot whose seal stands: MAGIC and CRC correct, and the plan's header CRC equal to the seal's
(R70). -/
def slotGen (s : State) (n : Nat) : Option Nat :=
  match atticBytes (bankAt s n) slotSealOfs 16, atticBytes (bankAt s n) slotPlanOfs 16 with
  | some q, some h =>
    if num q 0 4 = 0x4C455350 ∧ num q 12 4 = (crc32 (q.take 12)).toNat ∧ num q 8 4 = num h 12 4 then some (num q 4 4)
    else none
  | _, _ => none

/-- The bytes of a slot's plan, as long as its header says; none when unreadable or too long. -/
def slotImage (s : State) (n : Nat) : Option (List Byte) :=
  match atticBytes (bankAt s n) slotPlanOfs 16 with
  | none => none
  | some h => if num h 8 4 ≤ 0xFFF8 then atticBytes (bankAt s n) slotPlanOfs (num h 8 4) else none

/-- The validation of a sealed slot (R69), the failure as R68 reports it; a plan whose header or bytes do not read fails as BAD_LENGTH
does (DEDUCED: assumption 137). -/
def slotCheck (s : State) (n : Nat) : Except PlanErr ValidPlan :=
  match slotGen s n, slotImage s n with
  | some _, some img =>
    match validate s.fuses.is2T img with
    | .ok v => .ok { v with plan := { v.plan with srcFmt1 := s.cal.fmt1Slots.contains n } }
    | .error e => .error e
  | _, _ => .error ⟨0x03, 0, 8⟩

/-- The plan of a sealed slot that validates. -/
def slotPlan (s : State) (n : Nat) : Option ValidPlan := (slotCheck s n).toOption

/-- The sealed slots, the higher GENERATION first (R69). -/
def slotOrder (s : State) : List Nat :=
  match slotGen s 0, slotGen s 1 with
  | some a, some b => if a < b then [1, 0] else [0, 1]
  | some _, none => [0]
  | none, some _ => [1]
  | none, none => []

/-- The slot not in force (R70). -/
def slotFree (s : State) : Nat :=
  match s.fpl.slot with
  | some n => 1 - n
  | none =>
    match slotGen s 0, slotGen s 1 with
    | some a, some b => if b < a then 1 else 0
    | some _, none => 1
    | _, _ => 0

/-- Erase the two sectors that a slot uses, and program a plan's bytes, then the seal (R70; 14_attic R520). -/
def writeSlot (n : Nat) (img : List Byte) (seal_ : List Byte) (s : State) : State :=
  let put := fun (ofs : Nat) (l : List Byte) (t : Table AtticWord) =>
    (List.range ((l.length + 7) / 8)).foldl (fun t i =>
      tset {} t (ofs / 8 + i) { value := BitVec.ofNat 64 (num l (8 * i) 8) }) t
  modBank n (fun k => { k with words := put slotSealOfs seal_ (put slotPlanOfs img k.words) })
    (eraseSector n 90 (eraseSector n 89 s))

/-- Seal a plan in the slot not in force (R70). Answers the slot. -/
def sealPlan (v : ValidPlan) (s : State) : Nat × State :=
  let n := slotFree s
  let g := max ((slotGen s 0).getD 0) ((slotGen s 1).getD 0) + 1
  let q := leBytes 4 0x4C455350 ++ leBytes 4 g ++ leBytes 4 v.plan.crc
  let s := writeSlot n v.img (q ++ leBytes 4 (crc32 q).toNat) s
  let f := s.cal.fmt1Slots.filter (· ≠ n)
  (n, { s with cal := { s.cal with fmt1Slots := if v.plan.srcFmt1 then n :: f else f } })

/-! ### The change rules (R71 to R73, R296) -/

/-- A structural field as the change rules list it: Wing, offset of the field in its body, whether it is image-bearing,
and whether it differs. -/
structure Change where
  wing : Nat
  ofs : Nat
  image : Bool
  differs : Bool
  deriving DecidableEq, Repr

/-- The structural fields of two Suite records at the same place (R53, R71). -/
def recChanges (i : Nat) (a b : SuiteRec) : List Change :=
  let o := 8 + 32 * i
  [⟨3, o, true, a.id ≠ b.id⟩, ⟨3, o + 2, true, a.policy ≠ b.policy⟩, ⟨3, o + 4, true, a.firstRoom ≠ b.firstRoom⟩,
   ⟨3, o + 8, true, a.roomCount ≠ b.roomCount⟩, ⟨3, o + 0x11, true, a.keySlot ≠ b.keySlot⟩,
   ⟨3, o + 0x12, false, a.mirrorSet ≠ b.mirrorSet⟩]

/-- The structural fields of the Suites Wings, record by record; a record with no counterpart differs at its SUITE_ID,
and a Wing with fewer records differs at COUNT (R71; DEDUCED: assumption 32). -/
def suiteChanges : Nat → List SuiteRec → List SuiteRec → List Change
  | i, a :: r, b :: q => recChanges i a b ++ suiteChanges (i + 1) r q
  | i, [], _ :: _ => [⟨3, 8 + 32 * i, true, true⟩]
  | _, _ :: _, [] => [⟨3, 0, true, true⟩]
  | _, [], [] => []

/-- Every structural field of a plan in force `a` and a new plan `b`, Wings in ascending TYPE, fields in ascending
offset (R48, R68). -/
def changes (a b : Plan) : List Change :=
  let t := a.topo; let u := b.topo
  let l := a.layout; let m := b.layout
  [⟨1, 0, true, t.subchMask ≠ u.subchMask⟩, ⟨1, 2, true, t.physRanks ≠ u.physRanks⟩,
   ⟨1, 3, true, t.stack ≠ u.stack⟩, ⟨1, 4, true, t.devWidth ≠ u.devWidth⟩, ⟨1, 5, true, t.dieGbit ≠ u.dieGbit⟩,
   ⟨1, 6, true, t.speed ≠ u.speed⟩, ⟨1, 8, true, t.seedValid ≠ u.seedValid⟩] ++
  [⟨1, 0x10, true, (List.range 16).any fun i => padTo 16 (t.seeds.getD i []) ≠ padTo 16 (u.seeds.getD i [])⟩,
   ⟨2, 0, true, l.ilWays ≠ m.ilWays⟩, ⟨2, 1, true, l.ilGran ≠ m.ilGran⟩, ⟨2, 4, true, l.persRooms ≠ m.persRooms⟩,
   ⟨2, 8, true, l.volRooms ≠ m.volRooms⟩, ⟨2, 0xC, true, l.cellarGib ≠ m.cellarGib⟩,
   ⟨2, 0xE, true, l.vestGib ≠ m.vestGib⟩, ⟨2, 0x10, true, l.metaGib ≠ m.metaGib⟩,
   ⟨2, 0x12, true, l.spareGib ≠ m.spareGib⟩] ++
  suiteChanges 0 a.suites b.suites ++
  [⟨4, 0, false, a.energy.chem ≠ b.energy.chem⟩, ⟨4, 1, false, a.energy.cells ≠ b.energy.cells⟩,
   ⟨4, 2, false, a.energy.auth ≠ b.energy.auth⟩, ⟨4, 4, false, a.energy.rated ≠ b.energy.rated⟩,
   ⟨4, 0x14, false, a.energy.ocv.length ≠ b.energy.ocv.length⟩,
   ⟨5, 0, false, a.policy.saveMode ≠ b.policy.saveMode⟩, ⟨7, 0, false, a.sideband.addr ≠ b.sideband.addr⟩,
   ⟨9, 0, false, a.identity.subsysVid ≠ b.identity.subsysVid⟩,
   ⟨9, 2, false, a.identity.subsysId ≠ b.identity.subsysId⟩, ⟨0xA, 0, false, a.domain.memberId ≠ b.domain.memberId⟩,
   ⟨0xB, 0, false, a.partner.sets ≠ b.partner.sets⟩, ⟨0xB, 1, false, a.partner.klMax ≠ b.partner.klMax⟩,
   ⟨0xB, 2, false, a.partner.klMin ≠ b.partner.klMin⟩, ⟨0xB, 4, false, a.partner.home ≠ b.partner.home⟩,
   ⟨0xF, 0, false, a.lock ≠ b.lock⟩]

/-- The image-bearing fields of two plans are equal (R71). -/
def imageEqual (a b : Plan) : Bool := !(changes a b).any fun c => c.image && c.differs

/-- The structural fields of two plans are equal (R74). -/
def structEqual (a b : Plan) : Bool := !(changes a b).any fun c => c.differs

/-- The Cellar or Vestibule holds a confirmed image (R71). -/
def imageHeld (s : State) : Bool :=
  !s.cel.journal.isEmpty || s.sav.port.st = .image || s.sav.stbd.st = .image ||
    (s.cel.areaA.any fun r => headerValid s r.header) || s.cel.areaB.any fun r => headerValid s r.header

/-- Step 6 of R68: IMAGE_PRESENT, then LOCKED, unless SANITIZED or R296 exempts the plan. -/
def changeErr (s : State) (v : ValidPlan) : Option PlanErr :=
  if s.fpl.sanitized ∨ (holding s = true ∧ v.plan.crc = s.sav.holdCrc) then none
  else
    let l := changes s.plan v.plan
    match (if imageHeld s then l.find? fun c => c.image && c.differs else none) with
    | some c => some ⟨0x0F, c.wing, fieldAt v.ws c.wing c.ofs⟩
    | none =>
      match (if s.plan.lock then l.find? fun c => c.differs else none) with
      | some c => some ⟨0x10, c.wing, fieldAt v.ws c.wing c.ofs⟩
      | none => none

/-- Record a rejection and raise PLAN_REJECT (R68, R78). -/
def rejectPlan (e : PlanErr) (mstr : Nat) (s : State) : State :=
  raiseAddr fplPlanReject e.ofs mstr 0
    { s with fpl := { s.fpl with lastCode := e.code, rejCode := e.code, rejWing := e.wing, rejOfs := e.ofs } }

/-! ### Taking a plan into use -/

/-- What the Faults Wing gives a block: CAP, GRACE, QUIET; the reset values where no entry names it (R61). -/
def faultsFor (p : Plan) (b : Nat) : Nat × Nat × Nat :=
  match p.faults.find? fun e => e.block = b with
  | some e => (e.cap, e.grace, e.quiet)
  | none => (4, 1000, 50)

/-- Load the Faults Wing into the stations where it differs from what was in force (R61, R568). -/
def loadFaults (old new : Plan) (s : State) : State :=
  Block.all.foldl (fun s b =>
    let f := faultsFor new (blockNum b)
    if f = faultsFor old (blockNum b) then s
    else modStation b (fun x => { x with cap := f.1, graceMs := f.2.1, quietTenMs := f.2.2 }) s) s

/-- A Reckoning is wanted (11_gauge_reckoning R414, Table 11-5). -/
def wantRek (s : State) : State := { s with rek := { s.rek with again := true } }

/-- Whether two plans differ in a field whose apply is a key event (Table 02-13). -/
def rekFields (a b : Plan) : Bool :=
  a.energy ≠ b.energy || a.policy.reservePct ≠ b.policy.reservePct || a.domain.grantMode ≠ b.domain.grantMode

/-- Hours of the clock that the Exercise runs by: the host calendar, or whole hours from FIRST_BOOT
(19_almanac_log_identity R654). -/
def exerClock (s : State) (t : Nat) : Option Nat :=
  if s.log.calValid then some (((t : Int) * 1000 + s.log.offset) / 3600000000000).toNat
  else s.log.life.firstBoot.map fun f => (t - f) / 3600000000

/-- Due hours up to the present hour of the clock count as fired (19_almanac_log_identity R654): the clock has changed, or
EXER_DAYS and EXER_HOUR have, which count from the next scheduled Exercise (02_floor_plan Table 02-13). -/
def exerFromNow (s : State) : State :=
  { s with nrg := { s.nrg with exerFired := (exerClock s s.almanac).getD 0 } }

/-- Whether two plans schedule the Exercise alike. -/
def exerEqual (a b : Plan) : Bool := a.policy.exerDays = b.policy.exerDays && a.policy.exerHour = b.policy.exerHour

/-- The apply point of a held live plan (R74 to R76): every live field at one instant, FPL_LIVE_COUNT, event 0x0011,
the Reckoning, the accrual (06_stowing_ceiling R240), the
advertised flush duration (03_host_link R98) and the stalls evaluated again (05_rooms_suites_chart R202). The result of
the plan overwrites a BUSY recorded while it was held (R77). -/
def applyPlan (s : State) : State :=
  match s.fpl.liveHeld with
  | none => s
  | some h =>
    let old := s.plan
    let n := satInc 0xFFFFFFFF s.fpl.liveCount
    let s := if s.fpl.lastCode = 0x11 then
        { s with fpl := { s.fpl with lastCode := 0, rejCode := 0, rejWing := 0, rejOfs := 0 } }
      else s
    let s := packAlert s { s with
      fpl := { s.fpl with plan := h.plan, slot := some h.slot, liveHeld := none, liveCount := n, isDefault := false },
      sui := s.sui.zipIdx.map fun c => { c.1 with cfg := (h.plan.suites[c.2]?).getD c.1.cfg } }
    let s := loadFaults old h.plan s
    let s := if old.policy.serviceYears = h.plan.policy.serviceYears then s
             else { s with stw := { s.stw with accrual := dailyAccrual s } }
    let s := { s with hst := { s.hst with gpfAdvertUs := gpfAdvert h.plan.policy.stallUs } }
    let s := if exerEqual old h.plan then s else exerFromNow s
    let s := event 0x0011 .fpl n h.plan.crc s
    levelMuster (reeval (reevalStalled (wantRek s)))

/-- A validated plan that the change rules accept is sealed; with equal structural fields it is live and waits for its
apply point, else it waits for boot (R73 to R75, R77). -/
def acceptPlan (v : ValidPlan) (s : State) : State :=
  let (n, s) := sealPlan v s
  let s := { s with fpl := { s.fpl with lastCode := 0 } }
  if structEqual s.plan v.plan then
    let s := { s with fpl := { s.fpl with liveHeld := some ⟨v.plan, n⟩, pending := none } }
    if s.dev.state = .service ∨ s.dev.state = .harbour then applyPlan s else s
  else { s with fpl := { s.fpl with pending := some ⟨v.plan, n⟩ } }

/-- A plan is in process: it is sealed and waits for its apply point (R77). Validation and sealing are one command. -/
def planBusy (s : State) : Bool := s.fpl.liveHeld.isSome

/-- A plan that is accepted but whose slot an Attic operation fails to seal: the slot stays unsealed and is ignored (R69; 18_service_update
Table 18-9). -/
def spoilSlot (s : State) : State :=
  let s := eraseSector (slotFree s) 90 (eraseSector (slotFree s) 89 s)
  { s with fpl := { s.fpl with lastCode := 0, pending := none } }

/-- Validate a delivered plan and accept or reject it (R68, R77, R630); `sealed` tells whether its
slot could be sealed. Answers the code. -/
def deliverPlan (img : List Byte) (mstr : Nat) (sealed : Bool) (s : State) : Nat × State :=
  match validate s.fuses.is2T img with
  | .error e => (e.code, rejectPlan e mstr s)
  | .ok v =>
    match changeErr s v with
    | some e => (e.code, rejectPlan e mstr s)
    | none => (0, if sealed then acceptPlan v s else spoilSlot s)

/-! ### The load at boot (R69, Table 08-1 step 3) -/

/-- Suite contexts of a plan (R201). -/
def contextsOf (p : Plan) : List SuiteCtx :=
  p.suites.map fun c => { cfg := c, enabled := 0 < c.roomCount }

/-- The first sealed slot that validates, and the slots that failed before it with their failures (R69). -/
def pickSlot (s : State) : List Nat → List (Nat × PlanErr) × Option (Nat × ValidPlan)
  | [] => ([], none)
  | n :: r =>
    match slotCheck s n with
    | .ok v => ([], some (n, v))
    | .error e =>
      let (f, p) := pickSlot s r
      ((n, e) :: f, p)

/-- What FPL reports of a slot that fails at boot: its failure as that of the last validation and the last rejection (R68), and class
SLOT_FAIL (R69, R78). -/
def slotFails (s : State) (x : Nat × PlanErr) : State :=
  raiseAddr fplSlotFail x.1 mNone 0 { s with fpl := { s.fpl with
    lastCode := x.2.code, rejCode := x.2.code, rejWing := x.2.wing, rejOfs := x.2.ofs } }

/-- The newest save header that the bucket value of R242 is compared with: FENCE_TIME and WEAR_BUCKET. -/
def headerBucket (s : State) : Option (Nat × Nat) :=
  let l := ([s.sav.port.rec_, s.sav.stbd.rec_, s.cel.areaA, s.cel.areaB].filterMap id).map fun r =>
    (r.header.fenceTime, r.header.wearBucket)
  l.foldl (fun (a : Option (Nat × Nat)) b =>
    match a with | some x => if x.1 < b.1 then some b else a | none => some b) none

/-- The bucket at boot (R241, R242): the value of later Almanac time; full in a part that holds none. -/
def bootBucket (s : State) (cap : Nat) : Nat :=
  match s.stw.bucketStored, headerBucket s with
  | some (v, t), some (u, w) => if t < u then min cap w else min cap v
  | some (v, _), none => min cap v
  | none, some (_, w) => min cap w
  | none, none => cap

/-- Keys for the slots that enabled Suites name and the key store lacks, which are stored in both key-store copies (09_cellar R356). -/
def generateKeys (s : State) : State :=
  let old := s.cel.keys
  let store := fun (s : State) => if s.cel.keys = old then s else replaceItem 7 .keyStore s
  store <| s.sui.foldl (fun s c =>
    let k := c.cfg.keySlot
    if c.enabled && k ≠ 0 && tget 0 s.cel.keys k = 0 then
      { s with cel := { s.cel with keys := tset 0 s.cel.keys k s.cel.nextKey, nextKey := s.cel.nextKey + 1 } }
    else s) s

/-- A plan other than the factory default (19_almanac_log_identity R660): it states something beyond its header. -/
def otherThanDefault (s : State) (p : Plan) : Bool :=
  { p with crc := defaultCrc, srcFmt1 := false } ≠ defaultPlan s.fuses.is2T

/-- Boot step 3 (R69, R177, R242, R356, R580, R660). -/
def loadPlan (s : State) : State :=
  let (bad, found) := pickSlot s (slotOrder s)
  let old := s.plan
  let p := match found with | some (_, v) => v.plan | none => defaultPlan s.fuses.is2T
  let s := { s with
    fpl := { s.fpl with plan := p, slot := found.map Prod.fst, isDefault := found.isNone, pending := none,
                        liveHeld := none, liveCount := 0, sanitized := false },
    sui := contextsOf p }
  let s := { s with cht := { s.cht with entries := buildEntries s, tiles := [], built := true },
                    hst := { s.hst with gpfAdvertUs := gpfAdvert p.policy.stallUs } }
  let s := loadFaults old p s
  let acc := dailyAccrual s
  let s := { s with stw := { s.stw with accrual := acc, bucket := bootBucket s (30 * acc) } }
  let s := if s.log.life.firstBoot.isNone && otherThanDefault s p then
      { s with log := { s.log with life := { s.log.life with firstBoot := some s.almanac } } }
    else s
  let s := wantRek (generateKeys s)
  let s := bad.foldl slotFails s
  if found.isNone then raiseAddr fplDefault 0 mNone 0 s else { s with fpl := { s.fpl with lastCode := 0 } }

end Sys2Proof.Machine
end

