-- ==== Sys2Proof/Machine/OpsRestore.lean ====
section
/-! DEFINITION. Shared operations of the restore and the Fold (08_startup_restore R293 to R320; 07_fence_save R287): the
current save, list gaps, the rows of Table 08-3, the ends of Rooms and of the restore. -/

namespace Sys2Proof.Machine

/-! ### The current save (R293, R303) -/

/-- The saves that lie in flash, with the half of each. -/
def heldSaves (s : State) : List (SaveRecord × Option Half) :=
  (s.sav.port.rec_.toList.map fun r => (r, some Half.port)) ++
    (s.sav.stbd.rec_.toList.map fun r => (r, some Half.starboard)) ++
    ((s.cel.areaA.toList ++ s.cel.areaB.toList).map fun r => (r, none))

/-- S: the valid header of highest SAVE_ID (R293). -/
def currentSave (s : State) : Option (SaveRecord × Option Half) :=
  ((heldSaves s).filter fun r => headerValid s r.1.header).foldl
    (fun (a : Option (SaveRecord × Option Half)) r =>
      match a with
      | some x => if x.1.header.saveId < r.1.header.saveId then some r else a
      | none => some r) none

/-- O: the service-open record with a correct CRC and the highest OPEN_ID (R293). -/
def newestOpen (s : State) : Option OpenRec :=
  (s.cel.opens.filter fun o => !s.sav.badOpens.contains o.openId).foldl (fun (a : Option OpenRec) o =>
    match a with | some x => if x.openId < o.openId then some o else a | none => some o) none

/-- The base that a header names, when its half holds it (R303). -/
def findBase (s : State) (h : SaveHeader) : Option Half :=
  if h.baseValid then
    [Half.port, Half.starboard].find? fun k =>
      match (halfAt s k).rec_ with
      | some r => headerReads s r.header && r.header.saveId = h.baseSaveId && k.code = h.baseHalf
      | none => false
  else none

/-! ### Lists and gaps (R302) -/

/-- Order of a list: PRIORITY, then tile. -/
def keyLt (a b : Nat × Nat) : Bool := a.1 < b.1 || (a.1 = b.1 && a.2 < b.2)

/-- Key of a list entry, and of a tile under the plan in force. -/
def ListEntry.key (e : ListEntry) : Nat × Nat := (e.prio, e.tile)
def tileKeyOrder (s : State) (t : Nat) : Nat × Nat := (tilePrio s t, t)

/-- List index and entry of the readable pages of a record. -/
def readable (r : SaveRecord) (bad : List Nat) : List (Nat × ListEntry) :=
  (r.list.zipIdx.map fun e => (e.2, e.1)).filter fun e => !bad.contains (e.1 / 2046)

/-- Pages of a record's list: unreadable ones; with no last page programmed, the page after the last is absent. -/
def badPages (r : SaveRecord) (bad : List Nat) : List Nat :=
  if r.listDone then (List.range (listPages r.list.length)).filter bad.contains else [listPages r.list.length]

/-- A tile lies in the gap that an unreadable page leaves: strictly between the readable entries around it (R302). -/
def inGap (r : SaveRecord) (bad : List Nat) (k : Nat × Nat) : Bool :=
  (badPages r bad).any fun p =>
    let l := readable r bad
    let before := (l.filter fun e => e.1 / 2046 < p).getLast?
    let after := l.find? fun e => p < e.1 / 2046
    (match before with | some e => keyLt e.2.key k | none => true) &&
      (match after with | some e => keyLt k e.2.key | none => true)

/-- Gaps of a record's list: runs of unreadable pages. -/
def gapCount (r : SaveRecord) (bad : List Nat) : Nat :=
  let l := badPages r bad
  (l.filter fun p => p = 0 || !l.contains (p - 1)).length

/-- The overlay index of a list: for each Room that it lists, the list index of the first tile (R306). -/
def overlayOf (r : SaveRecord) (bad : List Nat) : List (Nat × Nat) :=
  (readable r bad).foldl (fun a e =>
    if a.any fun x => x.1 = e.2.tile / tilesPerRoom then a else a ++ [(e.2.tile / tilesPerRoom, e.1)]) []

/-- List index of a tile by an overlay index: the Room's value plus the listed tiles of the Room below it (R306). -/
def overlayIndex (ov : List (Nat × Nat)) (r : SaveRecord) (bad : List Nat) (t : Nat) : Option Nat :=
  let l := (readable r bad).filter fun e => e.2.tile / tilesPerRoom = t / tilesPerRoom
  if l.any fun e => e.2.tile = t then
    (alookup ov (t / tilesPerRoom)).map fun i => i + (l.filter fun e => e.2.tile < t).length
  else none

/-! ### Copies in a half (R300, R304) -/

/-- The slot and the copy of a list index of a save in a half: a slot that carries its tags, decrypted under the key that its slot
holds now. -/
def halfSlot (s : State) (h : Half) (saveId idx t : Nat) : Option (Nat × Image) :=
  (halfAt s h).slots.findSome? fun x =>
    match x.2 with
    | some c =>
      if c.saveId = saveId && c.idx = idx && c.tile = t && (c.keySlot = 0 || c.keyId = tget 0 s.cel.keys c.keySlot) then
        some (x.1, c.img)
      else none
    | none => none

/-- The copy of `halfSlot`. -/
def halfCopy (s : State) (h : Half) (saveId idx t : Nat) : Option Image := (halfSlot s h saveId idx t).map fun x => x.2

/-- Points at which k(i) increases over the slots of a half (R304). -/
def skipPointsOf (s : State) (h : Half) (saveId : Nat) : Nat :=
  let ks := (halfAt s h).slots.filterMap fun x =>
    match x.2 with | some c => if c.saveId = saveId then some (x.1 - c.idx) else none | none => none
  (ks.foldl (fun (a : Nat × Nat) k => if a.1 < k then (k, a.2 + 1) else a) (0, 0)).2

/-- Bound on the tag reads of a half (R304): none for a sealed save with nothing skipped; else 24 for each point, and 24
for the end of an unsealed save. -/
def tagReadBound (s : State) (h : Half) (r : SaveRecord) : Nat :=
  24 * skipPointsOf s h r.header.saveId + (if r.sealed.isSome then 0 else 24)

/-! ### Table 08-3 -/

/-- The base's record, when one is used. -/
def baseRecord (s : State) : Option (SaveRecord × Half) :=
  match s.sav.restore.base with
  | some h => (halfAt s h).rec_.map fun r => (r, h)
  | none => none

/-- A tile's Room is pending in S (R303); nothing is known to be pending when the pending map cannot be read. -/
def inPending (s : State) (r : SaveRecord) (t : Nat) : Bool :=
  !s.sav.restore.pendingMapLost && r.header.pending && r.pendingRooms.contains (t / tilesPerRoom)

/-- S of KIND 2 or 4 holds a listed tile: the record in force of its Room belongs to S (R300). -/
def fullFound (s : State) (r : SaveRecord) (t : Nat) : Bool :=
  match roomRec s (t / tilesPerRoom) with
  | some m => m.full && r.header.fenceTime ≤ m.time
  | none => false

/-- Row of Table 08-3 for a tile, and the copy in a half that rows 2 and 6 use. `halfBad` tells that a page of that
copy fails to read. -/
def restoreRow (s : State) (t : Nat) (halfBad : Bool) : Nat × Option Image :=
  let x := s.sav.restore
  match x.s with
  | none => (1, none)
  | some (r, h) =>
    if s.cel.lostRooms.contains (t / tilesPerRoom) then (1, none)
    else
      match overlayIndex x.overlay r x.badPages t with
      | some i =>
        (match h with
         | some h =>
           (match (if halfBad then none else halfCopy s h r.header.saveId i t) with
            | some img => (2, some img)
            | none => (4, none))
         | none => if fullFound s r t then (3, none) else (4, none))
      | none =>
        if inGap r x.badPages (tileKeyOrder s t) then (5, none)
        else
          match baseRecord s with
          | some (b, bh) =>
            (match overlayIndex x.overlayBase b x.badBasePages t with
             | some i =>
               if inPending s r t then
                 (match (if halfBad then none else halfCopy s bh b.header.saveId i t) with
                  | some img => (6, some img)
                  | none => (7, none))
               else if x.pendingMapLost then (7, none) else (8, none)
             | none => if inPending s r t && inGap b x.badBasePages (tileKeyOrder s t) then (7, none) else (8, none))
          | none => if x.baseLost && inPending s r t then (7, none) else (8, none)

/-- The die that a copy in a half is read from. -/
def halfDie (s : State) (h : Half) (ov : List (Nat × Nat)) (r : SaveRecord) (bad : List Nat) (t : Nat) : Option Nat :=
  (overlayIndex ov r bad t).bind fun i =>
    (halfSlot s h r.header.saveId i t).map fun x => halfDieOf s x.1

/-- The die that the restore of a tile reads: that of the copy in a half, else that of the confirmed image; none where nothing is
read. -/
def sourceDie (s : State) (t : Nat) : Option Nat :=
  let x := s.sav.restore
  match (restoreRow s t false).1, x.s with
  | 2, some (r, some h) => halfDie s h x.overlay r x.badPages t
  | 6, _ => (baseRecord s).bind fun b => halfDie s b.2 x.overlayBase b.1 x.badBasePages t
  | _, _ => (mapEntry s t).slot.map (slotDie s)

/-! ### Which tile comes next (R307, R312) -/

/-- The Rooms in demand fetch: the first 32 in order of arrival; further ones wait (R312). -/
def inDemand (s : State) : List Nat := (s.sav.restore.demand.take 32).map fun d => d.1

/-- A tile's restore has not written it. -/
def unwritten (s : State) (t : Nat) : Bool := !tget false s.sav.restore.written t

/-- A held read put in its place in the order of arrival. -/
def placeArrival (x : Nat × Nat) : List (Nat × Nat) → List (Nat × Nat)
  | [] => [x]
  | y :: r => if x.1 < y.1 then x :: y :: r else y :: placeArrival x r

/-- Tiles of a Room that held reads wait for, of the host and of Dumbwaiter steps, in the order in which the reads arrived (R312). -/
def heldTiles (s : State) (room : Nat) : List Nat :=
  let host := (s.hst.reads.filter fun r => r.req.isNone).map fun r => (r.arrival, r.beat * beatBytes / tileBytes)
  let dmw := (s.dmw.ch.toList.filter fun c => c.held).flatMap fun c => c.heldReads.map fun t => (c.arrival, t)
  ((host ++ dmw).foldl (fun l x => placeArrival x l) []).filterMap fun x => if x.2 / tilesPerRoom = room then some x.2 else none

/-- The tile that a demand fetch writes next: those of held reads first, then ascending (R312). -/
def demandNext (s : State) (room : Nat) : Option Nat :=
  match (heldTiles s room).find? (unwritten s) with
  | some t => some t
  | none => (roomTiles room).find? (unwritten s)

/-- The Room that the background restore has come to: the first of its order that is not in demand fetch (R307). -/
def backgroundRoom (s : State) : Option Nat := s.sav.restore.order.find? fun r => !(inDemand s).contains r

/-- A demand fetch still has to read a die (R312). -/
def demandReads (s : State) (d : Nat) : Bool :=
  (inDemand s).any fun r => (roomTiles r).any fun t => unwritten s t && sourceDie s t = some d

/-- The restore may write a tile now: it is what a demand fetch writes next, or a tile of the Room of the background restore whose die
no demand fetch still has to read (R307, R312; DEDUCED: assumption 124). -/
def tileNext (s : State) (t : Nat) : Bool :=
  let room := t / tilesPerRoom
  if (inDemand s).contains room then demandNext s room = some t
  else backgroundRoom s = some room && unwritten s t &&
    match sourceDie s t with | some d => !demandReads s d | none => true

/-- Rows that Table 08-3 makes Dirty, whatever the reads return (R305); row 4 of KIND 2 and 4 is found at the write. -/
def presetDirty (s : State) (t : Nat) : Bool :=
  match (restoreRow s t false).1 with
  | 1 | 2 | 5 | 6 | 7 => true
  | 4 => match s.sav.restore.s with | some (_, some _) => true | _ => false
  | _ => false

/-- Whether a row poisons the whole tile (Table 08-3). -/
def rowWhole (n : Nat) : Bool := n = 1 || n = 4 || n = 5 || n = 7

/-- Whether a row leaves the tile Dirty (Table 08-3). -/
def rowDirty (n : Nat) : Bool := !(n = 3 || n = 8)

/-- What a restored tile gets: its image, whether it is poisoned as a whole by the restore, whether it ends Dirty, and
whether its confirmed image failed under R301. -/
structure Restored where
  img : Image
  /-- The record's WHOLE flag poisons every beat (R184). -/
  flagWhole : Bool
  whole : Bool
  dirty : Bool
  failed : Bool
  deriving DecidableEq, Repr

/-- The tile that the restore writes (R299, R301). `imageBad` tells that a page of the confirmed image fails to read. -/
def restoredTile (s : State) (t : Nat) (halfBad imageBad : Bool) : Restored :=
  let (n, copy) := restoreRow s t halfBad
  match copy with
  | some img => { img := img, flagWhole := false, whole := false, dirty := true, failed := false }
  | none =>
    let e := mapEntry s t
    if e.slot.isNone then { img := {}, flagWhole := e.whole, whole := rowWhole n, dirty := rowDirty n, failed := false }
    else
      match (if imageBad then none else readCopy s t e) with
      | some img => { img := img, flagWhole := e.whole, whole := rowWhole n, dirty := rowDirty n, failed := false }
      | none => { img := {}, flagWhole := false, whole := true, dirty := true, failed := true }

/-- Roster entries of one Meta page: 4 bytes each (DESIGN CHOICE: assumption 126). -/
def rosterPage : Nat := 4096

/-- Add a tile to the roster in Meta, a new page for each 4,096 (R315; 09_cellar R336). -/
def addRoster (t : Nat) (s : State) : State :=
  let n := s.sav.roster.length
  let s := if n % rosterPage = 0 then programItem 5 0 .roster (n / rosterPage) 1 s else s
  { s with sav := { s.sav with roster := s.sav.roster ++ [t] } }

/-- The roster of the last restore is replaced (R315): its blocks await their background erase. -/
def dropRoster (s : State) : State :=
  { s with cel := { s.cel with metaBlks := retireMeta (fun b => b.type = 5) s.cel.metaBlks,
                               metaExts := s.cel.metaExts.filter fun e => e.item ≠ .roster },
           sav := { s.sav with roster := [] } }

/-- Write a restored tile: DRAM, tile state, roster and poison list, class RESTORE_READ (R299, R301, R315). -/
def writeRestored (t : Nat) (x : Restored) (s : State) : State :=
  let s := tileAccess t s
  let d := writeImage t x.img s.dram
  let s := { s with dram := if x.whole || x.flagWhole then markTile t d else d }
  let s := if x.dirty && (tileAt s t).st = .clean then reeval (putTile t { st := .dirty } s) else s
  let r := s.sav.restore
  let r' : RestoreRun := { r with written := tset false r.written t true, left := tset false r.left t x.dirty,
                                  failed := tset false r.failed t x.failed }
  let s := { s with sav := { s.sav with restore := r' } }
  let s := if x.whole then
      listPoison (t * tileBytes) true 2 (addRoster t s)
    else s
  if x.failed then raiseAddr savRestoreRead (t * tileBytes) mRestore 1 s else s

/-! ### The start of a restore (R305, R307) -/

/-- Rooms of a saved class that are not impaired, by PRIORITY, then ascending (R307). -/
def restoreOrder (s : State) : List Nat :=
  let rooms := s.cht.entries.filter fun e => e.2.cls.saved && !e.2.impaired
  (List.range 8).flatMap fun p => (rooms.filter fun e => tilePrio s (e.1 * tilesPerRoom) = p).map fun e => e.1

/-- A restore as the decision begins it; `x` is S, none in a headerless restore (R299, R303, R315). -/
def beginRestore (x : Option (SaveRecord × Option Half)) (s : State) : State :=
  let order := restoreOrder s
  let base := x.bind fun r => findBase s r.1.header
  let lost : Bool := match x with | some r => r.1.header.baseValid && base.isNone | none => false
  let run : RestoreRun := { s := x, base := base, baseLost := lost, order := order,
                            roomsEnded := chartRooms - order.length, startedAt := s.almanac, running := true }
  let h : Nat := match x with | some (_, some h) => h.code | _ => 0xFF
  let named : Bool := match x with | some r => r.1.header.baseValid | none => false
  let s := dropRoster s
  { s with sav := { s.sav with restore := run, rosterHalf := h, baseNamed := named },
           sui := s.sui.map fun c => { c with etAtRestore := c.cfg.etPermit } }

/-- Rebuild DRAM in WARM-RETURN from the Cellar and the sealed save (R287). -/
def startRebuild (s : State) : State :=
  if s.sav.restore.running && s.sav.phase = .rebuild then s
  else
    let x := (heldSaves s).find? fun r => r.1.header.saveId = s.sav.saveId
    let s := beginRestore x s
    { s with sav := { s.sav with phase := .rebuild } }

/-- Preset the tile states and counts (R305 steps 3 to 5), from which Pressed and the flags follow (R237 to R239). -/
def presetTiles (s : State) : State :=
  reeval <| s.sav.restore.order.foldl (fun s r =>
    (roomTiles r).foldl (fun s t => putTile t { st := if presetDirty s t then .dirty else .clean } s) s) s

/-! ### The Fold's end (R320) -/

/-- The record that R320 step 1 writes for an IMPAIRED Room: every slot kept, WHOLE on each listed tile. -/
def wholeRecord (s : State) (r : Nat) (ts : List Nat) : RoomMap :=
  let m := blankRecord s r false
  { m with tiles := ts.foldl (fun x t =>
      tmod {} x (t % tilesPerRoom) fun e => { e with poisoned := true, whole := true }) m.tiles }

/-- Records of step 1 for every IMPAIRED Room that still lacks one and has no record in flight (R320; 06_stowing_ceiling R218). -/
def impairedRecords (s : State) : State :=
  ((s.sav.foldImpaired.map fun t => t / tilesPerRoom).eraseDups).foldl (fun s r =>
    if recBusy s r then s
    else
    let m := wholeRecord s r (s.sav.foldImpaired.filter fun t => t / tilesPerRoom = r)
    let f : RecFlight := { rec_ := m, ptr := 0, names := [], phase := .waiting, at_ := s.almanac }
    { s with cel := { s.cel with recs := s.cel.recs ++ [f], nextGen := s.cel.nextGen + 1 } }) s

/-- Step 2 of R320: the release records of S's half and of the base; the Fold has ended, and a Reckoning is wanted. -/
def foldRelease (s : State) : State :=
  let s := s.sav.foldHalves.foldl (fun s h => releaseHalf h s) s
  wantRek { s with sav := { s.sav with foldPhase := 3, foldHalves := [], foldImpaired := [] } }

/-- Go on with the Fold's end when every visit has been made and every completion applied: step 1 until every listed tile of an
IMPAIRED Room is marked by a record that passed, then step 2 (R320). -/
def foldStep (s : State) : State :=
  let v := s.sav
  if (v.foldPhase = 1 ∧ v.foldLeft.isEmpty ∧ v.foldInFlight.isEmpty) ∨ v.foldPhase = 2 then
    if v.foldImpaired.isEmpty then foldRelease s
    else impairedRecords { s with sav := { v with foldPhase := 2 } }
  else s

/-- A record that has passed leaves R320 step 1 nothing to do for the tiles on which it sets WHOLE. -/
def foldMarked (m : RoomMap) (s : State) : State :=
  let left := s.sav.foldImpaired.filter fun t =>
    t / tilesPerRoom ≠ m.room || !(tget {} m.tiles (t % tilesPerRoom)).whole
  { s with sav := { s.sav with foldImpaired := left } }

/-- Tiles of IMPAIRED Rooms that S or the base lists (R320 step 1). -/
def impairedListed (s : State) : List Nat :=
  let x := s.sav.restore
  let own : List Nat := match x.s with
    | some (r, _) => (readable r x.badPages).map fun (e : Nat × ListEntry) => e.2.tile
    | none => []
  let base : List Nat := match baseRecord s with
    | some (b, _) => (readable b x.badBasePages).map fun (e : Nat × ListEntry) => e.2.tile
    | none => []
  ((own ++ base).filter fun t => (entryAt s (t / tilesPerRoom)).impaired && (tileClass s t).saved).eraseDups

/-- Halves that the end of the Fold releases: S's and the base's (R320); S's half also after a headerless restore
(DEDUCED: assumption 33). -/
def foldHalvesOf (s : State) : List Half :=
  let own := match s.sav.restore.s with
             | some (_, h) => h.toList
             | none => match currentSave s with | some (_, h) => h.toList | none => []
  own ++ (s.sav.restore.base.toList.filter fun h => !own.contains h)

/-! ### The ends of Rooms and of the restore -/

/-- The restore has ended (R314, R316, R317): the report, then SERVICE with the Fold, or in WARM-RETURN the end of the
rebuild (R287). -/
def restoreComplete (s : State) : State :=
  let r := s.sav.restore
  let s := { s with sav := { s.sav with restore := { r with running := false, endedUs := some (s.almanac - r.startedAt),
                                                            demand := [], overlay := [], overlayBase := [] } } }
  let s := event 0x0007 .hst s.sav.roster.length s.sav.rosterHalf s
  let s := wantRek s
  if s.dev.state = .warmReturn then
    { s with sav := { s.sav with phase := .idle }, drc := { s.drc with recheckFailed := false } }
  else
    let v := s.sav
    let s := { s with sav := { v with foldLeft := (v.restore.left.filter fun x => x.2).map fun x => x.1, foldPhase := 1,
                                      foldInFlight := [], foldHalves := foldHalvesOf s,
                                      foldImpaired := impairedListed s } }
    foldStep (openService 0x06 s)

/-- A demand fetch's first held read is released: its latency (R313). -/
def noteLatency (room : Nat) (s : State) : State :=
  let r := s.sav.restore
  match r.demand.find? fun d => d.1 = room && !d.2.2 with
  | none => s
  | some d =>
    let us := min 0xFFF (s.almanac - d.2.1)
    let dm : List (Nat × Nat × Bool) := r.demand.map fun x => if x.1 = room then (x.1, x.2.1, true) else x
    { s with sav := { s.sav with latLast := us, latMax := max s.sav.latMax us, restore := { r with demand := dm } } }

/-- The held reads of a tile are released once it has been written (R311, R313). -/
def releaseTileReads (t : Nat) (s : State) : State :=
  let dmw := s.dmw.ch.toList.any fun c => c.held && c.heldReads.contains t
  let s := { s with dmw := { s.dmw with ch := s.dmw.ch.map fun c => { c with heldReads := c.heldReads.filter (· ≠ t) } } }
  if dmw || s.hst.reads.any (fun r => r.req.isNone && r.beat * beatBytes / tileBytes = t) then
    releaseReads (fun x => x ≠ t) (noteLatency (t / tilesPerRoom) s)
  else s

/-- A Room's restore has ended (R307, R311, R313). -/
def endRoom (room : Nat) (s : State) : State :=
  let r := s.sav.restore
  let dem := r.demand.any fun d => d.1 = room
  let r : RestoreRun := { r with order := r.order.filter (· ≠ room), roomsEnded := r.roomsEnded + 1,
                                 written := tclear r.written (room * tilesPerRoom) ((room + 1) * tilesPerRoom),
                                 demand := r.demand.filter fun d => d.1 ≠ room }
  let s := { s with sav := { s.sav with demandRooms := s.sav.demandRooms + b2n dem, restore := r } }
  releaseRoomWrites room s

/-- A tile of a Room has been written; the Room and the restore end when they are whole (R307, R314). -/
def afterTile (t : Nat) (s : State) : State :=
  let room := t / tilesPerRoom
  let s := releaseTileReads t s
  let s := if (roomTiles room).all fun x => tget false s.sav.restore.written x then endRoom room s else s
  if s.sav.restore.order.isEmpty then restoreComplete s else s

end Sys2Proof.Machine
end

