-- ==== Sys2Proof/Machine/Dmw.lean ====
section
/-! DEFINITION. The commands of the Dumbwaiter (13_dumbwaiter): channel control, the start of a descriptor of each
operation, step grants, write acceptance, completion. -/

namespace Sys2Proof.Machine

/-! ### Channel control (R475, R476, R491, R493, R499, R500) -/

/-- A write that R500 ignores. -/
def dmwBad (s : State) : State := raiseAddr dmwBadWrite 0 mHost 2 s

/-- DMW_CH_TAIL_WRITE (R476): an INDEX of 2^SIZE or more raises BAD_WRITE. -/
def dmwTailWrite (ch : Nat) (value : Word) (s : State) : State :=
  let i := value.toNat % 256
  if 16 ≤ ch then s
  else if 2 ^ (chanAt s ch).size ≤ i then (dmwBad s)
  else (modChan ch (fun c => { c with tail := i }) s)

/-- DMW_CH_TAIL_WRITE (R476): an INDEX of 2^SIZE or more raises BAD_WRITE. -/
def execDmwChTailWrite (ch : Nat) (value : Word) (s : State) : Res := .next (dmwTailWrite ch value s)

/-- DMW_ENABLE (R500, DMW_CH_CTL): a write of the RW fields ENABLE, SIZE and PRIO of DMW_CH_CTL. SIZE or PRIO change
only in OFF; ENABLE 0 is accepted only in OFF or HALTED. -/
def dmwEnable (ch : Nat) (value : Word) (s : State) : State :=
  let c := chanAt s ch
  let v := value.toNat
  let en := v % 2 = 1
  let size := v / 16 % 16
  let prio := v / 256 % 4
  if 16 ≤ ch then s
  else if size < 4 ∨ 8 < size ∨ (c.st ≠ .off ∧ (size ≠ c.size ∨ prio ≠ c.prio)) then (dmwBad s)
  else
    let s := modChan ch (fun c => { c with size := size, prio := prio }) s
    if en then (if c.st = .off then modChan ch (fun c => { c with st := .run }) s else s)
    else if c.st = .halted then (modChan ch (fun c => { c with st := .off }) s)
    else s

/-- DMW_ENABLE (R500, DMW_CH_CTL): a write of the RW fields ENABLE, SIZE and PRIO of DMW_CH_CTL. SIZE or PRIO change
only in OFF; ENABLE 0 is accepted only in OFF or HALTED. -/
def execDmwEnable (ch : Nat) (value : Word) (s : State) : Res := .next (dmwEnable ch value s)

/-- The present step of a channel has been granted and has not ended. -/
def inStep (c : Channel) : Bool := match c.run with | some r => r.granted | none => false

/-- DMW_PAUSE (R491): at the next step boundary; at once between steps. -/
def dmwPause (ch : Nat) (s : State) : State :=
  let c := chanAt s ch
  if ch < 16 ∧ c.st = .run then
    (modChan ch (fun c => if inStep c then { c with pausePend := true } else { c with st := .paused }) s)
  else s

/-- DMW_PAUSE (R491): at the next step boundary; at once between steps. -/
def execDmwPause (ch : Nat) (s : State) : Res := .next (dmwPause ch s)

/-- DMW_RESUME (R493, R498): PAUSED and HALTED to RUN; FENCED to RUN only in SERVICE, TENANCY and HARBOUR. -/
def dmwResume (ch : Nat) (s : State) : State :=
  let c := chanAt s ch
  if ch < 16 ∧ (c.st = .paused ∨ c.st = .halted ∨ (c.st = .fenced ∧ s.dev.state.hostMemory)) then
    (modChan ch (fun c => { c with st := .run }) s)
  else s

/-- DMW_RESUME (R493, R498): PAUSED and HALTED to RUN; FENCED to RUN only in SERVICE, TENANCY and HARBOUR. -/
def execDmwResume (ch : Nat) (s : State) : Res := .next (dmwResume ch s)

/-- DMW_RESET (R499): at the next step boundary; at once between steps. -/
def dmwResetCmd (ch : Nat) (s : State) : State :=
  if 16 ≤ ch then s
  else if inStep (chanAt s ch) then (modChan ch (fun c => { c with resetPend := true }) s)
  else (dmwReset ch s)

/-- DMW_RESET (R499): at the next step boundary; at once between steps. -/
def execDmwReset (ch : Nat) (s : State) : Res := .next (dmwResetCmd ch s)

/-! ### The start of a descriptor (R476 to R482, R497) -/

/-- A channel that may start its next descriptor (R494, R495). -/
def mayStart (s : State) (ch : Nat) : Bool :=
  let c := chanAt s ch
  ch < 16 && c.st = .run && c.run.isNone && c.head ≠ c.tail && s.dev.state.hostMemory

/-- Source and destination are used by an operation (Table 13-2). -/
def Descriptor.usesSrc (d : Descriptor) : Bool := d.op ≠ 2
def Descriptor.usesDst (d : Descriptor) : Bool := d.op = 1 || d.op = 2 || d.op = 4

/-- Alignment of offsets and LEN (Table 13-2). -/
def Descriptor.align (d : Descriptor) : Nat :=
  if d.op = 3 ∨ d.op = 4 ∨ (d.op = 5 ∧ d.verify = true) then tileBytes else beatBytes

/-- An offset that the operation uses, or LEN, breaks the alignment (R479). -/
def Descriptor.misaligned (d : Descriptor) : Bool :=
  d.len % d.align ≠ 0 || (d.usesSrc && d.srcOfs % d.align ≠ 0) || (d.usesDst && d.dstOfs % d.align ≠ 0)

/-- Table 13-4, source columns. -/
def srcAllowed (s : State) (d : Descriptor) (c : SuiteCtx) : Bool :=
  match c.cfg.policy with
  | .volatile => d.op = 1 || (d.op = 5 && !d.verify)
  | .mirrored => !standbyFor s c
  | _ => true

/-- Table 13-4, destination column. -/
def dstAllowed (k : Channel) (d : Descriptor) (c : SuiteCtx) : Bool :=
  match c.cfg.policy with
  | .persistent | .volatile => true
  | .mirrored => false
  | .readOnly => k.roWrite && d.roOk

/-- A range of a Suite passes translation (R482). -/
def translates (s : State) (k : Channel) (id ofs len : Nat) (allowed : SuiteCtx → Bool) : Bool :=
  match suiteOf s id with
  | none => false
  | some c => c.enabled && ofs + len ≤ c.cfg.roomCount * roomBytes && k.winLo ≤ id && id ≤ k.winHi && allowed c

/-- The whole descriptor passes translation (R482). -/
def descTranslates (s : State) (k : Channel) (d : Descriptor) : Bool :=
  (!d.usesSrc || translates s k d.srcSuite d.srcOfs d.len (srcAllowed s d)) &&
    (!d.usesDst || translates s k d.dstSuite d.dstOfs d.len (dstAllowed k d))

/-- The source and destination ranges of a COPY or a FETCH overlap (R480). -/
def descOverlaps (s : State) (d : Descriptor) : Bool :=
  (d.op = 1 || d.op = 4) && srcDpa s d < dstDpa s d + d.len && dstDpa s d < srcDpa s d + d.len

/-- OP is not 1 to 5; a reserved byte or FLAGS bit is not 0 (Table 13-3, BAD_OP). -/
def Descriptor.badOp (d : Descriptor) : Bool := d.op = 0 || 5 < d.op
def Descriptor.badReserved (d : Descriptor) : Bool := 8 ≤ d.flags || d.rsv1 ≠ 0 || d.rsv2 ≠ 0

/-- The status with which a descriptor completes at its start, if any, in the order of Table 13-3 (DEDUCED: assumption
41). -/
def startStatus (s : State) (k : Channel) (d : Descriptor) : Option Nat :=
  if d.badOp then some 3
  else if d.len = 0 then some 2
  else if d.badReserved then some 3
  else if d.misaligned then some 4
  else if !descTranslates s k d then some 5
  else if descOverlaps s d then some 6
  else if d.op = 3 ∧ ¬ stowRuns s then some 7
  else none

/-- Raise PROT or RING_UE for the descriptor at HEAD of a channel (R501). -/
def raiseDesc (c : FClass) (ch : Nat) (s : State) : State :=
  raiseAddr c (descOffset ch (chanAt s ch).head) (mDmw ch) 4 s

/-- The descriptor at HEAD starts when its OP is `op`, or when it completes before OP counts: uncorrectable ring bytes, an
OP that is not defined. -/
def startDesc (op ch : Nat) (s : State) : State :=
  if mayStart s ch then
    let k := chanAt s ch
    let ofs := descOffset ch k.head
    let d := readDesc s.dmw ofs
    if descBad s.dmw ofs then dmwComplete ch 9 0 0 d.irq (raiseDesc dmwRingUe ch s)
    else if d.op = op ∨ d.badOp = true then
      match startStatus s k d with
      | some x =>
        let s := if x = 5 then raiseDesc dmwProt ch s else s
        dmwComplete ch x 0 0 d.irq s
      | none =>
        let r : DescRun := { d := d }
        modChan ch (fun c => { c with run := some r }) s
    else s
  else s

/-- DMW_COPY (R480, R482): the descriptor starts; its steps follow as they are granted. -/
def execDmwCopy (ch : Nat) (s : State) : Res := .next (startDesc 1 ch s)

/-- DMW_FILL (R479). -/
def execDmwFill (ch : Nat) (s : State) : Res := .next (startDesc 2 ch s)

/-- DMW_STOW (R497): with stowing not running, NOSTOW. -/
def execDmwStow (ch : Nat) (s : State) : Res := .next (startDesc 3 ch s)

/-- DMW_FETCH (R488). -/
def execDmwFetch (ch : Nat) (s : State) : Res := .next (startDesc 4 ch s)

/-- DMW_CHECK (R489). -/
def execDmwCheck (ch : Nat) (s : State) : Res := .next (startDesc 5 ch s)

/-! ### Steps (R483, R488 to R491) -/

/-- The DPA whose multiples of 64 KiB bound the steps (R490), at the cursor. -/
def stepBase (s : State) (r : DescRun) : Nat := (if r.d.usesDst then dstDpa s r.d else srcDpa s r.d) + r.cursor

/-- Bytes of the next step (R490). -/
def stepLen (s : State) (r : DescRun) : Nat := min (r.d.len - r.cursor) (tileBytes - stepBase s r % tileBytes)

/-- Copy-beat entries that a step needs: one for each beat; a STOW uses those of STOW (R31; DEDUCED: assumption 42). -/
def stepEntries (s : State) (r : DescRun) : Nat := if r.d.op = 3 then 0 else stepLen s r / beatBytes

/-- Units of so many bytes that `n` bytes from an address on touch. -/
def unitsOf (size a n : Nat) : List Nat := (List.range ((a + n - 1) / size + 1 - a / size)).map fun i => a / size + i

/-- Rooms of the source and of the destination that a step touches. -/
def srcRooms (s : State) (r : DescRun) : List Nat :=
  if r.d.usesSrc then unitsOf roomBytes (srcDpa s r.d + r.cursor) (stepLen s r) else []
def dstRooms (s : State) (r : DescRun) : List Nat :=
  if r.d.usesDst then unitsOf roomBytes (dstDpa s r.d + r.cursor) (stepLen s r) else []

/-- Rooms that a step touches. -/
def stepRooms (s : State) (r : DescRun) : List Nat := srcRooms s r ++ dstRooms s r

/-- The step only reads DRAM at its source: COPY and CHECK. -/
def Descriptor.readsSrc (d : Descriptor) : Bool := d.op = 1 || d.op = 5

/-- Tiles that a step reads from DRAM. -/
def stepReads (s : State) (r : DescRun) : List Nat :=
  if r.d.readsSrc then unitsOf tileBytes (srcDpa s r.d + r.cursor) (stepLen s r) else []

/-- Tiles whose restore holds the reads of a step (08_startup_restore R311). -/
def heldReadsOf (s : State) (r : DescRun) : List Nat :=
  (stepReads s r).filter fun t => roomPending s (t / tilesPerRoom) && !tget false s.sav.restore.written t

/-- Rooms whose restore holds a step: a read waits for its tiles, all else for the whole Room (08_startup_restore R308, R311). -/
def heldRooms (s : State) (r : DescRun) : List Nat :=
  let whole := (if r.d.readsSrc then [] else srcRooms s r) ++ dstRooms s r
  (heldReadsOf s r).map (fun t => t / tilesPerRoom) ++ whole.filter (roomPending s)

/-- A Room fails the check of R483. -/
def roomFails (s : State) (room : Nat) : Bool :=
  (entryAt s room).impaired ||
    match suiteOfRoom s room with
    | some c => standbyFor s c || etHidden s c
    | none => true

/-- End the present step of a channel (R490, R491, R499): cursor and counts go on; RESET and PAUSE take effect; the
descriptor that is covered has status OK. -/
def endStep (ch : Nat) (s : State) : State :=
  match (chanAt s ch).run with
  | none => s
  | some r =>
    let cur := r.cursor + stepLen s r
    let r' : DescRun := { r with cursor := cur, granted := false, stepDone := 0, res0 := r.res0 + r.add0,
                                 res1 := r.res1 + r.add1, add0 := 0, add1 := 0, watch := [], waitTile := none,
                                 claimed := false, image := {}, slot := none,
                                 status := if r.d.len ≤ cur then some 1 else none }
    let s := modChan ch (fun c => { c with run := some r', entries := 0, held := false }) s
    let c := chanAt s ch
    if c.resetPend then dmwReset ch s
    else if c.pausePend then modChan ch (fun c => { c with st := .paused, pausePend := false }) s
    else s

/-- Change the descriptor in progress on a channel. -/
def modDesc (ch : Nat) (f : DescRun → DescRun) (s : State) : State :=
  modChan ch (fun c => { c with run := c.run.map f }) s

/-- An image with every beat poisoned. -/
def wholePoison (i : Image) : Image := { i with poison := (List.range beatsPerTile).map fun k => (k, true) }

/-- Compare a watched tile of a CHECK VERIFY that is still Clean with its confirmed image, as the record's WHOLE flag has it
(R185, R489; 06_stowing_ceiling R220); a copy that cannot
be read differs (DEDUCED: assumption 43). -/
def checkTile (ch t : Nat) (s : State) : State :=
  let s := tileAccess t s
  let e := mapEntry s t
  let image : Option Image := if e.slot.isNone then some {} else readCopy s t e
  let same := image.any fun i => decide (tileNow s t = if e.whole then wholePoison i else i)
  let s := modDesc ch (fun r => { r with add0 := r.add0 + 1, add1 := r.add1 + b2n !same }) s
  if same then s else raiseAddr dmwImageMismatch (t * tileBytes) (mDmw ch) 1 s

/-- Finish a step of STOW or CHECK VERIFY whose tiles have finished (R490, R497). -/
def settleStep (ch : Nat) (s : State) : State :=
  match (chanAt s ch).run with
  | none => s
  | some r =>
    let t := (srcDpa s r.d + r.cursor) / tileBytes
    if !r.granted then s
    else if r.d.op = 3 then
      if r.waitTile.isSome then s
      else if (tileAt s t).st = .clean ∨ (entryAt s (t / tilesPerRoom)).mapStale = true ∨ r.stepDone = 1 then endStep ch s
      else if (tileAt s t).st = .dirty then
        if mayStow s && tileServed s mStow t then
          startStow t (.request ch) (modDesc ch (fun r => { r with stepDone := 1, waitTile := some t }) (dropCandidate t s))
        else s
      else modDesc ch (fun r => { r with stepDone := 1, waitTile := some t }) s
    else if r.d.op = 5 ∧ r.d.verify = true then
      if r.watch.contains t then (if tileServed s (mDmw ch) t then endStep ch (checkTile ch t s) else callTile t s)
      else endStep ch s
    else s

/-- The CRC of a CHECK over beats: 64 bytes and a poison byte each (R481); with the poisoned beats counted. -/
def checkBeats (s : State) : Nat → Nat → Word × Nat → Word × Nat
  | 0, _, x => x
  | n + 1, beat, x =>
    let t := beat * beatBytes / tileBytes
    let d : Dram := if tileClass s t = .volatile && (tileAt s t).st = .clean then {} else s.dram
    let p := dramPoison d beat
    checkBeats s n (beat + 1) ((dramBytes d beat ++ [BitVec.ofNat 8 (b2n p)]).foldl crc32Byte x.1, x.2 + b2n p)

/-- What a FETCH step writes for its source tile, and what it adds to RESULT1 (R487, R488): the copy; zeros where there is
none; zeros with every beat poisoned where it cannot be decoded. -/
def fetchImage (s : State) (t : Nat) (unreadable : Bool) : Image × Nat :=
  match (mapEntry s t).slot with
  | none => ({}, 1)
  | some _ =>
    match (if unreadable then none else readCopy s t (mapEntry s t)) with
    | some i => (i, 0)
    | none => (wholePoison {}, 0)

/-- Channels in the order in which R491 takes them: PRIO down, rotating among equals. -/
def grantOrder (s : State) : List Nat :=
  [3, 2, 1, 0].flatMap fun p =>
    ((List.range 16).map fun i => (vget 15 s.dmw.lastGrant p + 1 + i) % 16).filter fun n => (chanAt s n).prio = p

/-- A CHECK of DRAM alone, which reads its whole step at its start. -/
def Descriptor.readsAtOnce (d : Descriptor) : Bool := d.op = 5 && !d.verify

/-- The tile at which the step that comes next on a channel reads. -/
def stepTile (s : State) (r : DescRun) : Nat := (srcDpa s r.d + r.cursor) / tileBytes

/-- The entries that a step lacks: a step that is held for a restore has its entries already (08_startup_restore R311). -/
def entriesLacking (s : State) (c : Channel) (r : DescRun) : Nat := stepEntries s r - c.entries

/-- A channel's next step may be granted (R31, R491, R494): the entries that it lacks are free; one that a restore holds waits for the
restore (R485); a CHECK waits for the DRC to serve its reads. -/
def stepGrantable (s : State) (n : Nat) : Bool :=
  let c := chanAt s n
  c.st = .run && s.dev.state.hostMemory &&
    match c.run with
    | some r => !r.granted && r.status.isNone && entriesNow s + entriesLacking s c r ≤ 8192 &&
      entriesLacking s c r ≤ copyFree s .other && !(c.held && !(heldRooms s r).isEmpty) &&
      (!r.d.readsAtOnce || tileServed s (mDmw n) (stepTile s r))
    | none => false

/-- A channel takes the entries of its next step, which the rotation of R491 notes. -/
def takeEntries (n e : Nat) (s : State) : State :=
  let s := modChan n (fun c => { c with entries := e }) s
  { s with dmw := { s.dmw with peak := max s.dmw.peak (entriesNow s), lastGrant := vset s.dmw.lastGrant (chanAt s n).prio n } }

/-- A step is held for a restore: it keeps its entries, and its reads have their place in the order of arrival (R485; 08_startup_restore
R311, R312). -/
def holdStep (n : Nat) (r : DescRun) (s : State) : State :=
  let k := s.sav.restore.arrivals
  let s := takeEntries n (stepEntries s r) (modChan n (fun c => { c with held := true, heldReads := heldReadsOf s r, arrival := k }) s)
  { s with sav := { s.sav with restore := { s.sav.restore with arrivals := k + 1 } } }

/-- A step begins once it has passed R483 and its Rooms are there (R485): the entries are held, and what the operation does
at the start of its step happens. A CHECK of DRAM alone reads its whole step here. -/
def beginStep (n : Nat) (r : DescRun) (unreadable : Bool) (s : State) : State :=
  let e := stepEntries s r
  let s := takeEntries n e { s with dmw := { s.dmw with ch := vmod s.dmw.ch n fun c => { c with held := false, heldReads := [] } } }
  let t := stepTile s r
  let r := { r with granted := true }
  if r.d.op = 4 then
    let x := fetchImage s t unreadable
    modDesc n (fun _ => { r with image := x.1, add1 := x.2, slot := (mapEntry s t).slot }) s
  else if r.d.op = 5 ∧ r.d.verify = true then
    modDesc n (fun _ => { r with watch := if (tileAt s t).st = .clean then [t] else [] }) s
  else if r.d.op = 5 then
    let s := tileAccess t s
    let x := checkBeats s e ((srcDpa s r.d + r.cursor) / beatBytes) (r.crc, 0)
    endStep n (modDesc n (fun _ => { r with crc := x.1, add1 := x.2 }) s)
  else if r.d.op = 3 then settleStep n (modDesc n (fun _ => r) s)
  else modDesc n (fun _ => r) s

/-- Grant the next step of a channel (R483, R485, R491): PROT when a Room fails; an access to a Room whose restore has not ended starts its
demand fetch, and holds the step where it has to wait (08_startup_restore R311). -/
def grantStep (n : Nat) (unreadable : Bool) (s : State) : State :=
  match (chanAt s n).run with
  | none => s
  | some r =>
    let rooms := stepRooms s r
    if rooms.any (roomFails s) then
      modDesc n (fun r => { r with status := some 5 }) (raiseDesc dmwProt n (modChan n (fun c => { c with entries := 0, held := false }) s))
    else
      let s := rooms.foldl (fun s x => demandFetch x s) s
      if !(heldRooms s r).isEmpty then holdStep n r s else beginStep n r unreadable s

/-- DMW_STEP_GRANT (R490, R491): steps of STOW and CHECK VERIFY that have finished end; then the first channel in order
whose entries are free gets its next step. `unreadable` tells that the copy which a FETCH step reads fails decode
after read-retry. -/
def execDmwStepGrant (unreadable : Bool) (s : State) : Res :=
  let s := (List.range 16).foldl (fun s n => settleStep n s) s
  match (grantOrder s).find? (stepGrantable s) with
  | some n => .next (grantStep n unreadable s)
  | none => .next s

/-! ### Acceptance and completion (R484 to R487, R495) -/

/-- The data and poison mark that the next write of a step carries (R487). -/
def stepBeat (s : State) (r : DescRun) : List Byte × Bool :=
  let o := r.cursor + r.stepDone
  if r.d.op = 2 then ((List.replicate 8 (leBytes 8 r.d.pattern)).flatten, false)
  else if r.d.op = 4 then
    let i := r.stepDone / beatBytes
    ((List.range beatBytes).map fun k => tget 0 r.image.bytes (i * beatBytes + k), tget false r.image.poison i)
  else
    let b := (srcDpa s r.d + o) / beatBytes
    let t := b * beatBytes / tileBytes
    if tileClass s t = .volatile && (tileAt s t).st = .clean then (List.replicate beatBytes 0, false)
    else (dramBytes s.dram b, dramPoison s.dram b)

/-- The next write of a channel has its data in staging and an entry of its bank queue (R211, R484): the DRC serves the read of a COPY, and
the write takes an entry. -/
def writeReady (s : State) (ch : Nat) (r : DescRun) : Bool :=
  let o := r.cursor + r.stepDone
  (r.d.op ≠ 1 || beatServed s (mDmw ch) ((srcDpa s r.d + o) / beatBytes)) && entersNow s (mDmw ch) ((dstDpa s r.d + o) / beatBytes)

/-- The next write of a channel is accepted (R484): it reaches its tile; the step ends with its last write. -/
def acceptDmw (ch : Nat) (r : DescRun) (s : State) : State :=
  let s := if r.d.op = 1 then beatAccess ((srcDpa s r.d + r.cursor + r.stepDone) / beatBytes) s else s
  let x := stepBeat s r
  let beat := (dstDpa s r.d + r.cursor + r.stepDone) / beatBytes
  let w : BeatWrite := { beat := beat, data := x.1, enables := allEnables, poison := x.2 }
  let s := acceptBeat (mDmw ch) w none 2 s
  let s := modDesc ch (fun r => { r with stepDone := r.stepDone + beatBytes, add0 := r.add0 + b2n x.2,
                                         claimed := false }) s
  if stepLen s r ≤ r.stepDone + beatBytes then endStep ch s else s

/-- DMW_WRITE_ACCEPT (R484, R485): the next write of the granted step, in ascending order. Into an Unwritten volatile tile it
waits for the fill (R191); on a Clean tile it presents its claim (R210, R231). -/
def execDmwWriteAccept (ch : Nat) (s : State) : Res :=
  match (chanAt s ch).run with
  | none => .next s
  | some r =>
    if ch < 16 ∧ r.granted = true ∧ r.d.usesDst = true ∧ s.dev.state.hostMemory = true ∧ (chanAt s ch).stalled = false then
      let t := (dstDpa s r.d + r.cursor + r.stepDone) / tileBytes
      if tileClass s t = .volatile && (tileAt s t).st = .clean then
        .next (modChan ch (fun c => { c with held := true, heldReads := [] }) s)
      else
        let s := modChan ch (fun c => { c with held := false }) s
        if !writeReady s ch r then
          .next (if r.d.op = 1 then callSubch (subchOf s ((srcDpa s r.d + r.cursor + r.stepDone) / beatBytes)).toList s else s)
        else
        match suiteOf s (tileSuite s t) with
        | none => .next s
        | some c =>
          if !(tileClass s t).saved || r.claimed then .next (acceptDmw ch r s)
          else
            match claimVerdict s t c with
            | .grant => .next (acceptDmw ch r (grantClaim t false s))
            | .expose => .next (acceptDmw ch r (grantClaim t true s))
            | .stall => .next (stallClaim none ch t c.cfg.id (modChan ch (fun c => { c with stalled := true }) s))
    else .next s

/-- DMW_DESCRIPTOR_COMPLETE (R495, R498): the descriptor in progress whose last step has ended, or which a step has failed,
completes; that of a FENCED channel waits for RESUME (R492, R493). -/
def execDmwDescriptorComplete (ch : Nat) (s : State) : Res :=
  let s := settleStep ch s
  match (chanAt s ch).run with
  | none => .next s
  | some r =>
    match r.status with
    | some x =>
      .next (if ch < 16 ∧ s.dev.state.hostMemory = true ∧ (chanAt s ch).st ≠ .fenced then dmwFinish ch x r s else s)
    | none => .next s

end Sys2Proof.Machine
end

