-- ==== Sys2Proof/Machine/OpsCode.lean ====
section
/-! DEFINITION. The DRAM code (04_dram R155 to R158): arithmetic in GF(2⁸), the Reed-Solomon code of 80 symbols, the symbols of a
beat on its devices, and the decoder. -/

namespace Sys2Proof.Machine

/-! ### GF(2⁸) with field polynomial 0x11D (R155) -/

/-- Multiply by α = 2. -/
def gfTwice (a : Byte) : Byte := if a.getLsbD 7 then (a <<< 1) ^^^ 0x1D#8 else a <<< 1

/-- Product, over the low `n` bits of the second factor. -/
def gfMulBits : Nat → Byte → Byte → Byte
  | 0, _, _ => 0
  | n + 1, a, b => (if b.getLsbD 0 then a else 0) ^^^ gfMulBits n (gfTwice a) (b >>> 1)

/-- Product in the field. -/
def gfMul (a b : Byte) : Byte := gfMulBits 8 a b

/-- Power of an element. -/
def gfPow (a : Byte) : Nat → Byte
  | 0 => 1
  | n + 1 => gfMul a (gfPow a n)

/-- αⁿ. -/
def gfExp : Nat → Byte
  | 0 => 1
  | n + 1 => gfTwice (gfExp n)

/-- Inverse of an element other than 0: its 254th power. -/
def gfInv (a : Byte) : Byte := gfPow a 254

/-! ### The code (R155) -/

/-- Data symbols, check symbols and symbols of a beat. -/
def dataSymbols : Nat := 64
def checkCount : Nat := 16
def codeSymbols : Nat := 80

/-- Multiply a polynomial, highest coefficient first, by (x + r). -/
def polyRoot (r : Byte) (p : List Byte) : List Byte :=
  List.zipWith (· ^^^ ·) (p ++ [0]) (0 :: p.map (gfMul r))

/-- The generator polynomial, with roots α⁰ to α¹⁵, highest coefficient first. -/
def generator : List Byte := (List.range checkCount).foldl (fun p i => polyRoot (gfExp i) p) [1]

/-- One step of the division by the generator: the register of 16 symbols takes in one data symbol. -/
def checkStep (reg : List Byte) (d : Byte) : List Byte :=
  let f := reg.headD 0 ^^^ d
  List.zipWith (· ^^^ ·) (reg.drop 1 ++ [0]) ((generator.drop 1).map (gfMul f))

/-- The 16 check symbols of 64 data symbols (assumption 102: the data symbols stand above the check symbols). -/
def checkSymbols (data : List Byte) : List Byte := data.foldl checkStep (List.replicate checkCount 0)

/-- Value of a word of the code at a power of α: its syndrome there. The word is highest coefficient first. -/
def syndromeAt (word : List Byte) (j : Nat) : Byte := word.foldl (fun a c => gfMul a (gfExp j) ^^^ c) 0

/-- The 16 syndromes of a word. -/
def syndromes (word : List Byte) : List Byte := (List.range checkCount).map (syndromeAt word)

/-- The locator of a symbol: symbol 0 is the highest coefficient. -/
def locator (i : Nat) : Byte := gfExp (codeSymbols - 1 - i)

/-- The poison pattern, in check-symbol order (R158). -/
def poisonPattern : List Byte :=
  [0x96, 0x3C, 0x5A, 0xE1, 0x0F, 0xD2, 0x78, 0x4B, 0xB4, 0x87, 0x2D, 0xF0, 0x1E, 0xC3, 0x69, 0xA5]

/-- The word that a poison mark adds to a word of the code (R158). -/
def poisonWord : List Byte := List.replicate dataSymbols 0 ++ poisonPattern

/-! ### Symbols on devices (R156) -/

/-- Device of a code symbol: 8 symbols a device on x4, 16 on x8. -/
def symbolDevice (t : Topology) (i : Nat) : Nat := if t.devWidth = 4 then i / 8 else i / 16

/-- Symbols that one device carries. -/
def deviceSymbols (t : Topology) (d : Nat) : List Nat :=
  let n := if t.devWidth = 4 then 8 else 16
  (List.range n).map fun k => n * d + k

/-- The DQ bits of 32 in the burst's transfer `b`: byte 4b + DQ ÷ 8 of the beat (assumption 102). -/
def dqBit (bytes : List Byte) (b dq : Nat) : Bool := (bytes.getD (4 * b + dq / 8) 0).getLsbD (dq % 8)

/-- A symbol of four DQ bits of a device in transfers 2k and 2k + 1 (R156, x4): the earlier transfer is the low half (assumption
102). -/
def symbolX4 (bytes : List Byte) (d k : Nat) : Byte :=
  let half := fun b => (List.range 4).foldl (fun a i => if dqBit bytes b (4 * d + i) then a + 2 ^ i else a) 0
  BitVec.ofNat 8 (half (2 * k) + 16 * half (2 * k + 1))

/-- The 64 data symbols of a beat (R156): on x4 symbol 8d + k of device d, on x8 symbol 16d + transfer. -/
def symbolsOf (t : Topology) (bytes : List Byte) : List Byte :=
  (List.range dataSymbols).map fun i =>
    if t.devWidth = 4 then symbolX4 bytes (i / 8) (i % 8) else bytes.getD (4 * (i % 16) + i / 16) 0

/-- The 64 bytes that data symbols spell (R156). -/
def bytesOf (t : Topology) (sy : List Byte) : List Byte :=
  (List.range beatBytes).map fun i =>
    if t.devWidth = 4 then
      let b := i / 4
      let lane := i % 4
      let nibble := fun d => (sy.getD (8 * d + b / 2) 0).toNat / (if b % 2 = 0 then 1 else 16) % 16
      BitVec.ofNat 8 (nibble (2 * lane) + 16 * nibble (2 * lane + 1))
    else sy.getD (16 * (i % 4) + i / 4) 0

/-- The check symbols that the array stores with a beat, on CB0 to CB7 (R155, R158): those of its data, exclusive-ORed with the
poison pattern where the beat is marked. -/
def storedCheck (t : Topology) (d : Dram) (beat : Nat) : List Byte :=
  let c := checkSymbols (symbolsOf t (dramBytes d beat))
  if dramPoison d beat then List.zipWith (· ^^^ ·) c poisonPattern else c

/-! ### The decoder (R157) -/

/-- Errors of a read: symbols below 80 with what each adds, one entry a symbol, none of value 0. -/
def errorWord (errors : List (Nat × Byte)) : List Byte :=
  (List.range codeSymbols).map fun i => ((errors.filter fun e => e.1 = i).map Prod.snd).foldl (· ^^^ ·) 0

/-- Symbols of a word that are not 0. -/
def wordSupport (w : List Byte) : List Nat := (List.range w.length).filter fun i => w.getD i 0 ≠ 0

/-- An error pattern that item 3 of R157 accepts: on x4 at most 8 symbols of one device, on x8 a single symbol. -/
def acceptable3 (t : Topology) (e : List Nat) : Bool :=
  if t.devWidth = 4 then e.length ≤ 8 && e.all fun i => symbolDevice t i = symbolDevice t (e.headD 0)
  else e.length ≤ 1

/-- Strike a locator out of a sequence of syndromes: what a symbol there adds vanishes, and the sequence is one shorter. -/
def strike (s : List Byte) (x : Byte) : List Byte := List.zipWith (fun a b => b ^^^ gfMul x a) s (s.drop 1)

/-- The errors at given symbols that syndromes tell of; none where no errors at those symbols alone give them. -/
def solveAt (syn : List Byte) (at_ : List Nat) : Option (List (Nat × Byte)) :=
  if (at_.foldl (fun s i => strike s (locator i)) syn).all (· = 0) then
    some (at_.map fun i =>
      let others := at_.filter (· ≠ i)
      let left := (others.foldl (fun s k => strike s (locator k)) syn).headD 0
      let scale := others.foldl (fun p k => gfMul p (locator i ^^^ locator k)) 1
      (i, gfMul left (gfInv scale)))
  else none

/-- The acceptable error pattern that a syndrome decodes to (R157 item 3): one device on x4, one symbol on x8. No syndrome has two,
since two words of the code differ in at least 17 symbols. -/
def decodeSyndrome (t : Topology) (syn : List Byte) : Option (List (Nat × Byte)) :=
  if t.devWidth = 4 then (List.range 10).findSome? fun d => solveAt syn (deviceSymbols t d)
  else (List.range codeSymbols).findSome? fun i => solveAt syn [i]

/-- What the decoder makes of a read (R157). `corrected` names the device, and what it takes for the errors. -/
inductive Decoded where
  | clean | poisoned | corrected (device : Nat) (fix : List Byte) | uncorrectable
  deriving DecidableEq, Repr

/-- The decoder's classes in the order of R157, for what the read adds to a word of the code. -/
def decodeWord (t : Topology) (added : List Byte) : Decoded :=
  let syn := syndromes added
  let poison := syndromes poisonWord
  let fixed := fun (l : List (Nat × Byte)) => wordSupport (errorWord l)
  if syn.all (· = 0) then .clean
  else if syn = poison then .poisoned
  else
    match decodeSyndrome t syn with
    | some l => .corrected (symbolDevice t ((fixed l).headD 0)) (errorWord l)
    | none =>
      match decodeSyndrome t (List.zipWith (· ^^^ ·) syn poison) with
      | some _ => .poisoned
      | none => .uncorrectable

/-- The decoder on a beat that is marked or not, with the errors of the read (R157, R158). A word of the code has syndrome 0, so only
what is added to it counts: the poison word and the errors. Where the errors are a pattern that item 3 accepts they are the one
pattern that their syndrome decodes to, and beside a mark item 4 finds them (R158: a marked beat never decodes as clean or corrected);
any other errors go through the syndromes. -/
def classify (t : Topology) (mark : Bool) (errors : List (Nat × Byte)) : Decoded :=
  let e := errorWord errors
  let at_ := wordSupport e
  if at_.isEmpty then (if mark then .poisoned else .clean)
  else if acceptable3 t at_ then (if mark then .poisoned else .corrected (symbolDevice t (at_.headD 0)) e)
  else decodeWord t (if mark then List.zipWith (· ^^^ ·) e poisonWord else e)

/-- The bytes that a read gives when the decoder takes its errors for a fix: the stored bytes with what the errors and the fix
together leave (R157, R159). -/
def readBytes (t : Topology) (stored : List Byte) (errors : List (Nat × Byte)) (fix : List Byte) : List Byte :=
  let left := List.zipWith (· ^^^ ·) (errorWord errors) fix
  if left.all (· = 0) then stored else bytesOf t (List.zipWith (· ^^^ ·) (symbolsOf t stored) left)

/-- The fix of a decoder that takes a read for clean. -/
def noFix : List Byte := List.replicate codeSymbols 0

end Sys2Proof.Machine
end

