-- ==== Sys2Proof/Machine/Dram.lean ====
section
/-! DEFINITION. The commands of the DRAM controller (04_dram): training, calibration, the scheduler, refresh,
self-refresh, reads under the DRAM code, the patrol. -/

namespace Sys2Proof.Machine

/-! ### Training (R124 to R128) -/

/-- A training record is usable: its CRC8 is correct and its SPEED_MTS is the configured rate (R125). -/
def recordUsable (t : Topology) (r : List Byte) : Bool :=
  r.length = 16 && crc8 (r.take 14) = r.getD 14 0 && leNat ((r.drop 12).take 2) = t.speed

/-- A training record in the layout of Table 04-3: the delays and codes that training found, SPEED_MTS of the configured rate, the
CRC8, and the reserved byte 0 (R124). -/
def sealRecord (t : Topology) (r : List Byte) : List Byte :=
  let b := padTo 12 r ++ leBytes 2 t.speed
  b ++ [crc8 b, 0]

/-- The usable record sources of a subchannel, in the order of R125, as SC_STATUS.SEED_SRC codes them. -/
def seedSources (s : State) (sc : Nat) : List Nat :=
  let t := s.plan.topo
  let attic := alookup s.cal.trainTopo sc = some t && recordUsable t (tget [] s.cal.training sc)
  let seed := t.seedValid.testBit sc && recordUsable t (t.seeds.getD sc [])
  (if attic then [2] else []) ++ (if seed then [1] else []) ++ [0]

/-- The source of attempt `n`, counted from 0: the order of R125, the third from the built-in defaults (R126). -/
def seedOf (s : State) (sc n : Nat) : Nat := if 2 ≤ n then 0 else (seedSources s sc).getD n 0

/-- Refresh due times as they start, with no debt: the bank indices of a logical rank one tREFI ÷ 4 of its rate apart (R143, R153).
The first of them is one such step ahead, alike in all logical ranks (DESIGN CHOICE: assumption 107). -/
def freshRefresh (s : State) (c : Subch) : Table RefreshIdx :=
  (allIdx s).foldl (fun t i =>
    tset {} t (i.1 * 4 + i.2) { due := (c.clockNs : Int) + ((i.2 + 1) * (trefi s c i.1 / 4) : Nat) }) []

/-- Training passed: the record is in use, stored in the Attic with its Topology Wing (R126, R128), and the periods of the
calibrations begin (R130). -/
def trainPass (sc : Nat) (record : List Byte) (s : State) : State :=
  let r := sealRecord s.plan.topo record
  let s := modSubch sc (fun c => { c with trained := true, train := r, trainFine := (r.getD 7 0).toNat, refresh := freshRefresh s c,
                                          zqAt := s.almanac, dqsAt := s.almanac,
                                          mr4At := (List.range (logicalRanks s)).map fun k => (k, s.almanac) }) s
  { s with cal := { s.cal with training := tset [] s.cal.training sc r, trainTopo := aset s.cal.trainTopo sc s.plan.topo } }

/-- The subchannel is excluded after three failures: Rooms impaired, TRAIN_FAIL, replace reason DRAM (R126, R127). -/
def trainExclude (sc : Nat) (s : State) : State :=
  let s := modSubch sc (fun c => { c with failed := true }) s
  let es := tmap {} (fun r (e : ChartEntry) => { e with impaired := e.impaired || planImpaired s r }) s.cht.entries
  setReason 0 (raise drcTrainFail { s with cht := { s.cht with entries := es } })

/-- TRAINING_ATTEMPT_END (R125 to R128): in BOOT with the rails valid, on a populated subchannel still in training. -/
def execTrainingAttemptEnd (sc : Nat) (pass : Bool) (record : List Byte) (s : State) : Res :=
  let c := subchAt s sc
  if s.dev.state = .boot && s.drc.railsValid && populated s sc && !c.trained && !c.failed then
    let src := seedOf s sc c.tries
    let s := modSubch sc (fun c => { c with tries := c.tries + 1, seedSrc := src }) s
    if pass then .next (trainPass sc record s)
    else if c.tries + 1 < 3 then .next s
    else .next (trainExclude sc s)
  else .next s

/-! ### Real-time port (R140) -/

/-- LEVEL of the real-time port: 0 normal, 1 urgent, 2 panic; panic from the Fence on (R140, R167). -/
def rtLevel (s : State) : Nat :=
  let n := s.plk.rt.length
  if s.dev.state = .fenced then (if n = 0 then 0 else 2)
  else if s.drc.panic * 256 ≤ n then 2 else if s.drc.urgent * 256 ≤ n then 1 else 0

/-! ### Refresh (R143 to R147) -/

/-- Numbers of the eight banks of a bank index of a logical rank (R123, R138). -/
def idxBanks (r b : Nat) : List Nat := (List.range 8).map fun g => r * 32 + g * 4 + b

/-- No request waits for a bank of a bank index, real-time requests included (R144, Table 04-7). -/
def idxIdle (s : State) (sc r b : Nat) : Bool := !(pool s sc).any fun q => (idxBanks r b).contains (beatBank s q.beat).1

/-- A refresh of a bank index issues: its banks are precharged and its due time moves on; catch-up ends below one
tREFI (R143, R147). -/
def issueRefresh (s : State) (r b : Nat) (c : Subch) : Subch :=
  let t := trefi s c r
  let x := tget {} c.refresh (r * 4 + b)
  let x := { x with due := x.due + t }
  let x := { x with catchup := x.catchup && t ≤ debt c x }
  { c with refresh := tset {} c.refresh (r * 4 + b) x,
           banks := (idxBanks r b).foldl (fun t k => tmod {} t k fun k => { k with openRow := none, hitStreak := 0 })
                      c.banks }

/-- Class 1 of a bank index: catch-up, or debt at the allowance (R144, R147). -/
def refreshForced (s : State) (c : Subch) (r b : Nat) : Bool :=
  let x := tget {} c.refresh (r * 4 + b)
  x.catchup || ((c.clockNs : Int) - x.due ≥ 0 && s.drc.refLimit * trefi s c r ≤ debt c x)

/-- Class 5 of a bank index: due and idle unless the port is at panic, or pulled in while it is normal (R144,
R145). -/
def refreshDue (s : State) (sc r b : Nat) : Bool :=
  let c := subchAt s sc
  let x := tget {} c.refresh (r * 4 + b)
  let ahead := x.due - (c.clockNs : Int)
  idxIdle s sc r b &&
    ((ahead ≤ 0 && rtLevel s ≠ 2) || (0 < ahead && ahead < ((s.drc.pullin * trefi s c r : Nat) : Int) && rtLevel s = 0))

/-- A forced refresh issues and is counted, unless it is a catch-up (R144, DRC_REFCNT). -/
def forceRefresh (sc r b : Nat) (s : State) : State :=
  let x := tget {} (subchAt s sc).refresh (r * 4 + b)
  let s := modSubch sc (issueRefresh s r b) s
  if x.catchup then s else { s with drc := { s.drc with forced := satInc 0xFFFF s.drc.forced } }

/-- Largest debt over the bank indices, ns (SC_DEBT). -/
def maxDebt (s : State) (c : Subch) : Nat :=
  (allIdx s).foldl (fun m i => max m (debt c (tget {} c.refresh (i.1 * 4 + i.2)))) 0

/-- Entry to double rate: bank indices past the halved allowance enter catch-up (R147). -/
def enterDouble (sc r : Nat) (s : State) : State :=
  let c := subchAt s sc
  let past := (List.range 4).filter fun b =>
    let x := tget {} c.refresh (r * 4 + b)
    !x.catchup && s.drc.refLimit * 1950 < debt c x
  let s := modSubch sc (fun c => { c with
      rate2x := if c.rate2x.contains r then c.rate2x else c.rate2x ++ [r],
      refresh := past.foldl (fun t b => tmod {} t (r * 4 + b) fun x => { x with catchup := true }) c.refresh }) s
  { s with drc := { s.drc with catchups := satAdd 0xFFFF s.drc.catchups past.length } }

/-- Bank indices past the halved allowance in the logical ranks of a subchannel that are not yet at double rate (R147). -/
def pastHalved (s : State) (c : Subch) : List Nat :=
  ((allIdx s).filter fun i =>
    let x := tget {} c.refresh (i.1 * 4 + i.2)
    c.trained && !c.selfRef && !c.rate2x.contains i.1 && !x.catchup && s.drc.refLimit * 1950 < debt c x).map
      fun i => i.1 * 4 + i.2

/-- FORCE_2X goes to 1: every logical rank enters double rate (R146, R147). -/
def forceDouble (s : State) : State :=
  let n := (s.drc.subch.toList.map fun c => (pastHalved s c).length).foldl (· + ·) 0
  { s with drc := { s.drc with
      subch := s.drc.subch.map fun c =>
        { c with refresh := (pastHalved s c).foldl (fun t k => tmod {} t k fun x => { x with catchup := true }) c.refresh },
      catchups := satAdd 0xFFFF s.drc.catchups n } }

/-- A subchannel has a logical rank at double rate (R146). -/
def atDouble (s : State) (c : Subch) : Bool := (s.drc.force2x && c.trained) || !c.rate2x.isEmpty

/-! ### What may issue, by class (R134 to R138, R150) -/

/-- Every request of the DRC that has not executed. -/
def allRequests (s : State) : List DrcReq := (s.drc.subch.toList.flatMap fun c => c.queue) ++ s.plk.rt.map rtReq

/-- A request of a pool may execute: no request of its source was issued before it, on any subchannel, and none to its beat took its
entry before it (R134, R135). -/
def runnable (s : State) (sc : Nat) (q : DrcReq) : Bool :=
  q.entered.isSome && !((allRequests s).any fun p => p.src = q.src && p.seq < q.seq) &&
    !((pool s sc).any fun p => p.beat = q.beat && p.entered.getD 0 < q.entered.getD 0)

/-- A request hits the open row of its bank. -/
def rowHit (s : State) (c : Subch) (q : DrcReq) : Bool :=
  let k := beatBank s q.beat
  (tget {} c.banks k.1).openRow = some k.2

/-- A request for another row waits in a bank. -/
def otherRow (s : State) (sc : Nat) (bank : Nat) : Bool :=
  (pool s sc).any fun p => (beatBank s p.beat).1 = bank && !rowHit s (subchAt s sc) p

/-- The hits of a bank may go on: below ROW_HIT_CAP, or no request for another row waits (R138). Every column command since the row
was opened counts, also those issued before such a request waited; with a cap of 0 one command may follow each activate, so that a row
is not opened for nothing (DESIGN CHOICE: assumption 103). -/
def hitAllowed (s : State) (sc : Nat) (q : DrcReq) : Bool :=
  let b := (beatBank s q.beat).1
  (tget {} (subchAt s sc).banks b).hitStreak < max 1 s.drc.rowHitCap || !otherRow s sc b

/-- What a class of Table 04-6 issues beside requests. -/
inductive DrcWork where
  /-- A same-bank refresh of a bank index of a logical rank. -/
  | refresh (r b : Nat)
  /-- The directed refresh management command that a bank owes. -/
  | rfm (bank : Nat)
  /-- A calibration (Table 04-5). -/
  | cal (kind : Nat)
  deriving DecidableEq, Repr

/-- The oldest item (R137); the first in the list among equals. -/
def oldest {α : Type} : List (Int × α) → Option (Int × α)
  | [] => none
  | a :: r => match oldest r with | some b => if b.1 < a.1 then some b else some a | none => some a

/-- Due time of a bank index. -/
def dueAt (c : Subch) (i : Nat × Nat) : Int := (tget {} c.refresh (i.1 * 4 + i.2)).due

/-- Class 1: forced refresh, catch-up, forced calibration (Table 04-6). -/
def class1 (s : State) (sc : Nat) : List (Int × DrcWork) :=
  let c := subchAt s sc
  (((allIdx s).filter fun i => refreshForced s c i.1 i.2).map fun i => (dueAt c i, DrcWork.refresh i.1 i.2)) ++
    c.forcedCal.map fun d => ((d.sinceNs : Int), DrcWork.cal d.kind)

/-- Class 2: banks that owe a refresh management command and have a request waiting for an activate (R150). -/
def class2 (s : State) (sc : Nat) : List (Int × DrcWork) :=
  let c := subchAt s sc
  c.banks.filterMap fun b =>
    match b.2.owesRfm with
    | some t => if (pool s sc).any fun q => (beatBank s q.beat).1 = b.1 && !rowHit s c q then some ((t : Int), DrcWork.rfm b.1) else none
    | none => none

/-- What a request does next. -/
inductive ReqMove where
  | column | activate
  deriving DecidableEq, Repr

/-- Classes 3 and 4: the oldest real-time request with an issuable command (R137, R141): its column command, or an activate of a row
that no older real-time request of its bank keeps open. -/
def rtMove (s : State) (sc : Nat) : Option (DrcReq × ReqMove) :=
  let c := subchAt s sc
  let mine := (pool s sc).filter fun q => q.src = mPartner
  mine.findSome? fun q =>
    if rowHit s c q then (if runnable s sc q then some (q, .column) else none)
    else if mine.any fun p => p.seq < q.seq && (beatBank s p.beat).1 = (beatBank s q.beat).1 then none
    else some (q, .activate)

/-- Class 3 at panic and class 4 at urgent. -/
def class34 (s : State) (sc : Nat) : Option (DrcReq × ReqMove) := if rtLevel s = 0 then none else rtMove s sc

/-- Class 5: due and pulled-in refresh into idle bank indices, the refresh management command of an idle bank, due calibration
(Table 04-6, R150). -/
def class5 (s : State) (sc : Nat) : List (Int × DrcWork) :=
  let c := subchAt s sc
  (((allIdx s).filter fun i => refreshDue s sc i.1 i.2).map fun i => (dueAt c i, DrcWork.refresh i.1 i.2)) ++
    (c.banks.filterMap fun b =>
      match b.2.owesRfm with
      | some t => if (pool s sc).any fun q => (beatBank s q.beat).1 = b.1 then none else some ((t : Int), DrcWork.rfm b.1)
      | none => none) ++
    (if rtLevel s = 0 then c.deferred.map fun d => ((d.sinceNs : Int), DrcWork.cal d.kind) else [])

/-- A command of classes 1 to 4 is issuable: class 5 waits (R137). -/
def aboveClass5 (s : State) (sc : Nat) : Bool :=
  !(class1 s sc).isEmpty || !(class2 s sc).isEmpty || (class34 s sc).isSome

/-- The refresh that the DRC issues before any other command: the oldest item of class 1, or with nothing of classes 1 to 4 issuable
that of class 5, where it is a refresh (R137). -/
def nextRefresh (s : State) (sc : Nat) : Option (Nat × Nat) :=
  match oldest (if aboveClass5 s sc then class1 s sc else class5 s sc) with
  | some (_, .refresh r b) => some (r, b)
  | _ => none

/-- Up to `n` refreshes issue in turn, oldest first (R137, R144, R145). -/
def runRefreshes (sc : Nat) : Nat → State → State
  | 0, s => s
  | n + 1, s =>
    match nextRefresh s sc with
    | none => s
    | some (r, b) => runRefreshes sc n (if refreshForced s (subchAt s sc) r b then forceRefresh sc r b s else modSubch sc (issueRefresh s r b) s)

/-- REFRESH_TICK (R143 to R147): the subchannel's clock moves on, and the refreshes of class 1, then, with nothing of a higher class left,
those of class 5 issue, oldest first, until another item is older. As many issue as the subchannel has bank indices (DESIGN CHOICE:
assumption 107). -/
def execRefreshTick (sc elapsedNs : Nat) (s : State) : Res :=
  if (subchAt s sc).selfRef || !(subchAt s sc).trained then .next s
  else
    let s := modSubch sc (fun c => { c with clockNs := c.clockNs + elapsedNs }) s
    let s := modSubch sc (fun c => { c with debtPeak := min 0xFFFF (max c.debtPeak (maxDebt s c)) }) s
    .next (runRefreshes sc (allIdx s).length s)

/-! ### Calibration (R130, R131) -/

/-- A calibration ended outside the trained window: the previous values stay (R131). -/
def calFail (s : State) : State := raise drcCalFail s

/-- Take the new read-gate fine delay into the trained record (Table 04-3, Table 04-5). -/
def gateAdjust (sc : Nat) (fine : Byte) (s : State) : State :=
  modSubch sc (fun c => { c with train := sealRecord s.plan.topo (patchBytes c.train 7 [fine]) }) s

/-- A read-gate fine delay lies within the trained window: at most 8/64 UI from what training found (R131; DEDUCED: assumption
105). -/
def inWindow (c : Subch) (fine : Byte) : Bool := fine.toNat ≤ c.trainFine + 8 && c.trainFine ≤ fine.toNat + 8

/-- A calibration runs (Table 04-5, R131): the DQS oscillator read gives the read gate a new fine delay, within the trained window; of
the other results the command tells whether they lie within it. -/
def runCal (sc kind : Nat) (c : CalOutcome) (s : State) : State :=
  if !c.ok then calFail s
  else if kind = 1 then (if inWindow (subchAt s sc) c.fine then gateAdjust sc c.fine s else calFail s)
  else s

/-- Calibrations run in every state in which DRAM holds data, on a trained subchannel out of self-refresh (R130, R168). -/
def calRuns (s : State) (sc : Nat) : Bool :=
  poweredState s.dev.state && (subchAt s sc).trained && !(subchAt s sc).selfRef

/-- A calibration that falls due runs at once. -/
def calNow (s : State) (sc : Nat) : Bool := rtLevel s = 0 && !aboveClass5 s sc && (class5 s sc).isEmpty

/-- A calibration that falls due is taken: it runs at once, waits already, or has an entry of maintenance to wait in (R132). Else it stays due
(R133; DESIGN CHOICE: assumption 139). -/
def calTaken (s : State) (sc kind : Nat) : Bool :=
  calNow s sc || (subchAt s sc).deferred.any (fun d => d.kind = kind) || !maintFull s sc

/-- A calibration falls due (R131, R137): it runs now while the real-time port is normal, nothing of a higher class is issuable and no
older item of class 5 is; else it waits, once for each kind. -/
def calDue (sc kind : Nat) (o : CalOutcome) (s : State) : State :=
  if calNow s sc then runCal sc kind o s
  else modSubch sc (fun c => if c.deferred.any (fun d => d.kind = kind) then c
                             else { c with deferred := c.deferred ++ [{ kind := kind, since := s.almanac, sinceNs := c.clockNs }] }) s

/-- ZQ_CAL_DUE (R130, R131): ZQ_MS after the last. -/
def execZqCalDue (sc : Nat) (ok : Bool) (s : State) : Res :=
  if calRuns s sc && calTaken s sc 0 then
    let s := advanceTo ((subchAt s sc).zqAt + s.drc.zqMs * 1000) s
    .next (calDue sc 0 ⟨ok, 0⟩ (modSubch sc (fun c => { c with zqAt := s.almanac }) s))
  else .next s

/-- DQS_OSC_DUE (R130, R131): DQSOSC_MS after the last, the read gate follows the oscillator. -/
def execDqsOscDue (sc : Nat) (fine : Byte) (ok : Bool) (s : State) : Res :=
  if calRuns s sc && calTaken s sc 1 then
    let s := advanceTo ((subchAt s sc).dqsAt + s.drc.dqsMs * 1000) s
    .next (calDue sc 1 ⟨ok, fine⟩ (modSubch sc (fun c => { c with dqsAt := s.almanac }) s))
  else .next s

/-- CAL_DEFER_EXPIRE (R131): a deferred calibration has waited DEFER_MS and becomes a forced item. -/
def execCalDeferExpire (sc kind : Nat) (s : State) : Res :=
  match (subchAt s sc).deferred.find? fun d => d.kind = kind with
  | none => .next s
  | some d =>
    let s := advanceTo (d.since + s.drc.deferMs * 1000) s
    .next (modSubch sc (fun c => { c with deferred := c.deferred.filter fun d => d.kind ≠ kind,
                                          forcedCal := c.forcedCal ++ [d] }) s)

/-- MR4_READ (R146 to R148, R130): MR4_MS after the last read of the rank, what the devices of a logical rank ask for, and their
temperature band. -/
def execMr4Read (sc rank band : Nat) (twox high ok : Bool) (s : State) : Res :=
  if !calRuns s sc || logicalRanks s ≤ rank then .next s
  else
    let c := subchAt s sc
    let s := advanceTo ((alookup c.mr4At rank).getD 0 + s.drc.mr4Ms * 1000) s
    let s := modSubch sc (fun c => { c with mr4At := aset c.mr4At rank s.almanac }) s
    let s := if twox || high then (if s.drc.force2x || c.rate2x.contains rank then
        modSubch sc (fun c => { c with rate2x := if c.rate2x.contains rank then c.rate2x else c.rate2x ++ [rank] }) s
        else enterDouble sc rank s)
      else modSubch sc (fun c => { c with rate2x := c.rate2x.filter (· ≠ rank) }) s
    let moved := (alookup c.bands rank).isSome && alookup c.bands rank ≠ some band
    let put := modSubch sc (fun c => { c with bands := aset c.bands rank band })
    let s := if !moved then put s else if calTaken s sc 2 then calDue sc 2 ⟨ok, 0⟩ (put s) else s
    .next (if high then raise drcTempHigh s else s)

/-! ### Self-refresh (R151 to R154) -/

/-- A request for the subchannel waits: queued, on its way back, or in the partner buffer. -/
def requestsWait (s : State) (sc : Nat) : Bool :=
  !(subchAt s sc).queue.isEmpty || !(subchAt s sc).flight.isEmpty || !(rtMine s sc).isEmpty

/-- SELF_REFRESH_IDLE (R151, R152): after IDLE_US without a request, or in SAVING once the Keeper has read its last data there; with every
request ended. -/
def execSelfRefreshIdle (sc : Nat) (s : State) : Res :=
  let c := subchAt s sc
  let idle := evaluates s.dev.state && s.drc.srIdleUs ≠ 0
  let keeper := s.dev.state = .saving && s.sav.run.isSome && !(keeperNeeds s).contains sc
  if c.trained && !c.selfRef && !requestsWait s sc && (idle || keeper) then
    let s := if idle then advanceTo (c.lastReq + s.drc.srIdleUs) s else s
    .next (modSubch sc (enterSelfRef s) s)
  else .next s

/-- What takes a subchannel out of self-refresh: a request, the Fence, Warm Return (R153, R168); the patrol does not. -/
def exitTrigger (s : State) (sc : Nat) : Bool :=
  let c := subchAt s sc
  c.wake || c.queue.any (fun q => q.src ≠ mDramScrub) || !(rtMine s sc).isEmpty ||
    s.dev.state = .fenced || s.dev.state = .warmReturn

/-- SELF_REFRESH_EXIT (R153, R154): with a recheck; due times restart with no debt. -/
def execSelfRefreshExit (sc : Nat) (ok : Bool) (s : State) : Res :=
  if (subchAt s sc).selfRef && exitTrigger s sc then
    let s := modSubch sc (fun c => { c with selfRef := false, wake := false, lastReq := s.almanac,
                                            refresh := freshRefresh s c }) s
    if ok then .next s
    else
      let s := calFail s
      .next (if s.dev.state = .warmReturn then startRebuild { s with drc := { s.drc with recheckFailed := true } } else s)
  else .next s

/-! ### The scheduler (R134 to R142, R150) -/

/-- Write drain after this slot's requests (R139). -/
def drainNow (s : State) (sc : Nat) : Bool :=
  let p := pool s sc
  let w := (p.filter DrcReq.isWrite).length
  if (subchAt s sc).draining then s.drc.wrLo < w || (w = p.length && 0 < w)
  else s.drc.wrHi ≤ w || w = p.length

/-- A write to a beat has its entry of the bank queue. -/
def writeFollows (s : State) (sc beat : Nat) : Bool := (pool s sc).any fun q => q.isWrite && q.beat = beat

/-- A column command: the request executes and leaves the pool; a write reaches DRAM and frees its host entry (R95, R136), a read is on
its way back, overtaken already where a write entered behind it (R161). A request that waits takes the entry that comes free (R133). -/
def execReq (sc : Nat) (q : DrcReq) (s : State) : State :=
  let k := (beatBank s q.beat).1
  let s := modSubch sc (fun c => { c with queue := c.queue.filter fun p => p.seq ≠ q.seq,
                                          banks := tmod {} c.banks k fun b => { b with hitStreak := b.hitStreak + 1 } }) s
  let s := { s with plk := { s.plk with rt := s.plk.rt.filter fun p => p.seq ≠ q.seq } }
  fillPool sc (match q.kind with
    | .read => modSubch sc (fun c => { c with flight := c.flight ++ [takeFlight s.dram (writeFollows s sc q.beat) q] }) s
    | .write w tag =>
      let s := { s with dram := dramWrite w s.dram }
      match tag with
      | some t => releaseEntry t s
      | none => s)

/-- Make a request's move; with `turn` it is the rotating pick's, whose activates move the pointer (R138). -/
def makeMove (sc : Nat) (turn : Bool) (m : DrcReq × ReqMove) (s : State) : State :=
  match m.2 with
  | .column => execReq sc m.1 s
  | .activate => activate sc (beatBank s m.1.beat).1 (beatBank s m.1.beat).2 turn s

/-- Distance of a bank from the rotating pointer, from 0 for the next bank (R138). -/
def rotation (s : State) (c : Subch) (b : Nat) : Nat :=
  let n := logicalRanks s * 32
  if n = 0 then 0 else (b + n - c.lastBank - 1) % n

/-- Least element of a list under a measure. -/
def argmin {α : Type} (f : α → Nat) : List α → Option α
  | [] => none
  | a :: r => match argmin f r with | some b => if f b < f a then some b else some a | none => some a

/-- The requests of class 6: all but the real-time ones above normal; at panic none in a bank where a real-time request waits
(Table 04-6, R137). -/
def class6Pool (s : State) (sc : Nat) : List DrcReq :=
  let p := pool s sc
  let rtBanks := if rtLevel s = 2 then (p.filter fun q => q.src = mPartner).map fun q => (beatBank s q.beat).1 else []
  p.filter fun q => (q.src ≠ mPartner || rtLevel s = 0) && !rtBanks.contains (beatBank s q.beat).1

/-- The direction of class 6: writes in write drain, else reads; the other one where only that has a request that may execute (R139;
DEDUCED: assumption 103). -/
def direction (s : State) (sc : Nat) (drain : Bool) : Bool :=
  let run := (class6Pool s sc).filter (runnable s sc)
  if run.isEmpty || run.any fun q => q.isWrite = drain then drain else !drain

/-- A row of a bank may be closed for a request: the request may execute, or no request of the pool hits the open row, or those that
hit it are held by ROW_HIT_CAP (R138; DESIGN CHOICE: assumption 103). -/
def mayOpen (s : State) (sc : Nat) (q : DrcReq) : Bool :=
  let c := subchAt s sc
  let b := (beatBank s q.beat).1
  let hits := (pool s sc).filter fun p => (beatBank s p.beat).1 = b && rowHit s c p
  !rowHit s c q && !(hits.any fun p => runnable s sc p && hitAllowed s sc p) &&
    (runnable s sc q || hits.all fun p => runnable s sc p)

/-- The moves of class 6: column commands that may go on, and activates, those of requests that may execute first in each bank. -/
def class6Moves (s : State) (sc : Nat) (dir : Bool) : List (DrcReq × ReqMove) × List (DrcReq × ReqMove) :=
  let c := subchAt s sc
  let p := (class6Pool s sc).filter fun q => q.isWrite = dir
  let cols := p.filter fun q => runnable s sc q && rowHit s c q && hitAllowed s sc q
  let acts := p.filter (mayOpen s sc)
  let acts := acts.filter (runnable s sc) ++ acts.filter fun q => !runnable s sc q
  (cols.map fun q => (q, .column), acts.map fun q => (q, .activate))

/-- The rotating pick (R138): a column command to an open row first, else the activate of the first bank after the pointer; with a
ROW_HIT_CAP of 0 the first bank after the pointer whichever it has. -/
def rotating (s : State) (sc : Nat) (dir : Bool) : Option (DrcReq × ReqMove) :=
  let m := class6Moves s sc dir
  let far := fun (x : DrcReq × ReqMove) => rotation s (subchAt s sc) (beatBank s x.1.beat).1
  if s.drc.rowHitCap = 0 then argmin far (m.1 ++ m.2)
  else match m.1 with | x :: _ => some x | [] => argmin far m.2

/-- Class 6. -/
def class6 (sc : Nat) (s : State) : State :=
  let s := modSubch sc (fun c => { c with draining := drainNow s sc }) s
  match rotating s sc (direction s sc (subchAt s sc).draining) with
  | some m => makeMove sc true m s
  | none => s

/-- Work that is no request issues: a refresh, a refresh management command, a calibration with its outcome. -/
def runWork (sc : Nat) (w : DrcWork) (o : CalOutcome) (s : State) : State :=
  match w with
  | .refresh r b => if refreshForced s (subchAt s sc) r b then forceRefresh sc r b s else modSubch sc (issueRefresh s r b) s
  | .rfm bank => payRfm sc bank s
  | .cal kind =>
    runCal sc kind o (modSubch sc (fun c => { c with forcedCal := c.forcedCal.filter fun d => d.kind ≠ kind,
                                                           deferred := c.deferred.filter fun d => d.kind ≠ kind }) s)

/-- DRC_PICK (R137): one command of the highest class that has one, with the outcome of a calibration that the slot runs. -/
def execDrcPick (sc : Nat) (o : CalOutcome) (s : State) : Res :=
  if (subchAt s sc).selfRef || !(subchAt s sc).trained then .next s
  else
    let s := fillPool sc s
    .next (match oldest (class1 s sc) with
      | some w => runWork sc w.2 o s
      | none =>
        match oldest (class2 s sc) with
        | some w => runWork sc w.2 o s
        | none =>
          match class34 s sc with
          | some m => makeMove sc false m s
          | none =>
            match oldest (class5 s sc) with
            | some w => runWork sc w.2 o s
            | none => class6 sc s)

/-! ### Reads that return (R157 to R161, R165, R166) -/

/-- Count a correction of a beat on a device (R159, R165); over the budget for the first time in a pass: BUDGET and the DRAM
reason (R166). -/
def correction (beat device : Nat) (s : State) : State :=
  match dpaToSubch s (beat * beatBytes) with
  | none => s
  | some (sc, a) =>
    let k := coordOf s.plan.topo a
    let key := (sc, k.rank / s.plan.topo.stack, k.rank % s.plan.topo.stack, device)
    let n := (alookup s.drc.devCounts key).getD 0 + 1
    let vol := (entryAt s (beat * beatBytes / roomBytes)).cls = .volatile
    let s := modSubch sc (fun c => { c with ce := satInc 0xFFFF c.ce }) s
    let d := s.drc
    let past : Bool := d.budget < n && !d.overDevs.contains key
    let s := { s with drc := { d with devCounts := aset d.devCounts key n,
                                      cePers := if vol then d.cePers else satInc 0xFFFFFFFF d.cePers,
                                      ceVol := if vol then satInc 0xFFFFFFFF d.ceVol else d.ceVol,
                                      overDevs := if past then d.overDevs ++ [key] else d.overDevs,
                                      budgetHit := if past && d.budgetHit.isNone then some key else d.budgetHit } }
    if past then setReason 0 (raise drcBudget s) else s

/-- The merge read of a partial write that waits fails or finds a mark: the merged beat will carry the mark (R160). -/
def mergeMark (beat mstr : Nat) (s : State) : State :=
  match subchOf s beat with
  | none => s
  | some sc => modSubch sc (fun c =>
      match c.queue.find? fun q => q.beat = beat && q.isWrite with
      | some q =>
        match q.kind with
        | .write w tag =>
          if q.src = mstr && w.enables ≠ allEnables then
            { c with queue := c.queue.map fun p =>
                if p = q then { p with kind := .write { w with poison := true } tag } else p }
          else c
        | .read => c
      | none => c) s

/-- The bookkeeping of a decoded read of a beat by a master (R159, R161, R163): corrections counted, an uncorrectable beat reported,
what the patrol corrects repaired, what a scan finds noted. `later`: a write to the beat has entered the queue since. -/
def noteRead (beat mstr : Nat) (k : Decoded) (data : List Byte) (later : Bool) (s : State) : State :=
  let s := match k with
    | .clean | .poisoned => s
    | .corrected d _ =>
      let s := correction beat d s
      if mstr = mDramScrub && s.drc.patrolRepair && !later then
        enqueue mDramScrub beat (.write { beat := beat, data := data, enables := allEnables, poison := false } none) s
      else s
    | .uncorrectable => watchRecord (beat * beatBytes) 3 0 (uncorrectable beat mstr later s)
  if s.hst.scanning && mstr = mDramScrub && (k = .poisoned || k = .uncorrectable) then
    { s with hst := { s.hst with scanResults := s.hst.scanResults ++ [beat] } }
  else s

/-- The host read behind a DRAM read is answered and its entry freed (R93, R95, R101). -/
def answerReturn (seq : Nat) (data : List Byte) (poison : Bool) (s : State) : State :=
  match s.hst.reads.find? fun r => r.req = some seq with
  | none => s
  | some r =>
    let s := { s with hst := { s.hst with reads := s.hst.reads.filter fun r => r.req ≠ some seq } }
    admitReads s.hst.readsWaiting.length (emit (.readData r.tag data poison) s)

/-- An issued read returns (R134, R157). -/
def returnRead (r : ReadFlight) (errors : List (Nat × Byte)) (s : State) : State :=
  let t := s.plan.topo
  let k := classify t r.mark errors
  let data := match k with
    | .corrected _ fix => readBytes t r.data errors fix
    | .clean => readBytes t r.data errors noFix
    | .poisoned => if r.mark then r.data else poisonData
    | .uncorrectable => poisonData
  let s := { s with drc := { s.drc with subch := s.drc.subch.map fun c =>
      { c with flight := c.flight.filter fun x => x.seq ≠ r.seq } } }
  answerReturn r.seq data (k = .poisoned || k = .uncorrectable) (noteRead r.beat r.src k data r.overtaken s)

/-- The issued reads of a master. -/
def flightsOf (s : State) (mstr : Nat) : List ReadFlight :=
  s.drc.subch.toList.flatMap fun c => c.flight.filter fun r => r.src = mstr

/-- DRAM_READ_RETURN (R134, R157 to R161): a read of a beat by a master decodes, with the symbols in error. Where the master has issued
reads on their way the oldest of them returns, and no other one; else it is the merge read of its partial write that waits, or one read
of a copy beat, whose copy takes the mark (06_stowing_ceiling R225). -/
def execDramReadReturn (beat mstr : Nat) (errors : List (Nat × Byte)) (s : State) : Res :=
  match (flightsOf s mstr).find? fun r => r.beat = beat with
  | some r =>
    if (flightsOf s mstr).any fun x => x.seq < r.seq then .next s else .next (returnRead r errors s)
  | none =>
    let k := classify s.plan.topo (dramPoison s.dram beat) errors
    let later : Bool := s.drc.lateBeats.contains beat || match subchOf s beat with
      | some sc => (subchAt s sc).queue.any fun q => q.beat = beat && q.isWrite && q.src ≠ mstr
      | none => false
    let copies := fun (s : State) => if mstr = mStow || mstr = mFold || mstr = mSave then poisonInFlight beat s else s
    match k with
    | .uncorrectable => .next (copies (noteRead beat mstr k [] later (mergeMark beat mstr s)))
    | .poisoned =>
      let s := noteRead beat mstr k [] true (mergeMark beat mstr s)
      .next (if dramPoison s.dram beat then s else copies s)
    | _ => .next (noteRead beat mstr k [] true s)

/-! ### Patrol (R162 to R165) -/

/-- Beats of the DPA space. -/
def dramBeats (s : State) : Nat := capacity s.plan.topo / beatBytes

/-- The patrol may read a beat now, or pass over one: state, no throttle stage, its subchannel not in self-refresh, and a maintenance entry
free (R132, R162, R164; 20_power_clocks_thermal R682). -/
def patrolRuns (s : State) (beat : Nat) : Bool :=
  evaluates s.dev.state && stageNow s = 0 &&
    (match subchOf s beat with
     | some sc => !(subchAt s sc).trained || (!(subchAt s sc).selfRef && (entryNow s sc mDramScrub beat).isSome)
     | none => true)

/-- The patrol requests a beat, unless its subchannel is excluded: there is nothing to read there (R126, R162; DEDUCED: assumption 140). -/
def patrolAsk (beat : Nat) (s : State) : State :=
  if (subchOf s beat).any fun sc => (subchAt s sc).trained then enqueue mDramScrub beat .read s else s

/-- No request of the patrol is queued or on its way. -/
def patrolQuiet (s : State) : Bool :=
  s.drc.subch.toList.all fun c => c.queue.all (fun q => q.src ≠ mDramScrub) && c.flight.all fun r => r.src ≠ mDramScrub

/-- The next beat of the patrol, paced or of the scan, enters class 6 as a read of source DRAM scrub; beats of an excluded subchannel are passed
over (R162, R164). -/
def patrolNext (s : State) : State :=
  if s.hst.scanning then
    let b := s.drc.scanBeat
    if patrolRuns s b && b < dramBeats s then
      patrolAsk b { s with drc := { s.drc with scanBeat := b + 1 } }
    else s
  else
    let b := s.drc.patrolBeat
    if s.drc.patrolH ≠ 0 && patrolRuns s b && b < dramBeats s then
      patrolAsk b { s with drc := { s.drc with
        patrolBeat := b + 1, passStart := if s.drc.passStart.isNone then some s.almanac else s.drc.passStart } }
    else s

/-- PATROL_READ (R162 to R164): the oldest issued read of the patrol, where there is one, returns with its symbols in error, and the next
beat is requested. -/
def execPatrolRead (errors : List (Nat × Byte)) (s : State) : Res :=
  .next (patrolNext (match flightsOf s mDramScrub with
    | [] => s
    | r :: l => returnRead (l.foldl (fun a x => if x.seq < a.seq then x else a) r) errors s))

/-- The DRAM replace reason clears: no device over budget, no subchannel excluded in this boot (Table 16-5). -/
def budgetRenew (s : State) : State :=
  let clear := s.drc.overDevs.isEmpty && !s.drc.subch.toList.any fun c => c.failed
  let s := { s with drc := { s.drc with devCounts := [], overDevs := [] } }
  if clear then clearReason 0 s else s

/-- PATROL_PASS_END (R164, R165): once every read of the pass has returned. -/
def execPatrolPassEnd (s : State) : Res :=
  let d := s.drc
  if d.patrolH ≠ 0 && dramBeats s ≤ d.patrolBeat && patrolQuiet s then
    let late := d.patrolH * 3600000000 * 11 / 10 < s.almanac - d.passStart.getD s.almanac
    .next (budgetRenew { s with drc := { d with patrolBeat := 0, patrolLate := d.patrolLate || late,
                                                passStart := some s.almanac } })
  else .next s

/-- CORRECTION_COUNT_24H (R165): with PERIOD_H 0, the count of 24 h of the Almanac ends. A count begins where the last one ended
(DESIGN CHOICE: assumption 106). -/
def execCorrectionCount24h (s : State) : Res :=
  if s.drc.patrolH = 0 then
    let s := advanceTo (s.drc.dayStart + 86400000000) s
    .next (budgetRenew { s with drc := { s.drc with dayStart := s.almanac } })
  else .next s

end Sys2Proof.Machine
end

