-- ==== Sys2Proof/Machine/OpsEcc.lean ====
section
/-! DEFINITION. Shared operations of on-chip integrity (15_onchip_integrity): the outcome of an uncorrectable
byte by region, patch entries. -/

namespace Sys2Proof.Machine

/-! ### Regions (R534, Table 15-3) -/

/-- Bases of the regions in the SRAM address map, with their ends (Table 15-3). -/
def regionTable : List (Nat × Nat) :=
  [(0x0000000, 0x0800000), (0x0800000, 0x1400000), (0x1400000, 0x1A00000), (0x1A00000, 0x1C00000),
   (0x1C00000, 0x1E00000), (0x1E00000, 0x1FDF000), (0x1FDF000, 0x1FFF000), (0x1FFF000, 0x1FFFC00),
   (0x1FFFC00, 0x2000000), (0x2000000, 0x2008000), (0x2010000, 0x2050000)]

/-- REGION of an SRAM address. -/
def regionOf (a : Nat) : Option Nat :=
  let i := regionTable.findIdx fun r => r.1 ≤ a && a < r.2
  if i < 11 then some i else none

/-- The core whose memory holds an address of region 4 (Table 15-3, Table 01-8). -/
def coreOf (a : Nat) : Nat := mSteward + (a - 0x1C00000) / 0x80000

/-- Raise SRAM_UE or FABRIC_PAR; with REGION 8 no level rises above Notify (R553). -/
def raiseSram (c : FClass) (addr master access : Nat) (s : State) : State :=
  if regionOf addr = some 8 then
    let cap := (stationAt s .ecc).cap
    let lvl := (stationAt s .ecc).level
    let s := modStation .ecc (fun x => { x with cap := min cap (max 1 lvl) }) s
    modStation .ecc (fun x => { x with cap := cap }) (raiseAddr c addr master access s)
  else raiseAddr c addr master access s

/-- A core's memory holds an uncorrectable byte (R540): CORE_UE, and the core is held in reset for its reload, at most
5 ms, with the quarantine of the blocks it runs (16_fault_stations R566). -/
def coreUe (core : Nat) (s : State) : State :=
  quarantine (coreBlocks core) 5000 (holdCore core (raiseAddr eccCoreUe 0 core 0 s))

/-- The outcome of an uncorrectable byte by region (Table 15-6). `beat` is the beat that a buffer of regions 2 and 3 holds; the
sizes of the entries of regions 0, 1, 5, 6 and 9 follow from the table's ranges (DEDUCED: assumption 45). -/
def regionOutcome (a : Nat) (beat : Option Nat) (s : State) : State :=
  match regionOf a with
  | some 0 => chartEntryUe (a / 16) s
  | some 1 => tileStateUe (a - 0x800000) s
  | some 2 => match beat with | some b => poisonInFlight b s | none => s
  | some 3 =>
    match beat with
    | some b =>
      let rt := s.plk.rt.map fun (x : RtBeat) => if x.w.beat = b then { x with w := { x.w with poison := true } } else x
      { s with plk := { s.plk with rt := rt } }
    | none => s
  | some 4 => coreUe (coreOf a) s
  | some 5 =>
    let d := (a - 0x1E00000) / 61312
    modDie d (fun x => { x with heldUntil := s.almanac + 10000 }) s
  | some 6 =>
    let h := s.hst
    let i := (a - 0x1FDF000) / 16
    { s with hst := { h with poisonList := h.poisonList.eraseIdx i, poisonOverflow := true,
                             poisonOverflowAt := if h.poisonOverflow then h.poisonOverflowAt else s.almanac } }
  | some 9 => suiteContextUe ((a - 0x2000000) / 32) s
  | some 10 => { s with dmw := { s.dmw with ringBad := tset false s.dmw.ringBad (a - 0x2010000) true } }
  | _ => s

/-- The bytes of a word are written again, or what they held is built anew: their marks are gone (R537). -/
def clearMarks (a : Nat) (s : State) : State :=
  { s with ecc := { s.ecc with marked := (List.range 8).foldl (fun t i => tset false t (a + i) false) s.ecc.marked } }

/-- An uncorrectable byte in SRAM found by a reader (R539, R543): SRAM_UE but for region 4, the region's outcome, and the Keeper
stops when it reads it in SAVING. -/
def sramUe (a master : Nat) (beat : Option Nat) (s : State) : State :=
  let s := if regionOf a = some 4 ∨ regionOf a = none then s else raiseSram eccSramUe a master 1 s
  let s := clearMarks (a / 8 * 8) (regionOutcome a beat s)
  if master = mKeeper then keeperStops s else s

/-! ### Patch entries (R548 to R550) -/

/-- Make an SRAM patch entry for a word, or raise PATCH_FULL with the SRAM patch reason (R548, R550). -/
def patchSram (word : Nat) (s : State) : State :=
  if s.ecc.spatch.contains word then s
  else if s.ecc.spatch.length < 8 then
    let l := s.ecc.spatch ++ [word]
    raiseAddr eccPatchMade (word * 8) mSramScrub 0 { s with ecc := { s.ecc with spatch := l }, cal := { s.cal with spatch := l } }
  else setReason 2 (raiseAddr eccPatchFull (word * 8) mSramScrub 0 s)

/-- Make an Attic patch entry for a word with its decoded value, or raise PATCH_FULL with the Attic patch reason (R549,
R550). -/
def patchAttic (word : Nat) (v : Dword) (s : State) : State :=
  if s.ecc.apatch.length < 8 then
    raiseAddr eccPatchMade (word * 8) mAttic 0 { s with ecc := { s.ecc with apatch := s.ecc.apatch ++ [(word, v)] } }
  else setReason 3 (raiseAddr eccPatchFull (word * 8) mAttic 0 s)

/-! ### The test window (R551) -/

/-- The stored bytes of a word of the test window. -/
def windowWord (e : Ecc) (w : Nat) : List CodedByte := (List.range 8).map fun i => tget {} e.window (w * 8 + i)

/-- Store a word of the test window. -/
def setWindow (w : Nat) (l : List CodedByte) (e : Ecc) : Ecc :=
  { e with window := l.zipIdx.foldl (fun t x => tset {} t (w * 8 + x.2) x.1) e.window }

/-- Byte `i` of ECC_TEST_DATA and its group of ECC_TEST_CHK. -/
def testByte (e : Ecc) (i : Nat) : Byte := (e.testData >>> (8 * i)).setWidth 8
def testGroup (e : Ecc) (i : Nat) : BitVec 5 :=
  if i < 6 then (e.chkLo >>> (5 * i)).setWidth 5 else (e.chkHi >>> (5 * (i - 6))).setWidth 5

/-- Take KIND, WORD and PAR_MASK from a write of ECC_TEST_CTL. -/
def takeTestCtl (v : Word) (s : State) : State :=
  { s with ecc := { s.ecc with kind := v.getLsbD 2, word := (v >>> 4).toNat % 128, parMask := (v >>> 16).setWidth 8 } }

/-- SRAM address of a word of the test window. -/
def windowAddr (w : Nat) : Nat := 0x1FFFC00 + 8 * w

/-- The test write (R551): KIND 0 with the groups of ECC_TEST_CHK; KIND 1 with computed groups and the parity of the PAR_MASK
bytes inverted on the fabric, so that they are stored marked (R535, R537). -/
def testWrite (s : State) : State :=
  let e := s.ecc
  let l := (List.range 8).map fun i =>
    if !e.kind then { data := testByte e i, chk := testGroup e i : CodedByte }
    else if e.parMask.getLsbD i then markByte (testByte e i) else encodeByte (testByte e i)
  let s := { s with ecc := setWindow e.word l e }
  if e.kind && e.parMask ≠ 0 then
    raiseSram eccFabricPar (windowAddr e.word) mHost 2
      { s with ecc := { s.ecc with parity := satInc 0xFFFF s.ecc.parity, parityMstr := mHost } }
  else s

/-- The decoded bytes of a test read; an uncorrectable byte gives an open value (R551; assumption 6). -/
def decodedBytes : List CodedByte → State → List Byte × State
  | [], s => ([], s)
  | b :: r, s =>
    let x := decodeByte b
    let (v, s) := if x.1 = .uncorrectable then
        let f := takeFree s
        ((BitVec.ofNat 8 f.1 : Byte), f.2)
      else (x.2, s)
    let (l, s) := decodedBytes r s
    (v :: l, s)

/-- The test read (R538, R539, R551). -/
def testRead (s : State) : State :=
  let w := s.ecc.word
  let l := windowWord s.ecc w
  let r := worst (l.map fun b => (decodeByte b).1)
  let (data, s) := decodedBytes l s
  let s := { s with ecc := { s.ecc with testData := BitVec.ofNat 64 (leNat data), result := r.code } }
  let s := if l.any fun b => (decodeByte b).1 = .corrected then
      { s with ecc := { s.ecc with ce := satInc 0xFFFF s.ecc.ce } } else s
  if r = .uncorrectable then
    raiseSram eccSramUe (windowAddr w) mHost 1 { s with ecc := { s.ecc with demandUe := satInc 0xFFFF s.ecc.demandUe } }
  else s

end Sys2Proof.Machine
end

