-- ==== Sys2Proof/Machine/Ecc.lean ====
section
/-! DEFINITION. The commands of on-chip integrity (15_onchip_integrity): uncorrectable bytes, fabric parity, core reload, the
scrubbers, the test mode. -/

namespace Sys2Proof.Machine

/-- SRAM_UE (R539, R543, Tables 15-5 and 15-6): a read by a master, not the scrubber, meets an uncorrectable byte. `beat` names
the beat that a staging or partner buffer holds; none for a free buffer. -/
def execSramUe (address master : Nat) (beat : Option Nat) (s : State) : Res :=
  .next (sramUe address master beat { s with ecc := { s.ecc with demandUe := satInc 0xFFFF s.ecc.demandUe } })

/-- The outcome of a parity error by its receiver (Table 15-4). -/
def parityOutcome (sender address : Nat) (r : ParityReceiver) (s : State) : State :=
  match r with
  | .sram data bad =>
    if regionOf address = some 10 then
      let o := address - 0x2010000
      let d := ringWrite o data s.dmw
      let marks := (List.range data.length).foldl (fun t i => if bad.getLsbD i then tset false t (o + i) true else t) d.ringBad
      { s with dmw := { d with ringBad := marks } }
    else if regionOf address = some 8 then
      let o := address - 0x1FFFC00
      let l := data.zipIdx.map fun x => (o + x.2, if bad.getLsbD x.2 then markByte x.1 else encodeByte x.1)
      { s with ecc := { s.ecc with window := l.foldl (fun t x => tset {} t x.1 x.2) s.ecc.window } }
    else
      { s with ecc := { s.ecc with marked := (List.range data.length).foldl (fun t i => tset false t (address + i) (bad.getLsbD i))
                                               s.ecc.marked } }
  | .response requester beat =>
    let s := { s with ecc := { s.ecc with demandUe := satInc 0xFFFF s.ecc.demandUe } }
    let s := match beat with | some b => poisonInFlight b s | none => s
    if requester = mKeeper then keeperStops s
    else if regionOf address = some 4 ∧ coreOf address = requester then coreUe requester s else s
  | .drc beat data enables =>
    acceptBeat sender { beat := beat, data := padTo beatBytes data, enables := enables, poison := true } none 2 s
  | .cel beat => poisonInFlight beat s
  | .register => s
  | .attic bank =>
    match (bankAt s bank).bound with
    | some _ => seqError bank (address % bankBytes) sender (modBank bank (fun k => { k with bound := none }) s)
    | none => s

/-- FABRIC_PARITY_ERROR (R535, Table 15-4): the receiver's outcome, the count and class FABRIC_PAR. -/
def execFabricParityError (sender address : Nat) (receiver : ParityReceiver) (s : State) : Res :=
  let s := { s with ecc := { s.ecc with parity := satInc 0xFFFF s.ecc.parity, parityMstr := sender } }
  .next (raiseSram eccFabricPar address sender 0 (parityOutcome sender address receiver s))

/-- The quarantine that a core's reload began ends 1 µs after the reload (16_fault_stations R566). -/
def endReload (core t : Nat) (s : State) : State :=
  (coreBlocks core).foldl (fun s b => modStation b (fun x =>
    if x.quarUntil = some (t + 1) ∧ s.almanac < t then { x with quarUntil := some (s.almanac + 1) } else x) s) s

/-- CORE_RELOAD (R540): the reload of a core that is held in reset ends, at most 5 ms after it began, and the core starts. -/
def execCoreReload (core : Nat) (s : State) : Res :=
  match alookup s.ecc.reload core with
  | none => .next s
  | some t => .next (endReload core t { s with ecc := { s.ecc with reload := aerase s.ecc.reload core } })

/-! ### The SRAM scrubber (R541, R542, R548) -/

/-- The states in which the SRAM scrubber runs (R541), in BOOT from step 2 on (assumption 47); throttle stage 1 pauses it (20_power_clocks_thermal R682). -/
def sramScrubs (s : State) : Bool :=
  s.ecc.sramMin ≠ 0 && stageNow s = 0 &&
    match s.dev.state with
    | .boot => s.svc.selected
    | .restore | .tenancy | .service | .harbour | .warmReturn => true
    | _ => false

/-- The word after a word in the scrubber's order: the test window is skipped, and so is what lies between the regions; none
after the last (R541). -/
def nextWord (w : Nat) : Option Nat :=
  let n := w + 1
  if n = 0x3FFF80 then some 0x400000
  else if n = 0x401000 then some 0x402000
  else if n = 0x40A000 then none
  else some n

/-- Go on to the next word; after the last the pass ends (R541, R548). -/
def advanceScrub (s : State) : State :=
  let e := s.ecc
  match nextWord e.sramPos with
  | some n => { s with ecc := { e with sramPos := n } }
  | none =>
    { s with ecc := { e with sramPos := 0, sramPasses := (e.sramPasses + 1) % 65536, errPrev := e.errNow, errNow := [] } }

/-- The scrubber has found an error in a word: on the second pass in a row a patch entry is made (R548). -/
def noteWordError (w : Nat) (s : State) : State :=
  let again := s.ecc.errPrev.contains w
  let s := { s with ecc := { s.ecc with errNow := s.ecc.errNow ++ [w] } }
  if again then patchSram w s else s

/-- Words of a pass (R541). -/
def sramWords : Nat := 4231040

/-- A byte of a word is stored marked (R535, R537). -/
def markedWord (s : State) (w : Nat) : Bool := (List.range 8).any fun i => tget false s.ecc.marked (w * 8 + i)

/-- SRAM_SCRUB_READ (R541, R542): the next word of the pass, paced evenly over SRAM_MIN minutes, with what the read finds; a byte that a
parity error has marked is found uncorrectable (R537). -/
def execSramScrubRead (finding : ScrubFinding) (beat : Option Nat) (s : State) : Res :=
  if sramScrubs s then
    let w := s.ecc.sramPos
    let s := advanceTo (s.ecc.sramAt + s.ecc.sramMin * 60000000 / sramWords) s
    let s := { s with ecc := { s.ecc with sramAt := s.almanac } }
    let found : ScrubFinding := if markedWord s w then .uncorrectable else finding
    let s := match found with
      | .clean => s
      | .corrected =>
        noteWordError w { s with ecc := { s.ecc with ce := satInc 0xFFFF s.ecc.ce,
                                                     repaired := satInc 0xFFFF s.ecc.repaired } }
      | .uncorrectable =>
        noteWordError w (sramUe (w * 8) mSramScrub beat
          { s with ecc := { s.ecc with scrubUe := satInc 0xFFFF s.ecc.scrubUe } })
    .next (advanceScrub s)
  else .next s

/-! ### The Attic scrubber (R544, R545) -/

/-- A bank has no operation. -/
def bankIdle (s : State) (b : Nat) : Bool := (bankAt s b).op.isNone && (bankAt s b).prog.isNone

/-- Words of a bank. -/
def bankWords : Nat := 0x100000

/-- Begin a RECOVER that waits, when neither bank has an operation (R545). -/
def beginRecover (s : State) : State :=
  match s.ecc.recoverWait with
  | [] => s
  | (b, sec) :: r =>
    if bankIdle s 0 && bankIdle s 1 && atticOpen s && !s.att.brownout then
      beginErase b sec mAttic .recover { s with ecc := { s.ecc with recoverWait := r } }
    else s

/-- Almanac time at which the next pass is due (R544). -/
def atticDue (s : State) : Nat := s.ecc.atticStart + s.ecc.atticH * 3600000000

/-- Start a pass that is due (R544). -/
def startAtticPass (s : State) : State :=
  { s with ecc := { s.ecc with atticRun := true, atticStart := s.almanac, atticPos0 := 0, atticPos1 := 0,
                               passRecovered := [] } }

/-- The next word that the pass reads: of the bank that is idle and not read through. -/
def nextAttic (s : State) : Option (Nat × Nat) :=
  if s.ecc.atticPos0 < bankWords && bankIdle s 0 then some (0, s.ecc.atticPos0)
  else if s.ecc.atticPos1 < bankWords && bankIdle s 1 then some (1, s.ecc.atticPos1)
  else none

/-- A RECOVER of a sector is wanted, unless this pass has asked for it after a shifted read (Table 15-7). -/
def wantRecover (b sec : Nat) (once : Bool) (s : State) : State :=
  let k := bankSector b sec
  if (once && s.ecc.passRecovered.contains k) || s.ecc.recoverWait.contains (b, sec) then s
  else { s with ecc := { s.ecc with recoverWait := s.ecc.recoverWait ++ [(b, sec)],
                                    passRecovered := s.ecc.passRecovered ++ [k] } }

/-- What the scrubber does with a read result (Table 15-7). -/
def scrubAction (b pos : Nat) (found : Option WordDecode) (v : Option Dword) (s : State) : State :=
  let sec := pos / sectorWords
  match v with
  | none =>
    if mirroredSector sec then wantRecover b sec false s
    else raiseAddr eccAtticLoss (b * bankBytes + pos * 8) mAttic 1
      { s with ecc := { s.ecc with atticLoss := satInc 0xFFFF s.ecc.atticLoss } }
  | some x =>
    match found with
    | some .corrected => { s with ecc := { s.ecc with atticCe := satInc 0xFFFF s.ecc.atticCe } }
    | some .shifted => if mirroredSector sec then wantRecover b sec true s else patchAttic (b * bankWords + pos) x s
    | _ => s

/-- The pass goes on past a word; it ends when both banks are read through. -/
def advanceAttic (b : Nat) (s : State) : State :=
  let e := if b = 0 then { s.ecc with atticPos0 := s.ecc.atticPos0 + 1 } else { s.ecc with atticPos1 := s.ecc.atticPos1 + 1 }
  if bankWords ≤ e.atticPos0 ∧ bankWords ≤ e.atticPos1 then
    { s with ecc := { e with atticRun := false, atticPasses := (e.atticPasses + 1) % 65536 } }
  else { s with ecc := e }

/-- ATTIC_SCRUB_READ (R544, R545): a waiting RECOVER begins; a pass that is due starts; its next word is read. A word with a
patch entry returns its value without decoding. -/
def execAtticScrubRead (reads : List (List Nat)) (s : State) : Res :=
  if evaluates s.dev.state && s.att.scanned && s.ecc.atticH ≠ 0 && stageNow s = 0 then
    let s := beginRecover s
    let s := if s.ecc.atticRun then s else startAtticPass (advanceTo (atticDue s) s)
    match nextAttic s with
    | none => .next s
    | some (b, pos) =>
      let patched := s.ecc.apatch.any fun x => x.1 = b * bankWords + pos
      let found := (readWord (atticWord (bankAt s b) (pos * 8)) reads).map Prod.fst
      let r := readArray mAttic (b * bankBytes + pos * 8) reads s
      .next (advanceAttic b (if patched then r.2 else scrubAction b pos found r.1 r.2))
  else .next s

/-! ### The test mode (R551, R552) -/

/-- ECC_TEST_WRITE (R551): a write of ECC_TEST_CTL with WRITE set; with READ set too, the read follows. -/
def eccTestWrite (value : Word) (s : State) : State :=
  if s.ecc.testBusy then s
  else
    let s := testWrite (takeTestCtl value s)
    (if value.getLsbD 1 then testRead s else s)

/-- ECC_TEST_WRITE (R551): a write of ECC_TEST_CTL with WRITE set; with READ set too, the read follows. -/
def execEccTestWrite (value : Word) (s : State) : Res := .next (eccTestWrite value s)

/-- ECC_TEST_READ (R551): a write of ECC_TEST_CTL with READ set. -/
def eccTestRead (value : Word) (s : State) : State :=
  if s.ecc.testBusy then s else (testRead (takeTestCtl value s))

/-- ECC_TEST_READ (R551): a write of ECC_TEST_CTL with READ set. -/
def execEccTestRead (value : Word) (s : State) : Res := .next (eccTestRead value s)

end Sys2Proof.Machine
end

