-- ==== Sys2Proof/Machine/OpsEnergy.lean ====
section
/-! DEFINITION. Shared operations of the energy pack and the gauge (10_energy_pack R362 to R392, 11_gauge_reckoning
R395 to R413): the look-ups, the state of charge, references, learning, resistance samples, the charger, the
Exercise. Quantities are exact fractions in V, A, Ω, J, C and ‰; each is rounded once, where it is stored or
reported, downwards for energies and upwards for costs. -/

namespace Sys2Proof.Machine

/-! ### Interpolation -/

/-- The straight line through two points. -/
def interp (x x0 y0 x1 y1 : Rat) : Rat := if x1 = x0 then y0 else y0 + (y1 - y0) * (x - x0) / (x1 - x0)

/-- Piecewise linear through points of rising abscissa, clamped to the first and the last (R397). -/
def lin (x : Rat) : List (Rat × Rat) → Rat
  | [] => 0
  | p :: r =>
    match r with
    | [] => p.2
    | q :: _ => if x ≤ p.1 then p.2 else if x ≤ q.1 then interp x p.1 p.2 q.1 q.2 else lin x r

/-- Table 11-3: °C, then k and f_R in hundredths for Li-ion, LiFePO4 and supercapacitors. -/
def tempTable : List (Int × List Nat) :=
  [(-40, [55, 600, 45, 750, 90, 200]), (-20, [70, 400, 60, 500, 95, 150]), (-10, [80, 280, 72, 320, 96, 135]),
   (0, [88, 200, 85, 220, 98, 120]), (10, [95, 140, 94, 150, 100, 110]), (25, [100, 100, 100, 100, 100, 100]),
   (40, [100, 80, 100, 80, 100, 95]), (60, [100, 70, 100, 70, 100, 90])]

/-- A temperature in °C of a reading in quarter degrees. -/
def degrees (q : Int) : Rat := (q : Rat) / 4

/-- k and f_R of a chemistry (Table 11-3). -/
def factorK (chem : Nat) (t : Rat) : Rat :=
  lin t (tempTable.map fun (r : Int × List Nat) => ((r.1 : Rat), ((r.2[2 * (chem - 1)]?).getD 100 : Nat) / 100))
def factorR (chem : Nat) (t : Rat) : Rat :=
  lin t (tempTable.map fun (r : Int × List Nat) => ((r.1 : Rat), ((r.2[2 * (chem - 1) + 1]?).getD 100 : Nat) / 100))

/-! ### Open-circuit voltage (R397, Table 11-1) -/

/-- Table 11-1 as (cell mV, ‰). -/
def builtinOcv (chem : Nat) : List (Nat × Nat) :=
  if chem = 2 then
    [(2500, 0), (3000, 50), (3150, 100), (3220, 200), (3250, 300), (3260, 400), (3280, 500), (3290, 600), (3300, 700),
     (3320, 800), (3340, 900), (3380, 950), (3500, 1000)]
  else
    [(3000, 0), (3450, 50), (3550, 100), (3640, 200), (3700, 300), (3750, 400), (3800, 500), (3860, 600), (3940, 700),
     (4030, 800), (4110, 900), (4150, 950), (4200, 1000)]

/-- The points of a table at one temperature. -/
def points (l : List (Nat × Nat)) : List (Rat × Rat) := l.map fun p => ((p.1 : Rat), (p.2 : Rat))

/-- The temperatures of the entries, each once, in order (R55). -/
def ocvTemps : List OcvEntry → List Int
  | [] => []
  | e :: r => let l := ocvTemps r; if l.contains e.tempC then l else e.tempC :: l

/-- The tables by temperature: the Wing's entries, or the built-in table (R397). -/
def ocvRows (e : Energy) : List (Rat × List (Rat × Rat)) :=
  if e.ocv.isEmpty then [(25, points (builtinOcv e.chem))]
  else (ocvTemps e.ocv).map fun (t : Int) =>
    ((t : Rat), (e.ocv.filter fun o => o.tempC = t).map fun o => ((o.cellMv : Rat), (o.socPermille : Rat)))

/-- A look-up at a temperature: linear between the two nearest temperatures, clamped outside (R397). -/
def atTemp (t : Rat) (f : List (Rat × Rat) → Rat) : List (Rat × List (Rat × Rat)) → Rat
  | [] => 0
  | a :: r =>
    match r with
    | [] => f a.2
    | b :: _ => if t ≤ a.1 then f a.2 else if t ≤ b.1 then interp t a.1 (f a.2) b.1 (f b.2) else atTemp t f r

/-- State of charge, ‰, of a cell voltage in mV at a temperature (R397). -/
def socOf (e : Energy) (mv t : Rat) : Rat := atTemp t (lin mv) (ocvRows e)

/-- Put a number into a rising list once. -/
def insertRising (x : Rat) : List Rat → List Rat
  | [] => [x]
  | y :: r => if x < y then x :: y :: r else if x = y then y :: r else y :: insertRising x r

/-- The curve at a temperature as (‰, cell mV): the look-up at every voltage of the tables. -/
def ocvCurve (e : Energy) (t : Rat) : List (Rat × Rat) :=
  (((ocvRows e).flatMap fun r => r.2.map Prod.fst).foldl (fun l x => insertRising x l) []).map fun mv =>
    (socOf e mv t, mv)

/-- Area under the curve between two points, within bounds: cell mV × ‰. -/
def segArea (lo hi : Rat) (p q : Rat × Rat) : Rat :=
  let a := max p.1 lo
  let b := min q.1 hi
  if b ≤ a then 0 else (b - a) * (interp a p.1 p.2 q.1 q.2 + interp b p.1 p.2 q.1 q.2) / 2

/-- Area under the inner part of the curve. -/
def innerArea (lo hi : Rat) : List (Rat × Rat) → Rat
  | [] => 0
  | p :: r =>
    match r with
    | [] => 0
    | q :: _ => segArea lo hi p q + innerArea lo hi r

/-- The integral of the open-circuit voltage of a cell from one state to another at a temperature, mV × ‰, with the
clamps of R397 at both ends. -/
def ocvArea (e : Energy) (t lo hi : Rat) : Rat :=
  if hi ≤ lo then 0
  else
    let c := ocvCurve e t
    match c.head?, c.getLast? with
    | some a, some z =>
      innerArea lo hi c + a.2 * (if lo < a.1 then min hi a.1 - lo else 0) + z.2 * (if z.1 < hi then hi - max lo z.1 else 0)
    | _, _ => 0

/-! ### What the gauge reads (R396, R399, R400, R405) -/

/-- Cell mode and supercapacitor mode (R395). -/
def cellMode (s : State) : Bool := s.plan.energy.chem = 1 || s.plan.energy.chem = 2
def superMode (s : State) : Bool := s.plan.energy.chem = 3

/-- T_NOW: the lower of the two thermistors, quarter °C; 0 when neither reads (R396). -/
def tNow (s : State) : Int :=
  match s.nrg.th0, s.nrg.th1 with
  | .ok a, .ok b => min a b
  | .ok a, _ => a
  | _, .ok b => b
  | _, _ => 0

/-- RES_25, in Ω. -/
def resOhm (s : State) : Rat := (s.gau.res25 : Rat) / 10000

/-- V_OC of the pack, V (R396). -/
def vOc (s : State) : Rat :=
  (s.nrg.packMv : Rat) / 1000 -
    (s.nrg.packMa : Rat) / 1000 * (resOhm s * factorR s.plan.energy.chem (degrees (tNow s)))

/-- SOC of a cell voltage in mV below the measured one (R396), or the fraction of R405; ‰. -/
def socBelow (s : State) (mv : Rat) : Rat :=
  if !s.nrg.inserted then 0
  else if cellMode s then socOf s.plan.energy (vOc s * 1000 / (s.plan.energy.cells : Rat) - mv) (degrees (tNow s))
  else if superMode s && vMax s ≠ 0 then 1000 * (vOc s * 1000) * (vOc s * 1000) / ((vMax s : Rat) * (vMax s : Rat))
  else 0

/-- SOC_V and SOC_V_LOW (R396). -/
def socV (s : State) : Rat := socBelow s 0
def socVLow (s : State) : Rat := if cellMode s then socBelow s 10 else socBelow s 0

/-- Q_L in nC. -/
def capNc (s : State) : Rat := (s.gau.cap : Rat) * 3600000000

/-- The charge counted in either direction and its net: charge at 99 % (R399); nC. -/
def counted (i o : Nat) : Rat := (i : Rat) * 99 / 100 + (o : Rat)
def netCount (i o : Nat) : Rat := (i : Rat) * 99 / 100 - (o : Rat)

/-- SOC_C, ‰ (R396, R399); SOC_V in supercapacitor mode (R405). -/
def socC (s : State) : Rat :=
  if cellMode s then
    (s.gau.socRef : Rat) / 1000 +
      (if s.gau.cap = 0 then 0 else netCount s.gau.inNc s.gau.outNc * 1000 / capNc s)
  else socV s

/-- U, ‰ (R399). -/
def uNow (s : State) : Rat :=
  if cellMode s then
    (s.gau.u0 : Rat) / 1000 + (if s.gau.cap = 0 then 0 else 5 * counted s.gau.inNc s.gau.outNc / capNc s) +
      2 * ((s.almanac - s.gau.uAt : Nat) : Rat) / 86400000000
  else 0

/-- A fraction as a natural number, rounded down or up, 0 when negative. -/
def floorNat (x : Rat) : Nat := x.floor.toNat
def ceilNat (x : Rat) : Nat := x.ceil.toNat

/-- SOC_C − U in 1/1,000 ‰, as Table 11-5 watches it. -/
def countLow (s : State) : Int := ((socC s - uNow s) * 1000).floor

/-! ### Chemistry parameters (Table 11-2) -/

/-- Rest time, µs. -/
def restTime (chem : Nat) : Nat := if chem = 2 then 7200000000 else 1800000000

/-- A SOC_V lies in the reference range. -/
def inRefRange (chem : Nat) (v : Rat) : Bool := chem ≠ 2 || v < 200 || 900 < v

/-- U0 after a reference, 1/1,000 ‰. -/
def u0Of (chem : Nat) : Nat := if chem = 2 then 30000 else 20000

/-- RES_25 before the first sample, 0.1 mΩ. -/
def resInit (e : Energy) : Nat := (if e.chem = 1 then 600 else if e.chem = 2 then 500 else 1000) * e.cells

/-- The rest current holds (Table 11-2). -/
def restCurrent (s : State) : Bool :=
  s.nrg.packMa.natAbs ≤ max (s.gau.cap / 100) 10

/-! ### Marks of the gauge -/

/-- A record write is due (R412). -/
def markStore (s : State) : State := { s with gau := { s.gau with storeDue := true } }

/-- Close the rest window: the rest hold ends (R386, R402). -/
def closeWindow (s : State) : State :=
  { s with gau := { s.gau with restWindow := none }, nrg := { s.nrg with rest := false } }

/-- Open a rest window (R402). -/
def openWindow (s : State) : State :=
  let g := s.gau
  let byTime : Bool := !g.disagree && !g.forceRef && !g.exerRef
  { s with gau := { g with restWindow := some s.almanac, forceRef := false, exerRef := false,
                           windowAt := if byTime then some s.almanac else g.windowAt },
           nrg := { s.nrg with rest := true, chgMa := 0 } }

/-! ### End of life (R423 to R425) -/

/-- Learned value over RATED, and RES_25 over RES_FIRST, as percentages of R423. -/
def eolFade (s : State) : Bool :=
  s.rek.fadePct ≠ 0 && s.gau.learned && decide (s.gau.cap * 100 < s.rek.fadePct * s.plan.energy.rated)
def eolRise (s : State) : Bool :=
  s.rek.risePct ≠ 0 && s.gau.learned && s.gau.resFirst ≠ 0 &&
    decide (s.rek.risePct * s.gau.resFirst < s.gau.res25 * 100)

/-- The pack share of Life Used, percent (R425). -/
def packLife (s : State) : Nat :=
  if !s.gau.learned then 0
  else
    let fade : Rat := if s.rek.fadePct = 0 ∨ s.plan.energy.rated = 0 then 0
      else 100 * (1 - (s.gau.cap : Rat) / s.plan.energy.rated) / (1 - (s.rek.fadePct : Rat) / 100)
    let rise : Rat := if s.rek.risePct = 0 ∨ s.gau.resFirst = 0 then 0
      else 100 * ((s.gau.res25 : Rat) / s.gau.resFirst - 1) / ((s.rek.risePct : Rat) / 100 - 1)
    min 100 (floorNat (max fade rise))

/-! ### The Reckoning's arithmetic (R416, R417) -/

/-- The save is costed as a Cellar fallback: Stowed save while READY_ANY is 0 (R416). -/
def fallbackCost (s : State) : Bool := stowedMode s && !(s.cel.metaLoaded && (chooseHalf s).isSome)

/-- The save is costed with the Full-save constants (R416). -/
def fullModel (s : State) : Bool := !stowedMode s || fallbackCost s

/-- P(rate), W, of a rate in MB/s (Table 11-6). -/
def savePower (full : Bool) (rate : Rat) : Rat := 99 / 10 + (if full then 49 / 10 else 15 / 10) * rate / 1000

/-- V_END, V (R279). -/
def vEndV (s : State) : Rat := ((max 2000 (vMin s) : Nat) : Rat) / 1000

/-- Slowest recent program time of a kind, µs; the maximum of Table 09-1 before any (R416). -/
def progUs (s : State) (full : Bool) : Nat :=
  let t := slowest (if full then s.cel.tlcUs else s.cel.pslcUs)
  if t = 0 then (if full then 3000 else 400) else t

/-- The plan rate, MB/s (R417). -/
def planRateOf (s : State) (full : Bool) : Nat :=
  let nand := 16 * (if full then 196608 else 65536) / progUs s full
  let watts : Rat := vEndV s * (s.plan.energy.idisMa : Rat) / 1000
  let power := floorNat ((watts - 99 / 10) * 1000 / (if full then 49 / 10 else 15 / 10))
  min (modeMax (if full then 2 else 1)) (min nand power)

/-- The cost per GiB, mJ, rounded up (R416, R417); none at a plan rate of 0, for which the spec states none. -/
def costOf (s : State) (full : Bool) : Option Nat :=
  let rate := planRateOf s full
  if rate = 0 then none
  else
    let model := savePower full rate * 1073741824 / 1000000000 / ((rate : Rat) / 1000) * 1000
    let hist := (if full then s.gau.cost.fullHist else s.gau.cost.stowedHist).foldl max 0
    some (max (ceilNat model) hist)

/-- The fixed cost F, J (R416). -/
def fixedJ (s : State) : Nat := max s.rek.fixedJ s.gau.cost.fMeas

/-- GiB in the Rooms of a saved class that are not IMPAIRED (R418). -/
def savedGib (s : State) : Rat :=
  ((s.cht.entries.filter fun e => e.2.cls.saved && !e.2.impaired).length : Rat) / 256

/-- End current, A, and the end open-circuit voltage V_E, V, at a forecast temperature (R417). -/
def iEnd (s : State) (full : Bool) : Rat := savePower full (planRateOf s full) / vEndV s
def resT (s : State) (t : Rat) : Rat := resOhm s * factorR s.plan.energy.chem t
def vE (s : State) (full : Bool) (t : Rat) : Rat := vEndV s + iEnd s full * resT s t

/-- Usable energy, J, of a cell pack from a state in ‰ (R417). -/
def cellEnergy (s : State) (full : Bool) (t st : Rat) : Rat :=
  let e := s.plan.energy
  if e.cells = 0 then 0
  else
    let sE := socOf e (vE s full t * 1000 / (e.cells : Rat)) t
    if st ≤ sE then 0
    else
      let perPm := (s.gau.cap : Rat) * 36 / 10 * factorK e.chem t / 1000
      max 0 ((e.cells : Rat) * ocvArea e t sE st / 1000 * perPm - iEnd s full * resT s t * perPm * (st - sE))

/-- Usable energy, J, of a supercapacitor string from an open-circuit voltage in V (R417). -/
def superEnergy (s : State) (full : Bool) (t v : Rat) : Rat :=
  let c := (s.gau.cap : Rat) / 1000 * factorK 3 t
  let ve := vE s full t
  max 0 (c * (v * v - ve * ve) / 2 - iEnd s full * resT s t * c * (v - ve))

/-- Usable energies from the voltage and from the count, J (R400, R405, R417). -/
def usableEnergies (s : State) (full : Bool) (t : Rat) : Rat × Rat :=
  if !s.nrg.inserted then (0, 0)
  else if superMode s then (superEnergy s full t (vOc s), superEnergy s full t (vOc s))
  else if cellMode s then (cellEnergy s full t (socVLow s), cellEnergy s full t (socC s - uNow s))
  else (0, 0)

/-- E_BUDGET, J (R418). -/
def budgetOf (s : State) (eUse : Rat) : Rat := eUse * (1 - (s.plan.policy.reservePct : Rat) / 100)

/-- The ceiling, tiles, of a budget in J at a cost in mJ per GiB (R418). -/
def ceilingOf (s : State) (budget : Rat) (c : Nat) : Nat :=
  if c = 0 then 0 else floorNat ((budget - (fixedJ s : Rat)) * 16384 * 1000 / (c : Rat))

/-- The usable energy of a pack of the chemistry at full SOC, at 25 °C, with U = U0 (R423). -/
def fullPackEnergy (s : State) : Rat :=
  let full := fullModel s
  if superMode s then superEnergy s full 25 ((vMax s : Rat) / 1000)
  else if cellMode s then cellEnergy s full 25 (1000 - (u0Of s.plan.energy.chem : Rat) / 1000) else 0

/-- The ceiling condition of R423. -/
def eolCeil (s : State) : Bool :=
  let b := budgetOf s (fullPackEnergy s)
  let rate := planRateOf s (fullModel s)
  let ok : Bool := rateFloor (if fullModel s then 2 else 1) ≤ rate
  s.rek.ceilPct ≠ 0 && s.gau.learned &&
    (if stowedMode s then
      let c := match costOf s (fullModel s) with | some c => if ok then ceilingOf s b c else 0 | none => 0
      decide (c * 100 < s.rek.ceilPct * ((ceilInputs s).drop 1).foldl min (ceilMax s))
    else
      match costOf s true with
      | some c => !(ok && decide ((fixedJ s : Rat) + (c : Rat) / 1000 * savedGib s ≤ b))
      | none => true)

/-- Evaluate end of life (R423, R424); `daily` for the daily evaluation, of which three without a condition in a row
clear it. -/
def eolEval (daily : Bool) (s : State) : State :=
  let f := eolFade s
  let r := eolRise s
  let c := eolCeil s
  let reason := b2n f + 2 * b2n r + 4 * b2n c
  if reason ≠ 0 then
    let old := s.rek.eol
    let s := { s with rek := { s.rek with eol := true, eolReason := reason, eolClear := 0 } }
    let s := setReason 4 s
    if old then s else raise rekPackEol s
  else if daily then
    let n := s.rek.eolClear + 1
    if 3 ≤ n then clearReason 4 { s with rek := { s.rek with eol := false, eolReason := 0, eolClear := n } }
    else { s with rek := { s.rek with eolClear := n } }
  else s

/-! ### Learning (R406 to R408) -/

/-- A cycle is disqualified (R407). -/
def disqualify (code : Nat) (s : State) : State :=
  { s with gau := { s.gau with learn := none, disqualified := satInc 0xFF s.gau.disqualified, lastDq := code } }

/-- A qualified sample, in mAh or mF (R408). -/
def learnSample (x : Nat) (s : State) : State :=
  let g := s.gau
  let v := if !g.learned || x < g.cap then x else min x (g.cap * 102 / 100)
  let v := min v (s.plan.energy.rated * 110 / 100)
  let g := { g with cap := v, learned := true, learn := none, qualified := satInc 0xFFFF g.qualified,
                    learnAt := s.almanac, derateAt := s.almanac }
  eolEval false (wantRek (markStore { s with gau := g }))

/-- End a cycle of cells at a reference: from SOC `r.from_` to `v`, both in 1/1,000 ‰ (R406, R407). -/
def endCellCycle (r : LearnRun) (v : Nat) (s : State) : State :=
  let d := (v - r.from_) + (r.from_ - v)
  if r.dq ≠ 0 then disqualify r.dq s
  else if d < 150000 then disqualify 4 s
  else
    let q := netCount r.inNc r.outNc
    let q := if q < 0 then 0 - q else q
    learnSample (floorNat (q * 1000000 / (d : Rat) / 3600000000)) s

/-- End a cycle of a supercapacitor string at an open-circuit voltage in mV (R406, R407). -/
def endSuperCycle (r : LearnRun) (v : Nat) (s : State) : State :=
  let d := (v - r.from_) + (r.from_ - v)
  if r.dq ≠ 0 then disqualify r.dq s
  else if d * 100 < 20 * vMax s ∨ d = 0 then disqualify 4 s
  else
    let q := netCount r.inNc r.outNc
    let q := if q < 0 then 0 - q else q
    learnSample (floorNat (q / (d : Rat) / 1000)) s

/-- Mark an open cycle as disqualified; the first cause stays (R407). -/
def markDq (code : Nat) (s : State) : State :=
  { s with gau := { s.gau with learn := s.gau.learn.map fun r => if r.dq = 0 then { r with dq := code } else r } }

/-! ### References (R398, R402, R404) -/

/-- Take a reference: SOC_C takes SOC_V, U takes U0, Disagreement and Stale clear, the window ends; the learning cycle
that was open ends, and the next one opens (R398, R401 to R403, R406). -/
def takeReference (s : State) : State :=
  let v := floorNat (socV s * 1000)
  let s := match s.gau.learn with
    | some r => if r.exercise then s else endCellCycle r v s
    | none => s
  let g := s.gau
  let g := { g with refValid := true, socRef := v, u0 := u0Of s.plan.energy.chem, uAt := s.almanac, inNc := 0, outNc := 0,
                    refAt := s.almanac, staleFrom := s.almanac, disagree := false, stale := false,
                    learn := some { from_ := v }, exerRef := false, rate := [] }
  wantRek (closeWindow { s with gau := g })

/-- Start the count from the voltage (R404). -/
def startCount (s : State) : State :=
  let v := floorNat (socVLow s * 1000)
  wantRek { s with gau := { s.gau with socRef := v, u0 := 50000, uAt := s.almanac, inNc := 0, outNc := 0 } }

/-- The first reading after an insertion (R404). -/
def firstReading (s : State) : State :=
  match s.gau.starting with
  | none => s
  | some rested =>
    let s := { s with gau := { s.gau with starting := none } }
    if !cellMode s then s
    else if rested && inRefRange s.plan.energy.chem (socV s) then takeReference s else startCount s

/-- Gauge Disagreement (R401); none before the first reference of a boot or after an insertion (R404). -/
def checkDisagree (s : State) : State :=
  if cellMode s && s.nrg.inserted && s.gau.refValid && !s.gau.disagree &&
      decide (100 < socVLow s - (socC s - uNow s) ∨ 100 < (socC s - uNow s) - socVLow s) then
    let s := { s with gau := { s.gau with disagree := true, disagreeEvent := true } }
    wantRek (markStore (raise gauDisagree s))
  else s

/-- Table 11-5: SOC_C − U has moved by 10 ‰ since the last run. -/
def checkMoved (s : State) : State :=
  if cellMode s && s.nrg.inserted && 10000 ≤ (countLow s - s.rek.out.countLow).natAbs then wantRek s else s

/-! ### Resistance samples (R411) -/

/-- A resistance sample at 25 °C, 0.1 mΩ. -/
def takeResistance (x : Nat) (s : State) : State :=
  let g := s.gau
  let n := if g.res25 < x then x else g.res25 - (g.res25 - x) / 8
  let d := (n - g.resStored) + (g.resStored - n)
  let s := { s with gau := { g with res25 := n, resFirst := if g.resFirst = 0 then x else g.resFirst } }
  let s := if 5 * g.resStored < 100 * d then markStore s else s
  eolEval false (if n = g.res25 then s else wantRek s)

/-- 10 ms after a current step of at least 500 mA the sample is taken (R411). -/
def stepSample (s : State) : State :=
  match s.gau.step with
  | none => s
  | some m =>
    if s.almanac < m.at_ + 10000 then s
    else
      let s := { s with gau := { s.gau with step := none } }
      let di := (s.nrg.packMa - m.ma).natAbs
      let dv := (s.nrg.packMv - m.mv) + (m.mv - s.nrg.packMv)
      if di < 500 ∨ !s.nrg.inserted ∨ s.plan.energy.chem = 0 then s
      else takeResistance (ceilNat ((dv : Rat) / di * 10000 / factorR s.plan.energy.chem (degrees (tNow s)))) s

/-! ### The pack (R375 to R379, R382 to R385) -/

/-- Both thermistors read and lie within bounds in °C. -/
def therms (s : State) (lo hi : Int) : Bool :=
  match s.nrg.th0, s.nrg.th1 with
  | .ok a, .ok b => 4 * lo ≤ a && a ≤ 4 * hi && 4 * lo ≤ b && b ≤ 4 * hi
  | _, _ => false

/-- The profile of a slot, and its change. -/
def profileAt (s : State) (k : Nat) : PackProfile := vget {} s.gau.profiles k

/-- The slot seen least recently, and the one seen most recently (R378). -/
def oldestProfile (s : State) : Nat :=
  (List.range 4).foldl (fun a k => if (profileAt s k).tSeen < (profileAt s a).tSeen then k else a) 0
def newestProfile (s : State) : Nat :=
  (List.range 4).foldl (fun a k => if (profileAt s a).tSeen < (profileAt s k).tSeen then k else a) 0

/-- The slot whose identity a pack has (R378); a pack whose SERIAL cannot be read has none (R379). -/
def findProfile (s : State) (serial : Option (List Byte)) (cls : Nat) : Option Nat :=
  match serial with
  | none => none
  | some x => (List.range 4).find? fun k => (profileAt s k).serial = some x ∧ (profileAt s k).cls = cls

/-- The profile of an unknown pack (R378, R408, Table 11-2). -/
def newProfile (s : State) (serial : Option (List Byte)) (cls : Nat) : PackProfile :=
  { serial := serial, cls := cls, cap := s.plan.energy.rated * 70 / 100, res25 := resInit s.plan.energy,
    tLearn := s.almanac, derateAt := s.almanac }

/-- Match the profile of an inserted pack and take up its values; another pack than the last one ends an end of life
(R378, R404, R408, R414, R424); the profile is written at the next store (R412). `rested` when the gap before this boot was a rest. -/
def takeProfile (serial : Option (List Byte)) (cls : Nat) (rested boot : Bool) (s : State) : State :=
  let found := findProfile s serial cls
  let same : Bool := match found with
    | some k => if s.gau.prof.cls = 0 then k = newestProfile s else k = s.nrg.profSlot
    | none => false
  let k := found.getD (oldestProfile s)
  let p : PackProfile := match found with | some _ => profileAt s k | none => newProfile s serial cls
  let p : PackProfile := { p with tSeen := s.almanac }
  let keep : Option LearnRun := if boot && same && s.log.gapUs.isSome && s.log.gapUs.getD 0 ≤ 600000000 then s.gau.learn
                                else none
  let cut : Bool := s.gau.learn.isSome && keep.isNone
  let g := { s.gau with
    prof := p, refValid := false, restSince := none, restWindow := none, disagree := false,
    stale := false, socRef := p.socC * 1000, u0 := p.u * 1000, uAt := s.almanac, inNc := 0, outNc := 0,
    starting := some rested, refAt := p.tRef, staleFrom := if p.tRef = 0 then s.almanac else p.tRef, cap := p.cap,
    res25 := p.res25, resFirst := p.resFirst, resStored := p.res25, learned := p.learned, learnAt := p.tLearn,
    derateAt := p.derateAt, qualified := p.qualified, disqualified := p.disqualified, lastDq := 0, learn := keep,
    rate := [], forceRef := false, exerRef := false, step := none, pulseEnd := none,
    disagreeEvent := false, storeDue := true }
  let s := { s with gau := g, nrg := { s.nrg with profSlot := k, profKnown := found.isSome } }
  let s := wantRek (if cut && same then disqualify 3 s else s)
  if same then s
  else clearReason 4 { s with rek := { s.rek with eol := false, eolReason := 0, eolClear := 0 } }

/-- The end of an authentication (R379, R384, R385); the first that an insertion passes brings its pulse (R411). -/
def endAuth (result entry : Nat) (s : State) : State :=
  let report := s.nrg.announce
  let n := { s.nrg with auth := none, authResult := result, authEntry := entry, announce := false,
                        authFailedAt := if result ≤ 1 then none else some s.almanac }
  let s := packAlert s { s with nrg := n }
  let s := if result ≤ 1 then s else raise nrgAuthFail s
  let s := if result ≤ 1 && s.gau.pulseOwed then { s with gau := { s.gau with pulseDue := true, pulseOwed := false } } else s
  if report then
    let s := event 0x000D .nrg (if s.nrg.profKnown then s.nrg.profSlot else 0xFF) result
      (addEvent 0 (.memoryModule 0 s.almanac) s)
    wantRek s
  else s

/-- The message M of an authentication (R382). -/
def authMessage (a : AuthRun) : List Byte :=
  [0x48, 0x50, 0x41, 0x4B] ++ leBytes 4 a.version ++ padTo 16 a.serial ++ [BitVec.ofNat 8 a.cls] ++ padTo 32 a.nonce

/-- The response is good: the trust-store entry that matches (R382). -/
def authCheck (s : State) (a : AuthRun) (pubkey resp : List Byte) : Option Nat :=
  let m := authMessage a
  let k := s.svc.trustStore.findIdx fun e =>
    if s.plan.energy.auth = 1 then
      !e.hmac && decide (e.value = Config.sha256 pubkey) && Config.ecdsaVerify pubkey (Config.sha256 m) resp
    else e.hmac && decide (Config.hmacSha256 e.value m = resp)
  if k < s.svc.trustStore.length then some k else none

/-- The address of the pack authenticator (R380), and reads of its commands. -/
def packAddress : Nat := 0x36
def pbReads (l : List Nat) (s : State) : State := l.foldl (fun s c => emit (.pbBytes packAddress [BitVec.ofNat 8 c]) s) s

/-- A block write to the pack: command, count, data and the PEC over all of it with the address (R380, Table 10-5). -/
def pbWrite (c : Nat) (data : List Byte) (s : State) : State :=
  let b := BitVec.ofNat 8 c :: BitVec.ofNat 8 data.length :: data
  emit (.pbBytes packAddress (b ++ [crc8 (BitVec.ofNat 8 (2 * packAddress) :: b)])) s

/-- Start an authentication with what the pack answers to VERSION, SERIAL, CLASS and METHOD (R381, R382, R384). -/
def beginAuth (r : PackReply) (s : State) : State :=
  let s := { s with nrg := { s.nrg with authAttempts := satInc 0xFF s.nrg.authAttempts,
                                        packVer := (r.version.getD 0) / 65536 % 65536 } }
  let id := match s.nrg.packId with | .code n => n | _ => 0
  let s := pbReads [0x00] s
  match r.version with
  | none => endAuth 3 0 s
  | some v =>
    if v / 65536 % 65536 ≠ 1 then endAuth 4 0 s
    else
      let s := pbReads [0x01, 0x02, 0x03] s
      match r.serial, r.cls, r.method with
      | some x, some c, some m =>
        if c ≠ id ∨ m ≠ s.plan.energy.auth then endAuth 2 0 s
        else
          let n := Config.random32 s.free
          let a : AuthRun := { startedAt := s.almanac, version := v, serial := x, cls := c, nonce := n }
          pbWrite 0x10 (padTo 32 n) { s with free := s.free + 1, nrg := { s.nrg with auth := some a } }
      | _, _, _ => endAuth 3 0 s

/-! ### The charger (R386 to R388) -/

/-- The states in which the charger runs (R386). -/
def chargeState : OpState → Bool
  | .boot | .restore | .tenancy | .service | .harbour | .warmReturn => true
  | _ => false

/-- The charger may have a phase now: everything of R386 but its two pauses; throttle stage 2 stops it
(20_power_clocks_thermal Table 20-6). -/
def chargeAllowed (s : State) : Bool :=
  s.nrg.path = .mains && stageNow s < 2 && chargeState s.dev.state && packUsable s && !s.nrg.overVolt && !s.nrg.prechgFailed

/-- The charger's phase from the measured voltage and current (R387, Table 10-7). -/
def nextCharge (s : State) : ChargePhase :=
  let e := s.plan.energy
  let v := s.nrg.packMv
  let start : ChargePhase := if v < vMin s then .precharge else .constCurrent
  match s.nrg.chg with
  | .off => start
  | .precharge => if v < vMin s then .precharge else .constCurrent
  | .constCurrent => if v < vMax s then .constCurrent else if e.chem = 3 then .done else .constVoltage
  | .constVoltage => if s.nrg.packMa * 20 < (e.ichgMa : Int) then .done else .constVoltage
  | .done =>
    if e.chem = 3 then .done
    else if v ≤ vMax s - e.cells * (if e.chem = 1 then 100 else 50) then start else .done

/-- Set the charger's phase; a start or a stop of the current is a step of R411. -/
def setCharge (p : ChargePhase) (s : State) : State :=
  let was := s.nrg.chg
  if p = was then s
  else
    let flows := fun (c : ChargePhase) => c = .precharge || c = .constCurrent || c = .constVoltage
    let s := if flows p ≠ flows was then markStep s else s
    { s with nrg := { s.nrg with chg := p, chgAt := s.almanac, chgMa := if p = .off then 0 else s.nrg.chgMa } }

/-- The thermistors pause and resume the charger (R386). -/
def chargePause (s : State) : State :=
  let e := s.plan.energy
  let p : Bool :=
    if s.nrg.tempPause then !therms s (e.tchgMin + 2) (e.tchgMax - 2) else !therms s e.tchgMin e.tchgMax
  { s with nrg := { s.nrg with tempPause := p && packUsable s } }

/-- The charger gives current. -/
def charging (s : State) : Bool := s.nrg.chg ≠ .off && chargeAllowed s && !s.nrg.rest && !s.nrg.tempPause

/-- The charge current that the charger's phase gives at most, mA (Table 10-7): in constant voltage and in float what holds V_MAX, up to
ICHG_MA. -/
def chargeSet (s : State) : Nat :=
  if !charging s then 0
  else match s.nrg.chg with
    | .off => 0
    | .precharge => s.plan.energy.ichgMa / 10
    | .constCurrent | .constVoltage => s.plan.energy.ichgMa
    | .done => if s.plan.energy.chem = 3 then s.plan.energy.ichgMa else 0

/-- One charger step after a measurement (R386 to R388). -/
def chargeStep (s : State) : State :=
  let e := s.plan.energy
  let s := chargePause s
  let v := s.nrg.packMv
  let s :=
    if s.nrg.inserted && e.chem ≠ 0 && vMax s + e.cells * 50 < v && !s.nrg.overVolt then
      raise nrgPackOv (setCharge .off { s with nrg := { s.nrg with overVolt := true } })
    else if s.nrg.overVolt && v < vMax s then { s with nrg := { s.nrg with overVolt := false } }
    else s
  if !chargeAllowed s then
    let s := setCharge .off s
    { s with nrg := { s.nrg with chgMa := 0 } }
  else if s.nrg.rest || s.nrg.tempPause then { s with nrg := { s.nrg with chgMa := 0 } }
  else
    let s := setCharge (nextCharge s) s
    { s with nrg := { s.nrg with chgMa := min s.nrg.packMa.toNat (chargeSet s) } }

/-! ### The Exercise (R389 to R392) -/

/-- The guard energy, mJ (R390, R418). -/
def guardMj (s : State) : Nat := ceilDiv (s.rek.out.need * 11) 10

/-- The conditions of R390. -/
def exerciseOk (s : State) : Bool :=
  s.nrg.exer.isNone && s.dev.state = .service && s.dev.armed && s.nrg.chg = .done &&
    s.nrg.chgAt + 600000000 ≤ s.almanac && therms s s.plan.energy.tdisMin s.plan.energy.tdisMax && packUsable s &&
    guardMj s + capMj s s.plan.energy.rated / 20 ≤ s.rek.out.eUse

/-- Start an Exercise (R391, R406, R411): of cells its learning cycle starts at the last reference, and there is none once 1 % of Q_L has been
counted since (R409; assumption 133). -/
def startExercise (s : State) : State :=
  let s := markStep s
  let n := { s.nrg with path := .exercise, exer := some { startedAt := s.almanac, drawnPj := 0 }, exerResult := 1,
                        exerDepth := 0, exerWaiting := false }
  let s := setCharge .off { s with nrg := n }
  let s := if superMode s then
      { s with gau := { s.gau with learn := some { from_ := floorNat (vOc s * 1000), exercise := true } } }
    else if cellMode s && s.gau.learn.any (fun r => decide (capNc s ≤ 100 * counted r.inNc r.outNc)) then
      { s with gau := { s.gau with learn := none } }
    else s
  wantRek s

/-- End an Exercise with a result (R391): the path returns to MAINS, the gauge learns from it and opens a rest window
for the closing reference (R406, R409, R412). -/
def endExercise (result : Nat) (s : State) : State :=
  match s.nrg.exer with
  | none => s
  | some x =>
    let s := markStep s
    let n := { s.nrg with path := .mains, exer := none, exerResult := result, exerDepth := exerDepthNow s x }
    let l := { s.log.life with exercises := satInc 0xFFFFFFFF s.log.life.exercises }
    let s := { s with nrg := n, log := { s.log with life := l } }
    let s := match s.gau.learn with
      | some r => if r.exercise then endSuperCycle r (floorNat (vOc s * 1000)) s else s
      | none => s
    let s := if cellMode s then { s with gau := { s.gau with exerRef := true } } else s
    let s := markStore s
    if result = 6 ∨ result = 7 then raise nrgExerAbort s else s

/-- The first stop condition of R391 that holds, as its result code. -/
def exerciseStop (s : State) (x : ExerciseRun) : Option Nat :=
  if s.nrg.depthPct * capMj s s.gau.cap ≤ x.drawnPj / 1000000000 * 100 then some 2
  else if s.rek.out.eUse ≤ guardMj s then some 3
  else if s.sui.any fun c => savedSuite c && !c.armed then some 4
  else if x.startedAt + s.nrg.maxMin * 60000000 ≤ s.almanac then some 5
  else if !therms s s.plan.energy.tdisMin s.plan.energy.tdisMax then some 6
  else if x.fault then some 7
  else none

/-- Due hour number `n`, counted in hours of that clock: every EXER_DAYS days at EXER_HOUR (assumption 35). -/
def dueHour (s : State) (n : Nat) : Nat := n * s.plan.policy.exerDays * 24 + s.plan.policy.exerHour

/-- The last due hour at or before an hour. -/
def lastDue (s : State) (h : Nat) : Option Nat :=
  if s.plan.policy.exerDays = 0 ∨ h < s.plan.policy.exerHour then none
  else some (dueHour s ((h - s.plan.policy.exerHour) / (s.plan.policy.exerDays * 24)))

/-- Almanac time at which an hour of that clock begins. -/
def hourStart (s : State) (h : Nat) : Nat :=
  if s.log.calValid then ((((h : Int) * 3600000000000 - s.log.offset) + 999) / 1000).toNat
  else (s.log.life.firstBoot.getD 0) + h * 3600000000

/-- Try to start a due Exercise (R390). -/
def tryExercise (s : State) : State :=
  if exerciseOk s then startExercise s
  else
    let n := s.nrg.exerTries + 1
    if 24 < n then { s with nrg := { s.nrg with exerWaiting := false, exerTries := n, exerResult := 10 } }
    else { s with nrg := { s.nrg with exerWaiting := true, exerTries := n, exerTryAt := s.almanac } }

/-- A due date of the Exercise fires (R389, R390). -/
def fireExercise (due : Nat) (s : State) : State := tryExercise { s with nrg := { s.nrg with exerFired := due, exerTries := 0 } }

/-! ### Removal (R376) -/

/-- A pack that was present is so no longer: its insertion, its authentication, the count and the rest end (R375, R377, R412, R415). An
Exercise ends for a thermistor outside its range, or else for the Suites that lose Armed (R391). -/
def packLeft (s : State) : State :=
  let s := if s.nrg.exer.isSome then endExercise (if s.nrg.th0.good && s.nrg.th1.good then 4 else 6) s else s
  let met := s.rek.running.isSome
  let s := setCharge .off s
  let n := { s.nrg with inserted := false, auth := none, announce := false, authFailedAt := none, authAgain := false, rest := false,
                        tempPause := false, chgMa := 0, runHold := met, overVolt := false }
  let cut := s.gau.learn.isSome
  let s := packAlert s { s with nrg := n, rek := { s.rek with running := none } }
  let s := if cut then disqualify 3 s else s
  let g := { s.gau with restWindow := none, restSince := none, step := none, pulseEnd := none, pulseDue := false,
                        starting := none, storeDue := true, pulseOwed := false }
  wantRek { s with gau := g }

/-- An open or a short of PACK_ID or a thermistor on a pack that was present (R376): the ceiling goes to 0, the charger stops, PACK_REMOVED;
in SAVING on the pack it is exhaustion. From the Fence on the flags hold, and the ceiling is 0 all the same. -/
def packGone (s : State) : State :=
  let frozen : Bool := s.dev.state = .fenced || s.dev.state = .saving
  let s := packLeft s
  let s := { s with stw := { s.stw with rekCeil := 0, fullOk := false } }
  let s := raise nrgPackRemoved (addEvent 0 (.memoryModule 1 s.almanac) s)
  let s := if frozen then s else reeval s
  if s.dev.state = .saving && s.nrg.path = .pack then exhausted s else s

/-- A thermistor reads open or short while PACK_ID reads valid (Table 10-8): the measured resistance is captured. -/
def thermFault (ohms : Nat) (s : State) : State := raiseAddr nrgThermFault ohms mNone 0 s

end Sys2Proof.Machine
end

