-- ==== Sys2Proof/Machine/Energy.lean ====
section
/-! DEFINITION. Commands of the energy pack and the power path (10_energy_pack): removal, insertion, authentication,
samples, the charger, the Exercise. -/

namespace Sys2Proof.Machine

/-- Take readings of PACK_ID and the thermistors in (R372, R373). -/
def takeReadings (packId : PackIdReading) (th0 th1 : Therm) (s : State) : State :=
  packAlert s { s with nrg := { s.nrg with packId := packId, th0 := th0.converted, th1 := th1.converted } }

/-- PACK_ID reads a valid code. -/
def idValid (n : Nrg) : Bool := match n.packId with | .code _ => true | _ => false

/-- A thermistor is open or short while PACK_ID reads valid (Table 10-8). -/
def thermOff (n : Nrg) : Bool := idValid n && !(n.th0.good && n.th1.good)

/-- A reading of PACK_ID or of a thermistor is open or short (R376). -/
def openOrShort (n : Nrg) : Bool := !(n.th0.good && n.th1.good) || n.packId = .open_ || n.packId = .short

/-- What readings bring about: the loss of a pack that was present, and THERM_FAULT with the resistance where the readings of this boot did
not show it before (R376, R394). -/
def readingsTaken (before : Nrg) (ohms : Nat) (s : State) : State :=
  let s := if before.present && !s.nrg.present then (if openOrShort s.nrg then packGone s else packLeft s) else s
  let s := if thermOff s.nrg && !s.nrg.thermBad then thermFault ohms s else s
  { s with nrg := { s.nrg with thermBad := thermOff s.nrg } }

/-- PACK_REMOVED (R376): the comparators' filter has passed an open or a short. `packId` is the resistance at PACK_ID, `ohms` that of the
thermistor that reads open or short. -/
def execPackRemoved (packId : Nat) (ohms : Nat) (th0 th1 : Therm) (s : State) : Res :=
  if poweredState s.dev.state then
    let before := s.nrg
    let s := takeReadings (packReading packId) th0 th1 s
    .next (readingsTaken before ohms s)
  else .next s

/-- The SERIAL that NRG reads: a pack of another major version gets no command after VERSION (R381). -/
def readSerial (r : PackReply) : Option (List Byte) :=
  match r.version with
  | some v => if v / 65536 % 65536 = 1 then r.serial else none
  | none => r.serial

/-- PACK_INSERTED (R377 to R379, R382; 11_gauge_reckoning R404): presence has held for 500 ms; `atBoot` when it has
held since this boot began. `packId` is the resistance at PACK_ID; no thermistor reads open or short, so that `ohms` says nothing. -/
def execPackInserted (packId : Nat) (_ohms : Nat) (th0 th1 : Therm) (atBoot : Bool) (reply : PackReply)
    (s : State) : Res :=
  let s0 := takeReadings (packReading packId) th0 th1 s
  if poweredState s.dev.state && !s.nrg.inserted && s0.nrg.present then
    let cls := match s0.nrg.packId with | .code n => n | _ => 0
    let rested : Bool := match s.log.gapUs with
      | some g => atBoot && restTime s.plan.energy.chem ≤ g
      | none => false
    let n := { s0.nrg with inserted := true, insertions := satInc 0xFFFF s0.nrg.insertions, announce := true,
                           authAttempts := 0, authResult := 0, authEntry := 0, auth := none, authFailedAt := none,
                           prechgFailed := false, overVolt := false, tempPause := false, runHold := false }
    let s := packAlert s0 { s0 with nrg := n }
    let s := if packMatches s then s else raiseAddr nrgIdMismatch packId mNone 0 s
    let s := takeProfile (readSerial reply) cls rested atBoot { s with gau := { s.gau with pulseOwed := true } }
    .next (if s.plan.energy.auth = 0 then endAuth 0 0 s
           else if chargeState s.dev.state then beginAuth reply s
           else { s with nrg := { s.nrg with authAgain := true } })
  else .next s

/-- PACK_AUTH_POLL (R382, R384, R385): STATUS is read 10 ms after the last poll; a response that is ready
within the 500 ms is checked. -/
def execPackAuthPoll (status : Option Nat) (pubkey resp : List Byte) (s : State) : Res :=
  match s.nrg.auth with
  | none => .next s
  | some a =>
    let s := advanceTo (a.startedAt + ((s.almanac - a.startedAt) / 10000 + 1) * 10000) s
    let late : Bool := a.startedAt + 500000 < s.almanac
    let s := pbReads [0x11] s
    match status with
    | none => .next (endAuth 3 0 s)
    | some v =>
      if late then .next (endAuth 3 0 s)
      else if v = 2 then
        let s := pbReads (if s.plan.energy.auth = 1 then [0x12, 0x04] else [0x12]) s
        match authCheck s a pubkey resp with
        | some k => .next (endAuth 1 k s)
        | none => .next (endAuth 2 0 s)
      else if v = 3 ∨ a.startedAt + 500000 ≤ s.almanac then .next (endAuth 3 0 s)
      else .next s

/-- PACK_AUTH_RETRY (R384): 10 minutes after a failure; or, for an authentication that a Fence cut short, at the next entry to
a state in which the charger may run (17_two_wire_ports R602). -/
def execPackAuthRetry (reply : PackReply) (s : State) : Res :=
  if s.nrg.inserted && chargeState s.dev.state && s.nrg.auth.isNone && s.plan.energy.auth ≠ 0 then
    if s.nrg.authAgain then .next (beginAuth reply { s with nrg := { s.nrg with authAgain := false } })
    else
      match s.nrg.authFailedAt with
      | none => .next s
      | some t => .next (beginAuth reply (advanceTo (t + 600000000) s))
  else .next s

/-- Period of the thermistor samples, and of the voltage and current samples, µs (R373, R374). -/
def thermPeriod (s : State) : Nat := if s.dev.state = .fenced ∨ s.dev.state = .saving then 10000 else 100000
def measPeriod (s : State) : Nat := if s.dev.state = .fenced ∨ s.dev.state = .saving then 100 else 1000

/-- A thermistor lies outside the learning range of R407. -/
def outsideLearning (s : State) : Bool := !therms s 10 40

/-- PACK_THERM_SAMPLE (R373, R386, R407; 11_gauge_reckoning Table 11-5). -/
def execPackThermSample (th0 th1 : Therm) (ohms : Nat) (s : State) : Res :=
  if poweredState s.dev.state then
    let s := advanceTo (nextMultiple s (thermPeriod s)) s
    let before := s.nrg
    let s := takeReadings before.packId th0 th1 s
    let s := readingsTaken before ohms s
    if s.nrg.inserted then
      let s := if outsideLearning s then markDq 1 s else s
      let s := chargePause s
      let s := if s.nrg.tempPause then { s with nrg := { s.nrg with chgMa := 0 } } else s
      .next (if 8 < (tNow s - s.rek.out.tNow).natAbs then wantRek s else s)
    else .next s
  else .next s

/-- The charge and the energy of the time since the last sample, with the present voltage and current held over it
(R374, R391, R399); of the energy of a save only what was drawn from the Fence on. -/
def countCharge (dt : Nat) (s : State) : State :=
  let ma := s.nrg.packMa
  let q := ma.natAbs * dt
  let i : Nat := if 0 < ma then q else 0
  let o : Nat := if ma < 0 then q else 0
  let e := s.nrg.packMv * o
  let fenced : Bool := s.dev.state = .fenced || s.dev.state = .saving
  let since := if ma < 0 then s.nrg.packMv * (ma.natAbs * min dt (s.almanac - s.sav.fenceTime)) else 0
  let n := { s.nrg with
    savePj := if fenced then s.nrg.savePj + since else s.nrg.savePj,
    exer := s.nrg.exer.map fun (x : ExerciseRun) => { x with drawnPj := x.drawnPj + e } }
  let g := { s.gau with
    inNc := s.gau.inNc + i, outNc := s.gau.outNc + o,
    rate := { from_ := s.almanac - dt, end_ := s.almanac, ma := ma } :: s.gau.rate.filter fun x => s.almanac < x.end_ + 20000000,
    learn := s.gau.learn.map fun (r : LearnRun) => { r with inNc := r.inNc + i, outNc := r.outNc + o } }
  { s with nrg := n, gau := if s.nrg.inserted then g else s.gau }

/-- Net charge, nC, that the samples show from one time to another. -/
def chargeIn (l : List RateSeg) (a b : Nat) : Int :=
  l.foldl (fun n x => n + x.ma * ((min x.end_ b : Nat) - (max x.from_ a : Nat) : Nat)) 0

/-- The 10 s that end at a time are within the samples and their mean current is above Q_L ÷ 2 h (R407). -/
def overRate (s : State) (e : Nat) : Bool :=
  let l := s.gau.rate
  (l.any fun x => x.from_ + 10000000 ≤ e) && s.gau.cap * 10000000 < 2 * (chargeIn l (e - 10000000) e).natAbs

/-- The rate condition of R407, over any 10 s: between samples the current is taken as held, so that the highest mean ends with the newest
sample or begins with an older one. -/
def checkRate (s : State) : State :=
  let l := s.gau.rate
  let prev := (l.head?.map fun x => x.from_).getD s.almanac
  let ends := s.almanac :: (l.map fun x => x.from_ + 10000000).filter fun e => prev < e && e ≤ s.almanac
  if cellMode s && ends.any (overRate s) then markDq 2 s else s

/-- The rest condition of Table 11-2 is watched (R398). -/
def watchRest (s : State) : State :=
  let rest : Bool := cellMode s && s.nrg.inserted && restCurrent s
  let since : Option Nat := if rest then (match s.gau.restSince with | some t => some t | none => some s.almanac)
                            else none
  { s with gau := { s.gau with restSince := since } }

/-- A supercapacitor cycle over charger phase 2: it opens as the string passes 40 % of V_MAX and ends at 90 % (R406);
it lapses when the phase ends before. -/
def superCycle (before : Nat) (s : State) : State :=
  if !superMode s then s
  else
    let v := floorNat (vOc s * 1000)
    let m := vMax s
    match s.gau.learn with
    | some r =>
      if r.exercise then (if s.nrg.exer.isNone then endSuperCycle r v s else s)
      else if 90 * m ≤ v * 100 then endSuperCycle r v s
      else if s.nrg.chg = .constCurrent then s
      else { s with gau := { s.gau with learn := none } }
    | none =>
      if s.nrg.chg = .constCurrent && before * 100 ≤ 40 * m && 40 * m ≤ v * 100 && v * 100 < 90 * m then
        { s with gau := { s.gau with learn := some { from_ := v } } }
      else s

/-- The 200 ms of a pulse are over (R411). -/
def endPulse (s : State) : State :=
  match s.gau.pulseEnd with
  | some t => if t ≤ s.almanac then { s with gau := { s.gau with pulseEnd := none } } else s
  | none => s

/-- The charge current, mA, that the P12V input limit leaves at most: the charger's power is not above what P12V may give (R368). -/
def chargeLimit (s : State) (packMv p12vMv : Nat) : Nat :=
  s.nrg.ilimDa * 100 * p12vMv / max 1 packMv

/-- PACK_MEASURE (R374, R387, R388; 11_gauge_reckoning R396 to R401, R404, R406, R407, R411): one sample of pack voltage and
current, which the save converter clamps (R366) and which the P12V input limit and the charger's set-point bound while charging (R368, R387). `limited`: the charge
current is reduced for that limit. -/
def execPackMeasure (packMv : Nat) (packMa : Int) (p12vMv : Nat) (limited : Bool) (s : State) : Res :=
  if poweredState s.dev.state then
    let old := floorNat (vOc s * 1000)
    let s := advanceTo (max s.almanac (s.nrg.measAt + measPeriod s)) s
    let dt := s.almanac - s.nrg.measAt
    let lim : Int := chargeLimit s packMv p12vMv
    let most : Int := min lim (chargeSet s : Int)
    let n := { s.nrg with packMv := packMv, packMa := min most (clamped s packMa), p12vMv := p12vMv, measAt := s.almanac,
                          ilimActive := charging s && (limited || (lim < packMa && lim < (chargeSet s : Int))) }
    let s := countCharge dt (packAlert s { s with nrg := n })
    let s := endPulse (stepSample (firstReading s))
    let s := chargeStep (superCycle old (watchRest (checkRate s)))
    .next (checkMoved (checkDisagree s))
  else .next s

/-- PRECHARGE_TIMEOUT (R387): 30 min of precharge of a cell pack. -/
def execPrechargeTimeout (s : State) : Res :=
  if s.nrg.chg = .precharge && cellMode s then
    let s := advanceTo (s.nrg.chgAt + 1800000000) s
    .next (raise nrgPrechgTimeout (setCharge .off { s with nrg := { s.nrg with prechgFailed := true } }))
  else .next s

/-- EXERCISE_DUE (R389, R390; 19_almanac_log_identity R654): the next due hour fires, or at once one that a forward step
of the calendar has passed. -/
def execExerciseDue (s : State) : Res :=
  match exerClock s s.almanac with
  | none => .next s
  | some h =>
    if s.plan.policy.exerDays = 0 ∨ !poweredState s.dev.state then .next s
    else
      match lastDue s h with
      | some d =>
        if s.nrg.exerFired < d then .next (fireExercise d s)
        else
          let n := d + s.plan.policy.exerDays * 24
          .next (fireExercise n (advanceTo (hourStart s n) s))
      | none => .next (fireExercise s.plan.policy.exerHour (advanceTo (hourStart s s.plan.policy.exerHour) s))

/-- EXERCISE_RETRY (R390): an hour after the last try. -/
def execExerciseRetry (s : State) : Res :=
  if s.nrg.exerWaiting then .next (tryExercise (advanceTo (s.nrg.exerTryAt + 3600000000) s)) else .next s

/-- EXERCISE_START (R390): NRG_EXER_CTL.START. -/
def exerciseStart (s : State) : State :=
  if exerciseOk s then (startExercise s) else s

/-- EXERCISE_START (R390): NRG_EXER_CTL.START. -/
def execExerciseStart (s : State) : Res := .next (exerciseStart s)

/-- EXERCISE_ABORT (R391): NRG_EXER_CTL.ABORT. -/
def exerciseAbort (s : State) : State :=
  if s.nrg.exer.isSome then (chargeStep (endExercise 8 s)) else s

/-- EXERCISE_ABORT (R391): NRG_EXER_CTL.ABORT. -/
def execExerciseAbort (s : State) : Res := .next (exerciseAbort s)

/-- EXERCISE_STOP_CHECK (R391): every 100 ms. -/
def execExerciseStopCheck (s : State) : Res :=
  match s.nrg.exer with
  | none => .next s
  | some _ =>
    let s := advanceTo (nextMultiple s 100000) s
    match s.nrg.exer with
    | none => .next s
    | some x =>
      match exerciseStop s x with
      | some r => .next (chargeStep (endExercise r s))
      | none => .next s

end Sys2Proof.Machine
end

