-- ==== Sys2Proof/Machine/Faults.lean ====
section
/-! DEFINITION. The commands of the fault stations and of Safe Harbour's acknowledge (16_fault_stations). -/

namespace Sys2Proof.Machine

/-- The station after a class's grace timer has expired (R558). -/
def graceStation (cls : Nat) (x : Station) : Station :=
  let lvl := if x.sticky.getLsbD cls && x.live.getLsbD cls then max x.level (min x.cap 2) else x.level
  { x with graceAt := aerase x.graceAt cls, level := lvl,
           escalations := if x.level < lvl then satInc 0xFFFF x.escalations else x.escalations }

/-- GRACE_EXPIRE (R558, R559): the timer of a class expires; a class sticky and live takes the level to Contain at most. -/
def execGraceExpire (block : Block) (cls : Nat) (s : State) : Res :=
  match alookup (stationAt s block).graceAt cls with
  | none => .next s
  | some t =>
    let s := advanceTo t s
    let old := (stationAt s block).level
    .next (escalate block old (modStation block (graceStation cls) s))

/-- The station after a class's quiet timer has expired (R563): with no class live the fault state ends. -/
def quietStation (cls : Nat) (x : Station) : Station :=
  let live := x.live &&& ~~~ (BitVec.ofNat 32 (2 ^ cls))
  let x := { x with quietAt := aerase x.quietAt cls, live := live }
  if live = 0 then { x with level := 0, graceAt := [], recoveries := satInc 0xFFFF x.recoveries } else x

/-- QUIET_EXPIRE (R563). -/
def execQuietExpire (block : Block) (cls : Nat) (s : State) : Res :=
  match alookup (stationAt s block).quietAt cls with
  | none => .next s
  | some t => .next (modStation block (quietStation cls) (advanceTo t s))

/-- The station after a FACK write (R564). -/
def fackStation (value : Word) (x : Station) : Station :=
  let sticky := x.sticky &&& ~~~ value
  { x with sticky := sticky, graceAt := x.graceAt.filter fun g => !(value.getLsbD g.1 && x.sticky.getLsbD g.1),
           raised := if sticky = 0 then 0 else x.raised }

/-- FACK_WRITE (R564). -/
def fackWrite (block : Block) (value : Word) (s : State) : State := modStation block (fackStation value) s

/-- FACK_WRITE (R564). -/
def execFackWrite (block : Block) (value : Word) (s : State) : Res := .next (fackWrite block value s)

/-- QUARANTINE_END (R566): the reset time plus 1 µs is over. -/
def execQuarantineEnd (block : Block) (s : State) : Res :=
  match (stationAt s block).quarUntil with
  | none => .next s
  | some t => .next (modStation block (fun x => { x with quarUntil := none }) (advanceTo t s))

/-- DEV_HARBOUR_ACK_WRITE (R575): bit 0, ACK. -/
def execDevHarbourAckWrite (value : Word) (s : State) : Res :=
  .next (if value.getLsbD 0 then acknowledge s else s)

end Sys2Proof.Machine
end

