-- ==== Sys2Proof/Machine/Gauge.lean ====
section
/-! DEFINITION. Commands of the gauge and the Reckoning (11_gauge_reckoning). -/

namespace Sys2Proof.Machine

/-! ### Resistance pulses (R411) -/

/-- The conditions of a pulse (R411). -/
def pulseOk (s : State) : Bool :=
  (s.dev.state = .service || s.dev.state = .harbour) && packUsable s && s.gau.restWindow.isNone &&
    therms s s.plan.energy.tdisMin s.plan.energy.tdisMax && s.gau.pulseEn && s.gau.pulseEnd.isNone

/-- Start a pulse: 2.0 A from the pack for 200 ms; its sample follows 10 ms later (R411). -/
def startPulse (s : State) : State :=
  let s := markStep s
  { s with gau := { s.gau with pulseEnd := some (s.almanac + 200000), pulseDue := false } }

/-- RESISTANCE_PULSE (R411): the pulse of an insertion when one is due, else the daily pulse. -/
def execResistancePulse (s : State) : Res :=
  if s.gau.pulseDue then .next (if pulseOk s then startPulse s else s)
  else
    let s := match s.gau.pulseAt with
      | some t => advanceTo (t + 86400000000) s
      | none => s
    if pulseOk s then
      let s := startPulse s
      .next { s with gau := { s.gau with pulseAt := some s.almanac } }
    else .next s

/-- PULSE_NOW (R411): GAU_CTL.PULSE_NOW. -/
def pulseNow (s : State) : State := (if pulseOk s then startPulse s else s)

/-- PULSE_NOW (R411): GAU_CTL.PULSE_NOW. -/
def execPulseNow (s : State) : Res := .next (pulseNow s)

/-! ### References and rest windows (R398, R402, R403) -/

/-- GAUGE_REST_REFERENCE (R398, R402, R406): the rest condition has held for the rest time. -/
def execGaugeRestReference (s : State) : Res :=
  match s.gau.restSince with
  | none => .next s
  | some t =>
    if cellMode s && s.nrg.inserted && poweredState s.dev.state then
      let s := advanceTo (t + restTime s.plan.energy.chem) s
      let s := { s with gau := { s.gau with restSince := some s.almanac } }
      .next (if inRefRange s.plan.energy.chem (socV s) then takeReference s else s)
    else .next s

/-- A rest window may open now (R402, R409): charger phase 4 and one of its cases; at the end of an Exercise in any
phase (assumption 36). -/
def windowOk (s : State) : Bool :=
  let g := s.gau
  let due : Bool := g.refAt + 86400000000 ≤ s.almanac &&
    (match g.windowAt with | some t => t + 86400000000 ≤ s.almanac | none => true)
  cellMode s && s.nrg.inserted && g.restWindow.isNone && chargeAllowed s &&
    (g.exerRef || (s.nrg.chg = .done && (g.disagree || g.forceRef || due)))

/-- FORCE_REF (R402): GAU_CTL.FORCE_REF; outside phase 4 the window opens at the next entry to it. -/
def forceRefCmd (s : State) : State :=
  if cellMode s then
    let s := { s with gau := { s.gau with forceRef := true } }
    (if windowOk s then openWindow s else s)
  else s

/-- FORCE_REF (R402): GAU_CTL.FORCE_REF; outside phase 4 the window opens at the next entry to it. -/
def execForceRef (s : State) : Res := .next (forceRefCmd s)

/-- REST_WINDOW_OPEN (R402). -/
def execRestWindowOpen (s : State) : Res := .next (if windowOk s then openWindow s else s)

/-- REST_WINDOW_TIMEOUT (R402): 3 h without a qualifying rest. -/
def execRestWindowTimeout (s : State) : Res :=
  match s.gau.restWindow with
  | none => .next s
  | some t => .next (closeWindow (advanceTo (t + 10800000000) s))

/-- ESTIMATOR_STALE (R403): 72 h without a reference. -/
def execEstimatorStale (s : State) : Res :=
  if cellMode s && s.nrg.inserted && !s.gau.stale && poweredState s.dev.state then
    let s := advanceTo (s.gau.staleFrom + 259200000000) s
    let s := { s with gau := { s.gau with stale := true } }
    let s := event 0x000C .gau ((s.almanac - s.gau.staleFrom) / 3600000000) 0 (raise gauStale s)
    .next (wantRek (markStore s))
  else .next s

/-- CAPACITY_DERATE (R410): 90 days without a qualified sample, and each further 30 days; every time that has passed lowers the value once. -/
def execCapacityDerate (s : State) : Res :=
  let g := s.gau
  if s.nrg.inserted && poweredState s.dev.state then
    let due := if g.derateAt ≤ g.learnAt then g.learnAt + 7776000000000 else g.derateAt + 2592000000000
    let s := advanceTo due s
    let more := (s.almanac - due) / 2592000000000
    .next { s with gau := { s.gau with cap := (List.range (more + 1)).foldl (fun c _ => c * 99 / 100) s.gau.cap,
                                       derateAt := due + more * 2592000000000 } }
  else .next s

/-! ### Records (R412) -/

/-- The profile record as it stands now (Table 11-4). -/
def profileNow (s : State) : PackProfile :=
  let g := s.gau
  { g.prof with
    learned := g.learned, cap := g.cap, res25 := g.res25, resFirst := g.resFirst, socC := floorNat (socC s),
    u := ceilNat (uNow s), tRef := g.refAt, tLearn := g.learnAt, qualified := g.qualified,
    disqualified := g.disqualified, derateAt := g.derateAt }

/-- GAUGE_RECORD_STORE (R412): the records are written on an occasion, or 24 h after the last write; a failed write is
tried again at the next occasion. -/
def execGaugeRecordStore (pass : Bool) (s : State) : Res :=
  if poweredState s.dev.state && !logHolds s then
    let s := if s.gau.storeDue then s else advanceTo (s.gau.storedAt + 86400000000) s
    if pass then
      let g := s.gau
      let seen : Bool := g.prof.cls ≠ 0
      .next { s with gau := { g with profiles := if seen then vset g.profiles s.nrg.profSlot (profileNow s) else g.profiles,
                                     costStored := g.cost, resStored := g.res25, storeDue := false,
                                     storedAt := s.almanac } }
    else .next (raise gauStoreFail { s with gau := { s.gau with storeDue := false, storedAt := s.almanac } })
  else .next s

/-! ### The Reckoning (R414 to R422) -/

/-- The grant in force (R110, R421). -/
def grantNow (s : State) : Option Nat :=
  match s.rek.grant with
  | some g => if s.almanac < g.at_ + g.validS * 1000000 then some g.joules else none
  | none => none

/-- LIMIT of a run, 0 when the energy alone sets the ceiling (R419, in the order of R420's listing). -/
def limitOf (s : State) (rate : Nat) : Nat :=
  if !packUsable s then 2
  else if tNow s < 4 * s.plan.energy.tdisMin then 4
  else if rate < rateFloor (if fullModel s then 2 else 1) then 1
  else if s.plan.domain.grantMode && (grantNow s).isNone then 3
  else 0

/-- A cost that the spec states, or a free value where the plan rate is 0 (assumption 6). -/
def costOrFree (c : Option Nat) (s : State) : Nat × State :=
  match c with
  | some x => (x, s)
  | none => takeFree s

/-- SAVE_EST_MS (R418): a free value at a plan rate of 0. -/
def saveEst (rate : Nat) (s : State) : Nat × State :=
  if rate = 0 then takeFree s else (ceilDiv (s.cht.dirtyTotal * 65536) (rate * 1000) + 5, s)

/-- One run of the Reckoning (R416 to R419, R421). -/
def reckon (s : State) : RekOut × State :=
  let full := fullModel s
  let rate := planRateOf s full
  let (c, s) := costOrFree (costOf s full) s
  let cfull := costOf s true
  let (cf, s) := costOrFree cfull s
  let (est, s) := saveEst rate s
  let t := degrees (tNow s) - 5
  let e := usableEnergies s full t
  let grant := s.plan.domain.grantMode
  let use : Rat := if grant then (((grantNow s).getD 0 : Nat) : Rat) else min e.1 e.2
  let b := budgetOf s use
  let lim := limitOf s rate
  let r : Rat := 1 - (s.plan.policy.reservePct : Rat) / 100
  let f : Rat := (fixedJ s : Rat)
  let g := savedGib s
  let dirty : Rat := if stowedMode s then (s.cht.dirtyTotal : Rat) / 16384 else g
  let fullNeed := ceilNat ((f * 1000 + (cf : Rat) * g) / r)
  let fullOk : Bool := lim = 0 && cfull.isSome && decide (f + (cf : Rat) / 1000 * g ≤ b)
  let o : RekOut := {
    source := b2n grant, limit := lim, fallback := fallbackCost s, fullOk := fullOk,
    ceiling := if lim = 0 then ceilingOf s b c else 0,
    perGibMj := c, fUsedJ := fixedJ s, fullMj := cf, tNow := tNow s, tFcast := tNow s - 20, planRate := rate,
    powerDw := ceilNat (savePower full rate * 10), eUse := floorNat (use * 1000), eBudget := floorNat (b * 1000),
    need := if stowedMode s then ceilNat ((f * 1000 + (c : Rat) * dirty) / r) else fullNeed,
    fullNeed := fullNeed, eV := floorNat (e.1 * 1000), eC := floorNat (e.2 * 1000), saveEstMs := est,
    socV := floorNat (socV s), socC := floorNat (socC s), u := ceilNat (uNow s), cap := s.gau.cap,
    res25 := s.gau.res25, disagree := s.gau.disagree, stale := s.gau.stale,
    unlearned := s.nrg.inserted && !s.gau.learned, eol := s.rek.eol, life := packLife s, countLow := countLow s,
    logsDis := s.gau.disagreeEvent }
  (o, s)

/-- The states in which the Reckoning runs, from boot step 3 (R414). -/
def reckonState (s : State) : Bool :=
  match s.dev.state with
  | .boot => s.cht.built
  | .restore | .tenancy | .service | .harbour | .warmReturn => true
  | _ => false

/-- The Purser is being reloaded: the last verdict holds (15_onchip_integrity Table 15-6 row 4). -/
def purserAway (s : State) : Bool :=
  match alookup s.ecc.reload mPurser with | some t => decide (s.almanac < t) | none => false

/-- RECKONING_RUN (R401, R414 to R419): at once when a run is wanted, else at the next 10 s, or the next second of an
Exercise. -/
def execReckoningRun (s : State) : Res :=
  if reckonState s && s.rek.running.isNone && !s.nrg.runHold && !purserAway s then
    let s := if s.rek.again then s
             else advanceTo (nextMultiple s (if s.nrg.exer.isSome then 1000000 else 10000000)) s
    let s := checkDisagree { s with rek := { s.rek with again := false } }
    let (o, s) := reckon s
    .next { s with rek := { s.rek with running := some o, again := false },
                   gau := { s.gau with disagreeEvent := false } }
  else .next s

/-- The ceiling differs by more than 5 % from the value logged last (R420). -/
def ceilMoved (new old : Nat) : Bool := old < 20 * ((new - old) + (old - new))

/-- RECKONING_PUBLISH (R401, R419, R420): the end of a run; a Suite that a context error has disarmed may arm again
(05_rooms_suites_chart R208). -/
def execReckoningPublish (s : State) : Res :=
  match s.rek.running with
  | none => .next s
  | some o =>
    let old := s.rek.out
    let s := { s with
      sui := s.sui.map fun c => { c with armHold := false },
      stw := { s.stw with rekCeil := o.ceiling, fullOk := o.fullOk },
      sav := { s.sav with planRate := o.planRate },
      rek := { s.rek with out := o, running := none, runs := (s.rek.runs + 1) % 0x10000, lastAt := s.almanac } }
    let s := if o.limit = 1 ∧ old.limit ≠ 1 then raiseAddr rekPowerFloor (o.eUse / 1000) mNone 0 s else s
    let s := if ceilMoved o.ceiling s.rek.loggedCeil then
        let was := s.rek.loggedCeil
        event 0x0005 .rek was o.ceiling { s with rek := { s.rek with loggedCeil := o.ceiling } }
      else s
    let s := if o.logsDis then event 0x000B .gau (o.eV / 1000) (o.eC / 1000) s else s
    .next (reevalStalled (reeval s))

/-- REK_RUN (R414): REK_CTL.RUN. -/
def rekRunCmd (s : State) : State := (if reckonState s then wantRek s else s)

/-- REK_RUN (R414): REK_CTL.RUN. -/
def execRekRun (s : State) : Res := .next (rekRunCmd s)

/-- PACK_EOL_EVAL (R423, R424): the daily evaluation. -/
def execPackEolEval (s : State) : Res :=
  if s.nrg.inserted && poweredState s.dev.state then
    .next (eolEval true (advanceTo (nextMultiple s 86400000000) s))
  else .next s

end Sys2Proof.Machine
end

