-- ==== Sys2Proof/Machine/Host.lean ====
section
/-! DEFINITION. The commands of the host link (03_host_link): link, requests, claims, acceptance, reads, flush,
IDE, HDM decoders. -/

namespace Sys2Proof.Machine

/-! ### Link -/

/-- Rate in GT/s of a RATE code, and width in lanes of a WIDTH code (HST_LINK). -/
def rateGts (r : Nat) : Nat := match r with | 1 => 8 | 2 => 16 | 3 => 32 | 4 => 64 | _ => 0
def widthLanes (w : Nat) : Nat := match w with | 1 => 4 | 2 => 8 | 3 => 16 | _ => 0

/-- PERST_N starts an assertion: noted for R710. -/
def perstDown (s : State) : State :=
  { s with nrg := { s.nrg with perst := true }, sav := { s.sav with absenceSinceFence := true } }

/-- Versions, rates and widths that the part supports, as their highest codes in HST_LINK: CXL 1.1 to 3.x, 8 to 64 GT/s, x4 to x16
(Table 03-1). -/
def topVersion : Nat := 3
def topRate : Nat := 4
def topWidth : Nat := 3

/-- The highest code from 1 to a top that the other end supports too, whose codes are the bits of a mask; 0 when there is none. -/
def bestCommon (top mask : Nat) : Nat := (List.range top).foldl (fun a k => if mask.testBit (k + 1) then k + 1 else a) 0

/-- A vector that pended is delivered once it is not masked (R114; PCIe). -/
def deliverPending (s : State) : State :=
  (List.range 32).foldl (fun s v =>
    if s.hst.linkUp && s.hst.msixEnable && s.hst.msixPending.getLsbD v && !s.hst.msixMask.getLsbD v then
      emit (.msix v) { s with hst := { s.hst with msixPending := s.hst.msixPending &&& ~~~BitVec.ofNat 32 (2 ^ v) } }
    else s) s

/-- HOST_LINK_RESET (R118, R119): the host link only, with the quarantine of HST (16_fault_stations R566). Assertion of PERST_N is also noted for the boot
conditions (01_architecture R34, R710). -/
def execHostLinkReset (kind : LinkResetKind) (s : State) : Res :=
  let s := modStation .hst (fun x => { x with quarUntil := some (s.almanac + 11) }) s
  .next (reeval (linkReset (if kind = .perst then perstDown s else s)))

/-- HOST_LINK_TRAINED (R79, R81, R83; 08_startup_restore R292): the link trains to the highest version, rate and width that both ends
support; the masks have a bit for each code of HST_LINK that the other end supports, and `answers` tells that it takes part. Flits are of
256 B at 64 GT/s and of 68 B below. Narrower than x16 or slower than 64 GT/s sets DEGRADED and logs 0x0010. The host's MSI-X enable and
vector mask are taken with it; what pended and is masked no longer is delivered (R114). On a link that is up and keeps its version, rate and
width nothing has trained: the command tells the host's enable and mask alone (DESIGN CHOICE: assumption 143). -/
def execHostLinkTrained (vers rates widths : Nat) (answers msixEnable : Bool) (msixMask : Word) (s : State) : Res :=
  let v := bestCommon topVersion vers
  let r := bestCommon topRate rates
  let w := bestCommon topWidth widths
  if poweredState s.dev.state && answers && v ≠ 0 && r ≠ 0 && w ≠ 0 then
    let same := s.hst.linkUp && s.hst.cxlVer = v && s.hst.rate = r && s.hst.width = w
    let s := { s with hst := { s.hst with cxlVer := v, rate := r, width := w, flit256 := r = topRate, linkUp := true,
                                          msixEnable := msixEnable, msixMask := msixMask } }
    .next (deliverPending (if !same && (r < topRate || w < topWidth) then
        event 0x0010 .hst (rateGts r) (widthLanes w) { s with hst := { s.hst with degraded := true } }
      else s))
  else .next s

/-- A decoder value that R84 supports: ways, granularity, multiples of 256 MiB, a position within the ways. -/
def hdmSupported (base size ways gran pos : Nat) : Bool :=
  [1, 2, 4, 8, 16].contains ways && [256, 512, 1024, 2048, 4096, 8192, 16384].contains gran &&
    base % 2 ^ 28 = 0 && size % 2 ^ 28 = 0 && pos < ways

/-- HDM_DECODER_COMMIT (R84): a supported value, with every decoder of lower index committed, takes effect;
otherwise the commit fails. -/
def execHdmDecoderCommit (index base size ways gran pos : Nat) (s : State) : Res :=
  let order := (s.hst.hdm.toList.take index).all fun d => d.committed
  let good := hdmSupported base size ways gran pos && order
  let d : HdmDecoder := { base := base, size := size, ways := ways, gran := gran, pos := pos,
                          committed := good, err := !good }
  .next { s with hst := { s.hst with hdm := vset s.hst.hdm index d } }

/-! ### Writes -/

/-- A new host write of the tracker. -/
def newWrite (s : State) (tag beat : Nat) (data : List Byte) (enables : Dword) (poison parityBad : Bool) : HostWrite :=
  { tag := tag, w := { beat := beat, data := padTo beatBytes data, enables := enables, poison := poison },
    parityBad := parityBad, at_ := s.almanac, hold := .none, claim := .notPresented, accepted := false,
    waitAck := none, inDram := false, oldRole := false }

/-- A host write with its DPA already known: discarded, given an entry, or made to wait for credits (R90, R94 to
R96). -/
def takeWrite (tag beat : Nat) (data : List Byte) (enables : Dword) (poison parityBad : Bool) (s : State) : State :=
  let w := newWrite s tag beat data enables poison parityBad
  if s.hst.waiting.isEmpty && writeRoom s then enterWrite w s
  else { s with hst := { s.hst with waiting := s.hst.waiting ++ [w] } }

/-- HOST_WRITE_REQUEST (R87, R90, R94 to R96): with the gate open and the link up, the write is discarded, takes an
entry or waits for credits. -/
def execHostWriteRequest (tag hpa : Nat) (data : List Byte) (enables : Dword) (poison parityBad : Bool) (s : State) :
    Res :=
  if s.hst.gateClosed || !s.hst.linkUp then .next s
  else
    let dpa := hpaToDpa s hpa
    match discardReason s dpa with
    | some k => .next (discard tag k s)
    | none => .next (takeWrite tag (dpa.getD 0 / beatBytes) data enables poison parityBad s)

/-- What a presented claim comes to for a host write of a tag on a tile of a Suite (R210, R231, R232). -/
def presentClaim (tag t : Nat) (c : SuiteCtx) (s : State) : State :=
  match claimVerdict s t c with
  | .grant => modWrite tag (fun w => { w with claim := .granted }) (grantClaim t false s)
  | .expose => modWrite tag (fun w => { w with claim := .granted }) (grantClaim t true s)
  | .stall => stallClaim (some tag) 0 t c.cfg.id (modWrite tag (fun w => { w with claim := .stalled }) s)

/-- A write presents its claim now: nothing holds it, its Room is of a saved class, it is decoded and writable, and
the gate is open (R88, R210). -/
def claimDue (s : State) (w : HostWrite) : Option SuiteCtx :=
  if !s.hst.gateClosed && s.sav.opened && w.hold = .none && w.claim = .notPresented &&
      (tileClass s (writeTile w.w)).saved then
    match decodeWrite s w with
    | .ok c => if c.cfg.policy = .readOnly then none else some c
    | .error _ => none
  else none

/-- CLAIM_PRESENT (06_stowing_ceiling R210, R231, R232). -/
def execClaimPresent (tag : Nat) (s : State) : Res :=
  match findWrite s tag with
  | none => .next s
  | some w =>
    match claimDue s w with
    | none => .next s
    | some c => .next (presentClaim tag (writeTile w.w) c s)

/-- HOST_WRITE_ACCEPT (R88 to R92): the write is accepted once every condition holds; a write that has lost its
decoding is discarded. -/
def execHostWriteAccept (tag : Nat) (s : State) : Res :=
  match findWrite s tag with
  | none => .next s
  | some w =>
    if acceptable s w then .next (acceptWrite w s)
    else
      match decodeWrite s w with
      | .error k =>
        if s.hst.gateClosed || w.claim = .stalled then .next s
        else let s := discard tag k (dropWrite tag s); .next (admitWrites s)
      | .ok _ => .next s

/-! ### Volatile tiles -/

/-- Some write is held for the fill of a tile: of the host or of a Dumbwaiter channel (R191). -/
def fillWanted (s : State) (t : Nat) : Bool :=
  (s.hst.writes.any fun w => w.hold = .fill && writeTile w.w = t) || s.dmw.ch.toList.any (chanHeldAt s t)

/-- VOLATILE_FILL_DONE (05_rooms_suites_chart R191): zeros in every beat, once the DRC serves
them, then Live, then the held writes proceed. -/
def execVolatileFillDone (tile : Nat) (s : State) : Res :=
  if tileClass s tile = .volatile && (tileAt s tile).st = .clean && fillWanted s tile then
    .next (if tileServed s mNone tile then fillTile tile s else callTile tile s)
  else .next s

/-- DISCARD_WINDOW_END (R90): one event 0x0004 for each reason of the window that ends at the next multiple of
1,000 µs. -/
def execDiscardWindowEnd (s : State) : Res :=
  let l := s.hst.windowDiscards
  let s := { s with hst := { s.hst with windowDiscards := [] } }
  .next ([0, 1, 2, 3].foldl (fun s k =>
    match alookup l k with
    | some n => event 0x0004 .hst k n s
    | none => s) (if l.isEmpty then s else advanceTo ((s.almanac / 1000 + 1) * 1000) s))

/-! ### Reads -/

/-- A poisoned answer. -/
def poisonedRead (tag : Nat) (s : State) : State := emit (.readData tag poisonData true) s

/-- A decoded host read takes an entry, or waits for one in order of arrival (R95, R96). -/
def takeRead (tag beat : Nat) (s : State) : State :=
  let r : HostRead := { tag := tag, beat := beat, at_ := s.almanac, req := none }
  if readRoom s && s.hst.readsWaiting.isEmpty then admitRead r s
  else { s with hst := { s.hst with readsWaiting := s.hst.readsWaiting ++ [r] } }

/-- HOST_READ (R87, R93, R101, R116): poisoned while IDE is broken or when undecoded. -/
def execHostRead (tag hpa : Nat) (s : State) : Res :=
  if s.hst.gateClosed || !s.hst.linkUp then .next s
  else if s.hst.ideBroken then .next (poisonedRead tag s)
  else
    match hpaToDpa s hpa with
    | none => .next (poisonedRead tag s)
    | some a =>
      match decodeDpa s a with
      | .error _ => .next (poisonedRead tag s)
      | .ok _ => .next (takeRead tag (a / beatBytes) s)

/-! ### Global Persistent Flush (R97 to R99) -/

/-- A flush is answered: the link is up and no Fence has closed (R97 to R99), in BOOT and RESTORE too. -/
def gpfAnswers (s : State) : Bool :=
  s.hst.linkUp && match s.dev.state with
    | .boot | .restore | .tenancy | .service | .harbour => true
    | _ => false

/-- GPF_PHASE1 (R97, R99): answered at once, never after the Fence has closed. -/
def execGpfPhase1 (s : State) : Res := if gpfAnswers s then .next (emit (.gpf 1) s) else .next s

/-- The writes that a phase 2 waits for: those that arrived before and are neither accepted nor discarded, but for
those that a Room's restore holds (R98). -/
def gpfWaits (s : State) : List Nat :=
  ((s.hst.writes ++ s.hst.waiting).filter fun w => !w.accepted && w.hold ≠ .room).map fun w => w.tag

/-- GPF_PHASE2 (R98 step 1, R99). -/
def execGpfPhase2 (s : State) : Res :=
  if gpfAnswers s then
    let g : GpfPhase2 := { at_ := s.almanac, waits := gpfWaits s }
    .next { s with hst := { s.hst with gpf := s.hst.gpf ++ [g] } }
  else .next s

/-- The writes that a phase 2 waited for have all been accepted or discarded. -/
def gpfReady (s : State) (g : GpfPhase2) : Bool := g.waits.all fun t => !(gpfWaits s).contains t

/-- Every accepted host write is in DRAM (R98 step 2). -/
def hostDrained (s : State) : Bool := s.hst.writes.all fun w => !w.accepted || w.inDram

/-- GPF_PHASE2_DRAINED (R98 steps 2 to 4): the oldest phase 2 whose writes are all accepted or discarded, once every accepted write is in
DRAM. -/
def execGpfPhase2Drained (s : State) : Res :=
  match s.hst.gpf with
  | [] => .next s
  | g :: r =>
    if gpfReady s g && hostDrained s then
      let s := { s with hst := { s.hst with gpf := r, ph2Count := satInc 0xFFFF s.hst.ph2Count,
                                            gpfLastUs := min 0xFFF (s.almanac - g.at_) } }
      .next (if s.hst.linkUp then emit (.gpf 2) s else s)
    else .next s

/-! ### Link IDE (R115, R116) -/

/-- IDE_KEY_PROGRAM (R115): the stream states; a re-key ends the insecure state of R116. -/
def execIdeKeyProgram (ioSecure memSecure : Bool) (s : State) : Res :=
  .next { s with hst := { s.hst with ideIoSecure := ioSecure, ideMemSecure := memSecure,
                                     ideBroken := s.hst.ideBroken && !(ioSecure && memSecure) } }

/-- Every write not yet accepted is discarded with reason 3, and its claim no longer stalls (R116). -/
def discardAll (s : State) : State :=
  let gone := ((s.hst.writes.filter fun w => !w.accepted) ++ s.hst.waiting).map fun w => w.tag
  let s := { s with hst := { s.hst with writes := s.hst.writes.filter fun w => w.accepted, waiting := [] },
                    stw := { s.stw with stalled := s.stw.stalled.filter fun c => c.hostTag.isNone } }
  admitWrites (gone.foldl (fun s t => discard t 3 s) s)

/-- IDE_INTEGRITY_FAILURE (R116): streams insecure, event 0x0015 with the stream, class IDE_FAIL; until a re-key
reads return poisoned and writes are discarded. -/
def execIdeIntegrityFailure (stream : Nat) (s : State) : Res :=
  let held := s.hst.reads ++ s.hst.readsWaiting
  let s := { s with hst := { s.hst with ideIoSecure := false, ideMemSecure := false, ideBroken := true,
                                        ideFail := true, reads := [], readsWaiting := [] } }
  let s := event 0x0015 .hst stream 0 s
  let s := held.foldl (fun s r => poisonedRead r.tag s) (discardAll s)
  .next (reeval (raise hstIdeFail s))

end Sys2Proof.Machine
end

