-- ==== Sys2Proof/Machine/OpsFrame.lean ====
section
/-! DEFINITION. Frames of the service hatch: what is served, SEQ, responses and their MAC (18_service_update R607 to R617). -/

namespace Sys2Proof.Machine

/-- The hatch is served (R607). -/
def hatchServed (s : State) : Bool :=
  match s.dev.state with
  | .off | .saved => false
  | _ => true

/-- What a command answers: STATUS, DETAIL, output, and the state after it. -/
abbrev SvcAns := Nat × Nat × List Byte × State

/-- An answer without output. -/
def svcStat (c : Nat) (s : State) : SvcAns := (c, 0, [], s)

/-- The MAC of a response under a session key: the first 16 bytes of HMAC-SHA-256 over header and payload (R608, R613). -/
def frameMac (key : List Byte) (type seq : Nat) (payload : List Byte) : List Byte :=
  (Config.hmacSha256 key
    ([0xC3, 0x5A, BitVec.ofNat 8 type, 0x03] ++ leBytes 2 seq ++ leBytes 2 payload.length ++ payload)).take 16

/-- A response frame; a MAC from the AUTH response onward, and on the answer that closes such a session (R613). -/
def sendResponse (before : Svc) (type seq : Nat) (payload : List Byte) (s : State) : State :=
  let mac :=
    if s.svc.session = .authenticated then frameMac s.svc.sessionKey type seq payload
    else if before.session = .authenticated ∧ type ≠ 0x01 then frameMac before.sessionKey type seq payload
    else []
  emit (.service type seq payload mac) s

/-- A response payload (R610). -/
def svcPayload (status detail : Nat) (out : List Byte) : List Byte :=
  [BitVec.ofNat 8 status, BitVec.ofNat 8 detail, 0, 0] ++ out

/-- Answer a command: the response is stored for a repeat of its SEQ (R614). -/
def answer (before : Svc) (type seq : Nat) (a : SvcAns) : State :=
  let p := svcPayload a.1 a.2.1 a.2.2.1
  let s := a.2.2.2
  sendResponse before type seq p
    { s with svc := { s.svc with lastSeq := some (seq % 65536), lastResp := p, progress := none, lastCmdAt := s.almanac } }

/-- Before AUTH only HELLO, AUTH, CLOSE and STATUS are served (R617). -/
def openCommand (type : Nat) : Bool := type = 0x01 || type = 0x02 || type = 0x03 || type = 0x10

/-- What the hatch does with a command frame that R609 does not discard (R612, R614, R617). A command that answers later gives
no answer now, and its SEQ stays owed (R611). -/
def svcFrameOpt (type seq : Nat) (f : State → Option SvcAns × State) (s : State) : State :=
  if !hatchServed s ∨ s.svc.owed = some (seq % 65536) then s
  else
    let s := { s with svc := { s.svc with pres := true } }
    let v := s.svc
    let auth := v.session = .authenticated
    if auth ∧ v.lastSeq = some (seq % 65536) then sendResponse v type seq v.lastResp s
    else if auth ∧ v.lastSeq.any (fun l => (l + 1) % 65536 ≠ seq % 65536) then
      sendResponse v type seq (svcPayload 0x09 0 []) s
    else if v.badVersion ∧ type ≠ 0x01 then
      if type = 0x10 then answer v type seq (svcStat 0x08 s) else s
    else if !openCommand type ∧ !auth then answer v type seq (svcStat 0x02 s)
    else
      match f s with
      | (some a, _) => answer v type seq a
      | (none, s) => { s with svc := { s.svc with owed := some (seq % 65536), lastSeq := some (seq % 65536), lastResp := [],
                                                  lastCmdAt := s.almanac } }

/-- A command that is answered at once. -/
def svcFrame (type seq : Nat) (f : State → SvcAns) (s : State) : State :=
  svcFrameOpt type seq (fun s => (some (f s), s)) s

/-- The answer that a command still owes (R611). -/
def payOwed (type status : Nat) (s : State) : State :=
  let s := { s with svc := { s.svc with result := status } }
  match s.svc.owed with
  | none => s
  | some q =>
    let s := { s with svc := { s.svc with owed := none } }
    if hatchServed s ∧ s.svc.session ≠ .none then answer s.svc type q (svcStat status s) else s

end Sys2Proof.Machine
end

