-- ==== Sys2Proof/Machine/OpsUpd.lean ====
section
/-! DEFINITION. The firmware update as shared operations: image areas and boot-record markers in Attic words, update phases,
the end of a handover, confirmation (18_service_update R630 to R644). -/

namespace Sys2Proof.Machine

/-! ### Phases -/

/-- A change of the update phase, with its Log record (19_almanac_log_identity Table 19-4, TYPE 0x0104): SVC_UPD, the bank
concerned and the Steward version of its header. -/
def setPhase (p bank : Nat) (s : State) : State :=
  if s.svc.phase = p then s
  else
    let s := { s with svc := { s.svc with phase := p } }
    logRecord 0x0104 (blockNum .svc) (updWord s) bank (stewardVersion s bank) 0xFFFF mNone s

/-- Set SVC_UPD.RESULT. -/
def setResult (r : Nat) (s : State) : State := { s with svc := { s.svc with result := r } }

/-! ### Words of a bank -/

/-- Bytes of a bank, from an offset; a word that does not decode reads as zeros here. -/
def bankBytesAt (s : State) (b ofs len : Nat) : List Byte :=
  (List.range len).map fun i =>
    let w := atticWord (svcBank s b) (ofs + i)
    if w.torn then 0 else BitVec.ofNat 8 (w.value.toNat / 256 ^ ((ofs + i) % 8))

/-- Program bytes, a whole number of words, into Erased words (14_attic R507). -/
def programBytes (b ofs : Nat) (l : List Byte) (s : State) : State :=
  let w := fun (i : Nat) => BitVec.ofNat 64 (num l (8 * i) 8)
  modBank b (fun k => { k with words := (List.range (ceilDiv l.length 8)).foldl (fun t i =>
    tmod {} t (ofs / 8 + i) (programmed (w i))) k.words }) s

/-- Offset in its bank of a core's image area: a quarter of sectors 1 to 88 (R622). -/
def imageArea (core : Nat) : Nat := (1 + 22 * core) * 0x10000

/-- Bytes of a core's image area: 1,408 KiB; a Keeper image is at most 256 KiB (R622). -/
def imageMax (core : Nat) : Nat := if core = 3 then 262144 else 1441792

/-- A core's image in a bank, as long as the header there says. -/
def coreImage (s : State) (b core : Nat) : List Byte := bankBytesAt s b (imageArea core) (hdrField s b (0xE0 + 4 * core) 4)

/-- SHA-256 of the image set in force, in VERSIONS order (Table 18-5, BASE_DIGEST). -/
def setDigest (s : State) : List Byte := Config.sha256 ((List.range 4).map (coreImage s s.svc.inForce)).flatten

/-- Program a marker word (R632); `reads` tells whether the word then decodes as R632 asks. -/
def programMarker (b : Nat) (m : Marker) (reads : Bool) (s : State) : State :=
  let v := markerValue (bankGen (svcBank s b)) m
  modBank b (fun k => { k with words := tmod {} k.words (m.ofs / 8) fun w => { programmed v w with torn := !reads } }) s

/-- FLAGS of a bank's package header: AUTO_CONFIRM, RAISE_EPOCH (Table 18-5). -/
def hdrFlag (s : State) (b k : Nat) : Bool := hdrField s b 7 1 / 2 ^ k % 2 = 1

/-! ### Handover and confirmation (R636 to R644) -/

/-- The new Steward's probe accepts the settings and the inter-core version of the set in force (R636). -/
def probeAccepts (s : State) (b : Nat) : Bool :=
  decide (hdrField s b 0x26 2 ≤ s.cal.setFmt ∧ s.cal.setFmt ≤ hdrField s b 0x24 2 ∧
    hdrField s b 0x28 2 ≤ hdrField s s.svc.inForce 0x2A 2)

/-- The Steward's handover ends: the new set is in force and probation begins (R641). -/
def beginProbation (b : Nat) (s : State) : State :=
  let auto := hdrFlag s b 2
  setPhase 4 b { s with svc := { s.svc with inForce := b, handed := 4, probUs := 0, auto := auto } }

/-- On entry to SERVICE after WARM-RETURN a handover that the Fence stopped is completed (R644). -/
def resumeHandover (s : State) : State :=
  if s.svc.phase = 3 then payOwed 0x23 0 (beginProbation (spareBank s) s) else s

/-- Steps 2 to 5 of R642 for a bank that is CONFIRMED: the other bank retired, fuses blown, settings migrated, MIGRATED. Each
may be repeated without harm (R643). -/
def migrate (b : Nat) (s : State) : State :=
  let old := 1 - b
  let s := if markerCounts (svcBank s old) .retired then s else programMarker old .retired true s
  let s := if hdrFlag s b 3 then { s with fuses := { s.fuses with epoch := max s.fuses.epoch (hdrField s b 9 1) } } else s
  let s := { s with cal := { s.cal with setFmt := hdrField s b 0x24 2 } }
  programMarker b .migrated true s

/-- R642 for the set on probation; `first` and `second` tell how the marker reads after its first and its second program.
Answers the response's STATUS and DETAIL. -/
def confirmSet (first second : Bool) (s : State) : Nat × Nat × State :=
  let b := s.svc.inForce
  let c := programCode (markerValue (bankGen (svcBank s b)) .confirmed) (atticWord (svcBank s b) Marker.confirmed.ofs)
  let fail := fun (s : State) => raiseAddr svcConfirmFail b mNone 0 s
  if c ≠ .none then (0x0A, c.num, fail s)
  else
    let s := setPhase 5 b s
    let s := programMarker b .confirmed first s
    let s := if first then s else programMarker b .confirmed second s
    if first || second then
      let s := migrate b s
      let l := { s.log.life with updates := satInc 0xFFFFFFFF s.log.life.updates }
      (0, 0, setPhase 0 b { s with log := { s.log with life := l }, svc := { s.svc with auto := false } })
    else (0x0A, 0, setPhase 4 b (fail s))

/-- Entry to DRYDOCK, with the Abandon until the next boot (R454). -/
def enterDrydock (s : State) : State := giveAbandon (transition .drydock 0x04 s)

/-- The boot ROM's choice at step 2 (R634, R291): DRYDOCK without a bank in CONFIRMED, with a set that fails its whole check,
or with an EPOCH below the fuses'. Else the bank is in force, the steps of R643 run, and a bank left STAGING or ACTIVATED
raises INTERRUPTED (Table 18-9). -/
def imageCheck (pass : Bool) (s : State) : State :=
  match selectBank s with
  | none => enterDrydock s
  | some b =>
    if !pass ∨ hdrField s b 9 1 < s.fuses.epoch then enterDrydock s
    else
      let s := { s with svc := { s.svc with inForce := b, selected := true } }
      let s := if markerCounts (svcBank s b) .migrated then s else migrate b s
      [0, 1].foldl (fun s n =>
        let st := bankState (svcBank s n)
        if n ≠ b ∧ (st = 1 ∨ st = 3) then raiseAddr svcInterrupted n mNone 0 s else s) s

end Sys2Proof.Machine
end

