-- ==== Sys2Proof/Machine/OpsLog.lean ====
section
/-! DEFINITION. The Log's ring and the cold loss of the always-on domain as shared operations (19_almanac_log_identity R649,
R656 to R659). -/

namespace Sys2Proof.Machine

/-- The 64 bytes of a Log record (Table 19-3). -/
def logBytes (r : LogRecord) : List Byte :=
  let b := leBytes 4 r.index ++ leBytes 2 r.type ++ [BitVec.ofNat 8 r.block, BitVec.ofNat 8 r.state] ++ leBytes 8 r.time ++
    leBytes 8 r.arg0 ++ leBytes 8 r.arg1 ++ leBytes 8 r.arg2 ++ leBytes 2 r.suite ++
    [BitVec.ofNat 8 r.master, BitVec.ofNat 8 (b2n r.held + 2 * b2n r.afterCold)] ++ padTo 12 r.name ++ leBytes 4 0
  b ++ leBytes 4 (crc32 b).toNat

/-- Records of the ring, of a sector, and sectors of the ring (R656). -/
def ringSize : Nat := 36828
def sectorRecords : Nat := 1023
def ringSectors : Nat := 36

/-- Erase a sector of the ring: its records, and the Attic's erase (R656, R657). -/
def eraseRingSector (k : Nat) (s : State) : State :=
  let s := { s with log := { s.log with ring := tclear s.log.ring (k * sectorRecords) ((k + 1) * sectorRecords) } }
  eraseSector (k / 18) (106 + k % 18) s

/-- Write a record at the ring's write position; with the first record of a sector the next sector is erased ahead (R657). -/
def ringWriteRec (r : LogRecord) (s : State) : State :=
  let p := s.log.written % ringSize
  let s := if p % sectorRecords = 0 then eraseRingSector ((p / sectorRecords + 1) % ringSectors) s else s
  { s with log := { s.log with ring := tset [] s.log.ring p (logBytes r), written := s.log.written + 1 } }

/-- The reports of losses that are not reported yet (R659, TYPE 0x0105). -/
def reportLosses (s : State) : State :=
  let l := s.log
  let s := if l.coldUnreported then
      logRecord 0x0105 0xFF 0xFFFFFFFF 0 0 0xFFFF mNone { s with log := { l with coldUnreported := false } }
    else s
  if l.dropUnreported = 0 then s
  else logRecord 0x0105 0xFF l.dropUnreported 0 0 0xFFFF mNone { s with log := { s.log with dropUnreported := 0 } }

/-- A record has a lower INDEX than another, across the wrap of the count (R657). -/
def indexBefore (a b : LogRecord) : Bool := decide ((b.index + 2 ^ 32 - a.index) % 2 ^ 32 < 2 ^ 31)

/-- The records that wait, in INDEX order: what was ready before the Attic closed, held ones, what arose later (R657, R659). -/
def waitingRecords (l : Log) : List LogRecord :=
  match l.holding with
  | [] => l.ready
  | h :: _ => (l.ready.filter fun r => indexBefore r h) ++ l.holding ++ l.ready.filter fun r => !indexBefore r h

/-- One write of the Steward: up to four records in a row program, in INDEX order (R657, R659). -/
def writeRecords (s : State) : State :=
  let s := if s.log.holding.isEmpty then reportLosses s else s
  let l := waitingRecords s.log
  (l.take 4).foldl (fun s r => ringWriteRec r s)
    { s with log := { s.log with holding := s.log.holding.filter fun r => !(l.take 4).contains r,
                                 ready := s.log.ready.filter fun r => !(l.take 4).contains r } }

/-- The latest time in the counter record and in the Log of the Attic (R649 step 1). -/
def atticTimes (s : State) : Nat :=
  (s.log.ring.map fun r => leNat ((r.2.drop 8).take 8)).foldl max s.log.lifeStoredAt

/-- Power-up of the always-on domain after a cold loss (R649 steps 1 and 3, R661). -/
def coldRestore (s : State) : State :=
  if s.log.aonPowered then s
  else
    let life := { s.log.lifeStored with coldGaps := satInc 0xFFFFFFFF s.log.lifeStored.coldGaps }
    exerFromNow
      { s with almanac := atticTimes s + 1000000,
               log := { s.log with aonPowered := true, gapUnknown := true, gapUs := none, life := life } }

/-- The always-on domain loses power (R649, R653, R659): the Almanac, the held records, the calendar's validity and the counts
that it holds are lost. The operating state does not change: Table 01-7 has no row for a cold loss, and an absence of P12V since
the Fence still takes SAVED to BOOT (01_architecture R34, R710; assumption 75). -/
def coldLoss (s : State) : State :=
  { s with
    hst := { s.hst with fenceRefused := 0 },
    nrg := { s.nrg with auxValid := false, savePj := 0 },
    sav := { s.sav with absenceSinceFence := s.sav.absenceSinceFence || !s.nrg.p12vValid },
    log := { s.log with aonPowered := false, calValid := false, holding := [], coldGap := true,
                        coldUnreported := s.log.coldUnreported || !s.log.holding.isEmpty, timeSetSinceCold := false,
                        lastRun := 0 } }

end Sys2Proof.Machine
end

