-- ==== Sys2Proof/Machine/Logs.lean ====
section
/-! DEFINITION. The commands of the Almanac and the Log (19_almanac_log_identity). -/

namespace Sys2Proof.Machine

/-- ALMANAC_COLD_RESTORE (R649): power-up after a cold loss. -/
def execAlmanacColdRestore (s : State) : Res := .next (coldRestore s)

/-- LOG_RECORD_WRITE (R657, R659): the Steward writes ready records, held ones first. -/
def execLogRecordWrite (s : State) : Res := .next (if poweredState s.dev.state && !logHolds s then writeRecords s else s)

/-- COLD_LOSS (R649): P3V3_AUX is absent and the pack cannot supply the always-on domain. -/
def execColdLoss (s : State) : Res :=
  match s.dev.state with
  | .off | .saved => .next (coldLoss s)
  | _ => .next s

end Sys2Proof.Machine
end

