-- ==== Sys2Proof/Machine/OpsIdent.lean ====
section
/-! DEFINITION. The unit's identity from its fuses (19_almanac_log_identity R663 to R665). -/

namespace Sys2Proof.Machine

/-- A base-36 digit: 0 to 9 and A to Z (R664). -/
def digit36 (b : Byte) : Nat := if b.toNat < 0x40 then b.toNat - 0x30 else b.toNat - 0x41 + 10

/-- The lot as a base-36 number, first character most significant (R664). -/
def lotNumber (l : List Byte) : Nat := l.foldl (fun a b => a * 36 + digit36 b) 0

/-- NAND_CRC: CRC-32 over the Cellar die records in die order (R664). -/
def nandCrc (s : State) : Nat :=
  (crc32 (((List.range (dieCount s)).map fun d => padTo 16 ((s.fuses.nandIds[d]?).getD [])).flatten)).toNat

/-- The low bits of a signed fuse field. -/
def signedBits (w : Nat) (x : Int) : Nat := (x % (2 ^ w : Int)).toNat

/-- The PCIe Device Serial Number (R664). -/
def deviceSerial (s : State) : Nat :=
  let f := s.fuses
  lotNumber f.lot % 2 ^ 32 + f.wafer % 32 * 2 ^ 32 + signedBits 8 f.dieX * 2 ^ 37 + signedBits 8 f.dieY * 2 ^ 45 +
    f.fab % 16 * 2 ^ 53 + f.asm % 16 * 2 ^ 57 + nandCrc s % 8 * 2 ^ 61

/-- The 16-byte unit identity (R665). -/
def unitIdentity (s : State) : List Byte :=
  leBytes 8 (deviceSerial s) ++ padTo 6 s.fuses.lot ++ [BitVec.ofNat 8 s.fuses.fab, BitVec.ofNat 8 s.fuses.asm]

end Sys2Proof.Machine
end

