-- ==== Sys2Proof/Machine/OpsPartner.lean ====
section
/-! DEFINITION. Shared operations of the Kenene Link, the roles, contact, promotion, resynchronisation, handover and drill
(12_partner_mirroring R430 to R471). Messages go out as `Output.link` with their code of Table 12-3; 0x100 is a flit
that carries a write (R433), 0x101 a heartbeat ordered set (R450). -/

namespace Sys2Proof.Machine

/-- Mirror sets of the plan. -/
def setList (s : State) : List Nat := List.range s.plan.partner.sets

/-- A value put in its place in an ascending list, and a list in ascending order of a measure. -/
def putAscending {α : Type} (f : α → Nat) (a : α) : List α → List α
  | [] => [a]
  | b :: r => if f a < f b then a :: b :: r else b :: putAscending f a r
def ascending {α : Type} (f : α → Nat) (l : List α) : List α := l.foldl (fun r a => putAscending f a r) []

/-- The Suites of a set, in ascending SUITE_ID, and its Rooms. -/
def setSuites (s : State) (k : Nat) : List SuiteCtx :=
  ascending (fun c => c.cfg.id) (s.sui.filter fun c => suiteSet c = some k && c.enabled)
def setRooms (s : State) (k : Nat) : List Nat := (setSuites s k).flatMap suiteRooms

/-- This part's HOME bit of a set (R442, R64). -/
def homeBit (s : State) (k : Nat) : Bool := s.plan.partner.home.testBit k

/-- PLK acts on the link: mirroring is configured, Meta has been read, and the part's own Fence is open (R452); it
does not in a restore hold, in which no ROLE record could be programmed (08_startup_restore R296). -/
def plkActs (s : State) : Bool :=
  0 < s.plan.partner.sets && poweredState s.dev.state && s.cel.metaLoaded && !holding s && s.dev.state ≠ .fenced &&
    s.dev.state ≠ .saving

/-- Partner beats are taken in SERVICE and HARBOUR only (R306, R445). -/
def takesPartner (s : State) : Bool := s.dev.state = .service || s.dev.state = .harbour

/-- Set descriptor (R432). -/
def setDescriptor (s : State) (k : Nat) : List Byte :=
  Config.sha256 (((setSuites s k).map fun c =>
    leBytes 2 c.cfg.id ++ leBytes 4 c.cfg.firstRoom ++ leBytes 4 c.cfg.roomCount).flatten)

/-- A ROLE record (Table 12-6). -/
def roleRecBytes (r : RoleRec) : List Byte :=
  let b := leBytes 4 0x454C4F52 ++ [BitVec.ofNat 8 r.set, BitVec.ofNat 8 r.role, 0, 0] ++ leBytes 8 r.term ++ padTo 16 r.partner ++
    leBytes 8 r.time ++ List.replicate 20 0
  b ++ leBytes 4 (crc32 b).toNat

/-- The newest ROLE record of a set as HELLO carries it; 64 zeros where the set has none (DESIGN CHOICE: assumption 145). -/
def helloRole (s : State) (k : Nat) : List Byte :=
  match s.cel.roles.find? fun r => r.set = k with
  | some r => roleRecBytes r
  | none => List.replicate 64 0

/-- Send HELLO (R432, Table 12-3): part type, revision, identity, and per set the descriptor, HOME and ROLE record. -/
def sendHello (s : State) : State :=
  emit (.link 0x01 ([1, s.plk.rev] ++ (unitIdentity s).map BitVec.toNat ++
    (setList s).flatMap fun k =>
      (setDescriptor s k ++ [BitVec.ofNat 8 (b2n (homeBit s k))] ++ helloRole s k).map BitVec.toNat)) s

/-! ### Resynchronisation (R460 to R463) -/

/-- The tiles of Rooms, ascending. -/
def tilesOf (rooms : List Nat) : List Nat := (ascending (fun r => r) rooms).flatMap roomTiles

/-- The authority takes up the resynchronisation of a set (R460): its scope is fixed; its first tile is compared or copied in SERVICE
(08_startup_restore R306, `execResyncTileCopy`). -/
def startResync (k : Nat) (s : State) : State :=
  let m := setAt s k
  let rooms := if m.driftValid then (setRooms s k).filter fun r => m.drift.contains r else setRooms s k
  modSet k (fun m => { m with resync := tilesOf rooms, digestSent := [], diffs := [], copying := none,
                              lastResync := none, acked := m.wseq, watchMissed := 0, suitesAcked := [] })
    (changeSet k .activeSync s)

/-- Resynchronisation has ended: ACTIVE, drift map cleared and valid (R463). -/
def resyncEnd (k : Nat) (s : State) : State :=
  let m := setAt s k
  let covered : Bool := match m.lastResync with | some n => n ≤ m.acked | none => true
  if m.st = .activeSync && m.resync.isEmpty && m.digestSent.isEmpty && m.diffs.isEmpty && m.copying.isNone && covered then
    modSet k (fun m => { m with drift := [], driftValid := true }) (changeSet k .active s)
  else s

/-- The part becomes the standby of a set and is resynchronised (R440, R460). -/
def startStandby (k : Nat) (s : State) : State :=
  modSet k (fun m => { m with synced := false, parted := false, resync := [] }) (changeSet k .standbySync s)

/-! ### Settling the roles (R440 to R442) -/

/-- The Home side of a set, true for this part (R442). -/
def weAreHome (s : State) (k : Nat) : Bool :=
  match (setAt s k).peerHome with
  | none => homeBit s k
  | some p => if homeBit s k = p then decide (leNat (unitIdentity s) < leNat s.plk.peerId) else homeBit s k

/-- This part is the authority, given the partner's newest ROLE record (R440). -/
def weAreAuthority (s : State) (k role epoch : Nat) : Bool :=
  let m := setAt s k
  let mine : Bool := m.role = 1 && epoch ≤ m.epoch
  let theirs : Bool := role = 1 && m.epoch ≤ epoch
  if mine = theirs then weAreHome s k else mine

/-- Begin to program a ROLE record (R439). -/
def programRole (k role epoch : Nat) (next : RoleNext) (s : State) : State :=
  modSet k (fun m => { m with roleRun := some { role := role, epoch := epoch, next := next } }) s

/-- A side that was ACTIVE_SINGLE becomes standby (R441). -/
def splitCheck (k : Nat) (s : State) : State :=
  let m := setAt s k
  if m.st = .activeSingle then
    raiseAddr plkSplit m.singleWrites mNone 0 (modSet k (fun m => { m with singleWrites := 0 }) s)
  else s

/-- Settle a set on contact (R440, R441). -/
def settle (k role epoch : Nat) (s : State) : State :=
  let m := setAt s k
  if weAreAuthority s k role epoch then
    if m.role = 1 then startResync k s else programRole k 1 (max m.epoch epoch + 1) .authority s
  else if m.role = 1 then programRole k 2 (max m.epoch epoch) .standby s
  else startStandby k (splitCheck k s)

/-- A HELLO of the partner for one set (R432, R440, R442). -/
def helloSet (fresh : Bool) (k : Nat) (p : PeerSet) (s : State) : State :=
  if p.desc ≠ setDescriptor s k then
    raiseAddr plkSetMismatch k mNone 0 (modSet k (fun m => { m with paired := false }) s)
  else
    let old := setAt s k
    let conflict : Bool := homeBit s k = p.home
    let s := modSet k (fun m => { m with paired := true, peerHome := some p.home, homeConflict := conflict,
                                         epochSeen := max m.epochSeen p.epoch,
                                         driftValid := m.driftValid && !p.booted }) s
    let s := if conflict && !old.homeConflict then raiseAddr plkHomeConflict k mNone 0 s else s
    if !fresh || old.st = .handing then s
    else if old.roleRun.isSome then modSet k (fun m => { m with settleDue := some (p.role, p.epoch) }) s
    else settle k p.role p.epoch s

/-- The roles of a set that a HELLO left open while a ROLE record was being programmed are settled (R440). -/
def settleLate (k : Nat) (s : State) : State :=
  match (setAt s k).settleDue with
  | none => s
  | some (role, epoch) =>
    let s := modSet k (fun m => { m with settleDue := none }) s
    if s.plk.contact && (setAt s k).roleRun.isNone then settle k role epoch s else s

/-! ### Drills (R469, R470) -/

/-- End a drill with an outcome (Table 12-14). -/
def endDrill (k outcome : Nat) (s : State) : State :=
  match (setAt s k).drill with
  | none => s
  | some d =>
    let s := modSet k (fun m => { m with
      drill := none, drillResult := { m.drillResult with outcome := outcome, phase := d.phase, endAt := s.almanac } }) s
    if outcome = 3 then raiseAddr plkDrillFail k mNone 0 s else s

/-- The next Watch boundary at or after a time (R448). -/
def boundaryAfter (t : Nat) : Nat := ceilDiv t 1000 * 1000

/-- Schedule a handover (R465): event 0x000F with ARG1 0x10. -/
def schedule (k at_ : Nat) (s : State) : State :=
  notify 7 (event 0x000F .plk k 0x10 (modSet k (fun m => { m with handAt := some at_ }) s))

/-! ### Promotion (R456 to R459) -/

/-- The real-time buffer holds a beat of a set. -/
def rtHolds (s : State) (k : Nat) : Bool := s.plk.rt.any fun p => p.set = k

/-- Take the steps of R459 and R464 that wait for the buffer: start the ROLE record of a promotion or of a handover. -/
def roleSteps (k : Nat) (s : State) : State :=
  let m := setAt s k
  if m.roleRun.isSome ∨ rtHolds s k then s
  else if m.promoting then programRole k 1 (max m.epoch m.epochSeen + 1) .promotion s
  else
    match m.handIn with
    | some (e, last) => if (m.st = .standby ∨ m.st = .standbyFrozen) ∧ last ≤ m.entered then programRole k 1 e .handIn s else s
    | none => s

/-- Start a promotion (R459). -/
def promote (k : Nat) (s : State) : State := roleSteps k (modSet k (fun m => { m with promoting := true }) s)

/-! ### Contact (R451, Table 12-8) -/

/-- The state after a loss of contact (Table 12-8). -/
def afterLoss (m : MirrorSet) : SetState :=
  match m.st with
  | .active | .activeSync => .activeSingle
  | .standby | .standbySync => .standbyFrozen
  | .handing => if m.handStep3 then .standbyFrozen else .activeSingle
  | x => x

/-- One set loses contact: its state, PARTED, a cancelled handover, the drill (R451, R467 to R470). A set that freezes with
PARTED while LANTERN_IN reads ABANDON promotes, unless that reading began before the PARTING of a drill, of whichever set (R457, R470);
a standby that has HANDOVER and every write it names goes on alone (R468). -/
def loseSet (parting judged : Bool) (k : Nat) (s : State) : State :=
  let m := setAt s k
  let new := afterLoss m
  let s := match m.drill with
    | some d => endDrill k (if parting && d.phase = 1 then 4 else 3) s
    | none => s
  let s := changeSet k new s
  let s := modSet k (fun x => { x with
    parted := if m.st = .standby then parting else if new = .standbyFrozen && m.st ≠ .standbyFrozen then false else x.parted,
    handAt := none, handStep3 := false, settleDue := none,
    handIn := if m.st = .standby then x.handIn.filter fun h => h.2 ≤ x.entered else none, resync := [], digestSent := [], diffs := [], copying := none,
    watchMissed := 0, paired := false, drillJudge := false,
    roleRun := match x.roleRun with
      | some r => if r.next = .promotion ∨ r.next = .single ∨ r.next = .handIn then some r else none
      | none => none }) s
  let s := if m.handAt.isSome && m.st ≠ .handing then notify 7 (event 0x000F .plk k new.code s) else s
  let s := if new = m.st then s else raiseAddr plkContactLost k mNone 0 s
  if parting && m.st = .standby && s.plk.lanternIn = .abandon && !judged then promote k s else s

/-- Loss of contact (R451): every set at once. -/
def loseContact (parting : Bool) (s : State) : State :=
  if s.plk.contact then
    let p := { s.plk with contact := false, losses := satInc 0xFFFF s.plk.losses, credits := 0, resyncCredits := 0,
                          granted := 0, resyncGranted := 0, watches := [] }
    let judged := (setList s).any fun k => (setAt s k).drillJudge
    (setList s).foldl (fun s k => loseSet parting judged k s) { s with plk := p }
  else s

/-- The link is down (R431, R435, R451). -/
def linkDown (s : State) : State :=
  loseContact false (raise plkLinkDown { s with plk := { s.plk with rev := 0, retraining := false, hbLast := none } })

/-! ### Handover (R464) -/

/-- Writes of a set's Suites that were decoded under the role it has left and are not accepted yet (R204). -/
def oldWaits (s : State) (k : Nat) : Bool :=
  s.hst.writes.any fun w => w.oldRole && !w.accepted && (suiteOfRoom s (w.w.beat * beatBytes / roomBytes)).bind suiteSet = some k

/-- Step 2 to 3 of a handover: once every forwarded write is acknowledged, those decoded before the boundary among them,
ROLE(standby, EPOCH + 1) is programmed. -/
def handStep (k : Nat) (s : State) : State :=
  let m := setAt s k
  let waits : Bool := ((s.plk.fwd ++ s.plk.sent).any fun b => b.set = k) || oldWaits s k
  if m.st = .handing && !m.handStep3 && m.roleRun.isNone && !waits && s.plk.contact then
    programRole k 2 (m.epoch + 1) (.handOut m.wseq) s
  else s

/-- A set begins phase 2 or 4 of a drill at the next Watch boundary (R469). -/
def drillHandover (k phase : Nat) (s : State) : State :=
  let b := boundaryAfter (s.almanac + 1)
  modSet k (fun m => { m with boundary := b,
                              drill := m.drill.map fun d => { d with phase := phase, phaseAt := b } })
    (if phase = 2 then schedule k b s else s)

end Sys2Proof.Machine
end

