-- ==== Sys2Proof/Machine/Partner.lean ====
section
/-! DEFINITION. Commands of the partner link (12_partner_mirroring). -/

namespace Sys2Proof.Machine

/-! ### Link -/

/-- KL_TRAINED (R431, R432): training has ended; each end has advertised its smallest and largest revision (shown as output 0x102). -/
def execKlTrained (peerMax peerMin : Nat) (s : State) : Res :=
  if plkActs s && s.plk.rev = 0 && s.plk.revMismatchAt.isNone then
    let r := min s.plan.partner.klMax peerMax
    let s := emit (.link 0x102 [s.plan.partner.klMin, s.plan.partner.klMax]) s
    if r < s.plan.partner.klMin ∨ r < peerMin ∨ r = 0 then
      .next (raise plkRevMismatch { s with plk := { s.plk with revMismatchAt := some s.almanac } })
    else .next (sendHello { s with plk := { s.plk with rev := r, fseq := 0, rack := 0, replays := 0, retraining := false,
                                                       hbAt := s.almanac } })
  else .next s

/-- REV_RETRY (R431): 10 s after a mismatch the link trains again. -/
def execRevRetry (s : State) : Res :=
  match s.plk.revMismatchAt with
  | none => .next s
  | some t => .next (advanceTo (t + 10000000) { s with plk := { s.plk with revMismatchAt := none } })

/-- HELLO_MESSAGE (R432, R440 to R442, R451): descriptors, Home claims and ROLE records of the partner's sets. The roles
are settled when there was no contact, or when this part has given its own PARTING since. -/
def execHelloMessage (partner : Nat) (ident : List Byte) (peers : List PeerSet) (s : State) : Res :=
  if plkActs s && s.plk.rev ≠ 0 then
    let fresh := !s.plk.contact || s.plk.partingSent
    let p := { s.plk with contact := true, partner := partner, peerId := ident, partingSent := false,
                          hbAt := if s.plk.contact then s.plk.hbAt else s.almanac }
    let s := { s with plk := p }
    .next ((peers.take s.plan.partner.sets).zipIdx.foldl (fun s x => helloSet fresh x.2 x.1 s) s)
  else .next s

/-- FLIT_RECEIVE (R435, R450): a flit is checked, and the heartbeat set received with it, if any. After eight replays of one
flit the link retrains. -/
def execFlitReceive (crcOk : Bool) (fseq hbState : Nat) (hbCount : Option Nat) (s : State) : Res :=
  if plkActs s && s.plk.rev ≠ 0 && !s.plk.retraining then
    let p := s.plk
    let p := match hbCount with
      | some c => if p.hbLast = some c then { p with hbMissed := satInc 0xFFFF p.hbMissed }
                  else { p with hbLast := some c, hbAt := s.almanac, peerState := hbState }
      | none => p
    if crcOk && fseq = (p.rack + 1) % 0x10000 then
      .next { s with plk := { p with rack := fseq, replays := 0 } }
    else if p.replays < 8 then .next { s with plk := { p with replays := p.replays + 1 } }
    else .next (raise plkLinkDown { s with plk := { p with replays := 0, retraining := true, retrainAt := s.almanac,
                                                           retrains := satInc 0xFFFF p.retrains } })
  else .next s

/-- LINK_RETRAIN_END (R435): within 1 ms the link is back, or it is down. -/
def execLinkRetrainEnd (ok : Bool) (s : State) : Res :=
  if s.plk.retraining then
    if ok && s.almanac ≤ s.plk.retrainAt + 1000 then .next { s with plk := { s.plk with retraining := false } } else .next (linkDown s)
  else .next s

/-- CREDIT_MESSAGE (R436). -/
def execCreditMessage (inStep resync : Nat) (s : State) : Res :=
  if plkActs s && s.plk.contact then
    .next { s with plk := { s.plk with credits := s.plk.credits + inStep,
                                       resyncCredits := s.plk.resyncCredits + resync } }
  else .next s

/-! ### In-step replication -/

/-- PARTNER_FORWARD_SEND (R436, R443, R446): the next beat in order, with a credit of its kind. -/
def execPartnerForwardSend (s : State) : Res :=
  match s.plk.fwd with
  | [] => .next s
  | b :: r =>
    let credit := if b.resync then s.plk.resyncCredits else s.plk.credits
    if plkActs s && s.plk.contact && !s.plk.retraining && 0 < credit then
      let p := { s.plk with fwd := r, sent := s.plk.sent ++ [b],
                            credits := if b.resync then s.plk.credits else s.plk.credits - 1,
                            resyncCredits := if b.resync then s.plk.resyncCredits - 1 else s.plk.resyncCredits }
      .next (sendFlit b { s with plk := p })
    else .next s

/-- Beats in the partner real-time buffer at most (Table 01-4). -/
def rtBeats : Nat := 32768

/-- A partner beat as it enters the buffer: it takes an entry of the real-time port where one is free (04_dram R132, R134). -/
def rtBeat (k : Nat) (w : BeatWrite) (resync : Bool) (s : State) : RtBeat :=
  { set := k, w := w, resync := resync, seq := s.drc.nextSeq,
    entered := (subchOf s w.beat).bind fun sc => entryNow s sc mPartner w.beat }

/-- The DRC as a partner beat enters the buffer: the request is numbered, and ends its subchannel's idle time (04_dram R134, R151). -/
def rtIssued (beat : Nat) (s : State) : Drc :=
  { s.drc with nextSeq := s.drc.nextSeq + 1,
               subch := match subchOf s beat with
                        | some sc => vmod s.drc.subch sc fun c => { c with lastReq := s.almanac }
                        | none => s.drc.subch }

/-- A partner beat that has its entry of the bank queue is noted at the reads of its beat (04_dram R161, R163). -/
def rtNoted (beat : Nat) (s : State) : State :=
  match subchOf s beat with
  | some sc => if (entryNow s sc mPartner beat).isSome then noteEntry sc beat s else s
  | none => s

/-- A partner beat is entered (R21, R190, R445, R449): poison bookkeeping, the real-time buffer, its write event and the
acknowledgement. -/
def enterPartner (k : Nat) (w : BeatWrite) (resync : Bool) (n : Nat) (s : State) : State :=
  let s := modSet k (fun m => { m with entered := n, synced := true }) s
  let s := if w.poison then listPoison (w.beat * beatBytes) false 1 s
           else if w.enables = allEnables then unlistBeat w.beat s else s
  let p := { s.plk with rt := s.plk.rt ++ [rtBeat k w resync s], granted := if resync then s.plk.granted else s.plk.granted - 1,
                        resyncGranted := if resync then s.plk.resyncGranted - 1 else s.plk.resyncGranted }
  let s := rtNoted w.beat s
  let s := { s with plk := p, drc := rtIssued w.beat s, fpl := { s.fpl with sanitized := false } }
  emit (.link 0x03 [k, n % 2 ^ 32]) (writeEvent (writeTile w) s)

/-- PARTNER_WRITE_ENTRY (R445): in WSEQ order, in STANDBY and STANDBY_SYNC, in SERVICE and HARBOUR. -/
def execPartnerWriteEntry (set wseq beat : Nat) (data : List Byte) (enables : Dword) (poison resync : Bool)
    (s : State) : Res :=
  let m := setAt s set
  let n := if m.synced then m.entered + 1 else wseq
  if plkActs s && takesPartner s && s.plk.contact && set < s.plan.partner.sets &&
      (m.st = .standby || m.st = .standbySync) && s.plk.rt.length < rtBeats && n % 2 ^ 32 = wseq % 2 ^ 32 then
    .next (roleSteps set (enterPartner set { beat := beat, data := data, enables := enables, poison := poison } resync n s))
  else .next s

/-- WSEQs up to which an acknowledgement reaches, from what was acknowledged before (Table 12-2: modulo 2³²). -/
def ackReach (acked wseq : Nat) : Nat :=
  let d := (wseq + 2 ^ 32 - acked % 2 ^ 32) % 2 ^ 32
  if d < 2 ^ 31 then acked + d else acked

/-- An acknowledged beat: the longest time, and the host's completion (R91, R444). -/
def ackBeat (b : FwdBeat) (s : State) : State :=
  match b.hostTag with
  | none => s
  | some tag =>
    let s := { s with plk := { s.plk with ackMaxUs := max s.plk.ackMaxUs (min 0xFFF (s.almanac - b.at_)) } }
    let l : List HostWrite := s.hst.writes.filterMap fun w =>
      if w.tag = tag && w.accepted then (if w.inDram then none else some { w with waitAck := none }) else some w
    complete tag true { s with hst := { s.hst with writes := l } }

/-- ACK_MESSAGE (R91, R444, R463, R464). It counts after this part's Fence too. -/
def execAckMessage (set wseq : Nat) (s : State) : Res :=
  if s.plk.contact && set < s.plan.partner.sets && poweredState s.dev.state then
    let n := ackReach (setAt s set).acked wseq
    let done := s.plk.sent.filter fun b => b.set = set && b.wseq ≤ n
    let p := { s.plk with sent := s.plk.sent.filter fun b => !(b.set = set && b.wseq ≤ n) }
    let s := modSet set (fun m => { m with acked := n }) { s with plk := p }
    let s := done.foldl (fun s b => ackBeat b s) s
    let s := admitWrites s
    .next (handStep set (resyncEnd set s))
  else .next s

/-! ### The Watch (R448, R449) -/

/-- The Suite record of a Suite (Table 12-7). -/
def watchSuite (c : SuiteCtx) : WatchSuite :=
  { id := c.cfg.id, flags := b2n c.armed + 2 * b2n c.exposed + 4 * b2n c.single, dirty := c.dirty }

/-- Build and send the Watch of a set. -/
def sendWatch (k : Nat) (s : State) : State :=
  let m := setAt s k
  let recs := ((setSuites s k).map watchSuite).filter fun r => !m.suitesAcked.contains r
  let tooMany : Bool := 64 < m.watchPoison.length
  let w : Watch := {
    no := s.plk.watchNo + 1, almanac := s.almanac, ceil := ceiling s, dirtyTotal := s.cht.dirtyTotal,
    flags := b2n s.dev.armed + 2 * b2n (s.sui.any fun c => c.exposed) + 4 * b2n (replSet s) + 8 * b2n tooMany,
    set := k, suites := recs.take 256, poison := m.watchPoison.take 64 }
  let s := modSet k (fun m => { m with watch := some w, watchMissed := m.watchMissed + 1 })
    { s with plk := { s.plk with watchNo := w.no } }
  let s := emit (.link 0x04 ([w.no, w.almanac, w.ceil, w.dirtyTotal, w.flags, k, w.suites.length, w.poison.length] ++
    (w.suites.flatMap fun r => [r.id, r.flags, r.dirty]) ++ w.poison.flatMap fun r => [r.dpa, r.op, r.len])) s
  if m.watchMissed = 3 then raiseAddr plkWatchLate k mNone 0 s else s

/-- WATCH_SEND (R448, R449): at the next Almanac multiple of 1,000 µs, for every set in step; WATCH_LATE when three Watches
before it went without an answer. -/
def execWatchSend (s : State) : Res :=
  if plkActs s && s.plk.contact then
    let s := advanceTo (nextMultiple s 1000) s
    .next (((setList s).filter (forwards s)).foldl (fun s k => sendWatch k s) s)
  else .next s

/-- Beats in the partner buffer that an inject record covers carry its mark to DRAM: they were written before it (R449). -/
def markBuffered (cover : Nat → Bool) (s : State) : State :=
  { s with plk := { s.plk with rt := s.plk.rt.map fun p => if cover p.w.beat then { p with w := { p.w with poison := true } } else p } }

/-- A poison record of a Watch at the standby (R190, R449). -/
def applyWatchPoison (r : WatchPoison) (s : State) : State :=
  if r.op = 1 then
    let b := r.dpa / beatBytes
    let s := markBuffered (fun x => if r.len = 1 then x / beatsPerTile = b / beatsPerTile else x = b) s
    if r.len = 1 then
      writeEvent (r.dpa / tileBytes)
        (listPoison r.dpa true 3 { s with dram := markTile (r.dpa / tileBytes) s.dram })
    else writeEvent (r.dpa / tileBytes) (poisonBeat (r.dpa / beatBytes) 3 s)
  else if r.op = 2 then unlistBeat (r.dpa / beatBytes) s
  else s

/-- The Watch says that a set's Suites are no longer Single: the standby is in step (assumption 38). -/
def watchInStep (w : Watch) : Bool := !w.suites.isEmpty && w.suites.all fun r => !(r.flags.testBit 2)

/-- WATCH_MESSAGE (R449). One that carries inject records waits for SERVICE or HARBOUR, where partner writes are taken (R306): it is not
answered before, and comes again (DEDUCED: assumption 146). A set that comes in step has a drift map that is clear and valid (R463). -/
def execWatchMessage (w : Watch) (s : State) : Res :=
  let m := setAt s w.set
  let waits : Bool := !takesPartner s && w.poison.any fun r => r.op = 1
  if plkActs s && s.plk.contact && !waits && w.set < s.plan.partner.sets && (m.st = .standby || m.st = .standbySync) then
    let s := w.poison.foldl (fun s r => applyWatchPoison r s) s
    let s := modSet w.set (fun m => { m with watch := some w }) s
    let s := if m.st = .standbySync && watchInStep w then
        modSet w.set (fun m => { m with drift := [], driftValid := true }) (changeSet w.set .standby s)
      else s
    .next (emit (.link 0x05 [w.no]) s)
  else .next s

/-- WATCH_ACK_MESSAGE (R448, R449): the records that this Watch carried have arrived. -/
def execWatchAckMessage (no : Nat) (s : State) : Res :=
  if plkActs s && s.plk.contact then
    .next ((setList s).foldl (fun s k =>
      match (setAt s k).watch with
      | some w =>
        if w.no = no && forwards s k then
          modSet k (fun m => { m with
            watchMissed := 0, watchPoison := m.watchPoison.drop w.poison.length,
            suitesAcked := w.suites ++ m.suitesAcked.filter fun r => !(w.suites.any fun x => x.id = r.id) }) s
        else s
      | none => s) s)
  else .next s

/-! ### Heartbeat, contact, PARTING -/

/-- Credits that a standby may grant now out of the free space of the buffer: RESYNC beats while not Pressed, up to 4,096 granted or in
the buffer, and in-step beats (R436, R445; 04_dram R142). -/
def grantable (s : State) : Nat × Nat :=
  let inStep : Bool := (setList s).any fun k => (setAt s k).st = .standby || (setAt s k).st = .standbySync
  let sync : Bool := (setList s).any fun k => (setAt s k).st = .standbySync
  let free := rtBeats - s.plk.rt.length - s.plk.granted - s.plk.resyncGranted
  let held := (s.plk.rt.filter fun p => p.resync).length
  let again := if sync && !s.stw.pressed then min free (4096 - s.plk.resyncGranted - held) else 0
  if takesPartner s && inStep && s.plk.contact then (free - again, again) else (0, 0)

/-- The Pilot is being reloaded: heartbeats stop (15_onchip_integrity Table 15-6 row 4). -/
def pilotAway (s : State) : Bool :=
  match alookup s.ecc.reload mPilot with | some t => decide (s.almanac < t) | none => false

/-- HEARTBEAT_SEND (R436, R450): every 10 µs the heartbeat with the counter advanced; a standby's new credits go with it
(assumption 39). -/
def execHeartbeatSend (s : State) : Res :=
  if 0 < s.plan.partner.sets && poweredState s.dev.state && s.plk.rev ≠ 0 then
    let s := advanceTo (nextMultiple s 10) s
    if pilotAway s then .next s else
    let n := (s.plk.hbCount + 1) % 0x10000
    let s := emit (.link 0x101 [s.dev.state.code, n]) { s with plk := { s.plk with hbCount := n } }
    let g := grantable s
    if g = (0, 0) then .next s
    else .next (emit (.link 0x02 [g.1, g.2])
      { s with plk := { s.plk with granted := s.plk.granted + g.1, resyncGranted := s.plk.resyncGranted + g.2 } })
  else .next s

/-- CONTACT_TIMEOUT (R451): 100 µs without a valid heartbeat. -/
def execContactTimeout (s : State) : Res :=
  if s.plk.contact then .next (loseContact false (advanceTo (s.plk.hbAt + 100) s)) else .next s

/-- PARTING_MESSAGE (R451, R452): the beats received before it have been entered by their own commands. -/
def execPartingMessage (cause : Nat) (s : State) : Res :=
  if s.plk.contact && poweredState s.dev.state then
    .next (loseContact true { s with plk := { s.plk with peerState := if cause = 0 then s.plk.peerState else 5 } })
  else .next s

/-- PAIR_WAIT_EXPIRE (R440): no contact within PAIR_WAIT_MS of the boot. -/
def execPairWaitExpire (s : State) : Res :=
  if plkActs s && !s.plk.contact then
    let s := advanceTo (s.sav.bootAt + s.plk.pairWait * 10000) s
    .next (((setList s).filter fun k => (setAt s k).st = .pairing && (setAt s k).roleRun.isNone).foldl (fun s k =>
      let m := setAt s k
      if m.role = 1 ∨ (m.role = 0 ∧ homeBit s k) then
        if s.plk.lanternIn = .toggling then raiseAddr plkPairWait k mNone 0 s
        else if m.role = 1 then changeSet k .activeSingle s
        else programRole k 1 1 .single s
      else changeSet k .standbyFrozen s) s)
  else .next s

/-! ### Roles -/

/-- The ROLE record enters Meta: the newest record of its set (R439, Table 12-6). -/
def putRole (k : Nat) (r : RoleRun) (s : State) : State :=
  let x : RoleRec := { set := k, role := r.role, term := r.epoch, partner := s.plk.peerId, time := s.almanac }
  let s := programItem 4 0 (.role x) 0 1 { s with cel := { s.cel with roles := x :: s.cel.roles } }
  modSet k (fun m => { m with role := r.role, epoch := r.epoch, roleRun := none }) s

/-- What follows a programmed ROLE record (R440, R441, R459, R464). -/
def roleTaken (k : Nat) (r : RoleRun) (s : State) : State :=
  match r.next with
  | .authority => if s.plk.contact then startResync k s else changeSet k .activeSingle s
  | .single => changeSet k .activeSingle s
  | .promotion =>
    modSet k (fun m => { m with promoting := false, parted := false, driftValid := false, wseq := m.entered,
                                singleWrites := 0 }) (changeSet k .activeSingle s)
  | .handOut last => emit (.link 0x09 [k, r.epoch, last % 2 ^ 32]) (modSet k (fun m => { m with handStep3 := true }) s)
  | .handIn =>
    let s := modSet k (fun m => { m with handIn := none, wseq := m.entered, acked := m.entered, drift := [] })
      (changeSet k (if s.plk.contact then .active else .activeSingle) s)
    let s := if s.plk.contact then emit (.link 0x0A [k, r.epoch]) s else s
    match (setAt s k).drill with
    | some d =>
      if d.phase = 3 then endDrill k 3 s
      else if d.phase = 4 then
        let b := (setAt s k).boundary
        let late : Bool := b + 1000 < s.almanac
        let s := modSet k (fun m => { m with drillResult := { m.drillResult with returnUs := s.almanac - b } }) s
        endDrill k (if late then 3 else 2) s
      else s
    | none => s
  | .standby => startStandby k (splitCheck k s)

/-- ROLE_RECORD_PROGRAMMED (R439): the record under way has passed, or is programmed again. A promotion or a handover that
waited for the buffer starts its record here (R459, R464). -/
def execRoleRecordProgrammed (set : Nat) (pass : Bool) (s : State) : Res :=
  if set < s.plan.partner.sets && plkActs s then
    let s := handStep set (roleSteps set s)
    match (setAt s set).roleRun with
    | none => .next s
    | some r => if pass then .next (settleLate set (roleTaken set r (putRole set r s))) else .next s
  else .next s

/-! ### Lantern (R455, R457, R469) -/

/-- A standby that judges a drill's Lantern reports its reading (R469). -/
def drillReport (result : Nat) (s : State) : State :=
  ((setList s).filter fun k => (setAt s k).drillJudge).foldl (fun s k => emit (.link 0x0C [k, 1, result]) s) s

/-- LANTERN_ABANDON (R455, R457). -/
def execLanternAbandon (s : State) : Res :=
  if poweredState s.dev.state && s.plk.lanternIn ≠ .abandon then
    let s := { s with plk := { s.plk with lanternIn := .abandon, lanternRead := true } }
    let s := if s.plk.contact then raise plkLanternStuck s else s
    let s := drillReport 2 s
    .next ((setList s).foldl (fun s k =>
      let m := setAt s k
      if m.st = .standbyFrozen && m.parted then (if m.promoting then s else promote k s)
      else modSet k (fun m => { m with abandonSeen := true }) s) s)
  else .next s

/-- LANTERN_STUCK (R455): also the first reading since boot, which resets the field to stuck. -/
def execLanternStuck (s : State) : Res :=
  if poweredState s.dev.state && (s.plk.lanternIn ≠ .stuck || !s.plk.lanternRead) then
    let p := { s.plk with lanternIn := .stuck, lanternRead := true, stuckCount := satInc 0xFFFF s.plk.stuckCount }
    .next (drillReport 1 (raise plkLanternStuck { s with plk := p }))
  else .next s

/-- LANTERN_TOGGLING (R455): a partner that toggles again has ended phase 1 of its drill (R469). -/
def execLanternToggling (s : State) : Res :=
  if poweredState s.dev.state then
    let ended : Bool := s.plk.lanternIn ≠ .toggling
    let sets := if ended then s.plk.sets.map fun m => { m with drillJudge := false } else s.plk.sets
    .next { s with plk := { s.plk with lanternIn := .toggling, lanternRead := true, sets := sets } }
  else .next s

/-! ### Resynchronisation (R461 to R463) -/

/-- The bytes a digest is taken over: each beat's 64 bytes and its poison byte (R461). -/
def digestBytes (s : State) (t : Nat) : List Byte :=
  let d := s.dram
  ((List.range beatsPerTile).map fun i =>
    let b := t * beatsPerTile + i
    dramBytes d b ++ [BitVec.ofNat 8 (b2n (dramPoison d b))]).flatten

/-- The 1,024 beats of a tile, queued as one unit with the set's next WSEQs (R462). -/
def queueTile (k t : Nat) (s : State) : State :=
  let d := s.dram
  let n := (setAt s k).wseq
  let l : List FwdBeat := (List.range beatsPerTile).map fun i =>
    let b := t * beatsPerTile + i
    { set := k, wseq := n + 1 + i,
      w := { beat := b, data := dramBytes d b, enables := allEnables, poison := dramPoison d b },
      resync := true, hostTag := none, at_ := s.almanac }
  modSet k (fun m => { m with wseq := n + beatsPerTile, lastResync := some (n + beatsPerTile) })
    { s with plk := { s.plk with fwd := s.plk.fwd ++ l } }

/-- The DRC serves a read of a tile by the Pilot, and no write to the tile waits for it (R461, R462). -/
def pilotServed (s : State) (t : Nat) : Bool :=
  tileServed s mPilot t && (roomSubch s (t / tilesPerRoom)).all fun sc =>
    !((subchAt s sc).queue ++ (rtMine s sc).map rtReq).any fun q => q.isWrite && q.beat / beatsPerTile = t

/-- Set the resync watch on a tile and read it, by requests of the Pilot in class 6 (R461, R462 steps 1 and 2). -/
def watchTile (k t : Nat) (s : State) : State :=
  if !pilotServed s t then callTile t s else
  modSet k (fun m => { m with copying := some t })
    (tileAccess t { s with plk := { s.plk with watches := if s.plk.watches.contains t then s.plk.watches else t :: s.plk.watches } })

/-- RESYNC_TILE_COPY (R461, R462; 08_startup_restore R306): the next step of a set's resynchronisation, which begins on entry to
SERVICE. `equal` are tiles whose digests the standby
has found equal (assumption 40). A tile that has been read is queued as one unit while its watch is still set and no in-step beat
waits, else it is read again; otherwise the next tile is digested (revision 2) or read. -/
def execResyncTileCopy (set : Nat) (equal : List Nat) (s : State) : Res :=
  if plkActs s && takesPartner s && s.plk.contact && (setAt s set).st = .activeSync && set < s.plan.partner.sets then
    let s := modSet set (fun m => { m with digestSent := m.digestSent.filter fun t => !equal.contains t }) s
    let m := setAt s set
    match m.copying with
    | some t =>
      if s.plk.watches.contains t then
        if (s.plk.fwd.any fun b => !b.resync) || s.plk.resyncCredits < beatsPerTile + s.plk.fwd.length || !pilotServed s t then
          .next (callTile t s)
        else
          let s := { s with plk := { s.plk with watches := s.plk.watches.filter fun x => x ≠ t } }
          let s := modSet set (fun m => { m with copying := none, diffs := m.diffs.filter fun x => x ≠ t,
                                                 resync := m.resync.filter fun x => x ≠ t }) s
          .next (queueTile set t s)
      else .next (watchTile set t s)
    | none =>
      match m.diffs with
      | t :: _ => .next (watchTile set t s)
      | [] =>
        match m.resync with
        | [] => .next (resyncEnd set s)
        | t :: r =>
          if s.plk.rev = 2 then
            if !pilotServed s t then .next (callTile t s) else
            let s := tileAccess t s
            let s := modSet set (fun m => { m with resync := r, digestSent := m.digestSent ++ [t] }) s
            .next (emit (.link 0x07 (t :: (Config.sha256 (digestBytes s t)).map BitVec.toNat)) s)
          else .next (watchTile set t s)
  else .next s

/-- The set that mirrors a tile. -/
def tileSet (s : State) (t : Nat) : Option Nat := (suiteOfRoom s (t / tilesPerRoom)).bind suiteSet

/-- DIGEST_MESSAGE (R461): compared once the DRC serves the Pilot's read of the tile. -/
def execDigestMessage (tile : Nat) (digest : List Byte) (s : State) : Res :=
  match tileSet s tile with
  | none => .next s
  | some k =>
    if plkActs s && takesPartner s && s.plk.contact && (setAt s k).st = .standbySync then
      if !pilotServed s tile then .next (callTile tile s) else
      let s := tileAccess tile s
      if Config.sha256 (digestBytes s tile) = digest then .next s else .next (emit (.link 0x08 [tile]) s)
    else .next s

/-- DIFF_MESSAGE (R461). -/
def execDiffMessage (tile : Nat) (s : State) : Res :=
  match tileSet s tile with
  | none => .next s
  | some k =>
    if plkActs s && s.plk.contact && (setAt s k).digestSent.contains tile then
      .next (modSet k (fun m => { m with digestSent := m.digestSent.filter fun t => t ≠ tile,
                                         diffs := m.diffs ++ [tile] }) s)
    else .next s

/-! ### Handover and Homecoming (R464 to R468) -/

/-- HANDOVER_BOUNDARY (R464, R465): the scheduled Watch boundary. On the standby the handover stays scheduled until HANDOVER
arrives or it is cancelled (R467). -/
def execHandoverBoundary (set : Nat) (s : State) : Res :=
  match (setAt s set).handAt with
  | none => .next s
  | some t =>
    if plkActs s && set < s.plan.partner.sets then
      let s := advanceTo t s
      let go : Bool := (setAt s set).st = .active && s.plk.contact
      let wait : Bool := (setAt s set).st = .standby
      let s := modSet set (fun m => { m with handAt := if wait then m.handAt else none, boundary := t, handStep3 := false }) s
      .next (if go then handStep set (changeSet set .handing s) else s)
    else .next s

/-- HANDOVER_MESSAGE (R464 step 4). -/
def execHandoverMessage (set epoch last : Nat) (s : State) : Res :=
  if plkActs s && s.plk.contact && set < s.plan.partner.sets && (setAt s set).st = .standby then
    let m := setAt s set
    let n := if m.synced then ackReach m.entered last else last
    .next (roleSteps set (modSet set (fun m => { m with
      handIn := some (epoch, n), handAt := none, drillJudge := false, epochSeen := max m.epochSeen epoch,
      entered := if m.synced then m.entered else last, synced := true }) s))
  else .next s

/-- TAKEN_MESSAGE (R464 step 5, R469). -/
def execTakenMessage (set epoch : Nat) (s : State) : Res :=
  let m := setAt s set
  if plkActs s && s.plk.contact && set < s.plan.partner.sets && m.st = .handing && m.handStep3 then
    let s := modSet set (fun m => { m with handStep3 := false, entered := m.wseq, synced := true,
                                           epochSeen := max m.epochSeen epoch }) (changeSet set .standby s)
    match m.drill with
    | some d =>
      if d.phase = 2 then
        let us := s.almanac - m.boundary
        let s := modSet set (fun m => { m with drillResult := { m.drillResult with takeUs := us } }) s
        if 1000 < us then .next (endDrill set 3 s)
        else .next (modSet set (fun m => { m with drill := some { d with phase := 3, phaseAt := s.almanac } }) s)
      else .next s
    | none => .next s
  else .next s

/-- HOME_REQ_SEND (R442, R465, R466). -/
def execHomeReqSend (set : Nat) (s : State) : Res :=
  let m := setAt s set
  if plkActs s && s.plk.contact && set < s.plan.partner.sets && s.plan.policy.autoHome && homeBit s set &&
      !m.homeConflict && m.st = .standby && s.dev.state = .service && !replSet s && m.handAt.isNone then
    .next (emit (.link 0x0B [set]) (schedule set (boundaryAfter (s.almanac + s.plk.homeNotice * 10000)) s))
  else .next s

/-- HOME_REQ_MESSAGE (R465). -/
def execHomeReqMessage (set : Nat) (s : State) : Res :=
  let m := setAt s set
  if plkActs s && s.plk.contact && set < s.plan.partner.sets && m.st = .active && m.handAt.isNone && m.drill.isNone then
    .next (schedule set (boundaryAfter (s.almanac + s.plk.homeNotice * 10000)) s)
  else .next s

/-! ### Drills (R469, R470) -/

/-- DRILL_MESSAGE (R469): phase 1 sets the standby to judge the Lantern, and brings its reports to the active; phase 4 asks
the part that holds the role for the handover back. -/
def execDrillMessage (set phase result : Nat) (s : State) : Res :=
  let m := setAt s set
  if plkActs s && s.plk.contact && set < s.plan.partner.sets then
    if phase = 1 ∧ result = 0 ∧ m.st = .standby then .next (modSet set (fun m => { m with drillJudge := true }) s)
    else if phase = 4 ∧ m.st = .active ∧ m.handAt.isNone then .next (schedule set (boundaryAfter (s.almanac + 1)) s)
    else
      match m.drill with
      | some d =>
        if phase = 1 ∧ d.phase = 1 ∧ result = 1 then
          .next (modSet set (fun m => { m with drill := some { d with
            stuckOk := decide (s.almanac ≤ d.phaseAt + 6000) } }) s)
        else if phase = 1 ∧ d.phase = 1 ∧ result = 2 then
          let us := s.almanac - (d.phaseAt + 8000)
          .next (modSet set (fun m => { m with
            drill := some { d with abandonOk := d.stuckOk && d.phaseAt + 8000 ≤ s.almanac && us ≤ 6000 },
            drillResult := { m.drillResult with lanternUs := us } }) s)
        else .next s
      | none => .next s
  else .next s

/-- DRILL_PHASE_END (R469): phase 1 after 16 ms, phases 2 and 4 one millisecond after their boundary, phase 3 after the
dwell. -/
def execDrillPhaseEnd (set : Nat) (s : State) : Res :=
  match (setAt s set).drill with
  | none => .next s
  | some d =>
    if d.phase = 1 then
      let s := advanceTo (d.phaseAt + 16000) s
      .next (if d.stuckOk && d.abandonOk then drillHandover set 2 s else endDrill set 3 s)
    else if d.phase = 3 then
      let s := advanceTo (d.phaseAt + d.dwellS * 1000000) s
      .next (if (setAt s set).st = .standby && s.plk.contact then emit (.link 0x0C [set, 4, 0]) (drillHandover set 4 s)
             else endDrill set 3 s)
    else .next (endDrill set 3 (advanceTo ((setAt s set).boundary + 1000) s))

end Sys2Proof.Machine
end

