-- ==== Sys2Proof/Machine/Restore.lean ====
section
/-! DEFINITION. The commands of start-up, restore, Early Tenancy and Fold (08_startup_restore): the Floor Plan load, the
Meta read, the decision, the fill, the presets, restored tiles, Fold starts; and the live apply point. -/

namespace Sys2Proof.Machine

/-- FLOOR_PLAN_LOAD (02_floor_plan R69): boot step 3, once in a boot and after step 2 (R290). -/
def execFloorPlanLoad (s : State) : Res :=
  if s.dev.state = .boot && s.svc.selected && !s.cht.built then .next (loadPlan s) else .next s

/-- FLOOR_PLAN_APPLY (R74 to R76): a held live plan comes to its apply point in SERVICE or HARBOUR. -/
def execFloorPlanApply (s : State) : Res :=
  if s.dev.state = .service ∨ s.dev.state = .harbour then .next (applyPlan s) else .next s

/-! ### The Meta read (09_cellar R342, R343, R358; 11_gauge_reckoning R413; 19_almanac_log_identity R649, R666) -/

/-- Load the newest checkpoint whose every page reads correctly: older ones stand in for those that do not (R342). -/
def loadCheckpoint (bad : List Nat) (s : State) : State :=
  let s := bad.foldl (fun s n => dropItem (.ckpt n) s) s
  { s with cel := { s.cel with ckpts := s.cel.ckpts.filter fun c => !bad.contains c.seq } }

/-- A Meta page lies after the loaded checkpoint, in page sequence (R342, R343). -/
def afterCkpt (s : State) (m : Nat) : Bool :=
  match s.cel.ckpts.head? with | some k => k.upTo < pageSeq s m | none => true

/-- Journal records that the replay reads: those on readable pages after the checkpoint (R342). -/
def replayed (s : State) (bad : List Nat) : List JournalRec :=
  s.cel.journal.filter fun j => !bad.contains (j.ptr / 16) && afterCkpt s (j.ptr / 16)

/-- MAP_PTR and GEN that a Room keeps: of the record of highest GEN among the checkpoint's and the replayed ones (R342). -/
def keptRecord (s : State) (bad : List Nat) (r : Nat) : Option (Nat × Nat) :=
  let own := match s.cel.ckpts.head? with
             | some k => (k.entries.filter fun e => e.1 = r).map fun e => e.2
             | none => []
  (own ++ ((replayed s bad).filter fun j => j.rec_.room = r).map fun j => (j.ptr, j.rec_.gen)).foldl
    (fun (a : Option (Nat × Nat)) x => match a with | some y => if y.2 < x.2 then some x else a | none => some x) none

/-- Programmed journal pages after the checkpoint whose copies both fail to read (R343). -/
def lostAfter (s : State) (bad : List Nat) : List Nat :=
  bad.filter fun p => afterCkpt s p && p % 1024 ≠ 0 &&
    (metaBlk s (p / 1024)).any fun x => x.type = 1 && x.copyOf.isNone && p % 1024 < x.next

/-- Set MAP_PTR and MAP_GEN of every Room of a saved class (R177, R342); a Room whose kept record is older than a lost
page is disregarded (R343). -/
def loadMaps (bad lost : List Nat) (s : State) : State :=
  s.cht.entries.foldl (fun s e =>
    if e.2.cls.saved then
      match keptRecord s bad e.1 with
      | none => s
      | some x =>
        if lost.any fun p => pageSeq s (x.1 / 16) < pageSeq s p then
          { s with cel := { s.cel with lostRooms := s.cel.lostRooms ++ [e.1] } }
        else modEntry e.1 (fun y => { y with mapPtr := some x.1, mapGen := x.2 }) s
    else s) s

/-- The GEN and STOW_SEQ counters go above every value seen: each to the next after the highest (R342). -/
def loadCounters (bad : List Nat) (s : State) : State :=
  let rs := (replayed s bad).map fun j => j.rec_
  let k := s.cel.ckpts.head?
  let gen := (rs.map fun m => m.gen + 1).foldl max ((k.map fun c => c.nextGen).getD 1)
  let seq := (rs.flatMap fun m => m.tiles.map fun e => e.2.seq + 1).foldl max ((k.map fun c => c.nextSeq).getD 1)
  { s with cel := { s.cel with nextGen := gen, nextSeq := seq } }

/-- Times that the save headers, Seals and Meta control records carry (R649 step 2). -/
def metaTimes (s : State) : Nat :=
  let hs := (heldSaves s).map fun r => r.1.header.fenceTime + ((r.1.sealed.map fun k => k.durationMs * 1000).getD 0)
  let os := s.cel.opens.map fun o => o.time
  let ls := s.cel.released.map fun r => r.time
  let rs := s.cel.roles.map fun r => r.time
  (hs ++ os ++ ls ++ rs).foldl max 0

/-- After a cold loss the Almanac steps to 1 s after the latest time that Meta carries (R649 step 2). -/
def stepAlmanac (s : State) : State :=
  if s.log.gapUnknown && s.almanac ≤ metaTimes s then { s with almanac := metaTimes s + 1000000 } else s

/-- The last save of KIND 1, 2 or 4 that lies in flash. -/
def lastSave (s : State) : Option SaveRecord :=
  ((heldSaves s).filter fun r => r.1.header.kind ≠ 3 && headerReads s r.1.header).foldl
    (fun (a : Option SaveRecord) r =>
      match a with | some x => if x.header.saveId < r.1.header.saveId then some r.1 else a | none => some r.1) none

/-- The last-save fields of SAV, from the newest header and Seal (07_fence_save, SAV registers). -/
def loadLastSave (r : SaveRecord) (s : State) : State :=
  let k := r.sealed
  let v := s.sav
  { s with sav := { v with kind := r.header.kind, cause := r.header.cause, lastHalf := r.header.half, outcome := b2n k.isNone,
                           eraseAhead := r.header.eraseAhead, planRate := r.header.ratePlan,
                           listed := (k.map fun x => x.listed).getD r.list.length,
                           written := (k.map fun x => x.written).getD 0,
                           durationMs := (k.map fun x => x.durationMs).getD v.durationMs,
                           energyJ := (k.map fun x => x.energyJ).getD v.energyJ } }

/-- The save counters of Table 19-5, once for each save (19_almanac_log_identity R661). -/
def countSave (r : SaveRecord) (s : State) : State :=
  if r.header.saveId ≤ s.sav.countedId then s
  else
    let l := s.log.life
    let l := if r.header.kind = 1 then { l with savesStowed := satInc 0xFFFFFFFF l.savesStowed }
             else { l with savesFull := satInc 0xFFFFFFFF l.savesFull }
    let l := if r.sealed.isNone then { l with unsealed := satInc 0xFFFFFFFF l.unsealed } else l
    { s with log := { s.log with life := l }, sav := { s.sav with countedId := r.header.saveId } }

/-- The fixed cost F in force, J (11_gauge_reckoning R413, R416). -/
def fixedCost (s : State) : Nat := max s.rek.fixedJ s.gau.cost.fMeas

/-- The cost measurement of a save that ran wholly on the pack (R413). -/
def measureCost (r : SaveRecord) (s : State) : State :=
  match r.sealed with
  | none => s
  | some k =>
    if !s.sav.packOnly then s
    else if 65536 ≤ k.written then
      let x := ceilDiv ((k.energyJ - fixedCost s) * 1000 * 16384) k.written
      let c := s.gau.cost
      let put := fun (l : List Nat) => (x :: l).take 8
      let c := if r.header.kind = 1 then { c with stowedHist := put c.stowedHist }
               else { c with fullHist := put c.fullHist }
      { s with gau := { s.gau with cost := c, storeDue := true } }
    else if k.written < 16384 then { s with gau := { s.gau with cost := { s.gau.cost with fMeas := max s.gau.cost.fMeas k.energyJ }, storeDue := true } }
    else { s with gau := { s.gau with storeDue := true } }

/-- What the boot makes of the last save: registers, counters, the report's event, class UNSEALED with the dirty shutdown of R100 case 2,
the cost measurement and its Reckoning. The report and the measurement (R413) are made at the first boot that reads the Seal only (DESIGN
CHOICE: assumption 155). -/
def readLastSave (s : State) : State :=
  match lastSave s with
  | none => s
  | some r =>
    let fresh := s.sav.countedId < r.header.saveId
    let s := countSave r (loadLastSave r s)
    let s := if r.sealed.isNone && headerValid s r.header then recordDirty 2 (raise savUnsealed s) else s
    wantRek (if fresh then saveReport (measureCost r s) else s)

/-- The retention patrol begins a full pass at once after a gap of more than PERIOD_D days, or an unknown one (09_cellar R352; Table
19-1). -/
def patrolAtBoot (s : State) : State :=
  let long : Bool := match s.log.gapUs with | some g => s.cel.patrolD * 86400000000 < g | none => true
  if long && s.cel.patrolD ≠ 0 then { s with cel := { s.cel with patrolRun := true, patrolStart := s.almanac } } else s

/-- Key slots of which no stored copy unwraps: KEY_LOST; the slot then lacks a key and gets a new one (R356, R358). -/
def loseKeys (l : List Nat) (s : State) : State :=
  let s := l.foldl (fun s k => raise celKeyLost { s with cel := { s.cel with keys := tset 0 s.cel.keys k 0 } }) s
  generateKeys s

/-- The newest ROLE record of each mirror set (12_partner_mirroring R439, R440). -/
def loadRoles (s : State) : State :=
  (List.range 4).foldl (fun s k =>
    match s.cel.roles.find? fun r => r.set = k with
    | some r => modSet k (fun m => { m with role := r.role, epoch := r.term }) s
    | none => s) s

/-- META_READ_DONE: boot step 5 (R342, R293). `lostPages` are journal pages with both copies unreadable, `lostKeys` key slots
whose copies do not unwrap; `bad` tells the dies whose identity differs from the fused record and what reads wrong. -/
def execMetaReadDone (lostPages lostKeys : List Nat) (bad : MetaBad) (s : State) : Res :=
  if s.dev.state = .boot && s.cht.built && !s.cel.metaLoaded then
    let s0 := s
    let s := { s with sav := { s.sav with badHeaders := bad.headers, badOpens := bad.opens } }
    let s := loadCheckpoint bad.ckpts s
    let lost := lostAfter s lostPages
    let s := loadCounters lostPages (loadMaps lostPages lost s)
    let s := loadRoles { s with cel := { s.cel with metaLoaded := true } }
    let s := if lost.isEmpty then s else raise celJournalLost s
    let s := if lostKeys.isEmpty then s else loseKeys lostKeys s
    let s := bad.dies.foldl (fun s d => raiseAddr logNandId d mNone 1 s) s
    let s := stepAlmanac s
    let s := { s with sav := { s.sav with openId := ((newestOpen s).map fun o => o.openId).getD 0 } }
    .next (spareAtBoot (patrolAtBoot (noteReadyAny s0 (readLastSave s))))
  else .next s

/-! ### The decision (R293 to R297) -/

/-- Step 4 has ended (R290): the rails are valid, and every populated subchannel is trained or has failed its training. -/
def trainingDone (s : State) : Bool := s.drc.railsValid && (populatedList s).all fun c => (subchAt s c).trained || (subchAt s c).failed

/-- The decision's waits are over: plan, Meta and training done, no pending Sanitize (R290, R294, R709). -/
def decisionDue (s : State) : Bool :=
  s.dev.state = .boot && s.sav.decision = .notTaken && s.cht.built && s.cel.metaLoaded && s.cal.sanitizeMark.isNone &&
    trainingDone s

/-- MUSTER_IN_N has been high for 10 ms, or is disabled (07_fence_save R256). -/
def musterHigh (s : State) : Bool :=
  !s.plan.pins.musterInEn || (s.sav.musterIn && s.sav.musterHighAt + 10000 ≤ s.almanac)

/-- Row 3 of Table 08-2: O exists, and S does not or is older. -/
def headerless (s : State) : Bool :=
  match newestOpen s, currentSave s with
  | some o, some r => r.1.header.openId < o.openId
  | some _, none => true
  | none, _ => false

/-- PLAN_CRC of the Room-map record with the highest GEN. -/
def newestMapCrc (s : State) : Option Nat :=
  (s.cel.journal.foldl (fun (a : Option RoomMap) j =>
    match a with | some x => if x.gen < j.rec_.gen then some j.rec_ else a | none => some j.rec_) none).map
      fun m => m.planCrc

/-- The reference CRC of the plan check; none when there is nothing to restore (R295). Without S and O a Room-map record of the journal gives
it, as for a restore without a header (DESIGN CHOICE: assumption 152). -/
def planReference (s : State) : Option Nat :=
  let ofS := (currentSave s).map fun r => r.1.header.planCrc
  if !headerless s && ofS.isSome then ofS
  else match newestMapCrc s with | some c => some c | none => ofS

/-- The plan check (R295). -/
def planCheck (s : State) : Bool :=
  match planReference s with
  | none => true
  | some c => !s.fpl.isDefault && [0, 1].any fun n =>
      match slotPlan s n with | some v => v.plan.crc = c && imageEqual v.plan s.plan | none => false

/-- A half's state at the decision (R297): `keep` are the halves that hold S and its base. On a hold no release record is
programmed (R296): a half that would get one stays IMAGE; a half whose header reads wrong is RELEASED without one (both DESIGN
CHOICE: assumption 128). -/
def decideHalf (hold : Bool) (keep : List Half) (s : State) (h : Half) : State :=
  let put := fun (x : HalfState) => modHalf h (fun d => { d with st := x }) s
  match (halfAt s h).rec_ with
  | none => put .ready
  | some r =>
    if keep.contains h then put .image
    else if !headerReads s r.header then put .released
    else if r.header.kind = 3 then put .precaution
    else if s.cel.released.any fun x => x.saveId = r.header.saveId then put .released
    else if hold then put .image
    else releaseHalf h s

/-- The halves that hold S and the base that S names (R297). -/
def keepHalves (s : State) : List Half :=
  match currentSave s with
  | some (r, h) => h.toList ++ (findBase s r.header).toList
  | none => []

/-- The hold of R296. -/
def holdBoot (s : State) : State :=
  let c := (planReference s).getD 0
  raiseAddr savPlanHold c mNone 0 { s with sav := { s.sav with decision := .hold, holdReason := 1, holdCrc := c } }

/-- Rows 3 and 4 of Table 08-2, with Early Tenancy under R309. -/
def decideRestore (s : State) : State :=
  let hl := headerless s
  let x := if hl then none else currentSave s
  let et : Bool := s.plan.policy.etEn && (match x with | some r => !r.1.header.baseValid | none => true)
  let s := beginRestore x s
  let s := { s with sav := { s.sav with decision := if hl then .headerless else .restoreS, et := et, openPending := et },
                    log := { s.log with life := { s.log.life with restores := satInc 0xFFFFFFFF s.log.life.restores } } }
  let s := transition .restore 0x02 s
  if hl then recordDirty 2 (raise savNoHeader s) else s

/-- The decision itself (Table 08-2). -/
def decide_ (s : State) : State :=
  let s := { s with sav := { s.sav with holdReason := 0, decideMs := min 0xFFFF ((s.almanac - s.sav.bootAt) / 1000) } }
  let hold := !planCheck s
  let fresh := (currentSave s).isNone && (newestOpen s).isNone
  let keep := keepHalves s
  let h := decideHalf hold keep (decideHalf hold keep s .port) .starboard
  if hold then holdBoot h
  else
    let s := h
    if fresh then { s with sav := { s.sav with decision := .fresh } } else decideRestore s

/-- RESTORE_DECISION (R294): taken once MUSTER_IN_N has been high for 10 ms; until then the boot waits (R256). -/
def execRestoreDecision (s : State) : Res :=
  if decisionDue s then
    if musterHigh s then .next (decide_ s) else .next { s with sav := { s.sav with holdReason := 2 } }
  else .next s

/-- The zero fill of a fresh start (05_rooms_suites_chart R186; R298). -/
def zeroFill (s : State) : State :=
  s.cht.entries.foldl (fun s e =>
    if e.2.cls.saved && !e.2.impaired then
      let s := (roomTiles e.1).foldl (fun s t => { s with dram := zeroTile t s.dram }) s
      modRoomTiles e.1 (fun _ => {}) s
    else s) s

/-- ZERO_FILL_DONE (R186, R298, R294 row 2): SERVICE with cause 0x03, while MUSTER_IN_N lets the part leave BOOT. -/
def execZeroFillDone (s : State) : Res :=
  if s.dev.state = .boot && s.sav.decision = .fresh && !musterLow s then
    .next (openService 0x03 (zeroFill s))
  else .next s

/-! ### Restore -/

/-- A restore runs: in RESTORE or TENANCY, or a rebuild in WARM-RETURN. -/
def restoring (s : State) : Bool :=
  s.sav.restore.running &&
    (s.dev.state = .restore || s.dev.state = .tenancy || (s.dev.state = .warmReturn && s.sav.phase = .rebuild))

/-- Raise a class a number of times, one detection each. -/
def raiseTimes (c : FClass) (addr : Nat) : Nat → State → State
  | 0, s => s
  | n + 1, s => raiseTimes c addr n (raiseAddr c addr mRestore 1 s)

/-- The slot search's figures (R304); the number of tag reads within its bound is a free value. -/
def noteSearch (s : State) : State :=
  let own := match s.sav.restore.s with | some (r, some h) => [(h, r)] | _ => []
  let base := match baseRecord s with | some (r, h) => [(h, r)] | none => []
  let pts := ((own ++ base).map fun x => skipPointsOf s x.1 x.2.header.saveId).foldl (· + ·) 0
  let bound := ((own ++ base).map fun x => tagReadBound s x.1 x.2).foldl (· + ·) 0
  let (v, s) := takeFree s
  { s with sav := { s.sav with skipPoints := pts, tagReads := min 0xFFFF (v % (bound + 1)) } }

/-- RESTORE_PRESET_DONE (R302 to R306): lists read, copies located, overlay index built, tiles preset. The operands name the list pages that
cannot be read, of S and of its base, and whether the pending map cannot be read. -/
def execRestorePresetDone (badOwn badBase : List Nat) (mapBad : Bool) (s : State) : Res :=
  if restoring s && !s.sav.restore.presetDone then
    let r := s.sav.restore
    let lostMap : Bool := match r.s with | some (x, _) => x.header.pending && (mapBad || !x.listDone) | none => false
    let s := { s with sav := { s.sav with restore := { r with badPages := badOwn, badBasePages := badBase,
                                                              pendingMapLost := lostMap } } }
    let s := match r.s with
             | some (x, _) => raiseTimes savListGap x.header.saveId (gapCount x badOwn) s
             | none => s
    let s := match baseRecord s with
             | some (b, _) => raiseTimes savListGap b.header.saveId (gapCount b badBase) s
             | none => s
    let s := match r.s with
             | some (x, _) => if r.baseLost || lostMap then raiseAddr savBaseLost x.header.saveId mRestore 1 s else s
             | none => s
    let ov : List (Nat × Nat) := match r.s with | some (x, _) => overlayOf x badOwn | none => []
    let ovBase : List (Nat × Nat) := match baseRecord s with | some (b, _) => overlayOf b badBase | none => []
    let s := { s with sav := { s.sav with restore := { s.sav.restore with overlay := ov, overlayBase := ovBase } } }
    let s := presetTiles (noteSearch s)
    let s := { s with sav := { s.sav with restore := { s.sav.restore with presetDone := true } } }
    .next (if s.sav.restore.order.isEmpty then restoreComplete s else s)
  else .next s

/-- EARLY_TENANCY_ENTRY (R310): presets done and the service-open record programmed. -/
def execEarlyTenancyEntry (s : State) : Res :=
  if s.dev.state = .restore && s.sav.et && s.sav.restore.presetDone && s.sav.opened then
    let s := transition .tenancy 0x05 s
    .next (eraseReleased (reeval { s with hst := { s.hst with gateClosed := false } }))
  else .next s

/-- RESTORE_TILE_WRITTEN (R299, R301, R307, R311, R312, R314): the restore has written a tile of a Room not yet ended, in the order
of R307 and R312 and with copy-beat entries (01_architecture R31); the read suspends a background erase of its die (09_cellar R335). The operands tell whether a page of the copy in the half, or of the
confirmed image, failed to read. In TENANCY the flags follow the counts (06_stowing_ceiling R238). -/
def execRestoreTileWritten (tile : Nat) (halfBad imageBad : Bool) (s : State) : Res :=
  let user : CopyUser := if (inDemand s).contains (tile / tilesPerRoom) then .demand else .other
  if restoring s && s.sav.restore.presetDone && tileNext s tile && tileEntries s user then
    if !tileServed s mRestore tile then .next (callTile tile s) else
    let d := (sourceDie s tile).elim s fun d => dieWorks d s
    .next (afterTile tile (reeval (writeRestored tile (restoredTile s tile halfBad imageBad) d)))
  else .next s

/-! ### The Fold (R317 to R319) -/

/-- A tile is still poisoned as a whole by the restore (R318; DEDUCED from 06_stowing_ceiling R220: assumption 34). -/
def foldWhole (s : State) (t : Nat) : Bool :=
  s.sav.roster.contains t && imageWhole (tileNow s t)

/-- The Fold's record for a tile poisoned as a whole: no data copy, its slot kept, or none after R301 (R318). -/
def foldRecordOnly (t : Nat) (s : State) : State :=
  let e := mapEntry s t
  let k := tileKey s t
  let c : CopyFlight := { tile := t, seq := e.seq, src := .fold, die := 0,
                          slot := if tget false s.sav.restore.failed t then none else e.slot, keySlot := k.1,
                          keyId := k.2, img := {}, poisoned := true, whole := true, phase := .passed, at_ := s.almanac }
  { s with cel := { s.cel with copies := s.cel.copies ++ [c] } }

/-- Start the Fold of a Dirty tile: Stowing, no tile from the bucket, its copy or its record begun (R318, R319). -/
def startFold (t : Nat) (s : State) : State :=
  let sec := s.almanac / 1000000
  let n := if s.sav.foldSecond = sec then s.sav.foldStarts + 1 else 1
  let whole := foldWhole s t
  let s := putTile t { tileAt s t with st := .stowing } s
  let s := { s with sav := { s.sav with foldSecond := sec, foldStarts := n, foldInFlight := s.sav.foldInFlight ++ [t] } }
  if whole then foldRecordOnly t s
  else
    let s := tileAccess t s
    startCopy t .fold (tileNow s t) s

/-- FOLD_START (R317, R318): the next visit of the Fold; a tile that is no longer Dirty, or whose map is stale, is left. -/
def execFoldStart (s : State) : Res :=
  if (s.dev.state = .service || s.dev.state = .harbour) && s.sav.foldPhase = 1 then
    match s.sav.foldLeft with
    | [] => .next (foldStep s)
    | t :: rest =>
      let stale := (entryAt s (t / tilesPerRoom)).mapStale
      let s1 := { s with sav := { s.sav with foldLeft := rest } }
      if (tileAt s t).st ≠ .dirty ∨ stale = true then .next (foldStep s1)
      else if foldMay s then .next (if foldWhole s t || tileServed s mFold t then startFold t s1 else callTile t s)
      else .next s
  else .next s

end Sys2Proof.Machine
end

