-- ==== Sys2Proof/Machine/Save.lean ====
section
/-! DEFINITION. The commands of the save, of Warm Return's end, of the service-open record and of the precautionary
stow (07_fence_save, 16_fault_stations R573, R574). -/

namespace Sys2Proof.Machine

/-! ### From the Fence to SAVING (R253, R258) -/

/-- Stagger delay, µs, rounded up (R258). -/
def staggerUs (s : State) : Nat := ceilDiv (s.plan.domain.memberId * s.plan.domain.slot100ns) 10

/-- STAGGER_ELAPSED (R258). -/
def execStaggerElapsed (s : State) : Res :=
  if s.dev.state = .fenced && !s.sav.staggered then
    let s := advanceTo (s.sav.fenceTime + staggerUs s) s
    .next { s with sav := { s.sav with staggered := true } }
  else .next s

/-- Every accepted write and every buffered partner beat of a subchannel that is trained is in DRAM; no beat of another subchannel can be
(04_dram R127, R167). -/
def drainedAll (s : State) : Bool :=
  (List.range 16).all fun sc =>
    let c := subchAt s sc
    !c.trained || (!(c.queue.any fun q => q.isWrite) && (rtMine s sc).isEmpty)

/-- DRAIN_COMPLETE (06_stowing_ceiling R212; 04_dram R167): every accepted write and every buffered partner beat is in
DRAM, and its write event applied. -/
def execDrainComplete (s : State) : Res :=
  if s.dev.state = .fenced && !s.sav.drained && drainedAll s then
    .next { s with sav := { s.sav with drained := true, phase := .stagger } }
  else .next s

/-- On entry to SAVING every Stowing and Voided tile becomes Dirty (R253, Table 06-1). -/
def settleTile (x : Tile) : Tile :=
  { x with st := match x.st with | .clean => .clean | _ => .dirty }

/-- Every tile at the entry to SAVING, with the counts of R178. -/
def settleTiles (s : State) : State :=
  recountAll { s with cht := { s.cht with tiles := tmap {} (fun _ => settleTile) s.cht.tiles } }

/-- The save as it begins (R261, R266, R273, R277): its kind, half, header, list and copy order. -/
def beginRun (s : State) : SaveRun :=
  let h := if stowedMode s then chooseHalf s else none
  let kind := if stowedMode s then (if h.isSome then 1 else 4) else 2
  let ahead := match h with | some h => (halfAt s h).st ≠ .ready | none => false
  let l := dirtyList s
  { header := makeHeader s kind h ahead, half := h, list := l,
    todo := number (if kind = 2 then fullOrder s else l.map fun e => e.tile),
    pending := if leavesPending s then s.sav.restore.order else [] }

/-- The rate at which a save of a kind starts (R278, R280). -/
def startRate (s : State) (kind : Nat) : Nat := if s.nrg.path = .pack then packTop s kind else modeMax kind

/-- The Keeper runs: its core is not being reloaded (15_onchip_integrity Table 15-6 row 4). -/
def keeperRuns (s : State) : Bool :=
  match alookup s.ecc.reload mKeeper with
  | some t => t ≤ s.almanac
  | none => true

/-- Begin the save in SAVING: class FALLBACK where no half qualifies (R277). -/
def beginSave (s : State) : State :=
  let r := beginRun s
  let k := r.header.kind
  let s := { s with sav := { s.sav with run := some r, phase := .header, kind := k, eraseAhead := r.header.eraseAhead, lastHalf := r.header.half,
                                        nowRate := startRate s k, upHold := 0, endTimer := 0,
                                        listed := r.list.length, written := 0 } }
  let s := match r.half with | some h => modHalf h (fun d => { d with st := .writing }) s | none => s
  if k = 4 then raise savFallback s else s

/-- SAVING_ENTRY (R253, R261, Table 07-9): at the later of drain and stagger; a save that begins on the pack may run wholly on it
(11_gauge_reckoning R413); without a pack on the pack's path the
save is exhausted at once. -/
def execSavingEntry (s : State) : Res :=
  if s.dev.state = .fenced && s.sav.drained && s.sav.staggered && keeperRuns s then
    let s := beginSave (settleTiles (transition .saving 0x0A { s with sav := { s.sav with packOnly := s.nrg.path = .pack } }))
    .next (if s.nrg.path = .pack && !packFitted s then exhausted s else s)
  else .next s

/-! ### Header, tiles, rate, Seal -/

/-- SAVE_HEADER_DONE (R266, R273): the header is in flash; the list pass begins. -/
def execSaveHeaderDone (s : State) : Res :=
  if s.dev.state = .saving && s.sav.phase = .header then
    let s := programHeader s
    .next { s with sav := { s.sav with phase := .list } }
  else .next s

/-- The run may read tiles now: a save past its header, or the precautionary stow while it writes. -/
def readsTiles (s : State) : Bool :=
  (s.dev.state = .saving && (s.sav.phase = .list || s.sav.phase = .tiles)) ||
    (s.dev.state = .harbour && s.dev.phase = .writing)

/-- A subchannel enters self-refresh once every tile it holds has been read (R272; 04_dram R151, R152). -/
def selfRefreshRead (s : State) : State :=
  let need := keeperNeeds s
  let enter := fun (i : Nat) (c : Subch) =>
    if c.trained && !c.selfRef && c.queue.isEmpty && c.flight.isEmpty && !need.contains i then enterSelfRef s c else c
  { s with drc := { s.drc with subch := s.drc.subch.mapIdx enter } }

/-- The Keeper takes the next tile: to the half, or as a Cellar copy (R270, R273). -/
def readTile (r : SaveRun) (i t : Nat) (rest : List (Nat × Nat)) (s : State) : State :=
  let s := tileAccess t s
  let img := tileNow s t
  let s := modRun (fun r => { r with todo := rest, inFlight := r.inFlight ++ [(i, t, img)] }) s
  if r.half.isSome then s else startCopy t .full img s

/-- The slot that the next program of a half takes, after those in flight. -/
def nextFlight (s : State) (r : SaveRun) : Option Nat :=
  r.half.map fun h =>
    match (flightSlots s h r.inFlight.length r.nextSlot).getLast? with
    | some x => nextSlot s h (x + 1)
    | none => nextSlot s h r.nextSlot

/-- A program on a slot's die has to wait: the die programs, or 16 dies do (09_cellar R324). -/
def dieTaken (s : State) (x : Nat) : Bool := (programming s).contains (halfDieOf s x) || dieHeld s (halfDieOf s x) || 16 ≤ (programming s).length

/-- SAVE_TILE_READ (R270, R272, R275, R324): the next tile of the list, while the stages have room and the copy-beat pool has a
tile's entries for SAVE (01_architecture R31); a half without a free slot is full. -/
def execSaveTileRead (s : State) : Res :=
  if readsTiles s then
    let s := programList s
    let s := if s.dev.state = .saving then { s with sav := { s.sav with phase := .tiles } } else s
    match s.sav.run with
    | none => .next s
    | some r =>
      match r.todo with
      | [] => .next s
      | (i, t) :: rest =>
        let slot := nextFlight s r
        if slot.any fun x => halfSlots s ≤ x then .next (halfFull s)
        else if slot.any (dieTaken s) then .next s
        else if !tileEntries s .save then .next s
        else if !tileServed s mSave t then .next (callTile t s)
        else
          let s := readTile r i t rest (slot.elim s fun x => dieWorks (halfDieOf s x) s)
          .next (if s.dev.state = .saving then selfRefreshRead s else s)
  else .next s

/-- The copy of a tile in a Full save has ended its program: it waits for its Room's record, or the slot is skipped and
the tile is copied again (R271, R273). -/
def fullProgramEnd (idx : Nat) (s : State) : State :=
  match s.sav.run with
  | none => s
  | some r =>
    match r.inFlight.find? fun x => x.1 = idx with
    | none => s
    | some (_, t, img) =>
      match s.cel.copies.find? fun c => c.src = .full && c.tile = t && (c.phase = .passed || c.phase = .failed) with
      | none => s
      | some c =>
        if c.phase = .passed then modRun (fun r => { r with inFlight := r.inFlight.filter fun x => x.1 ≠ idx }) s
        else
          let s := modRun (fun r => { r with skipped := r.skipped + 1 }) s
          let s := { s with cel := { s.cel with copies := s.cel.copies.filter fun x => x.seq ≠ c.seq } }
          raiseAddr savProgFail (c.slot.getD 0) mSave 2 (startCopy t .full img s)

/-- Tiles of the precautionary stow not yet written (DEV_HARBOUR.LEFT). -/
def noteLeft (s : State) : State :=
  if s.dev.state = .harbour then
    match s.sav.run with
    | some r => { s with dev := { s.dev with harbourList := (r.inFlight.map fun x => x.2.1) ++ r.todo.map fun x => x.2 } }
    | none => s
  else s

/-- SAVE_TILE_DONE (R271, R275): the program of a list index ends. Programs into a half end in list order, as its slots
hold them (DEDUCED: assumption 29). -/
def execSaveTileDone (index us : Nat) (pass : Bool) (s : State) : Res :=
  if readsTiles s then
    match s.sav.run with
    | none => .next s
    | some r =>
      if r.half.isSome then
        match r.inFlight with
        | (i, _, _) :: _ =>
          if i = index then .next (noteLeft (halfProgramEnd pass (notePslc us s))) else .next s
        | [] => .next s
      else .next (fullProgramEnd index s)
  else .next s

/-- Voltages of R279: V_END and V_LOW, mV. -/
def vEnd (s : State) : Nat := max 2000 (s.plan.energy.cells * s.plan.energy.vminMv)
def vLow (s : State) : Nat := vEnd s + 150 * s.plan.energy.cells

/-- One adjustment of the rate on the pack (R279). -/
def rateStep (i : Int) (v : Nat) (kind : Nat) (s : State) : State :=
  let x := s.sav
  let lo := rateFloor kind
  let lim : Int := s.plan.energy.idisMa
  let top := packTop s kind
  let down := i > lim || v < vLow s
  let calm := 10 * i < 9 * lim && vLow s + 100 ≤ v
  let hold := if down then 0 else if calm then x.upHold + 100 else x.upHold
  let up := !down && calm && 1000 ≤ hold
  let rate := if down then max lo (x.nowRate - 500) else if up then min top (x.nowRate + 500) else x.nowRate
  let fell := rate < x.nowRate
  let s := if fell then modRun (fun r => { r with rateDown := r.rateDown + 1 }) s else s
  let timer := if v < vEnd s && rate = lo then x.endTimer + 100 else 0
  let s := { s with sav := { s.sav with nowRate := rate, upHold := if up then 0 else hold, endTimer := timer } }
  if 200 ≤ timer then exhausted s else s

/-- SAVE_RATE_TICK (R279, R280): every 100 µs of SAVING; `packMa` is positive while charging (NRG_PACK_I),
and within the clamp of 10_energy_pack R366. -/
def execSaveRateTick (packMa : Int) (packMv : Nat) (s : State) : Res :=
  if s.dev.state = .saving then
    let s := advanceTo (s.sav.fenceTime + ((s.almanac - s.sav.fenceTime) / 100 + 1) * 100) s
    if s.nrg.path = .pack then .next (rateStep (-clamped s packMa) packMv s.sav.kind s)
    else .next { s with sav := { s.sav with nowRate := modeMax s.sav.kind } }
  else .next s

/-- PACK_EXHAUSTED (R281): the pack ends in SAVING with the power path on it. -/
def execPackExhausted (s : State) : Res :=
  if s.nrg.path = .pack then .next (exhausted s) else .next s

/-- VBUS_LOW_TIMEOUT (R281): on the pack at the floor rate, VBUS has stayed below 10.0 V for 100 µs. -/
def execVbusLowTimeout (s : State) : Res :=
  if s.nrg.path = .pack && s.sav.nowRate ≤ rateFloor s.sav.kind then .next (exhausted s) else .next s

/-- KEEPER_BUS_ERROR (15_onchip_integrity R539, Table 15-5): a read of the Keeper meets an uncorrectable byte of SRAM or
of the Attic; in SAVING the Keeper stops and the part enters SAVED with cause 0x12. -/
def execKeeperBusError (fromAttic : Bool) (s : State) : Res :=
  let s := if fromAttic then { s with att := { s.att with ue := satInc 0xFFFF s.att.ue } }
           else { s with ecc := { s.ecc with demandUe := satInc 0xFFFF s.ecc.demandUe } }
  .next (keeperStops s)

/-- Everything that the Seal waits for has ended (R266, R273). -/
def sealDue (s : State) (r : SaveRun) : Bool :=
  r.todo.isEmpty && r.inFlight.isEmpty &&
    (r.half.isSome || (s.cel.recs.all (fun x => x.phase = .resolved true) && !s.cel.copies.any fun c => c.src = .full))

/-- A Warm Return whose Fence stopped a rebuild starts it again (R287; DEDUCED: assumption 27). -/
def resumeRebuild (s : State) : State :=
  if s.dev.state = .warmReturn && s.sav.restore.cut then startRebuild s else s

/-- The block in which the Seal program failed is retired: the half's head block after the save, a block of the Meta area at once
(09_cellar R329, R350). -/
def sealFailed (r : SaveRun) (s : State) : State :=
  match r.half with
  | some h => noteRetire (blockKey 3 (sealPage r % dieCount s) h.code) s
  | none =>
    match s.cel.metaBlks.find? fun x => x.2.any fun b => b.type = 3 && b.sub = b2n (writesB s r) && b.next < 1024 && !b.dead with
    | some x => retireBlock 2 (metaDie s x.1) (metaNo s x.1) false s
    | none => s

/-- SAVE_SEAL_DONE (R266, R273, R285): the Seal program ends; one that fails is written again (DEDUCED: assumption
30) and raises PROG_FAIL with FCAP_ADDR 0, as it has no slot (DESIGN CHOICE: assumption 151). -/
def execSaveSealDone (pass : Bool) (s : State) : Res :=
  if s.dev.state = .saving && (s.sav.phase = .list || s.sav.phase = .tiles || s.sav.phase = .sealing) then
    match s.sav.run with
    | none => .next s
    | some r =>
      if sealDue s r then
        if pass then .next (resumeRebuild (sealPassed r s))
        else .next (raiseAddr savProgFail 0 mSave 2 (sealFailed r { s with sav := { s.sav with phase := .sealing } }))
      else .next s
  else .next s

/-! ### Warm Return, service-open, erases -/

/-- Every subchannel in use is out of self-refresh with its recheck passed, or DRAM has been rebuilt (R286, R287). -/
def warmReady (s : State) : Bool :=
  s.hst.linkUp && !s.drc.recheckFailed && !s.sav.restore.running && !s.sav.restore.cut &&
    s.drc.subch.toList.all fun c => !c.trained || !c.selfRef

/-- WARM_RETURN_COMPLETE (R286): SERVICE with cause 0x0D; the service-open record is programmed next. -/
def execWarmReturnComplete (s : State) : Res :=
  if s.dev.state = .warmReturn && warmReady s then
    .next (resumeHandover (openService 0x0D s))
  else .next s

/-- The halves sealed by the saves that ended in Warm Return are released, once the service-open record of the SERVICE that
followed has passed (R262, R286). -/
def releaseWarm (s : State) : State :=
  s.sav.warmHalves.foldl (fun s h => releaseHalf h s) { s with sav := { s.sav with warmHalves := [] } }

/-- SERVICE_OPEN_PROGRAMMED (R265, R286, Table 07-4; 09_cellar R337): both copies of the record have passed; host writes may be accepted, and what a Warm Return left
to release is released. -/
def execServiceOpenProgrammed (s : State) : Res :=
  if s.sav.openPending && (evaluates s.dev.state || s.dev.state = .restore) then
    let o : OpenRec := { openId := s.sav.openId + 1, lastSaveId := newestSaveId s, time := s.almanac }
    .next (releaseWarm (programItem 4 0 (.opened o) 0 1
      { s with sav := { s.sav with openId := o.openId, openPending := false, opened := true },
               cel := { s.cel with opens := o :: s.cel.opens } }))
  else .next s

/-- HALF_ERASE_DONE (R263): the background erase of a half ends and the half is READY. -/
def execHalfEraseDone (half : Half) (s : State) : Res :=
  if evaluates s.dev.state && ((halfAt s half).st = .erasing || (halfAt s half).st = .released) then
    let s := modHalf half (fun _ => { st := .ready }) s
    .next { s with cel := { s.cel with portErases := s.cel.portErases + b2n (decide (half = .port)),
                                       stbdErases := s.cel.stbdErases + b2n (decide (half = .starboard)) } }
  else .next s

/-! ### The precautionary stow (16_fault_stations R573, R574; R264) -/

/-- PRECAUTION_START (R264, R573): the list is taken and header and list pages are written. -/
def execPrecautionStart (s : State) : Res :=
  if s.dev.state = .harbour && s.dev.phase = .waiting then
    match precautionHalf s with
    | none => .next s
    | some h =>
      let l := dirtyList s
      let r : SaveRun := { header := makeHeader s 3 (some h) false, half := some h, list := l,
                           todo := number (l.map fun e => e.tile) }
      let s := { s with sav := { s.sav with run := some r },
                        dev := { s.dev with phase := .writing, harbourHalf := h } }
      .next (noteLeft (programList (programHeader s)))
  else .next s

/-- PRECAUTION_END (R574, R575): every listed tile is written and the Seal follows, or the half has filled and the stow
ends SHORT. -/
def execPrecautionEnd (s : State) : Res :=
  if s.dev.state = .harbour && s.dev.phase = .writing then
    match s.sav.run with
    | none => .next s
    | some r =>
      if r.todo.isEmpty && r.inFlight.isEmpty then
        let short : Bool := r.written < r.list.length
        let k := makeSeal s r
        let s := if short then s else modRec (fun x => { x with sealed := some k }) s
        let s := match r.half with | some h => modHalf h (fun d => { d with st := .precaution }) s | none => s
        .next (endPrecaution short (retireFailed { s with sav := { s.sav with run := none } }))
      else .next s
  else .next s

/-- PRECAUTION_WAIT_TIMEOUT (R574): 600 s without being able to start. -/
def execPrecautionWaitTimeout (s : State) : Res :=
  if s.dev.state = .harbour && s.dev.phase = .waiting then
    .next (endPrecaution true (advanceTo (s.dev.harbourDueAt + 600000000) s))
  else .next s

end Sys2Proof.Machine
end

