-- ==== Sys2Proof/Machine/Stow.lean ====
section
/-! DEFINITION. The commands of stowing (06_stowing_ceiling): sweep, stow start, completion, stalled claims, Wear
Allowance. -/

namespace Sys2Proof.Machine

/-- SWEEP_VISIT (R222, R223): the next Room of the sweep; after the last one the sweep is complete and the period is
taken anew. -/
def execSweepVisit (s : State) : Res :=
  if stowRuns s then
    let s := if s.stw.sweepRoom = 0 then { s with stw := { s.stw with sweepMs := sweepPeriod s } } else s
    match nextSwept s s.stw.sweepRoom with
    | none => .next { s with stw := { s.stw with sweepRoom := 0 } }
    | some r =>
      let s := (roomTiles r).foldl (fun s t => visitTile t s) s
      if (nextSwept s (r + 1)).isSome then .next { s with stw := { s.stw with sweepRoom := r + 1 } }
      else .next { s with stw := { s.stw with sweepRoom := 0, passes := (s.stw.passes + 1) % 65536 } }
  else .next s

/-- STOW_START (R224, Table 06-1): a Dirty candidate with Touched clear begins to stow once the DRC
serves its beats (04_dram R134, R135); another is dropped. -/
def execStowStart (s : State) : Res :=
  if mayStow s then
    match nextCandidate s with
    | none => .next s
    | some t =>
      let x := tileAt s t
      if x.st = .dirty && !x.touched then
        .next (if tileServed s mStow t then startStow t .stow (dropCandidate t s) else callTile t s)
      else .next (dropCandidate t s)
  else .next s

/-- A completion for one tile that a record or a failed program ends, with its classes (R227). -/
def deliver (pass : Bool) (t : Nat) (s : State) : State :=
  let stray := (tileAt s t).st = .clean
  let s := completeTile pass t s
  let s := if pass then s else raiseAddr stwStowFail (t * tileBytes) mNone 0 s
  if stray then raiseAddr stwStray (t * tileBytes) mNone 0 s else s

/-- The tile states that a copy's completion concerns: not those of relocation, rescue and Full save. -/
def CopySrc.completes : CopySrc → Bool
  | .stow | .request _ | .fold => true
  | _ => false

/-- STOW_COMPLETION (R179, R217, R227): the resolved record of a Room and the failed programs of its tiles are
delivered; a record that passed comes into force in the same step. After the Fence no completion is applied. -/
def execStowCompletion (room : Nat) (s : State) : Res :=
  if evaluates s.dev.state then
    let failed := s.cel.copies.filter fun c => c.phase = .failed && c.tile / tilesPerRoom = room
    let recs := s.cel.recs.filter fun r =>
      r.rec_.room = room && match r.phase with | .resolved _ => true | _ => false
    let copies := s.cel.copies.filter fun c => !(c.phase = .failed && c.tile / tilesPerRoom = room)
    let rest := s.cel.recs.filter fun r =>
      !(r.rec_.room = room && match r.phase with | .resolved _ => true | _ => false)
    let s := { s with cel := { s.cel with copies := copies, recs := rest } }
    let s := recs.foldl (fun s r =>
      let pass : Bool := match r.phase with | .resolved p => p | _ => false
      let s := if pass then foldMarked r.rec_ (putInForce r.rec_ r.ptr s) else s
      (r.names.filter fun n => n.2.2.completes).foldl (fun s n => deliver pass n.1 s) s) s
    let s := (failed.filter fun c => c.src.completes).foldl (fun s c => deliver false c.tile s) s
    .next (foldStep (startErasures (reeval s)))
  else .next s

/-- STALL_REEVALUATE (R233). -/
def execStallReevaluate (s : State) : Res :=
  if evaluates s.dev.state then .next (reevalStalled s) else .next s

/-- STALL_BOUND (R234, R235): the stalled claim at a place of the list reaches its bound and is granted under the
exposure policy of its Suite. -/
def execStallBound (index : Nat) (s : State) : Res :=
  match s.stw.stalled[index]? with
  | none => .next s
  | some c =>
    let s := advanceTo (c.start + c.bound) s
    let w := s.stw
    let s := { s with stw := { w with stalled := w.stalled.erase c, boundHits := satInc 0xFFFF w.boundHits,
                                      windowSuites := if w.windowSuites.contains c.suite then w.windowSuites
                                                      else w.windowSuites ++ [c.suite] } }
    let s := modSuite c.suite (fun x => { x with boundCount := satInc 0xFFFF x.boundCount }) s
    .next (claimGranted c (noteStall c (grantClaim c.tile true s)))

/-- STALL_EVENT_WINDOW (R234): event 0x0012 at the end of a 1 ms window with bounds reached. -/
def execStallEventWindow (s : State) : Res :=
  if s.stw.windowSuites.isEmpty then .next s
  else
    let n := s.stw.windowSuites.length
    let s := advanceTo (nextMultiple s 1000) { s with stw := { s.stw with windowSuites := [] } }
    .next (event 0x0012 .hst n s.plan.policy.stallUs s)

/-- WEAR_ACCRUAL_TICK (R241, R243): one second's part of the daily accrual, with the remainder carried, up to 30
days of it; EMPTY clears at one day. -/
def execWearAccrualTick (s : State) : Res :=
  if poweredState s.dev.state then
    let s := advanceTo (nextMultiple s 1000000) s
    let w := s.stw
    let n := w.accrual + w.accrualRem
    let b := min (30 * w.accrual) (w.bucket + n / 86400)
    .next { s with stw := { w with bucket := b, accrualRem := n % 86400,
                                   bucketEmpty := w.bucketEmpty && b < w.accrual } }
  else .next s

/-- COUNTER_STORE (R242, 19_almanac_log_identity R661): the hourly write of the lifetime counters and the bucket to
the Attic, while it takes writes. -/
def execCounterStore (s : State) : Res :=
  if logHolds s then .next s
  else
    let s := advanceTo (s.log.lastStore + 3600000000) s
    .next { s with log := { s.log with lifeStored := s.log.life, lifeStoredAt := s.almanac, lastStore := s.almanac },
                   stw := { s.stw with bucketStored := some (s.stw.bucket, s.almanac) } }

/-- Share of SERVICE_YEARS elapsed since the first boot, percent (R244). -/
def elapsedPct (s : State) : Nat :=
  let y := s.plan.policy.serviceYears
  match s.log.life.firstBoot with
  | none => 0
  | some t => if y = 0 then 0 else (s.almanac - t) * 100 * 4 / (y * 1461 * 86400000000)

/-- WEAR_PROJECTION (R244): the daily comparison at phase 2 h, on both percentages rounded down (DESIGN CHOICE: assumption 149). -/
def execWearProjection (s : State) : Res :=
  if poweredState s.dev.state then
    let s := advanceTo (nextPhase s 2) s
    let u := cellarWear s
    let e := elapsedPct s
    let ahead := e + 10 < u
    let w := s.stw
    let run := if ahead then min 7 (w.overRun + 1) else 0
    let under := if ahead then 0 else min 7 (w.underRun + 1)
    let set := run = 7 && !w.wearShort
    let clr := under = 7 && w.wearShort
    let s := { s with stw := { w with usedPct := min 0xFF u, elapsedPct := min 0xFF e, overRun := run,
                                      underRun := under, wearShort := (w.wearShort || set) && !clr } }
    if set then .next (setReason 5 (raise stwWearShort s))
    else if clr then .next (clearReason 5 s)
    else .next s
  else .next s

end Sys2Proof.Machine
end

