-- ==== Sys2Proof/Machine/OpsRegRead.lean ====
section
/-! DEFINITION. What each Control Block register reads as: one view per block window, the fault stations, and the read of
a register pair (00_scope R13 to R17; the register lists of every chapter). A field whose value stems from the Floor Plan
reads its reset value until boot step 3. -/

namespace Sys2Proof.Machine

/-- A word from its fields: lowest bit, width, value. -/
def pkNat (l : List (Nat × Nat × Nat)) : Nat := (l.map fun f => f.2.2 % 2 ^ f.2.1 * 2 ^ f.1).foldl (· + ·) 0
def pk (l : List (Nat × Nat × Nat)) : Word := BitVec.ofNat 32 (pkNat l)

/-- A field of one bit. -/
def bit (k : Nat) (b : Bool) : Nat × Nat × Nat := (k, 1, b2n b)

/-- A whole register. -/
def whole (n : Nat) : Word := BitVec.ofNat 32 n

/-- Bits [31:0] and [63:32] of a pair's quantity. -/
def lo32 (n : Nat) : Word := BitVec.ofNat 32 n
def hi32 (n : Nat) : Word := BitVec.ofNat 32 (n / 2 ^ 32)

/-- Bits i for which a condition holds, among the first n. -/
def maskOf (n : Nat) (p : Nat → Bool) : Nat := ((List.range n).map fun i => if p i then 2 ^ i else 0).foldl (· + ·) 0

/-- The word k of a list of bytes, lowest byte first. -/
def wordOf (l : List Byte) (k : Nat) : Word := whole (num l (4 * k) 4)

/-- A Floor Plan has been taken up in this boot (boot step 3). -/
def planUp (s : State) : Bool := s.cht.built

/-! ### DEV, FPL, HST -/

/-- Code of DEV_HARBOUR.PHASE. -/
def HarbourPhase.code : HarbourPhase → Nat
  | .none => 0 | .waiting => 1 | .writing => 2 | .ended => 3

/-- EXPOSED_ANY. -/
def exposedAny (s : State) : Bool := s.sui.any fun c => c.exposed

/-- DEV_STATE. -/
def viewDevState (s : State) : Word :=
  pk [(0, 4, s.dev.state.code), (4, 4, s.dev.prev.code), bit 8 s.dev.armed, bit 9 (replSet s), bit 10 (singleAny s),
      bit 11 (exposedAny s), bit 12 (stowedMode s), bit 13 s.dev.ackPend, (16, 8, s.dev.entryCause)]

/-- DEV_REPL. -/
def viewDevRepl (s : State) : Word := pk [(0, 6, s.dev.reasons.toNat), (16, 16, s.dev.raises)]

/-- DEV_FAULT. -/
def viewDevFault (s : State) : Word :=
  pk [(0, 21, maskOf 21 fun r => (vget {} s.stations r).sticky ≠ 0), bit 31 (faultPinLow s)]

/-- STW_RATE.START_TPS: stow starts in the last whole second of the Almanac. -/
def lastTpsNow (s : State) : Nat :=
  let w := s.stw
  let sec := s.almanac / 1000000
  if w.secondNo = sec then min 0xFFFF w.lastTps else if w.secondNo + 1 = sec then min 0xFFFF w.startsSecond else 0

/-- The DEV window (01_architecture; 16_fault_stations). DESIGN CHOICE (assumption 113): Table 00-5 gives a W1S bit only its 0 once
the action is taken up; DEV_HARBOUR_ACK.ACK reads 0 also while ACK_PEND holds it. -/
def viewDev (s : State) (o : Nat) : Option Word :=
  match o with
  | 0x10 => some (viewDevState s)
  | 0x14 => some 0
  | 0x18 => some (viewDevRepl s)
  | 0x1C => some (pk [(0, 2, s.dev.phase.code), (2, 1, s.dev.harbourHalf.code), bit 3 s.dev.short,
                      (4, 26, s.dev.harbourList.length)])
  | 0x20 => some (viewDevFault s)
  | _ => none

/-- The FPL window (02_floor_plan R77). -/
def viewFpl (s : State) (o : Nat) : Option Word :=
  let f := s.fpl
  match o with
  | 0x00 => some (pk [bit 0 f.plan.lock, bit 1 f.pending.isSome, bit 2 f.sanitized, bit 3 f.liveHeld.isSome,
                      bit 4 f.isDefault, bit 5 f.plan.srcFmt1, (8, 8, f.lastCode)])
  | 0x04 => some (whole f.plan.crc)
  | 0x08 => some (whole (match f.pending, f.liveHeld with
                         | some h, _ => h.plan.crc
                         | none, some h => h.plan.crc
                         | none, none => 0))
  | 0x0C => some (pk [(0, 8, f.rejCode), (8, 8, f.rejWing)])
  | 0x10 => some (whole f.rejOfs)
  | 0x14 => some (whole f.liveCount)
  | _ => none

/-- Host claims stalled now. -/
def stalledHost (s : State) : Nat := (s.stw.stalled.filter fun c => c.hostTag.isSome).length

/-- The HST window (03_host_link). -/
def viewHst (s : State) (o : Nat) : Option Word :=
  let h := s.hst
  match o with
  | 0x00 => some (pk [(0, 2, h.cxlVer), (2, 3, h.rate), (5, 2, h.width), bit 7 h.flit256, bit 8 h.linkUp,
                      bit 9 h.degraded, bit 10 (h.ideIoSecure && h.ideMemSecure), bit 11 h.ideFail,
                      bit 12 s.dev.state.hostMemory])
  | 0x04 => some (pk [(0, 15, h.writes.length), (16, 12, h.reads.length), bit 31 h.creditHeldAt.isSome])
  | 0x08 => some (pk [(0, 15, stalledHost s), (16, 15, h.stallPeak)])
  | 0x0C => some (whole (min 0xFFFFFFFF (h.creditWaitUs + (h.creditHeldAt.map fun t => s.almanac - t).getD 0)))
  | 0x10 => some (lo32 h.accepts)
  | 0x14 => some (hi32 h.accepts)
  | 0x18 => some (pk [(0, 28, h.discards), (28, 2, h.lastReason)])
  | 0x1C => some (pk [(0, 16, h.fenceRefused)])
  | 0x20 => some (pk [(0, 16, h.ph2Count), (16, 12, min 0xFFF h.gpfLastUs)])
  | 0x24 => some (pk [(0, 14, h.poisonList.length), bit 14 h.poisonOverflow, (16, 16, h.parityPoison)])
  | _ => none

/-! ### DRC -/

/-- Code of a speed (DRC_TOPO.SPEED). -/
def speedCode (mts : Nat) : Nat := (mts - 4800) / 400

/-- Code of a die density (DRC_TOPO.DIE). -/
def dieCode : Nat → Nat
  | 24 => 1 | 32 => 2 | 48 => 3 | 64 => 4 | _ => 0

/-- The controller-wide registers of DRC (04_dram). -/
def viewDrc (s : State) (o : Nat) : Option Word :=
  let d := s.drc
  let t := s.plan.topo
  let sc := fun (p : Subch → Bool) => maskOf 16 fun i => p (subchAt s i)
  match o with
  | 0x00 => some (pk [(0, 3, speedCode t.speed), bit 3 (t.devWidth = 8), bit 4 (t.physRanks = 2),
                      (5, 2, if t.stack = 4 then 2 else if t.stack = 2 then 1 else 0), (7, 3, dieCode t.dieGbit),
                      (16, 16, t.subchMask)])
  | 0x04 => some (pk [(0, 16, sc fun c => c.trained), (16, 16, sc fun c => c.failed)])
  | 0x08 => some (pk [(0, 8, d.wrHi), (8, 8, d.wrLo), (16, 4, d.rowHitCap)])
  | 0x0C => some (pk [(0, 8, d.urgent), (8, 8, d.panic)])
  | 0x10 => some (pk [(0, 16, s.plk.rt.length), (16, 2, rtLevel s)])
  | 0x14 => some (pk [(0, 3, d.refLimit), (4, 2, d.pullin), bit 8 d.force2x, (16, 8, d.mr4Ms)])
  | 0x18 => some (pk [(0, 16, sc (atDouble s))])
  | 0x1C => some (pk [(0, 16, d.forced), (16, 16, d.catchups)])
  | 0x20 => some (pk [(0, 5, d.nrfLog2n)])
  | 0x24 => some (pk [(0, 8, d.zqMs), (8, 8, d.dqsMs), (16, 8, d.deferMs)])
  | 0x28 => some (pk [(0, 16, d.srIdleUs), (16, 16, sc fun c => c.selfRef)])
  | 0x2C => some (pk [(0, 8, d.patrolH), bit 8 d.patrolRepair, bit 9 s.hst.scanning, bit 10 d.patrolLate])
  | 0x30 => some (lo32 (d.patrolBeat * beatBytes))
  | 0x34 => some (hi32 (d.patrolBeat * beatBytes))
  | 0x38 => some (whole d.cePers)
  | 0x3C => some (whole d.ceVol)
  | 0x40 => some (whole d.ueCount)
  | 0x44 => some (pk [(0, 16, d.budget)])
  | 0x48 => some (match d.budgetHit with
                  | some (c, p, l, v) => pk [(0, 4, c), (4, 1, p), (5, 2, l), (7, 4, v), (31, 1, 1)]
                  | none => 0)
  | _ => none

/-- The per-subchannel registers of DRC: subchannel s at 0x800 × s (04_dram). -/
def viewSc (s : State) (o : Nat) : Option Word :=
  let n := o / 0x800
  let c := subchAt s n
  if n < 16 then
    match o % 0x800 with
    | 0x00 => some (pk [bit 0 c.trained, bit 1 c.failed, bit 2 c.selfRef, bit 3 (atDouble s c), (4, 2, c.tries),
                        (6, 2, c.seedSrc), (8, 8, (pool s n).length),
                        (16, 8, rtHeld s n)])
    | 0x10 => some (wordOf c.train 0)
    | 0x14 => some (wordOf c.train 1)
    | 0x18 => some (wordOf c.train 2)
    | 0x1C => some (wordOf c.train 3)
    | 0x20 => some (pk [(0, 16, min 0xFFFF (if c.trained then maxDebt s c else 0)), (16, 16, c.debtPeak)])
    | 0x24 => some (pk [(0, 16, c.ce), (16, 16, c.ue)])
    | _ => none
  else none

/-! ### CHT, SUI, STW -/

/-- Word k of a snapshot. -/
def snapWord (l : List Word) (k : Nat) : Word := (l[k]?).getD 0

/-- The CHT window (05_rooms_suites_chart). -/
def viewCht (s : State) (o : Nat) : Option Word :=
  let c := s.cht
  match o with
  | 0x00 => some (pk [bit 0 c.built, bit 1 (!c.rereads.isEmpty),
                      (16, 16, min 0xFFFF (c.entries.filter fun e => e.2.mapStale).length)])
  | 0x04 => some (pk [(0, 26, c.dirtyTotal)])
  | 0x08 => some (pk [(0, 26, c.stowingTotal)])
  | 0x0C => some (pk [(0, 16, c.rebuildsEntry), (16, 16, c.rebuildsTstate)])
  | 0x10 => some (pk [(0, 19, c.sel)])
  | _ =>
    if 0x14 ≤ o ∧ o ≤ 0x20 then some (snapWord c.snapEntry ((o - 0x14) / 4))
    else if 0x24 ≤ o ∧ o ≤ 0x38 then some (snapWord c.snapTiles ((o - 0x24) / 4))
    else none

/-- A Suite's eight registers. -/
def suiteWord (s : State) (c : SuiteCtx) (k : Nat) : Word :=
  let g := c.cfg
  match k with
  | 0 => pk [(0, 2, g.policy.code), bit 2 c.enabled, (4, 3, g.priority), (8, 2, exposureOf s c), (16, 6, g.keySlot),
             bit 24 g.etPermit, (26, 2, g.mirrorSet)]
  | 1 => pk [(0, 19, g.firstRoom)]
  | 2 => pk [(0, 20, g.roomCount)]
  | 3 => pk [(0, 22, g.quota)]
  | 4 => pk [(0, 26, c.dirty)]
  | 5 => pk [(0, 26, c.stowing)]
  | 6 => pk [bit 0 (c.armed && savedSuite c), bit 1 c.exposed, bit 2 c.single,
             bit 3 (s.stw.stalled.any fun x => x.suite = g.id), bit 4 (c.enabled && decide (g.quota ≤ c.dirty))]
  | _ => pk [(0, 16, c.exposeCount), (16, 16, c.boundCount)]

/-- The SUI window (05_rooms_suites_chart): the registers of a Suite ID that no context holds read 0. -/
def viewSui (s : State) (o : Nat) : Option Word :=
  if o = 0 then some (pk [(0, 11, (s.sui.filter fun c => c.enabled).length), (16, 11, (s.sui.filter savedSuite).length)])
  else if 0x1000 ≤ o ∧ o < 0x9000 then
    some (match suiteOf s ((o - 0x1000) / 0x20) with
          | some c => suiteWord s c (o % 0x20 / 4)
          | none => 0)
  else none

/-- The STW window (06_stowing_ceiling). -/
def viewStw (s : State) (o : Nat) : Option Word :=
  let w := s.stw
  match o with
  | 0x00 => some (pk [bit 0 (stowRuns s), bit 1 w.pressed, (8, 7, w.pressPct), (16, 13, w.maxStowing)])
  | 0x04 => some (pk [(0, 16, w.maxTps), (16, 16, lastTpsNow s)])
  | 0x08 => some (pk [(0, 26, ceiling s), (26, 2, ceilSource s)])
  | 0x0C => some (pk [(0, 26, w.rekCeil), bit 26 w.fullOk])
  | 0x10 => some (pk [(0, 14, if stowRuns s then (if w.sweepMs = 0 then sweepPeriod s else w.sweepMs) else 0),
                      (16, 16, w.passes)])
  | 0x14 => some (pk [(0, 17, w.urgent.length + w.normal.length), bit 17 (!w.urgent.isEmpty)])
  | 0x18 => some (whole w.candDrop)
  | 0x1C => some (lo32 w.confirmed)
  | 0x20 => some (hi32 w.confirmed)
  | 0x24 => some (whole w.voidedCnt)
  | 0x28 => some (pk [(0, 16, w.failCnt), (16, 16, w.strayCnt)])
  | 0x2C => some (pk [(0, 15, w.stalled.length), (16, 16, w.boundHits)])
  | 0x30 => some (pk [(0, 12, w.stallMax)])
  | 0x34 => some (pk [(0, 31, w.bucket / 16), bit 31 w.bucketEmpty])
  | 0x38 => some (pk [(0, 28, w.accrual)])
  | 0x3C => some (pk [(0, 8, w.usedPct), (8, 8, w.elapsedPct), (16, 3, min 7 w.overRun), bit 19 w.wearShort])
  | _ => none

/-! ### SAV, CEL -/

/-- SAV_RESTORE_MS. -/
def restoreMs (s : State) : Nat :=
  match s.sav.restore.endedUs with
  | some t => t / 1000
  | none => if s.sav.restore.running then (s.almanac - s.sav.restore.startedAt) / 1000 else 0

/-- The SAV window (07_fence_save, 08_startup_restore). -/
def viewSav (s : State) (o : Nat) : Option Word :=
  let v := s.sav
  let r := v.restore
  match o with
  | 0x00 => some (pk [(0, 4, v.phase.code), (4, 3, v.kind), (8, 8, v.cause), (16, 2, v.outcome), bit 18 v.eraseAhead])
  | 0x04 => some (pk [(0, 3, v.port.st.code), (4, 3, v.stbd.st.code),
                      bit 7 (s.cel.metaLoaded && (chooseHalf s).isSome)])
  | 0x08 => some (lo32 v.saveId)
  | 0x0C => some (hi32 v.saveId)
  | 0x10 => some (pk [(0, 16, v.planRate), (16, 16, v.nowRate)])
  | 0x14 => some (pk [(0, 26, v.listed)])
  | 0x18 => some (pk [(0, 26, v.written)])
  | 0x1C => some (whole v.durationMs)
  | 0x20 => some (whole v.energyJ)
  | 0x24 => some (pk [(0, 10, s.plan.domain.memberId), (16, 14, s.plan.domain.memberId * s.plan.domain.slot100ns / 10)])
  | 0x28 => some (pk [bit 0 (!musterPinLow s), bit 1 v.musterOut, bit 2 s.plan.pins.musterInEn, bit 3 s.plan.pins.musterOutEn,
                      (16, 16, v.lateTriggers)])
  | 0x40 => some (pk [(0, 3, v.decision.code), bit 3 v.et, bit 4 v.baseNamed, (5, 2, v.holdReason), (16, 16, v.decideMs)])
  | 0x44 => some (pk [(0, 20, r.roomsEnded), (20, 6, min 32 r.demand.length),
                      bit 26 (r.endedUs.isSome)])
  | 0x48 => some (whole (restoreMs s))
  | 0x4C => some (pk [(0, 26, v.roster.length)])
  | 0x50 => some (pk [(0, 16, v.skipPoints), (16, 16, min 0xFFFF v.tagReads)])
  | 0x54 => some (whole v.demandRooms)
  | 0x58 => some (pk [(0, 12, min 0xFFF v.latLast), (16, 12, min 0xFFF v.latMax)])
  | 0x5C => some (pk [(0, 26, v.foldLeft.length), (26, 2, v.foldPhase)])
  | 0x60 => some (pk [(0, 16, v.foldMaxTps)])
  | _ => none

/-- Highest erase count of any block of a partition. -/
def maxErases (s : State) (part : Nat) : Nat :=
  ((s.cel.blocks.filter fun p => p.1 / 131072 = part).map fun p => blockErases s part (p.1 % 4096) p.2).foldl max
    (blockErases s part 0 {})

/-- Vestibule mean erase count ÷ 30,000, percent, with the background erases of the halves. -/
def vestWear (s : State) : Nat :=
  let n := vestBlocks s * dieCount s
  let sum := ((s.cel.blocks.filter fun p => p.1 / 131072 = 1).map fun p => p.2.erases).foldl (· + ·) 0
  let half := runBlocks s * dieCount s
  if n = 0 then 0
  else (sum + s.cel.allErases * n + (s.cel.portErases + s.cel.stbdErases) * half) * 100 / (n * 30000)

/-- Free Meta blocks of a die: neither lost nor holding programmed rows (CEL_META). -/
def metaFree (s : State) (d : Nat) : Nat :=
  ((List.range (metaBlocks s)).filter fun b => let n := nandAt s 2 d b; !(n.inUse || n.lost)).length

/-- Slots of the key store that hold a key (CEL_KEYS). -/
def keyMask (s : State) : Nat := maskOf 64 fun k => k ≠ 0 && tget 0 s.cel.keys k ≠ 0

/-- The CEL window (09_cellar). -/
def viewCel (s : State) (o : Nat) : Option Word :=
  let c := s.cel
  let up := planUp s
  match o with
  | 0x00 => some (pk [(0, 6, dieCount s), (8, 3, dieCount s / 8), (16, 12, if up then minDies s fun d => (dieAt s d).good else 0)])
  | 0x04 => some (if up then pk [(0, 12, cellarBlocks s), (16, 12, vestBlocks s)] else 0)
  | 0x08 => some (if up then pk [(0, 12, metaBlocks s), (16, 12, minDies s (spareBlocks s))] else 0)
  | 0x0C => some (pk [bit 0 c.metaLoaded, bit 1 c.patrolRun, bit 2 c.reclaim,
                      (8, 8, if c.metaLoaded then min 0xFF (minDies s (freeCount s)) else 0)])
  | 0x10 => some (pk [(0, 12, c.padUs), (16, 4, c.gcLow)])
  | 0x14 => some (pk [(0, 12, if up then (spareMin s).1 else 0), (16, 8, c.spareThresh),
                      (24, 8, if up then (spareMin s).2 else 0)])
  | 0x18 => some (if up then pk [(0, 8, min 0xFF (cellarWear s)), (8, 8, min 0xFF (vestWear s)),
                                 (16, 8, min 0xFF (wearPct s 2 (metaBlocks s) 30000))] else 0)
  | 0x1C => some (pk [(0, 16, min 0xFFFF (maxErases s 0)), (16, 16, min 0xFFFF (max (maxErases s 1) (max (maxErases s 2) (maxErases s 3))))])
  | 0x20 => some (pk [(0, 16, min 0xFFFF (slowest c.tlcUs)), (16, 16, min 0xFFFF (slowest c.pslcUs))])
  | 0x24 => some (pk [(0, 16, c.soft), (16, 16, c.shifted)])
  | 0x28 => some (whole c.ue)
  | 0x2C => some (pk [(0, 16, c.retiredProg), (16, 16, c.retiredErase)])
  | 0x30 => some (pk [(0, 8, c.patrolD), (8, 8, c.ageD), bit 16 c.patrolLate, (17, 15, c.patrolPasses)])
  | 0x34 => some (pk [(0, 6, c.patrolDie), (16, 12, c.patrolBlock)])
  | 0x38 => some (lo32 (if c.metaLoaded then c.nextGen else 0))
  | 0x3C => some (hi32 (if c.metaLoaded then c.nextGen else 0))
  | 0x40 => some (pk [(0, 8, if c.metaLoaded then min 0xFF (minDies s (metaFree s)) else 0),
                      (16, 16, min 0xFFFF c.sinceCkpt)])
  | 0x44 => some (lo32 (keyMask s))
  | 0x48 => some (hi32 (keyMask s))
  | _ => none

/-! ### NRG, GAU, REK -/

/-- A thermistor field: quarter degrees, 0x8000 when open or short (NRG_TEMP). -/
def thermBits : Therm → Nat
  | .ok q => signedBits 16 q
  | _ => 0x8000

/-- NRG_EXER_STAT.DAYS_NEXT: whole days until the next due hour; 0 with no schedule or no clock yet. -/
def daysNext (s : State) : Nat :=
  let p := s.plan.policy
  match exerClock s s.almanac with
  | none => 0
  | some h =>
    if p.exerDays = 0 then 0
    else
      match lastDue s h with
      | some d => (d + p.exerDays * 24 - h) / 24
      | none => (p.exerHour - h) / 24

/-- NRG_STATUS. -/
def viewNrgStatus (s : State) : Word :=
  let n := s.nrg
  pk [(0, 2, n.path.code), bit 2 n.present, bit 3 (packUsable s), bit 4 n.p12vValid, bit 5 n.auxValid,
      (8, 4, match n.packId with | .code k => k | _ => 0)]

/-- The NRG window (10_energy_pack). -/
def viewNrg (s : State) (o : Nat) : Option Word :=
  let n := s.nrg
  match o with
  | 0x00 => some (viewNrgStatus s)
  | 0x04 => some (pk [(0, 5, n.fenceTh)])
  | 0x08 => some (pk [(0, 7, n.ilimDa)])
  | 0x0C => some (pk [(0, 16, n.packMv), (16, 16, n.p12vMv)])
  | 0x10 => some (pk [(0, 16, signedBits 16 n.packMa)])
  | 0x14 => some (pk [(0, 16, thermBits n.th0), (16, 16, thermBits n.th1)])
  | 0x18 => some (pk [(0, 3, n.chg.code), bit 3 n.rest, bit 4 n.tempPause, bit 5 n.ilimActive, (16, 12, n.chgMa)])
  | 0x1C => some (pk [(0, 3, n.authResult), (4, 3, n.authEntry), (8, 8, n.authAttempts), (16, 16, n.packVer)])
  | 0x20 => some (pk [(0, 2, n.profSlot), bit 2 n.profKnown, (16, 16, n.insertions)])
  | 0x24 => some (pk [(0, 6, n.depthPct), (8, 7, n.maxMin)])
  | 0x28 => some (pk [(0, 4, n.exerResult), (8, 8, match n.exer with | some x => exerDepthNow s x | none => n.exerDepth),
                      (16, 16, min 0xFFFF (daysNext s))])
  | 0x2C => some (whole (n.savePj / 1000000000000))
  | _ => none

/-- A figure in ‰ as a field of ten bits. -/
def permille (x : Rat) : Nat := min 1023 (floorNat x)

/-- The GAU window (11_gauge_reckoning). -/
def viewGau (s : State) (o : Nat) : Option Word :=
  let g := s.gau
  match o with
  | 0x00 => some (pk [(0, 2, if cellMode s then 1 else if superMode s then 2 else 0), bit 2 g.refValid,
                      bit 3 g.restSince.isSome, bit 4 g.restWindow.isSome, bit 5 g.disagree, bit 6 g.stale,
                      bit 7 g.learn.isSome, bit 8 (s.nrg.inserted && !g.learned),
                      (16, 16, min 0xFFFF ((s.almanac - g.refAt) / 3600000000))])
  | 0x04 => some (pk [(0, 10, permille (socV s)), (16, 10, permille (socC s))])
  | 0x08 => some (pk [(0, 10, min 1023 (ceilNat (uNow s))), (16, 10, permille (min (socVLow s) (socC s - uNow s)))])
  | 0x0C => some (whole g.cap)
  | 0x10 => some (pk [(0, 16, min 0xFFFF g.res25), (16, 16, min 0xFFFF g.resFirst)])
  | 0x14 => some (whole (s.rek.out.eV / 1000))
  | 0x18 => some (whole (s.rek.out.eC / 1000))
  | 0x1C => some (pk [(0, 16, g.qualified), (16, 8, g.disqualified), (24, 3, g.lastDq)])
  | 0x20 => some (lo32 g.refAt)
  | 0x24 => some (hi32 g.refAt)
  | 0x28 => some (pk [bit 1 g.pulseEn])
  | _ => none

/-- Seconds of validity left of the grant in force, rounded up. -/
def grantLeft (s : State) : Nat :=
  match s.rek.grant with
  | some g => ceilDiv (g.at_ + g.validS * 1000000 - s.almanac) 1000000
  | none => 0

/-- REK_STATUS. -/
def viewRekStatus (s : State) : Word :=
  let o := s.rek.out
  pk [(0, 1, o.source), (1, 3, o.limit), bit 4 o.fallback, bit 5 o.fullOk, bit 6 s.rek.eol, (16, 16, s.rek.runs)]

/-- The REK window (11_gauge_reckoning). -/
def viewRek (s : State) (ofs : Nat) : Option Word :=
  let r := s.rek
  let o := r.out
  let c := s.gau.cost
  match ofs with
  | 0x00 => some (viewRekStatus s)
  | 0x04 => some 0
  | 0x0C => some (pk [(0, 16, min 0xFFFF o.perGibMj), (16, 10, r.fixedJ)])
  | 0x10 => some (pk [(0, 16, min 0xFFFF (c.stowedHist.foldl max 0)), (16, 10, min 1023 o.fUsedJ),
                      (26, 4, c.stowedHist.length)])
  | 0x14 => some (pk [(0, 16, min 0xFFFF o.fullMj), (16, 16, min 0xFFFF (c.fullHist.foldl max 0))])
  | 0x18 => some (pk [(0, 16, signedBits 16 o.tNow), (16, 16, signedBits 16 o.tFcast)])
  | 0x1C => some (pk [(0, 16, o.planRate), (16, 16, o.powerDw)])
  | 0x20 => some (whole (o.eUse / 1000))
  | 0x24 => some (whole (o.eBudget / 1000))
  | 0x28 => some (whole (ceilDiv o.need 1000))
  | 0x2C => some (whole (ceilDiv o.fullNeed 1000))
  | 0x30 => some (lo32 r.lastAt)
  | 0x34 => some (hi32 r.lastAt)
  | 0x38 => some (pk [(0, 7, r.fadePct), (8, 9, r.risePct), (17, 7, r.ceilPct), (24, 3, r.eolReason)])
  | 0x3C => some (whole ((r.grant.map fun g => g.joules).getD 0))
  | 0x40 => some (pk [(0, 24, grantLeft s)])
  | _ => none

/-! ### PLK, DMW -/

/-- The registers of a mirror set (PLK_SET_STATE to PLK_SET_RESYNC). -/
def setWord (s : State) (n k : Nat) : Word :=
  let m := setAt s n
  match k with
  | 0 => pk [(0, 3, m.st.code), bit 3 (homeBit s n), bit 4 m.parted, bit 5 m.abandonSeen, bit 6 m.handAt.isSome,
             bit 7 m.driftValid]
  | 1 => lo32 m.epoch
  | 2 => hi32 m.epoch
  | _ => pk [(0, 26, m.resync.length)]

/-- The PLK window (12_partner_mirroring). -/
def viewPlk (s : State) (o : Nat) : Option Word :=
  let p := s.plk
  match o with
  | 0x00 => some (pk [(0, 2, p.rev), bit 2 p.contact, (3, 2, p.partner), (8, 8, p.peerState), (16, 16, p.retrains)])
  | 0x04 => some (pk [(0, 6, p.capGbps), (8, 6, p.resyncGbps), (16, 8, p.homeNotice), (24, 8, p.pairWait)])
  | 0x08 => some (pk [(0, 2, p.lanternIn.code), bit 2 (p.outAbandon || s.dev.state = .drydock), (16, 16, p.stuckCount)])
  | 0x0C => some (pk [(0, 16, p.hbMissed), (16, 16, p.losses)])
  | 0x10 => some (pk [(0, 15, ((p.fwd ++ p.sent).filter fun b => !b.resync).length), (16, 12, min 0xFFF p.ackMaxUs)])
  | _ => if 0x20 ≤ o ∧ o < 0x60 then some (setWord s ((o - 0x20) / 0x10) (o % 0x10 / 4)) else none

/-- The registers of a channel, 0x40 × n (13_dumbwaiter). DESIGN CHOICE (assumption 113): PAUSE and RESET read 0 also before the
step boundary at which they are taken up. -/
def chanWord (s : State) (n k : Nat) : Option Word :=
  let c := chanAt s n
  match k with
  | 0x00 => some (pk [bit 0 (decide (c.st ≠ .off)), (4, 4, c.size), (8, 2, c.prio)])
  | 0x04 => some (pk [(0, 3, c.st.code), (4, 4, c.lastStatus), bit 8 c.stalled, bit 9 c.held, (16, 14, c.entries)])
  | 0x08 => some (pk [(0, 8, c.head)])
  | 0x0C => some (pk [(0, 8, c.tail)])
  | 0x10 => some (whole ((c.run.map fun r => r.cursor).getD 0))
  | 0x14 => some (pk [(0, 10, c.winLo), (16, 10, c.winHi), bit 31 c.roWrite])
  | 0x18 => some (pk [(0, 8, c.fenceIdx), bit 8 c.fenceValid])
  | 0x1C => some (whole c.fenceCur)
  | 0x20 => some (whole c.done)
  | _ => none

/-- The DMW window (13_dumbwaiter). -/
def viewDmw (s : State) (o : Nat) : Option Word :=
  if o = 0 then some (pk [(0, 16, maskOf 16 fun n => (chanAt s n).st = .run),
                          (16, 16, maskOf 16 fun n => (chanAt s n).st = .halted)])
  else if o = 4 then some (pk [(0, 14, entriesNow s), (16, 14, s.dmw.peak)])
  else if 0x1000 ≤ o ∧ o < 0x1400 then chanWord s ((o - 0x1000) / 0x40) (o % 0x40)
  else none

/-! ### ATT, ECC -/

/-- Bits [31:0] of a bank's status word (ATT_BANK0_OP, ATT_BANK1_OP): the operation that runs, else the error that its owner
has not cleared. -/
def bankOpWord (s : State) (b : Nat) : Nat :=
  let k := bankAt s b
  match k.prog, k.op, k.err with
  | some o, _, _ => statusWord b o true false .none
  | none, some o, _ => statusWord b o true false .none
  | none, none, some e => e.2
  | none, none, none => 0

/-- An erase of a bank is suspended. -/
def bankSusp (k : AtticBank) : Bool := match k.op with | some o => decide (o.susp ≠ .no) | none => false

/-- A re-erase is pending or runs (R523). -/
def reErasePending (k : AtticBank) : Bool :=
  (nextHalfErased k).isSome || match k.op with | some o => decide (o.kind = .reErase) | none => false

/-- The ATT window (14_attic). -/
def viewAtt (s : State) (o : Nat) : Option Word :=
  let a := s.att
  let b0 := bankAt s 0
  let b1 := bankAt s 1
  match o with
  | 0x00 => some (pk [bit 0 (b0.op.isSome || b0.prog.isSome), bit 1 (bankSusp b0), bit 2 (b1.op.isSome || b1.prog.isSome),
                      bit 3 (bankSusp b1), bit 4 a.scanned, bit 5 (reErasePending b0 || reErasePending b1), bit 6 a.closed,
                      bit 7 b0.log1, bit 8 b1.log1])
  | 0x04 => some (whole (bankOpWord s 0))
  | 0x08 => some (whole (bankOpWord s 1))
  | 0x0C => some (pk [(0, 14, a.starveMs)])
  | 0x10 => some (whole a.eraseSeq)
  | 0x14 => some (pk [(0, 16, a.retried), (16, 16, a.ue)])
  | 0x18 => some (pk [(0, 16, a.fetchFaults), (16, 8, a.lastFetchMstr)])
  | 0x1C => some (whole a.suspends)
  | 0x20 => some (pk [(0, 16, a.starves), (16, 16, min 0xFFFF (a.longestUs / 1000))])
  | 0x24 => some (pk [(0, 16, a.reErases), (16, 16, a.sealLost)])
  | 0x28 => some (pk [(0, 16, a.brownouts), (16, 16, a.seqErr)])
  | 0x2C => some (pk [(0, 16, a.recovered), (16, 16, a.unrecoverable)])
  | 0x30 => some (pk [(0, 24, a.maxCount), (24, 8, a.maxSector)])
  | 0x34 => some (pk [(0, 8, a.weak.getD 0), bit 8 a.weak.isSome])
  | _ => none

/-- The ECC window (15_onchip_integrity). -/
def viewEcc (s : State) (o : Nat) : Option Word :=
  let e := s.ecc
  match o with
  | 0x00 => some (pk [bit 0 (sramScrubs s), bit 1 e.atticRun, bit 2 e.testBusy, (8, 4, e.spatch.length),
                      (12, 4, e.apatch.length)])
  | 0x04 => some (pk [(0, 6, e.sramMin), (8, 8, e.atticH)])
  | 0x08 => some (pk [(0, 16, e.ce), (16, 16, e.repaired)])
  | 0x0C => some (pk [(0, 16, e.demandUe), (16, 16, e.scrubUe)])
  | 0x10 => some (pk [(0, 16, e.sramPasses), (16, 16, e.atticPasses)])
  | 0x14 => some (pk [(0, 16, e.parity), (16, 8, e.parityMstr)])
  | 0x18 => some (pk [(0, 16, e.atticCe), (16, 16, e.atticLoss)])
  | 0x80 => some (pk [bit 2 e.kind, (4, 7, e.word), (16, 8, e.parMask.toNat), (24, 2, e.result)])
  | 0x84 => some (lo32 e.testData.toNat)
  | 0x88 => some (hi32 e.testData.toNat)
  | 0x8C => some (pk [(0, 30, e.chkLo.toNat)])
  | 0x90 => some (pk [(0, 10, e.chkHi.toNat)])
  | _ =>
    if 0x20 ≤ o ∧ o < 0x40 then
      some (match e.spatch[(o - 0x20) / 4]? with | some w => pk [(0, 23, w), (31, 1, 1)] | none => 0)
    else if 0x40 ≤ o ∧ o < 0x60 then
      some (match e.apatch[(o - 0x40) / 4]? with | some w => pk [(0, 21, w.1), (31, 1, 1)] | none => 0)
    else none

/-! ### TWS, TWP, SVC -/

/-- SB_ALERT_N is driven low (17_two_wire_ports R588); the pins are high impedance where the target does not serve (R580). -/
def alertDriven (s : State) : Bool :=
  (s.tws.alert &&& s.tws.mask) ≠ 0 && !s.tws.araHeld &&
    match s.dev.state with
    | .off | .saved | .drydock => false
    | _ => planUp s

/-- The TWS window (17_two_wire_ports). -/
def viewTws (s : State) (o : Nat) : Option Word :=
  let t := s.tws
  let b := s.plan.sideband
  match o with
  | 0x00 => some (pk [(0, 7, b.addr), (7, 2, b.mode), bit 9 b.pec, bit 10 b.timeoutEn, (16, 8, t.sleepMs)])
  | 0x04 => some (pk [bit 0 t.sleeping, bit 1 t.busy, bit 8 t.clkLowTo, bit 9 t.dataLowTo, bit 10 t.proto, bit 11 t.pecErr,
                      bit 12 t.overlong, (16, 8, t.page.toNat), (24, 8, t.pointer.toNat)])
  | 0x08 => some (pk [(0, 16, t.xfers), (16, 16, t.wakeNak)])
  | 0x0C => some (pk [(0, 8, t.alert.toNat), (8, 8, t.mask.toNat), bit 16 (alertDriven s), bit 17 t.araHeld])
  | _ => none

/-- The TWP window (17_two_wire_ports). -/
def viewTwp (s : State) (o : Nat) : Option Word :=
  let t := s.twp
  let b := s.plan.sideband
  match o with
  | 0x00 => some (pk [bit 0 (planUp s && decide (b.pbTiming0 ≠ 0)), bit 1 t.busy, bit 2 t.bushung, bit 8 t.clkLowTo,
                      bit 9 t.arbLost, bit 10 t.arbCond, bit 11 t.proto, bit 12 t.xferFail])
  | 0x04 => some (pk [(0, 24, b.pbTiming0)])
  | 0x08 => some (whole b.pbTiming1)
  | 0x0C => some (pk [(0, 16, t.xfers), (16, 8, t.retries), (24, 8, t.clears)])
  | _ => none

/-- SVC_STATUS. -/
def viewSvcStatus (s : State) : Word :=
  let v := s.svc
  pk [bit 0 v.pres, (1, 2, v.session.code), bit 3 v.lockedUntil.isSome, (4, 4, v.roles.toNat), (8, 3, v.key)]

/-- SVC_BANKS: the bank states from step 2 of the boot on (18_service_update R633, R634). -/
def viewSvcBanks (s : State) : Word :=
  let v := s.svc
  let st := fun (b : Nat) => if v.selected then bankState (svcBank s b) else 0
  pk [(0, 1, v.inForce), (1, 3, st 0), (4, 3, st 1), bit 7 (v.selected && markerCounts (svcBank s v.inForce) .migrated),
      (8, 5, s.fuses.epoch)]

/-- Seconds until automatic confirmation, rounded up; 0 when none is pending (R641). -/
def autoPending (s : State) : Bool := s.svc.auto && s.svc.autoConfirmEn
def probationLeft (s : State) : Nat :=
  if autoPending s then ceilDiv (s.svc.probationMin * 60000000 - s.svc.probUs) 1000000 else 0

/-- SVC_PROBATION. -/
def viewSvcProbation (s : State) : Word := pk [(0, 16, probationLeft s), bit 16 (autoPending s)]

/-- The SVC window (18_service_update). -/
def viewSvc (s : State) (o : Nat) : Option Word :=
  let v := s.svc
  match o with
  | 0x00 => some (viewSvcStatus s)
  | 0x04 => some (viewSvcBanks s)
  | 0x08 => some (whole (updWord s))
  | 0x0C => some (if !v.selected || bankState (svcBank s (spareBank s)) = 0 then 0
                  else whole (stewardVersion s (spareBank s)))
  | 0x10 => some (viewSvcProbation s)
  | 0x14 => some (pk [bit 0 v.denyUpdate, bit 1 v.autoConfirmEn, (8, 8, v.probationMin)])
  | 0x18 => some (pk [(0, 16, v.badFrames), (16, 16, v.authFails)])
  | _ => none

/-! ### LOG, PWR -/

/-- The LOG window (19_almanac_log_identity). -/
def viewLog (s : State) (o : Nat) : Option Word :=
  let l := s.log
  match o with
  | 0x00 => some (lo32 s.almanac)
  | 0x04 => some (hi32 s.almanac)
  | 0x08 => some (lo32 (signedBits 64 l.offset))
  | 0x0C => some (hi32 (signedBits 64 l.offset))
  | 0x10 => some (pk [bit 0 l.calValid, bit 1 l.gapUnknown, bit 2 (!l.holding.isEmpty)])
  | 0x14 => some (match l.gapUs with | some g => whole (min 0xFFFFFFFE (g / 1000000)) | none => 0xFFFFFFFF)
  | 0x18 => some (whole l.next)
  | 0x1C => some (pk [(0, 9, l.holding.length), (16, 16, l.dropped)])
  | 0x20 => some (lo32 (deviceSerial s))
  | 0x24 => some (hi32 (deviceSerial s))
  | 0x28 => some (pk [(0, 5, l.selDie), (5, 2, l.selWord)])
  | 0x2C => some (wordOf ((s.fuses.nandIds[l.selDie]?).getD []) l.selWord)
  | _ => none

/-- Class TEMP_HIGH of the DRC station is live: it holds stage 2 (20_power_clocks_thermal R685). -/
def dramForces (s : State) : Bool := (stationAt s .drc).live.getLsbD 6

/-- The PWR window (20_power_clocks_thermal). -/
def viewPwr (s : State) (o : Nat) : Option Word :=
  let p := s.pwr
  match o with
  | 0x00 => some (pk [bit 0 (p.railsValid && !p.uv), bit 1 p.vppOn, bit 2 p.vddOn, bit 3 p.foldback, bit 4 p.refPresent])
  | 0x04 => some (pk [(0, 11, p.vddMv), (11, 11, p.vddqMv), (22, 10, p.vpp10mv)])
  | 0x08 => some (pk [(0, 10, p.vddDa), (10, 10, p.vddqDa), (20, 10, p.vppDa)])
  | 0x0C => some (pk [(0, 4, p.coreDepth), (4, 4, p.dramDepth), (8, 4, p.convDepth)])
  | 0x10 => some (pk [(0, 16, signedBits 16 p.tj), (16, 4, p.hottest)])
  | 0x14 => some (fittedStacks s p.stackTemps)
  | 0x18 => some (pk [(0, 2, if dramForces s then max 2 p.stage else p.stage), bit 2 (dramForces s),
                      (8, 8, signedBits 8 p.tjMax), (16, 15, p.entries)])
  | 0x1C => some (pk [(0, 10, p.nowDw), (16, 10, p.peakDw)])
  | _ => none

/-! ### Stations and windows -/

/-- The blocks whose reset covers a detector of a block (16_fault_stations R566, Table 16-6). -/
def coveredBy : Block → List Block
  | .dmw => [.drc, .cel] | .stw | .sav | .cht => [.cel] | .gau => [.nrg, .att] | .rek => [.nrg]
  | .ecc => [.att, .hst, .plk, .stw, .sav, .drc, .cel, .gau, .svc, .fpl, .dmw] | .log => [.att] | .nrg => [.twp]
  | _ => []

/-- FLEVEL (Table 01-9). -/
def viewFlevel (s : State) (b : Block) : Word :=
  let x := stationAt s b
  pk [(0, 3, x.level), (4, 3, x.cap), bit 8 (resetting s b || (coveredBy b).any (resetting s))]

/-- The registers of a fault station, at 0xF000 of its block's window (Table 01-9). -/
def viewStation (s : State) (b : Block) (o : Nat) : Option Word :=
  let x := stationAt s b
  match o with
  | 0x00 => some x.live
  | 0x04 => some x.sticky
  | 0x08 => some (lo32 x.capAddr)
  | 0x0C => some (hi32 x.capAddr)
  | 0x10 => some (pk [(0, 8, x.capMstr)])
  | 0x14 => some (whole (capType x))
  | 0x18 => some (lo32 x.capTime)
  | 0x1C => some (hi32 x.capTime)
  | 0x20 => some (pk [(0, 16, x.raised), (16, 16, x.quarantined)])
  | 0x24 => some 0
  | 0x28 => some (pk [(0, 16, x.graceMs)])
  | 0x2C => some (pk [(0, 16, x.quietTenMs)])
  | 0x30 => some (viewFlevel s b)
  | 0x34 => some (pk [(0, 16, x.recoveries), (16, 16, x.escalations)])
  | 0x38 => some (pk [(0, 4, x.vector)])
  | _ => none

/-- A block's own registers, by offset in its window. -/
def viewBlock (s : State) (b : Block) (o : Nat) : Option Word :=
  match b with
  | .dev => viewDev s o | .hst => viewHst s o | .drc => viewDrc s o | .cht => viewCht s o | .sui => viewSui s o
  | .stw => viewStw s o | .sav => viewSav s o | .cel => viewCel s o | .dmw => viewDmw s o | .nrg => viewNrg s o
  | .gau => viewGau s o | .rek => viewRek s o | .plk => viewPlk s o | .att => viewAtt s o | .ecc => viewEcc s o
  | .tws => viewTws s o | .twp => viewTwp s o | .svc => viewSvc s o | .log => viewLog s o | .pwr => viewPwr s o
  | .fpl => viewFpl s o

/-- The block in whose window a BAR0 offset lies (Table 01-1); the DRC's second window has no entry here (R20). -/
def windowBlock (ofs : Nat) : Option Block := Block.all.find? fun b => b.base = ofs / 0x10000 * 0x10000

/-- The value that the register at an aligned BAR0 offset shows; none where no register lies (01_architecture R18 to R20). -/
def regView (s : State) (ofs : Nat) : Option Word :=
  if 0x30000 ≤ ofs ∧ ofs < 0x40000 then (if ofs < 0x38000 then viewSc s (ofs - 0x30000) else none)
  else
    match windowBlock ofs with
    | none => none
    | some b =>
      let o := ofs % 0x10000
      if 0xF000 ≤ o then viewStation s b (o - 0xF000) else viewBlock s b o

/-- Offsets of the _LO registers of pairs (00_scope R17), the stations' pairs aside. -/
def pairLos : List Nat :=
  [0x10010, 0x20030, 0x6001C, 0x70008, 0x80038, 0x80044, 0xB0020, 0xC0030, 0xD0024, 0xD0034, 0xD0044, 0xD0054, 0xF0084,
   0xF008C, 0x130000, 0x130008, 0x130020]

/-- A BAR0 offset holds the _LO register of a pair. -/
def isPairLo (ofs : Nat) : Bool :=
  pairLos.contains ofs ||
    ((ofs % 0x10000 = 0xF008 || ofs % 0x10000 = 0xF018) && (windowBlock ofs).isSome && ofs / 0x10000 ≠ 3)

/-- Reset value of a pair's _HI register: 0, but for the fused serial number (LOG_DSN_HI). -/
def hiReset (s : State) (ofs : Nat) : Word := if ofs = 0x130024 then hi32 (deviceSerial s) else 0

/-- A read of a register as host software makes it (R16, R17): a _LO captures its _HI into the holding copy, and a _HI gives
the holding copy. None where no register lies. -/
def readReg (ofs : Nat) (s : State) : Option Word × State :=
  if 4 ≤ ofs ∧ isPairLo (ofs - 4) then (some ((alookup s.dev.hiCopies ofs).getD (hiReset s ofs)), s)
  else if isPairLo ofs then
    (regView s ofs,
     { s with dev := { s.dev with hiCopies := aset s.dev.hiCopies (ofs + 4) ((regView s (ofs + 4)).getD 0) } })
  else (regView s ofs, s)

/-- A read in the name of a master: where no register lies it returns ones and raises BAD_ACCESS (R14, R19). -/
def readAs (master ofs : Nat) (s : State) : Word × State :=
  match readReg ofs s with
  | (some v, s) => (v, s)
  | (none, s) => (0xFFFFFFFF, raiseAddr hstBadAccess ofs master 1 s)

end Sys2Proof.Machine
end

