-- ==== Sys2Proof/Machine/OpsReport.lean ====
section
/-! DEFINITION. The byte layouts that more than one interface reports: persistence status, suite status, last save, vendor
identity, lifetime counters (03_host_link R108, R109; 19_almanac_log_identity R660). -/

namespace Sys2Proof.Machine

/-- Bytes of a register's value. -/
def wordBytes (w : Word) : List Byte := leBytes 4 w.toNat

/-- A count that stops at the largest value of its field. -/
def capBytes (n v : Nat) : List Byte := leBytes n (min v (256 ^ n - 1))

/-- VARIANT and GRADE of Tables 03-7 and 17-3: 0 -2T, 1 -4T; 0 E, 1 I. -/
def variantCode (s : State) : Nat := if s.fuses.is2T then 0 else 1
def gradeCode (s : State) : Nat := b2n s.fuses.gradeI

/-- The vendor command-set version (R109). -/
def cmdsetVersion : Nat := 0x00010000

/-- Version word of a core's image in the bank in force: 0 Steward, 1 Purser, 2 Pilot, 3 Keeper (Table 18-5). -/
def imageVersion (s : State) (core : Nat) : Nat := hdrField s s.svc.inForce (0x10 + 4 * core) 4

/-- Table 03-7. -/
def vendorIdentity (s : State) : List Byte :=
  leBytes 4 cmdsetVersion ++ [0xB0, BitVec.ofNat 8 (variantCode s), BitVec.ofNat 8 (gradeCode s), 0] ++
    ((List.range 4).map fun c => leBytes 4 (imageVersion s c)).flatten ++ leBytes 4 s.fpl.plan.crc ++ leBytes 4 0 ++
    unitIdentity s

/-- FLAGS of Table 03-8. -/
def persistenceFlags (s : State) : Nat :=
  pkNat [bit 0 s.dev.armed, bit 1 (replSet s), bit 2 (singleAny s), bit 3 (exposedAny s), bit 4 (stowedMode s),
         bit 5 (!s.stw.stalled.isEmpty), bit 6 s.plan.domain.grantMode]

/-- Table 03-8. -/
def persistenceStatus (s : State) : List Byte :=
  [BitVec.ofNat 8 s.dev.state.code, BitVec.ofNat 8 (persistenceFlags s), 0, 0] ++ leBytes 4 (ceiling s) ++
    leBytes 4 s.cht.dirtyTotal ++ capBytes 4 s.rek.out.saveEstMs ++ capBytes 4 (s.stw.bucket / 16) ++
    leBytes 4 s.dev.reasons.toNat ++ leBytes 8 s.rek.lastAt

/-- A record of Table 03-9. -/
def suiteRecord (s : State) (id : Nat) : List Byte :=
  match suiteOf s id with
  | none => leBytes 2 id ++ [0xFF, 0] ++ List.replicate 20 0
  | some c =>
    let fl := pkNat [bit 0 (c.armed && savedSuite c), bit 1 c.exposed, bit 2 c.single, bit 3 c.cfg.etPermit]
    leBytes 2 id ++ [if c.enabled then BitVec.ofNat 8 c.cfg.policy.code else 0xFF, BitVec.ofNat 8 fl] ++
      leBytes 4 c.dirty ++ leBytes 4 c.cfg.quota ++ leBytes 4 c.stowing ++
      leBytes 8 (if c.exposed then c.exposedSince else 0)

/-- Hours of a count of microseconds. -/
def hours (us : Nat) : Nat := us / 3600000000

/-- Table 19-5. -/
def lifeBytes (s : State) : List Byte :=
  let l := s.log.life
  leBytes 8 (l.firstBoot.getD 0) ++ capBytes 4 (hours l.powerOnUs) ++ capBytes 4 (hours l.savedUs) ++ capBytes 4 l.boots ++
    capBytes 4 l.savesStowed ++ capBytes 4 l.savesFull ++ capBytes 4 l.unsealed ++ capBytes 4 l.warmReturns ++
    capBytes 4 l.restores ++ capBytes 4 l.harbours ++ capBytes 4 l.dirtyShutdowns ++ capBytes 4 l.exercises ++
    capBytes 4 l.updates ++ capBytes 8 (l.hostBytes / 1073741824) ++ capBytes 8 (l.stowedTiles / 16384) ++
    capBytes 4 l.coldGaps ++ leBytes 4 0

end Sys2Proof.Machine
end

