-- ==== Sys2Proof/Machine/OpsMailbox.lean ====
section
/-! DEFINITION. The primary mailbox as shared operations (03_host_link R104 to R114): which commands a state serves, responses,
event records, the layouts of the standard commands, Sanitize and Secure Erase. The layouts of the standard commands and the
return codes are those of CXL (PRESUMED: assumption 51). -/

namespace Sys2Proof.Machine

/-! ### Service by state (Table 03-2) -/

/-- Return codes of CXL. -/
def rcSuccess : Nat := 0
def rcStarted : Nat := 1
def rcInvalid : Nat := 2
def rcUnsupported : Nat := 3
def rcInternal : Nat := 4
def rcBusy : Nat := 6
def rcHandle : Nat := 0xE

/-- The opcodes that RESTORE and WARM-RETURN serve (Table 03-2). -/
def servedInRestore (op : Nat) : Bool :=
  [0x0001, 0x4200, 0x0100, 0x0101, 0x0102, 0x0103, 0x0300, 0xC000, 0xC001, 0xC002, 0xC020, 0xC021].contains op

/-- The mailbox is in use by a command whose response is owed: Secure Erase, or a Clear Poison that is not completed. -/
def mailboxHeld (s : State) : Bool :=
  s.hst.sanitizing = some 0x4401 ||
    (s.hst.writes ++ s.hst.waiting).any fun w => clearTags ≤ w.tag && (!w.accepted || w.waitAck.isSome)

/-- The Steward is being reloaded (15_onchip_integrity Table 15-6 row 4), or a handover runs (18_service_update R635). -/
def stewardAway (s : State) : Bool :=
  s.svc.phase = 3 || match alookup s.ecc.reload mSteward with | some t => decide (s.almanac < t) | none => false

/-- What the mailbox makes of an opcode: none where the doorbell is not taken up, else whether it is served; the others return
Busy (Table 03-2). -/
def mailboxServes (s : State) (op : Nat) : Option Bool :=
  let free : Bool := !mailboxHeld s && !stewardAway s
  match s.dev.state with
  | .restore | .warmReturn => some (servedInRestore op && free)
  | .tenancy | .service | .harbour => some free
  | _ => none

/-- A response, or none yet, and the state. -/
abbrev MbxAns := Option (Nat × List Byte) × State

/-- A response with output. -/
def mbxOut (l : List Byte) (s : State) : MbxAns := (some (rcSuccess, l), s)

/-- A response without output. -/
def mbxRc (rc : Nat) (s : State) : MbxAns := (some (rc, []), s)

/-- Give the response that a command answers. -/
def mbxAnswer (op : Nat) (r : MbxAns) : State :=
  match r.1 with
  | some (rc, l) => emit (.mailbox op rc l) r.2
  | none => r.2

/-- Run a mailbox command (R104, Table 03-2). -/
def mailbox (op : Nat) (f : State → MbxAns) (s : State) : State :=
  match mailboxServes s op with
  | none => s
  | some false => emit (.mailbox op rcBusy []) s
  | some true => mbxAnswer op (f s)

/-- A command that starts a background operation, of which one runs at a time (R104). -/
def startBackground (op : Nat) (f : State → State) (s : State) : MbxAns :=
  if s.hst.bg.isSome then mbxRc rcBusy s
  else mbxRc rcStarted (f { s with hst := { s.hst with bg := some { opcode := op, startedAt := s.almanac } } })

/-- A background operation has ended with Success: MSI-X vector 0 (Table 03-14). -/
def endBackground (op : Nat) (s : State) : State :=
  notify 0 { s with hst := { s.hst with bg := none, lastBgOpcode := op, lastBgRc := rcSuccess } }

/-! ### The host calendar (19_almanac_log_identity R652) -/

/-- The calendar time of an Almanac time, ns; 0 while CAL_VALID is 0. -/
def calendar (s : State) (t : Nat) : Nat := if s.log.calValid then ((t : Int) * 1000 + s.log.offset).toNat else 0

/-! ### Identification -/

/-- The strings of the Identity Wing, which the part reports through the identify commands (02_floor_plan R62): no table gives their place,
so they follow the standard fields (DESIGN CHOICE: assumption 115). -/
def identityStrings (s : State) : List Byte :=
  let i := s.plan.identity
  padTo 32 i.maker ++ padTo 32 i.model ++ padTo 32 i.moduleSn

/-- Identify (0x0001): the PCIe identity, the serial number, the payload size of R104, component type 3, the strings of R62. -/
def identifyBytes (s : State) : List Byte :=
  leBytes 2 0x1F3A ++ leBytes 2 0x7824 ++ leBytes 2 s.plan.identity.subsysVid ++ leBytes 2 s.plan.identity.subsysId ++
    leBytes 8 (deviceSerial s) ++ [14, 3] ++ identityStrings s

/-- A capacity in units of 256 MiB. -/
def units256 (n : Nat) : Nat := n / 2 ^ 28

/-- Identify Memory Device (0x4000): the capacities of R86, four logs of 64 records, LSA 64 KiB, poison list 8,192,
and the strings of R62. -/
def memoryDeviceBytes (s : State) : List Byte :=
  let v := units256 (volReported s)
  let p := units256 (persReported s)
  padTo 16 (Config.fwRevision (imageVersion s 0)) ++ leBytes 8 (v + p) ++ leBytes 8 v ++ leBytes 8 p ++ leBytes 8 0 ++
    (List.replicate 4 (leBytes 2 64)).flatten ++ leBytes 4 65536 ++ leBytes 3 8192 ++ leBytes 2 0 ++ [0, 0] ++ identityStrings s

/-- Get FW Info (0x0200): two slots, the active one, no online activation; the second revision is that of the spare bank. -/
def fwInfoBytes (s : State) : List Byte :=
  let rev := fun (b : Nat) => if hasHeader (svcBank s b) then padTo 16 (Config.fwRevision (stewardVersion s b)) else List.replicate 16 0
  [2, BitVec.ofNat 8 (s.svc.inForce + 1), 0] ++ List.replicate 13 0 ++ rev 0 ++ rev 1 ++ List.replicate 32 0

/-- The opcodes that the part supports (Tables 03-5, 03-6 and 12-12). -/
def supportedOpcodes : List Nat :=
  [0x0001, 0x0002, 0x0100, 0x0101, 0x0102, 0x0103, 0x0200, 0x0300, 0x0301, 0x0400, 0x0401, 0x4000, 0x4100, 0x4102, 0x4103,
   0x4200, 0x4201, 0x4202, 0x4203, 0x4204, 0x4300, 0x4301, 0x4302, 0x4303, 0x4304, 0x4305, 0x4400, 0x4401, 0xC000, 0xC001,
   0xC002, 0xC003, 0xC010, 0xC011, 0xC020, 0xC021, 0xC030, 0xC050, 0xC051, 0xC052, 0xC053, 0xC054]

/-- The opcodes that have a row of their own; every other one returns Unsupported (R106, R108). -/
def namedOpcodes : List Nat := supportedOpcodes ++ [0x0201, 0x0202, 0x4101]

/-- The Command Effects Log: an entry of opcode and effects for each supported command. -/
def commandEffects : List Byte := supportedOpcodes.flatMap fun o => leBytes 2 o ++ leBytes 2 (Config.celEffects o)

/-- UUID of the Command Effects Log, as its text spells it. -/
def celUuid : List Byte := [0x0d, 0xa9, 0xc0, 0xb5, 0xbf, 0x41, 0x4b, 0x78, 0x8f, 0x79, 0x96, 0xb1, 0x62, 0x3b, 0x3f, 0x17]

/-! ### Event records (R111, R112) -/

/-- UUIDs of a record: vendor (R112), General Media and Memory Module as CXL gives them. -/
def recordUuid : EventRecord → List Byte
  | .vendor _ => [0x4a, 0x8e, 0x2c, 0x71, 0x5d, 0x03, 0x4b, 0x6f, 0x9e, 0x21, 0x7c, 0x0d, 0x8a, 0x3f, 0x6b, 0x15]
  | .generalMedia _ _ => [0xfb, 0xcd, 0x0a, 0x77, 0xc2, 0x60, 0x41, 0x7f, 0x85, 0xa9, 0x08, 0x8b, 0x16, 0x21, 0xeb, 0xa6]
  | .memoryModule _ _ => [0xfe, 0x92, 0x74, 0x75, 0xdd, 0x59, 0x43, 0x39, 0xa5, 0x86, 0x79, 0xba, 0xb1, 0x13, 0xb7, 0x74]

/-- Almanac time of a record. -/
def recordTime : EventRecord → Nat
  | .vendor e => e.time
  | .generalMedia _ t => t
  | .memoryModule _ t => t

/-- The common header of 48 bytes; the severity is the log. -/
def recordHeader (s : State) (log handle : Nat) (r : EventRecord) : List Byte :=
  recordUuid r ++ [128, BitVec.ofNat 8 log, 0, 0] ++ leBytes 2 handle ++ leBytes 2 0 ++ leBytes 8 (calendar s (recordTime r)) ++
    List.replicate 16 0

/-- Life Used (Table 03-3): the larger of the Cellar endurance consumed and the pack's fade, percent. -/
def lifeUsed (s : State) : Nat := max (cellarWear s) (packLife s)

/-- Time for which write credits were withheld in the last 10 s, µs (Table 03-3). -/
def creditHeld (s : State) : Nat :=
  let spans := match s.hst.creditHeldAt with | some t => (t, s.almanac) :: s.hst.creditSpans | none => s.hst.creditSpans
  (spans.map fun x => x.2 - max x.1 (s.almanac - 10000000)).foldl (· + ·) 0

/-- Whole degrees of the junction. -/
def junctionC (s : State) : Int := s.pwr.tj / 4

/-- An alert of Set Alert Configuration is enabled. -/
def alertOn (s : State) (k : Nat) : Bool := s.hst.alerts.enables / 2 ^ k % 2 = 1

/-- Additional Status: warnings of the alerts that are enabled; critical where the critical threshold is reached. -/
def additionalStatus (s : State) : Nat :=
  let a := s.hst.alerts
  let t := junctionC s
  let life := if Config.alertCritical 0 ≤ lifeUsed s then 2 else b2n (alertOn s 0 && a.lifeUsedPct ≤ lifeUsed s)
  let temp := if (Config.alertCritical 1 : Int) ≤ t then 2 else b2n ((alertOn s 1 && a.overTempC ≤ t) || (alertOn s 2 && t ≤ a.underTempC))
  pkNat [(0, 2, life), (2, 2, temp), bit 4 (alertOn s 3 && a.corrVolatile ≤ s.drc.ceVol),
         bit 5 (alertOn s 4 && a.corrPersistent ≤ s.drc.cePers)]

/-- Performance Degraded (Table 03-3). -/
def degradedNow (s : State) : Bool := 100000 < creditHeld s || stageNow s ≠ 0

/-- Get Health Info (Table 03-3). -/
def healthBytes (s : State) : List Byte :=
  let repl := replSet s
  let status := pkNat [bit 0 repl, bit 1 (degradedNow s), bit 2 repl]
  let media := if s.dev.state.hostMemory then 0 else 1
  [BitVec.ofNat 8 status, media, BitVec.ofNat 8 (additionalStatus s), BitVec.ofNat 8 (min 100 (lifeUsed s))] ++
    leBytes 2 (signedBits 16 (junctionC s)) ++ capBytes 4 s.hst.dirtyShutdowns ++ capBytes 4 s.drc.ceVol ++ capBytes 4 s.drc.cePers

/-- The body of a record, 80 bytes (Table 03-12 for a vendor record). -/
def recordBody (s : State) : EventRecord → List Byte
  | .vendor e =>
    leBytes 2 e.code ++ [BitVec.ofNat 8 e.block, BitVec.ofNat 8 e.master] ++ leBytes 2 e.suite ++ [BitVec.ofNat 8 e.state, 0] ++
      leBytes 8 e.dpa ++ leBytes 8 e.arg0 ++ leBytes 8 e.arg1 ++ leBytes 8 e.time ++ List.replicate 40 0
  | .generalMedia dpa _ => leBytes 8 dpa ++ [1] ++ List.replicate 71 0
  | .memoryModule what _ => (if what = 3 then 3 else 0) :: healthBytes s ++ List.replicate 61 0

/-- A record of 128 bytes. -/
def recordBytes (s : State) (log handle : Nat) (r : EventRecord) : List Byte := recordHeader s log handle r ++ recordBody s r

/-- Event log of an index. -/
def eventLog (s : State) (i : Nat) : EventLog := vget { vector := 1 } s.hst.logs i

/-- Change an event log. -/
def modLog (i : Nat) (f : EventLog → EventLog) (s : State) : State :=
  { s with hst := { s.hst with logs := vmod s.hst.logs i f } }

/-- Get Event Records: the overflow fields, then every record of the log, oldest first. -/
def eventRecords (s : State) (i : Nat) : List Byte :=
  let l := eventLog s i
  [if l.overflow then 1 else 0, 0] ++ leBytes 2 l.dropped ++
    leBytes 8 (if l.overflow then calendar s l.firstDrop else 0) ++ leBytes 8 (if l.overflow then calendar s l.lastDrop else 0) ++
    leBytes 2 l.records.length ++ List.replicate 10 0 ++
    l.records.flatMap fun r => recordBytes s i r.1 r.2

/-- Interrupt policy of a log: mode and message number (R114). -/
def policyByte (l : EventLog) : Byte := BitVec.ofNat 8 (b2n l.irq + 16 * l.vector)

/-- A setting that Set Event Interrupt Policy takes: no interrupts, or MSI-X with a vector from 1 to 15, 0 for the vector of
Table 03-14 (R114). -/
def policyOk (n : Nat) : Bool := n % 4 ≤ 1 && n < 256

/-- Set the policy of log `i`. -/
def setPolicy (i n : Nat) (s : State) : State :=
  let v := n / 16 % 16
  modLog i (fun l => { l with irq := n % 4 = 1, vector := if n % 4 = 1 then (if v = 0 then i + 1 else v) else l.vector }) s

/-! ### Poison -/

/-- A record of Get Poison List: the DPA with its source in the low bits, the length in 64 B units. -/
def poisonRecord (p : PoisonEntry) : List Byte :=
  leBytes 8 (p.dpa + p.source) ++ leBytes 4 (if p.tile then beatsPerTile else 1) ++ leBytes 4 0

/-- Records that a payload of 16 KiB holds after a header of 32 bytes. -/
def recordsPerCall : Nat := 1022

/-- Entries of the poison list that a range of DPA meets. -/
def poisonIn (s : State) (dpa len : Nat) : List PoisonEntry :=
  s.hst.poisonList.filter fun p => p.dpa < dpa + len * 64 && dpa < p.dpa + (if p.tile then tileBytes else beatBytes)

/-- Get Poison List (R103): at most 1,022 entries a call; a repeat of the same range goes on where the last call ended. -/
def getPoison (dpa len : Nat) (s : State) : MbxAns :=
  let from_ := match s.hst.poisonNext with | some (d, l, n) => if d = dpa ∧ l = len then n else 0 | none => 0
  let l := (poisonIn s dpa len).drop from_
  let more : Bool := recordsPerCall < l.length
  let out := l.take recordsPerCall
  let fl := pkNat [bit 0 more, bit 1 s.hst.poisonOverflow, bit 2 s.hst.scanning]
  mbxOut ([BitVec.ofNat 8 fl, 0] ++ leBytes 8 (if s.hst.poisonOverflow then calendar s s.hst.poisonOverflowAt else 0) ++
      leBytes 2 out.length ++ List.replicate 20 0 ++ out.flatMap poisonRecord)
    { s with hst := { s.hst with poisonNext := if more then some (dpa, len, from_ + recordsPerCall) else none } }

/-- The link DPA of a DPA that the host is shown (R85). -/
def dpaToLink (s : State) (dpa : Nat) : Option Nat :=
  if dpa < persReported s then some (volReported s + dpa)
  else if persRooms s * roomBytes ≤ dpa && dpa < persRooms s * roomBytes + volReported s then some (dpa - persRooms s * roomBytes)
  else none

/-- A committed HDM decoder stands before a DPA (R84, R87): the committed ones cover link DPAs from 0 on, one after the other (assumption
9). -/
def hdmBehind (s : State) (dpa : Nat) : Bool :=
  let n := (s.hst.hdm.toList.map fun d => if d.committed then d.size / d.ways else 0).foldl (· + ·) 0
  (dpaToLink s dpa).any fun l => l < n

/-- The host's decode of a part's DPA for Inject Poison and Clear Poison (Table 03-5, R87). -/
def decodedBeat (s : State) (dpa : Nat) : Bool :=
  dpa % beatBytes = 0 && hdmBehind s dpa && match decodeDpa s dpa with | .ok _ => true | .error _ => false

/-- A poison mark for a decoded beat (R101, R190): an Unwritten volatile tile is filled with zeros first (R191); the mark
follows the writes that are queued for the beat. -/
def injectPoison (dpa : Nat) (s : State) : State :=
  let t := dpa / tileBytes
  let s := if tileClass s t = .volatile && (tileAt s t).st = .clean then fillTile t s else s
  let mark : BeatWrite := { beat := dpa / beatBytes, data := [], enables := 0, poison := true }
  watchRecord dpa 1 0 (enqueueWrite mSteward mark none (listPoison dpa false 3 s))

/-- Poisoned beats of DRAM. -/
def poisonedBeats (s : State) : List Nat := s.dram.poison.map fun x => x.1

/-- Source that the rebuilt list gives a beat: that of the entry that listed it, else internal (R103). -/
def sourceOf (s : State) (beat : Nat) : Nat :=
  let a := beat * beatBytes
  match s.hst.poisonList.find? fun p => p.dpa ≤ a && a < p.dpa + (if p.tile then tileBytes else beatBytes) with
  | some p => p.source
  | none => 2

/-- The poison list as the marks in DRAM give it: one entry for a tile all of whose beats are poisoned, one for each other beat
(R102, R103). -/
def rebuiltList (s : State) : List PoisonEntry :=
  let l := poisonedBeats s
  let tiles := (l.map fun b => b / beatsPerTile).eraseDups
  tiles.flatMap fun t =>
    let b := l.filter fun x => x / beatsPerTile = t
    if b.length = beatsPerTile then [{ dpa := t * tileBytes, tile := true, source := sourceOf s (t * beatsPerTile) }]
    else b.map fun x => { dpa := x * beatBytes, tile := false, source := sourceOf s x }

/-- Rooms in which the scan found no poisoned beat lose their poison summary (05_rooms_suites_chart R180). -/
def clearSummaries (s : State) : State :=
  let found := s.hst.scanResults.map fun b => b * beatBytes / roomBytes
  let clear := fun (r : Nat) (e : ChartEntry) =>
    if found.contains r then e
    else { e with poisonAny := false, poisonTile := false, poisonUnlisted := false, poisonCnt := 0 }
  { s with cht := { s.cht with entries := tmap {} clear s.cht.entries } }

/-- The end of Scan Media (R103, R164, R180). -/
def scanEnds (s : State) : State :=
  let l := rebuiltList s
  let tooMany : Bool := 8192 < l.length
  let s := clearSummaries s
  endBackground 0x4304 { s with hst := { s.hst with
    scanning := false, poisonList := l.take 8192, poisonOverflow := tooMany,
    poisonOverflowAt := if tooMany then s.almanac else 0, poisonNext := none, scanNext := 0 } }

/-! ### Sanitize and Secure Erase (R107, R709, 05_rooms_suites_chart R205, 09_cellar R357) -/

/-- A mirrored Suite is active: its set decodes. -/
def mirroredActive (s : State) : Bool := s.sui.any fun c =>
  c.enabled && c.cfg.policy = .mirrored && (setAt s c.cfg.mirrorSet).st.decodes

/-- Key slots that an enabled Suite names. -/
def namedSlots (s : State) : List Nat :=
  ((s.sui.filter fun c => c.enabled && c.cfg.keySlot ≠ 0).map fun c => c.cfg.keySlot).eraseDups

/-- A new key in every slot in use; every other slot is cleared (09_cellar R357). -/
def replaceKeys (s : State) : State :=
  let put := fun (c : Cel) (k : Nat) => { c with keys := tset 0 c.keys k c.nextKey, nextKey := c.nextKey + 1 }
  replaceItem 7 .keyStore { s with cel := (namedSlots s).foldl put { s.cel with keys := [] } }

/-- Every Room map is invalid: the journal and the checkpoint hold none, and no copy is on its way (R107). -/
def dropMaps (s : State) : State :=
  let s := s.cel.ckpts.foldl (fun s c => dropItem (.ckpt c.seq) s) s
  { s with cel := { s.cel with journal := [], ckpts := [], sinceCkpt := 0, copies := [], recs := [], lostRooms := [],
                               watches := [] } }

/-- A block after its erase. -/
def NandBlock.erased (b : NandBlock) : NandBlock := { b with inUse := false, reErase := false, progAt := 0 }

/-- Every block of the Cellar, the Vestibule and Meta is erased (R107). -/
def eraseNand (s : State) : State :=
  let s := stopPrecaution s
  let c := s.cel
  let bl : Table NandBlock := (c.blocks.map fun x => (x.1, x.2.erased)).filter fun x => x.2 ≠ {}
  { s with
    cel := { c with slots := [], blocks := bl, allErases := c.allErases + 1, areaA := none, areaB := none, opens := [],
                    released := [], roles := [], retireAfterSave := [], metaBlks := [], metaExts := [], badSlots := [],
                    dies := c.dies.map fun d => { d with frontier := none, gcFrontier := none, erasing := none } },
    sav := { s.sav with port := {}, stbd := {}, warmHalves := [], roster := [], rosterHalf := 0xFF },
    dev := { s.dev with harbourList := [] } }

/-- DRAM holds zeros without poison (R107). -/
def zeroDram (s : State) : State := { s with dram := {} }

/-- The Fold, the candidate queues and the stows that waited have nothing left to do. -/
def endStows (s : State) : State :=
  let s := (s.cel.copies.map fun c => c.tile).foldl (fun s t => endWait t s) s
  let v := s.sav
  { s with sav := { v with foldLeft := [], foldInFlight := [], foldImpaired := [], foldHalves := [],
                           foldPhase := if v.foldPhase = 0 then 0 else 3 },
           stw := { s.stw with urgent := [], normal := [] } }

/-- A restore that still ran in TENANCY has nothing left to restore: its Rooms end. -/
def endRestore (s : State) : State :=
  if s.dev.state = .tenancy then
    let s := s.sav.restore.order.foldl (fun s r => endRoom r s) s
    restoreComplete (releaseReads (fun _ => false) s)
  else s

/-- What Sanitize (0x4400) or Secure Erase (0x4401) leaves on completion (R107, R205, R357). -/
def eraseAll (op : Nat) (s : State) : State :=
  let before := s
  let s := dropMaps (endStows (zeroDram s))
  let s := if op = 0x4400 then eraseNand s else s
  let s := resetChart (replaceKeys s)
  let s := { s with hst := { s.hst with poisonList := [], poisonOverflow := false, poisonOverflowAt := 0, poisonNext := none,
                                        scanResults := [], sanitizing := none },
                    fpl := { s.fpl with sanitized := true }, cal := { s.cal with sanitizeMark := none } }
  endRestore (reeval (reevalStalled (noteReadyAny before s)))

/-- Start Sanitize or Secure Erase: the pending mark goes first (R709). -/
def beginErasure (op : Nat) (s : State) : State :=
  { s with cal := { s.cal with sanitizeMark := some op }, hst := { s.hst with sanitizing := some op } }

/-! ### Mirror commands (12_partner_mirroring R458, R471) -/

/-- A handover, a drill or a promotion of the set is in progress (R471). -/
def setBusy (m : MirrorSet) : Bool :=
  m.handAt.isSome || m.handIn.isSome || m.st = .handing || m.promoting || m.drill.isSome || m.drillJudge ||
    m.roleRun.any fun r => r.next = .promotion || r.next = .handIn

/-- A mirror command for a set: Invalid Input at or above SETS, Busy while something of the set is in progress (R471). -/
def forSet (k : Nat) (s : State) (f : MirrorSet → MbxAns) : MbxAns :=
  if s.plan.partner.sets ≤ k then mbxRc rcInvalid s
  else if setBusy (setAt s k) then mbxRc rcBusy s
  else f (setAt s k)

/-- A set of Get Mirror Status (Table 12-13). -/
def mirrorRecord (s : State) (k : Nat) : List Byte :=
  let m := setAt s k
  let fl := pkNat [bit 0 (homeBit s k), bit 1 m.st.single, bit 2 m.parted, bit 3 m.abandonSeen, bit 4 m.handAt.isSome,
                   bit 5 m.driftValid]
  [BitVec.ofNat 8 m.st.code, BitVec.ofNat 8 fl, 0, 0] ++ leBytes 8 m.epoch ++ leBytes 4 (m.resync.length + m.digestSent.length + m.diffs.length) ++
    leBytes 8 ((m.watch.map fun w => w.no).getD 0) ++ leBytes 8 ((m.watch.map fun w => w.almanac).getD 0)

/-- Get Mirror Status (Table 12-13). -/
def mirrorStatus (s : State) : List Byte :=
  [BitVec.ofNat 8 s.plk.rev, BitVec.ofNat 8 s.plk.partner, BitVec.ofNat 8 s.plk.lanternIn.code,
   BitVec.ofNat 8 s.plan.partner.sets, 0, 0, 0, 0] ++ (List.range s.plan.partner.sets).flatMap (mirrorRecord s)

/-- Get Drill Result (Table 12-14). -/
def drillBytes (m : MirrorSet) : List Byte :=
  let r := m.drillResult
  [BitVec.ofNat 8 r.outcome, BitVec.ofNat 8 ((m.drill.map fun d => d.phase).getD r.phase), 0, 0] ++ capBytes 4 r.lanternUs ++
    capBytes 4 r.takeUs ++ capBytes 4 r.returnUs ++ leBytes 8 r.endAt

/-! ### Reports -/

/-- Get Reckoning (11_gauge_reckoning Table 11-7), of the last completed run. -/
def reckoningBytes (s : State) : List Byte :=
  let o := s.rek.out
  let fl := pkNat [bit 0 o.fullOk, bit 1 o.fallback, bit 2 o.disagree, bit 3 o.stale, bit 4 o.unlearned, bit 5 o.eol]
  [BitVec.ofNat 8 o.source, BitVec.ofNat 8 o.limit, BitVec.ofNat 8 fl, 0] ++ leBytes 4 o.ceiling ++ capBytes 4 (o.eUse / 1000) ++
    capBytes 4 (o.eBudget / 1000) ++ capBytes 4 o.perGibMj ++ capBytes 4 o.fUsedJ ++ capBytes 4 (ceilDiv o.need 1000) ++
    capBytes 4 (ceilDiv o.fullNeed 1000) ++ capBytes 2 o.planRate ++ leBytes 2 (signedBits 16 o.tNow) ++
    leBytes 2 (signedBits 16 o.tFcast) ++ capBytes 2 o.socV ++ capBytes 2 o.socC ++ capBytes 2 o.u ++ capBytes 4 o.cap ++
    capBytes 4 o.res25 ++ [BitVec.ofNat 8 o.life, 0, 0, 0] ++ leBytes 8 s.rek.lastAt

/-- MODE of Table 03-11 for a KIND of Table 07-5: a fallback save is a Stowed save. -/
def saveModeOf (kind : Nat) : Nat := if kind = 0 then 0 else if kind = 2 then 1 else 2

/-- Get Last Save Report (Table 03-11). -/
def lastSaveBytes (s : State) : List Byte :=
  let v := s.sav
  [BitVec.ofNat 8 (saveModeOf v.kind), BitVec.ofNat 8 v.outcome, BitVec.ofNat 8 v.cause, BitVec.ofNat 8 v.lastHalf] ++
    capBytes 4 v.listed ++ capBytes 4 v.written ++ capBytes 4 v.durationMs ++ capBytes 4 v.energyJ ++ leBytes 4 0 ++
    leBytes 8 v.fenceTime

/-- Get Restored Poison Tiles (08_startup_restore R316): at most 2,047 entries of the roster from START on. -/
def rosterBytes (s : State) (start : Nat) : List Byte :=
  let l := s.sav.roster.drop start
  let out := l.take 2047
  leBytes 4 out.length ++ leBytes 4 (l.length - out.length) ++ out.flatMap fun t => leBytes 8 (t * tileBytes)

end Sys2Proof.Machine
end

