-- ==== Sys2Proof/Machine/Mailbox.lean ====
section
/-! DEFINITION. The mailbox commands (03_host_link R104 to R114, Tables 03-5 and 03-6; 12_partner_mirroring Table 12-12): what
each does and answers. -/

namespace Sys2Proof.Machine

/-! ### Generic commands -/

/-- IDENTIFY (0x0001). -/
def execIdentify (s : State) : Res := .next (mailbox 0x0001 (fun s => mbxOut (identifyBytes s) s) s)

/-- Percent of a background operation that is done: of Scan Media by its beats, of Sanitize open (assumption 52). -/
def bgPercent (op : BgOp) (s : State) : Nat × State :=
  if op.opcode = 0x4304 then (if dramBeats s = 0 then 0 else s.drc.scanBeat * 100 / dramBeats s, s)
  else let (n, s) := takeFree s; (n % 100, s)

/-- BACKGROUND_OPERATION_STATUS (0x0002): running or not with the percentage, the opcode, the return code (R104, R709). -/
def execBackgroundOperationStatus (s : State) : Res :=
  .next (mailbox 0x0002 (fun s =>
    match s.hst.bg with
    | some b =>
      let (p, s) := bgPercent b s
      mbxOut ([BitVec.ofNat 8 (1 + 2 * p), 0] ++ leBytes 2 b.opcode ++ leBytes 2 0 ++ leBytes 2 0) s
    | none =>
      let p := if s.hst.lastBgOpcode = 0 then 0 else 100
      mbxOut ([BitVec.ofNat 8 (2 * p), 0] ++ leBytes 2 s.hst.lastBgOpcode ++ leBytes 2 s.hst.lastBgRc ++ leBytes 2 0) s) s)

/-! ### Event records (R111 to R114) -/

/-- GET_EVENT_RECORDS (0x0100): log 0 Informational, 1 Warning, 2 Failure, 3 Fatal. -/
def execGetEventRecords (log : Nat) (s : State) : Res :=
  .next (mailbox 0x0100 (fun s => if log < 4 then mbxOut (eventRecords s log) s else mbxRc rcInvalid s) s)

/-- CLEAR_EVENT_RECORDS (0x0101): all records with the overflow flag, or the records of the handles given; an unknown handle
clears nothing. -/
def execClearEventRecords (log : Nat) (all : Bool) (handles : List Nat) (s : State) : Res :=
  .next (mailbox 0x0101 (fun s =>
    let l := eventLog s log
    let clear := fun (l : EventLog) (keep : List (Nat × EventRecord)) =>
      { l with records := keep, overflow := false, dropped := 0, firstDrop := 0, lastDrop := 0 }
    if 4 ≤ log ∨ (all = false ∧ handles = []) then mbxRc rcInvalid s
    else if all then mbxRc rcSuccess (modLog log (fun l => clear l []) s)
    else if handles.all fun h => l.records.any fun r => r.1 = h then
      mbxRc rcSuccess (modLog log (fun l => clear l (l.records.filter fun r => !handles.contains r.1)) s)
    else mbxRc rcHandle s) s)

/-- GET_EVENT_INTERRUPT_POLICY (0x0102, R114). -/
def execGetEventInterruptPolicy (s : State) : Res :=
  .next (mailbox 0x0102 (fun s => mbxOut (s.hst.logs.toList.map policyByte) s) s)

/-- SET_EVENT_INTERRUPT_POLICY (0x0103, R114): a setting for each log. -/
def execSetEventInterruptPolicy (settings : List Nat) (s : State) : Res :=
  .next (mailbox 0x0103 (fun s =>
    if settings.length = 4 ∧ settings.all policyOk = true then
      mbxRc rcSuccess (settings.zipIdx.foldl (fun s x => setPolicy x.2 x.1 s) s)
    else mbxRc rcInvalid s) s)

/-! ### Firmware, time, logs -/

/-- GET_FW_INFO (0x0200). -/
def execGetFwInfo (s : State) : Res := .next (mailbox 0x0200 (fun s => mbxOut (fwInfoBytes s) s) s)

/-- TRANSFER_FW (0x0201, R80): Unsupported. -/
def execTransferFw (s : State) : Res := .next (mailbox 0x0201 (fun s => mbxRc rcUnsupported s) s)

/-- ACTIVATE_FW (0x0202, R80): Unsupported. -/
def execActivateFw (s : State) : Res := .next (mailbox 0x0202 (fun s => mbxRc rcUnsupported s) s)

/-- GET_TIMESTAMP (0x0300; 19_almanac_log_identity R652). -/
def execGetTimestamp (s : State) : Res := .next (mailbox 0x0300 (fun s => mbxOut (leBytes 8 (calendar s s.almanac)) s) s)

/-- The Exercise after a step of the calendar (19_almanac_log_identity R654): a forward step fires the last due date that it
passes; with the first calendar the dates before it count as fired. -/
def calendarStep (valid : Bool) (step : Int) (s : State) : State :=
  if !valid then exerFromNow s
  else if 0 < step then
    match (exerClock s s.almanac).bind (lastDue s) with
    | some d => if s.nrg.exerFired < d then fireExercise d s else s
    | none => s
  else s

/-- Set the calendar (19_almanac_log_identity R652 to R654): OFFSET, CAL_VALID, the CAL_STEP record of a step above 1 s. -/
def setCalendar (ns : Nat) (s : State) : State :=
  let new : Int := (ns : Int) - s.almanac * 1000
  let step := new - s.log.offset
  let valid := s.log.calValid
  let first := !s.log.timeSetSinceCold
  let s := { s with log := { s.log with offset := new, calValid := true, timeSetSinceCold := true },
                    cal := { s.cal with offset := new } }
  let s := if 1000000000 < step.natAbs then
      logRecord 0x0103 (blockNum .log) (signedBits 64 step) (b2n first) (signedBits 64 new) 0xFFFF mNone s
    else s
  calendarStep valid step s

/-- SET_TIMESTAMP (0x0301). -/
def execSetTimestamp (ns : Nat) (s : State) : Res :=
  .next (mailbox 0x0301 (fun s => mbxRc rcSuccess (setCalendar (ns % 2 ^ 64) s)) s)

/-- GET_SUPPORTED_LOGS (0x0400): the Command Effects Log only. -/
def execGetSupportedLogs (s : State) : Res :=
  .next (mailbox 0x0400 (fun s =>
    mbxOut (leBytes 2 1 ++ List.replicate 6 0 ++ celUuid ++ leBytes 4 commandEffects.length) s) s)

/-- GET_LOG (0x0401): bytes of the Command Effects Log. -/
def execGetLog (ofs len : Nat) (s : State) : Res :=
  .next (mailbox 0x0401 (fun s =>
    if commandEffects.length < ofs + len then mbxRc rcInvalid s
    else mbxOut ((commandEffects.drop ofs).take len) s) s)

/-! ### The memory device -/

/-- IDENTIFY_MEMORY_DEVICE (0x4000). -/
def execIdentifyMemoryDevice (s : State) : Res := .next (mailbox 0x4000 (fun s => mbxOut (memoryDeviceBytes s) s) s)

/-- GET_PARTITION_INFO (0x4100): V_R and P_R; no other partition is ever next (R86). -/
def execGetPartitionInfo (s : State) : Res :=
  .next (mailbox 0x4100 (fun s =>
    mbxOut (leBytes 8 (units256 (volReported s)) ++ leBytes 8 (units256 (persReported s)) ++ leBytes 8 0 ++ leBytes 8 0) s) s)

/-- SET_PARTITION_INFO (0x4101): Unsupported. -/
def execSetPartitionInfo (s : State) : Res := .next (mailbox 0x4101 (fun s => mbxRc rcUnsupported s) s)

/-- A range of the Label Storage Area that its commands take: multiples of 8 bytes within 64 KiB (Table 03-5), no longer than the payload of
the mailbox, 16 KiB (R104). -/
def lsaRange (ofs len : Nat) : Bool := ofs % 8 = 0 && len % 8 = 0 && ofs + len ≤ 65536 && len ≤ 16384

/-- GET_LSA (0x4102): `ok` false where a word of the range does not decode (15_onchip_integrity R547). -/
def execGetLsa (ofs len : Nat) (ok : Bool) (s : State) : Res :=
  .next (mailbox 0x4102 (fun s =>
    if !lsaRange ofs len then mbxRc rcInvalid s
    else if !ok then
      mbxRc rcInternal (raiseAddr attReadUe (105 * 0x10000 + ofs) mSteward 1
        { s with att := { s.att with ue := satInc 0xFFFF s.att.ue } })
    else mbxOut ((List.range len).map fun i => tget 0xFF s.cal.lsa (ofs + i)) s) s)

/-- SET_LSA (0x4103, R105). -/
def execSetLsa (ofs : Nat) (data : List Byte) (s : State) : Res :=
  .next (mailbox 0x4103 (fun s =>
    if lsaRange ofs data.length then
      mbxRc rcSuccess { s with cal := { s.cal with lsa := data.zipIdx.foldl (fun t x => tset 0xFF t (ofs + x.2) x.1) s.cal.lsa } }
    else mbxRc rcInvalid s) s)

/-- GET_HEALTH_INFO (0x4200, R105). -/
def execGetHealthInfo (s : State) : Res := .next (mailbox 0x4200 (fun s => mbxOut (healthBytes s) s) s)

/-- GET_ALERT_CONFIGURATION (0x4201): five programmable alerts. -/
def execGetAlertConfiguration (s : State) : Res :=
  .next (mailbox 0x4201 (fun s =>
    let a := s.hst.alerts
    mbxOut ([0x1F, BitVec.ofNat 8 a.enables, BitVec.ofNat 8 (Config.alertCritical 0), BitVec.ofNat 8 a.lifeUsedPct] ++
      leBytes 2 (Config.alertCritical 1) ++ leBytes 2 (Config.alertCritical 2) ++ leBytes 2 (signedBits 16 a.overTempC) ++
      leBytes 2 (signedBits 16 a.underTempC) ++ leBytes 2 a.corrVolatile ++ leBytes 2 a.corrPersistent) s) s)

/-- A 16-bit field as a signed number. -/
def signed16 (n : Nat) : Int := (BitVec.ofNat 16 n).toInt

/-- SET_ALERT_CONFIGURATION (0x4202): the alerts concerned, their enables, life used, over- and under-temperature, corrected
volatile and persistent counts. -/
def execSetAlertConfiguration (cfg : List Nat) (s : State) : Res :=
  .next (mailbox 0x4202 (fun s =>
    match cfg with
    | [act, en, life, overT, under, vol, pers] =>
      if 32 ≤ act ∨ 32 ≤ en then mbxRc rcInvalid s
      else
        let a := s.hst.alerts
        let on := fun (k : Nat) => act / 2 ^ k % 2 = 1
        let b : AlertConfig :=
          { enables := (en &&& act) + (a.enables &&& (31 - act)),
            lifeUsedPct := if on 0 then life % 256 else a.lifeUsedPct,
            overTempC := if on 1 then signed16 overT else a.overTempC,
            underTempC := if on 2 then signed16 under else a.underTempC,
            corrVolatile := if on 3 then vol % 65536 else a.corrVolatile,
            corrPersistent := if on 4 then pers % 65536 else a.corrPersistent }
        mbxRc rcSuccess { s with hst := { s.hst with alerts := b } }
    | _ => mbxRc rcInvalid s) s)

/-- GET_SHUTDOWN_STATE (0x4203, R100). -/
def execGetShutdownState (s : State) : Res :=
  .next (mailbox 0x4203 (fun s => mbxOut [if s.hst.shutdownDirty then 1 else 0] s) s)

/-- SET_SHUTDOWN_STATE (0x4204, R100). -/
def execSetShutdownState (dirty : Bool) (s : State) : Res :=
  .next (mailbox 0x4204 (fun s =>
    mbxRc rcSuccess { s with hst := { s.hst with shutdownDirty := dirty, hostShutdown := some dirty } }) s)

/-! ### Poison and Scan Media -/

/-- GET_POISON_LIST (0x4300, R103): a range of DPA in 64 B units. -/
def execGetPoisonList (dpa len : Nat) (s : State) : Res :=
  .next (mailbox 0x4300 (fun s => if dpa % beatBytes = 0 then getPoison dpa len s else mbxRc rcInvalid s) s)

/-- INJECT_POISON (0x4301, R101, R190). -/
def execInjectPoison (dpa : Nat) (s : State) : Res :=
  .next (mailbox 0x4301 (fun s => if decodedBeat s dpa then mbxRc rcSuccess (injectPoison dpa s) else mbxRc rcInvalid s) s)

/-- The write of a Clear Poison goes as far as it can at once: its claim, then its acceptance (05_rooms_suites_chart R190). -/
def goOn (tag : Nat) (s : State) : State :=
  match findWrite s tag with
  | none => s
  | some w =>
    let s := match claimDue s w with | some c => presentClaim tag (writeTile w.w) c s | none => s
    match findWrite s tag with
    | none => s
    | some w => if acceptable s w then acceptWrite w s else s

/-- CLEAR_POISON (0x4302): a host write of one full beat, whose completion is the response; a clear record goes to the
standby's poison list. -/
def execClearPoison (dpa : Nat) (data : List Byte) (s : State) : Res :=
  .next (mailbox 0x4302 (fun s =>
    if decodedBeat s dpa then
      let tag := clearTags + s.hst.accepts
      match discardReason s (some dpa) with
      | some k => (none, discard tag k s)
      | none => (none, goOn tag (takeWrite tag (dpa / beatBytes) data allEnables false false (watchRecord dpa 2 0 s)))
    else mbxRc rcInvalid s) s)

/-- GET_SCAN_MEDIA_CAPABILITIES (0x4303): the time of a full scan, ms, at 2 GB/s (04_dram R164). -/
def execGetScanMediaCapabilities (s : State) : Res :=
  .next (mailbox 0x4303 (fun s => mbxOut (capBytes 4 (ceilDiv (capacity s.plan.topo) 2000000)) s) s)

/-- SCAN_MEDIA (0x4304; 04_dram R164). -/
def execScanMedia (s : State) : Res :=
  .next (mailbox 0x4304 (startBackground 0x4304 fun s =>
    { s with hst := { s.hst with scanning := true, scanResults := [], scanNext := 0 }, drc := { s.drc with scanBeat := 0 } }) s)

/-- SCAN_MEDIA_COMPLETE (R103, R164; 05_rooms_suites_chart R180): the whole DPA space has been read. -/
def execScanMediaComplete (s : State) : Res :=
  .next (if s.hst.scanning && evaluates s.dev.state && dramBeats s ≤ s.drc.scanBeat && patrolQuiet s then scanEnds s else s)

/-- GET_SCAN_MEDIA_RESULTS (0x4305): the beats that the last scan found poisoned, at most 1,022 a call. -/
def execGetScanMediaResults (s : State) : Res :=
  .next (mailbox 0x4305 (fun s =>
    let l := s.hst.scanResults.drop s.hst.scanNext
    let out := l.take recordsPerCall
    let more : Bool := recordsPerCall < l.length
    let rec_ := fun (b : Nat) => poisonRecord { dpa := b * beatBytes, tile := false, source := sourceOf s b }
    mbxOut (List.replicate 16 0 ++ [if more then 1 else 0, 0] ++ leBytes 2 out.length ++ List.replicate 12 0 ++ out.flatMap rec_)
      { s with hst := { s.hst with scanNext := if more then s.hst.scanNext + recordsPerCall else 0 } }) s)

/-! ### Sanitize and Secure Erase (R107, R709) -/

/-- SANITIZE (0x4400): Busy while a mirrored Suite is active. -/
def execSanitize (s : State) : Res :=
  .next (mailbox 0x4400 (fun s =>
    if mirroredActive s then mbxRc rcBusy s else startBackground 0x4400 (beginErasure 0x4400) s) s)

/-- SECURE_ERASE (0x4401): its response comes with its completion. -/
def execSecureErase (s : State) : Res :=
  .next (mailbox 0x4401 (fun s =>
    if mirroredActive s || s.hst.sanitizing.isSome then mbxRc rcBusy s else (none, beginErasure 0x4401 s)) s)

/-- No request waits at any subchannel that is trained, nor in the real-time buffer. -/
def drcQuiet (s : State) : Bool :=
  (List.range 16).all fun sc => !(subchAt s sc).trained || ((subchAt s sc).queue.isEmpty && (rtMine s sc).isEmpty)

/-- SANITIZE_COMPLETE (R107, R205, R709), once the requests issued before it have executed: in BOOT a pending Sanitize is reported by Background Operation Status, and a Secure
Erase by FPL_STATUS.SANITIZED alone. -/
def execSanitizeComplete (s : State) : Res :=
  match s.hst.sanitizing with
  | none => .next s
  | some op =>
    if !drcQuiet s then .next s else
    let s := eraseAll op s
    if s.dev.state = .boot then
      .next (if op = 0x4400 then { s with hst := { s.hst with lastBgOpcode := op, lastBgRc := rcSuccess } } else s)
    else .next (if op = 0x4400 then endBackground op s else emit (.mailbox op rcSuccess []) s)

/-- PENDING_SANITIZE_REPLAY (R709): with the plan loaded and DRAM trained, before the decision, the command that the mark names
starts again. -/
def execPendingSanitizeReplay (s : State) : Res :=
  match s.cal.sanitizeMark with
  | none => .next s
  | some op =>
    .next (if s.dev.state = .boot && s.cht.built && trainingDone s && s.sav.decision = .notTaken then
        { s with hst := { s.hst with sanitizing := some op } }
      else s)

/-- MAILBOX_UNSUPPORTED (R106, R108; 12_partner_mirroring R471): an opcode that no table lists. -/
def execMailboxUnsupported (opcode : Nat) (s : State) : Res :=
  .next (if namedOpcodes.contains opcode then s else mailbox opcode (fun s => mbxRc rcUnsupported s) s)

/-! ### Vendor commands (Table 03-6) -/

/-- GET_VENDOR_IDENTITY (0xC000, R109). -/
def execGetVendorIdentity (s : State) : Res := .next (mailbox 0xC000 (fun s => mbxOut (vendorIdentity s) s) s)

/-- GET_PERSISTENCE_STATUS (0xC001, Table 03-8). -/
def execGetPersistenceStatus (s : State) : Res := .next (mailbox 0xC001 (fun s => mbxOut (persistenceStatus s) s) s)

/-- GET_SUITE_STATUS (0xC002, Table 03-9). -/
def execGetSuiteStatus (first count : Nat) (s : State) : Res :=
  .next (mailbox 0xC002 (fun s =>
    if 1023 < first ∨ count = 0 ∨ 512 < count then mbxRc rcInvalid s
    else
      let n := min count (1024 - first)
      mbxOut (leBytes 2 n ++ List.replicate 6 0 ++ (List.range n).flatMap fun i => suiteRecord s (first + i)) s) s)

/-- HARBOUR_ACKNOWLEDGE (0xC003; 16_fault_stations R575). -/
def execHarbourAcknowledge (s : State) : Res := .next (mailbox 0xC003 (fun s => mbxRc rcSuccess (acknowledge s)) s)

/-- A grant lapses: none is in force, class GRANT_LAPSE, a Reckoning (R110; 11_gauge_reckoning R422). -/
def lapse (s : State) : State := wantRek (raise rekGrantLapse { s with rek := { s.rek with grant := none } })

/-- SET_ENERGY_GRANT (0xC010, R110). -/
def execSetEnergyGrant (joules validS seq : Nat) (s : State) : Res :=
  .next (mailbox 0xC010 (fun s =>
    let old : Bool := match s.rek.lastSeq with | some n => decide (seq ≤ n) | none => false
    if !s.plan.domain.grantMode || old then mbxRc rcInvalid s
    else
      let g : Grant := { joules := joules, validS := validS, seq := seq, at_ := s.almanac }
      let s := { s with rek := { s.rek with grant := some g, lastSeq := some seq } }
      mbxRc rcSuccess (if validS = 0 then lapse s else wantRek s)) s)

/-- GRANT_LAPSE (R110; 11_gauge_reckoning R422): VALID_S has elapsed. -/
def execGrantLapse (s : State) : Res :=
  match s.rek.grant with
  | none => .next s
  | some g => .next (lapse (advanceTo (g.at_ + g.validS * 1000000) s))

/-- GET_RECKONING (0xC011; 11_gauge_reckoning R426). -/
def execGetReckoning (s : State) : Res := .next (mailbox 0xC011 (fun s => mbxOut (reckoningBytes s) s) s)

/-- GET_LAST_SAVE_REPORT (0xC020, Table 03-11). -/
def execGetLastSaveReport (s : State) : Res := .next (mailbox 0xC020 (fun s => mbxOut (lastSaveBytes s) s) s)

/-- GET_RESTORED_POISON_TILES (0xC021; 08_startup_restore R316). -/
def execGetRestoredPoisonTiles (start : Nat) (s : State) : Res :=
  .next (mailbox 0xC021 (fun s => mbxOut (rosterBytes s start) s) s)

/-- GET_LIFETIME_COUNTERS (0xC030; 19_almanac_log_identity R660). -/
def execGetLifetimeCounters (s : State) : Res := .next (mailbox 0xC030 (fun s => mbxOut (lifeBytes s) s) s)

/-! ### Mirror commands (12_partner_mirroring Table 12-12) -/

/-- GET_MIRROR_STATUS (0xC050, Table 12-13). -/
def execGetMirrorStatus (s : State) : Res := .next (mailbox 0xC050 (fun s => mbxOut (mirrorStatus s) s) s)

/-- PROMOTE (0xC051, Table 12-9, R471); HANDING answers Invalid Input as the table has it. -/
def execPromote (set : Nat) (force : Bool) (s : State) : Res :=
  .next (mailbox 0xC051 (fun s =>
    if set < s.plan.partner.sets ∧ (setAt s set).st = .handing then mbxRc rcInvalid s
    else forSet set s fun m =>
      match m.st with
      | .standby => mbxRc rcSuccess (emit (.link 0x0C [set, 4, 0]) (schedule set (boundaryAfter (s.almanac + 1)) s))
      | .standbyFrozen => if m.parted || force then mbxRc rcSuccess (promote set s) else mbxRc rcInvalid s
      | .standbySync | .pairing => if force then mbxRc rcSuccess (promote set s) else mbxRc rcInvalid s
      | .active | .activeSync | .activeSingle | .handing => mbxRc rcInvalid s) s)

/-- HANDOVER (0xC052, R465): on the active, at the first Watch boundary after its notice. -/
def execHandover (set noticeMs : Nat) (s : State) : Res :=
  .next (mailbox 0xC052 (fun s => forSet set s fun m =>
    if m.st = .active ∧ noticeMs ≤ 10000 then
      mbxRc rcSuccess (schedule set (boundaryAfter (s.almanac + noticeMs * 1000 + 1)) s)
    else mbxRc rcInvalid s) s)

/-- DRILL (0xC053, R469): phase 1 begins. -/
def execDrill (set dwellS : Nat) (s : State) : Res :=
  .next (mailbox 0xC053 (fun s => forSet set s fun m =>
    if m.st = .active ∧ 1 ≤ dwellS ∧ dwellS ≤ 3600 then
      mbxRc rcSuccess (emit (.link 0x0C [set, 1, 0]) (modSet set (fun m => { m with
        drill := some { phase := 1, phaseAt := s.almanac, dwellS := dwellS },
        drillResult := { outcome := 1, phase := 1 } }) s))
    else mbxRc rcInvalid s) s)

/-- GET_DRILL_RESULT (0xC054, Table 12-14): also while the drill runs. -/
def execGetDrillResult (set : Nat) (s : State) : Res :=
  .next (mailbox 0xC054 (fun s =>
    if set < s.plan.partner.sets then mbxOut (drillBytes (setAt s set)) s else mbxRc rcInvalid s) s)

end Sys2Proof.Machine
end

