-- ==== Sys2Proof/Machine/Power.lean ====
section
/-! DEFINITION. The commands of power and reset inputs, DRAM rails, die sensors and throttle stages (01_architecture Table 01-7;
07_fence_save R247 to R257; 20_power_clocks_thermal R672, R673, R680 to R686). -/

namespace Sys2Proof.Machine

/-! ### Supplies, Muster, host reset -/

/-- P12V_BELOW_THRESHOLD (R247, R250, R252, R710): the Fence closes with cause 0x07. In FENCED and SAVING the trigger is only
counted, the path moves to the pack, and the target rate falls to what the pack may give (R279); with no usable pack a save in SAVING then ends as exhausted (R281). That fall of the
rate, to the plan of the new path, is not counted in RATE_DOWN (DESIGN CHOICE: assumption 150). -/
def execP12vBelowThreshold (s : State) : Res :=
  if s.nrg.p12vValid then
    let s := { s with nrg := { s.nrg with p12vValid := false } }
    match s.dev.state with
    | .fenced | .saving =>
      let s := if s.nrg.path = .pack then s else markStep { s with nrg := { s.nrg with path := .pack } }
      let s := { s with sav := { s.sav with nowRate := min s.sav.nowRate (packTop s s.sav.kind) } }
      let s := fenceTrigger 0x07 { s with sav := { s.sav with absenceSinceFence := true } }
      .next (if packUsable s then s else exhausted s)
    | .saved => .next (fenceTrigger 0x07 { s with sav := { s.sav with absenceSinceFence := true } })
    | .off | .drydock => .next (fenceTrigger 0x07 { s with nrg := { s.nrg with path := .aux } })
    | _ => .next (fenceTrigger 0x07 s)
  else .next s

/-- Enter BOOT from OFF, which P12V valid and PERST_N deasserted together give (Table 01-7); a cold loss is made good first. -/
def bootFromOff (s : State) : State := if s.nrg.p12vValid && !s.nrg.perst then enterBoot (coldRestore s) else s

/-- Enter BOOT from SAVED by an event that ends an absence or an assertion begun since the Fence (Table 01-7, R710). -/
def bootFromSaved (ends : Bool) (s : State) : State :=
  if ends && s.sav.absenceSinceFence then enterBoot (coldRestore s) else s

/-- On P12V the Keeper runs at the mode's maximum (07_fence_save R280). -/
def mainsInSaving (s : State) : State :=
  if s.dev.state = .saving then { s with sav := { s.sav with nowRate := modeMax s.sav.kind } } else s

/-- P12V_VALID (R249, R710): 10 ms above the threshold plus 0.3 V; `aux` is whether P3V3_AUX is valid. In SAVED the return of
P12V after an absence is enough, whatever PERST_N is. -/
def execP12vValid (aux : Bool) (s : State) : Res :=
  let absent := !s.nrg.p12vValid
  let s := { s with nrg := { s.nrg with p12vValid := true, auxValid := aux } }
  match s.dev.state with
  | .off => .next (bootFromOff { s with nrg := { s.nrg with path := .mains } })
  | .saved => .next (bootFromSaved absent s)
  | .drydock => .next { s with nrg := { s.nrg with path := .mains } }
  | _ =>
    if s.nrg.path = .mains ∨ s.nrg.path = .exercise then .next s
    else .next (mainsInSaving (markStep { s with nrg := { s.nrg with path := .mains }, sav := { s.sav with packOnly := false } }))

/-- MUSTER_IN_LOW (R255, R256): the filtered level is low; `highAfter` tells after how many µs it is high again, none where it
stays low. -/
def execMusterInLow (highAfter : Option Nat) (s : State) : Res :=
  let v := match highAfter with
    | none => { s.sav with musterIn := false }
    | some d => { s.sav with musterIn := true, musterHighAt := s.almanac + d }
  let s := { s with sav := v }
  .next (if s.plan.pins.musterInEn then fenceTrigger 0x08 s else s)

/-- PERST_N_DEASSERT (R34, R710): in SAVED the end of an assertion boots where P12V is valid. -/
def execPerstNDeassert (s : State) : Res :=
  let asserted := s.nrg.perst
  let s := { s with nrg := { s.nrg with perst := false } }
  match s.dev.state with
  | .off => .next (bootFromOff s)
  | .saved => .next (bootFromSaved (asserted && s.nrg.p12vValid) s)
  | _ => .next s

/-- DRYDOCK_POWER_REMOVED (R39): to OFF with cause 0x07. -/
def execDrydockPowerRemoved (s : State) : Res :=
  match s.dev.state with
  | .drydock => .next (enterOff 0x07 { s with nrg := { s.nrg with p12vValid := false } })
  | _ => .next s

/-! ### DRAM rails (R671 to R673) -/

/-- RAILS_VALID (R672; 08_startup_restore R290): VPP_DRAM, then VDD_DRAM and VDDQ_DRAM, are within tolerance in BOOT, at step 4: once
step 3 has ended. At any other time it is their return within tolerance. -/
def execRailsValid (s : State) : Res :=
  match s.dev.state with
  | .boot =>
    if !s.cht.built then .next s
    else
      .next { s with pwr := { s.pwr with railsValid := true, vppOn := true, vddOn := true, uv := false },
                     drc := { s.drc with railsValid := true }, sav := { s.sav with railsHeld := true } }
  | _ => .next (if s.pwr.vppOn then { s with pwr := { s.pwr with railsValid := true, uv := false } } else s)

/-- RAIL_UV (R673): a rail, 0 VDD_DRAM, 1 VDDQ_DRAM, 2 VPP_DRAM, below 95 % for 10 µs; at its limit it folds back. -/
def execRailUv (rail : Nat) (foldback : Bool) (s : State) : Res :=
  if s.pwr.vppOn then .next (raiseAddr pwrRailUv (rail % 3) mNone 0 { s with pwr := { s.pwr with foldback := foldback, uv := true } })
  else .next s

/-- RAIL_LOST (R673): a rail below 90 % for 1 ms; the rails have not held (R285), and the class enters at Abandon. -/
def execRailLost (rail : Nat) (s : State) : Res :=
  if s.pwr.vppOn then
    .next (raiseAt pwrRailLost (rail % 3) mNone 0 4
      { s with pwr := { s.pwr with railsValid := false, uv := true }, sav := { s.sav with railsHeld := false } })
  else .next s

/-! ### Sensors and throttle stages (R680 to R686) -/

/-- Threshold of a stage, quarter °C (Table 20-6). -/
def stageThreshold (n : Nat) : Int := if n ≤ 1 then 380 else if n = 2 then 400 else 420

/-- The stage that a junction temperature reaches. -/
def stageReached (tj : Int) : Nat := if 420 ≤ tj then 3 else if 400 ≤ tj then 2 else if 380 ≤ tj then 1 else 0

/-- The highest reading and the index of the first sensor that gave it (R681). -/
def hottest (l : List Int) : Int × Nat :=
  let m := l.foldl max (l.headD 0)
  (m, l.findIdx fun x => x = m)

/-- The junction stays at least 3 °C below the threshold of the stage in force (R683). -/
def coolFor (stage : Nat) (tj : Int) : Bool := stage ≠ 0 && tj ≤ stageThreshold stage - 12

/-- Enter a higher stage (R682, Table 20-6): stage 1 sets alert bit 6 and ends a running Exercise, stage 3 raises THROTTLE3. -/
def enterStage (new : Nat) (s : State) : State :=
  let old := s.pwr.stage
  if old < new then
    let s := { s with pwr := { s.pwr with stage := new, entries := satAdd 0x7FFF s.pwr.entries (new - old) } }
    let s := addEvent 0 (.memoryModule 3 s.almanac) (if old = 0 then endExercise 6 (alertBit 6 s) else s)
    if new = 3 then raiseAddr pwrThrottle3 s.pwr.hottest mNone 0 s else s
  else s

/-- A rail is at its current limit, in units of 0.1 A: VDD_DRAM 40 A, VDDQ_DRAM 20 A, VPP_DRAM 3.4 A (Table 20-2). -/
def atLimit (vdd vddq vpp : Nat) : Bool := decide (400 ≤ vdd) || decide (200 ≤ vddq) || decide (34 ≤ vpp)

/-- DIE_TEMP_SAMPLE (R680 to R686): the die sensors in quarter °C, with what PWR reports beside them: the stacks' bytes, the
rails as VDD, VDDQ, VPP voltage and current, the dissipation in 0.1 W, the host reference. THERM_TRIP is raised as the junction
reaches 115 °C. -/
def execDieTempSample (die : List Int) (stackTemps : Word) (rails : List Nat) (powerDw : Nat) (refPresent : Bool) (s : State) : Res :=
  if poweredState s.dev.state && die.length = 16 then
    let s := advanceTo ((s.almanac / 100 + 1) * 100) s
    let was := s.pwr.tj
    let (tj, idx) := hottest die
    let r := fun (i : Nat) => (rails[i]?).getD 0
    let p := { s.pwr with tj := tj, hottest := idx, tjMax := max s.pwr.tjMax (tj / 4), stackTemps := fittedStacks s stackTemps,
                          vddMv := r 0, vddqMv := r 1, vpp10mv := r 2, vddDa := r 3, vddqDa := r 4, vppDa := r 5,
                          nowDw := powerDw, peakDw := max s.pwr.peakDw powerDw, refPresent := refPresent,
                          foldback := s.pwr.vppOn && atLimit (r 3) (r 4) (r 5) }
    let s := enterStage (stageReached tj) { s with pwr := p }
    let cool := if coolFor s.pwr.stage tj then some (s.pwr.coolSince.getD s.almanac) else none
    let s := { s with pwr := { s.pwr with coolSince := cool } }
    .next (if was < 460 ∧ 460 ≤ tj then raiseAt pwrThermTrip idx mNone 0 4 s else s)
  else .next s

/-- THROTTLE_EXIT (R683, R684): after 1 s the part moves down one stage; leaving stage 1 sets alert bit 6. -/
def execThrottleExit (s : State) : Res :=
  match s.pwr.coolSince with
  | none => .next s
  | some t =>
    if poweredState s.dev.state && s.pwr.stage ≠ 0 then
      let s := advanceTo (t + 1000000) s
      let n := s.pwr.stage - 1
      let cool := if coolFor n s.pwr.tj then some s.almanac else none
      let s := { s with pwr := { s.pwr with stage := n, coolSince := cool } }
      let s := addEvent 0 (.memoryModule 3 s.almanac) s
      .next (if n = 0 then alertBit 6 s else s)
    else .next s

end Sys2Proof.Machine
end

