-- ==== Sys2Proof/Machine/OpsRegWrite.lean ====
section
/-! DEFINITION. What a write of each Control Block register does (00_scope R15 to R17): fields by their access codes, the
Floor Plan lock, the ranges of each block's register chapter with class BAD_WRITE, and the registers that start something. -/

namespace Sys2Proof.Machine

/-- The Lock Wing is in force (R16, code RWL). -/
def locked (s : State) : Bool := s.plan.lock

/-- A field of a written word: lowest bit, width. -/
def fld (w : Word) (lo width : Nat) : Nat := w.toNat / 2 ^ lo % 2 ^ width

/-- The value an RWL field takes: the written one, or its present one under the lock (R16). -/
def rwl (s : State) (old new : Nat) : Nat := if locked s then old else new

/-- The same for a field of one bit. -/
def rwlBit (s : State) (old new : Bool) : Bool := if locked s then old else new

/-- A write that puts a field out of its range: ignored as a whole, class BAD_WRITE of the block, written by the host. -/
def badWrite (c : FClass) (s : State) : State := raiseAddr c 0 mHost 2 s

/-- Apply a write when its fields are in range (R170, R245, R360, R393, R427, R472, R529, R552, R646, R667, R687). -/
def ranged (ok : Bool) (c : FClass) (f : State → State) (s : State) : State := if ok then f s else badWrite c s

/-- A number lies in a range. -/
def within (lo x hi : Nat) : Bool := lo ≤ x && x ≤ hi

/-! ### Peaks and maxima (PEAK_CLEAR, R16 code W1S) -/

/-- Clear the peak or maximum field of the register at an offset. A peak of a present count restarts from that count, a
maximum of past events from 0 (assumption 48). -/
def clearPeak (ofs : Nat) (s : State) : State :=
  match ofs with
  | 0x10008 => { s with hst := { s.hst with stallPeak := stalledHost s } }
  | 0x60030 => { s with stw := { s.stw with stallMax := 0 } }
  | 0x70058 => { s with sav := { s.sav with latMax := 0 } }
  | 0xD0010 => { s with plk := { s.plk with ackMaxUs := 0 } }
  | 0x90004 => { s with dmw := { s.dmw with peak := entriesNow s } }
  | 0x140018 => { s with pwr := { s.pwr with tjMax := s.pwr.tj / 4 } }
  | _ => s

/-- A W1S clear bit in bit 31. -/
def clearBit31 (ofs : Nat) (w : Word) (s : State) : State := if w.getLsbD 31 then clearPeak ofs s else s

/-! ### The blocks -/

/-- HST registers. -/
def writeHst (o : Nat) (w : Word) (s : State) : State :=
  match o with
  | 0x00 => { s with hst := { s.hst with degraded := s.hst.degraded && !w.getLsbD 9,
                                         ideFail := s.hst.ideFail && !w.getLsbD 11 } }
  | 0x08 => clearBit31 0x10008 w s
  | _ => s

/-- DRC registers (04_dram R170). A LIMIT below a device's count is judged at that device's next correction, and the counts go on through a
change of PERIOD_H from or to 0 (R165, R166; DESIGN CHOICE: assumption 148). -/
def writeDrc (o : Nat) (w : Word) (s : State) : State :=
  let d := s.drc
  let set := fun (x : Drc) (s : State) => { s with drc := x }
  match o with
  | 0x08 =>
    let hi := fld w 0 8
    let lo := fld w 8 8
    ranged (within 1 hi 88 && lo < hi) drcBadWrite (set { d with wrHi := hi, wrLo := lo, rowHitCap := fld w 16 4 }) s
  | 0x0C =>
    let u := rwl s d.urgent (fld w 0 8)
    let p := rwl s d.panic (fld w 8 8)
    ranged (1 ≤ u && u < p && p ≤ 128) drcBadWrite (set { d with urgent := u, panic := p }) s
  | 0x14 =>
    let l := rwl s d.refLimit (fld w 0 3)
    let p := fld w 4 2
    let m := fld w 16 8
    let f := rwlBit s d.force2x (w.getLsbD 8)
    ranged (l ≤ 4 && p ≤ 2 && 1 ≤ m) drcBadWrite
      (fun s =>
        let s := set { d with refLimit := l, pullin := p, force2x := f, mr4Ms := m } s
        if f && !d.force2x then forceDouble s else s) s
  | 0x20 =>
    let n := rwl s d.nrfLog2n (fld w 0 5)
    ranged (n = 0 || within 6 n 16) drcBadWrite (set { d with nrfLog2n := n }) s
  | 0x24 =>
    let z := fld w 0 8
    let q := fld w 8 8
    let f := fld w 16 8
    ranged (1 ≤ z && 1 ≤ q && within 1 f 100) drcBadWrite (set { d with zqMs := z, dqsMs := q, deferMs := f }) s
  | 0x28 => set { d with srIdleUs := fld w 0 16 } s
  | 0x2C =>
    let p := rwl s d.patrolH (fld w 0 8)
    ranged (p ≤ 168) drcBadWrite
      (set { d with patrolH := p, patrolRepair := rwlBit s d.patrolRepair (w.getLsbD 8),
                    patrolLate := d.patrolLate && !w.getLsbD 10,
                    passStart := if p = 0 then none else d.passStart,
                    dayStart := if p = 0 && d.patrolH ≠ 0 then s.almanac else d.dayStart }) s
  | 0x44 => set { d with budget := rwl s d.budget (fld w 0 16) } s
  | _ => s

/-- STW registers (06_stowing_ceiling R245): a new Pressed mark is evaluated at once (R239). -/
def writeStw (o : Nat) (w : Word) (s : State) : State :=
  match o with
  | 0x00 =>
    let p := fld w 8 7
    let m := fld w 16 13
    ranged (within 50 p 100 && within 1 m 4096) stwBadWrite
      (fun s => reeval { s with stw := { s.stw with pressPct := p, maxStowing := m } }) s
  | 0x04 =>
    let t := fld w 0 16
    ranged (within 1 t 45000) stwBadWrite (fun s => { s with stw := { s.stw with maxTps := t } }) s
  | 0x30 => clearBit31 0x60030 w s
  | _ => s

/-- SAV registers: a MAX_TPS out of range is ignored without a class (08_startup_restore R321). -/
def writeSav (o : Nat) (w : Word) (s : State) : State :=
  match o with
  | 0x58 => clearBit31 0x70058 w s
  | 0x60 =>
    let t := fld w 0 16
    if within 1 t 45000 then { s with sav := { s.sav with foldMaxTps := t } } else s
  | _ => s

/-- A new Spare threshold: reason 1 clears when LEFT_MIN is at or above it, and a LEFT_MIN below it is judged by R351
(16_fault_stations Table 16-5). -/
def newThresh (t : Nat) (s : State) : State :=
  let s := { s with cel := { s.cel with spareThresh := t } }
  if planUp s then (if (spareMin s).1 < t then spareCheck s else clearReason 1 s) else s

/-- CEL registers (09_cellar R360). -/
def writeCel (o : Nat) (w : Word) (s : State) : State :=
  let c := s.cel
  match o with
  | 0x10 =>
    let p := fld w 0 12
    let g := fld w 16 4
    ranged (within 100 p 4000 && within 2 g 15) celBadWrite (fun s => { s with cel := { s.cel with padUs := p, gcLow := g } }) s
  | 0x14 =>
    let t := rwl s c.spareThresh (fld w 16 8)
    ranged (t ≤ 64) celBadWrite (newThresh t) s
  | 0x30 =>
    let p := rwl s c.patrolD (fld w 0 8)
    let a := rwl s c.ageD (fld w 8 8)
    ranged (p ≤ 90 && 30 ≤ a) celBadWrite
      (fun s => { s with cel := { s.cel with patrolD := p, ageD := a,
                                             patrolLate := s.cel.patrolLate && !w.getLsbD 16 } }) s
  | _ => s

/-- NRG registers (10_energy_pack R393). -/
def writeNrg (o : Nat) (w : Word) (s : State) : State :=
  let n := s.nrg
  match o with
  | 0x04 =>
    let c := rwl s n.fenceTh (fld w 0 5)
    ranged (c ≤ 24) nrgBadWrite (fun s => { s with nrg := { s.nrg with fenceTh := c } }) s
  | 0x08 =>
    let d := rwl s n.ilimDa (fld w 0 7)
    ranged (within 20 d 90) nrgBadWrite (fun s => { s with nrg := { s.nrg with ilimDa := d } }) s
  | 0x24 =>
    let d := rwl s n.depthPct (fld w 0 6)
    let m := rwl s n.maxMin (fld w 8 7)
    ranged (within 5 d 50 && within 10 m 120) nrgBadWrite
      (fun s =>
        let s := { s with nrg := { s.nrg with depthPct := d, maxMin := m } }
        let s := if w.getLsbD 16 then exerciseStart s else s
        if w.getLsbD 17 then exerciseAbort s else s) s
  | _ => s

/-- GAU registers (11_gauge_reckoning R427). -/
def writeGau (o : Nat) (w : Word) (s : State) : State :=
  if o = 0x28 then
    let s := { s with gau := { s.gau with pulseEn := rwlBit s s.gau.pulseEn (w.getLsbD 1) } }
    let s := if w.getLsbD 0 then forceRefCmd s else s
    if w.getLsbD 2 then pulseNow s else s
  else s

/-- REK registers (11_gauge_reckoning R427). -/
def writeRek (o : Nat) (w : Word) (s : State) : State :=
  let r := s.rek
  match o with
  | 0x04 => if w.getLsbD 0 then rekRunCmd s else s
  | 0x0C =>
    let f := rwl s r.fixedJ (fld w 16 10)
    ranged (within 60 f 1000) rekBadWrite (fun s => { s with rek := { s.rek with fixedJ := f } }) s
  | 0x38 =>
    let f := rwl s r.fadePct (fld w 0 7)
    let g := rwl s r.risePct (fld w 8 9)
    let c := rwl s r.ceilPct (fld w 17 7)
    ranged ((f = 0 || within 50 f 90) && (g = 0 || within 120 g 400) && c ≤ 100) rekBadWrite
      (fun s => { s with rek := { s.rek with fadePct := f, risePct := g, ceilPct := c } }) s
  | _ => s

/-- PLK registers (12_partner_mirroring R472). -/
def writePlk (o : Nat) (w : Word) (s : State) : State :=
  let p := s.plk
  match o with
  | 0x04 =>
    let c := rwl s p.capGbps (fld w 0 6)
    let r := fld w 8 6
    let a := rwl s p.pairWait (fld w 24 8)
    ranged (within 1 c 50 && within 1 r c && 1 ≤ a) plkBadWrite
      (fun s => { s with plk := { s.plk with capGbps := c, resyncGbps := r, homeNotice := fld w 16 8, pairWait := a } }) s
  | 0x10 => clearBit31 0xD0010 w s
  | _ => s

/-- A write of DMW_CH_CTL puts SIZE out of its range, or changes SIZE or PRIO outside OFF (R500). -/
def chanCtlBad (c : Channel) (w : Word) : Bool :=
  !within 4 (fld w 4 4) 8 || (c.st ≠ .off && (fld w 4 4 ≠ c.size || fld w 8 2 ≠ c.prio))

/-- A write of DMW_CH_CTL: the RW fields, then PAUSE, RESUME and RESET in that order. -/
def writeChanCtl (n : Nat) (w : Word) (s : State) : State :=
  if chanCtlBad (chanAt s n) w then dmwBad s
  else
    let s := dmwEnable n w s
    let s := if w.getLsbD 16 then dmwPause n s else s
    let s := if w.getLsbD 17 then dmwResume n s else s
    if w.getLsbD 18 then dmwResetCmd n s else s

/-- A write of DMW_CH_WIN (R500). -/
def writeChanWin (n : Nat) (w : Word) (s : State) : State :=
  let c := chanAt s n
  let lo := fld w 0 10
  let hi := fld w 16 10
  let ro := w.getLsbD 31
  if hi < lo ∨ (c.st ≠ .off ∧ (lo ≠ c.winLo ∨ hi ≠ c.winHi ∨ ro ≠ c.roWrite)) then dmwBad s
  else modChan n (fun c => { c with winLo := lo, winHi := hi, roWrite := ro }) s

/-- DMW registers (13_dumbwaiter R500). -/
def writeDmw (o : Nat) (w : Word) (s : State) : State :=
  if o = 4 then clearBit31 0x90004 w s
  else if 0x1000 ≤ o ∧ o < 0x1400 then
    let n := (o - 0x1000) / 0x40
    match o % 0x40 with
    | 0x00 => writeChanCtl n w s
    | 0x0C => dmwTailWrite n w s
    | 0x14 => writeChanWin n w s
    | _ => s
  else s

/-- ATT registers (14_attic R529). -/
def writeAtt (o : Nat) (w : Word) (s : State) : State :=
  if o = 0x0C then
    let m := rwl s s.att.starveMs (fld w 0 14)
    ranged (within 10 m 10000) attBadWrite (fun s => { s with att := { s.att with starveMs := m } }) s
  else s

/-- ECC registers (15_onchip_integrity R551, R552); ECC_TEST_DATA and ECC_TEST_CHK are pairs and are written below. -/
def writeEcc (o : Nat) (w : Word) (s : State) : State :=
  match o with
  | 0x04 =>
    let m := rwl s s.ecc.sramMin (fld w 0 6)
    let h := rwl s s.ecc.atticH (fld w 8 8)
    ranged (m ≤ 60 && h ≤ 168) eccBadWrite (fun s => { s with ecc := { s.ecc with sramMin := m, atticH := h } }) s
  | 0x80 =>
    if w.getLsbD 0 then eccTestWrite w s
    else if w.getLsbD 1 then eccTestRead w s
    else takeTestCtl w s
  | _ => s

/-- A write of ALERT_STATUS, W1C, from SB or through TWS_ALERT: it also clears ARA_HELD (17_two_wire_ports R590). -/
def clearAlert (b : Byte) (s : State) : State :=
  { s with tws := { s.tws with alert := s.tws.alert &&& ~~~b, araHeld := false } }

/-- TWS_ALERT (17_two_wire_ports R590): STATUS and MASK. -/
def writeAlert (w : Word) (s : State) : State :=
  let s := clearAlert (w.setWidth 8) s
  { s with tws := { s.tws with mask := (w >>> 8).setWidth 8 } }

/-- TWS registers. -/
def writeTws (o : Nat) (w : Word) (s : State) : State :=
  let t := s.tws
  match o with
  | 0x00 => { s with tws := { t with sleepMs := fld w 16 8 } }
  | 0x04 => { s with tws := { t with clkLowTo := t.clkLowTo && !w.getLsbD 8, dataLowTo := t.dataLowTo && !w.getLsbD 9,
                                     proto := t.proto && !w.getLsbD 10, pecErr := t.pecErr && !w.getLsbD 11,
                                     overlong := t.overlong && !w.getLsbD 12 } }
  | 0x0C => writeAlert w s
  | _ => s

/-- TWP registers. -/
def writeTwp (o : Nat) (w : Word) (s : State) : State :=
  let t := s.twp
  if o = 0 then
    { s with twp := { t with clkLowTo := t.clkLowTo && !w.getLsbD 8, arbLost := t.arbLost && !w.getLsbD 9,
                             arbCond := t.arbCond && !w.getLsbD 10, proto := t.proto && !w.getLsbD 11,
                             xferFail := t.xferFail && !w.getLsbD 12 } }
  else s

/-- SVC registers (18_service_update R646). -/
def writeSvc (o : Nat) (w : Word) (s : State) : State :=
  if o = 0x14 then
    let m := rwl s s.svc.probationMin (fld w 8 8)
    ranged (within 1 m 60) svcBadWrite
      (fun s => { s with svc := { s.svc with denyUpdate := w.getLsbD 0, probationMin := m,
                                             autoConfirmEn := rwlBit s s.svc.autoConfirmEn (w.getLsbD 1) } }) s
  else s

/-- LOG registers (19_almanac_log_identity R667). -/
def writeLog (o : Nat) (w : Word) (s : State) : State :=
  if o = 0x28 then
    let d := fld w 0 5
    ranged (d < dieCount s) logBadWrite (fun s => { s with log := { s.log with selDie := d, selWord := fld w 5 2 } }) s
  else s

/-- PWR registers (20_power_clocks_thermal R687). -/
def writePwr (o : Nat) (w : Word) (s : State) : State :=
  let p := s.pwr
  match o with
  | 0x0C =>
    let a := rwl s p.coreDepth (fld w 0 4)
    let b := rwl s p.dramDepth (fld w 4 4)
    let c := rwl s p.convDepth (fld w 8 4)
    ranged (a ≤ 8 && b ≤ 8 && c ≤ 8) pwrBadWrite
      (fun s => { s with pwr := { s.pwr with coreDepth := a, dramDepth := b, convDepth := c } }) s
  | 0x18 => clearBit31 0x140018 w s
  | _ => s

/-- The registers of a fault station (16_fault_stations R564, R576): an FVECTOR outside 1 to 15 is ignored. -/
def writeStation (b : Block) (o : Nat) (w : Word) (s : State) : State :=
  match o with
  | 0x24 => fackWrite b w s
  | 0x28 => modStation b (fun x => { x with graceMs := fld w 0 16 }) s
  | 0x2C => modStation b (fun x => { x with quietTenMs := fld w 0 16 }) s
  | 0x38 => if fld w 0 4 = 0 then s else modStation b (fun x => { x with vector := fld w 0 4 }) s
  | _ => s

/-- A write of a block's own register, by offset in its window. -/
def writeBlock (b : Block) (o : Nat) (w : Word) (s : State) : State :=
  match b with
  | .dev => if o = 0x14 ∧ w.getLsbD 0 then acknowledge s else s
  | .cht => if o = 0x10 then selectRoom w s else s
  | .hst => writeHst o w s | .drc => writeDrc o w s | .stw => writeStw o w s | .sav => writeSav o w s
  | .cel => writeCel o w s | .dmw => writeDmw o w s | .nrg => writeNrg o w s | .gau => writeGau o w s
  | .rek => writeRek o w s | .plk => writePlk o w s | .att => writeAtt o w s | .ecc => writeEcc o w s
  | .tws => writeTws o w s | .twp => writeTwp o w s | .svc => writeSvc o w s | .log => writeLog o w s
  | .pwr => writePwr o w s
  | .sui | .fpl => s

/-! ### Pairs (R17) -/

/-- The 64-bit value of a writable pair takes effect, by the offset of its _LO: ECC_TEST_DATA and ECC_TEST_CHK. -/
def writePair (lo : Nat) (l h : Word) (s : State) : State :=
  match lo with
  | 0xF0084 => { s with ecc := { s.ecc with testData := h ++ l } }
  | 0xF008C => { s with ecc := { s.ecc with chkLo := l.setWidth 30, chkHi := h.setWidth 10 } }
  | _ => s

/-- A write to a _LO is held (R17). -/
def holdLo (ofs : Nat) (w : Word) (s : State) : State :=
  { s with dev := { s.dev with loHeld := aset s.dev.loHeld ofs w } }

/-- A write to a _HI: with the held _LO, or with the present one where none is held (assumption 49). -/
def writeHi (lo : Nat) (w : Word) (s : State) : State :=
  let l := (alookup s.dev.loHeld lo).getD ((regView s lo).getD 0)
  writePair lo l w { s with dev := { s.dev with loHeld := aerase s.dev.loHeld lo } }

/-- A write at an aligned BAR0 offset where a register lies. -/
def writeAt (ofs : Nat) (w : Word) (s : State) : State :=
  if ofs = 0xF0084 ∨ ofs = 0xF008C then holdLo ofs w s
  else if ofs = 0xF0088 ∨ ofs = 0xF0090 then writeHi (ofs - 4) w s
  else
    match windowBlock ofs with
    | none => s
    | some b =>
      let o := ofs % 0x10000
      if 0xF000 ≤ o then writeStation b (o - 0xF000) w s else writeBlock b o w s

/-- A host write of an aligned word in BAR0: where no register lies it is ignored and raises BAD_ACCESS (R14, R19). -/
def writeReg (ofs : Nat) (w : Word) (s : State) : State :=
  if (regView s ofs).isSome then writeAt ofs w s else raiseAddr hstBadAccess ofs mHost 2 s

end Sys2Proof.Machine
end

