-- ==== Sys2Proof/Machine/Registers.lean ====
section
/-! DEFINITION. The commands that access the Control Block (BAR0) and the ring store (BAR2): reads, writes, register pairs,
bad accesses, cleared peaks (00_scope R13 to R17; 01_architecture R18 to R20; 13_dumbwaiter R474). -/

namespace Sys2Proof.Machine

/-- Host software reaches the Control Block in this state: OFF and SAVED have no power, and DRYDOCK serves the hatch only. -/
def barOpen (s : State) : Bool :=
  match s.dev.state with
  | .off | .saved | .drydock => false
  | _ => true

/-- The ring store takes an access of 4 or 8 bytes at its own alignment (R474). -/
def ringAccess (ofs size : Nat) : Bool := (size = 4 || size = 8) && ofs % size = 0 && ofs + size ≤ 0x40000

/-- An access that R14, R19 or R474 refuses. -/
def refusedAccess (s : State) (bar2 : Bool) (ofs size : Nat) : Bool :=
  if bar2 then !ringAccess ofs size else !(size = 4 && ofs % 4 = 0 && (regView s ofs).isSome)

/-- BAD_ACCESS (R14, R19, R474): a read returns ones, a write is ignored, and class BAD_ACCESS is raised at the HST station;
an access of a proper size and place is no such access. -/
def execBadAccess (bar2 : Bool) (offset size : Nat) (write : Bool) (s : State) : Res :=
  if barOpen s && refusedAccess s bar2 offset size then
    let s := raiseAddr hstBadAccess offset mHost (if write then 2 else 1) s
    .next (if write then s else emit (.regValue offset 0xFFFFFFFF) s)
  else .next s

/-- A host write of a word into the ring store (R474); one to a descriptor that the part owns has no effect (R476; that the store itself does
not take it is a DESIGN CHOICE: assumption 138). -/
def ringHostWrite (ofs : Nat) (w : Word) (s : State) : State :=
  if ringAccess ofs 4 then
    if ringOwned s ofs then s else { s with dmw := ringWrite ofs (leBytes 4 w.toNat) s.dmw }
  else raiseAddr hstBadAccess ofs mHost 2 s

/-- REGISTER_WRITE (R13, R16): an aligned word written by host software in BAR0, or in BAR2 where `bar2` is set. -/
def execRegisterWrite (bar2 : Bool) (offset : Nat) (value : Word) (s : State) : Res :=
  if barOpen s then
    .next (if bar2 then ringHostWrite offset value s
           else if offset % 4 = 0 then writeReg offset value s
           else raiseAddr hstBadAccess offset mHost 2 s)
  else .next s

/-- A host read of a word of the ring store; an uncorrectable byte gives the PCIe poisoned-data indication (Table 15-6). -/
def ringHostRead (ofs : Nat) (s : State) : State :=
  let l := List.range 4
  let bad := l.find? fun i => tget false s.dmw.ringBad (ofs + i)
  let data := l.map fun i => tget 0 s.dmw.ring (ofs + i)
  if ringAccess ofs 4 then
    match bad with
    | none => emit (.ringData ofs data false) s
    | some i =>
      let s := { s with ecc := { s.ecc with demandUe := satInc 0xFFFF s.ecc.demandUe } }
      emit (.ringData ofs data true) (sramUe (0x2010000 + ofs + i) mHost none s)
  else emit (.regValue ofs 0xFFFFFFFF) (raiseAddr hstBadAccess ofs mHost 1 s)

/-- A host read of a register with its answer (R14, R16, R17). -/
def hostRead (ofs : Nat) (s : State) : State :=
  if ofs % 4 = 0 then
    let r := readAs mHost ofs s
    emit (.regValue ofs r.1) r.2
  else emit (.regValue ofs 0xFFFFFFFF) (raiseAddr hstBadAccess ofs mHost 1 s)

/-- REG_PAIR_LO_READ (R16, R17): host software reads an aligned word; a read of a _LO register captures its _HI, and a read of a
_HI gives the holding copy. The row also carries every other read of a register or of the ring store (assumption 50). -/
def execRegPairLoRead (bar2 : Bool) (offset : Nat) (s : State) : Res :=
  if barOpen s then .next (if bar2 then ringHostRead offset s else hostRead offset s) else .next s

/-- REG_PAIR_HI_WRITE (R17): a write of the _LO register at an offset, held, then of the _HI beside it: the 64-bit value takes
effect. -/
def execRegPairHiWrite (offset : Nat) (lo hi : Word) (s : State) : Res :=
  if barOpen s && offset % 4 = 0 then .next (writeReg (offset + 4) hi (writeReg offset lo s)) else .next s

/-- PEAK_CLEAR (R16): a write of a W1S clear bit of the register at an offset. -/
def execPeakClear (offset : Nat) (s : State) : Res := .next (if barOpen s then clearPeak offset s else s)

end Sys2Proof.Machine
end

