-- ==== Sys2Proof/Machine/OpsNand.lean ====
section
/-! DEFINITION. What the pages of the NAND dies hold, as READ_NAND returns it: a codeword of 4,096 bytes as stored, and the page
tag (09_cellar R327 to R338, R355; 07_fence_save Tables 07-5 and 07-6; 05_rooms_suites_chart Tables 05-2 and 05-3). -/

namespace Sys2Proof.Machine

/-- A page as it is stored: a codeword of its 16 KiB by number, and the tag. -/
structure NandPage where
  codeword : Nat → List Byte
  tag : List Byte

/-- The tag of Table 09-3. -/
def pageTag (type page key seq index tile : Nat) (poison : List Byte) : List Byte :=
  let b := [BitVec.ofNat 8 type, BitVec.ofNat 8 page, BitVec.ofNat 8 key, 0] ++ leBytes 4 seq ++ leBytes 4 index ++
    leBytes 4 tile ++ padTo 32 poison ++ List.replicate 12 0
  b ++ leBytes 4 (crc32 b).toNat

/-- A page of given bytes, filled with zeros. -/
def plainPage (data tag : List Byte) : NandPage :=
  { codeword := fun c => padTo 4096 (data.drop (4096 * c)), tag := tag }

/-- An erased page. -/
def erasedPage : NandPage := { codeword := fun _ => List.replicate 4096 0xFF, tag := List.replicate 64 0xFF }

/-- A page whose data bytes the spec leaves open: a number spells the bytes. -/
def openPage (n : Nat) (tag : List Byte) : NandPage := { codeword := fun c => leBytes 4096 (n / 256 ^ (4096 * c)), tag := tag }

/-- Bytes of an image from an offset. -/
def imageBytes (i : Image) (ofs len : Nat) : List Byte := (List.range len).map fun k => tget 0 i.bytes (ofs + k)

/-- POISON of a page of an image: bit j for beat 256 × page + j (Table 09-3). -/
def imagePoison (i : Image) (page : Nat) : List Byte :=
  leBytes 32 (maskOf 256 fun j => tget false i.poison (256 * page + j))

/-- Page `p` of a copy of a tile, encrypted where its key slot is not 0 (R355). -/
def tilePage (type key keyId seq index tileField tile p : Nat) (img : Image) : NandPage :=
  { codeword := fun c =>
      if key = 0 then imageBytes img (16384 * p + 4096 * c) 4096
      else padTo 4096 ((Config.cipherPage keyId (tile * 4 + p) (imageBytes img (16384 * p) 16384)).drop (4096 * c)),
    tag := pageTag type p key seq index tileField (imagePoison img p) }

/-- A row of a Cellar block has been consumed: programmed, or below the frontier that holds its block (R330, R331). -/
def rowUsed (s : State) (d b row : Nat) : Bool :=
  let x := dieAt s d
  let below := fun (f : Option (Nat × Nat)) => match f with
    | some (fb, p) => fb = b && p ≤ row
    | none => false
  (nandAt s 0 d b).inUse && !below x.frontier && !below x.gcFrontier

/-- A wordline of a Cellar block holds slots of copies that have not been programmed yet. -/
def onTheWay (s : State) (d b row : Nat) : Bool :=
  s.cel.copies.any fun c => c.die = d && c.slot.any (fun x => slotBlock s x = b && slotPos s x / 3 = row / 3) &&
    (c.phase = .reading || c.phase = .staged || c.phase = .latched || c.phase = .issued)

/-- A page of the Cellar: a copy, a filler page with open data, or erased. A page whose program failed reads as a filler page (DESIGN CHOICE:
assumption 153). -/
def cellarPage (s : State) (n d b row p : Nat) : NandPage :=
  if onTheWay s d b row then erasedPage else
  match tget none s.cel.slots (slotAt s d b row) with
  | some c => tilePage 0x01 c.keySlot c.keyId c.seq c.tile 0 c.tile p c.img
  | none => if rowUsed s d b row then openPage n (pageTag 0x05 0 0 0 0 0 []) else erasedPage

/-- A page of a slot of a half. -/
def halfPage (h : HalfData) (slot p : Nat) : NandPage :=
  match tget none h.slots slot with
  | some t => tilePage 0x02 t.keySlot t.keyId (t.saveId % 2 ^ 32) t.idx t.tile t.tile p t.img
  | none => erasedPage

/-- The save header of Table 07-5. -/
def saveHeaderBytes (h : SaveHeader) : List Byte :=
  let fl := pkNat [bit 0 h.armed, bit 1 h.exposedAny, bit 2 h.baseValid, bit 3 h.pending, bit 4 h.eraseAhead]
  let b := leBytes 4 0x56415348 ++ leBytes 2 1 ++ [BitVec.ofNat 8 h.kind, BitVec.ofNat 8 h.half] ++ leBytes 8 h.saveId ++
    leBytes 8 h.fenceTime ++ [BitVec.ofNat 8 h.cause, BitVec.ofNat 8 fl] ++ leBytes 2 h.memberId ++ leBytes 4 h.planCrc ++
    leBytes 8 h.baseSaveId ++ [BitVec.ofNat 8 h.baseHalf, 0, 0, 0] ++ leBytes 4 h.ratePlan ++ leBytes 8 h.wearBucket ++
    leBytes 8 h.openId ++ List.replicate 188 0
  b ++ leBytes 4 (crc32 b).toNat

/-- Entries of one list page, and the pages of a list (R269). -/
def listPageEntries : Nat := 2046
def listPageCount (l : List ListEntry) : Nat := max 1 (ceilDiv l.length listPageEntries)

/-- A list page (R269). -/
def listPageBytes (r : SaveRecord) (k : Nat) : List Byte :=
  let l := (r.list.drop (listPageEntries * k)).take listPageEntries
  let last := r.listDone && decide (k + 1 = listPageCount r.list)
  leBytes 4 0x5453494C ++ leBytes 4 r.header.saveId ++ leBytes 4 k ++ leBytes 2 l.length ++ [BitVec.ofNat 8 (b2n last), 0] ++
    (l.map fun e => leBytes 4 e.tile ++ leBytes 2 e.suite ++ [BitVec.ofNat 8 e.prio, 0]).flatten

/-- Codeword bytes of the pending map, one bit per Room, from a byte of the map (R329). -/
def pendingBytes (r : SaveRecord) (ofs len : Nat) : List Byte :=
  (List.range len).map fun k => BitVec.ofNat 8 (maskOf 8 fun j => r.pendingRooms.contains (8 * (ofs + k) + j))

/-- The Save Seal of Table 07-6. -/
def saveSealBytes (x : SaveSeal) : List Byte :=
  let b := leBytes 4 0x4C414553 ++ leBytes 4 0 ++ leBytes 8 x.saveId ++ leBytes 4 x.listed ++ leBytes 4 x.written ++
    leBytes 4 x.listPages ++ leBytes 4 x.durationMs ++ leBytes 4 x.energyJ ++ leBytes 4 x.skipped ++ leBytes 4 x.rateDown ++
    List.replicate 16 0
  b ++ leBytes 4 (crc32 b).toNat

/-- Head page `h` of a save record (R329). -/
def headPage (r : SaveRecord) (h : Nat) : NandPage :=
  let n := if r.list.isEmpty && !r.listDone then 0 else listPageCount r.list
  let m := if r.header.pending then 4 else 0
  let tag := pageTag 0x03 0 0 (r.header.saveId % 2 ^ 32) h 0 []
  if h = 0 then plainPage (saveHeaderBytes r.header) tag
  else if h ≤ n then plainPage (listPageBytes r (h - 1)) tag
  else if h ≤ n + m ∧ r.listDone then
    { codeword := fun c => pendingBytes r (16384 * (h - n - 1) + 4096 * c) 4096, tag := tag }
  else if h = n + m + 1 then
    match r.sealed with
    | some x => plainPage (saveSealBytes x) tag
    | none => erasedPage
  else erasedPage

/-- A page of the Vestibule: Port holds the lower run of blocks, Starboard the upper (R326, R328). -/
def vestPage (s : State) (d b row p : Nat) : NandPage :=
  let l := runBlocks s
  let slot := fun (x : Nat) => (x * 256 + row) * dieCount s + d
  if b < l then halfPage s.sav.port (slot b) p
  else if b < 2 * l then halfPage s.sav.stbd (slot (b - l)) p
  else erasedPage

/-- A page of the head block of a half: head pages in rows 0 to 127, overflow slots from row 128 on (R328, R329). -/
def headBlockPage (s : State) (h : HalfData) (d row p : Nat) : NandPage :=
  if 128 ≤ row then halfPage h (halfTiles s + (row - 128) * dieCount s + d) p
  else
    match h.rec_ with
    | some r => headPage r ((row * 4 + p) * dieCount s + d)
    | none => erasedPage

/-- A tile entry of Table 05-3. -/
def mapEntryBytes (e : MapEntry) : List Byte :=
  leBytes 4 (e.slot.getD 0xFFFFFFFF) ++ leBytes 4 e.seq ++ [BitVec.ofNat 8 (pkNat [bit 0 e.poisoned, bit 1 e.whole]), 0, 0, 0]

/-- A Room-map record of Table 05-2. -/
def roomMapBytes (m : RoomMap) : List Byte :=
  let b := leBytes 4 0x504D4D52 ++ leBytes 4 m.room ++ leBytes 8 m.gen ++ leBytes 2 m.suite ++
    [BitVec.ofNat 8 m.key, BitVec.ofNat 8 (b2n m.full)] ++ leBytes 4 m.planCrc ++ leBytes 8 m.time ++ List.replicate 32 0 ++
    ((List.range tilesPerRoom).map fun i => mapEntryBytes (tget {} m.tiles i)).flatten ++ List.replicate 188 0
  b ++ leBytes 4 (crc32 b).toNat

/-- A page whose first bytes the spec gives and whose others it leaves open. -/
def headOpenPage (n : Nat) (head tag : List Byte) : NandPage :=
  { codeword := fun c => if c = 0 then head ++ (leBytes 4096 n).drop head.length else leBytes 4096 (n / 256 ^ (4096 * c)), tag := tag }

/-- A service-open record and a release record (07_fence_save Table 07-4). -/
def openRecBytes (o : OpenRec) : List Byte :=
  let b := leBytes 4 0x4E45504F ++ leBytes 4 0 ++ leBytes 8 o.openId ++ leBytes 8 o.lastSaveId ++ leBytes 8 o.time ++ List.replicate 28 0
  b ++ leBytes 4 (crc32 b).toNat
def releaseRecBytes (r : ReleaseRec) : List Byte :=
  let b := leBytes 4 0x534C4552 ++ leBytes 4 r.half ++ leBytes 8 r.saveId ++ leBytes 8 0 ++ leBytes 8 r.time ++ List.replicate 28 0
  b ++ leBytes 4 (crc32 b).toNat

/-- The entry of a Room in a checkpoint, 12 bytes: MAP_PTR and full GEN; 0xFFFF_FFFF and 0 for a Room without a record (R341). -/
def ckptEntry (k : Checkpoint) (r : Nat) : List Byte :=
  match alookup k.entries r with
  | some x => leBytes 4 x.1 ++ leBytes 8 x.2
  | none => leBytes 4 0xFFFFFFFF ++ leBytes 8 0

/-- Bytes of the entry pages of a checkpoint, in Room order (R341). -/
def ckptBytes (k : Checkpoint) (ofs len : Nat) : List Byte :=
  (((List.range (len / 12 + 2)).map fun i => ckptEntry k (ofs / 12 + i)).flatten.drop (ofs % 12)).take len

/-- A journal page: its records, unused positions reading 0xFF (R339); a page whose program failed holds open data. -/
def journalPage (s : State) (n m : Nat) (tag : List Byte) : NandPage :=
  let recs := s.cel.journal.filter fun r => r.ptr / 16 = m
  if recs.isEmpty then openPage n tag
  else
    let slot := fun (k : Nat) =>
      match recs.find? fun r => r.ptr % 16 = k with
      | some r => roomMapBytes r.rec_
      | none => List.replicate 1024 0xFF
    { codeword := fun c => ((List.range 4).map fun k => slot (4 * c + k)).flatten, tag := tag }

/-- A page of an item, by its number in the item. The spec gives the checkpoint header no offsets but its MAGIC, and the roster, the block
table and the key store no layout: those bytes are open. -/
def itemPage (s : State) (n : Nat) (i : MetaItem) (k : Nat) (tag : List Byte) : NandPage :=
  match i with
  | .ckpt c =>
    if k = 0 then headOpenPage n (leBytes 4 0x54504B43) tag
    else
      match s.cel.ckpts.find? fun x => x.seq = c with
      | some x => { codeword := fun w => ckptBytes x (16384 * (k - 1) + 4096 * w) 4096, tag := tag }
      | none => openPage n tag
  | .area b =>
    match (if b then s.cel.areaB else s.cel.areaA) with
    | some r => { headPage r k with tag := tag }
    | none => openPage n tag
  | .opened o => plainPage (openRecBytes o) tag
  | .released r => plainPage (releaseRecBytes r) tag
  | .role r => plainPage (roleRecBytes r) tag
  | .roster | .blockTable | .keyStore => openPage n tag

/-- A page of Meta (R336 to R341): the block header at page 0, then pages of the block's content type, of which the block of a second copy
holds the same. A page that no item claims any more, and a block that awaits its erase, hold open data. -/
def metaPage (s : State) (n d b row p : Nat) : NandPage :=
  let q := b * dieCount s + d
  let i := row * 4 + p
  match metaBlk s q with
  | none => if (nandAt s 2 d b).inUse then openPage n (leBytes 64 (n / 256 ^ 16384)) else erasedPage
  | some x =>
    let m := x.copyOf.getD q * 1024 + i
    let tag := pageTag 0x04 0 0 ((x.seq + i) % 2 ^ 32) x.type 0 []
    if x.next ≤ i then erasedPage
    else if i = 0 then headOpenPage n (leBytes 4 0x4B4C424D) tag
    else if x.dead then openPage n tag
    else if x.type = 1 then journalPage s n m tag
    else
      match s.cel.metaExts.find? fun e => e.page ≤ m && m < e.page + e.count with
      | some e => itemPage s n e.item (e.first + (m - e.page)) tag
      | none => openPage n tag

/-- The block, by its key, whose place in the block table is a Spare block of a die (R350). -/
def servedBy (s : State) (d b : Nat) : Option Nat :=
  (s.cel.remap.find? fun x => x.1 / 4096 % 32 = d && (x.1 / 131072 ≠ 3 || x.1 % 4096 < 2) && x.2 = homeBlock s 3 b + 1).map fun x => x.1

/-- Blocks per die of a partition and rows of a block: 0 Cellar, 1 Vestibule, 2 Meta, 3 Spare, whose blocks take the mode of the partition
that they serve (Table 09-2). -/
def partSize (s : State) (part d block : Nat) : Nat × Nat :=
  match part with
  | 0 => (cellarBlocks s, 768)
  | 1 => (vestBlocks s, 256)
  | 2 => (metaBlocks s, 256)
  | _ => (spareBlocks s d, match servedBy s d block with | some key => if key / 131072 = 0 then 768 else 256 | none => 256)

/-- The place exists (R645). -/
def nandPlace (s : State) (die part block row plane cw : Nat) : Bool :=
  let z := partSize s part die block
  decide (die < dieCount s ∧ part < 4 ∧ block < z.1 ∧ row < z.2 ∧ plane < 4 ∧ cw < 4)

/-- The page of a partition at a place; the first two Spare blocks of a die are the heads of Port and Starboard. -/
def partPage (s : State) (n part d b row p : Nat) : NandPage :=
  match part with
  | 0 => cellarPage s n d b row p
  | 1 => vestPage s d b row p
  | 2 => metaPage s n d b row p
  | _ => if b = 0 then headBlockPage s s.sav.port d row p else headBlockPage s s.sav.stbd d row p

/-- The page at a place. A replacement Spare block shows the pages of the block that it serves; one that has served and been retired
holds open data (R350). -/
def nandPage (s : State) (n part d b row p : Nat) : NandPage :=
  if part < 3 ∨ b < 2 then partPage s n part d b row p
  else
    match servedBy s d b with
    | some key => partPage s n (key / 131072) d (key % 4096) row p
    | none => if b < 2 + (dieAt s d).spareUsed then openPage n (leBytes 64 (n / 256 ^ 16384)) else erasedPage

end Sys2Proof.Machine
end

