-- ==== Sys2Proof/Machine/OpsHatch.lean ====
section
/-! DEFINITION. The service hatch as shared operations: frames and responses, sessions, packages (18_service_update R605 to
R631). -/

namespace Sys2Proof.Machine

/-! ### Sessions (R615, R617) -/

/-- Staging ends without effect (R631). -/
def dropPackage (s : State) : State :=
  if s.svc.phase = 1 then setPhase 0 (spareBank s) { s with svc := { s.svc with pkg := none } } else s

/-- A session ends (R615, R631). -/
def endSession (s : State) : State :=
  let s := dropPackage s
  { s with svc := { s.svc with session := .none, roles := 0, key := 7, sessionKey := [], lastSeq := none, lastResp := [],
                               sessionFails := 0, badVersion := false, owed := none } }

/-- A role of the session, else ROLE (Table 18-3, Table 18-4). -/
def withRole (k : Nat) (s : State) (f : State → SvcAns) : SvcAns :=
  if s.svc.roles.getLsbD k then f s else svcStat 0x03 s

/-- A command served where a condition holds, else STATE (R617). -/
def inStates (ok : Bool) (s : State) (f : State → SvcAns) : SvcAns := if ok then f s else svcStat 0x04 s

/-- An input that is well-formed, else BAD_CMD (Table 18-2). -/
def wellInput (ok : Bool) (s : State) (f : State → SvcAns) : SvcAns := if ok then f s else svcStat 0x01 s

/-- All states but FENCED and SAVING. -/
def notSaving (s : State) : Bool :=
  match s.dev.state with
  | .fenced | .saving => false
  | _ => true

/-- SERVICE and HARBOUR. -/
def serviceOrHarbour (s : State) : Bool :=
  match s.dev.state with
  | .service | .harbour => true
  | _ => false

/-! ### HELLO and AUTH (R612 to R614) -/

/-- HELLO: a new session, or VERSION (R612). -/
def helloCmd (input : List Byte) (s : State) : SvcAns :=
  wellInput (input.length = 4) s fun s =>
    let s := endSession s
    if num input 2 2 ≠ 1 then svcStat 0x08 { s with svc := { s.svc with session := .open_, badVersion := true } }
    else
      let n := padTo 32 (Config.random32 s.free)
      let q := padTo 64 (Config.ephemeralKey s.free)
      let s := { s with free := s.free + 1, svc := { s.svc with session := .open_, nonce := n, ephemeral := q } }
      (0, 0, leBytes 4 0x00010000 ++ unitIdentity s ++ [0xB0] ++ wordBytes (viewDevState s) ++ wordBytes (viewSvcBanks s) ++
        n ++ q, s)

/-- The key number and the roles of a tool key: the vendor root, or an entry of the service key store (R613, R615). -/
def toolKey (s : State) (h : List Byte) : Option (Nat × Nat) :=
  if h = s.fuses.rootHash then some (0, 15)
  else
    let k := s.svc.keyStore.findIdx fun e => decide (e.hash = h)
    (s.svc.keyStore[k]?).map fun e => (k + 1, e.roles)

/-- A failed AUTH (R614): the third in a session closes it and locks AUTH out for 60 s; each further failure before a success
doubles the lockout, up to 1 h. -/
def authFails (status : Nat) (s : State) : SvcAns :=
  let v := s.svc
  let fails := v.sessionFails + 1
  let s := raise svcAuthFail { s with svc := { v with sessionFails := fails, authFails := satInc 0xFFFF v.authFails } }
  let locks := if v.locks = 0 then (if 3 ≤ fails then 1 else 0) else v.locks + 1
  let s := if 3 ≤ fails then endSession s else s
  let until_ := if locks = 0 then s.svc.lockedUntil
                else some (s.almanac + min 3600000000 (60000000 * 2 ^ (locks - 1)))
  svcStat status { s with svc := { s.svc with locks := locks, lockedUntil := until_ } }

/-- AUTH (R613): the tool's key, its ephemeral key, the roles asked for, the signature; 193 bytes. -/
def authCmd (input : List Byte) (s : State) : SvcAns :=
  inStates (notSaving s && decide (s.svc.session ≠ .none)) s fun s =>
  wellInput (input.length = 193) s fun s =>
    if s.svc.lockedUntil.isSome then svcStat 0x0C s
    else
      let key := input.take 64
      let qT := (input.drop 64).take 64
      let roles := num input 128 1
      let sig := input.drop 129
      let m := [0x48, 0x53, 0x56, 0x43] ++ s.svc.nonce ++ s.svc.ephemeral ++ qT ++ [BitVec.ofNat 8 roles] ++ unitIdentity s
      match toolKey s (Config.sha256 key) with
      | none => authFails 0x06 s
      | some (k, r) =>
        if roles &&& r ≠ roles then authFails 0x03 s
        else if !Config.ecdsaVerify key (Config.sha256 m) sig then authFails 0x06 s
        else svcStat 0 { s with svc := { s.svc with
          session := .authenticated, roles := BitVec.ofNat 4 roles, key := k, sessionFails := 0, locks := 0,
          sessionKey := Config.sessionKey s.svc.ephemeral qT s.svc.nonce } }

/-- Output of STATUS (Table 18-3). -/
def statusOut (s : State) : List Byte :=
  wordBytes (viewDevState s) ++ wordBytes (viewSvcStatus s) ++ wordBytes (viewSvcBanks s) ++ leBytes 4 (updWord s) ++
    wordBytes (viewSvcProbation s)

/-! ### Reads -/

/-- A Log record as READ_LOG returns it: TYPE 0xFFFF where its CRC fails (19_almanac_log_identity R657). -/
def logOut (r : List Byte) : List Byte :=
  if leNat (r.drop 60) = (crc32 (r.take 60)).toNat then r else patchBytes r 4 [0xFF, 0xFF]

/-- The records held, oldest first. -/
def ringRecords (s : State) : List (List Byte) :=
  let w := s.log.written % ringSize
  ((s.log.ring.filter fun r => w ≤ r.1) ++ s.log.ring.filter fun r => r.1 < w).map Prod.snd

/-- Records from an INDEX on (19_almanac_log_identity R657): those whose INDEX is not before it; an INDEX older than the oldest
record gives the oldest. -/
def logFrom (s : State) (index count : Nat) : List Byte :=
  (((ringRecords s).filter fun r => (leNat (r.take 4) + 2 ^ 32 - index) % 2 ^ 32 < 2 ^ 31).take count).flatMap logOut

/-- Registers from a BAR0 offset on, read as host software reads them (Table 18-3). -/
def readRegs : Nat → Nat → State → List Byte × State
  | 0, _, s => ([], s)
  | n + 1, ofs, s =>
    let r := if ofs % 4 = 0 then readAs mService ofs s
             else ((0xFFFFFFFF : Word), raiseAddr hstBadAccess ofs mService 1 s)
    let t := readRegs n (ofs + 4) r.2
    (wordBytes r.1 ++ t.1, t.2)

/-- Words of the Attic window from an offset on; none at a bus error. The word `failAt` does not decode at any threshold. -/
def readWords : Nat → Nat → Nat → Option Nat → State → Option (List Byte) × State
  | 0, _, _, _, s => (some [], s)
  | n + 1, i, ofs, failAt, s =>
    let d : List (List Nat) := if failAt = some i then List.replicate 4 [0, 1] else []
    let r := match readWindow mService ofs d s with
      | (some x, s) => (x, s)
      | (none, s) => readArray mService ofs d s
    match r.1 with
    | none => (none, r.2)
    | some w =>
      let t := readWords n (i + 1) (ofs + 8) failAt r.2
      (t.1.map fun l => leBytes 8 w.toNat ++ l, t.2)

/-- READ_ATTIC reaches a protected sector, 101 to 103 of a bank (R618). -/
def protectedRange (ofs len : Nat) : Bool :=
  (List.range (len / 8)).any fun i =>
    let sec := sectorOf ((ofs + 8 * i) % bankBytes)
    decide (101 ≤ sec ∧ sec ≤ 103)

/-! ### Packages (R619 to R631) -/

/-- A package header from its 400 bytes (Table 18-5). -/
def pkgHeader (l : List Byte) : PkgHeader :=
  let fl := num l 7 1
  { magic := num l 0 4, format := num l 4 2, kind := num l 6 1, delta := fl % 2 = 1, encrypted := fl / 2 % 2 = 1,
    autoConfirm := fl / 4 % 2 = 1, raiseEpoch := fl / 8 % 2 = 1, variants := num l 8 1, epoch := num l 9 1,
    entries := num l 0x0C 4, versions := (List.range 4).map fun i => num l (0x10 + 4 * i) 4, minFrom := num l 0x20 4,
    setFmt := num l 0x24 2, setReadMin := num l 0x26 2, icMin := num l 0x28 2, icOwn := num l 0x2A 2,
    nonceBase := (l.drop 0x30).take 8, baseDigest := (l.drop 0x40).take 32,
    imageDigest := (List.range 4).map fun i => (l.drop (0x60 + 32 * i)).take 32,
    imageLen := (List.range 4).map fun i => num l (0xE0 + 4 * i) 4, tableDigest := (l.drop 0xF0).take 32,
    signer := (l.drop 0x110).take 64, signature := (l.drop 0x150).take 64,
    reservedSet := decide (fl / 16 ≠ 0 ∨ num l 0x0A 2 ≠ 0 ∨ num l 0x2C 4 ≠ 0 ∨ num l 0x38 8 ≠ 0) }

/-- IMAGE_LEN and IMAGE_DIGEST of an image or object. -/
def lenAt (h : PkgHeader) (i : Nat) : Nat := (h.imageLen[i]?).getD 0
def digestAt (h : PkgHeader) (i : Nat) : List Byte := (h.imageDigest[i]?).getD []

/-- The role bit of a KIND (Table 18-4). -/
def kindRole (kind : Nat) : Nat := if kind = 1 then 1 else if kind = 2 then 2 else 3

/-- The states in which a package of a KIND is taken (R624). -/
def kindStates (s : State) (kind : Nat) : Bool :=
  match s.dev.state with
  | .tenancy | .service | .harbour => true
  | .boot => kind = 2 && holding s
  | _ => false

/-- The signer may sign the KIND and the signature verifies (R619, R620). -/
def signedBy (s : State) (h : PkgHeader) (l : List Byte) : Bool :=
  let k := Config.sha256 h.signer
  let may :=
    if h.kind = 1 then decide (k = s.fuses.fwKeyHash)
    else decide (k = s.fuses.rootHash) ||
      s.svc.keyStore.any fun e => decide (e.hash = k) && e.roles / 2 ^ kindRole h.kind % 2 = 1
  may && decide (h.encrypted = decide (h.kind = 1)) &&
    Config.ecdsaVerify h.signer (Config.sha256 (l.take 0x150)) h.signature

/-- The largest object of KIND 2, 3 and 4: a Floor Plan slot, 8 trust-store entries, 4 key-store entries of 64 bytes. -/
def objectMax (kind : Nat) : Nat := if kind = 2 then 0xFFF8 else if kind = 3 then 512 else 256

/-- Lengths in range (R622, R623). -/
def lensInRange (h : PkgHeader) : Bool :=
  if h.kind = 1 then (List.range 4).all fun i => decide (0 < lenAt h i ∧ lenAt h i ≤ imageMax i)
  else decide (0 < lenAt h 0 ∧ lenAt h 0 ≤ objectMax h.kind)

/-- PKG_BEGIN returns VERSION (R623). -/
def versionBad (s : State) (h : PkgHeader) : Bool :=
  h.variants / 2 ^ variantCode s % 2 = 0 || h.epoch < s.fuses.epoch || 31 < h.epoch ||
    (h.delta && decide (h.baseDigest ≠ setDigest s)) || imageVersion s 0 < h.minFrom || !lensInRange h

/-- The target of a KIND 1 package is erased and its boot record begun (R625). -/
def beginBank (l : List Byte) (s : State) : State :=
  let b := spareBank s
  let gen := max (bankGen (svcBank s 0)) (bankGen (svcBank s 1)) + 1
  let s := (List.range 89).foldl (fun s i => eraseSector b i s) s
  programBytes b 0x190 (leBytes 8 gen) (programBytes b 0 l s)

/-- PKG_BEGIN (R619 to R625); `attic` is the CODE of an Attic operation that ends with an error. -/
def pkgBegin (input : List Byte) (attic : Option Nat) (s : State) : SvcAns :=
  let h := pkgHeader input
  wellInput (input.length = 400 && decide (h.magic = 0x474B5048 ∧ h.format = 1 ∧ 1 ≤ h.kind ∧ h.kind ≤ 4) && !h.reservedSet)
    s fun s => withRole (kindRole h.kind) s fun s => inStates (kindStates s h.kind) s fun s =>
    if planBusy s then svcStat 0x05 (if h.kind = 2 then rejectPlan ⟨0x11, 0, 0⟩ mService s else s)
    else if s.svc.pkg.isSome ∨ (3 ≤ s.svc.phase ∧ s.svc.phase ≤ 5) then svcStat 0x05 s
    else if s.svc.denyUpdate then svcStat 0x0F s
    else if !signedBy s h input then svcStat 0x06 s
    else if versionBad s h then svcStat 0x08 s
    else
      let s := { s with svc := { s.svc with kind := h.kind, chunks := 0 } }
      match attic with
      | some c => if h.kind = 1 then (0x0A, c, [], setPhase 0 (spareBank s) ((List.range 89).foldl
                    (fun s i => eraseSector (spareBank s) i s) s))
                  else svcStat 0 (setPhase 1 (spareBank s) { s with svc := { s.svc with pkg := some { hdr := h } } })
      | none =>
        let s := if h.kind = 1 then beginBank input s else s
        svcStat 0 (setPhase 1 (spareBank s) { s with svc := { s.svc with pkg := some { hdr := h } } })

/-- A chunk-table entry from its 32 bytes (Table 18-6). -/
def chunkEntry (l : List Byte) : ChunkEntry :=
  { op := num l 0 1, core := num l 1 1, target := num l 4 4, len := num l 8 4, base := num l 0x0C 4,
    digest := (l.drop 0x10).take 16, reservedSet := num l 2 2 ≠ 0 }

/-- The whole table from its bytes. -/
def chunkTable (l : List Byte) : List ChunkEntry := (List.range (l.length / 32)).map fun i => chunkEntry (l.drop (32 * i))

/-- An entry is well-formed (R621, R622, Table 18-6). -/
def entryOk (h : PkgHeader) (e : ChunkEntry) : Bool :=
  decide (e.op ≤ 2 ∧ e.core ≤ 3 ∧ (h.kind = 1 ∨ e.core = 0) ∧ e.target % 8 = 0 ∧ e.len % 8 = 0 ∧
    (e.op = 0 → e.len ≤ 4096) ∧ (e.op = 1 ∨ e.base = 0) ∧ (e.op = 0 ∨ leNat e.digest = 0) ∧ (e.op = 1 → h.delta = true) ∧
    e.target + e.len ≤ lenAt h e.core) && !e.reservedSet

/-- Two entries name no byte in common. -/
def apart (a b : ChunkEntry) : Bool :=
  a.core ≠ b.core || a.len = 0 || b.len = 0 || decide (a.target + a.len ≤ b.target) || decide (b.target + b.len ≤ a.target)

/-- No entry overlaps one after it. -/
def allApart : List ChunkEntry → Bool
  | [] => true
  | a :: r => r.all (apart a) && allApart r

/-- The entries cover each image or object exactly (R621). -/
def coversAll (h : PkgHeader) (t : List ChunkEntry) : Bool :=
  (List.range (if h.kind = 1 then 4 else 1)).all fun c =>
    ((t.filter fun e => e.core = c).map fun e => e.len).foldl (· + ·) 0 = lenAt h c

/-- The table passes R621 and R622. -/
def tableOk (h : PkgHeader) (t : List ChunkEntry) : Bool := t.all (entryOk h) && allApart t && coversAll h t

/-- Write bytes into the target of the package at an entry's place (R621, R625). -/
def writeTarget (p : PkgRun) (e : ChunkEntry) (l : List Byte) (s : State) : State :=
  if p.hdr.kind = 1 then programBytes (spareBank s) (imageArea e.core + e.target) l s
  else
    match s.svc.pkg with
    | none => s
    | some q =>
      let obj := l.zipIdx.foldl (fun t x => tset 0 t (e.target + x.2) x.1) q.object
      { s with svc := { s.svc with pkg := some { q with object := obj } } }

/-- Perform an OP 1 or OP 2 entry (R622, R626). -/
def performEntry (p : PkgRun) (s : State) (e : ChunkEntry) : State :=
  if e.op = 1 then writeTarget p e (bankBytesAt s s.svc.inForce (imageArea e.core + e.base) e.len) s
  else if e.op = 2 then writeTarget p e (List.replicate e.len 0) s
  else s

/-- The package has failed (R629): PKG_REJECT with the chunk INDEX, and staging ends. -/
def pkgFails (status detail index : Nat) (s : State) : SvcAns :=
  (status, detail, [], dropPackage (raiseAddr svcPkgReject index mService 0 s))

/-- The plaintext of a chunk body (R629): decrypted under the delivery key where ENCRYPTED is set. -/
def chunkBody (h : PkgHeader) (input : List Byte) : Option (List Byte) :=
  if h.encrypted then
    let idx := num input 4 4 % 2 ^ 31 + 2 ^ 31 * (if num input 0 1 = 0 then 1 else 0)
    Config.gcmOpen (h.nonceBase ++ leBytes 4 idx) (input.take 8) (input.drop 8)
  else some (input.drop 8)

/-- A chunk applied (SVC_UPD.CHUNKS). -/
def countChunk (s : State) : State := { s with svc := { s.svc with chunks := satInc 0xFFFF s.svc.chunks } }

/-- A TABLE chunk (R626): at its last, the table is checked and every OP 1 and OP 2 entry is performed. -/
def tableChunk (p : PkgRun) (index : Nat) (body : List Byte) (attic : Option Nat) (s : State) : SvcAns :=
  let all := p.tableBytes ++ body
  let whole := p.hdr.entries * 32
  if body.length % 32 ≠ 0 ∨ 4096 < body.length ∨ whole < all.length then pkgFails 0x07 0 index s
  else if all.length < whole then
    svcStat 0 (countChunk { s with svc := { s.svc with pkg := some { p with tableBytes := all, tableNext := index + 1 } } })
  else if Config.sha256 all ≠ p.hdr.tableDigest ∨ !tableOk p.hdr (chunkTable all) then pkgFails 0x07 0 index s
  else
    match attic with
    | some c => pkgFails 0x0A c index s
    | none =>
      let t := chunkTable all
      let q := { p with tableBytes := all, tableNext := index + 1, table := some t }
      svcStat 0 (countChunk (t.foldl (performEntry q) { s with svc := { s.svc with pkg := some q } }))

/-- A DATA chunk (R627, R629): it matches its entry, is programmed and read back. -/
def dataChunk (p : PkgRun) (t : List ChunkEntry) (index : Nat) (body : List Byte) (attic : Option Nat) (readBack : Bool)
    (s : State) : SvcAns :=
  match (t.filter fun e => e.op = 0)[index]? with
  | none => svcStat 0x09 s
  | some e =>
    if body.length ≠ e.len ∨ (Config.sha256 body).take 16 ≠ e.digest then pkgFails 0x07 0 index s
    else
      match attic with
      | some c => pkgFails 0x0A c index s
      | none =>
        let s := writeTarget p e body s
        if !readBack then pkgFails 0x07 0 index s
        else
          match s.svc.pkg with
          | none => svcStat 0 s
          | some q => svcStat 0 (countChunk { s with svc := { s.svc with pkg := some { q with dataNext := index + 1 } } })

/-- PKG_CHUNK (R626 to R629). -/
def pkgChunk (input : List Byte) (attic : Option Nat) (readBack : Bool) (s : State) : SvcAns :=
  match s.svc.pkg with
  | none => svcStat 0x04 s
  | some p =>
    withRole (kindRole p.hdr.kind) s fun s => inStates (kindStates s p.hdr.kind) s fun s =>
    wellInput (8 + (if p.hdr.encrypted then 16 else 0) ≤ input.length && num input 0 1 ≤ 1 && num input 1 3 = 0) s fun s =>
      let index := num input 4 4
      let data := num input 0 1 = 1
      let next := match p.table with
        | some _ => if data then some p.dataNext else none
        | none => if data then none else some p.tableNext
      if next ≠ some index then svcStat 0x09 s
      else
        match chunkBody p.hdr input, p.table with
        | none, _ => pkgFails 0x07 0 index s
        | some b, none => tableChunk p index b attic s
        | some b, some t => dataChunk p t index b attic readBack s

/-- The store of a KIND 3 or KIND 4 object takes effect (R630; R616). -/
def loadStore (kind : Nat) (l : List Byte) (s : State) : State :=
  if kind = 3 then
    { s with svc := { s.svc with trustStore := ((Config.trustEntries l).take 8).map fun e => { hmac := e.1, value := e.2 } } }
  else if kind = 4 then
    { s with svc := { s.svc with keyStore := (List.range (min 4 (l.length / 64))).map fun i =>
        { hash := (l.drop (64 * i)).take 32, roles := num l (64 * i + 32) 1 } } }
  else s

/-- The whole target matches its digests (R630). -/
def targetMatches (s : State) (p : PkgRun) (obj : List Byte) : Bool :=
  if p.hdr.kind = 1 then
    (List.range 4).all fun c =>
      decide (Config.sha256 (bankBytesAt s (spareBank s) (imageArea c) (lenAt p.hdr c)) = digestAt p.hdr c)
  else decide (Config.sha256 obj = digestAt p.hdr 0)

/-- PKG_END (R630); `attic` is the CODE of an Attic operation that ends with an error. -/
def pkgEnd (attic : Option Nat) (s : State) : SvcAns :=
  match s.svc.pkg with
  | none => svcStat 0x04 s
  | some p =>
    withRole (kindRole p.hdr.kind) s fun s => inStates (kindStates s p.hdr.kind) s fun s =>
    let done := match p.table with
      | some t => decide (p.dataNext = (t.filter fun e => e.op = 0).length)
      | none => false
    let obj := (List.range (lenAt p.hdr 0)).map fun i => tget 0 p.object i
    if !done then svcStat 0x09 s
    else if !targetMatches s p obj then svcStat 0x07 (dropPackage s)
    else
      let closed := fun (s : State) => { s with svc := { s.svc with pkg := none } }
      if p.hdr.kind = 2 then
        let r := deliverPlan obj mService attic.isNone (closed s)
        let s := setPhase 0 (spareBank s) r.2
        if r.1 ≠ 0 then (0x0D, r.1, [], s)
        else
          match attic with
          | some c => (0x0A, c, [], s)
          | none => svcStat 0 s
      else
        match attic with
        | some c => (0x0A, c, [], dropPackage s)
        | none =>
          if p.hdr.kind = 1 then
            svcStat 0 (setPhase 2 (spareBank s) (programMarker (spareBank s) .staged true (closed s)))
          else svcStat 0 (setPhase 0 (spareBank s) (loadStore p.hdr.kind obj (closed s)))

/-- ABORT (R631). -/
def pkgAbort (s : State) : SvcAns :=
  match s.svc.pkg with
  | some p =>
    withRole (kindRole p.hdr.kind) s fun s => inStates (kindStates s p.hdr.kind) s fun s => svcStat 0 (dropPackage s)
  | none =>
    withRole 1 s fun s => inStates (kindStates s 1) s fun s =>
      let b := spareBank s
      let st := bankState (svcBank s b)
      if s.svc.phase ≠ 3 ∧ (st = 2 ∨ st = 3) then svcStat 0 (setPhase 0 b (programMarker b .retired true s))
      else svcStat 0x04 s

/-- Record STATUS in SVC_UPD.RESULT. -/
def noteResult (a : SvcAns) : SvcAns := (a.1, a.2.1, a.2.2.1, setResult a.1 a.2.2.2)

end Sys2Proof.Machine
end

