-- ==== Sys2Proof/Machine/Service.lean ====
section
/-! DEFINITION. The commands of the service hatch (18_service_update Table 18-3): each is a frame that R609 does not discard,
with its SEQ and its input; DISCARDED_FRAME and SVC_FRAME_TIMEOUT are the frames that it discards. -/

namespace Sys2Proof.Machine

/-- SVC_HELLO (R612). -/
def execSvcHello (seq : Nat) (input : List Byte) (s : State) : Res := .next (svcFrame 0x01 seq (helloCmd input) s)

/-- SVC_AUTH (R613, R614). -/
def execSvcAuth (seq : Nat) (input : List Byte) (s : State) : Res := .next (svcFrame 0x02 seq (authCmd input) s)

/-- SVC_CLOSE (R615). -/
def execSvcClose (seq : Nat) (s : State) : Res := .next (svcFrame 0x03 seq (fun s => svcStat 0 (endSession s)) s)

/-- SVC_STATUS (Table 18-3). -/
def execSvcStatus (seq : Nat) (s : State) : Res := .next (svcFrame 0x10 seq (fun s => (0, 0, statusOut s, s)) s)

/-- READ_LOG (Table 18-3; 19_almanac_log_identity R657): INDEX 4 B, count 2 B. -/
def execReadLog (seq : Nat) (input : List Byte) (s : State) : Res :=
  .next (svcFrame 0x11 seq (fun s => withRole 0 s fun s => inStates (notSaving s) s fun s =>
    wellInput (input.length = 6 && decide (1 ≤ num input 4 2 ∧ num input 4 2 ≤ 67)) s fun s =>
      (0, 0, logFrom s (num input 0 4) (num input 4 2), s)) s)

/-- READ_REG (Table 18-3): BAR0 offset 4 B, count 2 B. -/
def execReadReg (seq : Nat) (input : List Byte) (s : State) : Res :=
  .next (svcFrame 0x12 seq (fun s => withRole 0 s fun s =>
    inStates (notSaving s && decide (s.dev.state ≠ .drydock)) s fun s =>
    wellInput (input.length = 6 && decide (1 ≤ num input 4 2 ∧ num input 4 2 ≤ 1024)) s fun s =>
      let r := readRegs (num input 4 2) (num input 0 4) s
      (0, 0, r.1, r.2)) s)

/-- READ_ATTIC (R618): window offset 4 B, length 2 B; the word `failAt`, if any, decodes at no threshold. -/
def execReadAttic (seq : Nat) (input : List Byte) (failAt : Option Nat) (s : State) : Res :=
  .next (svcFrame 0x13 seq (fun s => withRole 0 s fun s => inStates (notSaving s) s fun s =>
    let ofs := num input 0 4
    let len := num input 4 2
    wellInput (input.length = 6 && decide (8 ≤ len ∧ len ≤ 4096 ∧ len % 8 = 0 ∧ ofs % 8 = 0 ∧ ofs + len ≤ 2 * bankBytes)) s
      fun s =>
        if protectedRange ofs len then svcStat 0x0F s
        else
          match readWords (len / 8) 0 ofs failAt s with
          | (some l, s) => (0, 0, l, s)
          | (none, s) => svcStat 0x0E s) s)

/-- READ_NAND (R645): die, partition, block, row, plane, codeword; `ok` when the page decodes on some threshold set. -/
def execReadNand (seq : Nat) (input : List Byte) (ok : Bool) (s : State) : Res :=
  .next (svcFrame 0x14 seq (fun s => withRole 0 s fun s => inStates (notSaving s) s fun s =>
    let d := num input 0 1
    let part := num input 1 1
    let b := num input 2 2
    let row := num input 4 2
    let p := num input 6 1
    let c := num input 7 1
    wellInput (input.length = 8 && nandPlace s d part b row p c) s fun s =>
      if !ok then
        svcStat 0x0E (raiseAddr celReadUe 0 mService 1 { s with cel := { s.cel with ue := satInc 0xFFFFFFFF s.cel.ue } })
      else
        let (n, s) := takeFree s
        let g := nandPage s n part d b row p
        (0, 0, g.codeword c ++ g.tag, s)) s)

/-- PKG_BEGIN (R619 to R625). -/
def execPkgBegin (seq : Nat) (input : List Byte) (attic : Option Nat) (s : State) : Res :=
  .next (svcFrame 0x20 seq (fun s => noteResult (pkgBegin input attic s)) s)

/-- PKG_CHUNK (R626 to R629). -/
def execPkgChunk (seq : Nat) (input : List Byte) (attic : Option Nat) (readBack : Bool) (s : State) : Res :=
  .next (svcFrame 0x21 seq (fun s => noteResult (pkgChunk input attic readBack s)) s)

/-- PKG_END (R630). -/
def execPkgEnd (seq : Nat) (attic : Option Nat) (s : State) : Res :=
  .next (svcFrame 0x22 seq (fun s => noteResult (pkgEnd attic s)) s)

/-- What ACTIVATE comes to (R635 to R639): refused, or the ACTIVATED marker and the handover of the cores in their order, of
which `cores` have reported ready; none while the handover is not over. -/
def activateSet (cores : Nat) (attic : Option Nat) (s : State) : Option SvcAns × State :=
  let b := spareBank s
  let st := bankState (svcBank s b)
  let no := fun (c : Nat) (s : State) => (some (svcStat c s), s)
  if !s.svc.roles.getLsbD 1 then no 0x03 s
  else if !serviceOrHarbour s then no 0x04 s
  else if s.svc.denyUpdate then no 0x0F s
  else if s.svc.phase = 3 ∨ (st ≠ 2 ∧ st ≠ 3) then no 0x04 s
  else if !probeAccepts s b then no 0x0B (raise svcRefused s)
  else
    match attic with
    | some c => (some (0x0A, c, [], s), s)
    | none =>
      let s := if st = 2 then programMarker b .activated true s else s
      let s := setPhase 3 b { s with svc := { s.svc with handed := min cores 4 } }
      if 4 ≤ cores then
        let s := beginProbation b s
        (some (svcStat 0 s), s)
      else (none, s)

/-- ACTIVATE (R635 to R638). The answer waits for the end of the handover (R611). -/
def execActivate (seq cores : Nat) (attic : Option Nat) (s : State) : Res :=
  .next (svcFrameOpt 0x23 seq (fun s =>
    let r := activateSet cores attic s
    (r.1.map noteResult, r.2)) s)

/-- HANDOVER_READY_TIMEOUT (R639): a new core has not reported ready within 50 ms; all four cores restart on the old set. -/
def execHandoverReadyTimeout (s : State) : Res :=
  if s.svc.phase = 3 ∧ notSaving s = true then
    let s := advanceTo (s.almanac + 50000) s
    let s := raiseAddr svcHandoverFail s.svc.handed mNone 0 s
    .next (payOwed 0x23 0x0A (setPhase 0 (spareBank s) { s with svc := { s.svc with handed := 0 } }))
  else .next s

/-- CONFIRM (R642); `first` and `second` tell how the marker reads after its first and its second program. -/
def execConfirm (seq : Nat) (first second : Bool) (s : State) : Res :=
  .next (svcFrame 0x24 seq (fun s => noteResult (withRole 1 s fun s =>
    inStates (serviceOrHarbour s && decide (s.svc.phase = 4)) s fun s =>
      let r := confirmSet first second s
      (r.1, r.2.1, [], r.2.2))) s)

/-- AUTO_CONFIRM (R641): PROBATION_MIN minutes of probation in SERVICE or HARBOUR without a rise above Notify. -/
def execAutoConfirm (first second : Bool) (s : State) : Res :=
  if s.svc.phase = 4 ∧ serviceOrHarbour s = true ∧ autoPending s = true then
    let s := advanceTo (s.almanac + (s.svc.probationMin * 60000000 - s.svc.probUs)) s
    let r := confirmSet first second s
    .next (setResult r.1 r.2.2)
  else .next s

/-- ABORT (R631). -/
def execSvcAbort (seq : Nat) (s : State) : Res := .next (svcFrame 0x25 seq pkgAbort s)

/-- SVC_PROGRESS (R611): 100 ms of a long operation of the command `seq`; the permille done. -/
def execSvcProgress (seq permille : Nat) (s : State) : Res :=
  if hatchServed s && s.svc.pres then
    let s := advanceTo (s.almanac + 100000) s
    .next (sendResponse s.svc 0x7F seq (leBytes 2 permille) { s with svc := { s.svc with progress := some permille } })
  else .next s

/-- A frame that R609 discards. -/
def discardFrame (s : State) : State :=
  if hatchServed s then { s with svc := { s.svc with badFrames := satInc 0xFFFF s.svc.badFrames } } else s

/-- SVC_FRAME_TIMEOUT (R609): more than 1 ms between two bytes of a frame. -/
def execSvcFrameTimeout (s : State) : Res := .next (discardFrame s)

/-- DISCARDED_FRAME (R609, R613): a wrong CRC, a wrong or missing MAC, an oversize LEN or a reserved bit. -/
def execDiscardedFrame (s : State) : Res := .next (discardFrame s)

/-- SVC_PRES_HIGH (R606): SVC_PRES_N has been high for 10 ms. -/
def execSvcPresHigh (s : State) : Res :=
  if s.svc.pres then .next (endSession (advanceTo (s.almanac + 10000) { s with svc := { s.svc with pres := false } }))
  else .next s

/-- SVC_SESSION_IDLE (R615): 300 s without a valid command. -/
def execSvcSessionIdle (s : State) : Res :=
  if s.svc.session ≠ .none then .next (endSession (advanceTo (s.svc.lastCmdAt + 300000000) s)) else .next s

/-- AUTH_LOCKOUT_EXPIRE (R614). -/
def execAuthLockoutExpire (s : State) : Res :=
  match s.svc.lockedUntil with
  | none => .next s
  | some t => .next (let s := advanceTo t s; { s with svc := { s.svc with lockedUntil := none } })

/-- BOOT_IMAGE_CHECK (R634, R643): step 2 of a boot; `pass` is the whole check of the selected set. -/
def execBootImageCheck (pass : Bool) (s : State) : Res :=
  if s.dev.state = .boot ∧ s.svc.selected = false then .next (imageCheck pass s) else .next s

end Sys2Proof.Machine
end

