-- ==== Sys2Proof/Machine/Tap.lean ====
section
/-! DEFINITION. The commands of the TAP (21_package_pins_electrical R696, R697). -/

namespace Sys2Proof.Machine

/-- The part takes up EXTEST, CLAMP and HIGHZ: the factory default plan is in force, and the Cellar, Vestibule and Meta
partitions hold no save header and no Room-map record (R697). -/
def scanAllowed (s : State) : Bool :=
  s.fpl.isDefault && s.cel.journal.isEmpty && s.cel.areaA.isNone && s.cel.areaB.isNone && s.sav.port.rec_.isNone &&
    s.sav.stbd.rec_.isNone

/-- The instruction that acts: BYPASS in place of one that R697 does not let the part take up. -/
def tapActs (s : State) : TapInstr :=
  match s.jtag.instr with
  | .extest => if scanAllowed s then .extest else .bypass
  | .clamp => if scanAllowed s then .clamp else .bypass
  | .highz => if scanAllowed s then .highz else .bypass
  | i => i

/-- The pins are driven from the boundary cells; the pins float (R697). -/
def pinsDriven (s : State) : Bool := tapActs s = .extest || tapActs s = .clamp
def pinsFloat (s : State) : Bool := tapActs s = .highz

/-- The TAP runs from the part's supplies. -/
def tapPowered (s : State) : Bool :=
  match s.dev.state with
  | .off | .saved => false
  | _ => true

/-- Load an instruction, with the value that the selected data register then shifts out. -/
def tapLoad (i : TapInstr) (out : Nat) (s : State) : State :=
  if tapPowered s then emit (.tap out) { s with jtag := { s.jtag with instr := i } } else s

/-- A list of cells as a number, first cell lowest. -/
def cellNum (l : List Bool) : Nat := l.foldr (fun b n => b2n b + 2 * n) 0

/-- JTAG_BYPASS (R696): the bypass register captures 0. -/
def execJtagBypass (s : State) : Res := .next (tapLoad .bypass 0 s)

/-- The identification code (R696). -/
def idcode : Nat := 0xB * 2 ^ 28 + 0x7824 * 2 ^ 12 + 0x2B5 * 2 + 1

/-- JTAG_IDCODE (R696). -/
def execJtagIdcode (s : State) : Res := .next (tapLoad .idcode idcode s)

/-- JTAG_SAMPLE_PRELOAD (R696): the pins are sampled and the cells loaded. -/
def execJtagSamplePreload (pins cells : List Bool) (s : State) : Res :=
  if tapPowered s then .next (tapLoad .samplePreload (cellNum pins) { s with jtag := { s.jtag with cells := cells } })
  else .next s

/-- JTAG_EXTEST (R697): the pins are captured and the cells, loaded, drive the pins; otherwise BYPASS. -/
def execJtagExtest (pins cells : List Bool) (s : State) : Res :=
  if tapPowered s then
    if scanAllowed s then .next (tapLoad .extest (cellNum pins) { s with jtag := { s.jtag with cells := cells } })
    else .next (tapLoad .extest 0 s)
  else .next s

/-- JTAG_CLAMP and JTAG_HIGHZ (R697): the bypass register is selected. -/
def execJtagClamp (s : State) : Res := .next (tapLoad .clamp 0 s)
def execJtagHighz (s : State) : Res := .next (tapLoad .highz 0 s)

end Sys2Proof.Machine
end

