-- ==== Sys2Proof/Machine/OpsTws.lean ====
section
/-! DEFINITION. The two-wire ports as shared operations: PEC, the pages of the SB view, what a write applies, the failures of
the pack-bus controller (17_two_wire_ports R577 to R602). -/

namespace Sys2Proof.Machine

/-- One bit of the SMBus CRC-8, polynomial x⁸ + x² + x + 1. -/
def pecBit (c : Byte) : Byte := if c.getLsbD 7 then (c <<< 1) ^^^ 0x07#8 else c <<< 1

/-- One byte into the CRC-8. -/
def pecByte (c b : Byte) : Byte :=
  let c := c ^^^ b
  pecBit (pecBit (pecBit (pecBit (pecBit (pecBit (pecBit (pecBit c)))))))

/-- The PEC over the bytes of a transaction (R587). -/
def pec (l : List Byte) : Byte := l.foldl pecByte 0

/-- A page as bytes from 0x00; bytes past the list read 0 (R586). -/
def pageBytes (s : State) (page : Nat) : List Byte :=
  let reg := fun (o : Nat) => wordBytes ((regView s o).getD 0)
  let id := s.plan.identity
  match page with
  | 0x00 =>
    [0x3A, 0x1F, 0x24, 0x78, 0xB0, BitVec.ofNat 8 (variantCode s), BitVec.ofNat 8 (gradeCode s), 0] ++
      leBytes 4 cmdsetVersion ++ leBytes 4 s.fpl.plan.crc ++ unitIdentity s ++ leBytes 2 id.subsysVid ++
      leBytes 2 id.subsysId ++ leBytes 4 0x00010000 ++ padTo 32 id.moduleSn
  | 0x01 => persistenceStatus s ++ wordBytes (viewDevState s) ++ leBytes 2 (signedBits 16 s.pwr.tj)
  | 0x02 => reg 0xA0000 ++ reg 0xA000C ++ reg 0xA0014 ++ reg 0xB0004 ++ reg 0xC0020 ++ reg 0xC0028 ++ reg 0xC0000 ++ reg 0xA001C
  | 0x03 => wordBytes (viewDevFault s) ++ wordBytes (viewDevRepl s) ++ (Block.all.map fun b => wordBytes (viewFlevel s b)).flatten
  | 0x04 => [s.tws.alert, s.tws.mask, BitVec.ofNat 8 s.tws.rdLen]
  | 0x10 => leBytes 8 s.almanac ++ leBytes 8 (signedBits 64 s.log.offset) ++ reg 0x130010 ++ reg 0x130014 ++ reg 0x130018
  | 0x11 => lifeBytes s
  | 0x12 => reg 0x80018 ++ reg 0x60034 ++ reg 0x6003C ++ reg 0xB000C ++ reg 0xB0010 ++ reg 0xE0030
  | _ => []

/-- The snapshot of the selected page: 256 bytes, byte 0xFF of which is PAGE (R583, R584). -/
def snapshot (s : State) : List Byte := padTo 255 (pageBytes s s.tws.page.toNat) ++ [s.tws.page]

/-- `n` bytes of a snapshot from a pointer, which wraps to 0x00 (R583). -/
def snapFrom (snap : List Byte) (p n : Nat) : List Byte := (List.range n).map fun i => (snap[(p + i) % 256]?).getD 0

/-- Move the pointer on (R583). -/
def movePointer (n : Nat) (s : State) : State :=
  { s with tws := { s.tws with pointer := s.tws.pointer + BitVec.ofNat 8 n } }

/-- A data byte at the pointer (R583, R586, Table 17-4). -/
def applyByte (b : Byte) (s : State) : State :=
  let p := s.tws.pointer
  let s :=
    if p = 0xFF then { s with tws := { s.tws with page := b } }
    else if s.tws.page = 4 ∧ p = 0 then clearAlert b s
    else if s.tws.page = 4 ∧ p = 1 then { s with tws := { s.tws with mask := b } }
    else if s.tws.page = 4 ∧ p = 2 ∧ b.toNat ≤ 32 then { s with tws := { s.tws with rdLen := b.toNat } }
    else s
  movePointer 1 s

/-- The bytes of a write that takes effect: the pointer, then data (R583). -/
def applyWrite (l : List Byte) (s : State) : State :=
  match l with
  | [] => s
  | p :: r => r.foldl (fun s b => applyByte b s) { s with tws := { s.tws with pointer := p } }

/-- The target serves the bus (R580). -/
def sbServes (s : State) : Bool :=
  planUp s && match s.dev.state with
    | .off | .saved | .drydock => false
    | _ => true

/-- A raise at the TWS station: PAGE × 256 + pointer (R603). -/
def twsRaise (c : FClass) (s : State) : State := raiseAddr c (s.tws.page.toNat * 256 + s.tws.pointer.toNat) mNone 0 s

/-- A wrong or a missing PEC (R587). -/
def pecError (s : State) : State := twsRaise twsPecErr { s with tws := { s.tws with pecErr := true } }

/-- A START seen by the awake target: the mode bits are taken up (R579) and the sleep time starts again (R581). -/
def sbStart (s : State) : State :=
  let w := s.plan.sideband
  { s with tws := { s.tws with mode := w.mode, pec := w.pec, timeoutEn := w.timeoutEn, startAt := s.almanac } }

/-- A START that the target does not acknowledge under R582: the one that wakes it, and one within 20 µs after. -/
def wakeNak (s : State) : State :=
  emit (.sb false []) { s with tws := { s.tws with wakeNak := satInc 0xFFFF s.tws.wakeNak } }

/-- The waking START (R582). -/
def sbWake (s : State) : State :=
  wakeNak { s with tws := { s.tws with sleeping := false, wokeAt := some s.almanac, startAt := s.almanac } }

/-- Within 20 µs of the waking START (R582). -/
def justWoken (s : State) : Bool :=
  match s.tws.wokeAt with
  | some t => s.almanac < t + 20
  | none => false

/-- What precedes a transaction: what the target does with its START, with the rest of the transaction where it answers
(R580, R582, R593). -/
def onStart (f : State → State) (s : State) : State :=
  if !sbServes s then emit (.sb false []) s
  else if s.tws.ignoring then emit (.sb false []) { s with tws := { s.tws with ignoring := false } }
  else if s.tws.sleeping then sbWake s
  else if justWoken s then wakeNak s
  else f (sbStart s)

/-- A transaction acknowledged (TWS_COUNT.XFERS). -/
def countXfer (s : State) : State := { s with tws := { s.tws with xfers := (s.tws.xfers + 1) % 65536 } }

/-- The answer to a read of `n` bytes, after the bytes that went before on the wire (R584, R587). -/
def sbRead (before : List Byte) (n : Nat) (s : State) : State :=
  let a := BitVec.ofNat 8 (2 * s.plan.sideband.addr + 1)
  let p := s.tws.pointer.toNat
  let snap := snapshot s
  let n := max 1 n
  if s.tws.pec then
    let d := snapFrom snap p s.tws.rdLen
    let line := d ++ [pec (before ++ [a] ++ d)] ++ List.replicate n 0xFF
    emit (.sb true (line.take n)) (movePointer s.tws.rdLen s)
  else emit (.sb true (snapFrom snap p n)) (movePointer n s)

/-- A write transaction ended by a STOP (R585, R587, R591). -/
def sbStop (addr : Byte) (l : List Byte) (s : State) : State :=
  if 34 < l.length then { s with tws := { s.tws with overlong := true } }
  else if l.isEmpty then s
  else if s.tws.pec then
    if 2 ≤ l.length ∧ l.getLast? = some (pec (addr :: l.dropLast)) then applyWrite l.dropLast s else pecError s
  else applyWrite l s

/-- A write transaction ended by a repeated START into a read (R585, R587). -/
def sbRestart (l : List Byte) (s : State) : State :=
  if 34 < l.length then { s with tws := { s.tws with overlong := true } }
  else if s.tws.pec then
    let s' := applyWrite (l.take 1) s
    if 2 ≤ l.length then pecError s' else s'
  else applyWrite l s

/-! ### The pack-bus controller (R594 to R602) -/

/-- The commands of Table 10-5. -/
def pbCommand (c : Nat) : Bool := [0x00, 0x01, 0x02, 0x03, 0x04, 0x10, 0x11, 0x12].contains c

/-- The controller may start a transaction or a bus clear: enabled, and not between the Fence and the end of SAVING (R594,
R602). -/
def pbRuns (s : State) : Bool := planUp s && decide (s.plan.sideband.pbTiming0 ≠ 0) && chargeState s.dev.state

/-- NRG takes a transaction that has failed for good as result 3 (R597). -/
def pbGivesUp (s : State) : State :=
  let s := { s with twp := { s.twp with pending := none } }
  if s.nrg.auth.isSome then endAuth 3 0 s else s

/-- The third failure (R597). -/
def pbXferFail (cmd : Nat) (s : State) : State :=
  pbGivesUp (raiseAddr twpXferFail cmd mNone 0 { s with twp := { s.twp with xferFail := true } })

/-- A failure of the transaction in progress: kept for its retry, or the last (R597). -/
def pbFail (cmd : Nat) (s : State) : State :=
  match s.twp.pending with
  | none => { s with twp := { s.twp with pending := some { cmd := cmd, fails := 1, failedAt := s.almanac } } }
  | some p =>
    if 2 ≤ p.fails then pbXferFail p.cmd s
    else { s with twp := { s.twp with pending := some { p with fails := p.fails + 1, failedAt := s.almanac } } }

/-- The attempt that starts now: the retry 1 ms after a failure, counted, or the first attempt at a command (R597). -/
def pbAttempt (cmd : Nat) (s : State) : Nat × State :=
  match s.twp.pending with
  | none => (cmd, emit (.pb cmd 1) s)
  | some p =>
    let s := advanceTo (p.failedAt + 1000) s
    (p.cmd, emit (.pb p.cmd (p.fails + 1)) { s with twp := { s.twp with retries := satInc 0xFF s.twp.retries } })

/-- An attempt that ends with a result: success is counted, a failure under R597. -/
def pbEnd (cmd : Nat) (ok : Bool) (s : State) : State :=
  if ok then { s with twp := { s.twp with pending := none, xfers := (s.twp.xfers + 1) % 65536 } } else pbFail cmd s

/-- Whether an attempt at a command can start now: a pack of another major version is given none (10_energy_pack R381). -/
def pbStarts (cmd : Nat) (s : State) : Bool :=
  pbRuns s && !s.twp.clearOwed && s.nrg.authResult ≠ 4 && (s.twp.pending.isSome || pbCommand cmd)

/-- An attempt that a bus condition ends: what the condition sets and raises, then the failure (R598 to R600). -/
def pbBroken (cmd : Nat) (mark : Twp → Twp) (c : FClass) (s : State) : State :=
  let (k, s) := pbAttempt cmd s
  pbFail k (raiseAddr c k mNone 0 { s with twp := mark s.twp })

/-- A bus clear (R601): nine pulses at most, a STOP, and SDA as it is then. -/
def busClear (sdaHigh : Bool) (s : State) : State :=
  let t := { s.twp with clears := satInc 0xFF s.twp.clears, bushung := !sdaHigh, clearOwed := !sdaHigh }
  let s := { s with twp := t }
  if sdaHigh then s else pbGivesUp (raiseAddr twpBushung 0xFF mNone 0 s)

end Sys2Proof.Machine
end

