-- ==== Sys2Proof/Machine/TwoWire.lean ====
section
/-! DEFINITION. The commands of the two-wire ports: the sideband target SB and the pack-bus controller PB
(17_two_wire_ports). -/

namespace Sys2Proof.Machine

/-- SB_SLEEP (R581): SB has seen no START for SLEEP_MS. -/
def execSbSleep (s : State) : Res :=
  if sbServes s && !s.tws.sleeping && decide (s.tws.sleepMs ≠ 0) && !alertDriven s then
    let s := advanceTo (s.tws.startAt + s.tws.sleepMs * 1000) s
    .next { s with tws := { s.tws with sleeping := true } }
  else .next s

/-- SB_WAKE (R582): a START wakes the sleeping target and is not acknowledged. -/
def execSbWake (s : State) : Res := .next (if sbServes s && s.tws.sleeping then sbWake s else s)

/-- SB_READ (R584, R587): a read transaction to an address, of which the controller takes `n` bytes. -/
def execSbRead (addr n : Nat) (s : State) : Res :=
  .next (onStart (fun s => if addr = s.plan.sideband.addr then sbRead [] n (countXfer s) else emit (.sb false []) s) s)

/-- SB_WRITE (R585, R587, R591): a write transaction of the bytes that follow the address, ended by a STOP, or by a repeated
START into a read of `reread` bytes. -/
def execSbWrite (addr : Nat) (data : List Byte) (reread : Option Nat) (s : State) : Res :=
  .next (onStart (fun s =>
    if addr = s.plan.sideband.addr then
      let a := BitVec.ofNat 8 (2 * addr)
      let s := countXfer s
      match reread with
      | none => emit (.sb true []) (sbStop a data s)
      | some n => sbRead (a :: data) n (sbRestart data s)
    else emit (.sb false []) s) s)

/-- SB_ALERT_RESPONSE (R589): a read of 0x0C, with the lowest byte that another device sends at the same time; `more` when the
controller acknowledges the byte. -/
def execSbAlertResponse (other : Option Nat) (more : Bool) (s : State) : Res :=
  .next (onStart (fun s =>
    if alertDriven s then
      let mine := 2 * s.plan.sideband.addr
      let s := countXfer s
      let b := BitVec.ofNat 8 mine
      let tail := if s.tws.pec && more then [pec [0x19, b]] else []
      let won := emit (.sb true (b :: tail)) { s with tws := { s.tws with araHeld := true } }
      match other with
      | some o => if o < mine then emit (.sb true [BitVec.ofNat 8 o]) s else won
      | none => won
    else emit (.sb false []) s) s)

/-- SB_CLK_LOW_TIMEOUT (R592): SCL low for 25 ms within a transaction, which the target had acknowledged or not. -/
def execSbClkLowTimeout (acked : Bool) (s : State) : Res :=
  .next (onStart (fun s =>
    let s := if acked then countXfer s else s
    if s.tws.timeoutEn then
      twsRaise twsTimeout { (advanceTo (s.almanac + 25000) s) with tws := { s.tws with clkLowTo := true } }
    else s) s)

/-- SB_DATA_LOW_TIMEOUT (R592): SDA low for 25 ms with SCL high. -/
def execSbDataLowTimeout (s : State) : Res :=
  if sbServes s && !s.tws.sleeping && s.tws.timeoutEn then
    .next (twsRaise twsTimeout { (advanceTo (s.almanac + 25000) s) with tws := { s.tws with dataLowTo := true } })
  else .next s

/-- SB_PROTOCOL_ERROR (R593): a START in an acknowledge slot of a transaction; `released` when a STOP, or 50 µs with both lines
high, follows before the next START. -/
def execSbProtocolError (released : Bool) (s : State) : Res :=
  .next (onStart (fun s =>
    let s := countXfer s
    twsRaise twsProto { s with tws := { s.tws with proto := true, ignoring := !released } }) s)

/-- TWS_ALERT_WRITE (R590): a write of TWS_ALERT. -/
def execTwsAlertWrite (value : Word) (s : State) : Res :=
  match s.dev.state with
  | .off | .saved | .drydock => .next s
  | _ => .next (writeAlert value s)

/-- PB_TRANSACTION (R597): the first attempt at a command ends. -/
def execPbTransaction (cmd : Nat) (ok : Bool) (s : State) : Res :=
  if pbStarts cmd s && s.twp.pending.isNone then
    let r := pbAttempt cmd s
    .next (pbEnd r.1 ok r.2)
  else .next s

/-- PB_RETRY (R597): 1 ms after a failure. -/
def execPbRetry (ok : Bool) (s : State) : Res :=
  match s.twp.pending with
  | none => .next s
  | some p =>
    if pbStarts p.cmd s then
      let r := pbAttempt p.cmd s
      .next (pbEnd r.1 ok r.2)
    else .next s

/-- PB_CLK_LOW_TIMEOUT (R598): a target holds SCL low for 25 ms; SDA low then owes a bus clear. -/
def execPbClkLowTimeout (cmd : Nat) (sdaLow : Bool) (s : State) : Res :=
  .next (if pbStarts cmd s then
    pbBroken cmd (fun t => { t with clkLowTo := true, clearOwed := sdaLow }) twpTimeout (advanceTo (s.almanac + 25000) s)
    else s)

/-- PB_ARBITRATION_LOSS (R599): an ARB_COND loss while a STOP or a repeated START is formed. -/
def execPbArbitrationLoss (cmd : Nat) (cond : Bool) (s : State) : Res :=
  .next (if pbStarts cmd s then
    if cond then pbBroken cmd (fun t => { t with arbCond := true }) twpArbCond s
    else pbBroken cmd (fun t => { t with arbLost := true }) twpArbLost s
    else s)

/-- PB_PROTOCOL_ERROR (R600): a foreign START in an acknowledge slot. -/
def execPbProtocolError (cmd : Nat) (s : State) : Res :=
  .next (if pbStarts cmd s then pbBroken cmd (fun t => { t with proto := true }) twpProto s else s)

/-- PB_BUS_CLEAR (R601): at boot, after a block reset, and before a transaction that finds SDA low. -/
def execPbBusClear (sdaHigh : Bool) (s : State) : Res := .next (if pbRuns s then busClear sdaHigh s else s)

end Sys2Proof.Machine
end

