-- ==== Sys2Proof/Machine/Dispatch.lean ====
section
/-! DEFINITION. What each command does: one arm per constructor, one direct call of its meaning. -/

namespace Sys2Proof.Machine

/-- The effect of a command on everything but the queue of waiting commands. -/
def exec (i : Instr) (s : State) : Host.Outcome State Fault Refusal :=
  match i with
  | .p12vBelowThreshold => Sys2Proof.Machine.execP12vBelowThreshold s
  | .p12vValid aux => Sys2Proof.Machine.execP12vValid aux s
  | .musterInLow highAfter => Sys2Proof.Machine.execMusterInLow highAfter s
  | .perstNDeassert => Sys2Proof.Machine.execPerstNDeassert s
  | .hostLinkReset kind => Sys2Proof.Machine.execHostLinkReset kind s
  | .hostLinkTrained ver rate width flit256 msixEnable msixMask => Sys2Proof.Machine.execHostLinkTrained ver rate width flit256 msixEnable msixMask s
  | .drydockPowerRemoved => Sys2Proof.Machine.execDrydockPowerRemoved s
  | .badAccess bar2 offset size write => Sys2Proof.Machine.execBadAccess bar2 offset size write s
  | .registerWrite bar2 offset value => Sys2Proof.Machine.execRegisterWrite bar2 offset value s
  | .regPairLoRead bar2 offset => Sys2Proof.Machine.execRegPairLoRead bar2 offset s
  | .regPairHiWrite offset lo hi => Sys2Proof.Machine.execRegPairHiWrite offset lo hi s
  | .hostWriteRequest tag hpa data enables poison parityBad => Sys2Proof.Machine.execHostWriteRequest tag hpa data enables poison parityBad s
  | .claimPresent tag => Sys2Proof.Machine.execClaimPresent tag s
  | .hostWriteAccept tag => Sys2Proof.Machine.execHostWriteAccept tag s
  | .hostRead tag hpa => Sys2Proof.Machine.execHostRead tag hpa s
  | .volatileFillDone tile => Sys2Proof.Machine.execVolatileFillDone tile s
  | .discardWindowEnd => Sys2Proof.Machine.execDiscardWindowEnd s
  | .gpfPhase1 => Sys2Proof.Machine.execGpfPhase1 s
  | .gpfPhase2 => Sys2Proof.Machine.execGpfPhase2 s
  | .gpfPhase2Drained => Sys2Proof.Machine.execGpfPhase2Drained s
  | .ideKeyProgram ioSecure memSecure => Sys2Proof.Machine.execIdeKeyProgram ioSecure memSecure s
  | .ideIntegrityFailure stream => Sys2Proof.Machine.execIdeIntegrityFailure stream s
  | .identify => Sys2Proof.Machine.execIdentify s
  | .backgroundOperationStatus => Sys2Proof.Machine.execBackgroundOperationStatus s
  | .getEventRecords log => Sys2Proof.Machine.execGetEventRecords log s
  | .clearEventRecords log all handles => Sys2Proof.Machine.execClearEventRecords log all handles s
  | .getEventInterruptPolicy => Sys2Proof.Machine.execGetEventInterruptPolicy s
  | .setEventInterruptPolicy settings => Sys2Proof.Machine.execSetEventInterruptPolicy settings s
  | .getFwInfo => Sys2Proof.Machine.execGetFwInfo s
  | .transferFw => Sys2Proof.Machine.execTransferFw s
  | .activateFw => Sys2Proof.Machine.execActivateFw s
  | .getTimestamp => Sys2Proof.Machine.execGetTimestamp s
  | .setTimestamp ns => Sys2Proof.Machine.execSetTimestamp ns s
  | .getSupportedLogs => Sys2Proof.Machine.execGetSupportedLogs s
  | .getLog ofs len => Sys2Proof.Machine.execGetLog ofs len s
  | .identifyMemoryDevice => Sys2Proof.Machine.execIdentifyMemoryDevice s
  | .getPartitionInfo => Sys2Proof.Machine.execGetPartitionInfo s
  | .setPartitionInfo => Sys2Proof.Machine.execSetPartitionInfo s
  | .getLsa ofs len ok => Sys2Proof.Machine.execGetLsa ofs len ok s
  | .setLsa ofs data => Sys2Proof.Machine.execSetLsa ofs data s
  | .getHealthInfo => Sys2Proof.Machine.execGetHealthInfo s
  | .getAlertConfiguration => Sys2Proof.Machine.execGetAlertConfiguration s
  | .setAlertConfiguration cfg => Sys2Proof.Machine.execSetAlertConfiguration cfg s
  | .getShutdownState => Sys2Proof.Machine.execGetShutdownState s
  | .setShutdownState dirty => Sys2Proof.Machine.execSetShutdownState dirty s
  | .getPoisonList dpa len => Sys2Proof.Machine.execGetPoisonList dpa len s
  | .injectPoison dpa => Sys2Proof.Machine.execInjectPoison dpa s
  | .clearPoison dpa data => Sys2Proof.Machine.execClearPoison dpa data s
  | .getScanMediaCapabilities => Sys2Proof.Machine.execGetScanMediaCapabilities s
  | .scanMedia => Sys2Proof.Machine.execScanMedia s
  | .scanMediaComplete => Sys2Proof.Machine.execScanMediaComplete s
  | .getScanMediaResults => Sys2Proof.Machine.execGetScanMediaResults s
  | .sanitize => Sys2Proof.Machine.execSanitize s
  | .secureErase => Sys2Proof.Machine.execSecureErase s
  | .sanitizeComplete => Sys2Proof.Machine.execSanitizeComplete s
  | .pendingSanitizeReplay => Sys2Proof.Machine.execPendingSanitizeReplay s
  | .mailboxUnsupported opcode => Sys2Proof.Machine.execMailboxUnsupported opcode s
  | .getVendorIdentity => Sys2Proof.Machine.execGetVendorIdentity s
  | .getPersistenceStatus => Sys2Proof.Machine.execGetPersistenceStatus s
  | .getSuiteStatus first count => Sys2Proof.Machine.execGetSuiteStatus first count s
  | .harbourAcknowledge => Sys2Proof.Machine.execHarbourAcknowledge s
  | .setEnergyGrant joules validS seq => Sys2Proof.Machine.execSetEnergyGrant joules validS seq s
  | .grantLapse => Sys2Proof.Machine.execGrantLapse s
  | .getReckoning => Sys2Proof.Machine.execGetReckoning s
  | .getLastSaveReport => Sys2Proof.Machine.execGetLastSaveReport s
  | .getRestoredPoisonTiles start => Sys2Proof.Machine.execGetRestoredPoisonTiles start s
  | .getLifetimeCounters => Sys2Proof.Machine.execGetLifetimeCounters s
  | .getMirrorStatus => Sys2Proof.Machine.execGetMirrorStatus s
  | .promote set force => Sys2Proof.Machine.execPromote set force s
  | .handover set noticeMs => Sys2Proof.Machine.execHandover set noticeMs s
  | .drill set dwellS => Sys2Proof.Machine.execDrill set dwellS s
  | .getDrillResult set => Sys2Proof.Machine.execGetDrillResult set s
  | .trainingAttemptEnd sc pass record => Sys2Proof.Machine.execTrainingAttemptEnd sc pass record s
  | .zqCalDue sc ok => Sys2Proof.Machine.execZqCalDue sc ok s
  | .dqsOscDue sc fine ok => Sys2Proof.Machine.execDqsOscDue sc fine ok s
  | .calDeferExpire sc kind => Sys2Proof.Machine.execCalDeferExpire sc kind s
  | .drcPick sc ok => Sys2Proof.Machine.execDrcPick sc ok s
  | .refreshTick sc elapsedNs => Sys2Proof.Machine.execRefreshTick sc elapsedNs s
  | .mr4Read sc rank band twox high ok => Sys2Proof.Machine.execMr4Read sc rank band twox high ok s
  | .selfRefreshIdle sc => Sys2Proof.Machine.execSelfRefreshIdle sc s
  | .selfRefreshExit sc ok => Sys2Proof.Machine.execSelfRefreshExit sc ok s
  | .dramReadReturn beat mstr errors => Sys2Proof.Machine.execDramReadReturn beat mstr errors s
  | .patrolRead errors => Sys2Proof.Machine.execPatrolRead errors s
  | .patrolPassEnd => Sys2Proof.Machine.execPatrolPassEnd s
  | .chartEntryUe room => Sys2Proof.Machine.execChartEntryUe room s
  | .mapRereadDone room pass => Sys2Proof.Machine.execMapRereadDone room pass s
  | .tileStateUe byte => Sys2Proof.Machine.execTileStateUe byte s
  | .chtRoomSelWrite value => Sys2Proof.Machine.execChtRoomSelWrite value s
  | .suiteContextUe suite => Sys2Proof.Machine.execSuiteContextUe suite s
  | .sweepVisit => Sys2Proof.Machine.execSweepVisit s
  | .stowStart => Sys2Proof.Machine.execStowStart s
  | .padTimeout die => Sys2Proof.Machine.execPadTimeout die s
  | .nandProgramDone die us pass => Sys2Proof.Machine.execNandProgramDone die us pass s
  | .roomMapBuild room => Sys2Proof.Machine.execRoomMapBuild room s
  | .journalPageIssue => Sys2Proof.Machine.execJournalPageIssue s
  | .metaProgramDone page us passA passB => Sys2Proof.Machine.execMetaProgramDone page us passA passB s
  | .stowCompletion room => Sys2Proof.Machine.execStowCompletion room s
  | .stallReevaluate => Sys2Proof.Machine.execStallReevaluate s
  | .stallBound index => Sys2Proof.Machine.execStallBound index s
  | .stallEventWindow => Sys2Proof.Machine.execStallEventWindow s
  | .wearAccrualTick => Sys2Proof.Machine.execWearAccrualTick s
  | .counterStore => Sys2Proof.Machine.execCounterStore s
  | .wearProjection => Sys2Proof.Machine.execWearProjection s
  | .staggerElapsed => Sys2Proof.Machine.execStaggerElapsed s
  | .drainComplete => Sys2Proof.Machine.execDrainComplete s
  | .savingEntry => Sys2Proof.Machine.execSavingEntry s
  | .saveHeaderDone => Sys2Proof.Machine.execSaveHeaderDone s
  | .saveTileRead => Sys2Proof.Machine.execSaveTileRead s
  | .saveTileDone index us pass => Sys2Proof.Machine.execSaveTileDone index us pass s
  | .saveRateTick packMa packMv => Sys2Proof.Machine.execSaveRateTick packMa packMv s
  | .packExhausted => Sys2Proof.Machine.execPackExhausted s
  | .vbusLowTimeout => Sys2Proof.Machine.execVbusLowTimeout s
  | .keeperBusError fromAttic => Sys2Proof.Machine.execKeeperBusError fromAttic s
  | .saveSealDone pass => Sys2Proof.Machine.execSaveSealDone pass s
  | .warmReturnComplete => Sys2Proof.Machine.execWarmReturnComplete s
  | .serviceOpenProgrammed => Sys2Proof.Machine.execServiceOpenProgrammed s
  | .halfEraseDone half => Sys2Proof.Machine.execHalfEraseDone half s
  | .bootImageCheck pass => Sys2Proof.Machine.execBootImageCheck pass s
  | .floorPlanLoad => Sys2Proof.Machine.execFloorPlanLoad s
  | .railsValid => Sys2Proof.Machine.execRailsValid s
  | .railUv rail foldback => Sys2Proof.Machine.execRailUv rail foldback s
  | .railLost rail => Sys2Proof.Machine.execRailLost rail s
  | .metaReadDone lostPages lostKeys bad => Sys2Proof.Machine.execMetaReadDone lostPages lostKeys bad s
  | .restoreDecision => Sys2Proof.Machine.execRestoreDecision s
  | .zeroFillDone => Sys2Proof.Machine.execZeroFillDone s
  | .restorePresetDone badOwn badBase mapBad => Sys2Proof.Machine.execRestorePresetDone badOwn badBase mapBad s
  | .earlyTenancyEntry => Sys2Proof.Machine.execEarlyTenancyEntry s
  | .restoreTileWritten tile halfBad imageBad => Sys2Proof.Machine.execRestoreTileWritten tile halfBad imageBad s
  | .foldStart => Sys2Proof.Machine.execFoldStart s
  | .nandReadDone part die block set soft ok tile => Sys2Proof.Machine.execNandReadDone part die block set soft ok tile s
  | .nandEraseDone part die block pass => Sys2Proof.Machine.execNandEraseDone part die block pass s
  | .checkpointDue => Sys2Proof.Machine.execCheckpointDue s
  | .journalBlockReclaim die block => Sys2Proof.Machine.execJournalBlockReclaim die block s
  | .gcReclaim die => Sys2Proof.Machine.execGcReclaim die s
  | .wearLevelMove part die => Sys2Proof.Machine.execWearLevelMove part die s
  | .nandPatrolRead part die block set soft bad last => Sys2Proof.Machine.execNandPatrolRead part die block set soft bad last s
  | .packRemoved packId ohms th0 th1 => Sys2Proof.Machine.execPackRemoved packId ohms th0 th1 s
  | .packInserted packId ohms th0 th1 atBoot reply => Sys2Proof.Machine.execPackInserted packId ohms th0 th1 atBoot reply s
  | .packAuthPoll status pubkey resp => Sys2Proof.Machine.execPackAuthPoll status pubkey resp s
  | .packAuthRetry reply => Sys2Proof.Machine.execPackAuthRetry reply s
  | .packThermSample th0 th1 ohms => Sys2Proof.Machine.execPackThermSample th0 th1 ohms s
  | .packMeasure packMv packMa p12vMv limited => Sys2Proof.Machine.execPackMeasure packMv packMa p12vMv limited s
  | .prechargeTimeout => Sys2Proof.Machine.execPrechargeTimeout s
  | .exerciseDue => Sys2Proof.Machine.execExerciseDue s
  | .exerciseRetry => Sys2Proof.Machine.execExerciseRetry s
  | .exerciseStart => Sys2Proof.Machine.execExerciseStart s
  | .exerciseAbort => Sys2Proof.Machine.execExerciseAbort s
  | .exerciseStopCheck => Sys2Proof.Machine.execExerciseStopCheck s
  | .resistancePulse => Sys2Proof.Machine.execResistancePulse s
  | .pulseNow => Sys2Proof.Machine.execPulseNow s
  | .gaugeRestReference => Sys2Proof.Machine.execGaugeRestReference s
  | .forceRef => Sys2Proof.Machine.execForceRef s
  | .restWindowOpen => Sys2Proof.Machine.execRestWindowOpen s
  | .restWindowTimeout => Sys2Proof.Machine.execRestWindowTimeout s
  | .estimatorStale => Sys2Proof.Machine.execEstimatorStale s
  | .capacityDerate => Sys2Proof.Machine.execCapacityDerate s
  | .gaugeRecordStore pass => Sys2Proof.Machine.execGaugeRecordStore pass s
  | .reckoningRun => Sys2Proof.Machine.execReckoningRun s
  | .reckoningPublish => Sys2Proof.Machine.execReckoningPublish s
  | .rekRun => Sys2Proof.Machine.execRekRun s
  | .packEolEval => Sys2Proof.Machine.execPackEolEval s
  | .klTrained peerMax peerMin => Sys2Proof.Machine.execKlTrained peerMax peerMin s
  | .revRetry => Sys2Proof.Machine.execRevRetry s
  | .helloMessage partner ident peers => Sys2Proof.Machine.execHelloMessage partner ident peers s
  | .flitReceive crcOk fseq hbState hbCount => Sys2Proof.Machine.execFlitReceive crcOk fseq hbState hbCount s
  | .linkRetrainEnd ok => Sys2Proof.Machine.execLinkRetrainEnd ok s
  | .creditMessage inStep resync => Sys2Proof.Machine.execCreditMessage inStep resync s
  | .partnerForwardSend => Sys2Proof.Machine.execPartnerForwardSend s
  | .partnerWriteEntry set wseq beat data enables poison resync => Sys2Proof.Machine.execPartnerWriteEntry set wseq beat data enables poison resync s
  | .ackMessage set wseq => Sys2Proof.Machine.execAckMessage set wseq s
  | .watchSend => Sys2Proof.Machine.execWatchSend s
  | .watchMessage w => Sys2Proof.Machine.execWatchMessage w s
  | .watchAckMessage no => Sys2Proof.Machine.execWatchAckMessage no s
  | .heartbeatSend => Sys2Proof.Machine.execHeartbeatSend s
  | .contactTimeout => Sys2Proof.Machine.execContactTimeout s
  | .partingMessage cause => Sys2Proof.Machine.execPartingMessage cause s
  | .pairWaitExpire => Sys2Proof.Machine.execPairWaitExpire s
  | .roleRecordProgrammed set pass => Sys2Proof.Machine.execRoleRecordProgrammed set pass s
  | .lanternAbandon => Sys2Proof.Machine.execLanternAbandon s
  | .lanternStuck => Sys2Proof.Machine.execLanternStuck s
  | .lanternToggling => Sys2Proof.Machine.execLanternToggling s
  | .resyncTileCopy set equal => Sys2Proof.Machine.execResyncTileCopy set equal s
  | .digestMessage tile digest => Sys2Proof.Machine.execDigestMessage tile digest s
  | .diffMessage tile => Sys2Proof.Machine.execDiffMessage tile s
  | .handoverBoundary set => Sys2Proof.Machine.execHandoverBoundary set s
  | .handoverMessage set epoch last => Sys2Proof.Machine.execHandoverMessage set epoch last s
  | .takenMessage set epoch => Sys2Proof.Machine.execTakenMessage set epoch s
  | .homeReqSend set => Sys2Proof.Machine.execHomeReqSend set s
  | .homeReqMessage set => Sys2Proof.Machine.execHomeReqMessage set s
  | .drillMessage set phase result => Sys2Proof.Machine.execDrillMessage set phase result s
  | .drillPhaseEnd set => Sys2Proof.Machine.execDrillPhaseEnd set s
  | .dmwChTailWrite ch value => Sys2Proof.Machine.execDmwChTailWrite ch value s
  | .dmwEnable ch value => Sys2Proof.Machine.execDmwEnable ch value s
  | .dmwPause ch => Sys2Proof.Machine.execDmwPause ch s
  | .dmwResume ch => Sys2Proof.Machine.execDmwResume ch s
  | .dmwReset ch => Sys2Proof.Machine.execDmwReset ch s
  | .dmwCopy ch => Sys2Proof.Machine.execDmwCopy ch s
  | .dmwFill ch => Sys2Proof.Machine.execDmwFill ch s
  | .dmwStow ch => Sys2Proof.Machine.execDmwStow ch s
  | .dmwFetch ch => Sys2Proof.Machine.execDmwFetch ch s
  | .dmwCheck ch => Sys2Proof.Machine.execDmwCheck ch s
  | .dmwStepGrant unreadable => Sys2Proof.Machine.execDmwStepGrant unreadable s
  | .dmwWriteAccept ch => Sys2Proof.Machine.execDmwWriteAccept ch s
  | .dmwDescriptorComplete ch => Sys2Proof.Machine.execDmwDescriptorComplete ch s
  | .atticProgram master bank cycles => Sys2Proof.Machine.execAtticProgram master bank cycles s
  | .atticRowProgram master bank cycles => Sys2Proof.Machine.execAtticRowProgram master bank cycles s
  | .atticSectorErase master bank cycles => Sys2Proof.Machine.execAtticSectorErase master bank cycles s
  | .atticRecover master bank cycles => Sys2Proof.Machine.execAtticRecover master bank cycles s
  | .atticSuspend master bank => Sys2Proof.Machine.execAtticSuspend master bank s
  | .atticResume master bank => Sys2Proof.Machine.execAtticResume master bank s
  | .atticReadReset master bank => Sys2Proof.Machine.execAtticReadReset master bank s
  | .atticSeqTimeout bank => Sys2Proof.Machine.execAtticSeqTimeout bank s
  | .atticBadAccess master offset => Sys2Proof.Machine.execAtticBadAccess master offset s
  | .atticProgramDone bank pass => Sys2Proof.Machine.execAtticProgramDone bank pass s
  | .atticErasePulseDone bank pass twinUe => Sys2Proof.Machine.execAtticErasePulseDone bank pass twinUe s
  | .atticForeignAccess master offset decode => Sys2Proof.Machine.execAtticForeignAccess master offset decode s
  | .atticAutoResume bank => Sys2Proof.Machine.execAtticAutoResume bank s
  | .fetchFault master offset => Sys2Proof.Machine.execFetchFault master offset s
  | .eraseStarve bank => Sys2Proof.Machine.execEraseStarve bank s
  | .atticBootScan lostSeals => Sys2Proof.Machine.execAtticBootScan lostSeals s
  | .atticBrownout => Sys2Proof.Machine.execAtticBrownout s
  | .atticRead master offset decode => Sys2Proof.Machine.execAtticRead master offset decode s
  | .sramUe address master beat => Sys2Proof.Machine.execSramUe address master beat s
  | .fabricParityError sender address receiver => Sys2Proof.Machine.execFabricParityError sender address receiver s
  | .coreReload core => Sys2Proof.Machine.execCoreReload core s
  | .sramScrubRead finding beat => Sys2Proof.Machine.execSramScrubRead finding beat s
  | .atticScrubRead decode => Sys2Proof.Machine.execAtticScrubRead decode s
  | .eccTestWrite value => Sys2Proof.Machine.execEccTestWrite value s
  | .eccTestRead value => Sys2Proof.Machine.execEccTestRead value s
  | .graceExpire block cls => Sys2Proof.Machine.execGraceExpire block cls s
  | .quietExpire block cls => Sys2Proof.Machine.execQuietExpire block cls s
  | .fackWrite block value => Sys2Proof.Machine.execFackWrite block value s
  | .quarantineEnd block => Sys2Proof.Machine.execQuarantineEnd block s
  | .devHarbourAckWrite value => Sys2Proof.Machine.execDevHarbourAckWrite value s
  | .precautionStart => Sys2Proof.Machine.execPrecautionStart s
  | .precautionEnd => Sys2Proof.Machine.execPrecautionEnd s
  | .precautionWaitTimeout => Sys2Proof.Machine.execPrecautionWaitTimeout s
  | .floorPlanApply => Sys2Proof.Machine.execFloorPlanApply s
  | .sbSleep => Sys2Proof.Machine.execSbSleep s
  | .sbWake => Sys2Proof.Machine.execSbWake s
  | .sbRead addr n => Sys2Proof.Machine.execSbRead addr n s
  | .sbWrite addr data reread => Sys2Proof.Machine.execSbWrite addr data reread s
  | .sbAlertResponse other more => Sys2Proof.Machine.execSbAlertResponse other more s
  | .sbClkLowTimeout acked => Sys2Proof.Machine.execSbClkLowTimeout acked s
  | .sbDataLowTimeout => Sys2Proof.Machine.execSbDataLowTimeout s
  | .sbProtocolError released => Sys2Proof.Machine.execSbProtocolError released s
  | .twsAlertWrite value => Sys2Proof.Machine.execTwsAlertWrite value s
  | .pbTransaction cmd ok => Sys2Proof.Machine.execPbTransaction cmd ok s
  | .pbRetry ok => Sys2Proof.Machine.execPbRetry ok s
  | .pbClkLowTimeout cmd sdaLow => Sys2Proof.Machine.execPbClkLowTimeout cmd sdaLow s
  | .pbArbitrationLoss cmd cond => Sys2Proof.Machine.execPbArbitrationLoss cmd cond s
  | .pbProtocolError cmd => Sys2Proof.Machine.execPbProtocolError cmd s
  | .pbBusClear sdaHigh => Sys2Proof.Machine.execPbBusClear sdaHigh s
  | .svcHello seq input => Sys2Proof.Machine.execSvcHello seq input s
  | .svcAuth seq input => Sys2Proof.Machine.execSvcAuth seq input s
  | .svcClose seq => Sys2Proof.Machine.execSvcClose seq s
  | .svcStatus seq => Sys2Proof.Machine.execSvcStatus seq s
  | .readLog seq input => Sys2Proof.Machine.execReadLog seq input s
  | .readReg seq input => Sys2Proof.Machine.execReadReg seq input s
  | .readAttic seq input failAt => Sys2Proof.Machine.execReadAttic seq input failAt s
  | .readNand seq input ok => Sys2Proof.Machine.execReadNand seq input ok s
  | .pkgBegin seq input attic => Sys2Proof.Machine.execPkgBegin seq input attic s
  | .pkgChunk seq input attic readBack => Sys2Proof.Machine.execPkgChunk seq input attic readBack s
  | .pkgEnd seq attic => Sys2Proof.Machine.execPkgEnd seq attic s
  | .activate seq cores attic => Sys2Proof.Machine.execActivate seq cores attic s
  | .handoverReadyTimeout => Sys2Proof.Machine.execHandoverReadyTimeout s
  | .confirm seq first second => Sys2Proof.Machine.execConfirm seq first second s
  | .autoConfirm first second => Sys2Proof.Machine.execAutoConfirm first second s
  | .svcAbort seq => Sys2Proof.Machine.execSvcAbort seq s
  | .svcProgress seq permille => Sys2Proof.Machine.execSvcProgress seq permille s
  | .svcFrameTimeout => Sys2Proof.Machine.execSvcFrameTimeout s
  | .svcPresHigh => Sys2Proof.Machine.execSvcPresHigh s
  | .svcSessionIdle => Sys2Proof.Machine.execSvcSessionIdle s
  | .authLockoutExpire => Sys2Proof.Machine.execAuthLockoutExpire s
  | .almanacColdRestore => Sys2Proof.Machine.execAlmanacColdRestore s
  | .logRecordWrite => Sys2Proof.Machine.execLogRecordWrite s
  | .dieTempSample die stackTemps rails powerDw refPresent => Sys2Proof.Machine.execDieTempSample die stackTemps rails powerDw refPresent s
  | .throttleExit => Sys2Proof.Machine.execThrottleExit s
  | .peakClear offset => Sys2Proof.Machine.execPeakClear offset s
  | .jtagBypass => Sys2Proof.Machine.execJtagBypass s
  | .jtagIdcode => Sys2Proof.Machine.execJtagIdcode s
  | .jtagSamplePreload pins cells => Sys2Proof.Machine.execJtagSamplePreload pins cells s
  | .jtagExtest pins cells => Sys2Proof.Machine.execJtagExtest pins cells s
  | .jtagClamp => Sys2Proof.Machine.execJtagClamp s
  | .jtagHighz => Sys2Proof.Machine.execJtagHighz s
  | .hdmDecoderCommit index base size ways gran pos => Sys2Proof.Machine.execHdmDecoderCommit index base size ways gran pos s
  | .discardedFrame => Sys2Proof.Machine.execDiscardedFrame s
  | .coldLoss => Sys2Proof.Machine.execColdLoss s
  | .backgroundEraseResume die => Sys2Proof.Machine.execBackgroundEraseResume die s
  | .correctionCount24h => Sys2Proof.Machine.execCorrectionCount24h s

end Sys2Proof.Machine
end

