-- ==== Sys2Proof/WellFormed.lean ====
section
/-! DEFINITION. Which commands are well formed: each operand fits the field that carries it (a mailbox field, a message field, an
address, a number of dies). A command need not be sensible to be well formed: one that the part turns away is. -/

namespace Sys2Proof

/-- A number fits a field of `w` bits. -/
def fits (w n : Nat) : Bool := n < 2 ^ w

/-- The four reads of an Attic word: cells 0 to 146 (14_attic R506, R527). -/
def readsFit (reads : List (List Nat)) : Bool := reads.length ≤ 4 && reads.all fun l => l.all (· < 147)

/-- Tags of the host are below those that the model gives Clear Poison (assumption 53). -/
def hostTag (n : Nat) : Bool := n < 2 ^ 64

/-- Each operand fits its field. -/
def WellFormed : Instr → Bool
  | .p12vBelowThreshold => true
  | .p12vValid _ => true
  | .musterInLow _ => true
  | .perstNDeassert => true
  | .hostLinkReset _ => true
  | .hostLinkTrained vers rates widths _ _ _ => fits 4 vers && fits 5 rates && fits 4 widths
  | .drydockPowerRemoved => true
  | .badAccess _ offset size _ => fits 24 offset && fits 64 size
  | .registerWrite _ offset _ => fits 24 offset
  | .regPairLoRead _ offset => fits 24 offset
  | .regPairHiWrite offset _ _ => fits 24 offset
  | .hostWriteRequest tag hpa data _ _ _ => hostTag tag && fits 52 hpa && data.length = beatBytes
  | .claimPresent tag => hostTag tag
  | .hostWriteAccept tag => hostTag tag
  | .hostRead tag hpa => hostTag tag && fits 52 hpa
  | .volatileFillDone tile => fits 25 tile
  | .discardWindowEnd => true
  | .gpfPhase1 => true
  | .gpfPhase2 => true
  | .gpfPhase2Drained => true
  | .ideKeyProgram _ _ => true
  | .ideIntegrityFailure stream => fits 8 stream
  | .identify => true
  | .backgroundOperationStatus => true
  | .getEventRecords log => fits 8 log
  | .clearEventRecords log _ handles => fits 8 log && handles.all (fits 16)
  | .getEventInterruptPolicy => true
  | .setEventInterruptPolicy settings => settings.all (fits 8)
  | .getFwInfo => true
  | .transferFw => true
  | .activateFw => true
  | .getTimestamp => true
  | .setTimestamp ns => fits 64 ns
  | .getSupportedLogs => true
  | .getLog ofs len => fits 32 ofs && fits 64 len
  | .identifyMemoryDevice => true
  | .getPartitionInfo => true
  | .setPartitionInfo => true
  | .getLsa ofs len _ => fits 32 ofs && fits 64 len
  | .setLsa ofs data => fits 32 ofs && data.length ≤ 16384
  | .getHealthInfo => true
  | .getAlertConfiguration => true
  | .setAlertConfiguration cfg => cfg.all (fits 16)
  | .getShutdownState => true
  | .setShutdownState _ => true
  | .getPoisonList dpa len => fits 64 dpa && fits 64 len
  | .injectPoison dpa => fits 64 dpa
  | .clearPoison dpa data => fits 64 dpa && data.length = beatBytes
  | .getScanMediaCapabilities => true
  | .scanMedia => true
  | .scanMediaComplete => true
  | .getScanMediaResults => true
  | .sanitize => true
  | .secureErase => true
  | .sanitizeComplete => true
  | .pendingSanitizeReplay => true
  | .mailboxUnsupported opcode => fits 16 opcode
  | .getVendorIdentity => true
  | .getPersistenceStatus => true
  | .getSuiteStatus first count => fits 16 first && fits 16 count
  | .harbourAcknowledge => true
  | .setEnergyGrant joules validS seq => fits 32 joules && fits 32 validS && fits 32 seq
  | .grantLapse => true
  | .getReckoning => true
  | .getLastSaveReport => true
  | .getRestoredPoisonTiles start => fits 32 start
  | .getLifetimeCounters => true
  | .getMirrorStatus => true
  | .promote set _ => fits 8 set
  | .handover set noticeMs => fits 8 set && fits 16 noticeMs
  | .drill set dwellS => fits 8 set && fits 16 dwellS
  | .getDrillResult set => fits 8 set
  | .trainingAttemptEnd sc _ record => fits 4 sc && record.length = 16
  | .zqCalDue sc _ => fits 4 sc
  | .dqsOscDue sc _ _ => fits 4 sc
  | .calDeferExpire sc kind => fits 4 sc && kind < 3
  | .drcPick sc _ => fits 4 sc
  | .refreshTick sc elapsedNs => fits 4 sc && fits 64 elapsedNs
  | .mr4Read sc rank band _ _ _ => fits 4 sc && fits 3 rank && fits 3 band
  | .selfRefreshIdle sc => fits 4 sc
  | .selfRefreshExit sc _ => fits 4 sc
  | .dramReadReturn beat mstr errors => fits 35 beat && fits 8 mstr && errors.all fun e => e.1 < 80
  | .patrolRead errors => errors.all fun e => e.1 < 80
  | .patrolPassEnd => true
  | .chartEntryUe room => fits 19 room
  | .mapRereadDone room _ => fits 19 room
  | .tileStateUe byte => fits 24 byte
  | .chtRoomSelWrite _ => true
  | .suiteContextUe suite => fits 10 suite
  | .sweepVisit => true
  | .stowStart => true
  | .padTimeout die => fits 5 die
  | .nandProgramDone die us _ => fits 5 die && fits 32 us
  | .roomMapBuild room => fits 19 room
  | .journalPageIssue => true
  | .metaProgramDone page us _ _ => fits 32 page && fits 32 us
  | .stowCompletion room => fits 19 room
  | .stallReevaluate => true
  | .stallBound index => fits 32 index
  | .stallEventWindow => true
  | .wearAccrualTick => true
  | .counterStore => true
  | .wearProjection => true
  | .staggerElapsed => true
  | .drainComplete => true
  | .savingEntry => true
  | .saveHeaderDone => true
  | .saveTileRead => true
  | .saveTileDone index us _ => fits 26 index && fits 32 us
  | .saveRateTick _ packMv => fits 32 packMv
  | .packExhausted => true
  | .vbusLowTimeout => true
  | .keeperBusError _ => true
  | .saveSealDone _ => true
  | .warmReturnComplete => true
  | .serviceOpenProgrammed => true
  | .halfEraseDone _ => true
  | .bootImageCheck _ => true
  | .floorPlanLoad => true
  | .railsValid => true
  | .railUv rail _ => fits 2 rail
  | .railLost rail => fits 2 rail
  | .metaReadDone _ lostKeys bad => lostKeys.all (fits 6) && bad.dies.all (fits 5)
  | .restoreDecision => true
  | .zeroFillDone => true
  | .restorePresetDone _ _ _ => true
  | .earlyTenancyEntry => true
  | .restoreTileWritten tile _ _ => fits 25 tile
  | .foldStart => true
  | .nandReadDone part die block hard soft _ _ => fits 2 part && fits 5 die && fits 12 block && hard.all (· < 17) && soft.all (· < 17)
  | .nandEraseDone part die block _ => fits 2 part && fits 5 die && fits 12 block
  | .checkpointDue => true
  | .journalBlockReclaim die block => fits 5 die && fits 12 block
  | .gcReclaim die => fits 5 die
  | .wearLevelMove part die => fits 2 part && fits 5 die
  | .nandPatrolRead part die block set _ _ _ => fits 2 part && fits 5 die && fits 12 block && set < 17
  | .packRemoved packId ohms _ _ => fits 32 packId && fits 32 ohms
  | .packInserted packId ohms _ _ _ _ => fits 32 packId && fits 32 ohms
  | .packAuthPoll _ pubkey resp => pubkey.length ≤ 64 && resp.length ≤ 64
  | .packAuthRetry _ => true
  | .packThermSample _ _ ohms => fits 32 ohms
  | .packMeasure packMv _ p12vMv _ => fits 32 packMv && fits 32 p12vMv
  | .prechargeTimeout => true
  | .exerciseDue => true
  | .exerciseRetry => true
  | .exerciseStart => true
  | .exerciseAbort => true
  | .exerciseStopCheck => true
  | .resistancePulse => true
  | .pulseNow => true
  | .gaugeRestReference => true
  | .forceRef => true
  | .restWindowOpen => true
  | .restWindowTimeout => true
  | .estimatorStale => true
  | .capacityDerate => true
  | .gaugeRecordStore _ => true
  | .reckoningRun => true
  | .reckoningPublish => true
  | .rekRun => true
  | .packEolEval => true
  | .klTrained peerMax peerMin => fits 8 peerMax && fits 8 peerMin
  | .revRetry => true
  | .helloMessage partner ident peers => fits 8 partner && ident.length = 16 && peers.length ≤ 4
  | .flitReceive _ fseq hbState _ => fits 32 fseq && fits 8 hbState
  | .linkRetrainEnd _ => true
  | .creditMessage inStep resync => fits 32 inStep && fits 32 resync
  | .partnerForwardSend => true
  | .partnerWriteEntry set wseq beat data _ _ _ => fits 8 set && fits 64 wseq && fits 35 beat && data.length = beatBytes
  | .ackMessage set wseq => fits 8 set && fits 64 wseq
  | .watchSend => true
  | .watchMessage _ => true
  | .watchAckMessage no => fits 64 no
  | .heartbeatSend => true
  | .contactTimeout => true
  | .partingMessage cause => fits 8 cause
  | .pairWaitExpire => true
  | .roleRecordProgrammed set _ => fits 8 set
  | .lanternAbandon => true
  | .lanternStuck => true
  | .lanternToggling => true
  | .resyncTileCopy set _ => fits 8 set
  | .digestMessage tile digest => fits 25 tile && digest.length = 32
  | .diffMessage tile => fits 25 tile
  | .handoverBoundary set => fits 8 set
  | .handoverMessage set epoch last => fits 8 set && fits 64 epoch && fits 64 last
  | .takenMessage set epoch => fits 8 set && fits 64 epoch
  | .homeReqSend set => fits 8 set
  | .homeReqMessage set => fits 8 set
  | .drillMessage set phase result => fits 8 set && fits 8 phase && fits 8 result
  | .drillPhaseEnd set => fits 8 set
  | .dmwChTailWrite ch _ => fits 4 ch
  | .dmwEnable ch _ => fits 4 ch
  | .dmwPause ch => fits 4 ch
  | .dmwResume ch => fits 4 ch
  | .dmwReset ch => fits 4 ch
  | .dmwCopy ch => fits 4 ch
  | .dmwFill ch => fits 4 ch
  | .dmwStow ch => fits 4 ch
  | .dmwFetch ch => fits 4 ch
  | .dmwCheck ch => fits 4 ch
  | .dmwStepGrant _ => true
  | .dmwWriteAccept ch => fits 4 ch
  | .dmwDescriptorComplete ch => fits 4 ch
  | .atticProgram master bank cycles => fits 8 master && fits 1 bank && cycles.length ≤ 36
  | .atticRowProgram master bank cycles => fits 8 master && fits 1 bank && cycles.length ≤ 36
  | .atticSectorErase master bank cycles => fits 8 master && fits 1 bank && cycles.length ≤ 36
  | .atticRecover master bank cycles => fits 8 master && fits 1 bank && cycles.length ≤ 36
  | .atticSuspend master bank => fits 8 master && fits 1 bank
  | .atticResume master bank => fits 8 master && fits 1 bank
  | .atticReadReset master bank => fits 8 master && fits 1 bank
  | .atticSeqTimeout bank => fits 1 bank
  | .atticBadAccess master offset => fits 8 master && fits 24 offset
  | .atticProgramDone bank _ => fits 1 bank
  | .atticErasePulseDone bank _ _ => fits 1 bank
  | .atticForeignAccess master offset reads => fits 8 master && fits 24 offset && readsFit reads
  | .atticAutoResume bank => fits 1 bank
  | .fetchFault master offset => fits 8 master && fits 24 offset
  | .eraseStarve bank => fits 1 bank
  | .atticBootScan lostSeals => lostSeals.all (fits 8)
  | .atticBrownout => true
  | .atticRead master offset reads => fits 8 master && fits 24 offset && readsFit reads
  | .sramUe address master _ => fits 32 address && fits 8 master
  | .fabricParityError sender address _ => fits 8 sender && fits 32 address
  | .coreReload core => fits 8 core
  | .sramScrubRead _ _ => true
  | .atticScrubRead reads => readsFit reads
  | .eccTestWrite _ => true
  | .eccTestRead _ => true
  | .graceExpire _ cls => fits 5 cls
  | .quietExpire _ cls => fits 5 cls
  | .fackWrite _ _ => true
  | .quarantineEnd _ => true
  | .devHarbourAckWrite _ => true
  | .precautionStart => true
  | .precautionEnd => true
  | .precautionWaitTimeout => true
  | .floorPlanApply => true
  | .sbSleep => true
  | .sbWake => true
  | .sbRead addr n => fits 8 addr && fits 8 n
  | .sbWrite addr data _ => fits 8 addr && data.length < 256
  | .sbAlertResponse _ _ => true
  | .sbClkLowTimeout _ => true
  | .sbDataLowTimeout => true
  | .sbProtocolError _ => true
  | .twsAlertWrite _ => true
  | .pbTransaction cmd _ => fits 8 cmd
  | .pbRetry _ => true
  | .pbClkLowTimeout cmd _ => fits 8 cmd
  | .pbArbitrationLoss cmd _ => fits 8 cmd
  | .pbProtocolError cmd => fits 8 cmd
  | .pbBusClear _ => true
  | .svcHello seq input => fits 32 seq && input.length ≤ 4096
  | .svcAuth seq input => fits 32 seq && input.length ≤ 4096
  | .svcClose seq => fits 32 seq
  | .svcStatus seq => fits 32 seq
  | .readLog seq input => fits 32 seq && input.length ≤ 4096
  | .readReg seq input => fits 32 seq && input.length ≤ 4096
  | .readAttic seq input _ => fits 32 seq && input.length ≤ 4096
  | .readNand seq input _ => fits 32 seq && input.length ≤ 4096
  | .pkgBegin seq input _ => fits 32 seq && input.length ≤ 4096
  | .pkgChunk seq input _ _ => fits 32 seq && input.length ≤ 4096
  | .pkgEnd seq _ => fits 32 seq
  | .activate seq cores _ => fits 32 seq && cores ≤ 4
  | .handoverReadyTimeout => true
  | .confirm seq _ _ => fits 32 seq
  | .autoConfirm _ _ => true
  | .svcAbort seq => fits 32 seq
  | .svcProgress seq permille => fits 32 seq && permille ≤ 1000
  | .svcFrameTimeout => true
  | .svcPresHigh => true
  | .svcSessionIdle => true
  | .authLockoutExpire => true
  | .almanacColdRestore => true
  | .logRecordWrite => true
  | .dieTempSample die _ rails powerDw _ => die.length = 16 && rails.length = 6 && fits 16 powerDw
  | .throttleExit => true
  | .peakClear offset => fits 24 offset
  | .jtagBypass => true
  | .jtagIdcode => true
  | .jtagSamplePreload _ _ => true
  | .jtagExtest _ _ => true
  | .jtagClamp => true
  | .jtagHighz => true
  | .hdmDecoderCommit index base size ways gran pos => fits 2 index && fits 64 base && fits 64 size && fits 8 ways && fits 16 gran && fits 8 pos
  | .discardedFrame => true
  | .coldLoss => true
  | .backgroundEraseResume die => fits 5 die
  | .correctionCount24h => true

end Sys2Proof
end

