-- ==== Sys2Proof/Safety.lean ====
section
/-! DEFINITION. What claims are stated in: the canonical form of the stored arrays, what of a state outlives every command, and
what a step must not break. -/

namespace Sys2Proof.Machine

/-- The DRAM array is in canonical form: addresses strictly rising, no byte of value 0 and no clear mark listed. -/
def Memory.wf (d : Dram) : Bool := twf 0 d.bytes && twf false d.poison

/-- Every sparse array of the state that the spec lays out as an addressed memory is in canonical form: DRAM, the Chart and the
tile states, the ring store, the SRAM test window, the Label Storage Area, the Log's ring, the words and seals of both Attic
banks. -/
def State.memoryWf (s : State) : Bool :=
  Memory.wf s.dram && twf {} s.cht.entries && twf {} s.cht.tiles && twf 0 s.dmw.ring && twf {} s.ecc.window &&
    twf 0xFF s.cal.lsa && twf [] s.log.ring && s.att.bank.toList.all fun k => twf {} k.words && twf factorySeal k.seals

/-- A command's outcome is a next state that meets a condition: how a statement says that a command completes. -/
def Completes (r : Res) (p : State → Prop) : Prop := ∃ t, r = .next t ∧ p t

/-- A mailbox command answers a return code with output, and nothing else of the state changes. -/
def Answers (c : Instr) (s : State) (op rc : Nat) (out : List Byte) : Prop := exec c s = .next (emit (.mailbox op rc out) s)

/-- Nothing of the state but the record of what the part has given to the outside differs. -/
def OnlyGives (s t : State) : Prop := ∃ l : List Output, t = { s with out := l ++ s.out }

/-- The mailbox serves an opcode now (03_host_link Table 03-2). -/
def serves (s : State) (op : Nat) : Prop := mailboxServes s op = some true

end Sys2Proof.Machine
end

