-- ==== Sys2Proof/Certificates/Slice0/Obligations.lean ====
section
/-! DEFINITION. The statements for the provers. -/

open Sys2Proof Sys2Proof.Machine


/-- A step takes the command at the front of the queue and is `exec` of it with the queue's rest. -/
def Obligations.StepRunsFrontCommand : Prop :=
  ∀ (c : Instr) (r : List Instr) (s : State), s.pending = c :: r → step s = exec c { s with pending := r }

/-- On an empty queue a step is one microsecond of the Almanac (assumption 1, the model's choice): the Almanac is one more
while the always-on domain has power, and of the rest only the hours that it counts (R660, R641) change. -/
def Obligations.IdleStepIsOneMicrosecond : Prop :=
  ∀ s : State, s.pending = [] → ∃ t, step s = .next t ∧
    t.almanac = (if s.log.aonPowered then s.almanac + 1 else s.almanac) ∧
    t = { s with almanac := t.almanac, log := { s.log with life := t.log.life }, svc := { s.svc with probUs := t.svc.probUs } }

/-- Reports of identity and of time: answered with Success and the payload, and nothing else of the state changes. Reports
of capacity, health, state and counters: answered with Success and the payload, and nothing else changes. It says that exec
answers a next state for: identify, getFwInfo, getTimestamp, getSupportedLogs, getLog, identifyMemoryDevice,
getPartitionInfo, getHealthInfo, getShutdownState, getVendorIdentity, getPersistenceStatus, getSuiteStatus, getReckoning,
getLastSaveReport, getRestoredPoisonTiles, getLifetimeCounters, getMirrorStatus, getDrillResult. -/
def Obligations.MailboxReportsOfState : Prop :=
  (∀ s : State,
      (serves s 0x0001 → Answers .identify s 0x0001 0 (identifyBytes s)) ∧
      (serves s 0x0200 → Answers .getFwInfo s 0x0200 0 (fwInfoBytes s)) ∧
      (serves s 0x0300 → s.log.calValid = false → Answers .getTimestamp s 0x0300 0 (List.replicate 8 0)) ∧
      (serves s 0x0300 → s.log.calValid = true →
        Answers .getTimestamp s 0x0300 0 (leBytes 8 ((s.almanac : Int) * 1000 + s.log.offset).toNat)) ∧
      (serves s 0x0400 → Answers .getSupportedLogs s 0x0400 0
        ([1, 0, 0, 0, 0, 0, 0, 0] ++ celUuid ++ leBytes 4 commandEffects.length)) ∧
      (∀ ofs len, serves s 0x0401 → ofs + len ≤ commandEffects.length →
        Answers (.getLog ofs len) s 0x0401 0 ((commandEffects.drop ofs).take len)) ∧
      (serves s 0x4000 → Answers .identifyMemoryDevice s 0x4000 0 (memoryDeviceBytes s)) ∧
      (serves s 0xC000 → Answers .getVendorIdentity s 0xC000 0 (vendorIdentity s))) ∧
  (∀ s : State,
      (serves s 0x4100 → Answers .getPartitionInfo s 0x4100 0
        (leBytes 8 (volRooms s * 2 ^ 22 / 2 ^ 28) ++ leBytes 8 (persRooms s * 2 ^ 22 / 2 ^ 28) ++ List.replicate 16 0)) ∧
      (serves s 0x4200 → Answers .getHealthInfo s 0x4200 0 (healthBytes s)) ∧
      (serves s 0x4203 → Answers .getShutdownState s 0x4203 0 [if s.hst.shutdownDirty then 1 else 0]) ∧
      (serves s 0xC001 → Answers .getPersistenceStatus s 0xC001 0 (persistenceStatus s)) ∧
      (∀ first count, serves s 0xC002 → first ≤ 1023 → 1 ≤ count → count ≤ 512 → Answers (.getSuiteStatus first count) s 0xC002 0
        (leBytes 2 (min count (1024 - first)) ++ List.replicate 6 0 ++
          (List.range (min count (1024 - first))).flatMap fun i => suiteRecord s (first + i))) ∧
      (serves s 0xC011 → Answers .getReckoning s 0xC011 0 (reckoningBytes s)) ∧
      (serves s 0xC020 → Answers .getLastSaveReport s 0xC020 0 (lastSaveBytes s)) ∧
      (∀ start, serves s 0xC021 → Answers (.getRestoredPoisonTiles start) s 0xC021 0 (rosterBytes s start)) ∧
      (serves s 0xC030 → Answers .getLifetimeCounters s 0xC030 0 (lifeBytes s)) ∧
      (serves s 0xC050 → Answers .getMirrorStatus s 0xC050 0 (mirrorStatus s)) ∧
      (∀ set, serves s 0xC054 → set < s.plan.partner.sets → Answers (.getDrillResult set) s 0xC054 0 (drillBytes (setAt s set))))

/-- Reports of event records, policies, alerts, poison, background operations and scans. Two of them remember where a list
went on; nothing else changes. It says that exec answers a next state for: backgroundOperationStatus, getEventRecords,
getEventInterruptPolicy, getLsa, getPoisonList, getScanMediaCapabilities, getScanMediaResults. -/
def Obligations.MailboxRecordReports : Prop :=
  ∀ s : State,
    (∀ log, serves s 0x0100 → log < 4 → Answers (.getEventRecords log) s 0x0100 0 (eventRecords s log)) ∧
    (serves s 0x0102 → Answers .getEventInterruptPolicy s 0x0102 0 (s.hst.logs.toList.map policyByte)) ∧
    (serves s 0x0002 → s.hst.bg = none → s.hst.lastBgOpcode ≠ 0 → Answers .backgroundOperationStatus s 0x0002 0
      ([200, 0] ++ leBytes 2 s.hst.lastBgOpcode ++ leBytes 2 s.hst.lastBgRc ++ [0, 0])) ∧
    (∀ at_, serves s 0x0002 → s.hst.bg = some { opcode := 0x4304, startedAt := at_ } → dramBeats s ≠ 0 →
      Answers .backgroundOperationStatus s 0x0002 0
        ([BitVec.ofNat 8 (1 + 2 * (s.drc.scanBeat * 100 / dramBeats s)), 0] ++ leBytes 2 0x4304 ++ [0, 0, 0, 0])) ∧
    (serves s 0x4303 → Answers .getScanMediaCapabilities s 0x4303 0 (capBytes 4 (ceilDiv (capacity s.plan.topo) 2000000))) ∧
    (∀ dpa len, serves s 0x4300 → dpa % 64 = 0 → (poisonIn s dpa len).length ≤ 1022 → s.hst.poisonNext = none →
      Answers (.getPoisonList dpa len) s 0x4300 0
        ([BitVec.ofNat 8 (2 * b2n s.hst.poisonOverflow + 4 * b2n s.hst.scanning), 0] ++
          leBytes 8 (if s.hst.poisonOverflow then calendar s s.hst.poisonOverflowAt else 0) ++
          leBytes 2 (poisonIn s dpa len).length ++ List.replicate 20 0 ++ (poisonIn s dpa len).flatMap poisonRecord)) ∧
    (serves s 0x4305 → s.hst.scanNext = 0 → s.hst.scanResults.length ≤ 1022 → Answers .getScanMediaResults s 0x4305 0
      (List.replicate 18 0 ++ leBytes 2 s.hst.scanResults.length ++ List.replicate 12 0 ++
        s.hst.scanResults.flatMap fun b => poisonRecord { dpa := b * 64, tile := false, source := sourceOf s b })) ∧
    (∀ ofs len, serves s 0x4102 → ofs % 8 = 0 → len % 8 = 0 → ofs + len ≤ 65536 → len ≤ 16384 → Answers (.getLsa ofs len true) s 0x4102 0
      ((List.range len).map fun i => tget 0xFF s.cal.lsa (ofs + i)))

/-- The standard opcodes without support, and every opcode that no table lists, answer Unsupported; nothing else changes.
RESTORE and WARM-RETURN answer Busy to a command that Table 03-2 does not name for them, and change nothing. It says that
exec answers a next state for: backgroundOperationStatus, transferFw, activateFw, getPartitionInfo, setPartitionInfo,
injectPoison, clearPoison, scanMedia, sanitize, secureErase, mailboxUnsupported, setEnergyGrant, promote. -/
def Obligations.UnsupportedAndBusy : Prop :=
  (∀ s : State,
      (serves s 0x0201 → Answers .transferFw s 0x0201 3 []) ∧
      (serves s 0x0202 → Answers .activateFw s 0x0202 3 []) ∧
      (serves s 0x4101 → Answers .setPartitionInfo s 0x4101 3 []) ∧
      (∀ op, serves s op → op ∉ namedOpcodes → Answers (.mailboxUnsupported op) s op 3 [])) ∧
  (∀ s : State, s.dev.state = .restore ∨ s.dev.state = .warmReturn →
      Answers .backgroundOperationStatus s 0x0002 6 [] ∧ Answers .getPartitionInfo s 0x4100 6 [] ∧
      (∀ dpa, Answers (.injectPoison dpa) s 0x4301 6 []) ∧ (∀ dpa data, Answers (.clearPoison dpa data) s 0x4302 6 []) ∧
      Answers .scanMedia s 0x4304 6 [] ∧ Answers .sanitize s 0x4400 6 [] ∧ Answers .secureErase s 0x4401 6 [] ∧
      (∀ j v q, Answers (.setEnergyGrant j v q) s 0xC010 6 []) ∧ (∀ k f, Answers (.promote k f) s 0xC051 6 []))

/-- Commands that set something: what they set, and that nothing else changes. Set Event Interrupt Policy gives each log its
mode and vector (R114): vector 0 stands for the vector of Table 03-14. It says that exec answers a next state for:
clearEventRecords, setEventInterruptPolicy, setLsa, getAlertConfiguration, setAlertConfiguration, setShutdownState,
scanMedia, sanitize, secureErase. -/
def Obligations.MailboxSettings : Prop :=
  (∀ s : State,
      (∀ log, serves s 0x0101 → log < 4 → exec (.clearEventRecords log true []) s = .next (emit (.mailbox 0x0101 0 [])
        { s with hst := { s.hst with logs := vmod s.hst.logs log fun l =>
            { l with records := [], overflow := false, dropped := 0, firstDrop := 0, lastDrop := 0 } } })) ∧
      (∀ log h, serves s 0x0101 → log < 4 → (∃ r ∈ (eventLog s log).records, r.1 = h) →
        exec (.clearEventRecords log false [h]) s = .next (emit (.mailbox 0x0101 0 [])
          { s with hst := { s.hst with logs := vmod s.hst.logs log fun l =>
              { l with records := l.records.filter (fun r => r.1 ≠ h), overflow := false, dropped := 0, firstDrop := 0,
                       lastDrop := 0 } } })) ∧
      (∀ ofs data, serves s 0x4103 → ofs % 8 = 0 → data.length % 8 = 0 → ofs + data.length ≤ 65536 → data.length ≤ 16384 →
        exec (.setLsa ofs data) s = .next (emit (.mailbox 0x4103 0 []) { s with cal := { s.cal with
          lsa := data.zipIdx.foldl (fun t x => tset 0xFF t (ofs + x.2) x.1) s.cal.lsa } })) ∧
      (∀ dirty, serves s 0x4204 → exec (.setShutdownState dirty) s = .next (emit (.mailbox 0x4204 0 [])
        { s with hst := { s.hst with shutdownDirty := dirty, hostShutdown := some dirty } })) ∧
      (∀ act en life, serves s 0x4202 → act = 1 → en < 32 → exec (.setAlertConfiguration [act, en, life, 0, 0, 0, 0]) s =
        .next (emit (.mailbox 0x4202 0 []) { s with hst := { s.hst with alerts := { s.hst.alerts with
          enables := en % 2 + (s.hst.alerts.enables &&& 30), lifeUsedPct := life % 256 } } })) ∧
      (serves s 0x4201 → ∃ out, out.length = 16 ∧ Answers .getAlertConfiguration s 0x4201 0 out) ∧
      (serves s 0x4304 → s.hst.bg = none → exec .scanMedia s = .next (emit (.mailbox 0x4304 1 [])
        { s with hst := { s.hst with bg := some { opcode := 0x4304, startedAt := s.almanac }, scanning := true, scanResults := [],
                                     scanNext := 0 },
                 drc := { s.drc with scanBeat := 0 } })) ∧
      (serves s 0x4400 → s.hst.bg = none → mirroredActive s = false → exec .sanitize s = .next (emit (.mailbox 0x4400 1 [])
        { s with hst := { s.hst with bg := some { opcode := 0x4400, startedAt := s.almanac }, sanitizing := some 0x4400 },
                 cal := { s.cal with sanitizeMark := some 0x4400 } })) ∧
      (serves s 0x4401 → mirroredActive s = false → s.hst.sanitizing = none → exec .secureErase s = .next
        { s with hst := { s.hst with sanitizing := some 0x4401 }, cal := { s.cal with sanitizeMark := some 0x4401 } })) ∧
  (∀ (s : State) (a b c d : Nat), serves s 0x0103 → (∀ n ∈ [a, b, c, d], n % 4 = 1 ∧ n < 256) →
      Completes (exec (.setEventInterruptPolicy [a, b, c, d]) s) fun t =>
        (∀ x ∈ [(0, a), (1, b), (2, c), (3, d)], eventLog t x.1 = { eventLog s x.1 with
          irq := true, vector := if x.2 / 16 = 0 then x.1 + 1 else x.2 / 16 }) ∧
        t.out = .mailbox 0x0103 0 [] :: s.out ∧
        t = { s with hst := { s.hst with logs := t.hst.logs }, out := t.out })

/-- Set Timestamp and Get Timestamp together (R652): the offset is the host time less the Almanac in nanoseconds, it is
stored in the Attic, CAL_VALID is set, and Get Timestamp then returns Almanac × 1,000 + OFFSET, or 0 while CAL_VALID is 0.
It says that exec answers a next state for: getTimestamp, setTimestamp. -/
def Obligations.TimestampIsAlmanacPlusOffset : Prop :=
  ∀ (s : State) (ns : Nat),
    (serves s 0x0301 → ns < 2 ^ 64 → Completes (exec (.setTimestamp ns) s) fun t =>
      t.log.offset = (ns : Int) - s.almanac * 1000 ∧ t.log.calValid = true ∧ t.cal.offset = t.log.offset) ∧
    (serves s 0x0300 → s.log.calValid = true →
      Answers .getTimestamp s 0x0300 0 (leBytes 8 ((s.almanac : Int) * 1000 + s.log.offset).toNat)) ∧
    (serves s 0x0300 → s.log.calValid = false → Answers .getTimestamp s 0x0300 0 (List.replicate 8 0))

/-- Set Energy Grant (R110): with GRANT_MODE 1 and a SEQ above that of the last grant accepted, a grant of some validity
takes effect and a Reckoning is wanted; without GRANT_MODE, or with a SEQ that is not above, it is ignored with Invalid
Input. A grant whose validity has elapsed is in force no longer, with class GRANT_LAPSE raised. It says that exec answers a
next state for: setEnergyGrant, grantLapse. -/
def Obligations.EnergyGrants : Prop :=
  ∀ (s : State) (joules validS seq : Nat),
    (serves s 0xC010 → s.plan.domain.grantMode = true → (∀ n, s.rek.lastSeq = some n → n < seq) → validS ≠ 0 →
      exec (.setEnergyGrant joules validS seq) s = .next (emit (.mailbox 0xC010 0 []) { s with rek := { s.rek with
        grant := some { joules := joules, validS := validS, seq := seq, at_ := s.almanac }, lastSeq := some seq,
        again := true } })) ∧
    (serves s 0xC010 → s.plan.domain.grantMode = false → Answers (.setEnergyGrant joules validS seq) s 0xC010 2 []) ∧
    (∀ n, serves s 0xC010 → s.rek.lastSeq = some n → seq ≤ n → Answers (.setEnergyGrant joules validS seq) s 0xC010 2 []) ∧
    (∀ g, s.rek.grant = some g → exec .grantLapse s = .next (wantRek (raise rekGrantLapse
      { advanceTo (g.at_ + g.validS * 1000000) s with rek := { s.rek with grant := none } })))

/-- For a beat that a committed HDM decoder and a Room stand behind (R87): Inject Poison enters a poison mark behind the
writes that are queued for the beat, lists the beat with source "injected" and is a write event of its tile; Clear Poison
enters the host tracker as a full write of the beat, and its response comes with that write's completion (R101, R190). The
end of a scan, its last read returned: the poison list is what the marks in DRAM give (at most 8,192 entries), the scan and
its background operation are over with Success; the array itself is unchanged (R103, R164, R180). Sanitize ends in SERVICE,
no claim stalled and no request left at the subchannels: DRAM holds zeros without poison, the poison list is empty, the
Cellar holds no copy and the Vestibule no save, SANITIZED is set, the pending mark is cleared, the background operation is
over. Secure Erase ends likewise but leaves the Cellar and the Vestibule (R107, R205, R357, R709). A pending mark found in
BOOT starts the command again. It says that exec answers a next state for: injectPoison, clearPoison, scanMediaComplete,
sanitizeComplete, pendingSanitizeReplay. -/
def Obligations.PoisonScanAndSanitize : Prop :=
  (∀ (s : State) (dpa : Nat) (c : SuiteCtx), decodedBeat s dpa = true → decodeDpa s dpa = .ok c →
      (serves s 0x4301 → exec (.injectPoison dpa) s = .next (emit (.mailbox 0x4301 0 []) (injectPoison dpa s))) ∧
      (∀ data, serves s 0x4302 → c.cfg.policy ≠ .readOnly → s.hst.ideBroken = false →
        exec (.clearPoison dpa data) s = .next (goOn (clearTags + s.hst.accepts)
          (takeWrite (clearTags + s.hst.accepts) (dpa / 64) data allEnables false false (watchRecord dpa 2 0 s)))) ∧
      (∀ data, serves s 0x4302 → c.cfg.policy = .readOnly → s.hst.ideBroken = false → s.hst.gateClosed = false →
        s.hst.linkUp = true → Completes (exec (.clearPoison dpa data) s) fun t =>
          t.out = .mailbox 0x4302 2 [] :: s.out ∧ t.hst.discards = satInc 0xFFFFFFF s.hst.discards ∧ t.hst.lastReason = 1 ∧
          t = { s with hst := { s.hst with discards := t.hst.discards, lastReason := 1,
                                           windowDiscards := t.hst.windowDiscards }, out := t.out })) ∧
  (∀ s : State, s.hst.scanning = true → evaluates s.dev.state = true → dramBeats s ≤ s.drc.scanBeat → patrolQuiet s = true →
      Completes (exec .scanMediaComplete s) fun t =>
        t.hst.scanning = false ∧ t.hst.bg = none ∧ t.hst.lastBgOpcode = 0x4304 ∧ t.hst.lastBgRc = 0 ∧
        t.hst.poisonList = (rebuiltList s).take 8192 ∧ t.hst.poisonOverflow = decide (8192 < (rebuiltList s).length) ∧
        t.dram = s.dram ∧ t.dev = s.dev ∧ t.stations = s.stations) ∧
  (∀ s : State,
      (drcQuiet s = true → s.hst.sanitizing = some 0x4400 → s.dev.state = .service → s.stw.stalled = [] → Completes (exec .sanitizeComplete s) fun t =>
        t.dram = {} ∧ t.hst.poisonList = [] ∧ t.hst.sanitizing = none ∧ t.cal.sanitizeMark = none ∧ t.fpl.sanitized = true ∧
        t.cel.slots = [] ∧ t.sav.port = {} ∧ t.sav.stbd = {} ∧ t.hst.bg = none ∧ t.hst.lastBgOpcode = 0x4400 ∧
        t.hst.lastBgRc = 0) ∧
      (drcQuiet s = true → s.hst.sanitizing = some 0x4401 → s.dev.state = .service → s.stw.stalled = [] → Completes (exec .sanitizeComplete s) fun t =>
        t.dram = {} ∧ t.hst.poisonList = [] ∧ t.hst.sanitizing = none ∧ t.cal.sanitizeMark = none ∧ t.fpl.sanitized = true ∧
        t.cel.slots = s.cel.slots ∧ t.sav.port = s.sav.port ∧ t.sav.stbd = s.sav.stbd ∧
        ∃ l, t.out = .mailbox 0x4401 0 [] :: l) ∧
      (∀ op, s.cal.sanitizeMark = some op → s.dev.state = .boot → s.cht.built = true → trainingDone s = true →
        s.sav.decision = .notTaken →
        exec .pendingSanitizeReplay s = .next { s with hst := { s.hst with sanitizing := some op } }))

/-- Mirror commands for a set that nothing occupies (R465, R469, R471, Table 12-9): a handover is scheduled at the first
Watch boundary after the notice, a drill begins with phase 1, a forced promotion of a standby that is not in step begins.
Roles and the Lantern (R439, R455, R457, R459): a programmed ROLE record is in Meta and in the set, one that fails changes
nothing; the Lantern's readings are taken, a stuck one with its class, and toggling again ends a standby's judgement of a
drill. It says that exec answers a next state for: promote, handover, drill, roleRecordProgrammed, lanternAbandon,
lanternStuck, lanternToggling. -/
def Obligations.MirrorCommandsRolesAndLantern : Prop :=
  (∀ (s : State) (k : Nat), k < s.plan.partner.sets → setBusy (setAt s k) = false →
      (∀ ms, serves s 0xC052 → (setAt s k).st = .active → ms ≤ 10000 → exec (.handover k ms) s =
        .next (emit (.mailbox 0xC052 0 []) (notify 7 (event 0x000F .plk k 0x10 (modSet k (fun m => { m with
          handAt := some ((s.almanac + ms * 1000 + 1 + 1000 - 1) / 1000 * 1000) }) s))))) ∧
      (∀ d, serves s 0xC053 → (setAt s k).st = .active → 1 ≤ d → d ≤ 3600 → exec (.drill k d) s =
        .next (emit (.mailbox 0xC053 0 []) (emit (.link 0x0C [k, 1, 0]) (modSet k (fun m => { m with
          drill := some { phase := 1, phaseAt := s.almanac, dwellS := d },
          drillResult := { outcome := 1, phase := 1 } }) s)))) ∧
      (serves s 0xC051 → (setAt s k).st = .standbySync → exec (.promote k true) s =
        .next (emit (.mailbox 0xC051 0 []) (promote k s))) ∧
      (serves s 0xC051 → (setAt s k).st = .standbySync → Answers (.promote k false) s 0xC051 2 [])) ∧
  (∀ s : State,
      (∀ k r, k < s.plan.partner.sets → plkActs s = true → (setAt s k).roleRun = some r →
        exec (.roleRecordProgrammed k true) s = .next (settleLate k (roleTaken k r (putRole k r s)))) ∧
      (∀ k r, k < s.plan.partner.sets → plkActs s = true → (setAt s k).roleRun = some r →
        exec (.roleRecordProgrammed k false) s = .next s) ∧
      (poweredState s.dev.state = true → s.plk.lanternIn ≠ .abandon → s.plk.contact = false → s.plan.partner.sets = 0 →
        exec .lanternAbandon s = .next { s with plk := { s.plk with lanternIn := .abandon, lanternRead := true } }) ∧
      (poweredState s.dev.state = true → s.plk.lanternIn ≠ .stuck ∨ s.plk.lanternRead = false → s.plan.partner.sets = 0 →
        exec .lanternStuck s = .next (drillReport 1 (raise plkLanternStuck { s with plk := { s.plk with
          lanternIn := .stuck, lanternRead := true, stuckCount := satInc 0xFFFF s.plk.stuckCount } }))) ∧
      (poweredState s.dev.state = true → exec .lanternToggling s = .next { s with plk := { s.plk with
        lanternIn := .toggling, lanternRead := true,
        sets := if s.plk.lanternIn ≠ .toggling then s.plk.sets.map fun m => { m with drillJudge := false } else s.plk.sets } }))

/-- The precautionary stow of HARBOUR (16_fault_stations R573, R574): it starts into a half, it ends with its tiles written
and a held acknowledge not given, and after 600 s without a start it ends short with class PRECAUTION_SHORT. The Safe
Harbour acknowledge, by mailbox or by register: held while the precautionary stow runs, taken up once it has ended, ignored
outside HARBOUR (R575). It says that exec answers a next state for: harbourAcknowledge, devHarbourAckWrite, precautionStart,
precautionEnd, precautionWaitTimeout. -/
def Obligations.HarbourStowAndAcknowledge : Prop :=
  (∀ s : State, s.dev.state = .harbour →
      (s.dev.phase = .waiting → precautionHalf s = some .port → Completes (exec .precautionStart s) fun t =>
        t.dev.phase = .writing ∧ t.dev.harbourHalf = .port ∧ t.dev.state = .harbour ∧ t.sav.port.st = .writing ∧
        t.dram = s.dram ∧ t.cht = s.cht) ∧
      (∀ r, s.dev.phase = .writing → s.sav.run = some r → r.todo = [] → r.inFlight = [] → r.list.length ≤ r.written →
        s.dev.ackPend = false → s.cel.retireAfterSave = [] → Completes (exec .precautionEnd s) fun t =>
          t.dev.phase = .ended ∧ t.dev.short = false ∧ t.sav.run = none ∧ t.dev.state = .harbour) ∧
      (s.dev.phase = .waiting → exec .precautionWaitTimeout s =
        .next (endPrecaution true (advanceTo (s.dev.harbourDueAt + 600000000) s)))) ∧
  (∀ s : State,
      (s.dev.state = .harbour → s.dev.phase ≠ .ended → serves s 0xC003 →
        exec .harbourAcknowledge s = .next (emit (.mailbox 0xC003 0 []) { s with dev := { s.dev with ackPend := true } })) ∧
      (s.dev.state = .harbour → s.dev.phase ≠ .ended → ∀ v : Word, v.getLsbD 0 = true →
        exec (.devHarbourAckWrite v) s = .next { s with dev := { s.dev with ackPend := true } }) ∧
      (s.dev.state = .harbour → s.dev.phase = .ended → s.dev.heldAbandon = false → s.dev.heldReplace = false →
        s.dev.heldHarbour = false → ∀ v : Word, v.getLsbD 0 = true → Completes (exec (.devHarbourAckWrite v) s) fun t =>
          t.dev.state = .service ∧ t.dev.prev = .harbour ∧ t.dev.entryCause = 0x10 ∧ t.dev.ackPend = false ∧ t.dram = s.dram) ∧
      (s.dev.state ≠ .harbour → ∀ v : Word, exec (.devHarbourAckWrite v) s = .next s))

/-- MUSTER_IN_N (R255): with MUSTER_IN_EN at 1 a low level closes the Fence in SERVICE, TENANCY, HARBOUR and WARM-RETURN,
and in RESTORE ends the restore and takes the part to SAVED with nothing written; with MUSTER_IN_EN at 0 the pin is ignored.
It says that exec answers a next state for: musterInLow. -/
def Obligations.MusterIn : Prop :=
  ∀ (s : State) (high : Option Nat),
    (s.plan.pins.musterInEn = true → s.dev.state = .service ∨ s.dev.state = .tenancy ∨ s.dev.state = .harbour ∨
      s.dev.state = .warmReturn → Completes (exec (.musterInLow none) s) fun t => t.dev.state = .fenced ∧ t.dram = s.dram) ∧
    (s.plan.pins.musterInEn = true → s.dev.state = .restore → Completes (exec (.musterInLow none) s) fun t =>
      t.dev.state = .saved ∧ t.sav.port = s.sav.port ∧ t.sav.stbd = s.sav.stbd ∧ t.dram = s.dram) ∧
    (s.plan.pins.musterInEn = false → Completes (exec (.musterInLow high) s) fun t =>
      t = { s with sav := { s.sav with musterIn := t.sav.musterIn, musterHighAt := t.sav.musterHighAt } })

/-- The Fence closes in SERVICE, TENANCY, HARBOUR and WARM-RETURN when P12V falls or an enabled MUSTER_IN_N goes low: FENCED
with the cause and the time latched, the host gate closed, unaccepted writes gone, DRAM untouched (R247, R252, R255, R256).
It says that exec answers a next state for: p12vBelowThreshold, musterInLow. -/
def Obligations.FenceCloses : Prop :=
  ∀ s : State, s.dev.state = .service ∨ s.dev.state = .tenancy ∨ s.dev.state = .harbour ∨ s.dev.state = .warmReturn →
    (s.nrg.p12vValid = true → Completes (exec .p12vBelowThreshold s) fun t =>
      t.dev.state = .fenced ∧ t.dev.prev = s.dev.state ∧ t.dev.entryCause = 0x07 ∧ t.sav.cause = 0x07 ∧
      t.sav.fenceTime = s.almanac ∧ t.nrg.path = .pack ∧ t.nrg.p12vValid = false ∧ t.hst.gateClosed = true ∧
      (∀ w ∈ t.hst.writes, w.accepted = true) ∧ t.stw.stalled = [] ∧ t.dram = s.dram ∧ t.cht = s.cht) ∧
    (s.plan.pins.musterInEn = true → Completes (exec (.musterInLow none) s) fun t =>
      t.dev.state = .fenced ∧ t.dev.prev = s.dev.state ∧ t.dev.entryCause = 0x08 ∧ t.sav.cause = 0x08 ∧
      t.sav.fenceTime = s.almanac ∧ t.sav.musterIn = false ∧ t.sav.musterOut = false ∧ t.hst.gateClosed = true ∧
      (∀ w ∈ t.hst.writes, w.accepted = true) ∧ t.stw.stalled = [] ∧ t.dram = s.dram ∧ t.cht = s.cht)

/-- Supplies come and go (R34, R39, R249, R710): with P12V valid and PERST_N high the part leaves OFF for BOOT; in SAVED the
end of an absence of P12V, or of an assertion of PERST_N with P12V valid, begun since the Fence, starts BOOT; in OFF with
PERST_N low, and in SERVICE, a returning P12V moves the power path to MAINS (R362); DRYDOCK without power is OFF. The DRAM
rails (R672, R673): valid in BOOT once the plan is loaded (R290), and the classes of an undervoltage and of a lost rail, the
latter at Abandon. A die sample below every threshold in stage 0 only records what it measured (R680, R681); after the cool
second a stage is left with alert bit 6 (R683, R684). It says that exec answers a next state for: p12vValid, perstNDeassert,
drydockPowerRemoved, railsValid, railUv, railLost, dieTempSample, throttleExit. -/
def Obligations.SuppliesRailsAndHeat : Prop :=
  (∀ s : State,
      (s.dev.state = .off → s.nrg.perst = false → ∀ aux, Completes (exec (.p12vValid aux) s) fun t =>
        t.dev.state = .boot ∧ t.dev.prev = .off ∧ t.nrg.p12vValid = true ∧ t.nrg.auxValid = aux) ∧
      (s.dev.state = .off → s.nrg.perst = true → ∀ aux, Completes (exec (.p12vValid aux) s) fun t =>
        t.nrg.path = .mains ∧ t.nrg.p12vValid = true ∧ t.dev = s.dev) ∧
      (s.dev.state = .off → s.nrg.p12vValid = true → Completes (exec .perstNDeassert s) fun t =>
        t.dev.state = .boot ∧ t.dev.prev = .off ∧ t.nrg.perst = false) ∧
      (s.dev.state = .saved → s.nrg.p12vValid = false → s.sav.absenceSinceFence = true → ∀ aux, Completes (exec (.p12vValid aux) s) fun t =>
        t.dev.state = .boot ∧ t.dev.prev = .saved ∧ t.nrg.p12vValid = true) ∧
      (s.dev.state = .saved → s.nrg.p12vValid = true → s.nrg.perst = true → s.sav.absenceSinceFence = true →
        Completes (exec .perstNDeassert s) fun t => t.dev.state = .boot ∧ t.dev.prev = .saved ∧ t.nrg.perst = false) ∧
      (s.dev.state = .service → s.nrg.path = .pack → ∀ aux, Completes (exec (.p12vValid aux) s) fun t =>
        t.nrg.path = .mains ∧ t.nrg.p12vValid = true ∧ t.dev = s.dev ∧ t.dram = s.dram) ∧
      (s.dev.state = .drydock → Completes (exec .drydockPowerRemoved s) fun t =>
        t.dev.state = .off ∧ t.dev.prev = .drydock ∧ t.dev.entryCause = 0x07 ∧ t.nrg.p12vValid = false)) ∧
  (∀ s : State,
      (s.dev.state = .boot → s.cht.built = true → exec .railsValid s = .next { s with
        pwr := { s.pwr with railsValid := true, vppOn := true, vddOn := true, uv := false }, drc := { s.drc with railsValid := true },
        sav := { s.sav with railsHeld := true } }) ∧
      (∀ rail fold, s.pwr.vppOn = true → rail < 3 → exec (.railUv rail fold) s =
        .next (raiseAddr pwrRailUv rail mNone 0 { s with pwr := { s.pwr with foldback := fold, uv := true } })) ∧
      (∀ rail, s.pwr.vppOn = true → rail < 3 → exec (.railLost rail) s =
        .next (raiseAt pwrRailLost rail mNone 0 4 { s with pwr := { s.pwr with railsValid := false, uv := true },
                                                           sav := { s.sav with railsHeld := false } }))) ∧
  (∀ (s : State) (die : List Int) (st : Word) (rails : List Nat) (dw : Nat) (ref : Bool), poweredState s.dev.state = true →
      (die.length = 16 → (∀ x ∈ die, x < 380) → s.pwr.stage = 0 → Completes (exec (.dieTempSample die st rails dw ref) s) fun t =>
        t.pwr.stage = 0 ∧ t.pwr.tj ∈ die ∧ (∀ x ∈ die, x ≤ t.pwr.tj) ∧ die[t.pwr.hottest]? = some t.pwr.tj ∧
        t.pwr.nowDw = dw ∧ t.pwr.refPresent = ref ∧ t.stations = s.stations ∧ t.dram = s.dram ∧ t.dev = s.dev ∧ t.out = s.out) ∧
      (s.pwr.stage = 1 → s.log.aonPowered = true → ∀ c, s.pwr.coolSince = some c → Completes (exec .throttleExit s) fun t =>
        t.pwr.stage = 0 ∧ t.pwr.coolSince = none ∧ t.almanac = max s.almanac (c + 1000000) ∧
        t.tws.alert = s.tws.alert ||| 0x40#8 ∧ t.dram = s.dram ∧ t.stations = s.stations ∧ t.dev = s.dev))

/-- The link comes up with the highest version, rate and width that both ends support, flits of 256 B at 64 GT/s and of 68 B
below, DEGRADED with event 0x0010 when narrower or slower (R79, R81, R83), and a link that keeps what it had trained takes
the MSI-X enable and mask alone (log entry 143, the model's choice); a reset of the link drops unaccepted requests and the
decoders, and leaves the operating state, DRAM, the tile states and the accepted entries (R118). IDE (R115, R116): keys
programmed on both streams end the insecure state; an integrity failure, with nothing held, makes both streams insecure with
event 0x0015 and class IDE_FAIL. It says that exec answers a next state for: hostLinkReset, hostLinkTrained, ideKeyProgram,
ideIntegrityFailure. -/
def Obligations.HostLinkAndIde : Prop :=
  (∀ s : State,
      (∀ vers rates widths en mask, poweredState s.dev.state = true → vers.testBit 3 = true → rates.testBit 4 = true →
        widths.testBit 3 = true → exec (.hostLinkTrained vers rates widths true en mask) s = .next (deliverPending { s with
          hst := { s.hst with cxlVer := 3, rate := 4, width := 3, flit256 := true, linkUp := true, msixEnable := en,
                              msixMask := mask } })) ∧
      (∀ vers rates widths en mask, poweredState s.dev.state = true → bestCommon 3 vers ≠ 0 → bestCommon 4 rates ≠ 0 →
        bestCommon 3 widths ≠ 0 → bestCommon 4 rates < 4 ∨ bestCommon 3 widths < 3 → s.hst.linkUp = false →
        Completes (exec (.hostLinkTrained vers rates widths true en mask) s) fun t =>
          t.hst.degraded = true ∧ t.hst.linkUp = true ∧ t.hst.cxlVer = bestCommon 3 vers ∧ t.hst.rate = bestCommon 4 rates ∧
          t.hst.width = bestCommon 3 widths ∧ t.hst.flit256 = decide (bestCommon 4 rates = 4) ∧
          (logHolds s = false → t.log.ready = s.log.ready ++
            [mkLog 0x0010 (blockNum .hst) (rateGts (bestCommon 4 rates)) (widthLanes (bestCommon 3 widths)) 0 0xFFFF mNone s]) ∧
          t.dev = s.dev ∧ t.dram = s.dram ∧ t.stations = s.stations) ∧
      (∀ vers rates widths en mask, poweredState s.dev.state = true → bestCommon 3 vers = s.hst.cxlVer → s.hst.cxlVer ≠ 0 →
        bestCommon 4 rates = s.hst.rate → s.hst.rate ≠ 0 → bestCommon 3 widths = s.hst.width → s.hst.width ≠ 0 →
        s.hst.linkUp = true → s.hst.flit256 = decide (s.hst.rate = 4) → exec (.hostLinkTrained vers rates widths true en mask) s =
          .next (deliverPending { s with hst := { s.hst with msixEnable := en, msixMask := mask } })) ∧
      (∀ kind, Completes (exec (.hostLinkReset kind) s) fun t =>
        t.hst.linkUp = false ∧ t.hst.hdm = Vector.replicate 4 {} ∧ t.hst.writes = s.hst.writes.filter (fun w => w.accepted) ∧
        t.hst.waiting = [] ∧ t.hst.reads = [] ∧ t.dev.state = s.dev.state ∧ t.dram = s.dram ∧ t.cht = s.cht ∧
        t.sui.map (fun c => (c.cfg, c.dirty, c.stowing)) = s.sui.map (fun c => (c.cfg, c.dirty, c.stowing)))) ∧
  (∀ s : State,
      (∀ a b, exec (.ideKeyProgram a b) s = .next { s with hst := { s.hst with
        ideIoSecure := a, ideMemSecure := b, ideBroken := s.hst.ideBroken && !(a && b) } }) ∧
      (∀ k, s.hst.writes = [] → s.hst.waiting = [] → s.hst.reads = [] → s.hst.readsWaiting = [] → s.hst.creditHeldAt = none →
        s.stw.stalled = [] → exec (.ideIntegrityFailure k) s = .next (reeval (raise hstIdeFail (event 0x0015 .hst k 0
          { s with hst := { s.hst with ideIoSecure := false, ideMemSecure := false, ideBroken := true, ideFail := true } })))))

/-- A commit of an HDM decoder with a supported value, every decoder below it committed, takes effect; any other commit
fails (R84). The order is the standard's (assumption 9). It says that exec answers a next state for: hdmDecoderCommit. -/
def Obligations.HdmDecoderCommit : Prop :=
  ∀ (s : State) (i base size ways gran pos : Nat), i < 4 → Completes (exec (.hdmDecoderCommit i base size ways gran pos) s) fun t =>
    (∀ j, j < 4 → j ≠ i → vget {} t.hst.hdm j = vget {} s.hst.hdm j) ∧
    (vget {} t.hst.hdm i).committed = decide (ways ∈ [1, 2, 4, 8, 16] ∧ gran ∈ [256, 512, 1024, 2048, 4096, 8192, 16384] ∧
      base % 2 ^ 28 = 0 ∧ size % 2 ^ 28 = 0 ∧ pos < ways ∧ ∀ j, j < i → (vget {} s.hst.hdm j).committed = true) ∧
    (vget {} t.hst.hdm i).err = !(vget {} t.hst.hdm i).committed ∧
    t = { s with hst := { s.hst with hdm := t.hst.hdm } }

/-- A host write request (R87, R90, R94 to R96): undecoded, it is discarded with its reason and completed; decoded, with an
entry free, it enters the tracker, and with the last one write credits are withheld from then on; with none, it waits. A
discard changes no tile and no byte. It says that exec answers a next state for: hostWriteRequest. -/
def Obligations.HostWriteRequestEnters : Prop :=
  ∀ (s : State) (tag hpa : Nat) (data : List Byte) (en : Dword) (poi bad : Bool),
    s.hst.gateClosed = false → s.hst.linkUp = true → tag < 2 ^ 64 →
    (s.hst.ideBroken = false → hpaToDpa s hpa = none → exec (.hostWriteRequest tag hpa data en poi bad) s = .next (emit
      (.writeDone tag false) { s with hst := { s.hst with
        discards := satInc 0xFFFFFFF s.hst.discards, lastReason := 0,
        windowDiscards := aset s.hst.windowDiscards 0 ((alookup s.hst.windowDiscards 0).getD 0 + 1) } })) ∧
    (∀ a c, s.hst.ideBroken = false → hpaToDpa s hpa = some a → decodeDpa s a = .ok c → c.cfg.policy ≠ .readOnly →
      s.hst.waiting = [] → s.hst.writes.length < 14335 → s.dev.state = .service →
      Completes (exec (.hostWriteRequest tag hpa data en poi bad) s) fun t => ∃ w, t.hst.writes = s.hst.writes ++ [w] ∧
        w.tag = tag ∧ w.w = { beat := a / 64, data := padTo 64 data, enables := en, poison := poi } ∧
        w.accepted = false ∧ w.claim = .notPresented ∧ t = { s with hst := { s.hst with writes := t.hst.writes } }) ∧
    (∀ a c, s.hst.ideBroken = false → hpaToDpa s hpa = some a → decodeDpa s a = .ok c → c.cfg.policy ≠ .readOnly →
      s.hst.waiting = [] → s.hst.writes.length = 14335 → s.hst.creditHeldAt = none → s.dev.state = .service →
      Completes (exec (.hostWriteRequest tag hpa data en poi bad) s) fun t => ∃ w, t.hst.writes = s.hst.writes ++ [w] ∧
        w.tag = tag ∧ t.hst.creditHeldAt = some s.almanac ∧
        t = { s with hst := { s.hst with writes := t.hst.writes, creditHeldAt := t.hst.creditHeldAt } }) ∧
    (∀ a c, s.hst.ideBroken = false → hpaToDpa s hpa = some a → decodeDpa s a = .ok c → c.cfg.policy ≠ .readOnly →
      s.hst.writes.length = 14336 →
      Completes (exec (.hostWriteRequest tag hpa data en poi bad) s) fun t => ∃ w, t.hst.waiting = s.hst.waiting ++ [w] ∧
        w.tag = tag ∧ t = { s with hst := { s.hst with waiting := t.hst.waiting } })

/-- A claim and an acceptance (R88, R91, R210, R231, R232): a due claim for a tile that is not Clean, or that fits under
ceiling and quota, is granted, and a Clean tile becomes Dirty; a write that meets every condition is accepted, counted, and
completed at once when its Suite is not mirrored. It says that exec answers a next state for: claimPresent, hostWriteAccept.
-/
def Obligations.ClaimAndAcceptance : Prop :=
  ∀ (s : State) (w : HostWrite) (c : SuiteCtx), findWrite s w.tag = some w →
    (claimDue s w = some c → claimVerdict s (writeTile w.w) c = .grant → exec (.claimPresent w.tag) s =
      .next (modWrite w.tag (fun x => { x with claim := .granted }) (reeval (claimTile (writeTile w.w) s)))) ∧
    (claimDue s w = some c → claimVerdict s (writeTile w.w) c = .stall → exec (.claimPresent w.tag) s =
      .next (stallClaim (some w.tag) 0 (writeTile w.w) c.cfg.id (modWrite w.tag (fun x => { x with claim := .stalled }) s))) ∧
    (acceptable s w = true → w.w.poison = false → w.parityBad = false → s.hst.linkUp = true → w.tag < 2 ^ 64 →
      (tileClass s (writeTile w.w)).saved = false ∨ (tileAt s (writeTile w.w)).st ≠ .clean →
      (suiteOfRoom s (w.w.beat * 64 / 2 ^ 22)).bind suiteSet = none → Completes (exec (.hostWriteAccept w.tag) s) fun t =>
        t.hst.accepts = s.hst.accepts + 1 ∧ t.dram = s.dram ∧ t.fpl.sanitized = false ∧ ∃ l, t.out = .writeDone w.tag true :: l)

/-- Reads, flush and windows (R90, R93, R95, R97, R98, R191): a read of a decoded beat takes an entry and enters the queue
of its subchannel, one of an Unwritten volatile tile answers zeros at once, an undecoded one poison; phase 2 of GPF is
noted, and answered and counted once drained. It says that exec answers a next state for: hostRead, discardWindowEnd,
gpfPhase2, gpfPhase2Drained. -/
def Obligations.ReadsAndFlush : Prop :=
  ∀ s : State, s.hst.gateClosed = false → s.hst.linkUp = true →
    (∀ tag hpa a c, s.hst.ideBroken = false → hpaToDpa s hpa = some a → decodeDpa s a = .ok c → s.dev.state = .service →
      s.hst.reads.length < 2048 → s.hst.readsWaiting = [] →
      (tileClass s (a / 64 * 64 / 65536) = .persistent → subchOf s (a / 64) ≠ none → exec (.hostRead tag hpa) s =
        .next (enqueue mHost (a / 64) .read { s with hst := { s.hst with
          reads := s.hst.reads ++ [{ tag := tag, beat := a / 64, at_ := s.almanac, req := some s.drc.nextSeq }] } })) ∧
      (tileClass s (a / 64 * 64 / 65536) = .volatile → (tileAt s (a / 64 * 64 / 65536)).st = .clean →
        exec (.hostRead tag hpa) s = .next (emit (.readData tag (List.replicate 64 0) false) s))) ∧
    (∀ tag hpa, hpaToDpa s hpa = none → exec (.hostRead tag hpa) s = .next (emit (.readData tag poisonData true) s)) ∧
    (s.dev.state = .service ∨ s.dev.state = .tenancy ∨ s.dev.state = .harbour → exec .gpfPhase2 s = .next { s with hst := { s.hst with gpf := s.hst.gpf ++ [{ at_ := s.almanac, waits := gpfWaits s }] } }) ∧
    (∀ g r, s.hst.gpf = g :: r → gpfReady s g = true → hostDrained s = true →
      Completes (exec .gpfPhase2Drained s) fun t =>
        t.hst.gpf = r ∧ t.hst.ph2Count = satInc 0xFFFF s.hst.ph2Count ∧ t.out = .gpf 2 :: s.out ∧
        t.dram = s.dram ∧ t.cht = s.cht ∧ t.dev = s.dev) ∧
    (∀ n, s.hst.windowDiscards = [(0, n)] → s.log.aonPowered = true → logHolds s = false → Completes (exec .discardWindowEnd s) fun t =>
      t.hst.windowDiscards = [] ∧ t.almanac = (s.almanac / 1000 + 1) * 1000 ∧ t.log.ready.length = s.log.ready.length + 1 ∧
      t.dram = s.dram ∧ t.dev = s.dev ∧ t.stations = s.stations)

/-- GPF requests (R97, R99): phase 1 is answered at once with the link up and no Fence closed; after the Fence has closed
neither phase is. It says that exec answers a next state for: gpfPhase1, gpfPhase2. -/
def Obligations.GpfRequests : Prop :=
  ∀ s : State,
    (s.hst.linkUp = true → s.dev.state = .boot ∨ s.dev.state = .restore ∨ s.dev.state = .tenancy ∨ s.dev.state = .service ∨
      s.dev.state = .harbour → exec .gpfPhase1 s = .next (emit (.gpf 1) s)) ∧
    (s.dev.state = .fenced ∨ s.dev.state = .saving ∨ s.dev.state = .warmReturn ∨ s.dev.state = .saved →
      exec .gpfPhase1 s = .next s ∧ exec .gpfPhase2 s = .next s)

/-- The fill of an Unwritten volatile tile (R191), once the DRC serves it: zeros without poison in every beat of the tile
and nowhere else, the tile is Live, and the writes held for it go on. It says that exec answers a next state for:
volatileFillDone. -/
def Obligations.VolatileFill : Prop :=
  ∀ (s : State) (t : Nat), tileClass s t = .volatile → (tileAt s t).st = .clean → fillWanted s t = true →
    Memory.wf s.dram = true → twf {} s.cht.tiles = true → tileServed s mNone t = true →
    Completes (exec (.volatileFillDone t) s) fun u =>
      (∀ a, tget 0 u.dram.bytes a = if t * 65536 ≤ a ∧ a < (t + 1) * 65536 then 0 else tget 0 s.dram.bytes a) ∧
      (∀ b, dramPoison u.dram b = if t * 1024 ≤ b ∧ b < (t + 1) * 1024 then false else dramPoison s.dram b) ∧
      (tileAt u t).st = .dirty ∧ (∀ k, k ≠ t → tileAt u k = tileAt s k) ∧ u.dev = s.dev ∧ u.stations = s.stations ∧ u.out = s.out ∧
      (∀ w ∈ u.hst.writes, w.hold = .fill → writeTile w.w ≠ t)

/-- Accesses to the Control Block: an aligned read answers the register's value; a read of a _LO captures its _HI, and a _HI
gives the holding copy; a refused read answers ones and a refused write does nothing, each with class BAD_ACCESS at HST; a
write reaches its register, one out of range raises its block's BAD_WRITE and changes nothing, one where no register lies
raises BAD_ACCESS; a pair takes effect as one; the ring store is read and written as bytes, but for a descriptor that the
part owns (log entry 138, the model's choice) (R13 to R17, R19, R474, R476). It says that exec answers a next state for:
badAccess, registerWrite, regPairLoRead, regPairHiWrite, peakClear. -/
def Obligations.ControlBlockAccess : Prop :=
  ∀ s : State, barOpen s = true →
    (∀ ofs v, ofs % 4 = 0 → regView s ofs = some v → ofs < 4 ∨ isPairLo (ofs - 4) = false →
      (isPairLo ofs = false → exec (.regPairLoRead false ofs) s = .next (emit (.regValue ofs v) s)) ∧
      (isPairLo ofs = true → exec (.regPairLoRead false ofs) s = .next (emit (.regValue ofs v) { s with dev := { s.dev with
        hiCopies := aset s.dev.hiCopies (ofs + 4) ((regView s (ofs + 4)).getD 0) } }))) ∧
    (∀ ofs, ofs % 4 = 0 → isPairLo ofs = true → exec (.regPairLoRead false (ofs + 4)) s =
      .next (emit (.regValue (ofs + 4) ((alookup s.dev.hiCopies (ofs + 4)).getD (hiReset s (ofs + 4)))) s)) ∧
    (∀ ofs, ofs % 4 = 0 → ofs + 4 ≤ 0x40000 → (∀ i, i < 4 → tget false s.dmw.ringBad (ofs + i) = false) →
      exec (.regPairLoRead true ofs) s =
        .next (emit (.ringData ofs ((List.range 4).map fun i => tget 0 s.dmw.ring (ofs + i)) false) s)) ∧
    (∀ bar2 ofs size, refusedAccess s bar2 ofs size = true →
      exec (.badAccess bar2 ofs size false) s = .next (emit (.regValue ofs 0xFFFFFFFF) (raiseAddr hstBadAccess ofs mHost 1 s)) ∧
      exec (.badAccess bar2 ofs size true) s = .next (raiseAddr hstBadAccess ofs mHost 2 s)) ∧
    (∀ v : Word, exec (.registerWrite false 0x20028 v) s =
      .next { s with drc := { s.drc with srIdleUs := v.toNat % 65536 } }) ∧
    (∀ v : Word, 1 ≤ v.toNat % 65536 → v.toNat % 65536 ≤ 45000 → exec (.registerWrite false 0x60004 v) s =
      .next { s with stw := { s.stw with maxTps := v.toNat % 65536 } }) ∧
    (∀ v : Word, v.toNat % 65536 = 0 ∨ 45000 < v.toNat % 65536 → exec (.registerWrite false 0x60004 v) s =
      .next (raiseAddr stwBadWrite 0 mHost 2 s)) ∧
    (∀ ofs v, ofs % 4 = 0 → (regView s ofs).isSome = true → exec (.registerWrite false ofs v) s = .next (writeAt ofs v s)) ∧
    (∀ ofs v, ofs % 4 = 0 → regView s ofs = none → exec (.registerWrite false ofs v) s =
      .next (raiseAddr hstBadAccess ofs mHost 2 s)) ∧
    (∀ lo hi, exec (.regPairHiWrite 0xF0084 lo hi) s = .next { s with
      dev := { s.dev with loHeld := aerase (aset s.dev.loHeld 0xF0084 lo) 0xF0084 },
      ecc := { s.ecc with testData := hi ++ lo } }) ∧
    (exec (.peakClear 0x60030) s = .next { s with stw := { s.stw with stallMax := 0 } }) ∧
    (exec (.peakClear 0x140018) s = .next { s with pwr := { s.pwr with tjMax := s.pwr.tj / 4 } }) ∧
    (∀ ofs (v : Word), ofs % 4 = 0 → ofs + 4 ≤ 0x40000 →
      (ringOwned s ofs = false → exec (.registerWrite true ofs v) s =
        .next { s with dmw := ringWrite ofs (leBytes 4 v.toNat) s.dmw }) ∧
      (ringOwned s ofs = true → exec (.registerWrite true ofs v) s = .next s))

/-- A raise of a class that is not quarantined (R555): the sticky and the live bit of the class, the count, and, on the
first class since an acknowledge, the captures, all in the station of the class. -/
def Obligations.RaiseRecordsTheClass : Prop :=
  ∀ (c : FClass) (addr mstr access entry : Nat) (s : State) (x : Station),
    let y := raiseStation c addr mstr access entry s x
    c.bit < 32 →
    (∀ k, k < 32 → y.sticky.getLsbD k = (x.sticky.getLsbD k || k = c.bit)) ∧
    (∀ k, k < 32 → y.live.getLsbD k = (x.live.getLsbD k || k = c.bit)) ∧
    y.raised = min 0xFFFF (if 0xFFFF < x.raised then 0xFFFF else x.raised + 1) ∧
    (x.sticky = 0 → y.capAddr = addr ∧ y.capMstr = mstr ∧ y.capClass = c.bit ∧ y.capAccess = access ∧ y.capTime = s.almanac ∧
      y.capState = s.dev.state.code ∧ y.capValid = true) ∧
    (x.sticky ≠ 0 → y.capAddr = x.capAddr ∧ y.capMstr = x.capMstr ∧ y.capClass = x.capClass ∧ y.capTime = x.capTime) ∧
    (x.level ≤ x.cap → x.level ≤ y.level ∧ y.level ≤ x.cap)

/-- Timers and acknowledge of a station (R558, R563, R564, R566): a quiet timer ends the live bit of its class and, with the
last one, the fault state; FACK clears the sticky bits written as 1 with their grace timers, and FCOUNT with the last; the
end of a quarantine; a grace timer that expires on a class sticky and live takes the level to Contain at most. It says that
exec answers a next state for: graceExpire, quietExpire, fackWrite, quarantineEnd. -/
def Obligations.StationTimersAndAcknowledge : Prop :=
  ∀ (s : State) (b : Block),
    (∀ cls t, alookup (stationAt s b).quietAt cls = some t → exec (.quietExpire b cls) s =
      .next (modStation b (quietStation cls) (advanceTo t s))) ∧
    (∀ (v : Word), exec (.fackWrite b v) s = .next (modStation b (fun x => { x with
      sticky := x.sticky &&& ~~~v,
      graceAt := x.graceAt.filter fun g => !(v.getLsbD g.1 && x.sticky.getLsbD g.1),
      raised := if x.sticky &&& ~~~v = 0 then 0 else x.raised }) s)) ∧
    (∀ t, (stationAt s b).quarUntil = some t → exec (.quarantineEnd b) s =
      .next (modStation b (fun x => { x with quarUntil := none }) (advanceTo t s))) ∧
    (∀ cls t, alookup (stationAt s b).graceAt cls = some t → (stationAt s b).sticky.getLsbD cls = true →
      (stationAt s b).live.getLsbD cls = true → exec (.graceExpire b cls) s =
        .next (escalate b (stationAt s b).level (modStation b (fun x => { x with
          graceAt := aerase x.graceAt cls, level := max x.level (min x.cap 2),
          escalations := if x.level < max x.level (min x.cap 2) then satInc 0xFFFF x.escalations else x.escalations })
          (advanceTo t s))))

/-- Training of a populated subchannel in BOOT (R125 to R128): a pass takes the record into use and keeps it for the Attic;
a first failure only counts the attempt. Calibrations of a trained subchannel out of self-refresh (R130, R131, R137, R146):
at their period they run while the real-time port is normal and nothing of a higher class, nor an older item of class 5, is
issuable, else they take an entry of maintenance and are deferred (one that finds none stays due: log entry 139, the model's
choice); a DQS result within the trained window moves the read gate, one outside it raises CAL_FAIL and leaves the record; a
deferral that has waited its time becomes a forced item. A temperature read in a band already known changes only the rate
list. It says that exec answers a next state for: trainingAttemptEnd, zqCalDue, dqsOscDue, calDeferExpire, mr4Read. -/
def Obligations.TrainingAndCalibration : Prop :=
  (∀ (s : State) (sc : Nat) (rec_ : List Byte), sc < 16 → s.dev.state = .boot → s.drc.railsValid = true → populated s sc = true →
      (subchAt s sc).trained = false → (subchAt s sc).failed = false →
      (Completes (exec (.trainingAttemptEnd sc true rec_) s) fun t =>
        (subchAt t sc).trained = true ∧ (subchAt t sc).train = sealRecord s.plan.topo rec_ ∧ (subchAt t sc).tries = (subchAt s sc).tries + 1 ∧
        (∀ k, k ≠ sc → subchAt t k = subchAt s k) ∧ t.cal.trainTopo = aset s.cal.trainTopo sc s.plan.topo ∧
        t.cal.training = tset [] s.cal.training sc (sealRecord s.plan.topo rec_) ∧
        t.dram = s.dram ∧ t.dev = s.dev ∧ t.stations = s.stations) ∧
      ((subchAt s sc).tries < 2 → exec (.trainingAttemptEnd sc false rec_) s = .next (modSubch sc (fun c => { c with
        tries := c.tries + 1, seedSrc := seedOf s sc (subchAt s sc).tries }) s))) ∧
  (∀ (s : State) (sc : Nat), sc < 16 → poweredState s.dev.state = true → (subchAt s sc).selfRef = false → (subchAt s sc).trained = true →
      let z := advanceTo ((subchAt s sc).zqAt + s.drc.zqMs * 1000) s
      let u := modSubch sc (fun c => { c with zqAt := z.almanac }) z
      let y := advanceTo ((subchAt s sc).dqsAt + s.drc.dqsMs * 1000) s
      let v := modSubch sc (fun c => { c with dqsAt := y.almanac }) y
      (calTaken s sc 0 = true → calNow u sc = true → exec (.zqCalDue sc true) s = .next u) ∧
      (calTaken s sc 0 = true → calNow u sc = true → exec (.zqCalDue sc false) s = .next (raise drcCalFail u)) ∧
      (maintFull s sc = false → rtLevel u ≠ 0 → (subchAt s sc).deferred = [] → exec (.zqCalDue sc true) s = .next (modSubch sc (fun c => { c with
        deferred := [{ kind := 0, since := u.almanac, sinceNs := c.clockNs }] }) u)) ∧
      (∀ b, calTaken s sc 1 = true → calNow v sc = true → inWindow (subchAt s sc) b = true →
        exec (.dqsOscDue sc b true) s = .next (gateAdjust sc b v)) ∧
      (∀ b, calTaken s sc 1 = true → calNow v sc = true → inWindow (subchAt s sc) b = false →
        exec (.dqsOscDue sc b true) s = .next (raise drcCalFail v)) ∧
      (∀ d, (subchAt s sc).deferred = [d] → d.kind = 1 → exec (.calDeferExpire sc 1) s =
        .next (modSubch sc (fun c => { c with deferred := [], forcedCal := c.forcedCal ++ [d] })
          (advanceTo (d.since + s.drc.deferMs * 1000) s))) ∧
      (∀ rank band, rank < logicalRanks s → alookup (subchAt s sc).bands rank = some band →
        Completes (exec (.mr4Read sc rank band false false true) s) fun t =>
          t.almanac = (advanceTo ((alookup (subchAt s sc).mr4At rank).getD 0 + s.drc.mr4Ms * 1000) s).almanac ∧
          (subchAt t sc).rate2x = (subchAt s sc).rate2x.filter (· ≠ rank) ∧
          alookup (subchAt t sc).mr4At rank = some t.almanac ∧ t.dram = s.dram ∧ t.stations = s.stations))

/-- The scheduler and refresh of a trained subchannel (R137, R143, R151 to R154): a pick takes the work of the highest class
of Table 04-6 that has some, after the waiting requests have taken the free entries; a forced calibration runs when no
refresh is forced; a refresh tick moves the subchannel's clock and issues the refreshes whose turn has come, oldest first;
an idle subchannel enters self-refresh with its banks closed, and leaves it when a request waits. Reads of DRAM (R134, R157
to R166): an issued host read that returns without an error answers the data it took and frees its entry; a read of a copy
beat without an error changes nothing; one device's error on a x4 part is corrected and counted, and DRAM is unchanged; the
patrol requests the next beat, passing over one of an excluded subchannel (log entry 140), and a pass all of whose reads
have returned starts anew. It says that exec answers a next state for: drcPick, refreshTick, selfRefreshIdle,
selfRefreshExit, dramReadReturn, patrolRead, patrolPassEnd, correctionCount24h. -/
def Obligations.DramSchedulerAndReads : Prop :=
  (∀ (s : State) (sc : Nat), sc < 16 → (subchAt s sc).trained = true →
      ((subchAt s sc).selfRef = false → ∀ o,
        let u := fillPool sc s
        (∀ w, oldest (class1 u sc) = some w → exec (.drcPick sc o) s = .next (runWork sc w.2 o u)) ∧
        (∀ w, class1 u sc = [] → oldest (class2 u sc) = some w → exec (.drcPick sc o) s = .next (runWork sc w.2 o u)) ∧
        (∀ m, class1 u sc = [] → class2 u sc = [] → class34 u sc = some m → exec (.drcPick sc o) s = .next (makeMove sc false m u)) ∧
        (∀ w, class1 u sc = [] → class2 u sc = [] → class34 u sc = none → oldest (class5 u sc) = some w →
          exec (.drcPick sc o) s = .next (runWork sc w.2 o u)) ∧
        (class1 u sc = [] → class2 u sc = [] → class34 u sc = none → class5 u sc = [] →
          exec (.drcPick sc o) s = .next (class6 sc u))) ∧
      ((subchAt s sc).selfRef = false → (subchAt s sc).queue = [] → s.plk.rt = [] → (subchAt s sc).deferred = [] →
        (∀ i ∈ allIdx s, refreshForced s (subchAt s sc) i.1 i.2 = false) → ∀ d, (subchAt s sc).forcedCal = [d] → d.kind = 0 →
        exec (.drcPick sc ⟨true, 0⟩) s = .next (modSubch sc (fun c => { c with forcedCal := [] }) s)) ∧
      ((subchAt s sc).selfRef = false → ∀ ns,
        let u := modSubch sc (fun c => { c with clockNs := c.clockNs + ns }) s
        exec (.refreshTick sc ns) s = .next (runRefreshes sc (allIdx u).length
          (modSubch sc (fun c => { c with debtPeak := min 0xFFFF (max c.debtPeak (maxDebt u c)) }) u))) ∧
      ((subchAt s sc).selfRef = false → ∀ ns, Completes (exec (.refreshTick sc ns) s) fun t =>
        (subchAt t sc).clockNs = (subchAt s sc).clockNs + ns ∧ (subchAt t sc).queue = (subchAt s sc).queue ∧
        (∀ k, k ≠ sc → subchAt t k = subchAt s k) ∧ t.dram = s.dram ∧ t.dev = s.dev ∧ t.hst = s.hst ∧ t.stations = s.stations) ∧
      ((subchAt s sc).selfRef = false → requestsWait s sc = false → s.dev.state = .service → s.drc.srIdleUs ≠ 0 →
        Completes (exec (.selfRefreshIdle sc) s) fun t =>
          (subchAt t sc).selfRef = true ∧ (subchAt t sc).banks = [] ∧ (∀ k, k ≠ sc → subchAt t k = subchAt s k) ∧
          t.dram = s.dram ∧ t.hst = s.hst ∧ t.stations = s.stations) ∧
      ((subchAt s sc).selfRef = true → ((subchAt s sc).queue.any fun q => q.src ≠ mDramScrub) = true →
        Completes (exec (.selfRefreshExit sc true) s) fun t =>
          (subchAt t sc).selfRef = false ∧ (subchAt t sc).queue = (subchAt s sc).queue ∧ (∀ k, k ≠ sc → subchAt t k = subchAt s k) ∧
          t.dram = s.dram ∧ t.hst = s.hst ∧ t.stations = s.stations)) ∧
  (∀ s : State,
      (∀ r h, flightsOf s mHost = [r] → s.hst.reads = [h] → h.req = some r.seq → s.hst.readsWaiting = [] → r.mark = false →
        Completes (exec (.dramReadReturn r.beat mHost []) s) fun t => t.out = .readData h.tag r.data false :: s.out ∧
          t.hst = { s.hst with reads := [] } ∧ t.dram = s.dram ∧ t.stations = s.stations ∧ t.dev = s.dev) ∧
      (∀ beat m, (∀ r ∈ flightsOf s m, r.beat ≠ beat) → dramPoison s.dram beat = false →
        exec (.dramReadReturn beat m []) s = .next s) ∧
      (∀ beat m sc a e x, s.plan.topo.devWidth = 4 → dramPoison s.dram beat = false → (∀ r ∈ flightsOf s m, r.beat ≠ beat) →
        dpaToSubch s (beat * 64) = some (sc, a) → e < 80 → x ≠ 0 →
        (alookup s.drc.devCounts (sc, (coordOf s.plan.topo a).rank / s.plan.topo.stack,
          (coordOf s.plan.topo a).rank % s.plan.topo.stack, e / 8)).getD 0 < s.drc.budget →
        sc < 16 → Completes (exec (.dramReadReturn beat m [(e, x)]) s) fun t =>
          (subchAt t sc).ce = satInc 0xFFFF (subchAt s sc).ce ∧ t.dram = s.dram ∧ t.hst = s.hst ∧ t.dev = s.dev ∧
          t.stations = s.stations) ∧
      (∀ d, flightsOf s mDramScrub = [] → s.hst.scanning = false → s.drc.patrolH ≠ 0 → patrolRuns s s.drc.patrolBeat = true →
        s.drc.patrolBeat < dramBeats s → s.drc.passStart = some d →
        ((subchOf s s.drc.patrolBeat).any (fun sc => (subchAt s sc).trained) = false → exec (.patrolRead []) s =
          .next { s with drc := { s.drc with patrolBeat := s.drc.patrolBeat + 1 } }) ∧
        ((subchOf s s.drc.patrolBeat).any (fun sc => (subchAt s sc).trained) = true → exec (.patrolRead []) s =
          .next (enqueue mDramScrub s.drc.patrolBeat .read { s with drc := { s.drc with patrolBeat := s.drc.patrolBeat + 1 } }))) ∧
      (s.drc.patrolH ≠ 0 → dramBeats s ≤ s.drc.patrolBeat → patrolQuiet s = true → s.drc.overDevs ≠ [] →
        Completes (exec .patrolPassEnd s) fun t =>
          t.drc.patrolBeat = 0 ∧ t.drc.passStart = some s.almanac ∧ t.drc.devCounts = [] ∧ t.drc.overDevs = [] ∧ t.dev = s.dev ∧
          t.dram = s.dram) ∧
      (s.drc.patrolH = 0 → s.log.aonPowered = true → s.drc.overDevs ≠ [] → Completes (exec .correctionCount24h s) fun t =>
        t.drc.dayStart = max s.almanac (s.drc.dayStart + 86400000000) ∧ t.drc.devCounts = [] ∧ t.drc.patrolBeat = s.drc.patrolBeat ∧
        t.dram = s.dram ∧ t.dev = s.dev))

/-- Lost entries of the on-chip tables (R182, R193, R208) and the snapshot of a Room (R206): a lost Chart entry is built
anew from the plan, the tiles of a saved Room are Dirty or Voided and its Room map is read again; a lost tile-state byte is
counted and leaves its tiles of a saved class Dirty and Touched, but none in SAVING; each with its class raised; a Room map
that is read again gives the Entry its newest record, or its failure raises MAP_READ_FAIL; a lost Suite context is loaded
from the plan, its counts summed again, disarmed until the next Reckoning. It says that exec answers a next state for:
chartEntryUe, mapRereadDone, tileStateUe, chtRoomSelWrite, suiteContextUe. -/
def Obligations.ChartCommands : Prop :=
  ∀ s : State,
    (∀ room, twf {} s.cht.entries = true → twf {} s.cht.tiles = true → ∃ t,
      exec (.chartEntryUe room) s = .next (reeval (raiseAddr chtEntryUe (room * 4194304) mNone 0 t)) ∧
      (entryAt t room).suiteId = (builtEntry s room).suiteId ∧ (entryAt t room).cls = (builtEntry s room).cls ∧
      (entryAt t room).impaired = (builtEntry s room).impaired ∧
      (entryAt t room).mapStale = (builtEntry s room).cls.saved ∧
      t.cht.rebuildsEntry = satInc 0xFFFF s.cht.rebuildsEntry ∧
      (∀ k, k / 64 ≠ room → tileAt t k = tileAt s k) ∧
      ((builtEntry s room).cls.saved = true → s.dev.state ≠ .saving → ∀ k, k / 64 = room →
        tileAt t k = entryUeTile (tileAt s k)) ∧
      ((builtEntry s room).cls.saved = false ∨ s.dev.state = .saving → ∀ k, k / 64 = room → tileAt t k = tileAt s k) ∧
      t.dram = s.dram ∧ t.cel = s.cel) ∧
    (∀ byte, byte < 12582912 → ∃ t, exec (.tileStateUe byte) s =
        .next (reeval (raiseAddr chtTstateUe ((byteTiles byte).headD 0 * 65536) mNone 0 t)) ∧
      t.cht.rebuildsTstate = satInc 0xFFFF s.cht.rebuildsTstate ∧ t.cel = s.cel ∧ t.cht.sel = s.cht.sel ∧
      (s.dev.state ≠ .saving → twf {} s.cht.tiles = true → (∀ k ∈ byteTiles byte, (tileClass s k).saved = true) →
        t.dram = s.dram ∧ ∀ k, tileAt t k = if k ∈ byteTiles byte then { st := .dirty, touched := true } else tileAt s k) ∧
      (s.dev.state = .saving → t.dram = s.dram ∧ ∀ k, tileAt t k = tileAt s k)) ∧
    (∀ v : Word, exec (.chtRoomSelWrite v) s = .next { s with cht := { s.cht with
      sel := v.toNat % 2 ^ 19, snapEntry := entryWords (entryAt s (v.toNat % 2 ^ 19)),
      snapTiles := tileWords s (v.toNat % 2 ^ 19) } }) ∧
    (∀ room, s.cht.rereads.contains room = true →
      let u := { s with cht := { s.cht with rereads := s.cht.rereads.filter (· ≠ room) } }
      exec (.mapRereadDone room true) s = .next (modEntry room (fun e => { e with
        mapStale := false, mapPtr := (newestRecord s room).map (fun j => j.ptr),
        mapGen := ((newestRecord s room).map fun j => j.rec_.gen).getD 0 }) u) ∧
      exec (.mapRereadDone room false) s = .next (raiseAddr chtMapReadFail (room * 4194304) mNone 0
        (modEntry room (fun e => { e with mapStale := false, mapPtr := none }) u))) ∧
    (∀ suite, exec (.suiteContextUe suite) s = .next (reeval (raiseAddr suiCtxUe suite mNone 0 (retotal (modSuite suite (fun c =>
      { recountSuite s c with
        cfg := (s.plan.suites.find? fun r => r.id = suite).getD c.cfg, armed := false, armHold := true }) s)))))

/-- The sweep and a stow start (R222, R223, R224, Table 06-1): a completed sweep takes the period anew; a Dirty candidate
with Touched clear becomes Stowing with its copy begun once the DRC serves its beats, one that is not is dropped.
Completions and stalled claims (R227, R233, R234, R235): with no record and no failed copy of a Room nothing is delivered;
the stalled claims are looked at again in the states that evaluate; a claim at its bound is granted under the exposure
policy, and no longer stalls. It says that exec answers a next state for: sweepVisit, stowStart, stowCompletion,
stallReevaluate, stallBound, stallEventWindow. -/
def Obligations.Stowing : Prop :=
  (∀ s : State,
      (stowRuns s = true → s.stw.sweepRoom ≠ 0 → nextSwept s s.stw.sweepRoom = none →
        exec .sweepVisit s = .next { s with stw := { s.stw with sweepRoom := 0 } }) ∧
      (∀ r, stowRuns s = true → nextSwept s s.stw.sweepRoom = some r → twf {} s.cht.tiles = true →
        Completes (exec .sweepVisit s) fun t =>
          (∀ k, tileAt t k = if k / 64 = r then { tileAt s k with touched := false } else tileAt s k) ∧
          t.stw.sweepRoom ∈ [0, r + 1] ∧ t.dram = s.dram ∧ t.cel = s.cel ∧ t.dev = s.dev ∧ t.stations = s.stations) ∧
      (∀ t, mayStow s = true → nextCandidate s = some t → (tileAt s t).st = .dirty → (tileAt s t).touched = false →
        (tileServed s mStow t = true → exec .stowStart s = .next (startStow t .stow (dropCandidate t s))) ∧
        (tileServed s mStow t = false → exec .stowStart s = .next (callTile t s))) ∧
      (∀ t, mayStow s = true → nextCandidate s = some t → (tileAt s t).touched = true →
        exec .stowStart s = .next { s with stw := { s.stw with
          urgent := s.stw.urgent.filter (· ≠ t), normal := s.stw.normal.filter (· ≠ t) } })) ∧
  (∀ s : State,
      (∀ room, evaluates s.dev.state = true → s.cel.copies = [] → s.cel.recs = [] →
        exec (.stowCompletion room) s = .next (foldStep (startErasures (reeval s)))) ∧
      (∀ r n, evaluates s.dev.state = true → s.cel.copies = [] → s.cel.recs = [r] → r.phase = .resolved true →
        (r.names.filter fun x => x.2.2.completes) = [n] → exec (.stowCompletion r.rec_.room) s = .next (foldStep (startErasures
          (reeval (deliver true n.1 (foldMarked r.rec_ (putInForce r.rec_ r.ptr { s with cel := { s.cel with recs := [] } }))))))) ∧
      (evaluates s.dev.state = true → exec .stallReevaluate s = .next (reevalStalled s)) ∧
      (∀ c, s.stw.stalled = [c] → s.stw.windowSuites = [] → (∀ x ∈ s.sui, exposureOf s x ≠ 2) → Completes (exec (.stallBound 0) s) fun t =>
        t.stw.boundHits = satInc 0xFFFF s.stw.boundHits ∧ t.stw.stalled = [] ∧ t.stw.windowSuites = [c.suite] ∧
        t.dram = s.dram) ∧
      (∀ a l, s.stw.windowSuites = a :: l → s.log.aonPowered = true → Completes (exec .stallEventWindow s) fun t =>
        t.stw.windowSuites = [] ∧ t.almanac = (s.almanac / 1000 + 1) * 1000 ∧ t.dram = s.dram ∧ t.cht = s.cht ∧ t.dev = s.dev))

/-- The Wear Allowance and its record (R241 to R244): a second's part of the accrual, at most 30 days of it; the hourly
store of the counters and the bucket; the daily projection where SERVICE_YEARS is 0. It says that exec answers a next state
for: wearAccrualTick, counterStore, wearProjection. -/
def Obligations.WearAllowance : Prop :=
  ∀ s : State,
    (poweredState s.dev.state = true → s.log.aonPowered = true → Completes (exec .wearAccrualTick s) fun t =>
      t.stw.bucket = min (30 * s.stw.accrual) (s.stw.bucket + (s.stw.accrual + s.stw.accrualRem) / 86400) ∧
      t.stw.accrualRem = (s.stw.accrual + s.stw.accrualRem) % 86400 ∧ t.almanac = (s.almanac / 1000000 + 1) * 1000000 ∧
      t.dram = s.dram ∧ t.cht = s.cht ∧ t.dev = s.dev) ∧
    (logHolds s = false → Completes (exec .counterStore s) fun t =>
      t.log.lifeStored = t.log.life ∧ t.log.lifeStoredAt = t.almanac ∧ t.stw.bucketStored = some (s.stw.bucket, t.almanac) ∧
      t.dram = s.dram ∧ t.cht = s.cht ∧ t.dev = s.dev) ∧
    (poweredState s.dev.state = true → s.plan.policy.serviceYears = 0 → s.stw.wearShort = false → s.stw.overRun < 6 →
      s.log.aonPowered = true → Completes (exec .wearProjection s) fun t =>
        t.stw.elapsedPct = 0 ∧ t.stw.wearShort = false ∧ t.almanac = nextPhase s 2 ∧ t.dram = s.dram ∧ t.cht = s.cht ∧
        t.dev = s.dev)

/-- From the Fence to the list (R253, R258, R266): the stagger delay elapses, the drain ends once every accepted write is in
DRAM, SAVING begins at the later of the two, and the header is in flash before the list. Tiles of a save (R270, R271, R273,
R275, R279; 09_cellar R324): the next tile of the list is read, with entries of the copy-beat pool and once the DRC serves
its beats, and goes to the half, whose die may program, or into the Cellar; a program that passes puts it into the half's
next slot, and ends a Full save's tile; every 100 µs the rate is adjusted, off the pack it is the mode's maximum. It says
that exec answers a next state for: staggerElapsed, drainComplete, savingEntry, saveHeaderDone, saveTileRead, saveTileDone,
saveRateTick. -/
def Obligations.SaveBeginsAndWrites : Prop :=
  (∀ s : State,
      (s.dev.state = .fenced → s.sav.staggered = false → s.log.aonPowered = true → Completes (exec .staggerElapsed s) fun t =>
        t.sav.staggered = true ∧
        t.almanac = max s.almanac (s.sav.fenceTime + (s.plan.domain.memberId * s.plan.domain.slot100ns + 9) / 10) ∧
        t.dram = s.dram ∧ t.cht = s.cht ∧ t.dev = s.dev) ∧
      (s.dev.state = .fenced → s.sav.drained = false → drainedAll s = true → exec .drainComplete s =
        .next { s with sav := { s.sav with drained := true, phase := .stagger } }) ∧
      (s.dev.state = .fenced → s.sav.drained = true → s.sav.staggered = true → keeperRuns s = true → s.nrg.path = .mains →
        Completes (exec .savingEntry s) fun t => t.dev.state = .saving ∧ t.dev.prev = .fenced ∧ t.dev.entryCause = 0x0A ∧
          t.sav.phase = .header ∧ t.dram = s.dram) ∧
      (∀ r, s.dev.state = .saving → s.sav.phase = .header → s.sav.run = some r → Completes (exec .saveHeaderDone s) fun t =>
        t.sav.phase = .list ∧ t.sav.saveId = r.header.saveId ∧ t.dram = s.dram ∧ t.dev = s.dev)) ∧
  (∀ s : State, s.dev.state = .saving → s.sav.phase = .tiles →
      (∀ r i t rest,
        let u := { programList s with sav := { (programList s).sav with phase := .tiles } }
        (programList s).dev.state = .saving → u.sav.run = some r → r.todo = (i, t) :: rest →
        tileEntries u .save = true → tileServed u mSave t = true →
        (r.half = none → exec .saveTileRead s = .next (selfRefreshRead (readTile r i t rest u))) ∧
        (∀ x, nextFlight u r = some x → x < halfSlots u → dieTaken u x = false → r.half ≠ none → exec .saveTileRead s =
          .next (selfRefreshRead (readTile r i t rest (dieWorks (halfDieOf u x) u))))) ∧
      (∀ r h i t img rest us, s.sav.run = some r → r.half = some h → r.inFlight = (i, t, img) :: rest →
        exec (.saveTileDone i us true) s = .next (noteLeft (halfProgramEnd true (notePslc us s)))) ∧
      (∀ r i t img us c, s.sav.run = some r → r.half = none → r.inFlight = [(i, t, img)] → s.cel.copies = [c] → c.src = .full →
        c.tile = t → c.phase = .passed → Completes (exec (.saveTileDone i us true) s) fun u =>
          u.sav.run = some { r with inFlight := [] } ∧ u.cel = s.cel ∧ u.dram = s.dram ∧ u.dev = s.dev) ∧
      (∀ ma mv, s.nrg.path = .mains → Completes (exec (.saveRateTick ma mv) s) fun u =>
        u.sav.nowRate = modeMax s.sav.kind ∧ u.dram = s.dram ∧ u.cht = s.cht ∧ u.dev = s.dev))

/-- The ends of a save (R266, R281, R285; 15_onchip_integrity Table 15-5): an exhausted pack is OFF with cause 0x11 and
Abandon given, a bus error of the Keeper is SAVED with cause 0x12 or, where R710 asks for it, BOOT; a Seal that passes makes
the half IMAGE and the shutdown clean. Warm Return and the halves (R262, R263, R265, R286): a completed Warm Return is
SERVICE with cause 0x0D, its service-open record still to be programmed; once programmed the record opens the session, and
the halves that the Warm Return sealed are released; an erased half is READY. It says that exec answers a next state for:
packExhausted, vbusLowTimeout, keeperBusError, saveSealDone, warmReturnComplete, serviceOpenProgrammed, halfEraseDone. -/
def Obligations.SaveEndsAndWarmReturn : Prop :=
  (∀ s : State, s.dev.state = .saving →
      (s.nrg.path = .pack → Completes (exec .packExhausted s) fun t =>
        t.dev.state = .off ∧ t.dev.prev = .saving ∧ t.dev.entryCause = 0x11 ∧ t.plk.outAbandon = true ∧ t.sav.outcome = 1) ∧
      (s.nrg.path = .pack → s.sav.nowRate ≤ rateFloor s.sav.kind → Completes (exec .vbusLowTimeout s) fun t =>
        t.dev.state = .off ∧ t.dev.prev = .saving ∧ t.dev.entryCause = 0x11 ∧ t.plk.outAbandon = true) ∧
      (∀ a, s.sav.absenceSinceFence = false → Completes (exec (.keeperBusError a) s) fun t =>
        t.dev.state = .saved ∧ t.dev.prev = .saving ∧ t.dev.entryCause = 0x12 ∧ t.sav.outcome = 1) ∧
      (∀ r, s.sav.phase = .tiles → s.sav.run = some r → sealDue s r = true → s.nrg.p12vValid = false →
        s.sav.absenceSinceFence = true → Completes (exec (.saveSealDone true) s) fun t =>
          t.dev.state = .saved ∧ t.dev.prev = .saving ∧ t.dev.entryCause = 0x0B ∧ t.hst.shutdownDirty = false ∧
          t.sav.outcome = 0 ∧ t.sav.run = none)) ∧
  (∀ s : State,
      (s.dev.state = .warmReturn → warmReady s = true → s.svc.phase ≠ 3 → s.dev.heldAbandon = false → s.dev.heldReplace = false →
        s.dev.heldHarbour = false → Completes (exec .warmReturnComplete s) fun t =>
          t.dev.state = .service ∧ t.dev.prev = .warmReturn ∧ t.dev.entryCause = 0x0D ∧
          t.hst.gateClosed = false ∧ t.dram = s.dram) ∧
      (s.sav.openPending = true → s.dev.state = .service →
        let o : OpenRec := { openId := s.sav.openId + 1, lastSaveId := newestSaveId s, time := s.almanac }
        exec .serviceOpenProgrammed s = .next (releaseWarm (programItem 4 0 (.opened o) 0 1 { s with
          sav := { s.sav with openId := s.sav.openId + 1, openPending := false, opened := true },
          cel := { s.cel with opens := o :: s.cel.opens } }))) ∧
      (s.sav.openPending = true → s.dev.state = .service → s.sav.warmHalves = [.port] → s.sav.port.rec_ ≠ none →
        Completes (exec .serviceOpenProgrammed s) fun t => t.sav.opened = true ∧ t.sav.openPending = false ∧ t.sav.warmHalves = [] ∧
          t.sav.port.st = .erasing ∧ t.sav.stbd = s.sav.stbd ∧ t.dram = s.dram ∧ t.dev = s.dev) ∧
      (s.dev.state = .service → s.sav.port.st = .erasing → Completes (exec (.halfEraseDone .port) s) fun t =>
        t.sav.port = { st := .ready } ∧ t.sav.stbd = s.sav.stbd ∧ t.cel.portErases = s.cel.portErases + 1 ∧ t.dram = s.dram ∧
        t.dev = s.dev))

/-- The boot ROM's choice (R291, R634): with no bank confirmed, or with a set that fails its check, the part goes to
DRYDOCK; a confirmed and migrated bank that passes is in force. Boot steps (R290, R294, R296, R298; 02_floor_plan R69, R74):
the plan is loaded after the bank is selected; the decision waits for MUSTER_IN_N; a fresh start ends in SERVICE with cause
0x03. It says that exec answers a next state for: bootImageCheck, floorPlanLoad, metaReadDone, restoreDecision,
zeroFillDone. -/
def Obligations.BootSteps : Prop :=
  (∀ s : State, s.dev.state = .boot → s.svc.selected = false → s.dev.heldAbandon = false → s.dev.heldReplace = false →
      s.dev.heldHarbour = false →
      (∀ p, selectBank s = none → Completes (exec (.bootImageCheck p) s) fun t =>
        t.dev.state = .drydock ∧ t.dev.prev = .boot ∧ t.dev.entryCause = 0x04) ∧
      (∀ b, selectBank s = some b → Completes (exec (.bootImageCheck false) s) fun t =>
        t.dev.state = .drydock ∧ t.dev.prev = .boot ∧ t.dev.entryCause = 0x04) ∧
      (∀ b, selectBank s = some b → s.fuses.epoch ≤ hdrField s b 9 1 → markerCounts (svcBank s b) .migrated = true →
        bankState (svcBank s (1 - b)) ≠ 1 → bankState (svcBank s (1 - b)) ≠ 3 → exec (.bootImageCheck true) s =
          .next { s with svc := { s.svc with inForce := b, selected := true } })) ∧
  (∀ s : State, s.dev.state = .boot →
      (s.svc.selected = true → s.cht.built = false → exec .floorPlanLoad s = .next (loadPlan s)) ∧
      (decisionDue s = true → musterHigh s = false → exec .restoreDecision s =
        .next { s with sav := { s.sav with holdReason := 2 } }) ∧
      (decisionDue s = true → musterHigh s = true → planCheck s = true → currentSave s = none → newestOpen s = none →
        Completes (exec .restoreDecision s) fun t => t.sav.decision = .fresh ∧ t.dev = s.dev ∧ t.dram = s.dram) ∧
      (s.sav.decision = .fresh → musterLow s = false → s.dev.heldAbandon = false → s.dev.heldReplace = false →
        s.dev.heldHarbour = false → Completes (exec .zeroFillDone s) fun t =>
          t.dev.state = .service ∧ t.dev.prev = .boot ∧ t.dev.entryCause = 0x03 ∧ t.hst.gateClosed = false) ∧
      (s.cht.built = true → s.cel.metaLoaded = false → s.cel.journal = [] → s.cel.ckpts = [] → s.sav.badHeaders = [] →
        s.sav.badOpens = [] → lastSave s = none → s.log.gapUnknown = false → s.cel.spareThresh ≤ (spareMin s).1 →
        Completes (exec (.metaReadDone [] [] {}) s) fun t => t.cel.metaLoaded = true ∧ t.almanac = s.almanac ∧
          t.sav.openId = ((newestOpen s).map fun o => o.openId).getD 0 ∧ t.cht = s.cht ∧ t.dram = s.dram ∧
          t.dev = { s.dev with reasons := s.dev.reasons &&& ~~~ 2#6 }))

/-- Restore, Early Tenancy and Fold (R301, R305, R307, R310, R317, R318; 02_floor_plan R74): with every preset done the part
may enter TENANCY once the session is open; the next tile in the order of the restore is written; the Fold takes the next
tile that is Dirty; a live plan held for its apply point is in force after it. It says that exec answers a next state for:
restorePresetDone, earlyTenancyEntry, restoreTileWritten, foldStart, floorPlanApply. -/
def Obligations.RestoreAndFold : Prop :=
  ∀ s : State,
    (restoring s = true → s.sav.restore.presetDone = false → s.sav.restore.s = none → s.sav.restore.base = none →
      s.sav.restore.order ≠ [] → Completes (exec (.restorePresetDone [] [] false) s) fun t =>
        t.sav.restore.presetDone = true ∧ t.sav.restore.order = s.sav.restore.order ∧ t.dram = s.dram ∧ t.dev.state = s.dev.state) ∧
    (s.dev.state = .restore → s.sav.et = true → s.sav.restore.presetDone = true → s.sav.opened = true →
      Completes (exec .earlyTenancyEntry s) fun t => t.dev.state = .tenancy ∧ t.dev.prev = .restore ∧
        t.dev.entryCause = 0x05 ∧ t.hst.gateClosed = false ∧ t.dram = s.dram) ∧
    (∀ tile hb ib, restoring s = true → s.sav.restore.presetDone = true → tileNext s tile = true → tileEntries s .demand = true →
      tileEntries s .other = true → tileServed s mRestore tile = true → exec (.restoreTileWritten tile hb ib) s = .next (afterTile tile (reeval (writeRestored tile
        (restoredTile s tile hb ib) ((sourceDie s tile).elim s fun d => dieWorks d s))))) ∧
    (∀ t rest, s.dev.state = .service → s.sav.foldPhase = 1 → s.sav.foldLeft = t :: rest → (tileAt s t).st = .dirty →
      (entryAt s (t / tilesPerRoom)).mapStale = false → foldMay s = true → foldWhole s t = true ∨ tileServed s mFold t = true →
      exec .foldStart s = .next (startFold t { s with sav := { s.sav with foldLeft := rest } })) ∧
    (∀ h, s.dev.state = .service → s.fpl.liveHeld = some h → s.stw.stalled = [] → musterPinLow s = false → Completes (exec .floorPlanApply s) fun t =>
      t.fpl.plan = h.plan ∧ t.fpl.slot = some h.slot ∧ t.fpl.liveHeld = none ∧ t.fpl.isDefault = false ∧
      t.fpl.liveCount = satInc 0xFFFFFFFF s.fpl.liveCount ∧ t.dram = s.dram)

/-- Programs and journal pages (R330, R331, R337 to R341, R350): a wordline program that passes puts each copy into its
slot; a waiting wordline is padded and issued; sixteen waiting records are issued as one page; a page both of whose copies
passed is in the journal; a checkpoint, after 65,536 records and before a journal block that no record in force needs is
erased, takes the maps in force; the Rooms of a journal block to be erased get refresh records. Reads, erases, reclaim, wear
and patrol (R334, R335, R346 to R354): a read decodes on the block's last threshold set where it can, and one that decodes
on none raises READ_UE; an erase that passes frees the block; a suspended erase goes on once its die is idle; below the low
mark the emptiest block is reclaimed; above a spread of 200 a TLC block is moved, above one of 2,000 a pSLC block; the
patrol goes past a block that is young enough. It says that exec answers a next state for: padTimeout, nandProgramDone,
roomMapBuild, journalPageIssue, metaProgramDone, nandReadDone, nandEraseDone, checkpointDue, journalBlockReclaim, gcReclaim,
wearLevelMove, nandPatrolRead, backgroundEraseResume. -/
def Obligations.CellarWork : Prop :=
  (∀ s : State,
      (∀ die us c, (s.cel.copies.find? fun c => c.phase = .issued && c.die = die) = some c → exec (.nandProgramDone die us true) s =
        .next (placeStaged (endProgram die true (noteTlc us s)))) ∧
      (∀ die c, padNext s die = some c → c.src.reloc? = false → exec (.padTimeout die) s =
        .next (placeStaged (modDie die (fun x => { x with frontier := x.frontier.map fun f => (f.1, (f.2 + 2) / 3 * 3) })
          (advanceTo (c.at_ + s.cel.padUs) s)))) ∧
      (16 ≤ (waitingRecs s).length → exec .journalPageIssue s = .next (issuePage s)) ∧
      (∀ room, recBusy s room = false → (entryAt s room).mapStale = false → fullPending s room = false →
        exec (.roomMapBuild room) s = .next (buildRecord room
          (s.cel.copies.any fun c => c.tile / tilesPerRoom = room && c.src = .full) s)) ∧
      (∀ page us r, (s.cel.recs.filter fun r => r.phase = .issued page) = [r] → s.dev.state = .service →
        Completes (exec (.metaProgramDone page us true true) s) fun t =>
          t.cel.journal = s.cel.journal ++ [{ ptr := r.ptr, rec_ := r.rec_ }] ∧ t.dram = s.dram ∧ t.cht = s.cht ∧ t.dev = s.dev) ∧
      (metaWorks s = true → 65536 ≤ s.cel.sinceCkpt → exec .checkpointDue s = .next (takeCheckpoint s)) ∧
      (∀ d b, metaWorks s = true → journalBlock s d b = true → roomsIn s d b = [] → mayErase (takeCheckpoint s) 2 d b = true →
        (dieAt (takeCheckpoint s) d).erasing = none → dieIdle (takeCheckpoint s) d = true → exec (.journalBlockReclaim d b) s =
          .next (modDie d (fun x => { x with erasing := some (2, b, false) }) (takeCheckpoint s))) ∧
      (∀ d b r, metaWorks s = true → journalBlock s d b = true → roomsIn s d b = [r] → exec (.journalBlockReclaim d b) s =
        .next (refreshRecord r s))) ∧
  (∀ s : State,
      (∀ part d b hard soft tile, (nandAt s part d b).set < 17 → hard.contains (nandAt s part d b).set = true →
        exec (.nandReadDone part d b hard soft true tile) s = .next (modNand part d b
          (fun n => { n with set := (nandAt s part d b).set }) { s with cel := { s.cel with
            shifted := if (nandAt s part d b).set ≠ 0 then satInc 0xFFFF s.cel.shifted else s.cel.shifted } })) ∧
      (∀ part d b ok tile, part ≠ 0 → exec (.nandReadDone part d b [] [] ok tile) s = .next (raiseAddr celReadUe
        (tile.getD 0 * 65536) (nandMaster s tile) 1 { s with cel := { s.cel with ue := satInc 0xFFFFFFFF s.cel.ue } })) ∧
      (∀ part d b, mayErase s part d b = true → suspended s part d b = false → exec (.nandEraseDone part d b true) s =
        .next (startErasures (placeStaged (modNand part d b
          (fun n => { n with erases := n.erases + 1, inUse := false, reErase := false }) (wipeBlock part d b (modDie d (fun x => { x with
            erasing := x.erasing.filter fun e => !(e.1 = part && e.2.1 = b) }) s)))))) ∧
      (∀ d p b, (dieAt s d).erasing = some (p, b, true) → dieIdle s d = true →
        exec (.backgroundEraseResume d) s = .next (modDie d (fun x => { x with erasing := some (p, b, false) })
          (advanceTo ((dieAt s d).busyAt + 1000) s))) ∧
      (∀ d b, evaluates s.dev.state = true → d < dieCount s → freeCount s d < s.cel.gcLow → emptiest s d = some b →
        exec (.gcReclaim d) s = .next (startErasures (relocateBlock d b { s with cel := { s.cel with reclaim := true } }))) ∧
      (∀ d, evaluates s.dev.state = true → (wearSpread s d (tlcBlocks s)).2.1 + 200 < (wearSpread s d (tlcBlocks s)).1 →
        exec (.wearLevelMove 0 d) s = .next (relocateBlock d (wearSpread s d (tlcBlocks s)).2.2.2 s)) ∧
      (∀ part d, part ≠ 0 → evaluates s.dev.state = true →
        (wearSpread s d (pslcBlocks s)).2.1 + 2000 < (wearSpread s d (pslcBlocks s)).1 → exec (.wearLevelMove part d) s =
          .next (rewriteBlock (wearSpread s d (pslcBlocks s)).2.2.1 d (wearSpread s d (pslcBlocks s)).2.2.2 s)) ∧
      (∀ d b, evaluates s.dev.state = true → stageNow s = 0 → s.cel.patrolD ≠ 0 → patrolled s 0 d b = true → dieIdle s d = true →
        eraseRuns s d = false → s.almanac - (nandAt s 0 d b).progAt ≤ s.cel.ageD * 86400000000 → exec (.nandPatrolRead 0 d b 0 false [] false) s =
          .next (noteDecode 0 d b (0, false) { s with cel := { s.cel with
            patrolRun := true, patrolDie := (patrolAfter s d (physBlock s 0 d b)).1,
            patrolBlock := (patrolAfter s d (physBlock s 0 d b)).2 } })))

/-- Presence and authentication (R376 to R385): readings that remove a pack end what it served and take the ceiling to 0; an
inserted pack that needs no authentication takes its profile; a poll that is not answered, or comes after 500 ms, ends an
authentication with result 3; a retry begins a new one ten minutes after the failure. Samples and the charger (R373, R374,
R386, R387): a sample of a part without a pack takes the readings; a measurement of a part without a pack takes its
readings; 30 min of precharge end it with PRECHG_TIMEOUT. It says that exec answers a next state for: packRemoved,
packInserted, packAuthPoll, packAuthRetry, packThermSample, packMeasure, prechargeTimeout. -/
def Obligations.PackAndCharger : Prop :=
  (∀ (s : State) (id ohms : Nat) (th0 th1 : Therm), poweredState s.dev.state = true →
      (exec (.packRemoved id ohms th0 th1) s =
        .next (readingsTaken s.nrg ohms (takeReadings (packReading id) th0 th1 s))) ∧
      (s.nrg.present = true → s.dev.state = .service → packReading id = .open_ →
        Completes (exec (.packRemoved id ohms th0 th1) s) fun t =>
          t.nrg.packId = .open_ ∧ t.nrg.inserted = false ∧ t.nrg.chgMa = 0 ∧ t.stw.rekCeil = 0 ∧ t.rek.running = none ∧
          t.dram = s.dram ∧ t.cht = s.cht) ∧
      (∀ n a b rep, s.nrg.inserted = false → th0 = .ok a → th1 = .ok b → packReading id = .code n →
        packClass n = some (s.plan.energy.chem, s.plan.energy.cells) →
        s.plan.energy.auth = 0 → exec (.packInserted id ohms th0 th1 false rep) s =
          let u := takeReadings (.code n) th0 th1 s
          let v := packAlert u { u with nrg := { u.nrg with
            inserted := true, insertions := satInc 0xFFFF s.nrg.insertions, announce := true, authAttempts := 0, authResult := 0,
            authEntry := 0, auth := none, authFailedAt := none, prechgFailed := false, overVolt := false, tempPause := false,
            runHold := false } }
          .next (endAuth 0 0 (takeProfile (readSerial rep) n false false { v with gau := { v.gau with pulseOwed := true } }))) ∧
      (∀ a, s.nrg.auth = some a →
        let u := pbReads [0x11] (advanceTo (a.startedAt + ((s.almanac - a.startedAt) / 10000 + 1) * 10000) s)
        exec (.packAuthPoll none [] []) s = .next (endAuth 3 0 u) ∧
        ∀ key resp, exec (.packAuthPoll (some 2) key resp) s = .next (if a.startedAt + 500000 < u.almanac then endAuth 3 0 u
          else
            let v := pbReads (if s.plan.energy.auth = 1 then [0x12, 0x04] else [0x12]) u
            match authCheck v a key resp with
            | some k => endAuth 1 k v
            | none => endAuth 2 0 v)) ∧
      (∀ rep t, s.nrg.inserted = true → chargeState s.dev.state = true → s.nrg.auth = none → s.plan.energy.auth ≠ 0 →
        s.nrg.authAgain = false → s.nrg.authFailedAt = some t →
        exec (.packAuthRetry rep) s = .next (beginAuth rep (advanceTo (t + 600000000) s)))) ∧
  (∀ s : State,
      (∀ a b ohms, s.dev.state = .service → s.nrg.inserted = false → s.nrg.packId = .open_ →
        Completes (exec (.packThermSample (.ok a) (.ok b) ohms) s) fun t =>
          t.nrg.th0 = (Therm.ok a).converted ∧ t.nrg.th1 = (Therm.ok b).converted ∧ t.dram = s.dram ∧ t.cht = s.cht ∧ t.dev = s.dev ∧ t.stations = s.stations ∧
          (s.log.aonPowered = true → t.almanac = (s.almanac / 100000 + 1) * 100000)) ∧
      (∀ mv ma p lim, s.dev.state = .service → s.nrg.inserted = false → s.log.aonPowered = true → s.plan.energy.chem = 0 →
        Completes (exec (.packMeasure mv ma p lim) s) fun t =>
          t.nrg.packMv = mv ∧ t.nrg.packMa = min (min (chargeLimit s mv p : Int) (chargeSet s)) (clamped s ma) ∧ t.nrg.p12vMv = p ∧
          t.nrg.ilimActive = (charging s && (lim || decide ((chargeLimit s mv p : Int) < ma ∧ (chargeLimit s mv p : Int) < chargeSet s))) ∧
          t.almanac = max s.almanac (s.nrg.measAt + 1000) ∧ t.nrg.measAt = t.almanac ∧ t.dram = s.dram ∧ t.dev = s.dev) ∧
      (s.nrg.chg = .precharge → cellMode s = true → exec .prechargeTimeout s = .next (raise nrgPrechgTimeout (setCharge .off
        { advanceTo (s.nrg.chgAt + 1800000000) s with nrg := { s.nrg with prechgFailed := true } }))))

/-- The Exercise (R389 to R391; 19_almanac_log_identity R654): with its conditions met it starts, the path on the pack;
without them a due one waits and is tried again an hour later; ABORT ends it with result 8; the check every 100 ms leaves a
running one with no stop condition. It says that exec answers a next state for: exerciseDue, exerciseRetry, exerciseStart,
exerciseAbort, exerciseStopCheck. -/
def Obligations.Exercise : Prop :=
  ∀ s : State,
    (exerciseOk s = true → exec .exerciseStart s = .next (startExercise s)) ∧
    (∀ h d, exerClock s s.almanac = some h → s.plan.policy.exerDays ≠ 0 → poweredState s.dev.state = true → lastDue s h = some d →
      s.nrg.exerFired < d → exerciseOk s = false → exec .exerciseDue s = .next { s with nrg := { s.nrg with
        exerFired := d, exerTries := 1, exerWaiting := true, exerTryAt := s.almanac } }) ∧
    (∀ h d, exerClock s s.almanac = some h → s.plan.policy.exerDays ≠ 0 → poweredState s.dev.state = true → lastDue s h = some d →
      s.nrg.exerFired < d → exerciseOk s = true → exec .exerciseDue s =
        .next (startExercise { s with nrg := { s.nrg with exerFired := d, exerTries := 0 } })) ∧
    (s.nrg.exerWaiting = true → exec .exerciseRetry s = .next (tryExercise (advanceTo (s.nrg.exerTryAt + 3600000000) s))) ∧
    (∀ x, s.nrg.exer = some x → exec .exerciseAbort s = .next (chargeStep (endExercise 8 s))) ∧
    (∀ x, s.nrg.exer = some x → s.log.aonPowered = true → exerciseStop (advanceTo ((s.almanac / 100000 + 1) * 100000) s) x = none →
      exec .exerciseStopCheck s = .next (advanceTo ((s.almanac / 100000 + 1) * 100000) s)) ∧
    (∀ x r, s.nrg.exer = some x → s.log.aonPowered = true →
      exerciseStop (advanceTo ((s.almanac / 100000 + 1) * 100000) s) x = some r →
      exec .exerciseStopCheck s = .next (chargeStep (endExercise r (advanceTo ((s.almanac / 100000 + 1) * 100000) s))))

/-- References and resistance (R398, R402, R403, R410, R411): pulses draw 2.0 A for 200 ms while their conditions hold; a
rest that has lasted takes a reference; a window opens and times out; 72 h without a reference want a new Reckoning; 90 days
without a sample derate the capacity by 1 %. The Reckoning (R412, R414, R419, R420, R423): a wanted run takes its snapshot
at once; its end publishes the verdict, the ceiling and the plan rate; REK_CTL.RUN wants a run; the gauge's records are
stored; the daily evaluation is that of R424. It says that exec answers a next state for: resistancePulse, pulseNow,
gaugeRestReference, forceRef, restWindowOpen, restWindowTimeout, estimatorStale, capacityDerate, gaugeRecordStore,
reckoningRun, reckoningPublish, rekRun, packEolEval. -/
def Obligations.GaugeAndReckoning : Prop :=
  (∀ s : State,
      (pulseOk s = true → exec .pulseNow s = .next { markStep s with gau := { (markStep s).gau with
        pulseEnd := some (s.almanac + 200000), pulseDue := false } }) ∧
      (pulseOk s = true → s.gau.pulseDue = true → exec .resistancePulse s = .next (startPulse s)) ∧
      (∀ t, s.gau.restSince = some t → cellMode s = true → s.nrg.inserted = true → poweredState s.dev.state = true →
        inRefRange s.plan.energy.chem (socV { advanceTo (t + restTime s.plan.energy.chem) s with gau := { s.gau with
          restSince := some (advanceTo (t + restTime s.plan.energy.chem) s).almanac } }) = false →
        exec .gaugeRestReference s = .next { advanceTo (t + restTime s.plan.energy.chem) s with gau := { s.gau with
          restSince := some (advanceTo (t + restTime s.plan.energy.chem) s).almanac } }) ∧
      (∀ t, s.gau.restSince = some t → cellMode s = true → s.nrg.inserted = true → poweredState s.dev.state = true →
        let u := { advanceTo (t + restTime s.plan.energy.chem) s with gau := { s.gau with
          restSince := some (advanceTo (t + restTime s.plan.energy.chem) s).almanac } }
        inRefRange s.plan.energy.chem (socV u) = true → exec .gaugeRestReference s = .next (takeReference u) ∧
          (takeReference u).gau.refValid = true ∧ (takeReference u).gau.socRef = floorNat (socV u * 1000) ∧
          (takeReference u).gau.stale = false) ∧
      (windowOk s = true → exec .restWindowOpen s = .next (openWindow s)) ∧
      (cellMode s = true → windowOk { s with gau := { s.gau with forceRef := true } } = false →
        exec .forceRef s = .next { s with gau := { s.gau with forceRef := true } }) ∧
      (∀ t, s.gau.restWindow = some t → exec .restWindowTimeout s = .next (closeWindow (advanceTo (t + 10800000000) s))) ∧
      (cellMode s = true → s.nrg.inserted = true → s.gau.stale = false → poweredState s.dev.state = true →
        Completes (exec .estimatorStale s) fun t => t.rek.again = true) ∧
      (s.nrg.inserted = true → poweredState s.dev.state = true → s.gau.derateAt ≤ s.gau.learnAt → s.log.aonPowered = true →
        s.almanac < s.gau.learnAt + 10368000000000 → Completes (exec .capacityDerate s) fun t =>
          t.gau.cap = s.gau.cap * 99 / 100 ∧ t.gau.derateAt = s.gau.learnAt + 7776000000000 ∧
          t.almanac = max s.almanac (s.gau.learnAt + 7776000000000) ∧ t.dram = s.dram ∧ t.dev = s.dev ∧ t.nrg = s.nrg)) ∧
  (∀ s : State,
      (reckonState s = true → s.gau.refValid = false → s.rek.running = none → s.nrg.runHold = false → purserAway s = false → s.rek.again = true →
        Completes (exec .reckoningRun s) fun t => t.rek.running.isSome = true ∧ t.rek.again = false ∧ t.rek.out = s.rek.out ∧
          t.almanac = s.almanac ∧ t.dram = s.dram ∧ t.cht = s.cht) ∧
      (∀ o, s.rek.running = some o → o.limit ≠ 1 → ceilMoved o.ceiling s.rek.loggedCeil = false → o.logsDis = false →
        exec .reckoningPublish s = .next (reevalStalled (reeval { s with
          sui := s.sui.map (fun c => { c with armHold := false }),
          stw := { s.stw with rekCeil := o.ceiling, fullOk := o.fullOk }, sav := { s.sav with planRate := o.planRate },
          rek := { s.rek with out := o, running := none, runs := (s.rek.runs + 1) % 65536, lastAt := s.almanac } }))) ∧
      (reckonState s = true → exec .rekRun s = .next { s with rek := { s.rek with again := true } }) ∧
      (poweredState s.dev.state = true → logHolds s = false → s.gau.storeDue = true → Completes (exec (.gaugeRecordStore true) s)
        fun t => t.gau.costStored = s.gau.cost ∧ t.gau.resStored = s.gau.res25 ∧ t.gau.storeDue = false ∧
          t.gau.storedAt = s.almanac ∧ t.dram = s.dram ∧ t.nrg = s.nrg) ∧
      (s.nrg.inserted = true → poweredState s.dev.state = true → exec .packEolEval s =
        .next (eolEval true (advanceTo ((s.almanac / 86400000000 + 1) * 86400000000) s))))

/-- The Kenene Link (R431, R432, R435, R436, R443): training shows both bounds, agrees the largest common revision and sends
HELLO; a mismatch trains again after 10 s; a flit in sequence is acknowledged; a retrain that ends within 1 ms brings the
link back, a later one takes it down; credits add up; the next beat is sent for a credit. Contact and the heartbeat (R436,
R450, R451, R452): HELLO makes contact; the heartbeat goes out every 10 µs with its counter; 100 µs of silence or a PARTING
lose contact for every set. It says that exec answers a next state for: klTrained, revRetry, helloMessage, flitReceive,
linkRetrainEnd, creditMessage, partnerForwardSend, heartbeatSend, contactTimeout, partingMessage, pairWaitExpire. -/
def Obligations.PartnerLinkAndContact : Prop :=
  (∀ s : State, plkActs s = true →
      (∀ mx mn, s.plk.rev = 0 → s.plk.revMismatchAt = none → s.plan.partner.klMin ≤ min s.plan.partner.klMax mx →
        mn ≤ min s.plan.partner.klMax mx → 0 < min s.plan.partner.klMax mx → exec (.klTrained mx mn) s = .next (sendHello {
          emit (.link 0x102 [s.plan.partner.klMin, s.plan.partner.klMax]) s with
          plk := { s.plk with rev := min s.plan.partner.klMax mx, fseq := 0, rack := 0, replays := 0, retraining := false,
                              hbAt := s.almanac } })) ∧
      (∀ t, s.plk.revMismatchAt = some t → exec .revRetry s =
        .next (advanceTo (t + 10000000) { s with plk := { s.plk with revMismatchAt := none } })) ∧
      (∀ hb, s.plk.rev ≠ 0 → s.plk.retraining = false → s.plk.rack < 65535 → exec (.flitReceive true (s.plk.rack + 1) hb none) s =
        .next { s with plk := { s.plk with rack := s.plk.rack + 1, replays := 0 } }) ∧
      (s.plk.retraining = true → s.almanac ≤ s.plk.retrainAt + 1000 →
        exec (.linkRetrainEnd true) s = .next { s with plk := { s.plk with retraining := false } }) ∧
      (s.plk.retraining = true → s.plk.retrainAt + 1000 < s.almanac → ∀ ok, exec (.linkRetrainEnd ok) s = .next (linkDown s)) ∧
      (∀ a b, s.plk.contact = true → exec (.creditMessage a b) s = .next { s with plk := { s.plk with
        credits := s.plk.credits + a, resyncCredits := s.plk.resyncCredits + b } }) ∧
      (∀ b r, s.plk.fwd = b :: r → b.resync = false → s.plk.contact = true → s.plk.retraining = false → 0 < s.plk.credits →
        exec .partnerForwardSend s = .next (sendFlit b { s with plk := { s.plk with
          fwd := r, sent := s.plk.sent ++ [b], credits := s.plk.credits - 1 } }))) ∧
  (∀ s : State,
      (∀ p id, plkActs s = true → s.plk.rev ≠ 0 → exec (.helloMessage p id []) s = .next { s with plk := { s.plk with
        contact := true, partner := p, peerId := id, partingSent := false,
        hbAt := if s.plk.contact then s.plk.hbAt else s.almanac } }) ∧
      (0 < s.plan.partner.sets → s.dev.state = .service → s.plk.rev ≠ 0 → s.ecc.reload = [] → s.plk.contact = false →
        Completes (exec .heartbeatSend s) fun t => t.plk.hbCount = (s.plk.hbCount + 1) % 65536 ∧
          t.out = .link 0x101 [s.dev.state.code, (s.plk.hbCount + 1) % 65536] :: s.out ∧ t.dram = s.dram ∧ t.dev = s.dev) ∧
      (s.plk.contact = true → s.plan.partner.sets = 0 → Completes (exec .contactTimeout s) fun t =>
        t.plk.contact = false ∧ t.plk.losses = satInc 0xFFFF s.plk.losses ∧ t.plk.credits = 0 ∧ t.dram = s.dram ∧ t.dev = s.dev) ∧
      (∀ c, c ≠ 0 → s.plk.contact = true → s.dev.state = .service → s.plan.partner.sets = 0 → Completes (exec (.partingMessage c) s)
        fun t => t.plk.contact = false ∧ t.plk.peerState = 5 ∧ t.plk.losses = satInc 0xFFFF s.plk.losses ∧ t.dram = s.dram ∧
          t.dev = s.dev) ∧
      (plkActs s = true → s.plk.contact = false → s.plan.partner.sets = 1 → (setAt s 0).st = .pairing → (setAt s 0).roleRun = none →
        (setAt s 0).role = 1 → s.plk.lanternIn ≠ .toggling → exec .pairWaitExpire s =
          .next (changeSet 0 .activeSingle (advanceTo (s.sav.bootAt + s.plk.pairWait * 10000) s))))

/-- Replication (R444, R445, R448, R449): a beat in WSEQ order is entered at the standby; an acknowledgement moves the mark;
the Watch goes to every set in step, and is acknowledged. It says that exec answers a next state for: partnerWriteEntry,
ackMessage, watchSend, watchMessage, watchAckMessage. -/
def Obligations.PartnerReplication : Prop :=
  ∀ (s : State) (k : Nat), plkActs s = true → s.plk.contact = true → k < s.plan.partner.sets →
    (∀ n beat data en poi, s.dev.state = .service → (setAt s k).st = .standby → s.plk.rt.length < 32768 →
      (setAt s k).synced = true → n % 2 ^ 32 = ((setAt s k).entered + 1) % 2 ^ 32 →
      exec (.partnerWriteEntry k n beat data en poi false) s = .next (roleSteps k (enterPartner k
        { beat := beat, data := data, enables := en, poison := poi } false ((setAt s k).entered + 1) s))) ∧
    (∀ n, k < 4 → s.plk.sent = [] → (setAt s k).st = .standby → s.hst.waiting = [] → s.hst.creditHeldAt = none →
      exec (.ackMessage k n) s = .next (modSet k (fun m => { m with acked := ackReach (setAt s k).acked n }) s)) ∧
    ((setList s).filter (forwards s) = [k] → s.log.aonPowered = true → exec .watchSend s =
      .next (sendWatch k (advanceTo ((s.almanac / 1000 + 1) * 1000) s))) ∧
    (∀ w, w.set = k → w.poison = [] → (setAt s k).st = .standby → exec (.watchMessage w) s =
      .next (emit (.link 0x05 [w.no]) (modSet k (fun m => { m with watch := some w }) s))) ∧
    (∀ w, k < 4 → setList s = [k] → (setAt s k).watch = some w → forwards s k = true → exec (.watchAckMessage w.no) s =
      .next (modSet k (fun m => { m with
        watchMissed := 0, watchPoison := m.watchPoison.drop w.poison.length,
        suitesAcked := w.suites ++ m.suitesAcked.filter fun r => !(w.suites.any fun x => x.id = r.id) }) s)) ∧
    (∀ no, (∀ j, j < s.plan.partner.sets → (setAt s j).watch = none) → exec (.watchAckMessage no) s = .next s)

/-- Resynchronisation and handover (R461, R462, R464 to R466): the next tile of a resynchronising set is watched and read
once the DRC serves the Pilot's read of it; a digest that agrees answers nothing, one that does not answers DIFF; the
handover's messages move the set; Homecoming asks. It says that exec answers a next state for: resyncTileCopy,
digestMessage, diffMessage, handoverBoundary, handoverMessage, takenMessage, homeReqSend, homeReqMessage, drillMessage,
drillPhaseEnd. -/
def Obligations.PartnerResyncAndHandover : Prop :=
  ∀ (s : State) (k : Nat), plkActs s = true → s.plk.contact = true → k < s.plan.partner.sets → k < 4 →
    (∀ t r, takesPartner s = true → (setAt s k).st = .activeSync → (setAt s k).copying = none → (setAt s k).diffs = [] → (setAt s k).resync = t :: r →
      (setAt s k).digestSent = [] → s.plk.rev = 1 →
      (pilotServed s t = true → exec (.resyncTileCopy k []) s =
        .next (modSet k (fun m => { m with copying := some t }) (tileAccess t { s with plk := { s.plk with
          watches := if s.plk.watches.contains t then s.plk.watches else t :: s.plk.watches } }))) ∧
      (pilotServed s t = false → exec (.resyncTileCopy k []) s = .next (callTile t s))) ∧
    (∀ t d, tileSet s t = some k → s.dev.state = .service → (setAt s k).st = .standbySync →
      (pilotServed s t = true → exec (.digestMessage t d) s = .next (if Config.sha256 (digestBytes (tileAccess t s) t) = d
        then tileAccess t s else emit (.link 0x08 [t]) (tileAccess t s))) ∧
      (pilotServed s t = false → exec (.digestMessage t d) s = .next (callTile t s))) ∧
    (∀ t, tileSet s t = some k → (setAt s k).digestSent = [t] → exec (.diffMessage t) s =
      .next (modSet k (fun m => { m with digestSent := [], diffs := m.diffs ++ [t] }) s)) ∧
    (∀ t, (setAt s k).handAt = some t → (setAt s k).st = .active → exec (.handoverBoundary k) s =
      .next (handStep k (changeSet k .handing (modSet k (fun m => { m with handAt := none, boundary := t, handStep3 := false })
        (advanceTo t s))))) ∧
    (∀ e last, (setAt s k).st = .standby → (setAt s k).synced = false → exec (.handoverMessage k e last) s =
      .next (roleSteps k (modSet k (fun m => { m with
        handIn := some (e, last), handAt := none, drillJudge := false, epochSeen := max m.epochSeen e, entered := last,
        synced := true }) s))) ∧
    (∀ e, (setAt s k).st = .handing → (setAt s k).handStep3 = true → (setAt s k).drill = none → exec (.takenMessage k e) s =
      .next (modSet k (fun m => { m with handStep3 := false, entered := m.wseq, synced := true, epochSeen := max m.epochSeen e })
        (changeSet k .standby s))) ∧
    (s.plan.policy.autoHome = true → homeBit s k = true → (setAt s k).homeConflict = false → (setAt s k).st = .standby →
      s.dev.state = .service → replSet s = false → (setAt s k).handAt = none → exec (.homeReqSend k) s =
        .next (emit (.link 0x0B [k]) (schedule k (boundaryAfter (s.almanac + s.plk.homeNotice * 10000)) s))) ∧
    ((setAt s k).st = .active → (setAt s k).handAt = none → (setAt s k).drill = none → exec (.homeReqMessage k) s =
      .next (schedule k (boundaryAfter (s.almanac + s.plk.homeNotice * 10000)) s)) ∧
    ((setAt s k).st = .standby → exec (.drillMessage k 1 0) s = .next (modSet k (fun m => { m with drillJudge := true }) s)) ∧
    (∀ d, (setAt s k).drill = some d → d.phase = 1 → d.stuckOk = true → d.abandonOk = true → exec (.drillPhaseEnd k) s =
      .next (drillHandover k 2 (advanceTo (d.phaseAt + 16000) s)))

/-- Channel control (R476, R491, R493, R499, R500): TAIL and ENABLE in range are taken, a TAIL out of range raises
BAD_WRITE; PAUSE and RESET act at once between steps; RESUME returns a channel that stands to RUN. It says that exec answers
a next state for: dmwChTailWrite, dmwEnable, dmwPause, dmwResume, dmwReset. -/
def Obligations.ChannelControl : Prop :=
  ∀ (s : State) (ch : Nat), ch < 16 →
    (∀ v : Word, v.toNat % 256 < 2 ^ (chanAt s ch).size → exec (.dmwChTailWrite ch v) s =
      .next (modChan ch (fun c => { c with tail := v.toNat % 256 }) s)) ∧
    (∀ v : Word, 2 ^ (chanAt s ch).size ≤ v.toNat % 256 → exec (.dmwChTailWrite ch v) s =
      .next (raiseAddr dmwBadWrite 0 mHost 2 s)) ∧
    (∀ v : Word, (chanAt s ch).st = .off → v.toNat % 2 = 1 → 4 ≤ v.toNat / 16 % 16 → v.toNat / 16 % 16 ≤ 8 →
      exec (.dmwEnable ch v) s = .next (modChan ch (fun c => { c with
        size := v.toNat / 16 % 16, prio := v.toNat / 256 % 4, st := .run }) s)) ∧
    ((chanAt s ch).st = .run → (chanAt s ch).run = none → exec (.dmwPause ch) s =
      .next (modChan ch (fun c => { c with st := .paused }) s)) ∧
    (∀ r, (chanAt s ch).st = .run → (chanAt s ch).run = some r → r.granted = true → exec (.dmwPause ch) s =
      .next (modChan ch (fun c => { c with pausePend := true }) s)) ∧
    ((chanAt s ch).st = .paused ∨ (chanAt s ch).st = .halted ∨ ((chanAt s ch).st = .fenced ∧ s.dev.state.hostMemory = true) →
      exec (.dmwResume ch) s = .next (modChan ch (fun c => { c with st := .run }) s)) ∧
    ((chanAt s ch).st = .fenced → s.dev.state.hostMemory = false → exec (.dmwResume ch) s = .next s) ∧
    ((chanAt s ch).run = none → exec (.dmwReset ch) s = .next (modChan ch (fun c => { c with
      st := .off, head := 0, tail := 0, pausePend := false, resetPend := false }) s))

/-- Starts (R479, R480, R482, R497, Table 13-3): a well-formed descriptor at the head of a running channel is taken up with
cursor 0; one of length 0 completes with LEN, one that breaks the alignment with ALIGN, one that does not translate with
PROT and its class. Steps (R484, R490, R491, R495): the first channel in order whose step may be granted holds its entries
and is granted; the next write of a granted step goes to its beat, once its data and its bank-queue entry are there, and the
step goes on; a descriptor with its status is completed. It says that exec answers a next state for: dmwCopy, dmwFill,
dmwStow, dmwFetch, dmwCheck, dmwStepGrant, dmwWriteAccept, dmwDescriptorComplete. -/
def Obligations.Descriptors : Prop :=
  (∀ (s : State) (ch op : Nat) (c : Instr), (op, c) ∈ [(1, Instr.dmwCopy ch), (2, .dmwFill ch), (3, .dmwStow ch), (4, .dmwFetch ch),
        (5, .dmwCheck ch)] → mayStart s ch = true → descBad s.dmw (descOffset ch (chanAt s ch).head) = false →
      ∀ d, readDesc s.dmw (descOffset ch (chanAt s ch).head) = d → d.op = op →
        (startStatus s (chanAt s ch) d = none → exec c s = .next (modChan ch (fun k => { k with run := some { d := d } }) s)) ∧
        (d.len = 0 → exec c s = .next (dmwComplete ch 2 0 0 d.irq s)) ∧
        (d.len ≠ 0 → d.badReserved = false → d.misaligned = true → exec c s = .next (dmwComplete ch 4 0 0 d.irq s)) ∧
        (d.len ≠ 0 → d.badReserved = false → d.misaligned = false → descTranslates s (chanAt s ch) d = false →
          exec c s = .next (dmwComplete ch 5 0 0 d.irq (raiseAddr dmwProt (descOffset ch (chanAt s ch).head) (mDmw ch) 4 s)))) ∧
  (∀ (s : State) (n : Nat) (r : DescRun), (chanAt s n).run = some r → n < 16 → s.dev.state.hostMemory = true →
      (∀ u, (∀ k, k < 16 → ∀ q, (chanAt s k).run = some q → q.granted = false) → (grantOrder s).find? (stepGrantable s) = some n →
        (stepRooms s r).any (roomFails s) = false → heldRooms s r = [] → r.d.op = 1 →
        Completes (exec (.dmwStepGrant u) s) fun t =>
          (chanAt t n).run = some { r with granted := true } ∧ (chanAt t n).entries = stepLen s r / 64 ∧
          (∀ k, k ≠ n → chanAt t k = chanAt s k) ∧ t.dram = s.dram ∧ t.cht = s.cht ∧ t.stations = s.stations) ∧
      (∀ c, r.granted = true → r.d.usesDst = true → (chanAt s n).stalled = false → (chanAt s n).held = false →
        tileClass s ((dstDpa s r.d + r.cursor + r.stepDone) / 65536) = .persistent →
        suiteOf s (tileSuite s ((dstDpa s r.d + r.cursor + r.stepDone) / 65536)) = some c →
        claimVerdict s ((dstDpa s r.d + r.cursor + r.stepDone) / 65536) c = .grant → r.claimed = false →
        writeReady (modChan n (fun c => { c with held := false }) s) n r = true → exec (.dmwWriteAccept n) s = .next (acceptDmw n r
          (grantClaim ((dstDpa s r.d + r.cursor + r.stepDone) / 65536) false (modChan n (fun c => { c with held := false }) s)))) ∧
      (∀ x, r.granted = false → r.status = some x → (chanAt s n).st ≠ .fenced → exec (.dmwDescriptorComplete n) s = .next (dmwFinish n x r s)))

/-- Command cycles (R509 to R513, R517, R520, R528): a whole sequence of a command on an idle bank starts its operation; a
one-cycle command acts on a bank that is bound to nobody; more than 10 µs between cycles drop a sequence with SEQ_ERR. Ends
and interruptions of operations (R507, R513 to R520, R525): a program that verifies, or whose values are all ones, leaves
its words programmed and the bank in read mode; a pulse that does not pass is followed by the next; a pass seals the sector;
an erase that only foreign accesses suspended goes on; FETCH_FAULT and ERASE_STARVE raise their classes; below the threshold
an idle part only notes it. Accesses to the window and the scan (R503, R515, R522, R525, R527): an access that is no
naturally aligned one is a bus error with SEQ_ERR; a read on an idle bank gives the word, a seal or an intent record at its
place; a foreign one is served beside the suspended erase; the scan ends with the window open; with both banks idle the
brown-out is only noted. It says that exec answers a next state for: atticProgram, atticRowProgram, atticSectorErase,
atticRecover, atticSuspend, atticResume, atticReadReset, atticSeqTimeout, atticBadAccess, atticProgramDone,
atticErasePulseDone, atticForeignAccess, atticAutoResume, fetchFault, eraseStarve, atticBootScan, atticBrownout, atticRead.
-/
def Obligations.AtticOperations : Prop :=
  (∀ (s : State) (m b : Nat), b < 2 → atticOpen s = true →
      ((bankAt s b).bound = none →
        (∀ l, cyclesFit .program (cyclePairs l) = true → l.length = 4 → exec (.atticProgram m b l) s =
          .next (startOp b (opOf .program m (cyclePairs l)) s)) ∧
        (∀ l, cyclesFit .rowProgram (cyclePairs l) = true → l.length = 36 → exec (.atticRowProgram m b l) s =
          .next (startOp b (opOf .rowProgram m (cyclePairs l)) s)) ∧
        (∀ l, cyclesFit .sectorErase (cyclePairs l) = true → l.length = 4 → exec (.atticSectorErase m b l) s =
          .next (startOp b (opOf .sectorErase m (cyclePairs l)) s)) ∧
        (∀ l, cyclesFit .recover (cyclePairs l) = true → l.length = 4 → exec (.atticRecover m b l) s =
          .next (startOp b (opOf .recover m (cyclePairs l)) s)) ∧
        (∀ o, (bankAt s b).op = some o → o.kind.erases = true → o.susp = .no → exec (.atticSuspend m b) s =
          .next (modBank b (fun k => { k with op := some { o with susp := .byCommand, suspSince := s.almanac } })
            { s with att := { s.att with suspends := satInc 0xFFFFFFFF s.att.suspends } })) ∧
        (∀ o, (bankAt s b).op = some o → o.susp = .byCommand → (bankAt s b).prog = none → exec (.atticResume m b) s =
          .next (resumeErase b s)) ∧
        (∀ e, (bankAt s b).err = some e → e.1 = m → exec (.atticReadReset m b) s =
          .next (modBank b (fun k => { k with err := none }) s)) ∧
        (∀ l, cyclesFit .program (cyclePairs l) = false → l ≠ [] → exec (.atticProgram m b l) s = .next (seqError b (misfitOfs .program (cyclePairs l)) m s))) ∧
      (∀ x, (bankAt s b).bound = some x → exec (.atticSeqTimeout b) s =
        .next (seqError b (lastOfs x.2) x.1 (modBank b (fun k => { k with bound := none }) s)))) ∧
  (∀ (s : State) (b : Nat) (o : AtticOp), (bankAt s b).op = some o → (bankAt s b).prog = none →
      (∀ pass, o.kind.erases = false → scanOf (bankAt s b) o.sector ≠ some .halfErased →
        pass = true ∨ (∀ v ∈ o.words, v = BitVec.allOnes 64) → exec (.atticProgramDone b pass) s =
        .next (modBank b (putWords o) (modBank b (fun k => { k with op := none }) s))) ∧
      (o.kind.erases = true → o.susp = .no → o.pulses + 1 < 200 → ∀ u, exec (.atticErasePulseDone b false u) s =
        .next (modBank b (fun k => { k with op := some { o with pulses := o.pulses + 1, stepped := true } }) s)) ∧
      (o.kind = .sectorErase → o.owner ≠ mAttic → b < 2 → o.susp = .no → twf factorySeal (bankAt s b).seals = true → ∀ u, Completes (exec (.atticErasePulseDone b true u) s)
        fun t => (bankAt t b).op = none ∧ sealOf (bankAt t b) o.sector = some { seq := o.seq, count := o.count % 2 ^ 24 } ∧
          scanOf (bankAt t b) o.sector = none ∧ bankAt t (1 - b) = bankAt s (1 - b) ∧ t.dram = s.dram ∧ t.dev.state = s.dev.state) ∧
      (o.susp = .byForeign → exec (.atticAutoResume b) s = .next (resumeErase b s)) ∧
      (∀ m ofs, ofs / bankBytes = b → o.owner = m → m ≠ mAttic → exec (.fetchFault m ofs) s = .next (raiseAddr attFetchFault ofs m 3
        (emit (.attic false (BitVec.ofNat 64 (statusWord b o true false .none)))
          { s with att := { s.att with fetchFaults := satInc 0xFFFF s.att.fetchFaults, lastFetchMstr := m } }))) ∧
      (o.kind.erases = true → o.susp ≠ .no → o.starved = false → b < 2 → ∃ t,
        exec (.eraseStarve b) s = .next (raiseAddr attEraseStarve (sectorBase b o.sector) o.owner 4 t) ∧
        t.att.starves = satInc 0xFFFF s.att.starves ∧ (bankAt t b).op = some { o with starved := true } ∧ t.dram = s.dram)) ∧
  (∀ s : State,
      (∀ m ofs, exec (.atticBadAccess m ofs) s = .next (raiseAddr attSeqErr ofs m 4 (emit (.attic true 0) s))) ∧
      (∀ m ofs, s.att.scanned = true → ofs < 2 * bankBytes → (bankAt s (ofs / bankBytes)).op = none →
        (bankAt s (ofs / bankBytes)).prog = none → (bankAt s (ofs / bankBytes)).err = none → s.ecc.apatch = [] →
        scanOf (bankAt s (ofs / bankBytes)) (sectorOf (ofs % bankBytes)) = none →
        (shownWord (ofs / bankBytes) (bankAt s (ofs / bankBytes)) (ofs % bankBytes)).torn = false → exec (.atticRead m ofs []) s =
          .next (emit (.attic false (shownWord (ofs / bankBytes) (bankAt s (ofs / bankBytes)) (ofs % bankBytes)).value) s)) ∧
      (∀ m ofs d, s.att.scanned = true → ofs < 2 * bankBytes → foreignTo (bankAt s (ofs / bankBytes)) m = true →
        exec (.atticForeignAccess m ofs d) s = .next (giveWord (readWindow m ofs d s))) ∧
      (s.att.scanned = false → poweredState s.dev.state = true → s.att.closed = false →
        Completes (exec (.atticBootScan []) s) fun t => t.att.scanned = true ∧ t.dram = s.dram ∧ t.almanac = s.almanac) ∧
      ((bankAt s 0).op = none → (bankAt s 0).prog = none → (bankAt s 1).op = none → (bankAt s 1).prog = none →
        exec .atticBrownout s = .next { s with att := { s.att with brownout := true } }))

/-- The byte code (R531, R532): a stored byte decodes clean to its data; any one inverted bit of the thirteen is corrected
to the data; any two are uncorrectable. -/
def Obligations.ByteCodeCorrectsOneDetectsTwo : Prop :=
  ∀ d : Byte,
    let flip := fun (i : Nat) (b : CodedByte) =>
      if i < 8 then { b with data := b.data ^^^ BitVec.ofNat 8 (2 ^ i) } else { b with chk := b.chk ^^^ BitVec.ofNat 5 (2 ^ (i - 8)) }
    decodeByte (encodeByte d) = (.clean, d) ∧
    (∀ i, i < 13 → decodeByte (flip i (encodeByte d)) = (.corrected, d)) ∧
    (∀ i j, i < 13 → j < 13 → i ≠ j → (decodeByte (flip i (flip j (encodeByte d)))).1 = .uncorrectable)

/-- Uncorrectable bytes, parity and reloads (R535, R537, R539, R540, Tables 15-4 and 15-6): an uncorrectable byte is
counted, raises SRAM_UE with its address and drops its word's marks; a ring byte is marked bad besides; a parity error of a
register access is counted with its sender and raises FABRIC_PAR; a core's reload ends. Scrubbers (R541, R542, R544, R545):
a clean word takes the SRAM scrubber to the next word; a corrected one is counted and noted; a clean word of the Attic takes
the pass on. The test mode (R551): a test write of KIND 0 stores the data bytes with the given check groups in the word
chosen and nowhere else; a test read of clean bytes gives them back with RESULT 0. It says that exec answers a next state
for: sramUe, fabricParityError, coreReload, sramScrubRead, atticScrubRead, eccTestWrite, eccTestRead. -/
def Obligations.OnChipErrorsAndScrubbers : Prop :=
  (∀ s : State,
      (∀ a m beat, regionOf a = some 7 → m ≠ mKeeper → exec (.sramUe a m beat) s = .next (clearMarks (a / 8 * 8)
        (raiseAddr eccSramUe a m 1 { s with ecc := { s.ecc with demandUe := satInc 0xFFFF s.ecc.demandUe } }))) ∧
      (∀ a m beat, regionOf a = some 10 → m ≠ mKeeper →
        let u := raiseAddr eccSramUe a m 1 { s with ecc := { s.ecc with demandUe := satInc 0xFFFF s.ecc.demandUe } }
        exec (.sramUe a m beat) s = .next (clearMarks (a / 8 * 8) { u with dmw := { u.dmw with
          ringBad := tset false u.dmw.ringBad (a - 0x2010000) true } })) ∧
      (∀ snd a, regionOf a ≠ some 8 → exec (.fabricParityError snd a .register) s = .next (raiseAddr eccFabricPar a snd 0
        { s with ecc := { s.ecc with parity := satInc 0xFFFF s.ecc.parity, parityMstr := snd } })) ∧
      (∀ core end_, alookup s.ecc.reload core = some end_ → Completes (exec (.coreReload core) s) fun t =>
        t.ecc = { s.ecc with reload := aerase s.ecc.reload core } ∧
        (∀ b ∈ coreBlocks core, s.almanac < end_ → (stationAt s b).quarUntil = some (end_ + 1) →
          (stationAt t b).quarUntil = some (s.almanac + 1)) ∧
        (∀ b, b ∉ coreBlocks core → stationAt t b = stationAt s b) ∧ t.dram = s.dram ∧ t.dev = s.dev) ∧
      (∀ core, alookup s.ecc.reload core = none → exec (.coreReload core) s = .next s)) ∧
  (∀ s : State,
      (sramScrubs s = true → markedWord s s.ecc.sramPos = false → ∀ n beat, nextWord s.ecc.sramPos = some n →
        let u := advanceTo (s.ecc.sramAt + s.ecc.sramMin * 60000000 / 4231040) s
        exec (.sramScrubRead .clean beat) s = .next { u with ecc := { s.ecc with sramPos := n, sramAt := u.almanac } } ∧
        (s.ecc.errPrev.contains s.ecc.sramPos = false →
          exec (.sramScrubRead .corrected beat) s = .next { u with ecc := { s.ecc with
            sramPos := n, sramAt := u.almanac, ce := satInc 0xFFFF s.ecc.ce, repaired := satInc 0xFFFF s.ecc.repaired,
            errNow := s.ecc.errNow ++ [s.ecc.sramPos] } })) ∧
      (evaluates s.dev.state = true → s.att.scanned = true → s.ecc.atticH ≠ 0 → stageNow s = 0 → s.ecc.recoverWait = [] →
        s.ecc.atticRun = true → s.ecc.atticPos0 < 1048575 → (bankAt s 0).op = none → (bankAt s 0).prog = none → s.ecc.apatch = [] →
        scanOf (bankAt s 0) (sectorOf (s.ecc.atticPos0 * 8)) = none → (atticWord (bankAt s 0) (s.ecc.atticPos0 * 8)).torn = false →
        exec (.atticScrubRead []) s = .next { s with ecc := { s.ecc with atticPos0 := s.ecc.atticPos0 + 1 } })) ∧
  (∀ (s : State) (v : Word),
      (s.ecc.testBusy = false → v.getLsbD 1 = false → v.getLsbD 2 = false → twf {} s.ecc.window = true → Completes (exec (.eccTestWrite v) s) fun t =>
        (∀ i, i < 8 → tget {} t.ecc.window ((v >>> 4).toNat % 128 * 8 + i) = { data := testByte s.ecc i, chk := testGroup s.ecc i }) ∧
        (∀ a, a / 8 ≠ (v >>> 4).toNat % 128 → tget {} t.ecc.window a = tget {} s.ecc.window a) ∧
        t.stations = s.stations ∧ t.dram = s.dram) ∧
      (s.ecc.testBusy = false → (∀ i, i < 8 → (decodeByte (tget {} s.ecc.window ((v >>> 4).toNat % 128 * 8 + i))).1 = .clean) →
        Completes (exec (.eccTestRead v) s) fun t =>
          t.ecc.result = 0 ∧ t.ecc.window = s.ecc.window ∧ t.ecc.ce = s.ecc.ce ∧ t.stations = s.stations ∧
          (∀ i, i < 8 → testByte t.ecc i = (tget {} s.ecc.window ((v >>> 4).toNat % 128 * 8 + i)).data)))

/-- The sideband target (R580 to R589): awake and served, it answers a read of its address from the snapshot, takes a write,
and answers the alert response address while it drives the alert; it sleeps after SLEEP_MS and does not acknowledge the
START that wakes it. Faults of the sideband bus (R592, R593) and the ALERT bits (R590): each time-out sets its bit and
raises TIMEOUT, a protocol error sets PROTO and raises its class, a write of ALERT clears the bits written as 1. It says
that exec answers a next state for: sbSleep, sbWake, sbRead, sbWrite, sbAlertResponse, sbClkLowTimeout, sbDataLowTimeout,
sbProtocolError, twsAlertWrite. -/
def Obligations.Sideband : Prop :=
  (∀ s : State, sbServes s = true → s.tws.ignoring = false →
      (s.tws.sleeping = false → justWoken s = false →
        (∀ n, exec (.sbRead s.plan.sideband.addr n) s = .next (sbRead [] n (countXfer (sbStart s)))) ∧
        (∀ a n, a ≠ s.plan.sideband.addr → exec (.sbRead a n) s = .next (emit (.sb false []) (sbStart s))) ∧
        (∀ l, exec (.sbWrite s.plan.sideband.addr l none) s =
          .next (emit (.sb true []) (sbStop (BitVec.ofNat 8 (2 * s.plan.sideband.addr)) l (countXfer (sbStart s))))) ∧
        (∀ l n, exec (.sbWrite s.plan.sideband.addr l (some n)) s =
          .next (sbRead (BitVec.ofNat 8 (2 * s.plan.sideband.addr) :: l) n (sbRestart l (countXfer (sbStart s))))) ∧
        (alertDriven (sbStart s) = true → ∀ o, 2 * s.plan.sideband.addr < o → ∀ more, exec (.sbAlertResponse (some o) more) s =
          .next (emit (.sb true (BitVec.ofNat 8 (2 * s.plan.sideband.addr) ::
              if s.plan.sideband.pec = true ∧ more = true then [pec [0x19, BitVec.ofNat 8 (2 * s.plan.sideband.addr)]] else []))
            { countXfer (sbStart s) with tws := { (countXfer (sbStart s)).tws with araHeld := true } })) ∧
        (alertDriven (sbStart s) = true → ∀ o, o < 2 * s.plan.sideband.addr → ∀ more, exec (.sbAlertResponse (some o) more) s =
          .next (emit (.sb true [BitVec.ofNat 8 o]) (countXfer (sbStart s)))) ∧
        (alertDriven (sbStart s) = false → ∀ o more, exec (.sbAlertResponse o more) s = .next (emit (.sb false []) (sbStart s)))) ∧
      (s.tws.sleeping = false → s.tws.sleepMs ≠ 0 → alertDriven s = false → Completes (exec .sbSleep s) fun t =>
        t.tws = { s.tws with sleeping := true } ∧ t.dram = s.dram ∧ t.stations = s.stations ∧
        (s.log.aonPowered = true → t.almanac = max s.almanac (s.tws.startAt + s.tws.sleepMs * 1000))) ∧
      (s.tws.sleeping = true → exec .sbWake s = .next (emit (.sb false []) { s with tws := { s.tws with
        sleeping := false, wokeAt := some s.almanac, startAt := s.almanac, wakeNak := satInc 0xFFFF s.tws.wakeNak } }))) ∧
  (∀ s : State, sbServes s = true → s.tws.ignoring = false → s.tws.sleeping = false →
      (justWoken s = false → s.plan.sideband.timeoutEn = true → exec (.sbClkLowTimeout false) s =
        .next (twsRaise twsTimeout { advanceTo (s.almanac + 25000) (sbStart s) with
          tws := { (sbStart s).tws with clkLowTo := true } })) ∧
      (s.tws.timeoutEn = true → exec .sbDataLowTimeout s = .next (twsRaise twsTimeout
        { advanceTo (s.almanac + 25000) s with tws := { s.tws with dataLowTo := true } })) ∧
      (justWoken s = false → ∀ r, exec (.sbProtocolError r) s = .next (twsRaise twsProto { countXfer (sbStart s) with
        tws := { (countXfer (sbStart s)).tws with proto := true, ignoring := !r } })) ∧
      (s.dev.state = .service → ∀ v, exec (.twsAlertWrite v) s = .next (writeAlert v s)))

/-- The pack-bus controller (R597 to R601): a transaction that ends well is counted; one that fails is kept for its retry;
the third failure is XFER_FAIL; a clock held low, a lost arbitration, a protocol error and a bus that stays low set their
bits. It says that exec answers a next state for: pbTransaction, pbRetry, pbClkLowTimeout, pbArbitrationLoss,
pbProtocolError, pbBusClear. -/
def Obligations.PackBus : Prop :=
  ∀ (s : State) (cmd : Nat), pbStarts cmd s = true →
    (s.twp.pending = none →
      exec (.pbTransaction cmd true) s = .next { emit (.pb cmd 1) s with twp := { s.twp with
        pending := none, xfers := (s.twp.xfers + 1) % 65536 } } ∧
      exec (.pbTransaction cmd false) s = .next { emit (.pb cmd 1) s with twp := { s.twp with
        pending := some { cmd := cmd, fails := 1, failedAt := s.almanac } } } ∧
      (∀ low, exec (.pbClkLowTimeout cmd low) s = .next (pbBroken cmd (fun t => { t with clkLowTo := true, clearOwed := low })
        twpTimeout (advanceTo (s.almanac + 25000) s))) ∧
      exec (.pbArbitrationLoss cmd false) s = .next (pbBroken cmd (fun t => { t with arbLost := true }) twpArbLost s) ∧
      exec (.pbArbitrationLoss cmd true) s = .next (pbBroken cmd (fun t => { t with arbCond := true }) twpArbCond s) ∧
      exec (.pbProtocolError cmd) s = .next (pbBroken cmd (fun t => { t with proto := true }) twpProto s)) ∧
    (∀ p, s.twp.pending = some p → Completes (exec (.pbRetry true) s) fun t =>
      t.twp.pending = none ∧ t.twp.xfers = (s.twp.xfers + 1) % 65536 ∧ t.twp.retries = satInc 0xFF s.twp.retries ∧
      t.out = .pb p.cmd (p.fails + 1) :: s.out ∧ t.dram = s.dram ∧ t.stations = s.stations ∧ t.nrg = s.nrg) ∧
    (∀ p, s.twp.pending = some p → p.fails = 2 → ∃ t, exec (.pbRetry false) s =
      .next (pbGivesUp (raiseAddr twpXferFail p.cmd mNone 0 t)) ∧ t.twp.xferFail = true ∧
      t.out = .pb p.cmd 3 :: s.out ∧ t.dram = s.dram) ∧
    exec (.pbBusClear true) s = .next { s with twp := { s.twp with
      clears := satInc 0xFF s.twp.clears, bushung := false, clearOwed := false } }

/-- Sessions (R606, R609, R612 to R617): HELLO opens a session and answers with its first bytes of Table 18-3, a HELLO of
another major version answers VERSION; AUTH with the root key gives the roles asked for when the signature verifies; CLOSE,
SVC_PRES_N high and 300 s without a command end it; a wrong signature is counted; a lockout ends at its time; a discarded
frame is only counted. It says that exec answers a next state for: svcHello, svcAuth, svcClose, svcStatus, svcFrameTimeout,
svcPresHigh, svcSessionIdle, authLockoutExpire, discardedFrame. -/
def Obligations.ServiceSessions : Prop :=
  ∀ s : State, hatchServed s = true →
    (∀ seq (input : List Byte), s.svc.session = .none → s.svc.owed = none → s.svc.phase ≠ 1 → input.length = 4 → num input 2 2 = 1 →
      Completes (exec (.svcHello seq input) s) fun t => t.svc.session = .open_ ∧ t.svc.roles = 0 ∧ t.svc.nonce.length = 32 ∧
        t.svc.lastSeq = some (seq % 65536) ∧ t.svc.pres = true ∧
        (∃ out, t.out = .service 0x01 seq (svcPayload 0 0 out) [] :: s.out) ∧ t.dram = s.dram ∧ t.stations = s.stations) ∧
    (∀ seq (input : List Byte), s.svc.session = .none → s.svc.owed = none → s.svc.phase ≠ 1 → input.length = 4 → num input 2 2 ≠ 1 →
      Completes (exec (.svcHello seq input) s) fun t => t.out = .service 0x01 seq (svcPayload 0x08 0 []) [] :: s.out) ∧
    (∀ seq (input : List Byte), s.svc.session = .open_ → s.svc.owed = none → s.svc.badVersion = false → notSaving s = true →
      input.length = 193 → s.svc.lockedUntil = none → Config.sha256 (input.take 64) = s.fuses.rootHash →
      num input 128 1 < 16 → Completes (exec (.svcAuth seq input) s) fun t => if Config.ecdsaVerify (input.take 64) (Config.sha256 ([0x48, 0x53, 0x56, 0x43] ++ s.svc.nonce ++
        s.svc.ephemeral ++ (input.drop 64).take 64 ++ [BitVec.ofNat 8 (num input 128 1)] ++ unitIdentity s)) (input.drop 129) =
        true then t.svc.session = .authenticated ∧ t.svc.roles = BitVec.ofNat 4 (num input 128 1) ∧ t.svc.sessionFails = 0 ∧
          t.dram = s.dram ∧ t.stations = s.stations
        else t.svc.session ≠ .authenticated ∧ t.dram = s.dram) ∧
    (∀ seq, s.svc.session = .open_ → s.svc.owed = none → s.svc.badVersion = false → s.svc.phase ≠ 1 →
      Completes (exec (.svcClose seq) s) fun t => t.svc.session = .none ∧ t.svc.roles = 0 ∧
        t.out = .service 0x03 seq (svcPayload 0 0 []) [] :: s.out ∧ t.dram = s.dram ∧ t.stations = s.stations) ∧
    (∀ seq, s.svc.session = .none → s.svc.owed = none → s.svc.badVersion = false → Completes (exec (.svcStatus seq) s) fun t =>
      t.out = .service 0x10 seq (svcPayload 0 0 (statusOut { s with svc := { s.svc with pres := true } })) [] :: s.out) ∧
    (s.svc.pres = true → s.svc.phase ≠ 1 → Completes (exec .svcPresHigh s) fun t =>
      t.svc.session = .none ∧ t.svc.pres = false ∧ t.dram = s.dram ∧ t.stations = s.stations ∧ t.out = s.out) ∧
    (s.svc.session ≠ .none → s.svc.phase ≠ 1 → Completes (exec .svcSessionIdle s) fun t =>
      t.svc.session = .none ∧ t.dram = s.dram ∧ t.stations = s.stations ∧ t.out = s.out) ∧
    (∀ t, s.svc.lockedUntil = some t → exec .authLockoutExpire s =
      .next { advanceTo t s with svc := { (advanceTo t s).svc with lockedUntil := none } }) ∧
    exec .discardedFrame s = .next { s with svc := { s.svc with badFrames := satInc 0xFFFF s.svc.badFrames } } ∧
    exec .svcFrameTimeout s = .next { s with svc := { s.svc with badFrames := satInc 0xFFFF s.svc.badFrames } }

/-- Commands of an authenticated session (Table 18-3, R611, R617, R618, R631): a frame in sequence is served and answered
with a MAC under the session key; the reads answer what they read; ABORT drops a package in staging; a long operation
reports its progress every 100 ms. Packages and updates (R619 to R643): PKG_BEGIN of an object begins its staging, or is
refused for its signature or its version; a chunk out of order is refused, PKG_END without every chunk is refused; ACTIVATE
hands over to a staged set and probation begins; CONFIRM and its automatic form end the update; a new core that does not
report ready ends the handover with its class. It says that exec answers a next state for: readLog, readReg, readAttic,
readNand, pkgBegin, pkgChunk, pkgEnd, activate, handoverReadyTimeout, confirm, autoConfirm, svcAbort, svcProgress. -/
def Obligations.ServiceCommands : Prop :=
  (∀ (s : State) (seq : Nat), hatchServed s = true → s.svc.session = .authenticated → s.svc.owed = none → s.svc.badVersion = false →
      s.svc.lastSeq = some ((seq + 65535) % 65536) → s.svc.pres = true → s.dev.state = .service →
      (∀ input, s.svc.roles.getLsbD 0 = true → input.length = 6 → 1 ≤ num input 4 2 → num input 4 2 ≤ 67 →
        exec (.readLog seq input) s = .next (answer s.svc 0x11 seq (0, 0, logFrom s (num input 0 4) (num input 4 2), s))) ∧
      (∀ input, s.svc.roles.getLsbD 0 = true → input.length = 6 → 1 ≤ num input 4 2 → num input 4 2 ≤ 1024 →
        exec (.readReg seq input) s = .next (answer s.svc 0x12 seq (0, 0, (readRegs (num input 4 2) (num input 0 4) s).1,
          (readRegs (num input 4 2) (num input 0 4) s).2))) ∧
      (∀ input f, s.svc.roles.getLsbD 0 = true → input.length = 6 → 8 ≤ num input 4 2 → num input 4 2 ≤ 4096 →
        num input 4 2 % 8 = 0 → num input 0 4 % 8 = 0 → num input 0 4 + num input 4 2 ≤ 2 * bankBytes →
        protectedRange (num input 0 4) (num input 4 2) = true → exec (.readAttic seq input f) s =
          .next (answer s.svc 0x13 seq (svcStat 0x0F s))) ∧
      (∀ input l t, s.svc.roles.getLsbD 0 = true → input.length = 6 → 8 ≤ num input 4 2 → num input 4 2 ≤ 4096 →
        num input 4 2 % 8 = 0 → num input 0 4 % 8 = 0 → num input 0 4 + num input 4 2 ≤ 2 * bankBytes →
        protectedRange (num input 0 4) (num input 4 2) = false → readWords (num input 4 2 / 8) 0 (num input 0 4) none s = (some l, t) →
        exec (.readAttic seq input none) s = .next (answer s.svc 0x13 seq (0, 0, l, t))) ∧
      (∀ input, s.svc.roles.getLsbD 0 = true → input.length = 8 →
        nandPlace s (num input 0 1) (num input 1 1) (num input 2 2) (num input 4 2) (num input 6 1) (num input 7 1) = true →
        exec (.readNand seq input true) s =
          let g := nandPage (takeFree s).2 (takeFree s).1 (num input 1 1) (num input 0 1) (num input 2 2) (num input 4 2) (num input 6 1)
          .next (answer s.svc 0x14 seq (0, 0, g.codeword (num input 7 1) ++ g.tag, (takeFree s).2))) ∧
      (∀ input, s.svc.roles.getLsbD 0 = true → input.length = 8 →
        nandPlace s (num input 0 1) (num input 1 1) (num input 2 2) (num input 4 2) (num input 6 1) (num input 7 1) = true →
        exec (.readNand seq input false) s = .next (answer s.svc 0x14 seq (svcStat 0x0E (raiseAddr celReadUe 0 mService 1
          { s with cel := { s.cel with ue := satInc 0xFFFFFFFF s.cel.ue } })))) ∧
      (∀ input, s.svc.roles.getLsbD 0 = false → exec (.readLog seq input) s = .next (answer s.svc 0x11 seq (svcStat 0x03 s))) ∧
      (∀ p, s.svc.pkg = some p → s.svc.roles.getLsbD (kindRole p.hdr.kind) = true → exec (.svcAbort seq) s =
        .next (answer s.svc 0x25 seq (svcStat 0 (dropPackage s)))) ∧
      (∀ n, Completes (exec (.svcProgress seq n) s) fun t => t.svc.progress = some n ∧
        t.out = .service 0x7F seq (leBytes 2 n) (frameMac s.svc.sessionKey 0x7F seq (leBytes 2 n)) :: s.out ∧ t.dram = s.dram)) ∧
  (∀ (s : State) (seq : Nat), hatchServed s = true → s.svc.session = .authenticated → s.svc.owed = none → s.svc.badVersion = false →
      s.svc.lastSeq = some ((seq + 65535) % 65536) → s.svc.pres = true → s.dev.state = .service →
      (∀ input a, (pkgHeader input).reservedSet = false → input.length = 400 → (pkgHeader input).magic = 0x474B5048 →
        (pkgHeader input).format = 1 → (pkgHeader input).kind = 4 → s.svc.roles.getLsbD 3 = true → s.svc.pkg = none → s.svc.phase = 0 →
        s.fpl.liveHeld = none → s.svc.denyUpdate = false → logHolds s = false → Completes (exec (.pkgBegin seq input a) s) fun t =>
          t.dram = s.dram ∧ t.stations = s.stations ∧
          if signedBy s (pkgHeader input) input = false then t.svc.result = 6 ∧ t.svc.phase = 0 ∧ t.svc.pkg = none
          else if versionBad s (pkgHeader input) = true then t.svc.result = 8 ∧ t.svc.phase = 0 ∧ t.svc.pkg = none
          else t.svc.phase = 1 ∧ t.svc.pkg = some { hdr := pkgHeader input } ∧ t.svc.kind = 4 ∧ t.svc.chunks = 0 ∧
            t.svc.result = 0) ∧
      (∀ p input a rb, s.svc.pkg = some p → p.table = none → s.svc.roles.getLsbD (kindRole p.hdr.kind) = true →
        8 + (if p.hdr.encrypted then 16 else 0) ≤ input.length → num input 0 1 = 0 → num input 1 3 = 0 →
        num input 4 4 ≠ p.tableNext → exec (.pkgChunk seq input a rb) s =
          .next (answer s.svc 0x21 seq (noteResult (svcStat 0x09 s)))) ∧
      (∀ p input a rb, s.svc.pkg = some p → p.table = none → s.svc.roles.getLsbD (kindRole p.hdr.kind) = true →
        p.hdr.encrypted = false → 8 ≤ input.length → num input 0 1 = 0 → num input 1 3 = 0 → num input 4 4 = p.tableNext →
        (input.drop 8).length % 32 = 0 → (input.drop 8).length ≤ 4096 →
        p.tableBytes.length + (input.drop 8).length < p.hdr.entries * 32 → exec (.pkgChunk seq input a rb) s =
          .next (answer s.svc 0x21 seq (noteResult (svcStat 0 { s with svc := { s.svc with
            pkg := some { p with tableBytes := p.tableBytes ++ input.drop 8, tableNext := p.tableNext + 1 },
            chunks := satInc 0xFFFF s.svc.chunks } })))) ∧
      (∀ p a, s.svc.pkg = some p → p.table = none → s.svc.roles.getLsbD (kindRole p.hdr.kind) = true → exec (.pkgEnd seq a) s =
        .next (answer s.svc 0x22 seq (noteResult (svcStat 0x09 s)))) ∧
      (∀ p l, s.svc.pkg = some p → p.table = some l → p.hdr.kind = 4 → s.svc.roles.getLsbD 3 = true → s.svc.phase = 1 →
        p.dataNext = (l.filter fun e => e.op = 0).length → logHolds s = false → Completes (exec (.pkgEnd seq none) s) fun t =>
          t.svc.pkg = none ∧ t.svc.phase = 0 ∧ t.dram = s.dram ∧ t.att = s.att ∧
          let obj := (List.range (lenAt p.hdr 0)).map fun i => tget 0 p.object i
          if Config.sha256 obj = digestAt p.hdr 0 then t.svc.result = 0 ∧ t.svc.keyStore = (loadStore 4 obj s).svc.keyStore
          else t.svc.result = 7 ∧ t.svc.keyStore = s.svc.keyStore) ∧
      (s.svc.roles.getLsbD 1 = true → s.svc.denyUpdate = false → s.svc.phase ≠ 3 → s.svc.phase ≠ 4 → s.svc.inForce < 2 →
        bankState (svcBank s (spareBank s)) = 3 → logHolds s = false → probeAccepts s (spareBank s) = true → Completes (exec (.activate seq 4 none) s)
        fun t => t.svc.inForce = spareBank s ∧ t.svc.phase = 4 ∧ t.svc.probUs = 0 ∧ t.svc.result = 0 ∧ t.dram = s.dram ∧
          t.att = s.att) ∧
      (s.svc.roles.getLsbD 1 = true → s.svc.phase = 4 → logHolds s = false →
        programCode (markerValue (bankGen (svcBank s s.svc.inForce)) .confirmed)
          (atticWord (svcBank s s.svc.inForce) Marker.confirmed.ofs) = .none → Completes (exec (.confirm seq true true) s) fun t =>
          t.svc.phase = 0 ∧ t.svc.result = 0 ∧ t.svc.auto = false ∧ t.log.life.updates = satInc 0xFFFFFFFF s.log.life.updates ∧
          t.dram = s.dram) ∧
      (s.svc.roles.getLsbD 1 = true → s.svc.phase ≠ 4 → ∀ a b, exec (.confirm seq a b) s =
        .next (answer s.svc 0x24 seq (noteResult (svcStat 0x04 s)))) ∧
      (s.svc.phase = 4 → autoPending s = true → logHolds s = false →
        programCode (markerValue (bankGen (svcBank s s.svc.inForce)) .confirmed)
          (atticWord (svcBank s s.svc.inForce) Marker.confirmed.ofs) = .none → Completes (exec (.autoConfirm true true) s) fun t =>
          t.svc.phase = 0 ∧ t.svc.result = 0 ∧ t.svc.auto = false ∧ t.log.life.updates = satInc 0xFFFFFFFF s.log.life.updates ∧
          t.dram = s.dram) ∧
      (s.svc.phase = 3 → logHolds s = false → Completes (exec .handoverReadyTimeout s) fun t =>
        t.svc.phase = 0 ∧ t.svc.result = 0x0A ∧ t.svc.inForce = s.svc.inForce ∧ t.svc.handed = 0 ∧ t.dram = s.dram))

/-- Set Timestamp moves the calendar: its offset, CAL_VALID and the calibration sectors' copy; the Almanac and DRAM stay,
and a step above 1 s is logged with TYPE 0x0103 while the Log takes records (R652, R653). The Log and the always-on domain
(R649, R653, R657): a write of the Steward moves up to four ready records to the ring; a cold loss in SAVED or OFF stops the
always-on domain, with the calendar invalid, and leaves the operating state; the restore sets the Almanac one second above
the latest time of the Attic. The TAP (R696, R697): with supplies an instruction is loaded and its data register shifts out;
EXTEST is BYPASS on a part that is not fresh. It says that exec answers a next state for: setTimestamp, almanacColdRestore,
logRecordWrite, jtagBypass, jtagIdcode, jtagSamplePreload, jtagExtest, jtagClamp, jtagHighz, coldLoss. -/
def Obligations.LogColdLossAndTap : Prop :=
  (∀ (s : State) (ns : Nat), serves s 0x0301 → ns < 2 ^ 64 → logHolds s = false →
      Completes (exec (.setTimestamp ns) s) fun t =>
        t.log.offset = (ns : Int) - s.almanac * 1000 ∧ t.log.calValid = true ∧ t.cal.offset = t.log.offset ∧
        t.almanac = s.almanac ∧ t.dram = s.dram ∧ t.cht = s.cht ∧ t.dev.state = s.dev.state ∧
        t.log.ready = s.log.ready ++
          (if 1000000000 < (t.log.offset - s.log.offset).natAbs then
            [mkLog 0x0103 (blockNum .log) (signedBits 64 (t.log.offset - s.log.offset)) (b2n (!s.log.timeSetSinceCold))
              (signedBits 64 t.log.offset) 0xFFFF mNone s] else []) ∧
        ∃ l, t.out = .mailbox 0x0301 0 [] :: l) ∧
  (∀ s : State,
      (∀ r, s.dev.state = .service → logHolds s = false → s.log.holding = [] → s.log.coldUnreported = false →
        s.log.dropUnreported = 0 → s.log.ready = [r] → s.log.written % ringSize % sectorRecords ≠ 0 → exec .logRecordWrite s =
          .next { s with log := { s.log with ready := [], written := s.log.written + 1,
                                             ring := tset [] s.log.ring (s.log.written % ringSize) (logBytes r) } }) ∧
      (s.dev.state = .saved ∨ s.dev.state = .off → Completes (exec .coldLoss s) fun t =>
        t.dev = s.dev ∧ t.log.aonPowered = false ∧ t.log.calValid = false ∧ t.log.holding = [] ∧ t.almanac = s.almanac ∧
        t.dram = s.dram) ∧
      (s.log.aonPowered = false → Completes (exec .almanacColdRestore s) fun t =>
        t.almanac = atticTimes s + 1000000 ∧ t.log.aonPowered = true ∧
        t.log.life.coldGaps = satInc 0xFFFFFFFF s.log.lifeStored.coldGaps ∧ t.dev = s.dev ∧ t.dram = s.dram)) ∧
  (∀ s : State, tapPowered s = true →
      exec .jtagBypass s = .next (emit (.tap 0) { s with jtag := { s.jtag with instr := .bypass } }) ∧
      exec .jtagIdcode s = .next (emit (.tap 0xB782456B) { s with jtag := { s.jtag with instr := .idcode } }) ∧
      exec .jtagClamp s = .next (emit (.tap 0) { s with jtag := { s.jtag with instr := .clamp } }) ∧
      exec .jtagHighz s = .next (emit (.tap 0) { s with jtag := { s.jtag with instr := .highz } }) ∧
      (∀ pins cells, exec (.jtagSamplePreload pins cells) s =
        .next (emit (.tap (cellNum pins)) { s with jtag := { s.jtag with instr := .samplePreload, cells := cells } })) ∧
      (∀ pins cells, scanAllowed s = true → exec (.jtagExtest pins cells) s =
        .next (emit (.tap (cellNum pins)) { s with jtag := { s.jtag with instr := .extest, cells := cells } })) ∧
      (∀ pins cells, scanAllowed s = false → tapActs { s with jtag := { s.jtag with instr := .extest } } = .bypass ∧
        ∃ t, exec (.jtagExtest pins cells) s = .next t ∧ t.out = .tap 0 :: s.out ∧ t.jtag.cells = s.jtag.cells))

/-- A transition (R34, R650): the state, the state before it and the entry cause are in DEV_STATE, the Log takes the record
of TYPE 0x0100 before that of vendor event 0x0001, alert bit 0 is set, and entry to SAVED and OFF holds the last-run mark.
-/
def Obligations.TransitionIsRecorded : Prop :=
  ∀ (s : State) (new : OpState) (cause : Nat), logHolds s = false →
    let t := transition new cause s
    t.dev.state = new ∧ t.dev.prev = s.dev.state ∧ t.dev.entryCause = cause ∧
      (∃ a b, t.log.ready = s.log.ready ++ [a, b] ∧ a.type = 0x0100 ∧ a.arg0 = new.code ∧ a.arg1 = cause ∧
        a.arg2 = s.dev.state.code ∧ a.time = s.almanac ∧ a.state = new.code ∧ b.type = 0x0001 ∧ b.arg0 = new.code ∧
        b.arg1 = cause) ∧
      t.tws.alert = s.tws.alert ||| 1 ∧ t.log.lastRun = (if new = .saved ∨ new = .off then s.almanac else s.log.lastRun) ∧
      t.dram = s.dram ∧ t.cht = s.cht ∧ t.stations = s.stations ∧ t.almanac = s.almanac

/-- A beat write into DRAM (R92, R102): every byte enabled takes its new value and every other byte of DRAM keeps its own; a
full write without poison clears the beat's mark, a partial one keeps it, a poisoned one sets it; other marks stay. -/
def Obligations.BeatWriteIntoDram : Prop :=
  ∀ (w : BeatWrite) (d : Dram), Memory.wf d = true → Memory.wf (dramWrite w d) = true ∧
    (∀ i, i < 64 → w.enables.getLsbD i = true → tget 0 (dramWrite w d).bytes (w.beat * 64 + i) = (padTo 64 w.data).getD i 0) ∧
    (∀ a, (∀ i, i < 64 → w.enables.getLsbD i = true → a ≠ w.beat * 64 + i) → tget 0 (dramWrite w d).bytes a = tget 0 d.bytes a) ∧
    (w.poison = false → w.enables = allEnables → dramPoison (dramWrite w d) w.beat = false) ∧
    (w.poison = false → w.enables ≠ allEnables → dramPoison (dramWrite w d) w.beat = dramPoison d w.beat) ∧
    (w.poison = true → dramPoison (dramWrite w d) w.beat = true) ∧
    (∀ b, b ≠ w.beat → dramPoison (dramWrite w d) b = dramPoison d b)

/-- The tile state port (R178): a tile of a saved class that changes state changes its Room's counts, its Suite's and the
device totals by the same amounts in the same cycle; every other tile, Room and Suite stays. -/
def Obligations.TilePortKeepsCounts : Prop :=
  ∀ (s : State) (t : Nat) (x : Tile), twf {} s.cht.tiles = true → twf {} s.cht.entries = true → (tileClass s t).saved = true →
    let u := putTile t x s
    let r := t / 64
    (∀ k, tileAt u k = if k = t then x else tileAt s k) ∧
    (∀ k, k ≠ r → entryAt u k = entryAt s k) ∧
    (entryAt u r).dirtyCnt = recount (entryAt s r).dirtyCnt (tileAt s t).st.counts x.st.counts ∧
    (entryAt u r).stowingCnt = recount (entryAt s r).stowingCnt ((tileAt s t).st = .stowing) (x.st = .stowing) ∧
    u.cht.dirtyTotal = recount s.cht.dirtyTotal (tileAt s t).st.counts x.st.counts ∧
    u.cht.stowingTotal = recount s.cht.stowingTotal ((tileAt s t).st = .stowing) (x.st = .stowing) ∧
    (∀ c, suiteOf s (tileSuite s t) = some c → ∃ d, suiteOf u (tileSuite s t) = some d ∧ d.cfg = c.cfg ∧
      d.dirty = recount c.dirty (tileAt s t).st.counts x.st.counts ∧
      d.stowing = recount c.stowing ((tileAt s t).st = .stowing) (x.st = .stowing)) ∧
    u.dram = s.dram ∧ u.dev = s.dev

/-- Reset (01_architecture Table 01-6, 19_almanac_log_identity R650): the part waits in BOOT for its supplies with an empty
queue, nothing given to the outside, empty DRAM and no fault; and the registers listed, some of every block that has any,
have the reset values of their tables. At reset every stored array is in canonical form. -/
def Obligations.ResetState : Prop :=
  (State.reset.dev.state = .boot ∧ State.reset.pending = [] ∧ State.reset.out = [] ∧ State.reset.dram = {} ∧
      (∀ b : Block, (stationAt State.reset b).sticky = 0 ∧ (stationAt State.reset b).live = 0 ∧ (stationAt State.reset b).raised = 0) ∧
      ∀ x ∈ ([(0x10, 0x10001), (0x10000, 0x0), (0x20000, 0x0), (0x20008, 0x41030), (0x2000C, 0x6040),
        (0x20014, 0x200024), (0x20020, 0xB), (0x20024, 0xA2080), (0x2002C, 0x118), (0x40000, 0x0), (0x50000, 0x0),
        (0x60000, 0x2004B00), (0x70000, 0x0), (0x70028, 0xD), (0x80000, 0x420), (0x80014, 0x80000), (0x80030, 0xB41E),
        (0x90000, 0x0), (0xA0000, 0x0), (0xA0004, 0xC), (0xA0008, 0x5A), (0xA0024, 0x7814), (0xB0000, 0x0),
        (0xB0028, 0x2), (0xC0000, 0xA), (0xC000C, 0x3C0000), (0xC0038, 0x64C846), (0xD0000, 0x0), (0xD0004, 0xC8641432),
        (0xD0008, 0x1), (0xE0000, 0x0), (0xE000C, 0x1F4), (0xF0000, 0x0), (0xF0004, 0x180A), (0x100000, 0x6404DA),
        (0x10000C, 0x1E00), (0x110004, 0x1C21F4), (0x110008, 0x7232321E), (0x120000, 0x700), (0x120014, 0x502),
        (0x130000, 0x0), (0x140000, 0x0), (0x14000C, 0x888), (0x150000, 0x0)] : List (Nat × Word)), regView State.reset x.1 = some x.2) ∧
  (State.reset.memoryWf = true)

/-- No command touches the queue: a step takes one command from its front, in order, and adds none. -/
def Obligations.CommandsLeaveTheQueue : Prop :=
  ∀ (c : Instr) (s t : State), exec c s = .next t → t.pending = s.pending

/-- No command of the table stops the part: whatever the state and the operands, `exec` answers a next state, and never a
fault or a refusal. What that state holds is said, command by command, by the other statements; this one covers the operands
and states on which a command is ignored, answered with an error or changes nothing as well. -/
def Obligations.EveryCommandCompletes : Prop :=
  ∀ (c : Instr) (s : State), Completes (exec c s) fun _ => True

/-- Every step keeps DRAM, the Chart, the tile states, the ring store, the test window, the Label Storage Area, the Log's
ring and the words and seals of both Attic banks in canonical form: addresses strictly rising and nothing listed that an
unlisted address reads as. -/
def Obligations.MemoryStaysCanonical : Prop :=
  ∀ s t : State, s.memoryWf = true → step s = .next t → t.memoryWf = true

/-- The Almanac never goes back while the always-on domain has power (R648), whatever the command. -/
def Obligations.AlmanacNeverGoesBack : Prop :=
  ∀ s t : State, s.log.aonPowered = true → step s = .next t → s.almanac ≤ t.almanac

/-- DRYDOCK persists until power is removed (R39): no other command changes the operating state there; and a part that
enters BOOT has its image check before it. -/
def Obligations.DrydockPersists : Prop :=
  ∀ (c : Instr) (s t : State), exec c s = .next t →
    (s.dev.state = .drydock → t.dev.state ≠ .drydock → c = .drydockPowerRemoved ∧ t.dev.state = .off) ∧
    (s.dev.state ≠ .boot → t.dev.state = .boot → t.svc.selected = false)

/-- The service key store is replaced only by a package of KIND 4, and never holds more than 4 entries (R616); the fused
identity and root key never change, and the fused epoch never falls (R642). -/
def Obligations.KeysAndFuses : Prop :=
  ∀ (c : Instr) (s t : State), exec c s = .next t →
    (t.svc.keyStore ≠ s.svc.keyStore → (∃ seq a p, c = .pkgEnd seq a ∧ s.svc.pkg = some p ∧ p.hdr.kind = 4) ∧
      t.svc.keyStore.length ≤ 4) ∧
    s.fuses.epoch ≤ t.fuses.epoch ∧ t.fuses = { s.fuses with epoch := t.fuses.epoch }
end

