-- ==== Sys2Proof/Laws/State.lean ====
section
/-! SUPPORT. Laws of the state record that every frame lemma rests on: a field of a choice between two states, and a field that
no step of a fold touches. -/

namespace Sys2Proof.Machine

@[simp] theorem State.ite_almanac (c : Prop) [Decidable c] (a b : State) :
    (if c then a else b).almanac = if c then a.almanac else b.almanac := by split <;> rfl
@[simp] theorem State.ite_dev (c : Prop) [Decidable c] (a b : State) :
    (if c then a else b).dev = if c then a.dev else b.dev := by split <;> rfl
@[simp] theorem State.ite_stations (c : Prop) [Decidable c] (a b : State) :
    (if c then a else b).stations = if c then a.stations else b.stations := by split <;> rfl
@[simp] theorem State.ite_hst (c : Prop) [Decidable c] (a b : State) :
    (if c then a else b).hst = if c then a.hst else b.hst := by split <;> rfl
@[simp] theorem State.ite_drc (c : Prop) [Decidable c] (a b : State) :
    (if c then a else b).drc = if c then a.drc else b.drc := by split <;> rfl
@[simp] theorem State.ite_dram (c : Prop) [Decidable c] (a b : State) :
    (if c then a else b).dram = if c then a.dram else b.dram := by split <;> rfl
@[simp] theorem State.ite_cht (c : Prop) [Decidable c] (a b : State) :
    (if c then a else b).cht = if c then a.cht else b.cht := by split <;> rfl
@[simp] theorem State.ite_sui (c : Prop) [Decidable c] (a b : State) :
    (if c then a else b).sui = if c then a.sui else b.sui := by split <;> rfl
@[simp] theorem State.ite_stw (c : Prop) [Decidable c] (a b : State) :
    (if c then a else b).stw = if c then a.stw else b.stw := by split <;> rfl
@[simp] theorem State.ite_sav (c : Prop) [Decidable c] (a b : State) :
    (if c then a else b).sav = if c then a.sav else b.sav := by split <;> rfl
@[simp] theorem State.ite_cel (c : Prop) [Decidable c] (a b : State) :
    (if c then a else b).cel = if c then a.cel else b.cel := by split <;> rfl
@[simp] theorem State.ite_dmw (c : Prop) [Decidable c] (a b : State) :
    (if c then a else b).dmw = if c then a.dmw else b.dmw := by split <;> rfl
@[simp] theorem State.ite_nrg (c : Prop) [Decidable c] (a b : State) :
    (if c then a else b).nrg = if c then a.nrg else b.nrg := by split <;> rfl
@[simp] theorem State.ite_gau (c : Prop) [Decidable c] (a b : State) :
    (if c then a else b).gau = if c then a.gau else b.gau := by split <;> rfl
@[simp] theorem State.ite_rek (c : Prop) [Decidable c] (a b : State) :
    (if c then a else b).rek = if c then a.rek else b.rek := by split <;> rfl
@[simp] theorem State.ite_plk (c : Prop) [Decidable c] (a b : State) :
    (if c then a else b).plk = if c then a.plk else b.plk := by split <;> rfl
@[simp] theorem State.ite_att (c : Prop) [Decidable c] (a b : State) :
    (if c then a else b).att = if c then a.att else b.att := by split <;> rfl
@[simp] theorem State.ite_ecc (c : Prop) [Decidable c] (a b : State) :
    (if c then a else b).ecc = if c then a.ecc else b.ecc := by split <;> rfl
@[simp] theorem State.ite_tws (c : Prop) [Decidable c] (a b : State) :
    (if c then a else b).tws = if c then a.tws else b.tws := by split <;> rfl
@[simp] theorem State.ite_twp (c : Prop) [Decidable c] (a b : State) :
    (if c then a else b).twp = if c then a.twp else b.twp := by split <;> rfl
@[simp] theorem State.ite_svc (c : Prop) [Decidable c] (a b : State) :
    (if c then a else b).svc = if c then a.svc else b.svc := by split <;> rfl
@[simp] theorem State.ite_log (c : Prop) [Decidable c] (a b : State) :
    (if c then a else b).log = if c then a.log else b.log := by split <;> rfl
@[simp] theorem State.ite_pwr (c : Prop) [Decidable c] (a b : State) :
    (if c then a else b).pwr = if c then a.pwr else b.pwr := by split <;> rfl
@[simp] theorem State.ite_fpl (c : Prop) [Decidable c] (a b : State) :
    (if c then a else b).fpl = if c then a.fpl else b.fpl := by split <;> rfl
@[simp] theorem State.ite_jtag (c : Prop) [Decidable c] (a b : State) :
    (if c then a else b).jtag = if c then a.jtag else b.jtag := by split <;> rfl
@[simp] theorem State.ite_fuses (c : Prop) [Decidable c] (a b : State) :
    (if c then a else b).fuses = if c then a.fuses else b.fuses := by split <;> rfl
@[simp] theorem State.ite_cal (c : Prop) [Decidable c] (a b : State) :
    (if c then a else b).cal = if c then a.cal else b.cal := by split <;> rfl
@[simp] theorem State.ite_out (c : Prop) [Decidable c] (a b : State) :
    (if c then a else b).out = if c then a.out else b.out := by split <;> rfl
@[simp] theorem State.ite_free (c : Prop) [Decidable c] (a b : State) :
    (if c then a else b).free = if c then a.free else b.free := by split <;> rfl
@[simp] theorem State.ite_pending (c : Prop) [Decidable c] (a b : State) :
    (if c then a else b).pending = if c then a.pending else b.pending := by split <;> rfl

/-- A view of the state that no step of a fold changes is unchanged by the fold. -/
theorem foldl_keeps {α β : Type} (v : State → β) (f : State → α → State) (h : ∀ s a, v (f s a) = v s) (l : List α) (s : State) :
    v (l.foldl f s) = v s := by
  induction l generalizing s with
  | nil => rfl
  | cons a r ih => rw [List.foldl_cons, ih, h]

@[simp] theorem State.foldl_almanac {α : Type} (f : State → α → State) (h : ∀ s a, (f s a).almanac = s.almanac) (l : List α) (s : State) :
    (l.foldl f s).almanac = s.almanac := foldl_keeps (fun s => s.almanac) f h l s
@[simp] theorem State.foldl_dev {α : Type} (f : State → α → State) (h : ∀ s a, (f s a).dev = s.dev) (l : List α) (s : State) :
    (l.foldl f s).dev = s.dev := foldl_keeps (fun s => s.dev) f h l s
@[simp] theorem State.foldl_stations {α : Type} (f : State → α → State) (h : ∀ s a, (f s a).stations = s.stations) (l : List α) (s : State) :
    (l.foldl f s).stations = s.stations := foldl_keeps (fun s => s.stations) f h l s
@[simp] theorem State.foldl_hst {α : Type} (f : State → α → State) (h : ∀ s a, (f s a).hst = s.hst) (l : List α) (s : State) :
    (l.foldl f s).hst = s.hst := foldl_keeps (fun s => s.hst) f h l s
@[simp] theorem State.foldl_drc {α : Type} (f : State → α → State) (h : ∀ s a, (f s a).drc = s.drc) (l : List α) (s : State) :
    (l.foldl f s).drc = s.drc := foldl_keeps (fun s => s.drc) f h l s
@[simp] theorem State.foldl_dram {α : Type} (f : State → α → State) (h : ∀ s a, (f s a).dram = s.dram) (l : List α) (s : State) :
    (l.foldl f s).dram = s.dram := foldl_keeps (fun s => s.dram) f h l s
@[simp] theorem State.foldl_cht {α : Type} (f : State → α → State) (h : ∀ s a, (f s a).cht = s.cht) (l : List α) (s : State) :
    (l.foldl f s).cht = s.cht := foldl_keeps (fun s => s.cht) f h l s
@[simp] theorem State.foldl_sui {α : Type} (f : State → α → State) (h : ∀ s a, (f s a).sui = s.sui) (l : List α) (s : State) :
    (l.foldl f s).sui = s.sui := foldl_keeps (fun s => s.sui) f h l s
@[simp] theorem State.foldl_stw {α : Type} (f : State → α → State) (h : ∀ s a, (f s a).stw = s.stw) (l : List α) (s : State) :
    (l.foldl f s).stw = s.stw := foldl_keeps (fun s => s.stw) f h l s
@[simp] theorem State.foldl_sav {α : Type} (f : State → α → State) (h : ∀ s a, (f s a).sav = s.sav) (l : List α) (s : State) :
    (l.foldl f s).sav = s.sav := foldl_keeps (fun s => s.sav) f h l s
@[simp] theorem State.foldl_cel {α : Type} (f : State → α → State) (h : ∀ s a, (f s a).cel = s.cel) (l : List α) (s : State) :
    (l.foldl f s).cel = s.cel := foldl_keeps (fun s => s.cel) f h l s
@[simp] theorem State.foldl_dmw {α : Type} (f : State → α → State) (h : ∀ s a, (f s a).dmw = s.dmw) (l : List α) (s : State) :
    (l.foldl f s).dmw = s.dmw := foldl_keeps (fun s => s.dmw) f h l s
@[simp] theorem State.foldl_nrg {α : Type} (f : State → α → State) (h : ∀ s a, (f s a).nrg = s.nrg) (l : List α) (s : State) :
    (l.foldl f s).nrg = s.nrg := foldl_keeps (fun s => s.nrg) f h l s
@[simp] theorem State.foldl_gau {α : Type} (f : State → α → State) (h : ∀ s a, (f s a).gau = s.gau) (l : List α) (s : State) :
    (l.foldl f s).gau = s.gau := foldl_keeps (fun s => s.gau) f h l s
@[simp] theorem State.foldl_rek {α : Type} (f : State → α → State) (h : ∀ s a, (f s a).rek = s.rek) (l : List α) (s : State) :
    (l.foldl f s).rek = s.rek := foldl_keeps (fun s => s.rek) f h l s
@[simp] theorem State.foldl_plk {α : Type} (f : State → α → State) (h : ∀ s a, (f s a).plk = s.plk) (l : List α) (s : State) :
    (l.foldl f s).plk = s.plk := foldl_keeps (fun s => s.plk) f h l s
@[simp] theorem State.foldl_att {α : Type} (f : State → α → State) (h : ∀ s a, (f s a).att = s.att) (l : List α) (s : State) :
    (l.foldl f s).att = s.att := foldl_keeps (fun s => s.att) f h l s
@[simp] theorem State.foldl_ecc {α : Type} (f : State → α → State) (h : ∀ s a, (f s a).ecc = s.ecc) (l : List α) (s : State) :
    (l.foldl f s).ecc = s.ecc := foldl_keeps (fun s => s.ecc) f h l s
@[simp] theorem State.foldl_tws {α : Type} (f : State → α → State) (h : ∀ s a, (f s a).tws = s.tws) (l : List α) (s : State) :
    (l.foldl f s).tws = s.tws := foldl_keeps (fun s => s.tws) f h l s
@[simp] theorem State.foldl_twp {α : Type} (f : State → α → State) (h : ∀ s a, (f s a).twp = s.twp) (l : List α) (s : State) :
    (l.foldl f s).twp = s.twp := foldl_keeps (fun s => s.twp) f h l s
@[simp] theorem State.foldl_svc {α : Type} (f : State → α → State) (h : ∀ s a, (f s a).svc = s.svc) (l : List α) (s : State) :
    (l.foldl f s).svc = s.svc := foldl_keeps (fun s => s.svc) f h l s
@[simp] theorem State.foldl_log {α : Type} (f : State → α → State) (h : ∀ s a, (f s a).log = s.log) (l : List α) (s : State) :
    (l.foldl f s).log = s.log := foldl_keeps (fun s => s.log) f h l s
@[simp] theorem State.foldl_pwr {α : Type} (f : State → α → State) (h : ∀ s a, (f s a).pwr = s.pwr) (l : List α) (s : State) :
    (l.foldl f s).pwr = s.pwr := foldl_keeps (fun s => s.pwr) f h l s
@[simp] theorem State.foldl_fpl {α : Type} (f : State → α → State) (h : ∀ s a, (f s a).fpl = s.fpl) (l : List α) (s : State) :
    (l.foldl f s).fpl = s.fpl := foldl_keeps (fun s => s.fpl) f h l s
@[simp] theorem State.foldl_jtag {α : Type} (f : State → α → State) (h : ∀ s a, (f s a).jtag = s.jtag) (l : List α) (s : State) :
    (l.foldl f s).jtag = s.jtag := foldl_keeps (fun s => s.jtag) f h l s
@[simp] theorem State.foldl_fuses {α : Type} (f : State → α → State) (h : ∀ s a, (f s a).fuses = s.fuses) (l : List α) (s : State) :
    (l.foldl f s).fuses = s.fuses := foldl_keeps (fun s => s.fuses) f h l s
@[simp] theorem State.foldl_cal {α : Type} (f : State → α → State) (h : ∀ s a, (f s a).cal = s.cal) (l : List α) (s : State) :
    (l.foldl f s).cal = s.cal := foldl_keeps (fun s => s.cal) f h l s
@[simp] theorem State.foldl_out {α : Type} (f : State → α → State) (h : ∀ s a, (f s a).out = s.out) (l : List α) (s : State) :
    (l.foldl f s).out = s.out := foldl_keeps (fun s => s.out) f h l s
@[simp] theorem State.foldl_free {α : Type} (f : State → α → State) (h : ∀ s a, (f s a).free = s.free) (l : List α) (s : State) :
    (l.foldl f s).free = s.free := foldl_keeps (fun s => s.free) f h l s
@[simp] theorem State.foldl_pending {α : Type} (f : State → α → State) (h : ∀ s a, (f s a).pending = s.pending) (l : List α) (s : State) :
    (l.foldl f s).pending = s.pending := foldl_keeps (fun s => s.pending) f h l s

end Sys2Proof.Machine
end

