-- ==== Sys2Proof/Laws/Frames.lean ====
section
/-! SUPPORT. What each operation and each meaning leaves alone: one lemma each, a conjunction over the groups of the state (a second
lemma where single fields of a group it writes stay), for the modules up to the save. A meaning is taken as the state it answers. -/

set_option maxRecDepth 20000

namespace Sys2Proof.Machine

/-- The state a meaning answers; the state before it where it answers none. -/

def resAfter (r : Res) (s : State) : State := match r with | .next t => t | _ => s

@[simp] theorem resAfter_next (t s : State) : resAfter (.next t) s = t := rfl

variable {β : Type} (g : State → β)

/-- keeps: a projection that a fold's step keeps, is kept by the fold over a pair. -/

theorem foldl_pair_keeps {α γ : Type} (f : γ × State → α → γ × State) (h : ∀ p a, g (f p a).2 = g p.2) (l : List α) (p : γ × State) :
    g (l.foldl f p).2 = g p.2 := by
  induction l generalizing p with
  | nil => rfl
  | cons a l ih => rw [List.foldl_cons, ih, h]

theorem relocateBlock_keeps (d b : Nat)
    (s : State) (h : ∀ t src i (s : State), g (startCopy t src i s) = g s) : g (relocateBlock d b s) = g s := by
  simp only [relocateBlock]
  apply foldl_keeps
  intros; (repeat' split) <;> simp [h]

theorem startErasures_keeps (s : State) (h : ∀ d f (s : State), g (modDie d f s) = g s) : g (startErasures s) = g s := by
  simp only [startErasures]
  apply foldl_keeps
  intros; (repeat' split) <;> simp [h]

theorem readWindow_keeps (m o : Nat) (d : List (List Nat)) (s : State) (h1 : ∀ b m (s : State), g (ownerStatus b m s).2 = g s)
    (h2 : ∀ b k (s : State), g (suspendErase b k s) = g s) (h3 : ∀ m o d (s : State), g (readArray m o d s).2 = g s) : g (readWindow m o d s).2 = g s :=
      by
  simp only [readWindow]
  have := h1 (o / bankBytes) m s
  split <;> rename_i e <;> rw [e] at this
  · exact this
  · simp only at this ⊢
    (repeat' split) <;> simp [h2, h3, this]

@[simp] theorem emit_frame (o : Output) (s : State) :
    (emit o s).almanac = s.almanac ∧ (emit o s).dev = s.dev ∧ (emit o s).stations = s.stations ∧ (emit o s).hst = s.hst ∧
      (emit o s).drc = s.drc ∧ (emit o s).dram = s.dram ∧ (emit o s).cht = s.cht ∧ (emit o s).sui = s.sui ∧
      (emit o s).stw = s.stw ∧ (emit o s).sav = s.sav ∧ (emit o s).cel = s.cel ∧ (emit o s).dmw = s.dmw ∧
      (emit o s).nrg = s.nrg ∧ (emit o s).gau = s.gau ∧ (emit o s).rek = s.rek ∧ (emit o s).plk = s.plk ∧
      (emit o s).att = s.att ∧ (emit o s).ecc = s.ecc ∧ (emit o s).tws = s.tws ∧ (emit o s).twp = s.twp ∧
      (emit o s).svc = s.svc ∧ (emit o s).log = s.log ∧ (emit o s).pwr = s.pwr ∧ (emit o s).fpl = s.fpl ∧
      (emit o s).jtag = s.jtag ∧ (emit o s).fuses = s.fuses ∧ (emit o s).cal = s.cal ∧ (emit o s).free = s.free ∧
      (emit o s).pending = s.pending := by
  simp [emit]

theorem takeFree_frame (s : State) :
    (takeFree s).2.almanac = s.almanac ∧ (takeFree s).2.dev = s.dev ∧ (takeFree s).2.stations = s.stations ∧
      (takeFree s).2.hst = s.hst ∧ (takeFree s).2.drc = s.drc ∧ (takeFree s).2.dram = s.dram ∧ (takeFree s).2.cht = s.cht ∧
      (takeFree s).2.sui = s.sui ∧ (takeFree s).2.stw = s.stw ∧ (takeFree s).2.sav = s.sav ∧ (takeFree s).2.cel = s.cel ∧
      (takeFree s).2.dmw = s.dmw ∧ (takeFree s).2.nrg = s.nrg ∧ (takeFree s).2.gau = s.gau ∧ (takeFree s).2.rek = s.rek ∧
      (takeFree s).2.plk = s.plk ∧ (takeFree s).2.att = s.att ∧ (takeFree s).2.ecc = s.ecc ∧ (takeFree s).2.tws = s.tws ∧
      (takeFree s).2.twp = s.twp ∧ (takeFree s).2.svc = s.svc ∧ (takeFree s).2.log = s.log ∧ (takeFree s).2.pwr = s.pwr ∧
      (takeFree s).2.fpl = s.fpl ∧ (takeFree s).2.jtag = s.jtag ∧ (takeFree s).2.fuses = s.fuses ∧ (takeFree s).2.cal = s.cal ∧
      (takeFree s).2.out = s.out ∧ (takeFree s).2.pending = s.pending := by
  simp [takeFree]

theorem notify_frame (v : Nat) (s : State) :
    (notify v s).almanac = s.almanac ∧ (notify v s).dev = s.dev ∧ (notify v s).stations = s.stations ∧
      (notify v s).drc = s.drc ∧ (notify v s).dram = s.dram ∧ (notify v s).cht = s.cht ∧ (notify v s).sui = s.sui ∧
      (notify v s).stw = s.stw ∧ (notify v s).sav = s.sav ∧ (notify v s).cel = s.cel ∧ (notify v s).dmw = s.dmw ∧
      (notify v s).nrg = s.nrg ∧ (notify v s).gau = s.gau ∧ (notify v s).rek = s.rek ∧ (notify v s).plk = s.plk ∧
      (notify v s).att = s.att ∧ (notify v s).ecc = s.ecc ∧ (notify v s).tws = s.tws ∧ (notify v s).twp = s.twp ∧
      (notify v s).svc = s.svc ∧ (notify v s).log = s.log ∧ (notify v s).pwr = s.pwr ∧ (notify v s).fpl = s.fpl ∧
      (notify v s).jtag = s.jtag ∧ (notify v s).fuses = s.fuses ∧ (notify v s).cal = s.cal ∧ (notify v s).free = s.free ∧
      (notify v s).pending = s.pending := by
  simp [notify]

theorem notify_frame2 (v : Nat) (s : State) :
    (notify v s).hst.linkUp = s.hst.linkUp ∧ (notify v s).hst.gateClosed = s.hst.gateClosed := by
  unfold notify; (repeat' split) <;> simp_all

theorem alertBit_frame (k : Nat) (s : State) :
    (alertBit k s).almanac = s.almanac ∧ (alertBit k s).dev = s.dev ∧ (alertBit k s).stations = s.stations ∧
      (alertBit k s).hst = s.hst ∧ (alertBit k s).drc = s.drc ∧ (alertBit k s).dram = s.dram ∧ (alertBit k s).cht = s.cht ∧
      (alertBit k s).sui = s.sui ∧ (alertBit k s).stw = s.stw ∧ (alertBit k s).sav = s.sav ∧ (alertBit k s).cel = s.cel ∧
      (alertBit k s).dmw = s.dmw ∧ (alertBit k s).nrg = s.nrg ∧ (alertBit k s).gau = s.gau ∧ (alertBit k s).rek = s.rek ∧
      (alertBit k s).plk = s.plk ∧ (alertBit k s).att = s.att ∧ (alertBit k s).ecc = s.ecc ∧ (alertBit k s).twp = s.twp ∧
      (alertBit k s).svc = s.svc ∧ (alertBit k s).log = s.log ∧ (alertBit k s).pwr = s.pwr ∧ (alertBit k s).fpl = s.fpl ∧
      (alertBit k s).jtag = s.jtag ∧ (alertBit k s).fuses = s.fuses ∧ (alertBit k s).cal = s.cal ∧ (alertBit k s).out = s.out ∧
      (alertBit k s).free = s.free ∧ (alertBit k s).pending = s.pending := by
  simp [alertBit]

theorem modSuite_frame (id : Nat) (f : SuiteCtx → SuiteCtx) (s : State) :
    (modSuite id f s).almanac = s.almanac ∧ (modSuite id f s).dev = s.dev ∧ (modSuite id f s).stations = s.stations ∧
      (modSuite id f s).hst = s.hst ∧ (modSuite id f s).drc = s.drc ∧ (modSuite id f s).dram = s.dram ∧
      (modSuite id f s).cht = s.cht ∧ (modSuite id f s).stw = s.stw ∧ (modSuite id f s).sav = s.sav ∧
      (modSuite id f s).cel = s.cel ∧ (modSuite id f s).dmw = s.dmw ∧ (modSuite id f s).nrg = s.nrg ∧
      (modSuite id f s).gau = s.gau ∧ (modSuite id f s).rek = s.rek ∧ (modSuite id f s).plk = s.plk ∧
      (modSuite id f s).att = s.att ∧ (modSuite id f s).ecc = s.ecc ∧ (modSuite id f s).tws = s.tws ∧
      (modSuite id f s).twp = s.twp ∧ (modSuite id f s).svc = s.svc ∧ (modSuite id f s).log = s.log ∧
      (modSuite id f s).pwr = s.pwr ∧ (modSuite id f s).fpl = s.fpl ∧ (modSuite id f s).jtag = s.jtag ∧
      (modSuite id f s).fuses = s.fuses ∧ (modSuite id f s).cal = s.cal ∧ (modSuite id f s).out = s.out ∧
      (modSuite id f s).free = s.free ∧ (modSuite id f s).pending = s.pending := by
  simp [modSuite]

theorem logCore_frame (type block a0 a1 a2 suite master : Nat) (s : State) :
    (logCore type block a0 a1 a2 suite master s).almanac = s.almanac ∧
      (logCore type block a0 a1 a2 suite master s).dev = s.dev ∧
      (logCore type block a0 a1 a2 suite master s).stations = s.stations ∧
      (logCore type block a0 a1 a2 suite master s).hst = s.hst ∧ (logCore type block a0 a1 a2 suite master s).drc = s.drc ∧
      (logCore type block a0 a1 a2 suite master s).dram = s.dram ∧ (logCore type block a0 a1 a2 suite master s).cht = s.cht ∧
      (logCore type block a0 a1 a2 suite master s).sui = s.sui ∧ (logCore type block a0 a1 a2 suite master s).stw = s.stw ∧
      (logCore type block a0 a1 a2 suite master s).sav = s.sav ∧ (logCore type block a0 a1 a2 suite master s).cel = s.cel ∧
      (logCore type block a0 a1 a2 suite master s).dmw = s.dmw ∧ (logCore type block a0 a1 a2 suite master s).nrg = s.nrg ∧
      (logCore type block a0 a1 a2 suite master s).gau = s.gau ∧ (logCore type block a0 a1 a2 suite master s).rek = s.rek ∧
      (logCore type block a0 a1 a2 suite master s).plk = s.plk ∧ (logCore type block a0 a1 a2 suite master s).att = s.att ∧
      (logCore type block a0 a1 a2 suite master s).ecc = s.ecc ∧ (logCore type block a0 a1 a2 suite master s).tws = s.tws ∧
      (logCore type block a0 a1 a2 suite master s).twp = s.twp ∧ (logCore type block a0 a1 a2 suite master s).svc = s.svc ∧
      (logCore type block a0 a1 a2 suite master s).pwr = s.pwr ∧ (logCore type block a0 a1 a2 suite master s).fpl = s.fpl ∧
      (logCore type block a0 a1 a2 suite master s).jtag = s.jtag ∧
      (logCore type block a0 a1 a2 suite master s).fuses = s.fuses ∧ (logCore type block a0 a1 a2 suite master s).cal = s.cal ∧
      (logCore type block a0 a1 a2 suite master s).out = s.out ∧ (logCore type block a0 a1 a2 suite master s).free = s.free ∧
      (logCore type block a0 a1 a2 suite master s).pending = s.pending := by
  simp [logCore]

@[simp] theorem logCore_frame3 (type block a0 a1 a2 suite master : Nat) (s : State) :
    (logCore type block a0 a1 a2 suite master s).log.aonPowered = s.log.aonPowered := by
  simp only [logCore]; (repeat' split) <;> simp

theorem addEvent_frame (i : Nat) (r : EventRecord) (s : State) :
    (addEvent i r s).almanac = s.almanac ∧ (addEvent i r s).dev = s.dev ∧ (addEvent i r s).stations = s.stations ∧
      (addEvent i r s).drc = s.drc ∧ (addEvent i r s).dram = s.dram ∧ (addEvent i r s).cht = s.cht ∧
      (addEvent i r s).sui = s.sui ∧ (addEvent i r s).stw = s.stw ∧ (addEvent i r s).sav = s.sav ∧
      (addEvent i r s).cel = s.cel ∧ (addEvent i r s).dmw = s.dmw ∧ (addEvent i r s).nrg = s.nrg ∧
      (addEvent i r s).gau = s.gau ∧ (addEvent i r s).rek = s.rek ∧ (addEvent i r s).plk = s.plk ∧
      (addEvent i r s).att = s.att ∧ (addEvent i r s).ecc = s.ecc ∧ (addEvent i r s).tws = s.tws ∧
      (addEvent i r s).twp = s.twp ∧ (addEvent i r s).svc = s.svc ∧ (addEvent i r s).log = s.log ∧
      (addEvent i r s).pwr = s.pwr ∧ (addEvent i r s).fpl = s.fpl ∧ (addEvent i r s).jtag = s.jtag ∧
      (addEvent i r s).fuses = s.fuses ∧ (addEvent i r s).cal = s.cal ∧ (addEvent i r s).free = s.free ∧
      (addEvent i r s).pending = s.pending := by
  have q1 := notify_frame
  simp [q1, addEvent]

theorem addEvent_frame3 (i : Nat) (r : EventRecord) (s : State) :
    (addEvent i r s).hst.linkUp = s.hst.linkUp ∧ (addEvent i r s).hst.gateClosed = s.hst.gateClosed := by
  have q1 := notify_frame2
  simp only [addEvent]; (repeat' split) <;> simp [q1]

theorem vendorEvent_frame (code : Nat) (b : Block) (master suite dpa a0 a1 : Nat) (s : State) :
    (vendorEvent code b master suite dpa a0 a1 s).almanac = s.almanac ∧
      (vendorEvent code b master suite dpa a0 a1 s).dev = s.dev ∧
      (vendorEvent code b master suite dpa a0 a1 s).stations = s.stations ∧
      (vendorEvent code b master suite dpa a0 a1 s).drc = s.drc ∧ (vendorEvent code b master suite dpa a0 a1 s).dram = s.dram ∧
      (vendorEvent code b master suite dpa a0 a1 s).cht = s.cht ∧ (vendorEvent code b master suite dpa a0 a1 s).sui = s.sui ∧
      (vendorEvent code b master suite dpa a0 a1 s).stw = s.stw ∧ (vendorEvent code b master suite dpa a0 a1 s).sav = s.sav ∧
      (vendorEvent code b master suite dpa a0 a1 s).cel = s.cel ∧ (vendorEvent code b master suite dpa a0 a1 s).dmw = s.dmw ∧
      (vendorEvent code b master suite dpa a0 a1 s).nrg = s.nrg ∧ (vendorEvent code b master suite dpa a0 a1 s).gau = s.gau ∧
      (vendorEvent code b master suite dpa a0 a1 s).rek = s.rek ∧ (vendorEvent code b master suite dpa a0 a1 s).plk = s.plk ∧
      (vendorEvent code b master suite dpa a0 a1 s).att = s.att ∧ (vendorEvent code b master suite dpa a0 a1 s).ecc = s.ecc ∧
      (vendorEvent code b master suite dpa a0 a1 s).tws = s.tws ∧ (vendorEvent code b master suite dpa a0 a1 s).twp = s.twp ∧
      (vendorEvent code b master suite dpa a0 a1 s).svc = s.svc ∧ (vendorEvent code b master suite dpa a0 a1 s).pwr = s.pwr ∧
      (vendorEvent code b master suite dpa a0 a1 s).fpl = s.fpl ∧ (vendorEvent code b master suite dpa a0 a1 s).jtag = s.jtag ∧
      (vendorEvent code b master suite dpa a0 a1 s).fuses = s.fuses ∧
      (vendorEvent code b master suite dpa a0 a1 s).cal = s.cal ∧ (vendorEvent code b master suite dpa a0 a1 s).free = s.free ∧
      (vendorEvent code b master suite dpa a0 a1 s).pending = s.pending ∧
      (vendorEvent code b master suite dpa a0 a1 s).hst.linkUp = s.hst.linkUp ∧
      (vendorEvent code b master suite dpa a0 a1 s).hst.gateClosed = s.hst.gateClosed ∧
      (vendorEvent code b master suite dpa a0 a1 s).log.aonPowered = s.log.aonPowered := by
  have q1 := addEvent_frame
  have q2 := addEvent_frame3
  have q3 := logCore_frame
  simp [q1, q2, q3, vendorEvent]

theorem event_frame (code : Nat) (b : Block) (a0 a1 : Nat) (s : State) :
    (event code b a0 a1 s).almanac = s.almanac ∧ (event code b a0 a1 s).dev = s.dev ∧
      (event code b a0 a1 s).stations = s.stations ∧ (event code b a0 a1 s).drc = s.drc ∧
      (event code b a0 a1 s).dram = s.dram ∧ (event code b a0 a1 s).cht = s.cht ∧ (event code b a0 a1 s).sui = s.sui ∧
      (event code b a0 a1 s).stw = s.stw ∧ (event code b a0 a1 s).sav = s.sav ∧ (event code b a0 a1 s).cel = s.cel ∧
      (event code b a0 a1 s).dmw = s.dmw ∧ (event code b a0 a1 s).nrg = s.nrg ∧ (event code b a0 a1 s).gau = s.gau ∧
      (event code b a0 a1 s).rek = s.rek ∧ (event code b a0 a1 s).plk = s.plk ∧ (event code b a0 a1 s).att = s.att ∧
      (event code b a0 a1 s).ecc = s.ecc ∧ (event code b a0 a1 s).tws = s.tws ∧ (event code b a0 a1 s).twp = s.twp ∧
      (event code b a0 a1 s).svc = s.svc ∧ (event code b a0 a1 s).pwr = s.pwr ∧ (event code b a0 a1 s).fpl = s.fpl ∧
      (event code b a0 a1 s).jtag = s.jtag ∧ (event code b a0 a1 s).fuses = s.fuses ∧ (event code b a0 a1 s).cal = s.cal ∧
      (event code b a0 a1 s).free = s.free ∧ (event code b a0 a1 s).pending = s.pending ∧
      (event code b a0 a1 s).hst.linkUp = s.hst.linkUp ∧ (event code b a0 a1 s).hst.gateClosed = s.hst.gateClosed ∧
      (event code b a0 a1 s).log.aonPowered = s.log.aonPowered := by
  have q1 := vendorEvent_frame
  simp [q1, event]

theorem advanceTo_frame (t : Nat) (s : State) :
    (advanceTo t s).dev = s.dev ∧ (advanceTo t s).stations = s.stations ∧ (advanceTo t s).hst = s.hst ∧
      (advanceTo t s).drc = s.drc ∧ (advanceTo t s).dram = s.dram ∧ (advanceTo t s).cht = s.cht ∧ (advanceTo t s).sui = s.sui ∧
      (advanceTo t s).stw = s.stw ∧ (advanceTo t s).sav = s.sav ∧ (advanceTo t s).cel = s.cel ∧ (advanceTo t s).dmw = s.dmw ∧
      (advanceTo t s).nrg = s.nrg ∧ (advanceTo t s).gau = s.gau ∧ (advanceTo t s).rek = s.rek ∧ (advanceTo t s).plk = s.plk ∧
      (advanceTo t s).att = s.att ∧ (advanceTo t s).ecc = s.ecc ∧ (advanceTo t s).tws = s.tws ∧ (advanceTo t s).twp = s.twp ∧
      (advanceTo t s).pwr = s.pwr ∧ (advanceTo t s).fpl = s.fpl ∧ (advanceTo t s).jtag = s.jtag ∧
      (advanceTo t s).fuses = s.fuses ∧ (advanceTo t s).cal = s.cal ∧ (advanceTo t s).out = s.out ∧
      (advanceTo t s).free = s.free ∧ (advanceTo t s).pending = s.pending := by
  simp [advanceTo]

@[simp] theorem advanceTo_frame2 (t : Nat) (s : State) :
    (advanceTo t s).log.aonPowered = s.log.aonPowered := by unfold advanceTo; (repeat' split) <;> simp_all

theorem tick_frame (s : State) :
    (tick s).dev = s.dev ∧ (tick s).stations = s.stations ∧ (tick s).hst = s.hst ∧ (tick s).drc = s.drc ∧
      (tick s).dram = s.dram ∧ (tick s).cht = s.cht ∧ (tick s).sui = s.sui ∧ (tick s).stw = s.stw ∧ (tick s).sav = s.sav ∧
      (tick s).cel = s.cel ∧ (tick s).dmw = s.dmw ∧ (tick s).nrg = s.nrg ∧ (tick s).gau = s.gau ∧ (tick s).rek = s.rek ∧
      (tick s).plk = s.plk ∧ (tick s).att = s.att ∧ (tick s).ecc = s.ecc ∧ (tick s).tws = s.tws ∧ (tick s).twp = s.twp ∧
      (tick s).pwr = s.pwr ∧ (tick s).fpl = s.fpl ∧ (tick s).jtag = s.jtag ∧ (tick s).fuses = s.fuses ∧ (tick s).cal = s.cal ∧
      (tick s).out = s.out ∧ (tick s).free = s.free ∧ (tick s).pending = s.pending ∧
      (tick s).log.aonPowered = s.log.aonPowered := by
  have q1 := advanceTo_frame
  simp [q1, tick]

theorem transition_frame (new : OpState) (cause : Nat) (s : State) :
    (transition new cause s).almanac = s.almanac ∧ (transition new cause s).stations = s.stations ∧
      (transition new cause s).drc = s.drc ∧ (transition new cause s).dram = s.dram ∧ (transition new cause s).cht = s.cht ∧
      (transition new cause s).sui = s.sui ∧ (transition new cause s).stw = s.stw ∧ (transition new cause s).sav = s.sav ∧
      (transition new cause s).cel = s.cel ∧ (transition new cause s).dmw = s.dmw ∧ (transition new cause s).nrg = s.nrg ∧
      (transition new cause s).gau = s.gau ∧ (transition new cause s).rek = s.rek ∧ (transition new cause s).plk = s.plk ∧
      (transition new cause s).att = s.att ∧ (transition new cause s).ecc = s.ecc ∧ (transition new cause s).twp = s.twp ∧
      (transition new cause s).svc = s.svc ∧ (transition new cause s).pwr = s.pwr ∧ (transition new cause s).fpl = s.fpl ∧
      (transition new cause s).jtag = s.jtag ∧ (transition new cause s).fuses = s.fuses ∧
      (transition new cause s).cal = s.cal ∧ (transition new cause s).free = s.free ∧
      (transition new cause s).pending = s.pending ∧ (transition new cause s).hst.linkUp = s.hst.linkUp ∧
      (transition new cause s).hst.gateClosed = s.hst.gateClosed := by
  have q1 := alertBit_frame
  have q2 := event_frame
  have q3 := logCore_frame
  simp [q1, q2, q3, transition]

@[simp] theorem transition_frame2 (new : OpState) (cause : Nat) (s : State) :
    (transition new cause s).log.aonPowered = s.log.aonPowered := by
  have q1 := alertBit_frame
  have q2 := event_frame
  unfold transition; (repeat' split) <;> simp_all

theorem modEntry_frame (r : Nat) (f : ChartEntry → ChartEntry) (s : State) :
    (modEntry r f s).almanac = s.almanac ∧ (modEntry r f s).dev = s.dev ∧ (modEntry r f s).stations = s.stations ∧
      (modEntry r f s).hst = s.hst ∧ (modEntry r f s).drc = s.drc ∧ (modEntry r f s).dram = s.dram ∧
      (modEntry r f s).sui = s.sui ∧ (modEntry r f s).stw = s.stw ∧ (modEntry r f s).sav = s.sav ∧
      (modEntry r f s).cel = s.cel ∧ (modEntry r f s).dmw = s.dmw ∧ (modEntry r f s).nrg = s.nrg ∧
      (modEntry r f s).gau = s.gau ∧ (modEntry r f s).rek = s.rek ∧ (modEntry r f s).plk = s.plk ∧
      (modEntry r f s).att = s.att ∧ (modEntry r f s).ecc = s.ecc ∧ (modEntry r f s).tws = s.tws ∧
      (modEntry r f s).twp = s.twp ∧ (modEntry r f s).svc = s.svc ∧ (modEntry r f s).log = s.log ∧
      (modEntry r f s).pwr = s.pwr ∧ (modEntry r f s).fpl = s.fpl ∧ (modEntry r f s).jtag = s.jtag ∧
      (modEntry r f s).fuses = s.fuses ∧ (modEntry r f s).cal = s.cal ∧ (modEntry r f s).out = s.out ∧
      (modEntry r f s).free = s.free ∧ (modEntry r f s).pending = s.pending := by
  simp [modEntry]

theorem putTile_frame (t : Nat) (x : Tile) (s : State) :
    (putTile t x s).almanac = s.almanac ∧ (putTile t x s).dev = s.dev ∧ (putTile t x s).stations = s.stations ∧
      (putTile t x s).hst = s.hst ∧ (putTile t x s).drc = s.drc ∧ (putTile t x s).dram = s.dram ∧ (putTile t x s).stw = s.stw ∧
      (putTile t x s).sav = s.sav ∧ (putTile t x s).cel = s.cel ∧ (putTile t x s).dmw = s.dmw ∧ (putTile t x s).nrg = s.nrg ∧
      (putTile t x s).gau = s.gau ∧ (putTile t x s).rek = s.rek ∧ (putTile t x s).plk = s.plk ∧ (putTile t x s).att = s.att ∧
      (putTile t x s).ecc = s.ecc ∧ (putTile t x s).tws = s.tws ∧ (putTile t x s).twp = s.twp ∧ (putTile t x s).svc = s.svc ∧
      (putTile t x s).log = s.log ∧ (putTile t x s).pwr = s.pwr ∧ (putTile t x s).fpl = s.fpl ∧ (putTile t x s).jtag = s.jtag ∧
      (putTile t x s).fuses = s.fuses ∧ (putTile t x s).cal = s.cal ∧ (putTile t x s).out = s.out ∧
      (putTile t x s).free = s.free ∧ (putTile t x s).pending = s.pending := by
  have q1 := modEntry_frame
  have q2 := modSuite_frame
  simp [q1, q2, putTile]

theorem chartPoison_frame (r : Nat) (tile unlisted : Bool) (s : State) :
    (chartPoison r tile unlisted s).almanac = s.almanac ∧ (chartPoison r tile unlisted s).dev = s.dev ∧
      (chartPoison r tile unlisted s).stations = s.stations ∧ (chartPoison r tile unlisted s).hst = s.hst ∧
      (chartPoison r tile unlisted s).drc = s.drc ∧ (chartPoison r tile unlisted s).dram = s.dram ∧
      (chartPoison r tile unlisted s).sui = s.sui ∧ (chartPoison r tile unlisted s).stw = s.stw ∧
      (chartPoison r tile unlisted s).sav = s.sav ∧ (chartPoison r tile unlisted s).cel = s.cel ∧
      (chartPoison r tile unlisted s).dmw = s.dmw ∧ (chartPoison r tile unlisted s).nrg = s.nrg ∧
      (chartPoison r tile unlisted s).gau = s.gau ∧ (chartPoison r tile unlisted s).rek = s.rek ∧
      (chartPoison r tile unlisted s).plk = s.plk ∧ (chartPoison r tile unlisted s).att = s.att ∧
      (chartPoison r tile unlisted s).ecc = s.ecc ∧ (chartPoison r tile unlisted s).tws = s.tws ∧
      (chartPoison r tile unlisted s).twp = s.twp ∧ (chartPoison r tile unlisted s).svc = s.svc ∧
      (chartPoison r tile unlisted s).log = s.log ∧ (chartPoison r tile unlisted s).pwr = s.pwr ∧
      (chartPoison r tile unlisted s).fpl = s.fpl ∧ (chartPoison r tile unlisted s).jtag = s.jtag ∧
      (chartPoison r tile unlisted s).fuses = s.fuses ∧ (chartPoison r tile unlisted s).cal = s.cal ∧
      (chartPoison r tile unlisted s).out = s.out ∧ (chartPoison r tile unlisted s).free = s.free ∧
      (chartPoison r tile unlisted s).pending = s.pending := by
  have q1 := modEntry_frame
  simp [q1, chartPoison]

theorem listPoison_frame (dpa : Nat) (tile : Bool) (source : Nat) (s : State) :
    (listPoison dpa tile source s).almanac = s.almanac ∧ (listPoison dpa tile source s).dev = s.dev ∧
      (listPoison dpa tile source s).stations = s.stations ∧ (listPoison dpa tile source s).drc = s.drc ∧
      (listPoison dpa tile source s).dram = s.dram ∧ (listPoison dpa tile source s).sui = s.sui ∧
      (listPoison dpa tile source s).stw = s.stw ∧ (listPoison dpa tile source s).sav = s.sav ∧
      (listPoison dpa tile source s).cel = s.cel ∧ (listPoison dpa tile source s).dmw = s.dmw ∧
      (listPoison dpa tile source s).nrg = s.nrg ∧ (listPoison dpa tile source s).gau = s.gau ∧
      (listPoison dpa tile source s).rek = s.rek ∧ (listPoison dpa tile source s).plk = s.plk ∧
      (listPoison dpa tile source s).att = s.att ∧ (listPoison dpa tile source s).ecc = s.ecc ∧
      (listPoison dpa tile source s).tws = s.tws ∧ (listPoison dpa tile source s).twp = s.twp ∧
      (listPoison dpa tile source s).svc = s.svc ∧ (listPoison dpa tile source s).log = s.log ∧
      (listPoison dpa tile source s).pwr = s.pwr ∧ (listPoison dpa tile source s).fpl = s.fpl ∧
      (listPoison dpa tile source s).jtag = s.jtag ∧ (listPoison dpa tile source s).fuses = s.fuses ∧
      (listPoison dpa tile source s).cal = s.cal ∧ (listPoison dpa tile source s).out = s.out ∧
      (listPoison dpa tile source s).free = s.free ∧ (listPoison dpa tile source s).pending = s.pending := by
  have q1 := chartPoison_frame
  simp [q1, listPoison]

theorem listPoison_frame3 (dpa : Nat) (tile : Bool) (source : Nat) (s : State) :
    (listPoison dpa tile source s).hst.linkUp = s.hst.linkUp ∧
      (listPoison dpa tile source s).hst.gateClosed = s.hst.gateClosed := by
  have q1 := chartPoison_frame
  simp only [listPoison]; (repeat' split) <;> simp [q1]

theorem unlistBeat_frame (beat : Nat) (s : State) :
    (unlistBeat beat s).almanac = s.almanac ∧ (unlistBeat beat s).dev = s.dev ∧ (unlistBeat beat s).stations = s.stations ∧
      (unlistBeat beat s).drc = s.drc ∧ (unlistBeat beat s).dram = s.dram ∧ (unlistBeat beat s).cht = s.cht ∧
      (unlistBeat beat s).sui = s.sui ∧ (unlistBeat beat s).stw = s.stw ∧ (unlistBeat beat s).sav = s.sav ∧
      (unlistBeat beat s).cel = s.cel ∧ (unlistBeat beat s).dmw = s.dmw ∧ (unlistBeat beat s).nrg = s.nrg ∧
      (unlistBeat beat s).gau = s.gau ∧ (unlistBeat beat s).rek = s.rek ∧ (unlistBeat beat s).plk = s.plk ∧
      (unlistBeat beat s).att = s.att ∧ (unlistBeat beat s).ecc = s.ecc ∧ (unlistBeat beat s).tws = s.tws ∧
      (unlistBeat beat s).twp = s.twp ∧ (unlistBeat beat s).svc = s.svc ∧ (unlistBeat beat s).log = s.log ∧
      (unlistBeat beat s).pwr = s.pwr ∧ (unlistBeat beat s).fpl = s.fpl ∧ (unlistBeat beat s).jtag = s.jtag ∧
      (unlistBeat beat s).fuses = s.fuses ∧ (unlistBeat beat s).cal = s.cal ∧ (unlistBeat beat s).out = s.out ∧
      (unlistBeat beat s).free = s.free ∧ (unlistBeat beat s).pending = s.pending ∧
      (unlistBeat beat s).hst.linkUp = s.hst.linkUp ∧ (unlistBeat beat s).hst.gateClosed = s.hst.gateClosed := by
  simp [unlistBeat]

theorem setArmed_frame (a : Bool) (s : State) :
    (setArmed a s).almanac = s.almanac ∧ (setArmed a s).stations = s.stations ∧ (setArmed a s).drc = s.drc ∧
      (setArmed a s).dram = s.dram ∧ (setArmed a s).cht = s.cht ∧ (setArmed a s).sui = s.sui ∧ (setArmed a s).stw = s.stw ∧
      (setArmed a s).sav = s.sav ∧ (setArmed a s).cel = s.cel ∧ (setArmed a s).dmw = s.dmw ∧ (setArmed a s).nrg = s.nrg ∧
      (setArmed a s).gau = s.gau ∧ (setArmed a s).rek = s.rek ∧ (setArmed a s).plk = s.plk ∧ (setArmed a s).att = s.att ∧
      (setArmed a s).ecc = s.ecc ∧ (setArmed a s).twp = s.twp ∧ (setArmed a s).svc = s.svc ∧ (setArmed a s).pwr = s.pwr ∧
      (setArmed a s).fpl = s.fpl ∧ (setArmed a s).jtag = s.jtag ∧ (setArmed a s).fuses = s.fuses ∧ (setArmed a s).cal = s.cal ∧
      (setArmed a s).free = s.free ∧ (setArmed a s).pending = s.pending := by
  have q1 := alertBit_frame
  have q2 := event_frame
  have q3 := notify_frame
  simp [q1, q2, q3, setArmed]

theorem setArmed_frame2 (a : Bool) (s : State) :
    (setArmed a s).dev.state = s.dev.state ∧ (setArmed a s).hst.linkUp = s.hst.linkUp ∧
      (setArmed a s).hst.gateClosed = s.hst.gateClosed ∧ (setArmed a s).log.aonPowered = s.log.aonPowered := by
  have q1 := alertBit_frame
  have q2 := event_frame
  have q3 := notify_frame
  have q4 := notify_frame2
  unfold setArmed; (repeat' split) <;> simp_all

theorem reeval_frame (s : State) :
    (reeval s).almanac = s.almanac ∧ (reeval s).stations = s.stations ∧ (reeval s).drc = s.drc ∧ (reeval s).dram = s.dram ∧
      (reeval s).cht = s.cht ∧ (reeval s).sav = s.sav ∧ (reeval s).cel = s.cel ∧ (reeval s).dmw = s.dmw ∧
      (reeval s).nrg = s.nrg ∧ (reeval s).gau = s.gau ∧ (reeval s).rek = s.rek ∧ (reeval s).plk = s.plk ∧
      (reeval s).att = s.att ∧ (reeval s).ecc = s.ecc ∧ (reeval s).twp = s.twp ∧ (reeval s).svc = s.svc ∧
      (reeval s).pwr = s.pwr ∧ (reeval s).fpl = s.fpl ∧ (reeval s).jtag = s.jtag ∧ (reeval s).fuses = s.fuses ∧
      (reeval s).cal = s.cal ∧ (reeval s).free = s.free ∧ (reeval s).pending = s.pending := by
  have q1 := notify_frame
  have q2 := setArmed_frame
  simp [q1, q2, reeval]

theorem reeval_frame3 (s : State) :
    (reeval s).dev.state = s.dev.state ∧ (reeval s).hst.linkUp = s.hst.linkUp ∧ (reeval s).hst.gateClosed = s.hst.gateClosed ∧
      (reeval s).log.aonPowered = s.log.aonPowered := by
  have q1 := notify_frame
  have q2 := notify_frame2
  have q3 := setArmed_frame2
  simp only [reeval]; (repeat' split) <;> simp [q1, q2, q3]

theorem clearWatches_frame (t : Nat) (s : State) :
    (clearWatches t s).almanac = s.almanac ∧ (clearWatches t s).dev = s.dev ∧ (clearWatches t s).stations = s.stations ∧
      (clearWatches t s).hst = s.hst ∧ (clearWatches t s).drc = s.drc ∧ (clearWatches t s).dram = s.dram ∧
      (clearWatches t s).cht = s.cht ∧ (clearWatches t s).sui = s.sui ∧ (clearWatches t s).stw = s.stw ∧
      (clearWatches t s).sav = s.sav ∧ (clearWatches t s).nrg = s.nrg ∧ (clearWatches t s).gau = s.gau ∧
      (clearWatches t s).rek = s.rek ∧ (clearWatches t s).att = s.att ∧ (clearWatches t s).ecc = s.ecc ∧
      (clearWatches t s).tws = s.tws ∧ (clearWatches t s).twp = s.twp ∧ (clearWatches t s).svc = s.svc ∧
      (clearWatches t s).log = s.log ∧ (clearWatches t s).pwr = s.pwr ∧ (clearWatches t s).fpl = s.fpl ∧
      (clearWatches t s).jtag = s.jtag ∧ (clearWatches t s).fuses = s.fuses ∧ (clearWatches t s).cal = s.cal ∧
      (clearWatches t s).out = s.out ∧ (clearWatches t s).free = s.free ∧ (clearWatches t s).pending = s.pending := by
  simp [clearWatches]

theorem writeEventCore_frame (t : Nat) (s : State) :
    (writeEventCore t s).almanac = s.almanac ∧ (writeEventCore t s).dev = s.dev ∧ (writeEventCore t s).stations = s.stations ∧
      (writeEventCore t s).hst = s.hst ∧ (writeEventCore t s).drc = s.drc ∧ (writeEventCore t s).dram = s.dram ∧
      (writeEventCore t s).sav = s.sav ∧ (writeEventCore t s).nrg = s.nrg ∧ (writeEventCore t s).gau = s.gau ∧
      (writeEventCore t s).rek = s.rek ∧ (writeEventCore t s).att = s.att ∧ (writeEventCore t s).ecc = s.ecc ∧
      (writeEventCore t s).tws = s.tws ∧ (writeEventCore t s).twp = s.twp ∧ (writeEventCore t s).svc = s.svc ∧
      (writeEventCore t s).log = s.log ∧ (writeEventCore t s).pwr = s.pwr ∧ (writeEventCore t s).fpl = s.fpl ∧
      (writeEventCore t s).jtag = s.jtag ∧ (writeEventCore t s).fuses = s.fuses ∧ (writeEventCore t s).cal = s.cal ∧
      (writeEventCore t s).out = s.out ∧ (writeEventCore t s).free = s.free ∧ (writeEventCore t s).pending = s.pending := by
  have q1 := clearWatches_frame
  have q2 := putTile_frame
  simp [q1, q2, writeEventCore]

theorem claimTile_frame (t : Nat) (s : State) :
    (claimTile t s).almanac = s.almanac ∧ (claimTile t s).dev = s.dev ∧ (claimTile t s).stations = s.stations ∧
      (claimTile t s).hst = s.hst ∧ (claimTile t s).drc = s.drc ∧ (claimTile t s).dram = s.dram ∧ (claimTile t s).stw = s.stw ∧
      (claimTile t s).sav = s.sav ∧ (claimTile t s).nrg = s.nrg ∧ (claimTile t s).gau = s.gau ∧ (claimTile t s).rek = s.rek ∧
      (claimTile t s).att = s.att ∧ (claimTile t s).ecc = s.ecc ∧ (claimTile t s).tws = s.tws ∧ (claimTile t s).twp = s.twp ∧
      (claimTile t s).svc = s.svc ∧ (claimTile t s).log = s.log ∧ (claimTile t s).pwr = s.pwr ∧ (claimTile t s).fpl = s.fpl ∧
      (claimTile t s).jtag = s.jtag ∧ (claimTile t s).fuses = s.fuses ∧ (claimTile t s).cal = s.cal ∧
      (claimTile t s).out = s.out ∧ (claimTile t s).free = s.free ∧ (claimTile t s).pending = s.pending := by
  have q1 := clearWatches_frame
  have q2 := putTile_frame
  simp [q1, q2, claimTile]

theorem endWait_frame (t : Nat) (s : State) :
    (endWait t s).almanac = s.almanac ∧ (endWait t s).dev = s.dev ∧ (endWait t s).stations = s.stations ∧
      (endWait t s).hst = s.hst ∧ (endWait t s).drc = s.drc ∧ (endWait t s).dram = s.dram ∧ (endWait t s).cht = s.cht ∧
      (endWait t s).sui = s.sui ∧ (endWait t s).stw = s.stw ∧ (endWait t s).cel = s.cel ∧ (endWait t s).nrg = s.nrg ∧
      (endWait t s).gau = s.gau ∧ (endWait t s).rek = s.rek ∧ (endWait t s).plk = s.plk ∧ (endWait t s).att = s.att ∧
      (endWait t s).ecc = s.ecc ∧ (endWait t s).tws = s.tws ∧ (endWait t s).twp = s.twp ∧ (endWait t s).svc = s.svc ∧
      (endWait t s).log = s.log ∧ (endWait t s).pwr = s.pwr ∧ (endWait t s).fpl = s.fpl ∧ (endWait t s).jtag = s.jtag ∧
      (endWait t s).fuses = s.fuses ∧ (endWait t s).cal = s.cal ∧ (endWait t s).out = s.out ∧ (endWait t s).free = s.free ∧
      (endWait t s).pending = s.pending := by
  simp [endWait]

theorem completeTile_frame (pass : Bool) (t : Nat) (s : State) :
    (completeTile pass t s).almanac = s.almanac ∧ (completeTile pass t s).dev = s.dev ∧
      (completeTile pass t s).stations = s.stations ∧ (completeTile pass t s).hst = s.hst ∧
      (completeTile pass t s).drc = s.drc ∧ (completeTile pass t s).dram = s.dram ∧ (completeTile pass t s).cel = s.cel ∧
      (completeTile pass t s).nrg = s.nrg ∧ (completeTile pass t s).gau = s.gau ∧ (completeTile pass t s).rek = s.rek ∧
      (completeTile pass t s).plk = s.plk ∧ (completeTile pass t s).att = s.att ∧ (completeTile pass t s).ecc = s.ecc ∧
      (completeTile pass t s).tws = s.tws ∧ (completeTile pass t s).twp = s.twp ∧ (completeTile pass t s).svc = s.svc ∧
      (completeTile pass t s).pwr = s.pwr ∧ (completeTile pass t s).fpl = s.fpl ∧ (completeTile pass t s).jtag = s.jtag ∧
      (completeTile pass t s).fuses = s.fuses ∧ (completeTile pass t s).cal = s.cal ∧ (completeTile pass t s).out = s.out ∧
      (completeTile pass t s).free = s.free ∧ (completeTile pass t s).pending = s.pending := by
  have q1 := endWait_frame
  have q2 := putTile_frame
  simp [q1, q2, completeTile]

@[simp] theorem completeTile_frame3 (pass : Bool) (t : Nat) (s : State) :
    (completeTile pass t s).log.aonPowered = s.log.aonPowered := by
  have q1 := endWait_frame
  have q2 := putTile_frame
  simp only [completeTile]; (repeat' split) <;> simp [q1, q2]

theorem dropCandidate_frame (t : Nat) (s : State) :
    (dropCandidate t s).almanac = s.almanac ∧ (dropCandidate t s).dev = s.dev ∧ (dropCandidate t s).stations = s.stations ∧
      (dropCandidate t s).hst = s.hst ∧ (dropCandidate t s).drc = s.drc ∧ (dropCandidate t s).dram = s.dram ∧
      (dropCandidate t s).cht = s.cht ∧ (dropCandidate t s).sui = s.sui ∧ (dropCandidate t s).sav = s.sav ∧
      (dropCandidate t s).cel = s.cel ∧ (dropCandidate t s).dmw = s.dmw ∧ (dropCandidate t s).nrg = s.nrg ∧
      (dropCandidate t s).gau = s.gau ∧ (dropCandidate t s).rek = s.rek ∧ (dropCandidate t s).plk = s.plk ∧
      (dropCandidate t s).att = s.att ∧ (dropCandidate t s).ecc = s.ecc ∧ (dropCandidate t s).tws = s.tws ∧
      (dropCandidate t s).twp = s.twp ∧ (dropCandidate t s).svc = s.svc ∧ (dropCandidate t s).log = s.log ∧
      (dropCandidate t s).pwr = s.pwr ∧ (dropCandidate t s).fpl = s.fpl ∧ (dropCandidate t s).jtag = s.jtag ∧
      (dropCandidate t s).fuses = s.fuses ∧ (dropCandidate t s).cal = s.cal ∧ (dropCandidate t s).out = s.out ∧
      (dropCandidate t s).free = s.free ∧ (dropCandidate t s).pending = s.pending := by
  simp [dropCandidate]

theorem railsOff_frame (s : State) :
    (railsOff s).almanac = s.almanac ∧ (railsOff s).dev = s.dev ∧ (railsOff s).stations = s.stations ∧
      (railsOff s).hst = s.hst ∧ (railsOff s).dram = s.dram ∧ (railsOff s).cht = s.cht ∧ (railsOff s).sui = s.sui ∧
      (railsOff s).stw = s.stw ∧ (railsOff s).cel = s.cel ∧ (railsOff s).dmw = s.dmw ∧ (railsOff s).nrg = s.nrg ∧
      (railsOff s).gau = s.gau ∧ (railsOff s).rek = s.rek ∧ (railsOff s).plk = s.plk ∧ (railsOff s).att = s.att ∧
      (railsOff s).ecc = s.ecc ∧ (railsOff s).tws = s.tws ∧ (railsOff s).twp = s.twp ∧ (railsOff s).svc = s.svc ∧
      (railsOff s).log = s.log ∧ (railsOff s).fpl = s.fpl ∧ (railsOff s).jtag = s.jtag ∧ (railsOff s).fuses = s.fuses ∧
      (railsOff s).cal = s.cal ∧ (railsOff s).out = s.out ∧ (railsOff s).free = s.free ∧ (railsOff s).pending = s.pending := by
  simp [railsOff]

theorem powerCycle_frame (s : State) :
    (powerCycle s).almanac = s.almanac ∧ (powerCycle s).dram = s.dram ∧ (powerCycle s).fuses = s.fuses ∧
      (powerCycle s).cal = s.cal ∧ (powerCycle s).out = s.out ∧ (powerCycle s).free = s.free ∧
      (powerCycle s).pending = s.pending ∧ (powerCycle s).dev.state = s.dev.state := by
  simp [powerCycle]

theorem enterBoot_frame (s : State) :
    (enterBoot s).almanac = s.almanac ∧ (enterBoot s).dram = s.dram ∧ (enterBoot s).fuses = s.fuses ∧
      (enterBoot s).cal = s.cal ∧ (enterBoot s).free = s.free ∧ (enterBoot s).pending = s.pending := by
  have q1 := logCore_frame
  have q2 := powerCycle_frame
  have q3 := transition_frame
  simp [q1, q2, q3, enterBoot]

theorem enterSaved_frame (cause : Nat) (s : State) :
    (enterSaved cause s).almanac = s.almanac ∧ (enterSaved cause s).dram = s.dram ∧ (enterSaved cause s).fuses = s.fuses ∧
      (enterSaved cause s).cal = s.cal ∧ (enterSaved cause s).free = s.free ∧ (enterSaved cause s).pending = s.pending := by
  have q1 := enterBoot_frame
  have q2 := railsOff_frame
  have q3 := transition_frame
  simp [q1, q2, q3, enterSaved]

theorem enterOff_frame (cause : Nat) (s : State) :
    (enterOff cause s).almanac = s.almanac ∧ (enterOff cause s).stations = s.stations ∧ (enterOff cause s).dram = s.dram ∧
      (enterOff cause s).cht = s.cht ∧ (enterOff cause s).sui = s.sui ∧ (enterOff cause s).stw = s.stw ∧
      (enterOff cause s).cel = s.cel ∧ (enterOff cause s).dmw = s.dmw ∧ (enterOff cause s).gau = s.gau ∧
      (enterOff cause s).rek = s.rek ∧ (enterOff cause s).plk = s.plk ∧ (enterOff cause s).att = s.att ∧
      (enterOff cause s).ecc = s.ecc ∧ (enterOff cause s).twp = s.twp ∧ (enterOff cause s).svc = s.svc ∧
      (enterOff cause s).fpl = s.fpl ∧ (enterOff cause s).jtag = s.jtag ∧ (enterOff cause s).fuses = s.fuses ∧
      (enterOff cause s).cal = s.cal ∧ (enterOff cause s).free = s.free ∧ (enterOff cause s).pending = s.pending ∧
      (enterOff cause s).hst.linkUp = s.hst.linkUp ∧ (enterOff cause s).hst.gateClosed = s.hst.gateClosed ∧
      (enterOff cause s).log.aonPowered = s.log.aonPowered := by
  have q1 := railsOff_frame
  have q2 := transition_frame
  simp [q1, q2, enterOff]

theorem markStep_frame (s : State) :
    (markStep s).almanac = s.almanac ∧ (markStep s).dev = s.dev ∧ (markStep s).stations = s.stations ∧
      (markStep s).hst = s.hst ∧ (markStep s).drc = s.drc ∧ (markStep s).dram = s.dram ∧ (markStep s).cht = s.cht ∧
      (markStep s).sui = s.sui ∧ (markStep s).stw = s.stw ∧ (markStep s).sav = s.sav ∧ (markStep s).cel = s.cel ∧
      (markStep s).dmw = s.dmw ∧ (markStep s).nrg = s.nrg ∧ (markStep s).rek = s.rek ∧ (markStep s).plk = s.plk ∧
      (markStep s).att = s.att ∧ (markStep s).ecc = s.ecc ∧ (markStep s).tws = s.tws ∧ (markStep s).twp = s.twp ∧
      (markStep s).svc = s.svc ∧ (markStep s).log = s.log ∧ (markStep s).pwr = s.pwr ∧ (markStep s).fpl = s.fpl ∧
      (markStep s).jtag = s.jtag ∧ (markStep s).fuses = s.fuses ∧ (markStep s).cal = s.cal ∧ (markStep s).out = s.out ∧
      (markStep s).free = s.free ∧ (markStep s).pending = s.pending := by
  simp [markStep]

theorem modBank_frame (b : Nat) (f : AtticBank → AtticBank) (s : State) :
    (modBank b f s).almanac = s.almanac ∧ (modBank b f s).dev = s.dev ∧ (modBank b f s).stations = s.stations ∧
      (modBank b f s).hst = s.hst ∧ (modBank b f s).drc = s.drc ∧ (modBank b f s).dram = s.dram ∧ (modBank b f s).cht = s.cht ∧
      (modBank b f s).sui = s.sui ∧ (modBank b f s).stw = s.stw ∧ (modBank b f s).sav = s.sav ∧ (modBank b f s).cel = s.cel ∧
      (modBank b f s).dmw = s.dmw ∧ (modBank b f s).nrg = s.nrg ∧ (modBank b f s).gau = s.gau ∧ (modBank b f s).rek = s.rek ∧
      (modBank b f s).plk = s.plk ∧ (modBank b f s).ecc = s.ecc ∧ (modBank b f s).tws = s.tws ∧ (modBank b f s).twp = s.twp ∧
      (modBank b f s).svc = s.svc ∧ (modBank b f s).log = s.log ∧ (modBank b f s).pwr = s.pwr ∧ (modBank b f s).fpl = s.fpl ∧
      (modBank b f s).jtag = s.jtag ∧ (modBank b f s).fuses = s.fuses ∧ (modBank b f s).cal = s.cal ∧
      (modBank b f s).out = s.out ∧ (modBank b f s).free = s.free ∧ (modBank b f s).pending = s.pending := by
  simp [modBank]

theorem tearWords_frame (b : Nat) (o : AtticOp) (s : State) :
    (tearWords b o s).almanac = s.almanac ∧ (tearWords b o s).dev = s.dev ∧ (tearWords b o s).stations = s.stations ∧
      (tearWords b o s).hst = s.hst ∧ (tearWords b o s).drc = s.drc ∧ (tearWords b o s).dram = s.dram ∧
      (tearWords b o s).cht = s.cht ∧ (tearWords b o s).sui = s.sui ∧ (tearWords b o s).stw = s.stw ∧
      (tearWords b o s).sav = s.sav ∧ (tearWords b o s).cel = s.cel ∧ (tearWords b o s).dmw = s.dmw ∧
      (tearWords b o s).nrg = s.nrg ∧ (tearWords b o s).gau = s.gau ∧ (tearWords b o s).rek = s.rek ∧
      (tearWords b o s).plk = s.plk ∧ (tearWords b o s).ecc = s.ecc ∧ (tearWords b o s).tws = s.tws ∧
      (tearWords b o s).twp = s.twp ∧ (tearWords b o s).svc = s.svc ∧ (tearWords b o s).log = s.log ∧
      (tearWords b o s).pwr = s.pwr ∧ (tearWords b o s).fpl = s.fpl ∧ (tearWords b o s).jtag = s.jtag ∧
      (tearWords b o s).fuses = s.fuses ∧ (tearWords b o s).cal = s.cal ∧ (tearWords b o s).out = s.out ∧
      (tearWords b o s).pending = s.pending := by
  have q1 := modBank_frame
  have q2 := takeFree_frame
  simp [q1, q2, tearWords]

theorem noteSuspended_frame (o : AtticOp) (s : State) :
    (noteSuspended o s).almanac = s.almanac ∧ (noteSuspended o s).dev = s.dev ∧ (noteSuspended o s).stations = s.stations ∧
      (noteSuspended o s).hst = s.hst ∧ (noteSuspended o s).drc = s.drc ∧ (noteSuspended o s).dram = s.dram ∧
      (noteSuspended o s).cht = s.cht ∧ (noteSuspended o s).sui = s.sui ∧ (noteSuspended o s).stw = s.stw ∧
      (noteSuspended o s).sav = s.sav ∧ (noteSuspended o s).cel = s.cel ∧ (noteSuspended o s).dmw = s.dmw ∧
      (noteSuspended o s).nrg = s.nrg ∧ (noteSuspended o s).gau = s.gau ∧ (noteSuspended o s).rek = s.rek ∧
      (noteSuspended o s).plk = s.plk ∧ (noteSuspended o s).ecc = s.ecc ∧ (noteSuspended o s).tws = s.tws ∧
      (noteSuspended o s).twp = s.twp ∧ (noteSuspended o s).svc = s.svc ∧ (noteSuspended o s).log = s.log ∧
      (noteSuspended o s).pwr = s.pwr ∧ (noteSuspended o s).fpl = s.fpl ∧ (noteSuspended o s).jtag = s.jtag ∧
      (noteSuspended o s).fuses = s.fuses ∧ (noteSuspended o s).cal = s.cal ∧ (noteSuspended o s).out = s.out ∧
      (noteSuspended o s).free = s.free ∧ (noteSuspended o s).pending = s.pending := by
  simp [noteSuspended]

theorem cutOp_frame (b : Nat) (code : AtticCode) (s : State) :
    (cutOp b code s).almanac = s.almanac ∧ (cutOp b code s).dev = s.dev ∧ (cutOp b code s).stations = s.stations ∧
      (cutOp b code s).hst = s.hst ∧ (cutOp b code s).drc = s.drc ∧ (cutOp b code s).dram = s.dram ∧
      (cutOp b code s).cht = s.cht ∧ (cutOp b code s).sui = s.sui ∧ (cutOp b code s).stw = s.stw ∧
      (cutOp b code s).sav = s.sav ∧ (cutOp b code s).cel = s.cel ∧ (cutOp b code s).dmw = s.dmw ∧
      (cutOp b code s).nrg = s.nrg ∧ (cutOp b code s).gau = s.gau ∧ (cutOp b code s).rek = s.rek ∧
      (cutOp b code s).plk = s.plk ∧ (cutOp b code s).ecc = s.ecc ∧ (cutOp b code s).tws = s.tws ∧
      (cutOp b code s).twp = s.twp ∧ (cutOp b code s).svc = s.svc ∧ (cutOp b code s).log = s.log ∧
      (cutOp b code s).pwr = s.pwr ∧ (cutOp b code s).fpl = s.fpl ∧ (cutOp b code s).jtag = s.jtag ∧
      (cutOp b code s).fuses = s.fuses ∧ (cutOp b code s).cal = s.cal ∧ (cutOp b code s).out = s.out ∧
      (cutOp b code s).pending = s.pending := by
  have q1 := modBank_frame
  have q2 := noteSuspended_frame
  have q3 := tearWords_frame
  unfold cutOp; (repeat' split) <;> simp_all

theorem cutProg_frame (b : Nat) (code : AtticCode) (s : State) :
    (cutProg b code s).almanac = s.almanac ∧ (cutProg b code s).dev = s.dev ∧ (cutProg b code s).stations = s.stations ∧
      (cutProg b code s).hst = s.hst ∧ (cutProg b code s).drc = s.drc ∧ (cutProg b code s).dram = s.dram ∧
      (cutProg b code s).cht = s.cht ∧ (cutProg b code s).sui = s.sui ∧ (cutProg b code s).stw = s.stw ∧
      (cutProg b code s).sav = s.sav ∧ (cutProg b code s).cel = s.cel ∧ (cutProg b code s).dmw = s.dmw ∧
      (cutProg b code s).nrg = s.nrg ∧ (cutProg b code s).gau = s.gau ∧ (cutProg b code s).rek = s.rek ∧
      (cutProg b code s).plk = s.plk ∧ (cutProg b code s).ecc = s.ecc ∧ (cutProg b code s).tws = s.tws ∧
      (cutProg b code s).twp = s.twp ∧ (cutProg b code s).svc = s.svc ∧ (cutProg b code s).log = s.log ∧
      (cutProg b code s).pwr = s.pwr ∧ (cutProg b code s).fpl = s.fpl ∧ (cutProg b code s).jtag = s.jtag ∧
      (cutProg b code s).fuses = s.fuses ∧ (cutProg b code s).cal = s.cal ∧ (cutProg b code s).out = s.out ∧
      (cutProg b code s).pending = s.pending := by
  have q1 := modBank_frame
  have q2 := tearWords_frame
  unfold cutProg; (repeat' split) <;> simp_all

theorem atticFence_frame (s : State) :
    (atticFence s).almanac = s.almanac ∧ (atticFence s).dev = s.dev ∧ (atticFence s).stations = s.stations ∧
      (atticFence s).hst = s.hst ∧ (atticFence s).drc = s.drc ∧ (atticFence s).dram = s.dram ∧ (atticFence s).cht = s.cht ∧
      (atticFence s).sui = s.sui ∧ (atticFence s).stw = s.stw ∧ (atticFence s).sav = s.sav ∧ (atticFence s).cel = s.cel ∧
      (atticFence s).dmw = s.dmw ∧ (atticFence s).nrg = s.nrg ∧ (atticFence s).gau = s.gau ∧ (atticFence s).rek = s.rek ∧
      (atticFence s).plk = s.plk ∧ (atticFence s).ecc = s.ecc ∧ (atticFence s).tws = s.tws ∧ (atticFence s).twp = s.twp ∧
      (atticFence s).svc = s.svc ∧ (atticFence s).log = s.log ∧ (atticFence s).pwr = s.pwr ∧ (atticFence s).fpl = s.fpl ∧
      (atticFence s).jtag = s.jtag ∧ (atticFence s).fuses = s.fuses ∧ (atticFence s).cal = s.cal ∧ (atticFence s).out = s.out ∧
      (atticFence s).pending = s.pending := by
  have q1 := cutOp_frame
  simp only [atticFence]; (repeat' split) <;> simp [q1]

theorem cutStaging_frame (s : State) :
    (cutStaging s).almanac = s.almanac ∧ (cutStaging s).dev = s.dev ∧ (cutStaging s).stations = s.stations ∧
      (cutStaging s).hst = s.hst ∧ (cutStaging s).drc = s.drc ∧ (cutStaging s).dram = s.dram ∧ (cutStaging s).cht = s.cht ∧
      (cutStaging s).sui = s.sui ∧ (cutStaging s).stw = s.stw ∧ (cutStaging s).sav = s.sav ∧ (cutStaging s).cel = s.cel ∧
      (cutStaging s).dmw = s.dmw ∧ (cutStaging s).nrg = s.nrg ∧ (cutStaging s).gau = s.gau ∧ (cutStaging s).rek = s.rek ∧
      (cutStaging s).plk = s.plk ∧ (cutStaging s).att = s.att ∧ (cutStaging s).ecc = s.ecc ∧ (cutStaging s).tws = s.tws ∧
      (cutStaging s).twp = s.twp ∧ (cutStaging s).pwr = s.pwr ∧ (cutStaging s).fpl = s.fpl ∧ (cutStaging s).jtag = s.jtag ∧
      (cutStaging s).fuses = s.fuses ∧ (cutStaging s).cal = s.cal ∧ (cutStaging s).out = s.out ∧ (cutStaging s).free = s.free ∧
      (cutStaging s).pending = s.pending := by
  have q1 := logCore_frame
  simp [q1, cutStaging]

@[simp] theorem cutStaging_frame2 (s : State) :
    (cutStaging s).log.aonPowered = s.log.aonPowered := by unfold cutStaging; (repeat' split) <;> simp_all

theorem modChan_frame (n : Nat) (f : Channel → Channel) (s : State) :
    (modChan n f s).almanac = s.almanac ∧ (modChan n f s).dev = s.dev ∧ (modChan n f s).stations = s.stations ∧
      (modChan n f s).hst = s.hst ∧ (modChan n f s).drc = s.drc ∧ (modChan n f s).dram = s.dram ∧ (modChan n f s).cht = s.cht ∧
      (modChan n f s).sui = s.sui ∧ (modChan n f s).stw = s.stw ∧ (modChan n f s).sav = s.sav ∧ (modChan n f s).cel = s.cel ∧
      (modChan n f s).nrg = s.nrg ∧ (modChan n f s).gau = s.gau ∧ (modChan n f s).rek = s.rek ∧ (modChan n f s).plk = s.plk ∧
      (modChan n f s).att = s.att ∧ (modChan n f s).ecc = s.ecc ∧ (modChan n f s).tws = s.tws ∧ (modChan n f s).twp = s.twp ∧
      (modChan n f s).svc = s.svc ∧ (modChan n f s).log = s.log ∧ (modChan n f s).pwr = s.pwr ∧ (modChan n f s).fpl = s.fpl ∧
      (modChan n f s).jtag = s.jtag ∧ (modChan n f s).fuses = s.fuses ∧ (modChan n f s).cal = s.cal ∧
      (modChan n f s).out = s.out ∧ (modChan n f s).free = s.free ∧ (modChan n f s).pending = s.pending := by
  simp [modChan]

theorem dmwComplete_frame (n status r0 r1 : Nat) (irq : Bool) (s : State) :
    (dmwComplete n status r0 r1 irq s).almanac = s.almanac ∧ (dmwComplete n status r0 r1 irq s).dev = s.dev ∧
      (dmwComplete n status r0 r1 irq s).stations = s.stations ∧ (dmwComplete n status r0 r1 irq s).drc = s.drc ∧
      (dmwComplete n status r0 r1 irq s).dram = s.dram ∧ (dmwComplete n status r0 r1 irq s).cht = s.cht ∧
      (dmwComplete n status r0 r1 irq s).sui = s.sui ∧ (dmwComplete n status r0 r1 irq s).stw = s.stw ∧
      (dmwComplete n status r0 r1 irq s).sav = s.sav ∧ (dmwComplete n status r0 r1 irq s).cel = s.cel ∧
      (dmwComplete n status r0 r1 irq s).nrg = s.nrg ∧ (dmwComplete n status r0 r1 irq s).gau = s.gau ∧
      (dmwComplete n status r0 r1 irq s).rek = s.rek ∧ (dmwComplete n status r0 r1 irq s).plk = s.plk ∧
      (dmwComplete n status r0 r1 irq s).att = s.att ∧ (dmwComplete n status r0 r1 irq s).ecc = s.ecc ∧
      (dmwComplete n status r0 r1 irq s).tws = s.tws ∧ (dmwComplete n status r0 r1 irq s).twp = s.twp ∧
      (dmwComplete n status r0 r1 irq s).svc = s.svc ∧ (dmwComplete n status r0 r1 irq s).log = s.log ∧
      (dmwComplete n status r0 r1 irq s).pwr = s.pwr ∧ (dmwComplete n status r0 r1 irq s).fpl = s.fpl ∧
      (dmwComplete n status r0 r1 irq s).jtag = s.jtag ∧ (dmwComplete n status r0 r1 irq s).fuses = s.fuses ∧
      (dmwComplete n status r0 r1 irq s).cal = s.cal ∧ (dmwComplete n status r0 r1 irq s).free = s.free ∧
      (dmwComplete n status r0 r1 irq s).pending = s.pending := by
  have q1 := modChan_frame
  have q2 := notify_frame
  simp [q1, q2, dmwComplete]

theorem dmwComplete_frame2 (n status r0 r1 : Nat) (irq : Bool) (s : State) :
    (dmwComplete n status r0 r1 irq s).hst.linkUp = s.hst.linkUp ∧
      (dmwComplete n status r0 r1 irq s).hst.gateClosed = s.hst.gateClosed := by
  have q1 := modChan_frame
  have q2 := notify_frame2
  unfold dmwComplete; (repeat' split) <;> simp_all

theorem dmwFinish_frame (n status : Nat) (r : DescRun) (s : State) :
    (dmwFinish n status r s).almanac = s.almanac ∧ (dmwFinish n status r s).dev = s.dev ∧
      (dmwFinish n status r s).stations = s.stations ∧ (dmwFinish n status r s).drc = s.drc ∧
      (dmwFinish n status r s).dram = s.dram ∧ (dmwFinish n status r s).cht = s.cht ∧ (dmwFinish n status r s).sui = s.sui ∧
      (dmwFinish n status r s).stw = s.stw ∧ (dmwFinish n status r s).sav = s.sav ∧ (dmwFinish n status r s).cel = s.cel ∧
      (dmwFinish n status r s).nrg = s.nrg ∧ (dmwFinish n status r s).gau = s.gau ∧ (dmwFinish n status r s).rek = s.rek ∧
      (dmwFinish n status r s).plk = s.plk ∧ (dmwFinish n status r s).att = s.att ∧ (dmwFinish n status r s).ecc = s.ecc ∧
      (dmwFinish n status r s).tws = s.tws ∧ (dmwFinish n status r s).twp = s.twp ∧ (dmwFinish n status r s).svc = s.svc ∧
      (dmwFinish n status r s).log = s.log ∧ (dmwFinish n status r s).pwr = s.pwr ∧ (dmwFinish n status r s).fpl = s.fpl ∧
      (dmwFinish n status r s).jtag = s.jtag ∧ (dmwFinish n status r s).fuses = s.fuses ∧
      (dmwFinish n status r s).cal = s.cal ∧ (dmwFinish n status r s).free = s.free ∧
      (dmwFinish n status r s).pending = s.pending ∧ (dmwFinish n status r s).hst.linkUp = s.hst.linkUp ∧
      (dmwFinish n status r s).hst.gateClosed = s.hst.gateClosed := by
  have q1 := dmwComplete_frame
  have q2 := dmwComplete_frame2
  simp [q1, q2, dmwFinish]

theorem dmwAbort_frame (n : Nat) (s : State) :
    (dmwAbort n s).almanac = s.almanac ∧ (dmwAbort n s).dev = s.dev ∧ (dmwAbort n s).stations = s.stations ∧
      (dmwAbort n s).drc = s.drc ∧ (dmwAbort n s).dram = s.dram ∧ (dmwAbort n s).cht = s.cht ∧ (dmwAbort n s).sui = s.sui ∧
      (dmwAbort n s).stw = s.stw ∧ (dmwAbort n s).sav = s.sav ∧ (dmwAbort n s).cel = s.cel ∧ (dmwAbort n s).nrg = s.nrg ∧
      (dmwAbort n s).gau = s.gau ∧ (dmwAbort n s).rek = s.rek ∧ (dmwAbort n s).plk = s.plk ∧ (dmwAbort n s).att = s.att ∧
      (dmwAbort n s).ecc = s.ecc ∧ (dmwAbort n s).tws = s.tws ∧ (dmwAbort n s).twp = s.twp ∧ (dmwAbort n s).svc = s.svc ∧
      (dmwAbort n s).log = s.log ∧ (dmwAbort n s).pwr = s.pwr ∧ (dmwAbort n s).fpl = s.fpl ∧ (dmwAbort n s).jtag = s.jtag ∧
      (dmwAbort n s).fuses = s.fuses ∧ (dmwAbort n s).cal = s.cal ∧ (dmwAbort n s).free = s.free ∧
      (dmwAbort n s).pending = s.pending ∧ (dmwAbort n s).hst.linkUp = s.hst.linkUp ∧
      (dmwAbort n s).hst.gateClosed = s.hst.gateClosed := by
  have q1 := dmwFinish_frame
  unfold dmwAbort; (repeat' split) <;> simp_all

theorem dmwReset_frame (n : Nat) (s : State) :
    (dmwReset n s).almanac = s.almanac ∧ (dmwReset n s).dev = s.dev ∧ (dmwReset n s).stations = s.stations ∧
      (dmwReset n s).drc = s.drc ∧ (dmwReset n s).dram = s.dram ∧ (dmwReset n s).cht = s.cht ∧ (dmwReset n s).sui = s.sui ∧
      (dmwReset n s).stw = s.stw ∧ (dmwReset n s).sav = s.sav ∧ (dmwReset n s).cel = s.cel ∧ (dmwReset n s).nrg = s.nrg ∧
      (dmwReset n s).gau = s.gau ∧ (dmwReset n s).rek = s.rek ∧ (dmwReset n s).plk = s.plk ∧ (dmwReset n s).att = s.att ∧
      (dmwReset n s).ecc = s.ecc ∧ (dmwReset n s).tws = s.tws ∧ (dmwReset n s).twp = s.twp ∧ (dmwReset n s).svc = s.svc ∧
      (dmwReset n s).log = s.log ∧ (dmwReset n s).pwr = s.pwr ∧ (dmwReset n s).fpl = s.fpl ∧ (dmwReset n s).jtag = s.jtag ∧
      (dmwReset n s).fuses = s.fuses ∧ (dmwReset n s).cal = s.cal ∧ (dmwReset n s).free = s.free ∧
      (dmwReset n s).pending = s.pending ∧ (dmwReset n s).hst.linkUp = s.hst.linkUp ∧
      (dmwReset n s).hst.gateClosed = s.hst.gateClosed := by
  have q1 := dmwAbort_frame
  have q2 := modChan_frame
  simp [q1, q2, dmwReset]

theorem dmwResetChan_frame (n : Nat) (s : State) :
    (dmwResetChan n s).almanac = s.almanac ∧ (dmwResetChan n s).dev = s.dev ∧ (dmwResetChan n s).stations = s.stations ∧
      (dmwResetChan n s).drc = s.drc ∧ (dmwResetChan n s).dram = s.dram ∧ (dmwResetChan n s).cht = s.cht ∧
      (dmwResetChan n s).sui = s.sui ∧ (dmwResetChan n s).sav = s.sav ∧ (dmwResetChan n s).cel = s.cel ∧
      (dmwResetChan n s).nrg = s.nrg ∧ (dmwResetChan n s).gau = s.gau ∧ (dmwResetChan n s).rek = s.rek ∧
      (dmwResetChan n s).plk = s.plk ∧ (dmwResetChan n s).att = s.att ∧ (dmwResetChan n s).ecc = s.ecc ∧
      (dmwResetChan n s).tws = s.tws ∧ (dmwResetChan n s).twp = s.twp ∧ (dmwResetChan n s).svc = s.svc ∧
      (dmwResetChan n s).log = s.log ∧ (dmwResetChan n s).pwr = s.pwr ∧ (dmwResetChan n s).fpl = s.fpl ∧
      (dmwResetChan n s).jtag = s.jtag ∧ (dmwResetChan n s).fuses = s.fuses ∧ (dmwResetChan n s).cal = s.cal ∧
      (dmwResetChan n s).free = s.free ∧ (dmwResetChan n s).pending = s.pending ∧
      (dmwResetChan n s).hst.linkUp = s.hst.linkUp ∧ (dmwResetChan n s).hst.gateClosed = s.hst.gateClosed := by
  have q1 := dmwAbort_frame
  have q2 := modChan_frame
  simp [q1, q2, dmwResetChan]

theorem sendFlit_frame (b : FwdBeat) (s : State) :
    (sendFlit b s).almanac = s.almanac ∧ (sendFlit b s).dev = s.dev ∧ (sendFlit b s).stations = s.stations ∧
      (sendFlit b s).hst = s.hst ∧ (sendFlit b s).drc = s.drc ∧ (sendFlit b s).dram = s.dram ∧ (sendFlit b s).cht = s.cht ∧
      (sendFlit b s).sui = s.sui ∧ (sendFlit b s).stw = s.stw ∧ (sendFlit b s).sav = s.sav ∧ (sendFlit b s).cel = s.cel ∧
      (sendFlit b s).dmw = s.dmw ∧ (sendFlit b s).nrg = s.nrg ∧ (sendFlit b s).gau = s.gau ∧ (sendFlit b s).rek = s.rek ∧
      (sendFlit b s).att = s.att ∧ (sendFlit b s).ecc = s.ecc ∧ (sendFlit b s).tws = s.tws ∧ (sendFlit b s).twp = s.twp ∧
      (sendFlit b s).svc = s.svc ∧ (sendFlit b s).log = s.log ∧ (sendFlit b s).pwr = s.pwr ∧ (sendFlit b s).fpl = s.fpl ∧
      (sendFlit b s).jtag = s.jtag ∧ (sendFlit b s).fuses = s.fuses ∧ (sendFlit b s).cal = s.cal ∧
      (sendFlit b s).free = s.free ∧ (sendFlit b s).pending = s.pending := by
  simp [sendFlit]

theorem recordDirty_frame (case_ : Nat) (s : State) :
    (recordDirty case_ s).almanac = s.almanac ∧ (recordDirty case_ s).dev = s.dev ∧
      (recordDirty case_ s).stations = s.stations ∧ (recordDirty case_ s).drc = s.drc ∧ (recordDirty case_ s).dram = s.dram ∧
      (recordDirty case_ s).cht = s.cht ∧ (recordDirty case_ s).sui = s.sui ∧ (recordDirty case_ s).stw = s.stw ∧
      (recordDirty case_ s).sav = s.sav ∧ (recordDirty case_ s).cel = s.cel ∧ (recordDirty case_ s).dmw = s.dmw ∧
      (recordDirty case_ s).nrg = s.nrg ∧ (recordDirty case_ s).gau = s.gau ∧ (recordDirty case_ s).rek = s.rek ∧
      (recordDirty case_ s).plk = s.plk ∧ (recordDirty case_ s).att = s.att ∧ (recordDirty case_ s).ecc = s.ecc ∧
      (recordDirty case_ s).tws = s.tws ∧ (recordDirty case_ s).twp = s.twp ∧ (recordDirty case_ s).svc = s.svc ∧
      (recordDirty case_ s).pwr = s.pwr ∧ (recordDirty case_ s).fpl = s.fpl ∧ (recordDirty case_ s).jtag = s.jtag ∧
      (recordDirty case_ s).fuses = s.fuses ∧ (recordDirty case_ s).cal = s.cal ∧ (recordDirty case_ s).free = s.free ∧
      (recordDirty case_ s).pending = s.pending := by
  have q1 := event_frame
  simp [q1, recordDirty]

theorem recordDirty_frame2 (case_ : Nat) (s : State) :
    (recordDirty case_ s).hst.linkUp = s.hst.linkUp ∧ (recordDirty case_ s).hst.gateClosed = s.hst.gateClosed ∧
      (recordDirty case_ s).log.aonPowered = s.log.aonPowered := by
  have q1 := event_frame
  unfold recordDirty; (repeat' split) <;> simp_all

theorem fenceDirty_frame (s : State) :
    (fenceDirty s).almanac = s.almanac ∧ (fenceDirty s).dev = s.dev ∧ (fenceDirty s).stations = s.stations ∧
      (fenceDirty s).drc = s.drc ∧ (fenceDirty s).dram = s.dram ∧ (fenceDirty s).cht = s.cht ∧ (fenceDirty s).sui = s.sui ∧
      (fenceDirty s).stw = s.stw ∧ (fenceDirty s).sav = s.sav ∧ (fenceDirty s).cel = s.cel ∧ (fenceDirty s).dmw = s.dmw ∧
      (fenceDirty s).nrg = s.nrg ∧ (fenceDirty s).gau = s.gau ∧ (fenceDirty s).rek = s.rek ∧ (fenceDirty s).plk = s.plk ∧
      (fenceDirty s).att = s.att ∧ (fenceDirty s).ecc = s.ecc ∧ (fenceDirty s).tws = s.tws ∧ (fenceDirty s).twp = s.twp ∧
      (fenceDirty s).svc = s.svc ∧ (fenceDirty s).pwr = s.pwr ∧ (fenceDirty s).fpl = s.fpl ∧ (fenceDirty s).jtag = s.jtag ∧
      (fenceDirty s).fuses = s.fuses ∧ (fenceDirty s).cal = s.cal ∧ (fenceDirty s).free = s.free ∧
      (fenceDirty s).pending = s.pending := by
  have q1 := recordDirty_frame
  simp [q1, fenceDirty]

theorem fenceDirty_frame3 (s : State) :
    (fenceDirty s).hst.linkUp = s.hst.linkUp ∧ (fenceDirty s).hst.gateClosed = s.hst.gateClosed ∧
      (fenceDirty s).log.aonPowered = s.log.aonPowered := by
  have q1 := recordDirty_frame2
  simp only [fenceDirty]; (repeat' split) <;> simp [q1]

theorem plkFence_frame (s : State) :
    (plkFence s).almanac = s.almanac ∧ (plkFence s).dev = s.dev ∧ (plkFence s).stations = s.stations ∧
      (plkFence s).drc = s.drc ∧ (plkFence s).dram = s.dram ∧ (plkFence s).cht = s.cht ∧ (plkFence s).sui = s.sui ∧
      (plkFence s).stw = s.stw ∧ (plkFence s).sav = s.sav ∧ (plkFence s).cel = s.cel ∧ (plkFence s).dmw = s.dmw ∧
      (plkFence s).nrg = s.nrg ∧ (plkFence s).gau = s.gau ∧ (plkFence s).rek = s.rek ∧ (plkFence s).att = s.att ∧
      (plkFence s).ecc = s.ecc ∧ (plkFence s).tws = s.tws ∧ (plkFence s).twp = s.twp ∧ (plkFence s).svc = s.svc ∧
      (plkFence s).pwr = s.pwr ∧ (plkFence s).fpl = s.fpl ∧ (plkFence s).jtag = s.jtag ∧ (plkFence s).fuses = s.fuses ∧
      (plkFence s).cal = s.cal ∧ (plkFence s).free = s.free ∧ (plkFence s).pending = s.pending := by
  have q1 := event_frame
  have q2 := notify_frame
  have q3 := sendFlit_frame
  simp [q1, q2, q3, plkFence]

theorem giveAbandon_frame (s : State) :
    (giveAbandon s).almanac = s.almanac ∧ (giveAbandon s).dev = s.dev ∧ (giveAbandon s).stations = s.stations ∧
      (giveAbandon s).hst = s.hst ∧ (giveAbandon s).drc = s.drc ∧ (giveAbandon s).dram = s.dram ∧ (giveAbandon s).cht = s.cht ∧
      (giveAbandon s).sui = s.sui ∧ (giveAbandon s).stw = s.stw ∧ (giveAbandon s).sav = s.sav ∧ (giveAbandon s).cel = s.cel ∧
      (giveAbandon s).dmw = s.dmw ∧ (giveAbandon s).nrg = s.nrg ∧ (giveAbandon s).gau = s.gau ∧ (giveAbandon s).rek = s.rek ∧
      (giveAbandon s).att = s.att ∧ (giveAbandon s).ecc = s.ecc ∧ (giveAbandon s).tws = s.tws ∧ (giveAbandon s).twp = s.twp ∧
      (giveAbandon s).svc = s.svc ∧ (giveAbandon s).log = s.log ∧ (giveAbandon s).pwr = s.pwr ∧ (giveAbandon s).fpl = s.fpl ∧
      (giveAbandon s).jtag = s.jtag ∧ (giveAbandon s).fuses = s.fuses ∧ (giveAbandon s).cal = s.cal ∧
      (giveAbandon s).out = s.out ∧ (giveAbandon s).free = s.free ∧ (giveAbandon s).pending = s.pending := by
  simp [giveAbandon]

theorem stopPrecaution_frame (s : State) :
    (stopPrecaution s).almanac = s.almanac ∧ (stopPrecaution s).stations = s.stations ∧ (stopPrecaution s).hst = s.hst ∧
      (stopPrecaution s).drc = s.drc ∧ (stopPrecaution s).dram = s.dram ∧ (stopPrecaution s).cht = s.cht ∧
      (stopPrecaution s).sui = s.sui ∧ (stopPrecaution s).stw = s.stw ∧ (stopPrecaution s).cel = s.cel ∧
      (stopPrecaution s).dmw = s.dmw ∧ (stopPrecaution s).nrg = s.nrg ∧ (stopPrecaution s).gau = s.gau ∧
      (stopPrecaution s).rek = s.rek ∧ (stopPrecaution s).plk = s.plk ∧ (stopPrecaution s).att = s.att ∧
      (stopPrecaution s).ecc = s.ecc ∧ (stopPrecaution s).tws = s.tws ∧ (stopPrecaution s).twp = s.twp ∧
      (stopPrecaution s).svc = s.svc ∧ (stopPrecaution s).log = s.log ∧ (stopPrecaution s).pwr = s.pwr ∧
      (stopPrecaution s).fpl = s.fpl ∧ (stopPrecaution s).jtag = s.jtag ∧ (stopPrecaution s).fuses = s.fuses ∧
      (stopPrecaution s).cal = s.cal ∧ (stopPrecaution s).out = s.out ∧ (stopPrecaution s).free = s.free ∧
      (stopPrecaution s).pending = s.pending := by
  simp [stopPrecaution]

@[simp] theorem stopPrecaution_frame2 (s : State) :
    (stopPrecaution s).dev.state = s.dev.state := by unfold stopPrecaution; (repeat' split) <;> simp_all

theorem gauFence_frame (cause : Nat) (s : State) :
    (gauFence cause s).almanac = s.almanac ∧ (gauFence cause s).dev = s.dev ∧ (gauFence cause s).stations = s.stations ∧
      (gauFence cause s).hst = s.hst ∧ (gauFence cause s).drc = s.drc ∧ (gauFence cause s).dram = s.dram ∧
      (gauFence cause s).cht = s.cht ∧ (gauFence cause s).sui = s.sui ∧ (gauFence cause s).stw = s.stw ∧
      (gauFence cause s).sav = s.sav ∧ (gauFence cause s).cel = s.cel ∧ (gauFence cause s).dmw = s.dmw ∧
      (gauFence cause s).nrg = s.nrg ∧ (gauFence cause s).rek = s.rek ∧ (gauFence cause s).plk = s.plk ∧
      (gauFence cause s).att = s.att ∧ (gauFence cause s).ecc = s.ecc ∧ (gauFence cause s).tws = s.tws ∧
      (gauFence cause s).twp = s.twp ∧ (gauFence cause s).svc = s.svc ∧ (gauFence cause s).pwr = s.pwr ∧
      (gauFence cause s).fpl = s.fpl ∧ (gauFence cause s).jtag = s.jtag ∧ (gauFence cause s).fuses = s.fuses ∧
      (gauFence cause s).cal = s.cal ∧ (gauFence cause s).out = s.out ∧ (gauFence cause s).free = s.free ∧
      (gauFence cause s).pending = s.pending := by
  have q1 := markStep_frame
  simp [q1, gauFence]

@[simp] theorem gauFence_frame3 (cause : Nat) (s : State) :
    (gauFence cause s).log.aonPowered = s.log.aonPowered := by
  have q1 := markStep_frame
  simp only [gauFence]; (repeat' split) <;> simp [q1]

theorem closeFence_frame (cause : Nat) (s : State) :
    (closeFence cause s).almanac = s.almanac ∧ (closeFence cause s).stations = s.stations ∧ (closeFence cause s).drc = s.drc ∧
      (closeFence cause s).dram = s.dram ∧ (closeFence cause s).cht = s.cht ∧ (closeFence cause s).sui = s.sui ∧
      (closeFence cause s).ecc = s.ecc ∧ (closeFence cause s).pwr = s.pwr ∧ (closeFence cause s).fpl = s.fpl ∧
      (closeFence cause s).jtag = s.jtag ∧ (closeFence cause s).fuses = s.fuses ∧ (closeFence cause s).cal = s.cal ∧
      (closeFence cause s).pending = s.pending := by
  have q1 := atticFence_frame
  have q2 := cutStaging_frame
  have q3 := fenceDirty_frame
  have q4 := gauFence_frame
  have q5 := plkFence_frame
  have q6 := stopPrecaution_frame
  have q7 := transition_frame
  simp [q1, q2, q3, q4, q5, q6, q7, closeFence]

theorem fenceTrigger_frame (cause : Nat) (s : State) :
    (fenceTrigger cause s).almanac = s.almanac ∧ (fenceTrigger cause s).dram = s.dram ∧
      (fenceTrigger cause s).fuses = s.fuses ∧ (fenceTrigger cause s).cal = s.cal ∧
      (fenceTrigger cause s).pending = s.pending := by
  have q1 := closeFence_frame
  have q2 := enterOff_frame
  have q3 := enterSaved_frame
  unfold fenceTrigger; (repeat' split) <;> simp_all

theorem levelMuster_frame (s : State) :
    (levelMuster s).almanac = s.almanac ∧ (levelMuster s).stations = s.stations ∧ (levelMuster s).drc = s.drc ∧
      (levelMuster s).dram = s.dram ∧ (levelMuster s).cht = s.cht ∧ (levelMuster s).sui = s.sui ∧ (levelMuster s).ecc = s.ecc ∧
      (levelMuster s).pwr = s.pwr ∧ (levelMuster s).fpl = s.fpl ∧ (levelMuster s).jtag = s.jtag ∧
      (levelMuster s).fuses = s.fuses ∧ (levelMuster s).cal = s.cal ∧ (levelMuster s).pending = s.pending := by
  have q1 := closeFence_frame
  unfold levelMuster; (repeat' split) <;> simp_all

theorem putHalf_frame (h : Half) (f : HalfData → HalfData) (s : State) :
    (putHalf h f s).almanac = s.almanac ∧ (putHalf h f s).dev = s.dev ∧ (putHalf h f s).stations = s.stations ∧
      (putHalf h f s).hst = s.hst ∧ (putHalf h f s).drc = s.drc ∧ (putHalf h f s).dram = s.dram ∧ (putHalf h f s).cht = s.cht ∧
      (putHalf h f s).sui = s.sui ∧ (putHalf h f s).stw = s.stw ∧ (putHalf h f s).cel = s.cel ∧ (putHalf h f s).dmw = s.dmw ∧
      (putHalf h f s).nrg = s.nrg ∧ (putHalf h f s).gau = s.gau ∧ (putHalf h f s).rek = s.rek ∧ (putHalf h f s).plk = s.plk ∧
      (putHalf h f s).att = s.att ∧ (putHalf h f s).ecc = s.ecc ∧ (putHalf h f s).tws = s.tws ∧ (putHalf h f s).twp = s.twp ∧
      (putHalf h f s).svc = s.svc ∧ (putHalf h f s).log = s.log ∧ (putHalf h f s).pwr = s.pwr ∧ (putHalf h f s).fpl = s.fpl ∧
      (putHalf h f s).jtag = s.jtag ∧ (putHalf h f s).fuses = s.fuses ∧ (putHalf h f s).cal = s.cal ∧
      (putHalf h f s).out = s.out ∧ (putHalf h f s).free = s.free ∧ (putHalf h f s).pending = s.pending := by
  unfold putHalf; (repeat' split) <;> simp_all

theorem noteReadyAny_frame (before s : State) :
    (noteReadyAny before s).almanac = s.almanac ∧ (noteReadyAny before s).dev = s.dev ∧
      (noteReadyAny before s).stations = s.stations ∧ (noteReadyAny before s).hst = s.hst ∧
      (noteReadyAny before s).drc = s.drc ∧ (noteReadyAny before s).dram = s.dram ∧ (noteReadyAny before s).cht = s.cht ∧
      (noteReadyAny before s).sui = s.sui ∧ (noteReadyAny before s).stw = s.stw ∧ (noteReadyAny before s).sav = s.sav ∧
      (noteReadyAny before s).cel = s.cel ∧ (noteReadyAny before s).dmw = s.dmw ∧ (noteReadyAny before s).nrg = s.nrg ∧
      (noteReadyAny before s).gau = s.gau ∧ (noteReadyAny before s).plk = s.plk ∧ (noteReadyAny before s).att = s.att ∧
      (noteReadyAny before s).ecc = s.ecc ∧ (noteReadyAny before s).tws = s.tws ∧ (noteReadyAny before s).twp = s.twp ∧
      (noteReadyAny before s).svc = s.svc ∧ (noteReadyAny before s).log = s.log ∧ (noteReadyAny before s).pwr = s.pwr ∧
      (noteReadyAny before s).fpl = s.fpl ∧ (noteReadyAny before s).jtag = s.jtag ∧ (noteReadyAny before s).fuses = s.fuses ∧
      (noteReadyAny before s).cal = s.cal ∧ (noteReadyAny before s).out = s.out ∧ (noteReadyAny before s).free = s.free ∧
      (noteReadyAny before s).pending = s.pending := by
  simp [noteReadyAny]

theorem modHalf_frame (h : Half) (f : HalfData → HalfData) (s : State) :
    (modHalf h f s).almanac = s.almanac ∧ (modHalf h f s).dev = s.dev ∧ (modHalf h f s).stations = s.stations ∧
      (modHalf h f s).hst = s.hst ∧ (modHalf h f s).drc = s.drc ∧ (modHalf h f s).dram = s.dram ∧ (modHalf h f s).cht = s.cht ∧
      (modHalf h f s).sui = s.sui ∧ (modHalf h f s).stw = s.stw ∧ (modHalf h f s).cel = s.cel ∧ (modHalf h f s).dmw = s.dmw ∧
      (modHalf h f s).nrg = s.nrg ∧ (modHalf h f s).gau = s.gau ∧ (modHalf h f s).plk = s.plk ∧ (modHalf h f s).att = s.att ∧
      (modHalf h f s).ecc = s.ecc ∧ (modHalf h f s).tws = s.tws ∧ (modHalf h f s).twp = s.twp ∧ (modHalf h f s).svc = s.svc ∧
      (modHalf h f s).log = s.log ∧ (modHalf h f s).pwr = s.pwr ∧ (modHalf h f s).fpl = s.fpl ∧ (modHalf h f s).jtag = s.jtag ∧
      (modHalf h f s).fuses = s.fuses ∧ (modHalf h f s).cal = s.cal ∧ (modHalf h f s).out = s.out ∧
      (modHalf h f s).free = s.free ∧ (modHalf h f s).pending = s.pending := by
  have q1 := noteReadyAny_frame
  have q2 := putHalf_frame
  simp [q1, q2, modHalf]

theorem startErase_frame (h : Half) (s : State) :
    (startErase h s).almanac = s.almanac ∧ (startErase h s).dev = s.dev ∧ (startErase h s).stations = s.stations ∧
      (startErase h s).hst = s.hst ∧ (startErase h s).drc = s.drc ∧ (startErase h s).dram = s.dram ∧
      (startErase h s).cht = s.cht ∧ (startErase h s).sui = s.sui ∧ (startErase h s).stw = s.stw ∧
      (startErase h s).cel = s.cel ∧ (startErase h s).dmw = s.dmw ∧ (startErase h s).nrg = s.nrg ∧
      (startErase h s).gau = s.gau ∧ (startErase h s).plk = s.plk ∧ (startErase h s).att = s.att ∧
      (startErase h s).ecc = s.ecc ∧ (startErase h s).tws = s.tws ∧ (startErase h s).twp = s.twp ∧
      (startErase h s).svc = s.svc ∧ (startErase h s).log = s.log ∧ (startErase h s).pwr = s.pwr ∧
      (startErase h s).fpl = s.fpl ∧ (startErase h s).jtag = s.jtag ∧ (startErase h s).fuses = s.fuses ∧
      (startErase h s).cal = s.cal ∧ (startErase h s).out = s.out ∧ (startErase h s).free = s.free ∧
      (startErase h s).pending = s.pending := by
  have q1 := modHalf_frame
  simp [q1, startErase]

theorem enterHarbour_frame (cause : Nat) (s : State) :
    (enterHarbour cause s).almanac = s.almanac ∧ (enterHarbour cause s).stations = s.stations ∧
      (enterHarbour cause s).drc = s.drc ∧ (enterHarbour cause s).dram = s.dram ∧ (enterHarbour cause s).cht = s.cht ∧
      (enterHarbour cause s).sui = s.sui ∧ (enterHarbour cause s).stw = s.stw ∧ (enterHarbour cause s).cel = s.cel ∧
      (enterHarbour cause s).dmw = s.dmw ∧ (enterHarbour cause s).nrg = s.nrg ∧ (enterHarbour cause s).plk = s.plk ∧
      (enterHarbour cause s).att = s.att ∧ (enterHarbour cause s).ecc = s.ecc ∧ (enterHarbour cause s).twp = s.twp ∧
      (enterHarbour cause s).svc = s.svc ∧ (enterHarbour cause s).pwr = s.pwr ∧ (enterHarbour cause s).fpl = s.fpl ∧
      (enterHarbour cause s).jtag = s.jtag ∧ (enterHarbour cause s).fuses = s.fuses ∧ (enterHarbour cause s).cal = s.cal ∧
      (enterHarbour cause s).free = s.free ∧ (enterHarbour cause s).pending = s.pending ∧
      (enterHarbour cause s).hst.linkUp = s.hst.linkUp ∧ (enterHarbour cause s).hst.gateClosed = s.hst.gateClosed ∧
      (enterHarbour cause s).log.aonPowered = s.log.aonPowered := by
  have q1 := event_frame
  have q2 := notify_frame
  have q3 := notify_frame2
  have q4 := startErase_frame
  have q5 := transition_frame
  simp [q1, q2, q3, q4, q5, enterHarbour]

theorem takeHeld_frame (s : State) :
    (takeHeld s).almanac = s.almanac ∧ (takeHeld s).stations = s.stations ∧ (takeHeld s).drc = s.drc ∧
      (takeHeld s).dram = s.dram ∧ (takeHeld s).cht = s.cht ∧ (takeHeld s).sui = s.sui ∧ (takeHeld s).ecc = s.ecc ∧
      (takeHeld s).pwr = s.pwr ∧ (takeHeld s).fpl = s.fpl ∧ (takeHeld s).jtag = s.jtag ∧ (takeHeld s).fuses = s.fuses ∧
      (takeHeld s).cal = s.cal ∧ (takeHeld s).pending = s.pending := by
  have q1 := closeFence_frame
  have q2 := enterHarbour_frame
  have q3 := giveAbandon_frame
  simp [q1, q2, q3, takeHeld]

theorem enterService_frame (cause : Nat) (s : State) :
    (enterService cause s).almanac = s.almanac ∧ (enterService cause s).stations = s.stations ∧
      (enterService cause s).drc = s.drc ∧ (enterService cause s).dram = s.dram ∧ (enterService cause s).cht = s.cht ∧
      (enterService cause s).ecc = s.ecc ∧ (enterService cause s).pwr = s.pwr ∧ (enterService cause s).fpl = s.fpl ∧
      (enterService cause s).jtag = s.jtag ∧ (enterService cause s).fuses = s.fuses ∧ (enterService cause s).cal = s.cal ∧
      (enterService cause s).pending = s.pending := by
  have q1 := reeval_frame
  have q2 := takeHeld_frame
  have q3 := transition_frame
  simp [q1, q2, q3, enterService]

theorem modSubch_frame (sc : Nat) (f : Subch → Subch) (s : State) :
    (modSubch sc f s).almanac = s.almanac ∧ (modSubch sc f s).dev = s.dev ∧ (modSubch sc f s).stations = s.stations ∧
      (modSubch sc f s).hst = s.hst ∧ (modSubch sc f s).dram = s.dram ∧ (modSubch sc f s).cht = s.cht ∧
      (modSubch sc f s).sui = s.sui ∧ (modSubch sc f s).stw = s.stw ∧ (modSubch sc f s).sav = s.sav ∧
      (modSubch sc f s).cel = s.cel ∧ (modSubch sc f s).dmw = s.dmw ∧ (modSubch sc f s).nrg = s.nrg ∧
      (modSubch sc f s).gau = s.gau ∧ (modSubch sc f s).rek = s.rek ∧ (modSubch sc f s).plk = s.plk ∧
      (modSubch sc f s).att = s.att ∧ (modSubch sc f s).ecc = s.ecc ∧ (modSubch sc f s).tws = s.tws ∧
      (modSubch sc f s).twp = s.twp ∧ (modSubch sc f s).svc = s.svc ∧ (modSubch sc f s).log = s.log ∧
      (modSubch sc f s).pwr = s.pwr ∧ (modSubch sc f s).fpl = s.fpl ∧ (modSubch sc f s).jtag = s.jtag ∧
      (modSubch sc f s).fuses = s.fuses ∧ (modSubch sc f s).cal = s.cal ∧ (modSubch sc f s).out = s.out ∧
      (modSubch sc f s).free = s.free ∧ (modSubch sc f s).pending = s.pending := by
  simp [modSubch]

theorem drainSubch_frame (sc : Nat) (s : State) :
    (drainSubch sc s).almanac = s.almanac ∧ (drainSubch sc s).dev = s.dev ∧ (drainSubch sc s).stations = s.stations ∧
      (drainSubch sc s).hst = s.hst ∧ (drainSubch sc s).cht = s.cht ∧ (drainSubch sc s).sui = s.sui ∧
      (drainSubch sc s).stw = s.stw ∧ (drainSubch sc s).sav = s.sav ∧ (drainSubch sc s).cel = s.cel ∧
      (drainSubch sc s).dmw = s.dmw ∧ (drainSubch sc s).nrg = s.nrg ∧ (drainSubch sc s).gau = s.gau ∧
      (drainSubch sc s).rek = s.rek ∧ (drainSubch sc s).plk = s.plk ∧ (drainSubch sc s).att = s.att ∧
      (drainSubch sc s).ecc = s.ecc ∧ (drainSubch sc s).tws = s.tws ∧ (drainSubch sc s).twp = s.twp ∧
      (drainSubch sc s).svc = s.svc ∧ (drainSubch sc s).log = s.log ∧ (drainSubch sc s).pwr = s.pwr ∧
      (drainSubch sc s).fpl = s.fpl ∧ (drainSubch sc s).jtag = s.jtag ∧ (drainSubch sc s).fuses = s.fuses ∧
      (drainSubch sc s).cal = s.cal ∧ (drainSubch sc s).out = s.out ∧ (drainSubch sc s).free = s.free ∧
      (drainSubch sc s).pending = s.pending := by
  have q1 := modSubch_frame
  simp [q1, drainSubch]

theorem drainAll_frame (s : State) :
    (drainAll s).almanac = s.almanac ∧ (drainAll s).stations = s.stations ∧ (drainAll s).sav = s.sav ∧
      (drainAll s).nrg = s.nrg ∧ (drainAll s).gau = s.gau ∧ (drainAll s).rek = s.rek ∧ (drainAll s).att = s.att ∧
      (drainAll s).ecc = s.ecc ∧ (drainAll s).twp = s.twp ∧ (drainAll s).svc = s.svc ∧ (drainAll s).pwr = s.pwr ∧
      (drainAll s).fpl = s.fpl ∧ (drainAll s).jtag = s.jtag ∧ (drainAll s).fuses = s.fuses ∧ (drainAll s).cal = s.cal ∧
      (drainAll s).free = s.free ∧ (drainAll s).pending = s.pending := by
  have q1 := drainSubch_frame
  have q2 := reeval_frame
  have q3 := writeEventCore_frame
  simp [q1, q2, q3, drainAll]

theorem drainAll_frame3 (s : State) :
    (drainAll s).dev.state = s.dev.state ∧ (drainAll s).hst.linkUp = s.hst.linkUp ∧
      (drainAll s).hst.gateClosed = s.hst.gateClosed ∧ (drainAll s).log.aonPowered = s.log.aonPowered := by
  have q1 := drainSubch_frame
  have q2 := reeval_frame3
  have q3 := writeEventCore_frame
  simp only [drainAll]; (repeat' split) <;> simp [q1, q2, q3]

theorem modStation_frame (b : Block) (f : Station → Station) (s : State) :
    (modStation b f s).almanac = s.almanac ∧ (modStation b f s).dev = s.dev ∧ (modStation b f s).hst = s.hst ∧
      (modStation b f s).drc = s.drc ∧ (modStation b f s).dram = s.dram ∧ (modStation b f s).cht = s.cht ∧
      (modStation b f s).sui = s.sui ∧ (modStation b f s).stw = s.stw ∧ (modStation b f s).sav = s.sav ∧
      (modStation b f s).cel = s.cel ∧ (modStation b f s).dmw = s.dmw ∧ (modStation b f s).nrg = s.nrg ∧
      (modStation b f s).gau = s.gau ∧ (modStation b f s).rek = s.rek ∧ (modStation b f s).plk = s.plk ∧
      (modStation b f s).att = s.att ∧ (modStation b f s).ecc = s.ecc ∧ (modStation b f s).tws = s.tws ∧
      (modStation b f s).twp = s.twp ∧ (modStation b f s).svc = s.svc ∧ (modStation b f s).log = s.log ∧
      (modStation b f s).pwr = s.pwr ∧ (modStation b f s).fpl = s.fpl ∧ (modStation b f s).jtag = s.jtag ∧
      (modStation b f s).fuses = s.fuses ∧ (modStation b f s).cal = s.cal ∧ (modStation b f s).out = s.out ∧
      (modStation b f s).free = s.free ∧ (modStation b f s).pending = s.pending := by
  simp [modStation]

theorem linkReset_frame (s : State) :
    (linkReset s).almanac = s.almanac ∧ (linkReset s).dev = s.dev ∧ (linkReset s).stations = s.stations ∧
      (linkReset s).drc = s.drc ∧ (linkReset s).dram = s.dram ∧ (linkReset s).cht = s.cht ∧ (linkReset s).sui = s.sui ∧
      (linkReset s).sav = s.sav ∧ (linkReset s).cel = s.cel ∧ (linkReset s).dmw = s.dmw ∧ (linkReset s).nrg = s.nrg ∧
      (linkReset s).gau = s.gau ∧ (linkReset s).rek = s.rek ∧ (linkReset s).plk = s.plk ∧ (linkReset s).att = s.att ∧
      (linkReset s).ecc = s.ecc ∧ (linkReset s).tws = s.tws ∧ (linkReset s).twp = s.twp ∧ (linkReset s).svc = s.svc ∧
      (linkReset s).log = s.log ∧ (linkReset s).pwr = s.pwr ∧ (linkReset s).fpl = s.fpl ∧ (linkReset s).jtag = s.jtag ∧
      (linkReset s).fuses = s.fuses ∧ (linkReset s).cal = s.cal ∧ (linkReset s).out = s.out ∧ (linkReset s).free = s.free ∧
      (linkReset s).pending = s.pending := by
  simp [linkReset]

theorem celResetCopies_frame (s : State) :
    (celResetCopies s).almanac = s.almanac ∧ (celResetCopies s).dev = s.dev ∧ (celResetCopies s).hst = s.hst ∧
      (celResetCopies s).drc = s.drc ∧ (celResetCopies s).dram = s.dram ∧ (celResetCopies s).nrg = s.nrg ∧
      (celResetCopies s).gau = s.gau ∧ (celResetCopies s).rek = s.rek ∧ (celResetCopies s).plk = s.plk ∧
      (celResetCopies s).att = s.att ∧ (celResetCopies s).ecc = s.ecc ∧ (celResetCopies s).tws = s.tws ∧
      (celResetCopies s).twp = s.twp ∧ (celResetCopies s).svc = s.svc ∧ (celResetCopies s).pwr = s.pwr ∧
      (celResetCopies s).fpl = s.fpl ∧ (celResetCopies s).jtag = s.jtag ∧ (celResetCopies s).fuses = s.fuses ∧
      (celResetCopies s).cal = s.cal ∧ (celResetCopies s).out = s.out ∧ (celResetCopies s).free = s.free ∧
      (celResetCopies s).pending = s.pending := by
  have q1 := completeTile_frame
  have q2 := modStation_frame
  simp [q1, q2, celResetCopies]

theorem holdCore_frame (core : Nat) (s : State) :
    (holdCore core s).almanac = s.almanac ∧ (holdCore core s).dev = s.dev ∧ (holdCore core s).stations = s.stations ∧
      (holdCore core s).hst = s.hst ∧ (holdCore core s).drc = s.drc ∧ (holdCore core s).dram = s.dram ∧
      (holdCore core s).cht = s.cht ∧ (holdCore core s).sui = s.sui ∧ (holdCore core s).stw = s.stw ∧
      (holdCore core s).sav = s.sav ∧ (holdCore core s).cel = s.cel ∧ (holdCore core s).dmw = s.dmw ∧
      (holdCore core s).nrg = s.nrg ∧ (holdCore core s).gau = s.gau ∧ (holdCore core s).plk = s.plk ∧
      (holdCore core s).att = s.att ∧ (holdCore core s).tws = s.tws ∧ (holdCore core s).twp = s.twp ∧
      (holdCore core s).svc = s.svc ∧ (holdCore core s).log = s.log ∧ (holdCore core s).pwr = s.pwr ∧
      (holdCore core s).fpl = s.fpl ∧ (holdCore core s).jtag = s.jtag ∧ (holdCore core s).fuses = s.fuses ∧
      (holdCore core s).cal = s.cal ∧ (holdCore core s).out = s.out ∧ (holdCore core s).free = s.free ∧
      (holdCore core s).pending = s.pending := by
  simp [holdCore]

theorem quarantine_frame (bs : List Block) (t : Nat) (s : State) :
    (quarantine bs t s).almanac = s.almanac ∧ (quarantine bs t s).dev = s.dev ∧ (quarantine bs t s).hst = s.hst ∧
      (quarantine bs t s).drc = s.drc ∧ (quarantine bs t s).dram = s.dram ∧ (quarantine bs t s).cht = s.cht ∧
      (quarantine bs t s).sui = s.sui ∧ (quarantine bs t s).stw = s.stw ∧ (quarantine bs t s).sav = s.sav ∧
      (quarantine bs t s).cel = s.cel ∧ (quarantine bs t s).dmw = s.dmw ∧ (quarantine bs t s).nrg = s.nrg ∧
      (quarantine bs t s).gau = s.gau ∧ (quarantine bs t s).rek = s.rek ∧ (quarantine bs t s).plk = s.plk ∧
      (quarantine bs t s).att = s.att ∧ (quarantine bs t s).ecc = s.ecc ∧ (quarantine bs t s).tws = s.tws ∧
      (quarantine bs t s).twp = s.twp ∧ (quarantine bs t s).svc = s.svc ∧ (quarantine bs t s).log = s.log ∧
      (quarantine bs t s).pwr = s.pwr ∧ (quarantine bs t s).fpl = s.fpl ∧ (quarantine bs t s).jtag = s.jtag ∧
      (quarantine bs t s).fuses = s.fuses ∧ (quarantine bs t s).cal = s.cal ∧ (quarantine bs t s).out = s.out ∧
      (quarantine bs t s).free = s.free ∧ (quarantine bs t s).pending = s.pending := by
  have q1 := modStation_frame
  simp [q1, quarantine]

theorem blockEffect_frame (b : Block) (s : State) :
    (blockEffect b s).almanac = s.almanac ∧ (blockEffect b s).gau = s.gau ∧ (blockEffect b s).pwr = s.pwr ∧
      (blockEffect b s).fpl = s.fpl ∧ (blockEffect b s).jtag = s.jtag ∧ (blockEffect b s).fuses = s.fuses ∧
      (blockEffect b s).cal = s.cal ∧ (blockEffect b s).pending = s.pending ∧ (blockEffect b s).dev.state = s.dev.state := by
  have q1 := celResetCopies_frame
  have q2 := cutOp_frame
  have q3 := cutProg_frame
  have q4 := cutStaging_frame
  have q5 := dmwResetChan_frame
  have q6 := drainAll_frame
  have q7 := drainAll_frame3
  have q8 := holdCore_frame
  have q9 := linkReset_frame
  have q10 := modStation_frame
  have q11 := reeval_frame
  have q12 := reeval_frame3
  unfold blockEffect; (repeat' split) <;> simp_all

theorem blockReset_frame (b : Block) (s : State) :
    (blockReset b s).almanac = s.almanac ∧ (blockReset b s).gau = s.gau ∧ (blockReset b s).pwr = s.pwr ∧
      (blockReset b s).fpl = s.fpl ∧ (blockReset b s).jtag = s.jtag ∧ (blockReset b s).fuses = s.fuses ∧
      (blockReset b s).cal = s.cal ∧ (blockReset b s).pending = s.pending ∧ (blockReset b s).dev.state = s.dev.state := by
  have q1 := blockEffect_frame
  have q2 := quarantine_frame
  unfold blockReset; (repeat' split) <;> simp_all

theorem abandon_frame (s : State) :
    (abandon s).almanac = s.almanac ∧ (abandon s).dram = s.dram ∧ (abandon s).fuses = s.fuses ∧ (abandon s).cal = s.cal ∧
      (abandon s).pending = s.pending := by
  have q1 := fenceTrigger_frame
  have q2 := giveAbandon_frame
  unfold abandon; (repeat' split) <;> simp_all

theorem harbourAction_frame (s : State) :
    (harbourAction s).almanac = s.almanac ∧ (harbourAction s).stations = s.stations ∧ (harbourAction s).drc = s.drc ∧
      (harbourAction s).dram = s.dram ∧ (harbourAction s).cht = s.cht ∧ (harbourAction s).sui = s.sui ∧
      (harbourAction s).stw = s.stw ∧ (harbourAction s).cel = s.cel ∧ (harbourAction s).dmw = s.dmw ∧
      (harbourAction s).nrg = s.nrg ∧ (harbourAction s).plk = s.plk ∧ (harbourAction s).att = s.att ∧
      (harbourAction s).ecc = s.ecc ∧ (harbourAction s).twp = s.twp ∧ (harbourAction s).svc = s.svc ∧
      (harbourAction s).pwr = s.pwr ∧ (harbourAction s).fpl = s.fpl ∧ (harbourAction s).jtag = s.jtag ∧
      (harbourAction s).fuses = s.fuses ∧ (harbourAction s).cal = s.cal ∧ (harbourAction s).free = s.free ∧
      (harbourAction s).pending = s.pending ∧ (harbourAction s).hst.linkUp = s.hst.linkUp ∧
      (harbourAction s).hst.gateClosed = s.hst.gateClosed ∧ (harbourAction s).log.aonPowered = s.log.aonPowered := by
  have q1 := enterHarbour_frame
  unfold harbourAction; (repeat' split) <;> simp_all

theorem levelAction_frame (b : Block) (level : Nat) (s : State) :
    (levelAction b level s).almanac = s.almanac ∧ (levelAction b level s).fuses = s.fuses ∧
      (levelAction b level s).cal = s.cal ∧ (levelAction b level s).pending = s.pending := by
  have q1 := abandon_frame
  have q2 := blockReset_frame
  have q3 := fenceTrigger_frame
  have q4 := harbourAction_frame
  have q5 := notify_frame
  simp [q1, q2, q3, q4, q5, levelAction]

theorem stopAuto_frame (level : Nat) (s : State) :
    (stopAuto level s).almanac = s.almanac ∧ (stopAuto level s).dev = s.dev ∧ (stopAuto level s).stations = s.stations ∧
      (stopAuto level s).hst = s.hst ∧ (stopAuto level s).drc = s.drc ∧ (stopAuto level s).dram = s.dram ∧
      (stopAuto level s).cht = s.cht ∧ (stopAuto level s).sui = s.sui ∧ (stopAuto level s).stw = s.stw ∧
      (stopAuto level s).sav = s.sav ∧ (stopAuto level s).cel = s.cel ∧ (stopAuto level s).dmw = s.dmw ∧
      (stopAuto level s).gau = s.gau ∧ (stopAuto level s).rek = s.rek ∧ (stopAuto level s).plk = s.plk ∧
      (stopAuto level s).att = s.att ∧ (stopAuto level s).ecc = s.ecc ∧ (stopAuto level s).tws = s.tws ∧
      (stopAuto level s).twp = s.twp ∧ (stopAuto level s).log = s.log ∧ (stopAuto level s).pwr = s.pwr ∧
      (stopAuto level s).fpl = s.fpl ∧ (stopAuto level s).jtag = s.jtag ∧ (stopAuto level s).fuses = s.fuses ∧
      (stopAuto level s).cal = s.cal ∧ (stopAuto level s).out = s.out ∧ (stopAuto level s).free = s.free ∧
      (stopAuto level s).pending = s.pending := by
  simp [stopAuto]

theorem escalate_frame (b : Block) (old : Nat) (s : State) :
    (escalate b old s).almanac = s.almanac ∧ (escalate b old s).fuses = s.fuses ∧ (escalate b old s).cal = s.cal ∧
      (escalate b old s).pending = s.pending := by
  have q1 := event_frame
  have q2 := levelAction_frame
  have q3 := stopAuto_frame
  simp [q1, q2, q3, escalate]

theorem raiseNow_frame (c : FClass) (addr mstr access entry : Nat) (s : State) :
    (raiseNow c addr mstr access entry s).almanac = s.almanac ∧ (raiseNow c addr mstr access entry s).fuses = s.fuses ∧
      (raiseNow c addr mstr access entry s).cal = s.cal ∧ (raiseNow c addr mstr access entry s).pending = s.pending := by
  have q1 := alertBit_frame
  have q2 := escalate_frame
  have q3 := modStation_frame
  simp [q1, q2, q3, raiseNow]

theorem raiseCore_frame (c : FClass) (addr mstr access entry : Nat) (s : State) :
    (raiseCore c addr mstr access entry s).almanac = s.almanac ∧ (raiseCore c addr mstr access entry s).fuses = s.fuses ∧
      (raiseCore c addr mstr access entry s).cal = s.cal ∧ (raiseCore c addr mstr access entry s).pending = s.pending := by
  have q1 := modStation_frame
  have q2 := raiseNow_frame
  simp [q1, q2, raiseCore]

theorem noteDrops_frame (before s : State) :
    (noteDrops before s).almanac = s.almanac ∧ (noteDrops before s).fuses = s.fuses ∧ (noteDrops before s).cal = s.cal ∧
      (noteDrops before s).pending = s.pending := by
  have q1 := raiseCore_frame
  simp [q1, noteDrops]

theorem raiseAt_frame (c : FClass) (addr mstr access entry : Nat) (s : State) :
    (raiseAt c addr mstr access entry s).almanac = s.almanac ∧ (raiseAt c addr mstr access entry s).fuses = s.fuses ∧
      (raiseAt c addr mstr access entry s).cal = s.cal ∧ (raiseAt c addr mstr access entry s).pending = s.pending := by
  have q1 := noteDrops_frame
  have q2 := raiseCore_frame
  simp [q1, q2, raiseAt]

theorem raise_frame (c : FClass) (s : State) :
    (raise c s).almanac = s.almanac ∧ (raise c s).fuses = s.fuses ∧ (raise c s).cal = s.cal ∧
      (raise c s).pending = s.pending := by
  have q1 := raiseAt_frame
  simp [q1, raise]

theorem raiseAddr_frame (c : FClass) (addr mstr access : Nat) (s : State) :
    (raiseAddr c addr mstr access s).almanac = s.almanac ∧ (raiseAddr c addr mstr access s).fuses = s.fuses ∧
      (raiseAddr c addr mstr access s).cal = s.cal ∧ (raiseAddr c addr mstr access s).pending = s.pending := by
  have q1 := raiseAt_frame
  simp [q1, raiseAddr]

theorem logRecord_frame (type block a0 a1 a2 suite master : Nat) (s : State) :
    (logRecord type block a0 a1 a2 suite master s).almanac = s.almanac ∧
      (logRecord type block a0 a1 a2 suite master s).fuses = s.fuses ∧
      (logRecord type block a0 a1 a2 suite master s).cal = s.cal ∧
      (logRecord type block a0 a1 a2 suite master s).pending = s.pending := by
  have q1 := logCore_frame
  have q2 := noteDrops_frame
  simp [q1, q2, logRecord]

theorem replaceSignal_frame (s : State) :
    (replaceSignal s).almanac = s.almanac ∧ (replaceSignal s).stations = s.stations ∧ (replaceSignal s).drc = s.drc ∧
      (replaceSignal s).dram = s.dram ∧ (replaceSignal s).cht = s.cht ∧ (replaceSignal s).sui = s.sui ∧
      (replaceSignal s).stw = s.stw ∧ (replaceSignal s).cel = s.cel ∧ (replaceSignal s).dmw = s.dmw ∧
      (replaceSignal s).nrg = s.nrg ∧ (replaceSignal s).plk = s.plk ∧ (replaceSignal s).att = s.att ∧
      (replaceSignal s).ecc = s.ecc ∧ (replaceSignal s).twp = s.twp ∧ (replaceSignal s).svc = s.svc ∧
      (replaceSignal s).pwr = s.pwr ∧ (replaceSignal s).fpl = s.fpl ∧ (replaceSignal s).jtag = s.jtag ∧
      (replaceSignal s).fuses = s.fuses ∧ (replaceSignal s).cal = s.cal ∧ (replaceSignal s).free = s.free ∧
      (replaceSignal s).pending = s.pending ∧ (replaceSignal s).hst.linkUp = s.hst.linkUp ∧
      (replaceSignal s).hst.gateClosed = s.hst.gateClosed ∧ (replaceSignal s).log.aonPowered = s.log.aonPowered := by
  have q1 := alertBit_frame
  have q2 := enterHarbour_frame
  have q3 := event_frame
  have q4 := notify_frame
  have q5 := notify_frame2
  simp only [replaceSignal]; (repeat' split) <;> simp [q1, q2, q3, q4, q5]

theorem setReason_frame (k : Nat) (s : State) :
    (setReason k s).almanac = s.almanac ∧ (setReason k s).stations = s.stations ∧ (setReason k s).drc = s.drc ∧
      (setReason k s).dram = s.dram ∧ (setReason k s).cht = s.cht ∧ (setReason k s).sui = s.sui ∧ (setReason k s).stw = s.stw ∧
      (setReason k s).cel = s.cel ∧ (setReason k s).dmw = s.dmw ∧ (setReason k s).nrg = s.nrg ∧ (setReason k s).plk = s.plk ∧
      (setReason k s).att = s.att ∧ (setReason k s).ecc = s.ecc ∧ (setReason k s).twp = s.twp ∧ (setReason k s).svc = s.svc ∧
      (setReason k s).pwr = s.pwr ∧ (setReason k s).fpl = s.fpl ∧ (setReason k s).jtag = s.jtag ∧
      (setReason k s).fuses = s.fuses ∧ (setReason k s).free = s.free ∧ (setReason k s).pending = s.pending := by
  have q1 := replaceSignal_frame
  simp [q1, setReason]

theorem setReason_frame2 (k : Nat) (s : State) :
    (setReason k s).hst.linkUp = s.hst.linkUp ∧ (setReason k s).hst.gateClosed = s.hst.gateClosed ∧
      (setReason k s).log.aonPowered = s.log.aonPowered := by
  have q1 := replaceSignal_frame
  unfold setReason; (repeat' split) <;> simp_all

theorem clearReason_frame (k : Nat) (s : State) :
    (clearReason k s).almanac = s.almanac ∧ (clearReason k s).stations = s.stations ∧ (clearReason k s).hst = s.hst ∧
      (clearReason k s).drc = s.drc ∧ (clearReason k s).dram = s.dram ∧ (clearReason k s).cht = s.cht ∧
      (clearReason k s).sui = s.sui ∧ (clearReason k s).stw = s.stw ∧ (clearReason k s).sav = s.sav ∧
      (clearReason k s).cel = s.cel ∧ (clearReason k s).dmw = s.dmw ∧ (clearReason k s).nrg = s.nrg ∧
      (clearReason k s).gau = s.gau ∧ (clearReason k s).rek = s.rek ∧ (clearReason k s).plk = s.plk ∧
      (clearReason k s).att = s.att ∧ (clearReason k s).ecc = s.ecc ∧ (clearReason k s).tws = s.tws ∧
      (clearReason k s).twp = s.twp ∧ (clearReason k s).svc = s.svc ∧ (clearReason k s).log = s.log ∧
      (clearReason k s).pwr = s.pwr ∧ (clearReason k s).fpl = s.fpl ∧ (clearReason k s).jtag = s.jtag ∧
      (clearReason k s).fuses = s.fuses ∧ (clearReason k s).out = s.out ∧ (clearReason k s).free = s.free ∧
      (clearReason k s).pending = s.pending ∧ (clearReason k s).dev.state = s.dev.state := by
  simp [clearReason]

theorem expose_frame (id tile : Nat) (s : State) :
    (expose id tile s).almanac = s.almanac ∧ (expose id tile s).fuses = s.fuses ∧ (expose id tile s).cal = s.cal ∧
      (expose id tile s).pending = s.pending := by
  have q1 := alertBit_frame
  have q2 := modSuite_frame
  have q3 := notify_frame
  have q4 := raiseAt_frame
  have q5 := vendorEvent_frame
  unfold expose; (repeat' split) <;> simp_all

theorem exposeCheck_frame (t : Nat) (s : State) :
    (exposeCheck t s).almanac = s.almanac ∧ (exposeCheck t s).fuses = s.fuses ∧ (exposeCheck t s).cal = s.cal ∧
      (exposeCheck t s).pending = s.pending := by
  have q1 := expose_frame
  unfold exposeCheck; (repeat' split) <;> simp_all

theorem writeEvent_frame (t : Nat) (s : State) :
    (writeEvent t s).almanac = s.almanac ∧ (writeEvent t s).fuses = s.fuses ∧ (writeEvent t s).cal = s.cal ∧
      (writeEvent t s).pending = s.pending := by
  have q1 := exposeCheck_frame
  have q2 := reeval_frame
  have q3 := writeEventCore_frame
  simp [q1, q2, q3, writeEvent]

theorem poisonBeat_frame (beat source : Nat) (s : State) :
    (poisonBeat beat source s).almanac = s.almanac ∧ (poisonBeat beat source s).dev = s.dev ∧
      (poisonBeat beat source s).stations = s.stations ∧ (poisonBeat beat source s).drc = s.drc ∧
      (poisonBeat beat source s).sui = s.sui ∧ (poisonBeat beat source s).stw = s.stw ∧
      (poisonBeat beat source s).sav = s.sav ∧ (poisonBeat beat source s).cel = s.cel ∧
      (poisonBeat beat source s).dmw = s.dmw ∧ (poisonBeat beat source s).nrg = s.nrg ∧
      (poisonBeat beat source s).gau = s.gau ∧ (poisonBeat beat source s).rek = s.rek ∧
      (poisonBeat beat source s).plk = s.plk ∧ (poisonBeat beat source s).att = s.att ∧
      (poisonBeat beat source s).ecc = s.ecc ∧ (poisonBeat beat source s).tws = s.tws ∧
      (poisonBeat beat source s).twp = s.twp ∧ (poisonBeat beat source s).svc = s.svc ∧
      (poisonBeat beat source s).log = s.log ∧ (poisonBeat beat source s).pwr = s.pwr ∧
      (poisonBeat beat source s).fpl = s.fpl ∧ (poisonBeat beat source s).jtag = s.jtag ∧
      (poisonBeat beat source s).fuses = s.fuses ∧ (poisonBeat beat source s).cal = s.cal ∧
      (poisonBeat beat source s).out = s.out ∧ (poisonBeat beat source s).free = s.free ∧
      (poisonBeat beat source s).pending = s.pending ∧ (poisonBeat beat source s).hst.linkUp = s.hst.linkUp ∧
      (poisonBeat beat source s).hst.gateClosed = s.hst.gateClosed := by
  have q1 := listPoison_frame
  have q2 := listPoison_frame3
  simp [q1, q2, poisonBeat]

theorem seqError_frame (b ofs master : Nat) (s : State) :
    (seqError b ofs master s).almanac = s.almanac ∧ (seqError b ofs master s).fuses = s.fuses ∧
      (seqError b ofs master s).cal = s.cal ∧ (seqError b ofs master s).pending = s.pending := by
  have q1 := raiseAddr_frame
  simp [q1, seqError]

theorem raiseOpError_frame (b : Nat) (o : AtticOp) (s : State) :
    (raiseOpError b o s).almanac = s.almanac ∧ (raiseOpError b o s).fuses = s.fuses ∧ (raiseOpError b o s).cal = s.cal ∧
      (raiseOpError b o s).pending = s.pending := by
  have q1 := raiseAddr_frame
  simp [q1, raiseOpError]

theorem refuseOp_frame (b : Nat) (o : AtticOp) (code : AtticCode) (s : State) :
    (refuseOp b o code s).almanac = s.almanac ∧ (refuseOp b o code s).fuses = s.fuses ∧ (refuseOp b o code s).cal = s.cal ∧
      (refuseOp b o code s).pending = s.pending := by
  have q1 := modBank_frame
  have q2 := raiseOpError_frame
  simp [q1, q2, refuseOp]

theorem noteWear_frame (b sector count : Nat) (s : State) :
    (noteWear b sector count s).almanac = s.almanac ∧ (noteWear b sector count s).dev = s.dev ∧
      (noteWear b sector count s).stations = s.stations ∧ (noteWear b sector count s).hst = s.hst ∧
      (noteWear b sector count s).drc = s.drc ∧ (noteWear b sector count s).dram = s.dram ∧
      (noteWear b sector count s).cht = s.cht ∧ (noteWear b sector count s).sui = s.sui ∧
      (noteWear b sector count s).stw = s.stw ∧ (noteWear b sector count s).sav = s.sav ∧
      (noteWear b sector count s).cel = s.cel ∧ (noteWear b sector count s).dmw = s.dmw ∧
      (noteWear b sector count s).nrg = s.nrg ∧ (noteWear b sector count s).gau = s.gau ∧
      (noteWear b sector count s).rek = s.rek ∧ (noteWear b sector count s).plk = s.plk ∧
      (noteWear b sector count s).ecc = s.ecc ∧ (noteWear b sector count s).tws = s.tws ∧
      (noteWear b sector count s).twp = s.twp ∧ (noteWear b sector count s).svc = s.svc ∧
      (noteWear b sector count s).log = s.log ∧ (noteWear b sector count s).pwr = s.pwr ∧
      (noteWear b sector count s).fpl = s.fpl ∧ (noteWear b sector count s).jtag = s.jtag ∧
      (noteWear b sector count s).fuses = s.fuses ∧ (noteWear b sector count s).cal = s.cal ∧
      (noteWear b sector count s).out = s.out ∧ (noteWear b sector count s).free = s.free ∧
      (noteWear b sector count s).pending = s.pending := by
  simp [noteWear]

theorem programIntent_frame (b sector owner : Nat) (s : State) :
    (programIntent b sector owner s).almanac = s.almanac ∧ (programIntent b sector owner s).dev = s.dev ∧
      (programIntent b sector owner s).stations = s.stations ∧ (programIntent b sector owner s).hst = s.hst ∧
      (programIntent b sector owner s).drc = s.drc ∧ (programIntent b sector owner s).dram = s.dram ∧
      (programIntent b sector owner s).cht = s.cht ∧ (programIntent b sector owner s).sui = s.sui ∧
      (programIntent b sector owner s).stw = s.stw ∧ (programIntent b sector owner s).sav = s.sav ∧
      (programIntent b sector owner s).cel = s.cel ∧ (programIntent b sector owner s).dmw = s.dmw ∧
      (programIntent b sector owner s).nrg = s.nrg ∧ (programIntent b sector owner s).gau = s.gau ∧
      (programIntent b sector owner s).rek = s.rek ∧ (programIntent b sector owner s).plk = s.plk ∧
      (programIntent b sector owner s).ecc = s.ecc ∧ (programIntent b sector owner s).tws = s.tws ∧
      (programIntent b sector owner s).twp = s.twp ∧ (programIntent b sector owner s).svc = s.svc ∧
      (programIntent b sector owner s).log = s.log ∧ (programIntent b sector owner s).pwr = s.pwr ∧
      (programIntent b sector owner s).fpl = s.fpl ∧ (programIntent b sector owner s).jtag = s.jtag ∧
      (programIntent b sector owner s).fuses = s.fuses ∧ (programIntent b sector owner s).cal = s.cal ∧
      (programIntent b sector owner s).out = s.out ∧ (programIntent b sector owner s).free = s.free ∧
      (programIntent b sector owner s).pending = s.pending := by
  have q1 := modBank_frame
  have q2 := noteWear_frame
  simp [q1, q2, programIntent]

theorem rotateIntent_frame (b : Nat) (s : State) :
    (rotateIntent b s).almanac = s.almanac ∧ (rotateIntent b s).dev = s.dev ∧ (rotateIntent b s).stations = s.stations ∧
      (rotateIntent b s).hst = s.hst ∧ (rotateIntent b s).drc = s.drc ∧ (rotateIntent b s).dram = s.dram ∧
      (rotateIntent b s).cht = s.cht ∧ (rotateIntent b s).sui = s.sui ∧ (rotateIntent b s).stw = s.stw ∧
      (rotateIntent b s).sav = s.sav ∧ (rotateIntent b s).cel = s.cel ∧ (rotateIntent b s).dmw = s.dmw ∧
      (rotateIntent b s).nrg = s.nrg ∧ (rotateIntent b s).gau = s.gau ∧ (rotateIntent b s).rek = s.rek ∧
      (rotateIntent b s).plk = s.plk ∧ (rotateIntent b s).ecc = s.ecc ∧ (rotateIntent b s).tws = s.tws ∧
      (rotateIntent b s).twp = s.twp ∧ (rotateIntent b s).svc = s.svc ∧ (rotateIntent b s).log = s.log ∧
      (rotateIntent b s).pwr = s.pwr ∧ (rotateIntent b s).fpl = s.fpl ∧ (rotateIntent b s).jtag = s.jtag ∧
      (rotateIntent b s).fuses = s.fuses ∧ (rotateIntent b s).cal = s.cal ∧ (rotateIntent b s).out = s.out ∧
      (rotateIntent b s).free = s.free ∧ (rotateIntent b s).pending = s.pending := by
  have q1 := modBank_frame
  have q2 := programIntent_frame
  simp [q1, q2, rotateIntent]

theorem beginErase_frame (b sector owner : Nat) (kind : AtticOpKind) (s : State) :
    (beginErase b sector owner kind s).almanac = s.almanac ∧ (beginErase b sector owner kind s).dev = s.dev ∧
      (beginErase b sector owner kind s).stations = s.stations ∧ (beginErase b sector owner kind s).hst = s.hst ∧
      (beginErase b sector owner kind s).drc = s.drc ∧ (beginErase b sector owner kind s).dram = s.dram ∧
      (beginErase b sector owner kind s).cht = s.cht ∧ (beginErase b sector owner kind s).sui = s.sui ∧
      (beginErase b sector owner kind s).stw = s.stw ∧ (beginErase b sector owner kind s).sav = s.sav ∧
      (beginErase b sector owner kind s).cel = s.cel ∧ (beginErase b sector owner kind s).dmw = s.dmw ∧
      (beginErase b sector owner kind s).nrg = s.nrg ∧ (beginErase b sector owner kind s).gau = s.gau ∧
      (beginErase b sector owner kind s).rek = s.rek ∧ (beginErase b sector owner kind s).plk = s.plk ∧
      (beginErase b sector owner kind s).ecc = s.ecc ∧ (beginErase b sector owner kind s).tws = s.tws ∧
      (beginErase b sector owner kind s).twp = s.twp ∧ (beginErase b sector owner kind s).svc = s.svc ∧
      (beginErase b sector owner kind s).log = s.log ∧ (beginErase b sector owner kind s).pwr = s.pwr ∧
      (beginErase b sector owner kind s).fpl = s.fpl ∧ (beginErase b sector owner kind s).jtag = s.jtag ∧
      (beginErase b sector owner kind s).fuses = s.fuses ∧ (beginErase b sector owner kind s).cal = s.cal ∧
      (beginErase b sector owner kind s).out = s.out ∧ (beginErase b sector owner kind s).free = s.free ∧
      (beginErase b sector owner kind s).pending = s.pending := by
  have q1 := modBank_frame
  have q2 := programIntent_frame
  have q3 := rotateIntent_frame
  simp [q1, q2, q3, beginErase]

theorem beginReErase_frame (b : Nat) (s : State) :
    (beginReErase b s).almanac = s.almanac ∧ (beginReErase b s).fuses = s.fuses ∧ (beginReErase b s).cal = s.cal ∧
      (beginReErase b s).pending = s.pending := by
  have q1 := beginErase_frame
  have q2 := raiseAddr_frame
  unfold beginReErase; (repeat' split) <;> simp_all

theorem eraseWords_frame (b sector : Nat) (s : State) :
    (eraseWords b sector s).almanac = s.almanac ∧ (eraseWords b sector s).stations = s.stations ∧
      (eraseWords b sector s).hst = s.hst ∧ (eraseWords b sector s).drc = s.drc ∧ (eraseWords b sector s).dram = s.dram ∧
      (eraseWords b sector s).cht = s.cht ∧ (eraseWords b sector s).sui = s.sui ∧ (eraseWords b sector s).stw = s.stw ∧
      (eraseWords b sector s).sav = s.sav ∧ (eraseWords b sector s).cel = s.cel ∧ (eraseWords b sector s).dmw = s.dmw ∧
      (eraseWords b sector s).nrg = s.nrg ∧ (eraseWords b sector s).gau = s.gau ∧ (eraseWords b sector s).rek = s.rek ∧
      (eraseWords b sector s).plk = s.plk ∧ (eraseWords b sector s).tws = s.tws ∧ (eraseWords b sector s).twp = s.twp ∧
      (eraseWords b sector s).svc = s.svc ∧ (eraseWords b sector s).log = s.log ∧ (eraseWords b sector s).pwr = s.pwr ∧
      (eraseWords b sector s).fpl = s.fpl ∧ (eraseWords b sector s).jtag = s.jtag ∧ (eraseWords b sector s).fuses = s.fuses ∧
      (eraseWords b sector s).out = s.out ∧ (eraseWords b sector s).free = s.free ∧
      (eraseWords b sector s).pending = s.pending := by
  have q1 := clearReason_frame
  have q2 := modBank_frame
  simp [q1, q2, eraseWords]

@[simp] theorem eraseWords_frame3 (b sector : Nat) (s : State) :
    (eraseWords b sector s).dev.state = s.dev.state := by
  have q1 := clearReason_frame
  have q2 := modBank_frame
  simp only [eraseWords]; (repeat' split) <;> simp [q1, q2]

theorem eraseSector_frame (b sector : Nat) (s : State) :
    (eraseSector b sector s).almanac = s.almanac ∧ (eraseSector b sector s).stations = s.stations ∧
      (eraseSector b sector s).hst = s.hst ∧ (eraseSector b sector s).drc = s.drc ∧ (eraseSector b sector s).dram = s.dram ∧
      (eraseSector b sector s).cht = s.cht ∧ (eraseSector b sector s).sui = s.sui ∧ (eraseSector b sector s).stw = s.stw ∧
      (eraseSector b sector s).sav = s.sav ∧ (eraseSector b sector s).cel = s.cel ∧ (eraseSector b sector s).dmw = s.dmw ∧
      (eraseSector b sector s).nrg = s.nrg ∧ (eraseSector b sector s).gau = s.gau ∧ (eraseSector b sector s).rek = s.rek ∧
      (eraseSector b sector s).plk = s.plk ∧ (eraseSector b sector s).tws = s.tws ∧ (eraseSector b sector s).twp = s.twp ∧
      (eraseSector b sector s).svc = s.svc ∧ (eraseSector b sector s).log = s.log ∧ (eraseSector b sector s).pwr = s.pwr ∧
      (eraseSector b sector s).fpl = s.fpl ∧ (eraseSector b sector s).jtag = s.jtag ∧
      (eraseSector b sector s).fuses = s.fuses ∧ (eraseSector b sector s).out = s.out ∧
      (eraseSector b sector s).free = s.free ∧ (eraseSector b sector s).pending = s.pending ∧
      (eraseSector b sector s).dev.state = s.dev.state := by
  have q1 := eraseWords_frame
  have q2 := modBank_frame
  have q3 := programIntent_frame
  have q4 := rotateIntent_frame
  simp [q1, q2, q3, q4, eraseSector]

theorem rebuildWords_frame (b sector : Nat) (s : State) :
    (rebuildWords b sector s).almanac = s.almanac ∧ (rebuildWords b sector s).dev = s.dev ∧
      (rebuildWords b sector s).stations = s.stations ∧ (rebuildWords b sector s).hst = s.hst ∧
      (rebuildWords b sector s).drc = s.drc ∧ (rebuildWords b sector s).dram = s.dram ∧ (rebuildWords b sector s).cht = s.cht ∧
      (rebuildWords b sector s).sui = s.sui ∧ (rebuildWords b sector s).stw = s.stw ∧ (rebuildWords b sector s).sav = s.sav ∧
      (rebuildWords b sector s).cel = s.cel ∧ (rebuildWords b sector s).dmw = s.dmw ∧ (rebuildWords b sector s).nrg = s.nrg ∧
      (rebuildWords b sector s).gau = s.gau ∧ (rebuildWords b sector s).rek = s.rek ∧ (rebuildWords b sector s).plk = s.plk ∧
      (rebuildWords b sector s).ecc = s.ecc ∧ (rebuildWords b sector s).tws = s.tws ∧ (rebuildWords b sector s).twp = s.twp ∧
      (rebuildWords b sector s).svc = s.svc ∧ (rebuildWords b sector s).log = s.log ∧ (rebuildWords b sector s).pwr = s.pwr ∧
      (rebuildWords b sector s).fpl = s.fpl ∧ (rebuildWords b sector s).jtag = s.jtag ∧
      (rebuildWords b sector s).fuses = s.fuses ∧ (rebuildWords b sector s).cal = s.cal ∧
      (rebuildWords b sector s).out = s.out ∧ (rebuildWords b sector s).free = s.free ∧
      (rebuildWords b sector s).pending = s.pending := by
  have q1 := modBank_frame
  simp [q1, rebuildWords]

theorem startOp_frame (b : Nat) (o : AtticOp) (s : State) :
    (startOp b o s).almanac = s.almanac ∧ (startOp b o s).fuses = s.fuses ∧ (startOp b o s).cal = s.cal ∧
      (startOp b o s).pending = s.pending := by
  have q1 := beginErase_frame
  have q2 := modBank_frame
  have q3 := raiseAddr_frame
  have q4 := refuseOp_frame
  have q5 := seqError_frame
  simp [q1, q2, q3, q4, q5, startOp]

theorem atticCycles_frame (kind : AtticOpKind) (b master : Nat) (cycles : List (Nat × Nat)) (s : State) :
    (atticCycles kind b master cycles s).almanac = s.almanac ∧ (atticCycles kind b master cycles s).fuses = s.fuses ∧
      (atticCycles kind b master cycles s).cal = s.cal ∧ (atticCycles kind b master cycles s).pending = s.pending := by
  have q1 := modBank_frame
  have q2 := seqError_frame
  have q3 := startOp_frame
  unfold atticCycles; (repeat' split) <;> simp_all

@[simp] theorem oneCycle_frame_almanac (b master : Nat) (f : State → State)
    (s : State) (hf : ∀ s, (f s).almanac = s.almanac) : (oneCycle b master f s).almanac = s.almanac := by
  have q1 := modBank_frame
  have q2 := seqError_frame
  unfold oneCycle; (repeat' split) <;> simp_all

@[simp] theorem oneCycle_frame_fuses (b master : Nat) (f : State → State)
    (s : State) (hf : ∀ s, (f s).fuses = s.fuses) : (oneCycle b master f s).fuses = s.fuses := by
  have q1 := modBank_frame
  have q2 := seqError_frame
  unfold oneCycle; (repeat' split) <;> simp_all

@[simp] theorem oneCycle_frame_cal (b master : Nat) (f : State → State)
    (s : State) (hf : ∀ s, (f s).cal = s.cal) : (oneCycle b master f s).cal = s.cal := by
  have q1 := modBank_frame
  have q2 := seqError_frame
  unfold oneCycle; (repeat' split) <;> simp_all

@[simp] theorem oneCycle_frame_pending (b master : Nat) (f : State → State)
    (s : State) (hf : ∀ s, (f s).pending = s.pending) : (oneCycle b master f s).pending = s.pending := by
  have q1 := modBank_frame
  have q2 := seqError_frame
  unfold oneCycle; (repeat' split) <;> simp_all

@[simp] theorem suspendErase_frame (b : Nat) (how : SuspendKind) (s : State) :
    (suspendErase b how s).almanac = s.almanac ∧ (suspendErase b how s).dev = s.dev ∧
      (suspendErase b how s).stations = s.stations ∧ (suspendErase b how s).hst = s.hst ∧ (suspendErase b how s).drc = s.drc ∧
      (suspendErase b how s).dram = s.dram ∧ (suspendErase b how s).cht = s.cht ∧ (suspendErase b how s).sui = s.sui ∧
      (suspendErase b how s).stw = s.stw ∧ (suspendErase b how s).sav = s.sav ∧ (suspendErase b how s).cel = s.cel ∧
      (suspendErase b how s).dmw = s.dmw ∧ (suspendErase b how s).nrg = s.nrg ∧ (suspendErase b how s).gau = s.gau ∧
      (suspendErase b how s).rek = s.rek ∧ (suspendErase b how s).plk = s.plk ∧ (suspendErase b how s).ecc = s.ecc ∧
      (suspendErase b how s).tws = s.tws ∧ (suspendErase b how s).twp = s.twp ∧ (suspendErase b how s).svc = s.svc ∧
      (suspendErase b how s).log = s.log ∧ (suspendErase b how s).pwr = s.pwr ∧ (suspendErase b how s).fpl = s.fpl ∧
      (suspendErase b how s).jtag = s.jtag ∧ (suspendErase b how s).fuses = s.fuses ∧ (suspendErase b how s).cal = s.cal ∧
      (suspendErase b how s).out = s.out ∧ (suspendErase b how s).free = s.free ∧ (suspendErase b how s).pending = s.pending := by
  have q1 := modBank_frame
  unfold suspendErase; (repeat' split) <;> simp_all

theorem resumeErase_frame (b : Nat) (s : State) :
    (resumeErase b s).almanac = s.almanac ∧ (resumeErase b s).dev = s.dev ∧ (resumeErase b s).stations = s.stations ∧
      (resumeErase b s).hst = s.hst ∧ (resumeErase b s).drc = s.drc ∧ (resumeErase b s).dram = s.dram ∧
      (resumeErase b s).cht = s.cht ∧ (resumeErase b s).sui = s.sui ∧ (resumeErase b s).stw = s.stw ∧
      (resumeErase b s).sav = s.sav ∧ (resumeErase b s).cel = s.cel ∧ (resumeErase b s).dmw = s.dmw ∧
      (resumeErase b s).nrg = s.nrg ∧ (resumeErase b s).gau = s.gau ∧ (resumeErase b s).rek = s.rek ∧
      (resumeErase b s).plk = s.plk ∧ (resumeErase b s).ecc = s.ecc ∧ (resumeErase b s).tws = s.tws ∧
      (resumeErase b s).twp = s.twp ∧ (resumeErase b s).svc = s.svc ∧ (resumeErase b s).log = s.log ∧
      (resumeErase b s).pwr = s.pwr ∧ (resumeErase b s).fpl = s.fpl ∧ (resumeErase b s).jtag = s.jtag ∧
      (resumeErase b s).fuses = s.fuses ∧ (resumeErase b s).cal = s.cal ∧ (resumeErase b s).out = s.out ∧
      (resumeErase b s).free = s.free ∧ (resumeErase b s).pending = s.pending := by
  have q1 := modBank_frame
  have q2 := noteSuspended_frame
  unfold resumeErase; (repeat' split) <;> simp_all

@[simp] theorem ownerStatus_frame (b master : Nat) (s : State) :
    (ownerStatus b master s).2.almanac = s.almanac ∧ (ownerStatus b master s).2.dev = s.dev ∧
      (ownerStatus b master s).2.stations = s.stations ∧ (ownerStatus b master s).2.hst = s.hst ∧
      (ownerStatus b master s).2.drc = s.drc ∧ (ownerStatus b master s).2.dram = s.dram ∧
      (ownerStatus b master s).2.cht = s.cht ∧ (ownerStatus b master s).2.sui = s.sui ∧
      (ownerStatus b master s).2.stw = s.stw ∧ (ownerStatus b master s).2.sav = s.sav ∧
      (ownerStatus b master s).2.cel = s.cel ∧ (ownerStatus b master s).2.dmw = s.dmw ∧
      (ownerStatus b master s).2.nrg = s.nrg ∧ (ownerStatus b master s).2.gau = s.gau ∧
      (ownerStatus b master s).2.rek = s.rek ∧ (ownerStatus b master s).2.plk = s.plk ∧
      (ownerStatus b master s).2.ecc = s.ecc ∧ (ownerStatus b master s).2.tws = s.tws ∧
      (ownerStatus b master s).2.twp = s.twp ∧ (ownerStatus b master s).2.svc = s.svc ∧
      (ownerStatus b master s).2.log = s.log ∧ (ownerStatus b master s).2.pwr = s.pwr ∧
      (ownerStatus b master s).2.fpl = s.fpl ∧ (ownerStatus b master s).2.jtag = s.jtag ∧
      (ownerStatus b master s).2.fuses = s.fuses ∧ (ownerStatus b master s).2.cal = s.cal ∧
      (ownerStatus b master s).2.out = s.out ∧ (ownerStatus b master s).2.free = s.free ∧
      (ownerStatus b master s).2.pending = s.pending := by
  have q1 := modBank_frame
  simp only [ownerStatus]; (repeat' split) <;> simp [q1]

@[simp] theorem readArray_frame (master offset : Nat) (reads : List (List Nat)) (s : State) :
    (readArray master offset reads s).2.almanac = s.almanac ∧ (readArray master offset reads s).2.fuses = s.fuses ∧
      (readArray master offset reads s).2.cal = s.cal ∧ (readArray master offset reads s).2.pending = s.pending := by
  have q1 := raiseAddr_frame
  have q2 := takeFree_frame
  simp only [readArray]; (repeat' split) <;> simp [q1, q2]

theorem readWindow_frame (master offset : Nat) (reads : List (List Nat)) (s : State) :
    (readWindow master offset reads s).2.almanac = s.almanac ∧ (readWindow master offset reads s).2.fuses = s.fuses ∧
      (readWindow master offset reads s).2.cal = s.cal ∧
      (readWindow master offset reads s).2.pending = s.pending := ⟨(by apply readWindow_keeps (fun (s : State) => s.almanac) <;> (intros; simp)), (by apply readWindow_keeps (fun (s : State) => s.fuses) <;> (intros; simp)), (by apply readWindow_keeps (fun (s : State) => s.cal) <;> (intros; simp)), (by apply readWindow_keeps (fun (s : State) => s.pending) <;> (intros; simp))⟩

theorem execAtticProgram_frame (master bank : Nat) (cycles : List AtticCycle) (s : State) :
    (resAfter (execAtticProgram master bank cycles s) s).almanac = s.almanac ∧
      (resAfter (execAtticProgram master bank cycles s) s).fuses = s.fuses ∧
      (resAfter (execAtticProgram master bank cycles s) s).cal = s.cal ∧
      (resAfter (execAtticProgram master bank cycles s) s).pending = s.pending := by
  have q1 := atticCycles_frame
  simp [q1, execAtticProgram]

theorem execAtticRowProgram_frame (master bank : Nat) (cycles : List AtticCycle) (s : State) :
    (resAfter (execAtticRowProgram master bank cycles s) s).almanac = s.almanac ∧
      (resAfter (execAtticRowProgram master bank cycles s) s).fuses = s.fuses ∧
      (resAfter (execAtticRowProgram master bank cycles s) s).cal = s.cal ∧
      (resAfter (execAtticRowProgram master bank cycles s) s).pending = s.pending := by
  have q1 := atticCycles_frame
  simp [q1, execAtticRowProgram]

theorem execAtticSectorErase_frame (master bank : Nat) (cycles : List AtticCycle) (s : State) :
    (resAfter (execAtticSectorErase master bank cycles s) s).almanac = s.almanac ∧
      (resAfter (execAtticSectorErase master bank cycles s) s).fuses = s.fuses ∧
      (resAfter (execAtticSectorErase master bank cycles s) s).cal = s.cal ∧
      (resAfter (execAtticSectorErase master bank cycles s) s).pending = s.pending := by
  have q1 := atticCycles_frame
  simp [q1, execAtticSectorErase]

theorem execAtticRecover_frame (master bank : Nat) (cycles : List AtticCycle) (s : State) :
    (resAfter (execAtticRecover master bank cycles s) s).almanac = s.almanac ∧
      (resAfter (execAtticRecover master bank cycles s) s).fuses = s.fuses ∧
      (resAfter (execAtticRecover master bank cycles s) s).cal = s.cal ∧
      (resAfter (execAtticRecover master bank cycles s) s).pending = s.pending := by
  have q1 := atticCycles_frame
  simp [q1, execAtticRecover]

theorem execAtticSuspend_frame (master bank : Nat) (s : State) :
    (resAfter (execAtticSuspend master bank s) s).almanac = s.almanac ∧
      (resAfter (execAtticSuspend master bank s) s).fuses = s.fuses ∧
      (resAfter (execAtticSuspend master bank s) s).cal = s.cal ∧
      (resAfter (execAtticSuspend master bank s) s).pending = s.pending := by
  simp [execAtticSuspend]

theorem resumeBank_frame (b : Nat) (s : State) :
    (resumeBank b s).almanac = s.almanac ∧ (resumeBank b s).dev = s.dev ∧ (resumeBank b s).stations = s.stations ∧
      (resumeBank b s).hst = s.hst ∧ (resumeBank b s).drc = s.drc ∧ (resumeBank b s).dram = s.dram ∧
      (resumeBank b s).cht = s.cht ∧ (resumeBank b s).sui = s.sui ∧ (resumeBank b s).stw = s.stw ∧
      (resumeBank b s).sav = s.sav ∧ (resumeBank b s).cel = s.cel ∧ (resumeBank b s).dmw = s.dmw ∧
      (resumeBank b s).nrg = s.nrg ∧ (resumeBank b s).gau = s.gau ∧ (resumeBank b s).rek = s.rek ∧
      (resumeBank b s).plk = s.plk ∧ (resumeBank b s).ecc = s.ecc ∧ (resumeBank b s).tws = s.tws ∧
      (resumeBank b s).twp = s.twp ∧ (resumeBank b s).svc = s.svc ∧ (resumeBank b s).log = s.log ∧
      (resumeBank b s).pwr = s.pwr ∧ (resumeBank b s).fpl = s.fpl ∧ (resumeBank b s).jtag = s.jtag ∧
      (resumeBank b s).fuses = s.fuses ∧ (resumeBank b s).cal = s.cal ∧ (resumeBank b s).out = s.out ∧
      (resumeBank b s).free = s.free ∧ (resumeBank b s).pending = s.pending := by
  have q1 := modBank_frame
  have q2 := resumeErase_frame
  unfold resumeBank; (repeat' split) <;> simp_all

theorem execAtticResume_frame (master bank : Nat) (s : State) :
    (resAfter (execAtticResume master bank s) s).almanac = s.almanac ∧
      (resAfter (execAtticResume master bank s) s).fuses = s.fuses ∧ (resAfter (execAtticResume master bank s) s).cal = s.cal ∧
      (resAfter (execAtticResume master bank s) s).pending = s.pending := by
  have q1 := resumeBank_frame
  simp [q1, execAtticResume]

theorem execAtticReadReset_frame (master bank : Nat) (s : State) :
    (resAfter (execAtticReadReset master bank s) s).almanac = s.almanac ∧
      (resAfter (execAtticReadReset master bank s) s).fuses = s.fuses ∧
      (resAfter (execAtticReadReset master bank s) s).cal = s.cal ∧
      (resAfter (execAtticReadReset master bank s) s).pending = s.pending := by
  have q1 := modBank_frame
  simp [q1, execAtticReadReset]

theorem execAtticSeqTimeout_frame (bank : Nat) (s : State) :
    (resAfter (execAtticSeqTimeout bank s) s).almanac = s.almanac ∧ (resAfter (execAtticSeqTimeout bank s) s).fuses = s.fuses ∧
      (resAfter (execAtticSeqTimeout bank s) s).cal = s.cal ∧ (resAfter (execAtticSeqTimeout bank s) s).pending = s.pending := by
  have q1 := modBank_frame
  have q2 := seqError_frame
  unfold execAtticSeqTimeout; (repeat' split) <;> simp_all

theorem execAtticBadAccess_frame (master offset : Nat) (s : State) :
    (resAfter (execAtticBadAccess master offset s) s).almanac = s.almanac ∧
      (resAfter (execAtticBadAccess master offset s) s).fuses = s.fuses ∧
      (resAfter (execAtticBadAccess master offset s) s).cal = s.cal ∧
      (resAfter (execAtticBadAccess master offset s) s).pending = s.pending := by
  have q1 := raiseAddr_frame
  simp [q1, execAtticBadAccess]

theorem execAtticProgramDone_frame (bank : Nat) (pass : Bool) (s : State) :
    (resAfter (execAtticProgramDone bank pass s) s).almanac = s.almanac ∧
      (resAfter (execAtticProgramDone bank pass s) s).fuses = s.fuses ∧
      (resAfter (execAtticProgramDone bank pass s) s).cal = s.cal ∧
      (resAfter (execAtticProgramDone bank pass s) s).pending = s.pending := by
  have q1 := modBank_frame
  have q2 := raiseOpError_frame
  have q3 := tearWords_frame
  unfold execAtticProgramDone; (repeat' split) <;> simp_all

theorem afterErase_frame (b : Nat) (o : AtticOp) (s : State) :
    (afterErase b o s).almanac = s.almanac ∧ (afterErase b o s).fuses = s.fuses ∧ (afterErase b o s).cal = s.cal ∧
      (afterErase b o s).pending = s.pending := by
  have q1 := beginErase_frame
  have q2 := beginReErase_frame
  simp [q1, q2, afterErase]

theorem finishRecover_frame (b : Nat) (o : AtticOp) (twinUe : Bool) (s : State) :
    (finishRecover b o twinUe s).almanac = s.almanac ∧ (finishRecover b o twinUe s).fuses = s.fuses ∧
      (finishRecover b o twinUe s).cal = s.cal ∧ (finishRecover b o twinUe s).pending = s.pending := by
  have q1 := modBank_frame
  have q2 := raiseAddr_frame
  have q3 := raiseOpError_frame
  have q4 := rebuildWords_frame
  simp [q1, q2, q3, q4, finishRecover]

theorem sealErase_frame (b : Nat) (o : AtticOp) (twinUe : Bool) (s : State) :
    (sealErase b o twinUe s).almanac = s.almanac ∧ (sealErase b o twinUe s).fuses = s.fuses ∧
      (sealErase b o twinUe s).pending = s.pending := by
  have q1 := afterErase_frame
  have q2 := eraseWords_frame
  have q3 := finishRecover_frame
  have q4 := modBank_frame
  have q5 := noteSuspended_frame
  simp [q1, q2, q3, q4, q5, sealErase]

theorem execAtticErasePulseDone_frame (bank : Nat) (pass twinUe : Bool) (s : State) :
    (resAfter (execAtticErasePulseDone bank pass twinUe s) s).almanac = s.almanac ∧
      (resAfter (execAtticErasePulseDone bank pass twinUe s) s).fuses = s.fuses ∧
      (resAfter (execAtticErasePulseDone bank pass twinUe s) s).pending = s.pending := by
  have q1 := modBank_frame
  have q2 := noteSuspended_frame
  have q3 := raiseOpError_frame
  have q4 := sealErase_frame
  simp only [execAtticErasePulseDone]; (repeat' split) <;> simp [q1, q2, q3, q4]

theorem execAtticAutoResume_frame (bank : Nat) (s : State) :
    (resAfter (execAtticAutoResume bank s) s).almanac = s.almanac ∧ (resAfter (execAtticAutoResume bank s) s).dev = s.dev ∧
      (resAfter (execAtticAutoResume bank s) s).stations = s.stations ∧ (resAfter (execAtticAutoResume bank s) s).hst = s.hst ∧
      (resAfter (execAtticAutoResume bank s) s).drc = s.drc ∧ (resAfter (execAtticAutoResume bank s) s).dram = s.dram ∧
      (resAfter (execAtticAutoResume bank s) s).cht = s.cht ∧ (resAfter (execAtticAutoResume bank s) s).sui = s.sui ∧
      (resAfter (execAtticAutoResume bank s) s).stw = s.stw ∧ (resAfter (execAtticAutoResume bank s) s).sav = s.sav ∧
      (resAfter (execAtticAutoResume bank s) s).cel = s.cel ∧ (resAfter (execAtticAutoResume bank s) s).dmw = s.dmw ∧
      (resAfter (execAtticAutoResume bank s) s).nrg = s.nrg ∧ (resAfter (execAtticAutoResume bank s) s).gau = s.gau ∧
      (resAfter (execAtticAutoResume bank s) s).rek = s.rek ∧ (resAfter (execAtticAutoResume bank s) s).plk = s.plk ∧
      (resAfter (execAtticAutoResume bank s) s).ecc = s.ecc ∧ (resAfter (execAtticAutoResume bank s) s).tws = s.tws ∧
      (resAfter (execAtticAutoResume bank s) s).twp = s.twp ∧ (resAfter (execAtticAutoResume bank s) s).svc = s.svc ∧
      (resAfter (execAtticAutoResume bank s) s).log = s.log ∧ (resAfter (execAtticAutoResume bank s) s).pwr = s.pwr ∧
      (resAfter (execAtticAutoResume bank s) s).fpl = s.fpl ∧ (resAfter (execAtticAutoResume bank s) s).jtag = s.jtag ∧
      (resAfter (execAtticAutoResume bank s) s).fuses = s.fuses ∧ (resAfter (execAtticAutoResume bank s) s).cal = s.cal ∧
      (resAfter (execAtticAutoResume bank s) s).out = s.out ∧ (resAfter (execAtticAutoResume bank s) s).free = s.free ∧
      (resAfter (execAtticAutoResume bank s) s).pending = s.pending := by
  have q1 := resumeErase_frame
  unfold execAtticAutoResume; (repeat' split) <;> simp_all

theorem execFetchFault_frame (master offset : Nat) (s : State) :
    (resAfter (execFetchFault master offset s) s).almanac = s.almanac ∧
      (resAfter (execFetchFault master offset s) s).fuses = s.fuses ∧
      (resAfter (execFetchFault master offset s) s).cal = s.cal ∧
      (resAfter (execFetchFault master offset s) s).pending = s.pending := by
  have q1 := raiseAddr_frame
  simp only [execFetchFault]; (repeat' split) <;> simp [q1]

theorem execEraseStarve_frame (bank : Nat) (s : State) :
    (resAfter (execEraseStarve bank s) s).fuses = s.fuses ∧ (resAfter (execEraseStarve bank s) s).cal = s.cal ∧
      (resAfter (execEraseStarve bank s) s).pending = s.pending := by
  have q1 := advanceTo_frame
  have q2 := modBank_frame
  have q3 := noteSuspended_frame
  have q4 := raiseAddr_frame
  unfold execEraseStarve; (repeat' split) <;> simp_all

theorem scanBank_frame (b : Nat) (s : State) :
    (scanBank b s).almanac = s.almanac ∧ (scanBank b s).fuses = s.fuses ∧ (scanBank b s).cal = s.cal ∧
      (scanBank b s).pending = s.pending := by
  have q1 := beginReErase_frame
  have q2 := modBank_frame
  have q3 := noteWear_frame
  have q4 := raiseAddr_frame
  simp [q1, q2, q3, q4, scanBank]

theorem execAtticBootScan_frame (lostSeals : List Nat) (s : State) :
    (resAfter (execAtticBootScan lostSeals s) s).almanac = s.almanac ∧
      (resAfter (execAtticBootScan lostSeals s) s).fuses = s.fuses ∧ (resAfter (execAtticBootScan lostSeals s) s).cal = s.cal ∧
      (resAfter (execAtticBootScan lostSeals s) s).pending = s.pending := by
  have q1 := modBank_frame
  have q2 := scanBank_frame
  unfold execAtticBootScan; (repeat' split) <;> simp_all

theorem brownBank_frame (b : Nat) (s : State) :
    (brownBank b s).almanac = s.almanac ∧ (brownBank b s).fuses = s.fuses ∧ (brownBank b s).cal = s.cal ∧
      (brownBank b s).pending = s.pending := by
  have q1 := cutOp_frame
  have q2 := cutProg_frame
  have q3 := raiseAddr_frame
  simp only [brownBank]; (repeat' split) <;> simp [q1, q2, q3]

theorem execAtticBrownout_frame (s : State) :
    (resAfter (execAtticBrownout s) s).almanac = s.almanac ∧ (resAfter (execAtticBrownout s) s).fuses = s.fuses ∧
      (resAfter (execAtticBrownout s) s).cal = s.cal ∧ (resAfter (execAtticBrownout s) s).pending = s.pending := by
  have q1 := brownBank_frame
  simp [q1, execAtticBrownout]

theorem noteEntry_frame (sc beat : Nat) (s : State) :
    (noteEntry sc beat s).almanac = s.almanac ∧ (noteEntry sc beat s).dev = s.dev ∧
      (noteEntry sc beat s).stations = s.stations ∧ (noteEntry sc beat s).hst = s.hst ∧ (noteEntry sc beat s).dram = s.dram ∧
      (noteEntry sc beat s).cht = s.cht ∧ (noteEntry sc beat s).sui = s.sui ∧ (noteEntry sc beat s).stw = s.stw ∧
      (noteEntry sc beat s).sav = s.sav ∧ (noteEntry sc beat s).cel = s.cel ∧ (noteEntry sc beat s).dmw = s.dmw ∧
      (noteEntry sc beat s).nrg = s.nrg ∧ (noteEntry sc beat s).gau = s.gau ∧ (noteEntry sc beat s).rek = s.rek ∧
      (noteEntry sc beat s).plk = s.plk ∧ (noteEntry sc beat s).att = s.att ∧ (noteEntry sc beat s).ecc = s.ecc ∧
      (noteEntry sc beat s).tws = s.tws ∧ (noteEntry sc beat s).twp = s.twp ∧ (noteEntry sc beat s).svc = s.svc ∧
      (noteEntry sc beat s).log = s.log ∧ (noteEntry sc beat s).pwr = s.pwr ∧ (noteEntry sc beat s).fpl = s.fpl ∧
      (noteEntry sc beat s).jtag = s.jtag ∧ (noteEntry sc beat s).fuses = s.fuses ∧ (noteEntry sc beat s).cal = s.cal ∧
      (noteEntry sc beat s).out = s.out ∧ (noteEntry sc beat s).free = s.free ∧ (noteEntry sc beat s).pending = s.pending := by
  have q1 := modSubch_frame
  simp [q1, noteEntry]

theorem enqueue_frame (src beat : Nat) (k : DrcKind) (s : State) :
    (enqueue src beat k s).almanac = s.almanac ∧ (enqueue src beat k s).dev = s.dev ∧
      (enqueue src beat k s).stations = s.stations ∧ (enqueue src beat k s).hst = s.hst ∧
      (enqueue src beat k s).dram = s.dram ∧ (enqueue src beat k s).cht = s.cht ∧ (enqueue src beat k s).sui = s.sui ∧
      (enqueue src beat k s).stw = s.stw ∧ (enqueue src beat k s).sav = s.sav ∧ (enqueue src beat k s).cel = s.cel ∧
      (enqueue src beat k s).dmw = s.dmw ∧ (enqueue src beat k s).nrg = s.nrg ∧ (enqueue src beat k s).gau = s.gau ∧
      (enqueue src beat k s).rek = s.rek ∧ (enqueue src beat k s).plk = s.plk ∧ (enqueue src beat k s).att = s.att ∧
      (enqueue src beat k s).ecc = s.ecc ∧ (enqueue src beat k s).tws = s.tws ∧ (enqueue src beat k s).twp = s.twp ∧
      (enqueue src beat k s).svc = s.svc ∧ (enqueue src beat k s).log = s.log ∧ (enqueue src beat k s).pwr = s.pwr ∧
      (enqueue src beat k s).fpl = s.fpl ∧ (enqueue src beat k s).jtag = s.jtag ∧ (enqueue src beat k s).fuses = s.fuses ∧
      (enqueue src beat k s).cal = s.cal ∧ (enqueue src beat k s).out = s.out ∧ (enqueue src beat k s).free = s.free ∧
      (enqueue src beat k s).pending = s.pending := by
  have q1 := noteEntry_frame
  unfold enqueue; (repeat' split) <;> simp_all

theorem enqueueWrite_frame (src : Nat) (w : BeatWrite) (tag : Option Nat) (s : State) :
    (enqueueWrite src w tag s).almanac = s.almanac ∧ (enqueueWrite src w tag s).fuses = s.fuses ∧
      (enqueueWrite src w tag s).cal = s.cal ∧ (enqueueWrite src w tag s).pending = s.pending := by
  have q1 := enqueue_frame
  have q2 := writeEvent_frame
  simp [q1, q2, enqueueWrite]

theorem fillPool_frame (sc : Nat) (s : State) :
    (fillPool sc s).almanac = s.almanac ∧ (fillPool sc s).fuses = s.fuses ∧ (fillPool sc s).cal = s.cal ∧
      (fillPool sc s).pending = s.pending := by
  have q1 := modSubch_frame
  have q2 := noteEntry_frame
  have q3 := writeEvent_frame
  simp [q1, q2, q3, fillPool]

theorem callSubch_frame (l : List Nat) (s : State) :
    (callSubch l s).almanac = s.almanac ∧ (callSubch l s).dev = s.dev ∧ (callSubch l s).stations = s.stations ∧
      (callSubch l s).hst = s.hst ∧ (callSubch l s).dram = s.dram ∧ (callSubch l s).cht = s.cht ∧ (callSubch l s).sui = s.sui ∧
      (callSubch l s).stw = s.stw ∧ (callSubch l s).sav = s.sav ∧ (callSubch l s).cel = s.cel ∧ (callSubch l s).dmw = s.dmw ∧
      (callSubch l s).nrg = s.nrg ∧ (callSubch l s).gau = s.gau ∧ (callSubch l s).rek = s.rek ∧ (callSubch l s).plk = s.plk ∧
      (callSubch l s).att = s.att ∧ (callSubch l s).ecc = s.ecc ∧ (callSubch l s).tws = s.tws ∧ (callSubch l s).twp = s.twp ∧
      (callSubch l s).svc = s.svc ∧ (callSubch l s).log = s.log ∧ (callSubch l s).pwr = s.pwr ∧ (callSubch l s).fpl = s.fpl ∧
      (callSubch l s).jtag = s.jtag ∧ (callSubch l s).fuses = s.fuses ∧ (callSubch l s).cal = s.cal ∧
      (callSubch l s).out = s.out ∧ (callSubch l s).free = s.free ∧ (callSubch l s).pending = s.pending := by
  simp [callSubch]

theorem callTile_frame (t : Nat) (s : State) :
    (callTile t s).almanac = s.almanac ∧ (callTile t s).dev = s.dev ∧ (callTile t s).stations = s.stations ∧
      (callTile t s).hst = s.hst ∧ (callTile t s).dram = s.dram ∧ (callTile t s).cht = s.cht ∧ (callTile t s).sui = s.sui ∧
      (callTile t s).stw = s.stw ∧ (callTile t s).sav = s.sav ∧ (callTile t s).cel = s.cel ∧ (callTile t s).dmw = s.dmw ∧
      (callTile t s).nrg = s.nrg ∧ (callTile t s).gau = s.gau ∧ (callTile t s).rek = s.rek ∧ (callTile t s).plk = s.plk ∧
      (callTile t s).att = s.att ∧ (callTile t s).ecc = s.ecc ∧ (callTile t s).tws = s.tws ∧ (callTile t s).twp = s.twp ∧
      (callTile t s).svc = s.svc ∧ (callTile t s).log = s.log ∧ (callTile t s).pwr = s.pwr ∧ (callTile t s).fpl = s.fpl ∧
      (callTile t s).jtag = s.jtag ∧ (callTile t s).fuses = s.fuses ∧ (callTile t s).cal = s.cal ∧ (callTile t s).out = s.out ∧
      (callTile t s).free = s.free ∧ (callTile t s).pending = s.pending := by
  have q1 := callSubch_frame
  simp [q1, callTile]

theorem activate_frame (sc bank row : Nat) (turn : Bool) (s : State) :
    (activate sc bank row turn s).almanac = s.almanac ∧ (activate sc bank row turn s).dev = s.dev ∧
      (activate sc bank row turn s).stations = s.stations ∧ (activate sc bank row turn s).hst = s.hst ∧
      (activate sc bank row turn s).dram = s.dram ∧ (activate sc bank row turn s).cht = s.cht ∧
      (activate sc bank row turn s).sui = s.sui ∧ (activate sc bank row turn s).stw = s.stw ∧
      (activate sc bank row turn s).sav = s.sav ∧ (activate sc bank row turn s).cel = s.cel ∧
      (activate sc bank row turn s).dmw = s.dmw ∧ (activate sc bank row turn s).nrg = s.nrg ∧
      (activate sc bank row turn s).gau = s.gau ∧ (activate sc bank row turn s).rek = s.rek ∧
      (activate sc bank row turn s).plk = s.plk ∧ (activate sc bank row turn s).att = s.att ∧
      (activate sc bank row turn s).ecc = s.ecc ∧ (activate sc bank row turn s).tws = s.tws ∧
      (activate sc bank row turn s).twp = s.twp ∧ (activate sc bank row turn s).svc = s.svc ∧
      (activate sc bank row turn s).log = s.log ∧ (activate sc bank row turn s).pwr = s.pwr ∧
      (activate sc bank row turn s).fpl = s.fpl ∧ (activate sc bank row turn s).jtag = s.jtag ∧
      (activate sc bank row turn s).fuses = s.fuses ∧ (activate sc bank row turn s).cal = s.cal ∧
      (activate sc bank row turn s).out = s.out ∧ (activate sc bank row turn s).pending = s.pending := by
  have q1 := modSubch_frame
  have q2 := takeFree_frame
  simp [q1, q2, activate]

theorem payRfm_frame (sc bank : Nat) (s : State) :
    (payRfm sc bank s).almanac = s.almanac ∧ (payRfm sc bank s).dev = s.dev ∧ (payRfm sc bank s).stations = s.stations ∧
      (payRfm sc bank s).hst = s.hst ∧ (payRfm sc bank s).dram = s.dram ∧ (payRfm sc bank s).cht = s.cht ∧
      (payRfm sc bank s).sui = s.sui ∧ (payRfm sc bank s).stw = s.stw ∧ (payRfm sc bank s).sav = s.sav ∧
      (payRfm sc bank s).cel = s.cel ∧ (payRfm sc bank s).dmw = s.dmw ∧ (payRfm sc bank s).nrg = s.nrg ∧
      (payRfm sc bank s).gau = s.gau ∧ (payRfm sc bank s).rek = s.rek ∧ (payRfm sc bank s).plk = s.plk ∧
      (payRfm sc bank s).att = s.att ∧ (payRfm sc bank s).ecc = s.ecc ∧ (payRfm sc bank s).tws = s.tws ∧
      (payRfm sc bank s).twp = s.twp ∧ (payRfm sc bank s).svc = s.svc ∧ (payRfm sc bank s).log = s.log ∧
      (payRfm sc bank s).pwr = s.pwr ∧ (payRfm sc bank s).fpl = s.fpl ∧ (payRfm sc bank s).jtag = s.jtag ∧
      (payRfm sc bank s).fuses = s.fuses ∧ (payRfm sc bank s).cal = s.cal ∧ (payRfm sc bank s).out = s.out ∧
      (payRfm sc bank s).free = s.free ∧ (payRfm sc bank s).pending = s.pending := by
  have q1 := modSubch_frame
  simp [q1, payRfm]

theorem openFor_frame (s : State) (dpa : Nat) :
    (openFor s dpa).almanac = s.almanac ∧ (openFor s dpa).dev = s.dev ∧ (openFor s dpa).stations = s.stations ∧
      (openFor s dpa).hst = s.hst ∧ (openFor s dpa).dram = s.dram ∧ (openFor s dpa).cht = s.cht ∧ (openFor s dpa).sui = s.sui ∧
      (openFor s dpa).stw = s.stw ∧ (openFor s dpa).sav = s.sav ∧ (openFor s dpa).cel = s.cel ∧ (openFor s dpa).dmw = s.dmw ∧
      (openFor s dpa).nrg = s.nrg ∧ (openFor s dpa).gau = s.gau ∧ (openFor s dpa).rek = s.rek ∧ (openFor s dpa).plk = s.plk ∧
      (openFor s dpa).att = s.att ∧ (openFor s dpa).ecc = s.ecc ∧ (openFor s dpa).tws = s.tws ∧ (openFor s dpa).twp = s.twp ∧
      (openFor s dpa).svc = s.svc ∧ (openFor s dpa).log = s.log ∧ (openFor s dpa).pwr = s.pwr ∧ (openFor s dpa).fpl = s.fpl ∧
      (openFor s dpa).jtag = s.jtag ∧ (openFor s dpa).fuses = s.fuses ∧ (openFor s dpa).cal = s.cal ∧
      (openFor s dpa).out = s.out ∧ (openFor s dpa).pending = s.pending := by
  have q1 := activate_frame
  have q2 := payRfm_frame
  unfold openFor; (repeat' split) <;> simp_all

theorem tileAccess_frame (t : Nat) (s : State) :
    (tileAccess t s).almanac = s.almanac ∧ (tileAccess t s).dev = s.dev ∧ (tileAccess t s).stations = s.stations ∧
      (tileAccess t s).hst = s.hst ∧ (tileAccess t s).dram = s.dram ∧ (tileAccess t s).cht = s.cht ∧
      (tileAccess t s).sui = s.sui ∧ (tileAccess t s).stw = s.stw ∧ (tileAccess t s).sav = s.sav ∧
      (tileAccess t s).cel = s.cel ∧ (tileAccess t s).dmw = s.dmw ∧ (tileAccess t s).nrg = s.nrg ∧
      (tileAccess t s).gau = s.gau ∧ (tileAccess t s).rek = s.rek ∧ (tileAccess t s).plk = s.plk ∧
      (tileAccess t s).att = s.att ∧ (tileAccess t s).ecc = s.ecc ∧ (tileAccess t s).tws = s.tws ∧
      (tileAccess t s).twp = s.twp ∧ (tileAccess t s).svc = s.svc ∧ (tileAccess t s).log = s.log ∧
      (tileAccess t s).pwr = s.pwr ∧ (tileAccess t s).fpl = s.fpl ∧ (tileAccess t s).jtag = s.jtag ∧
      (tileAccess t s).fuses = s.fuses ∧ (tileAccess t s).cal = s.cal ∧ (tileAccess t s).out = s.out ∧
      (tileAccess t s).pending = s.pending := by
  have q1 := callTile_frame
  have q2 := openFor_frame
  simp [q1, q2, tileAccess]

theorem beatAccess_frame (beat : Nat) (s : State) :
    (beatAccess beat s).almanac = s.almanac ∧ (beatAccess beat s).dev = s.dev ∧ (beatAccess beat s).stations = s.stations ∧
      (beatAccess beat s).hst = s.hst ∧ (beatAccess beat s).dram = s.dram ∧ (beatAccess beat s).cht = s.cht ∧
      (beatAccess beat s).sui = s.sui ∧ (beatAccess beat s).stw = s.stw ∧ (beatAccess beat s).sav = s.sav ∧
      (beatAccess beat s).cel = s.cel ∧ (beatAccess beat s).dmw = s.dmw ∧ (beatAccess beat s).nrg = s.nrg ∧
      (beatAccess beat s).gau = s.gau ∧ (beatAccess beat s).rek = s.rek ∧ (beatAccess beat s).plk = s.plk ∧
      (beatAccess beat s).att = s.att ∧ (beatAccess beat s).ecc = s.ecc ∧ (beatAccess beat s).tws = s.tws ∧
      (beatAccess beat s).twp = s.twp ∧ (beatAccess beat s).svc = s.svc ∧ (beatAccess beat s).log = s.log ∧
      (beatAccess beat s).pwr = s.pwr ∧ (beatAccess beat s).fpl = s.fpl ∧ (beatAccess beat s).jtag = s.jtag ∧
      (beatAccess beat s).fuses = s.fuses ∧ (beatAccess beat s).cal = s.cal ∧ (beatAccess beat s).out = s.out ∧
      (beatAccess beat s).pending = s.pending := by
  have q1 := callSubch_frame
  have q2 := openFor_frame
  simp [q1, q2, beatAccess]

theorem uncorrectable_frame (beat mstr : Nat) (later : Bool) (s : State) :
    (uncorrectable beat mstr later s).almanac = s.almanac ∧ (uncorrectable beat mstr later s).fuses = s.fuses ∧
      (uncorrectable beat mstr later s).cal = s.cal ∧ (uncorrectable beat mstr later s).pending = s.pending := by
  have q1 := addEvent_frame
  have q2 := listPoison_frame
  have q3 := modSubch_frame
  have q4 := poisonBeat_frame
  have q5 := raiseAddr_frame
  have q6 := writeEvent_frame
  simp only [uncorrectable]; (repeat' split) <;> simp [q1, q2, q3, q4, q5, q6]

theorem modSet_frame (k : Nat) (f : MirrorSet → MirrorSet) (s : State) :
    (modSet k f s).almanac = s.almanac ∧ (modSet k f s).dev = s.dev ∧ (modSet k f s).stations = s.stations ∧
      (modSet k f s).hst = s.hst ∧ (modSet k f s).drc = s.drc ∧ (modSet k f s).dram = s.dram ∧ (modSet k f s).cht = s.cht ∧
      (modSet k f s).sui = s.sui ∧ (modSet k f s).stw = s.stw ∧ (modSet k f s).sav = s.sav ∧ (modSet k f s).cel = s.cel ∧
      (modSet k f s).dmw = s.dmw ∧ (modSet k f s).nrg = s.nrg ∧ (modSet k f s).gau = s.gau ∧ (modSet k f s).rek = s.rek ∧
      (modSet k f s).att = s.att ∧ (modSet k f s).ecc = s.ecc ∧ (modSet k f s).tws = s.tws ∧ (modSet k f s).twp = s.twp ∧
      (modSet k f s).svc = s.svc ∧ (modSet k f s).log = s.log ∧ (modSet k f s).pwr = s.pwr ∧ (modSet k f s).fpl = s.fpl ∧
      (modSet k f s).jtag = s.jtag ∧ (modSet k f s).fuses = s.fuses ∧ (modSet k f s).cal = s.cal ∧ (modSet k f s).out = s.out ∧
      (modSet k f s).free = s.free ∧ (modSet k f s).pending = s.pending := by
  simp [modSet]

theorem markDrift_frame (k room : Nat) (s : State) :
    (markDrift k room s).almanac = s.almanac ∧ (markDrift k room s).dev = s.dev ∧ (markDrift k room s).stations = s.stations ∧
      (markDrift k room s).hst = s.hst ∧ (markDrift k room s).drc = s.drc ∧ (markDrift k room s).dram = s.dram ∧
      (markDrift k room s).cht = s.cht ∧ (markDrift k room s).sui = s.sui ∧ (markDrift k room s).stw = s.stw ∧
      (markDrift k room s).sav = s.sav ∧ (markDrift k room s).cel = s.cel ∧ (markDrift k room s).dmw = s.dmw ∧
      (markDrift k room s).nrg = s.nrg ∧ (markDrift k room s).gau = s.gau ∧ (markDrift k room s).rek = s.rek ∧
      (markDrift k room s).att = s.att ∧ (markDrift k room s).ecc = s.ecc ∧ (markDrift k room s).tws = s.tws ∧
      (markDrift k room s).twp = s.twp ∧ (markDrift k room s).svc = s.svc ∧ (markDrift k room s).log = s.log ∧
      (markDrift k room s).pwr = s.pwr ∧ (markDrift k room s).fpl = s.fpl ∧ (markDrift k room s).jtag = s.jtag ∧
      (markDrift k room s).fuses = s.fuses ∧ (markDrift k room s).cal = s.cal ∧ (markDrift k room s).out = s.out ∧
      (markDrift k room s).free = s.free ∧ (markDrift k room s).pending = s.pending := by
  have q1 := modSet_frame
  simp [q1, markDrift]

theorem mirrorAccept_frame (k : Nat) (w : BeatWrite) (tag : Option Nat) (old : Bool) (s : State) :
    (mirrorAccept k w tag old s).2.almanac = s.almanac ∧ (mirrorAccept k w tag old s).2.dev = s.dev ∧
      (mirrorAccept k w tag old s).2.stations = s.stations ∧ (mirrorAccept k w tag old s).2.hst = s.hst ∧
      (mirrorAccept k w tag old s).2.drc = s.drc ∧ (mirrorAccept k w tag old s).2.dram = s.dram ∧
      (mirrorAccept k w tag old s).2.cht = s.cht ∧ (mirrorAccept k w tag old s).2.sui = s.sui ∧
      (mirrorAccept k w tag old s).2.stw = s.stw ∧ (mirrorAccept k w tag old s).2.sav = s.sav ∧
      (mirrorAccept k w tag old s).2.cel = s.cel ∧ (mirrorAccept k w tag old s).2.dmw = s.dmw ∧
      (mirrorAccept k w tag old s).2.nrg = s.nrg ∧ (mirrorAccept k w tag old s).2.gau = s.gau ∧
      (mirrorAccept k w tag old s).2.rek = s.rek ∧ (mirrorAccept k w tag old s).2.att = s.att ∧
      (mirrorAccept k w tag old s).2.ecc = s.ecc ∧ (mirrorAccept k w tag old s).2.tws = s.tws ∧
      (mirrorAccept k w tag old s).2.twp = s.twp ∧ (mirrorAccept k w tag old s).2.svc = s.svc ∧
      (mirrorAccept k w tag old s).2.log = s.log ∧ (mirrorAccept k w tag old s).2.pwr = s.pwr ∧
      (mirrorAccept k w tag old s).2.fpl = s.fpl ∧ (mirrorAccept k w tag old s).2.jtag = s.jtag ∧
      (mirrorAccept k w tag old s).2.fuses = s.fuses ∧ (mirrorAccept k w tag old s).2.cal = s.cal ∧
      (mirrorAccept k w tag old s).2.out = s.out ∧ (mirrorAccept k w tag old s).2.free = s.free ∧
      (mirrorAccept k w tag old s).2.pending = s.pending := by
  have q1 := markDrift_frame
  have q2 := modSet_frame
  simp only [mirrorAccept]; (repeat' split) <;> simp [q1, q2]

theorem watchRecord_frame (dpa op len : Nat) (s : State) :
    (watchRecord dpa op len s).almanac = s.almanac ∧ (watchRecord dpa op len s).dev = s.dev ∧
      (watchRecord dpa op len s).stations = s.stations ∧ (watchRecord dpa op len s).hst = s.hst ∧
      (watchRecord dpa op len s).drc = s.drc ∧ (watchRecord dpa op len s).dram = s.dram ∧
      (watchRecord dpa op len s).cht = s.cht ∧ (watchRecord dpa op len s).sui = s.sui ∧
      (watchRecord dpa op len s).stw = s.stw ∧ (watchRecord dpa op len s).sav = s.sav ∧
      (watchRecord dpa op len s).cel = s.cel ∧ (watchRecord dpa op len s).dmw = s.dmw ∧
      (watchRecord dpa op len s).nrg = s.nrg ∧ (watchRecord dpa op len s).gau = s.gau ∧
      (watchRecord dpa op len s).rek = s.rek ∧ (watchRecord dpa op len s).att = s.att ∧
      (watchRecord dpa op len s).ecc = s.ecc ∧ (watchRecord dpa op len s).tws = s.tws ∧
      (watchRecord dpa op len s).twp = s.twp ∧ (watchRecord dpa op len s).svc = s.svc ∧
      (watchRecord dpa op len s).log = s.log ∧ (watchRecord dpa op len s).pwr = s.pwr ∧
      (watchRecord dpa op len s).fpl = s.fpl ∧ (watchRecord dpa op len s).jtag = s.jtag ∧
      (watchRecord dpa op len s).fuses = s.fuses ∧ (watchRecord dpa op len s).cal = s.cal ∧
      (watchRecord dpa op len s).out = s.out ∧ (watchRecord dpa op len s).free = s.free ∧
      (watchRecord dpa op len s).pending = s.pending := by
  have q1 := modSet_frame
  unfold watchRecord; (repeat' split) <;> simp_all

theorem demandFetch_frame (room : Nat) (s : State) :
    (demandFetch room s).almanac = s.almanac ∧ (demandFetch room s).dev = s.dev ∧ (demandFetch room s).stations = s.stations ∧
      (demandFetch room s).hst = s.hst ∧ (demandFetch room s).drc = s.drc ∧ (demandFetch room s).dram = s.dram ∧
      (demandFetch room s).cht = s.cht ∧ (demandFetch room s).sui = s.sui ∧ (demandFetch room s).stw = s.stw ∧
      (demandFetch room s).cel = s.cel ∧ (demandFetch room s).dmw = s.dmw ∧ (demandFetch room s).nrg = s.nrg ∧
      (demandFetch room s).gau = s.gau ∧ (demandFetch room s).rek = s.rek ∧ (demandFetch room s).plk = s.plk ∧
      (demandFetch room s).att = s.att ∧ (demandFetch room s).ecc = s.ecc ∧ (demandFetch room s).tws = s.tws ∧
      (demandFetch room s).twp = s.twp ∧ (demandFetch room s).svc = s.svc ∧ (demandFetch room s).log = s.log ∧
      (demandFetch room s).pwr = s.pwr ∧ (demandFetch room s).fpl = s.fpl ∧ (demandFetch room s).jtag = s.jtag ∧
      (demandFetch room s).fuses = s.fuses ∧ (demandFetch room s).cal = s.cal ∧ (demandFetch room s).out = s.out ∧
      (demandFetch room s).free = s.free ∧ (demandFetch room s).pending = s.pending := by
  simp [demandFetch]

theorem complete_frame (tag : Nat) (effect : Bool) (s : State) :
    (complete tag effect s).almanac = s.almanac ∧ (complete tag effect s).dev = s.dev ∧
      (complete tag effect s).stations = s.stations ∧ (complete tag effect s).hst = s.hst ∧
      (complete tag effect s).drc = s.drc ∧ (complete tag effect s).dram = s.dram ∧ (complete tag effect s).cht = s.cht ∧
      (complete tag effect s).sui = s.sui ∧ (complete tag effect s).stw = s.stw ∧ (complete tag effect s).sav = s.sav ∧
      (complete tag effect s).cel = s.cel ∧ (complete tag effect s).dmw = s.dmw ∧ (complete tag effect s).nrg = s.nrg ∧
      (complete tag effect s).gau = s.gau ∧ (complete tag effect s).rek = s.rek ∧ (complete tag effect s).plk = s.plk ∧
      (complete tag effect s).att = s.att ∧ (complete tag effect s).ecc = s.ecc ∧ (complete tag effect s).tws = s.tws ∧
      (complete tag effect s).twp = s.twp ∧ (complete tag effect s).svc = s.svc ∧ (complete tag effect s).log = s.log ∧
      (complete tag effect s).pwr = s.pwr ∧ (complete tag effect s).fpl = s.fpl ∧ (complete tag effect s).jtag = s.jtag ∧
      (complete tag effect s).fuses = s.fuses ∧ (complete tag effect s).cal = s.cal ∧ (complete tag effect s).free = s.free ∧
      (complete tag effect s).pending = s.pending := by
  simp [complete]

theorem discard_frame (tag reason : Nat) (s : State) :
    (discard tag reason s).almanac = s.almanac ∧ (discard tag reason s).dev = s.dev ∧
      (discard tag reason s).stations = s.stations ∧ (discard tag reason s).drc = s.drc ∧
      (discard tag reason s).dram = s.dram ∧ (discard tag reason s).cht = s.cht ∧ (discard tag reason s).sui = s.sui ∧
      (discard tag reason s).stw = s.stw ∧ (discard tag reason s).sav = s.sav ∧ (discard tag reason s).cel = s.cel ∧
      (discard tag reason s).dmw = s.dmw ∧ (discard tag reason s).nrg = s.nrg ∧ (discard tag reason s).gau = s.gau ∧
      (discard tag reason s).rek = s.rek ∧ (discard tag reason s).plk = s.plk ∧ (discard tag reason s).att = s.att ∧
      (discard tag reason s).ecc = s.ecc ∧ (discard tag reason s).tws = s.tws ∧ (discard tag reason s).twp = s.twp ∧
      (discard tag reason s).svc = s.svc ∧ (discard tag reason s).log = s.log ∧ (discard tag reason s).pwr = s.pwr ∧
      (discard tag reason s).fpl = s.fpl ∧ (discard tag reason s).jtag = s.jtag ∧ (discard tag reason s).fuses = s.fuses ∧
      (discard tag reason s).cal = s.cal ∧ (discard tag reason s).free = s.free ∧ (discard tag reason s).pending = s.pending := by
  have q1 := complete_frame
  simp [q1, discard]

theorem discard_frame2 (tag reason : Nat) (s : State) :
    (discard tag reason s).hst.linkUp = s.hst.linkUp ∧ (discard tag reason s).hst.gateClosed = s.hst.gateClosed := by
  have q1 := complete_frame
  unfold discard; (repeat' split) <;> simp_all

theorem modWrite_frame (tag : Nat) (f : HostWrite → HostWrite) (s : State) :
    (modWrite tag f s).almanac = s.almanac ∧ (modWrite tag f s).dev = s.dev ∧ (modWrite tag f s).stations = s.stations ∧
      (modWrite tag f s).drc = s.drc ∧ (modWrite tag f s).dram = s.dram ∧ (modWrite tag f s).cht = s.cht ∧
      (modWrite tag f s).sui = s.sui ∧ (modWrite tag f s).stw = s.stw ∧ (modWrite tag f s).sav = s.sav ∧
      (modWrite tag f s).cel = s.cel ∧ (modWrite tag f s).dmw = s.dmw ∧ (modWrite tag f s).nrg = s.nrg ∧
      (modWrite tag f s).gau = s.gau ∧ (modWrite tag f s).rek = s.rek ∧ (modWrite tag f s).plk = s.plk ∧
      (modWrite tag f s).att = s.att ∧ (modWrite tag f s).ecc = s.ecc ∧ (modWrite tag f s).tws = s.tws ∧
      (modWrite tag f s).twp = s.twp ∧ (modWrite tag f s).svc = s.svc ∧ (modWrite tag f s).log = s.log ∧
      (modWrite tag f s).pwr = s.pwr ∧ (modWrite tag f s).fpl = s.fpl ∧ (modWrite tag f s).jtag = s.jtag ∧
      (modWrite tag f s).fuses = s.fuses ∧ (modWrite tag f s).cal = s.cal ∧ (modWrite tag f s).out = s.out ∧
      (modWrite tag f s).free = s.free ∧ (modWrite tag f s).pending = s.pending ∧
      (modWrite tag f s).hst.linkUp = s.hst.linkUp ∧ (modWrite tag f s).hst.gateClosed = s.hst.gateClosed := by
  simp [modWrite]

theorem dropWrite_frame (tag : Nat) (s : State) :
    (dropWrite tag s).almanac = s.almanac ∧ (dropWrite tag s).dev = s.dev ∧ (dropWrite tag s).stations = s.stations ∧
      (dropWrite tag s).drc = s.drc ∧ (dropWrite tag s).dram = s.dram ∧ (dropWrite tag s).cht = s.cht ∧
      (dropWrite tag s).sui = s.sui ∧ (dropWrite tag s).stw = s.stw ∧ (dropWrite tag s).sav = s.sav ∧
      (dropWrite tag s).cel = s.cel ∧ (dropWrite tag s).dmw = s.dmw ∧ (dropWrite tag s).nrg = s.nrg ∧
      (dropWrite tag s).gau = s.gau ∧ (dropWrite tag s).rek = s.rek ∧ (dropWrite tag s).plk = s.plk ∧
      (dropWrite tag s).att = s.att ∧ (dropWrite tag s).ecc = s.ecc ∧ (dropWrite tag s).tws = s.tws ∧
      (dropWrite tag s).twp = s.twp ∧ (dropWrite tag s).svc = s.svc ∧ (dropWrite tag s).log = s.log ∧
      (dropWrite tag s).pwr = s.pwr ∧ (dropWrite tag s).fpl = s.fpl ∧ (dropWrite tag s).jtag = s.jtag ∧
      (dropWrite tag s).fuses = s.fuses ∧ (dropWrite tag s).cal = s.cal ∧ (dropWrite tag s).out = s.out ∧
      (dropWrite tag s).free = s.free ∧ (dropWrite tag s).pending = s.pending ∧ (dropWrite tag s).hst.linkUp = s.hst.linkUp ∧
      (dropWrite tag s).hst.gateClosed = s.hst.gateClosed := by
  simp [dropWrite]

theorem enterWrite_frame (w : HostWrite) (s : State) :
    (enterWrite w s).almanac = s.almanac ∧ (enterWrite w s).dev = s.dev ∧ (enterWrite w s).stations = s.stations ∧
      (enterWrite w s).drc = s.drc ∧ (enterWrite w s).dram = s.dram ∧ (enterWrite w s).cht = s.cht ∧
      (enterWrite w s).sui = s.sui ∧ (enterWrite w s).stw = s.stw ∧ (enterWrite w s).cel = s.cel ∧
      (enterWrite w s).dmw = s.dmw ∧ (enterWrite w s).nrg = s.nrg ∧ (enterWrite w s).gau = s.gau ∧
      (enterWrite w s).rek = s.rek ∧ (enterWrite w s).plk = s.plk ∧ (enterWrite w s).att = s.att ∧
      (enterWrite w s).ecc = s.ecc ∧ (enterWrite w s).tws = s.tws ∧ (enterWrite w s).twp = s.twp ∧
      (enterWrite w s).svc = s.svc ∧ (enterWrite w s).log = s.log ∧ (enterWrite w s).pwr = s.pwr ∧
      (enterWrite w s).fpl = s.fpl ∧ (enterWrite w s).jtag = s.jtag ∧ (enterWrite w s).fuses = s.fuses ∧
      (enterWrite w s).cal = s.cal ∧ (enterWrite w s).out = s.out ∧ (enterWrite w s).free = s.free ∧
      (enterWrite w s).pending = s.pending := by
  have q1 := demandFetch_frame
  simp [q1, enterWrite]

theorem enterWrite_frame3 (w : HostWrite) (s : State) :
    (enterWrite w s).hst.linkUp = s.hst.linkUp ∧ (enterWrite w s).hst.gateClosed = s.hst.gateClosed := by
  have q1 := demandFetch_frame
  simp only [enterWrite]; (repeat' split) <;> simp [q1]

theorem admitWaiting_frame (x0 : Nat) (x1 : State) :
    (admitWaiting x0 x1).almanac = x1.almanac ∧ (admitWaiting x0 x1).dev = x1.dev ∧
      (admitWaiting x0 x1).stations = x1.stations ∧ (admitWaiting x0 x1).drc = x1.drc ∧ (admitWaiting x0 x1).dram = x1.dram ∧
      (admitWaiting x0 x1).cht = x1.cht ∧ (admitWaiting x0 x1).sui = x1.sui ∧ (admitWaiting x0 x1).stw = x1.stw ∧
      (admitWaiting x0 x1).cel = x1.cel ∧ (admitWaiting x0 x1).dmw = x1.dmw ∧ (admitWaiting x0 x1).nrg = x1.nrg ∧
      (admitWaiting x0 x1).gau = x1.gau ∧ (admitWaiting x0 x1).rek = x1.rek ∧ (admitWaiting x0 x1).plk = x1.plk ∧
      (admitWaiting x0 x1).att = x1.att ∧ (admitWaiting x0 x1).ecc = x1.ecc ∧ (admitWaiting x0 x1).tws = x1.tws ∧
      (admitWaiting x0 x1).twp = x1.twp ∧ (admitWaiting x0 x1).svc = x1.svc ∧ (admitWaiting x0 x1).log = x1.log ∧
      (admitWaiting x0 x1).pwr = x1.pwr ∧ (admitWaiting x0 x1).fpl = x1.fpl ∧ (admitWaiting x0 x1).jtag = x1.jtag ∧
      (admitWaiting x0 x1).fuses = x1.fuses ∧ (admitWaiting x0 x1).cal = x1.cal ∧ (admitWaiting x0 x1).free = x1.free ∧
      (admitWaiting x0 x1).pending = x1.pending ∧ (admitWaiting x0 x1).hst.linkUp = x1.hst.linkUp ∧
      (admitWaiting x0 x1).hst.gateClosed = x1.hst.gateClosed := by
  have q1 := discard_frame
  have q2 := discard_frame2
  have q3 := enterWrite_frame
  have q4 := enterWrite_frame3
  induction x0 generalizing x1 <;> (first | (simp [admitWaiting]; done) | ((simp only [admitWaiting]; (repeat' split) <;> simp_all)))

theorem admitWrites_frame (s : State) :
    (admitWrites s).almanac = s.almanac ∧ (admitWrites s).dev = s.dev ∧ (admitWrites s).stations = s.stations ∧
      (admitWrites s).drc = s.drc ∧ (admitWrites s).dram = s.dram ∧ (admitWrites s).cht = s.cht ∧ (admitWrites s).sui = s.sui ∧
      (admitWrites s).stw = s.stw ∧ (admitWrites s).cel = s.cel ∧ (admitWrites s).dmw = s.dmw ∧ (admitWrites s).nrg = s.nrg ∧
      (admitWrites s).gau = s.gau ∧ (admitWrites s).rek = s.rek ∧ (admitWrites s).plk = s.plk ∧ (admitWrites s).att = s.att ∧
      (admitWrites s).ecc = s.ecc ∧ (admitWrites s).tws = s.tws ∧ (admitWrites s).twp = s.twp ∧ (admitWrites s).svc = s.svc ∧
      (admitWrites s).log = s.log ∧ (admitWrites s).pwr = s.pwr ∧ (admitWrites s).fpl = s.fpl ∧ (admitWrites s).jtag = s.jtag ∧
      (admitWrites s).fuses = s.fuses ∧ (admitWrites s).cal = s.cal ∧ (admitWrites s).free = s.free ∧
      (admitWrites s).pending = s.pending := by
  have q1 := admitWaiting_frame
  simp [q1, admitWrites]

theorem releaseEntry_frame (tag : Nat) (s : State) :
    (releaseEntry tag s).almanac = s.almanac ∧ (releaseEntry tag s).dev = s.dev ∧ (releaseEntry tag s).stations = s.stations ∧
      (releaseEntry tag s).drc = s.drc ∧ (releaseEntry tag s).dram = s.dram ∧ (releaseEntry tag s).cht = s.cht ∧
      (releaseEntry tag s).sui = s.sui ∧ (releaseEntry tag s).stw = s.stw ∧ (releaseEntry tag s).cel = s.cel ∧
      (releaseEntry tag s).dmw = s.dmw ∧ (releaseEntry tag s).nrg = s.nrg ∧ (releaseEntry tag s).gau = s.gau ∧
      (releaseEntry tag s).rek = s.rek ∧ (releaseEntry tag s).plk = s.plk ∧ (releaseEntry tag s).att = s.att ∧
      (releaseEntry tag s).ecc = s.ecc ∧ (releaseEntry tag s).tws = s.tws ∧ (releaseEntry tag s).twp = s.twp ∧
      (releaseEntry tag s).svc = s.svc ∧ (releaseEntry tag s).log = s.log ∧ (releaseEntry tag s).pwr = s.pwr ∧
      (releaseEntry tag s).fpl = s.fpl ∧ (releaseEntry tag s).jtag = s.jtag ∧ (releaseEntry tag s).fuses = s.fuses ∧
      (releaseEntry tag s).cal = s.cal ∧ (releaseEntry tag s).free = s.free ∧ (releaseEntry tag s).pending = s.pending := by
  have q1 := admitWrites_frame
  simp [q1, releaseEntry]

theorem grantClaim_frame (t : Nat) (exposed : Bool) (s : State) :
    (grantClaim t exposed s).almanac = s.almanac ∧ (grantClaim t exposed s).fuses = s.fuses ∧
      (grantClaim t exposed s).cal = s.cal ∧ (grantClaim t exposed s).pending = s.pending := by
  have q1 := claimTile_frame
  have q2 := expose_frame
  have q3 := reeval_frame
  simp [q1, q2, q3, grantClaim]

theorem stallClaim_frame (tag : Option Nat) (ch t suite : Nat) (s : State) :
    (stallClaim tag ch t suite s).almanac = s.almanac ∧ (stallClaim tag ch t suite s).stations = s.stations ∧
      (stallClaim tag ch t suite s).drc = s.drc ∧ (stallClaim tag ch t suite s).dram = s.dram ∧
      (stallClaim tag ch t suite s).cht = s.cht ∧ (stallClaim tag ch t suite s).sav = s.sav ∧
      (stallClaim tag ch t suite s).cel = s.cel ∧ (stallClaim tag ch t suite s).dmw = s.dmw ∧
      (stallClaim tag ch t suite s).nrg = s.nrg ∧ (stallClaim tag ch t suite s).gau = s.gau ∧
      (stallClaim tag ch t suite s).rek = s.rek ∧ (stallClaim tag ch t suite s).plk = s.plk ∧
      (stallClaim tag ch t suite s).att = s.att ∧ (stallClaim tag ch t suite s).ecc = s.ecc ∧
      (stallClaim tag ch t suite s).twp = s.twp ∧ (stallClaim tag ch t suite s).svc = s.svc ∧
      (stallClaim tag ch t suite s).pwr = s.pwr ∧ (stallClaim tag ch t suite s).fpl = s.fpl ∧
      (stallClaim tag ch t suite s).jtag = s.jtag ∧ (stallClaim tag ch t suite s).fuses = s.fuses ∧
      (stallClaim tag ch t suite s).cal = s.cal ∧ (stallClaim tag ch t suite s).free = s.free ∧
      (stallClaim tag ch t suite s).pending = s.pending ∧ (stallClaim tag ch t suite s).dev.state = s.dev.state ∧
      (stallClaim tag ch t suite s).hst.linkUp = s.hst.linkUp ∧
      (stallClaim tag ch t suite s).hst.gateClosed = s.hst.gateClosed ∧
      (stallClaim tag ch t suite s).log.aonPowered = s.log.aonPowered := by
  have q1 := reeval_frame
  have q2 := reeval_frame3
  simp [q1, q2, stallClaim]

theorem noteStall_frame (c : StalledClaim) (s : State) :
    (noteStall c s).almanac = s.almanac ∧ (noteStall c s).dev = s.dev ∧ (noteStall c s).stations = s.stations ∧
      (noteStall c s).hst = s.hst ∧ (noteStall c s).drc = s.drc ∧ (noteStall c s).dram = s.dram ∧ (noteStall c s).cht = s.cht ∧
      (noteStall c s).sui = s.sui ∧ (noteStall c s).sav = s.sav ∧ (noteStall c s).cel = s.cel ∧ (noteStall c s).dmw = s.dmw ∧
      (noteStall c s).nrg = s.nrg ∧ (noteStall c s).gau = s.gau ∧ (noteStall c s).rek = s.rek ∧ (noteStall c s).plk = s.plk ∧
      (noteStall c s).att = s.att ∧ (noteStall c s).ecc = s.ecc ∧ (noteStall c s).tws = s.tws ∧ (noteStall c s).twp = s.twp ∧
      (noteStall c s).svc = s.svc ∧ (noteStall c s).log = s.log ∧ (noteStall c s).pwr = s.pwr ∧ (noteStall c s).fpl = s.fpl ∧
      (noteStall c s).jtag = s.jtag ∧ (noteStall c s).fuses = s.fuses ∧ (noteStall c s).cal = s.cal ∧
      (noteStall c s).out = s.out ∧ (noteStall c s).free = s.free ∧ (noteStall c s).pending = s.pending := by
  simp [noteStall]

theorem claimGranted_frame (c : StalledClaim) (s : State) :
    (claimGranted c s).almanac = s.almanac ∧ (claimGranted c s).dev = s.dev ∧ (claimGranted c s).stations = s.stations ∧
      (claimGranted c s).drc = s.drc ∧ (claimGranted c s).dram = s.dram ∧ (claimGranted c s).cht = s.cht ∧
      (claimGranted c s).sui = s.sui ∧ (claimGranted c s).stw = s.stw ∧ (claimGranted c s).sav = s.sav ∧
      (claimGranted c s).cel = s.cel ∧ (claimGranted c s).nrg = s.nrg ∧ (claimGranted c s).gau = s.gau ∧
      (claimGranted c s).rek = s.rek ∧ (claimGranted c s).plk = s.plk ∧ (claimGranted c s).att = s.att ∧
      (claimGranted c s).ecc = s.ecc ∧ (claimGranted c s).tws = s.tws ∧ (claimGranted c s).twp = s.twp ∧
      (claimGranted c s).svc = s.svc ∧ (claimGranted c s).log = s.log ∧ (claimGranted c s).pwr = s.pwr ∧
      (claimGranted c s).fpl = s.fpl ∧ (claimGranted c s).jtag = s.jtag ∧ (claimGranted c s).fuses = s.fuses ∧
      (claimGranted c s).cal = s.cal ∧ (claimGranted c s).out = s.out ∧ (claimGranted c s).free = s.free ∧
      (claimGranted c s).pending = s.pending ∧ (claimGranted c s).hst.linkUp = s.hst.linkUp ∧
      (claimGranted c s).hst.gateClosed = s.hst.gateClosed := by
  have q1 := modWrite_frame
  unfold claimGranted; (repeat' split) <;> simp_all

theorem acceptBeat_frame (src : Nat) (w : BeatWrite) (tag : Option Nat) (poisonSource : Nat) (s : State) :
    (acceptBeat src w tag poisonSource s).almanac = s.almanac ∧ (acceptBeat src w tag poisonSource s).fuses = s.fuses ∧
      (acceptBeat src w tag poisonSource s).cal = s.cal ∧ (acceptBeat src w tag poisonSource s).pending = s.pending := by
  have q1 := enqueueWrite_frame
  have q2 := listPoison_frame
  have q3 := unlistBeat_frame
  simp [q1, q2, q3, acceptBeat]

theorem startRead_frame (r : HostRead) (s : State) :
    (startRead r s).almanac = s.almanac ∧ (startRead r s).dev = s.dev ∧ (startRead r s).stations = s.stations ∧
      (startRead r s).dram = s.dram ∧ (startRead r s).cht = s.cht ∧ (startRead r s).sui = s.sui ∧ (startRead r s).stw = s.stw ∧
      (startRead r s).sav = s.sav ∧ (startRead r s).cel = s.cel ∧ (startRead r s).dmw = s.dmw ∧ (startRead r s).nrg = s.nrg ∧
      (startRead r s).gau = s.gau ∧ (startRead r s).rek = s.rek ∧ (startRead r s).plk = s.plk ∧ (startRead r s).att = s.att ∧
      (startRead r s).ecc = s.ecc ∧ (startRead r s).tws = s.tws ∧ (startRead r s).twp = s.twp ∧ (startRead r s).svc = s.svc ∧
      (startRead r s).log = s.log ∧ (startRead r s).pwr = s.pwr ∧ (startRead r s).fpl = s.fpl ∧ (startRead r s).jtag = s.jtag ∧
      (startRead r s).fuses = s.fuses ∧ (startRead r s).cal = s.cal ∧ (startRead r s).free = s.free ∧
      (startRead r s).pending = s.pending := by
  have q1 := enqueue_frame
  simp [q1, startRead]

theorem startRead_frame3 (r : HostRead) (s : State) :
    (startRead r s).hst.linkUp = s.hst.linkUp ∧ (startRead r s).hst.gateClosed = s.hst.gateClosed := by
  have q1 := enqueue_frame
  simp only [startRead]; (repeat' split) <;> simp [q1]

theorem admitRead_frame (r : HostRead) (s : State) :
    (admitRead r s).almanac = s.almanac ∧ (admitRead r s).dev = s.dev ∧ (admitRead r s).stations = s.stations ∧
      (admitRead r s).dram = s.dram ∧ (admitRead r s).cht = s.cht ∧ (admitRead r s).sui = s.sui ∧ (admitRead r s).stw = s.stw ∧
      (admitRead r s).cel = s.cel ∧ (admitRead r s).dmw = s.dmw ∧ (admitRead r s).nrg = s.nrg ∧ (admitRead r s).gau = s.gau ∧
      (admitRead r s).rek = s.rek ∧ (admitRead r s).plk = s.plk ∧ (admitRead r s).att = s.att ∧ (admitRead r s).ecc = s.ecc ∧
      (admitRead r s).tws = s.tws ∧ (admitRead r s).twp = s.twp ∧ (admitRead r s).svc = s.svc ∧ (admitRead r s).log = s.log ∧
      (admitRead r s).pwr = s.pwr ∧ (admitRead r s).fpl = s.fpl ∧ (admitRead r s).jtag = s.jtag ∧
      (admitRead r s).fuses = s.fuses ∧ (admitRead r s).cal = s.cal ∧ (admitRead r s).free = s.free ∧
      (admitRead r s).pending = s.pending := by
  have q1 := demandFetch_frame
  have q2 := startRead_frame
  simp [q1, q2, admitRead]

theorem admitRead_frame3 (r : HostRead) (s : State) :
    (admitRead r s).hst.linkUp = s.hst.linkUp ∧ (admitRead r s).hst.gateClosed = s.hst.gateClosed := by
  have q1 := demandFetch_frame
  have q2 := startRead_frame3
  simp only [admitRead]; (repeat' split) <;> simp [q1, q2]

theorem admitReads_frame (x0 : Nat) (x1 : State) :
    (admitReads x0 x1).almanac = x1.almanac ∧ (admitReads x0 x1).dev = x1.dev ∧ (admitReads x0 x1).stations = x1.stations ∧
      (admitReads x0 x1).dram = x1.dram ∧ (admitReads x0 x1).cht = x1.cht ∧ (admitReads x0 x1).sui = x1.sui ∧
      (admitReads x0 x1).stw = x1.stw ∧ (admitReads x0 x1).cel = x1.cel ∧ (admitReads x0 x1).dmw = x1.dmw ∧
      (admitReads x0 x1).nrg = x1.nrg ∧ (admitReads x0 x1).gau = x1.gau ∧ (admitReads x0 x1).rek = x1.rek ∧
      (admitReads x0 x1).plk = x1.plk ∧ (admitReads x0 x1).att = x1.att ∧ (admitReads x0 x1).ecc = x1.ecc ∧
      (admitReads x0 x1).tws = x1.tws ∧ (admitReads x0 x1).twp = x1.twp ∧ (admitReads x0 x1).svc = x1.svc ∧
      (admitReads x0 x1).log = x1.log ∧ (admitReads x0 x1).pwr = x1.pwr ∧ (admitReads x0 x1).fpl = x1.fpl ∧
      (admitReads x0 x1).jtag = x1.jtag ∧ (admitReads x0 x1).fuses = x1.fuses ∧ (admitReads x0 x1).cal = x1.cal ∧
      (admitReads x0 x1).free = x1.free ∧ (admitReads x0 x1).pending = x1.pending ∧
      (admitReads x0 x1).hst.linkUp = x1.hst.linkUp ∧ (admitReads x0 x1).hst.gateClosed = x1.hst.gateClosed := by
  have q1 := admitRead_frame
  have q2 := admitRead_frame3
  induction x0 generalizing x1 <;> (first | (simp [admitReads]; done) | ((simp only [admitReads]; (repeat' split) <;> simp_all)))

theorem releaseReads_frame (keep : Nat → Bool) (s : State) :
    (releaseReads keep s).almanac = s.almanac ∧ (releaseReads keep s).dev = s.dev ∧
      (releaseReads keep s).stations = s.stations ∧ (releaseReads keep s).dram = s.dram ∧ (releaseReads keep s).cht = s.cht ∧
      (releaseReads keep s).sui = s.sui ∧ (releaseReads keep s).stw = s.stw ∧ (releaseReads keep s).cel = s.cel ∧
      (releaseReads keep s).dmw = s.dmw ∧ (releaseReads keep s).nrg = s.nrg ∧ (releaseReads keep s).gau = s.gau ∧
      (releaseReads keep s).rek = s.rek ∧ (releaseReads keep s).plk = s.plk ∧ (releaseReads keep s).att = s.att ∧
      (releaseReads keep s).ecc = s.ecc ∧ (releaseReads keep s).tws = s.tws ∧ (releaseReads keep s).twp = s.twp ∧
      (releaseReads keep s).svc = s.svc ∧ (releaseReads keep s).log = s.log ∧ (releaseReads keep s).pwr = s.pwr ∧
      (releaseReads keep s).fpl = s.fpl ∧ (releaseReads keep s).jtag = s.jtag ∧ (releaseReads keep s).fuses = s.fuses ∧
      (releaseReads keep s).cal = s.cal ∧ (releaseReads keep s).free = s.free ∧ (releaseReads keep s).pending = s.pending := by
  have q1 := admitReads_frame
  have q2 := startRead_frame
  simp [q1, q2, releaseReads]

theorem releaseRoomWrites_frame (room : Nat) (s : State) :
    (releaseRoomWrites room s).almanac = s.almanac ∧ (releaseRoomWrites room s).dev = s.dev ∧
      (releaseRoomWrites room s).stations = s.stations ∧ (releaseRoomWrites room s).drc = s.drc ∧
      (releaseRoomWrites room s).dram = s.dram ∧ (releaseRoomWrites room s).cht = s.cht ∧
      (releaseRoomWrites room s).sui = s.sui ∧ (releaseRoomWrites room s).stw = s.stw ∧
      (releaseRoomWrites room s).sav = s.sav ∧ (releaseRoomWrites room s).cel = s.cel ∧
      (releaseRoomWrites room s).dmw = s.dmw ∧ (releaseRoomWrites room s).nrg = s.nrg ∧
      (releaseRoomWrites room s).gau = s.gau ∧ (releaseRoomWrites room s).rek = s.rek ∧
      (releaseRoomWrites room s).plk = s.plk ∧ (releaseRoomWrites room s).att = s.att ∧
      (releaseRoomWrites room s).ecc = s.ecc ∧ (releaseRoomWrites room s).tws = s.tws ∧
      (releaseRoomWrites room s).twp = s.twp ∧ (releaseRoomWrites room s).svc = s.svc ∧
      (releaseRoomWrites room s).log = s.log ∧ (releaseRoomWrites room s).pwr = s.pwr ∧
      (releaseRoomWrites room s).fpl = s.fpl ∧ (releaseRoomWrites room s).jtag = s.jtag ∧
      (releaseRoomWrites room s).fuses = s.fuses ∧ (releaseRoomWrites room s).cal = s.cal ∧
      (releaseRoomWrites room s).out = s.out ∧ (releaseRoomWrites room s).free = s.free ∧
      (releaseRoomWrites room s).pending = s.pending ∧ (releaseRoomWrites room s).hst.linkUp = s.hst.linkUp ∧
      (releaseRoomWrites room s).hst.gateClosed = s.hst.gateClosed := by
  simp [releaseRoomWrites]

theorem releaseFill_frame (t : Nat) (s : State) :
    (releaseFill t s).almanac = s.almanac ∧ (releaseFill t s).dev = s.dev ∧ (releaseFill t s).stations = s.stations ∧
      (releaseFill t s).drc = s.drc ∧ (releaseFill t s).dram = s.dram ∧ (releaseFill t s).cht = s.cht ∧
      (releaseFill t s).sui = s.sui ∧ (releaseFill t s).stw = s.stw ∧ (releaseFill t s).sav = s.sav ∧
      (releaseFill t s).cel = s.cel ∧ (releaseFill t s).nrg = s.nrg ∧ (releaseFill t s).gau = s.gau ∧
      (releaseFill t s).rek = s.rek ∧ (releaseFill t s).plk = s.plk ∧ (releaseFill t s).att = s.att ∧
      (releaseFill t s).ecc = s.ecc ∧ (releaseFill t s).tws = s.tws ∧ (releaseFill t s).twp = s.twp ∧
      (releaseFill t s).svc = s.svc ∧ (releaseFill t s).log = s.log ∧ (releaseFill t s).pwr = s.pwr ∧
      (releaseFill t s).fpl = s.fpl ∧ (releaseFill t s).jtag = s.jtag ∧ (releaseFill t s).fuses = s.fuses ∧
      (releaseFill t s).cal = s.cal ∧ (releaseFill t s).out = s.out ∧ (releaseFill t s).free = s.free ∧
      (releaseFill t s).pending = s.pending ∧ (releaseFill t s).hst.linkUp = s.hst.linkUp ∧
      (releaseFill t s).hst.gateClosed = s.hst.gateClosed := by
  simp [releaseFill]

theorem fillTile_frame (t : Nat) (s : State) :
    (fillTile t s).almanac = s.almanac ∧ (fillTile t s).dev = s.dev ∧ (fillTile t s).stations = s.stations ∧
      (fillTile t s).stw = s.stw ∧ (fillTile t s).sav = s.sav ∧ (fillTile t s).cel = s.cel ∧ (fillTile t s).nrg = s.nrg ∧
      (fillTile t s).gau = s.gau ∧ (fillTile t s).rek = s.rek ∧ (fillTile t s).plk = s.plk ∧ (fillTile t s).att = s.att ∧
      (fillTile t s).ecc = s.ecc ∧ (fillTile t s).tws = s.tws ∧ (fillTile t s).twp = s.twp ∧ (fillTile t s).svc = s.svc ∧
      (fillTile t s).log = s.log ∧ (fillTile t s).pwr = s.pwr ∧ (fillTile t s).fpl = s.fpl ∧ (fillTile t s).jtag = s.jtag ∧
      (fillTile t s).fuses = s.fuses ∧ (fillTile t s).cal = s.cal ∧ (fillTile t s).out = s.out ∧
      (fillTile t s).pending = s.pending ∧ (fillTile t s).hst.linkUp = s.hst.linkUp ∧
      (fillTile t s).hst.gateClosed = s.hst.gateClosed := by
  have q1 := putTile_frame
  have q2 := releaseFill_frame
  have q3 := tileAccess_frame
  simp [q1, q2, q3, fillTile]

theorem freeEntries_frame (tags : List Nat) (s : State) :
    (freeEntries tags s).almanac = s.almanac ∧ (freeEntries tags s).dev = s.dev ∧ (freeEntries tags s).stations = s.stations ∧
      (freeEntries tags s).drc = s.drc ∧ (freeEntries tags s).dram = s.dram ∧ (freeEntries tags s).cht = s.cht ∧
      (freeEntries tags s).sui = s.sui ∧ (freeEntries tags s).stw = s.stw ∧ (freeEntries tags s).cel = s.cel ∧
      (freeEntries tags s).dmw = s.dmw ∧ (freeEntries tags s).nrg = s.nrg ∧ (freeEntries tags s).gau = s.gau ∧
      (freeEntries tags s).rek = s.rek ∧ (freeEntries tags s).plk = s.plk ∧ (freeEntries tags s).att = s.att ∧
      (freeEntries tags s).ecc = s.ecc ∧ (freeEntries tags s).tws = s.tws ∧ (freeEntries tags s).twp = s.twp ∧
      (freeEntries tags s).svc = s.svc ∧ (freeEntries tags s).log = s.log ∧ (freeEntries tags s).pwr = s.pwr ∧
      (freeEntries tags s).fpl = s.fpl ∧ (freeEntries tags s).jtag = s.jtag ∧ (freeEntries tags s).fuses = s.fuses ∧
      (freeEntries tags s).cal = s.cal ∧ (freeEntries tags s).free = s.free ∧ (freeEntries tags s).pending = s.pending := by
  have q1 := admitWrites_frame
  simp [q1, freeEntries]

theorem releaseWaiting_frame (k : Nat) (s : State) :
    (releaseWaiting k s).almanac = s.almanac ∧ (releaseWaiting k s).dev = s.dev ∧ (releaseWaiting k s).stations = s.stations ∧
      (releaseWaiting k s).drc = s.drc ∧ (releaseWaiting k s).dram = s.dram ∧ (releaseWaiting k s).cht = s.cht ∧
      (releaseWaiting k s).sui = s.sui ∧ (releaseWaiting k s).stw = s.stw ∧ (releaseWaiting k s).cel = s.cel ∧
      (releaseWaiting k s).dmw = s.dmw ∧ (releaseWaiting k s).nrg = s.nrg ∧ (releaseWaiting k s).gau = s.gau ∧
      (releaseWaiting k s).rek = s.rek ∧ (releaseWaiting k s).att = s.att ∧ (releaseWaiting k s).ecc = s.ecc ∧
      (releaseWaiting k s).tws = s.tws ∧ (releaseWaiting k s).twp = s.twp ∧ (releaseWaiting k s).svc = s.svc ∧
      (releaseWaiting k s).log = s.log ∧ (releaseWaiting k s).pwr = s.pwr ∧ (releaseWaiting k s).fpl = s.fpl ∧
      (releaseWaiting k s).jtag = s.jtag ∧ (releaseWaiting k s).fuses = s.fuses ∧ (releaseWaiting k s).cal = s.cal ∧
      (releaseWaiting k s).free = s.free ∧ (releaseWaiting k s).pending = s.pending := by
  have q1 := complete_frame
  have q2 := freeEntries_frame
  have q3 := markDrift_frame
  simp [q1, q2, q3, releaseWaiting]

theorem oldRoles_frame (k : Nat) (s : State) :
    (oldRoles k s).almanac = s.almanac ∧ (oldRoles k s).dev = s.dev ∧ (oldRoles k s).stations = s.stations ∧
      (oldRoles k s).drc = s.drc ∧ (oldRoles k s).dram = s.dram ∧ (oldRoles k s).cht = s.cht ∧ (oldRoles k s).sui = s.sui ∧
      (oldRoles k s).stw = s.stw ∧ (oldRoles k s).sav = s.sav ∧ (oldRoles k s).cel = s.cel ∧ (oldRoles k s).dmw = s.dmw ∧
      (oldRoles k s).nrg = s.nrg ∧ (oldRoles k s).gau = s.gau ∧ (oldRoles k s).rek = s.rek ∧ (oldRoles k s).plk = s.plk ∧
      (oldRoles k s).att = s.att ∧ (oldRoles k s).ecc = s.ecc ∧ (oldRoles k s).tws = s.tws ∧ (oldRoles k s).twp = s.twp ∧
      (oldRoles k s).svc = s.svc ∧ (oldRoles k s).log = s.log ∧ (oldRoles k s).pwr = s.pwr ∧ (oldRoles k s).fpl = s.fpl ∧
      (oldRoles k s).jtag = s.jtag ∧ (oldRoles k s).fuses = s.fuses ∧ (oldRoles k s).cal = s.cal ∧ (oldRoles k s).out = s.out ∧
      (oldRoles k s).free = s.free ∧ (oldRoles k s).pending = s.pending ∧ (oldRoles k s).hst.linkUp = s.hst.linkUp ∧
      (oldRoles k s).hst.gateClosed = s.hst.gateClosed := by
  simp [oldRoles]

theorem leaveActive_frame (k : Nat) (old new : SetState) (s : State) :
    (leaveActive k old new s).almanac = s.almanac ∧ (leaveActive k old new s).dev = s.dev ∧
      (leaveActive k old new s).stations = s.stations ∧ (leaveActive k old new s).drc = s.drc ∧
      (leaveActive k old new s).dram = s.dram ∧ (leaveActive k old new s).cht = s.cht ∧ (leaveActive k old new s).sui = s.sui ∧
      (leaveActive k old new s).stw = s.stw ∧ (leaveActive k old new s).cel = s.cel ∧ (leaveActive k old new s).dmw = s.dmw ∧
      (leaveActive k old new s).nrg = s.nrg ∧ (leaveActive k old new s).gau = s.gau ∧ (leaveActive k old new s).rek = s.rek ∧
      (leaveActive k old new s).att = s.att ∧ (leaveActive k old new s).ecc = s.ecc ∧ (leaveActive k old new s).tws = s.tws ∧
      (leaveActive k old new s).twp = s.twp ∧ (leaveActive k old new s).svc = s.svc ∧ (leaveActive k old new s).log = s.log ∧
      (leaveActive k old new s).pwr = s.pwr ∧ (leaveActive k old new s).fpl = s.fpl ∧ (leaveActive k old new s).jtag = s.jtag ∧
      (leaveActive k old new s).fuses = s.fuses ∧ (leaveActive k old new s).cal = s.cal ∧
      (leaveActive k old new s).free = s.free ∧ (leaveActive k old new s).pending = s.pending := by
  have q1 := freeEntries_frame
  have q2 := releaseWaiting_frame
  simp [q1, q2, leaveActive]

theorem changeSet_frame (k : Nat) (new : SetState) (s : State) :
    (changeSet k new s).almanac = s.almanac ∧ (changeSet k new s).dev = s.dev ∧ (changeSet k new s).stations = s.stations ∧
      (changeSet k new s).drc = s.drc ∧ (changeSet k new s).dram = s.dram ∧ (changeSet k new s).cht = s.cht ∧
      (changeSet k new s).stw = s.stw ∧ (changeSet k new s).cel = s.cel ∧ (changeSet k new s).dmw = s.dmw ∧
      (changeSet k new s).nrg = s.nrg ∧ (changeSet k new s).gau = s.gau ∧ (changeSet k new s).rek = s.rek ∧
      (changeSet k new s).att = s.att ∧ (changeSet k new s).ecc = s.ecc ∧ (changeSet k new s).twp = s.twp ∧
      (changeSet k new s).svc = s.svc ∧ (changeSet k new s).pwr = s.pwr ∧ (changeSet k new s).fpl = s.fpl ∧
      (changeSet k new s).jtag = s.jtag ∧ (changeSet k new s).fuses = s.fuses ∧ (changeSet k new s).cal = s.cal ∧
      (changeSet k new s).free = s.free ∧ (changeSet k new s).pending = s.pending := by
  have q1 := alertBit_frame
  have q2 := event_frame
  have q3 := leaveActive_frame
  have q4 := modSet_frame
  have q5 := notify_frame
  have q6 := oldRoles_frame
  simp [q1, q2, q3, q4, q5, q6, changeSet]

theorem modNand_frame (part d b : Nat) (f : NandBlock → NandBlock) (s : State) :
    (modNand part d b f s).almanac = s.almanac ∧ (modNand part d b f s).dev = s.dev ∧
      (modNand part d b f s).stations = s.stations ∧ (modNand part d b f s).hst = s.hst ∧ (modNand part d b f s).drc = s.drc ∧
      (modNand part d b f s).dram = s.dram ∧ (modNand part d b f s).cht = s.cht ∧ (modNand part d b f s).sui = s.sui ∧
      (modNand part d b f s).stw = s.stw ∧ (modNand part d b f s).sav = s.sav ∧ (modNand part d b f s).dmw = s.dmw ∧
      (modNand part d b f s).nrg = s.nrg ∧ (modNand part d b f s).gau = s.gau ∧ (modNand part d b f s).rek = s.rek ∧
      (modNand part d b f s).plk = s.plk ∧ (modNand part d b f s).att = s.att ∧ (modNand part d b f s).ecc = s.ecc ∧
      (modNand part d b f s).tws = s.tws ∧ (modNand part d b f s).twp = s.twp ∧ (modNand part d b f s).svc = s.svc ∧
      (modNand part d b f s).log = s.log ∧ (modNand part d b f s).pwr = s.pwr ∧ (modNand part d b f s).fpl = s.fpl ∧
      (modNand part d b f s).jtag = s.jtag ∧ (modNand part d b f s).fuses = s.fuses ∧ (modNand part d b f s).cal = s.cal ∧
      (modNand part d b f s).out = s.out ∧ (modNand part d b f s).free = s.free ∧ (modNand part d b f s).pending = s.pending :=
      by
  simp [modNand]

@[simp] theorem modDie_frame (d : Nat) (f : Die → Die) (s : State) :
    (modDie d f s).almanac = s.almanac ∧ (modDie d f s).dev = s.dev ∧ (modDie d f s).stations = s.stations ∧
      (modDie d f s).hst = s.hst ∧ (modDie d f s).drc = s.drc ∧ (modDie d f s).dram = s.dram ∧ (modDie d f s).cht = s.cht ∧
      (modDie d f s).sui = s.sui ∧ (modDie d f s).stw = s.stw ∧ (modDie d f s).sav = s.sav ∧ (modDie d f s).dmw = s.dmw ∧
      (modDie d f s).nrg = s.nrg ∧ (modDie d f s).gau = s.gau ∧ (modDie d f s).rek = s.rek ∧ (modDie d f s).plk = s.plk ∧
      (modDie d f s).att = s.att ∧ (modDie d f s).ecc = s.ecc ∧ (modDie d f s).tws = s.tws ∧ (modDie d f s).twp = s.twp ∧
      (modDie d f s).svc = s.svc ∧ (modDie d f s).log = s.log ∧ (modDie d f s).pwr = s.pwr ∧ (modDie d f s).fpl = s.fpl ∧
      (modDie d f s).jtag = s.jtag ∧ (modDie d f s).fuses = s.fuses ∧ (modDie d f s).cal = s.cal ∧ (modDie d f s).out = s.out ∧
      (modDie d f s).free = s.free ∧ (modDie d f s).pending = s.pending := by
  simp [modDie]

@[simp] theorem dieWorks_frame (d : Nat) (s : State) :
    (dieWorks d s).almanac = s.almanac ∧ (dieWorks d s).dev = s.dev ∧ (dieWorks d s).stations = s.stations ∧
      (dieWorks d s).hst = s.hst ∧ (dieWorks d s).drc = s.drc ∧ (dieWorks d s).dram = s.dram ∧ (dieWorks d s).cht = s.cht ∧
      (dieWorks d s).sui = s.sui ∧ (dieWorks d s).stw = s.stw ∧ (dieWorks d s).sav = s.sav ∧ (dieWorks d s).dmw = s.dmw ∧
      (dieWorks d s).nrg = s.nrg ∧ (dieWorks d s).gau = s.gau ∧ (dieWorks d s).rek = s.rek ∧ (dieWorks d s).plk = s.plk ∧
      (dieWorks d s).att = s.att ∧ (dieWorks d s).ecc = s.ecc ∧ (dieWorks d s).tws = s.tws ∧ (dieWorks d s).twp = s.twp ∧
      (dieWorks d s).svc = s.svc ∧ (dieWorks d s).log = s.log ∧ (dieWorks d s).pwr = s.pwr ∧ (dieWorks d s).fpl = s.fpl ∧
      (dieWorks d s).jtag = s.jtag ∧ (dieWorks d s).fuses = s.fuses ∧ (dieWorks d s).cal = s.cal ∧ (dieWorks d s).out = s.out ∧
      (dieWorks d s).free = s.free ∧ (dieWorks d s).pending = s.pending := by
  simp [dieWorks]

theorem issueDie_frame (d : Nat) (s : State) :
    (issueDie d s).almanac = s.almanac ∧ (issueDie d s).dev = s.dev ∧ (issueDie d s).stations = s.stations ∧
      (issueDie d s).hst = s.hst ∧ (issueDie d s).drc = s.drc ∧ (issueDie d s).dram = s.dram ∧ (issueDie d s).cht = s.cht ∧
      (issueDie d s).sui = s.sui ∧ (issueDie d s).stw = s.stw ∧ (issueDie d s).sav = s.sav ∧ (issueDie d s).dmw = s.dmw ∧
      (issueDie d s).nrg = s.nrg ∧ (issueDie d s).gau = s.gau ∧ (issueDie d s).rek = s.rek ∧ (issueDie d s).plk = s.plk ∧
      (issueDie d s).att = s.att ∧ (issueDie d s).ecc = s.ecc ∧ (issueDie d s).tws = s.tws ∧ (issueDie d s).twp = s.twp ∧
      (issueDie d s).svc = s.svc ∧ (issueDie d s).log = s.log ∧ (issueDie d s).pwr = s.pwr ∧ (issueDie d s).fpl = s.fpl ∧
      (issueDie d s).jtag = s.jtag ∧ (issueDie d s).fuses = s.fuses ∧ (issueDie d s).cal = s.cal ∧ (issueDie d s).out = s.out ∧
      (issueDie d s).free = s.free ∧ (issueDie d s).pending = s.pending := by
  unfold issueDie; (repeat' split) <;> simp_all

theorem issueAll_frame (s : State) :
    (issueAll s).almanac = s.almanac ∧ (issueAll s).dev = s.dev ∧ (issueAll s).stations = s.stations ∧
      (issueAll s).hst = s.hst ∧ (issueAll s).drc = s.drc ∧ (issueAll s).dram = s.dram ∧ (issueAll s).cht = s.cht ∧
      (issueAll s).sui = s.sui ∧ (issueAll s).stw = s.stw ∧ (issueAll s).sav = s.sav ∧ (issueAll s).dmw = s.dmw ∧
      (issueAll s).nrg = s.nrg ∧ (issueAll s).gau = s.gau ∧ (issueAll s).rek = s.rek ∧ (issueAll s).plk = s.plk ∧
      (issueAll s).att = s.att ∧ (issueAll s).ecc = s.ecc ∧ (issueAll s).tws = s.tws ∧ (issueAll s).twp = s.twp ∧
      (issueAll s).svc = s.svc ∧ (issueAll s).log = s.log ∧ (issueAll s).pwr = s.pwr ∧ (issueAll s).fpl = s.fpl ∧
      (issueAll s).jtag = s.jtag ∧ (issueAll s).fuses = s.fuses ∧ (issueAll s).cal = s.cal ∧ (issueAll s).out = s.out ∧
      (issueAll s).free = s.free ∧ (issueAll s).pending = s.pending := by
  have q1 := issueDie_frame
  simp [q1, issueAll]

theorem giveSlot_frame (c : CopyFlight) (s : State) :
    (giveSlot c s).2.almanac = s.almanac ∧ (giveSlot c s).2.dev = s.dev ∧ (giveSlot c s).2.stations = s.stations ∧
      (giveSlot c s).2.hst = s.hst ∧ (giveSlot c s).2.drc = s.drc ∧ (giveSlot c s).2.dram = s.dram ∧
      (giveSlot c s).2.cht = s.cht ∧ (giveSlot c s).2.sui = s.sui ∧ (giveSlot c s).2.stw = s.stw ∧
      (giveSlot c s).2.sav = s.sav ∧ (giveSlot c s).2.dmw = s.dmw ∧ (giveSlot c s).2.nrg = s.nrg ∧
      (giveSlot c s).2.gau = s.gau ∧ (giveSlot c s).2.rek = s.rek ∧ (giveSlot c s).2.plk = s.plk ∧
      (giveSlot c s).2.att = s.att ∧ (giveSlot c s).2.ecc = s.ecc ∧ (giveSlot c s).2.tws = s.tws ∧
      (giveSlot c s).2.twp = s.twp ∧ (giveSlot c s).2.svc = s.svc ∧ (giveSlot c s).2.log = s.log ∧
      (giveSlot c s).2.pwr = s.pwr ∧ (giveSlot c s).2.fpl = s.fpl ∧ (giveSlot c s).2.jtag = s.jtag ∧
      (giveSlot c s).2.fuses = s.fuses ∧ (giveSlot c s).2.cal = s.cal ∧ (giveSlot c s).2.out = s.out ∧
      (giveSlot c s).2.free = s.free ∧ (giveSlot c s).2.pending = s.pending := by
  have q1 := modNand_frame
  unfold giveSlot; (repeat' split) <;> simp_all

theorem placeCopy_frame (c : CopyFlight) (s : State) :
    (placeCopy c s).almanac = s.almanac ∧ (placeCopy c s).dev = s.dev ∧ (placeCopy c s).stations = s.stations ∧
      (placeCopy c s).hst = s.hst ∧ (placeCopy c s).drc = s.drc ∧ (placeCopy c s).dram = s.dram ∧ (placeCopy c s).cht = s.cht ∧
      (placeCopy c s).sui = s.sui ∧ (placeCopy c s).stw = s.stw ∧ (placeCopy c s).sav = s.sav ∧ (placeCopy c s).dmw = s.dmw ∧
      (placeCopy c s).nrg = s.nrg ∧ (placeCopy c s).gau = s.gau ∧ (placeCopy c s).rek = s.rek ∧ (placeCopy c s).plk = s.plk ∧
      (placeCopy c s).att = s.att ∧ (placeCopy c s).ecc = s.ecc ∧ (placeCopy c s).tws = s.tws ∧ (placeCopy c s).twp = s.twp ∧
      (placeCopy c s).svc = s.svc ∧ (placeCopy c s).log = s.log ∧ (placeCopy c s).pwr = s.pwr ∧ (placeCopy c s).fpl = s.fpl ∧
      (placeCopy c s).jtag = s.jtag ∧ (placeCopy c s).fuses = s.fuses ∧ (placeCopy c s).cal = s.cal ∧
      (placeCopy c s).out = s.out ∧ (placeCopy c s).free = s.free ∧ (placeCopy c s).pending = s.pending := by
  have q1 := giveSlot_frame
  simp [q1, placeCopy]

theorem placeAll_frame (s : State) :
    (placeAll s).almanac = s.almanac ∧ (placeAll s).dev = s.dev ∧ (placeAll s).stations = s.stations ∧
      (placeAll s).hst = s.hst ∧ (placeAll s).drc = s.drc ∧ (placeAll s).dram = s.dram ∧ (placeAll s).cht = s.cht ∧
      (placeAll s).sui = s.sui ∧ (placeAll s).stw = s.stw ∧ (placeAll s).sav = s.sav ∧ (placeAll s).dmw = s.dmw ∧
      (placeAll s).nrg = s.nrg ∧ (placeAll s).gau = s.gau ∧ (placeAll s).rek = s.rek ∧ (placeAll s).plk = s.plk ∧
      (placeAll s).att = s.att ∧ (placeAll s).ecc = s.ecc ∧ (placeAll s).tws = s.tws ∧ (placeAll s).twp = s.twp ∧
      (placeAll s).svc = s.svc ∧ (placeAll s).log = s.log ∧ (placeAll s).pwr = s.pwr ∧ (placeAll s).fpl = s.fpl ∧
      (placeAll s).jtag = s.jtag ∧ (placeAll s).fuses = s.fuses ∧ (placeAll s).cal = s.cal ∧ (placeAll s).out = s.out ∧
      (placeAll s).free = s.free ∧ (placeAll s).pending = s.pending := by
  have q1 := placeCopy_frame
  simp [q1, placeAll]

theorem placeStaged_frame (s : State) :
    (placeStaged s).almanac = s.almanac ∧ (placeStaged s).dev = s.dev ∧ (placeStaged s).stations = s.stations ∧
      (placeStaged s).hst = s.hst ∧ (placeStaged s).drc = s.drc ∧ (placeStaged s).dram = s.dram ∧ (placeStaged s).cht = s.cht ∧
      (placeStaged s).sui = s.sui ∧ (placeStaged s).stw = s.stw ∧ (placeStaged s).sav = s.sav ∧ (placeStaged s).dmw = s.dmw ∧
      (placeStaged s).nrg = s.nrg ∧ (placeStaged s).gau = s.gau ∧ (placeStaged s).rek = s.rek ∧ (placeStaged s).plk = s.plk ∧
      (placeStaged s).att = s.att ∧ (placeStaged s).ecc = s.ecc ∧ (placeStaged s).tws = s.tws ∧ (placeStaged s).twp = s.twp ∧
      (placeStaged s).svc = s.svc ∧ (placeStaged s).log = s.log ∧ (placeStaged s).pwr = s.pwr ∧ (placeStaged s).fpl = s.fpl ∧
      (placeStaged s).jtag = s.jtag ∧ (placeStaged s).fuses = s.fuses ∧ (placeStaged s).cal = s.cal ∧
      (placeStaged s).out = s.out ∧ (placeStaged s).free = s.free ∧ (placeStaged s).pending = s.pending := by
  have q1 := issueAll_frame
  have q2 := placeAll_frame
  simp [q1, q2, placeStaged]

@[simp] theorem startCopy_frame (t : Nat) (src : CopySrc) (img : Image) (s : State) :
    (startCopy t src img s).almanac = s.almanac ∧ (startCopy t src img s).dev = s.dev ∧
      (startCopy t src img s).stations = s.stations ∧ (startCopy t src img s).hst = s.hst ∧
      (startCopy t src img s).drc = s.drc ∧ (startCopy t src img s).dram = s.dram ∧ (startCopy t src img s).cht = s.cht ∧
      (startCopy t src img s).sui = s.sui ∧ (startCopy t src img s).stw = s.stw ∧ (startCopy t src img s).sav = s.sav ∧
      (startCopy t src img s).dmw = s.dmw ∧ (startCopy t src img s).nrg = s.nrg ∧ (startCopy t src img s).gau = s.gau ∧
      (startCopy t src img s).rek = s.rek ∧ (startCopy t src img s).plk = s.plk ∧ (startCopy t src img s).att = s.att ∧
      (startCopy t src img s).ecc = s.ecc ∧ (startCopy t src img s).tws = s.tws ∧ (startCopy t src img s).twp = s.twp ∧
      (startCopy t src img s).svc = s.svc ∧ (startCopy t src img s).log = s.log ∧ (startCopy t src img s).pwr = s.pwr ∧
      (startCopy t src img s).fpl = s.fpl ∧ (startCopy t src img s).jtag = s.jtag ∧ (startCopy t src img s).fuses = s.fuses ∧
      (startCopy t src img s).cal = s.cal ∧ (startCopy t src img s).out = s.out ∧ (startCopy t src img s).free = s.free ∧
      (startCopy t src img s).pending = s.pending := by
  have q1 := placeStaged_frame
  simp [q1, startCopy]

theorem tprogBand_frame (typ : Nat) (old new : List Nat) (s : State) :
    (tprogBand typ old new s).almanac = s.almanac ∧ (tprogBand typ old new s).dev = s.dev ∧
      (tprogBand typ old new s).stations = s.stations ∧ (tprogBand typ old new s).hst = s.hst ∧
      (tprogBand typ old new s).drc = s.drc ∧ (tprogBand typ old new s).dram = s.dram ∧ (tprogBand typ old new s).cht = s.cht ∧
      (tprogBand typ old new s).sui = s.sui ∧ (tprogBand typ old new s).stw = s.stw ∧ (tprogBand typ old new s).sav = s.sav ∧
      (tprogBand typ old new s).cel = s.cel ∧ (tprogBand typ old new s).dmw = s.dmw ∧ (tprogBand typ old new s).nrg = s.nrg ∧
      (tprogBand typ old new s).gau = s.gau ∧ (tprogBand typ old new s).plk = s.plk ∧ (tprogBand typ old new s).att = s.att ∧
      (tprogBand typ old new s).ecc = s.ecc ∧ (tprogBand typ old new s).tws = s.tws ∧ (tprogBand typ old new s).twp = s.twp ∧
      (tprogBand typ old new s).svc = s.svc ∧ (tprogBand typ old new s).log = s.log ∧ (tprogBand typ old new s).pwr = s.pwr ∧
      (tprogBand typ old new s).fpl = s.fpl ∧ (tprogBand typ old new s).jtag = s.jtag ∧
      (tprogBand typ old new s).fuses = s.fuses ∧ (tprogBand typ old new s).cal = s.cal ∧
      (tprogBand typ old new s).out = s.out ∧ (tprogBand typ old new s).free = s.free ∧
      (tprogBand typ old new s).pending = s.pending := by
  simp [tprogBand]

theorem noteTlc_frame (us : Nat) (s : State) :
    (noteTlc us s).almanac = s.almanac ∧ (noteTlc us s).dev = s.dev ∧ (noteTlc us s).stations = s.stations ∧
      (noteTlc us s).hst = s.hst ∧ (noteTlc us s).drc = s.drc ∧ (noteTlc us s).dram = s.dram ∧ (noteTlc us s).cht = s.cht ∧
      (noteTlc us s).sui = s.sui ∧ (noteTlc us s).stw = s.stw ∧ (noteTlc us s).sav = s.sav ∧ (noteTlc us s).dmw = s.dmw ∧
      (noteTlc us s).nrg = s.nrg ∧ (noteTlc us s).gau = s.gau ∧ (noteTlc us s).plk = s.plk ∧ (noteTlc us s).att = s.att ∧
      (noteTlc us s).ecc = s.ecc ∧ (noteTlc us s).tws = s.tws ∧ (noteTlc us s).twp = s.twp ∧ (noteTlc us s).svc = s.svc ∧
      (noteTlc us s).log = s.log ∧ (noteTlc us s).pwr = s.pwr ∧ (noteTlc us s).fpl = s.fpl ∧ (noteTlc us s).jtag = s.jtag ∧
      (noteTlc us s).fuses = s.fuses ∧ (noteTlc us s).cal = s.cal ∧ (noteTlc us s).out = s.out ∧ (noteTlc us s).free = s.free ∧
      (noteTlc us s).pending = s.pending := by
  have q1 := tprogBand_frame
  simp [q1, noteTlc]

theorem notePslc_frame (us : Nat) (s : State) :
    (notePslc us s).almanac = s.almanac ∧ (notePslc us s).dev = s.dev ∧ (notePslc us s).stations = s.stations ∧
      (notePslc us s).hst = s.hst ∧ (notePslc us s).drc = s.drc ∧ (notePslc us s).dram = s.dram ∧ (notePslc us s).cht = s.cht ∧
      (notePslc us s).sui = s.sui ∧ (notePslc us s).stw = s.stw ∧ (notePslc us s).sav = s.sav ∧ (notePslc us s).dmw = s.dmw ∧
      (notePslc us s).nrg = s.nrg ∧ (notePslc us s).gau = s.gau ∧ (notePslc us s).plk = s.plk ∧ (notePslc us s).att = s.att ∧
      (notePslc us s).ecc = s.ecc ∧ (notePslc us s).tws = s.tws ∧ (notePslc us s).twp = s.twp ∧ (notePslc us s).svc = s.svc ∧
      (notePslc us s).log = s.log ∧ (notePslc us s).pwr = s.pwr ∧ (notePslc us s).fpl = s.fpl ∧ (notePslc us s).jtag = s.jtag ∧
      (notePslc us s).fuses = s.fuses ∧ (notePslc us s).cal = s.cal ∧ (notePslc us s).out = s.out ∧
      (notePslc us s).free = s.free ∧ (notePslc us s).pending = s.pending := by
  have q1 := tprogBand_frame
  simp [q1, notePslc]

theorem spareCheck_frame (s : State) :
    (spareCheck s).almanac = s.almanac ∧ (spareCheck s).fuses = s.fuses ∧ (spareCheck s).pending = s.pending := by
  have q1 := raise_frame
  have q2 := setReason_frame
  simp [q1, q2, spareCheck]

theorem spareAtBoot_frame (s : State) :
    (spareAtBoot s).almanac = s.almanac ∧ (spareAtBoot s).fuses = s.fuses ∧ (spareAtBoot s).pending = s.pending := by
  have q1 := clearReason_frame
  have q2 := spareCheck_frame
  simp [q1, q2, spareAtBoot]

theorem unplace_frame (d b : Nat) (s : State) :
    (unplace d b s).almanac = s.almanac ∧ (unplace d b s).dev = s.dev ∧ (unplace d b s).stations = s.stations ∧
      (unplace d b s).hst = s.hst ∧ (unplace d b s).drc = s.drc ∧ (unplace d b s).dram = s.dram ∧ (unplace d b s).cht = s.cht ∧
      (unplace d b s).sui = s.sui ∧ (unplace d b s).stw = s.stw ∧ (unplace d b s).sav = s.sav ∧ (unplace d b s).dmw = s.dmw ∧
      (unplace d b s).nrg = s.nrg ∧ (unplace d b s).gau = s.gau ∧ (unplace d b s).rek = s.rek ∧ (unplace d b s).plk = s.plk ∧
      (unplace d b s).att = s.att ∧ (unplace d b s).ecc = s.ecc ∧ (unplace d b s).tws = s.tws ∧ (unplace d b s).twp = s.twp ∧
      (unplace d b s).svc = s.svc ∧ (unplace d b s).log = s.log ∧ (unplace d b s).pwr = s.pwr ∧ (unplace d b s).fpl = s.fpl ∧
      (unplace d b s).jtag = s.jtag ∧ (unplace d b s).fuses = s.fuses ∧ (unplace d b s).cal = s.cal ∧
      (unplace d b s).out = s.out ∧ (unplace d b s).free = s.free ∧ (unplace d b s).pending = s.pending := by
  simp [unplace]

theorem retireBlock_frame (part d b : Nat) (onErase : Bool) (s : State) :
    (retireBlock part d b onErase s).almanac = s.almanac ∧ (retireBlock part d b onErase s).fuses = s.fuses ∧
      (retireBlock part d b onErase s).pending = s.pending := by
  have q1 := modNand_frame
  have q2 := spareCheck_frame
  have q3 := unplace_frame
  simp [q1, q2, q3, retireBlock]

@[simp] theorem putMeta_frame (q : Nat) (x : MetaBlk) (s : State) :
    (putMeta q x s).almanac = s.almanac ∧ (putMeta q x s).dev = s.dev ∧ (putMeta q x s).stations = s.stations ∧
      (putMeta q x s).hst = s.hst ∧ (putMeta q x s).drc = s.drc ∧ (putMeta q x s).dram = s.dram ∧ (putMeta q x s).cht = s.cht ∧
      (putMeta q x s).sui = s.sui ∧ (putMeta q x s).stw = s.stw ∧ (putMeta q x s).sav = s.sav ∧ (putMeta q x s).dmw = s.dmw ∧
      (putMeta q x s).nrg = s.nrg ∧ (putMeta q x s).gau = s.gau ∧ (putMeta q x s).rek = s.rek ∧ (putMeta q x s).plk = s.plk ∧
      (putMeta q x s).att = s.att ∧ (putMeta q x s).ecc = s.ecc ∧ (putMeta q x s).tws = s.tws ∧ (putMeta q x s).twp = s.twp ∧
      (putMeta q x s).svc = s.svc ∧ (putMeta q x s).log = s.log ∧ (putMeta q x s).pwr = s.pwr ∧ (putMeta q x s).fpl = s.fpl ∧
      (putMeta q x s).jtag = s.jtag ∧ (putMeta q x s).fuses = s.fuses ∧ (putMeta q x s).cal = s.cal ∧
      (putMeta q x s).out = s.out ∧ (putMeta q x s).free = s.free ∧ (putMeta q x s).pending = s.pending := by
  have q1 := modNand_frame
  simp [q1, putMeta]

theorem dropDead_frame (s : State) :
    (dropDead s).almanac = s.almanac ∧ (dropDead s).dev = s.dev ∧ (dropDead s).stations = s.stations ∧
      (dropDead s).hst = s.hst ∧ (dropDead s).drc = s.drc ∧ (dropDead s).dram = s.dram ∧ (dropDead s).cht = s.cht ∧
      (dropDead s).sui = s.sui ∧ (dropDead s).stw = s.stw ∧ (dropDead s).sav = s.sav ∧ (dropDead s).dmw = s.dmw ∧
      (dropDead s).nrg = s.nrg ∧ (dropDead s).gau = s.gau ∧ (dropDead s).rek = s.rek ∧ (dropDead s).plk = s.plk ∧
      (dropDead s).att = s.att ∧ (dropDead s).ecc = s.ecc ∧ (dropDead s).tws = s.tws ∧ (dropDead s).twp = s.twp ∧
      (dropDead s).svc = s.svc ∧ (dropDead s).log = s.log ∧ (dropDead s).pwr = s.pwr ∧ (dropDead s).fpl = s.fpl ∧
      (dropDead s).jtag = s.jtag ∧ (dropDead s).fuses = s.fuses ∧ (dropDead s).cal = s.cal ∧ (dropDead s).out = s.out ∧
      (dropDead s).free = s.free ∧ (dropDead s).pending = s.pending := by
  simp [dropDead]

theorem dropItem_frame (i : MetaItem) (s : State) :
    (dropItem i s).almanac = s.almanac ∧ (dropItem i s).dev = s.dev ∧ (dropItem i s).stations = s.stations ∧
      (dropItem i s).hst = s.hst ∧ (dropItem i s).drc = s.drc ∧ (dropItem i s).dram = s.dram ∧ (dropItem i s).cht = s.cht ∧
      (dropItem i s).sui = s.sui ∧ (dropItem i s).stw = s.stw ∧ (dropItem i s).sav = s.sav ∧ (dropItem i s).dmw = s.dmw ∧
      (dropItem i s).nrg = s.nrg ∧ (dropItem i s).gau = s.gau ∧ (dropItem i s).rek = s.rek ∧ (dropItem i s).plk = s.plk ∧
      (dropItem i s).att = s.att ∧ (dropItem i s).ecc = s.ecc ∧ (dropItem i s).tws = s.tws ∧ (dropItem i s).twp = s.twp ∧
      (dropItem i s).svc = s.svc ∧ (dropItem i s).log = s.log ∧ (dropItem i s).pwr = s.pwr ∧ (dropItem i s).fpl = s.fpl ∧
      (dropItem i s).jtag = s.jtag ∧ (dropItem i s).fuses = s.fuses ∧ (dropItem i s).cal = s.cal ∧ (dropItem i s).out = s.out ∧
      (dropItem i s).free = s.free ∧ (dropItem i s).pending = s.pending := by
  have q1 := dropDead_frame
  simp [q1, dropItem]

theorem buildRecord_frame (r : Nat) (full : Bool) (s : State) :
    (buildRecord r full s).almanac = s.almanac ∧ (buildRecord r full s).dev = s.dev ∧
      (buildRecord r full s).stations = s.stations ∧ (buildRecord r full s).hst = s.hst ∧ (buildRecord r full s).drc = s.drc ∧
      (buildRecord r full s).dram = s.dram ∧ (buildRecord r full s).cht = s.cht ∧ (buildRecord r full s).sui = s.sui ∧
      (buildRecord r full s).stw = s.stw ∧ (buildRecord r full s).sav = s.sav ∧ (buildRecord r full s).dmw = s.dmw ∧
      (buildRecord r full s).nrg = s.nrg ∧ (buildRecord r full s).gau = s.gau ∧ (buildRecord r full s).rek = s.rek ∧
      (buildRecord r full s).plk = s.plk ∧ (buildRecord r full s).att = s.att ∧ (buildRecord r full s).ecc = s.ecc ∧
      (buildRecord r full s).tws = s.tws ∧ (buildRecord r full s).twp = s.twp ∧ (buildRecord r full s).svc = s.svc ∧
      (buildRecord r full s).log = s.log ∧ (buildRecord r full s).pwr = s.pwr ∧ (buildRecord r full s).fpl = s.fpl ∧
      (buildRecord r full s).jtag = s.jtag ∧ (buildRecord r full s).fuses = s.fuses ∧ (buildRecord r full s).cal = s.cal ∧
      (buildRecord r full s).out = s.out ∧ (buildRecord r full s).free = s.free ∧ (buildRecord r full s).pending = s.pending :=
      by
  simp [buildRecord]

theorem refreshRecord_frame (r : Nat) (s : State) :
    (refreshRecord r s).almanac = s.almanac ∧ (refreshRecord r s).dev = s.dev ∧ (refreshRecord r s).stations = s.stations ∧
      (refreshRecord r s).hst = s.hst ∧ (refreshRecord r s).drc = s.drc ∧ (refreshRecord r s).dram = s.dram ∧
      (refreshRecord r s).cht = s.cht ∧ (refreshRecord r s).sui = s.sui ∧ (refreshRecord r s).stw = s.stw ∧
      (refreshRecord r s).sav = s.sav ∧ (refreshRecord r s).dmw = s.dmw ∧ (refreshRecord r s).nrg = s.nrg ∧
      (refreshRecord r s).gau = s.gau ∧ (refreshRecord r s).rek = s.rek ∧ (refreshRecord r s).plk = s.plk ∧
      (refreshRecord r s).att = s.att ∧ (refreshRecord r s).ecc = s.ecc ∧ (refreshRecord r s).tws = s.tws ∧
      (refreshRecord r s).twp = s.twp ∧ (refreshRecord r s).svc = s.svc ∧ (refreshRecord r s).log = s.log ∧
      (refreshRecord r s).pwr = s.pwr ∧ (refreshRecord r s).fpl = s.fpl ∧ (refreshRecord r s).jtag = s.jtag ∧
      (refreshRecord r s).fuses = s.fuses ∧ (refreshRecord r s).cal = s.cal ∧ (refreshRecord r s).out = s.out ∧
      (refreshRecord r s).free = s.free ∧ (refreshRecord r s).pending = s.pending := by
  simp [refreshRecord]

theorem putInForce_frame (m : RoomMap) (ptr : Nat) (s : State) :
    (putInForce m ptr s).almanac = s.almanac ∧ (putInForce m ptr s).dev = s.dev ∧ (putInForce m ptr s).stations = s.stations ∧
      (putInForce m ptr s).hst = s.hst ∧ (putInForce m ptr s).drc = s.drc ∧ (putInForce m ptr s).dram = s.dram ∧
      (putInForce m ptr s).sui = s.sui ∧ (putInForce m ptr s).stw = s.stw ∧ (putInForce m ptr s).sav = s.sav ∧
      (putInForce m ptr s).cel = s.cel ∧ (putInForce m ptr s).dmw = s.dmw ∧ (putInForce m ptr s).nrg = s.nrg ∧
      (putInForce m ptr s).gau = s.gau ∧ (putInForce m ptr s).rek = s.rek ∧ (putInForce m ptr s).plk = s.plk ∧
      (putInForce m ptr s).att = s.att ∧ (putInForce m ptr s).ecc = s.ecc ∧ (putInForce m ptr s).tws = s.tws ∧
      (putInForce m ptr s).twp = s.twp ∧ (putInForce m ptr s).svc = s.svc ∧ (putInForce m ptr s).log = s.log ∧
      (putInForce m ptr s).pwr = s.pwr ∧ (putInForce m ptr s).fpl = s.fpl ∧ (putInForce m ptr s).jtag = s.jtag ∧
      (putInForce m ptr s).fuses = s.fuses ∧ (putInForce m ptr s).cal = s.cal ∧ (putInForce m ptr s).out = s.out ∧
      (putInForce m ptr s).free = s.free ∧ (putInForce m ptr s).pending = s.pending := by
  have q1 := modEntry_frame
  simp [q1, putInForce]

theorem startErasures_frame (s : State) :
    (startErasures s).almanac = s.almanac ∧ (startErasures s).dev = s.dev ∧ (startErasures s).stations = s.stations ∧
      (startErasures s).hst = s.hst ∧ (startErasures s).drc = s.drc ∧ (startErasures s).dram = s.dram ∧
      (startErasures s).cht = s.cht ∧ (startErasures s).sui = s.sui ∧ (startErasures s).stw = s.stw ∧
      (startErasures s).sav = s.sav ∧ (startErasures s).dmw = s.dmw ∧ (startErasures s).nrg = s.nrg ∧
      (startErasures s).gau = s.gau ∧ (startErasures s).rek = s.rek ∧ (startErasures s).plk = s.plk ∧
      (startErasures s).att = s.att ∧ (startErasures s).ecc = s.ecc ∧ (startErasures s).tws = s.tws ∧
      (startErasures s).twp = s.twp ∧ (startErasures s).svc = s.svc ∧ (startErasures s).log = s.log ∧
      (startErasures s).pwr = s.pwr ∧ (startErasures s).fpl = s.fpl ∧ (startErasures s).jtag = s.jtag ∧
      (startErasures s).fuses = s.fuses ∧ (startErasures s).cal = s.cal ∧ (startErasures s).out = s.out ∧
      (startErasures s).free = s.free ∧
      (startErasures s).pending = s.pending := ⟨(by apply startErasures_keeps (fun (s : State) => s.almanac) <;> (intros; simp)), (by apply startErasures_keeps (fun (s : State) => s.dev) <;> (intros; simp)), (by apply startErasures_keeps (fun (s : State) => s.stations) <;> (intros; simp)), (by apply startErasures_keeps (fun (s : State) => s.hst) <;> (intros; simp)), (by apply startErasures_keeps (fun (s : State) => s.drc) <;> (intros; simp)), (by apply startErasures_keeps (fun (s : State) => s.dram) <;> (intros; simp)), (by apply startErasures_keeps (fun (s : State) => s.cht) <;> (intros; simp)), (by apply startErasures_keeps (fun (s : State) => s.sui) <;> (intros; simp)), (by apply startErasures_keeps (fun (s : State) => s.stw) <;> (intros; simp)), (by apply startErasures_keeps (fun (s : State) => s.sav) <;> (intros; simp)), (by apply startErasures_keeps (fun (s : State) => s.dmw) <;> (intros; simp)), (by apply startErasures_keeps (fun (s : State) => s.nrg) <;> (intros; simp)), (by apply startErasures_keeps (fun (s : State) => s.gau) <;> (intros; simp)), (by apply startErasures_keeps (fun (s : State) => s.rek) <;> (intros; simp)), (by apply startErasures_keeps (fun (s : State) => s.plk) <;> (intros; simp)), (by apply startErasures_keeps (fun (s : State) => s.att) <;> (intros; simp)), (by apply startErasures_keeps (fun (s : State) => s.ecc) <;> (intros; simp)), (by apply startErasures_keeps (fun (s : State) => s.tws) <;> (intros; simp)), (by apply startErasures_keeps (fun (s : State) => s.twp) <;> (intros; simp)), (by apply startErasures_keeps (fun (s : State) => s.svc) <;> (intros; simp)), (by apply startErasures_keeps (fun (s : State) => s.log) <;> (intros; simp)), (by apply startErasures_keeps (fun (s : State) => s.pwr) <;> (intros; simp)), (by apply startErasures_keeps (fun (s : State) => s.fpl) <;> (intros; simp)), (by apply startErasures_keeps (fun (s : State) => s.jtag) <;> (intros; simp)), (by apply startErasures_keeps (fun (s : State) => s.fuses) <;> (intros; simp)), (by apply startErasures_keeps (fun (s : State) => s.cal) <;> (intros; simp)), (by apply startErasures_keeps (fun (s : State) => s.out) <;> (intros; simp)), (by apply startErasures_keeps (fun (s : State) => s.free) <;> (intros; simp)), (by apply startErasures_keeps (fun (s : State) => s.pending) <;> (intros; simp))⟩

theorem poisonInFlight_frame (beat : Nat) (s : State) :
    (poisonInFlight beat s).almanac = s.almanac ∧ (poisonInFlight beat s).dev = s.dev ∧
      (poisonInFlight beat s).stations = s.stations ∧ (poisonInFlight beat s).hst = s.hst ∧
      (poisonInFlight beat s).drc = s.drc ∧ (poisonInFlight beat s).dram = s.dram ∧ (poisonInFlight beat s).cht = s.cht ∧
      (poisonInFlight beat s).sui = s.sui ∧ (poisonInFlight beat s).stw = s.stw ∧ (poisonInFlight beat s).dmw = s.dmw ∧
      (poisonInFlight beat s).nrg = s.nrg ∧ (poisonInFlight beat s).gau = s.gau ∧ (poisonInFlight beat s).rek = s.rek ∧
      (poisonInFlight beat s).plk = s.plk ∧ (poisonInFlight beat s).att = s.att ∧ (poisonInFlight beat s).ecc = s.ecc ∧
      (poisonInFlight beat s).tws = s.tws ∧ (poisonInFlight beat s).twp = s.twp ∧ (poisonInFlight beat s).svc = s.svc ∧
      (poisonInFlight beat s).log = s.log ∧ (poisonInFlight beat s).pwr = s.pwr ∧ (poisonInFlight beat s).fpl = s.fpl ∧
      (poisonInFlight beat s).jtag = s.jtag ∧ (poisonInFlight beat s).fuses = s.fuses ∧ (poisonInFlight beat s).cal = s.cal ∧
      (poisonInFlight beat s).out = s.out ∧ (poisonInFlight beat s).free = s.free ∧
      (poisonInFlight beat s).pending = s.pending := by
  simp [poisonInFlight]

theorem retotal_frame (s : State) :
    (retotal s).almanac = s.almanac ∧ (retotal s).dev = s.dev ∧ (retotal s).stations = s.stations ∧ (retotal s).hst = s.hst ∧
      (retotal s).drc = s.drc ∧ (retotal s).dram = s.dram ∧ (retotal s).sui = s.sui ∧ (retotal s).stw = s.stw ∧
      (retotal s).sav = s.sav ∧ (retotal s).cel = s.cel ∧ (retotal s).dmw = s.dmw ∧ (retotal s).nrg = s.nrg ∧
      (retotal s).gau = s.gau ∧ (retotal s).rek = s.rek ∧ (retotal s).plk = s.plk ∧ (retotal s).att = s.att ∧
      (retotal s).ecc = s.ecc ∧ (retotal s).tws = s.tws ∧ (retotal s).twp = s.twp ∧ (retotal s).svc = s.svc ∧
      (retotal s).log = s.log ∧ (retotal s).pwr = s.pwr ∧ (retotal s).fpl = s.fpl ∧ (retotal s).jtag = s.jtag ∧
      (retotal s).fuses = s.fuses ∧ (retotal s).cal = s.cal ∧ (retotal s).out = s.out ∧ (retotal s).free = s.free ∧
      (retotal s).pending = s.pending := by
  simp [retotal]

theorem recountAll_frame (s : State) :
    (recountAll s).almanac = s.almanac ∧ (recountAll s).dev = s.dev ∧ (recountAll s).stations = s.stations ∧
      (recountAll s).hst = s.hst ∧ (recountAll s).drc = s.drc ∧ (recountAll s).dram = s.dram ∧ (recountAll s).stw = s.stw ∧
      (recountAll s).sav = s.sav ∧ (recountAll s).cel = s.cel ∧ (recountAll s).dmw = s.dmw ∧ (recountAll s).nrg = s.nrg ∧
      (recountAll s).gau = s.gau ∧ (recountAll s).rek = s.rek ∧ (recountAll s).plk = s.plk ∧ (recountAll s).att = s.att ∧
      (recountAll s).ecc = s.ecc ∧ (recountAll s).tws = s.tws ∧ (recountAll s).twp = s.twp ∧ (recountAll s).svc = s.svc ∧
      (recountAll s).log = s.log ∧ (recountAll s).pwr = s.pwr ∧ (recountAll s).fpl = s.fpl ∧ (recountAll s).jtag = s.jtag ∧
      (recountAll s).fuses = s.fuses ∧ (recountAll s).cal = s.cal ∧ (recountAll s).out = s.out ∧ (recountAll s).free = s.free ∧
      (recountAll s).pending = s.pending := by
  have q1 := retotal_frame
  simp [q1, recountAll]

theorem modRoomTiles_frame (r : Nat) (f : Tile → Tile) (s : State) :
    (modRoomTiles r f s).almanac = s.almanac ∧ (modRoomTiles r f s).dev = s.dev ∧ (modRoomTiles r f s).stations = s.stations ∧
      (modRoomTiles r f s).hst = s.hst ∧ (modRoomTiles r f s).drc = s.drc ∧ (modRoomTiles r f s).dram = s.dram ∧
      (modRoomTiles r f s).stw = s.stw ∧ (modRoomTiles r f s).sav = s.sav ∧ (modRoomTiles r f s).cel = s.cel ∧
      (modRoomTiles r f s).dmw = s.dmw ∧ (modRoomTiles r f s).nrg = s.nrg ∧ (modRoomTiles r f s).gau = s.gau ∧
      (modRoomTiles r f s).rek = s.rek ∧ (modRoomTiles r f s).plk = s.plk ∧ (modRoomTiles r f s).att = s.att ∧
      (modRoomTiles r f s).ecc = s.ecc ∧ (modRoomTiles r f s).tws = s.tws ∧ (modRoomTiles r f s).twp = s.twp ∧
      (modRoomTiles r f s).svc = s.svc ∧ (modRoomTiles r f s).log = s.log ∧ (modRoomTiles r f s).pwr = s.pwr ∧
      (modRoomTiles r f s).fpl = s.fpl ∧ (modRoomTiles r f s).jtag = s.jtag ∧ (modRoomTiles r f s).fuses = s.fuses ∧
      (modRoomTiles r f s).cal = s.cal ∧ (modRoomTiles r f s).out = s.out ∧ (modRoomTiles r f s).free = s.free ∧
      (modRoomTiles r f s).pending = s.pending := by
  have q1 := putTile_frame
  simp [q1, modRoomTiles]

theorem resetChart_frame (s : State) :
    (resetChart s).almanac = s.almanac ∧ (resetChart s).dev = s.dev ∧ (resetChart s).stations = s.stations ∧
      (resetChart s).drc = s.drc ∧ (resetChart s).dram = s.dram ∧ (resetChart s).stw = s.stw ∧ (resetChart s).sav = s.sav ∧
      (resetChart s).cel = s.cel ∧ (resetChart s).dmw = s.dmw ∧ (resetChart s).nrg = s.nrg ∧ (resetChart s).gau = s.gau ∧
      (resetChart s).rek = s.rek ∧ (resetChart s).plk = s.plk ∧ (resetChart s).att = s.att ∧ (resetChart s).ecc = s.ecc ∧
      (resetChart s).tws = s.tws ∧ (resetChart s).twp = s.twp ∧ (resetChart s).svc = s.svc ∧ (resetChart s).log = s.log ∧
      (resetChart s).pwr = s.pwr ∧ (resetChart s).fpl = s.fpl ∧ (resetChart s).jtag = s.jtag ∧ (resetChart s).fuses = s.fuses ∧
      (resetChart s).cal = s.cal ∧ (resetChart s).out = s.out ∧ (resetChart s).free = s.free ∧
      (resetChart s).pending = s.pending ∧ (resetChart s).hst.linkUp = s.hst.linkUp ∧
      (resetChart s).hst.gateClosed = s.hst.gateClosed := by
  simp [resetChart]

theorem reevalStalled_frame (s : State) :
    (reevalStalled s).almanac = s.almanac ∧ (reevalStalled s).fuses = s.fuses ∧ (reevalStalled s).cal = s.cal ∧
      (reevalStalled s).pending = s.pending := by
  have q1 := claimGranted_frame
  have q2 := grantClaim_frame
  have q3 := noteStall_frame
  simp [q1, q2, q3, reevalStalled]

theorem addCandidate_frame (t : Nat) (s : State) :
    (addCandidate t s).almanac = s.almanac ∧ (addCandidate t s).dev = s.dev ∧ (addCandidate t s).stations = s.stations ∧
      (addCandidate t s).hst = s.hst ∧ (addCandidate t s).drc = s.drc ∧ (addCandidate t s).dram = s.dram ∧
      (addCandidate t s).cht = s.cht ∧ (addCandidate t s).sui = s.sui ∧ (addCandidate t s).sav = s.sav ∧
      (addCandidate t s).cel = s.cel ∧ (addCandidate t s).dmw = s.dmw ∧ (addCandidate t s).nrg = s.nrg ∧
      (addCandidate t s).gau = s.gau ∧ (addCandidate t s).rek = s.rek ∧ (addCandidate t s).plk = s.plk ∧
      (addCandidate t s).att = s.att ∧ (addCandidate t s).ecc = s.ecc ∧ (addCandidate t s).tws = s.tws ∧
      (addCandidate t s).twp = s.twp ∧ (addCandidate t s).svc = s.svc ∧ (addCandidate t s).log = s.log ∧
      (addCandidate t s).pwr = s.pwr ∧ (addCandidate t s).fpl = s.fpl ∧ (addCandidate t s).jtag = s.jtag ∧
      (addCandidate t s).fuses = s.fuses ∧ (addCandidate t s).cal = s.cal ∧ (addCandidate t s).out = s.out ∧
      (addCandidate t s).free = s.free ∧ (addCandidate t s).pending = s.pending := by
  simp [addCandidate]

theorem visitTile_frame (t : Nat) (s : State) :
    (visitTile t s).almanac = s.almanac ∧ (visitTile t s).dev = s.dev ∧ (visitTile t s).stations = s.stations ∧
      (visitTile t s).hst = s.hst ∧ (visitTile t s).drc = s.drc ∧ (visitTile t s).dram = s.dram ∧ (visitTile t s).sav = s.sav ∧
      (visitTile t s).cel = s.cel ∧ (visitTile t s).dmw = s.dmw ∧ (visitTile t s).nrg = s.nrg ∧ (visitTile t s).gau = s.gau ∧
      (visitTile t s).rek = s.rek ∧ (visitTile t s).plk = s.plk ∧ (visitTile t s).att = s.att ∧ (visitTile t s).ecc = s.ecc ∧
      (visitTile t s).tws = s.tws ∧ (visitTile t s).twp = s.twp ∧ (visitTile t s).svc = s.svc ∧ (visitTile t s).log = s.log ∧
      (visitTile t s).pwr = s.pwr ∧ (visitTile t s).fpl = s.fpl ∧ (visitTile t s).jtag = s.jtag ∧
      (visitTile t s).fuses = s.fuses ∧ (visitTile t s).cal = s.cal ∧ (visitTile t s).out = s.out ∧
      (visitTile t s).free = s.free ∧ (visitTile t s).pending = s.pending := by
  have q1 := addCandidate_frame
  have q2 := putTile_frame
  simp [q1, q2, visitTile]

theorem noteStart_frame (s : State) :
    (noteStart s).almanac = s.almanac ∧ (noteStart s).dev = s.dev ∧ (noteStart s).stations = s.stations ∧
      (noteStart s).hst = s.hst ∧ (noteStart s).drc = s.drc ∧ (noteStart s).dram = s.dram ∧ (noteStart s).cht = s.cht ∧
      (noteStart s).sui = s.sui ∧ (noteStart s).sav = s.sav ∧ (noteStart s).cel = s.cel ∧ (noteStart s).dmw = s.dmw ∧
      (noteStart s).nrg = s.nrg ∧ (noteStart s).gau = s.gau ∧ (noteStart s).rek = s.rek ∧ (noteStart s).plk = s.plk ∧
      (noteStart s).att = s.att ∧ (noteStart s).ecc = s.ecc ∧ (noteStart s).tws = s.tws ∧ (noteStart s).twp = s.twp ∧
      (noteStart s).svc = s.svc ∧ (noteStart s).log = s.log ∧ (noteStart s).pwr = s.pwr ∧ (noteStart s).fpl = s.fpl ∧
      (noteStart s).jtag = s.jtag ∧ (noteStart s).fuses = s.fuses ∧ (noteStart s).cal = s.cal ∧ (noteStart s).out = s.out ∧
      (noteStart s).free = s.free ∧ (noteStart s).pending = s.pending := by
  simp [noteStart]

theorem takeWear_frame (s : State) :
    (takeWear s).almanac = s.almanac ∧ (takeWear s).dev = s.dev ∧ (takeWear s).stations = s.stations ∧
      (takeWear s).drc = s.drc ∧ (takeWear s).dram = s.dram ∧ (takeWear s).cht = s.cht ∧ (takeWear s).sui = s.sui ∧
      (takeWear s).sav = s.sav ∧ (takeWear s).cel = s.cel ∧ (takeWear s).dmw = s.dmw ∧ (takeWear s).nrg = s.nrg ∧
      (takeWear s).gau = s.gau ∧ (takeWear s).rek = s.rek ∧ (takeWear s).plk = s.plk ∧ (takeWear s).att = s.att ∧
      (takeWear s).ecc = s.ecc ∧ (takeWear s).tws = s.tws ∧ (takeWear s).twp = s.twp ∧ (takeWear s).svc = s.svc ∧
      (takeWear s).pwr = s.pwr ∧ (takeWear s).fpl = s.fpl ∧ (takeWear s).jtag = s.jtag ∧ (takeWear s).fuses = s.fuses ∧
      (takeWear s).cal = s.cal ∧ (takeWear s).free = s.free ∧ (takeWear s).pending = s.pending := by
  have q1 := event_frame
  simp [q1, takeWear]

theorem takeWear_frame3 (s : State) :
    (takeWear s).hst.linkUp = s.hst.linkUp ∧ (takeWear s).hst.gateClosed = s.hst.gateClosed ∧
      (takeWear s).log.aonPowered = s.log.aonPowered := by
  have q1 := event_frame
  simp only [takeWear]; (repeat' split) <;> simp [q1]

theorem startStow_frame (t : Nat) (src : CopySrc) (s : State) :
    (startStow t src s).almanac = s.almanac ∧ (startStow t src s).dev = s.dev ∧ (startStow t src s).stations = s.stations ∧
      (startStow t src s).dram = s.dram ∧ (startStow t src s).sav = s.sav ∧ (startStow t src s).dmw = s.dmw ∧
      (startStow t src s).nrg = s.nrg ∧ (startStow t src s).gau = s.gau ∧ (startStow t src s).rek = s.rek ∧
      (startStow t src s).plk = s.plk ∧ (startStow t src s).att = s.att ∧ (startStow t src s).ecc = s.ecc ∧
      (startStow t src s).tws = s.tws ∧ (startStow t src s).twp = s.twp ∧ (startStow t src s).svc = s.svc ∧
      (startStow t src s).pwr = s.pwr ∧ (startStow t src s).fpl = s.fpl ∧ (startStow t src s).jtag = s.jtag ∧
      (startStow t src s).fuses = s.fuses ∧ (startStow t src s).cal = s.cal ∧ (startStow t src s).pending = s.pending ∧
      (startStow t src s).hst.linkUp = s.hst.linkUp ∧ (startStow t src s).hst.gateClosed = s.hst.gateClosed ∧
      (startStow t src s).log.aonPowered = s.log.aonPowered := by
  have q1 := noteStart_frame
  have q2 := putTile_frame
  have q3 := takeWear_frame
  have q4 := takeWear_frame3
  have q5 := tileAccess_frame
  simp [q1, q2, q3, q4, q5, startStow]

theorem packAlert_frame (before s : State) :
    (packAlert before s).almanac = s.almanac ∧ (packAlert before s).dev = s.dev ∧ (packAlert before s).stations = s.stations ∧
      (packAlert before s).hst = s.hst ∧ (packAlert before s).drc = s.drc ∧ (packAlert before s).dram = s.dram ∧
      (packAlert before s).cht = s.cht ∧ (packAlert before s).sui = s.sui ∧ (packAlert before s).stw = s.stw ∧
      (packAlert before s).sav = s.sav ∧ (packAlert before s).cel = s.cel ∧ (packAlert before s).dmw = s.dmw ∧
      (packAlert before s).nrg = s.nrg ∧ (packAlert before s).gau = s.gau ∧ (packAlert before s).rek = s.rek ∧
      (packAlert before s).plk = s.plk ∧ (packAlert before s).att = s.att ∧ (packAlert before s).ecc = s.ecc ∧
      (packAlert before s).twp = s.twp ∧ (packAlert before s).svc = s.svc ∧ (packAlert before s).log = s.log ∧
      (packAlert before s).pwr = s.pwr ∧ (packAlert before s).fpl = s.fpl ∧ (packAlert before s).jtag = s.jtag ∧
      (packAlert before s).fuses = s.fuses ∧ (packAlert before s).cal = s.cal ∧ (packAlert before s).out = s.out ∧
      (packAlert before s).free = s.free ∧ (packAlert before s).pending = s.pending := by
  have q1 := alertBit_frame
  simp [q1, packAlert]

theorem modRec_frame (f : SaveRecord → SaveRecord) (s : State) :
    (modRec f s).almanac = s.almanac ∧ (modRec f s).dev = s.dev ∧ (modRec f s).stations = s.stations ∧
      (modRec f s).hst = s.hst ∧ (modRec f s).drc = s.drc ∧ (modRec f s).dram = s.dram ∧ (modRec f s).cht = s.cht ∧
      (modRec f s).sui = s.sui ∧ (modRec f s).stw = s.stw ∧ (modRec f s).dmw = s.dmw ∧ (modRec f s).nrg = s.nrg ∧
      (modRec f s).gau = s.gau ∧ (modRec f s).plk = s.plk ∧ (modRec f s).att = s.att ∧ (modRec f s).ecc = s.ecc ∧
      (modRec f s).tws = s.tws ∧ (modRec f s).twp = s.twp ∧ (modRec f s).svc = s.svc ∧ (modRec f s).log = s.log ∧
      (modRec f s).pwr = s.pwr ∧ (modRec f s).fpl = s.fpl ∧ (modRec f s).jtag = s.jtag ∧ (modRec f s).fuses = s.fuses ∧
      (modRec f s).cal = s.cal ∧ (modRec f s).out = s.out ∧ (modRec f s).free = s.free ∧ (modRec f s).pending = s.pending := by
  have q1 := modHalf_frame
  unfold modRec; (repeat' split) <;> simp_all

theorem modRun_frame (f : SaveRun → SaveRun) (s : State) :
    (modRun f s).almanac = s.almanac ∧ (modRun f s).dev = s.dev ∧ (modRun f s).stations = s.stations ∧
      (modRun f s).hst = s.hst ∧ (modRun f s).drc = s.drc ∧ (modRun f s).dram = s.dram ∧ (modRun f s).cht = s.cht ∧
      (modRun f s).sui = s.sui ∧ (modRun f s).stw = s.stw ∧ (modRun f s).cel = s.cel ∧ (modRun f s).dmw = s.dmw ∧
      (modRun f s).nrg = s.nrg ∧ (modRun f s).gau = s.gau ∧ (modRun f s).rek = s.rek ∧ (modRun f s).plk = s.plk ∧
      (modRun f s).att = s.att ∧ (modRun f s).ecc = s.ecc ∧ (modRun f s).tws = s.tws ∧ (modRun f s).twp = s.twp ∧
      (modRun f s).svc = s.svc ∧ (modRun f s).log = s.log ∧ (modRun f s).pwr = s.pwr ∧ (modRun f s).fpl = s.fpl ∧
      (modRun f s).jtag = s.jtag ∧ (modRun f s).fuses = s.fuses ∧ (modRun f s).cal = s.cal ∧ (modRun f s).out = s.out ∧
      (modRun f s).free = s.free ∧ (modRun f s).pending = s.pending := by
  simp [modRun]

theorem eraseHeads_frame (h : Half) (ahead : Bool) (s : State) :
    (eraseHeads h ahead s).almanac = s.almanac ∧ (eraseHeads h ahead s).dev = s.dev ∧
      (eraseHeads h ahead s).stations = s.stations ∧ (eraseHeads h ahead s).hst = s.hst ∧ (eraseHeads h ahead s).drc = s.drc ∧
      (eraseHeads h ahead s).dram = s.dram ∧ (eraseHeads h ahead s).cht = s.cht ∧ (eraseHeads h ahead s).sui = s.sui ∧
      (eraseHeads h ahead s).stw = s.stw ∧ (eraseHeads h ahead s).sav = s.sav ∧ (eraseHeads h ahead s).dmw = s.dmw ∧
      (eraseHeads h ahead s).nrg = s.nrg ∧ (eraseHeads h ahead s).gau = s.gau ∧ (eraseHeads h ahead s).rek = s.rek ∧
      (eraseHeads h ahead s).plk = s.plk ∧ (eraseHeads h ahead s).att = s.att ∧ (eraseHeads h ahead s).ecc = s.ecc ∧
      (eraseHeads h ahead s).tws = s.tws ∧ (eraseHeads h ahead s).twp = s.twp ∧ (eraseHeads h ahead s).svc = s.svc ∧
      (eraseHeads h ahead s).log = s.log ∧ (eraseHeads h ahead s).pwr = s.pwr ∧ (eraseHeads h ahead s).fpl = s.fpl ∧
      (eraseHeads h ahead s).jtag = s.jtag ∧ (eraseHeads h ahead s).fuses = s.fuses ∧ (eraseHeads h ahead s).cal = s.cal ∧
      (eraseHeads h ahead s).out = s.out ∧ (eraseHeads h ahead s).free = s.free ∧ (eraseHeads h ahead s).pending = s.pending := by
  have q1 := modNand_frame
  simp [q1, eraseHeads]

theorem clearArea_frame (b : Bool) (s : State) :
    (clearArea b s).almanac = s.almanac ∧ (clearArea b s).dev = s.dev ∧ (clearArea b s).stations = s.stations ∧
      (clearArea b s).hst = s.hst ∧ (clearArea b s).drc = s.drc ∧ (clearArea b s).dram = s.dram ∧ (clearArea b s).cht = s.cht ∧
      (clearArea b s).sui = s.sui ∧ (clearArea b s).stw = s.stw ∧ (clearArea b s).sav = s.sav ∧ (clearArea b s).dmw = s.dmw ∧
      (clearArea b s).nrg = s.nrg ∧ (clearArea b s).gau = s.gau ∧ (clearArea b s).rek = s.rek ∧ (clearArea b s).plk = s.plk ∧
      (clearArea b s).att = s.att ∧ (clearArea b s).ecc = s.ecc ∧ (clearArea b s).tws = s.tws ∧ (clearArea b s).twp = s.twp ∧
      (clearArea b s).svc = s.svc ∧ (clearArea b s).log = s.log ∧ (clearArea b s).pwr = s.pwr ∧ (clearArea b s).fpl = s.fpl ∧
      (clearArea b s).jtag = s.jtag ∧ (clearArea b s).fuses = s.fuses ∧ (clearArea b s).cal = s.cal ∧
      (clearArea b s).out = s.out ∧ (clearArea b s).free = s.free ∧ (clearArea b s).pending = s.pending := by
  simp [clearArea]

theorem countWritten_frame (n : Nat) (s : State) :
    (countWritten n s).almanac = s.almanac ∧ (countWritten n s).dev = s.dev ∧ (countWritten n s).stations = s.stations ∧
      (countWritten n s).hst = s.hst ∧ (countWritten n s).drc = s.drc ∧ (countWritten n s).dram = s.dram ∧
      (countWritten n s).cht = s.cht ∧ (countWritten n s).sui = s.sui ∧ (countWritten n s).stw = s.stw ∧
      (countWritten n s).cel = s.cel ∧ (countWritten n s).dmw = s.dmw ∧ (countWritten n s).nrg = s.nrg ∧
      (countWritten n s).gau = s.gau ∧ (countWritten n s).rek = s.rek ∧ (countWritten n s).plk = s.plk ∧
      (countWritten n s).att = s.att ∧ (countWritten n s).ecc = s.ecc ∧ (countWritten n s).tws = s.tws ∧
      (countWritten n s).twp = s.twp ∧ (countWritten n s).svc = s.svc ∧ (countWritten n s).log = s.log ∧
      (countWritten n s).pwr = s.pwr ∧ (countWritten n s).fpl = s.fpl ∧ (countWritten n s).jtag = s.jtag ∧
      (countWritten n s).fuses = s.fuses ∧ (countWritten n s).cal = s.cal ∧ (countWritten n s).out = s.out ∧
      (countWritten n s).free = s.free ∧ (countWritten n s).pending = s.pending := by
  have q1 := modRun_frame
  simp only [countWritten]; (repeat' split) <;> simp [q1]

theorem eraseAheadOf_frame (h : Half) (x : Nat) (ahead : Bool) (s : State) :
    (eraseAheadOf h x ahead s).almanac = s.almanac ∧ (eraseAheadOf h x ahead s).dev = s.dev ∧
      (eraseAheadOf h x ahead s).stations = s.stations ∧ (eraseAheadOf h x ahead s).hst = s.hst ∧
      (eraseAheadOf h x ahead s).drc = s.drc ∧ (eraseAheadOf h x ahead s).dram = s.dram ∧
      (eraseAheadOf h x ahead s).cht = s.cht ∧ (eraseAheadOf h x ahead s).sui = s.sui ∧
      (eraseAheadOf h x ahead s).stw = s.stw ∧ (eraseAheadOf h x ahead s).sav = s.sav ∧
      (eraseAheadOf h x ahead s).dmw = s.dmw ∧ (eraseAheadOf h x ahead s).nrg = s.nrg ∧
      (eraseAheadOf h x ahead s).gau = s.gau ∧ (eraseAheadOf h x ahead s).rek = s.rek ∧
      (eraseAheadOf h x ahead s).plk = s.plk ∧ (eraseAheadOf h x ahead s).att = s.att ∧
      (eraseAheadOf h x ahead s).ecc = s.ecc ∧ (eraseAheadOf h x ahead s).tws = s.tws ∧
      (eraseAheadOf h x ahead s).twp = s.twp ∧ (eraseAheadOf h x ahead s).svc = s.svc ∧
      (eraseAheadOf h x ahead s).log = s.log ∧ (eraseAheadOf h x ahead s).pwr = s.pwr ∧
      (eraseAheadOf h x ahead s).fpl = s.fpl ∧ (eraseAheadOf h x ahead s).jtag = s.jtag ∧
      (eraseAheadOf h x ahead s).fuses = s.fuses ∧ (eraseAheadOf h x ahead s).cal = s.cal ∧
      (eraseAheadOf h x ahead s).out = s.out ∧ (eraseAheadOf h x ahead s).free = s.free ∧
      (eraseAheadOf h x ahead s).pending = s.pending := by
  have q1 := modNand_frame
  simp [q1, eraseAheadOf]

theorem halfFull_frame (s : State) :
    (halfFull s).almanac = s.almanac ∧ (halfFull s).fuses = s.fuses ∧ (halfFull s).cal = s.cal ∧
      (halfFull s).pending = s.pending := by
  have q1 := modRun_frame
  have q2 := raise_frame
  unfold halfFull; (repeat' split) <;> simp_all

theorem noteRetire_frame (k : Nat) (s : State) :
    (noteRetire k s).almanac = s.almanac ∧ (noteRetire k s).dev = s.dev ∧ (noteRetire k s).stations = s.stations ∧
      (noteRetire k s).hst = s.hst ∧ (noteRetire k s).drc = s.drc ∧ (noteRetire k s).dram = s.dram ∧
      (noteRetire k s).cht = s.cht ∧ (noteRetire k s).sui = s.sui ∧ (noteRetire k s).stw = s.stw ∧
      (noteRetire k s).sav = s.sav ∧ (noteRetire k s).dmw = s.dmw ∧ (noteRetire k s).nrg = s.nrg ∧
      (noteRetire k s).gau = s.gau ∧ (noteRetire k s).rek = s.rek ∧ (noteRetire k s).plk = s.plk ∧
      (noteRetire k s).att = s.att ∧ (noteRetire k s).ecc = s.ecc ∧ (noteRetire k s).tws = s.tws ∧
      (noteRetire k s).twp = s.twp ∧ (noteRetire k s).svc = s.svc ∧ (noteRetire k s).log = s.log ∧
      (noteRetire k s).pwr = s.pwr ∧ (noteRetire k s).fpl = s.fpl ∧ (noteRetire k s).jtag = s.jtag ∧
      (noteRetire k s).fuses = s.fuses ∧ (noteRetire k s).cal = s.cal ∧ (noteRetire k s).out = s.out ∧
      (noteRetire k s).free = s.free ∧ (noteRetire k s).pending = s.pending := by
  simp [noteRetire]

theorem halfProgramEnd_frame (pass : Bool) (s : State) :
    (halfProgramEnd pass s).almanac = s.almanac ∧ (halfProgramEnd pass s).fuses = s.fuses ∧
      (halfProgramEnd pass s).cal = s.cal ∧ (halfProgramEnd pass s).pending = s.pending := by
  have q1 := countWritten_frame
  have q2 := eraseAheadOf_frame
  have q3 := halfFull_frame
  have q4 := modHalf_frame
  have q5 := modNand_frame
  have q6 := modRun_frame
  have q7 := noteRetire_frame
  have q8 := raiseAddr_frame
  unfold halfProgramEnd; (repeat' split) <;> simp [q1, q2, q3, q4, q5, q6, q7, q8]

theorem endIssued_frame (s : State) :
    (endIssued s).almanac = s.almanac ∧ (endIssued s).fuses = s.fuses ∧ (endIssued s).cal = s.cal ∧
      (endIssued s).pending = s.pending := by
  have q1 := halfProgramEnd_frame
  unfold endIssued; (repeat' split) <;> simp_all

theorem retireFailed_frame (s : State) :
    (retireFailed s).almanac = s.almanac ∧ (retireFailed s).fuses = s.fuses ∧ (retireFailed s).pending = s.pending := by
  have q1 := retireBlock_frame
  simp [q1, retireFailed]

theorem logCaptures_frame (s : State) :
    (logCaptures s).almanac = s.almanac ∧ (logCaptures s).fuses = s.fuses ∧ (logCaptures s).cal = s.cal ∧
      (logCaptures s).pending = s.pending := by
  have q1 := logRecord_frame
  simp [q1, logCaptures]

theorem leaveSaving_frame (outcome : Nat) (s : State) :
    (leaveSaving outcome s).almanac = s.almanac ∧ (leaveSaving outcome s).fuses = s.fuses ∧
      (leaveSaving outcome s).pending = s.pending := by
  have q1 := logCaptures_frame
  have q2 := retireFailed_frame
  simp [q1, q2, leaveSaving]

theorem stopUnsealed_frame (s : State) :
    (stopUnsealed s).almanac = s.almanac ∧ (stopUnsealed s).fuses = s.fuses ∧ (stopUnsealed s).pending = s.pending := by
  have q1 := endIssued_frame
  have q2 := leaveSaving_frame
  simp [q1, q2, stopUnsealed]

theorem exhausted_frame (s : State) :
    (exhausted s).almanac = s.almanac ∧ (exhausted s).fuses = s.fuses ∧ (exhausted s).pending = s.pending := by
  have q1 := enterOff_frame
  have q2 := giveAbandon_frame
  have q3 := stopUnsealed_frame
  simp [q1, q2, q3, exhausted]

theorem keeperStops_frame (s : State) :
    (keeperStops s).almanac = s.almanac ∧ (keeperStops s).fuses = s.fuses ∧ (keeperStops s).pending = s.pending := by
  have q1 := enterSaved_frame
  have q2 := stopUnsealed_frame
  simp [q1, q2, keeperStops]

theorem saveReport_frame (s : State) :
    (saveReport s).almanac = s.almanac ∧ (saveReport s).dev = s.dev ∧ (saveReport s).stations = s.stations ∧
      (saveReport s).drc = s.drc ∧ (saveReport s).dram = s.dram ∧ (saveReport s).cht = s.cht ∧ (saveReport s).sui = s.sui ∧
      (saveReport s).stw = s.stw ∧ (saveReport s).sav = s.sav ∧ (saveReport s).cel = s.cel ∧ (saveReport s).dmw = s.dmw ∧
      (saveReport s).nrg = s.nrg ∧ (saveReport s).gau = s.gau ∧ (saveReport s).rek = s.rek ∧ (saveReport s).plk = s.plk ∧
      (saveReport s).att = s.att ∧ (saveReport s).ecc = s.ecc ∧ (saveReport s).tws = s.tws ∧ (saveReport s).twp = s.twp ∧
      (saveReport s).svc = s.svc ∧ (saveReport s).pwr = s.pwr ∧ (saveReport s).fpl = s.fpl ∧ (saveReport s).jtag = s.jtag ∧
      (saveReport s).fuses = s.fuses ∧ (saveReport s).cal = s.cal ∧ (saveReport s).free = s.free ∧
      (saveReport s).pending = s.pending ∧ (saveReport s).hst.linkUp = s.hst.linkUp ∧
      (saveReport s).hst.gateClosed = s.hst.gateClosed ∧ (saveReport s).log.aonPowered = s.log.aonPowered := by
  have q1 := event_frame
  simp [q1, saveReport]

theorem unwriteVolatile_frame (s : State) :
    (unwriteVolatile s).almanac = s.almanac ∧ (unwriteVolatile s).dev = s.dev ∧ (unwriteVolatile s).stations = s.stations ∧
      (unwriteVolatile s).hst = s.hst ∧ (unwriteVolatile s).drc = s.drc ∧ (unwriteVolatile s).dram = s.dram ∧
      (unwriteVolatile s).sui = s.sui ∧ (unwriteVolatile s).stw = s.stw ∧ (unwriteVolatile s).sav = s.sav ∧
      (unwriteVolatile s).cel = s.cel ∧ (unwriteVolatile s).dmw = s.dmw ∧ (unwriteVolatile s).nrg = s.nrg ∧
      (unwriteVolatile s).gau = s.gau ∧ (unwriteVolatile s).rek = s.rek ∧ (unwriteVolatile s).plk = s.plk ∧
      (unwriteVolatile s).att = s.att ∧ (unwriteVolatile s).ecc = s.ecc ∧ (unwriteVolatile s).tws = s.tws ∧
      (unwriteVolatile s).twp = s.twp ∧ (unwriteVolatile s).svc = s.svc ∧ (unwriteVolatile s).log = s.log ∧
      (unwriteVolatile s).pwr = s.pwr ∧ (unwriteVolatile s).fpl = s.fpl ∧ (unwriteVolatile s).jtag = s.jtag ∧
      (unwriteVolatile s).fuses = s.fuses ∧ (unwriteVolatile s).cal = s.cal ∧ (unwriteVolatile s).out = s.out ∧
      (unwriteVolatile s).free = s.free ∧ (unwriteVolatile s).pending = s.pending := by
  simp [unwriteVolatile]

theorem enterWarm_frame (half : Option Half) (s : State) :
    (enterWarm half s).almanac = s.almanac ∧ (enterWarm half s).stations = s.stations ∧ (enterWarm half s).dram = s.dram ∧
      (enterWarm half s).sui = s.sui ∧ (enterWarm half s).ecc = s.ecc ∧ (enterWarm half s).pwr = s.pwr ∧
      (enterWarm half s).fpl = s.fpl ∧ (enterWarm half s).jtag = s.jtag ∧ (enterWarm half s).fuses = s.fuses ∧
      (enterWarm half s).cal = s.cal ∧ (enterWarm half s).pending = s.pending := by
  have q1 := levelMuster_frame
  have q2 := saveReport_frame
  have q3 := transition_frame
  have q4 := unwriteVolatile_frame
  simp [q1, q2, q3, q4, enterWarm]

theorem eraseReleased_frame (s : State) :
    (eraseReleased s).almanac = s.almanac ∧ (eraseReleased s).dev = s.dev ∧ (eraseReleased s).stations = s.stations ∧
      (eraseReleased s).hst = s.hst ∧ (eraseReleased s).drc = s.drc ∧ (eraseReleased s).dram = s.dram ∧
      (eraseReleased s).cht = s.cht ∧ (eraseReleased s).sui = s.sui ∧ (eraseReleased s).stw = s.stw ∧
      (eraseReleased s).cel = s.cel ∧ (eraseReleased s).dmw = s.dmw ∧ (eraseReleased s).nrg = s.nrg ∧
      (eraseReleased s).gau = s.gau ∧ (eraseReleased s).rek = s.rek ∧ (eraseReleased s).plk = s.plk ∧
      (eraseReleased s).att = s.att ∧ (eraseReleased s).ecc = s.ecc ∧ (eraseReleased s).tws = s.tws ∧
      (eraseReleased s).twp = s.twp ∧ (eraseReleased s).svc = s.svc ∧ (eraseReleased s).log = s.log ∧
      (eraseReleased s).pwr = s.pwr ∧ (eraseReleased s).fpl = s.fpl ∧ (eraseReleased s).jtag = s.jtag ∧
      (eraseReleased s).fuses = s.fuses ∧ (eraseReleased s).cal = s.cal ∧ (eraseReleased s).out = s.out ∧
      (eraseReleased s).free = s.free ∧ (eraseReleased s).pending = s.pending := by
  simp [eraseReleased]

theorem eraseOldArea_frame (s : State) :
    (eraseOldArea s).almanac = s.almanac ∧ (eraseOldArea s).dev = s.dev ∧ (eraseOldArea s).stations = s.stations ∧
      (eraseOldArea s).hst = s.hst ∧ (eraseOldArea s).drc = s.drc ∧ (eraseOldArea s).dram = s.dram ∧
      (eraseOldArea s).cht = s.cht ∧ (eraseOldArea s).sui = s.sui ∧ (eraseOldArea s).stw = s.stw ∧
      (eraseOldArea s).sav = s.sav ∧ (eraseOldArea s).dmw = s.dmw ∧ (eraseOldArea s).nrg = s.nrg ∧
      (eraseOldArea s).gau = s.gau ∧ (eraseOldArea s).rek = s.rek ∧ (eraseOldArea s).plk = s.plk ∧
      (eraseOldArea s).att = s.att ∧ (eraseOldArea s).ecc = s.ecc ∧ (eraseOldArea s).tws = s.tws ∧
      (eraseOldArea s).twp = s.twp ∧ (eraseOldArea s).svc = s.svc ∧ (eraseOldArea s).log = s.log ∧
      (eraseOldArea s).pwr = s.pwr ∧ (eraseOldArea s).fpl = s.fpl ∧ (eraseOldArea s).jtag = s.jtag ∧
      (eraseOldArea s).fuses = s.fuses ∧ (eraseOldArea s).cal = s.cal ∧ (eraseOldArea s).out = s.out ∧
      (eraseOldArea s).free = s.free ∧ (eraseOldArea s).pending = s.pending := by
  have q1 := clearArea_frame
  have q2 := startErasures_frame
  simp [q1, q2, eraseOldArea]

theorem execPadTimeout_frame (die : Nat) (s : State) :
    (resAfter (execPadTimeout die s) s).dev = s.dev ∧ (resAfter (execPadTimeout die s) s).stations = s.stations ∧
      (resAfter (execPadTimeout die s) s).hst = s.hst ∧ (resAfter (execPadTimeout die s) s).drc = s.drc ∧
      (resAfter (execPadTimeout die s) s).dram = s.dram ∧ (resAfter (execPadTimeout die s) s).cht = s.cht ∧
      (resAfter (execPadTimeout die s) s).sui = s.sui ∧ (resAfter (execPadTimeout die s) s).stw = s.stw ∧
      (resAfter (execPadTimeout die s) s).sav = s.sav ∧ (resAfter (execPadTimeout die s) s).dmw = s.dmw ∧
      (resAfter (execPadTimeout die s) s).nrg = s.nrg ∧ (resAfter (execPadTimeout die s) s).gau = s.gau ∧
      (resAfter (execPadTimeout die s) s).rek = s.rek ∧ (resAfter (execPadTimeout die s) s).plk = s.plk ∧
      (resAfter (execPadTimeout die s) s).att = s.att ∧ (resAfter (execPadTimeout die s) s).ecc = s.ecc ∧
      (resAfter (execPadTimeout die s) s).tws = s.tws ∧ (resAfter (execPadTimeout die s) s).twp = s.twp ∧
      (resAfter (execPadTimeout die s) s).pwr = s.pwr ∧ (resAfter (execPadTimeout die s) s).fpl = s.fpl ∧
      (resAfter (execPadTimeout die s) s).jtag = s.jtag ∧ (resAfter (execPadTimeout die s) s).fuses = s.fuses ∧
      (resAfter (execPadTimeout die s) s).cal = s.cal ∧ (resAfter (execPadTimeout die s) s).out = s.out ∧
      (resAfter (execPadTimeout die s) s).free = s.free ∧ (resAfter (execPadTimeout die s) s).pending = s.pending ∧
      (resAfter (execPadTimeout die s) s).log.aonPowered = s.log.aonPowered := by
  have q1 := advanceTo_frame
  have q2 := placeStaged_frame
  unfold execPadTimeout; (repeat' split) <;> simp_all

theorem endProgram_frame (d : Nat) (pass : Bool) (s : State) :
    (endProgram d pass s).almanac = s.almanac ∧ (endProgram d pass s).dev = s.dev ∧
      (endProgram d pass s).stations = s.stations ∧ (endProgram d pass s).hst = s.hst ∧ (endProgram d pass s).drc = s.drc ∧
      (endProgram d pass s).dram = s.dram ∧ (endProgram d pass s).cht = s.cht ∧ (endProgram d pass s).sui = s.sui ∧
      (endProgram d pass s).stw = s.stw ∧ (endProgram d pass s).sav = s.sav ∧ (endProgram d pass s).dmw = s.dmw ∧
      (endProgram d pass s).nrg = s.nrg ∧ (endProgram d pass s).gau = s.gau ∧ (endProgram d pass s).rek = s.rek ∧
      (endProgram d pass s).plk = s.plk ∧ (endProgram d pass s).att = s.att ∧ (endProgram d pass s).ecc = s.ecc ∧
      (endProgram d pass s).tws = s.tws ∧ (endProgram d pass s).twp = s.twp ∧ (endProgram d pass s).svc = s.svc ∧
      (endProgram d pass s).log = s.log ∧ (endProgram d pass s).pwr = s.pwr ∧ (endProgram d pass s).fpl = s.fpl ∧
      (endProgram d pass s).jtag = s.jtag ∧ (endProgram d pass s).fuses = s.fuses ∧ (endProgram d pass s).cal = s.cal ∧
      (endProgram d pass s).out = s.out ∧ (endProgram d pass s).free = s.free ∧ (endProgram d pass s).pending = s.pending := by
  simp [endProgram]

theorem execNandProgramDone_frame (die us : Nat) (pass : Bool) (s : State) :
    (resAfter (execNandProgramDone die us pass s) s).almanac = s.almanac ∧
      (resAfter (execNandProgramDone die us pass s) s).fuses = s.fuses ∧
      (resAfter (execNandProgramDone die us pass s) s).pending = s.pending := by
  have q1 := endProgram_frame
  have q2 := noteTlc_frame
  have q3 := placeStaged_frame
  have q4 := raiseAddr_frame
  have q5 := retireBlock_frame
  unfold execNandProgramDone; (repeat' split) <;> simp_all

theorem execRoomMapBuild_frame (room : Nat) (s : State) :
    (resAfter (execRoomMapBuild room s) s).almanac = s.almanac ∧ (resAfter (execRoomMapBuild room s) s).dev = s.dev ∧
      (resAfter (execRoomMapBuild room s) s).stations = s.stations ∧ (resAfter (execRoomMapBuild room s) s).hst = s.hst ∧
      (resAfter (execRoomMapBuild room s) s).drc = s.drc ∧ (resAfter (execRoomMapBuild room s) s).dram = s.dram ∧
      (resAfter (execRoomMapBuild room s) s).cht = s.cht ∧ (resAfter (execRoomMapBuild room s) s).sui = s.sui ∧
      (resAfter (execRoomMapBuild room s) s).stw = s.stw ∧ (resAfter (execRoomMapBuild room s) s).sav = s.sav ∧
      (resAfter (execRoomMapBuild room s) s).dmw = s.dmw ∧ (resAfter (execRoomMapBuild room s) s).nrg = s.nrg ∧
      (resAfter (execRoomMapBuild room s) s).gau = s.gau ∧ (resAfter (execRoomMapBuild room s) s).rek = s.rek ∧
      (resAfter (execRoomMapBuild room s) s).plk = s.plk ∧ (resAfter (execRoomMapBuild room s) s).att = s.att ∧
      (resAfter (execRoomMapBuild room s) s).ecc = s.ecc ∧ (resAfter (execRoomMapBuild room s) s).tws = s.tws ∧
      (resAfter (execRoomMapBuild room s) s).twp = s.twp ∧ (resAfter (execRoomMapBuild room s) s).svc = s.svc ∧
      (resAfter (execRoomMapBuild room s) s).log = s.log ∧ (resAfter (execRoomMapBuild room s) s).pwr = s.pwr ∧
      (resAfter (execRoomMapBuild room s) s).fpl = s.fpl ∧ (resAfter (execRoomMapBuild room s) s).jtag = s.jtag ∧
      (resAfter (execRoomMapBuild room s) s).fuses = s.fuses ∧ (resAfter (execRoomMapBuild room s) s).cal = s.cal ∧
      (resAfter (execRoomMapBuild room s) s).out = s.out ∧ (resAfter (execRoomMapBuild room s) s).free = s.free ∧
      (resAfter (execRoomMapBuild room s) s).pending = s.pending := by
  have q1 := buildRecord_frame
  unfold execRoomMapBuild; (repeat' split) <;> simp [q1]

theorem keeperErases_frame (s : State) :
    (keeperErases s).almanac = s.almanac ∧ (keeperErases s).dev = s.dev ∧ (keeperErases s).stations = s.stations ∧
      (keeperErases s).hst = s.hst ∧ (keeperErases s).drc = s.drc ∧ (keeperErases s).dram = s.dram ∧
      (keeperErases s).cht = s.cht ∧ (keeperErases s).sui = s.sui ∧ (keeperErases s).stw = s.stw ∧
      (keeperErases s).sav = s.sav ∧ (keeperErases s).dmw = s.dmw ∧ (keeperErases s).nrg = s.nrg ∧
      (keeperErases s).gau = s.gau ∧ (keeperErases s).rek = s.rek ∧ (keeperErases s).plk = s.plk ∧
      (keeperErases s).att = s.att ∧ (keeperErases s).ecc = s.ecc ∧ (keeperErases s).tws = s.tws ∧
      (keeperErases s).twp = s.twp ∧ (keeperErases s).svc = s.svc ∧ (keeperErases s).log = s.log ∧
      (keeperErases s).pwr = s.pwr ∧ (keeperErases s).fpl = s.fpl ∧ (keeperErases s).jtag = s.jtag ∧
      (keeperErases s).fuses = s.fuses ∧ (keeperErases s).cal = s.cal ∧ (keeperErases s).out = s.out ∧
      (keeperErases s).free = s.free ∧ (keeperErases s).pending = s.pending := by
  have q1 := startErasures_frame
  simp [q1, keeperErases]

theorem settleRecs_frame (l : List RecFlight) (ok : Bool) (s : State) :
    (settleRecs l ok s).almanac = s.almanac ∧ (settleRecs l ok s).dev = s.dev ∧ (settleRecs l ok s).stations = s.stations ∧
      (settleRecs l ok s).hst = s.hst ∧ (settleRecs l ok s).drc = s.drc ∧ (settleRecs l ok s).dram = s.dram ∧
      (settleRecs l ok s).sui = s.sui ∧ (settleRecs l ok s).stw = s.stw ∧ (settleRecs l ok s).dmw = s.dmw ∧
      (settleRecs l ok s).nrg = s.nrg ∧ (settleRecs l ok s).gau = s.gau ∧ (settleRecs l ok s).rek = s.rek ∧
      (settleRecs l ok s).plk = s.plk ∧ (settleRecs l ok s).att = s.att ∧ (settleRecs l ok s).ecc = s.ecc ∧
      (settleRecs l ok s).tws = s.tws ∧ (settleRecs l ok s).twp = s.twp ∧ (settleRecs l ok s).svc = s.svc ∧
      (settleRecs l ok s).log = s.log ∧ (settleRecs l ok s).pwr = s.pwr ∧ (settleRecs l ok s).fpl = s.fpl ∧
      (settleRecs l ok s).jtag = s.jtag ∧ (settleRecs l ok s).fuses = s.fuses ∧ (settleRecs l ok s).cal = s.cal ∧
      (settleRecs l ok s).out = s.out ∧ (settleRecs l ok s).free = s.free ∧ (settleRecs l ok s).pending = s.pending := by
  have q1 := countWritten_frame
  have q2 := keeperErases_frame
  have q3 := putInForce_frame
  simp [q1, q2, q3, settleRecs]

theorem noteDecode_frame (part die block : Nat) (x : Nat × Bool) (s : State) :
    (noteDecode part die block x s).almanac = s.almanac ∧ (noteDecode part die block x s).dev = s.dev ∧
      (noteDecode part die block x s).stations = s.stations ∧ (noteDecode part die block x s).hst = s.hst ∧
      (noteDecode part die block x s).drc = s.drc ∧ (noteDecode part die block x s).dram = s.dram ∧
      (noteDecode part die block x s).cht = s.cht ∧ (noteDecode part die block x s).sui = s.sui ∧
      (noteDecode part die block x s).stw = s.stw ∧ (noteDecode part die block x s).sav = s.sav ∧
      (noteDecode part die block x s).dmw = s.dmw ∧ (noteDecode part die block x s).nrg = s.nrg ∧
      (noteDecode part die block x s).gau = s.gau ∧ (noteDecode part die block x s).rek = s.rek ∧
      (noteDecode part die block x s).plk = s.plk ∧ (noteDecode part die block x s).att = s.att ∧
      (noteDecode part die block x s).ecc = s.ecc ∧ (noteDecode part die block x s).tws = s.tws ∧
      (noteDecode part die block x s).twp = s.twp ∧ (noteDecode part die block x s).svc = s.svc ∧
      (noteDecode part die block x s).log = s.log ∧ (noteDecode part die block x s).pwr = s.pwr ∧
      (noteDecode part die block x s).fpl = s.fpl ∧ (noteDecode part die block x s).jtag = s.jtag ∧
      (noteDecode part die block x s).fuses = s.fuses ∧ (noteDecode part die block x s).cal = s.cal ∧
      (noteDecode part die block x s).out = s.out ∧ (noteDecode part die block x s).free = s.free ∧
      (noteDecode part die block x s).pending = s.pending := by
  have q1 := modNand_frame
  simp [q1, noteDecode]

theorem noteBad_frame (t : Nat) (s : State) :
    (noteBad t s).almanac = s.almanac ∧ (noteBad t s).dev = s.dev ∧ (noteBad t s).stations = s.stations ∧
      (noteBad t s).hst = s.hst ∧ (noteBad t s).drc = s.drc ∧ (noteBad t s).dram = s.dram ∧ (noteBad t s).cht = s.cht ∧
      (noteBad t s).sui = s.sui ∧ (noteBad t s).stw = s.stw ∧ (noteBad t s).sav = s.sav ∧ (noteBad t s).dmw = s.dmw ∧
      (noteBad t s).nrg = s.nrg ∧ (noteBad t s).gau = s.gau ∧ (noteBad t s).rek = s.rek ∧ (noteBad t s).plk = s.plk ∧
      (noteBad t s).att = s.att ∧ (noteBad t s).ecc = s.ecc ∧ (noteBad t s).tws = s.tws ∧ (noteBad t s).twp = s.twp ∧
      (noteBad t s).svc = s.svc ∧ (noteBad t s).log = s.log ∧ (noteBad t s).pwr = s.pwr ∧ (noteBad t s).fpl = s.fpl ∧
      (noteBad t s).jtag = s.jtag ∧ (noteBad t s).fuses = s.fuses ∧ (noteBad t s).cal = s.cal ∧ (noteBad t s).out = s.out ∧
      (noteBad t s).free = s.free ∧ (noteBad t s).pending = s.pending := by
  unfold noteBad; (repeat' split) <;> simp_all

theorem wipeBlock_frame (part d b : Nat) (s : State) :
    (wipeBlock part d b s).almanac = s.almanac ∧ (wipeBlock part d b s).dev = s.dev ∧
      (wipeBlock part d b s).stations = s.stations ∧ (wipeBlock part d b s).hst = s.hst ∧ (wipeBlock part d b s).drc = s.drc ∧
      (wipeBlock part d b s).dram = s.dram ∧ (wipeBlock part d b s).cht = s.cht ∧ (wipeBlock part d b s).sui = s.sui ∧
      (wipeBlock part d b s).stw = s.stw ∧ (wipeBlock part d b s).sav = s.sav ∧ (wipeBlock part d b s).dmw = s.dmw ∧
      (wipeBlock part d b s).nrg = s.nrg ∧ (wipeBlock part d b s).gau = s.gau ∧ (wipeBlock part d b s).rek = s.rek ∧
      (wipeBlock part d b s).plk = s.plk ∧ (wipeBlock part d b s).att = s.att ∧ (wipeBlock part d b s).ecc = s.ecc ∧
      (wipeBlock part d b s).tws = s.tws ∧ (wipeBlock part d b s).twp = s.twp ∧ (wipeBlock part d b s).svc = s.svc ∧
      (wipeBlock part d b s).log = s.log ∧ (wipeBlock part d b s).pwr = s.pwr ∧ (wipeBlock part d b s).fpl = s.fpl ∧
      (wipeBlock part d b s).jtag = s.jtag ∧ (wipeBlock part d b s).fuses = s.fuses ∧ (wipeBlock part d b s).cal = s.cal ∧
      (wipeBlock part d b s).out = s.out ∧ (wipeBlock part d b s).free = s.free ∧ (wipeBlock part d b s).pending = s.pending :=
      by
  simp [wipeBlock]

theorem execNandEraseDone_frame (part die block : Nat) (pass : Bool) (s : State) :
    (resAfter (execNandEraseDone part die block pass s) s).almanac = s.almanac ∧
      (resAfter (execNandEraseDone part die block pass s) s).fuses = s.fuses ∧
      (resAfter (execNandEraseDone part die block pass s) s).pending = s.pending := by
  have q1 := modNand_frame
  have q2 := placeStaged_frame
  have q3 := raiseAddr_frame
  have q4 := retireBlock_frame
  have q5 := startErasures_frame
  have q6 := wipeBlock_frame
  unfold execNandEraseDone; (repeat' split) <;> simp_all

theorem execBackgroundEraseResume_frame (die : Nat) (s : State) :
    (resAfter (execBackgroundEraseResume die s) s).dev = s.dev ∧
      (resAfter (execBackgroundEraseResume die s) s).stations = s.stations ∧
      (resAfter (execBackgroundEraseResume die s) s).hst = s.hst ∧ (resAfter (execBackgroundEraseResume die s) s).drc = s.drc ∧
      (resAfter (execBackgroundEraseResume die s) s).dram = s.dram ∧
      (resAfter (execBackgroundEraseResume die s) s).cht = s.cht ∧ (resAfter (execBackgroundEraseResume die s) s).sui = s.sui ∧
      (resAfter (execBackgroundEraseResume die s) s).stw = s.stw ∧ (resAfter (execBackgroundEraseResume die s) s).sav = s.sav ∧
      (resAfter (execBackgroundEraseResume die s) s).dmw = s.dmw ∧ (resAfter (execBackgroundEraseResume die s) s).nrg = s.nrg ∧
      (resAfter (execBackgroundEraseResume die s) s).gau = s.gau ∧ (resAfter (execBackgroundEraseResume die s) s).rek = s.rek ∧
      (resAfter (execBackgroundEraseResume die s) s).plk = s.plk ∧ (resAfter (execBackgroundEraseResume die s) s).att = s.att ∧
      (resAfter (execBackgroundEraseResume die s) s).ecc = s.ecc ∧ (resAfter (execBackgroundEraseResume die s) s).tws = s.tws ∧
      (resAfter (execBackgroundEraseResume die s) s).twp = s.twp ∧ (resAfter (execBackgroundEraseResume die s) s).pwr = s.pwr ∧
      (resAfter (execBackgroundEraseResume die s) s).fpl = s.fpl ∧
      (resAfter (execBackgroundEraseResume die s) s).jtag = s.jtag ∧
      (resAfter (execBackgroundEraseResume die s) s).fuses = s.fuses ∧
      (resAfter (execBackgroundEraseResume die s) s).cal = s.cal ∧ (resAfter (execBackgroundEraseResume die s) s).out = s.out ∧
      (resAfter (execBackgroundEraseResume die s) s).free = s.free ∧
      (resAfter (execBackgroundEraseResume die s) s).pending = s.pending ∧
      (resAfter (execBackgroundEraseResume die s) s).log.aonPowered = s.log.aonPowered := by
  have q1 := advanceTo_frame
  unfold execBackgroundEraseResume; (repeat' split) <;> simp_all

theorem relocateBlock_frame (d b : Nat) (s : State) :
    (relocateBlock d b s).almanac = s.almanac ∧ (relocateBlock d b s).dev = s.dev ∧
      (relocateBlock d b s).stations = s.stations ∧ (relocateBlock d b s).hst = s.hst ∧ (relocateBlock d b s).drc = s.drc ∧
      (relocateBlock d b s).dram = s.dram ∧ (relocateBlock d b s).cht = s.cht ∧ (relocateBlock d b s).sui = s.sui ∧
      (relocateBlock d b s).stw = s.stw ∧ (relocateBlock d b s).sav = s.sav ∧ (relocateBlock d b s).dmw = s.dmw ∧
      (relocateBlock d b s).nrg = s.nrg ∧ (relocateBlock d b s).gau = s.gau ∧ (relocateBlock d b s).rek = s.rek ∧
      (relocateBlock d b s).plk = s.plk ∧ (relocateBlock d b s).att = s.att ∧ (relocateBlock d b s).ecc = s.ecc ∧
      (relocateBlock d b s).tws = s.tws ∧ (relocateBlock d b s).twp = s.twp ∧ (relocateBlock d b s).svc = s.svc ∧
      (relocateBlock d b s).log = s.log ∧ (relocateBlock d b s).pwr = s.pwr ∧ (relocateBlock d b s).fpl = s.fpl ∧
      (relocateBlock d b s).jtag = s.jtag ∧ (relocateBlock d b s).fuses = s.fuses ∧ (relocateBlock d b s).cal = s.cal ∧
      (relocateBlock d b s).out = s.out ∧ (relocateBlock d b s).free = s.free ∧
      (relocateBlock d b s).pending = s.pending := ⟨(by apply relocateBlock_keeps (fun (s : State) => s.almanac) <;> (intros; simp)), (by apply relocateBlock_keeps (fun (s : State) => s.dev) <;> (intros; simp)), (by apply relocateBlock_keeps (fun (s : State) => s.stations) <;> (intros; simp)), (by apply relocateBlock_keeps (fun (s : State) => s.hst) <;> (intros; simp)), (by apply relocateBlock_keeps (fun (s : State) => s.drc) <;> (intros; simp)), (by apply relocateBlock_keeps (fun (s : State) => s.dram) <;> (intros; simp)), (by apply relocateBlock_keeps (fun (s : State) => s.cht) <;> (intros; simp)), (by apply relocateBlock_keeps (fun (s : State) => s.sui) <;> (intros; simp)), (by apply relocateBlock_keeps (fun (s : State) => s.stw) <;> (intros; simp)), (by apply relocateBlock_keeps (fun (s : State) => s.sav) <;> (intros; simp)), (by apply relocateBlock_keeps (fun (s : State) => s.dmw) <;> (intros; simp)), (by apply relocateBlock_keeps (fun (s : State) => s.nrg) <;> (intros; simp)), (by apply relocateBlock_keeps (fun (s : State) => s.gau) <;> (intros; simp)), (by apply relocateBlock_keeps (fun (s : State) => s.rek) <;> (intros; simp)), (by apply relocateBlock_keeps (fun (s : State) => s.plk) <;> (intros; simp)), (by apply relocateBlock_keeps (fun (s : State) => s.att) <;> (intros; simp)), (by apply relocateBlock_keeps (fun (s : State) => s.ecc) <;> (intros; simp)), (by apply relocateBlock_keeps (fun (s : State) => s.tws) <;> (intros; simp)), (by apply relocateBlock_keeps (fun (s : State) => s.twp) <;> (intros; simp)), (by apply relocateBlock_keeps (fun (s : State) => s.svc) <;> (intros; simp)), (by apply relocateBlock_keeps (fun (s : State) => s.log) <;> (intros; simp)), (by apply relocateBlock_keeps (fun (s : State) => s.pwr) <;> (intros; simp)), (by apply relocateBlock_keeps (fun (s : State) => s.fpl) <;> (intros; simp)), (by apply relocateBlock_keeps (fun (s : State) => s.jtag) <;> (intros; simp)), (by apply relocateBlock_keeps (fun (s : State) => s.fuses) <;> (intros; simp)), (by apply relocateBlock_keeps (fun (s : State) => s.cal) <;> (intros; simp)), (by apply relocateBlock_keeps (fun (s : State) => s.out) <;> (intros; simp)), (by apply relocateBlock_keeps (fun (s : State) => s.free) <;> (intros; simp)), (by apply relocateBlock_keeps (fun (s : State) => s.pending) <;> (intros; simp))⟩

theorem execGcReclaim_frame (die : Nat) (s : State) :
    (resAfter (execGcReclaim die s) s).almanac = s.almanac ∧ (resAfter (execGcReclaim die s) s).dev = s.dev ∧
      (resAfter (execGcReclaim die s) s).stations = s.stations ∧ (resAfter (execGcReclaim die s) s).hst = s.hst ∧
      (resAfter (execGcReclaim die s) s).drc = s.drc ∧ (resAfter (execGcReclaim die s) s).dram = s.dram ∧
      (resAfter (execGcReclaim die s) s).cht = s.cht ∧ (resAfter (execGcReclaim die s) s).sui = s.sui ∧
      (resAfter (execGcReclaim die s) s).stw = s.stw ∧ (resAfter (execGcReclaim die s) s).sav = s.sav ∧
      (resAfter (execGcReclaim die s) s).dmw = s.dmw ∧ (resAfter (execGcReclaim die s) s).nrg = s.nrg ∧
      (resAfter (execGcReclaim die s) s).gau = s.gau ∧ (resAfter (execGcReclaim die s) s).rek = s.rek ∧
      (resAfter (execGcReclaim die s) s).plk = s.plk ∧ (resAfter (execGcReclaim die s) s).att = s.att ∧
      (resAfter (execGcReclaim die s) s).ecc = s.ecc ∧ (resAfter (execGcReclaim die s) s).tws = s.tws ∧
      (resAfter (execGcReclaim die s) s).twp = s.twp ∧ (resAfter (execGcReclaim die s) s).svc = s.svc ∧
      (resAfter (execGcReclaim die s) s).log = s.log ∧ (resAfter (execGcReclaim die s) s).pwr = s.pwr ∧
      (resAfter (execGcReclaim die s) s).fpl = s.fpl ∧ (resAfter (execGcReclaim die s) s).jtag = s.jtag ∧
      (resAfter (execGcReclaim die s) s).fuses = s.fuses ∧ (resAfter (execGcReclaim die s) s).cal = s.cal ∧
      (resAfter (execGcReclaim die s) s).out = s.out ∧ (resAfter (execGcReclaim die s) s).free = s.free ∧
      (resAfter (execGcReclaim die s) s).pending = s.pending := by
  have q1 := relocateBlock_frame
  have q2 := startErasures_frame
  unfold execGcReclaim; (repeat' split) <;> simp_all

theorem exchangeBlock_frame (part d b part' k : Nat) (s : State) :
    (exchangeBlock part d b part' k s).almanac = s.almanac ∧ (exchangeBlock part d b part' k s).dev = s.dev ∧
      (exchangeBlock part d b part' k s).stations = s.stations ∧ (exchangeBlock part d b part' k s).hst = s.hst ∧
      (exchangeBlock part d b part' k s).drc = s.drc ∧ (exchangeBlock part d b part' k s).dram = s.dram ∧
      (exchangeBlock part d b part' k s).cht = s.cht ∧ (exchangeBlock part d b part' k s).sui = s.sui ∧
      (exchangeBlock part d b part' k s).stw = s.stw ∧ (exchangeBlock part d b part' k s).sav = s.sav ∧
      (exchangeBlock part d b part' k s).dmw = s.dmw ∧ (exchangeBlock part d b part' k s).nrg = s.nrg ∧
      (exchangeBlock part d b part' k s).gau = s.gau ∧ (exchangeBlock part d b part' k s).rek = s.rek ∧
      (exchangeBlock part d b part' k s).plk = s.plk ∧ (exchangeBlock part d b part' k s).att = s.att ∧
      (exchangeBlock part d b part' k s).ecc = s.ecc ∧ (exchangeBlock part d b part' k s).tws = s.tws ∧
      (exchangeBlock part d b part' k s).twp = s.twp ∧ (exchangeBlock part d b part' k s).svc = s.svc ∧
      (exchangeBlock part d b part' k s).log = s.log ∧ (exchangeBlock part d b part' k s).pwr = s.pwr ∧
      (exchangeBlock part d b part' k s).fpl = s.fpl ∧ (exchangeBlock part d b part' k s).jtag = s.jtag ∧
      (exchangeBlock part d b part' k s).fuses = s.fuses ∧ (exchangeBlock part d b part' k s).cal = s.cal ∧
      (exchangeBlock part d b part' k s).out = s.out ∧ (exchangeBlock part d b part' k s).free = s.free ∧
      (exchangeBlock part d b part' k s).pending = s.pending := by
  have q1 := modNand_frame
  simp [q1, exchangeBlock]

theorem rewriteBlock_frame (part d b : Nat) (s : State) :
    (rewriteBlock part d b s).almanac = s.almanac ∧ (rewriteBlock part d b s).dev = s.dev ∧
      (rewriteBlock part d b s).stations = s.stations ∧ (rewriteBlock part d b s).hst = s.hst ∧
      (rewriteBlock part d b s).drc = s.drc ∧ (rewriteBlock part d b s).dram = s.dram ∧ (rewriteBlock part d b s).cht = s.cht ∧
      (rewriteBlock part d b s).sui = s.sui ∧ (rewriteBlock part d b s).stw = s.stw ∧ (rewriteBlock part d b s).sav = s.sav ∧
      (rewriteBlock part d b s).dmw = s.dmw ∧ (rewriteBlock part d b s).nrg = s.nrg ∧ (rewriteBlock part d b s).gau = s.gau ∧
      (rewriteBlock part d b s).rek = s.rek ∧ (rewriteBlock part d b s).plk = s.plk ∧ (rewriteBlock part d b s).att = s.att ∧
      (rewriteBlock part d b s).ecc = s.ecc ∧ (rewriteBlock part d b s).tws = s.tws ∧ (rewriteBlock part d b s).twp = s.twp ∧
      (rewriteBlock part d b s).svc = s.svc ∧ (rewriteBlock part d b s).log = s.log ∧ (rewriteBlock part d b s).pwr = s.pwr ∧
      (rewriteBlock part d b s).fpl = s.fpl ∧ (rewriteBlock part d b s).jtag = s.jtag ∧
      (rewriteBlock part d b s).fuses = s.fuses ∧ (rewriteBlock part d b s).cal = s.cal ∧
      (rewriteBlock part d b s).out = s.out ∧ (rewriteBlock part d b s).free = s.free ∧
      (rewriteBlock part d b s).pending = s.pending := by
  have q1 := exchangeBlock_frame
  unfold rewriteBlock; (repeat' split) <;> simp_all

theorem execWearLevelMove_frame (part die : Nat) (s : State) :
    (resAfter (execWearLevelMove part die s) s).almanac = s.almanac ∧ (resAfter (execWearLevelMove part die s) s).dev = s.dev ∧
      (resAfter (execWearLevelMove part die s) s).stations = s.stations ∧
      (resAfter (execWearLevelMove part die s) s).hst = s.hst ∧ (resAfter (execWearLevelMove part die s) s).drc = s.drc ∧
      (resAfter (execWearLevelMove part die s) s).dram = s.dram ∧ (resAfter (execWearLevelMove part die s) s).cht = s.cht ∧
      (resAfter (execWearLevelMove part die s) s).sui = s.sui ∧ (resAfter (execWearLevelMove part die s) s).stw = s.stw ∧
      (resAfter (execWearLevelMove part die s) s).sav = s.sav ∧ (resAfter (execWearLevelMove part die s) s).dmw = s.dmw ∧
      (resAfter (execWearLevelMove part die s) s).nrg = s.nrg ∧ (resAfter (execWearLevelMove part die s) s).gau = s.gau ∧
      (resAfter (execWearLevelMove part die s) s).rek = s.rek ∧ (resAfter (execWearLevelMove part die s) s).plk = s.plk ∧
      (resAfter (execWearLevelMove part die s) s).att = s.att ∧ (resAfter (execWearLevelMove part die s) s).ecc = s.ecc ∧
      (resAfter (execWearLevelMove part die s) s).tws = s.tws ∧ (resAfter (execWearLevelMove part die s) s).twp = s.twp ∧
      (resAfter (execWearLevelMove part die s) s).svc = s.svc ∧ (resAfter (execWearLevelMove part die s) s).log = s.log ∧
      (resAfter (execWearLevelMove part die s) s).pwr = s.pwr ∧ (resAfter (execWearLevelMove part die s) s).fpl = s.fpl ∧
      (resAfter (execWearLevelMove part die s) s).jtag = s.jtag ∧ (resAfter (execWearLevelMove part die s) s).fuses = s.fuses ∧
      (resAfter (execWearLevelMove part die s) s).cal = s.cal ∧ (resAfter (execWearLevelMove part die s) s).out = s.out ∧
      (resAfter (execWearLevelMove part die s) s).free = s.free ∧
      (resAfter (execWearLevelMove part die s) s).pending = s.pending := by
  have q1 := relocateBlock_frame
  have q2 := rewriteBlock_frame
  simp only [execWearLevelMove]; (repeat' split) <;> simp [q1, q2]

theorem rescue_frame (t : Nat) (s : State) :
    (rescue t s).almanac = s.almanac ∧ (rescue t s).fuses = s.fuses ∧ (rescue t s).cal = s.cal ∧
      (rescue t s).pending = s.pending := by
  have q1 := raiseAddr_frame
  have q2 := tileAccess_frame
  simp [q1, q2, rescue]

theorem endPatrol_frame (s : State) :
    (endPatrol s).almanac = s.almanac ∧ (endPatrol s).dev = s.dev ∧ (endPatrol s).stations = s.stations ∧
      (endPatrol s).hst = s.hst ∧ (endPatrol s).drc = s.drc ∧ (endPatrol s).dram = s.dram ∧ (endPatrol s).cht = s.cht ∧
      (endPatrol s).sui = s.sui ∧ (endPatrol s).stw = s.stw ∧ (endPatrol s).sav = s.sav ∧ (endPatrol s).dmw = s.dmw ∧
      (endPatrol s).nrg = s.nrg ∧ (endPatrol s).gau = s.gau ∧ (endPatrol s).rek = s.rek ∧ (endPatrol s).plk = s.plk ∧
      (endPatrol s).att = s.att ∧ (endPatrol s).ecc = s.ecc ∧ (endPatrol s).tws = s.tws ∧ (endPatrol s).twp = s.twp ∧
      (endPatrol s).svc = s.svc ∧ (endPatrol s).log = s.log ∧ (endPatrol s).pwr = s.pwr ∧ (endPatrol s).fpl = s.fpl ∧
      (endPatrol s).jtag = s.jtag ∧ (endPatrol s).fuses = s.fuses ∧ (endPatrol s).cal = s.cal ∧ (endPatrol s).out = s.out ∧
      (endPatrol s).free = s.free ∧ (endPatrol s).pending = s.pending := by
  simp [endPatrol]

theorem execNandPatrolRead_frame (part die block set : Nat) (soft : Bool) (bad : List Nat) (last : Bool) (s : State) :
    (resAfter (execNandPatrolRead part die block set soft bad last s) s).almanac = s.almanac ∧
      (resAfter (execNandPatrolRead part die block set soft bad last s) s).fuses = s.fuses ∧
      (resAfter (execNandPatrolRead part die block set soft bad last s) s).cal = s.cal ∧
      (resAfter (execNandPatrolRead part die block set soft bad last s) s).pending = s.pending := by
  have q1 := endPatrol_frame
  have q2 := noteBad_frame
  have q3 := noteDecode_frame
  have q4 := relocateBlock_frame
  have q5 := rescue_frame
  have q6 := rewriteBlock_frame
  unfold execNandPatrolRead; (repeat' split) <;> simp [q1, q2, q3, q4, q5, q6]

theorem chartEntryUe_frame (room : Nat) (s : State) :
    (chartEntryUe room s).almanac = s.almanac ∧ (chartEntryUe room s).fuses = s.fuses ∧ (chartEntryUe room s).cal = s.cal ∧
      (chartEntryUe room s).pending = s.pending := by
  have q1 := modEntry_frame
  have q2 := modRoomTiles_frame
  have q3 := raiseAddr_frame
  have q4 := reeval_frame
  simp [q1, q2, q3, q4, chartEntryUe]

theorem execChartEntryUe_frame (room : Nat) (s : State) :
    (resAfter (execChartEntryUe room s) s).almanac = s.almanac ∧ (resAfter (execChartEntryUe room s) s).fuses = s.fuses ∧
      (resAfter (execChartEntryUe room s) s).cal = s.cal ∧ (resAfter (execChartEntryUe room s) s).pending = s.pending := by
  have q1 := chartEntryUe_frame
  simp [q1, execChartEntryUe]

theorem execMapRereadDone_frame (room : Nat) (pass : Bool) (s : State) :
    (resAfter (execMapRereadDone room pass s) s).almanac = s.almanac ∧
      (resAfter (execMapRereadDone room pass s) s).fuses = s.fuses ∧ (resAfter (execMapRereadDone room pass s) s).cal = s.cal ∧
      (resAfter (execMapRereadDone room pass s) s).pending = s.pending := by
  have q1 := modEntry_frame
  have q2 := raiseAddr_frame
  unfold execMapRereadDone; (repeat' split) <;> simp_all

theorem tileUe_frame (t : Nat) (s : State) :
    (tileUe t s).almanac = s.almanac ∧ (tileUe t s).stations = s.stations ∧ (tileUe t s).sav = s.sav ∧
      (tileUe t s).nrg = s.nrg ∧ (tileUe t s).gau = s.gau ∧ (tileUe t s).rek = s.rek ∧ (tileUe t s).att = s.att ∧
      (tileUe t s).ecc = s.ecc ∧ (tileUe t s).twp = s.twp ∧ (tileUe t s).svc = s.svc ∧ (tileUe t s).pwr = s.pwr ∧
      (tileUe t s).fpl = s.fpl ∧ (tileUe t s).jtag = s.jtag ∧ (tileUe t s).fuses = s.fuses ∧ (tileUe t s).cal = s.cal ∧
      (tileUe t s).pending = s.pending ∧ (tileUe t s).dev.state = s.dev.state ∧ (tileUe t s).hst.linkUp = s.hst.linkUp ∧
      (tileUe t s).hst.gateClosed = s.hst.gateClosed ∧ (tileUe t s).log.aonPowered = s.log.aonPowered := by
  have q1 := drainAll_frame
  have q2 := drainAll_frame3
  have q3 := listPoison_frame
  have q4 := listPoison_frame3
  have q5 := modEntry_frame
  have q6 := putTile_frame
  have q7 := releaseFill_frame
  have q8 := tileAccess_frame
  unfold tileUe; (repeat' split) <;> simp_all

theorem tileStateUe_frame (byte : Nat) (s : State) :
    (tileStateUe byte s).almanac = s.almanac ∧ (tileStateUe byte s).fuses = s.fuses ∧ (tileStateUe byte s).cal = s.cal ∧
      (tileStateUe byte s).pending = s.pending := by
  have q1 := raiseAddr_frame
  have q2 := reeval_frame
  have q3 := tileUe_frame
  simp [q1, q2, q3, tileStateUe]

theorem execTileStateUe_frame (byte : Nat) (s : State) :
    (resAfter (execTileStateUe byte s) s).almanac = s.almanac ∧ (resAfter (execTileStateUe byte s) s).fuses = s.fuses ∧
      (resAfter (execTileStateUe byte s) s).cal = s.cal ∧ (resAfter (execTileStateUe byte s) s).pending = s.pending := by
  have q1 := tileStateUe_frame
  simp [q1, execTileStateUe]

theorem selectRoom_frame (value : Word) (s : State) :
    (selectRoom value s).almanac = s.almanac ∧ (selectRoom value s).dev = s.dev ∧ (selectRoom value s).stations = s.stations ∧
      (selectRoom value s).hst = s.hst ∧ (selectRoom value s).drc = s.drc ∧ (selectRoom value s).dram = s.dram ∧
      (selectRoom value s).sui = s.sui ∧ (selectRoom value s).stw = s.stw ∧ (selectRoom value s).sav = s.sav ∧
      (selectRoom value s).cel = s.cel ∧ (selectRoom value s).dmw = s.dmw ∧ (selectRoom value s).nrg = s.nrg ∧
      (selectRoom value s).gau = s.gau ∧ (selectRoom value s).rek = s.rek ∧ (selectRoom value s).plk = s.plk ∧
      (selectRoom value s).att = s.att ∧ (selectRoom value s).ecc = s.ecc ∧ (selectRoom value s).tws = s.tws ∧
      (selectRoom value s).twp = s.twp ∧ (selectRoom value s).svc = s.svc ∧ (selectRoom value s).log = s.log ∧
      (selectRoom value s).pwr = s.pwr ∧ (selectRoom value s).fpl = s.fpl ∧ (selectRoom value s).jtag = s.jtag ∧
      (selectRoom value s).fuses = s.fuses ∧ (selectRoom value s).cal = s.cal ∧ (selectRoom value s).out = s.out ∧
      (selectRoom value s).free = s.free ∧ (selectRoom value s).pending = s.pending := by
  simp [selectRoom]

theorem execChtRoomSelWrite_frame (value : Word) (s : State) :
    (resAfter (execChtRoomSelWrite value s) s).almanac = s.almanac ∧ (resAfter (execChtRoomSelWrite value s) s).dev = s.dev ∧
      (resAfter (execChtRoomSelWrite value s) s).stations = s.stations ∧
      (resAfter (execChtRoomSelWrite value s) s).hst = s.hst ∧ (resAfter (execChtRoomSelWrite value s) s).drc = s.drc ∧
      (resAfter (execChtRoomSelWrite value s) s).dram = s.dram ∧ (resAfter (execChtRoomSelWrite value s) s).sui = s.sui ∧
      (resAfter (execChtRoomSelWrite value s) s).stw = s.stw ∧ (resAfter (execChtRoomSelWrite value s) s).sav = s.sav ∧
      (resAfter (execChtRoomSelWrite value s) s).cel = s.cel ∧ (resAfter (execChtRoomSelWrite value s) s).dmw = s.dmw ∧
      (resAfter (execChtRoomSelWrite value s) s).nrg = s.nrg ∧ (resAfter (execChtRoomSelWrite value s) s).gau = s.gau ∧
      (resAfter (execChtRoomSelWrite value s) s).rek = s.rek ∧ (resAfter (execChtRoomSelWrite value s) s).plk = s.plk ∧
      (resAfter (execChtRoomSelWrite value s) s).att = s.att ∧ (resAfter (execChtRoomSelWrite value s) s).ecc = s.ecc ∧
      (resAfter (execChtRoomSelWrite value s) s).tws = s.tws ∧ (resAfter (execChtRoomSelWrite value s) s).twp = s.twp ∧
      (resAfter (execChtRoomSelWrite value s) s).svc = s.svc ∧ (resAfter (execChtRoomSelWrite value s) s).log = s.log ∧
      (resAfter (execChtRoomSelWrite value s) s).pwr = s.pwr ∧ (resAfter (execChtRoomSelWrite value s) s).fpl = s.fpl ∧
      (resAfter (execChtRoomSelWrite value s) s).jtag = s.jtag ∧ (resAfter (execChtRoomSelWrite value s) s).fuses = s.fuses ∧
      (resAfter (execChtRoomSelWrite value s) s).cal = s.cal ∧ (resAfter (execChtRoomSelWrite value s) s).out = s.out ∧
      (resAfter (execChtRoomSelWrite value s) s).free = s.free ∧
      (resAfter (execChtRoomSelWrite value s) s).pending = s.pending := by
  have q1 := selectRoom_frame
  simp [q1, execChtRoomSelWrite]

theorem suiteContextUe_frame (suite : Nat) (s : State) :
    (suiteContextUe suite s).almanac = s.almanac ∧ (suiteContextUe suite s).fuses = s.fuses ∧
      (suiteContextUe suite s).cal = s.cal ∧ (suiteContextUe suite s).pending = s.pending := by
  have q1 := modSuite_frame
  have q2 := raiseAddr_frame
  have q3 := reeval_frame
  have q4 := retotal_frame
  simp [q1, q2, q3, q4, suiteContextUe]

theorem execSuiteContextUe_frame (suite : Nat) (s : State) :
    (resAfter (execSuiteContextUe suite s) s).almanac = s.almanac ∧ (resAfter (execSuiteContextUe suite s) s).fuses = s.fuses ∧
      (resAfter (execSuiteContextUe suite s) s).cal = s.cal ∧ (resAfter (execSuiteContextUe suite s) s).pending = s.pending := by
  have q1 := suiteContextUe_frame
  simp [q1, execSuiteContextUe]

theorem writeSlot_frame (n : Nat) (img : List Byte) (seal_ : List Byte) (s : State) :
    (writeSlot n img seal_ s).almanac = s.almanac ∧ (writeSlot n img seal_ s).stations = s.stations ∧
      (writeSlot n img seal_ s).hst = s.hst ∧ (writeSlot n img seal_ s).drc = s.drc ∧ (writeSlot n img seal_ s).dram = s.dram ∧
      (writeSlot n img seal_ s).cht = s.cht ∧ (writeSlot n img seal_ s).sui = s.sui ∧ (writeSlot n img seal_ s).stw = s.stw ∧
      (writeSlot n img seal_ s).sav = s.sav ∧ (writeSlot n img seal_ s).cel = s.cel ∧ (writeSlot n img seal_ s).dmw = s.dmw ∧
      (writeSlot n img seal_ s).nrg = s.nrg ∧ (writeSlot n img seal_ s).gau = s.gau ∧ (writeSlot n img seal_ s).rek = s.rek ∧
      (writeSlot n img seal_ s).plk = s.plk ∧ (writeSlot n img seal_ s).tws = s.tws ∧ (writeSlot n img seal_ s).twp = s.twp ∧
      (writeSlot n img seal_ s).svc = s.svc ∧ (writeSlot n img seal_ s).log = s.log ∧ (writeSlot n img seal_ s).pwr = s.pwr ∧
      (writeSlot n img seal_ s).fpl = s.fpl ∧ (writeSlot n img seal_ s).jtag = s.jtag ∧
      (writeSlot n img seal_ s).fuses = s.fuses ∧ (writeSlot n img seal_ s).out = s.out ∧
      (writeSlot n img seal_ s).free = s.free ∧ (writeSlot n img seal_ s).pending = s.pending ∧
      (writeSlot n img seal_ s).dev.state = s.dev.state := by
  have q1 := eraseSector_frame
  have q2 := modBank_frame
  simp [q1, q2, writeSlot]

theorem sealPlan_frame (v : ValidPlan) (s : State) :
    (sealPlan v s).2.almanac = s.almanac ∧ (sealPlan v s).2.stations = s.stations ∧ (sealPlan v s).2.hst = s.hst ∧
      (sealPlan v s).2.drc = s.drc ∧ (sealPlan v s).2.dram = s.dram ∧ (sealPlan v s).2.cht = s.cht ∧
      (sealPlan v s).2.sui = s.sui ∧ (sealPlan v s).2.stw = s.stw ∧ (sealPlan v s).2.sav = s.sav ∧
      (sealPlan v s).2.cel = s.cel ∧ (sealPlan v s).2.dmw = s.dmw ∧ (sealPlan v s).2.nrg = s.nrg ∧
      (sealPlan v s).2.gau = s.gau ∧ (sealPlan v s).2.rek = s.rek ∧ (sealPlan v s).2.plk = s.plk ∧
      (sealPlan v s).2.tws = s.tws ∧ (sealPlan v s).2.twp = s.twp ∧ (sealPlan v s).2.svc = s.svc ∧
      (sealPlan v s).2.log = s.log ∧ (sealPlan v s).2.pwr = s.pwr ∧ (sealPlan v s).2.fpl = s.fpl ∧
      (sealPlan v s).2.jtag = s.jtag ∧ (sealPlan v s).2.fuses = s.fuses ∧ (sealPlan v s).2.out = s.out ∧
      (sealPlan v s).2.free = s.free ∧ (sealPlan v s).2.pending = s.pending ∧ (sealPlan v s).2.dev.state = s.dev.state := by
  have q1 := writeSlot_frame
  simp [q1, sealPlan]

theorem rejectPlan_frame (e : PlanErr) (mstr : Nat) (s : State) :
    (rejectPlan e mstr s).almanac = s.almanac ∧ (rejectPlan e mstr s).fuses = s.fuses ∧ (rejectPlan e mstr s).cal = s.cal ∧
      (rejectPlan e mstr s).pending = s.pending := by
  have q1 := raiseAddr_frame
  simp [q1, rejectPlan]

theorem loadFaults_frame (old new : Plan) (s : State) :
    (loadFaults old new s).almanac = s.almanac ∧ (loadFaults old new s).dev = s.dev ∧ (loadFaults old new s).hst = s.hst ∧
      (loadFaults old new s).drc = s.drc ∧ (loadFaults old new s).dram = s.dram ∧ (loadFaults old new s).cht = s.cht ∧
      (loadFaults old new s).sui = s.sui ∧ (loadFaults old new s).stw = s.stw ∧ (loadFaults old new s).sav = s.sav ∧
      (loadFaults old new s).cel = s.cel ∧ (loadFaults old new s).dmw = s.dmw ∧ (loadFaults old new s).nrg = s.nrg ∧
      (loadFaults old new s).gau = s.gau ∧ (loadFaults old new s).rek = s.rek ∧ (loadFaults old new s).plk = s.plk ∧
      (loadFaults old new s).att = s.att ∧ (loadFaults old new s).ecc = s.ecc ∧ (loadFaults old new s).tws = s.tws ∧
      (loadFaults old new s).twp = s.twp ∧ (loadFaults old new s).svc = s.svc ∧ (loadFaults old new s).log = s.log ∧
      (loadFaults old new s).pwr = s.pwr ∧ (loadFaults old new s).fpl = s.fpl ∧ (loadFaults old new s).jtag = s.jtag ∧
      (loadFaults old new s).fuses = s.fuses ∧ (loadFaults old new s).cal = s.cal ∧ (loadFaults old new s).out = s.out ∧
      (loadFaults old new s).free = s.free ∧ (loadFaults old new s).pending = s.pending := by
  have q1 := modStation_frame
  simp [q1, loadFaults]

theorem wantRek_frame (s : State) :
    (wantRek s).almanac = s.almanac ∧ (wantRek s).dev = s.dev ∧ (wantRek s).stations = s.stations ∧ (wantRek s).hst = s.hst ∧
      (wantRek s).drc = s.drc ∧ (wantRek s).dram = s.dram ∧ (wantRek s).cht = s.cht ∧ (wantRek s).sui = s.sui ∧
      (wantRek s).stw = s.stw ∧ (wantRek s).sav = s.sav ∧ (wantRek s).cel = s.cel ∧ (wantRek s).dmw = s.dmw ∧
      (wantRek s).nrg = s.nrg ∧ (wantRek s).gau = s.gau ∧ (wantRek s).plk = s.plk ∧ (wantRek s).att = s.att ∧
      (wantRek s).ecc = s.ecc ∧ (wantRek s).tws = s.tws ∧ (wantRek s).twp = s.twp ∧ (wantRek s).svc = s.svc ∧
      (wantRek s).log = s.log ∧ (wantRek s).pwr = s.pwr ∧ (wantRek s).fpl = s.fpl ∧ (wantRek s).jtag = s.jtag ∧
      (wantRek s).fuses = s.fuses ∧ (wantRek s).cal = s.cal ∧ (wantRek s).out = s.out ∧ (wantRek s).free = s.free ∧
      (wantRek s).pending = s.pending := by
  simp [wantRek]

theorem exerFromNow_frame (s : State) :
    (exerFromNow s).almanac = s.almanac ∧ (exerFromNow s).dev = s.dev ∧ (exerFromNow s).stations = s.stations ∧
      (exerFromNow s).hst = s.hst ∧ (exerFromNow s).drc = s.drc ∧ (exerFromNow s).dram = s.dram ∧ (exerFromNow s).cht = s.cht ∧
      (exerFromNow s).sui = s.sui ∧ (exerFromNow s).stw = s.stw ∧ (exerFromNow s).sav = s.sav ∧ (exerFromNow s).cel = s.cel ∧
      (exerFromNow s).dmw = s.dmw ∧ (exerFromNow s).gau = s.gau ∧ (exerFromNow s).rek = s.rek ∧ (exerFromNow s).plk = s.plk ∧
      (exerFromNow s).att = s.att ∧ (exerFromNow s).ecc = s.ecc ∧ (exerFromNow s).tws = s.tws ∧ (exerFromNow s).twp = s.twp ∧
      (exerFromNow s).svc = s.svc ∧ (exerFromNow s).log = s.log ∧ (exerFromNow s).pwr = s.pwr ∧ (exerFromNow s).fpl = s.fpl ∧
      (exerFromNow s).jtag = s.jtag ∧ (exerFromNow s).fuses = s.fuses ∧ (exerFromNow s).cal = s.cal ∧
      (exerFromNow s).out = s.out ∧ (exerFromNow s).free = s.free ∧ (exerFromNow s).pending = s.pending := by
  simp [exerFromNow]

theorem applyPlan_frame (s : State) :
    (applyPlan s).almanac = s.almanac ∧ (applyPlan s).fuses = s.fuses ∧ (applyPlan s).cal = s.cal ∧
      (applyPlan s).pending = s.pending := by
  have q1 := event_frame
  have q2 := exerFromNow_frame
  have q3 := levelMuster_frame
  have q4 := loadFaults_frame
  have q5 := packAlert_frame
  have q6 := reevalStalled_frame
  have q7 := reeval_frame
  have q8 := wantRek_frame
  simp only [applyPlan]; (repeat' split) <;> simp [q1, q2, q3, q4, q5, q6, q7, q8]

theorem acceptPlan_frame (v : ValidPlan) (s : State) :
    (acceptPlan v s).almanac = s.almanac ∧ (acceptPlan v s).fuses = s.fuses ∧ (acceptPlan v s).pending = s.pending := by
  have q1 := applyPlan_frame
  have q2 := sealPlan_frame
  simp [q1, q2, acceptPlan]

theorem spoilSlot_frame (s : State) :
    (spoilSlot s).almanac = s.almanac ∧ (spoilSlot s).stations = s.stations ∧ (spoilSlot s).hst = s.hst ∧
      (spoilSlot s).drc = s.drc ∧ (spoilSlot s).dram = s.dram ∧ (spoilSlot s).cht = s.cht ∧ (spoilSlot s).sui = s.sui ∧
      (spoilSlot s).stw = s.stw ∧ (spoilSlot s).sav = s.sav ∧ (spoilSlot s).cel = s.cel ∧ (spoilSlot s).dmw = s.dmw ∧
      (spoilSlot s).nrg = s.nrg ∧ (spoilSlot s).gau = s.gau ∧ (spoilSlot s).rek = s.rek ∧ (spoilSlot s).plk = s.plk ∧
      (spoilSlot s).tws = s.tws ∧ (spoilSlot s).twp = s.twp ∧ (spoilSlot s).svc = s.svc ∧ (spoilSlot s).log = s.log ∧
      (spoilSlot s).pwr = s.pwr ∧ (spoilSlot s).jtag = s.jtag ∧ (spoilSlot s).fuses = s.fuses ∧ (spoilSlot s).out = s.out ∧
      (spoilSlot s).free = s.free ∧ (spoilSlot s).pending = s.pending ∧ (spoilSlot s).dev.state = s.dev.state ∧
      (spoilSlot s).fpl.plan = s.fpl.plan := by
  have q1 := eraseSector_frame
  simp [q1, spoilSlot]

theorem deliverPlan_frame (img : List Byte) (mstr : Nat) (sealed : Bool) (s : State) :
    (deliverPlan img mstr sealed s).2.almanac = s.almanac ∧ (deliverPlan img mstr sealed s).2.fuses = s.fuses ∧
      (deliverPlan img mstr sealed s).2.pending = s.pending := by
  have q1 := acceptPlan_frame
  have q2 := rejectPlan_frame
  have q3 := spoilSlot_frame
  unfold deliverPlan; (repeat' split) <;> simp_all

theorem slotFails_frame (s : State) (x : Nat × PlanErr) :
    (slotFails s x).almanac = s.almanac ∧ (slotFails s x).fuses = s.fuses ∧ (slotFails s x).cal = s.cal ∧
      (slotFails s x).pending = s.pending := by
  have q1 := raiseAddr_frame
  simp [q1, slotFails]

theorem dropRoster_frame (s : State) :
    (dropRoster s).almanac = s.almanac ∧ (dropRoster s).dev = s.dev ∧ (dropRoster s).stations = s.stations ∧
      (dropRoster s).hst = s.hst ∧ (dropRoster s).drc = s.drc ∧ (dropRoster s).dram = s.dram ∧ (dropRoster s).cht = s.cht ∧
      (dropRoster s).sui = s.sui ∧ (dropRoster s).stw = s.stw ∧ (dropRoster s).dmw = s.dmw ∧ (dropRoster s).nrg = s.nrg ∧
      (dropRoster s).gau = s.gau ∧ (dropRoster s).rek = s.rek ∧ (dropRoster s).plk = s.plk ∧ (dropRoster s).att = s.att ∧
      (dropRoster s).ecc = s.ecc ∧ (dropRoster s).tws = s.tws ∧ (dropRoster s).twp = s.twp ∧ (dropRoster s).svc = s.svc ∧
      (dropRoster s).log = s.log ∧ (dropRoster s).pwr = s.pwr ∧ (dropRoster s).fpl = s.fpl ∧ (dropRoster s).jtag = s.jtag ∧
      (dropRoster s).fuses = s.fuses ∧ (dropRoster s).cal = s.cal ∧ (dropRoster s).out = s.out ∧ (dropRoster s).free = s.free ∧
      (dropRoster s).pending = s.pending := by
  simp [dropRoster]

theorem beginRestore_frame (x : Option (SaveRecord × Option Half)) (s : State) :
    (beginRestore x s).almanac = s.almanac ∧ (beginRestore x s).dev = s.dev ∧ (beginRestore x s).stations = s.stations ∧
      (beginRestore x s).hst = s.hst ∧ (beginRestore x s).drc = s.drc ∧ (beginRestore x s).dram = s.dram ∧
      (beginRestore x s).cht = s.cht ∧ (beginRestore x s).stw = s.stw ∧ (beginRestore x s).dmw = s.dmw ∧
      (beginRestore x s).nrg = s.nrg ∧ (beginRestore x s).gau = s.gau ∧ (beginRestore x s).rek = s.rek ∧
      (beginRestore x s).plk = s.plk ∧ (beginRestore x s).att = s.att ∧ (beginRestore x s).ecc = s.ecc ∧
      (beginRestore x s).tws = s.tws ∧ (beginRestore x s).twp = s.twp ∧ (beginRestore x s).svc = s.svc ∧
      (beginRestore x s).log = s.log ∧ (beginRestore x s).pwr = s.pwr ∧ (beginRestore x s).fpl = s.fpl ∧
      (beginRestore x s).jtag = s.jtag ∧ (beginRestore x s).fuses = s.fuses ∧ (beginRestore x s).cal = s.cal ∧
      (beginRestore x s).out = s.out ∧ (beginRestore x s).free = s.free ∧ (beginRestore x s).pending = s.pending := by
  have q1 := dropRoster_frame
  simp [q1, beginRestore]

theorem startRebuild_frame (s : State) :
    (startRebuild s).almanac = s.almanac ∧ (startRebuild s).dev = s.dev ∧ (startRebuild s).stations = s.stations ∧
      (startRebuild s).hst = s.hst ∧ (startRebuild s).drc = s.drc ∧ (startRebuild s).dram = s.dram ∧
      (startRebuild s).cht = s.cht ∧ (startRebuild s).stw = s.stw ∧ (startRebuild s).dmw = s.dmw ∧
      (startRebuild s).nrg = s.nrg ∧ (startRebuild s).gau = s.gau ∧ (startRebuild s).rek = s.rek ∧
      (startRebuild s).plk = s.plk ∧ (startRebuild s).att = s.att ∧ (startRebuild s).ecc = s.ecc ∧
      (startRebuild s).tws = s.tws ∧ (startRebuild s).twp = s.twp ∧ (startRebuild s).svc = s.svc ∧
      (startRebuild s).log = s.log ∧ (startRebuild s).pwr = s.pwr ∧ (startRebuild s).fpl = s.fpl ∧
      (startRebuild s).jtag = s.jtag ∧ (startRebuild s).fuses = s.fuses ∧ (startRebuild s).cal = s.cal ∧
      (startRebuild s).out = s.out ∧ (startRebuild s).free = s.free ∧ (startRebuild s).pending = s.pending := by
  have q1 := beginRestore_frame
  simp [q1, startRebuild]

theorem presetTiles_frame (s : State) :
    (presetTiles s).almanac = s.almanac ∧ (presetTiles s).stations = s.stations ∧ (presetTiles s).drc = s.drc ∧
      (presetTiles s).dram = s.dram ∧ (presetTiles s).sav = s.sav ∧ (presetTiles s).cel = s.cel ∧ (presetTiles s).dmw = s.dmw ∧
      (presetTiles s).nrg = s.nrg ∧ (presetTiles s).gau = s.gau ∧ (presetTiles s).rek = s.rek ∧ (presetTiles s).plk = s.plk ∧
      (presetTiles s).att = s.att ∧ (presetTiles s).ecc = s.ecc ∧ (presetTiles s).twp = s.twp ∧ (presetTiles s).svc = s.svc ∧
      (presetTiles s).pwr = s.pwr ∧ (presetTiles s).fpl = s.fpl ∧ (presetTiles s).jtag = s.jtag ∧
      (presetTiles s).fuses = s.fuses ∧ (presetTiles s).cal = s.cal ∧ (presetTiles s).free = s.free ∧
      (presetTiles s).pending = s.pending ∧ (presetTiles s).dev.state = s.dev.state ∧
      (presetTiles s).hst.linkUp = s.hst.linkUp ∧ (presetTiles s).hst.gateClosed = s.hst.gateClosed ∧
      (presetTiles s).log.aonPowered = s.log.aonPowered := by
  have q1 := putTile_frame
  have q2 := reeval_frame
  have q3 := reeval_frame3
  simp [q1, q2, q3, presetTiles]

theorem impairedRecords_frame (s : State) :
    (impairedRecords s).almanac = s.almanac ∧ (impairedRecords s).dev = s.dev ∧ (impairedRecords s).stations = s.stations ∧
      (impairedRecords s).hst = s.hst ∧ (impairedRecords s).drc = s.drc ∧ (impairedRecords s).dram = s.dram ∧
      (impairedRecords s).cht = s.cht ∧ (impairedRecords s).sui = s.sui ∧ (impairedRecords s).stw = s.stw ∧
      (impairedRecords s).sav = s.sav ∧ (impairedRecords s).dmw = s.dmw ∧ (impairedRecords s).nrg = s.nrg ∧
      (impairedRecords s).gau = s.gau ∧ (impairedRecords s).rek = s.rek ∧ (impairedRecords s).plk = s.plk ∧
      (impairedRecords s).att = s.att ∧ (impairedRecords s).ecc = s.ecc ∧ (impairedRecords s).tws = s.tws ∧
      (impairedRecords s).twp = s.twp ∧ (impairedRecords s).svc = s.svc ∧ (impairedRecords s).log = s.log ∧
      (impairedRecords s).pwr = s.pwr ∧ (impairedRecords s).fpl = s.fpl ∧ (impairedRecords s).jtag = s.jtag ∧
      (impairedRecords s).fuses = s.fuses ∧ (impairedRecords s).cal = s.cal ∧ (impairedRecords s).out = s.out ∧
      (impairedRecords s).free = s.free ∧ (impairedRecords s).pending = s.pending := by
  simp [impairedRecords]

theorem foldMarked_frame (m : RoomMap) (s : State) :
    (foldMarked m s).almanac = s.almanac ∧ (foldMarked m s).dev = s.dev ∧ (foldMarked m s).stations = s.stations ∧
      (foldMarked m s).hst = s.hst ∧ (foldMarked m s).drc = s.drc ∧ (foldMarked m s).dram = s.dram ∧
      (foldMarked m s).cht = s.cht ∧ (foldMarked m s).sui = s.sui ∧ (foldMarked m s).stw = s.stw ∧
      (foldMarked m s).cel = s.cel ∧ (foldMarked m s).dmw = s.dmw ∧ (foldMarked m s).nrg = s.nrg ∧
      (foldMarked m s).gau = s.gau ∧ (foldMarked m s).rek = s.rek ∧ (foldMarked m s).plk = s.plk ∧
      (foldMarked m s).att = s.att ∧ (foldMarked m s).ecc = s.ecc ∧ (foldMarked m s).tws = s.tws ∧
      (foldMarked m s).twp = s.twp ∧ (foldMarked m s).svc = s.svc ∧ (foldMarked m s).log = s.log ∧
      (foldMarked m s).pwr = s.pwr ∧ (foldMarked m s).fpl = s.fpl ∧ (foldMarked m s).jtag = s.jtag ∧
      (foldMarked m s).fuses = s.fuses ∧ (foldMarked m s).cal = s.cal ∧ (foldMarked m s).out = s.out ∧
      (foldMarked m s).free = s.free ∧ (foldMarked m s).pending = s.pending := by
  simp [foldMarked]

theorem noteLatency_frame (room : Nat) (s : State) :
    (noteLatency room s).almanac = s.almanac ∧ (noteLatency room s).dev = s.dev ∧ (noteLatency room s).stations = s.stations ∧
      (noteLatency room s).hst = s.hst ∧ (noteLatency room s).drc = s.drc ∧ (noteLatency room s).dram = s.dram ∧
      (noteLatency room s).cht = s.cht ∧ (noteLatency room s).sui = s.sui ∧ (noteLatency room s).stw = s.stw ∧
      (noteLatency room s).cel = s.cel ∧ (noteLatency room s).dmw = s.dmw ∧ (noteLatency room s).nrg = s.nrg ∧
      (noteLatency room s).gau = s.gau ∧ (noteLatency room s).rek = s.rek ∧ (noteLatency room s).plk = s.plk ∧
      (noteLatency room s).att = s.att ∧ (noteLatency room s).ecc = s.ecc ∧ (noteLatency room s).tws = s.tws ∧
      (noteLatency room s).twp = s.twp ∧ (noteLatency room s).svc = s.svc ∧ (noteLatency room s).log = s.log ∧
      (noteLatency room s).pwr = s.pwr ∧ (noteLatency room s).fpl = s.fpl ∧ (noteLatency room s).jtag = s.jtag ∧
      (noteLatency room s).fuses = s.fuses ∧ (noteLatency room s).cal = s.cal ∧ (noteLatency room s).out = s.out ∧
      (noteLatency room s).free = s.free ∧ (noteLatency room s).pending = s.pending := by
  simp only [noteLatency]; (repeat' split) <;> simp

theorem releaseTileReads_frame (t : Nat) (s : State) :
    (releaseTileReads t s).almanac = s.almanac ∧ (releaseTileReads t s).dev = s.dev ∧
      (releaseTileReads t s).stations = s.stations ∧ (releaseTileReads t s).dram = s.dram ∧
      (releaseTileReads t s).cht = s.cht ∧ (releaseTileReads t s).sui = s.sui ∧ (releaseTileReads t s).stw = s.stw ∧
      (releaseTileReads t s).cel = s.cel ∧ (releaseTileReads t s).nrg = s.nrg ∧ (releaseTileReads t s).gau = s.gau ∧
      (releaseTileReads t s).rek = s.rek ∧ (releaseTileReads t s).plk = s.plk ∧ (releaseTileReads t s).att = s.att ∧
      (releaseTileReads t s).ecc = s.ecc ∧ (releaseTileReads t s).tws = s.tws ∧ (releaseTileReads t s).twp = s.twp ∧
      (releaseTileReads t s).svc = s.svc ∧ (releaseTileReads t s).log = s.log ∧ (releaseTileReads t s).pwr = s.pwr ∧
      (releaseTileReads t s).fpl = s.fpl ∧ (releaseTileReads t s).jtag = s.jtag ∧ (releaseTileReads t s).fuses = s.fuses ∧
      (releaseTileReads t s).cal = s.cal ∧ (releaseTileReads t s).free = s.free ∧ (releaseTileReads t s).pending = s.pending := by
  have q1 := noteLatency_frame
  have q2 := releaseReads_frame
  simp [q1, q2, releaseTileReads]

theorem endRoom_frame (room : Nat) (s : State) :
    (endRoom room s).almanac = s.almanac ∧ (endRoom room s).dev = s.dev ∧ (endRoom room s).stations = s.stations ∧
      (endRoom room s).drc = s.drc ∧ (endRoom room s).dram = s.dram ∧ (endRoom room s).cht = s.cht ∧
      (endRoom room s).sui = s.sui ∧ (endRoom room s).stw = s.stw ∧ (endRoom room s).cel = s.cel ∧
      (endRoom room s).dmw = s.dmw ∧ (endRoom room s).nrg = s.nrg ∧ (endRoom room s).gau = s.gau ∧
      (endRoom room s).rek = s.rek ∧ (endRoom room s).plk = s.plk ∧ (endRoom room s).att = s.att ∧
      (endRoom room s).ecc = s.ecc ∧ (endRoom room s).tws = s.tws ∧ (endRoom room s).twp = s.twp ∧
      (endRoom room s).svc = s.svc ∧ (endRoom room s).log = s.log ∧ (endRoom room s).pwr = s.pwr ∧
      (endRoom room s).fpl = s.fpl ∧ (endRoom room s).jtag = s.jtag ∧ (endRoom room s).fuses = s.fuses ∧
      (endRoom room s).cal = s.cal ∧ (endRoom room s).out = s.out ∧ (endRoom room s).free = s.free ∧
      (endRoom room s).pending = s.pending ∧ (endRoom room s).hst.linkUp = s.hst.linkUp ∧
      (endRoom room s).hst.gateClosed = s.hst.gateClosed := by
  have q1 := releaseRoomWrites_frame
  simp [q1, endRoom]

theorem dmwBad_frame (s : State) :
    (dmwBad s).almanac = s.almanac ∧ (dmwBad s).fuses = s.fuses ∧ (dmwBad s).cal = s.cal ∧ (dmwBad s).pending = s.pending := by
  have q1 := raiseAddr_frame
  simp [q1, dmwBad]

theorem dmwTailWrite_frame (ch : Nat) (value : Word) (s : State) :
    (dmwTailWrite ch value s).almanac = s.almanac ∧ (dmwTailWrite ch value s).fuses = s.fuses ∧
      (dmwTailWrite ch value s).cal = s.cal ∧ (dmwTailWrite ch value s).pending = s.pending := by
  have q1 := dmwBad_frame
  have q2 := modChan_frame
  simp [q1, q2, dmwTailWrite]

theorem execDmwChTailWrite_frame (ch : Nat) (value : Word) (s : State) :
    (resAfter (execDmwChTailWrite ch value s) s).almanac = s.almanac ∧
      (resAfter (execDmwChTailWrite ch value s) s).fuses = s.fuses ∧ (resAfter (execDmwChTailWrite ch value s) s).cal = s.cal ∧
      (resAfter (execDmwChTailWrite ch value s) s).pending = s.pending := by
  have q1 := dmwTailWrite_frame
  simp [q1, execDmwChTailWrite]

theorem dmwEnable_frame (ch : Nat) (value : Word) (s : State) :
    (dmwEnable ch value s).almanac = s.almanac ∧ (dmwEnable ch value s).fuses = s.fuses ∧ (dmwEnable ch value s).cal = s.cal ∧
      (dmwEnable ch value s).pending = s.pending := by
  have q1 := dmwBad_frame
  have q2 := modChan_frame
  simp [q1, q2, dmwEnable]

theorem execDmwEnable_frame (ch : Nat) (value : Word) (s : State) :
    (resAfter (execDmwEnable ch value s) s).almanac = s.almanac ∧ (resAfter (execDmwEnable ch value s) s).fuses = s.fuses ∧
      (resAfter (execDmwEnable ch value s) s).cal = s.cal ∧ (resAfter (execDmwEnable ch value s) s).pending = s.pending := by
  have q1 := dmwEnable_frame
  simp [q1, execDmwEnable]

theorem dmwPause_frame (ch : Nat) (s : State) :
    (dmwPause ch s).almanac = s.almanac ∧ (dmwPause ch s).dev = s.dev ∧ (dmwPause ch s).stations = s.stations ∧
      (dmwPause ch s).hst = s.hst ∧ (dmwPause ch s).drc = s.drc ∧ (dmwPause ch s).dram = s.dram ∧ (dmwPause ch s).cht = s.cht ∧
      (dmwPause ch s).sui = s.sui ∧ (dmwPause ch s).stw = s.stw ∧ (dmwPause ch s).sav = s.sav ∧ (dmwPause ch s).cel = s.cel ∧
      (dmwPause ch s).nrg = s.nrg ∧ (dmwPause ch s).gau = s.gau ∧ (dmwPause ch s).rek = s.rek ∧ (dmwPause ch s).plk = s.plk ∧
      (dmwPause ch s).att = s.att ∧ (dmwPause ch s).ecc = s.ecc ∧ (dmwPause ch s).tws = s.tws ∧ (dmwPause ch s).twp = s.twp ∧
      (dmwPause ch s).svc = s.svc ∧ (dmwPause ch s).log = s.log ∧ (dmwPause ch s).pwr = s.pwr ∧ (dmwPause ch s).fpl = s.fpl ∧
      (dmwPause ch s).jtag = s.jtag ∧ (dmwPause ch s).fuses = s.fuses ∧ (dmwPause ch s).cal = s.cal ∧
      (dmwPause ch s).out = s.out ∧ (dmwPause ch s).free = s.free ∧ (dmwPause ch s).pending = s.pending := by
  have q1 := modChan_frame
  simp [q1, dmwPause]

theorem execDmwPause_frame (ch : Nat) (s : State) :
    (resAfter (execDmwPause ch s) s).almanac = s.almanac ∧ (resAfter (execDmwPause ch s) s).dev = s.dev ∧
      (resAfter (execDmwPause ch s) s).stations = s.stations ∧ (resAfter (execDmwPause ch s) s).hst = s.hst ∧
      (resAfter (execDmwPause ch s) s).drc = s.drc ∧ (resAfter (execDmwPause ch s) s).dram = s.dram ∧
      (resAfter (execDmwPause ch s) s).cht = s.cht ∧ (resAfter (execDmwPause ch s) s).sui = s.sui ∧
      (resAfter (execDmwPause ch s) s).stw = s.stw ∧ (resAfter (execDmwPause ch s) s).sav = s.sav ∧
      (resAfter (execDmwPause ch s) s).cel = s.cel ∧ (resAfter (execDmwPause ch s) s).nrg = s.nrg ∧
      (resAfter (execDmwPause ch s) s).gau = s.gau ∧ (resAfter (execDmwPause ch s) s).rek = s.rek ∧
      (resAfter (execDmwPause ch s) s).plk = s.plk ∧ (resAfter (execDmwPause ch s) s).att = s.att ∧
      (resAfter (execDmwPause ch s) s).ecc = s.ecc ∧ (resAfter (execDmwPause ch s) s).tws = s.tws ∧
      (resAfter (execDmwPause ch s) s).twp = s.twp ∧ (resAfter (execDmwPause ch s) s).svc = s.svc ∧
      (resAfter (execDmwPause ch s) s).log = s.log ∧ (resAfter (execDmwPause ch s) s).pwr = s.pwr ∧
      (resAfter (execDmwPause ch s) s).fpl = s.fpl ∧ (resAfter (execDmwPause ch s) s).jtag = s.jtag ∧
      (resAfter (execDmwPause ch s) s).fuses = s.fuses ∧ (resAfter (execDmwPause ch s) s).cal = s.cal ∧
      (resAfter (execDmwPause ch s) s).out = s.out ∧ (resAfter (execDmwPause ch s) s).free = s.free ∧
      (resAfter (execDmwPause ch s) s).pending = s.pending := by
  have q1 := dmwPause_frame
  simp [q1, execDmwPause]

theorem dmwResume_frame (ch : Nat) (s : State) :
    (dmwResume ch s).almanac = s.almanac ∧ (dmwResume ch s).dev = s.dev ∧ (dmwResume ch s).stations = s.stations ∧
      (dmwResume ch s).hst = s.hst ∧ (dmwResume ch s).drc = s.drc ∧ (dmwResume ch s).dram = s.dram ∧
      (dmwResume ch s).cht = s.cht ∧ (dmwResume ch s).sui = s.sui ∧ (dmwResume ch s).stw = s.stw ∧
      (dmwResume ch s).sav = s.sav ∧ (dmwResume ch s).cel = s.cel ∧ (dmwResume ch s).nrg = s.nrg ∧
      (dmwResume ch s).gau = s.gau ∧ (dmwResume ch s).rek = s.rek ∧ (dmwResume ch s).plk = s.plk ∧
      (dmwResume ch s).att = s.att ∧ (dmwResume ch s).ecc = s.ecc ∧ (dmwResume ch s).tws = s.tws ∧
      (dmwResume ch s).twp = s.twp ∧ (dmwResume ch s).svc = s.svc ∧ (dmwResume ch s).log = s.log ∧
      (dmwResume ch s).pwr = s.pwr ∧ (dmwResume ch s).fpl = s.fpl ∧ (dmwResume ch s).jtag = s.jtag ∧
      (dmwResume ch s).fuses = s.fuses ∧ (dmwResume ch s).cal = s.cal ∧ (dmwResume ch s).out = s.out ∧
      (dmwResume ch s).free = s.free ∧ (dmwResume ch s).pending = s.pending := by
  have q1 := modChan_frame
  simp [q1, dmwResume]

theorem execDmwResume_frame (ch : Nat) (s : State) :
    (resAfter (execDmwResume ch s) s).almanac = s.almanac ∧ (resAfter (execDmwResume ch s) s).dev = s.dev ∧
      (resAfter (execDmwResume ch s) s).stations = s.stations ∧ (resAfter (execDmwResume ch s) s).hst = s.hst ∧
      (resAfter (execDmwResume ch s) s).drc = s.drc ∧ (resAfter (execDmwResume ch s) s).dram = s.dram ∧
      (resAfter (execDmwResume ch s) s).cht = s.cht ∧ (resAfter (execDmwResume ch s) s).sui = s.sui ∧
      (resAfter (execDmwResume ch s) s).stw = s.stw ∧ (resAfter (execDmwResume ch s) s).sav = s.sav ∧
      (resAfter (execDmwResume ch s) s).cel = s.cel ∧ (resAfter (execDmwResume ch s) s).nrg = s.nrg ∧
      (resAfter (execDmwResume ch s) s).gau = s.gau ∧ (resAfter (execDmwResume ch s) s).rek = s.rek ∧
      (resAfter (execDmwResume ch s) s).plk = s.plk ∧ (resAfter (execDmwResume ch s) s).att = s.att ∧
      (resAfter (execDmwResume ch s) s).ecc = s.ecc ∧ (resAfter (execDmwResume ch s) s).tws = s.tws ∧
      (resAfter (execDmwResume ch s) s).twp = s.twp ∧ (resAfter (execDmwResume ch s) s).svc = s.svc ∧
      (resAfter (execDmwResume ch s) s).log = s.log ∧ (resAfter (execDmwResume ch s) s).pwr = s.pwr ∧
      (resAfter (execDmwResume ch s) s).fpl = s.fpl ∧ (resAfter (execDmwResume ch s) s).jtag = s.jtag ∧
      (resAfter (execDmwResume ch s) s).fuses = s.fuses ∧ (resAfter (execDmwResume ch s) s).cal = s.cal ∧
      (resAfter (execDmwResume ch s) s).out = s.out ∧ (resAfter (execDmwResume ch s) s).free = s.free ∧
      (resAfter (execDmwResume ch s) s).pending = s.pending := by
  have q1 := dmwResume_frame
  simp [q1, execDmwResume]

theorem dmwResetCmd_frame (ch : Nat) (s : State) :
    (dmwResetCmd ch s).almanac = s.almanac ∧ (dmwResetCmd ch s).dev = s.dev ∧ (dmwResetCmd ch s).stations = s.stations ∧
      (dmwResetCmd ch s).drc = s.drc ∧ (dmwResetCmd ch s).dram = s.dram ∧ (dmwResetCmd ch s).cht = s.cht ∧
      (dmwResetCmd ch s).sui = s.sui ∧ (dmwResetCmd ch s).stw = s.stw ∧ (dmwResetCmd ch s).sav = s.sav ∧
      (dmwResetCmd ch s).cel = s.cel ∧ (dmwResetCmd ch s).nrg = s.nrg ∧ (dmwResetCmd ch s).gau = s.gau ∧
      (dmwResetCmd ch s).rek = s.rek ∧ (dmwResetCmd ch s).plk = s.plk ∧ (dmwResetCmd ch s).att = s.att ∧
      (dmwResetCmd ch s).ecc = s.ecc ∧ (dmwResetCmd ch s).tws = s.tws ∧ (dmwResetCmd ch s).twp = s.twp ∧
      (dmwResetCmd ch s).svc = s.svc ∧ (dmwResetCmd ch s).log = s.log ∧ (dmwResetCmd ch s).pwr = s.pwr ∧
      (dmwResetCmd ch s).fpl = s.fpl ∧ (dmwResetCmd ch s).jtag = s.jtag ∧ (dmwResetCmd ch s).fuses = s.fuses ∧
      (dmwResetCmd ch s).cal = s.cal ∧ (dmwResetCmd ch s).free = s.free ∧ (dmwResetCmd ch s).pending = s.pending := by
  have q1 := dmwReset_frame
  have q2 := modChan_frame
  simp [q1, q2, dmwResetCmd]

theorem dmwResetCmd_frame2 (ch : Nat) (s : State) :
    (dmwResetCmd ch s).hst.linkUp = s.hst.linkUp ∧ (dmwResetCmd ch s).hst.gateClosed = s.hst.gateClosed := by
  have q1 := dmwReset_frame
  have q2 := modChan_frame
  unfold dmwResetCmd; (repeat' split) <;> simp_all

theorem execDmwReset_frame (ch : Nat) (s : State) :
    (resAfter (execDmwReset ch s) s).almanac = s.almanac ∧ (resAfter (execDmwReset ch s) s).dev = s.dev ∧
      (resAfter (execDmwReset ch s) s).stations = s.stations ∧ (resAfter (execDmwReset ch s) s).drc = s.drc ∧
      (resAfter (execDmwReset ch s) s).dram = s.dram ∧ (resAfter (execDmwReset ch s) s).cht = s.cht ∧
      (resAfter (execDmwReset ch s) s).sui = s.sui ∧ (resAfter (execDmwReset ch s) s).stw = s.stw ∧
      (resAfter (execDmwReset ch s) s).sav = s.sav ∧ (resAfter (execDmwReset ch s) s).cel = s.cel ∧
      (resAfter (execDmwReset ch s) s).nrg = s.nrg ∧ (resAfter (execDmwReset ch s) s).gau = s.gau ∧
      (resAfter (execDmwReset ch s) s).rek = s.rek ∧ (resAfter (execDmwReset ch s) s).plk = s.plk ∧
      (resAfter (execDmwReset ch s) s).att = s.att ∧ (resAfter (execDmwReset ch s) s).ecc = s.ecc ∧
      (resAfter (execDmwReset ch s) s).tws = s.tws ∧ (resAfter (execDmwReset ch s) s).twp = s.twp ∧
      (resAfter (execDmwReset ch s) s).svc = s.svc ∧ (resAfter (execDmwReset ch s) s).log = s.log ∧
      (resAfter (execDmwReset ch s) s).pwr = s.pwr ∧ (resAfter (execDmwReset ch s) s).fpl = s.fpl ∧
      (resAfter (execDmwReset ch s) s).jtag = s.jtag ∧ (resAfter (execDmwReset ch s) s).fuses = s.fuses ∧
      (resAfter (execDmwReset ch s) s).cal = s.cal ∧ (resAfter (execDmwReset ch s) s).free = s.free ∧
      (resAfter (execDmwReset ch s) s).pending = s.pending ∧ (resAfter (execDmwReset ch s) s).hst.linkUp = s.hst.linkUp ∧
      (resAfter (execDmwReset ch s) s).hst.gateClosed = s.hst.gateClosed := by
  have q1 := dmwResetCmd_frame
  have q2 := dmwResetCmd_frame2
  simp [q1, q2, execDmwReset]

theorem raiseDesc_frame (c : FClass) (ch : Nat) (s : State) :
    (raiseDesc c ch s).almanac = s.almanac ∧ (raiseDesc c ch s).fuses = s.fuses ∧ (raiseDesc c ch s).cal = s.cal ∧
      (raiseDesc c ch s).pending = s.pending := by
  have q1 := raiseAddr_frame
  simp [q1, raiseDesc]

theorem startDesc_frame (op ch : Nat) (s : State) :
    (startDesc op ch s).almanac = s.almanac ∧ (startDesc op ch s).fuses = s.fuses ∧ (startDesc op ch s).cal = s.cal ∧
      (startDesc op ch s).pending = s.pending := by
  have q1 := dmwComplete_frame
  have q2 := modChan_frame
  have q3 := raiseDesc_frame
  simp only [startDesc]; (repeat' split) <;> simp [q1, q2, q3]

theorem execDmwCopy_frame (ch : Nat) (s : State) :
    (resAfter (execDmwCopy ch s) s).almanac = s.almanac ∧ (resAfter (execDmwCopy ch s) s).fuses = s.fuses ∧
      (resAfter (execDmwCopy ch s) s).cal = s.cal ∧ (resAfter (execDmwCopy ch s) s).pending = s.pending := by
  have q1 := startDesc_frame
  simp [q1, execDmwCopy]

theorem execDmwFill_frame (ch : Nat) (s : State) :
    (resAfter (execDmwFill ch s) s).almanac = s.almanac ∧ (resAfter (execDmwFill ch s) s).fuses = s.fuses ∧
      (resAfter (execDmwFill ch s) s).cal = s.cal ∧ (resAfter (execDmwFill ch s) s).pending = s.pending := by
  have q1 := startDesc_frame
  simp [q1, execDmwFill]

theorem execDmwStow_frame (ch : Nat) (s : State) :
    (resAfter (execDmwStow ch s) s).almanac = s.almanac ∧ (resAfter (execDmwStow ch s) s).fuses = s.fuses ∧
      (resAfter (execDmwStow ch s) s).cal = s.cal ∧ (resAfter (execDmwStow ch s) s).pending = s.pending := by
  have q1 := startDesc_frame
  simp [q1, execDmwStow]

theorem execDmwFetch_frame (ch : Nat) (s : State) :
    (resAfter (execDmwFetch ch s) s).almanac = s.almanac ∧ (resAfter (execDmwFetch ch s) s).fuses = s.fuses ∧
      (resAfter (execDmwFetch ch s) s).cal = s.cal ∧ (resAfter (execDmwFetch ch s) s).pending = s.pending := by
  have q1 := startDesc_frame
  simp [q1, execDmwFetch]

theorem execDmwCheck_frame (ch : Nat) (s : State) :
    (resAfter (execDmwCheck ch s) s).almanac = s.almanac ∧ (resAfter (execDmwCheck ch s) s).fuses = s.fuses ∧
      (resAfter (execDmwCheck ch s) s).cal = s.cal ∧ (resAfter (execDmwCheck ch s) s).pending = s.pending := by
  have q1 := startDesc_frame
  simp [q1, execDmwCheck]

theorem endStep_frame (ch : Nat) (s : State) :
    (endStep ch s).almanac = s.almanac ∧ (endStep ch s).dev = s.dev ∧ (endStep ch s).stations = s.stations ∧
      (endStep ch s).drc = s.drc ∧ (endStep ch s).dram = s.dram ∧ (endStep ch s).cht = s.cht ∧ (endStep ch s).sui = s.sui ∧
      (endStep ch s).stw = s.stw ∧ (endStep ch s).sav = s.sav ∧ (endStep ch s).cel = s.cel ∧ (endStep ch s).nrg = s.nrg ∧
      (endStep ch s).gau = s.gau ∧ (endStep ch s).rek = s.rek ∧ (endStep ch s).plk = s.plk ∧ (endStep ch s).att = s.att ∧
      (endStep ch s).ecc = s.ecc ∧ (endStep ch s).tws = s.tws ∧ (endStep ch s).twp = s.twp ∧ (endStep ch s).svc = s.svc ∧
      (endStep ch s).log = s.log ∧ (endStep ch s).pwr = s.pwr ∧ (endStep ch s).fpl = s.fpl ∧ (endStep ch s).jtag = s.jtag ∧
      (endStep ch s).fuses = s.fuses ∧ (endStep ch s).cal = s.cal ∧ (endStep ch s).free = s.free ∧
      (endStep ch s).pending = s.pending := by
  have q1 := dmwReset_frame
  have q2 := modChan_frame
  unfold endStep; (repeat' split) <;> simp_all

theorem endStep_frame3 (ch : Nat) (s : State) :
    (endStep ch s).hst.linkUp = s.hst.linkUp ∧ (endStep ch s).hst.gateClosed = s.hst.gateClosed := by
  have q1 := dmwReset_frame
  have q2 := modChan_frame
  simp only [endStep]; (repeat' split) <;> simp [q1, q2]

theorem modDesc_frame (ch : Nat) (f : DescRun → DescRun) (s : State) :
    (modDesc ch f s).almanac = s.almanac ∧ (modDesc ch f s).dev = s.dev ∧ (modDesc ch f s).stations = s.stations ∧
      (modDesc ch f s).hst = s.hst ∧ (modDesc ch f s).drc = s.drc ∧ (modDesc ch f s).dram = s.dram ∧
      (modDesc ch f s).cht = s.cht ∧ (modDesc ch f s).sui = s.sui ∧ (modDesc ch f s).stw = s.stw ∧
      (modDesc ch f s).sav = s.sav ∧ (modDesc ch f s).cel = s.cel ∧ (modDesc ch f s).nrg = s.nrg ∧
      (modDesc ch f s).gau = s.gau ∧ (modDesc ch f s).rek = s.rek ∧ (modDesc ch f s).plk = s.plk ∧
      (modDesc ch f s).att = s.att ∧ (modDesc ch f s).ecc = s.ecc ∧ (modDesc ch f s).tws = s.tws ∧
      (modDesc ch f s).twp = s.twp ∧ (modDesc ch f s).svc = s.svc ∧ (modDesc ch f s).log = s.log ∧
      (modDesc ch f s).pwr = s.pwr ∧ (modDesc ch f s).fpl = s.fpl ∧ (modDesc ch f s).jtag = s.jtag ∧
      (modDesc ch f s).fuses = s.fuses ∧ (modDesc ch f s).cal = s.cal ∧ (modDesc ch f s).out = s.out ∧
      (modDesc ch f s).free = s.free ∧ (modDesc ch f s).pending = s.pending := by
  have q1 := modChan_frame
  simp [q1, modDesc]

theorem checkTile_frame (ch t : Nat) (s : State) :
    (checkTile ch t s).almanac = s.almanac ∧ (checkTile ch t s).fuses = s.fuses ∧ (checkTile ch t s).cal = s.cal ∧
      (checkTile ch t s).pending = s.pending := by
  have q1 := modDesc_frame
  have q2 := raiseAddr_frame
  have q3 := tileAccess_frame
  simp [q1, q2, q3, checkTile]

theorem settleStep_frame (ch : Nat) (s : State) :
    (settleStep ch s).almanac = s.almanac ∧ (settleStep ch s).fuses = s.fuses ∧ (settleStep ch s).cal = s.cal ∧
      (settleStep ch s).pending = s.pending := by
  have q1 := callTile_frame
  have q2 := checkTile_frame
  have q3 := dropCandidate_frame
  have q4 := endStep_frame
  have q5 := modDesc_frame
  have q6 := startStow_frame
  unfold settleStep; (repeat' split) <;> simp_all

theorem takeEntries_frame (n e : Nat) (s : State) :
    (takeEntries n e s).almanac = s.almanac ∧ (takeEntries n e s).dev = s.dev ∧ (takeEntries n e s).stations = s.stations ∧
      (takeEntries n e s).hst = s.hst ∧ (takeEntries n e s).drc = s.drc ∧ (takeEntries n e s).dram = s.dram ∧
      (takeEntries n e s).cht = s.cht ∧ (takeEntries n e s).sui = s.sui ∧ (takeEntries n e s).stw = s.stw ∧
      (takeEntries n e s).sav = s.sav ∧ (takeEntries n e s).cel = s.cel ∧ (takeEntries n e s).nrg = s.nrg ∧
      (takeEntries n e s).gau = s.gau ∧ (takeEntries n e s).rek = s.rek ∧ (takeEntries n e s).plk = s.plk ∧
      (takeEntries n e s).att = s.att ∧ (takeEntries n e s).ecc = s.ecc ∧ (takeEntries n e s).tws = s.tws ∧
      (takeEntries n e s).twp = s.twp ∧ (takeEntries n e s).svc = s.svc ∧ (takeEntries n e s).log = s.log ∧
      (takeEntries n e s).pwr = s.pwr ∧ (takeEntries n e s).fpl = s.fpl ∧ (takeEntries n e s).jtag = s.jtag ∧
      (takeEntries n e s).fuses = s.fuses ∧ (takeEntries n e s).cal = s.cal ∧ (takeEntries n e s).out = s.out ∧
      (takeEntries n e s).free = s.free ∧ (takeEntries n e s).pending = s.pending := by
  have q1 := modChan_frame
  simp [q1, takeEntries]

theorem holdStep_frame (n : Nat) (r : DescRun) (s : State) :
    (holdStep n r s).almanac = s.almanac ∧ (holdStep n r s).dev = s.dev ∧ (holdStep n r s).stations = s.stations ∧
      (holdStep n r s).hst = s.hst ∧ (holdStep n r s).drc = s.drc ∧ (holdStep n r s).dram = s.dram ∧
      (holdStep n r s).cht = s.cht ∧ (holdStep n r s).sui = s.sui ∧ (holdStep n r s).stw = s.stw ∧
      (holdStep n r s).cel = s.cel ∧ (holdStep n r s).nrg = s.nrg ∧ (holdStep n r s).gau = s.gau ∧
      (holdStep n r s).rek = s.rek ∧ (holdStep n r s).plk = s.plk ∧ (holdStep n r s).att = s.att ∧
      (holdStep n r s).ecc = s.ecc ∧ (holdStep n r s).tws = s.tws ∧ (holdStep n r s).twp = s.twp ∧
      (holdStep n r s).svc = s.svc ∧ (holdStep n r s).log = s.log ∧ (holdStep n r s).pwr = s.pwr ∧
      (holdStep n r s).fpl = s.fpl ∧ (holdStep n r s).jtag = s.jtag ∧ (holdStep n r s).fuses = s.fuses ∧
      (holdStep n r s).cal = s.cal ∧ (holdStep n r s).out = s.out ∧ (holdStep n r s).free = s.free ∧
      (holdStep n r s).pending = s.pending := by
  have q1 := modChan_frame
  have q2 := takeEntries_frame
  simp [q1, q2, holdStep]

theorem beginStep_frame (n : Nat) (r : DescRun) (unreadable : Bool) (s : State) :
    (beginStep n r unreadable s).almanac = s.almanac ∧ (beginStep n r unreadable s).fuses = s.fuses ∧
      (beginStep n r unreadable s).cal = s.cal ∧ (beginStep n r unreadable s).pending = s.pending := by
  have q1 := endStep_frame
  have q2 := modDesc_frame
  have q3 := settleStep_frame
  have q4 := takeEntries_frame
  have q5 := tileAccess_frame
  simp [q1, q2, q3, q4, q5, beginStep]

theorem grantStep_frame (n : Nat) (unreadable : Bool) (s : State) :
    (grantStep n unreadable s).almanac = s.almanac ∧ (grantStep n unreadable s).fuses = s.fuses ∧
      (grantStep n unreadable s).cal = s.cal ∧ (grantStep n unreadable s).pending = s.pending := by
  have q1 := beginStep_frame
  have q2 := demandFetch_frame
  have q3 := holdStep_frame
  have q4 := modChan_frame
  have q5 := modDesc_frame
  have q6 := raiseDesc_frame
  unfold grantStep; (repeat' split) <;> simp [q1, q2, q3, q4, q5, q6]

theorem acceptDmw_frame (ch : Nat) (r : DescRun) (s : State) :
    (acceptDmw ch r s).almanac = s.almanac ∧ (acceptDmw ch r s).fuses = s.fuses ∧ (acceptDmw ch r s).cal = s.cal ∧
      (acceptDmw ch r s).pending = s.pending := by
  have q1 := acceptBeat_frame
  have q2 := beatAccess_frame
  have q3 := endStep_frame
  have q4 := modDesc_frame
  simp [q1, q2, q3, q4, acceptDmw]

theorem execDmwWriteAccept_frame (ch : Nat) (s : State) :
    (resAfter (execDmwWriteAccept ch s) s).almanac = s.almanac ∧ (resAfter (execDmwWriteAccept ch s) s).fuses = s.fuses ∧
      (resAfter (execDmwWriteAccept ch s) s).cal = s.cal ∧ (resAfter (execDmwWriteAccept ch s) s).pending = s.pending := by
  have q1 := acceptDmw_frame
  have q2 := callSubch_frame
  have q3 := grantClaim_frame
  have q4 := modChan_frame
  have q5 := stallClaim_frame
  simp only [execDmwWriteAccept]; (repeat' split) <;> simp [q1, q2, q3, q4, q5]

theorem execDmwDescriptorComplete_frame (ch : Nat) (s : State) :
    (resAfter (execDmwDescriptorComplete ch s) s).almanac = s.almanac ∧
      (resAfter (execDmwDescriptorComplete ch s) s).fuses = s.fuses ∧
      (resAfter (execDmwDescriptorComplete ch s) s).cal = s.cal ∧
      (resAfter (execDmwDescriptorComplete ch s) s).pending = s.pending := by
  have q1 := dmwFinish_frame
  have q2 := settleStep_frame
  simp only [execDmwDescriptorComplete]; (repeat' split) <;> simp [q1, q2]

theorem trainPass_frame (sc : Nat) (record : List Byte) (s : State) :
    (trainPass sc record s).almanac = s.almanac ∧ (trainPass sc record s).dev = s.dev ∧
      (trainPass sc record s).stations = s.stations ∧ (trainPass sc record s).hst = s.hst ∧
      (trainPass sc record s).dram = s.dram ∧ (trainPass sc record s).cht = s.cht ∧ (trainPass sc record s).sui = s.sui ∧
      (trainPass sc record s).stw = s.stw ∧ (trainPass sc record s).sav = s.sav ∧ (trainPass sc record s).cel = s.cel ∧
      (trainPass sc record s).dmw = s.dmw ∧ (trainPass sc record s).nrg = s.nrg ∧ (trainPass sc record s).gau = s.gau ∧
      (trainPass sc record s).rek = s.rek ∧ (trainPass sc record s).plk = s.plk ∧ (trainPass sc record s).att = s.att ∧
      (trainPass sc record s).ecc = s.ecc ∧ (trainPass sc record s).tws = s.tws ∧ (trainPass sc record s).twp = s.twp ∧
      (trainPass sc record s).svc = s.svc ∧ (trainPass sc record s).log = s.log ∧ (trainPass sc record s).pwr = s.pwr ∧
      (trainPass sc record s).fpl = s.fpl ∧ (trainPass sc record s).jtag = s.jtag ∧ (trainPass sc record s).fuses = s.fuses ∧
      (trainPass sc record s).out = s.out ∧ (trainPass sc record s).free = s.free ∧
      (trainPass sc record s).pending = s.pending := by
  have q1 := modSubch_frame
  simp [q1, trainPass]

theorem trainExclude_frame (sc : Nat) (s : State) :
    (trainExclude sc s).almanac = s.almanac ∧ (trainExclude sc s).fuses = s.fuses ∧ (trainExclude sc s).pending = s.pending := by
  have q1 := modSubch_frame
  have q2 := raise_frame
  have q3 := setReason_frame
  simp [q1, q2, q3, trainExclude]

theorem execTrainingAttemptEnd_frame (sc : Nat) (pass : Bool) (record : List Byte) (s : State) :
    (resAfter (execTrainingAttemptEnd sc pass record s) s).almanac = s.almanac ∧
      (resAfter (execTrainingAttemptEnd sc pass record s) s).fuses = s.fuses ∧
      (resAfter (execTrainingAttemptEnd sc pass record s) s).pending = s.pending := by
  have q1 := modSubch_frame
  have q2 := trainExclude_frame
  have q3 := trainPass_frame
  simp only [execTrainingAttemptEnd]; (repeat' split) <;> simp [q1, q2, q3]

theorem forceRefresh_frame (sc r b : Nat) (s : State) :
    (forceRefresh sc r b s).almanac = s.almanac ∧ (forceRefresh sc r b s).dev = s.dev ∧
      (forceRefresh sc r b s).stations = s.stations ∧ (forceRefresh sc r b s).hst = s.hst ∧
      (forceRefresh sc r b s).dram = s.dram ∧ (forceRefresh sc r b s).cht = s.cht ∧ (forceRefresh sc r b s).sui = s.sui ∧
      (forceRefresh sc r b s).stw = s.stw ∧ (forceRefresh sc r b s).sav = s.sav ∧ (forceRefresh sc r b s).cel = s.cel ∧
      (forceRefresh sc r b s).dmw = s.dmw ∧ (forceRefresh sc r b s).nrg = s.nrg ∧ (forceRefresh sc r b s).gau = s.gau ∧
      (forceRefresh sc r b s).rek = s.rek ∧ (forceRefresh sc r b s).plk = s.plk ∧ (forceRefresh sc r b s).att = s.att ∧
      (forceRefresh sc r b s).ecc = s.ecc ∧ (forceRefresh sc r b s).tws = s.tws ∧ (forceRefresh sc r b s).twp = s.twp ∧
      (forceRefresh sc r b s).svc = s.svc ∧ (forceRefresh sc r b s).log = s.log ∧ (forceRefresh sc r b s).pwr = s.pwr ∧
      (forceRefresh sc r b s).fpl = s.fpl ∧ (forceRefresh sc r b s).jtag = s.jtag ∧ (forceRefresh sc r b s).fuses = s.fuses ∧
      (forceRefresh sc r b s).cal = s.cal ∧ (forceRefresh sc r b s).out = s.out ∧ (forceRefresh sc r b s).free = s.free ∧
      (forceRefresh sc r b s).pending = s.pending := by
  have q1 := modSubch_frame
  simp [q1, forceRefresh]

theorem enterDouble_frame (sc r : Nat) (s : State) :
    (enterDouble sc r s).almanac = s.almanac ∧ (enterDouble sc r s).dev = s.dev ∧ (enterDouble sc r s).stations = s.stations ∧
      (enterDouble sc r s).hst = s.hst ∧ (enterDouble sc r s).dram = s.dram ∧ (enterDouble sc r s).cht = s.cht ∧
      (enterDouble sc r s).sui = s.sui ∧ (enterDouble sc r s).stw = s.stw ∧ (enterDouble sc r s).sav = s.sav ∧
      (enterDouble sc r s).cel = s.cel ∧ (enterDouble sc r s).dmw = s.dmw ∧ (enterDouble sc r s).nrg = s.nrg ∧
      (enterDouble sc r s).gau = s.gau ∧ (enterDouble sc r s).rek = s.rek ∧ (enterDouble sc r s).plk = s.plk ∧
      (enterDouble sc r s).att = s.att ∧ (enterDouble sc r s).ecc = s.ecc ∧ (enterDouble sc r s).tws = s.tws ∧
      (enterDouble sc r s).twp = s.twp ∧ (enterDouble sc r s).svc = s.svc ∧ (enterDouble sc r s).log = s.log ∧
      (enterDouble sc r s).pwr = s.pwr ∧ (enterDouble sc r s).fpl = s.fpl ∧ (enterDouble sc r s).jtag = s.jtag ∧
      (enterDouble sc r s).fuses = s.fuses ∧ (enterDouble sc r s).cal = s.cal ∧ (enterDouble sc r s).out = s.out ∧
      (enterDouble sc r s).free = s.free ∧ (enterDouble sc r s).pending = s.pending := by
  have q1 := modSubch_frame
  simp [q1, enterDouble]

theorem forceDouble_frame (s : State) :
    (forceDouble s).almanac = s.almanac ∧ (forceDouble s).dev = s.dev ∧ (forceDouble s).stations = s.stations ∧
      (forceDouble s).hst = s.hst ∧ (forceDouble s).dram = s.dram ∧ (forceDouble s).cht = s.cht ∧ (forceDouble s).sui = s.sui ∧
      (forceDouble s).stw = s.stw ∧ (forceDouble s).sav = s.sav ∧ (forceDouble s).cel = s.cel ∧ (forceDouble s).dmw = s.dmw ∧
      (forceDouble s).nrg = s.nrg ∧ (forceDouble s).gau = s.gau ∧ (forceDouble s).rek = s.rek ∧ (forceDouble s).plk = s.plk ∧
      (forceDouble s).att = s.att ∧ (forceDouble s).ecc = s.ecc ∧ (forceDouble s).tws = s.tws ∧ (forceDouble s).twp = s.twp ∧
      (forceDouble s).svc = s.svc ∧ (forceDouble s).log = s.log ∧ (forceDouble s).pwr = s.pwr ∧ (forceDouble s).fpl = s.fpl ∧
      (forceDouble s).jtag = s.jtag ∧ (forceDouble s).fuses = s.fuses ∧ (forceDouble s).cal = s.cal ∧
      (forceDouble s).out = s.out ∧ (forceDouble s).free = s.free ∧ (forceDouble s).pending = s.pending := by
  simp [forceDouble]

theorem calFail_frame (s : State) :
    (calFail s).almanac = s.almanac ∧ (calFail s).fuses = s.fuses ∧ (calFail s).cal = s.cal ∧
      (calFail s).pending = s.pending := by
  have q1 := raise_frame
  simp [q1, calFail]

theorem gateAdjust_frame (sc : Nat) (fine : Byte) (s : State) :
    (gateAdjust sc fine s).almanac = s.almanac ∧ (gateAdjust sc fine s).dev = s.dev ∧
      (gateAdjust sc fine s).stations = s.stations ∧ (gateAdjust sc fine s).hst = s.hst ∧
      (gateAdjust sc fine s).dram = s.dram ∧ (gateAdjust sc fine s).cht = s.cht ∧ (gateAdjust sc fine s).sui = s.sui ∧
      (gateAdjust sc fine s).stw = s.stw ∧ (gateAdjust sc fine s).sav = s.sav ∧ (gateAdjust sc fine s).cel = s.cel ∧
      (gateAdjust sc fine s).dmw = s.dmw ∧ (gateAdjust sc fine s).nrg = s.nrg ∧ (gateAdjust sc fine s).gau = s.gau ∧
      (gateAdjust sc fine s).rek = s.rek ∧ (gateAdjust sc fine s).plk = s.plk ∧ (gateAdjust sc fine s).att = s.att ∧
      (gateAdjust sc fine s).ecc = s.ecc ∧ (gateAdjust sc fine s).tws = s.tws ∧ (gateAdjust sc fine s).twp = s.twp ∧
      (gateAdjust sc fine s).svc = s.svc ∧ (gateAdjust sc fine s).log = s.log ∧ (gateAdjust sc fine s).pwr = s.pwr ∧
      (gateAdjust sc fine s).fpl = s.fpl ∧ (gateAdjust sc fine s).jtag = s.jtag ∧ (gateAdjust sc fine s).fuses = s.fuses ∧
      (gateAdjust sc fine s).cal = s.cal ∧ (gateAdjust sc fine s).out = s.out ∧ (gateAdjust sc fine s).free = s.free ∧
      (gateAdjust sc fine s).pending = s.pending := by
  have q1 := modSubch_frame
  simp [q1, gateAdjust]

theorem runCal_frame (sc kind : Nat) (c : CalOutcome) (s : State) :
    (runCal sc kind c s).almanac = s.almanac ∧ (runCal sc kind c s).fuses = s.fuses ∧ (runCal sc kind c s).cal = s.cal ∧
      (runCal sc kind c s).pending = s.pending := by
  have q1 := calFail_frame
  have q2 := gateAdjust_frame
  simp [q1, q2, runCal]

theorem calDue_frame (sc kind : Nat) (o : CalOutcome) (s : State) :
    (calDue sc kind o s).almanac = s.almanac ∧ (calDue sc kind o s).fuses = s.fuses ∧ (calDue sc kind o s).cal = s.cal ∧
      (calDue sc kind o s).pending = s.pending := by
  have q1 := modSubch_frame
  have q2 := runCal_frame
  simp [q1, q2, calDue]

theorem execZqCalDue_frame (sc : Nat) (ok : Bool) (s : State) :
    (resAfter (execZqCalDue sc ok s) s).fuses = s.fuses ∧ (resAfter (execZqCalDue sc ok s) s).cal = s.cal ∧
      (resAfter (execZqCalDue sc ok s) s).pending = s.pending := by
  have q1 := advanceTo_frame
  have q2 := calDue_frame
  have q3 := modSubch_frame
  unfold execZqCalDue; (repeat' split) <;> simp_all

theorem execDqsOscDue_frame (sc : Nat) (fine : Byte) (ok : Bool) (s : State) :
    (resAfter (execDqsOscDue sc fine ok s) s).fuses = s.fuses ∧ (resAfter (execDqsOscDue sc fine ok s) s).cal = s.cal ∧
      (resAfter (execDqsOscDue sc fine ok s) s).pending = s.pending := by
  have q1 := advanceTo_frame
  have q2 := calDue_frame
  have q3 := modSubch_frame
  unfold execDqsOscDue; (repeat' split) <;> simp_all

theorem execCalDeferExpire_frame (sc kind : Nat) (s : State) :
    (resAfter (execCalDeferExpire sc kind s) s).dev = s.dev ∧
      (resAfter (execCalDeferExpire sc kind s) s).stations = s.stations ∧
      (resAfter (execCalDeferExpire sc kind s) s).hst = s.hst ∧ (resAfter (execCalDeferExpire sc kind s) s).dram = s.dram ∧
      (resAfter (execCalDeferExpire sc kind s) s).cht = s.cht ∧ (resAfter (execCalDeferExpire sc kind s) s).sui = s.sui ∧
      (resAfter (execCalDeferExpire sc kind s) s).stw = s.stw ∧ (resAfter (execCalDeferExpire sc kind s) s).sav = s.sav ∧
      (resAfter (execCalDeferExpire sc kind s) s).cel = s.cel ∧ (resAfter (execCalDeferExpire sc kind s) s).dmw = s.dmw ∧
      (resAfter (execCalDeferExpire sc kind s) s).nrg = s.nrg ∧ (resAfter (execCalDeferExpire sc kind s) s).gau = s.gau ∧
      (resAfter (execCalDeferExpire sc kind s) s).rek = s.rek ∧ (resAfter (execCalDeferExpire sc kind s) s).plk = s.plk ∧
      (resAfter (execCalDeferExpire sc kind s) s).att = s.att ∧ (resAfter (execCalDeferExpire sc kind s) s).ecc = s.ecc ∧
      (resAfter (execCalDeferExpire sc kind s) s).tws = s.tws ∧ (resAfter (execCalDeferExpire sc kind s) s).twp = s.twp ∧
      (resAfter (execCalDeferExpire sc kind s) s).pwr = s.pwr ∧ (resAfter (execCalDeferExpire sc kind s) s).fpl = s.fpl ∧
      (resAfter (execCalDeferExpire sc kind s) s).jtag = s.jtag ∧ (resAfter (execCalDeferExpire sc kind s) s).fuses = s.fuses ∧
      (resAfter (execCalDeferExpire sc kind s) s).cal = s.cal ∧ (resAfter (execCalDeferExpire sc kind s) s).out = s.out ∧
      (resAfter (execCalDeferExpire sc kind s) s).free = s.free ∧
      (resAfter (execCalDeferExpire sc kind s) s).pending = s.pending ∧
      (resAfter (execCalDeferExpire sc kind s) s).log.aonPowered = s.log.aonPowered := by
  have q1 := advanceTo_frame
  have q2 := modSubch_frame
  unfold execCalDeferExpire; (repeat' split) <;> simp_all

theorem execSelfRefreshIdle_frame (sc : Nat) (s : State) :
    (resAfter (execSelfRefreshIdle sc s) s).dev = s.dev ∧ (resAfter (execSelfRefreshIdle sc s) s).stations = s.stations ∧
      (resAfter (execSelfRefreshIdle sc s) s).hst = s.hst ∧ (resAfter (execSelfRefreshIdle sc s) s).dram = s.dram ∧
      (resAfter (execSelfRefreshIdle sc s) s).cht = s.cht ∧ (resAfter (execSelfRefreshIdle sc s) s).sui = s.sui ∧
      (resAfter (execSelfRefreshIdle sc s) s).stw = s.stw ∧ (resAfter (execSelfRefreshIdle sc s) s).sav = s.sav ∧
      (resAfter (execSelfRefreshIdle sc s) s).cel = s.cel ∧ (resAfter (execSelfRefreshIdle sc s) s).dmw = s.dmw ∧
      (resAfter (execSelfRefreshIdle sc s) s).nrg = s.nrg ∧ (resAfter (execSelfRefreshIdle sc s) s).gau = s.gau ∧
      (resAfter (execSelfRefreshIdle sc s) s).rek = s.rek ∧ (resAfter (execSelfRefreshIdle sc s) s).plk = s.plk ∧
      (resAfter (execSelfRefreshIdle sc s) s).att = s.att ∧ (resAfter (execSelfRefreshIdle sc s) s).ecc = s.ecc ∧
      (resAfter (execSelfRefreshIdle sc s) s).tws = s.tws ∧ (resAfter (execSelfRefreshIdle sc s) s).twp = s.twp ∧
      (resAfter (execSelfRefreshIdle sc s) s).pwr = s.pwr ∧ (resAfter (execSelfRefreshIdle sc s) s).fpl = s.fpl ∧
      (resAfter (execSelfRefreshIdle sc s) s).jtag = s.jtag ∧ (resAfter (execSelfRefreshIdle sc s) s).fuses = s.fuses ∧
      (resAfter (execSelfRefreshIdle sc s) s).cal = s.cal ∧ (resAfter (execSelfRefreshIdle sc s) s).out = s.out ∧
      (resAfter (execSelfRefreshIdle sc s) s).free = s.free ∧ (resAfter (execSelfRefreshIdle sc s) s).pending = s.pending ∧
      (resAfter (execSelfRefreshIdle sc s) s).log.aonPowered = s.log.aonPowered := by
  have q1 := advanceTo_frame
  have q2 := modSubch_frame
  simp only [execSelfRefreshIdle]; (repeat' split) <;> simp [q1, q2]

theorem execSelfRefreshExit_frame (sc : Nat) (ok : Bool) (s : State) :
    (resAfter (execSelfRefreshExit sc ok s) s).almanac = s.almanac ∧
      (resAfter (execSelfRefreshExit sc ok s) s).fuses = s.fuses ∧ (resAfter (execSelfRefreshExit sc ok s) s).cal = s.cal ∧
      (resAfter (execSelfRefreshExit sc ok s) s).pending = s.pending := by
  have q1 := calFail_frame
  have q2 := modSubch_frame
  have q3 := startRebuild_frame
  unfold execSelfRefreshExit; (repeat' split) <;> simp_all

theorem execReq_frame (sc : Nat) (q : DrcReq) (s : State) :
    (execReq sc q s).almanac = s.almanac ∧ (execReq sc q s).fuses = s.fuses ∧ (execReq sc q s).cal = s.cal ∧
      (execReq sc q s).pending = s.pending := by
  have q1 := fillPool_frame
  have q2 := modSubch_frame
  have q3 := releaseEntry_frame
  unfold execReq; (repeat' split) <;> simp_all

theorem makeMove_frame (sc : Nat) (turn : Bool) (m : DrcReq × ReqMove) (s : State) :
    (makeMove sc turn m s).almanac = s.almanac ∧ (makeMove sc turn m s).fuses = s.fuses ∧ (makeMove sc turn m s).cal = s.cal ∧
      (makeMove sc turn m s).pending = s.pending := by
  have q1 := activate_frame
  have q2 := execReq_frame
  unfold makeMove; (repeat' split) <;> simp [q1, q2]

theorem class6_frame (sc : Nat) (s : State) :
    (class6 sc s).almanac = s.almanac ∧ (class6 sc s).fuses = s.fuses ∧ (class6 sc s).cal = s.cal ∧
      (class6 sc s).pending = s.pending := by
  have q1 := makeMove_frame
  have q2 := modSubch_frame
  simp only [class6]; (repeat' split) <;> simp [q1, q2]

theorem runWork_frame (sc : Nat) (w : DrcWork) (o : CalOutcome) (s : State) :
    (runWork sc w o s).almanac = s.almanac ∧ (runWork sc w o s).fuses = s.fuses ∧ (runWork sc w o s).cal = s.cal ∧
      (runWork sc w o s).pending = s.pending := by
  have q1 := forceRefresh_frame
  have q2 := modSubch_frame
  have q3 := payRfm_frame
  have q4 := runCal_frame
  unfold runWork; (repeat' split) <;> simp_all

theorem execDrcPick_frame (sc : Nat) (o : CalOutcome) (s : State) :
    (resAfter (execDrcPick sc o s) s).almanac = s.almanac ∧ (resAfter (execDrcPick sc o s) s).fuses = s.fuses ∧
      (resAfter (execDrcPick sc o s) s).cal = s.cal ∧ (resAfter (execDrcPick sc o s) s).pending = s.pending := by
  have q1 := class6_frame
  have q2 := fillPool_frame
  have q3 := makeMove_frame
  have q4 := runWork_frame
  simp only [execDrcPick]; (repeat' split) <;> simp [q1, q2, q3, q4]

theorem correction_frame (beat device : Nat) (s : State) :
    (correction beat device s).almanac = s.almanac ∧ (correction beat device s).fuses = s.fuses ∧
      (correction beat device s).pending = s.pending := by
  have q1 := modSubch_frame
  have q2 := raise_frame
  have q3 := setReason_frame
  unfold correction; (repeat' split) <;> simp_all

theorem mergeMark_frame (beat mstr : Nat) (s : State) :
    (mergeMark beat mstr s).almanac = s.almanac ∧ (mergeMark beat mstr s).dev = s.dev ∧
      (mergeMark beat mstr s).stations = s.stations ∧ (mergeMark beat mstr s).hst = s.hst ∧
      (mergeMark beat mstr s).dram = s.dram ∧ (mergeMark beat mstr s).cht = s.cht ∧ (mergeMark beat mstr s).sui = s.sui ∧
      (mergeMark beat mstr s).stw = s.stw ∧ (mergeMark beat mstr s).sav = s.sav ∧ (mergeMark beat mstr s).cel = s.cel ∧
      (mergeMark beat mstr s).dmw = s.dmw ∧ (mergeMark beat mstr s).nrg = s.nrg ∧ (mergeMark beat mstr s).gau = s.gau ∧
      (mergeMark beat mstr s).rek = s.rek ∧ (mergeMark beat mstr s).plk = s.plk ∧ (mergeMark beat mstr s).att = s.att ∧
      (mergeMark beat mstr s).ecc = s.ecc ∧ (mergeMark beat mstr s).tws = s.tws ∧ (mergeMark beat mstr s).twp = s.twp ∧
      (mergeMark beat mstr s).svc = s.svc ∧ (mergeMark beat mstr s).log = s.log ∧ (mergeMark beat mstr s).pwr = s.pwr ∧
      (mergeMark beat mstr s).fpl = s.fpl ∧ (mergeMark beat mstr s).jtag = s.jtag ∧ (mergeMark beat mstr s).fuses = s.fuses ∧
      (mergeMark beat mstr s).cal = s.cal ∧ (mergeMark beat mstr s).out = s.out ∧ (mergeMark beat mstr s).free = s.free ∧
      (mergeMark beat mstr s).pending = s.pending := by
  have q1 := modSubch_frame
  unfold mergeMark; (repeat' split) <;> simp_all

theorem noteRead_frame (beat mstr : Nat) (k : Decoded) (data : List Byte) (later : Bool) (s : State) :
    (noteRead beat mstr k data later s).almanac = s.almanac ∧ (noteRead beat mstr k data later s).fuses = s.fuses ∧
      (noteRead beat mstr k data later s).pending = s.pending := by
  have q1 := correction_frame
  have q2 := enqueue_frame
  have q3 := uncorrectable_frame
  have q4 := watchRecord_frame
  unfold noteRead; (repeat' split) <;> simp [q1, q2, q3, q4]

theorem answerReturn_frame (seq : Nat) (data : List Byte) (poison : Bool) (s : State) :
    (answerReturn seq data poison s).almanac = s.almanac ∧ (answerReturn seq data poison s).dev = s.dev ∧
      (answerReturn seq data poison s).stations = s.stations ∧ (answerReturn seq data poison s).dram = s.dram ∧
      (answerReturn seq data poison s).cht = s.cht ∧ (answerReturn seq data poison s).sui = s.sui ∧
      (answerReturn seq data poison s).stw = s.stw ∧ (answerReturn seq data poison s).cel = s.cel ∧
      (answerReturn seq data poison s).dmw = s.dmw ∧ (answerReturn seq data poison s).nrg = s.nrg ∧
      (answerReturn seq data poison s).gau = s.gau ∧ (answerReturn seq data poison s).rek = s.rek ∧
      (answerReturn seq data poison s).plk = s.plk ∧ (answerReturn seq data poison s).att = s.att ∧
      (answerReturn seq data poison s).ecc = s.ecc ∧ (answerReturn seq data poison s).tws = s.tws ∧
      (answerReturn seq data poison s).twp = s.twp ∧ (answerReturn seq data poison s).svc = s.svc ∧
      (answerReturn seq data poison s).log = s.log ∧ (answerReturn seq data poison s).pwr = s.pwr ∧
      (answerReturn seq data poison s).fpl = s.fpl ∧ (answerReturn seq data poison s).jtag = s.jtag ∧
      (answerReturn seq data poison s).fuses = s.fuses ∧ (answerReturn seq data poison s).cal = s.cal ∧
      (answerReturn seq data poison s).free = s.free ∧ (answerReturn seq data poison s).pending = s.pending ∧
      (answerReturn seq data poison s).hst.linkUp = s.hst.linkUp ∧
      (answerReturn seq data poison s).hst.gateClosed = s.hst.gateClosed := by
  have q1 := admitReads_frame
  unfold answerReturn; (repeat' split) <;> simp_all

theorem returnRead_frame (r : ReadFlight) (errors : List (Nat × Byte)) (s : State) :
    (returnRead r errors s).almanac = s.almanac ∧ (returnRead r errors s).fuses = s.fuses ∧
      (returnRead r errors s).pending = s.pending := by
  have q1 := answerReturn_frame
  have q2 := noteRead_frame
  simp [q1, q2, returnRead]

theorem execDramReadReturn_frame (beat mstr : Nat) (errors : List (Nat × Byte)) (s : State) :
    (resAfter (execDramReadReturn beat mstr errors s) s).almanac = s.almanac ∧
      (resAfter (execDramReadReturn beat mstr errors s) s).fuses = s.fuses ∧
      (resAfter (execDramReadReturn beat mstr errors s) s).pending = s.pending := by
  have q1 := mergeMark_frame
  have q2 := noteRead_frame
  have q3 := poisonInFlight_frame
  have q4 := returnRead_frame
  simp only [execDramReadReturn]; (repeat' split) <;> simp [q1, q2, q3, q4]

theorem patrolAsk_frame (beat : Nat) (s : State) :
    (patrolAsk beat s).almanac = s.almanac ∧ (patrolAsk beat s).dev = s.dev ∧ (patrolAsk beat s).stations = s.stations ∧
      (patrolAsk beat s).hst = s.hst ∧ (patrolAsk beat s).dram = s.dram ∧ (patrolAsk beat s).cht = s.cht ∧
      (patrolAsk beat s).sui = s.sui ∧ (patrolAsk beat s).stw = s.stw ∧ (patrolAsk beat s).sav = s.sav ∧
      (patrolAsk beat s).cel = s.cel ∧ (patrolAsk beat s).dmw = s.dmw ∧ (patrolAsk beat s).nrg = s.nrg ∧
      (patrolAsk beat s).gau = s.gau ∧ (patrolAsk beat s).rek = s.rek ∧ (patrolAsk beat s).plk = s.plk ∧
      (patrolAsk beat s).att = s.att ∧ (patrolAsk beat s).ecc = s.ecc ∧ (patrolAsk beat s).tws = s.tws ∧
      (patrolAsk beat s).twp = s.twp ∧ (patrolAsk beat s).svc = s.svc ∧ (patrolAsk beat s).log = s.log ∧
      (patrolAsk beat s).pwr = s.pwr ∧ (patrolAsk beat s).fpl = s.fpl ∧ (patrolAsk beat s).jtag = s.jtag ∧
      (patrolAsk beat s).fuses = s.fuses ∧ (patrolAsk beat s).cal = s.cal ∧ (patrolAsk beat s).out = s.out ∧
      (patrolAsk beat s).free = s.free ∧ (patrolAsk beat s).pending = s.pending := by
  have q1 := enqueue_frame
  simp [q1, patrolAsk]

theorem patrolNext_frame (s : State) :
    (patrolNext s).almanac = s.almanac ∧ (patrolNext s).dev = s.dev ∧ (patrolNext s).stations = s.stations ∧
      (patrolNext s).hst = s.hst ∧ (patrolNext s).dram = s.dram ∧ (patrolNext s).cht = s.cht ∧ (patrolNext s).sui = s.sui ∧
      (patrolNext s).stw = s.stw ∧ (patrolNext s).sav = s.sav ∧ (patrolNext s).cel = s.cel ∧ (patrolNext s).dmw = s.dmw ∧
      (patrolNext s).nrg = s.nrg ∧ (patrolNext s).gau = s.gau ∧ (patrolNext s).rek = s.rek ∧ (patrolNext s).plk = s.plk ∧
      (patrolNext s).att = s.att ∧ (patrolNext s).ecc = s.ecc ∧ (patrolNext s).tws = s.tws ∧ (patrolNext s).twp = s.twp ∧
      (patrolNext s).svc = s.svc ∧ (patrolNext s).log = s.log ∧ (patrolNext s).pwr = s.pwr ∧ (patrolNext s).fpl = s.fpl ∧
      (patrolNext s).jtag = s.jtag ∧ (patrolNext s).fuses = s.fuses ∧ (patrolNext s).cal = s.cal ∧ (patrolNext s).out = s.out ∧
      (patrolNext s).free = s.free ∧ (patrolNext s).pending = s.pending := by
  have q1 := patrolAsk_frame
  simp [q1, patrolNext]

theorem execPatrolRead_frame (errors : List (Nat × Byte)) (s : State) :
    (resAfter (execPatrolRead errors s) s).almanac = s.almanac ∧ (resAfter (execPatrolRead errors s) s).fuses = s.fuses ∧
      (resAfter (execPatrolRead errors s) s).pending = s.pending := by
  have q1 := patrolNext_frame
  have q2 := returnRead_frame
  unfold execPatrolRead; (repeat' split) <;> simp_all

theorem budgetRenew_frame (s : State) :
    (budgetRenew s).almanac = s.almanac ∧ (budgetRenew s).stations = s.stations ∧ (budgetRenew s).hst = s.hst ∧
      (budgetRenew s).dram = s.dram ∧ (budgetRenew s).cht = s.cht ∧ (budgetRenew s).sui = s.sui ∧ (budgetRenew s).stw = s.stw ∧
      (budgetRenew s).sav = s.sav ∧ (budgetRenew s).cel = s.cel ∧ (budgetRenew s).dmw = s.dmw ∧ (budgetRenew s).nrg = s.nrg ∧
      (budgetRenew s).gau = s.gau ∧ (budgetRenew s).rek = s.rek ∧ (budgetRenew s).plk = s.plk ∧ (budgetRenew s).att = s.att ∧
      (budgetRenew s).ecc = s.ecc ∧ (budgetRenew s).tws = s.tws ∧ (budgetRenew s).twp = s.twp ∧ (budgetRenew s).svc = s.svc ∧
      (budgetRenew s).log = s.log ∧ (budgetRenew s).pwr = s.pwr ∧ (budgetRenew s).fpl = s.fpl ∧ (budgetRenew s).jtag = s.jtag ∧
      (budgetRenew s).fuses = s.fuses ∧ (budgetRenew s).out = s.out ∧ (budgetRenew s).free = s.free ∧
      (budgetRenew s).pending = s.pending := by
  have q1 := clearReason_frame
  simp [q1, budgetRenew]

@[simp] theorem budgetRenew_frame3 (s : State) :
    (budgetRenew s).dev.state = s.dev.state := by
  have q1 := clearReason_frame
  simp only [budgetRenew]; (repeat' split) <;> simp [q1]

theorem execPatrolPassEnd_frame (s : State) :
    (resAfter (execPatrolPassEnd s) s).almanac = s.almanac ∧ (resAfter (execPatrolPassEnd s) s).stations = s.stations ∧
      (resAfter (execPatrolPassEnd s) s).hst = s.hst ∧ (resAfter (execPatrolPassEnd s) s).dram = s.dram ∧
      (resAfter (execPatrolPassEnd s) s).cht = s.cht ∧ (resAfter (execPatrolPassEnd s) s).sui = s.sui ∧
      (resAfter (execPatrolPassEnd s) s).stw = s.stw ∧ (resAfter (execPatrolPassEnd s) s).sav = s.sav ∧
      (resAfter (execPatrolPassEnd s) s).cel = s.cel ∧ (resAfter (execPatrolPassEnd s) s).dmw = s.dmw ∧
      (resAfter (execPatrolPassEnd s) s).nrg = s.nrg ∧ (resAfter (execPatrolPassEnd s) s).gau = s.gau ∧
      (resAfter (execPatrolPassEnd s) s).rek = s.rek ∧ (resAfter (execPatrolPassEnd s) s).plk = s.plk ∧
      (resAfter (execPatrolPassEnd s) s).att = s.att ∧ (resAfter (execPatrolPassEnd s) s).ecc = s.ecc ∧
      (resAfter (execPatrolPassEnd s) s).tws = s.tws ∧ (resAfter (execPatrolPassEnd s) s).twp = s.twp ∧
      (resAfter (execPatrolPassEnd s) s).svc = s.svc ∧ (resAfter (execPatrolPassEnd s) s).log = s.log ∧
      (resAfter (execPatrolPassEnd s) s).pwr = s.pwr ∧ (resAfter (execPatrolPassEnd s) s).fpl = s.fpl ∧
      (resAfter (execPatrolPassEnd s) s).jtag = s.jtag ∧ (resAfter (execPatrolPassEnd s) s).fuses = s.fuses ∧
      (resAfter (execPatrolPassEnd s) s).out = s.out ∧ (resAfter (execPatrolPassEnd s) s).free = s.free ∧
      (resAfter (execPatrolPassEnd s) s).pending = s.pending ∧ (resAfter (execPatrolPassEnd s) s).dev.state = s.dev.state := by
  have q1 := budgetRenew_frame
  simp only [execPatrolPassEnd]; (repeat' split) <;> simp [q1]

theorem execCorrectionCount24h_frame (s : State) :
    (resAfter (execCorrectionCount24h s) s).stations = s.stations ∧ (resAfter (execCorrectionCount24h s) s).hst = s.hst ∧
      (resAfter (execCorrectionCount24h s) s).dram = s.dram ∧ (resAfter (execCorrectionCount24h s) s).cht = s.cht ∧
      (resAfter (execCorrectionCount24h s) s).sui = s.sui ∧ (resAfter (execCorrectionCount24h s) s).stw = s.stw ∧
      (resAfter (execCorrectionCount24h s) s).sav = s.sav ∧ (resAfter (execCorrectionCount24h s) s).cel = s.cel ∧
      (resAfter (execCorrectionCount24h s) s).dmw = s.dmw ∧ (resAfter (execCorrectionCount24h s) s).nrg = s.nrg ∧
      (resAfter (execCorrectionCount24h s) s).gau = s.gau ∧ (resAfter (execCorrectionCount24h s) s).rek = s.rek ∧
      (resAfter (execCorrectionCount24h s) s).plk = s.plk ∧ (resAfter (execCorrectionCount24h s) s).att = s.att ∧
      (resAfter (execCorrectionCount24h s) s).ecc = s.ecc ∧ (resAfter (execCorrectionCount24h s) s).tws = s.tws ∧
      (resAfter (execCorrectionCount24h s) s).twp = s.twp ∧ (resAfter (execCorrectionCount24h s) s).pwr = s.pwr ∧
      (resAfter (execCorrectionCount24h s) s).fpl = s.fpl ∧ (resAfter (execCorrectionCount24h s) s).jtag = s.jtag ∧
      (resAfter (execCorrectionCount24h s) s).fuses = s.fuses ∧ (resAfter (execCorrectionCount24h s) s).out = s.out ∧
      (resAfter (execCorrectionCount24h s) s).free = s.free ∧ (resAfter (execCorrectionCount24h s) s).pending = s.pending ∧
      (resAfter (execCorrectionCount24h s) s).dev.state = s.dev.state ∧
      (resAfter (execCorrectionCount24h s) s).log.aonPowered = s.log.aonPowered := by
  have q1 := advanceTo_frame
  have q2 := budgetRenew_frame
  unfold execCorrectionCount24h; (repeat' split) <;> simp_all

theorem raiseSram_frame (c : FClass) (addr master access : Nat) (s : State) :
    (raiseSram c addr master access s).almanac = s.almanac ∧ (raiseSram c addr master access s).fuses = s.fuses ∧
      (raiseSram c addr master access s).cal = s.cal ∧ (raiseSram c addr master access s).pending = s.pending := by
  have q1 := modStation_frame
  have q2 := raiseAddr_frame
  simp [q1, q2, raiseSram]

theorem coreUe_frame (core : Nat) (s : State) :
    (coreUe core s).almanac = s.almanac ∧ (coreUe core s).fuses = s.fuses ∧ (coreUe core s).cal = s.cal ∧
      (coreUe core s).pending = s.pending := by
  have q1 := holdCore_frame
  have q2 := quarantine_frame
  have q3 := raiseAddr_frame
  simp [q1, q2, q3, coreUe]

theorem regionOutcome_frame (a : Nat) (beat : Option Nat) (s : State) :
    (regionOutcome a beat s).almanac = s.almanac ∧ (regionOutcome a beat s).fuses = s.fuses ∧
      (regionOutcome a beat s).cal = s.cal ∧ (regionOutcome a beat s).pending = s.pending := by
  have q1 := chartEntryUe_frame
  have q2 := coreUe_frame
  have q3 := poisonInFlight_frame
  have q4 := suiteContextUe_frame
  have q5 := tileStateUe_frame
  unfold regionOutcome; (repeat' split) <;> simp_all

theorem clearMarks_frame (a : Nat) (s : State) :
    (clearMarks a s).almanac = s.almanac ∧ (clearMarks a s).dev = s.dev ∧ (clearMarks a s).stations = s.stations ∧
      (clearMarks a s).hst = s.hst ∧ (clearMarks a s).drc = s.drc ∧ (clearMarks a s).dram = s.dram ∧
      (clearMarks a s).cht = s.cht ∧ (clearMarks a s).sui = s.sui ∧ (clearMarks a s).stw = s.stw ∧
      (clearMarks a s).sav = s.sav ∧ (clearMarks a s).cel = s.cel ∧ (clearMarks a s).dmw = s.dmw ∧
      (clearMarks a s).nrg = s.nrg ∧ (clearMarks a s).gau = s.gau ∧ (clearMarks a s).rek = s.rek ∧
      (clearMarks a s).plk = s.plk ∧ (clearMarks a s).att = s.att ∧ (clearMarks a s).tws = s.tws ∧
      (clearMarks a s).twp = s.twp ∧ (clearMarks a s).svc = s.svc ∧ (clearMarks a s).log = s.log ∧
      (clearMarks a s).pwr = s.pwr ∧ (clearMarks a s).fpl = s.fpl ∧ (clearMarks a s).jtag = s.jtag ∧
      (clearMarks a s).fuses = s.fuses ∧ (clearMarks a s).cal = s.cal ∧ (clearMarks a s).out = s.out ∧
      (clearMarks a s).free = s.free ∧ (clearMarks a s).pending = s.pending := by
  simp [clearMarks]

theorem sramUe_frame (a master : Nat) (beat : Option Nat) (s : State) :
    (sramUe a master beat s).almanac = s.almanac ∧ (sramUe a master beat s).fuses = s.fuses ∧
      (sramUe a master beat s).pending = s.pending := by
  have q1 := clearMarks_frame
  have q2 := keeperStops_frame
  have q3 := raiseSram_frame
  have q4 := regionOutcome_frame
  simp [q1, q2, q3, q4, sramUe]

theorem patchSram_frame (word : Nat) (s : State) :
    (patchSram word s).almanac = s.almanac ∧ (patchSram word s).fuses = s.fuses ∧ (patchSram word s).pending = s.pending := by
  have q1 := raiseAddr_frame
  have q2 := setReason_frame
  simp [q1, q2, patchSram]

theorem patchAttic_frame (word : Nat) (v : Dword) (s : State) :
    (patchAttic word v s).almanac = s.almanac ∧ (patchAttic word v s).fuses = s.fuses ∧
      (patchAttic word v s).pending = s.pending := by
  have q1 := raiseAddr_frame
  have q2 := setReason_frame
  simp [q1, q2, patchAttic]

theorem takeTestCtl_frame (v : Word) (s : State) :
    (takeTestCtl v s).almanac = s.almanac ∧ (takeTestCtl v s).dev = s.dev ∧ (takeTestCtl v s).stations = s.stations ∧
      (takeTestCtl v s).hst = s.hst ∧ (takeTestCtl v s).drc = s.drc ∧ (takeTestCtl v s).dram = s.dram ∧
      (takeTestCtl v s).cht = s.cht ∧ (takeTestCtl v s).sui = s.sui ∧ (takeTestCtl v s).stw = s.stw ∧
      (takeTestCtl v s).sav = s.sav ∧ (takeTestCtl v s).cel = s.cel ∧ (takeTestCtl v s).dmw = s.dmw ∧
      (takeTestCtl v s).nrg = s.nrg ∧ (takeTestCtl v s).gau = s.gau ∧ (takeTestCtl v s).rek = s.rek ∧
      (takeTestCtl v s).plk = s.plk ∧ (takeTestCtl v s).att = s.att ∧ (takeTestCtl v s).tws = s.tws ∧
      (takeTestCtl v s).twp = s.twp ∧ (takeTestCtl v s).svc = s.svc ∧ (takeTestCtl v s).log = s.log ∧
      (takeTestCtl v s).pwr = s.pwr ∧ (takeTestCtl v s).fpl = s.fpl ∧ (takeTestCtl v s).jtag = s.jtag ∧
      (takeTestCtl v s).fuses = s.fuses ∧ (takeTestCtl v s).cal = s.cal ∧ (takeTestCtl v s).out = s.out ∧
      (takeTestCtl v s).free = s.free ∧ (takeTestCtl v s).pending = s.pending := by
  simp [takeTestCtl]

theorem testWrite_frame (s : State) :
    (testWrite s).almanac = s.almanac ∧ (testWrite s).fuses = s.fuses ∧ (testWrite s).cal = s.cal ∧
      (testWrite s).pending = s.pending := by
  have q1 := raiseSram_frame
  simp [q1, testWrite]

end Sys2Proof.Machine
end

