-- ==== Sys2Proof/Laws/FramesMore.lean ====
section
/-! SUPPORT. What the operations and meanings of the later modules leave alone. -/

set_option maxRecDepth 20000

namespace Sys2Proof.Machine

theorem decodedBytes_frame (x0 : List CodedByte) (x1 : State) :
    (decodedBytes x0 x1).2.almanac = x1.almanac ∧ (decodedBytes x0 x1).2.dev = x1.dev ∧
      (decodedBytes x0 x1).2.stations = x1.stations ∧ (decodedBytes x0 x1).2.hst = x1.hst ∧
      (decodedBytes x0 x1).2.drc = x1.drc ∧ (decodedBytes x0 x1).2.dram = x1.dram ∧ (decodedBytes x0 x1).2.cht = x1.cht ∧
      (decodedBytes x0 x1).2.sui = x1.sui ∧ (decodedBytes x0 x1).2.stw = x1.stw ∧ (decodedBytes x0 x1).2.sav = x1.sav ∧
      (decodedBytes x0 x1).2.cel = x1.cel ∧ (decodedBytes x0 x1).2.dmw = x1.dmw ∧ (decodedBytes x0 x1).2.nrg = x1.nrg ∧
      (decodedBytes x0 x1).2.gau = x1.gau ∧ (decodedBytes x0 x1).2.rek = x1.rek ∧ (decodedBytes x0 x1).2.plk = x1.plk ∧
      (decodedBytes x0 x1).2.att = x1.att ∧ (decodedBytes x0 x1).2.ecc = x1.ecc ∧ (decodedBytes x0 x1).2.tws = x1.tws ∧
      (decodedBytes x0 x1).2.twp = x1.twp ∧ (decodedBytes x0 x1).2.svc = x1.svc ∧ (decodedBytes x0 x1).2.log = x1.log ∧
      (decodedBytes x0 x1).2.pwr = x1.pwr ∧ (decodedBytes x0 x1).2.fpl = x1.fpl ∧ (decodedBytes x0 x1).2.jtag = x1.jtag ∧
      (decodedBytes x0 x1).2.fuses = x1.fuses ∧ (decodedBytes x0 x1).2.cal = x1.cal ∧ (decodedBytes x0 x1).2.out = x1.out ∧
      (decodedBytes x0 x1).2.pending = x1.pending := by
  have q1 := takeFree_frame
  induction x0 generalizing x1 <;> (first | (simp [decodedBytes]; done) | ((simp only [decodedBytes]; (repeat' split) <;> simp_all)))

theorem testRead_frame (s : State) :
    (testRead s).almanac = s.almanac ∧ (testRead s).fuses = s.fuses ∧ (testRead s).cal = s.cal ∧
      (testRead s).pending = s.pending := by
  have q1 := decodedBytes_frame
  have q2 := raiseSram_frame
  simp [q1, q2, testRead]

theorem execSramUe_frame (address master : Nat) (beat : Option Nat) (s : State) :
    (resAfter (execSramUe address master beat s) s).almanac = s.almanac ∧
      (resAfter (execSramUe address master beat s) s).fuses = s.fuses ∧
      (resAfter (execSramUe address master beat s) s).pending = s.pending := by
  have q1 := sramUe_frame
  simp [q1, execSramUe]

theorem parityOutcome_frame (sender address : Nat) (r : ParityReceiver) (s : State) :
    (parityOutcome sender address r s).almanac = s.almanac ∧ (parityOutcome sender address r s).fuses = s.fuses ∧
      (parityOutcome sender address r s).pending = s.pending := by
  have q1 := acceptBeat_frame
  have q2 := coreUe_frame
  have q3 := keeperStops_frame
  have q4 := modBank_frame
  have q5 := poisonInFlight_frame
  have q6 := seqError_frame
  unfold parityOutcome; (repeat' split) <;> simp_all

theorem execFabricParityError_frame (sender address : Nat) (receiver : ParityReceiver) (s : State) :
    (resAfter (execFabricParityError sender address receiver s) s).almanac = s.almanac ∧
      (resAfter (execFabricParityError sender address receiver s) s).fuses = s.fuses ∧
      (resAfter (execFabricParityError sender address receiver s) s).pending = s.pending := by
  have q1 := parityOutcome_frame
  have q2 := raiseSram_frame
  simp [q1, q2, execFabricParityError]

theorem endReload_frame (core t : Nat) (s : State) :
    (endReload core t s).almanac = s.almanac ∧ (endReload core t s).dev = s.dev ∧ (endReload core t s).hst = s.hst ∧
      (endReload core t s).drc = s.drc ∧ (endReload core t s).dram = s.dram ∧ (endReload core t s).cht = s.cht ∧
      (endReload core t s).sui = s.sui ∧ (endReload core t s).stw = s.stw ∧ (endReload core t s).sav = s.sav ∧
      (endReload core t s).cel = s.cel ∧ (endReload core t s).dmw = s.dmw ∧ (endReload core t s).nrg = s.nrg ∧
      (endReload core t s).gau = s.gau ∧ (endReload core t s).rek = s.rek ∧ (endReload core t s).plk = s.plk ∧
      (endReload core t s).att = s.att ∧ (endReload core t s).ecc = s.ecc ∧ (endReload core t s).tws = s.tws ∧
      (endReload core t s).twp = s.twp ∧ (endReload core t s).svc = s.svc ∧ (endReload core t s).log = s.log ∧
      (endReload core t s).pwr = s.pwr ∧ (endReload core t s).fpl = s.fpl ∧ (endReload core t s).jtag = s.jtag ∧
      (endReload core t s).fuses = s.fuses ∧ (endReload core t s).cal = s.cal ∧ (endReload core t s).out = s.out ∧
      (endReload core t s).free = s.free ∧ (endReload core t s).pending = s.pending := by
  have q1 := modStation_frame
  simp [q1, endReload]

theorem execCoreReload_frame (core : Nat) (s : State) :
    (resAfter (execCoreReload core s) s).almanac = s.almanac ∧ (resAfter (execCoreReload core s) s).dev = s.dev ∧
      (resAfter (execCoreReload core s) s).hst = s.hst ∧ (resAfter (execCoreReload core s) s).drc = s.drc ∧
      (resAfter (execCoreReload core s) s).dram = s.dram ∧ (resAfter (execCoreReload core s) s).cht = s.cht ∧
      (resAfter (execCoreReload core s) s).sui = s.sui ∧ (resAfter (execCoreReload core s) s).stw = s.stw ∧
      (resAfter (execCoreReload core s) s).sav = s.sav ∧ (resAfter (execCoreReload core s) s).cel = s.cel ∧
      (resAfter (execCoreReload core s) s).dmw = s.dmw ∧ (resAfter (execCoreReload core s) s).nrg = s.nrg ∧
      (resAfter (execCoreReload core s) s).gau = s.gau ∧ (resAfter (execCoreReload core s) s).rek = s.rek ∧
      (resAfter (execCoreReload core s) s).plk = s.plk ∧ (resAfter (execCoreReload core s) s).att = s.att ∧
      (resAfter (execCoreReload core s) s).tws = s.tws ∧ (resAfter (execCoreReload core s) s).twp = s.twp ∧
      (resAfter (execCoreReload core s) s).svc = s.svc ∧ (resAfter (execCoreReload core s) s).log = s.log ∧
      (resAfter (execCoreReload core s) s).pwr = s.pwr ∧ (resAfter (execCoreReload core s) s).fpl = s.fpl ∧
      (resAfter (execCoreReload core s) s).jtag = s.jtag ∧ (resAfter (execCoreReload core s) s).fuses = s.fuses ∧
      (resAfter (execCoreReload core s) s).cal = s.cal ∧ (resAfter (execCoreReload core s) s).out = s.out ∧
      (resAfter (execCoreReload core s) s).free = s.free ∧ (resAfter (execCoreReload core s) s).pending = s.pending := by
  have q1 := endReload_frame
  unfold execCoreReload; (repeat' split) <;> simp_all

theorem advanceScrub_frame (s : State) :
    (advanceScrub s).almanac = s.almanac ∧ (advanceScrub s).dev = s.dev ∧ (advanceScrub s).stations = s.stations ∧
      (advanceScrub s).hst = s.hst ∧ (advanceScrub s).drc = s.drc ∧ (advanceScrub s).dram = s.dram ∧
      (advanceScrub s).cht = s.cht ∧ (advanceScrub s).sui = s.sui ∧ (advanceScrub s).stw = s.stw ∧
      (advanceScrub s).sav = s.sav ∧ (advanceScrub s).cel = s.cel ∧ (advanceScrub s).dmw = s.dmw ∧
      (advanceScrub s).nrg = s.nrg ∧ (advanceScrub s).gau = s.gau ∧ (advanceScrub s).rek = s.rek ∧
      (advanceScrub s).plk = s.plk ∧ (advanceScrub s).att = s.att ∧ (advanceScrub s).tws = s.tws ∧
      (advanceScrub s).twp = s.twp ∧ (advanceScrub s).svc = s.svc ∧ (advanceScrub s).log = s.log ∧
      (advanceScrub s).pwr = s.pwr ∧ (advanceScrub s).fpl = s.fpl ∧ (advanceScrub s).jtag = s.jtag ∧
      (advanceScrub s).fuses = s.fuses ∧ (advanceScrub s).cal = s.cal ∧ (advanceScrub s).out = s.out ∧
      (advanceScrub s).free = s.free ∧ (advanceScrub s).pending = s.pending := by
  simp only [advanceScrub]; (repeat' split) <;> simp

theorem noteWordError_frame (w : Nat) (s : State) :
    (noteWordError w s).almanac = s.almanac ∧ (noteWordError w s).fuses = s.fuses ∧ (noteWordError w s).pending = s.pending := by
  have q1 := patchSram_frame
  simp [q1, noteWordError]

theorem execSramScrubRead_frame (finding : ScrubFinding) (beat : Option Nat) (s : State) :
    (resAfter (execSramScrubRead finding beat s) s).fuses = s.fuses ∧
      (resAfter (execSramScrubRead finding beat s) s).pending = s.pending := by
  have q1 := advanceScrub_frame
  have q2 := advanceTo_frame
  have q3 := noteWordError_frame
  have q4 := sramUe_frame
  simp only [execSramScrubRead]; (repeat' split) <;> simp [q1, q2, q3, q4]

theorem beginRecover_frame (s : State) :
    (beginRecover s).almanac = s.almanac ∧ (beginRecover s).dev = s.dev ∧ (beginRecover s).stations = s.stations ∧
      (beginRecover s).hst = s.hst ∧ (beginRecover s).drc = s.drc ∧ (beginRecover s).dram = s.dram ∧
      (beginRecover s).cht = s.cht ∧ (beginRecover s).sui = s.sui ∧ (beginRecover s).stw = s.stw ∧
      (beginRecover s).sav = s.sav ∧ (beginRecover s).cel = s.cel ∧ (beginRecover s).dmw = s.dmw ∧
      (beginRecover s).nrg = s.nrg ∧ (beginRecover s).gau = s.gau ∧ (beginRecover s).rek = s.rek ∧
      (beginRecover s).plk = s.plk ∧ (beginRecover s).tws = s.tws ∧ (beginRecover s).twp = s.twp ∧
      (beginRecover s).svc = s.svc ∧ (beginRecover s).log = s.log ∧ (beginRecover s).pwr = s.pwr ∧
      (beginRecover s).fpl = s.fpl ∧ (beginRecover s).jtag = s.jtag ∧ (beginRecover s).fuses = s.fuses ∧
      (beginRecover s).cal = s.cal ∧ (beginRecover s).out = s.out ∧ (beginRecover s).free = s.free ∧
      (beginRecover s).pending = s.pending := by
  have q1 := beginErase_frame
  unfold beginRecover; (repeat' split) <;> simp_all

theorem startAtticPass_frame (s : State) :
    (startAtticPass s).almanac = s.almanac ∧ (startAtticPass s).dev = s.dev ∧ (startAtticPass s).stations = s.stations ∧
      (startAtticPass s).hst = s.hst ∧ (startAtticPass s).drc = s.drc ∧ (startAtticPass s).dram = s.dram ∧
      (startAtticPass s).cht = s.cht ∧ (startAtticPass s).sui = s.sui ∧ (startAtticPass s).stw = s.stw ∧
      (startAtticPass s).sav = s.sav ∧ (startAtticPass s).cel = s.cel ∧ (startAtticPass s).dmw = s.dmw ∧
      (startAtticPass s).nrg = s.nrg ∧ (startAtticPass s).gau = s.gau ∧ (startAtticPass s).rek = s.rek ∧
      (startAtticPass s).plk = s.plk ∧ (startAtticPass s).att = s.att ∧ (startAtticPass s).tws = s.tws ∧
      (startAtticPass s).twp = s.twp ∧ (startAtticPass s).svc = s.svc ∧ (startAtticPass s).log = s.log ∧
      (startAtticPass s).pwr = s.pwr ∧ (startAtticPass s).fpl = s.fpl ∧ (startAtticPass s).jtag = s.jtag ∧
      (startAtticPass s).fuses = s.fuses ∧ (startAtticPass s).cal = s.cal ∧ (startAtticPass s).out = s.out ∧
      (startAtticPass s).free = s.free ∧ (startAtticPass s).pending = s.pending := by
  simp [startAtticPass]

theorem wantRecover_frame (b sec : Nat) (once : Bool) (s : State) :
    (wantRecover b sec once s).almanac = s.almanac ∧ (wantRecover b sec once s).dev = s.dev ∧
      (wantRecover b sec once s).stations = s.stations ∧ (wantRecover b sec once s).hst = s.hst ∧
      (wantRecover b sec once s).drc = s.drc ∧ (wantRecover b sec once s).dram = s.dram ∧
      (wantRecover b sec once s).cht = s.cht ∧ (wantRecover b sec once s).sui = s.sui ∧
      (wantRecover b sec once s).stw = s.stw ∧ (wantRecover b sec once s).sav = s.sav ∧
      (wantRecover b sec once s).cel = s.cel ∧ (wantRecover b sec once s).dmw = s.dmw ∧
      (wantRecover b sec once s).nrg = s.nrg ∧ (wantRecover b sec once s).gau = s.gau ∧
      (wantRecover b sec once s).rek = s.rek ∧ (wantRecover b sec once s).plk = s.plk ∧
      (wantRecover b sec once s).att = s.att ∧ (wantRecover b sec once s).tws = s.tws ∧
      (wantRecover b sec once s).twp = s.twp ∧ (wantRecover b sec once s).svc = s.svc ∧
      (wantRecover b sec once s).log = s.log ∧ (wantRecover b sec once s).pwr = s.pwr ∧
      (wantRecover b sec once s).fpl = s.fpl ∧ (wantRecover b sec once s).jtag = s.jtag ∧
      (wantRecover b sec once s).fuses = s.fuses ∧ (wantRecover b sec once s).cal = s.cal ∧
      (wantRecover b sec once s).out = s.out ∧ (wantRecover b sec once s).free = s.free ∧
      (wantRecover b sec once s).pending = s.pending := by
  simp [wantRecover]

theorem scrubAction_frame (b pos : Nat) (found : Option WordDecode) (v : Option Dword) (s : State) :
    (scrubAction b pos found v s).almanac = s.almanac ∧ (scrubAction b pos found v s).fuses = s.fuses ∧
      (scrubAction b pos found v s).pending = s.pending := by
  have q1 := patchAttic_frame
  have q2 := raiseAddr_frame
  have q3 := wantRecover_frame
  unfold scrubAction; (repeat' split) <;> simp_all

theorem advanceAttic_frame (b : Nat) (s : State) :
    (advanceAttic b s).almanac = s.almanac ∧ (advanceAttic b s).dev = s.dev ∧ (advanceAttic b s).stations = s.stations ∧
      (advanceAttic b s).hst = s.hst ∧ (advanceAttic b s).drc = s.drc ∧ (advanceAttic b s).dram = s.dram ∧
      (advanceAttic b s).cht = s.cht ∧ (advanceAttic b s).sui = s.sui ∧ (advanceAttic b s).stw = s.stw ∧
      (advanceAttic b s).sav = s.sav ∧ (advanceAttic b s).cel = s.cel ∧ (advanceAttic b s).dmw = s.dmw ∧
      (advanceAttic b s).nrg = s.nrg ∧ (advanceAttic b s).gau = s.gau ∧ (advanceAttic b s).rek = s.rek ∧
      (advanceAttic b s).plk = s.plk ∧ (advanceAttic b s).att = s.att ∧ (advanceAttic b s).tws = s.tws ∧
      (advanceAttic b s).twp = s.twp ∧ (advanceAttic b s).svc = s.svc ∧ (advanceAttic b s).log = s.log ∧
      (advanceAttic b s).pwr = s.pwr ∧ (advanceAttic b s).fpl = s.fpl ∧ (advanceAttic b s).jtag = s.jtag ∧
      (advanceAttic b s).fuses = s.fuses ∧ (advanceAttic b s).cal = s.cal ∧ (advanceAttic b s).out = s.out ∧
      (advanceAttic b s).free = s.free ∧ (advanceAttic b s).pending = s.pending := by
  simp [advanceAttic]

theorem execAtticScrubRead_frame (reads : List (List Nat)) (s : State) :
    (resAfter (execAtticScrubRead reads s) s).fuses = s.fuses ∧
      (resAfter (execAtticScrubRead reads s) s).pending = s.pending := by
  have q1 := advanceAttic_frame
  have q2 := advanceTo_frame
  have q3 := beginRecover_frame
  have q4 := scrubAction_frame
  have q5 := startAtticPass_frame
  simp only [execAtticScrubRead]; (repeat' split) <;> simp [q1, q2, q3, q4, q5]

theorem eccTestWrite_frame (value : Word) (s : State) :
    (eccTestWrite value s).almanac = s.almanac ∧ (eccTestWrite value s).fuses = s.fuses ∧ (eccTestWrite value s).cal = s.cal ∧
      (eccTestWrite value s).pending = s.pending := by
  have q1 := takeTestCtl_frame
  have q2 := testRead_frame
  have q3 := testWrite_frame
  simp [q1, q2, q3, eccTestWrite]

theorem execEccTestWrite_frame (value : Word) (s : State) :
    (resAfter (execEccTestWrite value s) s).almanac = s.almanac ∧ (resAfter (execEccTestWrite value s) s).fuses = s.fuses ∧
      (resAfter (execEccTestWrite value s) s).cal = s.cal ∧ (resAfter (execEccTestWrite value s) s).pending = s.pending := by
  have q1 := eccTestWrite_frame
  simp [q1, execEccTestWrite]

theorem eccTestRead_frame (value : Word) (s : State) :
    (eccTestRead value s).almanac = s.almanac ∧ (eccTestRead value s).fuses = s.fuses ∧ (eccTestRead value s).cal = s.cal ∧
      (eccTestRead value s).pending = s.pending := by
  have q1 := takeTestCtl_frame
  have q2 := testRead_frame
  simp [q1, q2, eccTestRead]

theorem execEccTestRead_frame (value : Word) (s : State) :
    (resAfter (execEccTestRead value s) s).almanac = s.almanac ∧ (resAfter (execEccTestRead value s) s).fuses = s.fuses ∧
      (resAfter (execEccTestRead value s) s).cal = s.cal ∧ (resAfter (execEccTestRead value s) s).pending = s.pending := by
  have q1 := eccTestRead_frame
  simp [q1, execEccTestRead]

theorem markStore_frame (s : State) :
    (markStore s).almanac = s.almanac ∧ (markStore s).dev = s.dev ∧ (markStore s).stations = s.stations ∧
      (markStore s).hst = s.hst ∧ (markStore s).drc = s.drc ∧ (markStore s).dram = s.dram ∧ (markStore s).cht = s.cht ∧
      (markStore s).sui = s.sui ∧ (markStore s).stw = s.stw ∧ (markStore s).sav = s.sav ∧ (markStore s).cel = s.cel ∧
      (markStore s).dmw = s.dmw ∧ (markStore s).nrg = s.nrg ∧ (markStore s).rek = s.rek ∧ (markStore s).plk = s.plk ∧
      (markStore s).att = s.att ∧ (markStore s).ecc = s.ecc ∧ (markStore s).tws = s.tws ∧ (markStore s).twp = s.twp ∧
      (markStore s).svc = s.svc ∧ (markStore s).log = s.log ∧ (markStore s).pwr = s.pwr ∧ (markStore s).fpl = s.fpl ∧
      (markStore s).jtag = s.jtag ∧ (markStore s).fuses = s.fuses ∧ (markStore s).cal = s.cal ∧ (markStore s).out = s.out ∧
      (markStore s).free = s.free ∧ (markStore s).pending = s.pending := by
  simp [markStore]

theorem closeWindow_frame (s : State) :
    (closeWindow s).almanac = s.almanac ∧ (closeWindow s).dev = s.dev ∧ (closeWindow s).stations = s.stations ∧
      (closeWindow s).hst = s.hst ∧ (closeWindow s).drc = s.drc ∧ (closeWindow s).dram = s.dram ∧ (closeWindow s).cht = s.cht ∧
      (closeWindow s).sui = s.sui ∧ (closeWindow s).stw = s.stw ∧ (closeWindow s).sav = s.sav ∧ (closeWindow s).cel = s.cel ∧
      (closeWindow s).dmw = s.dmw ∧ (closeWindow s).rek = s.rek ∧ (closeWindow s).plk = s.plk ∧ (closeWindow s).att = s.att ∧
      (closeWindow s).ecc = s.ecc ∧ (closeWindow s).tws = s.tws ∧ (closeWindow s).twp = s.twp ∧ (closeWindow s).svc = s.svc ∧
      (closeWindow s).log = s.log ∧ (closeWindow s).pwr = s.pwr ∧ (closeWindow s).fpl = s.fpl ∧ (closeWindow s).jtag = s.jtag ∧
      (closeWindow s).fuses = s.fuses ∧ (closeWindow s).cal = s.cal ∧ (closeWindow s).out = s.out ∧
      (closeWindow s).free = s.free ∧ (closeWindow s).pending = s.pending := by
  simp [closeWindow]

theorem openWindow_frame (s : State) :
    (openWindow s).almanac = s.almanac ∧ (openWindow s).dev = s.dev ∧ (openWindow s).stations = s.stations ∧
      (openWindow s).hst = s.hst ∧ (openWindow s).drc = s.drc ∧ (openWindow s).dram = s.dram ∧ (openWindow s).cht = s.cht ∧
      (openWindow s).sui = s.sui ∧ (openWindow s).stw = s.stw ∧ (openWindow s).sav = s.sav ∧ (openWindow s).cel = s.cel ∧
      (openWindow s).dmw = s.dmw ∧ (openWindow s).rek = s.rek ∧ (openWindow s).plk = s.plk ∧ (openWindow s).att = s.att ∧
      (openWindow s).ecc = s.ecc ∧ (openWindow s).tws = s.tws ∧ (openWindow s).twp = s.twp ∧ (openWindow s).svc = s.svc ∧
      (openWindow s).log = s.log ∧ (openWindow s).pwr = s.pwr ∧ (openWindow s).fpl = s.fpl ∧ (openWindow s).jtag = s.jtag ∧
      (openWindow s).fuses = s.fuses ∧ (openWindow s).cal = s.cal ∧ (openWindow s).out = s.out ∧ (openWindow s).free = s.free ∧
      (openWindow s).pending = s.pending := by
  simp [openWindow]

theorem eolEval_frame (daily : Bool) (s : State) :
    (eolEval daily s).almanac = s.almanac ∧ (eolEval daily s).fuses = s.fuses ∧ (eolEval daily s).pending = s.pending := by
  have q1 := clearReason_frame
  have q2 := raise_frame
  have q3 := setReason_frame
  simp [q1, q2, q3, eolEval]

theorem disqualify_frame (code : Nat) (s : State) :
    (disqualify code s).almanac = s.almanac ∧ (disqualify code s).dev = s.dev ∧ (disqualify code s).stations = s.stations ∧
      (disqualify code s).hst = s.hst ∧ (disqualify code s).drc = s.drc ∧ (disqualify code s).dram = s.dram ∧
      (disqualify code s).cht = s.cht ∧ (disqualify code s).sui = s.sui ∧ (disqualify code s).stw = s.stw ∧
      (disqualify code s).sav = s.sav ∧ (disqualify code s).cel = s.cel ∧ (disqualify code s).dmw = s.dmw ∧
      (disqualify code s).nrg = s.nrg ∧ (disqualify code s).rek = s.rek ∧ (disqualify code s).plk = s.plk ∧
      (disqualify code s).att = s.att ∧ (disqualify code s).ecc = s.ecc ∧ (disqualify code s).tws = s.tws ∧
      (disqualify code s).twp = s.twp ∧ (disqualify code s).svc = s.svc ∧ (disqualify code s).log = s.log ∧
      (disqualify code s).pwr = s.pwr ∧ (disqualify code s).fpl = s.fpl ∧ (disqualify code s).jtag = s.jtag ∧
      (disqualify code s).fuses = s.fuses ∧ (disqualify code s).cal = s.cal ∧ (disqualify code s).out = s.out ∧
      (disqualify code s).free = s.free ∧ (disqualify code s).pending = s.pending := by
  simp [disqualify]

theorem learnSample_frame (x : Nat) (s : State) :
    (learnSample x s).almanac = s.almanac ∧ (learnSample x s).fuses = s.fuses ∧ (learnSample x s).pending = s.pending := by
  have q1 := eolEval_frame
  have q2 := markStore_frame
  have q3 := wantRek_frame
  simp [q1, q2, q3, learnSample]

theorem endCellCycle_frame (r : LearnRun) (v : Nat) (s : State) :
    (endCellCycle r v s).almanac = s.almanac ∧ (endCellCycle r v s).fuses = s.fuses ∧
      (endCellCycle r v s).pending = s.pending := by
  have q1 := disqualify_frame
  have q2 := learnSample_frame
  simp [q1, q2, endCellCycle]

theorem endSuperCycle_frame (r : LearnRun) (v : Nat) (s : State) :
    (endSuperCycle r v s).almanac = s.almanac ∧ (endSuperCycle r v s).fuses = s.fuses ∧
      (endSuperCycle r v s).pending = s.pending := by
  have q1 := disqualify_frame
  have q2 := learnSample_frame
  simp [q1, q2, endSuperCycle]

theorem markDq_frame (code : Nat) (s : State) :
    (markDq code s).almanac = s.almanac ∧ (markDq code s).dev = s.dev ∧ (markDq code s).stations = s.stations ∧
      (markDq code s).hst = s.hst ∧ (markDq code s).drc = s.drc ∧ (markDq code s).dram = s.dram ∧ (markDq code s).cht = s.cht ∧
      (markDq code s).sui = s.sui ∧ (markDq code s).stw = s.stw ∧ (markDq code s).sav = s.sav ∧ (markDq code s).cel = s.cel ∧
      (markDq code s).dmw = s.dmw ∧ (markDq code s).nrg = s.nrg ∧ (markDq code s).rek = s.rek ∧ (markDq code s).plk = s.plk ∧
      (markDq code s).att = s.att ∧ (markDq code s).ecc = s.ecc ∧ (markDq code s).tws = s.tws ∧ (markDq code s).twp = s.twp ∧
      (markDq code s).svc = s.svc ∧ (markDq code s).log = s.log ∧ (markDq code s).pwr = s.pwr ∧ (markDq code s).fpl = s.fpl ∧
      (markDq code s).jtag = s.jtag ∧ (markDq code s).fuses = s.fuses ∧ (markDq code s).cal = s.cal ∧
      (markDq code s).out = s.out ∧ (markDq code s).free = s.free ∧ (markDq code s).pending = s.pending := by
  simp [markDq]

theorem takeReference_frame (s : State) :
    (takeReference s).almanac = s.almanac ∧ (takeReference s).fuses = s.fuses ∧ (takeReference s).pending = s.pending := by
  have q1 := closeWindow_frame
  have q2 := endCellCycle_frame
  have q3 := wantRek_frame
  unfold takeReference; (repeat' split) <;> simp_all

theorem startCount_frame (s : State) :
    (startCount s).almanac = s.almanac ∧ (startCount s).dev = s.dev ∧ (startCount s).stations = s.stations ∧
      (startCount s).hst = s.hst ∧ (startCount s).drc = s.drc ∧ (startCount s).dram = s.dram ∧ (startCount s).cht = s.cht ∧
      (startCount s).sui = s.sui ∧ (startCount s).stw = s.stw ∧ (startCount s).sav = s.sav ∧ (startCount s).cel = s.cel ∧
      (startCount s).dmw = s.dmw ∧ (startCount s).nrg = s.nrg ∧ (startCount s).plk = s.plk ∧ (startCount s).att = s.att ∧
      (startCount s).ecc = s.ecc ∧ (startCount s).tws = s.tws ∧ (startCount s).twp = s.twp ∧ (startCount s).svc = s.svc ∧
      (startCount s).log = s.log ∧ (startCount s).pwr = s.pwr ∧ (startCount s).fpl = s.fpl ∧ (startCount s).jtag = s.jtag ∧
      (startCount s).fuses = s.fuses ∧ (startCount s).cal = s.cal ∧ (startCount s).out = s.out ∧ (startCount s).free = s.free ∧
      (startCount s).pending = s.pending := by
  have q1 := wantRek_frame
  simp [q1, startCount]

theorem firstReading_frame (s : State) :
    (firstReading s).almanac = s.almanac ∧ (firstReading s).fuses = s.fuses ∧ (firstReading s).pending = s.pending := by
  have q1 := startCount_frame
  have q2 := takeReference_frame
  unfold firstReading; (repeat' split) <;> simp_all

theorem checkDisagree_frame (s : State) :
    (checkDisagree s).almanac = s.almanac ∧ (checkDisagree s).fuses = s.fuses ∧ (checkDisagree s).cal = s.cal ∧
      (checkDisagree s).pending = s.pending := by
  have q1 := markStore_frame
  have q2 := raise_frame
  have q3 := wantRek_frame
  simp [q1, q2, q3, checkDisagree]

theorem checkMoved_frame (s : State) :
    (checkMoved s).almanac = s.almanac ∧ (checkMoved s).dev = s.dev ∧ (checkMoved s).stations = s.stations ∧
      (checkMoved s).hst = s.hst ∧ (checkMoved s).drc = s.drc ∧ (checkMoved s).dram = s.dram ∧ (checkMoved s).cht = s.cht ∧
      (checkMoved s).sui = s.sui ∧ (checkMoved s).stw = s.stw ∧ (checkMoved s).sav = s.sav ∧ (checkMoved s).cel = s.cel ∧
      (checkMoved s).dmw = s.dmw ∧ (checkMoved s).nrg = s.nrg ∧ (checkMoved s).gau = s.gau ∧ (checkMoved s).plk = s.plk ∧
      (checkMoved s).att = s.att ∧ (checkMoved s).ecc = s.ecc ∧ (checkMoved s).tws = s.tws ∧ (checkMoved s).twp = s.twp ∧
      (checkMoved s).svc = s.svc ∧ (checkMoved s).log = s.log ∧ (checkMoved s).pwr = s.pwr ∧ (checkMoved s).fpl = s.fpl ∧
      (checkMoved s).jtag = s.jtag ∧ (checkMoved s).fuses = s.fuses ∧ (checkMoved s).cal = s.cal ∧ (checkMoved s).out = s.out ∧
      (checkMoved s).free = s.free ∧ (checkMoved s).pending = s.pending := by
  have q1 := wantRek_frame
  simp [q1, checkMoved]

theorem takeResistance_frame (x : Nat) (s : State) :
    (takeResistance x s).almanac = s.almanac ∧ (takeResistance x s).fuses = s.fuses ∧
      (takeResistance x s).pending = s.pending := by
  have q1 := eolEval_frame
  have q2 := markStore_frame
  have q3 := wantRek_frame
  simp [q1, q2, q3, takeResistance]

theorem stepSample_frame (s : State) :
    (stepSample s).almanac = s.almanac ∧ (stepSample s).fuses = s.fuses ∧ (stepSample s).pending = s.pending := by
  have q1 := takeResistance_frame
  unfold stepSample; (repeat' split) <;> simp_all

theorem takeProfile_frame (serial : Option (List Byte)) (cls : Nat) (rested boot : Bool) (s : State) :
    (takeProfile serial cls rested boot s).almanac = s.almanac ∧ (takeProfile serial cls rested boot s).stations = s.stations ∧
      (takeProfile serial cls rested boot s).hst = s.hst ∧ (takeProfile serial cls rested boot s).drc = s.drc ∧
      (takeProfile serial cls rested boot s).dram = s.dram ∧ (takeProfile serial cls rested boot s).cht = s.cht ∧
      (takeProfile serial cls rested boot s).sui = s.sui ∧ (takeProfile serial cls rested boot s).stw = s.stw ∧
      (takeProfile serial cls rested boot s).sav = s.sav ∧ (takeProfile serial cls rested boot s).cel = s.cel ∧
      (takeProfile serial cls rested boot s).dmw = s.dmw ∧ (takeProfile serial cls rested boot s).plk = s.plk ∧
      (takeProfile serial cls rested boot s).att = s.att ∧ (takeProfile serial cls rested boot s).ecc = s.ecc ∧
      (takeProfile serial cls rested boot s).tws = s.tws ∧ (takeProfile serial cls rested boot s).twp = s.twp ∧
      (takeProfile serial cls rested boot s).svc = s.svc ∧ (takeProfile serial cls rested boot s).log = s.log ∧
      (takeProfile serial cls rested boot s).pwr = s.pwr ∧ (takeProfile serial cls rested boot s).fpl = s.fpl ∧
      (takeProfile serial cls rested boot s).jtag = s.jtag ∧ (takeProfile serial cls rested boot s).fuses = s.fuses ∧
      (takeProfile serial cls rested boot s).out = s.out ∧ (takeProfile serial cls rested boot s).free = s.free ∧
      (takeProfile serial cls rested boot s).pending = s.pending := by
  have q1 := clearReason_frame
  have q2 := disqualify_frame
  have q3 := wantRek_frame
  simp [q1, q2, q3, takeProfile]

theorem endAuth_frame (result entry : Nat) (s : State) :
    (endAuth result entry s).almanac = s.almanac ∧ (endAuth result entry s).fuses = s.fuses ∧
      (endAuth result entry s).cal = s.cal ∧ (endAuth result entry s).pending = s.pending := by
  have q1 := addEvent_frame
  have q2 := event_frame
  have q3 := packAlert_frame
  have q4 := raise_frame
  have q5 := wantRek_frame
  simp [q1, q2, q3, q4, q5, endAuth]

theorem pbReads_frame (l : List Nat) (s : State) :
    (pbReads l s).almanac = s.almanac ∧ (pbReads l s).dev = s.dev ∧ (pbReads l s).stations = s.stations ∧
      (pbReads l s).hst = s.hst ∧ (pbReads l s).drc = s.drc ∧ (pbReads l s).dram = s.dram ∧ (pbReads l s).cht = s.cht ∧
      (pbReads l s).sui = s.sui ∧ (pbReads l s).stw = s.stw ∧ (pbReads l s).sav = s.sav ∧ (pbReads l s).cel = s.cel ∧
      (pbReads l s).dmw = s.dmw ∧ (pbReads l s).nrg = s.nrg ∧ (pbReads l s).gau = s.gau ∧ (pbReads l s).rek = s.rek ∧
      (pbReads l s).plk = s.plk ∧ (pbReads l s).att = s.att ∧ (pbReads l s).ecc = s.ecc ∧ (pbReads l s).tws = s.tws ∧
      (pbReads l s).twp = s.twp ∧ (pbReads l s).svc = s.svc ∧ (pbReads l s).log = s.log ∧ (pbReads l s).pwr = s.pwr ∧
      (pbReads l s).fpl = s.fpl ∧ (pbReads l s).jtag = s.jtag ∧ (pbReads l s).fuses = s.fuses ∧ (pbReads l s).cal = s.cal ∧
      (pbReads l s).free = s.free ∧ (pbReads l s).pending = s.pending := by
  simp [pbReads]

theorem pbWrite_frame (c : Nat) (data : List Byte) (s : State) :
    (pbWrite c data s).almanac = s.almanac ∧ (pbWrite c data s).dev = s.dev ∧ (pbWrite c data s).stations = s.stations ∧
      (pbWrite c data s).hst = s.hst ∧ (pbWrite c data s).drc = s.drc ∧ (pbWrite c data s).dram = s.dram ∧
      (pbWrite c data s).cht = s.cht ∧ (pbWrite c data s).sui = s.sui ∧ (pbWrite c data s).stw = s.stw ∧
      (pbWrite c data s).sav = s.sav ∧ (pbWrite c data s).cel = s.cel ∧ (pbWrite c data s).dmw = s.dmw ∧
      (pbWrite c data s).nrg = s.nrg ∧ (pbWrite c data s).gau = s.gau ∧ (pbWrite c data s).rek = s.rek ∧
      (pbWrite c data s).plk = s.plk ∧ (pbWrite c data s).att = s.att ∧ (pbWrite c data s).ecc = s.ecc ∧
      (pbWrite c data s).tws = s.tws ∧ (pbWrite c data s).twp = s.twp ∧ (pbWrite c data s).svc = s.svc ∧
      (pbWrite c data s).log = s.log ∧ (pbWrite c data s).pwr = s.pwr ∧ (pbWrite c data s).fpl = s.fpl ∧
      (pbWrite c data s).jtag = s.jtag ∧ (pbWrite c data s).fuses = s.fuses ∧ (pbWrite c data s).cal = s.cal ∧
      (pbWrite c data s).free = s.free ∧ (pbWrite c data s).pending = s.pending := by
  simp [pbWrite]

theorem beginAuth_frame (r : PackReply) (s : State) :
    (beginAuth r s).almanac = s.almanac ∧ (beginAuth r s).fuses = s.fuses ∧ (beginAuth r s).cal = s.cal ∧
      (beginAuth r s).pending = s.pending := by
  have q1 := endAuth_frame
  have q2 := pbReads_frame
  have q3 := pbWrite_frame
  unfold beginAuth; (repeat' split) <;> simp_all

theorem setCharge_frame (p : ChargePhase) (s : State) :
    (setCharge p s).almanac = s.almanac ∧ (setCharge p s).dev = s.dev ∧ (setCharge p s).stations = s.stations ∧
      (setCharge p s).hst = s.hst ∧ (setCharge p s).drc = s.drc ∧ (setCharge p s).dram = s.dram ∧ (setCharge p s).cht = s.cht ∧
      (setCharge p s).sui = s.sui ∧ (setCharge p s).stw = s.stw ∧ (setCharge p s).sav = s.sav ∧ (setCharge p s).cel = s.cel ∧
      (setCharge p s).dmw = s.dmw ∧ (setCharge p s).rek = s.rek ∧ (setCharge p s).plk = s.plk ∧ (setCharge p s).att = s.att ∧
      (setCharge p s).ecc = s.ecc ∧ (setCharge p s).tws = s.tws ∧ (setCharge p s).twp = s.twp ∧ (setCharge p s).svc = s.svc ∧
      (setCharge p s).log = s.log ∧ (setCharge p s).pwr = s.pwr ∧ (setCharge p s).fpl = s.fpl ∧ (setCharge p s).jtag = s.jtag ∧
      (setCharge p s).fuses = s.fuses ∧ (setCharge p s).cal = s.cal ∧ (setCharge p s).out = s.out ∧
      (setCharge p s).free = s.free ∧ (setCharge p s).pending = s.pending := by
  have q1 := markStep_frame
  simp [q1, setCharge]

theorem chargePause_frame (s : State) :
    (chargePause s).almanac = s.almanac ∧ (chargePause s).dev = s.dev ∧ (chargePause s).stations = s.stations ∧
      (chargePause s).hst = s.hst ∧ (chargePause s).drc = s.drc ∧ (chargePause s).dram = s.dram ∧ (chargePause s).cht = s.cht ∧
      (chargePause s).sui = s.sui ∧ (chargePause s).stw = s.stw ∧ (chargePause s).sav = s.sav ∧ (chargePause s).cel = s.cel ∧
      (chargePause s).dmw = s.dmw ∧ (chargePause s).gau = s.gau ∧ (chargePause s).rek = s.rek ∧ (chargePause s).plk = s.plk ∧
      (chargePause s).att = s.att ∧ (chargePause s).ecc = s.ecc ∧ (chargePause s).tws = s.tws ∧ (chargePause s).twp = s.twp ∧
      (chargePause s).svc = s.svc ∧ (chargePause s).log = s.log ∧ (chargePause s).pwr = s.pwr ∧ (chargePause s).fpl = s.fpl ∧
      (chargePause s).jtag = s.jtag ∧ (chargePause s).fuses = s.fuses ∧ (chargePause s).cal = s.cal ∧
      (chargePause s).out = s.out ∧ (chargePause s).free = s.free ∧ (chargePause s).pending = s.pending := by
  simp [chargePause]

theorem chargeStep_frame (s : State) :
    (chargeStep s).almanac = s.almanac ∧ (chargeStep s).fuses = s.fuses ∧ (chargeStep s).cal = s.cal ∧
      (chargeStep s).pending = s.pending := by
  have q1 := chargePause_frame
  have q2 := raise_frame
  have q3 := setCharge_frame
  simp [q1, q2, q3, chargeStep]

theorem startExercise_frame (s : State) :
    (startExercise s).almanac = s.almanac ∧ (startExercise s).dev = s.dev ∧ (startExercise s).stations = s.stations ∧
      (startExercise s).hst = s.hst ∧ (startExercise s).drc = s.drc ∧ (startExercise s).dram = s.dram ∧
      (startExercise s).cht = s.cht ∧ (startExercise s).sui = s.sui ∧ (startExercise s).stw = s.stw ∧
      (startExercise s).sav = s.sav ∧ (startExercise s).cel = s.cel ∧ (startExercise s).dmw = s.dmw ∧
      (startExercise s).plk = s.plk ∧ (startExercise s).att = s.att ∧ (startExercise s).ecc = s.ecc ∧
      (startExercise s).tws = s.tws ∧ (startExercise s).twp = s.twp ∧ (startExercise s).svc = s.svc ∧
      (startExercise s).log = s.log ∧ (startExercise s).pwr = s.pwr ∧ (startExercise s).fpl = s.fpl ∧
      (startExercise s).jtag = s.jtag ∧ (startExercise s).fuses = s.fuses ∧ (startExercise s).cal = s.cal ∧
      (startExercise s).out = s.out ∧ (startExercise s).free = s.free ∧ (startExercise s).pending = s.pending := by
  have q1 := markStep_frame
  have q2 := setCharge_frame
  have q3 := wantRek_frame
  simp [q1, q2, q3, startExercise]

theorem tryExercise_frame (s : State) :
    (tryExercise s).almanac = s.almanac ∧ (tryExercise s).dev = s.dev ∧ (tryExercise s).stations = s.stations ∧
      (tryExercise s).hst = s.hst ∧ (tryExercise s).drc = s.drc ∧ (tryExercise s).dram = s.dram ∧ (tryExercise s).cht = s.cht ∧
      (tryExercise s).sui = s.sui ∧ (tryExercise s).stw = s.stw ∧ (tryExercise s).sav = s.sav ∧ (tryExercise s).cel = s.cel ∧
      (tryExercise s).dmw = s.dmw ∧ (tryExercise s).plk = s.plk ∧ (tryExercise s).att = s.att ∧ (tryExercise s).ecc = s.ecc ∧
      (tryExercise s).tws = s.tws ∧ (tryExercise s).twp = s.twp ∧ (tryExercise s).svc = s.svc ∧ (tryExercise s).log = s.log ∧
      (tryExercise s).pwr = s.pwr ∧ (tryExercise s).fpl = s.fpl ∧ (tryExercise s).jtag = s.jtag ∧
      (tryExercise s).fuses = s.fuses ∧ (tryExercise s).cal = s.cal ∧ (tryExercise s).out = s.out ∧
      (tryExercise s).free = s.free ∧ (tryExercise s).pending = s.pending := by
  have q1 := startExercise_frame
  simp [q1, tryExercise]

theorem fireExercise_frame (due : Nat) (s : State) :
    (fireExercise due s).almanac = s.almanac ∧ (fireExercise due s).dev = s.dev ∧ (fireExercise due s).stations = s.stations ∧
      (fireExercise due s).hst = s.hst ∧ (fireExercise due s).drc = s.drc ∧ (fireExercise due s).dram = s.dram ∧
      (fireExercise due s).cht = s.cht ∧ (fireExercise due s).sui = s.sui ∧ (fireExercise due s).stw = s.stw ∧
      (fireExercise due s).sav = s.sav ∧ (fireExercise due s).cel = s.cel ∧ (fireExercise due s).dmw = s.dmw ∧
      (fireExercise due s).plk = s.plk ∧ (fireExercise due s).att = s.att ∧ (fireExercise due s).ecc = s.ecc ∧
      (fireExercise due s).tws = s.tws ∧ (fireExercise due s).twp = s.twp ∧ (fireExercise due s).svc = s.svc ∧
      (fireExercise due s).log = s.log ∧ (fireExercise due s).pwr = s.pwr ∧ (fireExercise due s).fpl = s.fpl ∧
      (fireExercise due s).jtag = s.jtag ∧ (fireExercise due s).fuses = s.fuses ∧ (fireExercise due s).cal = s.cal ∧
      (fireExercise due s).out = s.out ∧ (fireExercise due s).free = s.free ∧ (fireExercise due s).pending = s.pending := by
  have q1 := tryExercise_frame
  simp [q1, fireExercise]

theorem thermFault_frame (ohms : Nat) (s : State) :
    (thermFault ohms s).almanac = s.almanac ∧ (thermFault ohms s).fuses = s.fuses ∧ (thermFault ohms s).cal = s.cal ∧
      (thermFault ohms s).pending = s.pending := by
  have q1 := raiseAddr_frame
  simp [q1, thermFault]

theorem takeReadings_frame (packId : PackIdReading) (th0 th1 : Therm) (s : State) :
    (takeReadings packId th0 th1 s).almanac = s.almanac ∧ (takeReadings packId th0 th1 s).dev = s.dev ∧
      (takeReadings packId th0 th1 s).stations = s.stations ∧ (takeReadings packId th0 th1 s).hst = s.hst ∧
      (takeReadings packId th0 th1 s).drc = s.drc ∧ (takeReadings packId th0 th1 s).dram = s.dram ∧
      (takeReadings packId th0 th1 s).cht = s.cht ∧ (takeReadings packId th0 th1 s).sui = s.sui ∧
      (takeReadings packId th0 th1 s).stw = s.stw ∧ (takeReadings packId th0 th1 s).sav = s.sav ∧
      (takeReadings packId th0 th1 s).cel = s.cel ∧ (takeReadings packId th0 th1 s).dmw = s.dmw ∧
      (takeReadings packId th0 th1 s).gau = s.gau ∧ (takeReadings packId th0 th1 s).rek = s.rek ∧
      (takeReadings packId th0 th1 s).plk = s.plk ∧ (takeReadings packId th0 th1 s).att = s.att ∧
      (takeReadings packId th0 th1 s).ecc = s.ecc ∧ (takeReadings packId th0 th1 s).twp = s.twp ∧
      (takeReadings packId th0 th1 s).svc = s.svc ∧ (takeReadings packId th0 th1 s).log = s.log ∧
      (takeReadings packId th0 th1 s).pwr = s.pwr ∧ (takeReadings packId th0 th1 s).fpl = s.fpl ∧
      (takeReadings packId th0 th1 s).jtag = s.jtag ∧ (takeReadings packId th0 th1 s).fuses = s.fuses ∧
      (takeReadings packId th0 th1 s).cal = s.cal ∧ (takeReadings packId th0 th1 s).out = s.out ∧
      (takeReadings packId th0 th1 s).free = s.free ∧ (takeReadings packId th0 th1 s).pending = s.pending := by
  have q1 := packAlert_frame
  simp [q1, takeReadings]

theorem execPackAuthPoll_frame (status : Option Nat) (pubkey resp : List Byte) (s : State) :
    (resAfter (execPackAuthPoll status pubkey resp s) s).fuses = s.fuses ∧
      (resAfter (execPackAuthPoll status pubkey resp s) s).cal = s.cal ∧
      (resAfter (execPackAuthPoll status pubkey resp s) s).pending = s.pending := by
  have q1 := advanceTo_frame
  have q2 := endAuth_frame
  have q3 := pbReads_frame
  simp only [execPackAuthPoll]; (repeat' split) <;> simp [q1, q2, q3]

theorem execPackAuthRetry_frame (reply : PackReply) (s : State) :
    (resAfter (execPackAuthRetry reply s) s).fuses = s.fuses ∧ (resAfter (execPackAuthRetry reply s) s).cal = s.cal ∧
      (resAfter (execPackAuthRetry reply s) s).pending = s.pending := by
  have q1 := advanceTo_frame
  have q2 := beginAuth_frame
  unfold execPackAuthRetry; (repeat' split) <;> simp_all

theorem countCharge_frame (dt : Nat) (s : State) :
    (countCharge dt s).almanac = s.almanac ∧ (countCharge dt s).dev = s.dev ∧ (countCharge dt s).stations = s.stations ∧
      (countCharge dt s).hst = s.hst ∧ (countCharge dt s).drc = s.drc ∧ (countCharge dt s).dram = s.dram ∧
      (countCharge dt s).cht = s.cht ∧ (countCharge dt s).sui = s.sui ∧ (countCharge dt s).stw = s.stw ∧
      (countCharge dt s).sav = s.sav ∧ (countCharge dt s).cel = s.cel ∧ (countCharge dt s).dmw = s.dmw ∧
      (countCharge dt s).rek = s.rek ∧ (countCharge dt s).plk = s.plk ∧ (countCharge dt s).att = s.att ∧
      (countCharge dt s).ecc = s.ecc ∧ (countCharge dt s).tws = s.tws ∧ (countCharge dt s).twp = s.twp ∧
      (countCharge dt s).svc = s.svc ∧ (countCharge dt s).log = s.log ∧ (countCharge dt s).pwr = s.pwr ∧
      (countCharge dt s).fpl = s.fpl ∧ (countCharge dt s).jtag = s.jtag ∧ (countCharge dt s).fuses = s.fuses ∧
      (countCharge dt s).cal = s.cal ∧ (countCharge dt s).out = s.out ∧ (countCharge dt s).free = s.free ∧
      (countCharge dt s).pending = s.pending := by
  simp [countCharge]

theorem watchRest_frame (s : State) :
    (watchRest s).almanac = s.almanac ∧ (watchRest s).dev = s.dev ∧ (watchRest s).stations = s.stations ∧
      (watchRest s).hst = s.hst ∧ (watchRest s).drc = s.drc ∧ (watchRest s).dram = s.dram ∧ (watchRest s).cht = s.cht ∧
      (watchRest s).sui = s.sui ∧ (watchRest s).stw = s.stw ∧ (watchRest s).sav = s.sav ∧ (watchRest s).cel = s.cel ∧
      (watchRest s).dmw = s.dmw ∧ (watchRest s).nrg = s.nrg ∧ (watchRest s).rek = s.rek ∧ (watchRest s).plk = s.plk ∧
      (watchRest s).att = s.att ∧ (watchRest s).ecc = s.ecc ∧ (watchRest s).tws = s.tws ∧ (watchRest s).twp = s.twp ∧
      (watchRest s).svc = s.svc ∧ (watchRest s).log = s.log ∧ (watchRest s).pwr = s.pwr ∧ (watchRest s).fpl = s.fpl ∧
      (watchRest s).jtag = s.jtag ∧ (watchRest s).fuses = s.fuses ∧ (watchRest s).cal = s.cal ∧ (watchRest s).out = s.out ∧
      (watchRest s).free = s.free ∧ (watchRest s).pending = s.pending := by
  simp [watchRest]

theorem superCycle_frame (before : Nat) (s : State) :
    (superCycle before s).almanac = s.almanac ∧ (superCycle before s).fuses = s.fuses ∧
      (superCycle before s).pending = s.pending := by
  have q1 := endSuperCycle_frame
  unfold superCycle; (repeat' split) <;> simp_all

theorem endPulse_frame (s : State) :
    (endPulse s).almanac = s.almanac ∧ (endPulse s).dev = s.dev ∧ (endPulse s).stations = s.stations ∧
      (endPulse s).hst = s.hst ∧ (endPulse s).drc = s.drc ∧ (endPulse s).dram = s.dram ∧ (endPulse s).cht = s.cht ∧
      (endPulse s).sui = s.sui ∧ (endPulse s).stw = s.stw ∧ (endPulse s).sav = s.sav ∧ (endPulse s).cel = s.cel ∧
      (endPulse s).dmw = s.dmw ∧ (endPulse s).nrg = s.nrg ∧ (endPulse s).rek = s.rek ∧ (endPulse s).plk = s.plk ∧
      (endPulse s).att = s.att ∧ (endPulse s).ecc = s.ecc ∧ (endPulse s).tws = s.tws ∧ (endPulse s).twp = s.twp ∧
      (endPulse s).svc = s.svc ∧ (endPulse s).log = s.log ∧ (endPulse s).pwr = s.pwr ∧ (endPulse s).fpl = s.fpl ∧
      (endPulse s).jtag = s.jtag ∧ (endPulse s).fuses = s.fuses ∧ (endPulse s).cal = s.cal ∧ (endPulse s).out = s.out ∧
      (endPulse s).free = s.free ∧ (endPulse s).pending = s.pending := by
  unfold endPulse; (repeat' split) <;> simp_all

theorem execPrechargeTimeout_frame (s : State) :
    (resAfter (execPrechargeTimeout s) s).fuses = s.fuses ∧ (resAfter (execPrechargeTimeout s) s).cal = s.cal ∧
      (resAfter (execPrechargeTimeout s) s).pending = s.pending := by
  have q1 := advanceTo_frame
  have q2 := raise_frame
  have q3 := setCharge_frame
  unfold execPrechargeTimeout; (repeat' split) <;> simp_all

theorem execExerciseDue_frame (s : State) :
    (resAfter (execExerciseDue s) s).dev = s.dev ∧ (resAfter (execExerciseDue s) s).stations = s.stations ∧
      (resAfter (execExerciseDue s) s).hst = s.hst ∧ (resAfter (execExerciseDue s) s).drc = s.drc ∧
      (resAfter (execExerciseDue s) s).dram = s.dram ∧ (resAfter (execExerciseDue s) s).cht = s.cht ∧
      (resAfter (execExerciseDue s) s).sui = s.sui ∧ (resAfter (execExerciseDue s) s).stw = s.stw ∧
      (resAfter (execExerciseDue s) s).sav = s.sav ∧ (resAfter (execExerciseDue s) s).cel = s.cel ∧
      (resAfter (execExerciseDue s) s).dmw = s.dmw ∧ (resAfter (execExerciseDue s) s).plk = s.plk ∧
      (resAfter (execExerciseDue s) s).att = s.att ∧ (resAfter (execExerciseDue s) s).ecc = s.ecc ∧
      (resAfter (execExerciseDue s) s).tws = s.tws ∧ (resAfter (execExerciseDue s) s).twp = s.twp ∧
      (resAfter (execExerciseDue s) s).pwr = s.pwr ∧ (resAfter (execExerciseDue s) s).fpl = s.fpl ∧
      (resAfter (execExerciseDue s) s).jtag = s.jtag ∧ (resAfter (execExerciseDue s) s).fuses = s.fuses ∧
      (resAfter (execExerciseDue s) s).cal = s.cal ∧ (resAfter (execExerciseDue s) s).out = s.out ∧
      (resAfter (execExerciseDue s) s).free = s.free ∧ (resAfter (execExerciseDue s) s).pending = s.pending ∧
      (resAfter (execExerciseDue s) s).log.aonPowered = s.log.aonPowered := by
  have q1 := advanceTo_frame
  have q2 := fireExercise_frame
  unfold execExerciseDue; (repeat' split) <;> simp_all

theorem execExerciseRetry_frame (s : State) :
    (resAfter (execExerciseRetry s) s).dev = s.dev ∧ (resAfter (execExerciseRetry s) s).stations = s.stations ∧
      (resAfter (execExerciseRetry s) s).hst = s.hst ∧ (resAfter (execExerciseRetry s) s).drc = s.drc ∧
      (resAfter (execExerciseRetry s) s).dram = s.dram ∧ (resAfter (execExerciseRetry s) s).cht = s.cht ∧
      (resAfter (execExerciseRetry s) s).sui = s.sui ∧ (resAfter (execExerciseRetry s) s).stw = s.stw ∧
      (resAfter (execExerciseRetry s) s).sav = s.sav ∧ (resAfter (execExerciseRetry s) s).cel = s.cel ∧
      (resAfter (execExerciseRetry s) s).dmw = s.dmw ∧ (resAfter (execExerciseRetry s) s).plk = s.plk ∧
      (resAfter (execExerciseRetry s) s).att = s.att ∧ (resAfter (execExerciseRetry s) s).ecc = s.ecc ∧
      (resAfter (execExerciseRetry s) s).tws = s.tws ∧ (resAfter (execExerciseRetry s) s).twp = s.twp ∧
      (resAfter (execExerciseRetry s) s).pwr = s.pwr ∧ (resAfter (execExerciseRetry s) s).fpl = s.fpl ∧
      (resAfter (execExerciseRetry s) s).jtag = s.jtag ∧ (resAfter (execExerciseRetry s) s).fuses = s.fuses ∧
      (resAfter (execExerciseRetry s) s).cal = s.cal ∧ (resAfter (execExerciseRetry s) s).out = s.out ∧
      (resAfter (execExerciseRetry s) s).free = s.free ∧ (resAfter (execExerciseRetry s) s).pending = s.pending ∧
      (resAfter (execExerciseRetry s) s).log.aonPowered = s.log.aonPowered := by
  have q1 := advanceTo_frame
  have q2 := tryExercise_frame
  unfold execExerciseRetry; (repeat' split) <;> simp_all

theorem exerciseStart_frame (s : State) :
    (exerciseStart s).almanac = s.almanac ∧ (exerciseStart s).dev = s.dev ∧ (exerciseStart s).stations = s.stations ∧
      (exerciseStart s).hst = s.hst ∧ (exerciseStart s).drc = s.drc ∧ (exerciseStart s).dram = s.dram ∧
      (exerciseStart s).cht = s.cht ∧ (exerciseStart s).sui = s.sui ∧ (exerciseStart s).stw = s.stw ∧
      (exerciseStart s).sav = s.sav ∧ (exerciseStart s).cel = s.cel ∧ (exerciseStart s).dmw = s.dmw ∧
      (exerciseStart s).plk = s.plk ∧ (exerciseStart s).att = s.att ∧ (exerciseStart s).ecc = s.ecc ∧
      (exerciseStart s).tws = s.tws ∧ (exerciseStart s).twp = s.twp ∧ (exerciseStart s).svc = s.svc ∧
      (exerciseStart s).log = s.log ∧ (exerciseStart s).pwr = s.pwr ∧ (exerciseStart s).fpl = s.fpl ∧
      (exerciseStart s).jtag = s.jtag ∧ (exerciseStart s).fuses = s.fuses ∧ (exerciseStart s).cal = s.cal ∧
      (exerciseStart s).out = s.out ∧ (exerciseStart s).free = s.free ∧ (exerciseStart s).pending = s.pending := by
  have q1 := startExercise_frame
  simp [q1, exerciseStart]

theorem execExerciseStart_frame (s : State) :
    (resAfter (execExerciseStart s) s).almanac = s.almanac ∧ (resAfter (execExerciseStart s) s).dev = s.dev ∧
      (resAfter (execExerciseStart s) s).stations = s.stations ∧ (resAfter (execExerciseStart s) s).hst = s.hst ∧
      (resAfter (execExerciseStart s) s).drc = s.drc ∧ (resAfter (execExerciseStart s) s).dram = s.dram ∧
      (resAfter (execExerciseStart s) s).cht = s.cht ∧ (resAfter (execExerciseStart s) s).sui = s.sui ∧
      (resAfter (execExerciseStart s) s).stw = s.stw ∧ (resAfter (execExerciseStart s) s).sav = s.sav ∧
      (resAfter (execExerciseStart s) s).cel = s.cel ∧ (resAfter (execExerciseStart s) s).dmw = s.dmw ∧
      (resAfter (execExerciseStart s) s).plk = s.plk ∧ (resAfter (execExerciseStart s) s).att = s.att ∧
      (resAfter (execExerciseStart s) s).ecc = s.ecc ∧ (resAfter (execExerciseStart s) s).tws = s.tws ∧
      (resAfter (execExerciseStart s) s).twp = s.twp ∧ (resAfter (execExerciseStart s) s).svc = s.svc ∧
      (resAfter (execExerciseStart s) s).log = s.log ∧ (resAfter (execExerciseStart s) s).pwr = s.pwr ∧
      (resAfter (execExerciseStart s) s).fpl = s.fpl ∧ (resAfter (execExerciseStart s) s).jtag = s.jtag ∧
      (resAfter (execExerciseStart s) s).fuses = s.fuses ∧ (resAfter (execExerciseStart s) s).cal = s.cal ∧
      (resAfter (execExerciseStart s) s).out = s.out ∧ (resAfter (execExerciseStart s) s).free = s.free ∧
      (resAfter (execExerciseStart s) s).pending = s.pending := by
  have q1 := exerciseStart_frame
  simp [q1, execExerciseStart]

theorem execGraceExpire_frame (block : Block) (cls : Nat) (s : State) :
    (resAfter (execGraceExpire block cls s) s).fuses = s.fuses ∧ (resAfter (execGraceExpire block cls s) s).cal = s.cal ∧
      (resAfter (execGraceExpire block cls s) s).pending = s.pending := by
  have q1 := advanceTo_frame
  have q2 := escalate_frame
  have q3 := modStation_frame
  unfold execGraceExpire; (repeat' split) <;> simp_all

theorem execQuietExpire_frame (block : Block) (cls : Nat) (s : State) :
    (resAfter (execQuietExpire block cls s) s).dev = s.dev ∧ (resAfter (execQuietExpire block cls s) s).hst = s.hst ∧
      (resAfter (execQuietExpire block cls s) s).drc = s.drc ∧ (resAfter (execQuietExpire block cls s) s).dram = s.dram ∧
      (resAfter (execQuietExpire block cls s) s).cht = s.cht ∧ (resAfter (execQuietExpire block cls s) s).sui = s.sui ∧
      (resAfter (execQuietExpire block cls s) s).stw = s.stw ∧ (resAfter (execQuietExpire block cls s) s).sav = s.sav ∧
      (resAfter (execQuietExpire block cls s) s).cel = s.cel ∧ (resAfter (execQuietExpire block cls s) s).dmw = s.dmw ∧
      (resAfter (execQuietExpire block cls s) s).nrg = s.nrg ∧ (resAfter (execQuietExpire block cls s) s).gau = s.gau ∧
      (resAfter (execQuietExpire block cls s) s).rek = s.rek ∧ (resAfter (execQuietExpire block cls s) s).plk = s.plk ∧
      (resAfter (execQuietExpire block cls s) s).att = s.att ∧ (resAfter (execQuietExpire block cls s) s).ecc = s.ecc ∧
      (resAfter (execQuietExpire block cls s) s).tws = s.tws ∧ (resAfter (execQuietExpire block cls s) s).twp = s.twp ∧
      (resAfter (execQuietExpire block cls s) s).pwr = s.pwr ∧ (resAfter (execQuietExpire block cls s) s).fpl = s.fpl ∧
      (resAfter (execQuietExpire block cls s) s).jtag = s.jtag ∧ (resAfter (execQuietExpire block cls s) s).fuses = s.fuses ∧
      (resAfter (execQuietExpire block cls s) s).cal = s.cal ∧ (resAfter (execQuietExpire block cls s) s).out = s.out ∧
      (resAfter (execQuietExpire block cls s) s).free = s.free ∧
      (resAfter (execQuietExpire block cls s) s).pending = s.pending ∧
      (resAfter (execQuietExpire block cls s) s).log.aonPowered = s.log.aonPowered := by
  have q1 := advanceTo_frame
  have q2 := modStation_frame
  unfold execQuietExpire; (repeat' split) <;> simp_all

theorem fackWrite_frame (block : Block) (value : Word) (s : State) :
    (fackWrite block value s).almanac = s.almanac ∧ (fackWrite block value s).dev = s.dev ∧
      (fackWrite block value s).hst = s.hst ∧ (fackWrite block value s).drc = s.drc ∧ (fackWrite block value s).dram = s.dram ∧
      (fackWrite block value s).cht = s.cht ∧ (fackWrite block value s).sui = s.sui ∧ (fackWrite block value s).stw = s.stw ∧
      (fackWrite block value s).sav = s.sav ∧ (fackWrite block value s).cel = s.cel ∧ (fackWrite block value s).dmw = s.dmw ∧
      (fackWrite block value s).nrg = s.nrg ∧ (fackWrite block value s).gau = s.gau ∧ (fackWrite block value s).rek = s.rek ∧
      (fackWrite block value s).plk = s.plk ∧ (fackWrite block value s).att = s.att ∧ (fackWrite block value s).ecc = s.ecc ∧
      (fackWrite block value s).tws = s.tws ∧ (fackWrite block value s).twp = s.twp ∧ (fackWrite block value s).svc = s.svc ∧
      (fackWrite block value s).log = s.log ∧ (fackWrite block value s).pwr = s.pwr ∧ (fackWrite block value s).fpl = s.fpl ∧
      (fackWrite block value s).jtag = s.jtag ∧ (fackWrite block value s).fuses = s.fuses ∧
      (fackWrite block value s).cal = s.cal ∧ (fackWrite block value s).out = s.out ∧ (fackWrite block value s).free = s.free ∧
      (fackWrite block value s).pending = s.pending := by
  have q1 := modStation_frame
  simp [q1, fackWrite]

theorem execFackWrite_frame (block : Block) (value : Word) (s : State) :
    (resAfter (execFackWrite block value s) s).almanac = s.almanac ∧ (resAfter (execFackWrite block value s) s).dev = s.dev ∧
      (resAfter (execFackWrite block value s) s).hst = s.hst ∧ (resAfter (execFackWrite block value s) s).drc = s.drc ∧
      (resAfter (execFackWrite block value s) s).dram = s.dram ∧ (resAfter (execFackWrite block value s) s).cht = s.cht ∧
      (resAfter (execFackWrite block value s) s).sui = s.sui ∧ (resAfter (execFackWrite block value s) s).stw = s.stw ∧
      (resAfter (execFackWrite block value s) s).sav = s.sav ∧ (resAfter (execFackWrite block value s) s).cel = s.cel ∧
      (resAfter (execFackWrite block value s) s).dmw = s.dmw ∧ (resAfter (execFackWrite block value s) s).nrg = s.nrg ∧
      (resAfter (execFackWrite block value s) s).gau = s.gau ∧ (resAfter (execFackWrite block value s) s).rek = s.rek ∧
      (resAfter (execFackWrite block value s) s).plk = s.plk ∧ (resAfter (execFackWrite block value s) s).att = s.att ∧
      (resAfter (execFackWrite block value s) s).ecc = s.ecc ∧ (resAfter (execFackWrite block value s) s).tws = s.tws ∧
      (resAfter (execFackWrite block value s) s).twp = s.twp ∧ (resAfter (execFackWrite block value s) s).svc = s.svc ∧
      (resAfter (execFackWrite block value s) s).log = s.log ∧ (resAfter (execFackWrite block value s) s).pwr = s.pwr ∧
      (resAfter (execFackWrite block value s) s).fpl = s.fpl ∧ (resAfter (execFackWrite block value s) s).jtag = s.jtag ∧
      (resAfter (execFackWrite block value s) s).fuses = s.fuses ∧ (resAfter (execFackWrite block value s) s).cal = s.cal ∧
      (resAfter (execFackWrite block value s) s).out = s.out ∧ (resAfter (execFackWrite block value s) s).free = s.free ∧
      (resAfter (execFackWrite block value s) s).pending = s.pending := by
  have q1 := fackWrite_frame
  simp [q1, execFackWrite]

theorem execQuarantineEnd_frame (block : Block) (s : State) :
    (resAfter (execQuarantineEnd block s) s).dev = s.dev ∧ (resAfter (execQuarantineEnd block s) s).hst = s.hst ∧
      (resAfter (execQuarantineEnd block s) s).drc = s.drc ∧ (resAfter (execQuarantineEnd block s) s).dram = s.dram ∧
      (resAfter (execQuarantineEnd block s) s).cht = s.cht ∧ (resAfter (execQuarantineEnd block s) s).sui = s.sui ∧
      (resAfter (execQuarantineEnd block s) s).stw = s.stw ∧ (resAfter (execQuarantineEnd block s) s).sav = s.sav ∧
      (resAfter (execQuarantineEnd block s) s).cel = s.cel ∧ (resAfter (execQuarantineEnd block s) s).dmw = s.dmw ∧
      (resAfter (execQuarantineEnd block s) s).nrg = s.nrg ∧ (resAfter (execQuarantineEnd block s) s).gau = s.gau ∧
      (resAfter (execQuarantineEnd block s) s).rek = s.rek ∧ (resAfter (execQuarantineEnd block s) s).plk = s.plk ∧
      (resAfter (execQuarantineEnd block s) s).att = s.att ∧ (resAfter (execQuarantineEnd block s) s).ecc = s.ecc ∧
      (resAfter (execQuarantineEnd block s) s).tws = s.tws ∧ (resAfter (execQuarantineEnd block s) s).twp = s.twp ∧
      (resAfter (execQuarantineEnd block s) s).pwr = s.pwr ∧ (resAfter (execQuarantineEnd block s) s).fpl = s.fpl ∧
      (resAfter (execQuarantineEnd block s) s).jtag = s.jtag ∧ (resAfter (execQuarantineEnd block s) s).fuses = s.fuses ∧
      (resAfter (execQuarantineEnd block s) s).cal = s.cal ∧ (resAfter (execQuarantineEnd block s) s).out = s.out ∧
      (resAfter (execQuarantineEnd block s) s).free = s.free ∧ (resAfter (execQuarantineEnd block s) s).pending = s.pending ∧
      (resAfter (execQuarantineEnd block s) s).log.aonPowered = s.log.aonPowered := by
  have q1 := advanceTo_frame
  have q2 := modStation_frame
  unfold execQuarantineEnd; (repeat' split) <;> simp_all

theorem startPulse_frame (s : State) :
    (startPulse s).almanac = s.almanac ∧ (startPulse s).dev = s.dev ∧ (startPulse s).stations = s.stations ∧
      (startPulse s).hst = s.hst ∧ (startPulse s).drc = s.drc ∧ (startPulse s).dram = s.dram ∧ (startPulse s).cht = s.cht ∧
      (startPulse s).sui = s.sui ∧ (startPulse s).stw = s.stw ∧ (startPulse s).sav = s.sav ∧ (startPulse s).cel = s.cel ∧
      (startPulse s).dmw = s.dmw ∧ (startPulse s).nrg = s.nrg ∧ (startPulse s).rek = s.rek ∧ (startPulse s).plk = s.plk ∧
      (startPulse s).att = s.att ∧ (startPulse s).ecc = s.ecc ∧ (startPulse s).tws = s.tws ∧ (startPulse s).twp = s.twp ∧
      (startPulse s).svc = s.svc ∧ (startPulse s).log = s.log ∧ (startPulse s).pwr = s.pwr ∧ (startPulse s).fpl = s.fpl ∧
      (startPulse s).jtag = s.jtag ∧ (startPulse s).fuses = s.fuses ∧ (startPulse s).cal = s.cal ∧ (startPulse s).out = s.out ∧
      (startPulse s).free = s.free ∧ (startPulse s).pending = s.pending := by
  have q1 := markStep_frame
  simp [q1, startPulse]

theorem execResistancePulse_frame (s : State) :
    (resAfter (execResistancePulse s) s).dev = s.dev ∧ (resAfter (execResistancePulse s) s).stations = s.stations ∧
      (resAfter (execResistancePulse s) s).hst = s.hst ∧ (resAfter (execResistancePulse s) s).drc = s.drc ∧
      (resAfter (execResistancePulse s) s).dram = s.dram ∧ (resAfter (execResistancePulse s) s).cht = s.cht ∧
      (resAfter (execResistancePulse s) s).sui = s.sui ∧ (resAfter (execResistancePulse s) s).stw = s.stw ∧
      (resAfter (execResistancePulse s) s).sav = s.sav ∧ (resAfter (execResistancePulse s) s).cel = s.cel ∧
      (resAfter (execResistancePulse s) s).dmw = s.dmw ∧ (resAfter (execResistancePulse s) s).nrg = s.nrg ∧
      (resAfter (execResistancePulse s) s).rek = s.rek ∧ (resAfter (execResistancePulse s) s).plk = s.plk ∧
      (resAfter (execResistancePulse s) s).att = s.att ∧ (resAfter (execResistancePulse s) s).ecc = s.ecc ∧
      (resAfter (execResistancePulse s) s).tws = s.tws ∧ (resAfter (execResistancePulse s) s).twp = s.twp ∧
      (resAfter (execResistancePulse s) s).pwr = s.pwr ∧ (resAfter (execResistancePulse s) s).fpl = s.fpl ∧
      (resAfter (execResistancePulse s) s).jtag = s.jtag ∧ (resAfter (execResistancePulse s) s).fuses = s.fuses ∧
      (resAfter (execResistancePulse s) s).cal = s.cal ∧ (resAfter (execResistancePulse s) s).out = s.out ∧
      (resAfter (execResistancePulse s) s).free = s.free ∧ (resAfter (execResistancePulse s) s).pending = s.pending ∧
      (resAfter (execResistancePulse s) s).log.aonPowered = s.log.aonPowered := by
  have q1 := advanceTo_frame
  have q2 := startPulse_frame
  simp only [execResistancePulse]; (repeat' split) <;> simp [q1, q2]

theorem pulseNow_frame (s : State) :
    (pulseNow s).almanac = s.almanac ∧ (pulseNow s).dev = s.dev ∧ (pulseNow s).stations = s.stations ∧
      (pulseNow s).hst = s.hst ∧ (pulseNow s).drc = s.drc ∧ (pulseNow s).dram = s.dram ∧ (pulseNow s).cht = s.cht ∧
      (pulseNow s).sui = s.sui ∧ (pulseNow s).stw = s.stw ∧ (pulseNow s).sav = s.sav ∧ (pulseNow s).cel = s.cel ∧
      (pulseNow s).dmw = s.dmw ∧ (pulseNow s).nrg = s.nrg ∧ (pulseNow s).rek = s.rek ∧ (pulseNow s).plk = s.plk ∧
      (pulseNow s).att = s.att ∧ (pulseNow s).ecc = s.ecc ∧ (pulseNow s).tws = s.tws ∧ (pulseNow s).twp = s.twp ∧
      (pulseNow s).svc = s.svc ∧ (pulseNow s).log = s.log ∧ (pulseNow s).pwr = s.pwr ∧ (pulseNow s).fpl = s.fpl ∧
      (pulseNow s).jtag = s.jtag ∧ (pulseNow s).fuses = s.fuses ∧ (pulseNow s).cal = s.cal ∧ (pulseNow s).out = s.out ∧
      (pulseNow s).free = s.free ∧ (pulseNow s).pending = s.pending := by
  have q1 := startPulse_frame
  simp [q1, pulseNow]

theorem execPulseNow_frame (s : State) :
    (resAfter (execPulseNow s) s).almanac = s.almanac ∧ (resAfter (execPulseNow s) s).dev = s.dev ∧
      (resAfter (execPulseNow s) s).stations = s.stations ∧ (resAfter (execPulseNow s) s).hst = s.hst ∧
      (resAfter (execPulseNow s) s).drc = s.drc ∧ (resAfter (execPulseNow s) s).dram = s.dram ∧
      (resAfter (execPulseNow s) s).cht = s.cht ∧ (resAfter (execPulseNow s) s).sui = s.sui ∧
      (resAfter (execPulseNow s) s).stw = s.stw ∧ (resAfter (execPulseNow s) s).sav = s.sav ∧
      (resAfter (execPulseNow s) s).cel = s.cel ∧ (resAfter (execPulseNow s) s).dmw = s.dmw ∧
      (resAfter (execPulseNow s) s).nrg = s.nrg ∧ (resAfter (execPulseNow s) s).rek = s.rek ∧
      (resAfter (execPulseNow s) s).plk = s.plk ∧ (resAfter (execPulseNow s) s).att = s.att ∧
      (resAfter (execPulseNow s) s).ecc = s.ecc ∧ (resAfter (execPulseNow s) s).tws = s.tws ∧
      (resAfter (execPulseNow s) s).twp = s.twp ∧ (resAfter (execPulseNow s) s).svc = s.svc ∧
      (resAfter (execPulseNow s) s).log = s.log ∧ (resAfter (execPulseNow s) s).pwr = s.pwr ∧
      (resAfter (execPulseNow s) s).fpl = s.fpl ∧ (resAfter (execPulseNow s) s).jtag = s.jtag ∧
      (resAfter (execPulseNow s) s).fuses = s.fuses ∧ (resAfter (execPulseNow s) s).cal = s.cal ∧
      (resAfter (execPulseNow s) s).out = s.out ∧ (resAfter (execPulseNow s) s).free = s.free ∧
      (resAfter (execPulseNow s) s).pending = s.pending := by
  have q1 := pulseNow_frame
  simp [q1, execPulseNow]

theorem execGaugeRestReference_frame (s : State) :
    (resAfter (execGaugeRestReference s) s).fuses = s.fuses ∧ (resAfter (execGaugeRestReference s) s).pending = s.pending := by
  have q1 := advanceTo_frame
  have q2 := takeReference_frame
  unfold execGaugeRestReference; (repeat' split) <;> simp_all

theorem forceRefCmd_frame (s : State) :
    (forceRefCmd s).almanac = s.almanac ∧ (forceRefCmd s).dev = s.dev ∧ (forceRefCmd s).stations = s.stations ∧
      (forceRefCmd s).hst = s.hst ∧ (forceRefCmd s).drc = s.drc ∧ (forceRefCmd s).dram = s.dram ∧ (forceRefCmd s).cht = s.cht ∧
      (forceRefCmd s).sui = s.sui ∧ (forceRefCmd s).stw = s.stw ∧ (forceRefCmd s).sav = s.sav ∧ (forceRefCmd s).cel = s.cel ∧
      (forceRefCmd s).dmw = s.dmw ∧ (forceRefCmd s).rek = s.rek ∧ (forceRefCmd s).plk = s.plk ∧ (forceRefCmd s).att = s.att ∧
      (forceRefCmd s).ecc = s.ecc ∧ (forceRefCmd s).tws = s.tws ∧ (forceRefCmd s).twp = s.twp ∧ (forceRefCmd s).svc = s.svc ∧
      (forceRefCmd s).log = s.log ∧ (forceRefCmd s).pwr = s.pwr ∧ (forceRefCmd s).fpl = s.fpl ∧ (forceRefCmd s).jtag = s.jtag ∧
      (forceRefCmd s).fuses = s.fuses ∧ (forceRefCmd s).cal = s.cal ∧ (forceRefCmd s).out = s.out ∧
      (forceRefCmd s).free = s.free ∧ (forceRefCmd s).pending = s.pending := by
  have q1 := openWindow_frame
  simp [q1, forceRefCmd]

theorem execForceRef_frame (s : State) :
    (resAfter (execForceRef s) s).almanac = s.almanac ∧ (resAfter (execForceRef s) s).dev = s.dev ∧
      (resAfter (execForceRef s) s).stations = s.stations ∧ (resAfter (execForceRef s) s).hst = s.hst ∧
      (resAfter (execForceRef s) s).drc = s.drc ∧ (resAfter (execForceRef s) s).dram = s.dram ∧
      (resAfter (execForceRef s) s).cht = s.cht ∧ (resAfter (execForceRef s) s).sui = s.sui ∧
      (resAfter (execForceRef s) s).stw = s.stw ∧ (resAfter (execForceRef s) s).sav = s.sav ∧
      (resAfter (execForceRef s) s).cel = s.cel ∧ (resAfter (execForceRef s) s).dmw = s.dmw ∧
      (resAfter (execForceRef s) s).rek = s.rek ∧ (resAfter (execForceRef s) s).plk = s.plk ∧
      (resAfter (execForceRef s) s).att = s.att ∧ (resAfter (execForceRef s) s).ecc = s.ecc ∧
      (resAfter (execForceRef s) s).tws = s.tws ∧ (resAfter (execForceRef s) s).twp = s.twp ∧
      (resAfter (execForceRef s) s).svc = s.svc ∧ (resAfter (execForceRef s) s).log = s.log ∧
      (resAfter (execForceRef s) s).pwr = s.pwr ∧ (resAfter (execForceRef s) s).fpl = s.fpl ∧
      (resAfter (execForceRef s) s).jtag = s.jtag ∧ (resAfter (execForceRef s) s).fuses = s.fuses ∧
      (resAfter (execForceRef s) s).cal = s.cal ∧ (resAfter (execForceRef s) s).out = s.out ∧
      (resAfter (execForceRef s) s).free = s.free ∧ (resAfter (execForceRef s) s).pending = s.pending := by
  have q1 := forceRefCmd_frame
  simp [q1, execForceRef]

theorem execRestWindowOpen_frame (s : State) :
    (resAfter (execRestWindowOpen s) s).almanac = s.almanac ∧ (resAfter (execRestWindowOpen s) s).dev = s.dev ∧
      (resAfter (execRestWindowOpen s) s).stations = s.stations ∧ (resAfter (execRestWindowOpen s) s).hst = s.hst ∧
      (resAfter (execRestWindowOpen s) s).drc = s.drc ∧ (resAfter (execRestWindowOpen s) s).dram = s.dram ∧
      (resAfter (execRestWindowOpen s) s).cht = s.cht ∧ (resAfter (execRestWindowOpen s) s).sui = s.sui ∧
      (resAfter (execRestWindowOpen s) s).stw = s.stw ∧ (resAfter (execRestWindowOpen s) s).sav = s.sav ∧
      (resAfter (execRestWindowOpen s) s).cel = s.cel ∧ (resAfter (execRestWindowOpen s) s).dmw = s.dmw ∧
      (resAfter (execRestWindowOpen s) s).rek = s.rek ∧ (resAfter (execRestWindowOpen s) s).plk = s.plk ∧
      (resAfter (execRestWindowOpen s) s).att = s.att ∧ (resAfter (execRestWindowOpen s) s).ecc = s.ecc ∧
      (resAfter (execRestWindowOpen s) s).tws = s.tws ∧ (resAfter (execRestWindowOpen s) s).twp = s.twp ∧
      (resAfter (execRestWindowOpen s) s).svc = s.svc ∧ (resAfter (execRestWindowOpen s) s).log = s.log ∧
      (resAfter (execRestWindowOpen s) s).pwr = s.pwr ∧ (resAfter (execRestWindowOpen s) s).fpl = s.fpl ∧
      (resAfter (execRestWindowOpen s) s).jtag = s.jtag ∧ (resAfter (execRestWindowOpen s) s).fuses = s.fuses ∧
      (resAfter (execRestWindowOpen s) s).cal = s.cal ∧ (resAfter (execRestWindowOpen s) s).out = s.out ∧
      (resAfter (execRestWindowOpen s) s).free = s.free ∧ (resAfter (execRestWindowOpen s) s).pending = s.pending := by
  have q1 := openWindow_frame
  simp [q1, execRestWindowOpen]

theorem execRestWindowTimeout_frame (s : State) :
    (resAfter (execRestWindowTimeout s) s).dev = s.dev ∧ (resAfter (execRestWindowTimeout s) s).stations = s.stations ∧
      (resAfter (execRestWindowTimeout s) s).hst = s.hst ∧ (resAfter (execRestWindowTimeout s) s).drc = s.drc ∧
      (resAfter (execRestWindowTimeout s) s).dram = s.dram ∧ (resAfter (execRestWindowTimeout s) s).cht = s.cht ∧
      (resAfter (execRestWindowTimeout s) s).sui = s.sui ∧ (resAfter (execRestWindowTimeout s) s).stw = s.stw ∧
      (resAfter (execRestWindowTimeout s) s).sav = s.sav ∧ (resAfter (execRestWindowTimeout s) s).cel = s.cel ∧
      (resAfter (execRestWindowTimeout s) s).dmw = s.dmw ∧ (resAfter (execRestWindowTimeout s) s).rek = s.rek ∧
      (resAfter (execRestWindowTimeout s) s).plk = s.plk ∧ (resAfter (execRestWindowTimeout s) s).att = s.att ∧
      (resAfter (execRestWindowTimeout s) s).ecc = s.ecc ∧ (resAfter (execRestWindowTimeout s) s).tws = s.tws ∧
      (resAfter (execRestWindowTimeout s) s).twp = s.twp ∧ (resAfter (execRestWindowTimeout s) s).pwr = s.pwr ∧
      (resAfter (execRestWindowTimeout s) s).fpl = s.fpl ∧ (resAfter (execRestWindowTimeout s) s).jtag = s.jtag ∧
      (resAfter (execRestWindowTimeout s) s).fuses = s.fuses ∧ (resAfter (execRestWindowTimeout s) s).cal = s.cal ∧
      (resAfter (execRestWindowTimeout s) s).out = s.out ∧ (resAfter (execRestWindowTimeout s) s).free = s.free ∧
      (resAfter (execRestWindowTimeout s) s).pending = s.pending ∧
      (resAfter (execRestWindowTimeout s) s).log.aonPowered = s.log.aonPowered := by
  have q1 := advanceTo_frame
  have q2 := closeWindow_frame
  unfold execRestWindowTimeout; (repeat' split) <;> simp_all

theorem execEstimatorStale_frame (s : State) :
    (resAfter (execEstimatorStale s) s).fuses = s.fuses ∧ (resAfter (execEstimatorStale s) s).cal = s.cal ∧
      (resAfter (execEstimatorStale s) s).pending = s.pending := by
  have q1 := advanceTo_frame
  have q2 := event_frame
  have q3 := markStore_frame
  have q4 := raise_frame
  have q5 := wantRek_frame
  unfold execEstimatorStale; (repeat' split) <;> simp_all

theorem execCapacityDerate_frame (s : State) :
    (resAfter (execCapacityDerate s) s).dev = s.dev ∧ (resAfter (execCapacityDerate s) s).stations = s.stations ∧
      (resAfter (execCapacityDerate s) s).hst = s.hst ∧ (resAfter (execCapacityDerate s) s).drc = s.drc ∧
      (resAfter (execCapacityDerate s) s).dram = s.dram ∧ (resAfter (execCapacityDerate s) s).cht = s.cht ∧
      (resAfter (execCapacityDerate s) s).sui = s.sui ∧ (resAfter (execCapacityDerate s) s).stw = s.stw ∧
      (resAfter (execCapacityDerate s) s).sav = s.sav ∧ (resAfter (execCapacityDerate s) s).cel = s.cel ∧
      (resAfter (execCapacityDerate s) s).dmw = s.dmw ∧ (resAfter (execCapacityDerate s) s).nrg = s.nrg ∧
      (resAfter (execCapacityDerate s) s).rek = s.rek ∧ (resAfter (execCapacityDerate s) s).plk = s.plk ∧
      (resAfter (execCapacityDerate s) s).att = s.att ∧ (resAfter (execCapacityDerate s) s).ecc = s.ecc ∧
      (resAfter (execCapacityDerate s) s).tws = s.tws ∧ (resAfter (execCapacityDerate s) s).twp = s.twp ∧
      (resAfter (execCapacityDerate s) s).pwr = s.pwr ∧ (resAfter (execCapacityDerate s) s).fpl = s.fpl ∧
      (resAfter (execCapacityDerate s) s).jtag = s.jtag ∧ (resAfter (execCapacityDerate s) s).fuses = s.fuses ∧
      (resAfter (execCapacityDerate s) s).cal = s.cal ∧ (resAfter (execCapacityDerate s) s).out = s.out ∧
      (resAfter (execCapacityDerate s) s).free = s.free ∧ (resAfter (execCapacityDerate s) s).pending = s.pending ∧
      (resAfter (execCapacityDerate s) s).log.aonPowered = s.log.aonPowered := by
  have q1 := advanceTo_frame
  unfold execCapacityDerate; (repeat' split) <;> simp_all

theorem execGaugeRecordStore_frame (pass : Bool) (s : State) :
    (resAfter (execGaugeRecordStore pass s) s).fuses = s.fuses ∧ (resAfter (execGaugeRecordStore pass s) s).cal = s.cal ∧
      (resAfter (execGaugeRecordStore pass s) s).pending = s.pending := by
  have q1 := advanceTo_frame
  have q2 := raise_frame
  unfold execGaugeRecordStore; (repeat' split) <;> simp_all

theorem costOrFree_frame (c : Option Nat) (s : State) :
    (costOrFree c s).2.almanac = s.almanac ∧ (costOrFree c s).2.dev = s.dev ∧ (costOrFree c s).2.stations = s.stations ∧
      (costOrFree c s).2.hst = s.hst ∧ (costOrFree c s).2.drc = s.drc ∧ (costOrFree c s).2.dram = s.dram ∧
      (costOrFree c s).2.cht = s.cht ∧ (costOrFree c s).2.sui = s.sui ∧ (costOrFree c s).2.stw = s.stw ∧
      (costOrFree c s).2.sav = s.sav ∧ (costOrFree c s).2.cel = s.cel ∧ (costOrFree c s).2.dmw = s.dmw ∧
      (costOrFree c s).2.nrg = s.nrg ∧ (costOrFree c s).2.gau = s.gau ∧ (costOrFree c s).2.rek = s.rek ∧
      (costOrFree c s).2.plk = s.plk ∧ (costOrFree c s).2.att = s.att ∧ (costOrFree c s).2.ecc = s.ecc ∧
      (costOrFree c s).2.tws = s.tws ∧ (costOrFree c s).2.twp = s.twp ∧ (costOrFree c s).2.svc = s.svc ∧
      (costOrFree c s).2.log = s.log ∧ (costOrFree c s).2.pwr = s.pwr ∧ (costOrFree c s).2.fpl = s.fpl ∧
      (costOrFree c s).2.jtag = s.jtag ∧ (costOrFree c s).2.fuses = s.fuses ∧ (costOrFree c s).2.cal = s.cal ∧
      (costOrFree c s).2.out = s.out ∧ (costOrFree c s).2.pending = s.pending := by
  have q1 := takeFree_frame
  unfold costOrFree; (repeat' split) <;> simp_all

theorem saveEst_frame (rate : Nat) (s : State) :
    (saveEst rate s).2.almanac = s.almanac ∧ (saveEst rate s).2.dev = s.dev ∧ (saveEst rate s).2.stations = s.stations ∧
      (saveEst rate s).2.hst = s.hst ∧ (saveEst rate s).2.drc = s.drc ∧ (saveEst rate s).2.dram = s.dram ∧
      (saveEst rate s).2.cht = s.cht ∧ (saveEst rate s).2.sui = s.sui ∧ (saveEst rate s).2.stw = s.stw ∧
      (saveEst rate s).2.sav = s.sav ∧ (saveEst rate s).2.cel = s.cel ∧ (saveEst rate s).2.dmw = s.dmw ∧
      (saveEst rate s).2.nrg = s.nrg ∧ (saveEst rate s).2.gau = s.gau ∧ (saveEst rate s).2.rek = s.rek ∧
      (saveEst rate s).2.plk = s.plk ∧ (saveEst rate s).2.att = s.att ∧ (saveEst rate s).2.ecc = s.ecc ∧
      (saveEst rate s).2.tws = s.tws ∧ (saveEst rate s).2.twp = s.twp ∧ (saveEst rate s).2.svc = s.svc ∧
      (saveEst rate s).2.log = s.log ∧ (saveEst rate s).2.pwr = s.pwr ∧ (saveEst rate s).2.fpl = s.fpl ∧
      (saveEst rate s).2.jtag = s.jtag ∧ (saveEst rate s).2.fuses = s.fuses ∧ (saveEst rate s).2.cal = s.cal ∧
      (saveEst rate s).2.out = s.out ∧ (saveEst rate s).2.pending = s.pending := by
  have q1 := takeFree_frame
  unfold saveEst; (repeat' split) <;> simp_all

theorem reckon_frame (s : State) :
    (reckon s).2.almanac = s.almanac ∧ (reckon s).2.dev = s.dev ∧ (reckon s).2.stations = s.stations ∧
      (reckon s).2.hst = s.hst ∧ (reckon s).2.drc = s.drc ∧ (reckon s).2.dram = s.dram ∧ (reckon s).2.cht = s.cht ∧
      (reckon s).2.sui = s.sui ∧ (reckon s).2.stw = s.stw ∧ (reckon s).2.sav = s.sav ∧ (reckon s).2.cel = s.cel ∧
      (reckon s).2.dmw = s.dmw ∧ (reckon s).2.nrg = s.nrg ∧ (reckon s).2.gau = s.gau ∧ (reckon s).2.rek = s.rek ∧
      (reckon s).2.plk = s.plk ∧ (reckon s).2.att = s.att ∧ (reckon s).2.ecc = s.ecc ∧ (reckon s).2.tws = s.tws ∧
      (reckon s).2.twp = s.twp ∧ (reckon s).2.svc = s.svc ∧ (reckon s).2.log = s.log ∧ (reckon s).2.pwr = s.pwr ∧
      (reckon s).2.fpl = s.fpl ∧ (reckon s).2.jtag = s.jtag ∧ (reckon s).2.fuses = s.fuses ∧ (reckon s).2.cal = s.cal ∧
      (reckon s).2.out = s.out ∧ (reckon s).2.pending = s.pending := by
  have q1 := costOrFree_frame
  have q2 := saveEst_frame
  simp [q1, q2, reckon]

theorem execReckoningRun_frame (s : State) :
    (resAfter (execReckoningRun s) s).fuses = s.fuses ∧ (resAfter (execReckoningRun s) s).cal = s.cal ∧
      (resAfter (execReckoningRun s) s).pending = s.pending := by
  have q1 := advanceTo_frame
  have q2 := checkDisagree_frame
  have q3 := reckon_frame
  unfold execReckoningRun; (repeat' split) <;> simp_all

theorem execReckoningPublish_frame (s : State) :
    (resAfter (execReckoningPublish s) s).almanac = s.almanac ∧ (resAfter (execReckoningPublish s) s).fuses = s.fuses ∧
      (resAfter (execReckoningPublish s) s).cal = s.cal ∧ (resAfter (execReckoningPublish s) s).pending = s.pending := by
  have q1 := event_frame
  have q2 := raiseAddr_frame
  have q3 := reevalStalled_frame
  have q4 := reeval_frame
  simp only [execReckoningPublish]; (repeat' split) <;> simp [q1, q2, q3, q4]

theorem rekRunCmd_frame (s : State) :
    (rekRunCmd s).almanac = s.almanac ∧ (rekRunCmd s).dev = s.dev ∧ (rekRunCmd s).stations = s.stations ∧
      (rekRunCmd s).hst = s.hst ∧ (rekRunCmd s).drc = s.drc ∧ (rekRunCmd s).dram = s.dram ∧ (rekRunCmd s).cht = s.cht ∧
      (rekRunCmd s).sui = s.sui ∧ (rekRunCmd s).stw = s.stw ∧ (rekRunCmd s).sav = s.sav ∧ (rekRunCmd s).cel = s.cel ∧
      (rekRunCmd s).dmw = s.dmw ∧ (rekRunCmd s).nrg = s.nrg ∧ (rekRunCmd s).gau = s.gau ∧ (rekRunCmd s).plk = s.plk ∧
      (rekRunCmd s).att = s.att ∧ (rekRunCmd s).ecc = s.ecc ∧ (rekRunCmd s).tws = s.tws ∧ (rekRunCmd s).twp = s.twp ∧
      (rekRunCmd s).svc = s.svc ∧ (rekRunCmd s).log = s.log ∧ (rekRunCmd s).pwr = s.pwr ∧ (rekRunCmd s).fpl = s.fpl ∧
      (rekRunCmd s).jtag = s.jtag ∧ (rekRunCmd s).fuses = s.fuses ∧ (rekRunCmd s).cal = s.cal ∧ (rekRunCmd s).out = s.out ∧
      (rekRunCmd s).free = s.free ∧ (rekRunCmd s).pending = s.pending := by
  have q1 := wantRek_frame
  simp [q1, rekRunCmd]

theorem execRekRun_frame (s : State) :
    (resAfter (execRekRun s) s).almanac = s.almanac ∧ (resAfter (execRekRun s) s).dev = s.dev ∧
      (resAfter (execRekRun s) s).stations = s.stations ∧ (resAfter (execRekRun s) s).hst = s.hst ∧
      (resAfter (execRekRun s) s).drc = s.drc ∧ (resAfter (execRekRun s) s).dram = s.dram ∧
      (resAfter (execRekRun s) s).cht = s.cht ∧ (resAfter (execRekRun s) s).sui = s.sui ∧
      (resAfter (execRekRun s) s).stw = s.stw ∧ (resAfter (execRekRun s) s).sav = s.sav ∧
      (resAfter (execRekRun s) s).cel = s.cel ∧ (resAfter (execRekRun s) s).dmw = s.dmw ∧
      (resAfter (execRekRun s) s).nrg = s.nrg ∧ (resAfter (execRekRun s) s).gau = s.gau ∧
      (resAfter (execRekRun s) s).plk = s.plk ∧ (resAfter (execRekRun s) s).att = s.att ∧
      (resAfter (execRekRun s) s).ecc = s.ecc ∧ (resAfter (execRekRun s) s).tws = s.tws ∧
      (resAfter (execRekRun s) s).twp = s.twp ∧ (resAfter (execRekRun s) s).svc = s.svc ∧
      (resAfter (execRekRun s) s).log = s.log ∧ (resAfter (execRekRun s) s).pwr = s.pwr ∧
      (resAfter (execRekRun s) s).fpl = s.fpl ∧ (resAfter (execRekRun s) s).jtag = s.jtag ∧
      (resAfter (execRekRun s) s).fuses = s.fuses ∧ (resAfter (execRekRun s) s).cal = s.cal ∧
      (resAfter (execRekRun s) s).out = s.out ∧ (resAfter (execRekRun s) s).free = s.free ∧
      (resAfter (execRekRun s) s).pending = s.pending := by
  have q1 := rekRunCmd_frame
  simp [q1, execRekRun]

theorem execPackEolEval_frame (s : State) :
    (resAfter (execPackEolEval s) s).fuses = s.fuses ∧ (resAfter (execPackEolEval s) s).pending = s.pending := by
  have q1 := advanceTo_frame
  have q2 := eolEval_frame
  unfold execPackEolEval; (repeat' split) <;> simp_all

theorem perstDown_frame (s : State) :
    (perstDown s).almanac = s.almanac ∧ (perstDown s).dev = s.dev ∧ (perstDown s).stations = s.stations ∧
      (perstDown s).hst = s.hst ∧ (perstDown s).drc = s.drc ∧ (perstDown s).dram = s.dram ∧ (perstDown s).cht = s.cht ∧
      (perstDown s).sui = s.sui ∧ (perstDown s).stw = s.stw ∧ (perstDown s).cel = s.cel ∧ (perstDown s).dmw = s.dmw ∧
      (perstDown s).gau = s.gau ∧ (perstDown s).rek = s.rek ∧ (perstDown s).plk = s.plk ∧ (perstDown s).att = s.att ∧
      (perstDown s).ecc = s.ecc ∧ (perstDown s).tws = s.tws ∧ (perstDown s).twp = s.twp ∧ (perstDown s).svc = s.svc ∧
      (perstDown s).log = s.log ∧ (perstDown s).pwr = s.pwr ∧ (perstDown s).fpl = s.fpl ∧ (perstDown s).jtag = s.jtag ∧
      (perstDown s).fuses = s.fuses ∧ (perstDown s).cal = s.cal ∧ (perstDown s).out = s.out ∧ (perstDown s).free = s.free ∧
      (perstDown s).pending = s.pending := by
  simp [perstDown]

theorem deliverPending_frame (s : State) :
    (deliverPending s).almanac = s.almanac ∧ (deliverPending s).dev = s.dev ∧ (deliverPending s).stations = s.stations ∧
      (deliverPending s).drc = s.drc ∧ (deliverPending s).dram = s.dram ∧ (deliverPending s).cht = s.cht ∧
      (deliverPending s).sui = s.sui ∧ (deliverPending s).stw = s.stw ∧ (deliverPending s).sav = s.sav ∧
      (deliverPending s).cel = s.cel ∧ (deliverPending s).dmw = s.dmw ∧ (deliverPending s).nrg = s.nrg ∧
      (deliverPending s).gau = s.gau ∧ (deliverPending s).rek = s.rek ∧ (deliverPending s).plk = s.plk ∧
      (deliverPending s).att = s.att ∧ (deliverPending s).ecc = s.ecc ∧ (deliverPending s).tws = s.tws ∧
      (deliverPending s).twp = s.twp ∧ (deliverPending s).svc = s.svc ∧ (deliverPending s).log = s.log ∧
      (deliverPending s).pwr = s.pwr ∧ (deliverPending s).fpl = s.fpl ∧ (deliverPending s).jtag = s.jtag ∧
      (deliverPending s).fuses = s.fuses ∧ (deliverPending s).cal = s.cal ∧ (deliverPending s).free = s.free ∧
      (deliverPending s).pending = s.pending := by
  simp [deliverPending]

theorem execHostLinkReset_frame (kind : LinkResetKind) (s : State) :
    (resAfter (execHostLinkReset kind s) s).almanac = s.almanac ∧ (resAfter (execHostLinkReset kind s) s).drc = s.drc ∧
      (resAfter (execHostLinkReset kind s) s).dram = s.dram ∧ (resAfter (execHostLinkReset kind s) s).cht = s.cht ∧
      (resAfter (execHostLinkReset kind s) s).cel = s.cel ∧ (resAfter (execHostLinkReset kind s) s).dmw = s.dmw ∧
      (resAfter (execHostLinkReset kind s) s).gau = s.gau ∧ (resAfter (execHostLinkReset kind s) s).rek = s.rek ∧
      (resAfter (execHostLinkReset kind s) s).plk = s.plk ∧ (resAfter (execHostLinkReset kind s) s).att = s.att ∧
      (resAfter (execHostLinkReset kind s) s).ecc = s.ecc ∧ (resAfter (execHostLinkReset kind s) s).twp = s.twp ∧
      (resAfter (execHostLinkReset kind s) s).svc = s.svc ∧ (resAfter (execHostLinkReset kind s) s).pwr = s.pwr ∧
      (resAfter (execHostLinkReset kind s) s).fpl = s.fpl ∧ (resAfter (execHostLinkReset kind s) s).jtag = s.jtag ∧
      (resAfter (execHostLinkReset kind s) s).fuses = s.fuses ∧ (resAfter (execHostLinkReset kind s) s).cal = s.cal ∧
      (resAfter (execHostLinkReset kind s) s).free = s.free ∧ (resAfter (execHostLinkReset kind s) s).pending = s.pending ∧
      (resAfter (execHostLinkReset kind s) s).dev.state = s.dev.state ∧
      (resAfter (execHostLinkReset kind s) s).log.aonPowered = s.log.aonPowered := by
  have q1 := linkReset_frame
  have q2 := modStation_frame
  have q3 := perstDown_frame
  have q4 := reeval_frame
  have q5 := reeval_frame3
  simp [q1, q2, q3, q4, q5, execHostLinkReset]

theorem execHostLinkTrained_frame (vers rates widths : Nat) (answers msixEnable : Bool) (msixMask : Word) (s : State) :
    (resAfter (execHostLinkTrained vers rates widths answers msixEnable msixMask s) s).almanac = s.almanac ∧
      (resAfter (execHostLinkTrained vers rates widths answers msixEnable msixMask s) s).dev = s.dev ∧
      (resAfter (execHostLinkTrained vers rates widths answers msixEnable msixMask s) s).stations = s.stations ∧
      (resAfter (execHostLinkTrained vers rates widths answers msixEnable msixMask s) s).drc = s.drc ∧
      (resAfter (execHostLinkTrained vers rates widths answers msixEnable msixMask s) s).dram = s.dram ∧
      (resAfter (execHostLinkTrained vers rates widths answers msixEnable msixMask s) s).cht = s.cht ∧
      (resAfter (execHostLinkTrained vers rates widths answers msixEnable msixMask s) s).sui = s.sui ∧
      (resAfter (execHostLinkTrained vers rates widths answers msixEnable msixMask s) s).stw = s.stw ∧
      (resAfter (execHostLinkTrained vers rates widths answers msixEnable msixMask s) s).sav = s.sav ∧
      (resAfter (execHostLinkTrained vers rates widths answers msixEnable msixMask s) s).cel = s.cel ∧
      (resAfter (execHostLinkTrained vers rates widths answers msixEnable msixMask s) s).dmw = s.dmw ∧
      (resAfter (execHostLinkTrained vers rates widths answers msixEnable msixMask s) s).nrg = s.nrg ∧
      (resAfter (execHostLinkTrained vers rates widths answers msixEnable msixMask s) s).gau = s.gau ∧
      (resAfter (execHostLinkTrained vers rates widths answers msixEnable msixMask s) s).rek = s.rek ∧
      (resAfter (execHostLinkTrained vers rates widths answers msixEnable msixMask s) s).plk = s.plk ∧
      (resAfter (execHostLinkTrained vers rates widths answers msixEnable msixMask s) s).att = s.att ∧
      (resAfter (execHostLinkTrained vers rates widths answers msixEnable msixMask s) s).ecc = s.ecc ∧
      (resAfter (execHostLinkTrained vers rates widths answers msixEnable msixMask s) s).tws = s.tws ∧
      (resAfter (execHostLinkTrained vers rates widths answers msixEnable msixMask s) s).twp = s.twp ∧
      (resAfter (execHostLinkTrained vers rates widths answers msixEnable msixMask s) s).svc = s.svc ∧
      (resAfter (execHostLinkTrained vers rates widths answers msixEnable msixMask s) s).pwr = s.pwr ∧
      (resAfter (execHostLinkTrained vers rates widths answers msixEnable msixMask s) s).fpl = s.fpl ∧
      (resAfter (execHostLinkTrained vers rates widths answers msixEnable msixMask s) s).jtag = s.jtag ∧
      (resAfter (execHostLinkTrained vers rates widths answers msixEnable msixMask s) s).fuses = s.fuses ∧
      (resAfter (execHostLinkTrained vers rates widths answers msixEnable msixMask s) s).cal = s.cal ∧
      (resAfter (execHostLinkTrained vers rates widths answers msixEnable msixMask s) s).free = s.free ∧
      (resAfter (execHostLinkTrained vers rates widths answers msixEnable msixMask s) s).pending = s.pending ∧
      (resAfter (execHostLinkTrained vers rates widths answers msixEnable msixMask s) s).log.aonPowered = s.log.aonPowered := by
  have q1 := deliverPending_frame
  have q2 := event_frame
  simp only [execHostLinkTrained]; (repeat' split) <;> simp [q1, q2]

theorem execHdmDecoderCommit_frame (index base size ways gran pos : Nat) (s : State) :
    (resAfter (execHdmDecoderCommit index base size ways gran pos s) s).almanac = s.almanac ∧
      (resAfter (execHdmDecoderCommit index base size ways gran pos s) s).dev = s.dev ∧
      (resAfter (execHdmDecoderCommit index base size ways gran pos s) s).stations = s.stations ∧
      (resAfter (execHdmDecoderCommit index base size ways gran pos s) s).drc = s.drc ∧
      (resAfter (execHdmDecoderCommit index base size ways gran pos s) s).dram = s.dram ∧
      (resAfter (execHdmDecoderCommit index base size ways gran pos s) s).cht = s.cht ∧
      (resAfter (execHdmDecoderCommit index base size ways gran pos s) s).sui = s.sui ∧
      (resAfter (execHdmDecoderCommit index base size ways gran pos s) s).stw = s.stw ∧
      (resAfter (execHdmDecoderCommit index base size ways gran pos s) s).sav = s.sav ∧
      (resAfter (execHdmDecoderCommit index base size ways gran pos s) s).cel = s.cel ∧
      (resAfter (execHdmDecoderCommit index base size ways gran pos s) s).dmw = s.dmw ∧
      (resAfter (execHdmDecoderCommit index base size ways gran pos s) s).nrg = s.nrg ∧
      (resAfter (execHdmDecoderCommit index base size ways gran pos s) s).gau = s.gau ∧
      (resAfter (execHdmDecoderCommit index base size ways gran pos s) s).rek = s.rek ∧
      (resAfter (execHdmDecoderCommit index base size ways gran pos s) s).plk = s.plk ∧
      (resAfter (execHdmDecoderCommit index base size ways gran pos s) s).att = s.att ∧
      (resAfter (execHdmDecoderCommit index base size ways gran pos s) s).ecc = s.ecc ∧
      (resAfter (execHdmDecoderCommit index base size ways gran pos s) s).tws = s.tws ∧
      (resAfter (execHdmDecoderCommit index base size ways gran pos s) s).twp = s.twp ∧
      (resAfter (execHdmDecoderCommit index base size ways gran pos s) s).svc = s.svc ∧
      (resAfter (execHdmDecoderCommit index base size ways gran pos s) s).log = s.log ∧
      (resAfter (execHdmDecoderCommit index base size ways gran pos s) s).pwr = s.pwr ∧
      (resAfter (execHdmDecoderCommit index base size ways gran pos s) s).fpl = s.fpl ∧
      (resAfter (execHdmDecoderCommit index base size ways gran pos s) s).jtag = s.jtag ∧
      (resAfter (execHdmDecoderCommit index base size ways gran pos s) s).fuses = s.fuses ∧
      (resAfter (execHdmDecoderCommit index base size ways gran pos s) s).cal = s.cal ∧
      (resAfter (execHdmDecoderCommit index base size ways gran pos s) s).out = s.out ∧
      (resAfter (execHdmDecoderCommit index base size ways gran pos s) s).free = s.free ∧
      (resAfter (execHdmDecoderCommit index base size ways gran pos s) s).pending = s.pending ∧
      (resAfter (execHdmDecoderCommit index base size ways gran pos s) s).hst.linkUp = s.hst.linkUp ∧
      (resAfter (execHdmDecoderCommit index base size ways gran pos s) s).hst.gateClosed = s.hst.gateClosed := by
  simp [execHdmDecoderCommit]

theorem takeWrite_frame (tag beat : Nat) (data : List Byte) (enables : Dword) (poison parityBad : Bool) (s : State) :
    (takeWrite tag beat data enables poison parityBad s).almanac = s.almanac ∧
      (takeWrite tag beat data enables poison parityBad s).dev = s.dev ∧
      (takeWrite tag beat data enables poison parityBad s).stations = s.stations ∧
      (takeWrite tag beat data enables poison parityBad s).drc = s.drc ∧
      (takeWrite tag beat data enables poison parityBad s).dram = s.dram ∧
      (takeWrite tag beat data enables poison parityBad s).cht = s.cht ∧
      (takeWrite tag beat data enables poison parityBad s).sui = s.sui ∧
      (takeWrite tag beat data enables poison parityBad s).stw = s.stw ∧
      (takeWrite tag beat data enables poison parityBad s).cel = s.cel ∧
      (takeWrite tag beat data enables poison parityBad s).dmw = s.dmw ∧
      (takeWrite tag beat data enables poison parityBad s).nrg = s.nrg ∧
      (takeWrite tag beat data enables poison parityBad s).gau = s.gau ∧
      (takeWrite tag beat data enables poison parityBad s).rek = s.rek ∧
      (takeWrite tag beat data enables poison parityBad s).plk = s.plk ∧
      (takeWrite tag beat data enables poison parityBad s).att = s.att ∧
      (takeWrite tag beat data enables poison parityBad s).ecc = s.ecc ∧
      (takeWrite tag beat data enables poison parityBad s).tws = s.tws ∧
      (takeWrite tag beat data enables poison parityBad s).twp = s.twp ∧
      (takeWrite tag beat data enables poison parityBad s).svc = s.svc ∧
      (takeWrite tag beat data enables poison parityBad s).log = s.log ∧
      (takeWrite tag beat data enables poison parityBad s).pwr = s.pwr ∧
      (takeWrite tag beat data enables poison parityBad s).fpl = s.fpl ∧
      (takeWrite tag beat data enables poison parityBad s).jtag = s.jtag ∧
      (takeWrite tag beat data enables poison parityBad s).fuses = s.fuses ∧
      (takeWrite tag beat data enables poison parityBad s).cal = s.cal ∧
      (takeWrite tag beat data enables poison parityBad s).out = s.out ∧
      (takeWrite tag beat data enables poison parityBad s).free = s.free ∧
      (takeWrite tag beat data enables poison parityBad s).pending = s.pending := by
  have q1 := enterWrite_frame
  simp [q1, takeWrite]

theorem takeWrite_frame2 (tag beat : Nat) (data : List Byte) (enables : Dword) (poison parityBad : Bool) (s : State) :
    (takeWrite tag beat data enables poison parityBad s).hst.linkUp = s.hst.linkUp ∧
      (takeWrite tag beat data enables poison parityBad s).hst.gateClosed = s.hst.gateClosed := by
  have q1 := enterWrite_frame3
  unfold takeWrite; (repeat' split) <;> simp_all

theorem execHostWriteRequest_frame (tag hpa : Nat) (data : List Byte) (enables : Dword) (poison parityBad : Bool)
    (s : State) :
    (resAfter (execHostWriteRequest tag hpa data enables poison parityBad s) s).almanac = s.almanac ∧
      (resAfter (execHostWriteRequest tag hpa data enables poison parityBad s) s).dev = s.dev ∧
      (resAfter (execHostWriteRequest tag hpa data enables poison parityBad s) s).stations = s.stations ∧
      (resAfter (execHostWriteRequest tag hpa data enables poison parityBad s) s).drc = s.drc ∧
      (resAfter (execHostWriteRequest tag hpa data enables poison parityBad s) s).dram = s.dram ∧
      (resAfter (execHostWriteRequest tag hpa data enables poison parityBad s) s).cht = s.cht ∧
      (resAfter (execHostWriteRequest tag hpa data enables poison parityBad s) s).sui = s.sui ∧
      (resAfter (execHostWriteRequest tag hpa data enables poison parityBad s) s).stw = s.stw ∧
      (resAfter (execHostWriteRequest tag hpa data enables poison parityBad s) s).cel = s.cel ∧
      (resAfter (execHostWriteRequest tag hpa data enables poison parityBad s) s).dmw = s.dmw ∧
      (resAfter (execHostWriteRequest tag hpa data enables poison parityBad s) s).nrg = s.nrg ∧
      (resAfter (execHostWriteRequest tag hpa data enables poison parityBad s) s).gau = s.gau ∧
      (resAfter (execHostWriteRequest tag hpa data enables poison parityBad s) s).rek = s.rek ∧
      (resAfter (execHostWriteRequest tag hpa data enables poison parityBad s) s).plk = s.plk ∧
      (resAfter (execHostWriteRequest tag hpa data enables poison parityBad s) s).att = s.att ∧
      (resAfter (execHostWriteRequest tag hpa data enables poison parityBad s) s).ecc = s.ecc ∧
      (resAfter (execHostWriteRequest tag hpa data enables poison parityBad s) s).tws = s.tws ∧
      (resAfter (execHostWriteRequest tag hpa data enables poison parityBad s) s).twp = s.twp ∧
      (resAfter (execHostWriteRequest tag hpa data enables poison parityBad s) s).svc = s.svc ∧
      (resAfter (execHostWriteRequest tag hpa data enables poison parityBad s) s).log = s.log ∧
      (resAfter (execHostWriteRequest tag hpa data enables poison parityBad s) s).pwr = s.pwr ∧
      (resAfter (execHostWriteRequest tag hpa data enables poison parityBad s) s).fpl = s.fpl ∧
      (resAfter (execHostWriteRequest tag hpa data enables poison parityBad s) s).jtag = s.jtag ∧
      (resAfter (execHostWriteRequest tag hpa data enables poison parityBad s) s).fuses = s.fuses ∧
      (resAfter (execHostWriteRequest tag hpa data enables poison parityBad s) s).cal = s.cal ∧
      (resAfter (execHostWriteRequest tag hpa data enables poison parityBad s) s).free = s.free ∧
      (resAfter (execHostWriteRequest tag hpa data enables poison parityBad s) s).pending = s.pending ∧
      (resAfter (execHostWriteRequest tag hpa data enables poison parityBad s) s).hst.linkUp = s.hst.linkUp ∧
      (resAfter (execHostWriteRequest tag hpa data enables poison parityBad s) s).hst.gateClosed = s.hst.gateClosed := by
  have q1 := discard_frame
  have q2 := discard_frame2
  have q3 := takeWrite_frame
  have q4 := takeWrite_frame2
  simp only [execHostWriteRequest]; (repeat' split) <;> simp [q1, q2, q3, q4]

theorem presentClaim_frame (tag t : Nat) (c : SuiteCtx) (s : State) :
    (presentClaim tag t c s).almanac = s.almanac ∧ (presentClaim tag t c s).fuses = s.fuses ∧
      (presentClaim tag t c s).cal = s.cal ∧ (presentClaim tag t c s).pending = s.pending := by
  have q1 := grantClaim_frame
  have q2 := modWrite_frame
  have q3 := stallClaim_frame
  unfold presentClaim; (repeat' split) <;> simp_all

theorem execClaimPresent_frame (tag : Nat) (s : State) :
    (resAfter (execClaimPresent tag s) s).almanac = s.almanac ∧ (resAfter (execClaimPresent tag s) s).fuses = s.fuses ∧
      (resAfter (execClaimPresent tag s) s).cal = s.cal ∧ (resAfter (execClaimPresent tag s) s).pending = s.pending := by
  have q1 := presentClaim_frame
  unfold execClaimPresent; (repeat' split) <;> simp_all

theorem execVolatileFillDone_frame (tile : Nat) (s : State) :
    (resAfter (execVolatileFillDone tile s) s).almanac = s.almanac ∧ (resAfter (execVolatileFillDone tile s) s).dev = s.dev ∧
      (resAfter (execVolatileFillDone tile s) s).stations = s.stations ∧
      (resAfter (execVolatileFillDone tile s) s).stw = s.stw ∧ (resAfter (execVolatileFillDone tile s) s).sav = s.sav ∧
      (resAfter (execVolatileFillDone tile s) s).cel = s.cel ∧ (resAfter (execVolatileFillDone tile s) s).nrg = s.nrg ∧
      (resAfter (execVolatileFillDone tile s) s).gau = s.gau ∧ (resAfter (execVolatileFillDone tile s) s).rek = s.rek ∧
      (resAfter (execVolatileFillDone tile s) s).plk = s.plk ∧ (resAfter (execVolatileFillDone tile s) s).att = s.att ∧
      (resAfter (execVolatileFillDone tile s) s).ecc = s.ecc ∧ (resAfter (execVolatileFillDone tile s) s).tws = s.tws ∧
      (resAfter (execVolatileFillDone tile s) s).twp = s.twp ∧ (resAfter (execVolatileFillDone tile s) s).svc = s.svc ∧
      (resAfter (execVolatileFillDone tile s) s).log = s.log ∧ (resAfter (execVolatileFillDone tile s) s).pwr = s.pwr ∧
      (resAfter (execVolatileFillDone tile s) s).fpl = s.fpl ∧ (resAfter (execVolatileFillDone tile s) s).jtag = s.jtag ∧
      (resAfter (execVolatileFillDone tile s) s).fuses = s.fuses ∧ (resAfter (execVolatileFillDone tile s) s).cal = s.cal ∧
      (resAfter (execVolatileFillDone tile s) s).out = s.out ∧ (resAfter (execVolatileFillDone tile s) s).pending = s.pending ∧
      (resAfter (execVolatileFillDone tile s) s).hst.linkUp = s.hst.linkUp ∧
      (resAfter (execVolatileFillDone tile s) s).hst.gateClosed = s.hst.gateClosed := by
  have q1 := callTile_frame
  have q2 := fillTile_frame
  unfold execVolatileFillDone; (repeat' split) <;> simp_all

theorem poisonedRead_frame (tag : Nat) (s : State) :
    (poisonedRead tag s).almanac = s.almanac ∧ (poisonedRead tag s).dev = s.dev ∧ (poisonedRead tag s).stations = s.stations ∧
      (poisonedRead tag s).hst = s.hst ∧ (poisonedRead tag s).drc = s.drc ∧ (poisonedRead tag s).dram = s.dram ∧
      (poisonedRead tag s).cht = s.cht ∧ (poisonedRead tag s).sui = s.sui ∧ (poisonedRead tag s).stw = s.stw ∧
      (poisonedRead tag s).sav = s.sav ∧ (poisonedRead tag s).cel = s.cel ∧ (poisonedRead tag s).dmw = s.dmw ∧
      (poisonedRead tag s).nrg = s.nrg ∧ (poisonedRead tag s).gau = s.gau ∧ (poisonedRead tag s).rek = s.rek ∧
      (poisonedRead tag s).plk = s.plk ∧ (poisonedRead tag s).att = s.att ∧ (poisonedRead tag s).ecc = s.ecc ∧
      (poisonedRead tag s).tws = s.tws ∧ (poisonedRead tag s).twp = s.twp ∧ (poisonedRead tag s).svc = s.svc ∧
      (poisonedRead tag s).log = s.log ∧ (poisonedRead tag s).pwr = s.pwr ∧ (poisonedRead tag s).fpl = s.fpl ∧
      (poisonedRead tag s).jtag = s.jtag ∧ (poisonedRead tag s).fuses = s.fuses ∧ (poisonedRead tag s).cal = s.cal ∧
      (poisonedRead tag s).free = s.free ∧ (poisonedRead tag s).pending = s.pending := by
  simp [poisonedRead]

theorem takeRead_frame (tag beat : Nat) (s : State) :
    (takeRead tag beat s).almanac = s.almanac ∧ (takeRead tag beat s).dev = s.dev ∧
      (takeRead tag beat s).stations = s.stations ∧ (takeRead tag beat s).dram = s.dram ∧ (takeRead tag beat s).cht = s.cht ∧
      (takeRead tag beat s).sui = s.sui ∧ (takeRead tag beat s).stw = s.stw ∧ (takeRead tag beat s).cel = s.cel ∧
      (takeRead tag beat s).dmw = s.dmw ∧ (takeRead tag beat s).nrg = s.nrg ∧ (takeRead tag beat s).gau = s.gau ∧
      (takeRead tag beat s).rek = s.rek ∧ (takeRead tag beat s).plk = s.plk ∧ (takeRead tag beat s).att = s.att ∧
      (takeRead tag beat s).ecc = s.ecc ∧ (takeRead tag beat s).tws = s.tws ∧ (takeRead tag beat s).twp = s.twp ∧
      (takeRead tag beat s).svc = s.svc ∧ (takeRead tag beat s).log = s.log ∧ (takeRead tag beat s).pwr = s.pwr ∧
      (takeRead tag beat s).fpl = s.fpl ∧ (takeRead tag beat s).jtag = s.jtag ∧ (takeRead tag beat s).fuses = s.fuses ∧
      (takeRead tag beat s).cal = s.cal ∧ (takeRead tag beat s).free = s.free ∧ (takeRead tag beat s).pending = s.pending := by
  have q1 := admitRead_frame
  simp [q1, takeRead]

theorem takeRead_frame2 (tag beat : Nat) (s : State) :
    (takeRead tag beat s).hst.linkUp = s.hst.linkUp ∧ (takeRead tag beat s).hst.gateClosed = s.hst.gateClosed := by
  have q1 := admitRead_frame3
  unfold takeRead; (repeat' split) <;> simp_all

theorem execHostRead_frame (tag hpa : Nat) (s : State) :
    (resAfter (execHostRead tag hpa s) s).almanac = s.almanac ∧ (resAfter (execHostRead tag hpa s) s).dev = s.dev ∧
      (resAfter (execHostRead tag hpa s) s).stations = s.stations ∧ (resAfter (execHostRead tag hpa s) s).dram = s.dram ∧
      (resAfter (execHostRead tag hpa s) s).cht = s.cht ∧ (resAfter (execHostRead tag hpa s) s).sui = s.sui ∧
      (resAfter (execHostRead tag hpa s) s).stw = s.stw ∧ (resAfter (execHostRead tag hpa s) s).cel = s.cel ∧
      (resAfter (execHostRead tag hpa s) s).dmw = s.dmw ∧ (resAfter (execHostRead tag hpa s) s).nrg = s.nrg ∧
      (resAfter (execHostRead tag hpa s) s).gau = s.gau ∧ (resAfter (execHostRead tag hpa s) s).rek = s.rek ∧
      (resAfter (execHostRead tag hpa s) s).plk = s.plk ∧ (resAfter (execHostRead tag hpa s) s).att = s.att ∧
      (resAfter (execHostRead tag hpa s) s).ecc = s.ecc ∧ (resAfter (execHostRead tag hpa s) s).tws = s.tws ∧
      (resAfter (execHostRead tag hpa s) s).twp = s.twp ∧ (resAfter (execHostRead tag hpa s) s).svc = s.svc ∧
      (resAfter (execHostRead tag hpa s) s).log = s.log ∧ (resAfter (execHostRead tag hpa s) s).pwr = s.pwr ∧
      (resAfter (execHostRead tag hpa s) s).fpl = s.fpl ∧ (resAfter (execHostRead tag hpa s) s).jtag = s.jtag ∧
      (resAfter (execHostRead tag hpa s) s).fuses = s.fuses ∧ (resAfter (execHostRead tag hpa s) s).cal = s.cal ∧
      (resAfter (execHostRead tag hpa s) s).free = s.free ∧ (resAfter (execHostRead tag hpa s) s).pending = s.pending ∧
      (resAfter (execHostRead tag hpa s) s).hst.linkUp = s.hst.linkUp ∧
      (resAfter (execHostRead tag hpa s) s).hst.gateClosed = s.hst.gateClosed := by
  have q1 := poisonedRead_frame
  have q2 := takeRead_frame
  have q3 := takeRead_frame2
  unfold execHostRead; (repeat' split) <;> simp_all

theorem execGpfPhase1_frame (s : State) :
    (resAfter (execGpfPhase1 s) s).almanac = s.almanac ∧ (resAfter (execGpfPhase1 s) s).dev = s.dev ∧
      (resAfter (execGpfPhase1 s) s).stations = s.stations ∧ (resAfter (execGpfPhase1 s) s).hst = s.hst ∧
      (resAfter (execGpfPhase1 s) s).drc = s.drc ∧ (resAfter (execGpfPhase1 s) s).dram = s.dram ∧
      (resAfter (execGpfPhase1 s) s).cht = s.cht ∧ (resAfter (execGpfPhase1 s) s).sui = s.sui ∧
      (resAfter (execGpfPhase1 s) s).stw = s.stw ∧ (resAfter (execGpfPhase1 s) s).sav = s.sav ∧
      (resAfter (execGpfPhase1 s) s).cel = s.cel ∧ (resAfter (execGpfPhase1 s) s).dmw = s.dmw ∧
      (resAfter (execGpfPhase1 s) s).nrg = s.nrg ∧ (resAfter (execGpfPhase1 s) s).gau = s.gau ∧
      (resAfter (execGpfPhase1 s) s).rek = s.rek ∧ (resAfter (execGpfPhase1 s) s).plk = s.plk ∧
      (resAfter (execGpfPhase1 s) s).att = s.att ∧ (resAfter (execGpfPhase1 s) s).ecc = s.ecc ∧
      (resAfter (execGpfPhase1 s) s).tws = s.tws ∧ (resAfter (execGpfPhase1 s) s).twp = s.twp ∧
      (resAfter (execGpfPhase1 s) s).svc = s.svc ∧ (resAfter (execGpfPhase1 s) s).log = s.log ∧
      (resAfter (execGpfPhase1 s) s).pwr = s.pwr ∧ (resAfter (execGpfPhase1 s) s).fpl = s.fpl ∧
      (resAfter (execGpfPhase1 s) s).jtag = s.jtag ∧ (resAfter (execGpfPhase1 s) s).fuses = s.fuses ∧
      (resAfter (execGpfPhase1 s) s).cal = s.cal ∧ (resAfter (execGpfPhase1 s) s).free = s.free ∧
      (resAfter (execGpfPhase1 s) s).pending = s.pending := by
  unfold execGpfPhase1; (repeat' split) <;> simp_all

theorem execGpfPhase2_frame (s : State) :
    (resAfter (execGpfPhase2 s) s).almanac = s.almanac ∧ (resAfter (execGpfPhase2 s) s).dev = s.dev ∧
      (resAfter (execGpfPhase2 s) s).stations = s.stations ∧ (resAfter (execGpfPhase2 s) s).drc = s.drc ∧
      (resAfter (execGpfPhase2 s) s).dram = s.dram ∧ (resAfter (execGpfPhase2 s) s).cht = s.cht ∧
      (resAfter (execGpfPhase2 s) s).sui = s.sui ∧ (resAfter (execGpfPhase2 s) s).stw = s.stw ∧
      (resAfter (execGpfPhase2 s) s).sav = s.sav ∧ (resAfter (execGpfPhase2 s) s).cel = s.cel ∧
      (resAfter (execGpfPhase2 s) s).dmw = s.dmw ∧ (resAfter (execGpfPhase2 s) s).nrg = s.nrg ∧
      (resAfter (execGpfPhase2 s) s).gau = s.gau ∧ (resAfter (execGpfPhase2 s) s).rek = s.rek ∧
      (resAfter (execGpfPhase2 s) s).plk = s.plk ∧ (resAfter (execGpfPhase2 s) s).att = s.att ∧
      (resAfter (execGpfPhase2 s) s).ecc = s.ecc ∧ (resAfter (execGpfPhase2 s) s).tws = s.tws ∧
      (resAfter (execGpfPhase2 s) s).twp = s.twp ∧ (resAfter (execGpfPhase2 s) s).svc = s.svc ∧
      (resAfter (execGpfPhase2 s) s).log = s.log ∧ (resAfter (execGpfPhase2 s) s).pwr = s.pwr ∧
      (resAfter (execGpfPhase2 s) s).fpl = s.fpl ∧ (resAfter (execGpfPhase2 s) s).jtag = s.jtag ∧
      (resAfter (execGpfPhase2 s) s).fuses = s.fuses ∧ (resAfter (execGpfPhase2 s) s).cal = s.cal ∧
      (resAfter (execGpfPhase2 s) s).out = s.out ∧ (resAfter (execGpfPhase2 s) s).free = s.free ∧
      (resAfter (execGpfPhase2 s) s).pending = s.pending ∧ (resAfter (execGpfPhase2 s) s).hst.linkUp = s.hst.linkUp ∧
      (resAfter (execGpfPhase2 s) s).hst.gateClosed = s.hst.gateClosed := by
  unfold execGpfPhase2; (repeat' split) <;> simp_all

theorem execGpfPhase2Drained_frame (s : State) :
    (resAfter (execGpfPhase2Drained s) s).almanac = s.almanac ∧ (resAfter (execGpfPhase2Drained s) s).dev = s.dev ∧
      (resAfter (execGpfPhase2Drained s) s).stations = s.stations ∧ (resAfter (execGpfPhase2Drained s) s).drc = s.drc ∧
      (resAfter (execGpfPhase2Drained s) s).dram = s.dram ∧ (resAfter (execGpfPhase2Drained s) s).cht = s.cht ∧
      (resAfter (execGpfPhase2Drained s) s).sui = s.sui ∧ (resAfter (execGpfPhase2Drained s) s).stw = s.stw ∧
      (resAfter (execGpfPhase2Drained s) s).sav = s.sav ∧ (resAfter (execGpfPhase2Drained s) s).cel = s.cel ∧
      (resAfter (execGpfPhase2Drained s) s).dmw = s.dmw ∧ (resAfter (execGpfPhase2Drained s) s).nrg = s.nrg ∧
      (resAfter (execGpfPhase2Drained s) s).gau = s.gau ∧ (resAfter (execGpfPhase2Drained s) s).rek = s.rek ∧
      (resAfter (execGpfPhase2Drained s) s).plk = s.plk ∧ (resAfter (execGpfPhase2Drained s) s).att = s.att ∧
      (resAfter (execGpfPhase2Drained s) s).ecc = s.ecc ∧ (resAfter (execGpfPhase2Drained s) s).tws = s.tws ∧
      (resAfter (execGpfPhase2Drained s) s).twp = s.twp ∧ (resAfter (execGpfPhase2Drained s) s).svc = s.svc ∧
      (resAfter (execGpfPhase2Drained s) s).log = s.log ∧ (resAfter (execGpfPhase2Drained s) s).pwr = s.pwr ∧
      (resAfter (execGpfPhase2Drained s) s).fpl = s.fpl ∧ (resAfter (execGpfPhase2Drained s) s).jtag = s.jtag ∧
      (resAfter (execGpfPhase2Drained s) s).fuses = s.fuses ∧ (resAfter (execGpfPhase2Drained s) s).cal = s.cal ∧
      (resAfter (execGpfPhase2Drained s) s).free = s.free ∧ (resAfter (execGpfPhase2Drained s) s).pending = s.pending := by
  unfold execGpfPhase2Drained; (repeat' split) <;> simp_all

theorem execGpfPhase2Drained_frame3 (s : State) :
    (resAfter (execGpfPhase2Drained s) s).hst.linkUp = s.hst.linkUp ∧
      (resAfter (execGpfPhase2Drained s) s).hst.gateClosed = s.hst.gateClosed := by
  simp only [execGpfPhase2Drained]; (repeat' split) <;> simp

theorem execIdeKeyProgram_frame (ioSecure memSecure : Bool) (s : State) :
    (resAfter (execIdeKeyProgram ioSecure memSecure s) s).almanac = s.almanac ∧
      (resAfter (execIdeKeyProgram ioSecure memSecure s) s).dev = s.dev ∧
      (resAfter (execIdeKeyProgram ioSecure memSecure s) s).stations = s.stations ∧
      (resAfter (execIdeKeyProgram ioSecure memSecure s) s).drc = s.drc ∧
      (resAfter (execIdeKeyProgram ioSecure memSecure s) s).dram = s.dram ∧
      (resAfter (execIdeKeyProgram ioSecure memSecure s) s).cht = s.cht ∧
      (resAfter (execIdeKeyProgram ioSecure memSecure s) s).sui = s.sui ∧
      (resAfter (execIdeKeyProgram ioSecure memSecure s) s).stw = s.stw ∧
      (resAfter (execIdeKeyProgram ioSecure memSecure s) s).sav = s.sav ∧
      (resAfter (execIdeKeyProgram ioSecure memSecure s) s).cel = s.cel ∧
      (resAfter (execIdeKeyProgram ioSecure memSecure s) s).dmw = s.dmw ∧
      (resAfter (execIdeKeyProgram ioSecure memSecure s) s).nrg = s.nrg ∧
      (resAfter (execIdeKeyProgram ioSecure memSecure s) s).gau = s.gau ∧
      (resAfter (execIdeKeyProgram ioSecure memSecure s) s).rek = s.rek ∧
      (resAfter (execIdeKeyProgram ioSecure memSecure s) s).plk = s.plk ∧
      (resAfter (execIdeKeyProgram ioSecure memSecure s) s).att = s.att ∧
      (resAfter (execIdeKeyProgram ioSecure memSecure s) s).ecc = s.ecc ∧
      (resAfter (execIdeKeyProgram ioSecure memSecure s) s).tws = s.tws ∧
      (resAfter (execIdeKeyProgram ioSecure memSecure s) s).twp = s.twp ∧
      (resAfter (execIdeKeyProgram ioSecure memSecure s) s).svc = s.svc ∧
      (resAfter (execIdeKeyProgram ioSecure memSecure s) s).log = s.log ∧
      (resAfter (execIdeKeyProgram ioSecure memSecure s) s).pwr = s.pwr ∧
      (resAfter (execIdeKeyProgram ioSecure memSecure s) s).fpl = s.fpl ∧
      (resAfter (execIdeKeyProgram ioSecure memSecure s) s).jtag = s.jtag ∧
      (resAfter (execIdeKeyProgram ioSecure memSecure s) s).fuses = s.fuses ∧
      (resAfter (execIdeKeyProgram ioSecure memSecure s) s).cal = s.cal ∧
      (resAfter (execIdeKeyProgram ioSecure memSecure s) s).out = s.out ∧
      (resAfter (execIdeKeyProgram ioSecure memSecure s) s).free = s.free ∧
      (resAfter (execIdeKeyProgram ioSecure memSecure s) s).pending = s.pending ∧
      (resAfter (execIdeKeyProgram ioSecure memSecure s) s).hst.linkUp = s.hst.linkUp ∧
      (resAfter (execIdeKeyProgram ioSecure memSecure s) s).hst.gateClosed = s.hst.gateClosed := by
  simp [execIdeKeyProgram]

theorem discardAll_frame (s : State) :
    (discardAll s).almanac = s.almanac ∧ (discardAll s).dev = s.dev ∧ (discardAll s).stations = s.stations ∧
      (discardAll s).drc = s.drc ∧ (discardAll s).dram = s.dram ∧ (discardAll s).cht = s.cht ∧ (discardAll s).sui = s.sui ∧
      (discardAll s).cel = s.cel ∧ (discardAll s).dmw = s.dmw ∧ (discardAll s).nrg = s.nrg ∧ (discardAll s).gau = s.gau ∧
      (discardAll s).rek = s.rek ∧ (discardAll s).plk = s.plk ∧ (discardAll s).att = s.att ∧ (discardAll s).ecc = s.ecc ∧
      (discardAll s).tws = s.tws ∧ (discardAll s).twp = s.twp ∧ (discardAll s).svc = s.svc ∧ (discardAll s).log = s.log ∧
      (discardAll s).pwr = s.pwr ∧ (discardAll s).fpl = s.fpl ∧ (discardAll s).jtag = s.jtag ∧ (discardAll s).fuses = s.fuses ∧
      (discardAll s).cal = s.cal ∧ (discardAll s).free = s.free ∧ (discardAll s).pending = s.pending := by
  have q1 := admitWrites_frame
  have q2 := discard_frame
  simp [q1, q2, discardAll]

theorem execIdeIntegrityFailure_frame (stream : Nat) (s : State) :
    (resAfter (execIdeIntegrityFailure stream s) s).almanac = s.almanac ∧
      (resAfter (execIdeIntegrityFailure stream s) s).fuses = s.fuses ∧
      (resAfter (execIdeIntegrityFailure stream s) s).cal = s.cal ∧
      (resAfter (execIdeIntegrityFailure stream s) s).pending = s.pending := by
  have q1 := discardAll_frame
  have q2 := event_frame
  have q3 := poisonedRead_frame
  have q4 := raise_frame
  have q5 := reeval_frame
  simp [q1, q2, q3, q4, q5, execIdeIntegrityFailure]

theorem svcStat_frame (c : Nat) (s : State) :
    (svcStat c s).2.2.2.almanac = s.almanac ∧ (svcStat c s).2.2.2.dev = s.dev ∧ (svcStat c s).2.2.2.stations = s.stations ∧
      (svcStat c s).2.2.2.hst = s.hst ∧ (svcStat c s).2.2.2.drc = s.drc ∧ (svcStat c s).2.2.2.dram = s.dram ∧
      (svcStat c s).2.2.2.cht = s.cht ∧ (svcStat c s).2.2.2.sui = s.sui ∧ (svcStat c s).2.2.2.stw = s.stw ∧
      (svcStat c s).2.2.2.sav = s.sav ∧ (svcStat c s).2.2.2.cel = s.cel ∧ (svcStat c s).2.2.2.dmw = s.dmw ∧
      (svcStat c s).2.2.2.nrg = s.nrg ∧ (svcStat c s).2.2.2.gau = s.gau ∧ (svcStat c s).2.2.2.rek = s.rek ∧
      (svcStat c s).2.2.2.plk = s.plk ∧ (svcStat c s).2.2.2.att = s.att ∧ (svcStat c s).2.2.2.ecc = s.ecc ∧
      (svcStat c s).2.2.2.tws = s.tws ∧ (svcStat c s).2.2.2.twp = s.twp ∧ (svcStat c s).2.2.2.svc = s.svc ∧
      (svcStat c s).2.2.2.log = s.log ∧ (svcStat c s).2.2.2.pwr = s.pwr ∧ (svcStat c s).2.2.2.fpl = s.fpl ∧
      (svcStat c s).2.2.2.jtag = s.jtag ∧ (svcStat c s).2.2.2.fuses = s.fuses ∧ (svcStat c s).2.2.2.cal = s.cal ∧
      (svcStat c s).2.2.2.out = s.out ∧ (svcStat c s).2.2.2.free = s.free ∧ (svcStat c s).2.2.2.pending = s.pending := by
  simp [svcStat]

theorem sendResponse_frame (before : Svc) (type seq : Nat) (payload : List Byte) (s : State) :
    (sendResponse before type seq payload s).almanac = s.almanac ∧ (sendResponse before type seq payload s).dev = s.dev ∧
      (sendResponse before type seq payload s).stations = s.stations ∧ (sendResponse before type seq payload s).hst = s.hst ∧
      (sendResponse before type seq payload s).drc = s.drc ∧ (sendResponse before type seq payload s).dram = s.dram ∧
      (sendResponse before type seq payload s).cht = s.cht ∧ (sendResponse before type seq payload s).sui = s.sui ∧
      (sendResponse before type seq payload s).stw = s.stw ∧ (sendResponse before type seq payload s).sav = s.sav ∧
      (sendResponse before type seq payload s).cel = s.cel ∧ (sendResponse before type seq payload s).dmw = s.dmw ∧
      (sendResponse before type seq payload s).nrg = s.nrg ∧ (sendResponse before type seq payload s).gau = s.gau ∧
      (sendResponse before type seq payload s).rek = s.rek ∧ (sendResponse before type seq payload s).plk = s.plk ∧
      (sendResponse before type seq payload s).att = s.att ∧ (sendResponse before type seq payload s).ecc = s.ecc ∧
      (sendResponse before type seq payload s).tws = s.tws ∧ (sendResponse before type seq payload s).twp = s.twp ∧
      (sendResponse before type seq payload s).svc = s.svc ∧ (sendResponse before type seq payload s).log = s.log ∧
      (sendResponse before type seq payload s).pwr = s.pwr ∧ (sendResponse before type seq payload s).fpl = s.fpl ∧
      (sendResponse before type seq payload s).jtag = s.jtag ∧ (sendResponse before type seq payload s).fuses = s.fuses ∧
      (sendResponse before type seq payload s).cal = s.cal ∧ (sendResponse before type seq payload s).free = s.free ∧
      (sendResponse before type seq payload s).pending = s.pending := by
  simp [sendResponse]

theorem setPhase_frame (p bank : Nat) (s : State) :
    (setPhase p bank s).almanac = s.almanac ∧ (setPhase p bank s).fuses = s.fuses ∧ (setPhase p bank s).cal = s.cal ∧
      (setPhase p bank s).pending = s.pending := by
  have q1 := logRecord_frame
  simp [q1, setPhase]

theorem setResult_frame (r : Nat) (s : State) :
    (setResult r s).almanac = s.almanac ∧ (setResult r s).dev = s.dev ∧ (setResult r s).stations = s.stations ∧
      (setResult r s).hst = s.hst ∧ (setResult r s).drc = s.drc ∧ (setResult r s).dram = s.dram ∧ (setResult r s).cht = s.cht ∧
      (setResult r s).sui = s.sui ∧ (setResult r s).stw = s.stw ∧ (setResult r s).sav = s.sav ∧ (setResult r s).cel = s.cel ∧
      (setResult r s).dmw = s.dmw ∧ (setResult r s).nrg = s.nrg ∧ (setResult r s).gau = s.gau ∧ (setResult r s).rek = s.rek ∧
      (setResult r s).plk = s.plk ∧ (setResult r s).att = s.att ∧ (setResult r s).ecc = s.ecc ∧ (setResult r s).tws = s.tws ∧
      (setResult r s).twp = s.twp ∧ (setResult r s).log = s.log ∧ (setResult r s).pwr = s.pwr ∧ (setResult r s).fpl = s.fpl ∧
      (setResult r s).jtag = s.jtag ∧ (setResult r s).fuses = s.fuses ∧ (setResult r s).cal = s.cal ∧
      (setResult r s).out = s.out ∧ (setResult r s).free = s.free ∧ (setResult r s).pending = s.pending := by
  simp [setResult]

theorem programBytes_frame (b ofs : Nat) (l : List Byte) (s : State) :
    (programBytes b ofs l s).almanac = s.almanac ∧ (programBytes b ofs l s).dev = s.dev ∧
      (programBytes b ofs l s).stations = s.stations ∧ (programBytes b ofs l s).hst = s.hst ∧
      (programBytes b ofs l s).drc = s.drc ∧ (programBytes b ofs l s).dram = s.dram ∧ (programBytes b ofs l s).cht = s.cht ∧
      (programBytes b ofs l s).sui = s.sui ∧ (programBytes b ofs l s).stw = s.stw ∧ (programBytes b ofs l s).sav = s.sav ∧
      (programBytes b ofs l s).cel = s.cel ∧ (programBytes b ofs l s).dmw = s.dmw ∧ (programBytes b ofs l s).nrg = s.nrg ∧
      (programBytes b ofs l s).gau = s.gau ∧ (programBytes b ofs l s).rek = s.rek ∧ (programBytes b ofs l s).plk = s.plk ∧
      (programBytes b ofs l s).ecc = s.ecc ∧ (programBytes b ofs l s).tws = s.tws ∧ (programBytes b ofs l s).twp = s.twp ∧
      (programBytes b ofs l s).svc = s.svc ∧ (programBytes b ofs l s).log = s.log ∧ (programBytes b ofs l s).pwr = s.pwr ∧
      (programBytes b ofs l s).fpl = s.fpl ∧ (programBytes b ofs l s).jtag = s.jtag ∧
      (programBytes b ofs l s).fuses = s.fuses ∧ (programBytes b ofs l s).cal = s.cal ∧ (programBytes b ofs l s).out = s.out ∧
      (programBytes b ofs l s).free = s.free ∧ (programBytes b ofs l s).pending = s.pending := by
  have q1 := modBank_frame
  simp [q1, programBytes]

theorem programMarker_frame (b : Nat) (m : Marker) (reads : Bool) (s : State) :
    (programMarker b m reads s).almanac = s.almanac ∧ (programMarker b m reads s).dev = s.dev ∧
      (programMarker b m reads s).stations = s.stations ∧ (programMarker b m reads s).hst = s.hst ∧
      (programMarker b m reads s).drc = s.drc ∧ (programMarker b m reads s).dram = s.dram ∧
      (programMarker b m reads s).cht = s.cht ∧ (programMarker b m reads s).sui = s.sui ∧
      (programMarker b m reads s).stw = s.stw ∧ (programMarker b m reads s).sav = s.sav ∧
      (programMarker b m reads s).cel = s.cel ∧ (programMarker b m reads s).dmw = s.dmw ∧
      (programMarker b m reads s).nrg = s.nrg ∧ (programMarker b m reads s).gau = s.gau ∧
      (programMarker b m reads s).rek = s.rek ∧ (programMarker b m reads s).plk = s.plk ∧
      (programMarker b m reads s).ecc = s.ecc ∧ (programMarker b m reads s).tws = s.tws ∧
      (programMarker b m reads s).twp = s.twp ∧ (programMarker b m reads s).svc = s.svc ∧
      (programMarker b m reads s).log = s.log ∧ (programMarker b m reads s).pwr = s.pwr ∧
      (programMarker b m reads s).fpl = s.fpl ∧ (programMarker b m reads s).jtag = s.jtag ∧
      (programMarker b m reads s).fuses = s.fuses ∧ (programMarker b m reads s).cal = s.cal ∧
      (programMarker b m reads s).out = s.out ∧ (programMarker b m reads s).free = s.free ∧
      (programMarker b m reads s).pending = s.pending := by
  have q1 := modBank_frame
  simp [q1, programMarker]

theorem beginProbation_frame (b : Nat) (s : State) :
    (beginProbation b s).almanac = s.almanac ∧ (beginProbation b s).fuses = s.fuses ∧ (beginProbation b s).cal = s.cal ∧
      (beginProbation b s).pending = s.pending := by
  have q1 := setPhase_frame
  simp [q1, beginProbation]

theorem migrate_frame (b : Nat) (s : State) :
    (migrate b s).almanac = s.almanac ∧ (migrate b s).dev = s.dev ∧ (migrate b s).stations = s.stations ∧
      (migrate b s).hst = s.hst ∧ (migrate b s).drc = s.drc ∧ (migrate b s).dram = s.dram ∧ (migrate b s).cht = s.cht ∧
      (migrate b s).sui = s.sui ∧ (migrate b s).stw = s.stw ∧ (migrate b s).sav = s.sav ∧ (migrate b s).cel = s.cel ∧
      (migrate b s).dmw = s.dmw ∧ (migrate b s).nrg = s.nrg ∧ (migrate b s).gau = s.gau ∧ (migrate b s).rek = s.rek ∧
      (migrate b s).plk = s.plk ∧ (migrate b s).ecc = s.ecc ∧ (migrate b s).tws = s.tws ∧ (migrate b s).twp = s.twp ∧
      (migrate b s).svc = s.svc ∧ (migrate b s).log = s.log ∧ (migrate b s).pwr = s.pwr ∧ (migrate b s).fpl = s.fpl ∧
      (migrate b s).jtag = s.jtag ∧ (migrate b s).out = s.out ∧ (migrate b s).free = s.free ∧
      (migrate b s).pending = s.pending := by
  have q1 := programMarker_frame
  simp [q1, migrate]

theorem confirmSet_frame (first second : Bool) (s : State) :
    (confirmSet first second s).2.2.almanac = s.almanac ∧ (confirmSet first second s).2.2.pending = s.pending := by
  have q1 := migrate_frame
  have q2 := programMarker_frame
  have q3 := raiseAddr_frame
  have q4 := setPhase_frame
  simp only [confirmSet]; (repeat' split) <;> simp [q1, q2, q3, q4]

theorem enterDrydock_frame (s : State) :
    (enterDrydock s).almanac = s.almanac ∧ (enterDrydock s).stations = s.stations ∧ (enterDrydock s).drc = s.drc ∧
      (enterDrydock s).dram = s.dram ∧ (enterDrydock s).cht = s.cht ∧ (enterDrydock s).sui = s.sui ∧
      (enterDrydock s).stw = s.stw ∧ (enterDrydock s).sav = s.sav ∧ (enterDrydock s).cel = s.cel ∧
      (enterDrydock s).dmw = s.dmw ∧ (enterDrydock s).nrg = s.nrg ∧ (enterDrydock s).gau = s.gau ∧
      (enterDrydock s).rek = s.rek ∧ (enterDrydock s).att = s.att ∧ (enterDrydock s).ecc = s.ecc ∧
      (enterDrydock s).twp = s.twp ∧ (enterDrydock s).svc = s.svc ∧ (enterDrydock s).pwr = s.pwr ∧
      (enterDrydock s).fpl = s.fpl ∧ (enterDrydock s).jtag = s.jtag ∧ (enterDrydock s).fuses = s.fuses ∧
      (enterDrydock s).cal = s.cal ∧ (enterDrydock s).free = s.free ∧ (enterDrydock s).pending = s.pending ∧
      (enterDrydock s).hst.linkUp = s.hst.linkUp ∧ (enterDrydock s).hst.gateClosed = s.hst.gateClosed ∧
      (enterDrydock s).log.aonPowered = s.log.aonPowered := by
  have q1 := giveAbandon_frame
  have q2 := transition_frame
  simp [q1, q2, enterDrydock]

theorem imageCheck_frame (pass : Bool) (s : State) :
    (imageCheck pass s).almanac = s.almanac ∧ (imageCheck pass s).pending = s.pending := by
  have q1 := enterDrydock_frame
  have q2 := migrate_frame
  have q3 := raiseAddr_frame
  unfold imageCheck; (repeat' split) <;> simp_all

theorem eraseRingSector_frame (k : Nat) (s : State) :
    (eraseRingSector k s).almanac = s.almanac ∧ (eraseRingSector k s).stations = s.stations ∧
      (eraseRingSector k s).hst = s.hst ∧ (eraseRingSector k s).drc = s.drc ∧ (eraseRingSector k s).dram = s.dram ∧
      (eraseRingSector k s).cht = s.cht ∧ (eraseRingSector k s).sui = s.sui ∧ (eraseRingSector k s).stw = s.stw ∧
      (eraseRingSector k s).sav = s.sav ∧ (eraseRingSector k s).cel = s.cel ∧ (eraseRingSector k s).dmw = s.dmw ∧
      (eraseRingSector k s).nrg = s.nrg ∧ (eraseRingSector k s).gau = s.gau ∧ (eraseRingSector k s).rek = s.rek ∧
      (eraseRingSector k s).plk = s.plk ∧ (eraseRingSector k s).tws = s.tws ∧ (eraseRingSector k s).twp = s.twp ∧
      (eraseRingSector k s).svc = s.svc ∧ (eraseRingSector k s).pwr = s.pwr ∧ (eraseRingSector k s).fpl = s.fpl ∧
      (eraseRingSector k s).jtag = s.jtag ∧ (eraseRingSector k s).fuses = s.fuses ∧ (eraseRingSector k s).out = s.out ∧
      (eraseRingSector k s).free = s.free ∧ (eraseRingSector k s).pending = s.pending ∧
      (eraseRingSector k s).dev.state = s.dev.state ∧ (eraseRingSector k s).log.aonPowered = s.log.aonPowered := by
  have q1 := eraseSector_frame
  simp [q1, eraseRingSector]

theorem ringWriteRec_frame (r : LogRecord) (s : State) :
    (ringWriteRec r s).almanac = s.almanac ∧ (ringWriteRec r s).stations = s.stations ∧ (ringWriteRec r s).hst = s.hst ∧
      (ringWriteRec r s).drc = s.drc ∧ (ringWriteRec r s).dram = s.dram ∧ (ringWriteRec r s).cht = s.cht ∧
      (ringWriteRec r s).sui = s.sui ∧ (ringWriteRec r s).stw = s.stw ∧ (ringWriteRec r s).sav = s.sav ∧
      (ringWriteRec r s).cel = s.cel ∧ (ringWriteRec r s).dmw = s.dmw ∧ (ringWriteRec r s).nrg = s.nrg ∧
      (ringWriteRec r s).gau = s.gau ∧ (ringWriteRec r s).rek = s.rek ∧ (ringWriteRec r s).plk = s.plk ∧
      (ringWriteRec r s).tws = s.tws ∧ (ringWriteRec r s).twp = s.twp ∧ (ringWriteRec r s).svc = s.svc ∧
      (ringWriteRec r s).pwr = s.pwr ∧ (ringWriteRec r s).fpl = s.fpl ∧ (ringWriteRec r s).jtag = s.jtag ∧
      (ringWriteRec r s).fuses = s.fuses ∧ (ringWriteRec r s).out = s.out ∧ (ringWriteRec r s).free = s.free ∧
      (ringWriteRec r s).pending = s.pending := by
  have q1 := eraseRingSector_frame
  simp [q1, ringWriteRec]

theorem ringWriteRec_frame3 (r : LogRecord) (s : State) :
    (ringWriteRec r s).dev.state = s.dev.state ∧ (ringWriteRec r s).log.aonPowered = s.log.aonPowered := by
  have q1 := eraseRingSector_frame
  simp only [ringWriteRec]; (repeat' split) <;> simp [q1]

theorem reportLosses_frame (s : State) :
    (reportLosses s).almanac = s.almanac ∧ (reportLosses s).fuses = s.fuses ∧ (reportLosses s).cal = s.cal ∧
      (reportLosses s).pending = s.pending := by
  have q1 := logRecord_frame
  simp [q1, reportLosses]

theorem writeRecords_frame (s : State) :
    (writeRecords s).almanac = s.almanac ∧ (writeRecords s).fuses = s.fuses ∧ (writeRecords s).pending = s.pending := by
  have q1 := reportLosses_frame
  have q2 := ringWriteRec_frame
  simp [q1, q2, writeRecords]

theorem coldRestore_frame (s : State) :
    (coldRestore s).dev = s.dev ∧ (coldRestore s).stations = s.stations ∧ (coldRestore s).hst = s.hst ∧
      (coldRestore s).drc = s.drc ∧ (coldRestore s).dram = s.dram ∧ (coldRestore s).cht = s.cht ∧ (coldRestore s).sui = s.sui ∧
      (coldRestore s).stw = s.stw ∧ (coldRestore s).sav = s.sav ∧ (coldRestore s).cel = s.cel ∧ (coldRestore s).dmw = s.dmw ∧
      (coldRestore s).gau = s.gau ∧ (coldRestore s).rek = s.rek ∧ (coldRestore s).plk = s.plk ∧ (coldRestore s).att = s.att ∧
      (coldRestore s).ecc = s.ecc ∧ (coldRestore s).tws = s.tws ∧ (coldRestore s).twp = s.twp ∧ (coldRestore s).svc = s.svc ∧
      (coldRestore s).pwr = s.pwr ∧ (coldRestore s).fpl = s.fpl ∧ (coldRestore s).jtag = s.jtag ∧
      (coldRestore s).fuses = s.fuses ∧ (coldRestore s).cal = s.cal ∧ (coldRestore s).out = s.out ∧
      (coldRestore s).free = s.free ∧ (coldRestore s).pending = s.pending := by
  have q1 := exerFromNow_frame
  simp [q1, coldRestore]

theorem coldLoss_frame (s : State) :
    (coldLoss s).almanac = s.almanac ∧ (coldLoss s).dev = s.dev ∧ (coldLoss s).stations = s.stations ∧
      (coldLoss s).drc = s.drc ∧ (coldLoss s).dram = s.dram ∧ (coldLoss s).cht = s.cht ∧ (coldLoss s).sui = s.sui ∧
      (coldLoss s).stw = s.stw ∧ (coldLoss s).cel = s.cel ∧ (coldLoss s).dmw = s.dmw ∧ (coldLoss s).gau = s.gau ∧
      (coldLoss s).rek = s.rek ∧ (coldLoss s).plk = s.plk ∧ (coldLoss s).att = s.att ∧ (coldLoss s).ecc = s.ecc ∧
      (coldLoss s).tws = s.tws ∧ (coldLoss s).twp = s.twp ∧ (coldLoss s).svc = s.svc ∧ (coldLoss s).pwr = s.pwr ∧
      (coldLoss s).fpl = s.fpl ∧ (coldLoss s).jtag = s.jtag ∧ (coldLoss s).fuses = s.fuses ∧ (coldLoss s).cal = s.cal ∧
      (coldLoss s).out = s.out ∧ (coldLoss s).free = s.free ∧ (coldLoss s).pending = s.pending ∧
      (coldLoss s).hst.linkUp = s.hst.linkUp ∧ (coldLoss s).hst.gateClosed = s.hst.gateClosed := by
  simp [coldLoss]

theorem execAlmanacColdRestore_frame (s : State) :
    (resAfter (execAlmanacColdRestore s) s).dev = s.dev ∧ (resAfter (execAlmanacColdRestore s) s).stations = s.stations ∧
      (resAfter (execAlmanacColdRestore s) s).hst = s.hst ∧ (resAfter (execAlmanacColdRestore s) s).drc = s.drc ∧
      (resAfter (execAlmanacColdRestore s) s).dram = s.dram ∧ (resAfter (execAlmanacColdRestore s) s).cht = s.cht ∧
      (resAfter (execAlmanacColdRestore s) s).sui = s.sui ∧ (resAfter (execAlmanacColdRestore s) s).stw = s.stw ∧
      (resAfter (execAlmanacColdRestore s) s).sav = s.sav ∧ (resAfter (execAlmanacColdRestore s) s).cel = s.cel ∧
      (resAfter (execAlmanacColdRestore s) s).dmw = s.dmw ∧ (resAfter (execAlmanacColdRestore s) s).gau = s.gau ∧
      (resAfter (execAlmanacColdRestore s) s).rek = s.rek ∧ (resAfter (execAlmanacColdRestore s) s).plk = s.plk ∧
      (resAfter (execAlmanacColdRestore s) s).att = s.att ∧ (resAfter (execAlmanacColdRestore s) s).ecc = s.ecc ∧
      (resAfter (execAlmanacColdRestore s) s).tws = s.tws ∧ (resAfter (execAlmanacColdRestore s) s).twp = s.twp ∧
      (resAfter (execAlmanacColdRestore s) s).svc = s.svc ∧ (resAfter (execAlmanacColdRestore s) s).pwr = s.pwr ∧
      (resAfter (execAlmanacColdRestore s) s).fpl = s.fpl ∧ (resAfter (execAlmanacColdRestore s) s).jtag = s.jtag ∧
      (resAfter (execAlmanacColdRestore s) s).fuses = s.fuses ∧ (resAfter (execAlmanacColdRestore s) s).cal = s.cal ∧
      (resAfter (execAlmanacColdRestore s) s).out = s.out ∧ (resAfter (execAlmanacColdRestore s) s).free = s.free ∧
      (resAfter (execAlmanacColdRestore s) s).pending = s.pending := by
  have q1 := coldRestore_frame
  simp [q1, execAlmanacColdRestore]

theorem execLogRecordWrite_frame (s : State) :
    (resAfter (execLogRecordWrite s) s).almanac = s.almanac ∧ (resAfter (execLogRecordWrite s) s).fuses = s.fuses ∧
      (resAfter (execLogRecordWrite s) s).pending = s.pending := by
  have q1 := writeRecords_frame
  simp [q1, execLogRecordWrite]

theorem execColdLoss_frame (s : State) :
    (resAfter (execColdLoss s) s).almanac = s.almanac ∧ (resAfter (execColdLoss s) s).dev = s.dev ∧
      (resAfter (execColdLoss s) s).stations = s.stations ∧ (resAfter (execColdLoss s) s).drc = s.drc ∧
      (resAfter (execColdLoss s) s).dram = s.dram ∧ (resAfter (execColdLoss s) s).cht = s.cht ∧
      (resAfter (execColdLoss s) s).sui = s.sui ∧ (resAfter (execColdLoss s) s).stw = s.stw ∧
      (resAfter (execColdLoss s) s).cel = s.cel ∧ (resAfter (execColdLoss s) s).dmw = s.dmw ∧
      (resAfter (execColdLoss s) s).gau = s.gau ∧ (resAfter (execColdLoss s) s).rek = s.rek ∧
      (resAfter (execColdLoss s) s).plk = s.plk ∧ (resAfter (execColdLoss s) s).att = s.att ∧
      (resAfter (execColdLoss s) s).ecc = s.ecc ∧ (resAfter (execColdLoss s) s).tws = s.tws ∧
      (resAfter (execColdLoss s) s).twp = s.twp ∧ (resAfter (execColdLoss s) s).svc = s.svc ∧
      (resAfter (execColdLoss s) s).pwr = s.pwr ∧ (resAfter (execColdLoss s) s).fpl = s.fpl ∧
      (resAfter (execColdLoss s) s).jtag = s.jtag ∧ (resAfter (execColdLoss s) s).fuses = s.fuses ∧
      (resAfter (execColdLoss s) s).cal = s.cal ∧ (resAfter (execColdLoss s) s).out = s.out ∧
      (resAfter (execColdLoss s) s).free = s.free ∧ (resAfter (execColdLoss s) s).pending = s.pending ∧
      (resAfter (execColdLoss s) s).hst.linkUp = s.hst.linkUp ∧
      (resAfter (execColdLoss s) s).hst.gateClosed = s.hst.gateClosed := by
  have q1 := coldLoss_frame
  unfold execColdLoss; (repeat' split) <;> simp_all

theorem execSweepVisit_frame (s : State) :
    (resAfter (execSweepVisit s) s).almanac = s.almanac ∧ (resAfter (execSweepVisit s) s).dev = s.dev ∧
      (resAfter (execSweepVisit s) s).stations = s.stations ∧ (resAfter (execSweepVisit s) s).hst = s.hst ∧
      (resAfter (execSweepVisit s) s).drc = s.drc ∧ (resAfter (execSweepVisit s) s).dram = s.dram ∧
      (resAfter (execSweepVisit s) s).sav = s.sav ∧ (resAfter (execSweepVisit s) s).cel = s.cel ∧
      (resAfter (execSweepVisit s) s).dmw = s.dmw ∧ (resAfter (execSweepVisit s) s).nrg = s.nrg ∧
      (resAfter (execSweepVisit s) s).gau = s.gau ∧ (resAfter (execSweepVisit s) s).rek = s.rek ∧
      (resAfter (execSweepVisit s) s).plk = s.plk ∧ (resAfter (execSweepVisit s) s).att = s.att ∧
      (resAfter (execSweepVisit s) s).ecc = s.ecc ∧ (resAfter (execSweepVisit s) s).tws = s.tws ∧
      (resAfter (execSweepVisit s) s).twp = s.twp ∧ (resAfter (execSweepVisit s) s).svc = s.svc ∧
      (resAfter (execSweepVisit s) s).log = s.log ∧ (resAfter (execSweepVisit s) s).pwr = s.pwr ∧
      (resAfter (execSweepVisit s) s).fpl = s.fpl ∧ (resAfter (execSweepVisit s) s).jtag = s.jtag ∧
      (resAfter (execSweepVisit s) s).fuses = s.fuses ∧ (resAfter (execSweepVisit s) s).cal = s.cal ∧
      (resAfter (execSweepVisit s) s).out = s.out ∧ (resAfter (execSweepVisit s) s).free = s.free ∧
      (resAfter (execSweepVisit s) s).pending = s.pending := by
  have q1 := visitTile_frame
  simp only [execSweepVisit]; (repeat' split) <;> simp [q1]

theorem execStowStart_frame (s : State) :
    (resAfter (execStowStart s) s).almanac = s.almanac ∧ (resAfter (execStowStart s) s).dev = s.dev ∧
      (resAfter (execStowStart s) s).stations = s.stations ∧ (resAfter (execStowStart s) s).dram = s.dram ∧
      (resAfter (execStowStart s) s).sav = s.sav ∧ (resAfter (execStowStart s) s).dmw = s.dmw ∧
      (resAfter (execStowStart s) s).nrg = s.nrg ∧ (resAfter (execStowStart s) s).gau = s.gau ∧
      (resAfter (execStowStart s) s).rek = s.rek ∧ (resAfter (execStowStart s) s).plk = s.plk ∧
      (resAfter (execStowStart s) s).att = s.att ∧ (resAfter (execStowStart s) s).ecc = s.ecc ∧
      (resAfter (execStowStart s) s).tws = s.tws ∧ (resAfter (execStowStart s) s).twp = s.twp ∧
      (resAfter (execStowStart s) s).svc = s.svc ∧ (resAfter (execStowStart s) s).pwr = s.pwr ∧
      (resAfter (execStowStart s) s).fpl = s.fpl ∧ (resAfter (execStowStart s) s).jtag = s.jtag ∧
      (resAfter (execStowStart s) s).fuses = s.fuses ∧ (resAfter (execStowStart s) s).cal = s.cal ∧
      (resAfter (execStowStart s) s).pending = s.pending ∧ (resAfter (execStowStart s) s).hst.linkUp = s.hst.linkUp ∧
      (resAfter (execStowStart s) s).hst.gateClosed = s.hst.gateClosed ∧
      (resAfter (execStowStart s) s).log.aonPowered = s.log.aonPowered := by
  have q1 := callTile_frame
  have q2 := dropCandidate_frame
  have q3 := startStow_frame
  simp only [execStowStart]; (repeat' split) <;> simp [q1, q2, q3]

theorem deliver_frame (pass : Bool) (t : Nat) (s : State) :
    (deliver pass t s).almanac = s.almanac ∧ (deliver pass t s).fuses = s.fuses ∧ (deliver pass t s).cal = s.cal ∧
      (deliver pass t s).pending = s.pending := by
  have q1 := completeTile_frame
  have q2 := raiseAddr_frame
  simp [q1, q2, deliver]

theorem execStallReevaluate_frame (s : State) :
    (resAfter (execStallReevaluate s) s).almanac = s.almanac ∧ (resAfter (execStallReevaluate s) s).fuses = s.fuses ∧
      (resAfter (execStallReevaluate s) s).cal = s.cal ∧ (resAfter (execStallReevaluate s) s).pending = s.pending := by
  have q1 := reevalStalled_frame
  unfold execStallReevaluate; (repeat' split) <;> simp_all

theorem execStallBound_frame (index : Nat) (s : State) :
    (resAfter (execStallBound index s) s).fuses = s.fuses ∧ (resAfter (execStallBound index s) s).cal = s.cal ∧
      (resAfter (execStallBound index s) s).pending = s.pending := by
  have q1 := advanceTo_frame
  have q2 := claimGranted_frame
  have q3 := grantClaim_frame
  have q4 := modSuite_frame
  have q5 := noteStall_frame
  unfold execStallBound; (repeat' split) <;> simp_all

theorem execStallEventWindow_frame (s : State) :
    (resAfter (execStallEventWindow s) s).dev = s.dev ∧ (resAfter (execStallEventWindow s) s).stations = s.stations ∧
      (resAfter (execStallEventWindow s) s).drc = s.drc ∧ (resAfter (execStallEventWindow s) s).dram = s.dram ∧
      (resAfter (execStallEventWindow s) s).cht = s.cht ∧ (resAfter (execStallEventWindow s) s).sui = s.sui ∧
      (resAfter (execStallEventWindow s) s).sav = s.sav ∧ (resAfter (execStallEventWindow s) s).cel = s.cel ∧
      (resAfter (execStallEventWindow s) s).dmw = s.dmw ∧ (resAfter (execStallEventWindow s) s).nrg = s.nrg ∧
      (resAfter (execStallEventWindow s) s).gau = s.gau ∧ (resAfter (execStallEventWindow s) s).rek = s.rek ∧
      (resAfter (execStallEventWindow s) s).plk = s.plk ∧ (resAfter (execStallEventWindow s) s).att = s.att ∧
      (resAfter (execStallEventWindow s) s).ecc = s.ecc ∧ (resAfter (execStallEventWindow s) s).tws = s.tws ∧
      (resAfter (execStallEventWindow s) s).twp = s.twp ∧ (resAfter (execStallEventWindow s) s).pwr = s.pwr ∧
      (resAfter (execStallEventWindow s) s).fpl = s.fpl ∧ (resAfter (execStallEventWindow s) s).jtag = s.jtag ∧
      (resAfter (execStallEventWindow s) s).fuses = s.fuses ∧ (resAfter (execStallEventWindow s) s).cal = s.cal ∧
      (resAfter (execStallEventWindow s) s).free = s.free ∧ (resAfter (execStallEventWindow s) s).pending = s.pending ∧
      (resAfter (execStallEventWindow s) s).hst.linkUp = s.hst.linkUp ∧
      (resAfter (execStallEventWindow s) s).hst.gateClosed = s.hst.gateClosed ∧
      (resAfter (execStallEventWindow s) s).log.aonPowered = s.log.aonPowered := by
  have q1 := advanceTo_frame
  have q2 := event_frame
  unfold execStallEventWindow; (repeat' split) <;> simp_all

theorem execWearAccrualTick_frame (s : State) :
    (resAfter (execWearAccrualTick s) s).dev = s.dev ∧ (resAfter (execWearAccrualTick s) s).stations = s.stations ∧
      (resAfter (execWearAccrualTick s) s).hst = s.hst ∧ (resAfter (execWearAccrualTick s) s).drc = s.drc ∧
      (resAfter (execWearAccrualTick s) s).dram = s.dram ∧ (resAfter (execWearAccrualTick s) s).cht = s.cht ∧
      (resAfter (execWearAccrualTick s) s).sui = s.sui ∧ (resAfter (execWearAccrualTick s) s).sav = s.sav ∧
      (resAfter (execWearAccrualTick s) s).cel = s.cel ∧ (resAfter (execWearAccrualTick s) s).dmw = s.dmw ∧
      (resAfter (execWearAccrualTick s) s).nrg = s.nrg ∧ (resAfter (execWearAccrualTick s) s).gau = s.gau ∧
      (resAfter (execWearAccrualTick s) s).rek = s.rek ∧ (resAfter (execWearAccrualTick s) s).plk = s.plk ∧
      (resAfter (execWearAccrualTick s) s).att = s.att ∧ (resAfter (execWearAccrualTick s) s).ecc = s.ecc ∧
      (resAfter (execWearAccrualTick s) s).tws = s.tws ∧ (resAfter (execWearAccrualTick s) s).twp = s.twp ∧
      (resAfter (execWearAccrualTick s) s).pwr = s.pwr ∧ (resAfter (execWearAccrualTick s) s).fpl = s.fpl ∧
      (resAfter (execWearAccrualTick s) s).jtag = s.jtag ∧ (resAfter (execWearAccrualTick s) s).fuses = s.fuses ∧
      (resAfter (execWearAccrualTick s) s).cal = s.cal ∧ (resAfter (execWearAccrualTick s) s).out = s.out ∧
      (resAfter (execWearAccrualTick s) s).free = s.free ∧ (resAfter (execWearAccrualTick s) s).pending = s.pending ∧
      (resAfter (execWearAccrualTick s) s).log.aonPowered = s.log.aonPowered := by
  have q1 := advanceTo_frame
  unfold execWearAccrualTick; (repeat' split) <;> simp_all

theorem execCounterStore_frame (s : State) :
    (resAfter (execCounterStore s) s).dev = s.dev ∧ (resAfter (execCounterStore s) s).stations = s.stations ∧
      (resAfter (execCounterStore s) s).hst = s.hst ∧ (resAfter (execCounterStore s) s).drc = s.drc ∧
      (resAfter (execCounterStore s) s).dram = s.dram ∧ (resAfter (execCounterStore s) s).cht = s.cht ∧
      (resAfter (execCounterStore s) s).sui = s.sui ∧ (resAfter (execCounterStore s) s).sav = s.sav ∧
      (resAfter (execCounterStore s) s).cel = s.cel ∧ (resAfter (execCounterStore s) s).dmw = s.dmw ∧
      (resAfter (execCounterStore s) s).nrg = s.nrg ∧ (resAfter (execCounterStore s) s).gau = s.gau ∧
      (resAfter (execCounterStore s) s).rek = s.rek ∧ (resAfter (execCounterStore s) s).plk = s.plk ∧
      (resAfter (execCounterStore s) s).att = s.att ∧ (resAfter (execCounterStore s) s).ecc = s.ecc ∧
      (resAfter (execCounterStore s) s).tws = s.tws ∧ (resAfter (execCounterStore s) s).twp = s.twp ∧
      (resAfter (execCounterStore s) s).pwr = s.pwr ∧ (resAfter (execCounterStore s) s).fpl = s.fpl ∧
      (resAfter (execCounterStore s) s).jtag = s.jtag ∧ (resAfter (execCounterStore s) s).fuses = s.fuses ∧
      (resAfter (execCounterStore s) s).cal = s.cal ∧ (resAfter (execCounterStore s) s).out = s.out ∧
      (resAfter (execCounterStore s) s).free = s.free ∧ (resAfter (execCounterStore s) s).pending = s.pending ∧
      (resAfter (execCounterStore s) s).log.aonPowered = s.log.aonPowered := by
  have q1 := advanceTo_frame
  unfold execCounterStore; (repeat' split) <;> simp_all

theorem execWearProjection_frame (s : State) :
    (resAfter (execWearProjection s) s).fuses = s.fuses ∧ (resAfter (execWearProjection s) s).pending = s.pending := by
  have q1 := advanceTo_frame
  have q2 := clearReason_frame
  have q3 := raise_frame
  have q4 := setReason_frame
  simp only [execWearProjection]; (repeat' split) <;> simp [q1, q2, q3, q4]

theorem execStaggerElapsed_frame (s : State) :
    (resAfter (execStaggerElapsed s) s).dev = s.dev ∧ (resAfter (execStaggerElapsed s) s).stations = s.stations ∧
      (resAfter (execStaggerElapsed s) s).hst = s.hst ∧ (resAfter (execStaggerElapsed s) s).drc = s.drc ∧
      (resAfter (execStaggerElapsed s) s).dram = s.dram ∧ (resAfter (execStaggerElapsed s) s).cht = s.cht ∧
      (resAfter (execStaggerElapsed s) s).sui = s.sui ∧ (resAfter (execStaggerElapsed s) s).stw = s.stw ∧
      (resAfter (execStaggerElapsed s) s).cel = s.cel ∧ (resAfter (execStaggerElapsed s) s).dmw = s.dmw ∧
      (resAfter (execStaggerElapsed s) s).nrg = s.nrg ∧ (resAfter (execStaggerElapsed s) s).gau = s.gau ∧
      (resAfter (execStaggerElapsed s) s).rek = s.rek ∧ (resAfter (execStaggerElapsed s) s).plk = s.plk ∧
      (resAfter (execStaggerElapsed s) s).att = s.att ∧ (resAfter (execStaggerElapsed s) s).ecc = s.ecc ∧
      (resAfter (execStaggerElapsed s) s).tws = s.tws ∧ (resAfter (execStaggerElapsed s) s).twp = s.twp ∧
      (resAfter (execStaggerElapsed s) s).pwr = s.pwr ∧ (resAfter (execStaggerElapsed s) s).fpl = s.fpl ∧
      (resAfter (execStaggerElapsed s) s).jtag = s.jtag ∧ (resAfter (execStaggerElapsed s) s).fuses = s.fuses ∧
      (resAfter (execStaggerElapsed s) s).cal = s.cal ∧ (resAfter (execStaggerElapsed s) s).out = s.out ∧
      (resAfter (execStaggerElapsed s) s).free = s.free ∧ (resAfter (execStaggerElapsed s) s).pending = s.pending ∧
      (resAfter (execStaggerElapsed s) s).log.aonPowered = s.log.aonPowered := by
  have q1 := advanceTo_frame
  unfold execStaggerElapsed; (repeat' split) <;> simp_all

theorem execDrainComplete_frame (s : State) :
    (resAfter (execDrainComplete s) s).almanac = s.almanac ∧ (resAfter (execDrainComplete s) s).dev = s.dev ∧
      (resAfter (execDrainComplete s) s).stations = s.stations ∧ (resAfter (execDrainComplete s) s).hst = s.hst ∧
      (resAfter (execDrainComplete s) s).drc = s.drc ∧ (resAfter (execDrainComplete s) s).dram = s.dram ∧
      (resAfter (execDrainComplete s) s).cht = s.cht ∧ (resAfter (execDrainComplete s) s).sui = s.sui ∧
      (resAfter (execDrainComplete s) s).stw = s.stw ∧ (resAfter (execDrainComplete s) s).cel = s.cel ∧
      (resAfter (execDrainComplete s) s).dmw = s.dmw ∧ (resAfter (execDrainComplete s) s).nrg = s.nrg ∧
      (resAfter (execDrainComplete s) s).gau = s.gau ∧ (resAfter (execDrainComplete s) s).rek = s.rek ∧
      (resAfter (execDrainComplete s) s).plk = s.plk ∧ (resAfter (execDrainComplete s) s).att = s.att ∧
      (resAfter (execDrainComplete s) s).ecc = s.ecc ∧ (resAfter (execDrainComplete s) s).tws = s.tws ∧
      (resAfter (execDrainComplete s) s).twp = s.twp ∧ (resAfter (execDrainComplete s) s).svc = s.svc ∧
      (resAfter (execDrainComplete s) s).log = s.log ∧ (resAfter (execDrainComplete s) s).pwr = s.pwr ∧
      (resAfter (execDrainComplete s) s).fpl = s.fpl ∧ (resAfter (execDrainComplete s) s).jtag = s.jtag ∧
      (resAfter (execDrainComplete s) s).fuses = s.fuses ∧ (resAfter (execDrainComplete s) s).cal = s.cal ∧
      (resAfter (execDrainComplete s) s).out = s.out ∧ (resAfter (execDrainComplete s) s).free = s.free ∧
      (resAfter (execDrainComplete s) s).pending = s.pending := by
  unfold execDrainComplete; (repeat' split) <;> simp_all

theorem settleTiles_frame (s : State) :
    (settleTiles s).almanac = s.almanac ∧ (settleTiles s).dev = s.dev ∧ (settleTiles s).stations = s.stations ∧
      (settleTiles s).hst = s.hst ∧ (settleTiles s).drc = s.drc ∧ (settleTiles s).dram = s.dram ∧ (settleTiles s).stw = s.stw ∧
      (settleTiles s).sav = s.sav ∧ (settleTiles s).cel = s.cel ∧ (settleTiles s).dmw = s.dmw ∧ (settleTiles s).nrg = s.nrg ∧
      (settleTiles s).gau = s.gau ∧ (settleTiles s).rek = s.rek ∧ (settleTiles s).plk = s.plk ∧ (settleTiles s).att = s.att ∧
      (settleTiles s).ecc = s.ecc ∧ (settleTiles s).tws = s.tws ∧ (settleTiles s).twp = s.twp ∧ (settleTiles s).svc = s.svc ∧
      (settleTiles s).log = s.log ∧ (settleTiles s).pwr = s.pwr ∧ (settleTiles s).fpl = s.fpl ∧ (settleTiles s).jtag = s.jtag ∧
      (settleTiles s).fuses = s.fuses ∧ (settleTiles s).cal = s.cal ∧ (settleTiles s).out = s.out ∧
      (settleTiles s).free = s.free ∧ (settleTiles s).pending = s.pending := by
  have q1 := recountAll_frame
  simp [q1, settleTiles]

theorem beginSave_frame (s : State) :
    (beginSave s).almanac = s.almanac ∧ (beginSave s).fuses = s.fuses ∧ (beginSave s).cal = s.cal ∧
      (beginSave s).pending = s.pending := by
  have q1 := modHalf_frame
  have q2 := raise_frame
  simp only [beginSave]; (repeat' split) <;> simp [q1, q2]

theorem execSavingEntry_frame (s : State) :
    (resAfter (execSavingEntry s) s).almanac = s.almanac ∧ (resAfter (execSavingEntry s) s).fuses = s.fuses ∧
      (resAfter (execSavingEntry s) s).pending = s.pending := by
  have q1 := beginSave_frame
  have q2 := exhausted_frame
  have q3 := settleTiles_frame
  have q4 := transition_frame
  unfold execSavingEntry; (repeat' split) <;> simp_all

theorem selfRefreshRead_frame (s : State) :
    (selfRefreshRead s).almanac = s.almanac ∧ (selfRefreshRead s).dev = s.dev ∧ (selfRefreshRead s).stations = s.stations ∧
      (selfRefreshRead s).hst = s.hst ∧ (selfRefreshRead s).dram = s.dram ∧ (selfRefreshRead s).cht = s.cht ∧
      (selfRefreshRead s).sui = s.sui ∧ (selfRefreshRead s).stw = s.stw ∧ (selfRefreshRead s).sav = s.sav ∧
      (selfRefreshRead s).cel = s.cel ∧ (selfRefreshRead s).dmw = s.dmw ∧ (selfRefreshRead s).nrg = s.nrg ∧
      (selfRefreshRead s).gau = s.gau ∧ (selfRefreshRead s).rek = s.rek ∧ (selfRefreshRead s).plk = s.plk ∧
      (selfRefreshRead s).att = s.att ∧ (selfRefreshRead s).ecc = s.ecc ∧ (selfRefreshRead s).tws = s.tws ∧
      (selfRefreshRead s).twp = s.twp ∧ (selfRefreshRead s).svc = s.svc ∧ (selfRefreshRead s).log = s.log ∧
      (selfRefreshRead s).pwr = s.pwr ∧ (selfRefreshRead s).fpl = s.fpl ∧ (selfRefreshRead s).jtag = s.jtag ∧
      (selfRefreshRead s).fuses = s.fuses ∧ (selfRefreshRead s).cal = s.cal ∧ (selfRefreshRead s).out = s.out ∧
      (selfRefreshRead s).free = s.free ∧ (selfRefreshRead s).pending = s.pending := by
  simp [selfRefreshRead]

theorem readTile_frame (r : SaveRun) (i t : Nat) (rest : List (Nat × Nat)) (s : State) :
    (readTile r i t rest s).almanac = s.almanac ∧ (readTile r i t rest s).dev = s.dev ∧
      (readTile r i t rest s).stations = s.stations ∧ (readTile r i t rest s).hst = s.hst ∧
      (readTile r i t rest s).dram = s.dram ∧ (readTile r i t rest s).cht = s.cht ∧ (readTile r i t rest s).sui = s.sui ∧
      (readTile r i t rest s).stw = s.stw ∧ (readTile r i t rest s).dmw = s.dmw ∧ (readTile r i t rest s).nrg = s.nrg ∧
      (readTile r i t rest s).gau = s.gau ∧ (readTile r i t rest s).rek = s.rek ∧ (readTile r i t rest s).plk = s.plk ∧
      (readTile r i t rest s).att = s.att ∧ (readTile r i t rest s).ecc = s.ecc ∧ (readTile r i t rest s).tws = s.tws ∧
      (readTile r i t rest s).twp = s.twp ∧ (readTile r i t rest s).svc = s.svc ∧ (readTile r i t rest s).log = s.log ∧
      (readTile r i t rest s).pwr = s.pwr ∧ (readTile r i t rest s).fpl = s.fpl ∧ (readTile r i t rest s).jtag = s.jtag ∧
      (readTile r i t rest s).fuses = s.fuses ∧ (readTile r i t rest s).cal = s.cal ∧ (readTile r i t rest s).out = s.out ∧
      (readTile r i t rest s).pending = s.pending := by
  have q1 := modRun_frame
  have q2 := tileAccess_frame
  simp [q1, q2, readTile]

theorem fullProgramEnd_frame (idx : Nat) (s : State) :
    (fullProgramEnd idx s).almanac = s.almanac ∧ (fullProgramEnd idx s).fuses = s.fuses ∧ (fullProgramEnd idx s).cal = s.cal ∧
      (fullProgramEnd idx s).pending = s.pending := by
  have q1 := modRun_frame
  have q2 := raiseAddr_frame
  unfold fullProgramEnd; (repeat' split) <;> simp_all

theorem noteLeft_frame (s : State) :
    (noteLeft s).almanac = s.almanac ∧ (noteLeft s).stations = s.stations ∧ (noteLeft s).hst = s.hst ∧
      (noteLeft s).drc = s.drc ∧ (noteLeft s).dram = s.dram ∧ (noteLeft s).cht = s.cht ∧ (noteLeft s).sui = s.sui ∧
      (noteLeft s).stw = s.stw ∧ (noteLeft s).sav = s.sav ∧ (noteLeft s).cel = s.cel ∧ (noteLeft s).dmw = s.dmw ∧
      (noteLeft s).nrg = s.nrg ∧ (noteLeft s).gau = s.gau ∧ (noteLeft s).rek = s.rek ∧ (noteLeft s).plk = s.plk ∧
      (noteLeft s).att = s.att ∧ (noteLeft s).ecc = s.ecc ∧ (noteLeft s).tws = s.tws ∧ (noteLeft s).twp = s.twp ∧
      (noteLeft s).svc = s.svc ∧ (noteLeft s).log = s.log ∧ (noteLeft s).pwr = s.pwr ∧ (noteLeft s).fpl = s.fpl ∧
      (noteLeft s).jtag = s.jtag ∧ (noteLeft s).fuses = s.fuses ∧ (noteLeft s).cal = s.cal ∧ (noteLeft s).out = s.out ∧
      (noteLeft s).free = s.free ∧ (noteLeft s).pending = s.pending ∧ (noteLeft s).dev.state = s.dev.state := by
  unfold noteLeft; (repeat' split) <;> simp_all

theorem execSaveTileDone_frame (index us : Nat) (pass : Bool) (s : State) :
    (resAfter (execSaveTileDone index us pass s) s).almanac = s.almanac ∧
      (resAfter (execSaveTileDone index us pass s) s).fuses = s.fuses ∧
      (resAfter (execSaveTileDone index us pass s) s).cal = s.cal ∧
      (resAfter (execSaveTileDone index us pass s) s).pending = s.pending := by
  have q1 := fullProgramEnd_frame
  have q2 := halfProgramEnd_frame
  have q3 := noteLeft_frame
  have q4 := notePslc_frame
  unfold execSaveTileDone; (repeat' split) <;> simp [q1, q2, q3, q4]

theorem rateStep_frame (i : Int) (v : Nat) (kind : Nat) (s : State) :
    (rateStep i v kind s).almanac = s.almanac ∧ (rateStep i v kind s).fuses = s.fuses ∧
      (rateStep i v kind s).pending = s.pending := by
  have q1 := exhausted_frame
  have q2 := modRun_frame
  simp [q1, q2, rateStep]

theorem execSaveRateTick_frame (packMa : Int) (packMv : Nat) (s : State) :
    (resAfter (execSaveRateTick packMa packMv s) s).fuses = s.fuses ∧
      (resAfter (execSaveRateTick packMa packMv s) s).pending = s.pending := by
  have q1 := advanceTo_frame
  have q2 := rateStep_frame
  simp only [execSaveRateTick]; (repeat' split) <;> simp [q1, q2]

theorem execPackExhausted_frame (s : State) :
    (resAfter (execPackExhausted s) s).almanac = s.almanac ∧ (resAfter (execPackExhausted s) s).fuses = s.fuses ∧
      (resAfter (execPackExhausted s) s).pending = s.pending := by
  have q1 := exhausted_frame
  unfold execPackExhausted; (repeat' split) <;> simp_all

theorem execVbusLowTimeout_frame (s : State) :
    (resAfter (execVbusLowTimeout s) s).almanac = s.almanac ∧ (resAfter (execVbusLowTimeout s) s).fuses = s.fuses ∧
      (resAfter (execVbusLowTimeout s) s).pending = s.pending := by
  have q1 := exhausted_frame
  unfold execVbusLowTimeout; (repeat' split) <;> simp_all

theorem execKeeperBusError_frame (fromAttic : Bool) (s : State) :
    (resAfter (execKeeperBusError fromAttic s) s).almanac = s.almanac ∧
      (resAfter (execKeeperBusError fromAttic s) s).fuses = s.fuses ∧
      (resAfter (execKeeperBusError fromAttic s) s).pending = s.pending := by
  have q1 := keeperStops_frame
  simp [q1, execKeeperBusError]

theorem resumeRebuild_frame (s : State) :
    (resumeRebuild s).almanac = s.almanac ∧ (resumeRebuild s).dev = s.dev ∧ (resumeRebuild s).stations = s.stations ∧
      (resumeRebuild s).hst = s.hst ∧ (resumeRebuild s).drc = s.drc ∧ (resumeRebuild s).dram = s.dram ∧
      (resumeRebuild s).cht = s.cht ∧ (resumeRebuild s).stw = s.stw ∧ (resumeRebuild s).dmw = s.dmw ∧
      (resumeRebuild s).nrg = s.nrg ∧ (resumeRebuild s).gau = s.gau ∧ (resumeRebuild s).rek = s.rek ∧
      (resumeRebuild s).plk = s.plk ∧ (resumeRebuild s).att = s.att ∧ (resumeRebuild s).ecc = s.ecc ∧
      (resumeRebuild s).tws = s.tws ∧ (resumeRebuild s).twp = s.twp ∧ (resumeRebuild s).svc = s.svc ∧
      (resumeRebuild s).log = s.log ∧ (resumeRebuild s).pwr = s.pwr ∧ (resumeRebuild s).fpl = s.fpl ∧
      (resumeRebuild s).jtag = s.jtag ∧ (resumeRebuild s).fuses = s.fuses ∧ (resumeRebuild s).cal = s.cal ∧
      (resumeRebuild s).out = s.out ∧ (resumeRebuild s).free = s.free ∧ (resumeRebuild s).pending = s.pending := by
  have q1 := startRebuild_frame
  simp [q1, resumeRebuild]

theorem sealFailed_frame (r : SaveRun) (s : State) :
    (sealFailed r s).almanac = s.almanac ∧ (sealFailed r s).fuses = s.fuses ∧ (sealFailed r s).pending = s.pending := by
  have q1 := noteRetire_frame
  have q2 := retireBlock_frame
  unfold sealFailed; (repeat' split) <;> simp_all

theorem execHalfEraseDone_frame (half : Half) (s : State) :
    (resAfter (execHalfEraseDone half s) s).almanac = s.almanac ∧ (resAfter (execHalfEraseDone half s) s).dev = s.dev ∧
      (resAfter (execHalfEraseDone half s) s).stations = s.stations ∧ (resAfter (execHalfEraseDone half s) s).hst = s.hst ∧
      (resAfter (execHalfEraseDone half s) s).drc = s.drc ∧ (resAfter (execHalfEraseDone half s) s).dram = s.dram ∧
      (resAfter (execHalfEraseDone half s) s).cht = s.cht ∧ (resAfter (execHalfEraseDone half s) s).sui = s.sui ∧
      (resAfter (execHalfEraseDone half s) s).stw = s.stw ∧ (resAfter (execHalfEraseDone half s) s).dmw = s.dmw ∧
      (resAfter (execHalfEraseDone half s) s).nrg = s.nrg ∧ (resAfter (execHalfEraseDone half s) s).gau = s.gau ∧
      (resAfter (execHalfEraseDone half s) s).plk = s.plk ∧ (resAfter (execHalfEraseDone half s) s).att = s.att ∧
      (resAfter (execHalfEraseDone half s) s).ecc = s.ecc ∧ (resAfter (execHalfEraseDone half s) s).tws = s.tws ∧
      (resAfter (execHalfEraseDone half s) s).twp = s.twp ∧ (resAfter (execHalfEraseDone half s) s).svc = s.svc ∧
      (resAfter (execHalfEraseDone half s) s).log = s.log ∧ (resAfter (execHalfEraseDone half s) s).pwr = s.pwr ∧
      (resAfter (execHalfEraseDone half s) s).fpl = s.fpl ∧ (resAfter (execHalfEraseDone half s) s).jtag = s.jtag ∧
      (resAfter (execHalfEraseDone half s) s).fuses = s.fuses ∧ (resAfter (execHalfEraseDone half s) s).cal = s.cal ∧
      (resAfter (execHalfEraseDone half s) s).out = s.out ∧ (resAfter (execHalfEraseDone half s) s).free = s.free ∧
      (resAfter (execHalfEraseDone half s) s).pending = s.pending := by
  have q1 := modHalf_frame
  unfold execHalfEraseDone; (repeat' split) <;> simp_all

theorem execFloorPlanApply_frame (s : State) :
    (resAfter (execFloorPlanApply s) s).almanac = s.almanac ∧ (resAfter (execFloorPlanApply s) s).fuses = s.fuses ∧
      (resAfter (execFloorPlanApply s) s).cal = s.cal ∧ (resAfter (execFloorPlanApply s) s).pending = s.pending := by
  have q1 := applyPlan_frame
  unfold execFloorPlanApply; (repeat' split) <;> simp_all

theorem loadCheckpoint_frame (bad : List Nat) (s : State) :
    (loadCheckpoint bad s).almanac = s.almanac ∧ (loadCheckpoint bad s).dev = s.dev ∧
      (loadCheckpoint bad s).stations = s.stations ∧ (loadCheckpoint bad s).hst = s.hst ∧ (loadCheckpoint bad s).drc = s.drc ∧
      (loadCheckpoint bad s).dram = s.dram ∧ (loadCheckpoint bad s).cht = s.cht ∧ (loadCheckpoint bad s).sui = s.sui ∧
      (loadCheckpoint bad s).stw = s.stw ∧ (loadCheckpoint bad s).sav = s.sav ∧ (loadCheckpoint bad s).dmw = s.dmw ∧
      (loadCheckpoint bad s).nrg = s.nrg ∧ (loadCheckpoint bad s).gau = s.gau ∧ (loadCheckpoint bad s).rek = s.rek ∧
      (loadCheckpoint bad s).plk = s.plk ∧ (loadCheckpoint bad s).att = s.att ∧ (loadCheckpoint bad s).ecc = s.ecc ∧
      (loadCheckpoint bad s).tws = s.tws ∧ (loadCheckpoint bad s).twp = s.twp ∧ (loadCheckpoint bad s).svc = s.svc ∧
      (loadCheckpoint bad s).log = s.log ∧ (loadCheckpoint bad s).pwr = s.pwr ∧ (loadCheckpoint bad s).fpl = s.fpl ∧
      (loadCheckpoint bad s).jtag = s.jtag ∧ (loadCheckpoint bad s).fuses = s.fuses ∧ (loadCheckpoint bad s).cal = s.cal ∧
      (loadCheckpoint bad s).out = s.out ∧ (loadCheckpoint bad s).free = s.free ∧ (loadCheckpoint bad s).pending = s.pending := by
  have q1 := dropItem_frame
  simp [q1, loadCheckpoint]

theorem loadMaps_frame (bad lost : List Nat) (s : State) :
    (loadMaps bad lost s).almanac = s.almanac ∧ (loadMaps bad lost s).dev = s.dev ∧
      (loadMaps bad lost s).stations = s.stations ∧ (loadMaps bad lost s).hst = s.hst ∧ (loadMaps bad lost s).drc = s.drc ∧
      (loadMaps bad lost s).dram = s.dram ∧ (loadMaps bad lost s).sui = s.sui ∧ (loadMaps bad lost s).stw = s.stw ∧
      (loadMaps bad lost s).sav = s.sav ∧ (loadMaps bad lost s).dmw = s.dmw ∧ (loadMaps bad lost s).nrg = s.nrg ∧
      (loadMaps bad lost s).gau = s.gau ∧ (loadMaps bad lost s).rek = s.rek ∧ (loadMaps bad lost s).plk = s.plk ∧
      (loadMaps bad lost s).att = s.att ∧ (loadMaps bad lost s).ecc = s.ecc ∧ (loadMaps bad lost s).tws = s.tws ∧
      (loadMaps bad lost s).twp = s.twp ∧ (loadMaps bad lost s).svc = s.svc ∧ (loadMaps bad lost s).log = s.log ∧
      (loadMaps bad lost s).pwr = s.pwr ∧ (loadMaps bad lost s).fpl = s.fpl ∧ (loadMaps bad lost s).jtag = s.jtag ∧
      (loadMaps bad lost s).fuses = s.fuses ∧ (loadMaps bad lost s).cal = s.cal ∧ (loadMaps bad lost s).out = s.out ∧
      (loadMaps bad lost s).free = s.free ∧ (loadMaps bad lost s).pending = s.pending := by
  have q1 := modEntry_frame
  simp (disch := (intros; (repeat' split) <;> simp_all)) [loadMaps]

theorem loadCounters_frame (bad : List Nat) (s : State) :
    (loadCounters bad s).almanac = s.almanac ∧ (loadCounters bad s).dev = s.dev ∧ (loadCounters bad s).stations = s.stations ∧
      (loadCounters bad s).hst = s.hst ∧ (loadCounters bad s).drc = s.drc ∧ (loadCounters bad s).dram = s.dram ∧
      (loadCounters bad s).cht = s.cht ∧ (loadCounters bad s).sui = s.sui ∧ (loadCounters bad s).stw = s.stw ∧
      (loadCounters bad s).sav = s.sav ∧ (loadCounters bad s).dmw = s.dmw ∧ (loadCounters bad s).nrg = s.nrg ∧
      (loadCounters bad s).gau = s.gau ∧ (loadCounters bad s).rek = s.rek ∧ (loadCounters bad s).plk = s.plk ∧
      (loadCounters bad s).att = s.att ∧ (loadCounters bad s).ecc = s.ecc ∧ (loadCounters bad s).tws = s.tws ∧
      (loadCounters bad s).twp = s.twp ∧ (loadCounters bad s).svc = s.svc ∧ (loadCounters bad s).log = s.log ∧
      (loadCounters bad s).pwr = s.pwr ∧ (loadCounters bad s).fpl = s.fpl ∧ (loadCounters bad s).jtag = s.jtag ∧
      (loadCounters bad s).fuses = s.fuses ∧ (loadCounters bad s).cal = s.cal ∧ (loadCounters bad s).out = s.out ∧
      (loadCounters bad s).free = s.free ∧ (loadCounters bad s).pending = s.pending := by
  simp [loadCounters]

theorem stepAlmanac_frame (s : State) :
    (stepAlmanac s).dev = s.dev ∧ (stepAlmanac s).stations = s.stations ∧ (stepAlmanac s).hst = s.hst ∧
      (stepAlmanac s).drc = s.drc ∧ (stepAlmanac s).dram = s.dram ∧ (stepAlmanac s).cht = s.cht ∧ (stepAlmanac s).sui = s.sui ∧
      (stepAlmanac s).stw = s.stw ∧ (stepAlmanac s).sav = s.sav ∧ (stepAlmanac s).cel = s.cel ∧ (stepAlmanac s).dmw = s.dmw ∧
      (stepAlmanac s).nrg = s.nrg ∧ (stepAlmanac s).gau = s.gau ∧ (stepAlmanac s).rek = s.rek ∧ (stepAlmanac s).plk = s.plk ∧
      (stepAlmanac s).att = s.att ∧ (stepAlmanac s).ecc = s.ecc ∧ (stepAlmanac s).tws = s.tws ∧ (stepAlmanac s).twp = s.twp ∧
      (stepAlmanac s).svc = s.svc ∧ (stepAlmanac s).log = s.log ∧ (stepAlmanac s).pwr = s.pwr ∧ (stepAlmanac s).fpl = s.fpl ∧
      (stepAlmanac s).jtag = s.jtag ∧ (stepAlmanac s).fuses = s.fuses ∧ (stepAlmanac s).cal = s.cal ∧
      (stepAlmanac s).out = s.out ∧ (stepAlmanac s).free = s.free ∧ (stepAlmanac s).pending = s.pending := by
  simp [stepAlmanac]

theorem loadLastSave_frame (r : SaveRecord) (s : State) :
    (loadLastSave r s).almanac = s.almanac ∧ (loadLastSave r s).dev = s.dev ∧ (loadLastSave r s).stations = s.stations ∧
      (loadLastSave r s).hst = s.hst ∧ (loadLastSave r s).drc = s.drc ∧ (loadLastSave r s).dram = s.dram ∧
      (loadLastSave r s).cht = s.cht ∧ (loadLastSave r s).sui = s.sui ∧ (loadLastSave r s).stw = s.stw ∧
      (loadLastSave r s).cel = s.cel ∧ (loadLastSave r s).dmw = s.dmw ∧ (loadLastSave r s).nrg = s.nrg ∧
      (loadLastSave r s).gau = s.gau ∧ (loadLastSave r s).rek = s.rek ∧ (loadLastSave r s).plk = s.plk ∧
      (loadLastSave r s).att = s.att ∧ (loadLastSave r s).ecc = s.ecc ∧ (loadLastSave r s).tws = s.tws ∧
      (loadLastSave r s).twp = s.twp ∧ (loadLastSave r s).svc = s.svc ∧ (loadLastSave r s).log = s.log ∧
      (loadLastSave r s).pwr = s.pwr ∧ (loadLastSave r s).fpl = s.fpl ∧ (loadLastSave r s).jtag = s.jtag ∧
      (loadLastSave r s).fuses = s.fuses ∧ (loadLastSave r s).cal = s.cal ∧ (loadLastSave r s).out = s.out ∧
      (loadLastSave r s).free = s.free ∧ (loadLastSave r s).pending = s.pending := by
  simp [loadLastSave]

theorem countSave_frame (r : SaveRecord) (s : State) :
    (countSave r s).almanac = s.almanac ∧ (countSave r s).dev = s.dev ∧ (countSave r s).stations = s.stations ∧
      (countSave r s).hst = s.hst ∧ (countSave r s).drc = s.drc ∧ (countSave r s).dram = s.dram ∧ (countSave r s).cht = s.cht ∧
      (countSave r s).sui = s.sui ∧ (countSave r s).stw = s.stw ∧ (countSave r s).cel = s.cel ∧ (countSave r s).dmw = s.dmw ∧
      (countSave r s).nrg = s.nrg ∧ (countSave r s).gau = s.gau ∧ (countSave r s).rek = s.rek ∧ (countSave r s).plk = s.plk ∧
      (countSave r s).att = s.att ∧ (countSave r s).ecc = s.ecc ∧ (countSave r s).tws = s.tws ∧ (countSave r s).twp = s.twp ∧
      (countSave r s).svc = s.svc ∧ (countSave r s).pwr = s.pwr ∧ (countSave r s).fpl = s.fpl ∧ (countSave r s).jtag = s.jtag ∧
      (countSave r s).fuses = s.fuses ∧ (countSave r s).cal = s.cal ∧ (countSave r s).out = s.out ∧
      (countSave r s).free = s.free ∧ (countSave r s).pending = s.pending := by
  simp [countSave]

@[simp] theorem countSave_frame2 (r : SaveRecord) (s : State) :
    (countSave r s).log.aonPowered = s.log.aonPowered := by unfold countSave; (repeat' split) <;> simp_all

theorem measureCost_frame (r : SaveRecord) (s : State) :
    (measureCost r s).almanac = s.almanac ∧ (measureCost r s).dev = s.dev ∧ (measureCost r s).stations = s.stations ∧
      (measureCost r s).hst = s.hst ∧ (measureCost r s).drc = s.drc ∧ (measureCost r s).dram = s.dram ∧
      (measureCost r s).cht = s.cht ∧ (measureCost r s).sui = s.sui ∧ (measureCost r s).stw = s.stw ∧
      (measureCost r s).sav = s.sav ∧ (measureCost r s).cel = s.cel ∧ (measureCost r s).dmw = s.dmw ∧
      (measureCost r s).nrg = s.nrg ∧ (measureCost r s).rek = s.rek ∧ (measureCost r s).plk = s.plk ∧
      (measureCost r s).att = s.att ∧ (measureCost r s).ecc = s.ecc ∧ (measureCost r s).tws = s.tws ∧
      (measureCost r s).twp = s.twp ∧ (measureCost r s).svc = s.svc ∧ (measureCost r s).log = s.log ∧
      (measureCost r s).pwr = s.pwr ∧ (measureCost r s).fpl = s.fpl ∧ (measureCost r s).jtag = s.jtag ∧
      (measureCost r s).fuses = s.fuses ∧ (measureCost r s).cal = s.cal ∧ (measureCost r s).out = s.out ∧
      (measureCost r s).free = s.free ∧ (measureCost r s).pending = s.pending := by
  unfold measureCost; (repeat' split) <;> simp_all

theorem readLastSave_frame (s : State) :
    (readLastSave s).almanac = s.almanac ∧ (readLastSave s).fuses = s.fuses ∧ (readLastSave s).cal = s.cal ∧
      (readLastSave s).pending = s.pending := by
  have q1 := countSave_frame
  have q2 := loadLastSave_frame
  have q3 := measureCost_frame
  have q4 := raise_frame
  have q5 := recordDirty_frame
  have q6 := saveReport_frame
  have q7 := wantRek_frame
  unfold readLastSave; (repeat' split) <;> simp_all

theorem patrolAtBoot_frame (s : State) :
    (patrolAtBoot s).almanac = s.almanac ∧ (patrolAtBoot s).dev = s.dev ∧ (patrolAtBoot s).stations = s.stations ∧
      (patrolAtBoot s).hst = s.hst ∧ (patrolAtBoot s).drc = s.drc ∧ (patrolAtBoot s).dram = s.dram ∧
      (patrolAtBoot s).cht = s.cht ∧ (patrolAtBoot s).sui = s.sui ∧ (patrolAtBoot s).stw = s.stw ∧
      (patrolAtBoot s).sav = s.sav ∧ (patrolAtBoot s).dmw = s.dmw ∧ (patrolAtBoot s).nrg = s.nrg ∧
      (patrolAtBoot s).gau = s.gau ∧ (patrolAtBoot s).rek = s.rek ∧ (patrolAtBoot s).plk = s.plk ∧
      (patrolAtBoot s).att = s.att ∧ (patrolAtBoot s).ecc = s.ecc ∧ (patrolAtBoot s).tws = s.tws ∧
      (patrolAtBoot s).twp = s.twp ∧ (patrolAtBoot s).svc = s.svc ∧ (patrolAtBoot s).log = s.log ∧
      (patrolAtBoot s).pwr = s.pwr ∧ (patrolAtBoot s).fpl = s.fpl ∧ (patrolAtBoot s).jtag = s.jtag ∧
      (patrolAtBoot s).fuses = s.fuses ∧ (patrolAtBoot s).cal = s.cal ∧ (patrolAtBoot s).out = s.out ∧
      (patrolAtBoot s).free = s.free ∧ (patrolAtBoot s).pending = s.pending := by
  simp [patrolAtBoot]

theorem loadRoles_frame (s : State) :
    (loadRoles s).almanac = s.almanac ∧ (loadRoles s).dev = s.dev ∧ (loadRoles s).stations = s.stations ∧
      (loadRoles s).hst = s.hst ∧ (loadRoles s).drc = s.drc ∧ (loadRoles s).dram = s.dram ∧ (loadRoles s).cht = s.cht ∧
      (loadRoles s).sui = s.sui ∧ (loadRoles s).stw = s.stw ∧ (loadRoles s).sav = s.sav ∧ (loadRoles s).cel = s.cel ∧
      (loadRoles s).dmw = s.dmw ∧ (loadRoles s).nrg = s.nrg ∧ (loadRoles s).gau = s.gau ∧ (loadRoles s).rek = s.rek ∧
      (loadRoles s).att = s.att ∧ (loadRoles s).ecc = s.ecc ∧ (loadRoles s).tws = s.tws ∧ (loadRoles s).twp = s.twp ∧
      (loadRoles s).svc = s.svc ∧ (loadRoles s).log = s.log ∧ (loadRoles s).pwr = s.pwr ∧ (loadRoles s).fpl = s.fpl ∧
      (loadRoles s).jtag = s.jtag ∧ (loadRoles s).fuses = s.fuses ∧ (loadRoles s).cal = s.cal ∧ (loadRoles s).out = s.out ∧
      (loadRoles s).free = s.free ∧ (loadRoles s).pending = s.pending := by
  have q1 := modSet_frame
  simp (disch := (intros; (repeat' split) <;> simp_all)) [loadRoles]

theorem holdBoot_frame (s : State) :
    (holdBoot s).almanac = s.almanac ∧ (holdBoot s).fuses = s.fuses ∧ (holdBoot s).cal = s.cal ∧
      (holdBoot s).pending = s.pending := by
  have q1 := raiseAddr_frame
  simp [q1, holdBoot]

theorem decideRestore_frame (s : State) :
    (decideRestore s).almanac = s.almanac ∧ (decideRestore s).fuses = s.fuses ∧ (decideRestore s).cal = s.cal ∧
      (decideRestore s).pending = s.pending := by
  have q1 := beginRestore_frame
  have q2 := raise_frame
  have q3 := recordDirty_frame
  have q4 := transition_frame
  simp [q1, q2, q3, q4, decideRestore]

theorem zeroFill_frame (s : State) :
    (zeroFill s).almanac = s.almanac ∧ (zeroFill s).dev = s.dev ∧ (zeroFill s).stations = s.stations ∧
      (zeroFill s).hst = s.hst ∧ (zeroFill s).drc = s.drc ∧ (zeroFill s).stw = s.stw ∧ (zeroFill s).sav = s.sav ∧
      (zeroFill s).cel = s.cel ∧ (zeroFill s).dmw = s.dmw ∧ (zeroFill s).nrg = s.nrg ∧ (zeroFill s).gau = s.gau ∧
      (zeroFill s).rek = s.rek ∧ (zeroFill s).plk = s.plk ∧ (zeroFill s).att = s.att ∧ (zeroFill s).ecc = s.ecc ∧
      (zeroFill s).tws = s.tws ∧ (zeroFill s).twp = s.twp ∧ (zeroFill s).svc = s.svc ∧ (zeroFill s).log = s.log ∧
      (zeroFill s).pwr = s.pwr ∧ (zeroFill s).fpl = s.fpl ∧ (zeroFill s).jtag = s.jtag ∧ (zeroFill s).fuses = s.fuses ∧
      (zeroFill s).cal = s.cal ∧ (zeroFill s).out = s.out ∧ (zeroFill s).free = s.free ∧ (zeroFill s).pending = s.pending := by
  have q1 := modRoomTiles_frame
  simp [q1, zeroFill]

theorem noteSearch_frame (s : State) :
    (noteSearch s).almanac = s.almanac ∧ (noteSearch s).dev = s.dev ∧ (noteSearch s).stations = s.stations ∧
      (noteSearch s).hst = s.hst ∧ (noteSearch s).drc = s.drc ∧ (noteSearch s).dram = s.dram ∧ (noteSearch s).cht = s.cht ∧
      (noteSearch s).sui = s.sui ∧ (noteSearch s).stw = s.stw ∧ (noteSearch s).cel = s.cel ∧ (noteSearch s).dmw = s.dmw ∧
      (noteSearch s).nrg = s.nrg ∧ (noteSearch s).gau = s.gau ∧ (noteSearch s).rek = s.rek ∧ (noteSearch s).plk = s.plk ∧
      (noteSearch s).att = s.att ∧ (noteSearch s).ecc = s.ecc ∧ (noteSearch s).tws = s.tws ∧ (noteSearch s).twp = s.twp ∧
      (noteSearch s).svc = s.svc ∧ (noteSearch s).log = s.log ∧ (noteSearch s).pwr = s.pwr ∧ (noteSearch s).fpl = s.fpl ∧
      (noteSearch s).jtag = s.jtag ∧ (noteSearch s).fuses = s.fuses ∧ (noteSearch s).cal = s.cal ∧ (noteSearch s).out = s.out ∧
      (noteSearch s).pending = s.pending := by
  have q1 := takeFree_frame
  simp [q1, noteSearch]

theorem execEarlyTenancyEntry_frame (s : State) :
    (resAfter (execEarlyTenancyEntry s) s).almanac = s.almanac ∧ (resAfter (execEarlyTenancyEntry s) s).stations = s.stations ∧
      (resAfter (execEarlyTenancyEntry s) s).drc = s.drc ∧ (resAfter (execEarlyTenancyEntry s) s).dram = s.dram ∧
      (resAfter (execEarlyTenancyEntry s) s).cht = s.cht ∧ (resAfter (execEarlyTenancyEntry s) s).cel = s.cel ∧
      (resAfter (execEarlyTenancyEntry s) s).dmw = s.dmw ∧ (resAfter (execEarlyTenancyEntry s) s).nrg = s.nrg ∧
      (resAfter (execEarlyTenancyEntry s) s).gau = s.gau ∧ (resAfter (execEarlyTenancyEntry s) s).rek = s.rek ∧
      (resAfter (execEarlyTenancyEntry s) s).plk = s.plk ∧ (resAfter (execEarlyTenancyEntry s) s).att = s.att ∧
      (resAfter (execEarlyTenancyEntry s) s).ecc = s.ecc ∧ (resAfter (execEarlyTenancyEntry s) s).twp = s.twp ∧
      (resAfter (execEarlyTenancyEntry s) s).svc = s.svc ∧ (resAfter (execEarlyTenancyEntry s) s).pwr = s.pwr ∧
      (resAfter (execEarlyTenancyEntry s) s).fpl = s.fpl ∧ (resAfter (execEarlyTenancyEntry s) s).jtag = s.jtag ∧
      (resAfter (execEarlyTenancyEntry s) s).fuses = s.fuses ∧ (resAfter (execEarlyTenancyEntry s) s).cal = s.cal ∧
      (resAfter (execEarlyTenancyEntry s) s).free = s.free ∧ (resAfter (execEarlyTenancyEntry s) s).pending = s.pending ∧
      (resAfter (execEarlyTenancyEntry s) s).hst.linkUp = s.hst.linkUp ∧
      (resAfter (execEarlyTenancyEntry s) s).log.aonPowered = s.log.aonPowered := by
  have q1 := eraseReleased_frame
  have q2 := reeval_frame
  have q3 := reeval_frame3
  have q4 := transition_frame
  unfold execEarlyTenancyEntry; (repeat' split) <;> simp_all

theorem foldRecordOnly_frame (t : Nat) (s : State) :
    (foldRecordOnly t s).almanac = s.almanac ∧ (foldRecordOnly t s).dev = s.dev ∧ (foldRecordOnly t s).stations = s.stations ∧
      (foldRecordOnly t s).hst = s.hst ∧ (foldRecordOnly t s).drc = s.drc ∧ (foldRecordOnly t s).dram = s.dram ∧
      (foldRecordOnly t s).cht = s.cht ∧ (foldRecordOnly t s).sui = s.sui ∧ (foldRecordOnly t s).stw = s.stw ∧
      (foldRecordOnly t s).sav = s.sav ∧ (foldRecordOnly t s).dmw = s.dmw ∧ (foldRecordOnly t s).nrg = s.nrg ∧
      (foldRecordOnly t s).gau = s.gau ∧ (foldRecordOnly t s).rek = s.rek ∧ (foldRecordOnly t s).plk = s.plk ∧
      (foldRecordOnly t s).att = s.att ∧ (foldRecordOnly t s).ecc = s.ecc ∧ (foldRecordOnly t s).tws = s.tws ∧
      (foldRecordOnly t s).twp = s.twp ∧ (foldRecordOnly t s).svc = s.svc ∧ (foldRecordOnly t s).log = s.log ∧
      (foldRecordOnly t s).pwr = s.pwr ∧ (foldRecordOnly t s).fpl = s.fpl ∧ (foldRecordOnly t s).jtag = s.jtag ∧
      (foldRecordOnly t s).fuses = s.fuses ∧ (foldRecordOnly t s).cal = s.cal ∧ (foldRecordOnly t s).out = s.out ∧
      (foldRecordOnly t s).free = s.free ∧ (foldRecordOnly t s).pending = s.pending := by
  simp [foldRecordOnly]

theorem startFold_frame (t : Nat) (s : State) :
    (startFold t s).almanac = s.almanac ∧ (startFold t s).dev = s.dev ∧ (startFold t s).stations = s.stations ∧
      (startFold t s).hst = s.hst ∧ (startFold t s).dram = s.dram ∧ (startFold t s).stw = s.stw ∧ (startFold t s).dmw = s.dmw ∧
      (startFold t s).nrg = s.nrg ∧ (startFold t s).gau = s.gau ∧ (startFold t s).rek = s.rek ∧ (startFold t s).plk = s.plk ∧
      (startFold t s).att = s.att ∧ (startFold t s).ecc = s.ecc ∧ (startFold t s).tws = s.tws ∧ (startFold t s).twp = s.twp ∧
      (startFold t s).svc = s.svc ∧ (startFold t s).log = s.log ∧ (startFold t s).pwr = s.pwr ∧ (startFold t s).fpl = s.fpl ∧
      (startFold t s).jtag = s.jtag ∧ (startFold t s).fuses = s.fuses ∧ (startFold t s).cal = s.cal ∧
      (startFold t s).out = s.out ∧ (startFold t s).pending = s.pending := by
  have q1 := foldRecordOnly_frame
  have q2 := putTile_frame
  have q3 := tileAccess_frame
  simp [q1, q2, q3, startFold]

theorem sendHello_frame (s : State) :
    (sendHello s).almanac = s.almanac ∧ (sendHello s).dev = s.dev ∧ (sendHello s).stations = s.stations ∧
      (sendHello s).hst = s.hst ∧ (sendHello s).drc = s.drc ∧ (sendHello s).dram = s.dram ∧ (sendHello s).cht = s.cht ∧
      (sendHello s).sui = s.sui ∧ (sendHello s).stw = s.stw ∧ (sendHello s).sav = s.sav ∧ (sendHello s).cel = s.cel ∧
      (sendHello s).dmw = s.dmw ∧ (sendHello s).nrg = s.nrg ∧ (sendHello s).gau = s.gau ∧ (sendHello s).rek = s.rek ∧
      (sendHello s).plk = s.plk ∧ (sendHello s).att = s.att ∧ (sendHello s).ecc = s.ecc ∧ (sendHello s).tws = s.tws ∧
      (sendHello s).twp = s.twp ∧ (sendHello s).svc = s.svc ∧ (sendHello s).log = s.log ∧ (sendHello s).pwr = s.pwr ∧
      (sendHello s).fpl = s.fpl ∧ (sendHello s).jtag = s.jtag ∧ (sendHello s).fuses = s.fuses ∧ (sendHello s).cal = s.cal ∧
      (sendHello s).free = s.free ∧ (sendHello s).pending = s.pending := by
  simp [sendHello]

theorem startResync_frame (k : Nat) (s : State) :
    (startResync k s).almanac = s.almanac ∧ (startResync k s).dev = s.dev ∧ (startResync k s).stations = s.stations ∧
      (startResync k s).drc = s.drc ∧ (startResync k s).dram = s.dram ∧ (startResync k s).cht = s.cht ∧
      (startResync k s).stw = s.stw ∧ (startResync k s).cel = s.cel ∧ (startResync k s).dmw = s.dmw ∧
      (startResync k s).nrg = s.nrg ∧ (startResync k s).gau = s.gau ∧ (startResync k s).rek = s.rek ∧
      (startResync k s).att = s.att ∧ (startResync k s).ecc = s.ecc ∧ (startResync k s).twp = s.twp ∧
      (startResync k s).svc = s.svc ∧ (startResync k s).pwr = s.pwr ∧ (startResync k s).fpl = s.fpl ∧
      (startResync k s).jtag = s.jtag ∧ (startResync k s).fuses = s.fuses ∧ (startResync k s).cal = s.cal ∧
      (startResync k s).free = s.free ∧ (startResync k s).pending = s.pending := by
  have q1 := changeSet_frame
  have q2 := modSet_frame
  simp [q1, q2, startResync]

theorem resyncEnd_frame (k : Nat) (s : State) :
    (resyncEnd k s).almanac = s.almanac ∧ (resyncEnd k s).dev = s.dev ∧ (resyncEnd k s).stations = s.stations ∧
      (resyncEnd k s).drc = s.drc ∧ (resyncEnd k s).dram = s.dram ∧ (resyncEnd k s).cht = s.cht ∧ (resyncEnd k s).stw = s.stw ∧
      (resyncEnd k s).cel = s.cel ∧ (resyncEnd k s).dmw = s.dmw ∧ (resyncEnd k s).nrg = s.nrg ∧ (resyncEnd k s).gau = s.gau ∧
      (resyncEnd k s).rek = s.rek ∧ (resyncEnd k s).att = s.att ∧ (resyncEnd k s).ecc = s.ecc ∧ (resyncEnd k s).twp = s.twp ∧
      (resyncEnd k s).svc = s.svc ∧ (resyncEnd k s).pwr = s.pwr ∧ (resyncEnd k s).fpl = s.fpl ∧ (resyncEnd k s).jtag = s.jtag ∧
      (resyncEnd k s).fuses = s.fuses ∧ (resyncEnd k s).cal = s.cal ∧ (resyncEnd k s).free = s.free ∧
      (resyncEnd k s).pending = s.pending := by
  have q1 := changeSet_frame
  have q2 := modSet_frame
  simp [q1, q2, resyncEnd]

theorem startStandby_frame (k : Nat) (s : State) :
    (startStandby k s).almanac = s.almanac ∧ (startStandby k s).dev = s.dev ∧ (startStandby k s).stations = s.stations ∧
      (startStandby k s).drc = s.drc ∧ (startStandby k s).dram = s.dram ∧ (startStandby k s).cht = s.cht ∧
      (startStandby k s).stw = s.stw ∧ (startStandby k s).cel = s.cel ∧ (startStandby k s).dmw = s.dmw ∧
      (startStandby k s).nrg = s.nrg ∧ (startStandby k s).gau = s.gau ∧ (startStandby k s).rek = s.rek ∧
      (startStandby k s).att = s.att ∧ (startStandby k s).ecc = s.ecc ∧ (startStandby k s).twp = s.twp ∧
      (startStandby k s).svc = s.svc ∧ (startStandby k s).pwr = s.pwr ∧ (startStandby k s).fpl = s.fpl ∧
      (startStandby k s).jtag = s.jtag ∧ (startStandby k s).fuses = s.fuses ∧ (startStandby k s).cal = s.cal ∧
      (startStandby k s).free = s.free ∧ (startStandby k s).pending = s.pending := by
  have q1 := changeSet_frame
  have q2 := modSet_frame
  simp [q1, q2, startStandby]

theorem programRole_frame (k role epoch : Nat) (next : RoleNext) (s : State) :
    (programRole k role epoch next s).almanac = s.almanac ∧ (programRole k role epoch next s).dev = s.dev ∧
      (programRole k role epoch next s).stations = s.stations ∧ (programRole k role epoch next s).hst = s.hst ∧
      (programRole k role epoch next s).drc = s.drc ∧ (programRole k role epoch next s).dram = s.dram ∧
      (programRole k role epoch next s).cht = s.cht ∧ (programRole k role epoch next s).sui = s.sui ∧
      (programRole k role epoch next s).stw = s.stw ∧ (programRole k role epoch next s).sav = s.sav ∧
      (programRole k role epoch next s).cel = s.cel ∧ (programRole k role epoch next s).dmw = s.dmw ∧
      (programRole k role epoch next s).nrg = s.nrg ∧ (programRole k role epoch next s).gau = s.gau ∧
      (programRole k role epoch next s).rek = s.rek ∧ (programRole k role epoch next s).att = s.att ∧
      (programRole k role epoch next s).ecc = s.ecc ∧ (programRole k role epoch next s).tws = s.tws ∧
      (programRole k role epoch next s).twp = s.twp ∧ (programRole k role epoch next s).svc = s.svc ∧
      (programRole k role epoch next s).log = s.log ∧ (programRole k role epoch next s).pwr = s.pwr ∧
      (programRole k role epoch next s).fpl = s.fpl ∧ (programRole k role epoch next s).jtag = s.jtag ∧
      (programRole k role epoch next s).fuses = s.fuses ∧ (programRole k role epoch next s).cal = s.cal ∧
      (programRole k role epoch next s).out = s.out ∧ (programRole k role epoch next s).free = s.free ∧
      (programRole k role epoch next s).pending = s.pending := by
  have q1 := modSet_frame
  simp [q1, programRole]

theorem splitCheck_frame (k : Nat) (s : State) :
    (splitCheck k s).almanac = s.almanac ∧ (splitCheck k s).fuses = s.fuses ∧ (splitCheck k s).cal = s.cal ∧
      (splitCheck k s).pending = s.pending := by
  have q1 := modSet_frame
  have q2 := raiseAddr_frame
  simp [q1, q2, splitCheck]

theorem settle_frame (k role epoch : Nat) (s : State) :
    (settle k role epoch s).almanac = s.almanac ∧ (settle k role epoch s).fuses = s.fuses ∧
      (settle k role epoch s).cal = s.cal ∧ (settle k role epoch s).pending = s.pending := by
  have q1 := programRole_frame
  have q2 := splitCheck_frame
  have q3 := startResync_frame
  have q4 := startStandby_frame
  simp [q1, q2, q3, q4, settle]

theorem helloSet_frame (fresh : Bool) (k : Nat) (p : PeerSet) (s : State) :
    (helloSet fresh k p s).almanac = s.almanac ∧ (helloSet fresh k p s).fuses = s.fuses ∧ (helloSet fresh k p s).cal = s.cal ∧
      (helloSet fresh k p s).pending = s.pending := by
  have q1 := modSet_frame
  have q2 := raiseAddr_frame
  have q3 := settle_frame
  simp [q1, q2, q3, helloSet]

theorem settleLate_frame (k : Nat) (s : State) :
    (settleLate k s).almanac = s.almanac ∧ (settleLate k s).fuses = s.fuses ∧ (settleLate k s).cal = s.cal ∧
      (settleLate k s).pending = s.pending := by
  have q1 := modSet_frame
  have q2 := settle_frame
  unfold settleLate; (repeat' split) <;> simp_all

theorem endDrill_frame (k outcome : Nat) (s : State) :
    (endDrill k outcome s).almanac = s.almanac ∧ (endDrill k outcome s).fuses = s.fuses ∧ (endDrill k outcome s).cal = s.cal ∧
      (endDrill k outcome s).pending = s.pending := by
  have q1 := modSet_frame
  have q2 := raiseAddr_frame
  unfold endDrill; (repeat' split) <;> simp_all

theorem schedule_frame (k at_ : Nat) (s : State) :
    (schedule k at_ s).almanac = s.almanac ∧ (schedule k at_ s).dev = s.dev ∧ (schedule k at_ s).stations = s.stations ∧
      (schedule k at_ s).drc = s.drc ∧ (schedule k at_ s).dram = s.dram ∧ (schedule k at_ s).cht = s.cht ∧
      (schedule k at_ s).sui = s.sui ∧ (schedule k at_ s).stw = s.stw ∧ (schedule k at_ s).sav = s.sav ∧
      (schedule k at_ s).cel = s.cel ∧ (schedule k at_ s).dmw = s.dmw ∧ (schedule k at_ s).nrg = s.nrg ∧
      (schedule k at_ s).gau = s.gau ∧ (schedule k at_ s).rek = s.rek ∧ (schedule k at_ s).att = s.att ∧
      (schedule k at_ s).ecc = s.ecc ∧ (schedule k at_ s).tws = s.tws ∧ (schedule k at_ s).twp = s.twp ∧
      (schedule k at_ s).svc = s.svc ∧ (schedule k at_ s).pwr = s.pwr ∧ (schedule k at_ s).fpl = s.fpl ∧
      (schedule k at_ s).jtag = s.jtag ∧ (schedule k at_ s).fuses = s.fuses ∧ (schedule k at_ s).cal = s.cal ∧
      (schedule k at_ s).free = s.free ∧ (schedule k at_ s).pending = s.pending ∧
      (schedule k at_ s).hst.linkUp = s.hst.linkUp ∧ (schedule k at_ s).hst.gateClosed = s.hst.gateClosed ∧
      (schedule k at_ s).log.aonPowered = s.log.aonPowered := by
  have q1 := event_frame
  have q2 := modSet_frame
  have q3 := notify_frame
  have q4 := notify_frame2
  simp [q1, q2, q3, q4, schedule]

theorem roleSteps_frame (k : Nat) (s : State) :
    (roleSteps k s).almanac = s.almanac ∧ (roleSteps k s).dev = s.dev ∧ (roleSteps k s).stations = s.stations ∧
      (roleSteps k s).hst = s.hst ∧ (roleSteps k s).drc = s.drc ∧ (roleSteps k s).dram = s.dram ∧ (roleSteps k s).cht = s.cht ∧
      (roleSteps k s).sui = s.sui ∧ (roleSteps k s).stw = s.stw ∧ (roleSteps k s).sav = s.sav ∧ (roleSteps k s).cel = s.cel ∧
      (roleSteps k s).dmw = s.dmw ∧ (roleSteps k s).nrg = s.nrg ∧ (roleSteps k s).gau = s.gau ∧ (roleSteps k s).rek = s.rek ∧
      (roleSteps k s).att = s.att ∧ (roleSteps k s).ecc = s.ecc ∧ (roleSteps k s).tws = s.tws ∧ (roleSteps k s).twp = s.twp ∧
      (roleSteps k s).svc = s.svc ∧ (roleSteps k s).log = s.log ∧ (roleSteps k s).pwr = s.pwr ∧ (roleSteps k s).fpl = s.fpl ∧
      (roleSteps k s).jtag = s.jtag ∧ (roleSteps k s).fuses = s.fuses ∧ (roleSteps k s).cal = s.cal ∧
      (roleSteps k s).out = s.out ∧ (roleSteps k s).free = s.free ∧ (roleSteps k s).pending = s.pending := by
  have q1 := programRole_frame
  simp only [roleSteps]; (repeat' split) <;> simp [q1]

theorem promote_frame (k : Nat) (s : State) :
    (promote k s).almanac = s.almanac ∧ (promote k s).dev = s.dev ∧ (promote k s).stations = s.stations ∧
      (promote k s).hst = s.hst ∧ (promote k s).drc = s.drc ∧ (promote k s).dram = s.dram ∧ (promote k s).cht = s.cht ∧
      (promote k s).sui = s.sui ∧ (promote k s).stw = s.stw ∧ (promote k s).sav = s.sav ∧ (promote k s).cel = s.cel ∧
      (promote k s).dmw = s.dmw ∧ (promote k s).nrg = s.nrg ∧ (promote k s).gau = s.gau ∧ (promote k s).rek = s.rek ∧
      (promote k s).att = s.att ∧ (promote k s).ecc = s.ecc ∧ (promote k s).tws = s.tws ∧ (promote k s).twp = s.twp ∧
      (promote k s).svc = s.svc ∧ (promote k s).log = s.log ∧ (promote k s).pwr = s.pwr ∧ (promote k s).fpl = s.fpl ∧
      (promote k s).jtag = s.jtag ∧ (promote k s).fuses = s.fuses ∧ (promote k s).cal = s.cal ∧ (promote k s).out = s.out ∧
      (promote k s).free = s.free ∧ (promote k s).pending = s.pending := by
  have q1 := modSet_frame
  have q2 := roleSteps_frame
  simp [q1, q2, promote]

theorem handStep_frame (k : Nat) (s : State) :
    (handStep k s).almanac = s.almanac ∧ (handStep k s).dev = s.dev ∧ (handStep k s).stations = s.stations ∧
      (handStep k s).hst = s.hst ∧ (handStep k s).drc = s.drc ∧ (handStep k s).dram = s.dram ∧ (handStep k s).cht = s.cht ∧
      (handStep k s).sui = s.sui ∧ (handStep k s).stw = s.stw ∧ (handStep k s).sav = s.sav ∧ (handStep k s).cel = s.cel ∧
      (handStep k s).dmw = s.dmw ∧ (handStep k s).nrg = s.nrg ∧ (handStep k s).gau = s.gau ∧ (handStep k s).rek = s.rek ∧
      (handStep k s).att = s.att ∧ (handStep k s).ecc = s.ecc ∧ (handStep k s).tws = s.tws ∧ (handStep k s).twp = s.twp ∧
      (handStep k s).svc = s.svc ∧ (handStep k s).log = s.log ∧ (handStep k s).pwr = s.pwr ∧ (handStep k s).fpl = s.fpl ∧
      (handStep k s).jtag = s.jtag ∧ (handStep k s).fuses = s.fuses ∧ (handStep k s).cal = s.cal ∧ (handStep k s).out = s.out ∧
      (handStep k s).free = s.free ∧ (handStep k s).pending = s.pending := by
  have q1 := programRole_frame
  simp [q1, handStep]

theorem drillHandover_frame (k phase : Nat) (s : State) :
    (drillHandover k phase s).almanac = s.almanac ∧ (drillHandover k phase s).dev = s.dev ∧
      (drillHandover k phase s).stations = s.stations ∧ (drillHandover k phase s).drc = s.drc ∧
      (drillHandover k phase s).dram = s.dram ∧ (drillHandover k phase s).cht = s.cht ∧ (drillHandover k phase s).sui = s.sui ∧
      (drillHandover k phase s).stw = s.stw ∧ (drillHandover k phase s).sav = s.sav ∧ (drillHandover k phase s).cel = s.cel ∧
      (drillHandover k phase s).dmw = s.dmw ∧ (drillHandover k phase s).nrg = s.nrg ∧ (drillHandover k phase s).gau = s.gau ∧
      (drillHandover k phase s).rek = s.rek ∧ (drillHandover k phase s).att = s.att ∧ (drillHandover k phase s).ecc = s.ecc ∧
      (drillHandover k phase s).tws = s.tws ∧ (drillHandover k phase s).twp = s.twp ∧ (drillHandover k phase s).svc = s.svc ∧
      (drillHandover k phase s).pwr = s.pwr ∧ (drillHandover k phase s).fpl = s.fpl ∧ (drillHandover k phase s).jtag = s.jtag ∧
      (drillHandover k phase s).fuses = s.fuses ∧ (drillHandover k phase s).cal = s.cal ∧
      (drillHandover k phase s).free = s.free ∧ (drillHandover k phase s).pending = s.pending := by
  have q1 := modSet_frame
  have q2 := schedule_frame
  simp [q1, q2, drillHandover]

theorem drillHandover_frame2 (k phase : Nat) (s : State) :
    (drillHandover k phase s).hst.linkUp = s.hst.linkUp ∧ (drillHandover k phase s).hst.gateClosed = s.hst.gateClosed ∧
      (drillHandover k phase s).log.aonPowered = s.log.aonPowered := by
  have q1 := modSet_frame
  have q2 := schedule_frame
  unfold drillHandover; (repeat' split) <;> simp_all

theorem execKlTrained_frame (peerMax peerMin : Nat) (s : State) :
    (resAfter (execKlTrained peerMax peerMin s) s).almanac = s.almanac ∧
      (resAfter (execKlTrained peerMax peerMin s) s).fuses = s.fuses ∧
      (resAfter (execKlTrained peerMax peerMin s) s).cal = s.cal ∧
      (resAfter (execKlTrained peerMax peerMin s) s).pending = s.pending := by
  have q1 := raise_frame
  have q2 := sendHello_frame
  simp only [execKlTrained]; (repeat' split) <;> simp [q1, q2]

theorem execRevRetry_frame (s : State) :
    (resAfter (execRevRetry s) s).dev = s.dev ∧ (resAfter (execRevRetry s) s).stations = s.stations ∧
      (resAfter (execRevRetry s) s).hst = s.hst ∧ (resAfter (execRevRetry s) s).drc = s.drc ∧
      (resAfter (execRevRetry s) s).dram = s.dram ∧ (resAfter (execRevRetry s) s).cht = s.cht ∧
      (resAfter (execRevRetry s) s).sui = s.sui ∧ (resAfter (execRevRetry s) s).stw = s.stw ∧
      (resAfter (execRevRetry s) s).sav = s.sav ∧ (resAfter (execRevRetry s) s).cel = s.cel ∧
      (resAfter (execRevRetry s) s).dmw = s.dmw ∧ (resAfter (execRevRetry s) s).nrg = s.nrg ∧
      (resAfter (execRevRetry s) s).gau = s.gau ∧ (resAfter (execRevRetry s) s).rek = s.rek ∧
      (resAfter (execRevRetry s) s).att = s.att ∧ (resAfter (execRevRetry s) s).ecc = s.ecc ∧
      (resAfter (execRevRetry s) s).tws = s.tws ∧ (resAfter (execRevRetry s) s).twp = s.twp ∧
      (resAfter (execRevRetry s) s).pwr = s.pwr ∧ (resAfter (execRevRetry s) s).fpl = s.fpl ∧
      (resAfter (execRevRetry s) s).jtag = s.jtag ∧ (resAfter (execRevRetry s) s).fuses = s.fuses ∧
      (resAfter (execRevRetry s) s).cal = s.cal ∧ (resAfter (execRevRetry s) s).out = s.out ∧
      (resAfter (execRevRetry s) s).free = s.free ∧ (resAfter (execRevRetry s) s).pending = s.pending ∧
      (resAfter (execRevRetry s) s).log.aonPowered = s.log.aonPowered := by
  have q1 := advanceTo_frame
  unfold execRevRetry; (repeat' split) <;> simp_all

theorem execHelloMessage_frame (partner : Nat) (ident : List Byte) (peers : List PeerSet) (s : State) :
    (resAfter (execHelloMessage partner ident peers s) s).almanac = s.almanac ∧
      (resAfter (execHelloMessage partner ident peers s) s).fuses = s.fuses ∧
      (resAfter (execHelloMessage partner ident peers s) s).cal = s.cal ∧
      (resAfter (execHelloMessage partner ident peers s) s).pending = s.pending := by
  have q1 := helloSet_frame
  unfold execHelloMessage; (repeat' split) <;> simp [q1]

theorem execFlitReceive_frame (crcOk : Bool) (fseq hbState : Nat) (hbCount : Option Nat) (s : State) :
    (resAfter (execFlitReceive crcOk fseq hbState hbCount s) s).almanac = s.almanac ∧
      (resAfter (execFlitReceive crcOk fseq hbState hbCount s) s).fuses = s.fuses ∧
      (resAfter (execFlitReceive crcOk fseq hbState hbCount s) s).cal = s.cal ∧
      (resAfter (execFlitReceive crcOk fseq hbState hbCount s) s).pending = s.pending := by
  have q1 := raise_frame
  simp only [execFlitReceive]; (repeat' split) <;> simp [q1]

theorem execCreditMessage_frame (inStep resync : Nat) (s : State) :
    (resAfter (execCreditMessage inStep resync s) s).almanac = s.almanac ∧
      (resAfter (execCreditMessage inStep resync s) s).dev = s.dev ∧
      (resAfter (execCreditMessage inStep resync s) s).stations = s.stations ∧
      (resAfter (execCreditMessage inStep resync s) s).hst = s.hst ∧
      (resAfter (execCreditMessage inStep resync s) s).drc = s.drc ∧
      (resAfter (execCreditMessage inStep resync s) s).dram = s.dram ∧
      (resAfter (execCreditMessage inStep resync s) s).cht = s.cht ∧
      (resAfter (execCreditMessage inStep resync s) s).sui = s.sui ∧
      (resAfter (execCreditMessage inStep resync s) s).stw = s.stw ∧
      (resAfter (execCreditMessage inStep resync s) s).sav = s.sav ∧
      (resAfter (execCreditMessage inStep resync s) s).cel = s.cel ∧
      (resAfter (execCreditMessage inStep resync s) s).dmw = s.dmw ∧
      (resAfter (execCreditMessage inStep resync s) s).nrg = s.nrg ∧
      (resAfter (execCreditMessage inStep resync s) s).gau = s.gau ∧
      (resAfter (execCreditMessage inStep resync s) s).rek = s.rek ∧
      (resAfter (execCreditMessage inStep resync s) s).att = s.att ∧
      (resAfter (execCreditMessage inStep resync s) s).ecc = s.ecc ∧
      (resAfter (execCreditMessage inStep resync s) s).tws = s.tws ∧
      (resAfter (execCreditMessage inStep resync s) s).twp = s.twp ∧
      (resAfter (execCreditMessage inStep resync s) s).svc = s.svc ∧
      (resAfter (execCreditMessage inStep resync s) s).log = s.log ∧
      (resAfter (execCreditMessage inStep resync s) s).pwr = s.pwr ∧
      (resAfter (execCreditMessage inStep resync s) s).fpl = s.fpl ∧
      (resAfter (execCreditMessage inStep resync s) s).jtag = s.jtag ∧
      (resAfter (execCreditMessage inStep resync s) s).fuses = s.fuses ∧
      (resAfter (execCreditMessage inStep resync s) s).cal = s.cal ∧
      (resAfter (execCreditMessage inStep resync s) s).out = s.out ∧
      (resAfter (execCreditMessage inStep resync s) s).free = s.free ∧
      (resAfter (execCreditMessage inStep resync s) s).pending = s.pending := by
  unfold execCreditMessage; (repeat' split) <;> simp_all

theorem execPartnerForwardSend_frame (s : State) :
    (resAfter (execPartnerForwardSend s) s).almanac = s.almanac ∧ (resAfter (execPartnerForwardSend s) s).dev = s.dev ∧
      (resAfter (execPartnerForwardSend s) s).stations = s.stations ∧ (resAfter (execPartnerForwardSend s) s).hst = s.hst ∧
      (resAfter (execPartnerForwardSend s) s).drc = s.drc ∧ (resAfter (execPartnerForwardSend s) s).dram = s.dram ∧
      (resAfter (execPartnerForwardSend s) s).cht = s.cht ∧ (resAfter (execPartnerForwardSend s) s).sui = s.sui ∧
      (resAfter (execPartnerForwardSend s) s).stw = s.stw ∧ (resAfter (execPartnerForwardSend s) s).sav = s.sav ∧
      (resAfter (execPartnerForwardSend s) s).cel = s.cel ∧ (resAfter (execPartnerForwardSend s) s).dmw = s.dmw ∧
      (resAfter (execPartnerForwardSend s) s).nrg = s.nrg ∧ (resAfter (execPartnerForwardSend s) s).gau = s.gau ∧
      (resAfter (execPartnerForwardSend s) s).rek = s.rek ∧ (resAfter (execPartnerForwardSend s) s).att = s.att ∧
      (resAfter (execPartnerForwardSend s) s).ecc = s.ecc ∧ (resAfter (execPartnerForwardSend s) s).tws = s.tws ∧
      (resAfter (execPartnerForwardSend s) s).twp = s.twp ∧ (resAfter (execPartnerForwardSend s) s).svc = s.svc ∧
      (resAfter (execPartnerForwardSend s) s).log = s.log ∧ (resAfter (execPartnerForwardSend s) s).pwr = s.pwr ∧
      (resAfter (execPartnerForwardSend s) s).fpl = s.fpl ∧ (resAfter (execPartnerForwardSend s) s).jtag = s.jtag ∧
      (resAfter (execPartnerForwardSend s) s).fuses = s.fuses ∧ (resAfter (execPartnerForwardSend s) s).cal = s.cal ∧
      (resAfter (execPartnerForwardSend s) s).free = s.free ∧ (resAfter (execPartnerForwardSend s) s).pending = s.pending := by
  have q1 := sendFlit_frame
  simp only [execPartnerForwardSend]; (repeat' split) <;> simp [q1]

theorem rtNoted_frame (beat : Nat) (s : State) :
    (rtNoted beat s).almanac = s.almanac ∧ (rtNoted beat s).dev = s.dev ∧ (rtNoted beat s).stations = s.stations ∧
      (rtNoted beat s).hst = s.hst ∧ (rtNoted beat s).dram = s.dram ∧ (rtNoted beat s).cht = s.cht ∧
      (rtNoted beat s).sui = s.sui ∧ (rtNoted beat s).stw = s.stw ∧ (rtNoted beat s).sav = s.sav ∧
      (rtNoted beat s).cel = s.cel ∧ (rtNoted beat s).dmw = s.dmw ∧ (rtNoted beat s).nrg = s.nrg ∧
      (rtNoted beat s).gau = s.gau ∧ (rtNoted beat s).rek = s.rek ∧ (rtNoted beat s).plk = s.plk ∧
      (rtNoted beat s).att = s.att ∧ (rtNoted beat s).ecc = s.ecc ∧ (rtNoted beat s).tws = s.tws ∧
      (rtNoted beat s).twp = s.twp ∧ (rtNoted beat s).svc = s.svc ∧ (rtNoted beat s).log = s.log ∧
      (rtNoted beat s).pwr = s.pwr ∧ (rtNoted beat s).fpl = s.fpl ∧ (rtNoted beat s).jtag = s.jtag ∧
      (rtNoted beat s).fuses = s.fuses ∧ (rtNoted beat s).cal = s.cal ∧ (rtNoted beat s).out = s.out ∧
      (rtNoted beat s).free = s.free ∧ (rtNoted beat s).pending = s.pending := by
  have q1 := noteEntry_frame
  unfold rtNoted; (repeat' split) <;> simp_all

theorem enterPartner_frame (k : Nat) (w : BeatWrite) (resync : Bool) (n : Nat) (s : State) :
    (enterPartner k w resync n s).almanac = s.almanac ∧ (enterPartner k w resync n s).fuses = s.fuses ∧
      (enterPartner k w resync n s).cal = s.cal ∧ (enterPartner k w resync n s).pending = s.pending := by
  have q1 := listPoison_frame
  have q2 := modSet_frame
  have q3 := rtNoted_frame
  have q4 := unlistBeat_frame
  have q5 := writeEvent_frame
  simp [q1, q2, q3, q4, q5, enterPartner]

theorem execPartnerWriteEntry_frame (set wseq beat : Nat) (data : List Byte) (enables : Dword) (poison resync : Bool)
    (s : State) :
    (resAfter (execPartnerWriteEntry set wseq beat data enables poison resync s) s).almanac = s.almanac ∧
      (resAfter (execPartnerWriteEntry set wseq beat data enables poison resync s) s).fuses = s.fuses ∧
      (resAfter (execPartnerWriteEntry set wseq beat data enables poison resync s) s).cal = s.cal ∧
      (resAfter (execPartnerWriteEntry set wseq beat data enables poison resync s) s).pending = s.pending := by
  have q1 := enterPartner_frame
  have q2 := roleSteps_frame
  simp only [execPartnerWriteEntry]; (repeat' split) <;> simp [q1, q2]

theorem ackBeat_frame (b : FwdBeat) (s : State) :
    (ackBeat b s).almanac = s.almanac ∧ (ackBeat b s).dev = s.dev ∧ (ackBeat b s).stations = s.stations ∧
      (ackBeat b s).drc = s.drc ∧ (ackBeat b s).dram = s.dram ∧ (ackBeat b s).cht = s.cht ∧ (ackBeat b s).sui = s.sui ∧
      (ackBeat b s).stw = s.stw ∧ (ackBeat b s).sav = s.sav ∧ (ackBeat b s).cel = s.cel ∧ (ackBeat b s).dmw = s.dmw ∧
      (ackBeat b s).nrg = s.nrg ∧ (ackBeat b s).gau = s.gau ∧ (ackBeat b s).rek = s.rek ∧ (ackBeat b s).att = s.att ∧
      (ackBeat b s).ecc = s.ecc ∧ (ackBeat b s).tws = s.tws ∧ (ackBeat b s).twp = s.twp ∧ (ackBeat b s).svc = s.svc ∧
      (ackBeat b s).log = s.log ∧ (ackBeat b s).pwr = s.pwr ∧ (ackBeat b s).fpl = s.fpl ∧ (ackBeat b s).jtag = s.jtag ∧
      (ackBeat b s).fuses = s.fuses ∧ (ackBeat b s).cal = s.cal ∧ (ackBeat b s).free = s.free ∧
      (ackBeat b s).pending = s.pending ∧ (ackBeat b s).hst.linkUp = s.hst.linkUp ∧
      (ackBeat b s).hst.gateClosed = s.hst.gateClosed := by
  have q1 := complete_frame
  unfold ackBeat; (repeat' split) <;> simp_all

theorem execAckMessage_frame (set wseq : Nat) (s : State) :
    (resAfter (execAckMessage set wseq s) s).almanac = s.almanac ∧ (resAfter (execAckMessage set wseq s) s).dev = s.dev ∧
      (resAfter (execAckMessage set wseq s) s).stations = s.stations ∧ (resAfter (execAckMessage set wseq s) s).drc = s.drc ∧
      (resAfter (execAckMessage set wseq s) s).dram = s.dram ∧ (resAfter (execAckMessage set wseq s) s).cht = s.cht ∧
      (resAfter (execAckMessage set wseq s) s).stw = s.stw ∧ (resAfter (execAckMessage set wseq s) s).cel = s.cel ∧
      (resAfter (execAckMessage set wseq s) s).dmw = s.dmw ∧ (resAfter (execAckMessage set wseq s) s).nrg = s.nrg ∧
      (resAfter (execAckMessage set wseq s) s).gau = s.gau ∧ (resAfter (execAckMessage set wseq s) s).rek = s.rek ∧
      (resAfter (execAckMessage set wseq s) s).att = s.att ∧ (resAfter (execAckMessage set wseq s) s).ecc = s.ecc ∧
      (resAfter (execAckMessage set wseq s) s).twp = s.twp ∧ (resAfter (execAckMessage set wseq s) s).svc = s.svc ∧
      (resAfter (execAckMessage set wseq s) s).pwr = s.pwr ∧ (resAfter (execAckMessage set wseq s) s).fpl = s.fpl ∧
      (resAfter (execAckMessage set wseq s) s).jtag = s.jtag ∧ (resAfter (execAckMessage set wseq s) s).fuses = s.fuses ∧
      (resAfter (execAckMessage set wseq s) s).cal = s.cal ∧ (resAfter (execAckMessage set wseq s) s).free = s.free ∧
      (resAfter (execAckMessage set wseq s) s).pending = s.pending := by
  have q1 := ackBeat_frame
  have q2 := admitWrites_frame
  have q3 := handStep_frame
  have q4 := modSet_frame
  have q5 := resyncEnd_frame
  unfold execAckMessage; (repeat' split) <;> simp_all

theorem sendWatch_frame (k : Nat) (s : State) :
    (sendWatch k s).almanac = s.almanac ∧ (sendWatch k s).fuses = s.fuses ∧ (sendWatch k s).cal = s.cal ∧
      (sendWatch k s).pending = s.pending := by
  have q1 := modSet_frame
  have q2 := raiseAddr_frame
  simp [q1, q2, sendWatch]

theorem execWatchSend_frame (s : State) :
    (resAfter (execWatchSend s) s).fuses = s.fuses ∧ (resAfter (execWatchSend s) s).cal = s.cal ∧
      (resAfter (execWatchSend s) s).pending = s.pending := by
  have q1 := advanceTo_frame
  have q2 := sendWatch_frame
  unfold execWatchSend; (repeat' split) <;> simp_all

theorem markBuffered_frame (cover : Nat → Bool) (s : State) :
    (markBuffered cover s).almanac = s.almanac ∧ (markBuffered cover s).dev = s.dev ∧
      (markBuffered cover s).stations = s.stations ∧ (markBuffered cover s).hst = s.hst ∧ (markBuffered cover s).drc = s.drc ∧
      (markBuffered cover s).dram = s.dram ∧ (markBuffered cover s).cht = s.cht ∧ (markBuffered cover s).sui = s.sui ∧
      (markBuffered cover s).stw = s.stw ∧ (markBuffered cover s).sav = s.sav ∧ (markBuffered cover s).cel = s.cel ∧
      (markBuffered cover s).dmw = s.dmw ∧ (markBuffered cover s).nrg = s.nrg ∧ (markBuffered cover s).gau = s.gau ∧
      (markBuffered cover s).rek = s.rek ∧ (markBuffered cover s).att = s.att ∧ (markBuffered cover s).ecc = s.ecc ∧
      (markBuffered cover s).tws = s.tws ∧ (markBuffered cover s).twp = s.twp ∧ (markBuffered cover s).svc = s.svc ∧
      (markBuffered cover s).log = s.log ∧ (markBuffered cover s).pwr = s.pwr ∧ (markBuffered cover s).fpl = s.fpl ∧
      (markBuffered cover s).jtag = s.jtag ∧ (markBuffered cover s).fuses = s.fuses ∧ (markBuffered cover s).cal = s.cal ∧
      (markBuffered cover s).out = s.out ∧ (markBuffered cover s).free = s.free ∧ (markBuffered cover s).pending = s.pending :=
      by
  simp [markBuffered]

theorem applyWatchPoison_frame (r : WatchPoison) (s : State) :
    (applyWatchPoison r s).almanac = s.almanac ∧ (applyWatchPoison r s).fuses = s.fuses ∧ (applyWatchPoison r s).cal = s.cal ∧
      (applyWatchPoison r s).pending = s.pending := by
  have q1 := listPoison_frame
  have q2 := markBuffered_frame
  have q3 := poisonBeat_frame
  have q4 := unlistBeat_frame
  have q5 := writeEvent_frame
  simp [q1, q2, q3, q4, q5, applyWatchPoison]

theorem execWatchMessage_frame (w : Watch) (s : State) :
    (resAfter (execWatchMessage w s) s).almanac = s.almanac ∧ (resAfter (execWatchMessage w s) s).fuses = s.fuses ∧
      (resAfter (execWatchMessage w s) s).cal = s.cal ∧ (resAfter (execWatchMessage w s) s).pending = s.pending := by
  have q1 := applyWatchPoison_frame
  have q2 := changeSet_frame
  have q3 := modSet_frame
  simp only [execWatchMessage]; (repeat' split) <;> simp [q1, q2, q3]

theorem execHeartbeatSend_frame (s : State) :
    (resAfter (execHeartbeatSend s) s).dev = s.dev ∧ (resAfter (execHeartbeatSend s) s).stations = s.stations ∧
      (resAfter (execHeartbeatSend s) s).hst = s.hst ∧ (resAfter (execHeartbeatSend s) s).drc = s.drc ∧
      (resAfter (execHeartbeatSend s) s).dram = s.dram ∧ (resAfter (execHeartbeatSend s) s).cht = s.cht ∧
      (resAfter (execHeartbeatSend s) s).sui = s.sui ∧ (resAfter (execHeartbeatSend s) s).stw = s.stw ∧
      (resAfter (execHeartbeatSend s) s).sav = s.sav ∧ (resAfter (execHeartbeatSend s) s).cel = s.cel ∧
      (resAfter (execHeartbeatSend s) s).dmw = s.dmw ∧ (resAfter (execHeartbeatSend s) s).nrg = s.nrg ∧
      (resAfter (execHeartbeatSend s) s).gau = s.gau ∧ (resAfter (execHeartbeatSend s) s).rek = s.rek ∧
      (resAfter (execHeartbeatSend s) s).att = s.att ∧ (resAfter (execHeartbeatSend s) s).ecc = s.ecc ∧
      (resAfter (execHeartbeatSend s) s).tws = s.tws ∧ (resAfter (execHeartbeatSend s) s).twp = s.twp ∧
      (resAfter (execHeartbeatSend s) s).pwr = s.pwr ∧ (resAfter (execHeartbeatSend s) s).fpl = s.fpl ∧
      (resAfter (execHeartbeatSend s) s).jtag = s.jtag ∧ (resAfter (execHeartbeatSend s) s).fuses = s.fuses ∧
      (resAfter (execHeartbeatSend s) s).cal = s.cal ∧ (resAfter (execHeartbeatSend s) s).free = s.free ∧
      (resAfter (execHeartbeatSend s) s).pending = s.pending ∧
      (resAfter (execHeartbeatSend s) s).log.aonPowered = s.log.aonPowered := by
  have q1 := advanceTo_frame
  simp only [execHeartbeatSend]; (repeat' split) <;> simp [q1]

theorem execPairWaitExpire_frame (s : State) :
    (resAfter (execPairWaitExpire s) s).fuses = s.fuses ∧ (resAfter (execPairWaitExpire s) s).cal = s.cal ∧
      (resAfter (execPairWaitExpire s) s).pending = s.pending := by
  have q1 := advanceTo_frame
  have q2 := changeSet_frame
  have q3 := programRole_frame
  have q4 := raiseAddr_frame
  unfold execPairWaitExpire; (repeat' split) <;> simp_all

theorem drillReport_frame (result : Nat) (s : State) :
    (drillReport result s).almanac = s.almanac ∧ (drillReport result s).dev = s.dev ∧
      (drillReport result s).stations = s.stations ∧ (drillReport result s).hst = s.hst ∧ (drillReport result s).drc = s.drc ∧
      (drillReport result s).dram = s.dram ∧ (drillReport result s).cht = s.cht ∧ (drillReport result s).sui = s.sui ∧
      (drillReport result s).stw = s.stw ∧ (drillReport result s).sav = s.sav ∧ (drillReport result s).cel = s.cel ∧
      (drillReport result s).dmw = s.dmw ∧ (drillReport result s).nrg = s.nrg ∧ (drillReport result s).gau = s.gau ∧
      (drillReport result s).rek = s.rek ∧ (drillReport result s).plk = s.plk ∧ (drillReport result s).att = s.att ∧
      (drillReport result s).ecc = s.ecc ∧ (drillReport result s).tws = s.tws ∧ (drillReport result s).twp = s.twp ∧
      (drillReport result s).svc = s.svc ∧ (drillReport result s).log = s.log ∧ (drillReport result s).pwr = s.pwr ∧
      (drillReport result s).fpl = s.fpl ∧ (drillReport result s).jtag = s.jtag ∧ (drillReport result s).fuses = s.fuses ∧
      (drillReport result s).cal = s.cal ∧ (drillReport result s).free = s.free ∧ (drillReport result s).pending = s.pending :=
      by
  simp [drillReport]

theorem execLanternAbandon_frame (s : State) :
    (resAfter (execLanternAbandon s) s).almanac = s.almanac ∧ (resAfter (execLanternAbandon s) s).fuses = s.fuses ∧
      (resAfter (execLanternAbandon s) s).cal = s.cal ∧ (resAfter (execLanternAbandon s) s).pending = s.pending := by
  have q1 := drillReport_frame
  have q2 := modSet_frame
  have q3 := promote_frame
  have q4 := raise_frame
  unfold execLanternAbandon; (repeat' split) <;> simp_all

theorem execLanternStuck_frame (s : State) :
    (resAfter (execLanternStuck s) s).almanac = s.almanac ∧ (resAfter (execLanternStuck s) s).fuses = s.fuses ∧
      (resAfter (execLanternStuck s) s).cal = s.cal ∧ (resAfter (execLanternStuck s) s).pending = s.pending := by
  have q1 := drillReport_frame
  have q2 := raise_frame
  unfold execLanternStuck; (repeat' split) <;> simp_all

theorem execLanternToggling_frame (s : State) :
    (resAfter (execLanternToggling s) s).almanac = s.almanac ∧ (resAfter (execLanternToggling s) s).dev = s.dev ∧
      (resAfter (execLanternToggling s) s).stations = s.stations ∧ (resAfter (execLanternToggling s) s).hst = s.hst ∧
      (resAfter (execLanternToggling s) s).drc = s.drc ∧ (resAfter (execLanternToggling s) s).dram = s.dram ∧
      (resAfter (execLanternToggling s) s).cht = s.cht ∧ (resAfter (execLanternToggling s) s).sui = s.sui ∧
      (resAfter (execLanternToggling s) s).stw = s.stw ∧ (resAfter (execLanternToggling s) s).sav = s.sav ∧
      (resAfter (execLanternToggling s) s).cel = s.cel ∧ (resAfter (execLanternToggling s) s).dmw = s.dmw ∧
      (resAfter (execLanternToggling s) s).nrg = s.nrg ∧ (resAfter (execLanternToggling s) s).gau = s.gau ∧
      (resAfter (execLanternToggling s) s).rek = s.rek ∧ (resAfter (execLanternToggling s) s).att = s.att ∧
      (resAfter (execLanternToggling s) s).ecc = s.ecc ∧ (resAfter (execLanternToggling s) s).tws = s.tws ∧
      (resAfter (execLanternToggling s) s).twp = s.twp ∧ (resAfter (execLanternToggling s) s).svc = s.svc ∧
      (resAfter (execLanternToggling s) s).log = s.log ∧ (resAfter (execLanternToggling s) s).pwr = s.pwr ∧
      (resAfter (execLanternToggling s) s).fpl = s.fpl ∧ (resAfter (execLanternToggling s) s).jtag = s.jtag ∧
      (resAfter (execLanternToggling s) s).fuses = s.fuses ∧ (resAfter (execLanternToggling s) s).cal = s.cal ∧
      (resAfter (execLanternToggling s) s).out = s.out ∧ (resAfter (execLanternToggling s) s).free = s.free ∧
      (resAfter (execLanternToggling s) s).pending = s.pending := by
  unfold execLanternToggling; (repeat' split) <;> simp_all

theorem queueTile_frame (k t : Nat) (s : State) :
    (queueTile k t s).almanac = s.almanac ∧ (queueTile k t s).dev = s.dev ∧ (queueTile k t s).stations = s.stations ∧
      (queueTile k t s).hst = s.hst ∧ (queueTile k t s).drc = s.drc ∧ (queueTile k t s).dram = s.dram ∧
      (queueTile k t s).cht = s.cht ∧ (queueTile k t s).sui = s.sui ∧ (queueTile k t s).stw = s.stw ∧
      (queueTile k t s).sav = s.sav ∧ (queueTile k t s).cel = s.cel ∧ (queueTile k t s).dmw = s.dmw ∧
      (queueTile k t s).nrg = s.nrg ∧ (queueTile k t s).gau = s.gau ∧ (queueTile k t s).rek = s.rek ∧
      (queueTile k t s).att = s.att ∧ (queueTile k t s).ecc = s.ecc ∧ (queueTile k t s).tws = s.tws ∧
      (queueTile k t s).twp = s.twp ∧ (queueTile k t s).svc = s.svc ∧ (queueTile k t s).log = s.log ∧
      (queueTile k t s).pwr = s.pwr ∧ (queueTile k t s).fpl = s.fpl ∧ (queueTile k t s).jtag = s.jtag ∧
      (queueTile k t s).fuses = s.fuses ∧ (queueTile k t s).cal = s.cal ∧ (queueTile k t s).out = s.out ∧
      (queueTile k t s).free = s.free ∧ (queueTile k t s).pending = s.pending := by
  have q1 := modSet_frame
  simp [q1, queueTile]

theorem watchTile_frame (k t : Nat) (s : State) :
    (watchTile k t s).almanac = s.almanac ∧ (watchTile k t s).dev = s.dev ∧ (watchTile k t s).stations = s.stations ∧
      (watchTile k t s).hst = s.hst ∧ (watchTile k t s).dram = s.dram ∧ (watchTile k t s).cht = s.cht ∧
      (watchTile k t s).sui = s.sui ∧ (watchTile k t s).stw = s.stw ∧ (watchTile k t s).sav = s.sav ∧
      (watchTile k t s).cel = s.cel ∧ (watchTile k t s).dmw = s.dmw ∧ (watchTile k t s).nrg = s.nrg ∧
      (watchTile k t s).gau = s.gau ∧ (watchTile k t s).rek = s.rek ∧ (watchTile k t s).att = s.att ∧
      (watchTile k t s).ecc = s.ecc ∧ (watchTile k t s).tws = s.tws ∧ (watchTile k t s).twp = s.twp ∧
      (watchTile k t s).svc = s.svc ∧ (watchTile k t s).log = s.log ∧ (watchTile k t s).pwr = s.pwr ∧
      (watchTile k t s).fpl = s.fpl ∧ (watchTile k t s).jtag = s.jtag ∧ (watchTile k t s).fuses = s.fuses ∧
      (watchTile k t s).cal = s.cal ∧ (watchTile k t s).out = s.out ∧ (watchTile k t s).pending = s.pending := by
  have q1 := callTile_frame
  have q2 := modSet_frame
  have q3 := tileAccess_frame
  simp [q1, q2, q3, watchTile]

theorem execResyncTileCopy_frame (set : Nat) (equal : List Nat) (s : State) :
    (resAfter (execResyncTileCopy set equal s) s).almanac = s.almanac ∧
      (resAfter (execResyncTileCopy set equal s) s).dev = s.dev ∧
      (resAfter (execResyncTileCopy set equal s) s).stations = s.stations ∧
      (resAfter (execResyncTileCopy set equal s) s).dram = s.dram ∧ (resAfter (execResyncTileCopy set equal s) s).cht = s.cht ∧
      (resAfter (execResyncTileCopy set equal s) s).stw = s.stw ∧ (resAfter (execResyncTileCopy set equal s) s).cel = s.cel ∧
      (resAfter (execResyncTileCopy set equal s) s).dmw = s.dmw ∧ (resAfter (execResyncTileCopy set equal s) s).nrg = s.nrg ∧
      (resAfter (execResyncTileCopy set equal s) s).gau = s.gau ∧ (resAfter (execResyncTileCopy set equal s) s).rek = s.rek ∧
      (resAfter (execResyncTileCopy set equal s) s).att = s.att ∧ (resAfter (execResyncTileCopy set equal s) s).ecc = s.ecc ∧
      (resAfter (execResyncTileCopy set equal s) s).twp = s.twp ∧ (resAfter (execResyncTileCopy set equal s) s).svc = s.svc ∧
      (resAfter (execResyncTileCopy set equal s) s).pwr = s.pwr ∧ (resAfter (execResyncTileCopy set equal s) s).fpl = s.fpl ∧
      (resAfter (execResyncTileCopy set equal s) s).jtag = s.jtag ∧
      (resAfter (execResyncTileCopy set equal s) s).fuses = s.fuses ∧
      (resAfter (execResyncTileCopy set equal s) s).cal = s.cal ∧
      (resAfter (execResyncTileCopy set equal s) s).pending = s.pending := by
  have q1 := callTile_frame
  have q2 := modSet_frame
  have q3 := queueTile_frame
  have q4 := resyncEnd_frame
  have q5 := tileAccess_frame
  have q6 := watchTile_frame
  simp only [execResyncTileCopy]; (repeat' split) <;> simp [q1, q2, q3, q4, q5, q6]

theorem execDigestMessage_frame (tile : Nat) (digest : List Byte) (s : State) :
    (resAfter (execDigestMessage tile digest s) s).almanac = s.almanac ∧
      (resAfter (execDigestMessage tile digest s) s).dev = s.dev ∧
      (resAfter (execDigestMessage tile digest s) s).stations = s.stations ∧
      (resAfter (execDigestMessage tile digest s) s).hst = s.hst ∧
      (resAfter (execDigestMessage tile digest s) s).dram = s.dram ∧
      (resAfter (execDigestMessage tile digest s) s).cht = s.cht ∧ (resAfter (execDigestMessage tile digest s) s).sui = s.sui ∧
      (resAfter (execDigestMessage tile digest s) s).stw = s.stw ∧ (resAfter (execDigestMessage tile digest s) s).sav = s.sav ∧
      (resAfter (execDigestMessage tile digest s) s).cel = s.cel ∧ (resAfter (execDigestMessage tile digest s) s).dmw = s.dmw ∧
      (resAfter (execDigestMessage tile digest s) s).nrg = s.nrg ∧ (resAfter (execDigestMessage tile digest s) s).gau = s.gau ∧
      (resAfter (execDigestMessage tile digest s) s).rek = s.rek ∧ (resAfter (execDigestMessage tile digest s) s).plk = s.plk ∧
      (resAfter (execDigestMessage tile digest s) s).att = s.att ∧ (resAfter (execDigestMessage tile digest s) s).ecc = s.ecc ∧
      (resAfter (execDigestMessage tile digest s) s).tws = s.tws ∧ (resAfter (execDigestMessage tile digest s) s).twp = s.twp ∧
      (resAfter (execDigestMessage tile digest s) s).svc = s.svc ∧ (resAfter (execDigestMessage tile digest s) s).log = s.log ∧
      (resAfter (execDigestMessage tile digest s) s).pwr = s.pwr ∧ (resAfter (execDigestMessage tile digest s) s).fpl = s.fpl ∧
      (resAfter (execDigestMessage tile digest s) s).jtag = s.jtag ∧
      (resAfter (execDigestMessage tile digest s) s).fuses = s.fuses ∧
      (resAfter (execDigestMessage tile digest s) s).cal = s.cal ∧
      (resAfter (execDigestMessage tile digest s) s).pending = s.pending := by
  have q1 := callTile_frame
  have q2 := tileAccess_frame
  simp only [execDigestMessage]; (repeat' split) <;> simp [q1, q2]

theorem execDiffMessage_frame (tile : Nat) (s : State) :
    (resAfter (execDiffMessage tile s) s).almanac = s.almanac ∧ (resAfter (execDiffMessage tile s) s).dev = s.dev ∧
      (resAfter (execDiffMessage tile s) s).stations = s.stations ∧ (resAfter (execDiffMessage tile s) s).hst = s.hst ∧
      (resAfter (execDiffMessage tile s) s).drc = s.drc ∧ (resAfter (execDiffMessage tile s) s).dram = s.dram ∧
      (resAfter (execDiffMessage tile s) s).cht = s.cht ∧ (resAfter (execDiffMessage tile s) s).sui = s.sui ∧
      (resAfter (execDiffMessage tile s) s).stw = s.stw ∧ (resAfter (execDiffMessage tile s) s).sav = s.sav ∧
      (resAfter (execDiffMessage tile s) s).cel = s.cel ∧ (resAfter (execDiffMessage tile s) s).dmw = s.dmw ∧
      (resAfter (execDiffMessage tile s) s).nrg = s.nrg ∧ (resAfter (execDiffMessage tile s) s).gau = s.gau ∧
      (resAfter (execDiffMessage tile s) s).rek = s.rek ∧ (resAfter (execDiffMessage tile s) s).att = s.att ∧
      (resAfter (execDiffMessage tile s) s).ecc = s.ecc ∧ (resAfter (execDiffMessage tile s) s).tws = s.tws ∧
      (resAfter (execDiffMessage tile s) s).twp = s.twp ∧ (resAfter (execDiffMessage tile s) s).svc = s.svc ∧
      (resAfter (execDiffMessage tile s) s).log = s.log ∧ (resAfter (execDiffMessage tile s) s).pwr = s.pwr ∧
      (resAfter (execDiffMessage tile s) s).fpl = s.fpl ∧ (resAfter (execDiffMessage tile s) s).jtag = s.jtag ∧
      (resAfter (execDiffMessage tile s) s).fuses = s.fuses ∧ (resAfter (execDiffMessage tile s) s).cal = s.cal ∧
      (resAfter (execDiffMessage tile s) s).out = s.out ∧ (resAfter (execDiffMessage tile s) s).free = s.free ∧
      (resAfter (execDiffMessage tile s) s).pending = s.pending := by
  have q1 := modSet_frame
  unfold execDiffMessage; (repeat' split) <;> simp_all

theorem execHandoverBoundary_frame (set : Nat) (s : State) :
    (resAfter (execHandoverBoundary set s) s).dev = s.dev ∧ (resAfter (execHandoverBoundary set s) s).stations = s.stations ∧
      (resAfter (execHandoverBoundary set s) s).drc = s.drc ∧ (resAfter (execHandoverBoundary set s) s).dram = s.dram ∧
      (resAfter (execHandoverBoundary set s) s).cht = s.cht ∧ (resAfter (execHandoverBoundary set s) s).stw = s.stw ∧
      (resAfter (execHandoverBoundary set s) s).cel = s.cel ∧ (resAfter (execHandoverBoundary set s) s).dmw = s.dmw ∧
      (resAfter (execHandoverBoundary set s) s).nrg = s.nrg ∧ (resAfter (execHandoverBoundary set s) s).gau = s.gau ∧
      (resAfter (execHandoverBoundary set s) s).rek = s.rek ∧ (resAfter (execHandoverBoundary set s) s).att = s.att ∧
      (resAfter (execHandoverBoundary set s) s).ecc = s.ecc ∧ (resAfter (execHandoverBoundary set s) s).twp = s.twp ∧
      (resAfter (execHandoverBoundary set s) s).pwr = s.pwr ∧ (resAfter (execHandoverBoundary set s) s).fpl = s.fpl ∧
      (resAfter (execHandoverBoundary set s) s).jtag = s.jtag ∧ (resAfter (execHandoverBoundary set s) s).fuses = s.fuses ∧
      (resAfter (execHandoverBoundary set s) s).cal = s.cal ∧ (resAfter (execHandoverBoundary set s) s).free = s.free ∧
      (resAfter (execHandoverBoundary set s) s).pending = s.pending := by
  have q1 := advanceTo_frame
  have q2 := changeSet_frame
  have q3 := handStep_frame
  have q4 := modSet_frame
  unfold execHandoverBoundary; (repeat' split) <;> simp_all

theorem execHandoverMessage_frame (set epoch last : Nat) (s : State) :
    (resAfter (execHandoverMessage set epoch last s) s).almanac = s.almanac ∧
      (resAfter (execHandoverMessage set epoch last s) s).dev = s.dev ∧
      (resAfter (execHandoverMessage set epoch last s) s).stations = s.stations ∧
      (resAfter (execHandoverMessage set epoch last s) s).hst = s.hst ∧
      (resAfter (execHandoverMessage set epoch last s) s).drc = s.drc ∧
      (resAfter (execHandoverMessage set epoch last s) s).dram = s.dram ∧
      (resAfter (execHandoverMessage set epoch last s) s).cht = s.cht ∧
      (resAfter (execHandoverMessage set epoch last s) s).sui = s.sui ∧
      (resAfter (execHandoverMessage set epoch last s) s).stw = s.stw ∧
      (resAfter (execHandoverMessage set epoch last s) s).sav = s.sav ∧
      (resAfter (execHandoverMessage set epoch last s) s).cel = s.cel ∧
      (resAfter (execHandoverMessage set epoch last s) s).dmw = s.dmw ∧
      (resAfter (execHandoverMessage set epoch last s) s).nrg = s.nrg ∧
      (resAfter (execHandoverMessage set epoch last s) s).gau = s.gau ∧
      (resAfter (execHandoverMessage set epoch last s) s).rek = s.rek ∧
      (resAfter (execHandoverMessage set epoch last s) s).att = s.att ∧
      (resAfter (execHandoverMessage set epoch last s) s).ecc = s.ecc ∧
      (resAfter (execHandoverMessage set epoch last s) s).tws = s.tws ∧
      (resAfter (execHandoverMessage set epoch last s) s).twp = s.twp ∧
      (resAfter (execHandoverMessage set epoch last s) s).svc = s.svc ∧
      (resAfter (execHandoverMessage set epoch last s) s).log = s.log ∧
      (resAfter (execHandoverMessage set epoch last s) s).pwr = s.pwr ∧
      (resAfter (execHandoverMessage set epoch last s) s).fpl = s.fpl ∧
      (resAfter (execHandoverMessage set epoch last s) s).jtag = s.jtag ∧
      (resAfter (execHandoverMessage set epoch last s) s).fuses = s.fuses ∧
      (resAfter (execHandoverMessage set epoch last s) s).cal = s.cal ∧
      (resAfter (execHandoverMessage set epoch last s) s).out = s.out ∧
      (resAfter (execHandoverMessage set epoch last s) s).free = s.free ∧
      (resAfter (execHandoverMessage set epoch last s) s).pending = s.pending := by
  have q1 := modSet_frame
  have q2 := roleSteps_frame
  unfold execHandoverMessage; (repeat' split) <;> simp_all

theorem execTakenMessage_frame (set epoch : Nat) (s : State) :
    (resAfter (execTakenMessage set epoch s) s).almanac = s.almanac ∧
      (resAfter (execTakenMessage set epoch s) s).fuses = s.fuses ∧ (resAfter (execTakenMessage set epoch s) s).cal = s.cal ∧
      (resAfter (execTakenMessage set epoch s) s).pending = s.pending := by
  have q1 := changeSet_frame
  have q2 := endDrill_frame
  have q3 := modSet_frame
  simp only [execTakenMessage]; (repeat' split) <;> simp [q1, q2, q3]

theorem execHomeReqSend_frame (set : Nat) (s : State) :
    (resAfter (execHomeReqSend set s) s).almanac = s.almanac ∧ (resAfter (execHomeReqSend set s) s).dev = s.dev ∧
      (resAfter (execHomeReqSend set s) s).stations = s.stations ∧ (resAfter (execHomeReqSend set s) s).drc = s.drc ∧
      (resAfter (execHomeReqSend set s) s).dram = s.dram ∧ (resAfter (execHomeReqSend set s) s).cht = s.cht ∧
      (resAfter (execHomeReqSend set s) s).sui = s.sui ∧ (resAfter (execHomeReqSend set s) s).stw = s.stw ∧
      (resAfter (execHomeReqSend set s) s).sav = s.sav ∧ (resAfter (execHomeReqSend set s) s).cel = s.cel ∧
      (resAfter (execHomeReqSend set s) s).dmw = s.dmw ∧ (resAfter (execHomeReqSend set s) s).nrg = s.nrg ∧
      (resAfter (execHomeReqSend set s) s).gau = s.gau ∧ (resAfter (execHomeReqSend set s) s).rek = s.rek ∧
      (resAfter (execHomeReqSend set s) s).att = s.att ∧ (resAfter (execHomeReqSend set s) s).ecc = s.ecc ∧
      (resAfter (execHomeReqSend set s) s).tws = s.tws ∧ (resAfter (execHomeReqSend set s) s).twp = s.twp ∧
      (resAfter (execHomeReqSend set s) s).svc = s.svc ∧ (resAfter (execHomeReqSend set s) s).pwr = s.pwr ∧
      (resAfter (execHomeReqSend set s) s).fpl = s.fpl ∧ (resAfter (execHomeReqSend set s) s).jtag = s.jtag ∧
      (resAfter (execHomeReqSend set s) s).fuses = s.fuses ∧ (resAfter (execHomeReqSend set s) s).cal = s.cal ∧
      (resAfter (execHomeReqSend set s) s).free = s.free ∧ (resAfter (execHomeReqSend set s) s).pending = s.pending ∧
      (resAfter (execHomeReqSend set s) s).hst.linkUp = s.hst.linkUp ∧
      (resAfter (execHomeReqSend set s) s).hst.gateClosed = s.hst.gateClosed ∧
      (resAfter (execHomeReqSend set s) s).log.aonPowered = s.log.aonPowered := by
  have q1 := schedule_frame
  simp only [execHomeReqSend]; (repeat' split) <;> simp [q1]

theorem execHomeReqMessage_frame (set : Nat) (s : State) :
    (resAfter (execHomeReqMessage set s) s).almanac = s.almanac ∧ (resAfter (execHomeReqMessage set s) s).dev = s.dev ∧
      (resAfter (execHomeReqMessage set s) s).stations = s.stations ∧ (resAfter (execHomeReqMessage set s) s).drc = s.drc ∧
      (resAfter (execHomeReqMessage set s) s).dram = s.dram ∧ (resAfter (execHomeReqMessage set s) s).cht = s.cht ∧
      (resAfter (execHomeReqMessage set s) s).sui = s.sui ∧ (resAfter (execHomeReqMessage set s) s).stw = s.stw ∧
      (resAfter (execHomeReqMessage set s) s).sav = s.sav ∧ (resAfter (execHomeReqMessage set s) s).cel = s.cel ∧
      (resAfter (execHomeReqMessage set s) s).dmw = s.dmw ∧ (resAfter (execHomeReqMessage set s) s).nrg = s.nrg ∧
      (resAfter (execHomeReqMessage set s) s).gau = s.gau ∧ (resAfter (execHomeReqMessage set s) s).rek = s.rek ∧
      (resAfter (execHomeReqMessage set s) s).att = s.att ∧ (resAfter (execHomeReqMessage set s) s).ecc = s.ecc ∧
      (resAfter (execHomeReqMessage set s) s).tws = s.tws ∧ (resAfter (execHomeReqMessage set s) s).twp = s.twp ∧
      (resAfter (execHomeReqMessage set s) s).svc = s.svc ∧ (resAfter (execHomeReqMessage set s) s).pwr = s.pwr ∧
      (resAfter (execHomeReqMessage set s) s).fpl = s.fpl ∧ (resAfter (execHomeReqMessage set s) s).jtag = s.jtag ∧
      (resAfter (execHomeReqMessage set s) s).fuses = s.fuses ∧ (resAfter (execHomeReqMessage set s) s).cal = s.cal ∧
      (resAfter (execHomeReqMessage set s) s).free = s.free ∧ (resAfter (execHomeReqMessage set s) s).pending = s.pending ∧
      (resAfter (execHomeReqMessage set s) s).hst.linkUp = s.hst.linkUp ∧
      (resAfter (execHomeReqMessage set s) s).hst.gateClosed = s.hst.gateClosed ∧
      (resAfter (execHomeReqMessage set s) s).log.aonPowered = s.log.aonPowered := by
  have q1 := schedule_frame
  simp only [execHomeReqMessage]; (repeat' split) <;> simp [q1]

theorem execDrillMessage_frame (set phase result : Nat) (s : State) :
    (resAfter (execDrillMessage set phase result s) s).almanac = s.almanac ∧
      (resAfter (execDrillMessage set phase result s) s).dev = s.dev ∧
      (resAfter (execDrillMessage set phase result s) s).stations = s.stations ∧
      (resAfter (execDrillMessage set phase result s) s).drc = s.drc ∧
      (resAfter (execDrillMessage set phase result s) s).dram = s.dram ∧
      (resAfter (execDrillMessage set phase result s) s).cht = s.cht ∧
      (resAfter (execDrillMessage set phase result s) s).sui = s.sui ∧
      (resAfter (execDrillMessage set phase result s) s).stw = s.stw ∧
      (resAfter (execDrillMessage set phase result s) s).sav = s.sav ∧
      (resAfter (execDrillMessage set phase result s) s).cel = s.cel ∧
      (resAfter (execDrillMessage set phase result s) s).dmw = s.dmw ∧
      (resAfter (execDrillMessage set phase result s) s).nrg = s.nrg ∧
      (resAfter (execDrillMessage set phase result s) s).gau = s.gau ∧
      (resAfter (execDrillMessage set phase result s) s).rek = s.rek ∧
      (resAfter (execDrillMessage set phase result s) s).att = s.att ∧
      (resAfter (execDrillMessage set phase result s) s).ecc = s.ecc ∧
      (resAfter (execDrillMessage set phase result s) s).tws = s.tws ∧
      (resAfter (execDrillMessage set phase result s) s).twp = s.twp ∧
      (resAfter (execDrillMessage set phase result s) s).svc = s.svc ∧
      (resAfter (execDrillMessage set phase result s) s).pwr = s.pwr ∧
      (resAfter (execDrillMessage set phase result s) s).fpl = s.fpl ∧
      (resAfter (execDrillMessage set phase result s) s).jtag = s.jtag ∧
      (resAfter (execDrillMessage set phase result s) s).fuses = s.fuses ∧
      (resAfter (execDrillMessage set phase result s) s).cal = s.cal ∧
      (resAfter (execDrillMessage set phase result s) s).free = s.free ∧
      (resAfter (execDrillMessage set phase result s) s).pending = s.pending ∧
      (resAfter (execDrillMessage set phase result s) s).hst.linkUp = s.hst.linkUp ∧
      (resAfter (execDrillMessage set phase result s) s).hst.gateClosed = s.hst.gateClosed ∧
      (resAfter (execDrillMessage set phase result s) s).log.aonPowered = s.log.aonPowered := by
  have q1 := modSet_frame
  have q2 := schedule_frame
  simp only [execDrillMessage]; (repeat' split) <;> simp [q1, q2]

theorem execDrillPhaseEnd_frame (set : Nat) (s : State) :
    (resAfter (execDrillPhaseEnd set s) s).fuses = s.fuses ∧ (resAfter (execDrillPhaseEnd set s) s).cal = s.cal ∧
      (resAfter (execDrillPhaseEnd set s) s).pending = s.pending := by
  have q1 := advanceTo_frame
  have q2 := drillHandover_frame
  have q3 := endDrill_frame
  unfold execDrillPhaseEnd; (repeat' split) <;> simp_all

theorem readReg_frame (ofs : Nat) (s : State) :
    (readReg ofs s).2.almanac = s.almanac ∧ (readReg ofs s).2.stations = s.stations ∧ (readReg ofs s).2.hst = s.hst ∧
      (readReg ofs s).2.drc = s.drc ∧ (readReg ofs s).2.dram = s.dram ∧ (readReg ofs s).2.cht = s.cht ∧
      (readReg ofs s).2.sui = s.sui ∧ (readReg ofs s).2.stw = s.stw ∧ (readReg ofs s).2.sav = s.sav ∧
      (readReg ofs s).2.cel = s.cel ∧ (readReg ofs s).2.dmw = s.dmw ∧ (readReg ofs s).2.nrg = s.nrg ∧
      (readReg ofs s).2.gau = s.gau ∧ (readReg ofs s).2.rek = s.rek ∧ (readReg ofs s).2.plk = s.plk ∧
      (readReg ofs s).2.att = s.att ∧ (readReg ofs s).2.ecc = s.ecc ∧ (readReg ofs s).2.tws = s.tws ∧
      (readReg ofs s).2.twp = s.twp ∧ (readReg ofs s).2.svc = s.svc ∧ (readReg ofs s).2.log = s.log ∧
      (readReg ofs s).2.pwr = s.pwr ∧ (readReg ofs s).2.fpl = s.fpl ∧ (readReg ofs s).2.jtag = s.jtag ∧
      (readReg ofs s).2.fuses = s.fuses ∧ (readReg ofs s).2.cal = s.cal ∧ (readReg ofs s).2.out = s.out ∧
      (readReg ofs s).2.free = s.free ∧ (readReg ofs s).2.pending = s.pending ∧ (readReg ofs s).2.dev.state = s.dev.state := by
  unfold readReg; (repeat' split) <;> simp_all

theorem endBackground_frame (op : Nat) (s : State) :
    (endBackground op s).almanac = s.almanac ∧ (endBackground op s).dev = s.dev ∧ (endBackground op s).stations = s.stations ∧
      (endBackground op s).drc = s.drc ∧ (endBackground op s).dram = s.dram ∧ (endBackground op s).cht = s.cht ∧
      (endBackground op s).sui = s.sui ∧ (endBackground op s).stw = s.stw ∧ (endBackground op s).sav = s.sav ∧
      (endBackground op s).cel = s.cel ∧ (endBackground op s).dmw = s.dmw ∧ (endBackground op s).nrg = s.nrg ∧
      (endBackground op s).gau = s.gau ∧ (endBackground op s).rek = s.rek ∧ (endBackground op s).plk = s.plk ∧
      (endBackground op s).att = s.att ∧ (endBackground op s).ecc = s.ecc ∧ (endBackground op s).tws = s.tws ∧
      (endBackground op s).twp = s.twp ∧ (endBackground op s).svc = s.svc ∧ (endBackground op s).log = s.log ∧
      (endBackground op s).pwr = s.pwr ∧ (endBackground op s).fpl = s.fpl ∧ (endBackground op s).jtag = s.jtag ∧
      (endBackground op s).fuses = s.fuses ∧ (endBackground op s).cal = s.cal ∧ (endBackground op s).free = s.free ∧
      (endBackground op s).pending = s.pending ∧ (endBackground op s).hst.linkUp = s.hst.linkUp ∧
      (endBackground op s).hst.gateClosed = s.hst.gateClosed := by
  have q1 := notify_frame
  have q2 := notify_frame2
  simp [q1, q2, endBackground]

theorem modLog_frame (i : Nat) (f : EventLog → EventLog) (s : State) :
    (modLog i f s).almanac = s.almanac ∧ (modLog i f s).dev = s.dev ∧ (modLog i f s).stations = s.stations ∧
      (modLog i f s).drc = s.drc ∧ (modLog i f s).dram = s.dram ∧ (modLog i f s).cht = s.cht ∧ (modLog i f s).sui = s.sui ∧
      (modLog i f s).stw = s.stw ∧ (modLog i f s).sav = s.sav ∧ (modLog i f s).cel = s.cel ∧ (modLog i f s).dmw = s.dmw ∧
      (modLog i f s).nrg = s.nrg ∧ (modLog i f s).gau = s.gau ∧ (modLog i f s).rek = s.rek ∧ (modLog i f s).plk = s.plk ∧
      (modLog i f s).att = s.att ∧ (modLog i f s).ecc = s.ecc ∧ (modLog i f s).tws = s.tws ∧ (modLog i f s).twp = s.twp ∧
      (modLog i f s).svc = s.svc ∧ (modLog i f s).log = s.log ∧ (modLog i f s).pwr = s.pwr ∧ (modLog i f s).fpl = s.fpl ∧
      (modLog i f s).jtag = s.jtag ∧ (modLog i f s).fuses = s.fuses ∧ (modLog i f s).cal = s.cal ∧ (modLog i f s).out = s.out ∧
      (modLog i f s).free = s.free ∧ (modLog i f s).pending = s.pending ∧ (modLog i f s).hst.linkUp = s.hst.linkUp ∧
      (modLog i f s).hst.gateClosed = s.hst.gateClosed := by
  simp [modLog]

theorem setPolicy_frame (i n : Nat) (s : State) :
    (setPolicy i n s).almanac = s.almanac ∧ (setPolicy i n s).dev = s.dev ∧ (setPolicy i n s).stations = s.stations ∧
      (setPolicy i n s).drc = s.drc ∧ (setPolicy i n s).dram = s.dram ∧ (setPolicy i n s).cht = s.cht ∧
      (setPolicy i n s).sui = s.sui ∧ (setPolicy i n s).stw = s.stw ∧ (setPolicy i n s).sav = s.sav ∧
      (setPolicy i n s).cel = s.cel ∧ (setPolicy i n s).dmw = s.dmw ∧ (setPolicy i n s).nrg = s.nrg ∧
      (setPolicy i n s).gau = s.gau ∧ (setPolicy i n s).rek = s.rek ∧ (setPolicy i n s).plk = s.plk ∧
      (setPolicy i n s).att = s.att ∧ (setPolicy i n s).ecc = s.ecc ∧ (setPolicy i n s).tws = s.tws ∧
      (setPolicy i n s).twp = s.twp ∧ (setPolicy i n s).svc = s.svc ∧ (setPolicy i n s).log = s.log ∧
      (setPolicy i n s).pwr = s.pwr ∧ (setPolicy i n s).fpl = s.fpl ∧ (setPolicy i n s).jtag = s.jtag ∧
      (setPolicy i n s).fuses = s.fuses ∧ (setPolicy i n s).cal = s.cal ∧ (setPolicy i n s).out = s.out ∧
      (setPolicy i n s).free = s.free ∧ (setPolicy i n s).pending = s.pending ∧ (setPolicy i n s).hst.linkUp = s.hst.linkUp ∧
      (setPolicy i n s).hst.gateClosed = s.hst.gateClosed := by
  have q1 := modLog_frame
  simp [q1, setPolicy]

theorem injectPoison_frame (dpa : Nat) (s : State) :
    (injectPoison dpa s).almanac = s.almanac ∧ (injectPoison dpa s).fuses = s.fuses ∧ (injectPoison dpa s).cal = s.cal ∧
      (injectPoison dpa s).pending = s.pending := by
  have q1 := enqueueWrite_frame
  have q2 := fillTile_frame
  have q3 := listPoison_frame
  have q4 := watchRecord_frame
  simp [q1, q2, q3, q4, injectPoison]

theorem clearSummaries_frame (s : State) :
    (clearSummaries s).almanac = s.almanac ∧ (clearSummaries s).dev = s.dev ∧ (clearSummaries s).stations = s.stations ∧
      (clearSummaries s).hst = s.hst ∧ (clearSummaries s).drc = s.drc ∧ (clearSummaries s).dram = s.dram ∧
      (clearSummaries s).sui = s.sui ∧ (clearSummaries s).stw = s.stw ∧ (clearSummaries s).sav = s.sav ∧
      (clearSummaries s).cel = s.cel ∧ (clearSummaries s).dmw = s.dmw ∧ (clearSummaries s).nrg = s.nrg ∧
      (clearSummaries s).gau = s.gau ∧ (clearSummaries s).rek = s.rek ∧ (clearSummaries s).plk = s.plk ∧
      (clearSummaries s).att = s.att ∧ (clearSummaries s).ecc = s.ecc ∧ (clearSummaries s).tws = s.tws ∧
      (clearSummaries s).twp = s.twp ∧ (clearSummaries s).svc = s.svc ∧ (clearSummaries s).log = s.log ∧
      (clearSummaries s).pwr = s.pwr ∧ (clearSummaries s).fpl = s.fpl ∧ (clearSummaries s).jtag = s.jtag ∧
      (clearSummaries s).fuses = s.fuses ∧ (clearSummaries s).cal = s.cal ∧ (clearSummaries s).out = s.out ∧
      (clearSummaries s).free = s.free ∧ (clearSummaries s).pending = s.pending := by
  simp [clearSummaries]

theorem scanEnds_frame (s : State) :
    (scanEnds s).almanac = s.almanac ∧ (scanEnds s).dev = s.dev ∧ (scanEnds s).stations = s.stations ∧
      (scanEnds s).drc = s.drc ∧ (scanEnds s).dram = s.dram ∧ (scanEnds s).sui = s.sui ∧ (scanEnds s).stw = s.stw ∧
      (scanEnds s).sav = s.sav ∧ (scanEnds s).cel = s.cel ∧ (scanEnds s).dmw = s.dmw ∧ (scanEnds s).nrg = s.nrg ∧
      (scanEnds s).gau = s.gau ∧ (scanEnds s).rek = s.rek ∧ (scanEnds s).plk = s.plk ∧ (scanEnds s).att = s.att ∧
      (scanEnds s).ecc = s.ecc ∧ (scanEnds s).tws = s.tws ∧ (scanEnds s).twp = s.twp ∧ (scanEnds s).svc = s.svc ∧
      (scanEnds s).log = s.log ∧ (scanEnds s).pwr = s.pwr ∧ (scanEnds s).fpl = s.fpl ∧ (scanEnds s).jtag = s.jtag ∧
      (scanEnds s).fuses = s.fuses ∧ (scanEnds s).cal = s.cal ∧ (scanEnds s).free = s.free ∧ (scanEnds s).pending = s.pending ∧
      (scanEnds s).hst.linkUp = s.hst.linkUp ∧ (scanEnds s).hst.gateClosed = s.hst.gateClosed := by
  have q1 := clearSummaries_frame
  have q2 := endBackground_frame
  simp [q1, q2, scanEnds]

theorem dropMaps_frame (s : State) :
    (dropMaps s).almanac = s.almanac ∧ (dropMaps s).dev = s.dev ∧ (dropMaps s).stations = s.stations ∧
      (dropMaps s).hst = s.hst ∧ (dropMaps s).drc = s.drc ∧ (dropMaps s).dram = s.dram ∧ (dropMaps s).cht = s.cht ∧
      (dropMaps s).sui = s.sui ∧ (dropMaps s).stw = s.stw ∧ (dropMaps s).sav = s.sav ∧ (dropMaps s).dmw = s.dmw ∧
      (dropMaps s).nrg = s.nrg ∧ (dropMaps s).gau = s.gau ∧ (dropMaps s).rek = s.rek ∧ (dropMaps s).plk = s.plk ∧
      (dropMaps s).att = s.att ∧ (dropMaps s).ecc = s.ecc ∧ (dropMaps s).tws = s.tws ∧ (dropMaps s).twp = s.twp ∧
      (dropMaps s).svc = s.svc ∧ (dropMaps s).log = s.log ∧ (dropMaps s).pwr = s.pwr ∧ (dropMaps s).fpl = s.fpl ∧
      (dropMaps s).jtag = s.jtag ∧ (dropMaps s).fuses = s.fuses ∧ (dropMaps s).cal = s.cal ∧ (dropMaps s).out = s.out ∧
      (dropMaps s).free = s.free ∧ (dropMaps s).pending = s.pending := by
  have q1 := dropItem_frame
  simp [q1, dropMaps]

theorem eraseNand_frame (s : State) :
    (eraseNand s).almanac = s.almanac ∧ (eraseNand s).stations = s.stations ∧ (eraseNand s).hst = s.hst ∧
      (eraseNand s).drc = s.drc ∧ (eraseNand s).dram = s.dram ∧ (eraseNand s).cht = s.cht ∧ (eraseNand s).sui = s.sui ∧
      (eraseNand s).stw = s.stw ∧ (eraseNand s).dmw = s.dmw ∧ (eraseNand s).nrg = s.nrg ∧ (eraseNand s).gau = s.gau ∧
      (eraseNand s).rek = s.rek ∧ (eraseNand s).plk = s.plk ∧ (eraseNand s).att = s.att ∧ (eraseNand s).ecc = s.ecc ∧
      (eraseNand s).tws = s.tws ∧ (eraseNand s).twp = s.twp ∧ (eraseNand s).svc = s.svc ∧ (eraseNand s).log = s.log ∧
      (eraseNand s).pwr = s.pwr ∧ (eraseNand s).fpl = s.fpl ∧ (eraseNand s).jtag = s.jtag ∧ (eraseNand s).fuses = s.fuses ∧
      (eraseNand s).cal = s.cal ∧ (eraseNand s).out = s.out ∧ (eraseNand s).free = s.free ∧ (eraseNand s).pending = s.pending ∧
      (eraseNand s).dev.state = s.dev.state := by
  have q1 := stopPrecaution_frame
  simp [q1, eraseNand]

theorem zeroDram_frame (s : State) :
    (zeroDram s).almanac = s.almanac ∧ (zeroDram s).dev = s.dev ∧ (zeroDram s).stations = s.stations ∧
      (zeroDram s).hst = s.hst ∧ (zeroDram s).drc = s.drc ∧ (zeroDram s).cht = s.cht ∧ (zeroDram s).sui = s.sui ∧
      (zeroDram s).stw = s.stw ∧ (zeroDram s).sav = s.sav ∧ (zeroDram s).cel = s.cel ∧ (zeroDram s).dmw = s.dmw ∧
      (zeroDram s).nrg = s.nrg ∧ (zeroDram s).gau = s.gau ∧ (zeroDram s).rek = s.rek ∧ (zeroDram s).plk = s.plk ∧
      (zeroDram s).att = s.att ∧ (zeroDram s).ecc = s.ecc ∧ (zeroDram s).tws = s.tws ∧ (zeroDram s).twp = s.twp ∧
      (zeroDram s).svc = s.svc ∧ (zeroDram s).log = s.log ∧ (zeroDram s).pwr = s.pwr ∧ (zeroDram s).fpl = s.fpl ∧
      (zeroDram s).jtag = s.jtag ∧ (zeroDram s).fuses = s.fuses ∧ (zeroDram s).cal = s.cal ∧ (zeroDram s).out = s.out ∧
      (zeroDram s).free = s.free ∧ (zeroDram s).pending = s.pending := by
  simp [zeroDram]

theorem endStows_frame (s : State) :
    (endStows s).almanac = s.almanac ∧ (endStows s).dev = s.dev ∧ (endStows s).stations = s.stations ∧
      (endStows s).hst = s.hst ∧ (endStows s).drc = s.drc ∧ (endStows s).dram = s.dram ∧ (endStows s).cht = s.cht ∧
      (endStows s).sui = s.sui ∧ (endStows s).cel = s.cel ∧ (endStows s).nrg = s.nrg ∧ (endStows s).gau = s.gau ∧
      (endStows s).rek = s.rek ∧ (endStows s).plk = s.plk ∧ (endStows s).att = s.att ∧ (endStows s).ecc = s.ecc ∧
      (endStows s).tws = s.tws ∧ (endStows s).twp = s.twp ∧ (endStows s).svc = s.svc ∧ (endStows s).log = s.log ∧
      (endStows s).pwr = s.pwr ∧ (endStows s).fpl = s.fpl ∧ (endStows s).jtag = s.jtag ∧ (endStows s).fuses = s.fuses ∧
      (endStows s).cal = s.cal ∧ (endStows s).out = s.out ∧ (endStows s).free = s.free ∧ (endStows s).pending = s.pending := by
  have q1 := endWait_frame
  simp [q1, endStows]

theorem beginErasure_frame (op : Nat) (s : State) :
    (beginErasure op s).almanac = s.almanac ∧ (beginErasure op s).dev = s.dev ∧ (beginErasure op s).stations = s.stations ∧
      (beginErasure op s).drc = s.drc ∧ (beginErasure op s).dram = s.dram ∧ (beginErasure op s).cht = s.cht ∧
      (beginErasure op s).sui = s.sui ∧ (beginErasure op s).stw = s.stw ∧ (beginErasure op s).sav = s.sav ∧
      (beginErasure op s).cel = s.cel ∧ (beginErasure op s).dmw = s.dmw ∧ (beginErasure op s).nrg = s.nrg ∧
      (beginErasure op s).gau = s.gau ∧ (beginErasure op s).rek = s.rek ∧ (beginErasure op s).plk = s.plk ∧
      (beginErasure op s).att = s.att ∧ (beginErasure op s).ecc = s.ecc ∧ (beginErasure op s).tws = s.tws ∧
      (beginErasure op s).twp = s.twp ∧ (beginErasure op s).svc = s.svc ∧ (beginErasure op s).log = s.log ∧
      (beginErasure op s).pwr = s.pwr ∧ (beginErasure op s).fpl = s.fpl ∧ (beginErasure op s).jtag = s.jtag ∧
      (beginErasure op s).fuses = s.fuses ∧ (beginErasure op s).out = s.out ∧ (beginErasure op s).free = s.free ∧
      (beginErasure op s).pending = s.pending ∧ (beginErasure op s).hst.linkUp = s.hst.linkUp ∧
      (beginErasure op s).hst.gateClosed = s.hst.gateClosed := by
  simp [beginErasure]

theorem bgPercent_frame (op : BgOp) (s : State) :
    (bgPercent op s).2.almanac = s.almanac ∧ (bgPercent op s).2.dev = s.dev ∧ (bgPercent op s).2.stations = s.stations ∧
      (bgPercent op s).2.hst = s.hst ∧ (bgPercent op s).2.drc = s.drc ∧ (bgPercent op s).2.dram = s.dram ∧
      (bgPercent op s).2.cht = s.cht ∧ (bgPercent op s).2.sui = s.sui ∧ (bgPercent op s).2.stw = s.stw ∧
      (bgPercent op s).2.sav = s.sav ∧ (bgPercent op s).2.cel = s.cel ∧ (bgPercent op s).2.dmw = s.dmw ∧
      (bgPercent op s).2.nrg = s.nrg ∧ (bgPercent op s).2.gau = s.gau ∧ (bgPercent op s).2.rek = s.rek ∧
      (bgPercent op s).2.plk = s.plk ∧ (bgPercent op s).2.att = s.att ∧ (bgPercent op s).2.ecc = s.ecc ∧
      (bgPercent op s).2.tws = s.tws ∧ (bgPercent op s).2.twp = s.twp ∧ (bgPercent op s).2.svc = s.svc ∧
      (bgPercent op s).2.log = s.log ∧ (bgPercent op s).2.pwr = s.pwr ∧ (bgPercent op s).2.fpl = s.fpl ∧
      (bgPercent op s).2.jtag = s.jtag ∧ (bgPercent op s).2.fuses = s.fuses ∧ (bgPercent op s).2.cal = s.cal ∧
      (bgPercent op s).2.out = s.out ∧ (bgPercent op s).2.pending = s.pending := by
  have q1 := takeFree_frame
  simp only [bgPercent]; (repeat' split) <;> simp [q1]

theorem calendarStep_frame (valid : Bool) (step : Int) (s : State) :
    (calendarStep valid step s).almanac = s.almanac ∧ (calendarStep valid step s).dev = s.dev ∧
      (calendarStep valid step s).stations = s.stations ∧ (calendarStep valid step s).hst = s.hst ∧
      (calendarStep valid step s).drc = s.drc ∧ (calendarStep valid step s).dram = s.dram ∧
      (calendarStep valid step s).cht = s.cht ∧ (calendarStep valid step s).sui = s.sui ∧
      (calendarStep valid step s).stw = s.stw ∧ (calendarStep valid step s).sav = s.sav ∧
      (calendarStep valid step s).cel = s.cel ∧ (calendarStep valid step s).dmw = s.dmw ∧
      (calendarStep valid step s).plk = s.plk ∧ (calendarStep valid step s).att = s.att ∧
      (calendarStep valid step s).ecc = s.ecc ∧ (calendarStep valid step s).tws = s.tws ∧
      (calendarStep valid step s).twp = s.twp ∧ (calendarStep valid step s).svc = s.svc ∧
      (calendarStep valid step s).log = s.log ∧ (calendarStep valid step s).pwr = s.pwr ∧
      (calendarStep valid step s).fpl = s.fpl ∧ (calendarStep valid step s).jtag = s.jtag ∧
      (calendarStep valid step s).fuses = s.fuses ∧ (calendarStep valid step s).cal = s.cal ∧
      (calendarStep valid step s).out = s.out ∧ (calendarStep valid step s).free = s.free ∧
      (calendarStep valid step s).pending = s.pending := by
  have q1 := exerFromNow_frame
  have q2 := fireExercise_frame
  unfold calendarStep; (repeat' split) <;> simp_all

theorem setCalendar_frame (ns : Nat) (s : State) :
    (setCalendar ns s).almanac = s.almanac ∧ (setCalendar ns s).fuses = s.fuses ∧ (setCalendar ns s).pending = s.pending := by
  have q1 := calendarStep_frame
  have q2 := logRecord_frame
  simp [q1, q2, setCalendar]

theorem execScanMediaComplete_frame (s : State) :
    (resAfter (execScanMediaComplete s) s).almanac = s.almanac ∧ (resAfter (execScanMediaComplete s) s).dev = s.dev ∧
      (resAfter (execScanMediaComplete s) s).stations = s.stations ∧ (resAfter (execScanMediaComplete s) s).drc = s.drc ∧
      (resAfter (execScanMediaComplete s) s).dram = s.dram ∧ (resAfter (execScanMediaComplete s) s).sui = s.sui ∧
      (resAfter (execScanMediaComplete s) s).stw = s.stw ∧ (resAfter (execScanMediaComplete s) s).sav = s.sav ∧
      (resAfter (execScanMediaComplete s) s).cel = s.cel ∧ (resAfter (execScanMediaComplete s) s).dmw = s.dmw ∧
      (resAfter (execScanMediaComplete s) s).nrg = s.nrg ∧ (resAfter (execScanMediaComplete s) s).gau = s.gau ∧
      (resAfter (execScanMediaComplete s) s).rek = s.rek ∧ (resAfter (execScanMediaComplete s) s).plk = s.plk ∧
      (resAfter (execScanMediaComplete s) s).att = s.att ∧ (resAfter (execScanMediaComplete s) s).ecc = s.ecc ∧
      (resAfter (execScanMediaComplete s) s).tws = s.tws ∧ (resAfter (execScanMediaComplete s) s).twp = s.twp ∧
      (resAfter (execScanMediaComplete s) s).svc = s.svc ∧ (resAfter (execScanMediaComplete s) s).log = s.log ∧
      (resAfter (execScanMediaComplete s) s).pwr = s.pwr ∧ (resAfter (execScanMediaComplete s) s).fpl = s.fpl ∧
      (resAfter (execScanMediaComplete s) s).jtag = s.jtag ∧ (resAfter (execScanMediaComplete s) s).fuses = s.fuses ∧
      (resAfter (execScanMediaComplete s) s).cal = s.cal ∧ (resAfter (execScanMediaComplete s) s).free = s.free ∧
      (resAfter (execScanMediaComplete s) s).pending = s.pending := by
  have q1 := scanEnds_frame
  simp [q1, execScanMediaComplete]

theorem execScanMediaComplete_frame2 (s : State) :
    (resAfter (execScanMediaComplete s) s).hst.linkUp = s.hst.linkUp ∧
      (resAfter (execScanMediaComplete s) s).hst.gateClosed = s.hst.gateClosed := by
  have q1 := scanEnds_frame
  unfold execScanMediaComplete; (repeat' split) <;> simp_all

theorem execPendingSanitizeReplay_frame (s : State) :
    (resAfter (execPendingSanitizeReplay s) s).almanac = s.almanac ∧ (resAfter (execPendingSanitizeReplay s) s).dev = s.dev ∧
      (resAfter (execPendingSanitizeReplay s) s).stations = s.stations ∧
      (resAfter (execPendingSanitizeReplay s) s).drc = s.drc ∧ (resAfter (execPendingSanitizeReplay s) s).dram = s.dram ∧
      (resAfter (execPendingSanitizeReplay s) s).cht = s.cht ∧ (resAfter (execPendingSanitizeReplay s) s).sui = s.sui ∧
      (resAfter (execPendingSanitizeReplay s) s).stw = s.stw ∧ (resAfter (execPendingSanitizeReplay s) s).sav = s.sav ∧
      (resAfter (execPendingSanitizeReplay s) s).cel = s.cel ∧ (resAfter (execPendingSanitizeReplay s) s).dmw = s.dmw ∧
      (resAfter (execPendingSanitizeReplay s) s).nrg = s.nrg ∧ (resAfter (execPendingSanitizeReplay s) s).gau = s.gau ∧
      (resAfter (execPendingSanitizeReplay s) s).rek = s.rek ∧ (resAfter (execPendingSanitizeReplay s) s).plk = s.plk ∧
      (resAfter (execPendingSanitizeReplay s) s).att = s.att ∧ (resAfter (execPendingSanitizeReplay s) s).ecc = s.ecc ∧
      (resAfter (execPendingSanitizeReplay s) s).tws = s.tws ∧ (resAfter (execPendingSanitizeReplay s) s).twp = s.twp ∧
      (resAfter (execPendingSanitizeReplay s) s).svc = s.svc ∧ (resAfter (execPendingSanitizeReplay s) s).log = s.log ∧
      (resAfter (execPendingSanitizeReplay s) s).pwr = s.pwr ∧ (resAfter (execPendingSanitizeReplay s) s).fpl = s.fpl ∧
      (resAfter (execPendingSanitizeReplay s) s).jtag = s.jtag ∧ (resAfter (execPendingSanitizeReplay s) s).fuses = s.fuses ∧
      (resAfter (execPendingSanitizeReplay s) s).cal = s.cal ∧ (resAfter (execPendingSanitizeReplay s) s).out = s.out ∧
      (resAfter (execPendingSanitizeReplay s) s).free = s.free ∧
      (resAfter (execPendingSanitizeReplay s) s).pending = s.pending ∧
      (resAfter (execPendingSanitizeReplay s) s).hst.linkUp = s.hst.linkUp ∧
      (resAfter (execPendingSanitizeReplay s) s).hst.gateClosed = s.hst.gateClosed := by
  unfold execPendingSanitizeReplay; (repeat' split) <;> simp_all

theorem lapse_frame (s : State) :
    (lapse s).almanac = s.almanac ∧ (lapse s).fuses = s.fuses ∧ (lapse s).cal = s.cal ∧ (lapse s).pending = s.pending := by
  have q1 := raise_frame
  have q2 := wantRek_frame
  simp [q1, q2, lapse]

theorem execGrantLapse_frame (s : State) :
    (resAfter (execGrantLapse s) s).fuses = s.fuses ∧ (resAfter (execGrantLapse s) s).cal = s.cal ∧
      (resAfter (execGrantLapse s) s).pending = s.pending := by
  have q1 := advanceTo_frame
  have q2 := lapse_frame
  unfold execGrantLapse; (repeat' split) <;> simp_all

theorem execP12vBelowThreshold_frame (s : State) :
    (resAfter (execP12vBelowThreshold s) s).almanac = s.almanac ∧ (resAfter (execP12vBelowThreshold s) s).fuses = s.fuses ∧
      (resAfter (execP12vBelowThreshold s) s).pending = s.pending := by
  have q1 := exhausted_frame
  have q2 := fenceTrigger_frame
  have q3 := markStep_frame
  simp only [execP12vBelowThreshold]; (repeat' split) <;> simp [q1, q2, q3]

theorem bootFromOff_frame (s : State) :
    (bootFromOff s).dram = s.dram ∧ (bootFromOff s).fuses = s.fuses ∧ (bootFromOff s).cal = s.cal ∧
      (bootFromOff s).free = s.free ∧ (bootFromOff s).pending = s.pending := by
  have q1 := coldRestore_frame
  have q2 := enterBoot_frame
  simp [q1, q2, bootFromOff]

theorem bootFromSaved_frame (ends : Bool) (s : State) :
    (bootFromSaved ends s).dram = s.dram ∧ (bootFromSaved ends s).fuses = s.fuses ∧ (bootFromSaved ends s).cal = s.cal ∧
      (bootFromSaved ends s).free = s.free ∧ (bootFromSaved ends s).pending = s.pending := by
  have q1 := coldRestore_frame
  have q2 := enterBoot_frame
  simp [q1, q2, bootFromSaved]

theorem mainsInSaving_frame (s : State) :
    (mainsInSaving s).almanac = s.almanac ∧ (mainsInSaving s).dev = s.dev ∧ (mainsInSaving s).stations = s.stations ∧
      (mainsInSaving s).hst = s.hst ∧ (mainsInSaving s).drc = s.drc ∧ (mainsInSaving s).dram = s.dram ∧
      (mainsInSaving s).cht = s.cht ∧ (mainsInSaving s).sui = s.sui ∧ (mainsInSaving s).stw = s.stw ∧
      (mainsInSaving s).cel = s.cel ∧ (mainsInSaving s).dmw = s.dmw ∧ (mainsInSaving s).nrg = s.nrg ∧
      (mainsInSaving s).gau = s.gau ∧ (mainsInSaving s).rek = s.rek ∧ (mainsInSaving s).plk = s.plk ∧
      (mainsInSaving s).att = s.att ∧ (mainsInSaving s).ecc = s.ecc ∧ (mainsInSaving s).tws = s.tws ∧
      (mainsInSaving s).twp = s.twp ∧ (mainsInSaving s).svc = s.svc ∧ (mainsInSaving s).log = s.log ∧
      (mainsInSaving s).pwr = s.pwr ∧ (mainsInSaving s).fpl = s.fpl ∧ (mainsInSaving s).jtag = s.jtag ∧
      (mainsInSaving s).fuses = s.fuses ∧ (mainsInSaving s).cal = s.cal ∧ (mainsInSaving s).out = s.out ∧
      (mainsInSaving s).free = s.free ∧ (mainsInSaving s).pending = s.pending := by
  simp [mainsInSaving]

theorem execP12vValid_frame (aux : Bool) (s : State) :
    (resAfter (execP12vValid aux s) s).dram = s.dram ∧ (resAfter (execP12vValid aux s) s).fuses = s.fuses ∧
      (resAfter (execP12vValid aux s) s).cal = s.cal ∧ (resAfter (execP12vValid aux s) s).free = s.free ∧
      (resAfter (execP12vValid aux s) s).pending = s.pending := by
  have q1 := bootFromOff_frame
  have q2 := bootFromSaved_frame
  have q3 := mainsInSaving_frame
  have q4 := markStep_frame
  simp only [execP12vValid]; (repeat' split) <;> simp [q1, q2, q3, q4]

theorem execMusterInLow_frame (highAfter : Option Nat) (s : State) :
    (resAfter (execMusterInLow highAfter s) s).almanac = s.almanac ∧ (resAfter (execMusterInLow highAfter s) s).dram = s.dram ∧
      (resAfter (execMusterInLow highAfter s) s).fuses = s.fuses ∧ (resAfter (execMusterInLow highAfter s) s).cal = s.cal ∧
      (resAfter (execMusterInLow highAfter s) s).pending = s.pending := by
  have q1 := fenceTrigger_frame
  simp [q1, execMusterInLow]

theorem execPerstNDeassert_frame (s : State) :
    (resAfter (execPerstNDeassert s) s).dram = s.dram ∧ (resAfter (execPerstNDeassert s) s).fuses = s.fuses ∧
      (resAfter (execPerstNDeassert s) s).cal = s.cal ∧ (resAfter (execPerstNDeassert s) s).free = s.free ∧
      (resAfter (execPerstNDeassert s) s).pending = s.pending := by
  have q1 := bootFromOff_frame
  have q2 := bootFromSaved_frame
  simp only [execPerstNDeassert]; (repeat' split) <;> simp [q1, q2]

theorem execDrydockPowerRemoved_frame (s : State) :
    (resAfter (execDrydockPowerRemoved s) s).almanac = s.almanac ∧
      (resAfter (execDrydockPowerRemoved s) s).stations = s.stations ∧ (resAfter (execDrydockPowerRemoved s) s).dram = s.dram ∧
      (resAfter (execDrydockPowerRemoved s) s).cht = s.cht ∧ (resAfter (execDrydockPowerRemoved s) s).sui = s.sui ∧
      (resAfter (execDrydockPowerRemoved s) s).stw = s.stw ∧ (resAfter (execDrydockPowerRemoved s) s).cel = s.cel ∧
      (resAfter (execDrydockPowerRemoved s) s).dmw = s.dmw ∧ (resAfter (execDrydockPowerRemoved s) s).gau = s.gau ∧
      (resAfter (execDrydockPowerRemoved s) s).rek = s.rek ∧ (resAfter (execDrydockPowerRemoved s) s).plk = s.plk ∧
      (resAfter (execDrydockPowerRemoved s) s).att = s.att ∧ (resAfter (execDrydockPowerRemoved s) s).ecc = s.ecc ∧
      (resAfter (execDrydockPowerRemoved s) s).twp = s.twp ∧ (resAfter (execDrydockPowerRemoved s) s).svc = s.svc ∧
      (resAfter (execDrydockPowerRemoved s) s).fpl = s.fpl ∧ (resAfter (execDrydockPowerRemoved s) s).jtag = s.jtag ∧
      (resAfter (execDrydockPowerRemoved s) s).fuses = s.fuses ∧ (resAfter (execDrydockPowerRemoved s) s).cal = s.cal ∧
      (resAfter (execDrydockPowerRemoved s) s).free = s.free ∧ (resAfter (execDrydockPowerRemoved s) s).pending = s.pending ∧
      (resAfter (execDrydockPowerRemoved s) s).hst.linkUp = s.hst.linkUp ∧
      (resAfter (execDrydockPowerRemoved s) s).hst.gateClosed = s.hst.gateClosed ∧
      (resAfter (execDrydockPowerRemoved s) s).log.aonPowered = s.log.aonPowered := by
  have q1 := enterOff_frame
  unfold execDrydockPowerRemoved; (repeat' split) <;> simp_all

theorem execRailsValid_frame (s : State) :
    (resAfter (execRailsValid s) s).almanac = s.almanac ∧ (resAfter (execRailsValid s) s).dev = s.dev ∧
      (resAfter (execRailsValid s) s).stations = s.stations ∧ (resAfter (execRailsValid s) s).hst = s.hst ∧
      (resAfter (execRailsValid s) s).dram = s.dram ∧ (resAfter (execRailsValid s) s).cht = s.cht ∧
      (resAfter (execRailsValid s) s).sui = s.sui ∧ (resAfter (execRailsValid s) s).stw = s.stw ∧
      (resAfter (execRailsValid s) s).cel = s.cel ∧ (resAfter (execRailsValid s) s).dmw = s.dmw ∧
      (resAfter (execRailsValid s) s).nrg = s.nrg ∧ (resAfter (execRailsValid s) s).gau = s.gau ∧
      (resAfter (execRailsValid s) s).rek = s.rek ∧ (resAfter (execRailsValid s) s).plk = s.plk ∧
      (resAfter (execRailsValid s) s).att = s.att ∧ (resAfter (execRailsValid s) s).ecc = s.ecc ∧
      (resAfter (execRailsValid s) s).tws = s.tws ∧ (resAfter (execRailsValid s) s).twp = s.twp ∧
      (resAfter (execRailsValid s) s).svc = s.svc ∧ (resAfter (execRailsValid s) s).log = s.log ∧
      (resAfter (execRailsValid s) s).fpl = s.fpl ∧ (resAfter (execRailsValid s) s).jtag = s.jtag ∧
      (resAfter (execRailsValid s) s).fuses = s.fuses ∧ (resAfter (execRailsValid s) s).cal = s.cal ∧
      (resAfter (execRailsValid s) s).out = s.out ∧ (resAfter (execRailsValid s) s).free = s.free ∧
      (resAfter (execRailsValid s) s).pending = s.pending := by
  unfold execRailsValid; (repeat' split) <;> simp_all

theorem execRailUv_frame (rail : Nat) (foldback : Bool) (s : State) :
    (resAfter (execRailUv rail foldback s) s).almanac = s.almanac ∧ (resAfter (execRailUv rail foldback s) s).fuses = s.fuses ∧
      (resAfter (execRailUv rail foldback s) s).cal = s.cal ∧ (resAfter (execRailUv rail foldback s) s).pending = s.pending := by
  have q1 := raiseAddr_frame
  unfold execRailUv; (repeat' split) <;> simp_all

theorem execRailLost_frame (rail : Nat) (s : State) :
    (resAfter (execRailLost rail s) s).almanac = s.almanac ∧ (resAfter (execRailLost rail s) s).fuses = s.fuses ∧
      (resAfter (execRailLost rail s) s).cal = s.cal ∧ (resAfter (execRailLost rail s) s).pending = s.pending := by
  have q1 := raiseAt_frame
  unfold execRailLost; (repeat' split) <;> simp_all

theorem execThrottleExit_frame (s : State) :
    (resAfter (execThrottleExit s) s).dev = s.dev ∧ (resAfter (execThrottleExit s) s).stations = s.stations ∧
      (resAfter (execThrottleExit s) s).drc = s.drc ∧ (resAfter (execThrottleExit s) s).dram = s.dram ∧
      (resAfter (execThrottleExit s) s).cht = s.cht ∧ (resAfter (execThrottleExit s) s).sui = s.sui ∧
      (resAfter (execThrottleExit s) s).stw = s.stw ∧ (resAfter (execThrottleExit s) s).sav = s.sav ∧
      (resAfter (execThrottleExit s) s).cel = s.cel ∧ (resAfter (execThrottleExit s) s).dmw = s.dmw ∧
      (resAfter (execThrottleExit s) s).nrg = s.nrg ∧ (resAfter (execThrottleExit s) s).gau = s.gau ∧
      (resAfter (execThrottleExit s) s).rek = s.rek ∧ (resAfter (execThrottleExit s) s).plk = s.plk ∧
      (resAfter (execThrottleExit s) s).att = s.att ∧ (resAfter (execThrottleExit s) s).ecc = s.ecc ∧
      (resAfter (execThrottleExit s) s).twp = s.twp ∧ (resAfter (execThrottleExit s) s).fpl = s.fpl ∧
      (resAfter (execThrottleExit s) s).jtag = s.jtag ∧ (resAfter (execThrottleExit s) s).fuses = s.fuses ∧
      (resAfter (execThrottleExit s) s).cal = s.cal ∧ (resAfter (execThrottleExit s) s).free = s.free ∧
      (resAfter (execThrottleExit s) s).pending = s.pending := by
  have q1 := addEvent_frame
  have q2 := advanceTo_frame
  have q3 := alertBit_frame
  unfold execThrottleExit; (repeat' split) <;> simp_all

theorem execThrottleExit_frame3 (s : State) :
    (resAfter (execThrottleExit s) s).hst.linkUp = s.hst.linkUp ∧
      (resAfter (execThrottleExit s) s).hst.gateClosed = s.hst.gateClosed ∧
      (resAfter (execThrottleExit s) s).log.aonPowered = s.log.aonPowered := by
  have q1 := addEvent_frame
  have q2 := addEvent_frame3
  have q3 := advanceTo_frame
  have q4 := alertBit_frame
  simp only [execThrottleExit]; (repeat' split) <;> simp [q1, q2, q3, q4]

theorem badWrite_frame (c : FClass) (s : State) :
    (badWrite c s).almanac = s.almanac ∧ (badWrite c s).fuses = s.fuses ∧ (badWrite c s).cal = s.cal ∧
      (badWrite c s).pending = s.pending := by
  have q1 := raiseAddr_frame
  simp [q1, badWrite]

@[simp] theorem ranged_frame_almanac (ok : Bool) (c : FClass) (f : State → State)
    (s : State) (hf : ∀ s, (f s).almanac = s.almanac) : (ranged ok c f s).almanac = s.almanac := by
  have q1 := badWrite_frame
  simp [q1, ranged, hf]

@[simp] theorem ranged_frame_fuses (ok : Bool) (c : FClass) (f : State → State)
    (s : State) (hf : ∀ s, (f s).fuses = s.fuses) : (ranged ok c f s).fuses = s.fuses := by
  have q1 := badWrite_frame
  simp [q1, ranged, hf]

@[simp] theorem ranged_frame_cal (ok : Bool) (c : FClass) (f : State → State)
    (s : State) (hf : ∀ s, (f s).cal = s.cal) : (ranged ok c f s).cal = s.cal := by
  have q1 := badWrite_frame
  simp [q1, ranged, hf]

@[simp] theorem ranged_frame_pending (ok : Bool) (c : FClass) (f : State → State)
    (s : State) (hf : ∀ s, (f s).pending = s.pending) : (ranged ok c f s).pending = s.pending := by
  have q1 := badWrite_frame
  simp [q1, ranged, hf]

theorem clearPeak_frame (ofs : Nat) (s : State) :
    (clearPeak ofs s).almanac = s.almanac ∧ (clearPeak ofs s).dev = s.dev ∧ (clearPeak ofs s).stations = s.stations ∧
      (clearPeak ofs s).drc = s.drc ∧ (clearPeak ofs s).dram = s.dram ∧ (clearPeak ofs s).cht = s.cht ∧
      (clearPeak ofs s).sui = s.sui ∧ (clearPeak ofs s).cel = s.cel ∧ (clearPeak ofs s).nrg = s.nrg ∧
      (clearPeak ofs s).gau = s.gau ∧ (clearPeak ofs s).rek = s.rek ∧ (clearPeak ofs s).att = s.att ∧
      (clearPeak ofs s).ecc = s.ecc ∧ (clearPeak ofs s).tws = s.tws ∧ (clearPeak ofs s).twp = s.twp ∧
      (clearPeak ofs s).svc = s.svc ∧ (clearPeak ofs s).log = s.log ∧ (clearPeak ofs s).fpl = s.fpl ∧
      (clearPeak ofs s).jtag = s.jtag ∧ (clearPeak ofs s).fuses = s.fuses ∧ (clearPeak ofs s).cal = s.cal ∧
      (clearPeak ofs s).out = s.out ∧ (clearPeak ofs s).free = s.free ∧ (clearPeak ofs s).pending = s.pending ∧
      (clearPeak ofs s).hst.linkUp = s.hst.linkUp ∧ (clearPeak ofs s).hst.gateClosed = s.hst.gateClosed := by
  unfold clearPeak; (repeat' split) <;> simp_all

theorem clearBit31_frame (ofs : Nat) (w : Word) (s : State) :
    (clearBit31 ofs w s).almanac = s.almanac ∧ (clearBit31 ofs w s).dev = s.dev ∧ (clearBit31 ofs w s).stations = s.stations ∧
      (clearBit31 ofs w s).drc = s.drc ∧ (clearBit31 ofs w s).dram = s.dram ∧ (clearBit31 ofs w s).cht = s.cht ∧
      (clearBit31 ofs w s).sui = s.sui ∧ (clearBit31 ofs w s).cel = s.cel ∧ (clearBit31 ofs w s).nrg = s.nrg ∧
      (clearBit31 ofs w s).gau = s.gau ∧ (clearBit31 ofs w s).rek = s.rek ∧ (clearBit31 ofs w s).att = s.att ∧
      (clearBit31 ofs w s).ecc = s.ecc ∧ (clearBit31 ofs w s).tws = s.tws ∧ (clearBit31 ofs w s).twp = s.twp ∧
      (clearBit31 ofs w s).svc = s.svc ∧ (clearBit31 ofs w s).log = s.log ∧ (clearBit31 ofs w s).fpl = s.fpl ∧
      (clearBit31 ofs w s).jtag = s.jtag ∧ (clearBit31 ofs w s).fuses = s.fuses ∧ (clearBit31 ofs w s).cal = s.cal ∧
      (clearBit31 ofs w s).out = s.out ∧ (clearBit31 ofs w s).free = s.free ∧ (clearBit31 ofs w s).pending = s.pending := by
  have q1 := clearPeak_frame
  simp [q1, clearBit31]

theorem clearBit31_frame2 (ofs : Nat) (w : Word) (s : State) :
    (clearBit31 ofs w s).hst.linkUp = s.hst.linkUp ∧ (clearBit31 ofs w s).hst.gateClosed = s.hst.gateClosed := by
  have q1 := clearPeak_frame
  unfold clearBit31; (repeat' split) <;> simp_all

theorem writeHst_frame (o : Nat) (w : Word) (s : State) :
    (writeHst o w s).almanac = s.almanac ∧ (writeHst o w s).dev = s.dev ∧ (writeHst o w s).stations = s.stations ∧
      (writeHst o w s).drc = s.drc ∧ (writeHst o w s).dram = s.dram ∧ (writeHst o w s).cht = s.cht ∧
      (writeHst o w s).sui = s.sui ∧ (writeHst o w s).cel = s.cel ∧ (writeHst o w s).nrg = s.nrg ∧
      (writeHst o w s).gau = s.gau ∧ (writeHst o w s).rek = s.rek ∧ (writeHst o w s).att = s.att ∧
      (writeHst o w s).ecc = s.ecc ∧ (writeHst o w s).tws = s.tws ∧ (writeHst o w s).twp = s.twp ∧
      (writeHst o w s).svc = s.svc ∧ (writeHst o w s).log = s.log ∧ (writeHst o w s).fpl = s.fpl ∧
      (writeHst o w s).jtag = s.jtag ∧ (writeHst o w s).fuses = s.fuses ∧ (writeHst o w s).cal = s.cal ∧
      (writeHst o w s).out = s.out ∧ (writeHst o w s).free = s.free ∧ (writeHst o w s).pending = s.pending ∧
      (writeHst o w s).hst.linkUp = s.hst.linkUp ∧ (writeHst o w s).hst.gateClosed = s.hst.gateClosed := by
  have q1 := clearBit31_frame
  have q2 := clearBit31_frame2
  unfold writeHst; (repeat' split) <;> simp_all

theorem writeDrc_frame (o : Nat) (w : Word) (s : State) :
    (writeDrc o w s).almanac = s.almanac ∧ (writeDrc o w s).fuses = s.fuses ∧ (writeDrc o w s).cal = s.cal ∧
      (writeDrc o w s).pending = s.pending := by
  have q1 := forceDouble_frame
  unfold writeDrc; (repeat' split) <;> simp_all

theorem writeStw_frame (o : Nat) (w : Word) (s : State) :
    (writeStw o w s).almanac = s.almanac ∧ (writeStw o w s).fuses = s.fuses ∧ (writeStw o w s).cal = s.cal ∧
      (writeStw o w s).pending = s.pending := by
  have q1 := clearBit31_frame
  have q2 := reeval_frame
  unfold writeStw; (repeat' split) <;> simp_all

theorem writeSav_frame (o : Nat) (w : Word) (s : State) :
    (writeSav o w s).almanac = s.almanac ∧ (writeSav o w s).dev = s.dev ∧ (writeSav o w s).stations = s.stations ∧
      (writeSav o w s).drc = s.drc ∧ (writeSav o w s).dram = s.dram ∧ (writeSav o w s).cht = s.cht ∧
      (writeSav o w s).sui = s.sui ∧ (writeSav o w s).cel = s.cel ∧ (writeSav o w s).nrg = s.nrg ∧
      (writeSav o w s).gau = s.gau ∧ (writeSav o w s).rek = s.rek ∧ (writeSav o w s).att = s.att ∧
      (writeSav o w s).ecc = s.ecc ∧ (writeSav o w s).tws = s.tws ∧ (writeSav o w s).twp = s.twp ∧
      (writeSav o w s).svc = s.svc ∧ (writeSav o w s).log = s.log ∧ (writeSav o w s).fpl = s.fpl ∧
      (writeSav o w s).jtag = s.jtag ∧ (writeSav o w s).fuses = s.fuses ∧ (writeSav o w s).cal = s.cal ∧
      (writeSav o w s).out = s.out ∧ (writeSav o w s).free = s.free ∧ (writeSav o w s).pending = s.pending ∧
      (writeSav o w s).hst.linkUp = s.hst.linkUp ∧ (writeSav o w s).hst.gateClosed = s.hst.gateClosed := by
  have q1 := clearBit31_frame
  have q2 := clearBit31_frame2
  unfold writeSav; (repeat' split) <;> simp_all

theorem newThresh_frame (t : Nat) (s : State) :
    (newThresh t s).almanac = s.almanac ∧ (newThresh t s).fuses = s.fuses ∧ (newThresh t s).pending = s.pending := by
  have q1 := clearReason_frame
  have q2 := spareCheck_frame
  simp [q1, q2, newThresh]

theorem writeCel_frame (o : Nat) (w : Word) (s : State) :
    (writeCel o w s).almanac = s.almanac ∧ (writeCel o w s).fuses = s.fuses ∧ (writeCel o w s).pending = s.pending := by
  have q1 := newThresh_frame
  unfold writeCel; (repeat' split) <;> simp_all

theorem writeGau_frame (o : Nat) (w : Word) (s : State) :
    (writeGau o w s).almanac = s.almanac ∧ (writeGau o w s).dev = s.dev ∧ (writeGau o w s).stations = s.stations ∧
      (writeGau o w s).hst = s.hst ∧ (writeGau o w s).drc = s.drc ∧ (writeGau o w s).dram = s.dram ∧
      (writeGau o w s).cht = s.cht ∧ (writeGau o w s).sui = s.sui ∧ (writeGau o w s).stw = s.stw ∧
      (writeGau o w s).sav = s.sav ∧ (writeGau o w s).cel = s.cel ∧ (writeGau o w s).dmw = s.dmw ∧
      (writeGau o w s).rek = s.rek ∧ (writeGau o w s).plk = s.plk ∧ (writeGau o w s).att = s.att ∧
      (writeGau o w s).ecc = s.ecc ∧ (writeGau o w s).tws = s.tws ∧ (writeGau o w s).twp = s.twp ∧
      (writeGau o w s).svc = s.svc ∧ (writeGau o w s).log = s.log ∧ (writeGau o w s).pwr = s.pwr ∧
      (writeGau o w s).fpl = s.fpl ∧ (writeGau o w s).jtag = s.jtag ∧ (writeGau o w s).fuses = s.fuses ∧
      (writeGau o w s).cal = s.cal ∧ (writeGau o w s).out = s.out ∧ (writeGau o w s).free = s.free ∧
      (writeGau o w s).pending = s.pending := by
  have q1 := forceRefCmd_frame
  have q2 := pulseNow_frame
  simp [q1, q2, writeGau]

theorem writeRek_frame (o : Nat) (w : Word) (s : State) :
    (writeRek o w s).almanac = s.almanac ∧ (writeRek o w s).fuses = s.fuses ∧ (writeRek o w s).cal = s.cal ∧
      (writeRek o w s).pending = s.pending := by
  have q1 := rekRunCmd_frame
  unfold writeRek; (repeat' split) <;> simp_all

theorem writePlk_frame (o : Nat) (w : Word) (s : State) :
    (writePlk o w s).almanac = s.almanac ∧ (writePlk o w s).fuses = s.fuses ∧ (writePlk o w s).cal = s.cal ∧
      (writePlk o w s).pending = s.pending := by
  have q1 := clearBit31_frame
  unfold writePlk; (repeat' split) <;> simp_all

theorem writeChanCtl_frame (n : Nat) (w : Word) (s : State) :
    (writeChanCtl n w s).almanac = s.almanac ∧ (writeChanCtl n w s).fuses = s.fuses ∧ (writeChanCtl n w s).cal = s.cal ∧
      (writeChanCtl n w s).pending = s.pending := by
  have q1 := dmwBad_frame
  have q2 := dmwEnable_frame
  have q3 := dmwPause_frame
  have q4 := dmwResetCmd_frame
  have q5 := dmwResume_frame
  simp [q1, q2, q3, q4, q5, writeChanCtl]

theorem writeChanWin_frame (n : Nat) (w : Word) (s : State) :
    (writeChanWin n w s).almanac = s.almanac ∧ (writeChanWin n w s).fuses = s.fuses ∧ (writeChanWin n w s).cal = s.cal ∧
      (writeChanWin n w s).pending = s.pending := by
  have q1 := dmwBad_frame
  have q2 := modChan_frame
  simp [q1, q2, writeChanWin]

theorem writeDmw_frame (o : Nat) (w : Word) (s : State) :
    (writeDmw o w s).almanac = s.almanac ∧ (writeDmw o w s).fuses = s.fuses ∧ (writeDmw o w s).cal = s.cal ∧
      (writeDmw o w s).pending = s.pending := by
  have q1 := clearBit31_frame
  have q2 := dmwTailWrite_frame
  have q3 := writeChanCtl_frame
  have q4 := writeChanWin_frame
  unfold writeDmw; (repeat' split) <;> simp_all

theorem writeAtt_frame (o : Nat) (w : Word) (s : State) :
    (writeAtt o w s).almanac = s.almanac ∧ (writeAtt o w s).fuses = s.fuses ∧ (writeAtt o w s).cal = s.cal ∧
      (writeAtt o w s).pending = s.pending := by
  simp [writeAtt]

theorem writeEcc_frame (o : Nat) (w : Word) (s : State) :
    (writeEcc o w s).almanac = s.almanac ∧ (writeEcc o w s).fuses = s.fuses ∧ (writeEcc o w s).cal = s.cal ∧
      (writeEcc o w s).pending = s.pending := by
  have q1 := eccTestRead_frame
  have q2 := eccTestWrite_frame
  have q3 := takeTestCtl_frame
  unfold writeEcc; (repeat' split) <;> simp_all

theorem clearAlert_frame (b : Byte) (s : State) :
    (clearAlert b s).almanac = s.almanac ∧ (clearAlert b s).dev = s.dev ∧ (clearAlert b s).stations = s.stations ∧
      (clearAlert b s).hst = s.hst ∧ (clearAlert b s).drc = s.drc ∧ (clearAlert b s).dram = s.dram ∧
      (clearAlert b s).cht = s.cht ∧ (clearAlert b s).sui = s.sui ∧ (clearAlert b s).stw = s.stw ∧
      (clearAlert b s).sav = s.sav ∧ (clearAlert b s).cel = s.cel ∧ (clearAlert b s).dmw = s.dmw ∧
      (clearAlert b s).nrg = s.nrg ∧ (clearAlert b s).gau = s.gau ∧ (clearAlert b s).rek = s.rek ∧
      (clearAlert b s).plk = s.plk ∧ (clearAlert b s).att = s.att ∧ (clearAlert b s).ecc = s.ecc ∧
      (clearAlert b s).twp = s.twp ∧ (clearAlert b s).svc = s.svc ∧ (clearAlert b s).log = s.log ∧
      (clearAlert b s).pwr = s.pwr ∧ (clearAlert b s).fpl = s.fpl ∧ (clearAlert b s).jtag = s.jtag ∧
      (clearAlert b s).fuses = s.fuses ∧ (clearAlert b s).cal = s.cal ∧ (clearAlert b s).out = s.out ∧
      (clearAlert b s).free = s.free ∧ (clearAlert b s).pending = s.pending := by
  simp [clearAlert]

theorem writeAlert_frame (w : Word) (s : State) :
    (writeAlert w s).almanac = s.almanac ∧ (writeAlert w s).dev = s.dev ∧ (writeAlert w s).stations = s.stations ∧
      (writeAlert w s).hst = s.hst ∧ (writeAlert w s).drc = s.drc ∧ (writeAlert w s).dram = s.dram ∧
      (writeAlert w s).cht = s.cht ∧ (writeAlert w s).sui = s.sui ∧ (writeAlert w s).stw = s.stw ∧
      (writeAlert w s).sav = s.sav ∧ (writeAlert w s).cel = s.cel ∧ (writeAlert w s).dmw = s.dmw ∧
      (writeAlert w s).nrg = s.nrg ∧ (writeAlert w s).gau = s.gau ∧ (writeAlert w s).rek = s.rek ∧
      (writeAlert w s).plk = s.plk ∧ (writeAlert w s).att = s.att ∧ (writeAlert w s).ecc = s.ecc ∧
      (writeAlert w s).twp = s.twp ∧ (writeAlert w s).svc = s.svc ∧ (writeAlert w s).log = s.log ∧
      (writeAlert w s).pwr = s.pwr ∧ (writeAlert w s).fpl = s.fpl ∧ (writeAlert w s).jtag = s.jtag ∧
      (writeAlert w s).fuses = s.fuses ∧ (writeAlert w s).cal = s.cal ∧ (writeAlert w s).out = s.out ∧
      (writeAlert w s).free = s.free ∧ (writeAlert w s).pending = s.pending := by
  have q1 := clearAlert_frame
  simp [q1, writeAlert]

theorem writeTws_frame (o : Nat) (w : Word) (s : State) :
    (writeTws o w s).almanac = s.almanac ∧ (writeTws o w s).dev = s.dev ∧ (writeTws o w s).stations = s.stations ∧
      (writeTws o w s).hst = s.hst ∧ (writeTws o w s).drc = s.drc ∧ (writeTws o w s).dram = s.dram ∧
      (writeTws o w s).cht = s.cht ∧ (writeTws o w s).sui = s.sui ∧ (writeTws o w s).stw = s.stw ∧
      (writeTws o w s).sav = s.sav ∧ (writeTws o w s).cel = s.cel ∧ (writeTws o w s).dmw = s.dmw ∧
      (writeTws o w s).nrg = s.nrg ∧ (writeTws o w s).gau = s.gau ∧ (writeTws o w s).rek = s.rek ∧
      (writeTws o w s).plk = s.plk ∧ (writeTws o w s).att = s.att ∧ (writeTws o w s).ecc = s.ecc ∧
      (writeTws o w s).twp = s.twp ∧ (writeTws o w s).svc = s.svc ∧ (writeTws o w s).log = s.log ∧
      (writeTws o w s).pwr = s.pwr ∧ (writeTws o w s).fpl = s.fpl ∧ (writeTws o w s).jtag = s.jtag ∧
      (writeTws o w s).fuses = s.fuses ∧ (writeTws o w s).cal = s.cal ∧ (writeTws o w s).out = s.out ∧
      (writeTws o w s).free = s.free ∧ (writeTws o w s).pending = s.pending := by
  have q1 := writeAlert_frame
  unfold writeTws; (repeat' split) <;> simp_all

theorem writeTwp_frame (o : Nat) (w : Word) (s : State) :
    (writeTwp o w s).almanac = s.almanac ∧ (writeTwp o w s).dev = s.dev ∧ (writeTwp o w s).stations = s.stations ∧
      (writeTwp o w s).hst = s.hst ∧ (writeTwp o w s).drc = s.drc ∧ (writeTwp o w s).dram = s.dram ∧
      (writeTwp o w s).cht = s.cht ∧ (writeTwp o w s).sui = s.sui ∧ (writeTwp o w s).stw = s.stw ∧
      (writeTwp o w s).sav = s.sav ∧ (writeTwp o w s).cel = s.cel ∧ (writeTwp o w s).dmw = s.dmw ∧
      (writeTwp o w s).nrg = s.nrg ∧ (writeTwp o w s).gau = s.gau ∧ (writeTwp o w s).rek = s.rek ∧
      (writeTwp o w s).plk = s.plk ∧ (writeTwp o w s).att = s.att ∧ (writeTwp o w s).ecc = s.ecc ∧
      (writeTwp o w s).tws = s.tws ∧ (writeTwp o w s).svc = s.svc ∧ (writeTwp o w s).log = s.log ∧
      (writeTwp o w s).pwr = s.pwr ∧ (writeTwp o w s).fpl = s.fpl ∧ (writeTwp o w s).jtag = s.jtag ∧
      (writeTwp o w s).fuses = s.fuses ∧ (writeTwp o w s).cal = s.cal ∧ (writeTwp o w s).out = s.out ∧
      (writeTwp o w s).free = s.free ∧ (writeTwp o w s).pending = s.pending := by
  simp [writeTwp]

theorem writeSvc_frame (o : Nat) (w : Word) (s : State) :
    (writeSvc o w s).almanac = s.almanac ∧ (writeSvc o w s).fuses = s.fuses ∧ (writeSvc o w s).cal = s.cal ∧
      (writeSvc o w s).pending = s.pending := by
  simp [writeSvc]

theorem writeLog_frame (o : Nat) (w : Word) (s : State) :
    (writeLog o w s).almanac = s.almanac ∧ (writeLog o w s).fuses = s.fuses ∧ (writeLog o w s).cal = s.cal ∧
      (writeLog o w s).pending = s.pending := by
  simp [writeLog]

theorem writePwr_frame (o : Nat) (w : Word) (s : State) :
    (writePwr o w s).almanac = s.almanac ∧ (writePwr o w s).fuses = s.fuses ∧ (writePwr o w s).cal = s.cal ∧
      (writePwr o w s).pending = s.pending := by
  have q1 := clearBit31_frame
  unfold writePwr; (repeat' split) <;> simp_all

theorem writeStation_frame (b : Block) (o : Nat) (w : Word) (s : State) :
    (writeStation b o w s).almanac = s.almanac ∧ (writeStation b o w s).dev = s.dev ∧ (writeStation b o w s).hst = s.hst ∧
      (writeStation b o w s).drc = s.drc ∧ (writeStation b o w s).dram = s.dram ∧ (writeStation b o w s).cht = s.cht ∧
      (writeStation b o w s).sui = s.sui ∧ (writeStation b o w s).stw = s.stw ∧ (writeStation b o w s).sav = s.sav ∧
      (writeStation b o w s).cel = s.cel ∧ (writeStation b o w s).dmw = s.dmw ∧ (writeStation b o w s).nrg = s.nrg ∧
      (writeStation b o w s).gau = s.gau ∧ (writeStation b o w s).rek = s.rek ∧ (writeStation b o w s).plk = s.plk ∧
      (writeStation b o w s).att = s.att ∧ (writeStation b o w s).ecc = s.ecc ∧ (writeStation b o w s).tws = s.tws ∧
      (writeStation b o w s).twp = s.twp ∧ (writeStation b o w s).svc = s.svc ∧ (writeStation b o w s).log = s.log ∧
      (writeStation b o w s).pwr = s.pwr ∧ (writeStation b o w s).fpl = s.fpl ∧ (writeStation b o w s).jtag = s.jtag ∧
      (writeStation b o w s).fuses = s.fuses ∧ (writeStation b o w s).cal = s.cal ∧ (writeStation b o w s).out = s.out ∧
      (writeStation b o w s).free = s.free ∧ (writeStation b o w s).pending = s.pending := by
  have q1 := fackWrite_frame
  have q2 := modStation_frame
  unfold writeStation; (repeat' split) <;> simp_all

theorem writePair_frame (lo : Nat) (l h : Word) (s : State) :
    (writePair lo l h s).almanac = s.almanac ∧ (writePair lo l h s).dev = s.dev ∧ (writePair lo l h s).stations = s.stations ∧
      (writePair lo l h s).hst = s.hst ∧ (writePair lo l h s).drc = s.drc ∧ (writePair lo l h s).dram = s.dram ∧
      (writePair lo l h s).cht = s.cht ∧ (writePair lo l h s).sui = s.sui ∧ (writePair lo l h s).stw = s.stw ∧
      (writePair lo l h s).sav = s.sav ∧ (writePair lo l h s).cel = s.cel ∧ (writePair lo l h s).dmw = s.dmw ∧
      (writePair lo l h s).nrg = s.nrg ∧ (writePair lo l h s).gau = s.gau ∧ (writePair lo l h s).rek = s.rek ∧
      (writePair lo l h s).plk = s.plk ∧ (writePair lo l h s).att = s.att ∧ (writePair lo l h s).tws = s.tws ∧
      (writePair lo l h s).twp = s.twp ∧ (writePair lo l h s).svc = s.svc ∧ (writePair lo l h s).log = s.log ∧
      (writePair lo l h s).pwr = s.pwr ∧ (writePair lo l h s).fpl = s.fpl ∧ (writePair lo l h s).jtag = s.jtag ∧
      (writePair lo l h s).fuses = s.fuses ∧ (writePair lo l h s).cal = s.cal ∧ (writePair lo l h s).out = s.out ∧
      (writePair lo l h s).free = s.free ∧ (writePair lo l h s).pending = s.pending := by
  unfold writePair; (repeat' split) <;> simp_all

theorem holdLo_frame (ofs : Nat) (w : Word) (s : State) :
    (holdLo ofs w s).almanac = s.almanac ∧ (holdLo ofs w s).stations = s.stations ∧ (holdLo ofs w s).hst = s.hst ∧
      (holdLo ofs w s).drc = s.drc ∧ (holdLo ofs w s).dram = s.dram ∧ (holdLo ofs w s).cht = s.cht ∧
      (holdLo ofs w s).sui = s.sui ∧ (holdLo ofs w s).stw = s.stw ∧ (holdLo ofs w s).sav = s.sav ∧
      (holdLo ofs w s).cel = s.cel ∧ (holdLo ofs w s).dmw = s.dmw ∧ (holdLo ofs w s).nrg = s.nrg ∧
      (holdLo ofs w s).gau = s.gau ∧ (holdLo ofs w s).rek = s.rek ∧ (holdLo ofs w s).plk = s.plk ∧
      (holdLo ofs w s).att = s.att ∧ (holdLo ofs w s).ecc = s.ecc ∧ (holdLo ofs w s).tws = s.tws ∧
      (holdLo ofs w s).twp = s.twp ∧ (holdLo ofs w s).svc = s.svc ∧ (holdLo ofs w s).log = s.log ∧
      (holdLo ofs w s).pwr = s.pwr ∧ (holdLo ofs w s).fpl = s.fpl ∧ (holdLo ofs w s).jtag = s.jtag ∧
      (holdLo ofs w s).fuses = s.fuses ∧ (holdLo ofs w s).cal = s.cal ∧ (holdLo ofs w s).out = s.out ∧
      (holdLo ofs w s).free = s.free ∧ (holdLo ofs w s).pending = s.pending ∧ (holdLo ofs w s).dev.state = s.dev.state := by
  simp [holdLo]

theorem writeHi_frame (lo : Nat) (w : Word) (s : State) :
    (writeHi lo w s).almanac = s.almanac ∧ (writeHi lo w s).stations = s.stations ∧ (writeHi lo w s).hst = s.hst ∧
      (writeHi lo w s).drc = s.drc ∧ (writeHi lo w s).dram = s.dram ∧ (writeHi lo w s).cht = s.cht ∧
      (writeHi lo w s).sui = s.sui ∧ (writeHi lo w s).stw = s.stw ∧ (writeHi lo w s).sav = s.sav ∧
      (writeHi lo w s).cel = s.cel ∧ (writeHi lo w s).dmw = s.dmw ∧ (writeHi lo w s).nrg = s.nrg ∧
      (writeHi lo w s).gau = s.gau ∧ (writeHi lo w s).rek = s.rek ∧ (writeHi lo w s).plk = s.plk ∧
      (writeHi lo w s).att = s.att ∧ (writeHi lo w s).tws = s.tws ∧ (writeHi lo w s).twp = s.twp ∧
      (writeHi lo w s).svc = s.svc ∧ (writeHi lo w s).log = s.log ∧ (writeHi lo w s).pwr = s.pwr ∧
      (writeHi lo w s).fpl = s.fpl ∧ (writeHi lo w s).jtag = s.jtag ∧ (writeHi lo w s).fuses = s.fuses ∧
      (writeHi lo w s).cal = s.cal ∧ (writeHi lo w s).out = s.out ∧ (writeHi lo w s).free = s.free ∧
      (writeHi lo w s).pending = s.pending ∧ (writeHi lo w s).dev.state = s.dev.state := by
  have q1 := writePair_frame
  simp [q1, writeHi]

theorem execBadAccess_frame (bar2 : Bool) (offset size : Nat) (write : Bool) (s : State) :
    (resAfter (execBadAccess bar2 offset size write s) s).almanac = s.almanac ∧
      (resAfter (execBadAccess bar2 offset size write s) s).fuses = s.fuses ∧
      (resAfter (execBadAccess bar2 offset size write s) s).cal = s.cal ∧
      (resAfter (execBadAccess bar2 offset size write s) s).pending = s.pending := by
  have q1 := raiseAddr_frame
  unfold execBadAccess; (repeat' split) <;> simp_all

theorem ringHostWrite_frame (ofs : Nat) (w : Word) (s : State) :
    (ringHostWrite ofs w s).almanac = s.almanac ∧ (ringHostWrite ofs w s).fuses = s.fuses ∧
      (ringHostWrite ofs w s).cal = s.cal ∧ (ringHostWrite ofs w s).pending = s.pending := by
  have q1 := raiseAddr_frame
  simp [q1, ringHostWrite]

theorem ringHostRead_frame (ofs : Nat) (s : State) :
    (ringHostRead ofs s).almanac = s.almanac ∧ (ringHostRead ofs s).fuses = s.fuses ∧
      (ringHostRead ofs s).pending = s.pending := by
  have q1 := raiseAddr_frame
  have q2 := sramUe_frame
  simp only [ringHostRead]; (repeat' split) <;> simp [q1, q2]

theorem execPeakClear_frame (offset : Nat) (s : State) :
    (resAfter (execPeakClear offset s) s).almanac = s.almanac ∧ (resAfter (execPeakClear offset s) s).dev = s.dev ∧
      (resAfter (execPeakClear offset s) s).stations = s.stations ∧ (resAfter (execPeakClear offset s) s).drc = s.drc ∧
      (resAfter (execPeakClear offset s) s).dram = s.dram ∧ (resAfter (execPeakClear offset s) s).cht = s.cht ∧
      (resAfter (execPeakClear offset s) s).sui = s.sui ∧ (resAfter (execPeakClear offset s) s).cel = s.cel ∧
      (resAfter (execPeakClear offset s) s).nrg = s.nrg ∧ (resAfter (execPeakClear offset s) s).gau = s.gau ∧
      (resAfter (execPeakClear offset s) s).rek = s.rek ∧ (resAfter (execPeakClear offset s) s).att = s.att ∧
      (resAfter (execPeakClear offset s) s).ecc = s.ecc ∧ (resAfter (execPeakClear offset s) s).tws = s.tws ∧
      (resAfter (execPeakClear offset s) s).twp = s.twp ∧ (resAfter (execPeakClear offset s) s).svc = s.svc ∧
      (resAfter (execPeakClear offset s) s).log = s.log ∧ (resAfter (execPeakClear offset s) s).fpl = s.fpl ∧
      (resAfter (execPeakClear offset s) s).jtag = s.jtag ∧ (resAfter (execPeakClear offset s) s).fuses = s.fuses ∧
      (resAfter (execPeakClear offset s) s).cal = s.cal ∧ (resAfter (execPeakClear offset s) s).out = s.out ∧
      (resAfter (execPeakClear offset s) s).free = s.free ∧ (resAfter (execPeakClear offset s) s).pending = s.pending := by
  have q1 := clearPeak_frame
  simp [q1, execPeakClear]

theorem execPeakClear_frame2 (offset : Nat) (s : State) :
    (resAfter (execPeakClear offset s) s).hst.linkUp = s.hst.linkUp ∧
      (resAfter (execPeakClear offset s) s).hst.gateClosed = s.hst.gateClosed := by
  have q1 := clearPeak_frame
  unfold execPeakClear; (repeat' split) <;> simp_all

theorem dropPackage_frame (s : State) :
    (dropPackage s).almanac = s.almanac ∧ (dropPackage s).fuses = s.fuses ∧ (dropPackage s).cal = s.cal ∧
      (dropPackage s).pending = s.pending := by
  have q1 := setPhase_frame
  simp [q1, dropPackage]

theorem endSession_frame (s : State) :
    (endSession s).almanac = s.almanac ∧ (endSession s).fuses = s.fuses ∧ (endSession s).cal = s.cal ∧
      (endSession s).pending = s.pending := by
  have q1 := dropPackage_frame
  simp [q1, endSession]

theorem helloCmd_frame (input : List Byte) (s : State) :
    (helloCmd input s).2.2.2.almanac = s.almanac ∧ (helloCmd input s).2.2.2.fuses = s.fuses ∧
      (helloCmd input s).2.2.2.cal = s.cal ∧ (helloCmd input s).2.2.2.pending = s.pending := by
  have q1 := endSession_frame
  have q2 := svcStat_frame
  simp only [helloCmd, wellInput]; (repeat' split) <;> simp_all

theorem authFails_frame (status : Nat) (s : State) :
    (authFails status s).2.2.2.almanac = s.almanac ∧ (authFails status s).2.2.2.fuses = s.fuses ∧
      (authFails status s).2.2.2.cal = s.cal ∧ (authFails status s).2.2.2.pending = s.pending := by
  have q1 := endSession_frame
  have q2 := raise_frame
  have q3 := svcStat_frame
  simp [q1, q2, q3, authFails]

theorem authCmd_frame (input : List Byte) (s : State) :
    (authCmd input s).2.2.2.almanac = s.almanac ∧ (authCmd input s).2.2.2.fuses = s.fuses ∧
      (authCmd input s).2.2.2.cal = s.cal ∧ (authCmd input s).2.2.2.pending = s.pending := by
  have q1 := authFails_frame
  have q2 := svcStat_frame
  simp only [authCmd, inStates, wellInput]; (repeat' split) <;> simp_all

theorem beginBank_frame (l : List Byte) (s : State) :
    (beginBank l s).almanac = s.almanac ∧ (beginBank l s).stations = s.stations ∧ (beginBank l s).hst = s.hst ∧
      (beginBank l s).drc = s.drc ∧ (beginBank l s).dram = s.dram ∧ (beginBank l s).cht = s.cht ∧ (beginBank l s).sui = s.sui ∧
      (beginBank l s).stw = s.stw ∧ (beginBank l s).sav = s.sav ∧ (beginBank l s).cel = s.cel ∧ (beginBank l s).dmw = s.dmw ∧
      (beginBank l s).nrg = s.nrg ∧ (beginBank l s).gau = s.gau ∧ (beginBank l s).rek = s.rek ∧ (beginBank l s).plk = s.plk ∧
      (beginBank l s).tws = s.tws ∧ (beginBank l s).twp = s.twp ∧ (beginBank l s).svc = s.svc ∧ (beginBank l s).log = s.log ∧
      (beginBank l s).pwr = s.pwr ∧ (beginBank l s).fpl = s.fpl ∧ (beginBank l s).jtag = s.jtag ∧
      (beginBank l s).fuses = s.fuses ∧ (beginBank l s).out = s.out ∧ (beginBank l s).free = s.free ∧
      (beginBank l s).pending = s.pending := by
  have q1 := eraseSector_frame
  have q2 := programBytes_frame
  simp [q1, q2, beginBank]

theorem writeTarget_frame (p : PkgRun) (e : ChunkEntry) (l : List Byte) (s : State) :
    (writeTarget p e l s).almanac = s.almanac ∧ (writeTarget p e l s).dev = s.dev ∧
      (writeTarget p e l s).stations = s.stations ∧ (writeTarget p e l s).hst = s.hst ∧ (writeTarget p e l s).drc = s.drc ∧
      (writeTarget p e l s).dram = s.dram ∧ (writeTarget p e l s).cht = s.cht ∧ (writeTarget p e l s).sui = s.sui ∧
      (writeTarget p e l s).stw = s.stw ∧ (writeTarget p e l s).sav = s.sav ∧ (writeTarget p e l s).cel = s.cel ∧
      (writeTarget p e l s).dmw = s.dmw ∧ (writeTarget p e l s).nrg = s.nrg ∧ (writeTarget p e l s).gau = s.gau ∧
      (writeTarget p e l s).rek = s.rek ∧ (writeTarget p e l s).plk = s.plk ∧ (writeTarget p e l s).ecc = s.ecc ∧
      (writeTarget p e l s).tws = s.tws ∧ (writeTarget p e l s).twp = s.twp ∧ (writeTarget p e l s).log = s.log ∧
      (writeTarget p e l s).pwr = s.pwr ∧ (writeTarget p e l s).fpl = s.fpl ∧ (writeTarget p e l s).jtag = s.jtag ∧
      (writeTarget p e l s).fuses = s.fuses ∧ (writeTarget p e l s).cal = s.cal ∧ (writeTarget p e l s).out = s.out ∧
      (writeTarget p e l s).free = s.free ∧ (writeTarget p e l s).pending = s.pending := by
  have q1 := programBytes_frame
  unfold writeTarget; (repeat' split) <;> simp_all

theorem performEntry_frame (p : PkgRun) (s : State) (e : ChunkEntry) :
    (performEntry p s e).almanac = s.almanac ∧ (performEntry p s e).dev = s.dev ∧ (performEntry p s e).stations = s.stations ∧
      (performEntry p s e).hst = s.hst ∧ (performEntry p s e).drc = s.drc ∧ (performEntry p s e).dram = s.dram ∧
      (performEntry p s e).cht = s.cht ∧ (performEntry p s e).sui = s.sui ∧ (performEntry p s e).stw = s.stw ∧
      (performEntry p s e).sav = s.sav ∧ (performEntry p s e).cel = s.cel ∧ (performEntry p s e).dmw = s.dmw ∧
      (performEntry p s e).nrg = s.nrg ∧ (performEntry p s e).gau = s.gau ∧ (performEntry p s e).rek = s.rek ∧
      (performEntry p s e).plk = s.plk ∧ (performEntry p s e).ecc = s.ecc ∧ (performEntry p s e).tws = s.tws ∧
      (performEntry p s e).twp = s.twp ∧ (performEntry p s e).log = s.log ∧ (performEntry p s e).pwr = s.pwr ∧
      (performEntry p s e).fpl = s.fpl ∧ (performEntry p s e).jtag = s.jtag ∧ (performEntry p s e).fuses = s.fuses ∧
      (performEntry p s e).cal = s.cal ∧ (performEntry p s e).out = s.out ∧ (performEntry p s e).free = s.free ∧
      (performEntry p s e).pending = s.pending := by
  have q1 := writeTarget_frame
  simp [q1, performEntry]

theorem pkgFails_frame (status detail index : Nat) (s : State) :
    (pkgFails status detail index s).2.2.2.almanac = s.almanac ∧ (pkgFails status detail index s).2.2.2.fuses = s.fuses ∧
      (pkgFails status detail index s).2.2.2.cal = s.cal ∧ (pkgFails status detail index s).2.2.2.pending = s.pending := by
  have q1 := dropPackage_frame
  have q2 := raiseAddr_frame
  simp [q1, q2, pkgFails]

theorem countChunk_frame (s : State) :
    (countChunk s).almanac = s.almanac ∧ (countChunk s).dev = s.dev ∧ (countChunk s).stations = s.stations ∧
      (countChunk s).hst = s.hst ∧ (countChunk s).drc = s.drc ∧ (countChunk s).dram = s.dram ∧ (countChunk s).cht = s.cht ∧
      (countChunk s).sui = s.sui ∧ (countChunk s).stw = s.stw ∧ (countChunk s).sav = s.sav ∧ (countChunk s).cel = s.cel ∧
      (countChunk s).dmw = s.dmw ∧ (countChunk s).nrg = s.nrg ∧ (countChunk s).gau = s.gau ∧ (countChunk s).rek = s.rek ∧
      (countChunk s).plk = s.plk ∧ (countChunk s).att = s.att ∧ (countChunk s).ecc = s.ecc ∧ (countChunk s).tws = s.tws ∧
      (countChunk s).twp = s.twp ∧ (countChunk s).log = s.log ∧ (countChunk s).pwr = s.pwr ∧ (countChunk s).fpl = s.fpl ∧
      (countChunk s).jtag = s.jtag ∧ (countChunk s).fuses = s.fuses ∧ (countChunk s).cal = s.cal ∧ (countChunk s).out = s.out ∧
      (countChunk s).free = s.free ∧ (countChunk s).pending = s.pending := by
  simp [countChunk]

theorem tableChunk_frame (p : PkgRun) (index : Nat) (body : List Byte) (attic : Option Nat) (s : State) :
    (tableChunk p index body attic s).2.2.2.almanac = s.almanac ∧ (tableChunk p index body attic s).2.2.2.fuses = s.fuses ∧
      (tableChunk p index body attic s).2.2.2.cal = s.cal ∧ (tableChunk p index body attic s).2.2.2.pending = s.pending := by
  have q1 := countChunk_frame
  have q2 := performEntry_frame
  have q3 := pkgFails_frame
  have q4 := svcStat_frame
  simp only [tableChunk]; (repeat' split) <;> simp [q1, q2, q3, q4]

theorem dataChunk_frame (p : PkgRun) (t : List ChunkEntry) (index : Nat) (body : List Byte) (attic : Option Nat) (readBack : Bool)
    (s : State) :
    (dataChunk p t index body attic readBack s).2.2.2.almanac = s.almanac ∧
      (dataChunk p t index body attic readBack s).2.2.2.fuses = s.fuses ∧
      (dataChunk p t index body attic readBack s).2.2.2.cal = s.cal ∧
      (dataChunk p t index body attic readBack s).2.2.2.pending = s.pending := by
  have q1 := countChunk_frame
  have q2 := pkgFails_frame
  have q3 := svcStat_frame
  have q4 := writeTarget_frame
  simp only [dataChunk]; (repeat' split) <;> simp [q1, q2, q3, q4]

theorem pkgChunk_frame (input : List Byte) (attic : Option Nat) (readBack : Bool) (s : State) :
    (pkgChunk input attic readBack s).2.2.2.almanac = s.almanac ∧ (pkgChunk input attic readBack s).2.2.2.fuses = s.fuses ∧
      (pkgChunk input attic readBack s).2.2.2.cal = s.cal ∧ (pkgChunk input attic readBack s).2.2.2.pending = s.pending := by
  have q1 := dataChunk_frame
  have q2 := pkgFails_frame
  have q3 := svcStat_frame
  have q4 := tableChunk_frame
  simp only [pkgChunk, withRole, inStates, wellInput]; (repeat' split) <;> simp [q1, q2, q3, q4]

theorem loadStore_frame (kind : Nat) (l : List Byte) (s : State) :
    (loadStore kind l s).almanac = s.almanac ∧ (loadStore kind l s).dev = s.dev ∧ (loadStore kind l s).stations = s.stations ∧
      (loadStore kind l s).hst = s.hst ∧ (loadStore kind l s).drc = s.drc ∧ (loadStore kind l s).dram = s.dram ∧
      (loadStore kind l s).cht = s.cht ∧ (loadStore kind l s).sui = s.sui ∧ (loadStore kind l s).stw = s.stw ∧
      (loadStore kind l s).sav = s.sav ∧ (loadStore kind l s).cel = s.cel ∧ (loadStore kind l s).dmw = s.dmw ∧
      (loadStore kind l s).nrg = s.nrg ∧ (loadStore kind l s).gau = s.gau ∧ (loadStore kind l s).rek = s.rek ∧
      (loadStore kind l s).plk = s.plk ∧ (loadStore kind l s).att = s.att ∧ (loadStore kind l s).ecc = s.ecc ∧
      (loadStore kind l s).tws = s.tws ∧ (loadStore kind l s).twp = s.twp ∧ (loadStore kind l s).log = s.log ∧
      (loadStore kind l s).pwr = s.pwr ∧ (loadStore kind l s).fpl = s.fpl ∧ (loadStore kind l s).jtag = s.jtag ∧
      (loadStore kind l s).fuses = s.fuses ∧ (loadStore kind l s).cal = s.cal ∧ (loadStore kind l s).out = s.out ∧
      (loadStore kind l s).free = s.free ∧ (loadStore kind l s).pending = s.pending := by
  simp [loadStore]

theorem pkgAbort_frame (s : State) :
    (pkgAbort s).2.2.2.almanac = s.almanac ∧ (pkgAbort s).2.2.2.fuses = s.fuses ∧ (pkgAbort s).2.2.2.cal = s.cal ∧
      (pkgAbort s).2.2.2.pending = s.pending := by
  have q1 := dropPackage_frame
  have q2 := programMarker_frame
  have q3 := setPhase_frame
  have q4 := svcStat_frame
  simp only [pkgAbort, withRole, inStates]; (repeat' split) <;> simp_all

@[simp] theorem execAutoConfirm_frame (first second : Bool) (s : State) :
    (resAfter (execAutoConfirm first second s) s).pending = s.pending := by
  have q1 := advanceTo_frame
  have q2 := confirmSet_frame
  have q3 := setResult_frame
  unfold execAutoConfirm; (repeat' split) <;> simp [q1, q2, q3]

theorem execSvcProgress_frame (seq permille : Nat) (s : State) :
    (resAfter (execSvcProgress seq permille s) s).dev = s.dev ∧
      (resAfter (execSvcProgress seq permille s) s).stations = s.stations ∧
      (resAfter (execSvcProgress seq permille s) s).hst = s.hst ∧ (resAfter (execSvcProgress seq permille s) s).drc = s.drc ∧
      (resAfter (execSvcProgress seq permille s) s).dram = s.dram ∧ (resAfter (execSvcProgress seq permille s) s).cht = s.cht ∧
      (resAfter (execSvcProgress seq permille s) s).sui = s.sui ∧ (resAfter (execSvcProgress seq permille s) s).stw = s.stw ∧
      (resAfter (execSvcProgress seq permille s) s).sav = s.sav ∧ (resAfter (execSvcProgress seq permille s) s).cel = s.cel ∧
      (resAfter (execSvcProgress seq permille s) s).dmw = s.dmw ∧ (resAfter (execSvcProgress seq permille s) s).nrg = s.nrg ∧
      (resAfter (execSvcProgress seq permille s) s).gau = s.gau ∧ (resAfter (execSvcProgress seq permille s) s).rek = s.rek ∧
      (resAfter (execSvcProgress seq permille s) s).plk = s.plk ∧ (resAfter (execSvcProgress seq permille s) s).att = s.att ∧
      (resAfter (execSvcProgress seq permille s) s).ecc = s.ecc ∧ (resAfter (execSvcProgress seq permille s) s).tws = s.tws ∧
      (resAfter (execSvcProgress seq permille s) s).twp = s.twp ∧ (resAfter (execSvcProgress seq permille s) s).pwr = s.pwr ∧
      (resAfter (execSvcProgress seq permille s) s).fpl = s.fpl ∧ (resAfter (execSvcProgress seq permille s) s).jtag = s.jtag ∧
      (resAfter (execSvcProgress seq permille s) s).fuses = s.fuses ∧
      (resAfter (execSvcProgress seq permille s) s).cal = s.cal ∧ (resAfter (execSvcProgress seq permille s) s).free = s.free ∧
      (resAfter (execSvcProgress seq permille s) s).pending = s.pending ∧
      (resAfter (execSvcProgress seq permille s) s).log.aonPowered = s.log.aonPowered := by
  have q1 := advanceTo_frame
  have q2 := sendResponse_frame
  unfold execSvcProgress; (repeat' split) <;> simp_all

theorem discardFrame_frame (s : State) :
    (discardFrame s).almanac = s.almanac ∧ (discardFrame s).dev = s.dev ∧ (discardFrame s).stations = s.stations ∧
      (discardFrame s).hst = s.hst ∧ (discardFrame s).drc = s.drc ∧ (discardFrame s).dram = s.dram ∧
      (discardFrame s).cht = s.cht ∧ (discardFrame s).sui = s.sui ∧ (discardFrame s).stw = s.stw ∧
      (discardFrame s).sav = s.sav ∧ (discardFrame s).cel = s.cel ∧ (discardFrame s).dmw = s.dmw ∧
      (discardFrame s).nrg = s.nrg ∧ (discardFrame s).gau = s.gau ∧ (discardFrame s).rek = s.rek ∧
      (discardFrame s).plk = s.plk ∧ (discardFrame s).att = s.att ∧ (discardFrame s).ecc = s.ecc ∧
      (discardFrame s).tws = s.tws ∧ (discardFrame s).twp = s.twp ∧ (discardFrame s).log = s.log ∧
      (discardFrame s).pwr = s.pwr ∧ (discardFrame s).fpl = s.fpl ∧ (discardFrame s).jtag = s.jtag ∧
      (discardFrame s).fuses = s.fuses ∧ (discardFrame s).cal = s.cal ∧ (discardFrame s).out = s.out ∧
      (discardFrame s).free = s.free ∧ (discardFrame s).pending = s.pending := by
  simp [discardFrame]

theorem execSvcFrameTimeout_frame (s : State) :
    (resAfter (execSvcFrameTimeout s) s).almanac = s.almanac ∧ (resAfter (execSvcFrameTimeout s) s).dev = s.dev ∧
      (resAfter (execSvcFrameTimeout s) s).stations = s.stations ∧ (resAfter (execSvcFrameTimeout s) s).hst = s.hst ∧
      (resAfter (execSvcFrameTimeout s) s).drc = s.drc ∧ (resAfter (execSvcFrameTimeout s) s).dram = s.dram ∧
      (resAfter (execSvcFrameTimeout s) s).cht = s.cht ∧ (resAfter (execSvcFrameTimeout s) s).sui = s.sui ∧
      (resAfter (execSvcFrameTimeout s) s).stw = s.stw ∧ (resAfter (execSvcFrameTimeout s) s).sav = s.sav ∧
      (resAfter (execSvcFrameTimeout s) s).cel = s.cel ∧ (resAfter (execSvcFrameTimeout s) s).dmw = s.dmw ∧
      (resAfter (execSvcFrameTimeout s) s).nrg = s.nrg ∧ (resAfter (execSvcFrameTimeout s) s).gau = s.gau ∧
      (resAfter (execSvcFrameTimeout s) s).rek = s.rek ∧ (resAfter (execSvcFrameTimeout s) s).plk = s.plk ∧
      (resAfter (execSvcFrameTimeout s) s).att = s.att ∧ (resAfter (execSvcFrameTimeout s) s).ecc = s.ecc ∧
      (resAfter (execSvcFrameTimeout s) s).tws = s.tws ∧ (resAfter (execSvcFrameTimeout s) s).twp = s.twp ∧
      (resAfter (execSvcFrameTimeout s) s).log = s.log ∧ (resAfter (execSvcFrameTimeout s) s).pwr = s.pwr ∧
      (resAfter (execSvcFrameTimeout s) s).fpl = s.fpl ∧ (resAfter (execSvcFrameTimeout s) s).jtag = s.jtag ∧
      (resAfter (execSvcFrameTimeout s) s).fuses = s.fuses ∧ (resAfter (execSvcFrameTimeout s) s).cal = s.cal ∧
      (resAfter (execSvcFrameTimeout s) s).out = s.out ∧ (resAfter (execSvcFrameTimeout s) s).free = s.free ∧
      (resAfter (execSvcFrameTimeout s) s).pending = s.pending := by
  have q1 := discardFrame_frame
  simp [q1, execSvcFrameTimeout]

theorem execDiscardedFrame_frame (s : State) :
    (resAfter (execDiscardedFrame s) s).almanac = s.almanac ∧ (resAfter (execDiscardedFrame s) s).dev = s.dev ∧
      (resAfter (execDiscardedFrame s) s).stations = s.stations ∧ (resAfter (execDiscardedFrame s) s).hst = s.hst ∧
      (resAfter (execDiscardedFrame s) s).drc = s.drc ∧ (resAfter (execDiscardedFrame s) s).dram = s.dram ∧
      (resAfter (execDiscardedFrame s) s).cht = s.cht ∧ (resAfter (execDiscardedFrame s) s).sui = s.sui ∧
      (resAfter (execDiscardedFrame s) s).stw = s.stw ∧ (resAfter (execDiscardedFrame s) s).sav = s.sav ∧
      (resAfter (execDiscardedFrame s) s).cel = s.cel ∧ (resAfter (execDiscardedFrame s) s).dmw = s.dmw ∧
      (resAfter (execDiscardedFrame s) s).nrg = s.nrg ∧ (resAfter (execDiscardedFrame s) s).gau = s.gau ∧
      (resAfter (execDiscardedFrame s) s).rek = s.rek ∧ (resAfter (execDiscardedFrame s) s).plk = s.plk ∧
      (resAfter (execDiscardedFrame s) s).att = s.att ∧ (resAfter (execDiscardedFrame s) s).ecc = s.ecc ∧
      (resAfter (execDiscardedFrame s) s).tws = s.tws ∧ (resAfter (execDiscardedFrame s) s).twp = s.twp ∧
      (resAfter (execDiscardedFrame s) s).log = s.log ∧ (resAfter (execDiscardedFrame s) s).pwr = s.pwr ∧
      (resAfter (execDiscardedFrame s) s).fpl = s.fpl ∧ (resAfter (execDiscardedFrame s) s).jtag = s.jtag ∧
      (resAfter (execDiscardedFrame s) s).fuses = s.fuses ∧ (resAfter (execDiscardedFrame s) s).cal = s.cal ∧
      (resAfter (execDiscardedFrame s) s).out = s.out ∧ (resAfter (execDiscardedFrame s) s).free = s.free ∧
      (resAfter (execDiscardedFrame s) s).pending = s.pending := by
  have q1 := discardFrame_frame
  simp [q1, execDiscardedFrame]

theorem execSvcPresHigh_frame (s : State) :
    (resAfter (execSvcPresHigh s) s).fuses = s.fuses ∧ (resAfter (execSvcPresHigh s) s).cal = s.cal ∧
      (resAfter (execSvcPresHigh s) s).pending = s.pending := by
  have q1 := advanceTo_frame
  have q2 := endSession_frame
  unfold execSvcPresHigh; (repeat' split) <;> simp_all

theorem execSvcSessionIdle_frame (s : State) :
    (resAfter (execSvcSessionIdle s) s).fuses = s.fuses ∧ (resAfter (execSvcSessionIdle s) s).cal = s.cal ∧
      (resAfter (execSvcSessionIdle s) s).pending = s.pending := by
  have q1 := advanceTo_frame
  have q2 := endSession_frame
  unfold execSvcSessionIdle; (repeat' split) <;> simp_all

theorem execAuthLockoutExpire_frame (s : State) :
    (resAfter (execAuthLockoutExpire s) s).dev = s.dev ∧ (resAfter (execAuthLockoutExpire s) s).stations = s.stations ∧
      (resAfter (execAuthLockoutExpire s) s).hst = s.hst ∧ (resAfter (execAuthLockoutExpire s) s).drc = s.drc ∧
      (resAfter (execAuthLockoutExpire s) s).dram = s.dram ∧ (resAfter (execAuthLockoutExpire s) s).cht = s.cht ∧
      (resAfter (execAuthLockoutExpire s) s).sui = s.sui ∧ (resAfter (execAuthLockoutExpire s) s).stw = s.stw ∧
      (resAfter (execAuthLockoutExpire s) s).sav = s.sav ∧ (resAfter (execAuthLockoutExpire s) s).cel = s.cel ∧
      (resAfter (execAuthLockoutExpire s) s).dmw = s.dmw ∧ (resAfter (execAuthLockoutExpire s) s).nrg = s.nrg ∧
      (resAfter (execAuthLockoutExpire s) s).gau = s.gau ∧ (resAfter (execAuthLockoutExpire s) s).rek = s.rek ∧
      (resAfter (execAuthLockoutExpire s) s).plk = s.plk ∧ (resAfter (execAuthLockoutExpire s) s).att = s.att ∧
      (resAfter (execAuthLockoutExpire s) s).ecc = s.ecc ∧ (resAfter (execAuthLockoutExpire s) s).tws = s.tws ∧
      (resAfter (execAuthLockoutExpire s) s).twp = s.twp ∧ (resAfter (execAuthLockoutExpire s) s).pwr = s.pwr ∧
      (resAfter (execAuthLockoutExpire s) s).fpl = s.fpl ∧ (resAfter (execAuthLockoutExpire s) s).jtag = s.jtag ∧
      (resAfter (execAuthLockoutExpire s) s).fuses = s.fuses ∧ (resAfter (execAuthLockoutExpire s) s).cal = s.cal ∧
      (resAfter (execAuthLockoutExpire s) s).out = s.out ∧ (resAfter (execAuthLockoutExpire s) s).free = s.free ∧
      (resAfter (execAuthLockoutExpire s) s).pending = s.pending ∧
      (resAfter (execAuthLockoutExpire s) s).log.aonPowered = s.log.aonPowered := by
  have q1 := advanceTo_frame
  unfold execAuthLockoutExpire; (repeat' split) <;> simp_all

theorem execBootImageCheck_frame (pass : Bool) (s : State) :
    (resAfter (execBootImageCheck pass s) s).almanac = s.almanac ∧
      (resAfter (execBootImageCheck pass s) s).pending = s.pending := by
  have q1 := imageCheck_frame
  unfold execBootImageCheck; (repeat' split) <;> simp [q1]

theorem tapLoad_frame (i : TapInstr) (out : Nat) (s : State) :
    (tapLoad i out s).almanac = s.almanac ∧ (tapLoad i out s).dev = s.dev ∧ (tapLoad i out s).stations = s.stations ∧
      (tapLoad i out s).hst = s.hst ∧ (tapLoad i out s).drc = s.drc ∧ (tapLoad i out s).dram = s.dram ∧
      (tapLoad i out s).cht = s.cht ∧ (tapLoad i out s).sui = s.sui ∧ (tapLoad i out s).stw = s.stw ∧
      (tapLoad i out s).sav = s.sav ∧ (tapLoad i out s).cel = s.cel ∧ (tapLoad i out s).dmw = s.dmw ∧
      (tapLoad i out s).nrg = s.nrg ∧ (tapLoad i out s).gau = s.gau ∧ (tapLoad i out s).rek = s.rek ∧
      (tapLoad i out s).plk = s.plk ∧ (tapLoad i out s).att = s.att ∧ (tapLoad i out s).ecc = s.ecc ∧
      (tapLoad i out s).tws = s.tws ∧ (tapLoad i out s).twp = s.twp ∧ (tapLoad i out s).svc = s.svc ∧
      (tapLoad i out s).log = s.log ∧ (tapLoad i out s).pwr = s.pwr ∧ (tapLoad i out s).fpl = s.fpl ∧
      (tapLoad i out s).fuses = s.fuses ∧ (tapLoad i out s).cal = s.cal ∧ (tapLoad i out s).free = s.free ∧
      (tapLoad i out s).pending = s.pending := by
  simp [tapLoad]

theorem execJtagBypass_frame (s : State) :
    (resAfter (execJtagBypass s) s).almanac = s.almanac ∧ (resAfter (execJtagBypass s) s).dev = s.dev ∧
      (resAfter (execJtagBypass s) s).stations = s.stations ∧ (resAfter (execJtagBypass s) s).hst = s.hst ∧
      (resAfter (execJtagBypass s) s).drc = s.drc ∧ (resAfter (execJtagBypass s) s).dram = s.dram ∧
      (resAfter (execJtagBypass s) s).cht = s.cht ∧ (resAfter (execJtagBypass s) s).sui = s.sui ∧
      (resAfter (execJtagBypass s) s).stw = s.stw ∧ (resAfter (execJtagBypass s) s).sav = s.sav ∧
      (resAfter (execJtagBypass s) s).cel = s.cel ∧ (resAfter (execJtagBypass s) s).dmw = s.dmw ∧
      (resAfter (execJtagBypass s) s).nrg = s.nrg ∧ (resAfter (execJtagBypass s) s).gau = s.gau ∧
      (resAfter (execJtagBypass s) s).rek = s.rek ∧ (resAfter (execJtagBypass s) s).plk = s.plk ∧
      (resAfter (execJtagBypass s) s).att = s.att ∧ (resAfter (execJtagBypass s) s).ecc = s.ecc ∧
      (resAfter (execJtagBypass s) s).tws = s.tws ∧ (resAfter (execJtagBypass s) s).twp = s.twp ∧
      (resAfter (execJtagBypass s) s).svc = s.svc ∧ (resAfter (execJtagBypass s) s).log = s.log ∧
      (resAfter (execJtagBypass s) s).pwr = s.pwr ∧ (resAfter (execJtagBypass s) s).fpl = s.fpl ∧
      (resAfter (execJtagBypass s) s).fuses = s.fuses ∧ (resAfter (execJtagBypass s) s).cal = s.cal ∧
      (resAfter (execJtagBypass s) s).free = s.free ∧ (resAfter (execJtagBypass s) s).pending = s.pending := by
  have q1 := tapLoad_frame
  simp [q1, execJtagBypass]

theorem execJtagIdcode_frame (s : State) :
    (resAfter (execJtagIdcode s) s).almanac = s.almanac ∧ (resAfter (execJtagIdcode s) s).dev = s.dev ∧
      (resAfter (execJtagIdcode s) s).stations = s.stations ∧ (resAfter (execJtagIdcode s) s).hst = s.hst ∧
      (resAfter (execJtagIdcode s) s).drc = s.drc ∧ (resAfter (execJtagIdcode s) s).dram = s.dram ∧
      (resAfter (execJtagIdcode s) s).cht = s.cht ∧ (resAfter (execJtagIdcode s) s).sui = s.sui ∧
      (resAfter (execJtagIdcode s) s).stw = s.stw ∧ (resAfter (execJtagIdcode s) s).sav = s.sav ∧
      (resAfter (execJtagIdcode s) s).cel = s.cel ∧ (resAfter (execJtagIdcode s) s).dmw = s.dmw ∧
      (resAfter (execJtagIdcode s) s).nrg = s.nrg ∧ (resAfter (execJtagIdcode s) s).gau = s.gau ∧
      (resAfter (execJtagIdcode s) s).rek = s.rek ∧ (resAfter (execJtagIdcode s) s).plk = s.plk ∧
      (resAfter (execJtagIdcode s) s).att = s.att ∧ (resAfter (execJtagIdcode s) s).ecc = s.ecc ∧
      (resAfter (execJtagIdcode s) s).tws = s.tws ∧ (resAfter (execJtagIdcode s) s).twp = s.twp ∧
      (resAfter (execJtagIdcode s) s).svc = s.svc ∧ (resAfter (execJtagIdcode s) s).log = s.log ∧
      (resAfter (execJtagIdcode s) s).pwr = s.pwr ∧ (resAfter (execJtagIdcode s) s).fpl = s.fpl ∧
      (resAfter (execJtagIdcode s) s).fuses = s.fuses ∧ (resAfter (execJtagIdcode s) s).cal = s.cal ∧
      (resAfter (execJtagIdcode s) s).free = s.free ∧ (resAfter (execJtagIdcode s) s).pending = s.pending := by
  have q1 := tapLoad_frame
  simp [q1, execJtagIdcode]

theorem execJtagSamplePreload_frame (pins cells : List Bool) (s : State) :
    (resAfter (execJtagSamplePreload pins cells s) s).almanac = s.almanac ∧
      (resAfter (execJtagSamplePreload pins cells s) s).dev = s.dev ∧
      (resAfter (execJtagSamplePreload pins cells s) s).stations = s.stations ∧
      (resAfter (execJtagSamplePreload pins cells s) s).hst = s.hst ∧
      (resAfter (execJtagSamplePreload pins cells s) s).drc = s.drc ∧
      (resAfter (execJtagSamplePreload pins cells s) s).dram = s.dram ∧
      (resAfter (execJtagSamplePreload pins cells s) s).cht = s.cht ∧
      (resAfter (execJtagSamplePreload pins cells s) s).sui = s.sui ∧
      (resAfter (execJtagSamplePreload pins cells s) s).stw = s.stw ∧
      (resAfter (execJtagSamplePreload pins cells s) s).sav = s.sav ∧
      (resAfter (execJtagSamplePreload pins cells s) s).cel = s.cel ∧
      (resAfter (execJtagSamplePreload pins cells s) s).dmw = s.dmw ∧
      (resAfter (execJtagSamplePreload pins cells s) s).nrg = s.nrg ∧
      (resAfter (execJtagSamplePreload pins cells s) s).gau = s.gau ∧
      (resAfter (execJtagSamplePreload pins cells s) s).rek = s.rek ∧
      (resAfter (execJtagSamplePreload pins cells s) s).plk = s.plk ∧
      (resAfter (execJtagSamplePreload pins cells s) s).att = s.att ∧
      (resAfter (execJtagSamplePreload pins cells s) s).ecc = s.ecc ∧
      (resAfter (execJtagSamplePreload pins cells s) s).tws = s.tws ∧
      (resAfter (execJtagSamplePreload pins cells s) s).twp = s.twp ∧
      (resAfter (execJtagSamplePreload pins cells s) s).svc = s.svc ∧
      (resAfter (execJtagSamplePreload pins cells s) s).log = s.log ∧
      (resAfter (execJtagSamplePreload pins cells s) s).pwr = s.pwr ∧
      (resAfter (execJtagSamplePreload pins cells s) s).fpl = s.fpl ∧
      (resAfter (execJtagSamplePreload pins cells s) s).fuses = s.fuses ∧
      (resAfter (execJtagSamplePreload pins cells s) s).cal = s.cal ∧
      (resAfter (execJtagSamplePreload pins cells s) s).free = s.free ∧
      (resAfter (execJtagSamplePreload pins cells s) s).pending = s.pending := by
  have q1 := tapLoad_frame
  unfold execJtagSamplePreload; (repeat' split) <;> simp_all

theorem execJtagExtest_frame (pins cells : List Bool) (s : State) :
    (resAfter (execJtagExtest pins cells s) s).almanac = s.almanac ∧ (resAfter (execJtagExtest pins cells s) s).dev = s.dev ∧
      (resAfter (execJtagExtest pins cells s) s).stations = s.stations ∧
      (resAfter (execJtagExtest pins cells s) s).hst = s.hst ∧ (resAfter (execJtagExtest pins cells s) s).drc = s.drc ∧
      (resAfter (execJtagExtest pins cells s) s).dram = s.dram ∧ (resAfter (execJtagExtest pins cells s) s).cht = s.cht ∧
      (resAfter (execJtagExtest pins cells s) s).sui = s.sui ∧ (resAfter (execJtagExtest pins cells s) s).stw = s.stw ∧
      (resAfter (execJtagExtest pins cells s) s).sav = s.sav ∧ (resAfter (execJtagExtest pins cells s) s).cel = s.cel ∧
      (resAfter (execJtagExtest pins cells s) s).dmw = s.dmw ∧ (resAfter (execJtagExtest pins cells s) s).nrg = s.nrg ∧
      (resAfter (execJtagExtest pins cells s) s).gau = s.gau ∧ (resAfter (execJtagExtest pins cells s) s).rek = s.rek ∧
      (resAfter (execJtagExtest pins cells s) s).plk = s.plk ∧ (resAfter (execJtagExtest pins cells s) s).att = s.att ∧
      (resAfter (execJtagExtest pins cells s) s).ecc = s.ecc ∧ (resAfter (execJtagExtest pins cells s) s).tws = s.tws ∧
      (resAfter (execJtagExtest pins cells s) s).twp = s.twp ∧ (resAfter (execJtagExtest pins cells s) s).svc = s.svc ∧
      (resAfter (execJtagExtest pins cells s) s).log = s.log ∧ (resAfter (execJtagExtest pins cells s) s).pwr = s.pwr ∧
      (resAfter (execJtagExtest pins cells s) s).fpl = s.fpl ∧ (resAfter (execJtagExtest pins cells s) s).fuses = s.fuses ∧
      (resAfter (execJtagExtest pins cells s) s).cal = s.cal ∧ (resAfter (execJtagExtest pins cells s) s).free = s.free ∧
      (resAfter (execJtagExtest pins cells s) s).pending = s.pending := by
  have q1 := tapLoad_frame
  unfold execJtagExtest; (repeat' split) <;> simp_all

theorem execJtagClamp_frame (s : State) :
    (resAfter (execJtagClamp s) s).almanac = s.almanac ∧ (resAfter (execJtagClamp s) s).dev = s.dev ∧
      (resAfter (execJtagClamp s) s).stations = s.stations ∧ (resAfter (execJtagClamp s) s).hst = s.hst ∧
      (resAfter (execJtagClamp s) s).drc = s.drc ∧ (resAfter (execJtagClamp s) s).dram = s.dram ∧
      (resAfter (execJtagClamp s) s).cht = s.cht ∧ (resAfter (execJtagClamp s) s).sui = s.sui ∧
      (resAfter (execJtagClamp s) s).stw = s.stw ∧ (resAfter (execJtagClamp s) s).sav = s.sav ∧
      (resAfter (execJtagClamp s) s).cel = s.cel ∧ (resAfter (execJtagClamp s) s).dmw = s.dmw ∧
      (resAfter (execJtagClamp s) s).nrg = s.nrg ∧ (resAfter (execJtagClamp s) s).gau = s.gau ∧
      (resAfter (execJtagClamp s) s).rek = s.rek ∧ (resAfter (execJtagClamp s) s).plk = s.plk ∧
      (resAfter (execJtagClamp s) s).att = s.att ∧ (resAfter (execJtagClamp s) s).ecc = s.ecc ∧
      (resAfter (execJtagClamp s) s).tws = s.tws ∧ (resAfter (execJtagClamp s) s).twp = s.twp ∧
      (resAfter (execJtagClamp s) s).svc = s.svc ∧ (resAfter (execJtagClamp s) s).log = s.log ∧
      (resAfter (execJtagClamp s) s).pwr = s.pwr ∧ (resAfter (execJtagClamp s) s).fpl = s.fpl ∧
      (resAfter (execJtagClamp s) s).fuses = s.fuses ∧ (resAfter (execJtagClamp s) s).cal = s.cal ∧
      (resAfter (execJtagClamp s) s).free = s.free ∧ (resAfter (execJtagClamp s) s).pending = s.pending := by
  have q1 := tapLoad_frame
  simp [q1, execJtagClamp]

theorem execJtagHighz_frame (s : State) :
    (resAfter (execJtagHighz s) s).almanac = s.almanac ∧ (resAfter (execJtagHighz s) s).dev = s.dev ∧
      (resAfter (execJtagHighz s) s).stations = s.stations ∧ (resAfter (execJtagHighz s) s).hst = s.hst ∧
      (resAfter (execJtagHighz s) s).drc = s.drc ∧ (resAfter (execJtagHighz s) s).dram = s.dram ∧
      (resAfter (execJtagHighz s) s).cht = s.cht ∧ (resAfter (execJtagHighz s) s).sui = s.sui ∧
      (resAfter (execJtagHighz s) s).stw = s.stw ∧ (resAfter (execJtagHighz s) s).sav = s.sav ∧
      (resAfter (execJtagHighz s) s).cel = s.cel ∧ (resAfter (execJtagHighz s) s).dmw = s.dmw ∧
      (resAfter (execJtagHighz s) s).nrg = s.nrg ∧ (resAfter (execJtagHighz s) s).gau = s.gau ∧
      (resAfter (execJtagHighz s) s).rek = s.rek ∧ (resAfter (execJtagHighz s) s).plk = s.plk ∧
      (resAfter (execJtagHighz s) s).att = s.att ∧ (resAfter (execJtagHighz s) s).ecc = s.ecc ∧
      (resAfter (execJtagHighz s) s).tws = s.tws ∧ (resAfter (execJtagHighz s) s).twp = s.twp ∧
      (resAfter (execJtagHighz s) s).svc = s.svc ∧ (resAfter (execJtagHighz s) s).log = s.log ∧
      (resAfter (execJtagHighz s) s).pwr = s.pwr ∧ (resAfter (execJtagHighz s) s).fpl = s.fpl ∧
      (resAfter (execJtagHighz s) s).fuses = s.fuses ∧ (resAfter (execJtagHighz s) s).cal = s.cal ∧
      (resAfter (execJtagHighz s) s).free = s.free ∧ (resAfter (execJtagHighz s) s).pending = s.pending := by
  have q1 := tapLoad_frame
  simp [q1, execJtagHighz]

theorem movePointer_frame (n : Nat) (s : State) :
    (movePointer n s).almanac = s.almanac ∧ (movePointer n s).dev = s.dev ∧ (movePointer n s).stations = s.stations ∧
      (movePointer n s).hst = s.hst ∧ (movePointer n s).drc = s.drc ∧ (movePointer n s).dram = s.dram ∧
      (movePointer n s).cht = s.cht ∧ (movePointer n s).sui = s.sui ∧ (movePointer n s).stw = s.stw ∧
      (movePointer n s).sav = s.sav ∧ (movePointer n s).cel = s.cel ∧ (movePointer n s).dmw = s.dmw ∧
      (movePointer n s).nrg = s.nrg ∧ (movePointer n s).gau = s.gau ∧ (movePointer n s).rek = s.rek ∧
      (movePointer n s).plk = s.plk ∧ (movePointer n s).att = s.att ∧ (movePointer n s).ecc = s.ecc ∧
      (movePointer n s).twp = s.twp ∧ (movePointer n s).svc = s.svc ∧ (movePointer n s).log = s.log ∧
      (movePointer n s).pwr = s.pwr ∧ (movePointer n s).fpl = s.fpl ∧ (movePointer n s).jtag = s.jtag ∧
      (movePointer n s).fuses = s.fuses ∧ (movePointer n s).cal = s.cal ∧ (movePointer n s).out = s.out ∧
      (movePointer n s).free = s.free ∧ (movePointer n s).pending = s.pending := by
  simp [movePointer]

theorem applyByte_frame (b : Byte) (s : State) :
    (applyByte b s).almanac = s.almanac ∧ (applyByte b s).dev = s.dev ∧ (applyByte b s).stations = s.stations ∧
      (applyByte b s).hst = s.hst ∧ (applyByte b s).drc = s.drc ∧ (applyByte b s).dram = s.dram ∧ (applyByte b s).cht = s.cht ∧
      (applyByte b s).sui = s.sui ∧ (applyByte b s).stw = s.stw ∧ (applyByte b s).sav = s.sav ∧ (applyByte b s).cel = s.cel ∧
      (applyByte b s).dmw = s.dmw ∧ (applyByte b s).nrg = s.nrg ∧ (applyByte b s).gau = s.gau ∧ (applyByte b s).rek = s.rek ∧
      (applyByte b s).plk = s.plk ∧ (applyByte b s).att = s.att ∧ (applyByte b s).ecc = s.ecc ∧ (applyByte b s).twp = s.twp ∧
      (applyByte b s).svc = s.svc ∧ (applyByte b s).log = s.log ∧ (applyByte b s).pwr = s.pwr ∧ (applyByte b s).fpl = s.fpl ∧
      (applyByte b s).jtag = s.jtag ∧ (applyByte b s).fuses = s.fuses ∧ (applyByte b s).cal = s.cal ∧
      (applyByte b s).out = s.out ∧ (applyByte b s).free = s.free ∧ (applyByte b s).pending = s.pending := by
  have q1 := clearAlert_frame
  have q2 := movePointer_frame
  simp [q1, q2, applyByte]

theorem applyWrite_frame (l : List Byte) (s : State) :
    (applyWrite l s).almanac = s.almanac ∧ (applyWrite l s).dev = s.dev ∧ (applyWrite l s).stations = s.stations ∧
      (applyWrite l s).hst = s.hst ∧ (applyWrite l s).drc = s.drc ∧ (applyWrite l s).dram = s.dram ∧
      (applyWrite l s).cht = s.cht ∧ (applyWrite l s).sui = s.sui ∧ (applyWrite l s).stw = s.stw ∧
      (applyWrite l s).sav = s.sav ∧ (applyWrite l s).cel = s.cel ∧ (applyWrite l s).dmw = s.dmw ∧
      (applyWrite l s).nrg = s.nrg ∧ (applyWrite l s).gau = s.gau ∧ (applyWrite l s).rek = s.rek ∧
      (applyWrite l s).plk = s.plk ∧ (applyWrite l s).att = s.att ∧ (applyWrite l s).ecc = s.ecc ∧
      (applyWrite l s).twp = s.twp ∧ (applyWrite l s).svc = s.svc ∧ (applyWrite l s).log = s.log ∧
      (applyWrite l s).pwr = s.pwr ∧ (applyWrite l s).fpl = s.fpl ∧ (applyWrite l s).jtag = s.jtag ∧
      (applyWrite l s).fuses = s.fuses ∧ (applyWrite l s).cal = s.cal ∧ (applyWrite l s).out = s.out ∧
      (applyWrite l s).free = s.free ∧ (applyWrite l s).pending = s.pending := by
  have q1 := applyByte_frame
  unfold applyWrite; (repeat' split) <;> simp_all

theorem twsRaise_frame (c : FClass) (s : State) :
    (twsRaise c s).almanac = s.almanac ∧ (twsRaise c s).fuses = s.fuses ∧ (twsRaise c s).cal = s.cal ∧
      (twsRaise c s).pending = s.pending := by
  have q1 := raiseAddr_frame
  simp [q1, twsRaise]

theorem pecError_frame (s : State) :
    (pecError s).almanac = s.almanac ∧ (pecError s).fuses = s.fuses ∧ (pecError s).cal = s.cal ∧
      (pecError s).pending = s.pending := by
  have q1 := twsRaise_frame
  simp [q1, pecError]

theorem sbStart_frame (s : State) :
    (sbStart s).almanac = s.almanac ∧ (sbStart s).dev = s.dev ∧ (sbStart s).stations = s.stations ∧ (sbStart s).hst = s.hst ∧
      (sbStart s).drc = s.drc ∧ (sbStart s).dram = s.dram ∧ (sbStart s).cht = s.cht ∧ (sbStart s).sui = s.sui ∧
      (sbStart s).stw = s.stw ∧ (sbStart s).sav = s.sav ∧ (sbStart s).cel = s.cel ∧ (sbStart s).dmw = s.dmw ∧
      (sbStart s).nrg = s.nrg ∧ (sbStart s).gau = s.gau ∧ (sbStart s).rek = s.rek ∧ (sbStart s).plk = s.plk ∧
      (sbStart s).att = s.att ∧ (sbStart s).ecc = s.ecc ∧ (sbStart s).twp = s.twp ∧ (sbStart s).svc = s.svc ∧
      (sbStart s).log = s.log ∧ (sbStart s).pwr = s.pwr ∧ (sbStart s).fpl = s.fpl ∧ (sbStart s).jtag = s.jtag ∧
      (sbStart s).fuses = s.fuses ∧ (sbStart s).cal = s.cal ∧ (sbStart s).out = s.out ∧ (sbStart s).free = s.free ∧
      (sbStart s).pending = s.pending := by
  simp [sbStart]

theorem wakeNak_frame (s : State) :
    (wakeNak s).almanac = s.almanac ∧ (wakeNak s).dev = s.dev ∧ (wakeNak s).stations = s.stations ∧ (wakeNak s).hst = s.hst ∧
      (wakeNak s).drc = s.drc ∧ (wakeNak s).dram = s.dram ∧ (wakeNak s).cht = s.cht ∧ (wakeNak s).sui = s.sui ∧
      (wakeNak s).stw = s.stw ∧ (wakeNak s).sav = s.sav ∧ (wakeNak s).cel = s.cel ∧ (wakeNak s).dmw = s.dmw ∧
      (wakeNak s).nrg = s.nrg ∧ (wakeNak s).gau = s.gau ∧ (wakeNak s).rek = s.rek ∧ (wakeNak s).plk = s.plk ∧
      (wakeNak s).att = s.att ∧ (wakeNak s).ecc = s.ecc ∧ (wakeNak s).twp = s.twp ∧ (wakeNak s).svc = s.svc ∧
      (wakeNak s).log = s.log ∧ (wakeNak s).pwr = s.pwr ∧ (wakeNak s).fpl = s.fpl ∧ (wakeNak s).jtag = s.jtag ∧
      (wakeNak s).fuses = s.fuses ∧ (wakeNak s).cal = s.cal ∧ (wakeNak s).free = s.free ∧ (wakeNak s).pending = s.pending := by
  simp [wakeNak]

theorem sbWake_frame (s : State) :
    (sbWake s).almanac = s.almanac ∧ (sbWake s).dev = s.dev ∧ (sbWake s).stations = s.stations ∧ (sbWake s).hst = s.hst ∧
      (sbWake s).drc = s.drc ∧ (sbWake s).dram = s.dram ∧ (sbWake s).cht = s.cht ∧ (sbWake s).sui = s.sui ∧
      (sbWake s).stw = s.stw ∧ (sbWake s).sav = s.sav ∧ (sbWake s).cel = s.cel ∧ (sbWake s).dmw = s.dmw ∧
      (sbWake s).nrg = s.nrg ∧ (sbWake s).gau = s.gau ∧ (sbWake s).rek = s.rek ∧ (sbWake s).plk = s.plk ∧
      (sbWake s).att = s.att ∧ (sbWake s).ecc = s.ecc ∧ (sbWake s).twp = s.twp ∧ (sbWake s).svc = s.svc ∧
      (sbWake s).log = s.log ∧ (sbWake s).pwr = s.pwr ∧ (sbWake s).fpl = s.fpl ∧ (sbWake s).jtag = s.jtag ∧
      (sbWake s).fuses = s.fuses ∧ (sbWake s).cal = s.cal ∧ (sbWake s).free = s.free ∧ (sbWake s).pending = s.pending := by
  have q1 := wakeNak_frame
  simp [q1, sbWake]

@[simp] theorem onStart_frame_almanac (f : State → State)
    (s : State) (hf : ∀ s, (f s).almanac = s.almanac) : (onStart f s).almanac = s.almanac := by
  have q1 := sbStart_frame
  have q2 := sbWake_frame
  have q3 := wakeNak_frame
  simp [q1, q2, q3, onStart, hf]

@[simp] theorem onStart_frame_dev (f : State → State) (s : State) (hf : ∀ s, (f s).dev = s.dev) : (onStart f s).dev = s.dev := by
  have q1 := sbStart_frame
  have q2 := sbWake_frame
  have q3 := wakeNak_frame
  simp [q1, q2, q3, onStart, hf]

@[simp] theorem onStart_frame_stations (f : State → State)
    (s : State) (hf : ∀ s, (f s).stations = s.stations) : (onStart f s).stations = s.stations := by
  have q1 := sbStart_frame
  have q2 := sbWake_frame
  have q3 := wakeNak_frame
  simp [q1, q2, q3, onStart, hf]

@[simp] theorem onStart_frame_hst (f : State → State) (s : State) (hf : ∀ s, (f s).hst = s.hst) : (onStart f s).hst = s.hst := by
  have q1 := sbStart_frame
  have q2 := sbWake_frame
  have q3 := wakeNak_frame
  simp [q1, q2, q3, onStart, hf]

@[simp] theorem onStart_frame_drc (f : State → State) (s : State) (hf : ∀ s, (f s).drc = s.drc) : (onStart f s).drc = s.drc := by
  have q1 := sbStart_frame
  have q2 := sbWake_frame
  have q3 := wakeNak_frame
  simp [q1, q2, q3, onStart, hf]

@[simp] theorem onStart_frame_dram (f : State → State)
    (s : State) (hf : ∀ s, (f s).dram = s.dram) : (onStart f s).dram = s.dram := by
  have q1 := sbStart_frame
  have q2 := sbWake_frame
  have q3 := wakeNak_frame
  simp [q1, q2, q3, onStart, hf]

@[simp] theorem onStart_frame_cht (f : State → State) (s : State) (hf : ∀ s, (f s).cht = s.cht) : (onStart f s).cht = s.cht := by
  have q1 := sbStart_frame
  have q2 := sbWake_frame
  have q3 := wakeNak_frame
  simp [q1, q2, q3, onStart, hf]

@[simp] theorem onStart_frame_sui (f : State → State) (s : State) (hf : ∀ s, (f s).sui = s.sui) : (onStart f s).sui = s.sui := by
  have q1 := sbStart_frame
  have q2 := sbWake_frame
  have q3 := wakeNak_frame
  simp [q1, q2, q3, onStart, hf]

@[simp] theorem onStart_frame_stw (f : State → State) (s : State) (hf : ∀ s, (f s).stw = s.stw) : (onStart f s).stw = s.stw := by
  have q1 := sbStart_frame
  have q2 := sbWake_frame
  have q3 := wakeNak_frame
  simp [q1, q2, q3, onStart, hf]

@[simp] theorem onStart_frame_sav (f : State → State) (s : State) (hf : ∀ s, (f s).sav = s.sav) : (onStart f s).sav = s.sav := by
  have q1 := sbStart_frame
  have q2 := sbWake_frame
  have q3 := wakeNak_frame
  simp [q1, q2, q3, onStart, hf]

@[simp] theorem onStart_frame_cel (f : State → State) (s : State) (hf : ∀ s, (f s).cel = s.cel) : (onStart f s).cel = s.cel := by
  have q1 := sbStart_frame
  have q2 := sbWake_frame
  have q3 := wakeNak_frame
  simp [q1, q2, q3, onStart, hf]

@[simp] theorem onStart_frame_dmw (f : State → State) (s : State) (hf : ∀ s, (f s).dmw = s.dmw) : (onStart f s).dmw = s.dmw := by
  have q1 := sbStart_frame
  have q2 := sbWake_frame
  have q3 := wakeNak_frame
  simp [q1, q2, q3, onStart, hf]

@[simp] theorem onStart_frame_nrg (f : State → State) (s : State) (hf : ∀ s, (f s).nrg = s.nrg) : (onStart f s).nrg = s.nrg := by
  have q1 := sbStart_frame
  have q2 := sbWake_frame
  have q3 := wakeNak_frame
  simp [q1, q2, q3, onStart, hf]

@[simp] theorem onStart_frame_gau (f : State → State) (s : State) (hf : ∀ s, (f s).gau = s.gau) : (onStart f s).gau = s.gau := by
  have q1 := sbStart_frame
  have q2 := sbWake_frame
  have q3 := wakeNak_frame
  simp [q1, q2, q3, onStart, hf]

@[simp] theorem onStart_frame_rek (f : State → State) (s : State) (hf : ∀ s, (f s).rek = s.rek) : (onStart f s).rek = s.rek := by
  have q1 := sbStart_frame
  have q2 := sbWake_frame
  have q3 := wakeNak_frame
  simp [q1, q2, q3, onStart, hf]

@[simp] theorem onStart_frame_plk (f : State → State) (s : State) (hf : ∀ s, (f s).plk = s.plk) : (onStart f s).plk = s.plk := by
  have q1 := sbStart_frame
  have q2 := sbWake_frame
  have q3 := wakeNak_frame
  simp [q1, q2, q3, onStart, hf]

@[simp] theorem onStart_frame_att (f : State → State) (s : State) (hf : ∀ s, (f s).att = s.att) : (onStart f s).att = s.att := by
  have q1 := sbStart_frame
  have q2 := sbWake_frame
  have q3 := wakeNak_frame
  simp [q1, q2, q3, onStart, hf]

@[simp] theorem onStart_frame_ecc (f : State → State) (s : State) (hf : ∀ s, (f s).ecc = s.ecc) : (onStart f s).ecc = s.ecc := by
  have q1 := sbStart_frame
  have q2 := sbWake_frame
  have q3 := wakeNak_frame
  simp [q1, q2, q3, onStart, hf]

@[simp] theorem onStart_frame_twp (f : State → State) (s : State) (hf : ∀ s, (f s).twp = s.twp) : (onStart f s).twp = s.twp := by
  have q1 := sbStart_frame
  have q2 := sbWake_frame
  have q3 := wakeNak_frame
  simp [q1, q2, q3, onStart, hf]

@[simp] theorem onStart_frame_svc (f : State → State) (s : State) (hf : ∀ s, (f s).svc = s.svc) : (onStart f s).svc = s.svc := by
  have q1 := sbStart_frame
  have q2 := sbWake_frame
  have q3 := wakeNak_frame
  simp [q1, q2, q3, onStart, hf]

@[simp] theorem onStart_frame_log (f : State → State) (s : State) (hf : ∀ s, (f s).log = s.log) : (onStart f s).log = s.log := by
  have q1 := sbStart_frame
  have q2 := sbWake_frame
  have q3 := wakeNak_frame
  simp [q1, q2, q3, onStart, hf]

@[simp] theorem onStart_frame_pwr (f : State → State) (s : State) (hf : ∀ s, (f s).pwr = s.pwr) : (onStart f s).pwr = s.pwr := by
  have q1 := sbStart_frame
  have q2 := sbWake_frame
  have q3 := wakeNak_frame
  simp [q1, q2, q3, onStart, hf]

@[simp] theorem onStart_frame_fpl (f : State → State) (s : State) (hf : ∀ s, (f s).fpl = s.fpl) : (onStart f s).fpl = s.fpl := by
  have q1 := sbStart_frame
  have q2 := sbWake_frame
  have q3 := wakeNak_frame
  simp [q1, q2, q3, onStart, hf]

@[simp] theorem onStart_frame_jtag (f : State → State)
    (s : State) (hf : ∀ s, (f s).jtag = s.jtag) : (onStart f s).jtag = s.jtag := by
  have q1 := sbStart_frame
  have q2 := sbWake_frame
  have q3 := wakeNak_frame
  simp [q1, q2, q3, onStart, hf]

@[simp] theorem onStart_frame_fuses (f : State → State)
    (s : State) (hf : ∀ s, (f s).fuses = s.fuses) : (onStart f s).fuses = s.fuses := by
  have q1 := sbStart_frame
  have q2 := sbWake_frame
  have q3 := wakeNak_frame
  simp [q1, q2, q3, onStart, hf]

@[simp] theorem onStart_frame_cal (f : State → State) (s : State) (hf : ∀ s, (f s).cal = s.cal) : (onStart f s).cal = s.cal := by
  have q1 := sbStart_frame
  have q2 := sbWake_frame
  have q3 := wakeNak_frame
  simp [q1, q2, q3, onStart, hf]

@[simp] theorem onStart_frame_free (f : State → State)
    (s : State) (hf : ∀ s, (f s).free = s.free) : (onStart f s).free = s.free := by
  have q1 := sbStart_frame
  have q2 := sbWake_frame
  have q3 := wakeNak_frame
  simp [q1, q2, q3, onStart, hf]

@[simp] theorem onStart_frame_pending (f : State → State)
    (s : State) (hf : ∀ s, (f s).pending = s.pending) : (onStart f s).pending = s.pending := by
  have q1 := sbStart_frame
  have q2 := sbWake_frame
  have q3 := wakeNak_frame
  simp [q1, q2, q3, onStart, hf]

theorem countXfer_frame (s : State) :
    (countXfer s).almanac = s.almanac ∧ (countXfer s).dev = s.dev ∧ (countXfer s).stations = s.stations ∧
      (countXfer s).hst = s.hst ∧ (countXfer s).drc = s.drc ∧ (countXfer s).dram = s.dram ∧ (countXfer s).cht = s.cht ∧
      (countXfer s).sui = s.sui ∧ (countXfer s).stw = s.stw ∧ (countXfer s).sav = s.sav ∧ (countXfer s).cel = s.cel ∧
      (countXfer s).dmw = s.dmw ∧ (countXfer s).nrg = s.nrg ∧ (countXfer s).gau = s.gau ∧ (countXfer s).rek = s.rek ∧
      (countXfer s).plk = s.plk ∧ (countXfer s).att = s.att ∧ (countXfer s).ecc = s.ecc ∧ (countXfer s).twp = s.twp ∧
      (countXfer s).svc = s.svc ∧ (countXfer s).log = s.log ∧ (countXfer s).pwr = s.pwr ∧ (countXfer s).fpl = s.fpl ∧
      (countXfer s).jtag = s.jtag ∧ (countXfer s).fuses = s.fuses ∧ (countXfer s).cal = s.cal ∧ (countXfer s).out = s.out ∧
      (countXfer s).free = s.free ∧ (countXfer s).pending = s.pending := by
  simp [countXfer]

theorem sbRead_frame (before : List Byte) (n : Nat) (s : State) :
    (sbRead before n s).almanac = s.almanac ∧ (sbRead before n s).dev = s.dev ∧ (sbRead before n s).stations = s.stations ∧
      (sbRead before n s).hst = s.hst ∧ (sbRead before n s).drc = s.drc ∧ (sbRead before n s).dram = s.dram ∧
      (sbRead before n s).cht = s.cht ∧ (sbRead before n s).sui = s.sui ∧ (sbRead before n s).stw = s.stw ∧
      (sbRead before n s).sav = s.sav ∧ (sbRead before n s).cel = s.cel ∧ (sbRead before n s).dmw = s.dmw ∧
      (sbRead before n s).nrg = s.nrg ∧ (sbRead before n s).gau = s.gau ∧ (sbRead before n s).rek = s.rek ∧
      (sbRead before n s).plk = s.plk ∧ (sbRead before n s).att = s.att ∧ (sbRead before n s).ecc = s.ecc ∧
      (sbRead before n s).twp = s.twp ∧ (sbRead before n s).svc = s.svc ∧ (sbRead before n s).log = s.log ∧
      (sbRead before n s).pwr = s.pwr ∧ (sbRead before n s).fpl = s.fpl ∧ (sbRead before n s).jtag = s.jtag ∧
      (sbRead before n s).fuses = s.fuses ∧ (sbRead before n s).cal = s.cal ∧ (sbRead before n s).free = s.free ∧
      (sbRead before n s).pending = s.pending := by
  have q1 := movePointer_frame
  simp [q1, sbRead]

theorem sbStop_frame (addr : Byte) (l : List Byte) (s : State) :
    (sbStop addr l s).almanac = s.almanac ∧ (sbStop addr l s).fuses = s.fuses ∧ (sbStop addr l s).cal = s.cal ∧
      (sbStop addr l s).pending = s.pending := by
  have q1 := applyWrite_frame
  have q2 := pecError_frame
  simp [q1, q2, sbStop]

theorem sbRestart_frame (l : List Byte) (s : State) :
    (sbRestart l s).almanac = s.almanac ∧ (sbRestart l s).fuses = s.fuses ∧ (sbRestart l s).cal = s.cal ∧
      (sbRestart l s).pending = s.pending := by
  have q1 := applyWrite_frame
  have q2 := pecError_frame
  simp [q1, q2, sbRestart]

theorem pbGivesUp_frame (s : State) :
    (pbGivesUp s).almanac = s.almanac ∧ (pbGivesUp s).fuses = s.fuses ∧ (pbGivesUp s).cal = s.cal ∧
      (pbGivesUp s).pending = s.pending := by
  have q1 := endAuth_frame
  simp [q1, pbGivesUp]

theorem pbXferFail_frame (cmd : Nat) (s : State) :
    (pbXferFail cmd s).almanac = s.almanac ∧ (pbXferFail cmd s).fuses = s.fuses ∧ (pbXferFail cmd s).cal = s.cal ∧
      (pbXferFail cmd s).pending = s.pending := by
  have q1 := pbGivesUp_frame
  have q2 := raiseAddr_frame
  simp [q1, q2, pbXferFail]

theorem pbFail_frame (cmd : Nat) (s : State) :
    (pbFail cmd s).almanac = s.almanac ∧ (pbFail cmd s).fuses = s.fuses ∧ (pbFail cmd s).cal = s.cal ∧
      (pbFail cmd s).pending = s.pending := by
  have q1 := pbXferFail_frame
  unfold pbFail; (repeat' split) <;> simp_all

theorem pbAttempt_frame (cmd : Nat) (s : State) :
    (pbAttempt cmd s).2.dev = s.dev ∧ (pbAttempt cmd s).2.stations = s.stations ∧ (pbAttempt cmd s).2.hst = s.hst ∧
      (pbAttempt cmd s).2.drc = s.drc ∧ (pbAttempt cmd s).2.dram = s.dram ∧ (pbAttempt cmd s).2.cht = s.cht ∧
      (pbAttempt cmd s).2.sui = s.sui ∧ (pbAttempt cmd s).2.stw = s.stw ∧ (pbAttempt cmd s).2.sav = s.sav ∧
      (pbAttempt cmd s).2.cel = s.cel ∧ (pbAttempt cmd s).2.dmw = s.dmw ∧ (pbAttempt cmd s).2.nrg = s.nrg ∧
      (pbAttempt cmd s).2.gau = s.gau ∧ (pbAttempt cmd s).2.rek = s.rek ∧ (pbAttempt cmd s).2.plk = s.plk ∧
      (pbAttempt cmd s).2.att = s.att ∧ (pbAttempt cmd s).2.ecc = s.ecc ∧ (pbAttempt cmd s).2.tws = s.tws ∧
      (pbAttempt cmd s).2.pwr = s.pwr ∧ (pbAttempt cmd s).2.fpl = s.fpl ∧ (pbAttempt cmd s).2.jtag = s.jtag ∧
      (pbAttempt cmd s).2.fuses = s.fuses ∧ (pbAttempt cmd s).2.cal = s.cal ∧ (pbAttempt cmd s).2.free = s.free ∧
      (pbAttempt cmd s).2.pending = s.pending ∧ (pbAttempt cmd s).2.log.aonPowered = s.log.aonPowered := by
  have q1 := advanceTo_frame
  unfold pbAttempt; (repeat' split) <;> simp_all

theorem pbEnd_frame (cmd : Nat) (ok : Bool) (s : State) :
    (pbEnd cmd ok s).almanac = s.almanac ∧ (pbEnd cmd ok s).fuses = s.fuses ∧ (pbEnd cmd ok s).cal = s.cal ∧
      (pbEnd cmd ok s).pending = s.pending := by
  have q1 := pbFail_frame
  simp [q1, pbEnd]

theorem pbBroken_frame (cmd : Nat) (mark : Twp → Twp) (c : FClass) (s : State) :
    (pbBroken cmd mark c s).fuses = s.fuses ∧ (pbBroken cmd mark c s).cal = s.cal ∧
      (pbBroken cmd mark c s).pending = s.pending := by
  have q1 := pbAttempt_frame
  have q2 := pbFail_frame
  have q3 := raiseAddr_frame
  simp [q1, q2, q3, pbBroken]

theorem busClear_frame (sdaHigh : Bool) (s : State) :
    (busClear sdaHigh s).almanac = s.almanac ∧ (busClear sdaHigh s).fuses = s.fuses ∧ (busClear sdaHigh s).cal = s.cal ∧
      (busClear sdaHigh s).pending = s.pending := by
  have q1 := pbGivesUp_frame
  have q2 := raiseAddr_frame
  simp [q1, q2, busClear]

theorem execSbSleep_frame (s : State) :
    (resAfter (execSbSleep s) s).dev = s.dev ∧ (resAfter (execSbSleep s) s).stations = s.stations ∧
      (resAfter (execSbSleep s) s).hst = s.hst ∧ (resAfter (execSbSleep s) s).drc = s.drc ∧
      (resAfter (execSbSleep s) s).dram = s.dram ∧ (resAfter (execSbSleep s) s).cht = s.cht ∧
      (resAfter (execSbSleep s) s).sui = s.sui ∧ (resAfter (execSbSleep s) s).stw = s.stw ∧
      (resAfter (execSbSleep s) s).sav = s.sav ∧ (resAfter (execSbSleep s) s).cel = s.cel ∧
      (resAfter (execSbSleep s) s).dmw = s.dmw ∧ (resAfter (execSbSleep s) s).nrg = s.nrg ∧
      (resAfter (execSbSleep s) s).gau = s.gau ∧ (resAfter (execSbSleep s) s).rek = s.rek ∧
      (resAfter (execSbSleep s) s).plk = s.plk ∧ (resAfter (execSbSleep s) s).att = s.att ∧
      (resAfter (execSbSleep s) s).ecc = s.ecc ∧ (resAfter (execSbSleep s) s).twp = s.twp ∧
      (resAfter (execSbSleep s) s).pwr = s.pwr ∧ (resAfter (execSbSleep s) s).fpl = s.fpl ∧
      (resAfter (execSbSleep s) s).jtag = s.jtag ∧ (resAfter (execSbSleep s) s).fuses = s.fuses ∧
      (resAfter (execSbSleep s) s).cal = s.cal ∧ (resAfter (execSbSleep s) s).out = s.out ∧
      (resAfter (execSbSleep s) s).free = s.free ∧ (resAfter (execSbSleep s) s).pending = s.pending ∧
      (resAfter (execSbSleep s) s).log.aonPowered = s.log.aonPowered := by
  have q1 := advanceTo_frame
  unfold execSbSleep; (repeat' split) <;> simp_all

theorem execSbWake_frame (s : State) :
    (resAfter (execSbWake s) s).almanac = s.almanac ∧ (resAfter (execSbWake s) s).dev = s.dev ∧
      (resAfter (execSbWake s) s).stations = s.stations ∧ (resAfter (execSbWake s) s).hst = s.hst ∧
      (resAfter (execSbWake s) s).drc = s.drc ∧ (resAfter (execSbWake s) s).dram = s.dram ∧
      (resAfter (execSbWake s) s).cht = s.cht ∧ (resAfter (execSbWake s) s).sui = s.sui ∧
      (resAfter (execSbWake s) s).stw = s.stw ∧ (resAfter (execSbWake s) s).sav = s.sav ∧
      (resAfter (execSbWake s) s).cel = s.cel ∧ (resAfter (execSbWake s) s).dmw = s.dmw ∧
      (resAfter (execSbWake s) s).nrg = s.nrg ∧ (resAfter (execSbWake s) s).gau = s.gau ∧
      (resAfter (execSbWake s) s).rek = s.rek ∧ (resAfter (execSbWake s) s).plk = s.plk ∧
      (resAfter (execSbWake s) s).att = s.att ∧ (resAfter (execSbWake s) s).ecc = s.ecc ∧
      (resAfter (execSbWake s) s).twp = s.twp ∧ (resAfter (execSbWake s) s).svc = s.svc ∧
      (resAfter (execSbWake s) s).log = s.log ∧ (resAfter (execSbWake s) s).pwr = s.pwr ∧
      (resAfter (execSbWake s) s).fpl = s.fpl ∧ (resAfter (execSbWake s) s).jtag = s.jtag ∧
      (resAfter (execSbWake s) s).fuses = s.fuses ∧ (resAfter (execSbWake s) s).cal = s.cal ∧
      (resAfter (execSbWake s) s).free = s.free ∧ (resAfter (execSbWake s) s).pending = s.pending := by
  have q1 := sbWake_frame
  simp [q1, execSbWake]

theorem execSbRead_frame (addr n : Nat) (s : State) :
    (resAfter (execSbRead addr n s) s).almanac = s.almanac ∧ (resAfter (execSbRead addr n s) s).dev = s.dev ∧
      (resAfter (execSbRead addr n s) s).stations = s.stations ∧ (resAfter (execSbRead addr n s) s).hst = s.hst ∧
      (resAfter (execSbRead addr n s) s).drc = s.drc ∧ (resAfter (execSbRead addr n s) s).dram = s.dram ∧
      (resAfter (execSbRead addr n s) s).cht = s.cht ∧ (resAfter (execSbRead addr n s) s).sui = s.sui ∧
      (resAfter (execSbRead addr n s) s).stw = s.stw ∧ (resAfter (execSbRead addr n s) s).sav = s.sav ∧
      (resAfter (execSbRead addr n s) s).cel = s.cel ∧ (resAfter (execSbRead addr n s) s).dmw = s.dmw ∧
      (resAfter (execSbRead addr n s) s).nrg = s.nrg ∧ (resAfter (execSbRead addr n s) s).gau = s.gau ∧
      (resAfter (execSbRead addr n s) s).rek = s.rek ∧ (resAfter (execSbRead addr n s) s).plk = s.plk ∧
      (resAfter (execSbRead addr n s) s).att = s.att ∧ (resAfter (execSbRead addr n s) s).ecc = s.ecc ∧
      (resAfter (execSbRead addr n s) s).twp = s.twp ∧ (resAfter (execSbRead addr n s) s).svc = s.svc ∧
      (resAfter (execSbRead addr n s) s).log = s.log ∧ (resAfter (execSbRead addr n s) s).pwr = s.pwr ∧
      (resAfter (execSbRead addr n s) s).fpl = s.fpl ∧ (resAfter (execSbRead addr n s) s).jtag = s.jtag ∧
      (resAfter (execSbRead addr n s) s).fuses = s.fuses ∧ (resAfter (execSbRead addr n s) s).cal = s.cal ∧
      (resAfter (execSbRead addr n s) s).free = s.free ∧ (resAfter (execSbRead addr n s) s).pending = s.pending := by
  have q1 := countXfer_frame
  have q2 := sbRead_frame
  simp [q1, q2, execSbRead]

theorem execSbWrite_frame (addr : Nat) (data : List Byte) (reread : Option Nat) (s : State) :
    (resAfter (execSbWrite addr data reread s) s).almanac = s.almanac ∧
      (resAfter (execSbWrite addr data reread s) s).fuses = s.fuses ∧
      (resAfter (execSbWrite addr data reread s) s).cal = s.cal ∧
      (resAfter (execSbWrite addr data reread s) s).pending = s.pending := by
  have q1 := countXfer_frame
  have q2 := sbRead_frame
  have q3 := sbRestart_frame
  have q4 := sbStop_frame
  unfold execSbWrite; (repeat' split) <;> simp_all

theorem execSbAlertResponse_frame (other : Option Nat) (more : Bool) (s : State) :
    (resAfter (execSbAlertResponse other more s) s).almanac = s.almanac ∧
      (resAfter (execSbAlertResponse other more s) s).dev = s.dev ∧
      (resAfter (execSbAlertResponse other more s) s).stations = s.stations ∧
      (resAfter (execSbAlertResponse other more s) s).hst = s.hst ∧
      (resAfter (execSbAlertResponse other more s) s).drc = s.drc ∧
      (resAfter (execSbAlertResponse other more s) s).dram = s.dram ∧
      (resAfter (execSbAlertResponse other more s) s).cht = s.cht ∧
      (resAfter (execSbAlertResponse other more s) s).sui = s.sui ∧
      (resAfter (execSbAlertResponse other more s) s).stw = s.stw ∧
      (resAfter (execSbAlertResponse other more s) s).sav = s.sav ∧
      (resAfter (execSbAlertResponse other more s) s).cel = s.cel ∧
      (resAfter (execSbAlertResponse other more s) s).dmw = s.dmw ∧
      (resAfter (execSbAlertResponse other more s) s).nrg = s.nrg ∧
      (resAfter (execSbAlertResponse other more s) s).gau = s.gau ∧
      (resAfter (execSbAlertResponse other more s) s).rek = s.rek ∧
      (resAfter (execSbAlertResponse other more s) s).plk = s.plk ∧
      (resAfter (execSbAlertResponse other more s) s).att = s.att ∧
      (resAfter (execSbAlertResponse other more s) s).ecc = s.ecc ∧
      (resAfter (execSbAlertResponse other more s) s).twp = s.twp ∧
      (resAfter (execSbAlertResponse other more s) s).svc = s.svc ∧
      (resAfter (execSbAlertResponse other more s) s).log = s.log ∧
      (resAfter (execSbAlertResponse other more s) s).pwr = s.pwr ∧
      (resAfter (execSbAlertResponse other more s) s).fpl = s.fpl ∧
      (resAfter (execSbAlertResponse other more s) s).jtag = s.jtag ∧
      (resAfter (execSbAlertResponse other more s) s).fuses = s.fuses ∧
      (resAfter (execSbAlertResponse other more s) s).cal = s.cal ∧
      (resAfter (execSbAlertResponse other more s) s).free = s.free ∧
      (resAfter (execSbAlertResponse other more s) s).pending = s.pending := by
  have q1 := countXfer_frame
  unfold execSbAlertResponse; (repeat' split) <;> simp_all

theorem execSbClkLowTimeout_frame (acked : Bool) (s : State) :
    (resAfter (execSbClkLowTimeout acked s) s).fuses = s.fuses ∧ (resAfter (execSbClkLowTimeout acked s) s).cal = s.cal ∧
      (resAfter (execSbClkLowTimeout acked s) s).pending = s.pending := by
  have q1 := advanceTo_frame
  have q2 := countXfer_frame
  have q3 := twsRaise_frame
  simp [q1, q2, q3, execSbClkLowTimeout]

theorem execSbDataLowTimeout_frame (s : State) :
    (resAfter (execSbDataLowTimeout s) s).fuses = s.fuses ∧ (resAfter (execSbDataLowTimeout s) s).cal = s.cal ∧
      (resAfter (execSbDataLowTimeout s) s).pending = s.pending := by
  have q1 := advanceTo_frame
  have q2 := twsRaise_frame
  unfold execSbDataLowTimeout; (repeat' split) <;> simp_all

theorem execSbProtocolError_frame (released : Bool) (s : State) :
    (resAfter (execSbProtocolError released s) s).almanac = s.almanac ∧
      (resAfter (execSbProtocolError released s) s).fuses = s.fuses ∧
      (resAfter (execSbProtocolError released s) s).cal = s.cal ∧
      (resAfter (execSbProtocolError released s) s).pending = s.pending := by
  have q1 := countXfer_frame
  have q2 := twsRaise_frame
  simp [q1, q2, execSbProtocolError]

theorem execTwsAlertWrite_frame (value : Word) (s : State) :
    (resAfter (execTwsAlertWrite value s) s).almanac = s.almanac ∧ (resAfter (execTwsAlertWrite value s) s).dev = s.dev ∧
      (resAfter (execTwsAlertWrite value s) s).stations = s.stations ∧ (resAfter (execTwsAlertWrite value s) s).hst = s.hst ∧
      (resAfter (execTwsAlertWrite value s) s).drc = s.drc ∧ (resAfter (execTwsAlertWrite value s) s).dram = s.dram ∧
      (resAfter (execTwsAlertWrite value s) s).cht = s.cht ∧ (resAfter (execTwsAlertWrite value s) s).sui = s.sui ∧
      (resAfter (execTwsAlertWrite value s) s).stw = s.stw ∧ (resAfter (execTwsAlertWrite value s) s).sav = s.sav ∧
      (resAfter (execTwsAlertWrite value s) s).cel = s.cel ∧ (resAfter (execTwsAlertWrite value s) s).dmw = s.dmw ∧
      (resAfter (execTwsAlertWrite value s) s).nrg = s.nrg ∧ (resAfter (execTwsAlertWrite value s) s).gau = s.gau ∧
      (resAfter (execTwsAlertWrite value s) s).rek = s.rek ∧ (resAfter (execTwsAlertWrite value s) s).plk = s.plk ∧
      (resAfter (execTwsAlertWrite value s) s).att = s.att ∧ (resAfter (execTwsAlertWrite value s) s).ecc = s.ecc ∧
      (resAfter (execTwsAlertWrite value s) s).twp = s.twp ∧ (resAfter (execTwsAlertWrite value s) s).svc = s.svc ∧
      (resAfter (execTwsAlertWrite value s) s).log = s.log ∧ (resAfter (execTwsAlertWrite value s) s).pwr = s.pwr ∧
      (resAfter (execTwsAlertWrite value s) s).fpl = s.fpl ∧ (resAfter (execTwsAlertWrite value s) s).jtag = s.jtag ∧
      (resAfter (execTwsAlertWrite value s) s).fuses = s.fuses ∧ (resAfter (execTwsAlertWrite value s) s).cal = s.cal ∧
      (resAfter (execTwsAlertWrite value s) s).out = s.out ∧ (resAfter (execTwsAlertWrite value s) s).free = s.free ∧
      (resAfter (execTwsAlertWrite value s) s).pending = s.pending := by
  have q1 := writeAlert_frame
  unfold execTwsAlertWrite; (repeat' split) <;> simp_all

theorem execPbTransaction_frame (cmd : Nat) (ok : Bool) (s : State) :
    (resAfter (execPbTransaction cmd ok s) s).fuses = s.fuses ∧ (resAfter (execPbTransaction cmd ok s) s).cal = s.cal ∧
      (resAfter (execPbTransaction cmd ok s) s).pending = s.pending := by
  have q1 := pbAttempt_frame
  have q2 := pbEnd_frame
  unfold execPbTransaction; (repeat' split) <;> simp [q1, q2]

theorem execPbRetry_frame (ok : Bool) (s : State) :
    (resAfter (execPbRetry ok s) s).fuses = s.fuses ∧ (resAfter (execPbRetry ok s) s).cal = s.cal ∧
      (resAfter (execPbRetry ok s) s).pending = s.pending := by
  have q1 := pbAttempt_frame
  have q2 := pbEnd_frame
  unfold execPbRetry; (repeat' split) <;> simp [q1, q2]

theorem execPbClkLowTimeout_frame (cmd : Nat) (sdaLow : Bool) (s : State) :
    (resAfter (execPbClkLowTimeout cmd sdaLow s) s).fuses = s.fuses ∧
      (resAfter (execPbClkLowTimeout cmd sdaLow s) s).cal = s.cal ∧
      (resAfter (execPbClkLowTimeout cmd sdaLow s) s).pending = s.pending := by
  have q1 := advanceTo_frame
  have q2 := pbBroken_frame
  simp [q1, q2, execPbClkLowTimeout]

theorem execPbArbitrationLoss_frame (cmd : Nat) (cond : Bool) (s : State) :
    (resAfter (execPbArbitrationLoss cmd cond s) s).fuses = s.fuses ∧
      (resAfter (execPbArbitrationLoss cmd cond s) s).cal = s.cal ∧
      (resAfter (execPbArbitrationLoss cmd cond s) s).pending = s.pending := by
  have q1 := pbBroken_frame
  simp [q1, execPbArbitrationLoss]

theorem execPbProtocolError_frame (cmd : Nat) (s : State) :
    (resAfter (execPbProtocolError cmd s) s).fuses = s.fuses ∧ (resAfter (execPbProtocolError cmd s) s).cal = s.cal ∧
      (resAfter (execPbProtocolError cmd s) s).pending = s.pending := by
  have q1 := pbBroken_frame
  simp [q1, execPbProtocolError]

theorem execPbBusClear_frame (sdaHigh : Bool) (s : State) :
    (resAfter (execPbBusClear sdaHigh s) s).almanac = s.almanac ∧ (resAfter (execPbBusClear sdaHigh s) s).fuses = s.fuses ∧
      (resAfter (execPbBusClear sdaHigh s) s).cal = s.cal ∧ (resAfter (execPbBusClear sdaHigh s) s).pending = s.pending := by
  have q1 := busClear_frame
  simp [q1, execPbBusClear]

end Sys2Proof.Machine
end

