-- ==== Sys2Proof/Laws/FramesFold.lean ====
section
/-! SUPPORT. What operations with a function argument or a loop leave alone: the Meta pages, the hatch, the mailbox. -/

set_option maxRecDepth 20000

namespace Sys2Proof.Machine

theorem takePages_keeps {β : Type} (g : State → β) (q n : Nat) (s : State) (h : ∀ p x (s : State), g (putMeta p x s) = g s)
    (hd : ∀ d (s : State), g (dieWorks d s) = g s) : g (takePages q n s) = g s := by
  unfold takePages
  apply foldl_keeps
  intro s p
  split
  · rw [hd, h]
  · rfl

theorem svcFrameOpt_keeps {β : Type} (g : State → β) (h1 : ∀ (s : State) v, g { s with svc := v } = g s)
    (h2 : ∀ o (s : State), g (emit o s) = g s) (type seq : Nat) (f : State → Option SvcAns × State) (s : State)
    (hf : ∀ s, (∀ a ∈ (f s).1, g a.2.2.2 = g s) ∧ g (f s).2 = g s) : g (svcFrameOpt type seq f s) = g s := by
  unfold svcFrameOpt
  split
  · rfl
  · have hk := hf { s with svc := { s.svc with pres := true } }
    rw [h1] at hk
    simp only [sendResponse, answer]
    split
    · rw [h2, h1]
    · split
      · rw [h2, h1]
      · split
        · split
          · rw [h2, h1]; simp only [svcStat]; rw [h1]
          · rw [h1]
        · split
          · rw [h2, h1]; simp only [svcStat]; rw [h1]
          · split
            · rename_i a _ e
              rw [h2, h1]; exact hk.1 a (by rw [e]; rfl)
            · rename_i e
              rw [h1]; rw [e] at hk; exact hk.2

theorem svcFrame_keeps {β : Type} (g : State → β) (h1 : ∀ (s : State) v, g { s with svc := v } = g s)
    (h2 : ∀ o (s : State), g (emit o s) = g s) (type seq : Nat) (f : State → SvcAns) (s : State)
    (hf : ∀ s, g (f s).2.2.2 = g s) : g (svcFrame type seq f s) = g s := by
  unfold svcFrame
  apply svcFrameOpt_keeps g h1 h2
  intro s; exact ⟨fun a h => by simp at h; subst h; exact hf s, rfl⟩

theorem mailbox_keeps {β : Type} (g : State → β) (h2 : ∀ o (s : State), g (emit o s) = g s) (op : Nat) (f : State → MbxAns)
    (s : State)
    (hf : ∀ s, g (f s).2 = g s) : g (mailbox op f s) = g s := by
  unfold mailbox mbxAnswer
  (repeat' split) <;> simp [h2, hf]

theorem takePages_frame (q n : Nat) (s : State) :
    (takePages q n s).almanac = s.almanac ∧ (takePages q n s).dev = s.dev ∧ (takePages q n s).stations = s.stations ∧
      (takePages q n s).hst = s.hst ∧ (takePages q n s).drc = s.drc ∧ (takePages q n s).dram = s.dram ∧
      (takePages q n s).cht = s.cht ∧ (takePages q n s).sui = s.sui ∧ (takePages q n s).stw = s.stw ∧
      (takePages q n s).sav = s.sav ∧ (takePages q n s).dmw = s.dmw ∧ (takePages q n s).nrg = s.nrg ∧
      (takePages q n s).gau = s.gau ∧ (takePages q n s).rek = s.rek ∧ (takePages q n s).plk = s.plk ∧
      (takePages q n s).att = s.att ∧ (takePages q n s).ecc = s.ecc ∧ (takePages q n s).tws = s.tws ∧
      (takePages q n s).twp = s.twp ∧ (takePages q n s).svc = s.svc ∧ (takePages q n s).log = s.log ∧
      (takePages q n s).pwr = s.pwr ∧ (takePages q n s).fpl = s.fpl ∧ (takePages q n s).jtag = s.jtag ∧
      (takePages q n s).fuses = s.fuses ∧ (takePages q n s).cal = s.cal ∧ (takePages q n s).out = s.out ∧
      (takePages q n s).free = s.free ∧ (takePages q n s).pending = s.pending :=
  ⟨takePages_keeps (fun s => s.almanac) q n s (by simp) (by simp), takePages_keeps (fun s => s.dev) q n s (by simp) (by simp),
    takePages_keeps (fun s => s.stations) q n s (by simp) (by simp),
    takePages_keeps (fun s => s.hst) q n s (by simp) (by simp), takePages_keeps (fun s => s.drc) q n s (by simp) (by simp),
    takePages_keeps (fun s => s.dram) q n s (by simp) (by simp), takePages_keeps (fun s => s.cht) q n s (by simp) (by simp),
    takePages_keeps (fun s => s.sui) q n s (by simp) (by simp), takePages_keeps (fun s => s.stw) q n s (by simp) (by simp),
    takePages_keeps (fun s => s.sav) q n s (by simp) (by simp), takePages_keeps (fun s => s.dmw) q n s (by simp) (by simp),
    takePages_keeps (fun s => s.nrg) q n s (by simp) (by simp), takePages_keeps (fun s => s.gau) q n s (by simp) (by simp),
    takePages_keeps (fun s => s.rek) q n s (by simp) (by simp), takePages_keeps (fun s => s.plk) q n s (by simp) (by simp),
    takePages_keeps (fun s => s.att) q n s (by simp) (by simp), takePages_keeps (fun s => s.ecc) q n s (by simp) (by simp),
    takePages_keeps (fun s => s.tws) q n s (by simp) (by simp), takePages_keeps (fun s => s.twp) q n s (by simp) (by simp),
    takePages_keeps (fun s => s.svc) q n s (by simp) (by simp), takePages_keeps (fun s => s.log) q n s (by simp) (by simp),
    takePages_keeps (fun s => s.pwr) q n s (by simp) (by simp), takePages_keeps (fun s => s.fpl) q n s (by simp) (by simp),
    takePages_keeps (fun s => s.jtag) q n s (by simp) (by simp), takePages_keeps (fun s => s.fuses) q n s (by simp) (by simp),
    takePages_keeps (fun s => s.cal) q n s (by simp) (by simp), takePages_keeps (fun s => s.out) q n s (by simp) (by simp),
    takePages_keeps (fun s => s.free) q n s (by simp) (by simp),
    takePages_keeps (fun s => s.pending) q n s (by simp) (by simp)⟩

theorem openMeta_keeps {β : Type} (g : State → β) (hc : ∀ (s : State) x, g { s with cel := x } = g s) (type sub : Nat) (s : State)
    (r : Nat × State) (h : openMeta type sub s = some r) : g r.2 = g s := by
  unfold openMeta at h
  split at h
  · cases h; rfl
  · split at h
    · cases h
    · simp only at h
      split at h
      · simp only [Option.map_eq_some_iff] at h
        obtain ⟨p, -, rfl⟩ := h
        simp [putMeta, modNand, hc]
      · cases h
        simp [putMeta, modNand, hc]

theorem programPages_keeps {β : Type} (g : State → β) (hc : ∀ (s : State) x, g { s with cel := x } = g s) (type sub : Nat) (i : MetaItem)
    (f first n : Nat) (s : State) : g (programPages type sub i f first n s) = g s := by
  induction f generalizing first n s with
  | zero => rfl
  | succ f ih =>
    unfold programPages
    split
    · rfl
    · split
      · rfl
      · rename_i e
        simp only
        rw [ih, takePages_keeps g _ _ _ (by intros; simp [putMeta, modNand, hc]) (by intros; simp [dieWorks, modDie, hc]), hc,
          openMeta_keeps g hc _ _ _ _ e]

theorem dropItem_keeps {β : Type} (g : State → β) (hc : ∀ (s : State) x, g { s with cel := x } = g s) (i : MetaItem) (s : State) :
    g (dropItem i s) = g s := by
  simp [dropItem, dropDead, hc]

theorem takeCheckpoint_keeps {β : Type} (g : State → β) (hc : ∀ (s : State) x, g { s with cel := x } = g s) (s : State) :
    g (takeCheckpoint s) = g s := by
  unfold takeCheckpoint programItem
  simp only
  split
  · rfl
  · rw [hc, foldl_keeps g _ (fun s c => dropItem_keeps g hc _ s), programPages_keeps g hc]

theorem issuePage_keeps {β : Type} (g : State → β) (hc : ∀ (s : State) x, g { s with cel := x } = g s) (s : State) :
    g (issuePage s) = g s := by
  unfold issuePage
  split
  · rfl
  · rename_i e
    simp only
    split
    · rfl
    · rw [foldl_keeps g _ (fun s d => by simp [dieWorks, modDie, hc]),
      takePages_keeps g _ _ _ (by intros; simp [putMeta, modNand, hc]) (by intros; simp [dieWorks, modDie, hc]), hc,
        openMeta_keeps g hc _ _ _ _ e]

theorem programPages_frame (type sub : Nat) (i : MetaItem) (f first n : Nat) (s : State) :
    (programPages type sub i f first n s).almanac = s.almanac ∧ (programPages type sub i f first n s).dev = s.dev ∧
      (programPages type sub i f first n s).stations = s.stations ∧ (programPages type sub i f first n s).hst = s.hst ∧
      (programPages type sub i f first n s).drc = s.drc ∧ (programPages type sub i f first n s).dram = s.dram ∧
      (programPages type sub i f first n s).cht = s.cht ∧ (programPages type sub i f first n s).sui = s.sui ∧
      (programPages type sub i f first n s).stw = s.stw ∧ (programPages type sub i f first n s).sav = s.sav ∧
      (programPages type sub i f first n s).dmw = s.dmw ∧ (programPages type sub i f first n s).nrg = s.nrg ∧
      (programPages type sub i f first n s).gau = s.gau ∧ (programPages type sub i f first n s).rek = s.rek ∧
      (programPages type sub i f first n s).plk = s.plk ∧ (programPages type sub i f first n s).att = s.att ∧
      (programPages type sub i f first n s).ecc = s.ecc ∧ (programPages type sub i f first n s).tws = s.tws ∧
      (programPages type sub i f first n s).twp = s.twp ∧ (programPages type sub i f first n s).svc = s.svc ∧
      (programPages type sub i f first n s).log = s.log ∧ (programPages type sub i f first n s).pwr = s.pwr ∧
      (programPages type sub i f first n s).fpl = s.fpl ∧ (programPages type sub i f first n s).jtag = s.jtag ∧
      (programPages type sub i f first n s).fuses = s.fuses ∧ (programPages type sub i f first n s).cal = s.cal ∧
      (programPages type sub i f first n s).out = s.out ∧ (programPages type sub i f first n s).free = s.free ∧
      (programPages type sub i f first n s).pending = s.pending :=
  ⟨programPages_keeps (fun s => s.almanac) (fun _ _ => rfl) type sub i f first n s,
    programPages_keeps (fun s => s.dev) (fun _ _ => rfl) type sub i f first n s,
    programPages_keeps (fun s => s.stations) (fun _ _ => rfl) type sub i f first n s,
    programPages_keeps (fun s => s.hst) (fun _ _ => rfl) type sub i f first n s,
    programPages_keeps (fun s => s.drc) (fun _ _ => rfl) type sub i f first n s,
    programPages_keeps (fun s => s.dram) (fun _ _ => rfl) type sub i f first n s,
    programPages_keeps (fun s => s.cht) (fun _ _ => rfl) type sub i f first n s,
    programPages_keeps (fun s => s.sui) (fun _ _ => rfl) type sub i f first n s,
    programPages_keeps (fun s => s.stw) (fun _ _ => rfl) type sub i f first n s,
    programPages_keeps (fun s => s.sav) (fun _ _ => rfl) type sub i f first n s,
    programPages_keeps (fun s => s.dmw) (fun _ _ => rfl) type sub i f first n s,
    programPages_keeps (fun s => s.nrg) (fun _ _ => rfl) type sub i f first n s,
    programPages_keeps (fun s => s.gau) (fun _ _ => rfl) type sub i f first n s,
    programPages_keeps (fun s => s.rek) (fun _ _ => rfl) type sub i f first n s,
    programPages_keeps (fun s => s.plk) (fun _ _ => rfl) type sub i f first n s,
    programPages_keeps (fun s => s.att) (fun _ _ => rfl) type sub i f first n s,
    programPages_keeps (fun s => s.ecc) (fun _ _ => rfl) type sub i f first n s,
    programPages_keeps (fun s => s.tws) (fun _ _ => rfl) type sub i f first n s,
    programPages_keeps (fun s => s.twp) (fun _ _ => rfl) type sub i f first n s,
    programPages_keeps (fun s => s.svc) (fun _ _ => rfl) type sub i f first n s,
    programPages_keeps (fun s => s.log) (fun _ _ => rfl) type sub i f first n s,
    programPages_keeps (fun s => s.pwr) (fun _ _ => rfl) type sub i f first n s,
    programPages_keeps (fun s => s.fpl) (fun _ _ => rfl) type sub i f first n s,
    programPages_keeps (fun s => s.jtag) (fun _ _ => rfl) type sub i f first n s,
    programPages_keeps (fun s => s.fuses) (fun _ _ => rfl) type sub i f first n s,
    programPages_keeps (fun s => s.cal) (fun _ _ => rfl) type sub i f first n s,
    programPages_keeps (fun s => s.out) (fun _ _ => rfl) type sub i f first n s,
    programPages_keeps (fun s => s.free) (fun _ _ => rfl) type sub i f first n s,
    programPages_keeps (fun s => s.pending) (fun _ _ => rfl) type sub i f first n s⟩

theorem programItem_frame (type sub : Nat) (i : MetaItem) (first n : Nat) (s : State) :
    (programItem type sub i first n s).almanac = s.almanac ∧ (programItem type sub i first n s).dev = s.dev ∧
      (programItem type sub i first n s).stations = s.stations ∧ (programItem type sub i first n s).hst = s.hst ∧
      (programItem type sub i first n s).drc = s.drc ∧ (programItem type sub i first n s).dram = s.dram ∧
      (programItem type sub i first n s).cht = s.cht ∧ (programItem type sub i first n s).sui = s.sui ∧
      (programItem type sub i first n s).stw = s.stw ∧ (programItem type sub i first n s).sav = s.sav ∧
      (programItem type sub i first n s).dmw = s.dmw ∧ (programItem type sub i first n s).nrg = s.nrg ∧
      (programItem type sub i first n s).gau = s.gau ∧ (programItem type sub i first n s).rek = s.rek ∧
      (programItem type sub i first n s).plk = s.plk ∧ (programItem type sub i first n s).att = s.att ∧
      (programItem type sub i first n s).ecc = s.ecc ∧ (programItem type sub i first n s).tws = s.tws ∧
      (programItem type sub i first n s).twp = s.twp ∧ (programItem type sub i first n s).svc = s.svc ∧
      (programItem type sub i first n s).log = s.log ∧ (programItem type sub i first n s).pwr = s.pwr ∧
      (programItem type sub i first n s).fpl = s.fpl ∧ (programItem type sub i first n s).jtag = s.jtag ∧
      (programItem type sub i first n s).fuses = s.fuses ∧ (programItem type sub i first n s).cal = s.cal ∧
      (programItem type sub i first n s).out = s.out ∧ (programItem type sub i first n s).free = s.free ∧
      (programItem type sub i first n s).pending = s.pending :=
  ⟨programPages_keeps (fun s => s.almanac) (fun _ _ => rfl) type sub i _ first n s,
    programPages_keeps (fun s => s.dev) (fun _ _ => rfl) type sub i _ first n s,
    programPages_keeps (fun s => s.stations) (fun _ _ => rfl) type sub i _ first n s,
    programPages_keeps (fun s => s.hst) (fun _ _ => rfl) type sub i _ first n s,
    programPages_keeps (fun s => s.drc) (fun _ _ => rfl) type sub i _ first n s,
    programPages_keeps (fun s => s.dram) (fun _ _ => rfl) type sub i _ first n s,
    programPages_keeps (fun s => s.cht) (fun _ _ => rfl) type sub i _ first n s,
    programPages_keeps (fun s => s.sui) (fun _ _ => rfl) type sub i _ first n s,
    programPages_keeps (fun s => s.stw) (fun _ _ => rfl) type sub i _ first n s,
    programPages_keeps (fun s => s.sav) (fun _ _ => rfl) type sub i _ first n s,
    programPages_keeps (fun s => s.dmw) (fun _ _ => rfl) type sub i _ first n s,
    programPages_keeps (fun s => s.nrg) (fun _ _ => rfl) type sub i _ first n s,
    programPages_keeps (fun s => s.gau) (fun _ _ => rfl) type sub i _ first n s,
    programPages_keeps (fun s => s.rek) (fun _ _ => rfl) type sub i _ first n s,
    programPages_keeps (fun s => s.plk) (fun _ _ => rfl) type sub i _ first n s,
    programPages_keeps (fun s => s.att) (fun _ _ => rfl) type sub i _ first n s,
    programPages_keeps (fun s => s.ecc) (fun _ _ => rfl) type sub i _ first n s,
    programPages_keeps (fun s => s.tws) (fun _ _ => rfl) type sub i _ first n s,
    programPages_keeps (fun s => s.twp) (fun _ _ => rfl) type sub i _ first n s,
    programPages_keeps (fun s => s.svc) (fun _ _ => rfl) type sub i _ first n s,
    programPages_keeps (fun s => s.log) (fun _ _ => rfl) type sub i _ first n s,
    programPages_keeps (fun s => s.pwr) (fun _ _ => rfl) type sub i _ first n s,
    programPages_keeps (fun s => s.fpl) (fun _ _ => rfl) type sub i _ first n s,
    programPages_keeps (fun s => s.jtag) (fun _ _ => rfl) type sub i _ first n s,
    programPages_keeps (fun s => s.fuses) (fun _ _ => rfl) type sub i _ first n s,
    programPages_keeps (fun s => s.cal) (fun _ _ => rfl) type sub i _ first n s,
    programPages_keeps (fun s => s.out) (fun _ _ => rfl) type sub i _ first n s,
    programPages_keeps (fun s => s.free) (fun _ _ => rfl) type sub i _ first n s,
    programPages_keeps (fun s => s.pending) (fun _ _ => rfl) type sub i _ first n s⟩

theorem takeCheckpoint_frame (s : State) :
    (takeCheckpoint s).almanac = s.almanac ∧ (takeCheckpoint s).dev = s.dev ∧ (takeCheckpoint s).stations = s.stations ∧
      (takeCheckpoint s).hst = s.hst ∧ (takeCheckpoint s).drc = s.drc ∧ (takeCheckpoint s).dram = s.dram ∧
      (takeCheckpoint s).cht = s.cht ∧ (takeCheckpoint s).sui = s.sui ∧ (takeCheckpoint s).stw = s.stw ∧
      (takeCheckpoint s).sav = s.sav ∧ (takeCheckpoint s).dmw = s.dmw ∧ (takeCheckpoint s).nrg = s.nrg ∧
      (takeCheckpoint s).gau = s.gau ∧ (takeCheckpoint s).rek = s.rek ∧ (takeCheckpoint s).plk = s.plk ∧
      (takeCheckpoint s).att = s.att ∧ (takeCheckpoint s).ecc = s.ecc ∧ (takeCheckpoint s).tws = s.tws ∧
      (takeCheckpoint s).twp = s.twp ∧ (takeCheckpoint s).svc = s.svc ∧ (takeCheckpoint s).log = s.log ∧
      (takeCheckpoint s).pwr = s.pwr ∧ (takeCheckpoint s).fpl = s.fpl ∧ (takeCheckpoint s).jtag = s.jtag ∧
      (takeCheckpoint s).fuses = s.fuses ∧ (takeCheckpoint s).cal = s.cal ∧ (takeCheckpoint s).out = s.out ∧
      (takeCheckpoint s).free = s.free ∧ (takeCheckpoint s).pending = s.pending :=
  ⟨takeCheckpoint_keeps (fun s => s.almanac) (fun _ _ => rfl) s, takeCheckpoint_keeps (fun s => s.dev) (fun _ _ => rfl) s,
    takeCheckpoint_keeps (fun s => s.stations) (fun _ _ => rfl) s, takeCheckpoint_keeps (fun s => s.hst) (fun _ _ => rfl) s,
    takeCheckpoint_keeps (fun s => s.drc) (fun _ _ => rfl) s, takeCheckpoint_keeps (fun s => s.dram) (fun _ _ => rfl) s,
    takeCheckpoint_keeps (fun s => s.cht) (fun _ _ => rfl) s, takeCheckpoint_keeps (fun s => s.sui) (fun _ _ => rfl) s,
    takeCheckpoint_keeps (fun s => s.stw) (fun _ _ => rfl) s, takeCheckpoint_keeps (fun s => s.sav) (fun _ _ => rfl) s,
    takeCheckpoint_keeps (fun s => s.dmw) (fun _ _ => rfl) s, takeCheckpoint_keeps (fun s => s.nrg) (fun _ _ => rfl) s,
    takeCheckpoint_keeps (fun s => s.gau) (fun _ _ => rfl) s, takeCheckpoint_keeps (fun s => s.rek) (fun _ _ => rfl) s,
    takeCheckpoint_keeps (fun s => s.plk) (fun _ _ => rfl) s, takeCheckpoint_keeps (fun s => s.att) (fun _ _ => rfl) s,
    takeCheckpoint_keeps (fun s => s.ecc) (fun _ _ => rfl) s, takeCheckpoint_keeps (fun s => s.tws) (fun _ _ => rfl) s,
    takeCheckpoint_keeps (fun s => s.twp) (fun _ _ => rfl) s, takeCheckpoint_keeps (fun s => s.svc) (fun _ _ => rfl) s,
    takeCheckpoint_keeps (fun s => s.log) (fun _ _ => rfl) s, takeCheckpoint_keeps (fun s => s.pwr) (fun _ _ => rfl) s,
    takeCheckpoint_keeps (fun s => s.fpl) (fun _ _ => rfl) s, takeCheckpoint_keeps (fun s => s.jtag) (fun _ _ => rfl) s,
    takeCheckpoint_keeps (fun s => s.fuses) (fun _ _ => rfl) s, takeCheckpoint_keeps (fun s => s.cal) (fun _ _ => rfl) s,
    takeCheckpoint_keeps (fun s => s.out) (fun _ _ => rfl) s, takeCheckpoint_keeps (fun s => s.free) (fun _ _ => rfl) s,
    takeCheckpoint_keeps (fun s => s.pending) (fun _ _ => rfl) s⟩

theorem issuePage_frame (s : State) :
    (issuePage s).almanac = s.almanac ∧ (issuePage s).dev = s.dev ∧ (issuePage s).stations = s.stations ∧
      (issuePage s).hst = s.hst ∧ (issuePage s).drc = s.drc ∧ (issuePage s).dram = s.dram ∧ (issuePage s).cht = s.cht ∧
      (issuePage s).sui = s.sui ∧ (issuePage s).stw = s.stw ∧ (issuePage s).sav = s.sav ∧ (issuePage s).dmw = s.dmw ∧
      (issuePage s).nrg = s.nrg ∧ (issuePage s).gau = s.gau ∧ (issuePage s).rek = s.rek ∧ (issuePage s).plk = s.plk ∧
      (issuePage s).att = s.att ∧ (issuePage s).ecc = s.ecc ∧ (issuePage s).tws = s.tws ∧ (issuePage s).twp = s.twp ∧
      (issuePage s).svc = s.svc ∧ (issuePage s).log = s.log ∧ (issuePage s).pwr = s.pwr ∧ (issuePage s).fpl = s.fpl ∧
      (issuePage s).jtag = s.jtag ∧ (issuePage s).fuses = s.fuses ∧ (issuePage s).cal = s.cal ∧ (issuePage s).out = s.out ∧
      (issuePage s).free = s.free ∧ (issuePage s).pending = s.pending :=
  ⟨issuePage_keeps (fun s => s.almanac) (fun _ _ => rfl) s, issuePage_keeps (fun s => s.dev) (fun _ _ => rfl) s,
    issuePage_keeps (fun s => s.stations) (fun _ _ => rfl) s, issuePage_keeps (fun s => s.hst) (fun _ _ => rfl) s,
    issuePage_keeps (fun s => s.drc) (fun _ _ => rfl) s, issuePage_keeps (fun s => s.dram) (fun _ _ => rfl) s,
    issuePage_keeps (fun s => s.cht) (fun _ _ => rfl) s, issuePage_keeps (fun s => s.sui) (fun _ _ => rfl) s,
    issuePage_keeps (fun s => s.stw) (fun _ _ => rfl) s, issuePage_keeps (fun s => s.sav) (fun _ _ => rfl) s,
    issuePage_keeps (fun s => s.dmw) (fun _ _ => rfl) s, issuePage_keeps (fun s => s.nrg) (fun _ _ => rfl) s,
    issuePage_keeps (fun s => s.gau) (fun _ _ => rfl) s, issuePage_keeps (fun s => s.rek) (fun _ _ => rfl) s,
    issuePage_keeps (fun s => s.plk) (fun _ _ => rfl) s, issuePage_keeps (fun s => s.att) (fun _ _ => rfl) s,
    issuePage_keeps (fun s => s.ecc) (fun _ _ => rfl) s, issuePage_keeps (fun s => s.tws) (fun _ _ => rfl) s,
    issuePage_keeps (fun s => s.twp) (fun _ _ => rfl) s, issuePage_keeps (fun s => s.svc) (fun _ _ => rfl) s,
    issuePage_keeps (fun s => s.log) (fun _ _ => rfl) s, issuePage_keeps (fun s => s.pwr) (fun _ _ => rfl) s,
    issuePage_keeps (fun s => s.fpl) (fun _ _ => rfl) s, issuePage_keeps (fun s => s.jtag) (fun _ _ => rfl) s,
    issuePage_keeps (fun s => s.fuses) (fun _ _ => rfl) s, issuePage_keeps (fun s => s.cal) (fun _ _ => rfl) s,
    issuePage_keeps (fun s => s.out) (fun _ _ => rfl) s, issuePage_keeps (fun s => s.free) (fun _ _ => rfl) s,
    issuePage_keeps (fun s => s.pending) (fun _ _ => rfl) s⟩

@[simp] theorem mailbox_frame_almanac (op : Nat) (f : State → MbxAns) (s : State) (hf : ∀ s, (f s).2.almanac = s.almanac) :
    (mailbox op f s).almanac = s.almanac := mailbox_keeps (fun s => s.almanac) (by simp) op f s hf

@[simp] theorem mbxOut_frame_almanac (l : List Byte) (s : State) : (mbxOut l s).2.almanac = s.almanac := rfl

@[simp] theorem mbxRc_frame_almanac (rc : Nat) (s : State) : (mbxRc rc s).2.almanac = s.almanac := rfl

@[simp] theorem svcFrame_frame_almanac (type seq : Nat) (f : State → SvcAns)
    (s : State) (hf : ∀ s, (f s).2.2.2.almanac = s.almanac) :
    (svcFrame type seq f s).almanac = s.almanac := svcFrame_keeps (fun s => s.almanac) (by simp) (by simp) type seq f s hf

@[simp] theorem svcFrameOpt_frame_almanac (type seq : Nat) (f : State → Option SvcAns × State) (s : State)
    (hf : ∀ s, (∀ a ∈ (f s).1, a.2.2.2.almanac = s.almanac) ∧
      (f s).2.almanac = s.almanac) : (svcFrameOpt type seq f s).almanac = s.almanac :=
  svcFrameOpt_keeps (fun s => s.almanac) (by simp) (by simp) type seq f s hf

@[simp] theorem withRole_frame_almanac (k : Nat) (f : State → SvcAns) (s : State) (hf : ∀ s, (f s).2.2.2.almanac = s.almanac) :
    (withRole k s f).2.2.2.almanac = s.almanac := by
  have q1 := svcStat_frame
  unfold withRole; split <;> simp_all

@[simp] theorem inStates_frame_almanac (k : Bool) (f : State → SvcAns) (s : State) (hf : ∀ s, (f s).2.2.2.almanac = s.almanac) :
    (inStates k s f).2.2.2.almanac = s.almanac := by
  have q1 := svcStat_frame
  unfold inStates; split <;> simp_all

@[simp] theorem wellInput_frame_almanac (k : Bool) (f : State → SvcAns) (s : State) (hf : ∀ s, (f s).2.2.2.almanac = s.almanac) :
    (wellInput k s f).2.2.2.almanac = s.almanac := by
  have q1 := svcStat_frame
  unfold wellInput; split <;> simp_all

@[simp] theorem mailbox_frame_dev (op : Nat) (f : State → MbxAns) (s : State) (hf : ∀ s, (f s).2.dev = s.dev) :
    (mailbox op f s).dev = s.dev := mailbox_keeps (fun s => s.dev) (by simp) op f s hf

@[simp] theorem mbxOut_frame_dev (l : List Byte) (s : State) : (mbxOut l s).2.dev = s.dev := rfl

@[simp] theorem mbxRc_frame_dev (rc : Nat) (s : State) : (mbxRc rc s).2.dev = s.dev := rfl

@[simp] theorem svcFrame_frame_dev (type seq : Nat) (f : State → SvcAns) (s : State) (hf : ∀ s, (f s).2.2.2.dev = s.dev) :
    (svcFrame type seq f s).dev = s.dev := svcFrame_keeps (fun s => s.dev) (by simp) (by simp) type seq f s hf

@[simp] theorem svcFrameOpt_frame_dev (type seq : Nat) (f : State → Option SvcAns × State) (s : State)
    (hf : ∀ s, (∀ a ∈ (f s).1, a.2.2.2.dev = s.dev) ∧ (f s).2.dev = s.dev) : (svcFrameOpt type seq f s).dev = s.dev :=
  svcFrameOpt_keeps (fun s => s.dev) (by simp) (by simp) type seq f s hf

@[simp] theorem withRole_frame_dev (k : Nat) (f : State → SvcAns) (s : State) (hf : ∀ s, (f s).2.2.2.dev = s.dev) :
    (withRole k s f).2.2.2.dev = s.dev := by
  have q1 := svcStat_frame
  unfold withRole; split <;> simp_all

@[simp] theorem inStates_frame_dev (k : Bool) (f : State → SvcAns) (s : State) (hf : ∀ s, (f s).2.2.2.dev = s.dev) :
    (inStates k s f).2.2.2.dev = s.dev := by
  have q1 := svcStat_frame
  unfold inStates; split <;> simp_all

@[simp] theorem wellInput_frame_dev (k : Bool) (f : State → SvcAns) (s : State) (hf : ∀ s, (f s).2.2.2.dev = s.dev) :
    (wellInput k s f).2.2.2.dev = s.dev := by
  have q1 := svcStat_frame
  unfold wellInput; split <;> simp_all

@[simp] theorem mailbox_frame_stations (op : Nat) (f : State → MbxAns) (s : State) (hf : ∀ s, (f s).2.stations = s.stations) :
    (mailbox op f s).stations = s.stations := mailbox_keeps (fun s => s.stations) (by simp) op f s hf

@[simp] theorem mbxOut_frame_stations (l : List Byte) (s : State) : (mbxOut l s).2.stations = s.stations := rfl

@[simp] theorem mbxRc_frame_stations (rc : Nat) (s : State) : (mbxRc rc s).2.stations = s.stations := rfl

@[simp] theorem svcFrame_frame_stations (type seq : Nat) (f : State → SvcAns)
    (s : State) (hf : ∀ s, (f s).2.2.2.stations = s.stations) :
    (svcFrame type seq f s).stations = s.stations := svcFrame_keeps (fun s => s.stations) (by simp) (by simp) type seq f s hf

@[simp] theorem svcFrameOpt_frame_stations (type seq : Nat) (f : State → Option SvcAns × State) (s : State)
    (hf : ∀ s, (∀ a ∈ (f s).1, a.2.2.2.stations = s.stations) ∧
      (f s).2.stations = s.stations) : (svcFrameOpt type seq f s).stations = s.stations :=
  svcFrameOpt_keeps (fun s => s.stations) (by simp) (by simp) type seq f s hf

@[simp] theorem withRole_frame_stations (k : Nat) (f : State → SvcAns) (s : State) (hf : ∀ s, (f s).2.2.2.stations = s.stations) :
    (withRole k s f).2.2.2.stations = s.stations := by
  have q1 := svcStat_frame
  unfold withRole; split <;> simp_all

@[simp] theorem inStates_frame_stations (k : Bool) (f : State → SvcAns)
    (s : State) (hf : ∀ s, (f s).2.2.2.stations = s.stations) :
    (inStates k s f).2.2.2.stations = s.stations := by
  have q1 := svcStat_frame
  unfold inStates; split <;> simp_all

@[simp] theorem wellInput_frame_stations (k : Bool) (f : State → SvcAns)
    (s : State) (hf : ∀ s, (f s).2.2.2.stations = s.stations) :
    (wellInput k s f).2.2.2.stations = s.stations := by
  have q1 := svcStat_frame
  unfold wellInput; split <;> simp_all

@[simp] theorem mailbox_frame_hst (op : Nat) (f : State → MbxAns) (s : State) (hf : ∀ s, (f s).2.hst = s.hst) :
    (mailbox op f s).hst = s.hst := mailbox_keeps (fun s => s.hst) (by simp) op f s hf

@[simp] theorem mbxOut_frame_hst (l : List Byte) (s : State) : (mbxOut l s).2.hst = s.hst := rfl

@[simp] theorem mbxRc_frame_hst (rc : Nat) (s : State) : (mbxRc rc s).2.hst = s.hst := rfl

@[simp] theorem svcFrame_frame_hst (type seq : Nat) (f : State → SvcAns) (s : State) (hf : ∀ s, (f s).2.2.2.hst = s.hst) :
    (svcFrame type seq f s).hst = s.hst := svcFrame_keeps (fun s => s.hst) (by simp) (by simp) type seq f s hf

@[simp] theorem svcFrameOpt_frame_hst (type seq : Nat) (f : State → Option SvcAns × State) (s : State)
    (hf : ∀ s, (∀ a ∈ (f s).1, a.2.2.2.hst = s.hst) ∧ (f s).2.hst = s.hst) : (svcFrameOpt type seq f s).hst = s.hst :=
  svcFrameOpt_keeps (fun s => s.hst) (by simp) (by simp) type seq f s hf

@[simp] theorem withRole_frame_hst (k : Nat) (f : State → SvcAns) (s : State) (hf : ∀ s, (f s).2.2.2.hst = s.hst) :
    (withRole k s f).2.2.2.hst = s.hst := by
  have q1 := svcStat_frame
  unfold withRole; split <;> simp_all

@[simp] theorem inStates_frame_hst (k : Bool) (f : State → SvcAns) (s : State) (hf : ∀ s, (f s).2.2.2.hst = s.hst) :
    (inStates k s f).2.2.2.hst = s.hst := by
  have q1 := svcStat_frame
  unfold inStates; split <;> simp_all

@[simp] theorem wellInput_frame_hst (k : Bool) (f : State → SvcAns) (s : State) (hf : ∀ s, (f s).2.2.2.hst = s.hst) :
    (wellInput k s f).2.2.2.hst = s.hst := by
  have q1 := svcStat_frame
  unfold wellInput; split <;> simp_all

@[simp] theorem mailbox_frame_drc (op : Nat) (f : State → MbxAns) (s : State) (hf : ∀ s, (f s).2.drc = s.drc) :
    (mailbox op f s).drc = s.drc := mailbox_keeps (fun s => s.drc) (by simp) op f s hf

@[simp] theorem mbxOut_frame_drc (l : List Byte) (s : State) : (mbxOut l s).2.drc = s.drc := rfl

@[simp] theorem mbxRc_frame_drc (rc : Nat) (s : State) : (mbxRc rc s).2.drc = s.drc := rfl

@[simp] theorem svcFrame_frame_drc (type seq : Nat) (f : State → SvcAns) (s : State) (hf : ∀ s, (f s).2.2.2.drc = s.drc) :
    (svcFrame type seq f s).drc = s.drc := svcFrame_keeps (fun s => s.drc) (by simp) (by simp) type seq f s hf

@[simp] theorem svcFrameOpt_frame_drc (type seq : Nat) (f : State → Option SvcAns × State) (s : State)
    (hf : ∀ s, (∀ a ∈ (f s).1, a.2.2.2.drc = s.drc) ∧ (f s).2.drc = s.drc) : (svcFrameOpt type seq f s).drc = s.drc :=
  svcFrameOpt_keeps (fun s => s.drc) (by simp) (by simp) type seq f s hf

@[simp] theorem withRole_frame_drc (k : Nat) (f : State → SvcAns) (s : State) (hf : ∀ s, (f s).2.2.2.drc = s.drc) :
    (withRole k s f).2.2.2.drc = s.drc := by
  have q1 := svcStat_frame
  unfold withRole; split <;> simp_all

@[simp] theorem inStates_frame_drc (k : Bool) (f : State → SvcAns) (s : State) (hf : ∀ s, (f s).2.2.2.drc = s.drc) :
    (inStates k s f).2.2.2.drc = s.drc := by
  have q1 := svcStat_frame
  unfold inStates; split <;> simp_all

@[simp] theorem wellInput_frame_drc (k : Bool) (f : State → SvcAns) (s : State) (hf : ∀ s, (f s).2.2.2.drc = s.drc) :
    (wellInput k s f).2.2.2.drc = s.drc := by
  have q1 := svcStat_frame
  unfold wellInput; split <;> simp_all

@[simp] theorem mailbox_frame_dram (op : Nat) (f : State → MbxAns) (s : State) (hf : ∀ s, (f s).2.dram = s.dram) :
    (mailbox op f s).dram = s.dram := mailbox_keeps (fun s => s.dram) (by simp) op f s hf

@[simp] theorem mbxOut_frame_dram (l : List Byte) (s : State) : (mbxOut l s).2.dram = s.dram := rfl

@[simp] theorem mbxRc_frame_dram (rc : Nat) (s : State) : (mbxRc rc s).2.dram = s.dram := rfl

@[simp] theorem svcFrame_frame_dram (type seq : Nat) (f : State → SvcAns) (s : State) (hf : ∀ s, (f s).2.2.2.dram = s.dram) :
    (svcFrame type seq f s).dram = s.dram := svcFrame_keeps (fun s => s.dram) (by simp) (by simp) type seq f s hf

@[simp] theorem svcFrameOpt_frame_dram (type seq : Nat) (f : State → Option SvcAns × State) (s : State)
    (hf : ∀ s, (∀ a ∈ (f s).1, a.2.2.2.dram = s.dram) ∧ (f s).2.dram = s.dram) : (svcFrameOpt type seq f s).dram = s.dram :=
  svcFrameOpt_keeps (fun s => s.dram) (by simp) (by simp) type seq f s hf

@[simp] theorem withRole_frame_dram (k : Nat) (f : State → SvcAns) (s : State) (hf : ∀ s, (f s).2.2.2.dram = s.dram) :
    (withRole k s f).2.2.2.dram = s.dram := by
  have q1 := svcStat_frame
  unfold withRole; split <;> simp_all

@[simp] theorem inStates_frame_dram (k : Bool) (f : State → SvcAns) (s : State) (hf : ∀ s, (f s).2.2.2.dram = s.dram) :
    (inStates k s f).2.2.2.dram = s.dram := by
  have q1 := svcStat_frame
  unfold inStates; split <;> simp_all

@[simp] theorem wellInput_frame_dram (k : Bool) (f : State → SvcAns) (s : State) (hf : ∀ s, (f s).2.2.2.dram = s.dram) :
    (wellInput k s f).2.2.2.dram = s.dram := by
  have q1 := svcStat_frame
  unfold wellInput; split <;> simp_all

@[simp] theorem mailbox_frame_cht (op : Nat) (f : State → MbxAns) (s : State) (hf : ∀ s, (f s).2.cht = s.cht) :
    (mailbox op f s).cht = s.cht := mailbox_keeps (fun s => s.cht) (by simp) op f s hf

@[simp] theorem mbxOut_frame_cht (l : List Byte) (s : State) : (mbxOut l s).2.cht = s.cht := rfl

@[simp] theorem mbxRc_frame_cht (rc : Nat) (s : State) : (mbxRc rc s).2.cht = s.cht := rfl

@[simp] theorem svcFrame_frame_cht (type seq : Nat) (f : State → SvcAns) (s : State) (hf : ∀ s, (f s).2.2.2.cht = s.cht) :
    (svcFrame type seq f s).cht = s.cht := svcFrame_keeps (fun s => s.cht) (by simp) (by simp) type seq f s hf

@[simp] theorem svcFrameOpt_frame_cht (type seq : Nat) (f : State → Option SvcAns × State) (s : State)
    (hf : ∀ s, (∀ a ∈ (f s).1, a.2.2.2.cht = s.cht) ∧ (f s).2.cht = s.cht) : (svcFrameOpt type seq f s).cht = s.cht :=
  svcFrameOpt_keeps (fun s => s.cht) (by simp) (by simp) type seq f s hf

@[simp] theorem withRole_frame_cht (k : Nat) (f : State → SvcAns) (s : State) (hf : ∀ s, (f s).2.2.2.cht = s.cht) :
    (withRole k s f).2.2.2.cht = s.cht := by
  have q1 := svcStat_frame
  unfold withRole; split <;> simp_all

@[simp] theorem inStates_frame_cht (k : Bool) (f : State → SvcAns) (s : State) (hf : ∀ s, (f s).2.2.2.cht = s.cht) :
    (inStates k s f).2.2.2.cht = s.cht := by
  have q1 := svcStat_frame
  unfold inStates; split <;> simp_all

@[simp] theorem wellInput_frame_cht (k : Bool) (f : State → SvcAns) (s : State) (hf : ∀ s, (f s).2.2.2.cht = s.cht) :
    (wellInput k s f).2.2.2.cht = s.cht := by
  have q1 := svcStat_frame
  unfold wellInput; split <;> simp_all

@[simp] theorem mailbox_frame_sui (op : Nat) (f : State → MbxAns) (s : State) (hf : ∀ s, (f s).2.sui = s.sui) :
    (mailbox op f s).sui = s.sui := mailbox_keeps (fun s => s.sui) (by simp) op f s hf

@[simp] theorem mbxOut_frame_sui (l : List Byte) (s : State) : (mbxOut l s).2.sui = s.sui := rfl

@[simp] theorem mbxRc_frame_sui (rc : Nat) (s : State) : (mbxRc rc s).2.sui = s.sui := rfl

@[simp] theorem svcFrame_frame_sui (type seq : Nat) (f : State → SvcAns) (s : State) (hf : ∀ s, (f s).2.2.2.sui = s.sui) :
    (svcFrame type seq f s).sui = s.sui := svcFrame_keeps (fun s => s.sui) (by simp) (by simp) type seq f s hf

@[simp] theorem svcFrameOpt_frame_sui (type seq : Nat) (f : State → Option SvcAns × State) (s : State)
    (hf : ∀ s, (∀ a ∈ (f s).1, a.2.2.2.sui = s.sui) ∧ (f s).2.sui = s.sui) : (svcFrameOpt type seq f s).sui = s.sui :=
  svcFrameOpt_keeps (fun s => s.sui) (by simp) (by simp) type seq f s hf

@[simp] theorem withRole_frame_sui (k : Nat) (f : State → SvcAns) (s : State) (hf : ∀ s, (f s).2.2.2.sui = s.sui) :
    (withRole k s f).2.2.2.sui = s.sui := by
  have q1 := svcStat_frame
  unfold withRole; split <;> simp_all

@[simp] theorem inStates_frame_sui (k : Bool) (f : State → SvcAns) (s : State) (hf : ∀ s, (f s).2.2.2.sui = s.sui) :
    (inStates k s f).2.2.2.sui = s.sui := by
  have q1 := svcStat_frame
  unfold inStates; split <;> simp_all

@[simp] theorem wellInput_frame_sui (k : Bool) (f : State → SvcAns) (s : State) (hf : ∀ s, (f s).2.2.2.sui = s.sui) :
    (wellInput k s f).2.2.2.sui = s.sui := by
  have q1 := svcStat_frame
  unfold wellInput; split <;> simp_all

@[simp] theorem mailbox_frame_stw (op : Nat) (f : State → MbxAns) (s : State) (hf : ∀ s, (f s).2.stw = s.stw) :
    (mailbox op f s).stw = s.stw := mailbox_keeps (fun s => s.stw) (by simp) op f s hf

@[simp] theorem mbxOut_frame_stw (l : List Byte) (s : State) : (mbxOut l s).2.stw = s.stw := rfl

@[simp] theorem mbxRc_frame_stw (rc : Nat) (s : State) : (mbxRc rc s).2.stw = s.stw := rfl

@[simp] theorem svcFrame_frame_stw (type seq : Nat) (f : State → SvcAns) (s : State) (hf : ∀ s, (f s).2.2.2.stw = s.stw) :
    (svcFrame type seq f s).stw = s.stw := svcFrame_keeps (fun s => s.stw) (by simp) (by simp) type seq f s hf

@[simp] theorem svcFrameOpt_frame_stw (type seq : Nat) (f : State → Option SvcAns × State) (s : State)
    (hf : ∀ s, (∀ a ∈ (f s).1, a.2.2.2.stw = s.stw) ∧ (f s).2.stw = s.stw) : (svcFrameOpt type seq f s).stw = s.stw :=
  svcFrameOpt_keeps (fun s => s.stw) (by simp) (by simp) type seq f s hf

@[simp] theorem withRole_frame_stw (k : Nat) (f : State → SvcAns) (s : State) (hf : ∀ s, (f s).2.2.2.stw = s.stw) :
    (withRole k s f).2.2.2.stw = s.stw := by
  have q1 := svcStat_frame
  unfold withRole; split <;> simp_all

@[simp] theorem inStates_frame_stw (k : Bool) (f : State → SvcAns) (s : State) (hf : ∀ s, (f s).2.2.2.stw = s.stw) :
    (inStates k s f).2.2.2.stw = s.stw := by
  have q1 := svcStat_frame
  unfold inStates; split <;> simp_all

@[simp] theorem wellInput_frame_stw (k : Bool) (f : State → SvcAns) (s : State) (hf : ∀ s, (f s).2.2.2.stw = s.stw) :
    (wellInput k s f).2.2.2.stw = s.stw := by
  have q1 := svcStat_frame
  unfold wellInput; split <;> simp_all

@[simp] theorem mailbox_frame_sav (op : Nat) (f : State → MbxAns) (s : State) (hf : ∀ s, (f s).2.sav = s.sav) :
    (mailbox op f s).sav = s.sav := mailbox_keeps (fun s => s.sav) (by simp) op f s hf

@[simp] theorem mbxOut_frame_sav (l : List Byte) (s : State) : (mbxOut l s).2.sav = s.sav := rfl

@[simp] theorem mbxRc_frame_sav (rc : Nat) (s : State) : (mbxRc rc s).2.sav = s.sav := rfl

@[simp] theorem svcFrame_frame_sav (type seq : Nat) (f : State → SvcAns) (s : State) (hf : ∀ s, (f s).2.2.2.sav = s.sav) :
    (svcFrame type seq f s).sav = s.sav := svcFrame_keeps (fun s => s.sav) (by simp) (by simp) type seq f s hf

@[simp] theorem svcFrameOpt_frame_sav (type seq : Nat) (f : State → Option SvcAns × State) (s : State)
    (hf : ∀ s, (∀ a ∈ (f s).1, a.2.2.2.sav = s.sav) ∧ (f s).2.sav = s.sav) : (svcFrameOpt type seq f s).sav = s.sav :=
  svcFrameOpt_keeps (fun s => s.sav) (by simp) (by simp) type seq f s hf

@[simp] theorem withRole_frame_sav (k : Nat) (f : State → SvcAns) (s : State) (hf : ∀ s, (f s).2.2.2.sav = s.sav) :
    (withRole k s f).2.2.2.sav = s.sav := by
  have q1 := svcStat_frame
  unfold withRole; split <;> simp_all

@[simp] theorem inStates_frame_sav (k : Bool) (f : State → SvcAns) (s : State) (hf : ∀ s, (f s).2.2.2.sav = s.sav) :
    (inStates k s f).2.2.2.sav = s.sav := by
  have q1 := svcStat_frame
  unfold inStates; split <;> simp_all

@[simp] theorem wellInput_frame_sav (k : Bool) (f : State → SvcAns) (s : State) (hf : ∀ s, (f s).2.2.2.sav = s.sav) :
    (wellInput k s f).2.2.2.sav = s.sav := by
  have q1 := svcStat_frame
  unfold wellInput; split <;> simp_all

@[simp] theorem mailbox_frame_cel (op : Nat) (f : State → MbxAns) (s : State) (hf : ∀ s, (f s).2.cel = s.cel) :
    (mailbox op f s).cel = s.cel := mailbox_keeps (fun s => s.cel) (by simp) op f s hf

@[simp] theorem mbxOut_frame_cel (l : List Byte) (s : State) : (mbxOut l s).2.cel = s.cel := rfl

@[simp] theorem mbxRc_frame_cel (rc : Nat) (s : State) : (mbxRc rc s).2.cel = s.cel := rfl

@[simp] theorem svcFrame_frame_cel (type seq : Nat) (f : State → SvcAns) (s : State) (hf : ∀ s, (f s).2.2.2.cel = s.cel) :
    (svcFrame type seq f s).cel = s.cel := svcFrame_keeps (fun s => s.cel) (by simp) (by simp) type seq f s hf

@[simp] theorem svcFrameOpt_frame_cel (type seq : Nat) (f : State → Option SvcAns × State) (s : State)
    (hf : ∀ s, (∀ a ∈ (f s).1, a.2.2.2.cel = s.cel) ∧ (f s).2.cel = s.cel) : (svcFrameOpt type seq f s).cel = s.cel :=
  svcFrameOpt_keeps (fun s => s.cel) (by simp) (by simp) type seq f s hf

@[simp] theorem withRole_frame_cel (k : Nat) (f : State → SvcAns) (s : State) (hf : ∀ s, (f s).2.2.2.cel = s.cel) :
    (withRole k s f).2.2.2.cel = s.cel := by
  have q1 := svcStat_frame
  unfold withRole; split <;> simp_all

@[simp] theorem inStates_frame_cel (k : Bool) (f : State → SvcAns) (s : State) (hf : ∀ s, (f s).2.2.2.cel = s.cel) :
    (inStates k s f).2.2.2.cel = s.cel := by
  have q1 := svcStat_frame
  unfold inStates; split <;> simp_all

@[simp] theorem wellInput_frame_cel (k : Bool) (f : State → SvcAns) (s : State) (hf : ∀ s, (f s).2.2.2.cel = s.cel) :
    (wellInput k s f).2.2.2.cel = s.cel := by
  have q1 := svcStat_frame
  unfold wellInput; split <;> simp_all

@[simp] theorem mailbox_frame_dmw (op : Nat) (f : State → MbxAns) (s : State) (hf : ∀ s, (f s).2.dmw = s.dmw) :
    (mailbox op f s).dmw = s.dmw := mailbox_keeps (fun s => s.dmw) (by simp) op f s hf

@[simp] theorem mbxOut_frame_dmw (l : List Byte) (s : State) : (mbxOut l s).2.dmw = s.dmw := rfl

@[simp] theorem mbxRc_frame_dmw (rc : Nat) (s : State) : (mbxRc rc s).2.dmw = s.dmw := rfl

@[simp] theorem svcFrame_frame_dmw (type seq : Nat) (f : State → SvcAns) (s : State) (hf : ∀ s, (f s).2.2.2.dmw = s.dmw) :
    (svcFrame type seq f s).dmw = s.dmw := svcFrame_keeps (fun s => s.dmw) (by simp) (by simp) type seq f s hf

@[simp] theorem svcFrameOpt_frame_dmw (type seq : Nat) (f : State → Option SvcAns × State) (s : State)
    (hf : ∀ s, (∀ a ∈ (f s).1, a.2.2.2.dmw = s.dmw) ∧ (f s).2.dmw = s.dmw) : (svcFrameOpt type seq f s).dmw = s.dmw :=
  svcFrameOpt_keeps (fun s => s.dmw) (by simp) (by simp) type seq f s hf

@[simp] theorem withRole_frame_dmw (k : Nat) (f : State → SvcAns) (s : State) (hf : ∀ s, (f s).2.2.2.dmw = s.dmw) :
    (withRole k s f).2.2.2.dmw = s.dmw := by
  have q1 := svcStat_frame
  unfold withRole; split <;> simp_all

@[simp] theorem inStates_frame_dmw (k : Bool) (f : State → SvcAns) (s : State) (hf : ∀ s, (f s).2.2.2.dmw = s.dmw) :
    (inStates k s f).2.2.2.dmw = s.dmw := by
  have q1 := svcStat_frame
  unfold inStates; split <;> simp_all

@[simp] theorem wellInput_frame_dmw (k : Bool) (f : State → SvcAns) (s : State) (hf : ∀ s, (f s).2.2.2.dmw = s.dmw) :
    (wellInput k s f).2.2.2.dmw = s.dmw := by
  have q1 := svcStat_frame
  unfold wellInput; split <;> simp_all

@[simp] theorem mailbox_frame_nrg (op : Nat) (f : State → MbxAns) (s : State) (hf : ∀ s, (f s).2.nrg = s.nrg) :
    (mailbox op f s).nrg = s.nrg := mailbox_keeps (fun s => s.nrg) (by simp) op f s hf

@[simp] theorem mbxOut_frame_nrg (l : List Byte) (s : State) : (mbxOut l s).2.nrg = s.nrg := rfl

@[simp] theorem mbxRc_frame_nrg (rc : Nat) (s : State) : (mbxRc rc s).2.nrg = s.nrg := rfl

@[simp] theorem svcFrame_frame_nrg (type seq : Nat) (f : State → SvcAns) (s : State) (hf : ∀ s, (f s).2.2.2.nrg = s.nrg) :
    (svcFrame type seq f s).nrg = s.nrg := svcFrame_keeps (fun s => s.nrg) (by simp) (by simp) type seq f s hf

@[simp] theorem svcFrameOpt_frame_nrg (type seq : Nat) (f : State → Option SvcAns × State) (s : State)
    (hf : ∀ s, (∀ a ∈ (f s).1, a.2.2.2.nrg = s.nrg) ∧ (f s).2.nrg = s.nrg) : (svcFrameOpt type seq f s).nrg = s.nrg :=
  svcFrameOpt_keeps (fun s => s.nrg) (by simp) (by simp) type seq f s hf

@[simp] theorem withRole_frame_nrg (k : Nat) (f : State → SvcAns) (s : State) (hf : ∀ s, (f s).2.2.2.nrg = s.nrg) :
    (withRole k s f).2.2.2.nrg = s.nrg := by
  have q1 := svcStat_frame
  unfold withRole; split <;> simp_all

@[simp] theorem inStates_frame_nrg (k : Bool) (f : State → SvcAns) (s : State) (hf : ∀ s, (f s).2.2.2.nrg = s.nrg) :
    (inStates k s f).2.2.2.nrg = s.nrg := by
  have q1 := svcStat_frame
  unfold inStates; split <;> simp_all

@[simp] theorem wellInput_frame_nrg (k : Bool) (f : State → SvcAns) (s : State) (hf : ∀ s, (f s).2.2.2.nrg = s.nrg) :
    (wellInput k s f).2.2.2.nrg = s.nrg := by
  have q1 := svcStat_frame
  unfold wellInput; split <;> simp_all

@[simp] theorem mailbox_frame_gau (op : Nat) (f : State → MbxAns) (s : State) (hf : ∀ s, (f s).2.gau = s.gau) :
    (mailbox op f s).gau = s.gau := mailbox_keeps (fun s => s.gau) (by simp) op f s hf

@[simp] theorem mbxOut_frame_gau (l : List Byte) (s : State) : (mbxOut l s).2.gau = s.gau := rfl

@[simp] theorem mbxRc_frame_gau (rc : Nat) (s : State) : (mbxRc rc s).2.gau = s.gau := rfl

@[simp] theorem svcFrame_frame_gau (type seq : Nat) (f : State → SvcAns) (s : State) (hf : ∀ s, (f s).2.2.2.gau = s.gau) :
    (svcFrame type seq f s).gau = s.gau := svcFrame_keeps (fun s => s.gau) (by simp) (by simp) type seq f s hf

@[simp] theorem svcFrameOpt_frame_gau (type seq : Nat) (f : State → Option SvcAns × State) (s : State)
    (hf : ∀ s, (∀ a ∈ (f s).1, a.2.2.2.gau = s.gau) ∧ (f s).2.gau = s.gau) : (svcFrameOpt type seq f s).gau = s.gau :=
  svcFrameOpt_keeps (fun s => s.gau) (by simp) (by simp) type seq f s hf

@[simp] theorem withRole_frame_gau (k : Nat) (f : State → SvcAns) (s : State) (hf : ∀ s, (f s).2.2.2.gau = s.gau) :
    (withRole k s f).2.2.2.gau = s.gau := by
  have q1 := svcStat_frame
  unfold withRole; split <;> simp_all

@[simp] theorem inStates_frame_gau (k : Bool) (f : State → SvcAns) (s : State) (hf : ∀ s, (f s).2.2.2.gau = s.gau) :
    (inStates k s f).2.2.2.gau = s.gau := by
  have q1 := svcStat_frame
  unfold inStates; split <;> simp_all

@[simp] theorem wellInput_frame_gau (k : Bool) (f : State → SvcAns) (s : State) (hf : ∀ s, (f s).2.2.2.gau = s.gau) :
    (wellInput k s f).2.2.2.gau = s.gau := by
  have q1 := svcStat_frame
  unfold wellInput; split <;> simp_all

@[simp] theorem mailbox_frame_rek (op : Nat) (f : State → MbxAns) (s : State) (hf : ∀ s, (f s).2.rek = s.rek) :
    (mailbox op f s).rek = s.rek := mailbox_keeps (fun s => s.rek) (by simp) op f s hf

@[simp] theorem mbxOut_frame_rek (l : List Byte) (s : State) : (mbxOut l s).2.rek = s.rek := rfl

@[simp] theorem mbxRc_frame_rek (rc : Nat) (s : State) : (mbxRc rc s).2.rek = s.rek := rfl

@[simp] theorem svcFrame_frame_rek (type seq : Nat) (f : State → SvcAns) (s : State) (hf : ∀ s, (f s).2.2.2.rek = s.rek) :
    (svcFrame type seq f s).rek = s.rek := svcFrame_keeps (fun s => s.rek) (by simp) (by simp) type seq f s hf

@[simp] theorem svcFrameOpt_frame_rek (type seq : Nat) (f : State → Option SvcAns × State) (s : State)
    (hf : ∀ s, (∀ a ∈ (f s).1, a.2.2.2.rek = s.rek) ∧ (f s).2.rek = s.rek) : (svcFrameOpt type seq f s).rek = s.rek :=
  svcFrameOpt_keeps (fun s => s.rek) (by simp) (by simp) type seq f s hf

@[simp] theorem withRole_frame_rek (k : Nat) (f : State → SvcAns) (s : State) (hf : ∀ s, (f s).2.2.2.rek = s.rek) :
    (withRole k s f).2.2.2.rek = s.rek := by
  have q1 := svcStat_frame
  unfold withRole; split <;> simp_all

@[simp] theorem inStates_frame_rek (k : Bool) (f : State → SvcAns) (s : State) (hf : ∀ s, (f s).2.2.2.rek = s.rek) :
    (inStates k s f).2.2.2.rek = s.rek := by
  have q1 := svcStat_frame
  unfold inStates; split <;> simp_all

@[simp] theorem wellInput_frame_rek (k : Bool) (f : State → SvcAns) (s : State) (hf : ∀ s, (f s).2.2.2.rek = s.rek) :
    (wellInput k s f).2.2.2.rek = s.rek := by
  have q1 := svcStat_frame
  unfold wellInput; split <;> simp_all

@[simp] theorem mailbox_frame_plk (op : Nat) (f : State → MbxAns) (s : State) (hf : ∀ s, (f s).2.plk = s.plk) :
    (mailbox op f s).plk = s.plk := mailbox_keeps (fun s => s.plk) (by simp) op f s hf

@[simp] theorem mbxOut_frame_plk (l : List Byte) (s : State) : (mbxOut l s).2.plk = s.plk := rfl

@[simp] theorem mbxRc_frame_plk (rc : Nat) (s : State) : (mbxRc rc s).2.plk = s.plk := rfl

@[simp] theorem svcFrame_frame_plk (type seq : Nat) (f : State → SvcAns) (s : State) (hf : ∀ s, (f s).2.2.2.plk = s.plk) :
    (svcFrame type seq f s).plk = s.plk := svcFrame_keeps (fun s => s.plk) (by simp) (by simp) type seq f s hf

@[simp] theorem svcFrameOpt_frame_plk (type seq : Nat) (f : State → Option SvcAns × State) (s : State)
    (hf : ∀ s, (∀ a ∈ (f s).1, a.2.2.2.plk = s.plk) ∧ (f s).2.plk = s.plk) : (svcFrameOpt type seq f s).plk = s.plk :=
  svcFrameOpt_keeps (fun s => s.plk) (by simp) (by simp) type seq f s hf

@[simp] theorem withRole_frame_plk (k : Nat) (f : State → SvcAns) (s : State) (hf : ∀ s, (f s).2.2.2.plk = s.plk) :
    (withRole k s f).2.2.2.plk = s.plk := by
  have q1 := svcStat_frame
  unfold withRole; split <;> simp_all

@[simp] theorem inStates_frame_plk (k : Bool) (f : State → SvcAns) (s : State) (hf : ∀ s, (f s).2.2.2.plk = s.plk) :
    (inStates k s f).2.2.2.plk = s.plk := by
  have q1 := svcStat_frame
  unfold inStates; split <;> simp_all

@[simp] theorem wellInput_frame_plk (k : Bool) (f : State → SvcAns) (s : State) (hf : ∀ s, (f s).2.2.2.plk = s.plk) :
    (wellInput k s f).2.2.2.plk = s.plk := by
  have q1 := svcStat_frame
  unfold wellInput; split <;> simp_all

@[simp] theorem mailbox_frame_att (op : Nat) (f : State → MbxAns) (s : State) (hf : ∀ s, (f s).2.att = s.att) :
    (mailbox op f s).att = s.att := mailbox_keeps (fun s => s.att) (by simp) op f s hf

@[simp] theorem mbxOut_frame_att (l : List Byte) (s : State) : (mbxOut l s).2.att = s.att := rfl

@[simp] theorem mbxRc_frame_att (rc : Nat) (s : State) : (mbxRc rc s).2.att = s.att := rfl

@[simp] theorem svcFrame_frame_att (type seq : Nat) (f : State → SvcAns) (s : State) (hf : ∀ s, (f s).2.2.2.att = s.att) :
    (svcFrame type seq f s).att = s.att := svcFrame_keeps (fun s => s.att) (by simp) (by simp) type seq f s hf

@[simp] theorem svcFrameOpt_frame_att (type seq : Nat) (f : State → Option SvcAns × State) (s : State)
    (hf : ∀ s, (∀ a ∈ (f s).1, a.2.2.2.att = s.att) ∧ (f s).2.att = s.att) : (svcFrameOpt type seq f s).att = s.att :=
  svcFrameOpt_keeps (fun s => s.att) (by simp) (by simp) type seq f s hf

@[simp] theorem withRole_frame_att (k : Nat) (f : State → SvcAns) (s : State) (hf : ∀ s, (f s).2.2.2.att = s.att) :
    (withRole k s f).2.2.2.att = s.att := by
  have q1 := svcStat_frame
  unfold withRole; split <;> simp_all

@[simp] theorem inStates_frame_att (k : Bool) (f : State → SvcAns) (s : State) (hf : ∀ s, (f s).2.2.2.att = s.att) :
    (inStates k s f).2.2.2.att = s.att := by
  have q1 := svcStat_frame
  unfold inStates; split <;> simp_all

@[simp] theorem wellInput_frame_att (k : Bool) (f : State → SvcAns) (s : State) (hf : ∀ s, (f s).2.2.2.att = s.att) :
    (wellInput k s f).2.2.2.att = s.att := by
  have q1 := svcStat_frame
  unfold wellInput; split <;> simp_all

@[simp] theorem mailbox_frame_ecc (op : Nat) (f : State → MbxAns) (s : State) (hf : ∀ s, (f s).2.ecc = s.ecc) :
    (mailbox op f s).ecc = s.ecc := mailbox_keeps (fun s => s.ecc) (by simp) op f s hf

@[simp] theorem mbxOut_frame_ecc (l : List Byte) (s : State) : (mbxOut l s).2.ecc = s.ecc := rfl

@[simp] theorem mbxRc_frame_ecc (rc : Nat) (s : State) : (mbxRc rc s).2.ecc = s.ecc := rfl

@[simp] theorem svcFrame_frame_ecc (type seq : Nat) (f : State → SvcAns) (s : State) (hf : ∀ s, (f s).2.2.2.ecc = s.ecc) :
    (svcFrame type seq f s).ecc = s.ecc := svcFrame_keeps (fun s => s.ecc) (by simp) (by simp) type seq f s hf

@[simp] theorem svcFrameOpt_frame_ecc (type seq : Nat) (f : State → Option SvcAns × State) (s : State)
    (hf : ∀ s, (∀ a ∈ (f s).1, a.2.2.2.ecc = s.ecc) ∧ (f s).2.ecc = s.ecc) : (svcFrameOpt type seq f s).ecc = s.ecc :=
  svcFrameOpt_keeps (fun s => s.ecc) (by simp) (by simp) type seq f s hf

@[simp] theorem withRole_frame_ecc (k : Nat) (f : State → SvcAns) (s : State) (hf : ∀ s, (f s).2.2.2.ecc = s.ecc) :
    (withRole k s f).2.2.2.ecc = s.ecc := by
  have q1 := svcStat_frame
  unfold withRole; split <;> simp_all

@[simp] theorem inStates_frame_ecc (k : Bool) (f : State → SvcAns) (s : State) (hf : ∀ s, (f s).2.2.2.ecc = s.ecc) :
    (inStates k s f).2.2.2.ecc = s.ecc := by
  have q1 := svcStat_frame
  unfold inStates; split <;> simp_all

@[simp] theorem wellInput_frame_ecc (k : Bool) (f : State → SvcAns) (s : State) (hf : ∀ s, (f s).2.2.2.ecc = s.ecc) :
    (wellInput k s f).2.2.2.ecc = s.ecc := by
  have q1 := svcStat_frame
  unfold wellInput; split <;> simp_all

@[simp] theorem mailbox_frame_tws (op : Nat) (f : State → MbxAns) (s : State) (hf : ∀ s, (f s).2.tws = s.tws) :
    (mailbox op f s).tws = s.tws := mailbox_keeps (fun s => s.tws) (by simp) op f s hf

@[simp] theorem mbxOut_frame_tws (l : List Byte) (s : State) : (mbxOut l s).2.tws = s.tws := rfl

@[simp] theorem mbxRc_frame_tws (rc : Nat) (s : State) : (mbxRc rc s).2.tws = s.tws := rfl

@[simp] theorem svcFrame_frame_tws (type seq : Nat) (f : State → SvcAns) (s : State) (hf : ∀ s, (f s).2.2.2.tws = s.tws) :
    (svcFrame type seq f s).tws = s.tws := svcFrame_keeps (fun s => s.tws) (by simp) (by simp) type seq f s hf

@[simp] theorem svcFrameOpt_frame_tws (type seq : Nat) (f : State → Option SvcAns × State) (s : State)
    (hf : ∀ s, (∀ a ∈ (f s).1, a.2.2.2.tws = s.tws) ∧ (f s).2.tws = s.tws) : (svcFrameOpt type seq f s).tws = s.tws :=
  svcFrameOpt_keeps (fun s => s.tws) (by simp) (by simp) type seq f s hf

@[simp] theorem withRole_frame_tws (k : Nat) (f : State → SvcAns) (s : State) (hf : ∀ s, (f s).2.2.2.tws = s.tws) :
    (withRole k s f).2.2.2.tws = s.tws := by
  have q1 := svcStat_frame
  unfold withRole; split <;> simp_all

@[simp] theorem inStates_frame_tws (k : Bool) (f : State → SvcAns) (s : State) (hf : ∀ s, (f s).2.2.2.tws = s.tws) :
    (inStates k s f).2.2.2.tws = s.tws := by
  have q1 := svcStat_frame
  unfold inStates; split <;> simp_all

@[simp] theorem wellInput_frame_tws (k : Bool) (f : State → SvcAns) (s : State) (hf : ∀ s, (f s).2.2.2.tws = s.tws) :
    (wellInput k s f).2.2.2.tws = s.tws := by
  have q1 := svcStat_frame
  unfold wellInput; split <;> simp_all

@[simp] theorem mailbox_frame_twp (op : Nat) (f : State → MbxAns) (s : State) (hf : ∀ s, (f s).2.twp = s.twp) :
    (mailbox op f s).twp = s.twp := mailbox_keeps (fun s => s.twp) (by simp) op f s hf

@[simp] theorem mbxOut_frame_twp (l : List Byte) (s : State) : (mbxOut l s).2.twp = s.twp := rfl

@[simp] theorem mbxRc_frame_twp (rc : Nat) (s : State) : (mbxRc rc s).2.twp = s.twp := rfl

@[simp] theorem svcFrame_frame_twp (type seq : Nat) (f : State → SvcAns) (s : State) (hf : ∀ s, (f s).2.2.2.twp = s.twp) :
    (svcFrame type seq f s).twp = s.twp := svcFrame_keeps (fun s => s.twp) (by simp) (by simp) type seq f s hf

@[simp] theorem svcFrameOpt_frame_twp (type seq : Nat) (f : State → Option SvcAns × State) (s : State)
    (hf : ∀ s, (∀ a ∈ (f s).1, a.2.2.2.twp = s.twp) ∧ (f s).2.twp = s.twp) : (svcFrameOpt type seq f s).twp = s.twp :=
  svcFrameOpt_keeps (fun s => s.twp) (by simp) (by simp) type seq f s hf

@[simp] theorem withRole_frame_twp (k : Nat) (f : State → SvcAns) (s : State) (hf : ∀ s, (f s).2.2.2.twp = s.twp) :
    (withRole k s f).2.2.2.twp = s.twp := by
  have q1 := svcStat_frame
  unfold withRole; split <;> simp_all

@[simp] theorem inStates_frame_twp (k : Bool) (f : State → SvcAns) (s : State) (hf : ∀ s, (f s).2.2.2.twp = s.twp) :
    (inStates k s f).2.2.2.twp = s.twp := by
  have q1 := svcStat_frame
  unfold inStates; split <;> simp_all

@[simp] theorem wellInput_frame_twp (k : Bool) (f : State → SvcAns) (s : State) (hf : ∀ s, (f s).2.2.2.twp = s.twp) :
    (wellInput k s f).2.2.2.twp = s.twp := by
  have q1 := svcStat_frame
  unfold wellInput; split <;> simp_all

@[simp] theorem mailbox_frame_svc (op : Nat) (f : State → MbxAns) (s : State) (hf : ∀ s, (f s).2.svc = s.svc) :
    (mailbox op f s).svc = s.svc := mailbox_keeps (fun s => s.svc) (by simp) op f s hf

@[simp] theorem mbxOut_frame_svc (l : List Byte) (s : State) : (mbxOut l s).2.svc = s.svc := rfl

@[simp] theorem mbxRc_frame_svc (rc : Nat) (s : State) : (mbxRc rc s).2.svc = s.svc := rfl

@[simp] theorem withRole_frame_svc (k : Nat) (f : State → SvcAns) (s : State) (hf : ∀ s, (f s).2.2.2.svc = s.svc) :
    (withRole k s f).2.2.2.svc = s.svc := by
  have q1 := svcStat_frame
  unfold withRole; split <;> simp_all

@[simp] theorem inStates_frame_svc (k : Bool) (f : State → SvcAns) (s : State) (hf : ∀ s, (f s).2.2.2.svc = s.svc) :
    (inStates k s f).2.2.2.svc = s.svc := by
  have q1 := svcStat_frame
  unfold inStates; split <;> simp_all

@[simp] theorem wellInput_frame_svc (k : Bool) (f : State → SvcAns) (s : State) (hf : ∀ s, (f s).2.2.2.svc = s.svc) :
    (wellInput k s f).2.2.2.svc = s.svc := by
  have q1 := svcStat_frame
  unfold wellInput; split <;> simp_all

@[simp] theorem mailbox_frame_log (op : Nat) (f : State → MbxAns) (s : State) (hf : ∀ s, (f s).2.log = s.log) :
    (mailbox op f s).log = s.log := mailbox_keeps (fun s => s.log) (by simp) op f s hf

@[simp] theorem mbxOut_frame_log (l : List Byte) (s : State) : (mbxOut l s).2.log = s.log := rfl

@[simp] theorem mbxRc_frame_log (rc : Nat) (s : State) : (mbxRc rc s).2.log = s.log := rfl

@[simp] theorem svcFrame_frame_log (type seq : Nat) (f : State → SvcAns) (s : State) (hf : ∀ s, (f s).2.2.2.log = s.log) :
    (svcFrame type seq f s).log = s.log := svcFrame_keeps (fun s => s.log) (by simp) (by simp) type seq f s hf

@[simp] theorem svcFrameOpt_frame_log (type seq : Nat) (f : State → Option SvcAns × State) (s : State)
    (hf : ∀ s, (∀ a ∈ (f s).1, a.2.2.2.log = s.log) ∧ (f s).2.log = s.log) : (svcFrameOpt type seq f s).log = s.log :=
  svcFrameOpt_keeps (fun s => s.log) (by simp) (by simp) type seq f s hf

@[simp] theorem withRole_frame_log (k : Nat) (f : State → SvcAns) (s : State) (hf : ∀ s, (f s).2.2.2.log = s.log) :
    (withRole k s f).2.2.2.log = s.log := by
  have q1 := svcStat_frame
  unfold withRole; split <;> simp_all

@[simp] theorem inStates_frame_log (k : Bool) (f : State → SvcAns) (s : State) (hf : ∀ s, (f s).2.2.2.log = s.log) :
    (inStates k s f).2.2.2.log = s.log := by
  have q1 := svcStat_frame
  unfold inStates; split <;> simp_all

@[simp] theorem wellInput_frame_log (k : Bool) (f : State → SvcAns) (s : State) (hf : ∀ s, (f s).2.2.2.log = s.log) :
    (wellInput k s f).2.2.2.log = s.log := by
  have q1 := svcStat_frame
  unfold wellInput; split <;> simp_all

@[simp] theorem mailbox_frame_pwr (op : Nat) (f : State → MbxAns) (s : State) (hf : ∀ s, (f s).2.pwr = s.pwr) :
    (mailbox op f s).pwr = s.pwr := mailbox_keeps (fun s => s.pwr) (by simp) op f s hf

@[simp] theorem mbxOut_frame_pwr (l : List Byte) (s : State) : (mbxOut l s).2.pwr = s.pwr := rfl

@[simp] theorem mbxRc_frame_pwr (rc : Nat) (s : State) : (mbxRc rc s).2.pwr = s.pwr := rfl

@[simp] theorem svcFrame_frame_pwr (type seq : Nat) (f : State → SvcAns) (s : State) (hf : ∀ s, (f s).2.2.2.pwr = s.pwr) :
    (svcFrame type seq f s).pwr = s.pwr := svcFrame_keeps (fun s => s.pwr) (by simp) (by simp) type seq f s hf

@[simp] theorem svcFrameOpt_frame_pwr (type seq : Nat) (f : State → Option SvcAns × State) (s : State)
    (hf : ∀ s, (∀ a ∈ (f s).1, a.2.2.2.pwr = s.pwr) ∧ (f s).2.pwr = s.pwr) : (svcFrameOpt type seq f s).pwr = s.pwr :=
  svcFrameOpt_keeps (fun s => s.pwr) (by simp) (by simp) type seq f s hf

@[simp] theorem withRole_frame_pwr (k : Nat) (f : State → SvcAns) (s : State) (hf : ∀ s, (f s).2.2.2.pwr = s.pwr) :
    (withRole k s f).2.2.2.pwr = s.pwr := by
  have q1 := svcStat_frame
  unfold withRole; split <;> simp_all

@[simp] theorem inStates_frame_pwr (k : Bool) (f : State → SvcAns) (s : State) (hf : ∀ s, (f s).2.2.2.pwr = s.pwr) :
    (inStates k s f).2.2.2.pwr = s.pwr := by
  have q1 := svcStat_frame
  unfold inStates; split <;> simp_all

@[simp] theorem wellInput_frame_pwr (k : Bool) (f : State → SvcAns) (s : State) (hf : ∀ s, (f s).2.2.2.pwr = s.pwr) :
    (wellInput k s f).2.2.2.pwr = s.pwr := by
  have q1 := svcStat_frame
  unfold wellInput; split <;> simp_all

@[simp] theorem mailbox_frame_fpl (op : Nat) (f : State → MbxAns) (s : State) (hf : ∀ s, (f s).2.fpl = s.fpl) :
    (mailbox op f s).fpl = s.fpl := mailbox_keeps (fun s => s.fpl) (by simp) op f s hf

@[simp] theorem mbxOut_frame_fpl (l : List Byte) (s : State) : (mbxOut l s).2.fpl = s.fpl := rfl

@[simp] theorem mbxRc_frame_fpl (rc : Nat) (s : State) : (mbxRc rc s).2.fpl = s.fpl := rfl

@[simp] theorem svcFrame_frame_fpl (type seq : Nat) (f : State → SvcAns) (s : State) (hf : ∀ s, (f s).2.2.2.fpl = s.fpl) :
    (svcFrame type seq f s).fpl = s.fpl := svcFrame_keeps (fun s => s.fpl) (by simp) (by simp) type seq f s hf

@[simp] theorem svcFrameOpt_frame_fpl (type seq : Nat) (f : State → Option SvcAns × State) (s : State)
    (hf : ∀ s, (∀ a ∈ (f s).1, a.2.2.2.fpl = s.fpl) ∧ (f s).2.fpl = s.fpl) : (svcFrameOpt type seq f s).fpl = s.fpl :=
  svcFrameOpt_keeps (fun s => s.fpl) (by simp) (by simp) type seq f s hf

@[simp] theorem withRole_frame_fpl (k : Nat) (f : State → SvcAns) (s : State) (hf : ∀ s, (f s).2.2.2.fpl = s.fpl) :
    (withRole k s f).2.2.2.fpl = s.fpl := by
  have q1 := svcStat_frame
  unfold withRole; split <;> simp_all

@[simp] theorem inStates_frame_fpl (k : Bool) (f : State → SvcAns) (s : State) (hf : ∀ s, (f s).2.2.2.fpl = s.fpl) :
    (inStates k s f).2.2.2.fpl = s.fpl := by
  have q1 := svcStat_frame
  unfold inStates; split <;> simp_all

@[simp] theorem wellInput_frame_fpl (k : Bool) (f : State → SvcAns) (s : State) (hf : ∀ s, (f s).2.2.2.fpl = s.fpl) :
    (wellInput k s f).2.2.2.fpl = s.fpl := by
  have q1 := svcStat_frame
  unfold wellInput; split <;> simp_all

@[simp] theorem mailbox_frame_jtag (op : Nat) (f : State → MbxAns) (s : State) (hf : ∀ s, (f s).2.jtag = s.jtag) :
    (mailbox op f s).jtag = s.jtag := mailbox_keeps (fun s => s.jtag) (by simp) op f s hf

@[simp] theorem mbxOut_frame_jtag (l : List Byte) (s : State) : (mbxOut l s).2.jtag = s.jtag := rfl

@[simp] theorem mbxRc_frame_jtag (rc : Nat) (s : State) : (mbxRc rc s).2.jtag = s.jtag := rfl

@[simp] theorem svcFrame_frame_jtag (type seq : Nat) (f : State → SvcAns) (s : State) (hf : ∀ s, (f s).2.2.2.jtag = s.jtag) :
    (svcFrame type seq f s).jtag = s.jtag := svcFrame_keeps (fun s => s.jtag) (by simp) (by simp) type seq f s hf

@[simp] theorem svcFrameOpt_frame_jtag (type seq : Nat) (f : State → Option SvcAns × State) (s : State)
    (hf : ∀ s, (∀ a ∈ (f s).1, a.2.2.2.jtag = s.jtag) ∧ (f s).2.jtag = s.jtag) : (svcFrameOpt type seq f s).jtag = s.jtag :=
  svcFrameOpt_keeps (fun s => s.jtag) (by simp) (by simp) type seq f s hf

@[simp] theorem withRole_frame_jtag (k : Nat) (f : State → SvcAns) (s : State) (hf : ∀ s, (f s).2.2.2.jtag = s.jtag) :
    (withRole k s f).2.2.2.jtag = s.jtag := by
  have q1 := svcStat_frame
  unfold withRole; split <;> simp_all

@[simp] theorem inStates_frame_jtag (k : Bool) (f : State → SvcAns) (s : State) (hf : ∀ s, (f s).2.2.2.jtag = s.jtag) :
    (inStates k s f).2.2.2.jtag = s.jtag := by
  have q1 := svcStat_frame
  unfold inStates; split <;> simp_all

@[simp] theorem wellInput_frame_jtag (k : Bool) (f : State → SvcAns) (s : State) (hf : ∀ s, (f s).2.2.2.jtag = s.jtag) :
    (wellInput k s f).2.2.2.jtag = s.jtag := by
  have q1 := svcStat_frame
  unfold wellInput; split <;> simp_all

@[simp] theorem mailbox_frame_fuses (op : Nat) (f : State → MbxAns) (s : State) (hf : ∀ s, (f s).2.fuses = s.fuses) :
    (mailbox op f s).fuses = s.fuses := mailbox_keeps (fun s => s.fuses) (by simp) op f s hf

@[simp] theorem mbxOut_frame_fuses (l : List Byte) (s : State) : (mbxOut l s).2.fuses = s.fuses := rfl

@[simp] theorem mbxRc_frame_fuses (rc : Nat) (s : State) : (mbxRc rc s).2.fuses = s.fuses := rfl

@[simp] theorem svcFrame_frame_fuses (type seq : Nat) (f : State → SvcAns) (s : State) (hf : ∀ s, (f s).2.2.2.fuses = s.fuses) :
    (svcFrame type seq f s).fuses = s.fuses := svcFrame_keeps (fun s => s.fuses) (by simp) (by simp) type seq f s hf

@[simp] theorem svcFrameOpt_frame_fuses (type seq : Nat) (f : State → Option SvcAns × State) (s : State)
    (hf : ∀ s, (∀ a ∈ (f s).1, a.2.2.2.fuses = s.fuses) ∧ (f s).2.fuses = s.fuses) : (svcFrameOpt type seq f s).fuses = s.fuses :=
  svcFrameOpt_keeps (fun s => s.fuses) (by simp) (by simp) type seq f s hf

@[simp] theorem withRole_frame_fuses (k : Nat) (f : State → SvcAns) (s : State) (hf : ∀ s, (f s).2.2.2.fuses = s.fuses) :
    (withRole k s f).2.2.2.fuses = s.fuses := by
  have q1 := svcStat_frame
  unfold withRole; split <;> simp_all

@[simp] theorem inStates_frame_fuses (k : Bool) (f : State → SvcAns) (s : State) (hf : ∀ s, (f s).2.2.2.fuses = s.fuses) :
    (inStates k s f).2.2.2.fuses = s.fuses := by
  have q1 := svcStat_frame
  unfold inStates; split <;> simp_all

@[simp] theorem wellInput_frame_fuses (k : Bool) (f : State → SvcAns) (s : State) (hf : ∀ s, (f s).2.2.2.fuses = s.fuses) :
    (wellInput k s f).2.2.2.fuses = s.fuses := by
  have q1 := svcStat_frame
  unfold wellInput; split <;> simp_all

@[simp] theorem mailbox_frame_cal (op : Nat) (f : State → MbxAns) (s : State) (hf : ∀ s, (f s).2.cal = s.cal) :
    (mailbox op f s).cal = s.cal := mailbox_keeps (fun s => s.cal) (by simp) op f s hf

@[simp] theorem mbxOut_frame_cal (l : List Byte) (s : State) : (mbxOut l s).2.cal = s.cal := rfl

@[simp] theorem mbxRc_frame_cal (rc : Nat) (s : State) : (mbxRc rc s).2.cal = s.cal := rfl

@[simp] theorem svcFrame_frame_cal (type seq : Nat) (f : State → SvcAns) (s : State) (hf : ∀ s, (f s).2.2.2.cal = s.cal) :
    (svcFrame type seq f s).cal = s.cal := svcFrame_keeps (fun s => s.cal) (by simp) (by simp) type seq f s hf

@[simp] theorem svcFrameOpt_frame_cal (type seq : Nat) (f : State → Option SvcAns × State) (s : State)
    (hf : ∀ s, (∀ a ∈ (f s).1, a.2.2.2.cal = s.cal) ∧ (f s).2.cal = s.cal) : (svcFrameOpt type seq f s).cal = s.cal :=
  svcFrameOpt_keeps (fun s => s.cal) (by simp) (by simp) type seq f s hf

@[simp] theorem withRole_frame_cal (k : Nat) (f : State → SvcAns) (s : State) (hf : ∀ s, (f s).2.2.2.cal = s.cal) :
    (withRole k s f).2.2.2.cal = s.cal := by
  have q1 := svcStat_frame
  unfold withRole; split <;> simp_all

@[simp] theorem inStates_frame_cal (k : Bool) (f : State → SvcAns) (s : State) (hf : ∀ s, (f s).2.2.2.cal = s.cal) :
    (inStates k s f).2.2.2.cal = s.cal := by
  have q1 := svcStat_frame
  unfold inStates; split <;> simp_all

@[simp] theorem wellInput_frame_cal (k : Bool) (f : State → SvcAns) (s : State) (hf : ∀ s, (f s).2.2.2.cal = s.cal) :
    (wellInput k s f).2.2.2.cal = s.cal := by
  have q1 := svcStat_frame
  unfold wellInput; split <;> simp_all

@[simp] theorem mailbox_frame_free (op : Nat) (f : State → MbxAns) (s : State) (hf : ∀ s, (f s).2.free = s.free) :
    (mailbox op f s).free = s.free := mailbox_keeps (fun s => s.free) (by simp) op f s hf

@[simp] theorem mbxOut_frame_free (l : List Byte) (s : State) : (mbxOut l s).2.free = s.free := rfl

@[simp] theorem mbxRc_frame_free (rc : Nat) (s : State) : (mbxRc rc s).2.free = s.free := rfl

@[simp] theorem svcFrame_frame_free (type seq : Nat) (f : State → SvcAns) (s : State) (hf : ∀ s, (f s).2.2.2.free = s.free) :
    (svcFrame type seq f s).free = s.free := svcFrame_keeps (fun s => s.free) (by simp) (by simp) type seq f s hf

@[simp] theorem svcFrameOpt_frame_free (type seq : Nat) (f : State → Option SvcAns × State) (s : State)
    (hf : ∀ s, (∀ a ∈ (f s).1, a.2.2.2.free = s.free) ∧ (f s).2.free = s.free) : (svcFrameOpt type seq f s).free = s.free :=
  svcFrameOpt_keeps (fun s => s.free) (by simp) (by simp) type seq f s hf

@[simp] theorem withRole_frame_free (k : Nat) (f : State → SvcAns) (s : State) (hf : ∀ s, (f s).2.2.2.free = s.free) :
    (withRole k s f).2.2.2.free = s.free := by
  have q1 := svcStat_frame
  unfold withRole; split <;> simp_all

@[simp] theorem inStates_frame_free (k : Bool) (f : State → SvcAns) (s : State) (hf : ∀ s, (f s).2.2.2.free = s.free) :
    (inStates k s f).2.2.2.free = s.free := by
  have q1 := svcStat_frame
  unfold inStates; split <;> simp_all

@[simp] theorem wellInput_frame_free (k : Bool) (f : State → SvcAns) (s : State) (hf : ∀ s, (f s).2.2.2.free = s.free) :
    (wellInput k s f).2.2.2.free = s.free := by
  have q1 := svcStat_frame
  unfold wellInput; split <;> simp_all

@[simp] theorem mailbox_frame_pending (op : Nat) (f : State → MbxAns) (s : State) (hf : ∀ s, (f s).2.pending = s.pending) :
    (mailbox op f s).pending = s.pending := mailbox_keeps (fun s => s.pending) (by simp) op f s hf

@[simp] theorem mbxOut_frame_pending (l : List Byte) (s : State) : (mbxOut l s).2.pending = s.pending := rfl

@[simp] theorem mbxRc_frame_pending (rc : Nat) (s : State) : (mbxRc rc s).2.pending = s.pending := rfl

@[simp] theorem svcFrame_frame_pending (type seq : Nat) (f : State → SvcAns)
    (s : State) (hf : ∀ s, (f s).2.2.2.pending = s.pending) :
    (svcFrame type seq f s).pending = s.pending := svcFrame_keeps (fun s => s.pending) (by simp) (by simp) type seq f s hf

@[simp] theorem svcFrameOpt_frame_pending (type seq : Nat) (f : State → Option SvcAns × State) (s : State)
    (hf : ∀ s, (∀ a ∈ (f s).1, a.2.2.2.pending = s.pending) ∧
      (f s).2.pending = s.pending) : (svcFrameOpt type seq f s).pending = s.pending :=
  svcFrameOpt_keeps (fun s => s.pending) (by simp) (by simp) type seq f s hf

@[simp] theorem withRole_frame_pending (k : Nat) (f : State → SvcAns) (s : State) (hf : ∀ s, (f s).2.2.2.pending = s.pending) :
    (withRole k s f).2.2.2.pending = s.pending := by
  have q1 := svcStat_frame
  unfold withRole; split <;> simp_all

@[simp] theorem inStates_frame_pending (k : Bool) (f : State → SvcAns) (s : State) (hf : ∀ s, (f s).2.2.2.pending = s.pending) :
    (inStates k s f).2.2.2.pending = s.pending := by
  have q1 := svcStat_frame
  unfold inStates; split <;> simp_all

@[simp] theorem wellInput_frame_pending (k : Bool) (f : State → SvcAns) (s : State) (hf : ∀ s, (f s).2.2.2.pending = s.pending) :
    (wellInput k s f).2.2.2.pending = s.pending := by
  have q1 := svcStat_frame
  unfold wellInput; split <;> simp_all

theorem mailbox_mbxRc_const_frame (op r : Nat) (s : State) :
    (mailbox op (fun s => mbxRc r s) s).almanac = s.almanac ∧ (mailbox op (fun s => mbxRc r s) s).dev = s.dev ∧
      (mailbox op (fun s => mbxRc r s) s).stations = s.stations ∧ (mailbox op (fun s => mbxRc r s) s).hst = s.hst ∧
      (mailbox op (fun s => mbxRc r s) s).drc = s.drc ∧ (mailbox op (fun s => mbxRc r s) s).dram = s.dram ∧
      (mailbox op (fun s => mbxRc r s) s).cht = s.cht ∧ (mailbox op (fun s => mbxRc r s) s).sui = s.sui ∧
      (mailbox op (fun s => mbxRc r s) s).stw = s.stw ∧ (mailbox op (fun s => mbxRc r s) s).sav = s.sav ∧
      (mailbox op (fun s => mbxRc r s) s).cel = s.cel ∧ (mailbox op (fun s => mbxRc r s) s).dmw = s.dmw ∧
      (mailbox op (fun s => mbxRc r s) s).nrg = s.nrg ∧ (mailbox op (fun s => mbxRc r s) s).gau = s.gau ∧
      (mailbox op (fun s => mbxRc r s) s).rek = s.rek ∧ (mailbox op (fun s => mbxRc r s) s).plk = s.plk ∧
      (mailbox op (fun s => mbxRc r s) s).att = s.att ∧ (mailbox op (fun s => mbxRc r s) s).ecc = s.ecc ∧
      (mailbox op (fun s => mbxRc r s) s).tws = s.tws ∧ (mailbox op (fun s => mbxRc r s) s).twp = s.twp ∧
      (mailbox op (fun s => mbxRc r s) s).svc = s.svc ∧ (mailbox op (fun s => mbxRc r s) s).log = s.log ∧
      (mailbox op (fun s => mbxRc r s) s).pwr = s.pwr ∧ (mailbox op (fun s => mbxRc r s) s).fpl = s.fpl ∧
      (mailbox op (fun s => mbxRc r s) s).jtag = s.jtag ∧ (mailbox op (fun s => mbxRc r s) s).fuses = s.fuses ∧
      (mailbox op (fun s => mbxRc r s) s).cal = s.cal ∧ (mailbox op (fun s => mbxRc r s) s).free = s.free ∧
      (mailbox op (fun s => mbxRc r s) s).pending = s.pending :=
  ⟨mailbox_keeps (fun s => s.almanac) (by simp) op _ s (fun _ => rfl),
    mailbox_keeps (fun s => s.dev) (by simp) op _ s (fun _ => rfl),
    mailbox_keeps (fun s => s.stations) (by simp) op _ s (fun _ => rfl),
    mailbox_keeps (fun s => s.hst) (by simp) op _ s (fun _ => rfl),
    mailbox_keeps (fun s => s.drc) (by simp) op _ s (fun _ => rfl),
    mailbox_keeps (fun s => s.dram) (by simp) op _ s (fun _ => rfl),
    mailbox_keeps (fun s => s.cht) (by simp) op _ s (fun _ => rfl),
    mailbox_keeps (fun s => s.sui) (by simp) op _ s (fun _ => rfl),
    mailbox_keeps (fun s => s.stw) (by simp) op _ s (fun _ => rfl),
    mailbox_keeps (fun s => s.sav) (by simp) op _ s (fun _ => rfl),
    mailbox_keeps (fun s => s.cel) (by simp) op _ s (fun _ => rfl),
    mailbox_keeps (fun s => s.dmw) (by simp) op _ s (fun _ => rfl),
    mailbox_keeps (fun s => s.nrg) (by simp) op _ s (fun _ => rfl),
    mailbox_keeps (fun s => s.gau) (by simp) op _ s (fun _ => rfl),
    mailbox_keeps (fun s => s.rek) (by simp) op _ s (fun _ => rfl),
    mailbox_keeps (fun s => s.plk) (by simp) op _ s (fun _ => rfl),
    mailbox_keeps (fun s => s.att) (by simp) op _ s (fun _ => rfl),
    mailbox_keeps (fun s => s.ecc) (by simp) op _ s (fun _ => rfl),
    mailbox_keeps (fun s => s.tws) (by simp) op _ s (fun _ => rfl),
    mailbox_keeps (fun s => s.twp) (by simp) op _ s (fun _ => rfl),
    mailbox_keeps (fun s => s.svc) (by simp) op _ s (fun _ => rfl),
    mailbox_keeps (fun s => s.log) (by simp) op _ s (fun _ => rfl),
    mailbox_keeps (fun s => s.pwr) (by simp) op _ s (fun _ => rfl),
    mailbox_keeps (fun s => s.fpl) (by simp) op _ s (fun _ => rfl),
    mailbox_keeps (fun s => s.jtag) (by simp) op _ s (fun _ => rfl),
    mailbox_keeps (fun s => s.fuses) (by simp) op _ s (fun _ => rfl),
    mailbox_keeps (fun s => s.cal) (by simp) op _ s (fun _ => rfl),
    mailbox_keeps (fun s => s.free) (by simp) op _ s (fun _ => rfl),
    mailbox_keeps (fun s => s.pending) (by simp) op _ s (fun _ => rfl)⟩

theorem mailbox_mbxOut_frame (op : Nat) (l : State → List Byte) (s : State) :
    (mailbox op (fun s => mbxOut (l s) s) s).almanac = s.almanac ∧ (mailbox op (fun s => mbxOut (l s) s) s).dev = s.dev ∧
      (mailbox op (fun s => mbxOut (l s) s) s).stations = s.stations ∧ (mailbox op (fun s => mbxOut (l s) s) s).hst = s.hst ∧
      (mailbox op (fun s => mbxOut (l s) s) s).drc = s.drc ∧ (mailbox op (fun s => mbxOut (l s) s) s).dram = s.dram ∧
      (mailbox op (fun s => mbxOut (l s) s) s).cht = s.cht ∧ (mailbox op (fun s => mbxOut (l s) s) s).sui = s.sui ∧
      (mailbox op (fun s => mbxOut (l s) s) s).stw = s.stw ∧ (mailbox op (fun s => mbxOut (l s) s) s).sav = s.sav ∧
      (mailbox op (fun s => mbxOut (l s) s) s).cel = s.cel ∧ (mailbox op (fun s => mbxOut (l s) s) s).dmw = s.dmw ∧
      (mailbox op (fun s => mbxOut (l s) s) s).nrg = s.nrg ∧ (mailbox op (fun s => mbxOut (l s) s) s).gau = s.gau ∧
      (mailbox op (fun s => mbxOut (l s) s) s).rek = s.rek ∧ (mailbox op (fun s => mbxOut (l s) s) s).plk = s.plk ∧
      (mailbox op (fun s => mbxOut (l s) s) s).att = s.att ∧ (mailbox op (fun s => mbxOut (l s) s) s).ecc = s.ecc ∧
      (mailbox op (fun s => mbxOut (l s) s) s).tws = s.tws ∧ (mailbox op (fun s => mbxOut (l s) s) s).twp = s.twp ∧
      (mailbox op (fun s => mbxOut (l s) s) s).svc = s.svc ∧ (mailbox op (fun s => mbxOut (l s) s) s).log = s.log ∧
      (mailbox op (fun s => mbxOut (l s) s) s).pwr = s.pwr ∧ (mailbox op (fun s => mbxOut (l s) s) s).fpl = s.fpl ∧
      (mailbox op (fun s => mbxOut (l s) s) s).jtag = s.jtag ∧ (mailbox op (fun s => mbxOut (l s) s) s).fuses = s.fuses ∧
      (mailbox op (fun s => mbxOut (l s) s) s).cal = s.cal ∧ (mailbox op (fun s => mbxOut (l s) s) s).free = s.free ∧
      (mailbox op (fun s => mbxOut (l s) s) s).pending = s.pending :=
  ⟨mailbox_keeps (fun s => s.almanac) (by simp) op _ s (fun _ => rfl),
    mailbox_keeps (fun s => s.dev) (by simp) op _ s (fun _ => rfl),
    mailbox_keeps (fun s => s.stations) (by simp) op _ s (fun _ => rfl),
    mailbox_keeps (fun s => s.hst) (by simp) op _ s (fun _ => rfl),
    mailbox_keeps (fun s => s.drc) (by simp) op _ s (fun _ => rfl),
    mailbox_keeps (fun s => s.dram) (by simp) op _ s (fun _ => rfl),
    mailbox_keeps (fun s => s.cht) (by simp) op _ s (fun _ => rfl),
    mailbox_keeps (fun s => s.sui) (by simp) op _ s (fun _ => rfl),
    mailbox_keeps (fun s => s.stw) (by simp) op _ s (fun _ => rfl),
    mailbox_keeps (fun s => s.sav) (by simp) op _ s (fun _ => rfl),
    mailbox_keeps (fun s => s.cel) (by simp) op _ s (fun _ => rfl),
    mailbox_keeps (fun s => s.dmw) (by simp) op _ s (fun _ => rfl),
    mailbox_keeps (fun s => s.nrg) (by simp) op _ s (fun _ => rfl),
    mailbox_keeps (fun s => s.gau) (by simp) op _ s (fun _ => rfl),
    mailbox_keeps (fun s => s.rek) (by simp) op _ s (fun _ => rfl),
    mailbox_keeps (fun s => s.plk) (by simp) op _ s (fun _ => rfl),
    mailbox_keeps (fun s => s.att) (by simp) op _ s (fun _ => rfl),
    mailbox_keeps (fun s => s.ecc) (by simp) op _ s (fun _ => rfl),
    mailbox_keeps (fun s => s.tws) (by simp) op _ s (fun _ => rfl),
    mailbox_keeps (fun s => s.twp) (by simp) op _ s (fun _ => rfl),
    mailbox_keeps (fun s => s.svc) (by simp) op _ s (fun _ => rfl),
    mailbox_keeps (fun s => s.log) (by simp) op _ s (fun _ => rfl),
    mailbox_keeps (fun s => s.pwr) (by simp) op _ s (fun _ => rfl),
    mailbox_keeps (fun s => s.fpl) (by simp) op _ s (fun _ => rfl),
    mailbox_keeps (fun s => s.jtag) (by simp) op _ s (fun _ => rfl),
    mailbox_keeps (fun s => s.fuses) (by simp) op _ s (fun _ => rfl),
    mailbox_keeps (fun s => s.cal) (by simp) op _ s (fun _ => rfl),
    mailbox_keeps (fun s => s.free) (by simp) op _ s (fun _ => rfl),
    mailbox_keeps (fun s => s.pending) (by simp) op _ s (fun _ => rfl)⟩

theorem mailbox_mbxRc_frame (op : Nat) (r : State → Nat) (s : State) :
    (mailbox op (fun s => mbxRc (r s) s) s).almanac = s.almanac ∧ (mailbox op (fun s => mbxRc (r s) s) s).dev = s.dev ∧
      (mailbox op (fun s => mbxRc (r s) s) s).stations = s.stations ∧ (mailbox op (fun s => mbxRc (r s) s) s).hst = s.hst ∧
      (mailbox op (fun s => mbxRc (r s) s) s).drc = s.drc ∧ (mailbox op (fun s => mbxRc (r s) s) s).dram = s.dram ∧
      (mailbox op (fun s => mbxRc (r s) s) s).cht = s.cht ∧ (mailbox op (fun s => mbxRc (r s) s) s).sui = s.sui ∧
      (mailbox op (fun s => mbxRc (r s) s) s).stw = s.stw ∧ (mailbox op (fun s => mbxRc (r s) s) s).sav = s.sav ∧
      (mailbox op (fun s => mbxRc (r s) s) s).cel = s.cel ∧ (mailbox op (fun s => mbxRc (r s) s) s).dmw = s.dmw ∧
      (mailbox op (fun s => mbxRc (r s) s) s).nrg = s.nrg ∧ (mailbox op (fun s => mbxRc (r s) s) s).gau = s.gau ∧
      (mailbox op (fun s => mbxRc (r s) s) s).rek = s.rek ∧ (mailbox op (fun s => mbxRc (r s) s) s).plk = s.plk ∧
      (mailbox op (fun s => mbxRc (r s) s) s).att = s.att ∧ (mailbox op (fun s => mbxRc (r s) s) s).ecc = s.ecc ∧
      (mailbox op (fun s => mbxRc (r s) s) s).tws = s.tws ∧ (mailbox op (fun s => mbxRc (r s) s) s).twp = s.twp ∧
      (mailbox op (fun s => mbxRc (r s) s) s).svc = s.svc ∧ (mailbox op (fun s => mbxRc (r s) s) s).log = s.log ∧
      (mailbox op (fun s => mbxRc (r s) s) s).pwr = s.pwr ∧ (mailbox op (fun s => mbxRc (r s) s) s).fpl = s.fpl ∧
      (mailbox op (fun s => mbxRc (r s) s) s).jtag = s.jtag ∧ (mailbox op (fun s => mbxRc (r s) s) s).fuses = s.fuses ∧
      (mailbox op (fun s => mbxRc (r s) s) s).cal = s.cal ∧ (mailbox op (fun s => mbxRc (r s) s) s).free = s.free ∧
      (mailbox op (fun s => mbxRc (r s) s) s).pending = s.pending :=
  ⟨mailbox_keeps (fun s => s.almanac) (by simp) op _ s (fun _ => rfl),
    mailbox_keeps (fun s => s.dev) (by simp) op _ s (fun _ => rfl),
    mailbox_keeps (fun s => s.stations) (by simp) op _ s (fun _ => rfl),
    mailbox_keeps (fun s => s.hst) (by simp) op _ s (fun _ => rfl),
    mailbox_keeps (fun s => s.drc) (by simp) op _ s (fun _ => rfl),
    mailbox_keeps (fun s => s.dram) (by simp) op _ s (fun _ => rfl),
    mailbox_keeps (fun s => s.cht) (by simp) op _ s (fun _ => rfl),
    mailbox_keeps (fun s => s.sui) (by simp) op _ s (fun _ => rfl),
    mailbox_keeps (fun s => s.stw) (by simp) op _ s (fun _ => rfl),
    mailbox_keeps (fun s => s.sav) (by simp) op _ s (fun _ => rfl),
    mailbox_keeps (fun s => s.cel) (by simp) op _ s (fun _ => rfl),
    mailbox_keeps (fun s => s.dmw) (by simp) op _ s (fun _ => rfl),
    mailbox_keeps (fun s => s.nrg) (by simp) op _ s (fun _ => rfl),
    mailbox_keeps (fun s => s.gau) (by simp) op _ s (fun _ => rfl),
    mailbox_keeps (fun s => s.rek) (by simp) op _ s (fun _ => rfl),
    mailbox_keeps (fun s => s.plk) (by simp) op _ s (fun _ => rfl),
    mailbox_keeps (fun s => s.att) (by simp) op _ s (fun _ => rfl),
    mailbox_keeps (fun s => s.ecc) (by simp) op _ s (fun _ => rfl),
    mailbox_keeps (fun s => s.tws) (by simp) op _ s (fun _ => rfl),
    mailbox_keeps (fun s => s.twp) (by simp) op _ s (fun _ => rfl),
    mailbox_keeps (fun s => s.svc) (by simp) op _ s (fun _ => rfl),
    mailbox_keeps (fun s => s.log) (by simp) op _ s (fun _ => rfl),
    mailbox_keeps (fun s => s.pwr) (by simp) op _ s (fun _ => rfl),
    mailbox_keeps (fun s => s.fpl) (by simp) op _ s (fun _ => rfl),
    mailbox_keeps (fun s => s.jtag) (by simp) op _ s (fun _ => rfl),
    mailbox_keeps (fun s => s.fuses) (by simp) op _ s (fun _ => rfl),
    mailbox_keeps (fun s => s.cal) (by simp) op _ s (fun _ => rfl),
    mailbox_keeps (fun s => s.free) (by simp) op _ s (fun _ => rfl),
    mailbox_keeps (fun s => s.pending) (by simp) op _ s (fun _ => rfl)⟩

theorem payOwed_keeps {β : Type} (g : State → β) (h1 : ∀ (s : State) v, g { s with svc := v } = g s)
    (h2 : ∀ o (s : State), g (emit o s) = g s) (type status : Nat) (s : State) : g (payOwed type status s) = g s := by
  unfold payOwed
  simp only [answer, sendResponse]
  split
  · rw [h1]
  · split
    · rw [h2, h1]; simp only [svcStat]; rw [h1, h1]
    · rw [h1, h1]

theorem payOwed_frame (type status : Nat) (s : State) :
    (payOwed type status s).almanac = s.almanac ∧ (payOwed type status s).dev = s.dev ∧
      (payOwed type status s).stations = s.stations ∧ (payOwed type status s).hst = s.hst ∧
      (payOwed type status s).drc = s.drc ∧ (payOwed type status s).dram = s.dram ∧ (payOwed type status s).cht = s.cht ∧
      (payOwed type status s).sui = s.sui ∧ (payOwed type status s).stw = s.stw ∧ (payOwed type status s).sav = s.sav ∧
      (payOwed type status s).cel = s.cel ∧ (payOwed type status s).dmw = s.dmw ∧ (payOwed type status s).nrg = s.nrg ∧
      (payOwed type status s).gau = s.gau ∧ (payOwed type status s).rek = s.rek ∧ (payOwed type status s).plk = s.plk ∧
      (payOwed type status s).att = s.att ∧ (payOwed type status s).ecc = s.ecc ∧ (payOwed type status s).tws = s.tws ∧
      (payOwed type status s).twp = s.twp ∧ (payOwed type status s).log = s.log ∧ (payOwed type status s).pwr = s.pwr ∧
      (payOwed type status s).fpl = s.fpl ∧ (payOwed type status s).jtag = s.jtag ∧ (payOwed type status s).fuses = s.fuses ∧
      (payOwed type status s).cal = s.cal ∧ (payOwed type status s).free = s.free ∧
      (payOwed type status s).pending = s.pending :=
  ⟨payOwed_keeps (fun s => s.almanac) (by simp) (by simp) type status s,
    payOwed_keeps (fun s => s.dev) (by simp) (by simp) type status s,
    payOwed_keeps (fun s => s.stations) (by simp) (by simp) type status s,
    payOwed_keeps (fun s => s.hst) (by simp) (by simp) type status s,
    payOwed_keeps (fun s => s.drc) (by simp) (by simp) type status s,
    payOwed_keeps (fun s => s.dram) (by simp) (by simp) type status s,
    payOwed_keeps (fun s => s.cht) (by simp) (by simp) type status s,
    payOwed_keeps (fun s => s.sui) (by simp) (by simp) type status s,
    payOwed_keeps (fun s => s.stw) (by simp) (by simp) type status s,
    payOwed_keeps (fun s => s.sav) (by simp) (by simp) type status s,
    payOwed_keeps (fun s => s.cel) (by simp) (by simp) type status s,
    payOwed_keeps (fun s => s.dmw) (by simp) (by simp) type status s,
    payOwed_keeps (fun s => s.nrg) (by simp) (by simp) type status s,
    payOwed_keeps (fun s => s.gau) (by simp) (by simp) type status s,
    payOwed_keeps (fun s => s.rek) (by simp) (by simp) type status s,
    payOwed_keeps (fun s => s.plk) (by simp) (by simp) type status s,
    payOwed_keeps (fun s => s.att) (by simp) (by simp) type status s,
    payOwed_keeps (fun s => s.ecc) (by simp) (by simp) type status s,
    payOwed_keeps (fun s => s.tws) (by simp) (by simp) type status s,
    payOwed_keeps (fun s => s.twp) (by simp) (by simp) type status s,
    payOwed_keeps (fun s => s.log) (by simp) (by simp) type status s,
    payOwed_keeps (fun s => s.pwr) (by simp) (by simp) type status s,
    payOwed_keeps (fun s => s.fpl) (by simp) (by simp) type status s,
    payOwed_keeps (fun s => s.jtag) (by simp) (by simp) type status s,
    payOwed_keeps (fun s => s.fuses) (by simp) (by simp) type status s,
    payOwed_keeps (fun s => s.cal) (by simp) (by simp) type status s,
    payOwed_keeps (fun s => s.free) (by simp) (by simp) type status s,
    payOwed_keeps (fun s => s.pending) (by simp) (by simp) type status s⟩

theorem endExercise_frame (result : Nat) (s : State) :
    (endExercise result s).almanac = s.almanac ∧ (endExercise result s).fuses = s.fuses ∧
      (endExercise result s).pending = s.pending := by
  have q1 := endSuperCycle_frame
  have q2 := raise_frame
  unfold endExercise markStep markStore
  cases s.nrg.exer with
  | none => simp
  | some x =>
    simp only
    refine ⟨?_, ?_, ?_⟩ <;> ((repeat' split) <;> simp [q1, q2])

theorem readAs_frame (master ofs : Nat) (s : State) :
    (readAs master ofs s).2.almanac = s.almanac ∧ (readAs master ofs s).2.fuses = s.fuses ∧
      (readAs master ofs s).2.cal = s.cal ∧ (readAs master ofs s).2.pending = s.pending := by
  have q1 := raiseAddr_frame
  have q2 := readReg_frame
  have h := readReg_frame ofs s
  unfold readAs
  split <;> rename_i e <;> rw [e] at h <;> simp_all

theorem raiseTimes_frame (c : FClass) (addr n : Nat) (s : State) :
    (raiseTimes c addr n s).almanac = s.almanac ∧ (raiseTimes c addr n s).fuses = s.fuses ∧
      (raiseTimes c addr n s).cal = s.cal ∧ (raiseTimes c addr n s).pending = s.pending := by
  have q1 := raiseAddr_frame
  induction n generalizing s with
  | zero => simp [raiseTimes]
  | succ n ih => simp [q1, raiseTimes, ih]

theorem execDiscardWindowEnd_frame (s : State) :
    (resAfter (execDiscardWindowEnd s) s).dev = s.dev ∧ (resAfter (execDiscardWindowEnd s) s).stations = s.stations ∧
      (resAfter (execDiscardWindowEnd s) s).drc = s.drc ∧ (resAfter (execDiscardWindowEnd s) s).dram = s.dram ∧
      (resAfter (execDiscardWindowEnd s) s).cht = s.cht ∧ (resAfter (execDiscardWindowEnd s) s).sui = s.sui ∧
      (resAfter (execDiscardWindowEnd s) s).stw = s.stw ∧ (resAfter (execDiscardWindowEnd s) s).sav = s.sav ∧
      (resAfter (execDiscardWindowEnd s) s).cel = s.cel ∧ (resAfter (execDiscardWindowEnd s) s).dmw = s.dmw ∧
      (resAfter (execDiscardWindowEnd s) s).nrg = s.nrg ∧ (resAfter (execDiscardWindowEnd s) s).gau = s.gau ∧
      (resAfter (execDiscardWindowEnd s) s).rek = s.rek ∧ (resAfter (execDiscardWindowEnd s) s).plk = s.plk ∧
      (resAfter (execDiscardWindowEnd s) s).att = s.att ∧ (resAfter (execDiscardWindowEnd s) s).ecc = s.ecc ∧
      (resAfter (execDiscardWindowEnd s) s).twp = s.twp ∧ (resAfter (execDiscardWindowEnd s) s).pwr = s.pwr ∧
      (resAfter (execDiscardWindowEnd s) s).fpl = s.fpl ∧ (resAfter (execDiscardWindowEnd s) s).jtag = s.jtag ∧
      (resAfter (execDiscardWindowEnd s) s).fuses = s.fuses ∧ (resAfter (execDiscardWindowEnd s) s).cal = s.cal ∧
      (resAfter (execDiscardWindowEnd s) s).free = s.free ∧ (resAfter (execDiscardWindowEnd s) s).pending = s.pending := by
  have q1 := advanceTo_frame
  have q2 := event_frame
  simp only [execDiscardWindowEnd, resAfter_next]
  simp only [List.foldl]
  (repeat' split) <;> simp [q1, q2]

theorem acceptWrite_frame (w : HostWrite) (s : State) :
    (acceptWrite w s).almanac = s.almanac ∧ (acceptWrite w s).fuses = s.fuses ∧ (acceptWrite w s).cal = s.cal ∧
      (acceptWrite w s).pending = s.pending := by
  have q1 := acceptBeat_frame
  have q2 := complete_frame
  have q3 := mirrorAccept_frame
  have q4 := raiseAddr_frame
  unfold acceptWrite
  simp only
  refine ⟨?_, ?_, ?_, ?_⟩ <;> ((repeat' split) <;> simp [q1, q2, q3, q4])

theorem loseSet_frame (parting judged : Bool) (k : Nat) (s : State) :
    (loseSet parting judged k s).almanac = s.almanac ∧ (loseSet parting judged k s).fuses = s.fuses ∧
      (loseSet parting judged k s).cal = s.cal ∧ (loseSet parting judged k s).pending = s.pending := by
  have q1 := changeSet_frame
  have q2 := endDrill_frame
  have q3 := event_frame
  have q4 := modSet_frame
  have q5 := notify_frame
  have q6 := promote_frame
  have q7 := raiseAddr_frame
  unfold loseSet
  simp only
  (repeat' split) <;> simp [q1, q2, q3, q4, q5, q6, q7]

theorem runRefreshes_frame (sc n : Nat) (s : State) :
    (runRefreshes sc n s).almanac = s.almanac ∧ (runRefreshes sc n s).dev = s.dev ∧
      (runRefreshes sc n s).stations = s.stations ∧ (runRefreshes sc n s).hst = s.hst ∧ (runRefreshes sc n s).dram = s.dram ∧
      (runRefreshes sc n s).cht = s.cht ∧ (runRefreshes sc n s).sui = s.sui ∧ (runRefreshes sc n s).stw = s.stw ∧
      (runRefreshes sc n s).sav = s.sav ∧ (runRefreshes sc n s).cel = s.cel ∧ (runRefreshes sc n s).dmw = s.dmw ∧
      (runRefreshes sc n s).nrg = s.nrg ∧ (runRefreshes sc n s).gau = s.gau ∧ (runRefreshes sc n s).rek = s.rek ∧
      (runRefreshes sc n s).plk = s.plk ∧ (runRefreshes sc n s).att = s.att ∧ (runRefreshes sc n s).ecc = s.ecc ∧
      (runRefreshes sc n s).tws = s.tws ∧ (runRefreshes sc n s).twp = s.twp ∧ (runRefreshes sc n s).svc = s.svc ∧
      (runRefreshes sc n s).log = s.log ∧ (runRefreshes sc n s).pwr = s.pwr ∧ (runRefreshes sc n s).fpl = s.fpl ∧
      (runRefreshes sc n s).jtag = s.jtag ∧ (runRefreshes sc n s).fuses = s.fuses ∧ (runRefreshes sc n s).cal = s.cal ∧
      (runRefreshes sc n s).out = s.out ∧ (runRefreshes sc n s).free = s.free ∧ (runRefreshes sc n s).pending = s.pending := by
  have q1 := forceRefresh_frame
  have q2 := modSubch_frame
  induction n generalizing s with
  | zero => simp [runRefreshes]
  | succ n ih =>
    unfold runRefreshes
    split
    · simp
    · split <;> simp [q1, q2, ih]

theorem execRefreshTick_frame (sc elapsedNs : Nat) (s : State) :
    (resAfter (execRefreshTick sc elapsedNs s) s).almanac = s.almanac ∧
      (resAfter (execRefreshTick sc elapsedNs s) s).dev = s.dev ∧
      (resAfter (execRefreshTick sc elapsedNs s) s).stations = s.stations ∧
      (resAfter (execRefreshTick sc elapsedNs s) s).hst = s.hst ∧ (resAfter (execRefreshTick sc elapsedNs s) s).dram = s.dram ∧
      (resAfter (execRefreshTick sc elapsedNs s) s).cht = s.cht ∧ (resAfter (execRefreshTick sc elapsedNs s) s).sui = s.sui ∧
      (resAfter (execRefreshTick sc elapsedNs s) s).stw = s.stw ∧ (resAfter (execRefreshTick sc elapsedNs s) s).sav = s.sav ∧
      (resAfter (execRefreshTick sc elapsedNs s) s).cel = s.cel ∧ (resAfter (execRefreshTick sc elapsedNs s) s).dmw = s.dmw ∧
      (resAfter (execRefreshTick sc elapsedNs s) s).nrg = s.nrg ∧ (resAfter (execRefreshTick sc elapsedNs s) s).gau = s.gau ∧
      (resAfter (execRefreshTick sc elapsedNs s) s).rek = s.rek ∧ (resAfter (execRefreshTick sc elapsedNs s) s).plk = s.plk ∧
      (resAfter (execRefreshTick sc elapsedNs s) s).att = s.att ∧ (resAfter (execRefreshTick sc elapsedNs s) s).ecc = s.ecc ∧
      (resAfter (execRefreshTick sc elapsedNs s) s).tws = s.tws ∧ (resAfter (execRefreshTick sc elapsedNs s) s).twp = s.twp ∧
      (resAfter (execRefreshTick sc elapsedNs s) s).svc = s.svc ∧ (resAfter (execRefreshTick sc elapsedNs s) s).log = s.log ∧
      (resAfter (execRefreshTick sc elapsedNs s) s).pwr = s.pwr ∧ (resAfter (execRefreshTick sc elapsedNs s) s).fpl = s.fpl ∧
      (resAfter (execRefreshTick sc elapsedNs s) s).jtag = s.jtag ∧
      (resAfter (execRefreshTick sc elapsedNs s) s).fuses = s.fuses ∧
      (resAfter (execRefreshTick sc elapsedNs s) s).cal = s.cal ∧ (resAfter (execRefreshTick sc elapsedNs s) s).out = s.out ∧
      (resAfter (execRefreshTick sc elapsedNs s) s).free = s.free ∧
      (resAfter (execRefreshTick sc elapsedNs s) s).pending = s.pending := by
  have q1 := modSubch_frame
  have q2 := runRefreshes_frame
  unfold execRefreshTick
  split <;> simp [q1, q2]

theorem checkRate_frame (s : State) :
    (checkRate s).almanac = s.almanac ∧ (checkRate s).dev = s.dev ∧ (checkRate s).stations = s.stations ∧
      (checkRate s).hst = s.hst ∧ (checkRate s).drc = s.drc ∧ (checkRate s).dram = s.dram ∧ (checkRate s).cht = s.cht ∧
      (checkRate s).sui = s.sui ∧ (checkRate s).stw = s.stw ∧ (checkRate s).sav = s.sav ∧ (checkRate s).cel = s.cel ∧
      (checkRate s).dmw = s.dmw ∧ (checkRate s).nrg = s.nrg ∧ (checkRate s).plk = s.plk ∧ (checkRate s).att = s.att ∧
      (checkRate s).ecc = s.ecc ∧ (checkRate s).tws = s.tws ∧ (checkRate s).twp = s.twp ∧ (checkRate s).svc = s.svc ∧
      (checkRate s).log = s.log ∧ (checkRate s).pwr = s.pwr ∧ (checkRate s).fpl = s.fpl ∧ (checkRate s).jtag = s.jtag ∧
      (checkRate s).fuses = s.fuses ∧ (checkRate s).cal = s.cal ∧ (checkRate s).out = s.out ∧ (checkRate s).free = s.free ∧
      (checkRate s).pending = s.pending := by
  have q1 := markDq_frame
  unfold checkRate
  dsimp only
  split <;> simp [q1]

end Sys2Proof.Machine
end

