-- ==== Sys2Proof/Laws/FramesExec.lean ====
section
/-! SUPPORT. What the operations and meanings over those leave alone. -/

set_option maxRecDepth 20000

namespace Sys2Proof.Machine

theorem replaceItem_frame (type : Nat) (i : MetaItem) (s : State) :
    (replaceItem type i s).almanac = s.almanac ∧ (replaceItem type i s).dev = s.dev ∧
      (replaceItem type i s).stations = s.stations ∧ (replaceItem type i s).hst = s.hst ∧ (replaceItem type i s).drc = s.drc ∧
      (replaceItem type i s).dram = s.dram ∧ (replaceItem type i s).cht = s.cht ∧ (replaceItem type i s).sui = s.sui ∧
      (replaceItem type i s).stw = s.stw ∧ (replaceItem type i s).sav = s.sav ∧ (replaceItem type i s).dmw = s.dmw ∧
      (replaceItem type i s).nrg = s.nrg ∧ (replaceItem type i s).gau = s.gau ∧ (replaceItem type i s).rek = s.rek ∧
      (replaceItem type i s).plk = s.plk ∧ (replaceItem type i s).att = s.att ∧ (replaceItem type i s).ecc = s.ecc ∧
      (replaceItem type i s).tws = s.tws ∧ (replaceItem type i s).twp = s.twp ∧ (replaceItem type i s).svc = s.svc ∧
      (replaceItem type i s).log = s.log ∧ (replaceItem type i s).pwr = s.pwr ∧ (replaceItem type i s).fpl = s.fpl ∧
      (replaceItem type i s).jtag = s.jtag ∧ (replaceItem type i s).fuses = s.fuses ∧ (replaceItem type i s).cal = s.cal ∧
      (replaceItem type i s).out = s.out ∧ (replaceItem type i s).free = s.free ∧ (replaceItem type i s).pending = s.pending := by
  have q1 := dropItem_frame
  have q2 := programItem_frame
  simp [q1, q2, replaceItem]

theorem programHeader_frame (s : State) :
    (programHeader s).almanac = s.almanac ∧ (programHeader s).dev = s.dev ∧ (programHeader s).stations = s.stations ∧
      (programHeader s).hst = s.hst ∧ (programHeader s).drc = s.drc ∧ (programHeader s).dram = s.dram ∧
      (programHeader s).cht = s.cht ∧ (programHeader s).sui = s.sui ∧ (programHeader s).stw = s.stw ∧
      (programHeader s).dmw = s.dmw ∧ (programHeader s).nrg = s.nrg ∧ (programHeader s).gau = s.gau ∧
      (programHeader s).plk = s.plk ∧ (programHeader s).att = s.att ∧ (programHeader s).ecc = s.ecc ∧
      (programHeader s).tws = s.tws ∧ (programHeader s).twp = s.twp ∧ (programHeader s).svc = s.svc ∧
      (programHeader s).log = s.log ∧ (programHeader s).pwr = s.pwr ∧ (programHeader s).fpl = s.fpl ∧
      (programHeader s).jtag = s.jtag ∧ (programHeader s).fuses = s.fuses ∧ (programHeader s).cal = s.cal ∧
      (programHeader s).out = s.out ∧ (programHeader s).free = s.free ∧ (programHeader s).pending = s.pending := by
  have q1 := clearArea_frame
  have q2 := eraseHeads_frame
  have q3 := modHalf_frame
  have q4 := modNand_frame
  have q5 := programItem_frame
  unfold programHeader; (repeat' split) <;> simp [q1, q2, q3, q4, q5]

theorem programArea_frame (first n : Nat) (s : State) :
    (programArea first n s).almanac = s.almanac ∧ (programArea first n s).dev = s.dev ∧
      (programArea first n s).stations = s.stations ∧ (programArea first n s).hst = s.hst ∧
      (programArea first n s).drc = s.drc ∧ (programArea first n s).dram = s.dram ∧ (programArea first n s).cht = s.cht ∧
      (programArea first n s).sui = s.sui ∧ (programArea first n s).stw = s.stw ∧ (programArea first n s).sav = s.sav ∧
      (programArea first n s).dmw = s.dmw ∧ (programArea first n s).nrg = s.nrg ∧ (programArea first n s).gau = s.gau ∧
      (programArea first n s).rek = s.rek ∧ (programArea first n s).plk = s.plk ∧ (programArea first n s).att = s.att ∧
      (programArea first n s).ecc = s.ecc ∧ (programArea first n s).tws = s.tws ∧ (programArea first n s).twp = s.twp ∧
      (programArea first n s).svc = s.svc ∧ (programArea first n s).log = s.log ∧ (programArea first n s).pwr = s.pwr ∧
      (programArea first n s).fpl = s.fpl ∧ (programArea first n s).jtag = s.jtag ∧ (programArea first n s).fuses = s.fuses ∧
      (programArea first n s).cal = s.cal ∧ (programArea first n s).out = s.out ∧ (programArea first n s).free = s.free ∧
      (programArea first n s).pending = s.pending := by
  have q1 := programItem_frame
  unfold programArea; (repeat' split) <;> simp_all

theorem programList_frame (s : State) :
    (programList s).almanac = s.almanac ∧ (programList s).dev = s.dev ∧ (programList s).stations = s.stations ∧
      (programList s).hst = s.hst ∧ (programList s).drc = s.drc ∧ (programList s).dram = s.dram ∧ (programList s).cht = s.cht ∧
      (programList s).sui = s.sui ∧ (programList s).stw = s.stw ∧ (programList s).dmw = s.dmw ∧ (programList s).nrg = s.nrg ∧
      (programList s).gau = s.gau ∧ (programList s).plk = s.plk ∧ (programList s).att = s.att ∧ (programList s).ecc = s.ecc ∧
      (programList s).tws = s.tws ∧ (programList s).twp = s.twp ∧ (programList s).svc = s.svc ∧ (programList s).log = s.log ∧
      (programList s).pwr = s.pwr ∧ (programList s).fpl = s.fpl ∧ (programList s).jtag = s.jtag ∧
      (programList s).fuses = s.fuses ∧ (programList s).cal = s.cal ∧ (programList s).out = s.out ∧
      (programList s).free = s.free ∧ (programList s).pending = s.pending := by
  have q1 := modRec_frame
  have q2 := programArea_frame
  unfold programList; (repeat' split) <;> simp_all

theorem sealPassed_frame (r : SaveRun) (s : State) :
    (sealPassed r s).almanac = s.almanac ∧ (sealPassed r s).fuses = s.fuses ∧ (sealPassed r s).pending = s.pending := by
  have q1 := enterSaved_frame
  have q2 := enterWarm_frame
  have q3 := leaveSaving_frame
  have q4 := modHalf_frame
  have q5 := modRec_frame
  have q6 := programArea_frame
  have q7 := programList_frame
  unfold sealPassed; (repeat' split) <;> simp_all

theorem releaseHalf_frame (h : Half) (s : State) :
    (releaseHalf h s).almanac = s.almanac ∧ (releaseHalf h s).dev = s.dev ∧ (releaseHalf h s).stations = s.stations ∧
      (releaseHalf h s).hst = s.hst ∧ (releaseHalf h s).drc = s.drc ∧ (releaseHalf h s).dram = s.dram ∧
      (releaseHalf h s).cht = s.cht ∧ (releaseHalf h s).sui = s.sui ∧ (releaseHalf h s).stw = s.stw ∧
      (releaseHalf h s).dmw = s.dmw ∧ (releaseHalf h s).nrg = s.nrg ∧ (releaseHalf h s).gau = s.gau ∧
      (releaseHalf h s).plk = s.plk ∧ (releaseHalf h s).att = s.att ∧ (releaseHalf h s).ecc = s.ecc ∧
      (releaseHalf h s).tws = s.tws ∧ (releaseHalf h s).twp = s.twp ∧ (releaseHalf h s).svc = s.svc ∧
      (releaseHalf h s).log = s.log ∧ (releaseHalf h s).pwr = s.pwr ∧ (releaseHalf h s).fpl = s.fpl ∧
      (releaseHalf h s).jtag = s.jtag ∧ (releaseHalf h s).fuses = s.fuses ∧ (releaseHalf h s).cal = s.cal ∧
      (releaseHalf h s).out = s.out ∧ (releaseHalf h s).free = s.free ∧ (releaseHalf h s).pending = s.pending := by
  have q1 := modHalf_frame
  have q2 := programItem_frame
  unfold releaseHalf; (repeat' split) <;> simp_all

theorem openService_frame (cause : Nat) (s : State) :
    (openService cause s).almanac = s.almanac ∧ (openService cause s).stations = s.stations ∧
      (openService cause s).drc = s.drc ∧ (openService cause s).dram = s.dram ∧ (openService cause s).cht = s.cht ∧
      (openService cause s).ecc = s.ecc ∧ (openService cause s).pwr = s.pwr ∧ (openService cause s).fpl = s.fpl ∧
      (openService cause s).jtag = s.jtag ∧ (openService cause s).fuses = s.fuses ∧ (openService cause s).cal = s.cal ∧
      (openService cause s).pending = s.pending := by
  have q1 := enterService_frame
  have q2 := eraseOldArea_frame
  have q3 := eraseReleased_frame
  have q4 := replaceItem_frame
  have q5 := takeCheckpoint_frame
  simp [q1, q2, q3, q4, q5, openService]

theorem leaveHarbour_frame (s : State) :
    (leaveHarbour s).almanac = s.almanac ∧ (leaveHarbour s).stations = s.stations ∧ (leaveHarbour s).drc = s.drc ∧
      (leaveHarbour s).dram = s.dram ∧ (leaveHarbour s).cht = s.cht ∧ (leaveHarbour s).ecc = s.ecc ∧
      (leaveHarbour s).pwr = s.pwr ∧ (leaveHarbour s).fpl = s.fpl ∧ (leaveHarbour s).jtag = s.jtag ∧
      (leaveHarbour s).fuses = s.fuses ∧ (leaveHarbour s).cal = s.cal ∧ (leaveHarbour s).pending = s.pending := by
  have q1 := enterService_frame
  have q2 := takeCheckpoint_frame
  simp [q1, q2, leaveHarbour]

theorem acknowledge_frame (s : State) :
    (acknowledge s).almanac = s.almanac ∧ (acknowledge s).stations = s.stations ∧ (acknowledge s).drc = s.drc ∧
      (acknowledge s).dram = s.dram ∧ (acknowledge s).cht = s.cht ∧ (acknowledge s).ecc = s.ecc ∧ (acknowledge s).pwr = s.pwr ∧
      (acknowledge s).fpl = s.fpl ∧ (acknowledge s).jtag = s.jtag ∧ (acknowledge s).fuses = s.fuses ∧
      (acknowledge s).cal = s.cal ∧ (acknowledge s).pending = s.pending := by
  have q1 := leaveHarbour_frame
  simp [q1, acknowledge]

theorem endPrecaution_frame (short : Bool) (s : State) :
    (endPrecaution short s).almanac = s.almanac ∧ (endPrecaution short s).fuses = s.fuses ∧
      (endPrecaution short s).cal = s.cal ∧ (endPrecaution short s).pending = s.pending := by
  have q1 := leaveHarbour_frame
  have q2 := raise_frame
  simp [q1, q2, endPrecaution]

theorem execJournalPageIssue_frame (s : State) :
    (resAfter (execJournalPageIssue s) s).dev = s.dev ∧ (resAfter (execJournalPageIssue s) s).stations = s.stations ∧
      (resAfter (execJournalPageIssue s) s).hst = s.hst ∧ (resAfter (execJournalPageIssue s) s).drc = s.drc ∧
      (resAfter (execJournalPageIssue s) s).dram = s.dram ∧ (resAfter (execJournalPageIssue s) s).cht = s.cht ∧
      (resAfter (execJournalPageIssue s) s).sui = s.sui ∧ (resAfter (execJournalPageIssue s) s).stw = s.stw ∧
      (resAfter (execJournalPageIssue s) s).sav = s.sav ∧ (resAfter (execJournalPageIssue s) s).dmw = s.dmw ∧
      (resAfter (execJournalPageIssue s) s).nrg = s.nrg ∧ (resAfter (execJournalPageIssue s) s).gau = s.gau ∧
      (resAfter (execJournalPageIssue s) s).rek = s.rek ∧ (resAfter (execJournalPageIssue s) s).plk = s.plk ∧
      (resAfter (execJournalPageIssue s) s).att = s.att ∧ (resAfter (execJournalPageIssue s) s).ecc = s.ecc ∧
      (resAfter (execJournalPageIssue s) s).tws = s.tws ∧ (resAfter (execJournalPageIssue s) s).twp = s.twp ∧
      (resAfter (execJournalPageIssue s) s).pwr = s.pwr ∧ (resAfter (execJournalPageIssue s) s).fpl = s.fpl ∧
      (resAfter (execJournalPageIssue s) s).jtag = s.jtag ∧ (resAfter (execJournalPageIssue s) s).fuses = s.fuses ∧
      (resAfter (execJournalPageIssue s) s).cal = s.cal ∧ (resAfter (execJournalPageIssue s) s).out = s.out ∧
      (resAfter (execJournalPageIssue s) s).free = s.free ∧ (resAfter (execJournalPageIssue s) s).pending = s.pending ∧
      (resAfter (execJournalPageIssue s) s).log.aonPowered = s.log.aonPowered := by
  have q1 := advanceTo_frame
  have q2 := issuePage_frame
  unfold execJournalPageIssue; (repeat' split) <;> simp_all

theorem execCheckpointDue_frame (s : State) :
    (resAfter (execCheckpointDue s) s).almanac = s.almanac ∧ (resAfter (execCheckpointDue s) s).dev = s.dev ∧
      (resAfter (execCheckpointDue s) s).stations = s.stations ∧ (resAfter (execCheckpointDue s) s).hst = s.hst ∧
      (resAfter (execCheckpointDue s) s).drc = s.drc ∧ (resAfter (execCheckpointDue s) s).dram = s.dram ∧
      (resAfter (execCheckpointDue s) s).cht = s.cht ∧ (resAfter (execCheckpointDue s) s).sui = s.sui ∧
      (resAfter (execCheckpointDue s) s).stw = s.stw ∧ (resAfter (execCheckpointDue s) s).sav = s.sav ∧
      (resAfter (execCheckpointDue s) s).dmw = s.dmw ∧ (resAfter (execCheckpointDue s) s).nrg = s.nrg ∧
      (resAfter (execCheckpointDue s) s).gau = s.gau ∧ (resAfter (execCheckpointDue s) s).rek = s.rek ∧
      (resAfter (execCheckpointDue s) s).plk = s.plk ∧ (resAfter (execCheckpointDue s) s).att = s.att ∧
      (resAfter (execCheckpointDue s) s).ecc = s.ecc ∧ (resAfter (execCheckpointDue s) s).tws = s.tws ∧
      (resAfter (execCheckpointDue s) s).twp = s.twp ∧ (resAfter (execCheckpointDue s) s).svc = s.svc ∧
      (resAfter (execCheckpointDue s) s).log = s.log ∧ (resAfter (execCheckpointDue s) s).pwr = s.pwr ∧
      (resAfter (execCheckpointDue s) s).fpl = s.fpl ∧ (resAfter (execCheckpointDue s) s).jtag = s.jtag ∧
      (resAfter (execCheckpointDue s) s).fuses = s.fuses ∧ (resAfter (execCheckpointDue s) s).cal = s.cal ∧
      (resAfter (execCheckpointDue s) s).out = s.out ∧ (resAfter (execCheckpointDue s) s).free = s.free ∧
      (resAfter (execCheckpointDue s) s).pending = s.pending := by
  have q1 := takeCheckpoint_frame
  unfold execCheckpointDue; (repeat' split) <;> simp_all

theorem execJournalBlockReclaim_frame (die block : Nat) (s : State) :
    (resAfter (execJournalBlockReclaim die block s) s).almanac = s.almanac ∧
      (resAfter (execJournalBlockReclaim die block s) s).dev = s.dev ∧
      (resAfter (execJournalBlockReclaim die block s) s).stations = s.stations ∧
      (resAfter (execJournalBlockReclaim die block s) s).hst = s.hst ∧
      (resAfter (execJournalBlockReclaim die block s) s).drc = s.drc ∧
      (resAfter (execJournalBlockReclaim die block s) s).dram = s.dram ∧
      (resAfter (execJournalBlockReclaim die block s) s).cht = s.cht ∧
      (resAfter (execJournalBlockReclaim die block s) s).sui = s.sui ∧
      (resAfter (execJournalBlockReclaim die block s) s).stw = s.stw ∧
      (resAfter (execJournalBlockReclaim die block s) s).sav = s.sav ∧
      (resAfter (execJournalBlockReclaim die block s) s).dmw = s.dmw ∧
      (resAfter (execJournalBlockReclaim die block s) s).nrg = s.nrg ∧
      (resAfter (execJournalBlockReclaim die block s) s).gau = s.gau ∧
      (resAfter (execJournalBlockReclaim die block s) s).rek = s.rek ∧
      (resAfter (execJournalBlockReclaim die block s) s).plk = s.plk ∧
      (resAfter (execJournalBlockReclaim die block s) s).att = s.att ∧
      (resAfter (execJournalBlockReclaim die block s) s).ecc = s.ecc ∧
      (resAfter (execJournalBlockReclaim die block s) s).tws = s.tws ∧
      (resAfter (execJournalBlockReclaim die block s) s).twp = s.twp ∧
      (resAfter (execJournalBlockReclaim die block s) s).svc = s.svc ∧
      (resAfter (execJournalBlockReclaim die block s) s).log = s.log ∧
      (resAfter (execJournalBlockReclaim die block s) s).pwr = s.pwr ∧
      (resAfter (execJournalBlockReclaim die block s) s).fpl = s.fpl ∧
      (resAfter (execJournalBlockReclaim die block s) s).jtag = s.jtag ∧
      (resAfter (execJournalBlockReclaim die block s) s).fuses = s.fuses ∧
      (resAfter (execJournalBlockReclaim die block s) s).cal = s.cal ∧
      (resAfter (execJournalBlockReclaim die block s) s).out = s.out ∧
      (resAfter (execJournalBlockReclaim die block s) s).free = s.free ∧
      (resAfter (execJournalBlockReclaim die block s) s).pending = s.pending := by
  have q1 := refreshRecord_frame
  have q2 := takeCheckpoint_frame
  simp only [execJournalBlockReclaim]; (repeat' split) <;> simp [q1, q2]

theorem generateKeys_frame (s : State) :
    (generateKeys s).almanac = s.almanac ∧ (generateKeys s).dev = s.dev ∧ (generateKeys s).stations = s.stations ∧
      (generateKeys s).hst = s.hst ∧ (generateKeys s).drc = s.drc ∧ (generateKeys s).dram = s.dram ∧
      (generateKeys s).cht = s.cht ∧ (generateKeys s).sui = s.sui ∧ (generateKeys s).stw = s.stw ∧
      (generateKeys s).sav = s.sav ∧ (generateKeys s).dmw = s.dmw ∧ (generateKeys s).nrg = s.nrg ∧
      (generateKeys s).gau = s.gau ∧ (generateKeys s).rek = s.rek ∧ (generateKeys s).plk = s.plk ∧
      (generateKeys s).att = s.att ∧ (generateKeys s).ecc = s.ecc ∧ (generateKeys s).tws = s.tws ∧
      (generateKeys s).twp = s.twp ∧ (generateKeys s).svc = s.svc ∧ (generateKeys s).log = s.log ∧
      (generateKeys s).pwr = s.pwr ∧ (generateKeys s).fpl = s.fpl ∧ (generateKeys s).jtag = s.jtag ∧
      (generateKeys s).fuses = s.fuses ∧ (generateKeys s).cal = s.cal ∧ (generateKeys s).out = s.out ∧
      (generateKeys s).free = s.free ∧ (generateKeys s).pending = s.pending := by
  have q1 := replaceItem_frame
  simp [q1, generateKeys]

theorem loadPlan_frame (s : State) :
    (loadPlan s).almanac = s.almanac ∧ (loadPlan s).fuses = s.fuses ∧ (loadPlan s).cal = s.cal ∧
      (loadPlan s).pending = s.pending := by
  have q1 := generateKeys_frame
  have q2 := loadFaults_frame
  have q3 := raiseAddr_frame
  have q4 := slotFails_frame
  have q5 := wantRek_frame
  simp [q1, q2, q3, q4, q5, loadPlan]

theorem addRoster_frame (t : Nat) (s : State) :
    (addRoster t s).almanac = s.almanac ∧ (addRoster t s).dev = s.dev ∧ (addRoster t s).stations = s.stations ∧
      (addRoster t s).hst = s.hst ∧ (addRoster t s).drc = s.drc ∧ (addRoster t s).dram = s.dram ∧ (addRoster t s).cht = s.cht ∧
      (addRoster t s).sui = s.sui ∧ (addRoster t s).stw = s.stw ∧ (addRoster t s).dmw = s.dmw ∧ (addRoster t s).nrg = s.nrg ∧
      (addRoster t s).gau = s.gau ∧ (addRoster t s).rek = s.rek ∧ (addRoster t s).plk = s.plk ∧ (addRoster t s).att = s.att ∧
      (addRoster t s).ecc = s.ecc ∧ (addRoster t s).tws = s.tws ∧ (addRoster t s).twp = s.twp ∧ (addRoster t s).svc = s.svc ∧
      (addRoster t s).log = s.log ∧ (addRoster t s).pwr = s.pwr ∧ (addRoster t s).fpl = s.fpl ∧ (addRoster t s).jtag = s.jtag ∧
      (addRoster t s).fuses = s.fuses ∧ (addRoster t s).cal = s.cal ∧ (addRoster t s).out = s.out ∧
      (addRoster t s).free = s.free ∧ (addRoster t s).pending = s.pending := by
  have q1 := programItem_frame
  simp [q1, addRoster]

theorem writeRestored_frame (t : Nat) (x : Restored) (s : State) :
    (writeRestored t x s).almanac = s.almanac ∧ (writeRestored t x s).fuses = s.fuses ∧ (writeRestored t x s).cal = s.cal ∧
      (writeRestored t x s).pending = s.pending := by
  have q1 := addRoster_frame
  have q2 := listPoison_frame
  have q3 := putTile_frame
  have q4 := raiseAddr_frame
  have q5 := reeval_frame
  have q6 := tileAccess_frame
  simp [q1, q2, q3, q4, q5, q6, writeRestored]

theorem foldRelease_frame (s : State) :
    (foldRelease s).almanac = s.almanac ∧ (foldRelease s).dev = s.dev ∧ (foldRelease s).stations = s.stations ∧
      (foldRelease s).hst = s.hst ∧ (foldRelease s).drc = s.drc ∧ (foldRelease s).dram = s.dram ∧ (foldRelease s).cht = s.cht ∧
      (foldRelease s).sui = s.sui ∧ (foldRelease s).stw = s.stw ∧ (foldRelease s).dmw = s.dmw ∧ (foldRelease s).nrg = s.nrg ∧
      (foldRelease s).gau = s.gau ∧ (foldRelease s).plk = s.plk ∧ (foldRelease s).att = s.att ∧ (foldRelease s).ecc = s.ecc ∧
      (foldRelease s).tws = s.tws ∧ (foldRelease s).twp = s.twp ∧ (foldRelease s).svc = s.svc ∧ (foldRelease s).log = s.log ∧
      (foldRelease s).pwr = s.pwr ∧ (foldRelease s).fpl = s.fpl ∧ (foldRelease s).jtag = s.jtag ∧
      (foldRelease s).fuses = s.fuses ∧ (foldRelease s).cal = s.cal ∧ (foldRelease s).out = s.out ∧
      (foldRelease s).free = s.free ∧ (foldRelease s).pending = s.pending := by
  have q1 := releaseHalf_frame
  have q2 := wantRek_frame
  simp [q1, q2, foldRelease]

theorem foldStep_frame (s : State) :
    (foldStep s).almanac = s.almanac ∧ (foldStep s).dev = s.dev ∧ (foldStep s).stations = s.stations ∧
      (foldStep s).hst = s.hst ∧ (foldStep s).drc = s.drc ∧ (foldStep s).dram = s.dram ∧ (foldStep s).cht = s.cht ∧
      (foldStep s).sui = s.sui ∧ (foldStep s).stw = s.stw ∧ (foldStep s).dmw = s.dmw ∧ (foldStep s).nrg = s.nrg ∧
      (foldStep s).gau = s.gau ∧ (foldStep s).plk = s.plk ∧ (foldStep s).att = s.att ∧ (foldStep s).ecc = s.ecc ∧
      (foldStep s).tws = s.tws ∧ (foldStep s).twp = s.twp ∧ (foldStep s).svc = s.svc ∧ (foldStep s).log = s.log ∧
      (foldStep s).pwr = s.pwr ∧ (foldStep s).fpl = s.fpl ∧ (foldStep s).jtag = s.jtag ∧ (foldStep s).fuses = s.fuses ∧
      (foldStep s).cal = s.cal ∧ (foldStep s).out = s.out ∧ (foldStep s).free = s.free ∧ (foldStep s).pending = s.pending := by
  have q1 := foldRelease_frame
  have q2 := impairedRecords_frame
  simp [q1, q2, foldStep]

theorem restoreComplete_frame (s : State) :
    (restoreComplete s).almanac = s.almanac ∧ (restoreComplete s).stations = s.stations ∧ (restoreComplete s).dram = s.dram ∧
      (restoreComplete s).cht = s.cht ∧ (restoreComplete s).ecc = s.ecc ∧ (restoreComplete s).pwr = s.pwr ∧
      (restoreComplete s).fpl = s.fpl ∧ (restoreComplete s).jtag = s.jtag ∧ (restoreComplete s).fuses = s.fuses ∧
      (restoreComplete s).cal = s.cal ∧ (restoreComplete s).pending = s.pending := by
  have q1 := event_frame
  have q2 := foldStep_frame
  have q3 := openService_frame
  have q4 := wantRek_frame
  simp [q1, q2, q3, q4, restoreComplete]

theorem afterTile_frame (t : Nat) (s : State) :
    (afterTile t s).almanac = s.almanac ∧ (afterTile t s).stations = s.stations ∧ (afterTile t s).dram = s.dram ∧
      (afterTile t s).cht = s.cht ∧ (afterTile t s).ecc = s.ecc ∧ (afterTile t s).pwr = s.pwr ∧ (afterTile t s).fpl = s.fpl ∧
      (afterTile t s).jtag = s.jtag ∧ (afterTile t s).fuses = s.fuses ∧ (afterTile t s).cal = s.cal ∧
      (afterTile t s).pending = s.pending := by
  have q1 := endRoom_frame
  have q2 := releaseTileReads_frame
  have q3 := restoreComplete_frame
  simp [q1, q2, q3, afterTile]

theorem packLeft_frame (s : State) :
    (packLeft s).almanac = s.almanac ∧ (packLeft s).fuses = s.fuses ∧ (packLeft s).pending = s.pending := by
  have q1 := disqualify_frame
  have q2 := endExercise_frame
  have q3 := packAlert_frame
  have q4 := setCharge_frame
  have q5 := wantRek_frame
  simp [q1, q2, q3, q4, q5, packLeft]

theorem packGone_frame (s : State) :
    (packGone s).almanac = s.almanac ∧ (packGone s).fuses = s.fuses ∧ (packGone s).pending = s.pending := by
  have q1 := addEvent_frame
  have q2 := exhausted_frame
  have q3 := packLeft_frame
  have q4 := raise_frame
  have q5 := reeval_frame
  simp [q1, q2, q3, q4, q5, packGone]

theorem readingsTaken_frame (before : Nrg) (ohms : Nat) (s : State) :
    (readingsTaken before ohms s).almanac = s.almanac ∧ (readingsTaken before ohms s).fuses = s.fuses ∧
      (readingsTaken before ohms s).pending = s.pending := by
  have q1 := packGone_frame
  have q2 := packLeft_frame
  have q3 := thermFault_frame
  simp [q1, q2, q3, readingsTaken]

theorem execPackRemoved_frame (packId : Nat) (ohms : Nat) (th0 th1 : Therm) (s : State) :
    (resAfter (execPackRemoved packId ohms th0 th1 s) s).almanac = s.almanac ∧
      (resAfter (execPackRemoved packId ohms th0 th1 s) s).fuses = s.fuses ∧
      (resAfter (execPackRemoved packId ohms th0 th1 s) s).pending = s.pending := by
  have q1 := readingsTaken_frame
  have q2 := takeReadings_frame
  unfold execPackRemoved; (repeat' split) <;> simp_all

theorem execPackThermSample_frame (th0 th1 : Therm) (ohms : Nat) (s : State) :
    (resAfter (execPackThermSample th0 th1 ohms s) s).fuses = s.fuses ∧
      (resAfter (execPackThermSample th0 th1 ohms s) s).pending = s.pending := by
  have q1 := advanceTo_frame
  have q2 := chargePause_frame
  have q3 := markDq_frame
  have q4 := readingsTaken_frame
  have q5 := takeReadings_frame
  have q6 := wantRek_frame
  simp only [execPackThermSample]; (repeat' split) <;> simp [q1, q2, q3, q4, q5, q6]

theorem exerciseAbort_frame (s : State) :
    (exerciseAbort s).almanac = s.almanac ∧ (exerciseAbort s).fuses = s.fuses ∧ (exerciseAbort s).pending = s.pending := by
  have q1 := chargeStep_frame
  have q2 := endExercise_frame
  simp [q1, q2, exerciseAbort]

theorem execExerciseAbort_frame (s : State) :
    (resAfter (execExerciseAbort s) s).almanac = s.almanac ∧ (resAfter (execExerciseAbort s) s).fuses = s.fuses ∧
      (resAfter (execExerciseAbort s) s).pending = s.pending := by
  have q1 := exerciseAbort_frame
  simp [q1, execExerciseAbort]

theorem execExerciseStopCheck_frame (s : State) :
    (resAfter (execExerciseStopCheck s) s).fuses = s.fuses ∧ (resAfter (execExerciseStopCheck s) s).pending = s.pending := by
  have q1 := advanceTo_frame
  have q2 := chargeStep_frame
  have q3 := endExercise_frame
  simp only [execExerciseStopCheck]; (repeat' split) <;> simp [q1, q2, q3]

theorem execDevHarbourAckWrite_frame (value : Word) (s : State) :
    (resAfter (execDevHarbourAckWrite value s) s).almanac = s.almanac ∧
      (resAfter (execDevHarbourAckWrite value s) s).stations = s.stations ∧
      (resAfter (execDevHarbourAckWrite value s) s).drc = s.drc ∧ (resAfter (execDevHarbourAckWrite value s) s).dram = s.dram ∧
      (resAfter (execDevHarbourAckWrite value s) s).cht = s.cht ∧ (resAfter (execDevHarbourAckWrite value s) s).ecc = s.ecc ∧
      (resAfter (execDevHarbourAckWrite value s) s).pwr = s.pwr ∧ (resAfter (execDevHarbourAckWrite value s) s).fpl = s.fpl ∧
      (resAfter (execDevHarbourAckWrite value s) s).jtag = s.jtag ∧
      (resAfter (execDevHarbourAckWrite value s) s).fuses = s.fuses ∧
      (resAfter (execDevHarbourAckWrite value s) s).cal = s.cal ∧
      (resAfter (execDevHarbourAckWrite value s) s).pending = s.pending := by
  have q1 := acknowledge_frame
  simp [q1, execDevHarbourAckWrite]

theorem execHostWriteAccept_frame (tag : Nat) (s : State) :
    (resAfter (execHostWriteAccept tag s) s).almanac = s.almanac ∧ (resAfter (execHostWriteAccept tag s) s).fuses = s.fuses ∧
      (resAfter (execHostWriteAccept tag s) s).cal = s.cal ∧ (resAfter (execHostWriteAccept tag s) s).pending = s.pending := by
  have q1 := acceptWrite_frame
  have q2 := admitWrites_frame
  have q3 := discard_frame
  have q4 := dropWrite_frame
  unfold execHostWriteAccept; (repeat' split) <;> simp_all

theorem resumeHandover_frame (s : State) :
    (resumeHandover s).almanac = s.almanac ∧ (resumeHandover s).fuses = s.fuses ∧ (resumeHandover s).cal = s.cal ∧
      (resumeHandover s).pending = s.pending := by
  have q1 := beginProbation_frame
  have q2 := payOwed_frame
  simp [q1, q2, resumeHandover]

theorem execStowCompletion_frame (room : Nat) (s : State) :
    (resAfter (execStowCompletion room s) s).almanac = s.almanac ∧ (resAfter (execStowCompletion room s) s).fuses = s.fuses ∧
      (resAfter (execStowCompletion room s) s).cal = s.cal ∧ (resAfter (execStowCompletion room s) s).pending = s.pending := by
  have q1 := deliver_frame
  have q2 := foldMarked_frame
  have q3 := foldStep_frame
  have q4 := putInForce_frame
  have q5 := reeval_frame
  have q6 := startErasures_frame
  unfold execStowCompletion; (repeat' split) <;> simp [q1, q2, q3, q4, q5, q6]

theorem execSaveHeaderDone_frame (s : State) :
    (resAfter (execSaveHeaderDone s) s).almanac = s.almanac ∧ (resAfter (execSaveHeaderDone s) s).dev = s.dev ∧
      (resAfter (execSaveHeaderDone s) s).stations = s.stations ∧ (resAfter (execSaveHeaderDone s) s).hst = s.hst ∧
      (resAfter (execSaveHeaderDone s) s).drc = s.drc ∧ (resAfter (execSaveHeaderDone s) s).dram = s.dram ∧
      (resAfter (execSaveHeaderDone s) s).cht = s.cht ∧ (resAfter (execSaveHeaderDone s) s).sui = s.sui ∧
      (resAfter (execSaveHeaderDone s) s).stw = s.stw ∧ (resAfter (execSaveHeaderDone s) s).dmw = s.dmw ∧
      (resAfter (execSaveHeaderDone s) s).nrg = s.nrg ∧ (resAfter (execSaveHeaderDone s) s).gau = s.gau ∧
      (resAfter (execSaveHeaderDone s) s).plk = s.plk ∧ (resAfter (execSaveHeaderDone s) s).att = s.att ∧
      (resAfter (execSaveHeaderDone s) s).ecc = s.ecc ∧ (resAfter (execSaveHeaderDone s) s).tws = s.tws ∧
      (resAfter (execSaveHeaderDone s) s).twp = s.twp ∧ (resAfter (execSaveHeaderDone s) s).svc = s.svc ∧
      (resAfter (execSaveHeaderDone s) s).log = s.log ∧ (resAfter (execSaveHeaderDone s) s).pwr = s.pwr ∧
      (resAfter (execSaveHeaderDone s) s).fpl = s.fpl ∧ (resAfter (execSaveHeaderDone s) s).jtag = s.jtag ∧
      (resAfter (execSaveHeaderDone s) s).fuses = s.fuses ∧ (resAfter (execSaveHeaderDone s) s).cal = s.cal ∧
      (resAfter (execSaveHeaderDone s) s).out = s.out ∧ (resAfter (execSaveHeaderDone s) s).free = s.free ∧
      (resAfter (execSaveHeaderDone s) s).pending = s.pending := by
  have q1 := programHeader_frame
  unfold execSaveHeaderDone; (repeat' split) <;> simp_all

theorem execSaveSealDone_frame (pass : Bool) (s : State) :
    (resAfter (execSaveSealDone pass s) s).almanac = s.almanac ∧ (resAfter (execSaveSealDone pass s) s).fuses = s.fuses ∧
      (resAfter (execSaveSealDone pass s) s).pending = s.pending := by
  have q1 := raiseAddr_frame
  have q2 := resumeRebuild_frame
  have q3 := sealFailed_frame
  have q4 := sealPassed_frame
  unfold execSaveSealDone; (repeat' split) <;> simp_all

theorem execWarmReturnComplete_frame (s : State) :
    (resAfter (execWarmReturnComplete s) s).almanac = s.almanac ∧ (resAfter (execWarmReturnComplete s) s).fuses = s.fuses ∧
      (resAfter (execWarmReturnComplete s) s).cal = s.cal ∧ (resAfter (execWarmReturnComplete s) s).pending = s.pending := by
  have q1 := openService_frame
  have q2 := resumeHandover_frame
  unfold execWarmReturnComplete; (repeat' split) <;> simp_all

theorem releaseWarm_frame (s : State) :
    (releaseWarm s).almanac = s.almanac ∧ (releaseWarm s).dev = s.dev ∧ (releaseWarm s).stations = s.stations ∧
      (releaseWarm s).hst = s.hst ∧ (releaseWarm s).drc = s.drc ∧ (releaseWarm s).dram = s.dram ∧ (releaseWarm s).cht = s.cht ∧
      (releaseWarm s).sui = s.sui ∧ (releaseWarm s).stw = s.stw ∧ (releaseWarm s).dmw = s.dmw ∧ (releaseWarm s).nrg = s.nrg ∧
      (releaseWarm s).gau = s.gau ∧ (releaseWarm s).plk = s.plk ∧ (releaseWarm s).att = s.att ∧ (releaseWarm s).ecc = s.ecc ∧
      (releaseWarm s).tws = s.tws ∧ (releaseWarm s).twp = s.twp ∧ (releaseWarm s).svc = s.svc ∧ (releaseWarm s).log = s.log ∧
      (releaseWarm s).pwr = s.pwr ∧ (releaseWarm s).fpl = s.fpl ∧ (releaseWarm s).jtag = s.jtag ∧
      (releaseWarm s).fuses = s.fuses ∧ (releaseWarm s).cal = s.cal ∧ (releaseWarm s).out = s.out ∧
      (releaseWarm s).free = s.free ∧ (releaseWarm s).pending = s.pending := by
  have q1 := releaseHalf_frame
  simp [q1, releaseWarm]

theorem execServiceOpenProgrammed_frame (s : State) :
    (resAfter (execServiceOpenProgrammed s) s).almanac = s.almanac ∧ (resAfter (execServiceOpenProgrammed s) s).dev = s.dev ∧
      (resAfter (execServiceOpenProgrammed s) s).stations = s.stations ∧
      (resAfter (execServiceOpenProgrammed s) s).hst = s.hst ∧ (resAfter (execServiceOpenProgrammed s) s).drc = s.drc ∧
      (resAfter (execServiceOpenProgrammed s) s).dram = s.dram ∧ (resAfter (execServiceOpenProgrammed s) s).cht = s.cht ∧
      (resAfter (execServiceOpenProgrammed s) s).sui = s.sui ∧ (resAfter (execServiceOpenProgrammed s) s).stw = s.stw ∧
      (resAfter (execServiceOpenProgrammed s) s).dmw = s.dmw ∧ (resAfter (execServiceOpenProgrammed s) s).nrg = s.nrg ∧
      (resAfter (execServiceOpenProgrammed s) s).gau = s.gau ∧ (resAfter (execServiceOpenProgrammed s) s).plk = s.plk ∧
      (resAfter (execServiceOpenProgrammed s) s).att = s.att ∧ (resAfter (execServiceOpenProgrammed s) s).ecc = s.ecc ∧
      (resAfter (execServiceOpenProgrammed s) s).tws = s.tws ∧ (resAfter (execServiceOpenProgrammed s) s).twp = s.twp ∧
      (resAfter (execServiceOpenProgrammed s) s).svc = s.svc ∧ (resAfter (execServiceOpenProgrammed s) s).log = s.log ∧
      (resAfter (execServiceOpenProgrammed s) s).pwr = s.pwr ∧ (resAfter (execServiceOpenProgrammed s) s).fpl = s.fpl ∧
      (resAfter (execServiceOpenProgrammed s) s).jtag = s.jtag ∧ (resAfter (execServiceOpenProgrammed s) s).fuses = s.fuses ∧
      (resAfter (execServiceOpenProgrammed s) s).cal = s.cal ∧ (resAfter (execServiceOpenProgrammed s) s).out = s.out ∧
      (resAfter (execServiceOpenProgrammed s) s).free = s.free ∧
      (resAfter (execServiceOpenProgrammed s) s).pending = s.pending := by
  have q1 := programItem_frame
  have q2 := releaseWarm_frame
  unfold execServiceOpenProgrammed; (repeat' split) <;> simp_all

theorem execPrecautionStart_frame (s : State) :
    (resAfter (execPrecautionStart s) s).almanac = s.almanac ∧ (resAfter (execPrecautionStart s) s).stations = s.stations ∧
      (resAfter (execPrecautionStart s) s).hst = s.hst ∧ (resAfter (execPrecautionStart s) s).drc = s.drc ∧
      (resAfter (execPrecautionStart s) s).dram = s.dram ∧ (resAfter (execPrecautionStart s) s).cht = s.cht ∧
      (resAfter (execPrecautionStart s) s).sui = s.sui ∧ (resAfter (execPrecautionStart s) s).stw = s.stw ∧
      (resAfter (execPrecautionStart s) s).dmw = s.dmw ∧ (resAfter (execPrecautionStart s) s).nrg = s.nrg ∧
      (resAfter (execPrecautionStart s) s).gau = s.gau ∧ (resAfter (execPrecautionStart s) s).plk = s.plk ∧
      (resAfter (execPrecautionStart s) s).att = s.att ∧ (resAfter (execPrecautionStart s) s).ecc = s.ecc ∧
      (resAfter (execPrecautionStart s) s).tws = s.tws ∧ (resAfter (execPrecautionStart s) s).twp = s.twp ∧
      (resAfter (execPrecautionStart s) s).svc = s.svc ∧ (resAfter (execPrecautionStart s) s).log = s.log ∧
      (resAfter (execPrecautionStart s) s).pwr = s.pwr ∧ (resAfter (execPrecautionStart s) s).fpl = s.fpl ∧
      (resAfter (execPrecautionStart s) s).jtag = s.jtag ∧ (resAfter (execPrecautionStart s) s).fuses = s.fuses ∧
      (resAfter (execPrecautionStart s) s).cal = s.cal ∧ (resAfter (execPrecautionStart s) s).out = s.out ∧
      (resAfter (execPrecautionStart s) s).free = s.free ∧ (resAfter (execPrecautionStart s) s).pending = s.pending ∧
      (resAfter (execPrecautionStart s) s).dev.state = s.dev.state := by
  have q1 := noteLeft_frame
  have q2 := programHeader_frame
  have q3 := programList_frame
  unfold execPrecautionStart; (repeat' split) <;> simp_all

theorem execPrecautionEnd_frame (s : State) :
    (resAfter (execPrecautionEnd s) s).almanac = s.almanac ∧ (resAfter (execPrecautionEnd s) s).fuses = s.fuses ∧
      (resAfter (execPrecautionEnd s) s).pending = s.pending := by
  have q1 := endPrecaution_frame
  have q2 := modHalf_frame
  have q3 := modRec_frame
  have q4 := retireFailed_frame
  unfold execPrecautionEnd; (repeat' split) <;> simp [q1, q2, q3, q4]

theorem execPrecautionWaitTimeout_frame (s : State) :
    (resAfter (execPrecautionWaitTimeout s) s).fuses = s.fuses ∧ (resAfter (execPrecautionWaitTimeout s) s).cal = s.cal ∧
      (resAfter (execPrecautionWaitTimeout s) s).pending = s.pending := by
  have q1 := advanceTo_frame
  have q2 := endPrecaution_frame
  unfold execPrecautionWaitTimeout; (repeat' split) <;> simp_all

theorem execFloorPlanLoad_frame (s : State) :
    (resAfter (execFloorPlanLoad s) s).almanac = s.almanac ∧ (resAfter (execFloorPlanLoad s) s).fuses = s.fuses ∧
      (resAfter (execFloorPlanLoad s) s).cal = s.cal ∧ (resAfter (execFloorPlanLoad s) s).pending = s.pending := by
  have q1 := loadPlan_frame
  unfold execFloorPlanLoad; (repeat' split) <;> simp_all

theorem loseKeys_frame (l : List Nat) (s : State) :
    (loseKeys l s).almanac = s.almanac ∧ (loseKeys l s).fuses = s.fuses ∧ (loseKeys l s).cal = s.cal ∧
      (loseKeys l s).pending = s.pending := by
  have q1 := generateKeys_frame
  have q2 := raise_frame
  simp [q1, q2, loseKeys]

theorem execMetaReadDone_frame (lostPages lostKeys : List Nat) (bad : MetaBad) (s : State) :
    (resAfter (execMetaReadDone lostPages lostKeys bad s) s).fuses = s.fuses ∧
      (resAfter (execMetaReadDone lostPages lostKeys bad s) s).pending = s.pending := by
  have q1 := loadCheckpoint_frame
  have q2 := loadCounters_frame
  have q3 := loadMaps_frame
  have q4 := loadRoles_frame
  have q5 := loseKeys_frame
  have q6 := noteReadyAny_frame
  have q7 := patrolAtBoot_frame
  have q8 := raiseAddr_frame
  have q9 := raise_frame
  have q10 := readLastSave_frame
  have q11 := spareAtBoot_frame
  have q12 := stepAlmanac_frame
  unfold execMetaReadDone; (repeat' split) <;> simp_all

theorem decideHalf_frame (hold : Bool) (keep : List Half) (s : State) (h : Half) :
    (decideHalf hold keep s h).almanac = s.almanac ∧ (decideHalf hold keep s h).dev = s.dev ∧
      (decideHalf hold keep s h).stations = s.stations ∧ (decideHalf hold keep s h).hst = s.hst ∧
      (decideHalf hold keep s h).drc = s.drc ∧ (decideHalf hold keep s h).dram = s.dram ∧
      (decideHalf hold keep s h).cht = s.cht ∧ (decideHalf hold keep s h).sui = s.sui ∧
      (decideHalf hold keep s h).stw = s.stw ∧ (decideHalf hold keep s h).dmw = s.dmw ∧
      (decideHalf hold keep s h).nrg = s.nrg ∧ (decideHalf hold keep s h).gau = s.gau ∧
      (decideHalf hold keep s h).plk = s.plk ∧ (decideHalf hold keep s h).att = s.att ∧
      (decideHalf hold keep s h).ecc = s.ecc ∧ (decideHalf hold keep s h).tws = s.tws ∧
      (decideHalf hold keep s h).twp = s.twp ∧ (decideHalf hold keep s h).svc = s.svc ∧
      (decideHalf hold keep s h).log = s.log ∧ (decideHalf hold keep s h).pwr = s.pwr ∧
      (decideHalf hold keep s h).fpl = s.fpl ∧ (decideHalf hold keep s h).jtag = s.jtag ∧
      (decideHalf hold keep s h).fuses = s.fuses ∧ (decideHalf hold keep s h).cal = s.cal ∧
      (decideHalf hold keep s h).out = s.out ∧ (decideHalf hold keep s h).free = s.free ∧
      (decideHalf hold keep s h).pending = s.pending := by
  have q1 := modHalf_frame
  have q2 := releaseHalf_frame
  unfold decideHalf; (repeat' split) <;> simp_all

theorem decideStart_frame (s : State) :
    (decide_ s).almanac = s.almanac ∧ (decide_ s).fuses = s.fuses ∧ (decide_ s).cal = s.cal ∧
      (decide_ s).pending = s.pending := by
  have q1 := decideHalf_frame
  have q2 := decideRestore_frame
  have q3 := holdBoot_frame
  simp [q1, q2, q3, decide_]

theorem execRestoreDecision_frame (s : State) :
    (resAfter (execRestoreDecision s) s).almanac = s.almanac ∧ (resAfter (execRestoreDecision s) s).fuses = s.fuses ∧
      (resAfter (execRestoreDecision s) s).cal = s.cal ∧ (resAfter (execRestoreDecision s) s).pending = s.pending := by
  have q1 := decideStart_frame
  unfold execRestoreDecision; (repeat' split) <;> simp_all

theorem execZeroFillDone_frame (s : State) :
    (resAfter (execZeroFillDone s) s).almanac = s.almanac ∧ (resAfter (execZeroFillDone s) s).stations = s.stations ∧
      (resAfter (execZeroFillDone s) s).drc = s.drc ∧ (resAfter (execZeroFillDone s) s).ecc = s.ecc ∧
      (resAfter (execZeroFillDone s) s).pwr = s.pwr ∧ (resAfter (execZeroFillDone s) s).fpl = s.fpl ∧
      (resAfter (execZeroFillDone s) s).jtag = s.jtag ∧ (resAfter (execZeroFillDone s) s).fuses = s.fuses ∧
      (resAfter (execZeroFillDone s) s).cal = s.cal ∧ (resAfter (execZeroFillDone s) s).pending = s.pending := by
  have q1 := openService_frame
  have q2 := zeroFill_frame
  unfold execZeroFillDone; (repeat' split) <;> simp_all

theorem execFoldStart_frame (s : State) :
    (resAfter (execFoldStart s) s).almanac = s.almanac ∧ (resAfter (execFoldStart s) s).dev = s.dev ∧
      (resAfter (execFoldStart s) s).stations = s.stations ∧ (resAfter (execFoldStart s) s).hst = s.hst ∧
      (resAfter (execFoldStart s) s).dram = s.dram ∧ (resAfter (execFoldStart s) s).stw = s.stw ∧
      (resAfter (execFoldStart s) s).dmw = s.dmw ∧ (resAfter (execFoldStart s) s).nrg = s.nrg ∧
      (resAfter (execFoldStart s) s).gau = s.gau ∧ (resAfter (execFoldStart s) s).plk = s.plk ∧
      (resAfter (execFoldStart s) s).att = s.att ∧ (resAfter (execFoldStart s) s).ecc = s.ecc ∧
      (resAfter (execFoldStart s) s).tws = s.tws ∧ (resAfter (execFoldStart s) s).twp = s.twp ∧
      (resAfter (execFoldStart s) s).svc = s.svc ∧ (resAfter (execFoldStart s) s).log = s.log ∧
      (resAfter (execFoldStart s) s).pwr = s.pwr ∧ (resAfter (execFoldStart s) s).fpl = s.fpl ∧
      (resAfter (execFoldStart s) s).jtag = s.jtag ∧ (resAfter (execFoldStart s) s).fuses = s.fuses ∧
      (resAfter (execFoldStart s) s).cal = s.cal ∧ (resAfter (execFoldStart s) s).out = s.out ∧
      (resAfter (execFoldStart s) s).pending = s.pending := by
  have q1 := callTile_frame
  have q2 := foldStep_frame
  have q3 := startFold_frame
  simp only [execFoldStart]; (repeat' split) <;> simp [q1, q2, q3]

theorem loseContact_frame (parting : Bool) (s : State) :
    (loseContact parting s).almanac = s.almanac ∧ (loseContact parting s).fuses = s.fuses ∧
      (loseContact parting s).cal = s.cal ∧ (loseContact parting s).pending = s.pending := by
  have q1 := loseSet_frame
  simp [q1, loseContact]

theorem linkDown_frame (s : State) :
    (linkDown s).almanac = s.almanac ∧ (linkDown s).fuses = s.fuses ∧ (linkDown s).cal = s.cal ∧
      (linkDown s).pending = s.pending := by
  have q1 := loseContact_frame
  have q2 := raise_frame
  simp [q1, q2, linkDown]

theorem execLinkRetrainEnd_frame (ok : Bool) (s : State) :
    (resAfter (execLinkRetrainEnd ok s) s).almanac = s.almanac ∧ (resAfter (execLinkRetrainEnd ok s) s).fuses = s.fuses ∧
      (resAfter (execLinkRetrainEnd ok s) s).cal = s.cal ∧ (resAfter (execLinkRetrainEnd ok s) s).pending = s.pending := by
  have q1 := linkDown_frame
  unfold execLinkRetrainEnd; (repeat' split) <;> simp_all

theorem execContactTimeout_frame (s : State) :
    (resAfter (execContactTimeout s) s).fuses = s.fuses ∧ (resAfter (execContactTimeout s) s).cal = s.cal ∧
      (resAfter (execContactTimeout s) s).pending = s.pending := by
  have q1 := advanceTo_frame
  have q2 := loseContact_frame
  unfold execContactTimeout; (repeat' split) <;> simp_all

theorem execPartingMessage_frame (cause : Nat) (s : State) :
    (resAfter (execPartingMessage cause s) s).almanac = s.almanac ∧ (resAfter (execPartingMessage cause s) s).fuses = s.fuses ∧
      (resAfter (execPartingMessage cause s) s).cal = s.cal ∧ (resAfter (execPartingMessage cause s) s).pending = s.pending := by
  have q1 := loseContact_frame
  unfold execPartingMessage; (repeat' split) <;> simp_all

theorem putRole_frame (k : Nat) (r : RoleRun) (s : State) :
    (putRole k r s).almanac = s.almanac ∧ (putRole k r s).dev = s.dev ∧ (putRole k r s).stations = s.stations ∧
      (putRole k r s).hst = s.hst ∧ (putRole k r s).drc = s.drc ∧ (putRole k r s).dram = s.dram ∧ (putRole k r s).cht = s.cht ∧
      (putRole k r s).sui = s.sui ∧ (putRole k r s).stw = s.stw ∧ (putRole k r s).sav = s.sav ∧ (putRole k r s).dmw = s.dmw ∧
      (putRole k r s).nrg = s.nrg ∧ (putRole k r s).gau = s.gau ∧ (putRole k r s).rek = s.rek ∧ (putRole k r s).att = s.att ∧
      (putRole k r s).ecc = s.ecc ∧ (putRole k r s).tws = s.tws ∧ (putRole k r s).twp = s.twp ∧ (putRole k r s).svc = s.svc ∧
      (putRole k r s).log = s.log ∧ (putRole k r s).pwr = s.pwr ∧ (putRole k r s).fpl = s.fpl ∧ (putRole k r s).jtag = s.jtag ∧
      (putRole k r s).fuses = s.fuses ∧ (putRole k r s).cal = s.cal ∧ (putRole k r s).out = s.out ∧
      (putRole k r s).free = s.free ∧ (putRole k r s).pending = s.pending := by
  have q1 := modSet_frame
  have q2 := programItem_frame
  simp [q1, q2, putRole]

theorem replaceKeys_frame (s : State) :
    (replaceKeys s).almanac = s.almanac ∧ (replaceKeys s).dev = s.dev ∧ (replaceKeys s).stations = s.stations ∧
      (replaceKeys s).hst = s.hst ∧ (replaceKeys s).drc = s.drc ∧ (replaceKeys s).dram = s.dram ∧ (replaceKeys s).cht = s.cht ∧
      (replaceKeys s).sui = s.sui ∧ (replaceKeys s).stw = s.stw ∧ (replaceKeys s).sav = s.sav ∧ (replaceKeys s).dmw = s.dmw ∧
      (replaceKeys s).nrg = s.nrg ∧ (replaceKeys s).gau = s.gau ∧ (replaceKeys s).rek = s.rek ∧ (replaceKeys s).plk = s.plk ∧
      (replaceKeys s).att = s.att ∧ (replaceKeys s).ecc = s.ecc ∧ (replaceKeys s).tws = s.tws ∧ (replaceKeys s).twp = s.twp ∧
      (replaceKeys s).svc = s.svc ∧ (replaceKeys s).log = s.log ∧ (replaceKeys s).pwr = s.pwr ∧ (replaceKeys s).fpl = s.fpl ∧
      (replaceKeys s).jtag = s.jtag ∧ (replaceKeys s).fuses = s.fuses ∧ (replaceKeys s).cal = s.cal ∧
      (replaceKeys s).out = s.out ∧ (replaceKeys s).free = s.free ∧ (replaceKeys s).pending = s.pending := by
  have q1 := replaceItem_frame
  simp [q1, replaceKeys]

theorem endRestore_frame (s : State) :
    (endRestore s).almanac = s.almanac ∧ (endRestore s).stations = s.stations ∧ (endRestore s).dram = s.dram ∧
      (endRestore s).cht = s.cht ∧ (endRestore s).ecc = s.ecc ∧ (endRestore s).pwr = s.pwr ∧ (endRestore s).fpl = s.fpl ∧
      (endRestore s).jtag = s.jtag ∧ (endRestore s).fuses = s.fuses ∧ (endRestore s).cal = s.cal ∧
      (endRestore s).pending = s.pending := by
  have q1 := endRoom_frame
  have q2 := releaseReads_frame
  have q3 := restoreComplete_frame
  simp [q1, q2, q3, endRestore]

theorem eraseAll_frame (op : Nat) (s : State) :
    (eraseAll op s).almanac = s.almanac ∧ (eraseAll op s).fuses = s.fuses ∧ (eraseAll op s).pending = s.pending := by
  have q1 := dropMaps_frame
  have q2 := endRestore_frame
  have q3 := endStows_frame
  have q4 := eraseNand_frame
  have q5 := noteReadyAny_frame
  have q6 := reevalStalled_frame
  have q7 := reeval_frame
  have q8 := replaceKeys_frame
  have q9 := resetChart_frame
  have q10 := zeroDram_frame
  simp [q1, q2, q3, q4, q5, q6, q7, q8, q9, q10, eraseAll]

theorem execIdentify_frame (s : State) :
    (resAfter (execIdentify s) s).almanac = s.almanac ∧ (resAfter (execIdentify s) s).dev = s.dev ∧
      (resAfter (execIdentify s) s).stations = s.stations ∧ (resAfter (execIdentify s) s).hst = s.hst ∧
      (resAfter (execIdentify s) s).drc = s.drc ∧ (resAfter (execIdentify s) s).dram = s.dram ∧
      (resAfter (execIdentify s) s).cht = s.cht ∧ (resAfter (execIdentify s) s).sui = s.sui ∧
      (resAfter (execIdentify s) s).stw = s.stw ∧ (resAfter (execIdentify s) s).sav = s.sav ∧
      (resAfter (execIdentify s) s).cel = s.cel ∧ (resAfter (execIdentify s) s).dmw = s.dmw ∧
      (resAfter (execIdentify s) s).nrg = s.nrg ∧ (resAfter (execIdentify s) s).gau = s.gau ∧
      (resAfter (execIdentify s) s).rek = s.rek ∧ (resAfter (execIdentify s) s).plk = s.plk ∧
      (resAfter (execIdentify s) s).att = s.att ∧ (resAfter (execIdentify s) s).ecc = s.ecc ∧
      (resAfter (execIdentify s) s).tws = s.tws ∧ (resAfter (execIdentify s) s).twp = s.twp ∧
      (resAfter (execIdentify s) s).svc = s.svc ∧ (resAfter (execIdentify s) s).log = s.log ∧
      (resAfter (execIdentify s) s).pwr = s.pwr ∧ (resAfter (execIdentify s) s).fpl = s.fpl ∧
      (resAfter (execIdentify s) s).jtag = s.jtag ∧ (resAfter (execIdentify s) s).fuses = s.fuses ∧
      (resAfter (execIdentify s) s).cal = s.cal ∧ (resAfter (execIdentify s) s).free = s.free ∧
      (resAfter (execIdentify s) s).pending = s.pending := by
  have q1 := mailbox_mbxOut_frame
  simp [q1, execIdentify]

theorem execBackgroundOperationStatus_frame (s : State) :
    (resAfter (execBackgroundOperationStatus s) s).almanac = s.almanac ∧
      (resAfter (execBackgroundOperationStatus s) s).dev = s.dev ∧
      (resAfter (execBackgroundOperationStatus s) s).stations = s.stations ∧
      (resAfter (execBackgroundOperationStatus s) s).hst = s.hst ∧ (resAfter (execBackgroundOperationStatus s) s).drc = s.drc ∧
      (resAfter (execBackgroundOperationStatus s) s).dram = s.dram ∧
      (resAfter (execBackgroundOperationStatus s) s).cht = s.cht ∧ (resAfter (execBackgroundOperationStatus s) s).sui = s.sui ∧
      (resAfter (execBackgroundOperationStatus s) s).stw = s.stw ∧ (resAfter (execBackgroundOperationStatus s) s).sav = s.sav ∧
      (resAfter (execBackgroundOperationStatus s) s).cel = s.cel ∧ (resAfter (execBackgroundOperationStatus s) s).dmw = s.dmw ∧
      (resAfter (execBackgroundOperationStatus s) s).nrg = s.nrg ∧ (resAfter (execBackgroundOperationStatus s) s).gau = s.gau ∧
      (resAfter (execBackgroundOperationStatus s) s).rek = s.rek ∧ (resAfter (execBackgroundOperationStatus s) s).plk = s.plk ∧
      (resAfter (execBackgroundOperationStatus s) s).att = s.att ∧ (resAfter (execBackgroundOperationStatus s) s).ecc = s.ecc ∧
      (resAfter (execBackgroundOperationStatus s) s).tws = s.tws ∧ (resAfter (execBackgroundOperationStatus s) s).twp = s.twp ∧
      (resAfter (execBackgroundOperationStatus s) s).svc = s.svc ∧ (resAfter (execBackgroundOperationStatus s) s).log = s.log ∧
      (resAfter (execBackgroundOperationStatus s) s).pwr = s.pwr ∧ (resAfter (execBackgroundOperationStatus s) s).fpl = s.fpl ∧
      (resAfter (execBackgroundOperationStatus s) s).jtag = s.jtag ∧
      (resAfter (execBackgroundOperationStatus s) s).fuses = s.fuses ∧
      (resAfter (execBackgroundOperationStatus s) s).cal = s.cal ∧
      (resAfter (execBackgroundOperationStatus s) s).pending = s.pending := by
  have q1 := bgPercent_frame
  simp (disch := (intros; (repeat' split) <;> simp_all)) [execBackgroundOperationStatus]

theorem execGetEventRecords_frame (log : Nat) (s : State) :
    (resAfter (execGetEventRecords log s) s).almanac = s.almanac ∧ (resAfter (execGetEventRecords log s) s).dev = s.dev ∧
      (resAfter (execGetEventRecords log s) s).stations = s.stations ∧ (resAfter (execGetEventRecords log s) s).hst = s.hst ∧
      (resAfter (execGetEventRecords log s) s).drc = s.drc ∧ (resAfter (execGetEventRecords log s) s).dram = s.dram ∧
      (resAfter (execGetEventRecords log s) s).cht = s.cht ∧ (resAfter (execGetEventRecords log s) s).sui = s.sui ∧
      (resAfter (execGetEventRecords log s) s).stw = s.stw ∧ (resAfter (execGetEventRecords log s) s).sav = s.sav ∧
      (resAfter (execGetEventRecords log s) s).cel = s.cel ∧ (resAfter (execGetEventRecords log s) s).dmw = s.dmw ∧
      (resAfter (execGetEventRecords log s) s).nrg = s.nrg ∧ (resAfter (execGetEventRecords log s) s).gau = s.gau ∧
      (resAfter (execGetEventRecords log s) s).rek = s.rek ∧ (resAfter (execGetEventRecords log s) s).plk = s.plk ∧
      (resAfter (execGetEventRecords log s) s).att = s.att ∧ (resAfter (execGetEventRecords log s) s).ecc = s.ecc ∧
      (resAfter (execGetEventRecords log s) s).tws = s.tws ∧ (resAfter (execGetEventRecords log s) s).twp = s.twp ∧
      (resAfter (execGetEventRecords log s) s).svc = s.svc ∧ (resAfter (execGetEventRecords log s) s).log = s.log ∧
      (resAfter (execGetEventRecords log s) s).pwr = s.pwr ∧ (resAfter (execGetEventRecords log s) s).fpl = s.fpl ∧
      (resAfter (execGetEventRecords log s) s).jtag = s.jtag ∧ (resAfter (execGetEventRecords log s) s).fuses = s.fuses ∧
      (resAfter (execGetEventRecords log s) s).cal = s.cal ∧ (resAfter (execGetEventRecords log s) s).free = s.free ∧
      (resAfter (execGetEventRecords log s) s).pending = s.pending := by
  have q1 := mailbox_mbxOut_frame
  have q2 := mailbox_mbxRc_const_frame
  unfold execGetEventRecords; (repeat' split) <;> simp_all

theorem execGetEventInterruptPolicy_frame (s : State) :
    (resAfter (execGetEventInterruptPolicy s) s).almanac = s.almanac ∧
      (resAfter (execGetEventInterruptPolicy s) s).dev = s.dev ∧
      (resAfter (execGetEventInterruptPolicy s) s).stations = s.stations ∧
      (resAfter (execGetEventInterruptPolicy s) s).hst = s.hst ∧ (resAfter (execGetEventInterruptPolicy s) s).drc = s.drc ∧
      (resAfter (execGetEventInterruptPolicy s) s).dram = s.dram ∧ (resAfter (execGetEventInterruptPolicy s) s).cht = s.cht ∧
      (resAfter (execGetEventInterruptPolicy s) s).sui = s.sui ∧ (resAfter (execGetEventInterruptPolicy s) s).stw = s.stw ∧
      (resAfter (execGetEventInterruptPolicy s) s).sav = s.sav ∧ (resAfter (execGetEventInterruptPolicy s) s).cel = s.cel ∧
      (resAfter (execGetEventInterruptPolicy s) s).dmw = s.dmw ∧ (resAfter (execGetEventInterruptPolicy s) s).nrg = s.nrg ∧
      (resAfter (execGetEventInterruptPolicy s) s).gau = s.gau ∧ (resAfter (execGetEventInterruptPolicy s) s).rek = s.rek ∧
      (resAfter (execGetEventInterruptPolicy s) s).plk = s.plk ∧ (resAfter (execGetEventInterruptPolicy s) s).att = s.att ∧
      (resAfter (execGetEventInterruptPolicy s) s).ecc = s.ecc ∧ (resAfter (execGetEventInterruptPolicy s) s).tws = s.tws ∧
      (resAfter (execGetEventInterruptPolicy s) s).twp = s.twp ∧ (resAfter (execGetEventInterruptPolicy s) s).svc = s.svc ∧
      (resAfter (execGetEventInterruptPolicy s) s).log = s.log ∧ (resAfter (execGetEventInterruptPolicy s) s).pwr = s.pwr ∧
      (resAfter (execGetEventInterruptPolicy s) s).fpl = s.fpl ∧ (resAfter (execGetEventInterruptPolicy s) s).jtag = s.jtag ∧
      (resAfter (execGetEventInterruptPolicy s) s).fuses = s.fuses ∧ (resAfter (execGetEventInterruptPolicy s) s).cal = s.cal ∧
      (resAfter (execGetEventInterruptPolicy s) s).free = s.free ∧
      (resAfter (execGetEventInterruptPolicy s) s).pending = s.pending := by
  have q1 := mailbox_mbxOut_frame
  simp [q1, execGetEventInterruptPolicy]

theorem execSetEventInterruptPolicy_frame (settings : List Nat) (s : State) :
    (resAfter (execSetEventInterruptPolicy settings s) s).almanac = s.almanac ∧
      (resAfter (execSetEventInterruptPolicy settings s) s).dev = s.dev ∧
      (resAfter (execSetEventInterruptPolicy settings s) s).stations = s.stations ∧
      (resAfter (execSetEventInterruptPolicy settings s) s).drc = s.drc ∧
      (resAfter (execSetEventInterruptPolicy settings s) s).dram = s.dram ∧
      (resAfter (execSetEventInterruptPolicy settings s) s).cht = s.cht ∧
      (resAfter (execSetEventInterruptPolicy settings s) s).sui = s.sui ∧
      (resAfter (execSetEventInterruptPolicy settings s) s).stw = s.stw ∧
      (resAfter (execSetEventInterruptPolicy settings s) s).sav = s.sav ∧
      (resAfter (execSetEventInterruptPolicy settings s) s).cel = s.cel ∧
      (resAfter (execSetEventInterruptPolicy settings s) s).dmw = s.dmw ∧
      (resAfter (execSetEventInterruptPolicy settings s) s).nrg = s.nrg ∧
      (resAfter (execSetEventInterruptPolicy settings s) s).gau = s.gau ∧
      (resAfter (execSetEventInterruptPolicy settings s) s).rek = s.rek ∧
      (resAfter (execSetEventInterruptPolicy settings s) s).plk = s.plk ∧
      (resAfter (execSetEventInterruptPolicy settings s) s).att = s.att ∧
      (resAfter (execSetEventInterruptPolicy settings s) s).ecc = s.ecc ∧
      (resAfter (execSetEventInterruptPolicy settings s) s).tws = s.tws ∧
      (resAfter (execSetEventInterruptPolicy settings s) s).twp = s.twp ∧
      (resAfter (execSetEventInterruptPolicy settings s) s).svc = s.svc ∧
      (resAfter (execSetEventInterruptPolicy settings s) s).log = s.log ∧
      (resAfter (execSetEventInterruptPolicy settings s) s).pwr = s.pwr ∧
      (resAfter (execSetEventInterruptPolicy settings s) s).fpl = s.fpl ∧
      (resAfter (execSetEventInterruptPolicy settings s) s).jtag = s.jtag ∧
      (resAfter (execSetEventInterruptPolicy settings s) s).fuses = s.fuses ∧
      (resAfter (execSetEventInterruptPolicy settings s) s).cal = s.cal ∧
      (resAfter (execSetEventInterruptPolicy settings s) s).free = s.free ∧
      (resAfter (execSetEventInterruptPolicy settings s) s).pending = s.pending := by
  have q1 := mailbox_mbxRc_const_frame
  have q2 := setPolicy_frame
  unfold execSetEventInterruptPolicy; (repeat' split) <;> simp_all

theorem execGetFwInfo_frame (s : State) :
    (resAfter (execGetFwInfo s) s).almanac = s.almanac ∧ (resAfter (execGetFwInfo s) s).dev = s.dev ∧
      (resAfter (execGetFwInfo s) s).stations = s.stations ∧ (resAfter (execGetFwInfo s) s).hst = s.hst ∧
      (resAfter (execGetFwInfo s) s).drc = s.drc ∧ (resAfter (execGetFwInfo s) s).dram = s.dram ∧
      (resAfter (execGetFwInfo s) s).cht = s.cht ∧ (resAfter (execGetFwInfo s) s).sui = s.sui ∧
      (resAfter (execGetFwInfo s) s).stw = s.stw ∧ (resAfter (execGetFwInfo s) s).sav = s.sav ∧
      (resAfter (execGetFwInfo s) s).cel = s.cel ∧ (resAfter (execGetFwInfo s) s).dmw = s.dmw ∧
      (resAfter (execGetFwInfo s) s).nrg = s.nrg ∧ (resAfter (execGetFwInfo s) s).gau = s.gau ∧
      (resAfter (execGetFwInfo s) s).rek = s.rek ∧ (resAfter (execGetFwInfo s) s).plk = s.plk ∧
      (resAfter (execGetFwInfo s) s).att = s.att ∧ (resAfter (execGetFwInfo s) s).ecc = s.ecc ∧
      (resAfter (execGetFwInfo s) s).tws = s.tws ∧ (resAfter (execGetFwInfo s) s).twp = s.twp ∧
      (resAfter (execGetFwInfo s) s).svc = s.svc ∧ (resAfter (execGetFwInfo s) s).log = s.log ∧
      (resAfter (execGetFwInfo s) s).pwr = s.pwr ∧ (resAfter (execGetFwInfo s) s).fpl = s.fpl ∧
      (resAfter (execGetFwInfo s) s).jtag = s.jtag ∧ (resAfter (execGetFwInfo s) s).fuses = s.fuses ∧
      (resAfter (execGetFwInfo s) s).cal = s.cal ∧ (resAfter (execGetFwInfo s) s).free = s.free ∧
      (resAfter (execGetFwInfo s) s).pending = s.pending := by
  have q1 := mailbox_mbxOut_frame
  simp [q1, execGetFwInfo]

theorem execTransferFw_frame (s : State) :
    (resAfter (execTransferFw s) s).almanac = s.almanac ∧ (resAfter (execTransferFw s) s).dev = s.dev ∧
      (resAfter (execTransferFw s) s).stations = s.stations ∧ (resAfter (execTransferFw s) s).hst = s.hst ∧
      (resAfter (execTransferFw s) s).drc = s.drc ∧ (resAfter (execTransferFw s) s).dram = s.dram ∧
      (resAfter (execTransferFw s) s).cht = s.cht ∧ (resAfter (execTransferFw s) s).sui = s.sui ∧
      (resAfter (execTransferFw s) s).stw = s.stw ∧ (resAfter (execTransferFw s) s).sav = s.sav ∧
      (resAfter (execTransferFw s) s).cel = s.cel ∧ (resAfter (execTransferFw s) s).dmw = s.dmw ∧
      (resAfter (execTransferFw s) s).nrg = s.nrg ∧ (resAfter (execTransferFw s) s).gau = s.gau ∧
      (resAfter (execTransferFw s) s).rek = s.rek ∧ (resAfter (execTransferFw s) s).plk = s.plk ∧
      (resAfter (execTransferFw s) s).att = s.att ∧ (resAfter (execTransferFw s) s).ecc = s.ecc ∧
      (resAfter (execTransferFw s) s).tws = s.tws ∧ (resAfter (execTransferFw s) s).twp = s.twp ∧
      (resAfter (execTransferFw s) s).svc = s.svc ∧ (resAfter (execTransferFw s) s).log = s.log ∧
      (resAfter (execTransferFw s) s).pwr = s.pwr ∧ (resAfter (execTransferFw s) s).fpl = s.fpl ∧
      (resAfter (execTransferFw s) s).jtag = s.jtag ∧ (resAfter (execTransferFw s) s).fuses = s.fuses ∧
      (resAfter (execTransferFw s) s).cal = s.cal ∧ (resAfter (execTransferFw s) s).free = s.free ∧
      (resAfter (execTransferFw s) s).pending = s.pending := by
  have q1 := mailbox_mbxRc_const_frame
  simp [q1, execTransferFw]

theorem execActivateFw_frame (s : State) :
    (resAfter (execActivateFw s) s).almanac = s.almanac ∧ (resAfter (execActivateFw s) s).dev = s.dev ∧
      (resAfter (execActivateFw s) s).stations = s.stations ∧ (resAfter (execActivateFw s) s).hst = s.hst ∧
      (resAfter (execActivateFw s) s).drc = s.drc ∧ (resAfter (execActivateFw s) s).dram = s.dram ∧
      (resAfter (execActivateFw s) s).cht = s.cht ∧ (resAfter (execActivateFw s) s).sui = s.sui ∧
      (resAfter (execActivateFw s) s).stw = s.stw ∧ (resAfter (execActivateFw s) s).sav = s.sav ∧
      (resAfter (execActivateFw s) s).cel = s.cel ∧ (resAfter (execActivateFw s) s).dmw = s.dmw ∧
      (resAfter (execActivateFw s) s).nrg = s.nrg ∧ (resAfter (execActivateFw s) s).gau = s.gau ∧
      (resAfter (execActivateFw s) s).rek = s.rek ∧ (resAfter (execActivateFw s) s).plk = s.plk ∧
      (resAfter (execActivateFw s) s).att = s.att ∧ (resAfter (execActivateFw s) s).ecc = s.ecc ∧
      (resAfter (execActivateFw s) s).tws = s.tws ∧ (resAfter (execActivateFw s) s).twp = s.twp ∧
      (resAfter (execActivateFw s) s).svc = s.svc ∧ (resAfter (execActivateFw s) s).log = s.log ∧
      (resAfter (execActivateFw s) s).pwr = s.pwr ∧ (resAfter (execActivateFw s) s).fpl = s.fpl ∧
      (resAfter (execActivateFw s) s).jtag = s.jtag ∧ (resAfter (execActivateFw s) s).fuses = s.fuses ∧
      (resAfter (execActivateFw s) s).cal = s.cal ∧ (resAfter (execActivateFw s) s).free = s.free ∧
      (resAfter (execActivateFw s) s).pending = s.pending := by
  have q1 := mailbox_mbxRc_const_frame
  simp [q1, execActivateFw]

theorem execGetTimestamp_frame (s : State) :
    (resAfter (execGetTimestamp s) s).almanac = s.almanac ∧ (resAfter (execGetTimestamp s) s).dev = s.dev ∧
      (resAfter (execGetTimestamp s) s).stations = s.stations ∧ (resAfter (execGetTimestamp s) s).hst = s.hst ∧
      (resAfter (execGetTimestamp s) s).drc = s.drc ∧ (resAfter (execGetTimestamp s) s).dram = s.dram ∧
      (resAfter (execGetTimestamp s) s).cht = s.cht ∧ (resAfter (execGetTimestamp s) s).sui = s.sui ∧
      (resAfter (execGetTimestamp s) s).stw = s.stw ∧ (resAfter (execGetTimestamp s) s).sav = s.sav ∧
      (resAfter (execGetTimestamp s) s).cel = s.cel ∧ (resAfter (execGetTimestamp s) s).dmw = s.dmw ∧
      (resAfter (execGetTimestamp s) s).nrg = s.nrg ∧ (resAfter (execGetTimestamp s) s).gau = s.gau ∧
      (resAfter (execGetTimestamp s) s).rek = s.rek ∧ (resAfter (execGetTimestamp s) s).plk = s.plk ∧
      (resAfter (execGetTimestamp s) s).att = s.att ∧ (resAfter (execGetTimestamp s) s).ecc = s.ecc ∧
      (resAfter (execGetTimestamp s) s).tws = s.tws ∧ (resAfter (execGetTimestamp s) s).twp = s.twp ∧
      (resAfter (execGetTimestamp s) s).svc = s.svc ∧ (resAfter (execGetTimestamp s) s).log = s.log ∧
      (resAfter (execGetTimestamp s) s).pwr = s.pwr ∧ (resAfter (execGetTimestamp s) s).fpl = s.fpl ∧
      (resAfter (execGetTimestamp s) s).jtag = s.jtag ∧ (resAfter (execGetTimestamp s) s).fuses = s.fuses ∧
      (resAfter (execGetTimestamp s) s).cal = s.cal ∧ (resAfter (execGetTimestamp s) s).free = s.free ∧
      (resAfter (execGetTimestamp s) s).pending = s.pending := by
  have q1 := mailbox_mbxOut_frame
  simp [q1, execGetTimestamp]

theorem execSetTimestamp_frame (ns : Nat) (s : State) :
    (resAfter (execSetTimestamp ns s) s).almanac = s.almanac ∧ (resAfter (execSetTimestamp ns s) s).fuses = s.fuses ∧
      (resAfter (execSetTimestamp ns s) s).pending = s.pending := by
  have q1 := setCalendar_frame
  simp [q1, execSetTimestamp]

theorem execGetLog_frame (ofs len : Nat) (s : State) :
    (resAfter (execGetLog ofs len s) s).almanac = s.almanac ∧ (resAfter (execGetLog ofs len s) s).dev = s.dev ∧
      (resAfter (execGetLog ofs len s) s).stations = s.stations ∧ (resAfter (execGetLog ofs len s) s).hst = s.hst ∧
      (resAfter (execGetLog ofs len s) s).drc = s.drc ∧ (resAfter (execGetLog ofs len s) s).dram = s.dram ∧
      (resAfter (execGetLog ofs len s) s).cht = s.cht ∧ (resAfter (execGetLog ofs len s) s).sui = s.sui ∧
      (resAfter (execGetLog ofs len s) s).stw = s.stw ∧ (resAfter (execGetLog ofs len s) s).sav = s.sav ∧
      (resAfter (execGetLog ofs len s) s).cel = s.cel ∧ (resAfter (execGetLog ofs len s) s).dmw = s.dmw ∧
      (resAfter (execGetLog ofs len s) s).nrg = s.nrg ∧ (resAfter (execGetLog ofs len s) s).gau = s.gau ∧
      (resAfter (execGetLog ofs len s) s).rek = s.rek ∧ (resAfter (execGetLog ofs len s) s).plk = s.plk ∧
      (resAfter (execGetLog ofs len s) s).att = s.att ∧ (resAfter (execGetLog ofs len s) s).ecc = s.ecc ∧
      (resAfter (execGetLog ofs len s) s).tws = s.tws ∧ (resAfter (execGetLog ofs len s) s).twp = s.twp ∧
      (resAfter (execGetLog ofs len s) s).svc = s.svc ∧ (resAfter (execGetLog ofs len s) s).log = s.log ∧
      (resAfter (execGetLog ofs len s) s).pwr = s.pwr ∧ (resAfter (execGetLog ofs len s) s).fpl = s.fpl ∧
      (resAfter (execGetLog ofs len s) s).jtag = s.jtag ∧ (resAfter (execGetLog ofs len s) s).fuses = s.fuses ∧
      (resAfter (execGetLog ofs len s) s).cal = s.cal ∧ (resAfter (execGetLog ofs len s) s).free = s.free ∧
      (resAfter (execGetLog ofs len s) s).pending = s.pending := by
  simp (disch := (intros; (repeat' split) <;> simp_all)) [execGetLog]

theorem execIdentifyMemoryDevice_frame (s : State) :
    (resAfter (execIdentifyMemoryDevice s) s).almanac = s.almanac ∧ (resAfter (execIdentifyMemoryDevice s) s).dev = s.dev ∧
      (resAfter (execIdentifyMemoryDevice s) s).stations = s.stations ∧ (resAfter (execIdentifyMemoryDevice s) s).hst = s.hst ∧
      (resAfter (execIdentifyMemoryDevice s) s).drc = s.drc ∧ (resAfter (execIdentifyMemoryDevice s) s).dram = s.dram ∧
      (resAfter (execIdentifyMemoryDevice s) s).cht = s.cht ∧ (resAfter (execIdentifyMemoryDevice s) s).sui = s.sui ∧
      (resAfter (execIdentifyMemoryDevice s) s).stw = s.stw ∧ (resAfter (execIdentifyMemoryDevice s) s).sav = s.sav ∧
      (resAfter (execIdentifyMemoryDevice s) s).cel = s.cel ∧ (resAfter (execIdentifyMemoryDevice s) s).dmw = s.dmw ∧
      (resAfter (execIdentifyMemoryDevice s) s).nrg = s.nrg ∧ (resAfter (execIdentifyMemoryDevice s) s).gau = s.gau ∧
      (resAfter (execIdentifyMemoryDevice s) s).rek = s.rek ∧ (resAfter (execIdentifyMemoryDevice s) s).plk = s.plk ∧
      (resAfter (execIdentifyMemoryDevice s) s).att = s.att ∧ (resAfter (execIdentifyMemoryDevice s) s).ecc = s.ecc ∧
      (resAfter (execIdentifyMemoryDevice s) s).tws = s.tws ∧ (resAfter (execIdentifyMemoryDevice s) s).twp = s.twp ∧
      (resAfter (execIdentifyMemoryDevice s) s).svc = s.svc ∧ (resAfter (execIdentifyMemoryDevice s) s).log = s.log ∧
      (resAfter (execIdentifyMemoryDevice s) s).pwr = s.pwr ∧ (resAfter (execIdentifyMemoryDevice s) s).fpl = s.fpl ∧
      (resAfter (execIdentifyMemoryDevice s) s).jtag = s.jtag ∧ (resAfter (execIdentifyMemoryDevice s) s).fuses = s.fuses ∧
      (resAfter (execIdentifyMemoryDevice s) s).cal = s.cal ∧ (resAfter (execIdentifyMemoryDevice s) s).free = s.free ∧
      (resAfter (execIdentifyMemoryDevice s) s).pending = s.pending := by
  have q1 := mailbox_mbxOut_frame
  simp [q1, execIdentifyMemoryDevice]

theorem execGetPartitionInfo_frame (s : State) :
    (resAfter (execGetPartitionInfo s) s).almanac = s.almanac ∧ (resAfter (execGetPartitionInfo s) s).dev = s.dev ∧
      (resAfter (execGetPartitionInfo s) s).stations = s.stations ∧ (resAfter (execGetPartitionInfo s) s).hst = s.hst ∧
      (resAfter (execGetPartitionInfo s) s).drc = s.drc ∧ (resAfter (execGetPartitionInfo s) s).dram = s.dram ∧
      (resAfter (execGetPartitionInfo s) s).cht = s.cht ∧ (resAfter (execGetPartitionInfo s) s).sui = s.sui ∧
      (resAfter (execGetPartitionInfo s) s).stw = s.stw ∧ (resAfter (execGetPartitionInfo s) s).sav = s.sav ∧
      (resAfter (execGetPartitionInfo s) s).cel = s.cel ∧ (resAfter (execGetPartitionInfo s) s).dmw = s.dmw ∧
      (resAfter (execGetPartitionInfo s) s).nrg = s.nrg ∧ (resAfter (execGetPartitionInfo s) s).gau = s.gau ∧
      (resAfter (execGetPartitionInfo s) s).rek = s.rek ∧ (resAfter (execGetPartitionInfo s) s).plk = s.plk ∧
      (resAfter (execGetPartitionInfo s) s).att = s.att ∧ (resAfter (execGetPartitionInfo s) s).ecc = s.ecc ∧
      (resAfter (execGetPartitionInfo s) s).tws = s.tws ∧ (resAfter (execGetPartitionInfo s) s).twp = s.twp ∧
      (resAfter (execGetPartitionInfo s) s).svc = s.svc ∧ (resAfter (execGetPartitionInfo s) s).log = s.log ∧
      (resAfter (execGetPartitionInfo s) s).pwr = s.pwr ∧ (resAfter (execGetPartitionInfo s) s).fpl = s.fpl ∧
      (resAfter (execGetPartitionInfo s) s).jtag = s.jtag ∧ (resAfter (execGetPartitionInfo s) s).fuses = s.fuses ∧
      (resAfter (execGetPartitionInfo s) s).cal = s.cal ∧ (resAfter (execGetPartitionInfo s) s).free = s.free ∧
      (resAfter (execGetPartitionInfo s) s).pending = s.pending := by
  have q1 := mailbox_mbxOut_frame
  simp [q1, execGetPartitionInfo]

theorem execSetPartitionInfo_frame (s : State) :
    (resAfter (execSetPartitionInfo s) s).almanac = s.almanac ∧ (resAfter (execSetPartitionInfo s) s).dev = s.dev ∧
      (resAfter (execSetPartitionInfo s) s).stations = s.stations ∧ (resAfter (execSetPartitionInfo s) s).hst = s.hst ∧
      (resAfter (execSetPartitionInfo s) s).drc = s.drc ∧ (resAfter (execSetPartitionInfo s) s).dram = s.dram ∧
      (resAfter (execSetPartitionInfo s) s).cht = s.cht ∧ (resAfter (execSetPartitionInfo s) s).sui = s.sui ∧
      (resAfter (execSetPartitionInfo s) s).stw = s.stw ∧ (resAfter (execSetPartitionInfo s) s).sav = s.sav ∧
      (resAfter (execSetPartitionInfo s) s).cel = s.cel ∧ (resAfter (execSetPartitionInfo s) s).dmw = s.dmw ∧
      (resAfter (execSetPartitionInfo s) s).nrg = s.nrg ∧ (resAfter (execSetPartitionInfo s) s).gau = s.gau ∧
      (resAfter (execSetPartitionInfo s) s).rek = s.rek ∧ (resAfter (execSetPartitionInfo s) s).plk = s.plk ∧
      (resAfter (execSetPartitionInfo s) s).att = s.att ∧ (resAfter (execSetPartitionInfo s) s).ecc = s.ecc ∧
      (resAfter (execSetPartitionInfo s) s).tws = s.tws ∧ (resAfter (execSetPartitionInfo s) s).twp = s.twp ∧
      (resAfter (execSetPartitionInfo s) s).svc = s.svc ∧ (resAfter (execSetPartitionInfo s) s).log = s.log ∧
      (resAfter (execSetPartitionInfo s) s).pwr = s.pwr ∧ (resAfter (execSetPartitionInfo s) s).fpl = s.fpl ∧
      (resAfter (execSetPartitionInfo s) s).jtag = s.jtag ∧ (resAfter (execSetPartitionInfo s) s).fuses = s.fuses ∧
      (resAfter (execSetPartitionInfo s) s).cal = s.cal ∧ (resAfter (execSetPartitionInfo s) s).free = s.free ∧
      (resAfter (execSetPartitionInfo s) s).pending = s.pending := by
  have q1 := mailbox_mbxRc_const_frame
  simp [q1, execSetPartitionInfo]

theorem execGetLsa_frame (ofs len : Nat) (ok : Bool) (s : State) :
    (resAfter (execGetLsa ofs len ok s) s).almanac = s.almanac ∧ (resAfter (execGetLsa ofs len ok s) s).fuses = s.fuses ∧
      (resAfter (execGetLsa ofs len ok s) s).cal = s.cal ∧ (resAfter (execGetLsa ofs len ok s) s).pending = s.pending := by
  have q1 := mailbox_mbxOut_frame
  have q2 := mailbox_mbxRc_const_frame
  have q3 := raiseAddr_frame
  unfold execGetLsa; (repeat' split) <;> simp_all

theorem execSetLsa_frame (ofs : Nat) (data : List Byte) (s : State) :
    (resAfter (execSetLsa ofs data s) s).almanac = s.almanac ∧ (resAfter (execSetLsa ofs data s) s).dev = s.dev ∧
      (resAfter (execSetLsa ofs data s) s).stations = s.stations ∧ (resAfter (execSetLsa ofs data s) s).hst = s.hst ∧
      (resAfter (execSetLsa ofs data s) s).drc = s.drc ∧ (resAfter (execSetLsa ofs data s) s).dram = s.dram ∧
      (resAfter (execSetLsa ofs data s) s).cht = s.cht ∧ (resAfter (execSetLsa ofs data s) s).sui = s.sui ∧
      (resAfter (execSetLsa ofs data s) s).stw = s.stw ∧ (resAfter (execSetLsa ofs data s) s).sav = s.sav ∧
      (resAfter (execSetLsa ofs data s) s).cel = s.cel ∧ (resAfter (execSetLsa ofs data s) s).dmw = s.dmw ∧
      (resAfter (execSetLsa ofs data s) s).nrg = s.nrg ∧ (resAfter (execSetLsa ofs data s) s).gau = s.gau ∧
      (resAfter (execSetLsa ofs data s) s).rek = s.rek ∧ (resAfter (execSetLsa ofs data s) s).plk = s.plk ∧
      (resAfter (execSetLsa ofs data s) s).att = s.att ∧ (resAfter (execSetLsa ofs data s) s).ecc = s.ecc ∧
      (resAfter (execSetLsa ofs data s) s).tws = s.tws ∧ (resAfter (execSetLsa ofs data s) s).twp = s.twp ∧
      (resAfter (execSetLsa ofs data s) s).svc = s.svc ∧ (resAfter (execSetLsa ofs data s) s).log = s.log ∧
      (resAfter (execSetLsa ofs data s) s).pwr = s.pwr ∧ (resAfter (execSetLsa ofs data s) s).fpl = s.fpl ∧
      (resAfter (execSetLsa ofs data s) s).jtag = s.jtag ∧ (resAfter (execSetLsa ofs data s) s).fuses = s.fuses ∧
      (resAfter (execSetLsa ofs data s) s).free = s.free ∧ (resAfter (execSetLsa ofs data s) s).pending = s.pending := by
  simp (disch := (intros; (repeat' split) <;> simp_all)) [execSetLsa]

theorem execGetHealthInfo_frame (s : State) :
    (resAfter (execGetHealthInfo s) s).almanac = s.almanac ∧ (resAfter (execGetHealthInfo s) s).dev = s.dev ∧
      (resAfter (execGetHealthInfo s) s).stations = s.stations ∧ (resAfter (execGetHealthInfo s) s).hst = s.hst ∧
      (resAfter (execGetHealthInfo s) s).drc = s.drc ∧ (resAfter (execGetHealthInfo s) s).dram = s.dram ∧
      (resAfter (execGetHealthInfo s) s).cht = s.cht ∧ (resAfter (execGetHealthInfo s) s).sui = s.sui ∧
      (resAfter (execGetHealthInfo s) s).stw = s.stw ∧ (resAfter (execGetHealthInfo s) s).sav = s.sav ∧
      (resAfter (execGetHealthInfo s) s).cel = s.cel ∧ (resAfter (execGetHealthInfo s) s).dmw = s.dmw ∧
      (resAfter (execGetHealthInfo s) s).nrg = s.nrg ∧ (resAfter (execGetHealthInfo s) s).gau = s.gau ∧
      (resAfter (execGetHealthInfo s) s).rek = s.rek ∧ (resAfter (execGetHealthInfo s) s).plk = s.plk ∧
      (resAfter (execGetHealthInfo s) s).att = s.att ∧ (resAfter (execGetHealthInfo s) s).ecc = s.ecc ∧
      (resAfter (execGetHealthInfo s) s).tws = s.tws ∧ (resAfter (execGetHealthInfo s) s).twp = s.twp ∧
      (resAfter (execGetHealthInfo s) s).svc = s.svc ∧ (resAfter (execGetHealthInfo s) s).log = s.log ∧
      (resAfter (execGetHealthInfo s) s).pwr = s.pwr ∧ (resAfter (execGetHealthInfo s) s).fpl = s.fpl ∧
      (resAfter (execGetHealthInfo s) s).jtag = s.jtag ∧ (resAfter (execGetHealthInfo s) s).fuses = s.fuses ∧
      (resAfter (execGetHealthInfo s) s).cal = s.cal ∧ (resAfter (execGetHealthInfo s) s).free = s.free ∧
      (resAfter (execGetHealthInfo s) s).pending = s.pending := by
  have q1 := mailbox_mbxOut_frame
  simp [q1, execGetHealthInfo]

theorem execGetAlertConfiguration_frame (s : State) :
    (resAfter (execGetAlertConfiguration s) s).almanac = s.almanac ∧ (resAfter (execGetAlertConfiguration s) s).dev = s.dev ∧
      (resAfter (execGetAlertConfiguration s) s).stations = s.stations ∧
      (resAfter (execGetAlertConfiguration s) s).hst = s.hst ∧ (resAfter (execGetAlertConfiguration s) s).drc = s.drc ∧
      (resAfter (execGetAlertConfiguration s) s).dram = s.dram ∧ (resAfter (execGetAlertConfiguration s) s).cht = s.cht ∧
      (resAfter (execGetAlertConfiguration s) s).sui = s.sui ∧ (resAfter (execGetAlertConfiguration s) s).stw = s.stw ∧
      (resAfter (execGetAlertConfiguration s) s).sav = s.sav ∧ (resAfter (execGetAlertConfiguration s) s).cel = s.cel ∧
      (resAfter (execGetAlertConfiguration s) s).dmw = s.dmw ∧ (resAfter (execGetAlertConfiguration s) s).nrg = s.nrg ∧
      (resAfter (execGetAlertConfiguration s) s).gau = s.gau ∧ (resAfter (execGetAlertConfiguration s) s).rek = s.rek ∧
      (resAfter (execGetAlertConfiguration s) s).plk = s.plk ∧ (resAfter (execGetAlertConfiguration s) s).att = s.att ∧
      (resAfter (execGetAlertConfiguration s) s).ecc = s.ecc ∧ (resAfter (execGetAlertConfiguration s) s).tws = s.tws ∧
      (resAfter (execGetAlertConfiguration s) s).twp = s.twp ∧ (resAfter (execGetAlertConfiguration s) s).svc = s.svc ∧
      (resAfter (execGetAlertConfiguration s) s).log = s.log ∧ (resAfter (execGetAlertConfiguration s) s).pwr = s.pwr ∧
      (resAfter (execGetAlertConfiguration s) s).fpl = s.fpl ∧ (resAfter (execGetAlertConfiguration s) s).jtag = s.jtag ∧
      (resAfter (execGetAlertConfiguration s) s).fuses = s.fuses ∧ (resAfter (execGetAlertConfiguration s) s).cal = s.cal ∧
      (resAfter (execGetAlertConfiguration s) s).free = s.free ∧
      (resAfter (execGetAlertConfiguration s) s).pending = s.pending := by
  have q1 := mailbox_mbxOut_frame
  simp [q1, execGetAlertConfiguration]

theorem execGetShutdownState_frame (s : State) :
    (resAfter (execGetShutdownState s) s).almanac = s.almanac ∧ (resAfter (execGetShutdownState s) s).dev = s.dev ∧
      (resAfter (execGetShutdownState s) s).stations = s.stations ∧ (resAfter (execGetShutdownState s) s).hst = s.hst ∧
      (resAfter (execGetShutdownState s) s).drc = s.drc ∧ (resAfter (execGetShutdownState s) s).dram = s.dram ∧
      (resAfter (execGetShutdownState s) s).cht = s.cht ∧ (resAfter (execGetShutdownState s) s).sui = s.sui ∧
      (resAfter (execGetShutdownState s) s).stw = s.stw ∧ (resAfter (execGetShutdownState s) s).sav = s.sav ∧
      (resAfter (execGetShutdownState s) s).cel = s.cel ∧ (resAfter (execGetShutdownState s) s).dmw = s.dmw ∧
      (resAfter (execGetShutdownState s) s).nrg = s.nrg ∧ (resAfter (execGetShutdownState s) s).gau = s.gau ∧
      (resAfter (execGetShutdownState s) s).rek = s.rek ∧ (resAfter (execGetShutdownState s) s).plk = s.plk ∧
      (resAfter (execGetShutdownState s) s).att = s.att ∧ (resAfter (execGetShutdownState s) s).ecc = s.ecc ∧
      (resAfter (execGetShutdownState s) s).tws = s.tws ∧ (resAfter (execGetShutdownState s) s).twp = s.twp ∧
      (resAfter (execGetShutdownState s) s).svc = s.svc ∧ (resAfter (execGetShutdownState s) s).log = s.log ∧
      (resAfter (execGetShutdownState s) s).pwr = s.pwr ∧ (resAfter (execGetShutdownState s) s).fpl = s.fpl ∧
      (resAfter (execGetShutdownState s) s).jtag = s.jtag ∧ (resAfter (execGetShutdownState s) s).fuses = s.fuses ∧
      (resAfter (execGetShutdownState s) s).cal = s.cal ∧ (resAfter (execGetShutdownState s) s).free = s.free ∧
      (resAfter (execGetShutdownState s) s).pending = s.pending := by
  have q1 := mailbox_mbxOut_frame
  simp [q1, execGetShutdownState]

theorem execInjectPoison_frame (dpa : Nat) (s : State) :
    (resAfter (execInjectPoison dpa s) s).almanac = s.almanac ∧ (resAfter (execInjectPoison dpa s) s).fuses = s.fuses ∧
      (resAfter (execInjectPoison dpa s) s).cal = s.cal ∧ (resAfter (execInjectPoison dpa s) s).pending = s.pending := by
  have q1 := injectPoison_frame
  simp (disch := (intros; (repeat' split) <;> simp_all)) [execInjectPoison]

theorem goOn_frame (tag : Nat) (s : State) :
    (goOn tag s).almanac = s.almanac ∧ (goOn tag s).fuses = s.fuses ∧ (goOn tag s).cal = s.cal ∧
      (goOn tag s).pending = s.pending := by
  have q1 := acceptWrite_frame
  have q2 := presentClaim_frame
  simp only [goOn]; (repeat' split) <;> simp [q1, q2]

theorem execClearPoison_frame (dpa : Nat) (data : List Byte) (s : State) :
    (resAfter (execClearPoison dpa data s) s).almanac = s.almanac ∧ (resAfter (execClearPoison dpa data s) s).fuses = s.fuses ∧
      (resAfter (execClearPoison dpa data s) s).cal = s.cal ∧ (resAfter (execClearPoison dpa data s) s).pending = s.pending := by
  have q1 := discard_frame
  have q2 := goOn_frame
  have q3 := takeWrite_frame
  have q4 := watchRecord_frame
  simp (disch := (intros; (repeat' split) <;> simp_all)) [execClearPoison]

theorem execGetScanMediaCapabilities_frame (s : State) :
    (resAfter (execGetScanMediaCapabilities s) s).almanac = s.almanac ∧
      (resAfter (execGetScanMediaCapabilities s) s).dev = s.dev ∧
      (resAfter (execGetScanMediaCapabilities s) s).stations = s.stations ∧
      (resAfter (execGetScanMediaCapabilities s) s).hst = s.hst ∧ (resAfter (execGetScanMediaCapabilities s) s).drc = s.drc ∧
      (resAfter (execGetScanMediaCapabilities s) s).dram = s.dram ∧ (resAfter (execGetScanMediaCapabilities s) s).cht = s.cht ∧
      (resAfter (execGetScanMediaCapabilities s) s).sui = s.sui ∧ (resAfter (execGetScanMediaCapabilities s) s).stw = s.stw ∧
      (resAfter (execGetScanMediaCapabilities s) s).sav = s.sav ∧ (resAfter (execGetScanMediaCapabilities s) s).cel = s.cel ∧
      (resAfter (execGetScanMediaCapabilities s) s).dmw = s.dmw ∧ (resAfter (execGetScanMediaCapabilities s) s).nrg = s.nrg ∧
      (resAfter (execGetScanMediaCapabilities s) s).gau = s.gau ∧ (resAfter (execGetScanMediaCapabilities s) s).rek = s.rek ∧
      (resAfter (execGetScanMediaCapabilities s) s).plk = s.plk ∧ (resAfter (execGetScanMediaCapabilities s) s).att = s.att ∧
      (resAfter (execGetScanMediaCapabilities s) s).ecc = s.ecc ∧ (resAfter (execGetScanMediaCapabilities s) s).tws = s.tws ∧
      (resAfter (execGetScanMediaCapabilities s) s).twp = s.twp ∧ (resAfter (execGetScanMediaCapabilities s) s).svc = s.svc ∧
      (resAfter (execGetScanMediaCapabilities s) s).log = s.log ∧ (resAfter (execGetScanMediaCapabilities s) s).pwr = s.pwr ∧
      (resAfter (execGetScanMediaCapabilities s) s).fpl = s.fpl ∧ (resAfter (execGetScanMediaCapabilities s) s).jtag = s.jtag ∧
      (resAfter (execGetScanMediaCapabilities s) s).fuses = s.fuses ∧
      (resAfter (execGetScanMediaCapabilities s) s).cal = s.cal ∧ (resAfter (execGetScanMediaCapabilities s) s).free = s.free ∧
      (resAfter (execGetScanMediaCapabilities s) s).pending = s.pending := by
  have q1 := mailbox_mbxOut_frame
  simp [q1, execGetScanMediaCapabilities]

theorem execSecureErase_frame (s : State) :
    (resAfter (execSecureErase s) s).almanac = s.almanac ∧ (resAfter (execSecureErase s) s).dev = s.dev ∧
      (resAfter (execSecureErase s) s).stations = s.stations ∧ (resAfter (execSecureErase s) s).drc = s.drc ∧
      (resAfter (execSecureErase s) s).dram = s.dram ∧ (resAfter (execSecureErase s) s).cht = s.cht ∧
      (resAfter (execSecureErase s) s).sui = s.sui ∧ (resAfter (execSecureErase s) s).stw = s.stw ∧
      (resAfter (execSecureErase s) s).sav = s.sav ∧ (resAfter (execSecureErase s) s).cel = s.cel ∧
      (resAfter (execSecureErase s) s).dmw = s.dmw ∧ (resAfter (execSecureErase s) s).nrg = s.nrg ∧
      (resAfter (execSecureErase s) s).gau = s.gau ∧ (resAfter (execSecureErase s) s).rek = s.rek ∧
      (resAfter (execSecureErase s) s).plk = s.plk ∧ (resAfter (execSecureErase s) s).att = s.att ∧
      (resAfter (execSecureErase s) s).ecc = s.ecc ∧ (resAfter (execSecureErase s) s).tws = s.tws ∧
      (resAfter (execSecureErase s) s).twp = s.twp ∧ (resAfter (execSecureErase s) s).svc = s.svc ∧
      (resAfter (execSecureErase s) s).log = s.log ∧ (resAfter (execSecureErase s) s).pwr = s.pwr ∧
      (resAfter (execSecureErase s) s).fpl = s.fpl ∧ (resAfter (execSecureErase s) s).jtag = s.jtag ∧
      (resAfter (execSecureErase s) s).fuses = s.fuses ∧ (resAfter (execSecureErase s) s).free = s.free ∧
      (resAfter (execSecureErase s) s).pending = s.pending := by
  have q1 := beginErasure_frame
  simp (disch := (intros; (repeat' split) <;> simp_all)) [execSecureErase]

theorem execSanitizeComplete_frame (s : State) :
    (resAfter (execSanitizeComplete s) s).almanac = s.almanac ∧ (resAfter (execSanitizeComplete s) s).fuses = s.fuses ∧
      (resAfter (execSanitizeComplete s) s).pending = s.pending := by
  have q1 := endBackground_frame
  have q2 := eraseAll_frame
  simp only [execSanitizeComplete]; (repeat' split) <;> simp [q1, q2]

theorem execMailboxUnsupported_frame (opcode : Nat) (s : State) :
    (resAfter (execMailboxUnsupported opcode s) s).almanac = s.almanac ∧
      (resAfter (execMailboxUnsupported opcode s) s).dev = s.dev ∧
      (resAfter (execMailboxUnsupported opcode s) s).stations = s.stations ∧
      (resAfter (execMailboxUnsupported opcode s) s).hst = s.hst ∧ (resAfter (execMailboxUnsupported opcode s) s).drc = s.drc ∧
      (resAfter (execMailboxUnsupported opcode s) s).dram = s.dram ∧
      (resAfter (execMailboxUnsupported opcode s) s).cht = s.cht ∧ (resAfter (execMailboxUnsupported opcode s) s).sui = s.sui ∧
      (resAfter (execMailboxUnsupported opcode s) s).stw = s.stw ∧ (resAfter (execMailboxUnsupported opcode s) s).sav = s.sav ∧
      (resAfter (execMailboxUnsupported opcode s) s).cel = s.cel ∧ (resAfter (execMailboxUnsupported opcode s) s).dmw = s.dmw ∧
      (resAfter (execMailboxUnsupported opcode s) s).nrg = s.nrg ∧ (resAfter (execMailboxUnsupported opcode s) s).gau = s.gau ∧
      (resAfter (execMailboxUnsupported opcode s) s).rek = s.rek ∧ (resAfter (execMailboxUnsupported opcode s) s).plk = s.plk ∧
      (resAfter (execMailboxUnsupported opcode s) s).att = s.att ∧ (resAfter (execMailboxUnsupported opcode s) s).ecc = s.ecc ∧
      (resAfter (execMailboxUnsupported opcode s) s).tws = s.tws ∧ (resAfter (execMailboxUnsupported opcode s) s).twp = s.twp ∧
      (resAfter (execMailboxUnsupported opcode s) s).svc = s.svc ∧ (resAfter (execMailboxUnsupported opcode s) s).log = s.log ∧
      (resAfter (execMailboxUnsupported opcode s) s).pwr = s.pwr ∧ (resAfter (execMailboxUnsupported opcode s) s).fpl = s.fpl ∧
      (resAfter (execMailboxUnsupported opcode s) s).jtag = s.jtag ∧
      (resAfter (execMailboxUnsupported opcode s) s).fuses = s.fuses ∧
      (resAfter (execMailboxUnsupported opcode s) s).cal = s.cal ∧
      (resAfter (execMailboxUnsupported opcode s) s).free = s.free ∧
      (resAfter (execMailboxUnsupported opcode s) s).pending = s.pending := by
  have q1 := mailbox_mbxRc_const_frame
  simp [q1, execMailboxUnsupported]

theorem execGetVendorIdentity_frame (s : State) :
    (resAfter (execGetVendorIdentity s) s).almanac = s.almanac ∧ (resAfter (execGetVendorIdentity s) s).dev = s.dev ∧
      (resAfter (execGetVendorIdentity s) s).stations = s.stations ∧ (resAfter (execGetVendorIdentity s) s).hst = s.hst ∧
      (resAfter (execGetVendorIdentity s) s).drc = s.drc ∧ (resAfter (execGetVendorIdentity s) s).dram = s.dram ∧
      (resAfter (execGetVendorIdentity s) s).cht = s.cht ∧ (resAfter (execGetVendorIdentity s) s).sui = s.sui ∧
      (resAfter (execGetVendorIdentity s) s).stw = s.stw ∧ (resAfter (execGetVendorIdentity s) s).sav = s.sav ∧
      (resAfter (execGetVendorIdentity s) s).cel = s.cel ∧ (resAfter (execGetVendorIdentity s) s).dmw = s.dmw ∧
      (resAfter (execGetVendorIdentity s) s).nrg = s.nrg ∧ (resAfter (execGetVendorIdentity s) s).gau = s.gau ∧
      (resAfter (execGetVendorIdentity s) s).rek = s.rek ∧ (resAfter (execGetVendorIdentity s) s).plk = s.plk ∧
      (resAfter (execGetVendorIdentity s) s).att = s.att ∧ (resAfter (execGetVendorIdentity s) s).ecc = s.ecc ∧
      (resAfter (execGetVendorIdentity s) s).tws = s.tws ∧ (resAfter (execGetVendorIdentity s) s).twp = s.twp ∧
      (resAfter (execGetVendorIdentity s) s).svc = s.svc ∧ (resAfter (execGetVendorIdentity s) s).log = s.log ∧
      (resAfter (execGetVendorIdentity s) s).pwr = s.pwr ∧ (resAfter (execGetVendorIdentity s) s).fpl = s.fpl ∧
      (resAfter (execGetVendorIdentity s) s).jtag = s.jtag ∧ (resAfter (execGetVendorIdentity s) s).fuses = s.fuses ∧
      (resAfter (execGetVendorIdentity s) s).cal = s.cal ∧ (resAfter (execGetVendorIdentity s) s).free = s.free ∧
      (resAfter (execGetVendorIdentity s) s).pending = s.pending := by
  have q1 := mailbox_mbxOut_frame
  simp [q1, execGetVendorIdentity]

theorem execGetPersistenceStatus_frame (s : State) :
    (resAfter (execGetPersistenceStatus s) s).almanac = s.almanac ∧ (resAfter (execGetPersistenceStatus s) s).dev = s.dev ∧
      (resAfter (execGetPersistenceStatus s) s).stations = s.stations ∧ (resAfter (execGetPersistenceStatus s) s).hst = s.hst ∧
      (resAfter (execGetPersistenceStatus s) s).drc = s.drc ∧ (resAfter (execGetPersistenceStatus s) s).dram = s.dram ∧
      (resAfter (execGetPersistenceStatus s) s).cht = s.cht ∧ (resAfter (execGetPersistenceStatus s) s).sui = s.sui ∧
      (resAfter (execGetPersistenceStatus s) s).stw = s.stw ∧ (resAfter (execGetPersistenceStatus s) s).sav = s.sav ∧
      (resAfter (execGetPersistenceStatus s) s).cel = s.cel ∧ (resAfter (execGetPersistenceStatus s) s).dmw = s.dmw ∧
      (resAfter (execGetPersistenceStatus s) s).nrg = s.nrg ∧ (resAfter (execGetPersistenceStatus s) s).gau = s.gau ∧
      (resAfter (execGetPersistenceStatus s) s).rek = s.rek ∧ (resAfter (execGetPersistenceStatus s) s).plk = s.plk ∧
      (resAfter (execGetPersistenceStatus s) s).att = s.att ∧ (resAfter (execGetPersistenceStatus s) s).ecc = s.ecc ∧
      (resAfter (execGetPersistenceStatus s) s).tws = s.tws ∧ (resAfter (execGetPersistenceStatus s) s).twp = s.twp ∧
      (resAfter (execGetPersistenceStatus s) s).svc = s.svc ∧ (resAfter (execGetPersistenceStatus s) s).log = s.log ∧
      (resAfter (execGetPersistenceStatus s) s).pwr = s.pwr ∧ (resAfter (execGetPersistenceStatus s) s).fpl = s.fpl ∧
      (resAfter (execGetPersistenceStatus s) s).jtag = s.jtag ∧ (resAfter (execGetPersistenceStatus s) s).fuses = s.fuses ∧
      (resAfter (execGetPersistenceStatus s) s).cal = s.cal ∧ (resAfter (execGetPersistenceStatus s) s).free = s.free ∧
      (resAfter (execGetPersistenceStatus s) s).pending = s.pending := by
  have q1 := mailbox_mbxOut_frame
  simp [q1, execGetPersistenceStatus]

theorem execGetSuiteStatus_frame (first count : Nat) (s : State) :
    (resAfter (execGetSuiteStatus first count s) s).almanac = s.almanac ∧
      (resAfter (execGetSuiteStatus first count s) s).dev = s.dev ∧
      (resAfter (execGetSuiteStatus first count s) s).stations = s.stations ∧
      (resAfter (execGetSuiteStatus first count s) s).hst = s.hst ∧
      (resAfter (execGetSuiteStatus first count s) s).drc = s.drc ∧
      (resAfter (execGetSuiteStatus first count s) s).dram = s.dram ∧
      (resAfter (execGetSuiteStatus first count s) s).cht = s.cht ∧
      (resAfter (execGetSuiteStatus first count s) s).sui = s.sui ∧
      (resAfter (execGetSuiteStatus first count s) s).stw = s.stw ∧
      (resAfter (execGetSuiteStatus first count s) s).sav = s.sav ∧
      (resAfter (execGetSuiteStatus first count s) s).cel = s.cel ∧
      (resAfter (execGetSuiteStatus first count s) s).dmw = s.dmw ∧
      (resAfter (execGetSuiteStatus first count s) s).nrg = s.nrg ∧
      (resAfter (execGetSuiteStatus first count s) s).gau = s.gau ∧
      (resAfter (execGetSuiteStatus first count s) s).rek = s.rek ∧
      (resAfter (execGetSuiteStatus first count s) s).plk = s.plk ∧
      (resAfter (execGetSuiteStatus first count s) s).att = s.att ∧
      (resAfter (execGetSuiteStatus first count s) s).ecc = s.ecc ∧
      (resAfter (execGetSuiteStatus first count s) s).tws = s.tws ∧
      (resAfter (execGetSuiteStatus first count s) s).twp = s.twp ∧
      (resAfter (execGetSuiteStatus first count s) s).svc = s.svc ∧
      (resAfter (execGetSuiteStatus first count s) s).log = s.log ∧
      (resAfter (execGetSuiteStatus first count s) s).pwr = s.pwr ∧
      (resAfter (execGetSuiteStatus first count s) s).fpl = s.fpl ∧
      (resAfter (execGetSuiteStatus first count s) s).jtag = s.jtag ∧
      (resAfter (execGetSuiteStatus first count s) s).fuses = s.fuses ∧
      (resAfter (execGetSuiteStatus first count s) s).cal = s.cal ∧
      (resAfter (execGetSuiteStatus first count s) s).free = s.free ∧
      (resAfter (execGetSuiteStatus first count s) s).pending = s.pending := by
  have q1 := mailbox_mbxOut_frame
  have q2 := mailbox_mbxRc_const_frame
  unfold execGetSuiteStatus; (repeat' split) <;> simp_all

theorem execHarbourAcknowledge_frame (s : State) :
    (resAfter (execHarbourAcknowledge s) s).almanac = s.almanac ∧
      (resAfter (execHarbourAcknowledge s) s).stations = s.stations ∧ (resAfter (execHarbourAcknowledge s) s).drc = s.drc ∧
      (resAfter (execHarbourAcknowledge s) s).dram = s.dram ∧ (resAfter (execHarbourAcknowledge s) s).cht = s.cht ∧
      (resAfter (execHarbourAcknowledge s) s).ecc = s.ecc ∧ (resAfter (execHarbourAcknowledge s) s).pwr = s.pwr ∧
      (resAfter (execHarbourAcknowledge s) s).fpl = s.fpl ∧ (resAfter (execHarbourAcknowledge s) s).jtag = s.jtag ∧
      (resAfter (execHarbourAcknowledge s) s).fuses = s.fuses ∧ (resAfter (execHarbourAcknowledge s) s).cal = s.cal ∧
      (resAfter (execHarbourAcknowledge s) s).pending = s.pending := by
  have q1 := acknowledge_frame
  simp [q1, execHarbourAcknowledge]

theorem execSetEnergyGrant_frame (joules validS seq : Nat) (s : State) :
    (resAfter (execSetEnergyGrant joules validS seq s) s).almanac = s.almanac ∧
      (resAfter (execSetEnergyGrant joules validS seq s) s).fuses = s.fuses ∧
      (resAfter (execSetEnergyGrant joules validS seq s) s).cal = s.cal ∧
      (resAfter (execSetEnergyGrant joules validS seq s) s).pending = s.pending := by
  have q1 := lapse_frame
  have q2 := wantRek_frame
  simp (disch := (intros; (repeat' split) <;> (first | rfl | simp_all | skip))) [execSetEnergyGrant]

theorem execGetReckoning_frame (s : State) :
    (resAfter (execGetReckoning s) s).almanac = s.almanac ∧ (resAfter (execGetReckoning s) s).dev = s.dev ∧
      (resAfter (execGetReckoning s) s).stations = s.stations ∧ (resAfter (execGetReckoning s) s).hst = s.hst ∧
      (resAfter (execGetReckoning s) s).drc = s.drc ∧ (resAfter (execGetReckoning s) s).dram = s.dram ∧
      (resAfter (execGetReckoning s) s).cht = s.cht ∧ (resAfter (execGetReckoning s) s).sui = s.sui ∧
      (resAfter (execGetReckoning s) s).stw = s.stw ∧ (resAfter (execGetReckoning s) s).sav = s.sav ∧
      (resAfter (execGetReckoning s) s).cel = s.cel ∧ (resAfter (execGetReckoning s) s).dmw = s.dmw ∧
      (resAfter (execGetReckoning s) s).nrg = s.nrg ∧ (resAfter (execGetReckoning s) s).gau = s.gau ∧
      (resAfter (execGetReckoning s) s).rek = s.rek ∧ (resAfter (execGetReckoning s) s).plk = s.plk ∧
      (resAfter (execGetReckoning s) s).att = s.att ∧ (resAfter (execGetReckoning s) s).ecc = s.ecc ∧
      (resAfter (execGetReckoning s) s).tws = s.tws ∧ (resAfter (execGetReckoning s) s).twp = s.twp ∧
      (resAfter (execGetReckoning s) s).svc = s.svc ∧ (resAfter (execGetReckoning s) s).log = s.log ∧
      (resAfter (execGetReckoning s) s).pwr = s.pwr ∧ (resAfter (execGetReckoning s) s).fpl = s.fpl ∧
      (resAfter (execGetReckoning s) s).jtag = s.jtag ∧ (resAfter (execGetReckoning s) s).fuses = s.fuses ∧
      (resAfter (execGetReckoning s) s).cal = s.cal ∧ (resAfter (execGetReckoning s) s).free = s.free ∧
      (resAfter (execGetReckoning s) s).pending = s.pending := by
  have q1 := mailbox_mbxOut_frame
  simp [q1, execGetReckoning]

theorem execGetLastSaveReport_frame (s : State) :
    (resAfter (execGetLastSaveReport s) s).almanac = s.almanac ∧ (resAfter (execGetLastSaveReport s) s).dev = s.dev ∧
      (resAfter (execGetLastSaveReport s) s).stations = s.stations ∧ (resAfter (execGetLastSaveReport s) s).hst = s.hst ∧
      (resAfter (execGetLastSaveReport s) s).drc = s.drc ∧ (resAfter (execGetLastSaveReport s) s).dram = s.dram ∧
      (resAfter (execGetLastSaveReport s) s).cht = s.cht ∧ (resAfter (execGetLastSaveReport s) s).sui = s.sui ∧
      (resAfter (execGetLastSaveReport s) s).stw = s.stw ∧ (resAfter (execGetLastSaveReport s) s).sav = s.sav ∧
      (resAfter (execGetLastSaveReport s) s).cel = s.cel ∧ (resAfter (execGetLastSaveReport s) s).dmw = s.dmw ∧
      (resAfter (execGetLastSaveReport s) s).nrg = s.nrg ∧ (resAfter (execGetLastSaveReport s) s).gau = s.gau ∧
      (resAfter (execGetLastSaveReport s) s).rek = s.rek ∧ (resAfter (execGetLastSaveReport s) s).plk = s.plk ∧
      (resAfter (execGetLastSaveReport s) s).att = s.att ∧ (resAfter (execGetLastSaveReport s) s).ecc = s.ecc ∧
      (resAfter (execGetLastSaveReport s) s).tws = s.tws ∧ (resAfter (execGetLastSaveReport s) s).twp = s.twp ∧
      (resAfter (execGetLastSaveReport s) s).svc = s.svc ∧ (resAfter (execGetLastSaveReport s) s).log = s.log ∧
      (resAfter (execGetLastSaveReport s) s).pwr = s.pwr ∧ (resAfter (execGetLastSaveReport s) s).fpl = s.fpl ∧
      (resAfter (execGetLastSaveReport s) s).jtag = s.jtag ∧ (resAfter (execGetLastSaveReport s) s).fuses = s.fuses ∧
      (resAfter (execGetLastSaveReport s) s).cal = s.cal ∧ (resAfter (execGetLastSaveReport s) s).free = s.free ∧
      (resAfter (execGetLastSaveReport s) s).pending = s.pending := by
  have q1 := mailbox_mbxOut_frame
  simp [q1, execGetLastSaveReport]

theorem execGetRestoredPoisonTiles_frame (start : Nat) (s : State) :
    (resAfter (execGetRestoredPoisonTiles start s) s).almanac = s.almanac ∧
      (resAfter (execGetRestoredPoisonTiles start s) s).dev = s.dev ∧
      (resAfter (execGetRestoredPoisonTiles start s) s).stations = s.stations ∧
      (resAfter (execGetRestoredPoisonTiles start s) s).hst = s.hst ∧
      (resAfter (execGetRestoredPoisonTiles start s) s).drc = s.drc ∧
      (resAfter (execGetRestoredPoisonTiles start s) s).dram = s.dram ∧
      (resAfter (execGetRestoredPoisonTiles start s) s).cht = s.cht ∧
      (resAfter (execGetRestoredPoisonTiles start s) s).sui = s.sui ∧
      (resAfter (execGetRestoredPoisonTiles start s) s).stw = s.stw ∧
      (resAfter (execGetRestoredPoisonTiles start s) s).sav = s.sav ∧
      (resAfter (execGetRestoredPoisonTiles start s) s).cel = s.cel ∧
      (resAfter (execGetRestoredPoisonTiles start s) s).dmw = s.dmw ∧
      (resAfter (execGetRestoredPoisonTiles start s) s).nrg = s.nrg ∧
      (resAfter (execGetRestoredPoisonTiles start s) s).gau = s.gau ∧
      (resAfter (execGetRestoredPoisonTiles start s) s).rek = s.rek ∧
      (resAfter (execGetRestoredPoisonTiles start s) s).plk = s.plk ∧
      (resAfter (execGetRestoredPoisonTiles start s) s).att = s.att ∧
      (resAfter (execGetRestoredPoisonTiles start s) s).ecc = s.ecc ∧
      (resAfter (execGetRestoredPoisonTiles start s) s).tws = s.tws ∧
      (resAfter (execGetRestoredPoisonTiles start s) s).twp = s.twp ∧
      (resAfter (execGetRestoredPoisonTiles start s) s).svc = s.svc ∧
      (resAfter (execGetRestoredPoisonTiles start s) s).log = s.log ∧
      (resAfter (execGetRestoredPoisonTiles start s) s).pwr = s.pwr ∧
      (resAfter (execGetRestoredPoisonTiles start s) s).fpl = s.fpl ∧
      (resAfter (execGetRestoredPoisonTiles start s) s).jtag = s.jtag ∧
      (resAfter (execGetRestoredPoisonTiles start s) s).fuses = s.fuses ∧
      (resAfter (execGetRestoredPoisonTiles start s) s).cal = s.cal ∧
      (resAfter (execGetRestoredPoisonTiles start s) s).free = s.free ∧
      (resAfter (execGetRestoredPoisonTiles start s) s).pending = s.pending := by
  have q1 := mailbox_mbxOut_frame
  simp [q1, execGetRestoredPoisonTiles]

theorem execGetLifetimeCounters_frame (s : State) :
    (resAfter (execGetLifetimeCounters s) s).almanac = s.almanac ∧ (resAfter (execGetLifetimeCounters s) s).dev = s.dev ∧
      (resAfter (execGetLifetimeCounters s) s).stations = s.stations ∧ (resAfter (execGetLifetimeCounters s) s).hst = s.hst ∧
      (resAfter (execGetLifetimeCounters s) s).drc = s.drc ∧ (resAfter (execGetLifetimeCounters s) s).dram = s.dram ∧
      (resAfter (execGetLifetimeCounters s) s).cht = s.cht ∧ (resAfter (execGetLifetimeCounters s) s).sui = s.sui ∧
      (resAfter (execGetLifetimeCounters s) s).stw = s.stw ∧ (resAfter (execGetLifetimeCounters s) s).sav = s.sav ∧
      (resAfter (execGetLifetimeCounters s) s).cel = s.cel ∧ (resAfter (execGetLifetimeCounters s) s).dmw = s.dmw ∧
      (resAfter (execGetLifetimeCounters s) s).nrg = s.nrg ∧ (resAfter (execGetLifetimeCounters s) s).gau = s.gau ∧
      (resAfter (execGetLifetimeCounters s) s).rek = s.rek ∧ (resAfter (execGetLifetimeCounters s) s).plk = s.plk ∧
      (resAfter (execGetLifetimeCounters s) s).att = s.att ∧ (resAfter (execGetLifetimeCounters s) s).ecc = s.ecc ∧
      (resAfter (execGetLifetimeCounters s) s).tws = s.tws ∧ (resAfter (execGetLifetimeCounters s) s).twp = s.twp ∧
      (resAfter (execGetLifetimeCounters s) s).svc = s.svc ∧ (resAfter (execGetLifetimeCounters s) s).log = s.log ∧
      (resAfter (execGetLifetimeCounters s) s).pwr = s.pwr ∧ (resAfter (execGetLifetimeCounters s) s).fpl = s.fpl ∧
      (resAfter (execGetLifetimeCounters s) s).jtag = s.jtag ∧ (resAfter (execGetLifetimeCounters s) s).fuses = s.fuses ∧
      (resAfter (execGetLifetimeCounters s) s).cal = s.cal ∧ (resAfter (execGetLifetimeCounters s) s).free = s.free ∧
      (resAfter (execGetLifetimeCounters s) s).pending = s.pending := by
  have q1 := mailbox_mbxOut_frame
  simp [q1, execGetLifetimeCounters]

theorem execGetMirrorStatus_frame (s : State) :
    (resAfter (execGetMirrorStatus s) s).almanac = s.almanac ∧ (resAfter (execGetMirrorStatus s) s).dev = s.dev ∧
      (resAfter (execGetMirrorStatus s) s).stations = s.stations ∧ (resAfter (execGetMirrorStatus s) s).hst = s.hst ∧
      (resAfter (execGetMirrorStatus s) s).drc = s.drc ∧ (resAfter (execGetMirrorStatus s) s).dram = s.dram ∧
      (resAfter (execGetMirrorStatus s) s).cht = s.cht ∧ (resAfter (execGetMirrorStatus s) s).sui = s.sui ∧
      (resAfter (execGetMirrorStatus s) s).stw = s.stw ∧ (resAfter (execGetMirrorStatus s) s).sav = s.sav ∧
      (resAfter (execGetMirrorStatus s) s).cel = s.cel ∧ (resAfter (execGetMirrorStatus s) s).dmw = s.dmw ∧
      (resAfter (execGetMirrorStatus s) s).nrg = s.nrg ∧ (resAfter (execGetMirrorStatus s) s).gau = s.gau ∧
      (resAfter (execGetMirrorStatus s) s).rek = s.rek ∧ (resAfter (execGetMirrorStatus s) s).plk = s.plk ∧
      (resAfter (execGetMirrorStatus s) s).att = s.att ∧ (resAfter (execGetMirrorStatus s) s).ecc = s.ecc ∧
      (resAfter (execGetMirrorStatus s) s).tws = s.tws ∧ (resAfter (execGetMirrorStatus s) s).twp = s.twp ∧
      (resAfter (execGetMirrorStatus s) s).svc = s.svc ∧ (resAfter (execGetMirrorStatus s) s).log = s.log ∧
      (resAfter (execGetMirrorStatus s) s).pwr = s.pwr ∧ (resAfter (execGetMirrorStatus s) s).fpl = s.fpl ∧
      (resAfter (execGetMirrorStatus s) s).jtag = s.jtag ∧ (resAfter (execGetMirrorStatus s) s).fuses = s.fuses ∧
      (resAfter (execGetMirrorStatus s) s).cal = s.cal ∧ (resAfter (execGetMirrorStatus s) s).free = s.free ∧
      (resAfter (execGetMirrorStatus s) s).pending = s.pending := by
  have q1 := mailbox_mbxOut_frame
  simp [q1, execGetMirrorStatus]

theorem execGetDrillResult_frame (set : Nat) (s : State) :
    (resAfter (execGetDrillResult set s) s).almanac = s.almanac ∧ (resAfter (execGetDrillResult set s) s).dev = s.dev ∧
      (resAfter (execGetDrillResult set s) s).stations = s.stations ∧ (resAfter (execGetDrillResult set s) s).hst = s.hst ∧
      (resAfter (execGetDrillResult set s) s).drc = s.drc ∧ (resAfter (execGetDrillResult set s) s).dram = s.dram ∧
      (resAfter (execGetDrillResult set s) s).cht = s.cht ∧ (resAfter (execGetDrillResult set s) s).sui = s.sui ∧
      (resAfter (execGetDrillResult set s) s).stw = s.stw ∧ (resAfter (execGetDrillResult set s) s).sav = s.sav ∧
      (resAfter (execGetDrillResult set s) s).cel = s.cel ∧ (resAfter (execGetDrillResult set s) s).dmw = s.dmw ∧
      (resAfter (execGetDrillResult set s) s).nrg = s.nrg ∧ (resAfter (execGetDrillResult set s) s).gau = s.gau ∧
      (resAfter (execGetDrillResult set s) s).rek = s.rek ∧ (resAfter (execGetDrillResult set s) s).plk = s.plk ∧
      (resAfter (execGetDrillResult set s) s).att = s.att ∧ (resAfter (execGetDrillResult set s) s).ecc = s.ecc ∧
      (resAfter (execGetDrillResult set s) s).tws = s.tws ∧ (resAfter (execGetDrillResult set s) s).twp = s.twp ∧
      (resAfter (execGetDrillResult set s) s).svc = s.svc ∧ (resAfter (execGetDrillResult set s) s).log = s.log ∧
      (resAfter (execGetDrillResult set s) s).pwr = s.pwr ∧ (resAfter (execGetDrillResult set s) s).fpl = s.fpl ∧
      (resAfter (execGetDrillResult set s) s).jtag = s.jtag ∧ (resAfter (execGetDrillResult set s) s).fuses = s.fuses ∧
      (resAfter (execGetDrillResult set s) s).cal = s.cal ∧ (resAfter (execGetDrillResult set s) s).free = s.free ∧
      (resAfter (execGetDrillResult set s) s).pending = s.pending := by
  simp (disch := (intros; (repeat' split) <;> simp_all)) [execGetDrillResult]

theorem enterStage_frame (new : Nat) (s : State) :
    (enterStage new s).almanac = s.almanac ∧ (enterStage new s).fuses = s.fuses ∧ (enterStage new s).pending = s.pending := by
  have q1 := addEvent_frame
  have q2 := alertBit_frame
  have q3 := endExercise_frame
  have q4 := raiseAddr_frame
  simp [q1, q2, q3, q4, enterStage]

theorem execDieTempSample_frame (die : List Int) (stackTemps : Word) (rails : List Nat) (powerDw : Nat) (refPresent : Bool)
    (s : State) :
    (resAfter (execDieTempSample die stackTemps rails powerDw refPresent s) s).fuses = s.fuses ∧
      (resAfter (execDieTempSample die stackTemps rails powerDw refPresent s) s).pending = s.pending := by
  have q1 := advanceTo_frame
  have q2 := enterStage_frame
  have q3 := raiseAt_frame
  unfold execDieTempSample; (repeat' split) <;> simp_all

theorem writeNrg_frame (o : Nat) (w : Word) (s : State) :
    (writeNrg o w s).almanac = s.almanac ∧ (writeNrg o w s).fuses = s.fuses ∧ (writeNrg o w s).pending = s.pending := by
  have q1 := exerciseAbort_frame
  have q2 := exerciseStart_frame
  unfold writeNrg; (repeat' split) <;> simp_all

theorem writeBlock_frame (b : Block) (o : Nat) (w : Word) (s : State) :
    (writeBlock b o w s).almanac = s.almanac ∧ (writeBlock b o w s).fuses = s.fuses ∧
      (writeBlock b o w s).pending = s.pending := by
  have q1 := acknowledge_frame
  have q2 := selectRoom_frame
  have q3 := writeAtt_frame
  have q4 := writeCel_frame
  have q5 := writeDmw_frame
  have q6 := writeDrc_frame
  have q7 := writeEcc_frame
  have q8 := writeGau_frame
  have q9 := writeHst_frame
  have q10 := writeLog_frame
  have q11 := writeNrg_frame
  have q12 := writePlk_frame
  have q13 := writePwr_frame
  have q14 := writeRek_frame
  have q15 := writeSav_frame
  have q16 := writeStw_frame
  have q17 := writeSvc_frame
  have q18 := writeTwp_frame
  have q19 := writeTws_frame
  unfold writeBlock; (repeat' split) <;> simp_all

theorem writeAt_frame (ofs : Nat) (w : Word) (s : State) :
    (writeAt ofs w s).almanac = s.almanac ∧ (writeAt ofs w s).fuses = s.fuses ∧ (writeAt ofs w s).pending = s.pending := by
  have q1 := holdLo_frame
  have q2 := writeBlock_frame
  have q3 := writeHi_frame
  have q4 := writeStation_frame
  unfold writeAt; (repeat' split) <;> simp_all

theorem writeReg_frame (ofs : Nat) (w : Word) (s : State) :
    (writeReg ofs w s).almanac = s.almanac ∧ (writeReg ofs w s).fuses = s.fuses ∧ (writeReg ofs w s).pending = s.pending := by
  have q1 := raiseAddr_frame
  have q2 := writeAt_frame
  simp [q1, q2, writeReg]

theorem execRegisterWrite_frame (bar2 : Bool) (offset : Nat) (value : Word) (s : State) :
    (resAfter (execRegisterWrite bar2 offset value s) s).almanac = s.almanac ∧
      (resAfter (execRegisterWrite bar2 offset value s) s).fuses = s.fuses ∧
      (resAfter (execRegisterWrite bar2 offset value s) s).pending = s.pending := by
  have q1 := raiseAddr_frame
  have q2 := ringHostWrite_frame
  have q3 := writeReg_frame
  unfold execRegisterWrite; (repeat' split) <;> simp_all

theorem hostRead_frame (ofs : Nat) (s : State) :
    (hostRead ofs s).almanac = s.almanac ∧ (hostRead ofs s).fuses = s.fuses ∧ (hostRead ofs s).cal = s.cal ∧
      (hostRead ofs s).pending = s.pending := by
  have q1 := raiseAddr_frame
  have q2 := readAs_frame
  simp [q1, q2, hostRead]

theorem execRegPairLoRead_frame (bar2 : Bool) (offset : Nat) (s : State) :
    (resAfter (execRegPairLoRead bar2 offset s) s).almanac = s.almanac ∧
      (resAfter (execRegPairLoRead bar2 offset s) s).fuses = s.fuses ∧
      (resAfter (execRegPairLoRead bar2 offset s) s).pending = s.pending := by
  have q1 := hostRead_frame
  have q2 := ringHostRead_frame
  unfold execRegPairLoRead; (repeat' split) <;> simp_all

theorem execRegPairHiWrite_frame (offset : Nat) (lo hi : Word) (s : State) :
    (resAfter (execRegPairHiWrite offset lo hi s) s).almanac = s.almanac ∧
      (resAfter (execRegPairHiWrite offset lo hi s) s).fuses = s.fuses ∧
      (resAfter (execRegPairHiWrite offset lo hi s) s).pending = s.pending := by
  have q1 := writeReg_frame
  unfold execRegPairHiWrite; (repeat' split) <;> simp_all

theorem readRegs_frame (x0 : Nat) (x1 : Nat) (x2 : State) :
    (readRegs x0 x1 x2).2.almanac = x2.almanac ∧ (readRegs x0 x1 x2).2.fuses = x2.fuses ∧ (readRegs x0 x1 x2).2.cal = x2.cal ∧
      (readRegs x0 x1 x2).2.pending = x2.pending := by
  have q1 := raiseAddr_frame
  have q2 := readAs_frame
  induction x0 generalizing x1 x2 <;> (first | (simp [readRegs]; done) | ((simp only [readRegs]; (repeat' split) <;> simp_all)))

theorem execSvcHello_frame (seq : Nat) (input : List Byte) (s : State) :
    (resAfter (execSvcHello seq input s) s).almanac = s.almanac ∧ (resAfter (execSvcHello seq input s) s).fuses = s.fuses ∧
      (resAfter (execSvcHello seq input s) s).cal = s.cal ∧ (resAfter (execSvcHello seq input s) s).pending = s.pending := by
  have q1 := helloCmd_frame
  simp [q1, execSvcHello]

theorem execSvcAuth_frame (seq : Nat) (input : List Byte) (s : State) :
    (resAfter (execSvcAuth seq input s) s).almanac = s.almanac ∧ (resAfter (execSvcAuth seq input s) s).fuses = s.fuses ∧
      (resAfter (execSvcAuth seq input s) s).cal = s.cal ∧ (resAfter (execSvcAuth seq input s) s).pending = s.pending := by
  have q1 := authCmd_frame
  simp [q1, execSvcAuth]

theorem execSvcClose_frame (seq : Nat) (s : State) :
    (resAfter (execSvcClose seq s) s).almanac = s.almanac ∧ (resAfter (execSvcClose seq s) s).fuses = s.fuses ∧
      (resAfter (execSvcClose seq s) s).cal = s.cal ∧ (resAfter (execSvcClose seq s) s).pending = s.pending := by
  have q1 := endSession_frame
  have q2 := svcStat_frame
  simp [q1, q2, execSvcClose]

theorem execSvcStatus_frame (seq : Nat) (s : State) :
    (resAfter (execSvcStatus seq s) s).almanac = s.almanac ∧ (resAfter (execSvcStatus seq s) s).dev = s.dev ∧
      (resAfter (execSvcStatus seq s) s).stations = s.stations ∧ (resAfter (execSvcStatus seq s) s).hst = s.hst ∧
      (resAfter (execSvcStatus seq s) s).drc = s.drc ∧ (resAfter (execSvcStatus seq s) s).dram = s.dram ∧
      (resAfter (execSvcStatus seq s) s).cht = s.cht ∧ (resAfter (execSvcStatus seq s) s).sui = s.sui ∧
      (resAfter (execSvcStatus seq s) s).stw = s.stw ∧ (resAfter (execSvcStatus seq s) s).sav = s.sav ∧
      (resAfter (execSvcStatus seq s) s).cel = s.cel ∧ (resAfter (execSvcStatus seq s) s).dmw = s.dmw ∧
      (resAfter (execSvcStatus seq s) s).nrg = s.nrg ∧ (resAfter (execSvcStatus seq s) s).gau = s.gau ∧
      (resAfter (execSvcStatus seq s) s).rek = s.rek ∧ (resAfter (execSvcStatus seq s) s).plk = s.plk ∧
      (resAfter (execSvcStatus seq s) s).att = s.att ∧ (resAfter (execSvcStatus seq s) s).ecc = s.ecc ∧
      (resAfter (execSvcStatus seq s) s).tws = s.tws ∧ (resAfter (execSvcStatus seq s) s).twp = s.twp ∧
      (resAfter (execSvcStatus seq s) s).log = s.log ∧ (resAfter (execSvcStatus seq s) s).pwr = s.pwr ∧
      (resAfter (execSvcStatus seq s) s).fpl = s.fpl ∧ (resAfter (execSvcStatus seq s) s).jtag = s.jtag ∧
      (resAfter (execSvcStatus seq s) s).fuses = s.fuses ∧ (resAfter (execSvcStatus seq s) s).cal = s.cal ∧
      (resAfter (execSvcStatus seq s) s).free = s.free ∧ (resAfter (execSvcStatus seq s) s).pending = s.pending := by
  simp [execSvcStatus]

theorem execHandoverReadyTimeout_frame (s : State) :
    (resAfter (execHandoverReadyTimeout s) s).fuses = s.fuses ∧ (resAfter (execHandoverReadyTimeout s) s).cal = s.cal ∧
      (resAfter (execHandoverReadyTimeout s) s).pending = s.pending := by
  have q1 := advanceTo_frame
  have q2 := payOwed_frame
  have q3 := raiseAddr_frame
  have q4 := setPhase_frame
  unfold execHandoverReadyTimeout; (repeat' split) <;> simp_all

theorem execSvcAbort_frame (seq : Nat) (s : State) :
    (resAfter (execSvcAbort seq s) s).almanac = s.almanac ∧ (resAfter (execSvcAbort seq s) s).fuses = s.fuses ∧
      (resAfter (execSvcAbort seq s) s).cal = s.cal ∧ (resAfter (execSvcAbort seq s) s).pending = s.pending := by
  have q1 := pkgAbort_frame
  simp [q1, execSvcAbort]

end Sys2Proof.Machine
end

