-- ==== Sys2Proof/Laws/Store.lean ====
section
/-! SUPPORT. Laws of the sparse tables and the fixed vectors: a read after a write, what a write leaves alone, and that every
operation keeps the canonical form. -/

namespace Sys2Proof.Machine

variable {α : Type} [DecidableEq α] {d : α}

/-! ### The canonical form -/

/-- `lo` lies below `k`, where there is a `lo`. -/
def below (lo : Option Nat) (k : Nat) : Prop := ∀ l, lo = some l → l < k

@[simp] theorem twfFrom_nil (lo : Option Nat) : twfFrom d lo [] = true := rfl

theorem twfFrom_cons (lo : Option Nat) (k : Nat) (v : α) (t : Table α) :
    twfFrom d lo ((k, v) :: t) = true ↔ below lo k ∧ v ≠ d ∧ twfFrom d (some k) t = true := by
  cases lo <;> simp [twfFrom, below, and_assoc]

theorem below_trans {lo : Option Nat} {k j : Nat} (h : below lo k) (hj : k < j) : below lo j :=
  fun l e => Nat.lt_trans (h l e) hj

theorem twfFrom_weaken {lo lo' : Option Nat} {t : Table α} (h : twfFrom d lo t = true)
    (hl : ∀ k, below lo k → below lo' k) : twfFrom d lo' t = true := by
  cases t with
  | nil => rfl
  | cons p r =>
    rw [twfFrom_cons] at h ⊢
    exact ⟨hl _ h.1, h.2.1, h.2.2⟩

theorem twf_of_from {lo : Option Nat} {t : Table α} (h : twfFrom d lo t = true) : twf d t = true :=
  twfFrom_weaken h fun _ _ _ e => nomatch e

/-- Nothing is listed at or below the bound of a canonical table. -/
theorem tget_below {t : Table α} {l k : Nat} (h : twfFrom d (some l) t = true) (hk : k ≤ l) : tget d t k = d := by
  cases t with
  | nil => rfl
  | cons p r =>
    rw [twfFrom_cons] at h
    have := h.1 l rfl
    simp only [tget]
    rw [if_neg (by omega), if_pos (by omega)]

/-! ### A write -/

theorem tget_tcons {t : Table α} {k j : Nat} (v : α) (h : twfFrom d (some k) t = true) :
    tget d (tcons d k v t) j = if j = k then v else tget d t j := by
  unfold tcons
  split
  · rename_i e
    split
    · subst_vars; exact tget_below h (Nat.le_refl _)
    · rfl
  · simp only [tget]
    split
    · rfl
    · split
      · rw [tget_below h (by omega)]
      · rfl

theorem twfFrom_tcons {lo : Option Nat} {t : Table α} {k : Nat} (v : α) (hk : below lo k) (h : twfFrom d (some k) t = true) :
    twfFrom d lo (tcons d k v t) = true := by
  unfold tcons
  split
  · exact twfFrom_weaken h fun j hj => below_trans hk (hj k rfl)
  · rw [twfFrom_cons]; exact ⟨hk, ‹_›, h⟩

/-- A read after a write: the value written at its key, what was there before at every other key. -/
theorem tget_tset {lo : Option Nat} {t : Table α} (k j : Nat) (v : α) (h : twfFrom d lo t = true) :
    tget d (tset d t k v) j = if j = k then v else tget d t j := by
  induction t generalizing lo with
  | nil => exact tget_tcons v rfl
  | cons p r ih =>
    obtain ⟨k', v'⟩ := p
    rw [twfFrom_cons] at h
    simp only [tset]
    split
    · subst_vars
      rw [tget_tcons v h.2.2]
      split
      · rfl
      · rw [tget, if_neg ‹_›]
        split
        · rw [tget_below h.2.2 (by omega)]
        · rfl
    · split
      · rw [tget_tcons v (by rw [twfFrom_cons]; exact ⟨fun l e => by simp at e; omega, h.2⟩)]
      · rw [tget, tget]
        split
        · rw [if_neg (by omega)]
        · split
          · rw [if_neg (by omega)]
          · rw [ih h.2.2]

/-- A write keeps the canonical form. -/
theorem twfFrom_tset {lo : Option Nat} {t : Table α} (k : Nat) (v : α) (hk : below lo k) (h : twfFrom d lo t = true) :
    twfFrom d lo (tset d t k v) = true := by
  induction t generalizing lo with
  | nil => exact twfFrom_tcons v hk rfl
  | cons p r ih =>
    obtain ⟨k', v'⟩ := p
    rw [twfFrom_cons] at h
    simp only [tset]
    split
    · subst_vars; exact twfFrom_tcons v h.1 h.2.2
    · split
      · exact twfFrom_tcons v hk (by rw [twfFrom_cons]; exact ⟨fun l e => by simp at e; omega, h.2⟩)
      · rw [twfFrom_cons]
        exact ⟨h.1, h.2.1, ih (fun l e => by simp at e; omega) h.2.2⟩

theorem twf_tset {t : Table α} (k : Nat) (v : α) (h : twf d t = true) : twf d (tset d t k v) = true :=
  twfFrom_tset k v (fun _ e => nomatch e) h

theorem tget_tset_same {t : Table α} (k : Nat) (v : α) (h : twf d t = true) : tget d (tset d t k v) k = v := by
  rw [tget_tset k k v h, if_pos rfl]

theorem tget_tset_other {t : Table α} {k j : Nat} (v : α) (h : twf d t = true) (hj : j ≠ k) :
    tget d (tset d t k v) j = tget d t j := by
  rw [tget_tset k j v h, if_neg hj]

theorem twf_tmod {t : Table α} (k : Nat) (f : α → α) (h : twf d t = true) : twf d (tmod d t k f) = true := twf_tset k _ h

theorem twf_tput {t : Table α} (base : Nat) (r : Table α) (h : twf d t = true) : twf d (tput d t base r) = true := by
  induction r generalizing t with
  | nil => exact h
  | cons p r ih => exact ih (twf_tset _ _ h)

/-! ### Every listed value changed -/

theorem twfFrom_tmap {lo : Option Nat} {t : Table α} (f : Nat → α → α) (h : twfFrom d lo t = true) :
    twfFrom d lo (tmap d f t) = true := by
  induction t generalizing lo with
  | nil => rfl
  | cons p r ih =>
    rw [twfFrom_cons] at h
    simp only [tmap, List.map_cons, List.filter_cons]
    split
    · rw [twfFrom_cons]; exact ⟨h.1, of_decide_eq_true ‹_›, ih h.2.2⟩
    · exact ih (twfFrom_weaken h.2.2 fun j hj => below_trans h.1 (hj _ rfl))

theorem twf_tmap {t : Table α} (f : Nat → α → α) (h : twf d t = true) : twf d (tmap d f t) = true := twfFrom_tmap f h

theorem tget_tmap {lo : Option Nat} {t : Table α} (f : Nat → α → α) (k : Nat) (hf : f k d = d)
    (h : twfFrom d lo t = true) : tget d (tmap d f t) k = f k (tget d t k) := by
  induction t generalizing lo with
  | nil => exact hf.symm
  | cons p r ih =>
    rw [twfFrom_cons] at h
    have hr := ih h.2.2
    simp only [tmap, List.map_cons, List.filter_cons] at hr ⊢
    by_cases hk : k = p.1
    · subst hk
      split
      · simp [tget]
      · rename_i hd
        have hd : f p.1 p.2 = d := Decidable.not_not.mp fun e => hd (decide_eq_true e)
        rw [hr, tget_below h.2.2 (Nat.le_refl _), hf]; simp [tget, hd]
    · split
      · simp only [tget, if_neg hk]; split
        · exact hf.symm
        · exact hr
      · simp only [tget, if_neg hk]; split
        · rw [hr, tget_below h.2.2 (by omega)]
        · exact hr

/-! ### A range returned to the default -/

theorem twfFrom_filter {lo : Option Nat} {t : Table α} (q : Nat × α → Bool) (h : twfFrom d lo t = true) :
    twfFrom d lo (t.filter q) = true := by
  induction t generalizing lo with
  | nil => rfl
  | cons p r ih =>
    rw [twfFrom_cons] at h
    rw [List.filter_cons]
    split
    · rw [twfFrom_cons]; exact ⟨h.1, h.2.1, ih h.2.2⟩
    · exact ih (twfFrom_weaken h.2.2 fun j hj => below_trans h.1 (hj _ rfl))

theorem twf_tclear {t : Table α} (lo hi : Nat) (h : twf d t = true) : twf d (tclear t lo hi) = true := twfFrom_filter _ h

theorem tget_tclear {b : Option Nat} {t : Table α} (lo hi k : Nat) (h : twfFrom d b t = true) :
    tget d (tclear t lo hi) k = if lo ≤ k ∧ k < hi then d else tget d t k := by
  induction t generalizing b with
  | nil => simp [tclear, tget]
  | cons p r ih =>
    obtain ⟨k', v⟩ := p
    rw [twfFrom_cons] at h
    have hr := ih h.2.2
    unfold tclear at hr ⊢
    rw [List.filter_cons]
    split
    · rename_i e
      simp only [tget]
      split
      · subst_vars
        rw [if_neg (by simp at e; omega)]
      · split
        · split <;> rfl
        · exact hr
    · rename_i e
      have e : lo ≤ k' ∧ k' < hi := by simpa using e
      rw [hr, tget]
      split
      · rfl
      · split
        · omega
        · split
          · exact tget_below h.2.2 (by omega)
          · rfl

/-! ### Vectors -/

variable {n : Nat} {β : Type}

theorem vget_vmod (e : β) (v : Vector β n) (i j : Nat) (f : β → β) (hi : i < n) :
    vget e (vmod v i f) j = if j = i then f (vget e v i) else vget e v j := by
  by_cases hj : j < n
  · simp only [vget, vmod, hi, hj, dite_true]
    split
    · subst_vars; simp
    · exact Vector.getElem_set_ne hi hj (fun h => ‹¬_› h.symm)
  · have : j ≠ i := by omega
    simp only [vget, hj, dite_false, this, if_false]

theorem vget_vset (e : β) (v : Vector β n) (i j : Nat) (x : β) (hi : i < n) :
    vget e (vset v i x) j = if j = i then x else vget e v j := vget_vmod e v i j _ hi

theorem vmod_outside (v : Vector β n) (i : Nat) (f : β → β) (hi : n ≤ i) : vmod v i f = v := by
  simp [vmod, Nat.not_lt.mpr hi]

end Sys2Proof.Machine
end

