-- ==== Sys2Proof/Laws/Memory.lean ====
section
/-! SUPPORT. Every operation on DRAM, the ring store and the test window keeps the canonical form. -/

namespace Sys2Proof.Machine

theorem memory_wf_iff (d : Dram) : Memory.wf d = true ↔ twf 0 d.bytes = true ∧ twf false d.poison = true := by
  simp [Memory.wf]

theorem twf_storeBytes (beat : Nat) (en : Dword) (l : List Byte) :
    ∀ (i : Nat) (t : Table Byte), twf 0 t = true → twf 0 (storeBytes beat en i l t) = true := by
  induction l with
  | nil => exact fun _ _ h => h
  | cons b r ih =>
    intro i t h
    simp only [storeBytes]
    split
    · exact ih _ _ (twf_tset _ _ h)
    · exact ih _ _ h

theorem dramWrite_wf (w : BeatWrite) {d : Dram} (h : Memory.wf d = true) : Memory.wf (dramWrite w d) = true := by
  rw [memory_wf_iff] at h ⊢
  exact ⟨twf_storeBytes _ _ _ _ _ h.1, twf_tset _ _ h.2⟩

theorem dramMark_wf (beat : Nat) {d : Dram} (h : Memory.wf d = true) : Memory.wf (dramMark beat d) = true := by
  rw [memory_wf_iff] at h ⊢
  exact ⟨h.1, twf_tset _ _ h.2⟩

theorem zeroTile_wf (t : Nat) {d : Dram} (h : Memory.wf d = true) : Memory.wf (zeroTile t d) = true := by
  rw [memory_wf_iff] at h ⊢
  exact ⟨twf_tclear _ _ h.1, twf_tclear _ _ h.2⟩

theorem foldl_wf {β : Type} (f : Dram → β → Dram) (hf : ∀ d x, Memory.wf d = true → Memory.wf (f d x) = true) (l : List β) :
    ∀ d, Memory.wf d = true → Memory.wf (l.foldl f d) = true := by
  induction l with
  | nil => exact fun _ h => h
  | cons x r ih => exact fun d h => ih _ (hf d x h)

theorem markTile_wf (t : Nat) {d : Dram} (h : Memory.wf d = true) : Memory.wf (markTile t d) = true :=
  foldl_wf _ (fun _ _ hd => dramMark_wf _ hd) _ _ h

theorem writeImage_wf (t : Nat) (i : Image) {d : Dram} (h : Memory.wf d = true) : Memory.wf (writeImage t i d) = true := by
  have := (memory_wf_iff _).mp (zeroTile_wf t h)
  exact (memory_wf_iff _).mpr ⟨twf_tput _ _ this.1, twf_tput _ _ this.2⟩

theorem twf_ringWrite (l : List Byte) : ∀ (ofs : Nat) (d : Dmw), twf 0 d.ring = true → twf 0 (ringWrite ofs l d).ring = true := by
  induction l with
  | nil => exact fun _ _ h => h
  | cons b r ih => exact fun ofs d h => ih _ _ (twf_tset _ _ h)

theorem twf_foldl_tset {α β : Type} [DecidableEq α] {e : α} (key : β → Nat) (val : β → α) (l : List β) :
    ∀ t : Table α, twf e t = true → twf e (l.foldl (fun t x => tset e t (key x) (val x)) t) = true := by
  induction l with
  | nil => exact fun _ h => h
  | cons x r ih => exact fun t h => ih _ (twf_tset _ _ h)

theorem twf_setWindow (w : Nat) (l : List CodedByte) {e : Ecc} (h : twf {} e.window = true) :
    twf {} (setWindow w l e).window = true :=
  twf_foldl_tset (fun x : CodedByte × Nat => w * 8 + x.2) (fun x => x.1) l.zipIdx e.window h

end Sys2Proof.Machine
end

