-- ==== Sys2Proof/Tests/Slice0.lean ====
section
/-! SUPPORT. The model's own tests: ill-formed commands, the canonical form at reset, the byte code and CRC against the spec's
tables, and for each statement states and operands that meet its hypotheses together, at a boundary where there is one
(`w_` after `test_`). -/

namespace Sys2Proof.Tests

open Sys2Proof Sys2Proof.Machine

/-! ### States of the tests -/

/-- A Suite of one Room from Room 0. -/
def suite (p : Policy) : SuiteCtx :=
  { cfg := { id := 0, policy := p, priority := 0, firstRoom := 0, roomCount := 1, quota := 0, exposure := 0, keySlot := 0,
             etPermit := false, mirrorSet := 0, name := [] }, enabled := true }

/-- One channel, 64 persistent Rooms, one mirror set, stowed saves. -/
def plan1 : Plan :=
  { factoryPlan with
    topo := { subchMask := 3 }, layout := { persRooms := 64 }, partner := { sets := 1 },
    policy := { factoryPlan.policy with saveMode := 1, stowEn := true } }

/-- A part in a state, its link up, its supplies there, one channel, one mirror set, one Suite of a policy. -/
def part (o : OpState) (p : Policy) : State :=
  { State.reset with
    almanac := 5, dev := { State.reset.dev with state := o }, sui := [suite p],
    hst := { State.reset.hst with linkUp := true, gateClosed := false },
    att := { State.reset.att with scanned := true },
    nrg := { State.reset.nrg with p12vValid := true, perst := false, path := .mains },
    fpl := { State.reset.fpl with plan := plan1 },
    sav := { State.reset.sav with opened := true } }

/-- In SERVICE with a persistent Suite. -/
def live : State := part .service .persistent

/-- A tile 0 and Room 0 of a class. -/
def tile0 (k : RoomClass) (x : Tile) (s : State) : State :=
  { s with cht := { s.cht with built := true, entries := [(0, { cls := k })], tiles := tset {} [] 0 x } }

/-- One change of a group. -/
def nrg (f : Nrg → Nrg) (s : State) : State := { s with nrg := f s.nrg }
def hst (f : Hst → Hst) (s : State) : State := { s with hst := f s.hst }
def sav (f : Sav → Sav) (s : State) : State := { s with sav := f s.sav }
def cel (f : Cel → Cel) (s : State) : State := { s with cel := f s.cel }
def stw (f : Stw → Stw) (s : State) : State := { s with stw := f s.stw }
def dev (f : Dev → Dev) (s : State) : State := { s with dev := f s.dev }
def plk (f : Plk → Plk) (s : State) : State := { s with plk := f s.plk }
def gau (f : Gau → Gau) (s : State) : State := { s with gau := f s.gau }
def svc (f : Svc → Svc) (s : State) : State := { s with svc := f s.svc }
def plan (f : Plan → Plan) (s : State) : State := { s with fpl := { s.fpl with plan := f s.fpl.plan } }

/-- An HDM decoder over the first 256 MiB. -/
def decoded (s : State) : State :=
  hst (fun h => { h with hdm := vset h.hdm 0 { base := 0, size := 2 ^ 28, committed := true } }) s

/-! ### Mailbox -/

theorem test_w_mailbox : ∀ op ∈ [0x0001, 0x0002, 0x0100, 0x0101, 0x0102, 0x0103, 0x0200, 0x0201, 0x0202, 0x0300, 0x0301, 0x0400,
    0x0401, 0x4000, 0x4100, 0x4101, 0x4102, 0x4103, 0x4200, 0x4201, 0x4202, 0x4203, 0x4204, 0x4300, 0x4301, 0x4302, 0x4303,
    0x4304, 0x4305, 0x4400, 0x4401, 0xC000, 0xC001, 0xC002, 0xC003, 0xC010, 0xC011, 0xC020, 0xC021, 0xC030, 0xC050, 0xC051,
    0xC052, 0xC053, 0xC054, 0xFFFF], mailboxServes live op = some true := by decide
theorem test_w_reports : live.log.calValid = false ∧ { live.log with calValid := true }.calValid = true ∧
    commandEffects.length + 0 ≤ commandEffects.length ∧ 0 < live.plan.partner.sets ∧ dramBeats live ≠ 0 ∧
    (poisonIn live 0 64).length ≤ 1022 ∧ live.hst.poisonNext = none ∧ live.hst.scanNext = 0 ∧
    live.hst.scanResults.length ≤ 1022 ∧ live.hst.bg = none ∧ 0xFFFF ∉ namedOpcodes := by decide +kernel
theorem test_w_busy : (part .restore .persistent).dev.state = .restore ∧ (part .warmReturn .persistent).dev.state = .warmReturn := by
  decide
def logged : State := hst (fun h => { h with logs := vmod h.logs 3 fun l => { l with records := [(7, .memoryModule 0 0)] } }) live
theorem test_w_settings : (∃ r ∈ (eventLog logged 3).records, r.1 = 7) ∧ mirroredActive live = false ∧
    live.hst.sanitizing = none ∧ (∀ n ∈ [1, 0x11, 0xF1, 0xFD], n % 4 = 1 ∧ n < 256) ∧ logHolds live = false := by decide
def granted : State := plan (fun p => { p with domain := { p.domain with grantMode := true } })
  { live with rek := { live.rek with lastSeq := some 4, grant := some { joules := 1, validS := 1, seq := 4, at_ := 0 } } }
theorem test_w_grants : mailboxServes granted 0xC010 = some true ∧ granted.plan.domain.grantMode = true ∧
    granted.rek.lastSeq = some 4 ∧ 4 < 5 ∧ granted.rek.grant.isSome = true ∧ live.plan.domain.grantMode = false := by decide
theorem test_w_poison : decodedBeat (decoded live) (2 ^ 28 - 64) = false ∧ decodedBeat (decoded live) 64 = true ∧
    decodedBeat (decoded (part .service .readOnly)) 0 = true ∧ (decodeDpa live 0).isOk = true ∧ (decodeDpa (part .service .readOnly) 0).isOk = true ∧
    (suiteOfRoom live 0).any (fun c => c.cfg.policy = .persistent) = true ∧
    (suiteOfRoom (part .service .readOnly) 0).any (fun c => c.cfg.policy = .readOnly) = true ∧
    live.hst.ideBroken = false := by decide
def scanned : State := { hst (fun h => { h with scanning := true }) live with drc := { live.drc with scanBeat := dramBeats live } }
theorem test_w_scan : scanned.hst.scanning = true ∧ evaluates scanned.dev.state = true ∧ dramBeats scanned ≤ scanned.drc.scanBeat ∧
    patrolQuiet scanned = true := by
  decide
def marked : State := { part .boot .persistent with
  cal := { State.reset.cal with sanitizeMark := some 0x4401 }, cht := { State.reset.cht with built := true },
  drc := { State.reset.drc with
    railsValid := true
    subch := vmod (vmod State.reset.drc.subch 0 fun c => { c with trained := true }) 1 fun c => { c with trained := true } } }
theorem test_w_sanitize : (hst (fun h => { h with sanitizing := some 0x4400 }) live).hst.sanitizing = some 0x4400 ∧
    drcQuiet live = true ∧ live.stw.stalled = [] ∧ marked.dev.state = .boot ∧ trainingDone marked = true ∧ marked.sav.decision = .notTaken := by decide
/-- The one mirror set in a state. -/
def mset (x : MirrorSet) (s : State) : State := plk (fun p => { p with rev := 1, contact := true, sets := vset p.sets 0 x }) s
theorem test_w_mirror : 0 < live.plan.partner.sets ∧ setBusy (setAt (mset { st := .active } live) 0) = false ∧
    (setAt (mset { st := .active } live) 0).st = .active ∧ (setAt (mset { st := .standbySync } live) 0).st = .standbySync ∧
    setBusy (setAt (mset { st := .standbySync } live) 0) = false := by decide
theorem test_w_acknowledge : (dev (fun d => { d with state := .harbour, phase := .writing }) live).dev.phase ≠ .ended ∧
    (dev (fun d => { d with state := .harbour, phase := .ended }) live).dev.heldHarbour = false ∧ (1 : Word).getLsbD 0 = true ∧
    mailboxServes (dev (fun d => { d with state := .harbour }) live) 0xC003 = some true := by decide

/-! ### Power, host link, Control Block, stations -/

theorem test_w_fence : ∀ o ∈ [OpState.service, .tenancy, .harbour, .warmReturn], (part o .persistent).dev.state = o ∧
    (part o .persistent).nrg.p12vValid = true ∧ (part o .persistent).plan.pins.musterInEn = true := by decide
theorem test_w_supplies : (part .off .persistent).nrg.perst = false ∧ (part .off .persistent).nrg.p12vValid = true ∧
    (nrg (fun n => { n with path := .pack }) live).nrg.path = .pack ∧ (part .drydock .persistent).dev.state = .drydock ∧
    (sav (fun v => { v with absenceSinceFence := true }) (part .saved .persistent)).sav.absenceSinceFence = true ∧
    (nrg (fun n => { n with perst := true }) (part .saved .persistent)).nrg.perst = true ∧
    (tile0 .persistent {} (part .boot .persistent)).cht.built = true := by decide
def hot : State := { live with pwr := { live.pwr with vppOn := true, stage := 1, coolSince := some 3 } }
theorem test_w_heat : poweredState live.dev.state = true ∧ (List.replicate 16 (379 : Int)).length = 16 ∧
    (∀ x ∈ List.replicate 16 (379 : Int), x < 380) ∧ live.pwr.stage = 0 ∧ hot.pwr.stage = 1 ∧ hot.log.aonPowered = true ∧
    hot.pwr.vppOn = true := by decide
theorem test_w_link : logHolds live = false ∧ live.hst.waiting = [] ∧ live.hst.creditHeldAt = none ∧ live.hst.readsWaiting = [] := by
  decide
theorem test_w_writes : hpaToDpa live 0 = none ∧ hpaToDpa (decoded live) 64 = some 64 ∧
    (decodeDpa (decoded live) 64).isOk = true ∧ (decoded live).hst.writes.length < 14336 := by decide
/-- A write that has entered for beat 0. -/
def write0 : HostWrite :=
  { tag := 1, w := { beat := 0, data := [], enables := allEnables, poison := false }, parityBad := false, at_ := 5, hold := .none,
    claim := .notPresented, accepted := false, waitAck := none, inDram := false, oldRole := false }
theorem test_w_full : (hst (fun h => { h with writes := List.replicate 14336 write0 }) (decoded live)).hst.writes.length = 14336 :=
  List.length_replicate
def entered (k : RoomClass) (st : TileSt) : State := hst (fun h => { h with writes := [write0] }) (tile0 k { st := st } live)
theorem test_w_claims : findWrite (entered .persistent .clean) 1 = some write0 ∧ write0.tag = 1 ∧
    (claimDue (entered .persistent .clean) write0).isSome = true ∧
    claimVerdict (stw (fun w => { w with rekCeil := 1 }) (entered .persistent .clean)) 0 { suite .persistent with cfg := { (suite .persistent).cfg with quota := 1 } } = .grant ∧
    claimVerdict (stw (fun w => { w with rekCeil := 1 }) (entered .persistent .clean)) 0 (suite .persistent) = .stall ∧ acceptable (entered .volatile .dirty) write0 = true ∧
    (tileAt (entered .persistent .dirty) 0).st ≠ .clean ∧
    (suiteOfRoom (entered .persistent .dirty) 0).bind suiteSet = none := by decide
/-- 03_host_link R96: a tracker with one entry left, and with none. -/
theorem test_w_last_credit : (hst (fun h => { h with writes := List.replicate 14335 write0 }) (decoded live)).hst.writes.length = 14335 :=
  List.length_replicate
theorem test_w_link_values : (8 : Nat).testBit 3 = true ∧ (16 : Nat).testBit 4 = true ∧ bestCommon 3 8 = 3 ∧ bestCommon 4 14 = 3 ∧
    bestCommon 4 16 = 4 ∧ bestCommon 3 0 = 0 ∧ bestCommon 3 2 = 1 ∧ poweredState (part .boot .persistent).dev.state = true := by decide
/-- A read whose beat is held by the volatile fill. -/
def filling : State := hst (fun h => { h with writes := [{ write0 with hold := .fill }] }) (tile0 .volatile {} live)
theorem test_w_reads : tileClass (tile0 .persistent {} live) 0 = .persistent ∧
    (subchOf (tile0 .persistent {} live) 0).isSome = true ∧ hostDrained live = true ∧ gpfReady live { at_ := 0, waits := [] } = true ∧
    (hst (fun h => { h with windowDiscards := [(0, 1)] }) live).hst.windowDiscards = [(0, 1)] ∧ live.log.aonPowered = true ∧
    tileClass filling 0 = .volatile ∧ (tileAt filling 0).st = .clean ∧ fillWanted filling 0 = true ∧
    Memory.wf filling.dram = true ∧ twf {} filling.cht.tiles = true ∧ tileServed filling mNone 0 = true ∧ live.hst.gateClosed = false := by decide
theorem test_w_gate : (hst (fun h => { h with gateClosed := true }) live).hst.gateClosed = true ∧ live.hst.linkUp = true := by decide
theorem test_w_bar : barOpen live = true ∧ 0x3FFFC % 4 = 0 ∧ 0x3FFFC + 4 ≤ 0x40000 ∧
    (∀ i, i < 4 → tget false live.dmw.ringBad (0x3FFFC + i) = false) ∧ (0 : Word).toNat % 65536 = 0 ∧
    45000 < (45001 : Word).toNat % 65536 ∧ (45000 : Word).toNat % 65536 ≤ 45000 ∧ 1 ≤ (1 : Word).toNat % 65536 := by decide
theorem test_w_registers : (regView live 0x10).isSome = true ∧ isPairLo 0x10 = false ∧ isPairLo (0x10 - 4) = false ∧
    (regView live 0x10010).isSome = true ∧ isPairLo 0x10010 = true ∧ isPairLo (0x10010 - 4) = false ∧ regView live 0x150FFC = none ∧
    refusedAccess live false 0x12 4 = true ∧ refusedAccess live false 0x10 2 = true ∧ refusedAccess live true 0x40000 4 = true := by decide
/-- A link that trained at x16 and 64 GT/s and stays up. -/
def kept : State := hst (fun h => { h with cxlVer := 3, rate := 4, width := 3, flit256 := true }) live
theorem test_w_link_kept : bestCommon 3 8 = kept.hst.cxlVer ∧ kept.hst.cxlVer ≠ 0 ∧ bestCommon 4 16 = kept.hst.rate ∧ kept.hst.rate ≠ 0 ∧
    kept.hst.width ≠ 0 ∧ kept.hst.linkUp = true ∧ kept.hst.flit256 = decide (kept.hst.rate = 4) ∧
    (hst (fun h => { h with linkUp := false }) kept).hst.linkUp = false := by decide
/-- A station with class 3 sticky and live, its timers running. -/
def faulted : State := modStation .hst (fun x => { x with
  sticky := 8, live := 8, quietAt := [(3, 9)], graceAt := [(3, 9)], quarUntil := some 9 }) live
theorem test_w_stations : hstBadAccess.bit < 32 ∧ alookup (stationAt faulted .hst).quietAt 3 = some 9 ∧
    alookup (stationAt faulted .hst).graceAt 3 = some 9 ∧ (stationAt faulted .hst).sticky.getLsbD 3 = true ∧
    (stationAt faulted .hst).live.getLsbD 3 = true ∧ (stationAt faulted .hst).quarUntil = some 9 ∧
    (stationAt live .hst).sticky = 0 ∧ (stationAt live .hst).level ≤ (stationAt live .hst).cap := by decide

/-! ### DRAM, Chart, Suites -/

/-- Subchannel 0 changed. -/
def sub0 (f : Subch → Subch) (s : State) : State := modSubch 0 f s
def boot : State := { part .boot .persistent with drc := { State.reset.drc with railsValid := true } }
theorem test_w_training : boot.drc.railsValid = true ∧ populated boot 0 = true ∧ (subchAt boot 0).trained = false ∧
    (subchAt boot 0).failed = false ∧ (subchAt (sub0 (fun c => { c with tries := 1 }) boot) 0).tries < 2 := by decide
def trained : State := sub0 (fun c => { c with trained := true, bands := [(0, 2)] }) live
theorem test_w_calibrations : (subchAt trained 0).selfRef = false ∧ (subchAt trained 0).trained = true ∧ rtLevel trained = 0 ∧
    (subchAt trained 0).deferred = [] ∧ alookup (subchAt trained 0).bands 0 = some 2 ∧
    (subchAt (sub0 (fun c => { c with deferred := [{ kind := 1, since := 2, sinceNs := 0 }] }) trained) 0).deferred =
      [{ kind := 1, since := 2, sinceNs := 0 }]
    := by decide
def rtBeat0 : RtBeat := { set := 0, w := write0.w, resync := false, seq := 0, entered := some 0 }
def urgent : State := plk (fun p => { p with rt := [rtBeat0] }) { trained with drc := { trained.drc with urgent := 0 } }
theorem test_w_calibration_deferred : rtLevel urgent = 1 ∧ (subchAt urgent 0).deferred = [] ∧ aboveClass5 trained 0 = false ∧
    inWindow (subchAt trained 0) 8 = true ∧ inWindow (subchAt trained 0) 9 = false ∧ 0 < logicalRanks trained := by decide
/-- A request for beat 0 that holds an entry, a forced calibration, refresh due times that lie ahead. -/
def req0 : DrcReq := { src := mHost, beat := 0, seq := 0, entered := some 0, kind := .read }
def forced : State := sub0 (fun c => { c with forcedCal := [{ kind := 0, since := 0, sinceNs := 0 }] }) trained
def owing : State := sub0 (fun c => { c with queue := [req0], banks := [((beatBank live 0).1, { owesRfm := some 3 })] }) trained
def calm : State := sub0 (fun c => { c with refresh := (List.range 8).map fun k => (k, { due := 1000000 }) }) trained
theorem test_w_scheduler_classes : oldest (class1 (fillPool 0 forced) 0) = some (0, .cal 0) ∧ class1 (fillPool 0 owing) 0 = [] ∧
    oldest (class2 (fillPool 0 owing) 0) = some (3, .rfm (beatBank live 0).1) ∧ class1 (fillPool 0 urgent) 0 = [] ∧
    class2 (fillPool 0 urgent) 0 = [] ∧ (class34 (fillPool 0 urgent) 0).isSome = true ∧ class1 (fillPool 0 trained) 0 = [] ∧
    class2 (fillPool 0 trained) 0 = [] ∧ class34 (fillPool 0 trained) 0 = none ∧ (oldest (class5 (fillPool 0 trained) 0)).isSome = true ∧
    class5 (fillPool 0 calm) 0 = [] ∧ (subchAt calm 0).trained = true := by decide
/-- All eight entries of maintenance taken. -/
def crowded : State :=
  sub0 (fun c => { c with deferred := List.replicate 8 { kind := 0, since := 2, sinceNs := 0 } }) trained
theorem test_w_calibration_taken : calTaken trained 0 0 = true ∧ calTaken trained 0 1 = true ∧ calNow calm 0 = true ∧ calTaken calm 0 0 = true ∧
    calNow urgent 0 = false ∧ maintFull urgent 0 = false ∧ maintFull crowded 0 = true ∧
    calNow (modSubch 0 (fun c => { c with zqAt := 10000000 }) (advanceTo 10000000 calm)) 0 = true := by decide
theorem test_w_scheduler : (∀ i ∈ allIdx forced, refreshForced forced (subchAt forced 0) i.1 i.2 = false) ∧ forced.plk.rt = [] ∧
    (subchAt forced 0).deferred = [] ∧ (subchAt forced 0).queue = [] ∧ { trained.drc with srIdleUs := 1 }.srIdleUs ≠ 0 ∧
    requestsWait trained 0 = false ∧
    ((subchAt (sub0 (fun c => { c with selfRef := true, queue := [req0] }) trained) 0).queue.any fun q => q.src ≠ mDramScrub) = true := by
  decide
/-- A host read of beat 0 that is on its way. -/
def flying0 : State :=
  hst (fun h => { h with reads := [{ tag := 7, beat := 0, at_ := 0, req := some 0 }] })
    (sub0 (fun c => { c with flight := [{ src := mHost, beat := 0, seq := 0, data := [], mark := false, overtaken := false }] }) trained)
theorem test_w_dram : trained.plan.topo.devWidth = 4 ∧ dramPoison trained.dram 0 = false ∧ (flightsOf flying0 mHost).length = 1 ∧
    flying0.hst.reads.length = 1 ∧ flying0.hst.readsWaiting = [] ∧ flightsOf trained mHost = [] ∧ flightsOf trained mDramScrub = [] ∧
    (dpaToSubch trained 0).any (fun x => x.1 = 0) = true ∧ 0 < trained.drc.budget ∧ trained.drc.patrolH ≠ 0 ∧
    trained.hst.scanning = false ∧ patrolRuns trained trained.drc.patrolBeat = true ∧
    (subchOf trained 0).any (fun sc => (subchAt trained sc).trained) = true ∧
    (subchOf live 0).any (fun sc => (subchAt live sc).trained) = false ∧ patrolRuns live 0 = true ∧
    trained.drc.patrolBeat < dramBeats trained ∧ { trained.drc with passStart := some 0 }.passStart = some 0 := by decide
theorem test_w_patrol_end :
    let d := { trained.drc with patrolBeat := dramBeats trained, overDevs := [(0, 0, 0, 0)], dayStart := 1 }
    d.patrolH ≠ 0 ∧ dramBeats { trained with drc := d } ≤ d.patrolBeat ∧ d.overDevs ≠ [] ∧ patrolQuiet { trained with drc := d } = true ∧
    { d with patrolH := 0 }.patrolH = 0 := by decide
def reread : State := { live with cht := { live.cht with rereads := [0] } }
theorem test_w_chart : twf {} (tile0 .persistent {} live).cht.entries = true ∧ twf {} (tile0 .persistent {} live).cht.tiles = true ∧
    (builtEntry live 0).cls.saved = true ∧ (builtEntry live 0x7FFFF).cls.saved = false ∧ 12582911 < 12582912 ∧
    (∀ k ∈ byteTiles 2, (tileClass (tile0 .persistent {} live) k).saved = true) ∧ reread.cht.rereads.contains 0 = true ∧ (∀ j ∈ reread.cel.journal, j.rec_.room ≠ 0) := by decide

/-! ### Stowing, save, Warm Return -/

/-- Stowing runs, tile 0 is Dirty and a candidate. -/
def stowing : State := stw (fun w => { w with bucket := 1, sweepRoom := 1, normal := [0] }) (tile0 .persistent { st := .dirty } live)
theorem test_w_sweep : stowRuns stowing = true ∧ stowing.stw.sweepRoom ≠ 0 ∧ nextSwept stowing stowing.stw.sweepRoom = none ∧
    nextSwept { stowing with stw := { stowing.stw with sweepRoom := 0 } } 0 = some 0 ∧ mayStow stowing = true ∧
    nextCandidate stowing = some 0 ∧ tileServed stowing mStow 0 = true ∧
    tileServed (sub0 (fun c => { c with selfRef := true }) stowing) mStow 0 = false ∧ (tileAt stowing 0).st = .dirty ∧ (tileAt stowing 0).touched = false ∧
    (tileAt (tile0 .persistent { st := .dirty, touched := true } stowing) 0).touched = true := by decide
/-- A record on its way, and one claim that stalls. -/
def rec0 : RecFlight :=
  { rec_ := { room := 0, gen := 1, suite := 0, key := 0, full := false, planCrc := 0, time := 0, tiles := [] }, ptr := 0,
    names := [(0, 0, .stow)], phase := .resolved true, at_ := 0 }
def stalled : State := stw (fun w => { w with
  stalled := [{ hostTag := none, channel := 0, tile := 0, suite := 0, start := 0, bound := 2000 }] }) live
theorem test_w_completions : evaluates live.dev.state = true ∧ live.cel.copies = [] ∧ live.cel.recs = [] ∧
    (rec0.names.filter fun x => x.2.2.completes) = [(0, 0, .stow)] ∧ rec0.phase = .resolved true ∧
    stalled.stw.stalled.length = 1 ∧ stalled.stw.windowSuites = [] ∧ (∀ x ∈ stalled.sui, exposureOf stalled x ≠ 2) := by decide
theorem test_w_wear : poweredState live.dev.state = true ∧ live.stw.wearShort = false ∧ live.stw.overRun < 6 ∧
    (plan (fun p => { p with policy := { p.policy with serviceYears := 0 } }) live).plan.policy.serviceYears = 0 := by decide
def header0 : SaveHeader :=
  { kind := 1, half := 0, saveId := 1, fenceTime := 0, cause := 7, armed := true, exposedAny := false, baseValid := false,
    pending := false, eraseAhead := false, memberId := 0, planCrc := 0, baseSaveId := 0, baseHalf := 0, ratePlan := 0,
    wearBucket := 0, openId := 0 }
/-- A run that has one tile to read, one that has it in flight, one that has ended. -/
def run0 : SaveRun := { header := header0, half := none, list := [], todo := [(0, 0)] }
def run1 : SaveRun := { run0 with half := some .port, todo := [], inFlight := [(0, 0, {})] }
def run2 : SaveRun := { run0 with half := some .port, todo := [] }
def saving (r : SaveRun) (p : SavPhase) : State := sav (fun v => { v with phase := p, run := some r }) (part .saving .persistent)
theorem test_w_drained : drainedAll (part .fenced .persistent) = true ∧
    drainedAll (sub0 (fun c => { c with trained := true }) (part .fenced .persistent)) = true := by decide
theorem test_w_save_begins : (part .fenced .persistent).sav.staggered = false ∧ (part .fenced .persistent).sav.drained = false ∧
    keeperRuns (sav (fun v => { v with drained := true, staggered := true }) (part .fenced .persistent)) = true ∧
    (part .fenced .persistent).nrg.path = .mains ∧ (saving run0 .header).sav.phase = .header := by decide
theorem test_w_save_tiles : (saving run0 .tiles).dev.state = .saving ∧ run0.half = none ∧ run0.todo = [(0, 0)] ∧
    tileEntries (saving run0 .tiles) .save = true ∧ tileServed (saving run0 .tiles) mSave 0 = true ∧ (programList (saving run0 .tiles)).dev.state = .saving ∧ run1.half = some .port ∧ run1.inFlight = [(0, 0, {})] ∧
    (saving run1 .tiles).nrg.path = .mains ∧ (programList (saving run0 .tiles)).sav.run = some run0 := by
  decide +kernel
/-- A save into a half of 64 GiB. -/
def halfSave : State := plan (fun p => { p with layout := { p.layout with vestGib := 64 } }) (saving { run0 with half := some .port } .tiles)
theorem test_w_save_half : nextFlight (programList halfSave) { run0 with half := some .port } = some 0 ∧
    0 < halfSlots (programList halfSave) ∧ dieTaken (programList halfSave) 0 = false ∧
    (programList halfSave).sav.run = some { run0 with half := some .port } ∧ (programList halfSave).dev.state = .saving := by decide
theorem test_w_save_ends : sealDue (saving run2 .tiles) run2 = true ∧ (saving run2 .tiles).sav.absenceSinceFence = false ∧
    (nrg (fun n => { n with path := .pack, p12vValid := false }) (saving run2 .tiles)).nrg.path = .pack ∧
    (saving run2 .tiles).sav.nowRate ≤ rateFloor (saving run2 .tiles).sav.kind := by decide
theorem test_w_warm : warmReady (part .warmReturn .persistent) = true ∧ (part .warmReturn .persistent).svc.phase ≠ 3 ∧
    (part .warmReturn .persistent).dev.heldAbandon = false ∧
    (sav (fun v => { v with openPending := true, port := { st := .erasing } }) live).sav.openPending = true ∧
    (sav (fun v => { v with openPending := true, warmHalves := [.port], port := { st := .image, rec_ := some { header := header0 } } })
      live).sav.port.rec_.isSome = true := by decide
def harbour : State := dev (fun d => { d with state := .harbour, phase := .waiting }) live
theorem test_w_precaution : precautionHalf (plan (fun p => { p with layout := { p.layout with vestGib := 64 } }) harbour) = some .port ∧
    harbour.dev.phase = .waiting ∧ run2.todo = [] ∧ run2.inFlight = [] ∧ run2.list.length ≤ run2.written ∧
    harbour.cel.retireAfterSave = [] ∧ harbour.dev.ackPend = false := by decide

/-! ### Boot, restore, Fold, the Cellar -/

/-- A boot whose bank is selected, whose Chart is built, whose Meta is read and whose DRAM is trained. -/
def ready : State :=
  let t := fun (c : Subch) => { c with trained := true }
  let s := modSubch 1 t (modSubch 0 t (tile0 .persistent {} boot))
  cel (fun c => { c with metaLoaded := true }) (svc (fun v => { v with selected := true }) { s with almanac := 10000 })
theorem test_w_boot : ready.dev.state = .boot ∧ ready.svc.selected = true ∧ boot.cht.built = false ∧ boot.svc.selected = false ∧
    decisionDue ready = true ∧ musterHigh ready = true ∧ musterHigh { ready with almanac := 9999 } = false ∧
    planCheck ready = true ∧ (currentSave ready).isNone = true ∧ newestOpen ready = none ∧ boot.cel.metaLoaded = false ∧
    (lastSave boot).isNone = true ∧ boot.log.gapUnknown = false ∧ boot.cel.journal = [] ∧ musterLow ready = false ∧
    boot.cel.ckpts = [] ∧ boot.sav.badHeaders = [] ∧ boot.sav.badOpens = [] ∧
    (sav (fun v => { v with decision := .fresh }) ready).sav.decision = .fresh := by decide
/-- A boot whose Chart is built and whose Meta is not yet read. -/
def metaDue : State := { boot with cht := { boot.cht with built := true } }
theorem test_w_meta : metaDue.dev.state = .boot ∧ metaDue.cht.built = true ∧ metaDue.cel.metaLoaded = false ∧ metaDue.cel.journal = [] ∧
    metaDue.cel.ckpts = [] ∧ metaDue.sav.badHeaders = [] ∧ metaDue.sav.badOpens = [] ∧ (lastSave metaDue).isNone = true ∧
    metaDue.log.gapUnknown = false := by decide
theorem test_w_meta_spare : metaDue.cel.spareThresh ≤ (spareMin metaDue).1 := by decide
def restores : State := sav (fun v => { v with
  et := true, restore := { v.restore with running := true, order := [0] } }) (tile0 .persistent { st := .dirty } (part .restore .persistent))
def folding : State := sav (fun v => { v with foldPhase := 1, foldLeft := [0] }) stowing
theorem test_w_restore : restoring restores = true ∧ restores.sav.restore.presetDone = false ∧
    restores.sav.restore.s.isNone = true ∧ restores.sav.restore.order ≠ [] ∧ restores.sav.et = true ∧ restores.sav.opened = true ∧
    restores.sav.restore.base.isNone = true ∧
    tileNext (sav (fun v => { v with restore := { v.restore with presetDone := true } }) restores) 63 = true ∧
    tileEntries restores .demand = true ∧ tileEntries restores .other = true ∧ musterPinLow live = false ∧
    folding.sav.foldLeft = [0] ∧ (tileAt folding 0).st = .dirty ∧ (entryAt folding (0 / tilesPerRoom)).mapStale = false ∧
    foldMay folding = true ∧ tileServed folding mFold 0 = true ∧ foldWhole folding 0 = false ∧ tileServed restores mRestore 63 = true ∧ live.stw.stalled = [] ∧
    ({ live.fpl with liveHeld := some { plan := plan1, slot := 1 } }.liveHeld).isSome = true := by decide
/-- A copy on its way on die 0. -/
def copy0 (p : CopyPhase) : CellCopy × CopyFlight :=
  ({ tile := 0, seq := 0, keySlot := 0, keyId := 0, img := {}, progAt := 0 },
   { tile := 0, seq := 0, src := .stow, die := 0, slot := none, keySlot := 0, keyId := 0, img := {}, poisoned := false, whole := false,
     phase := p, at_ := 0 })
def flying (p : CopyPhase) : State := cel (fun c => { c with copies := [(copy0 p).2] }) live
def records (n : Nat) (p : RecPhase) : State := cel (fun c => { c with recs := List.replicate n { rec0 with phase := p } }) live
theorem test_w_cellar : ((flying .issued).cel.copies.find? fun c => c.phase = .issued && c.die = 0) = some (copy0 .issued).2 ∧
    padNext (modDie 0 (fun x => { x with frontier := some (0, 1) }) (flying .latched)) 0 = some (copy0 .latched).2 ∧
    (copy0 .latched).2.src.reloc? = false ∧ 16 ≤ (waitingRecs (records 16 .waiting)).length ∧ recBusy live 0 = false ∧
    fullPending live 0 = false ∧ ((records 1 (.issued 3)).cel.recs.filter fun r => r.phase = .issued 3).length = 1 ∧
    metaWorks ready = true ∧ { ready.cel with sinceCkpt := 65536 }.sinceCkpt = 65536 := by decide
/-- A copy of a Full save whose program has passed. -/
def fullCopy : CopyFlight := { (copy0 .passed).2 with src := .full }
theorem test_w_full_tile : fullCopy.src = .full ∧ fullCopy.tile = 0 ∧ fullCopy.phase = .passed ∧
    (cel (fun c => { c with copies := [fullCopy] }) (saving { run0 with todo := [], inFlight := [(0, 0, {})] } .tiles)).cel.copies = [fullCopy] := by
  decide
/-- A Meta of 24 GiB whose first block is a journal block. -/
def journaled : State :=
  cel (fun c => { c with metaBlks := [(0, some { type := 1, sub := 0, seq := 0, next := 2 })], nextPageSeq := 2 })
    (plan (fun p => { p with layout := { p.layout with metaGib := 24 } }) ready)
def standing0 : State :=
  cel (fun c => { c with journal := [{ ptr := 16, rec_ := rec0.rec_ }] })
    { journaled with cht := { journaled.cht with entries := [(0, { cls := .persistent, mapPtr := some 16, mapGen := 1 })] } }
/-- Its record names slot 0, so that the patrol reads block 0 of die 0. -/
def confirmed0 : State :=
  cel (fun c => { c with journal := [{ ptr := 16, rec_ := { rec0.rec_ with tiles := [(0, { slot := some 0 })] } }] }) standing0
theorem test_w_patrol : patrolled confirmed0 0 0 0 = true ∧ patrolled confirmed0 0 0 1 = false := by decide
theorem test_w_journal : journalBlock journaled 0 0 = true ∧ roomsIn journaled 0 0 = [] ∧ roomsIn standing0 0 0 = [0] ∧
    journalBlock standing0 0 0 = true := by decide
theorem test_w_journal_erase : mayErase (takeCheckpoint journaled) 2 0 0 = true ∧ dieIdle (takeCheckpoint journaled) 0 = true ∧ (dieAt (takeCheckpoint journaled) 0).erasing = none := by
  decide +kernel
/-- A plan with one block of the Cellar on each die; its block erased 201 times more than the other, in use. -/
def small : State :=
  modNand 0 0 1 (fun n => { n with erases := 201, inUse := true }) (plan (fun p => { p with layout := { p.layout with cellarGib := 2 } }) live)
theorem test_w_cellar_wear : 16 < 17 ∧ (dieAt (modDie 0 (fun x => { x with erasing := some (0, 1, true) }) live) 0).erasing = some (0, 1, true) ∧
    dieIdle (modDie 0 (fun x => { x with erasing := some (0, 1, true) }) live) 0 = true ∧ 0 < dieCount small ∧ freeCount small 0 < small.cel.gcLow ∧ emptiest small 0 = some 1 ∧
    (wearSpread small 0 (tlcBlocks small)).2.1 + 200 < (wearSpread small 0 (tlcBlocks small)).1 ∧
    [0].contains (nandAt live 1 0 0).set = true ∧ mayErase live 1 0 0 = true ∧ mayErase live 0 0 0 = true ∧ suspended live 1 0 0 = false ∧ dieIdle live 0 = true ∧ eraseRuns live 0 = false ∧
    stageNow live = 0 ∧ live.cel.patrolD ≠ 0 ∧ live.almanac - (nandAt live 0 0 0).progAt ≤ live.cel.ageD * 86400000000 := by decide
/-- A head block of die 0 erased 2,001 times. -/
def worn : State := modNand 3 0 0 (fun n => { n with erases := 2001 }) live
theorem test_w_pslc_wear : (freeSpare worn 0).isSome = true ∧ (wearSpread worn 0 (pslcBlocks worn)).2.1 + 2000 < (wearSpread worn 0 (pslcBlocks worn)).1 := by
  decide +kernel

/-! ### Pack, Exercise, gauge, Reckoning -/

/-- A plan for a pack of three lithium-ion cells without authentication. -/
def energy0 : Energy :=
  { chem := 1, cells := 3, rated := 3000, vmaxMv := 4200, vminMv := 3000, ichgMa := 500, idisMa := 5000, tchgMin := 0, tchgMax := 45,
    tdisMin := -20, tdisMax := 60, ocv := [] }
/-- A pack that is inserted and charged. -/
def packed : State :=
  nrg (fun n => { n with inserted := true, packId := .code 3, packMv := 12000, chg := .done, chgAt := 0 })
    (plan (fun p => { p with energy := energy0 }) { live with
      almanac := 600000000, dev := { live.dev with armed := true }, sui := [{ suite .persistent with armed := true }],
      rek := { live.rek with out := { live.rek.out with eUse := 10 ^ 9 } } })
theorem test_w_pack : poweredState packed.dev.state = true ∧ packed.nrg.inserted = true ∧ live.nrg.inserted = false ∧
    packClass 3 = some (packed.plan.energy.chem, packed.plan.energy.cells) ∧ packed.plan.energy.auth = 0 ∧
    (nrg (fun n => { n with auth := some { startedAt := 0, version := 0, serial := [], cls := 0, nonce := [] } }) packed).nrg.auth.isSome = true ∧
    chargeState packed.dev.state = true ∧ packed.nrg.auth.isNone = true ∧ packed.nrg.authAgain = false ∧
    { packed.plan.energy with auth := 1 }.auth ≠ 0 ∧
    (nrg (fun n => { n with authFailedAt := some 7 }) packed).nrg.authFailedAt = some 7 := by decide
theorem test_w_presence : (nrg (fun n => { n with th0 := .ok 100, th1 := .ok 100 }) packed).nrg.present = true ∧ packed.dev.state = .service ∧
    packReading 500000 = .open_ ∧ packReading 2200 = .code 3 := by decide
theorem test_w_samples : live.nrg.packId = .open_ ∧ live.plan.energy.chem = 0 ∧ live.log.aonPowered = true ∧ cellMode packed = true ∧
    (nrg (fun n => { n with chg := .precharge }) packed).nrg.chg = .precharge := by decide
/-- A calendar three days after its start, an Exercise due on the first. -/
def due : State :=
  { nrg (fun n => { n with exerWaiting := true, exer := none }) packed with
    log := { packed.log with calValid := true, offset := 259200000000000 } }
def run : ExerciseRun := { startedAt := 0, drawnPj := 0 }
theorem test_w_exercise : exerciseOk packed = true ∧ exerciseOk (dev (fun d => { d with armed := false }) due) = false ∧
    exerciseOk due = true ∧ exerClock due due.almanac = some 72 ∧ due.plan.policy.exerDays ≠ 0 ∧ lastDue due 72 = some 3 ∧
    due.nrg.exerFired < 3 ∧ due.nrg.exerWaiting = true := by decide
theorem test_w_exercise_stop :
    exerciseStop { packed with gau := { packed.gau with cap := 3000 } } run = none ∧
    exerciseStop packed run = some 2 := by decide
theorem test_w_gauge : pulseOk packed = true ∧ (gau (fun g => { g with pulseDue := true, restSince := some 0, restWindow := some 0 }) packed).gau.pulseDue = true ∧
    windowOk (gau (fun g => { g with forceRef := true }) packed) = true ∧
    windowOk (gau (fun g => { g with forceRef := true }) (nrg (fun n => { n with chg := .off }) packed)) = false ∧
    packed.gau.stale = false ∧ packed.gau.derateAt ≤ packed.gau.learnAt ∧ packed.almanac < packed.gau.learnAt + 10368000000000 ∧ inRefRange 1 0 = true := by decide
theorem test_w_reckoning : reckonState live = true ∧ live.gau.refValid = false ∧ live.rek.running = none ∧ live.nrg.runHold = false ∧
    purserAway live = false ∧ { live.rek with again := true, running := some { limit := 0 } }.running.isSome = true ∧
    ({ limit := 0 } : RekOut).limit ≠ 1 ∧ ceilMoved ({ limit := 0 } : RekOut).ceiling live.rek.loggedCeil = false ∧
    logHolds live = false ∧ (gau (fun g => { g with storeDue := true }) live).gau.storeDue = true := by decide

/-! ### The partner link -/

def linked : State := cel (fun c => { c with metaLoaded := true }) (mset { st := .active } live)
theorem test_w_partner : plkActs linked = true ∧ (plk (fun p => { p with rev := 0 }) linked).plk.rev = 0 ∧
    linked.plan.partner.klMin ≤ min linked.plan.partner.klMax 2 ∧ 1 ≤ min linked.plan.partner.klMax 2 ∧
    linked.plk.retraining = false ∧ 65534 < 65535 ∧ linked.plk.contact = true ∧ linked.ecc.reload = [] ∧
    (plk (fun p => { p with fwd := [{ set := 0, wseq := 1, w := write0.w, resync := false, hostTag := none, at_ := 0 }], credits := 1 }) linked).plk.credits = 1 ∧
    (plan (fun p => { p with partner := { p.partner with sets := 0 } }) linked).plan.partner.sets = 0 ∧
    linked.almanac ≤ linked.plk.retrainAt + 1000 ∧ linked.plk.retrainAt + 1000 < { linked with almanac := 1001 }.almanac ∧
    (plk (fun p => { p with revMismatchAt := some 1, retraining := true }) linked).plk.revMismatchAt = some 1 := by decide
theorem test_w_pairing : plkActs (plk (fun p => { p with contact := false, lanternIn := .stuck }) (mset { role := 1 } linked)) = true ∧
    (setAt (mset { role := 1 } linked) 0).st = .pairing ∧ (setAt (mset { role := 1 } linked) 0).roleRun = none := by decide
def standby : State := mset { st := .standby, synced := true, entered := 2 ^ 32 - 1 } linked
theorem test_w_replication : plkActs standby = true ∧ (setAt standby 0).st = .standby ∧ standby.plk.rt.length < 32768 ∧
    2 ^ 32 % 2 ^ 32 = ((setAt standby 0).entered + 1) % 2 ^ 32 ∧ (setAt standby 0).synced = true ∧ standby.plk.sent = [] ∧
    standby.hst.waiting = [] ∧ (setList linked).filter (forwards linked) = [0] ∧ setList linked = [0] ∧ forwards linked 0 = true ∧
    (setAt linked 0).watch = none := by decide
def watch0 : Watch := { no := 1, almanac := 0, ceil := 0, dirtyTotal := 0, flags := 0, set := 0, suites := [], poison := [] }
theorem test_w_watch : (setAt (mset { st := .active, watch := some watch0 } linked) 0).watch = some watch0 ∧
    forwards (mset { st := .active, watch := some watch0 } linked) 0 = true ∧ watch0.poison = [] := by decide
theorem test_w_roles :
    (setAt (mset { roleRun := some { role := 1, epoch := 1, next := .authority } } linked) 0).roleRun.isSome = true ∧
    plkActs (mset { roleRun := some { role := 1, epoch := 1, next := .authority } } linked) = true ∧
    live.plk.lanternIn ≠ .abandon ∧ (plk (fun p => { p with lanternIn := .toggling }) live).plk.lanternIn ≠ .stuck ∧
    live.plk.lanternRead = false ∧ live.plk.contact = false := by decide
def mirrored : State := { linked with sui := [suite .mirrored] }
theorem test_w_resync : takesPartner (mset { st := .activeSync, resync := [0], digestSent := [] } mirrored) = true ∧ tileSet mirrored 0 = some 0 ∧
    pilotServed mirrored 0 = true ∧ pilotServed (sub0 (fun c => { c with selfRef := true }) mirrored) 0 = false ∧
    (setAt (mset { st := .activeSync, resync := [0], digestSent := [] } mirrored) 0).copying = none ∧
    (setAt (mset { digestSent := [0] } mirrored) 0).digestSent = [0] ∧ (setAt (mset { st := .standbySync } mirrored) 0).st = .standbySync ∧
    (mset {} mirrored).plk.rev = 1 := by decide
theorem test_w_handover : (setAt (mset { st := .active, handAt := some 1000 } linked) 0).handAt = some 1000 ∧
    (setAt (mset { st := .standby } linked) 0).synced = false ∧ (setAt (mset { st := .handing, handStep3 := true } linked) 0).drill.isNone = true ∧
    homeBit (plan (fun p => { p with partner := { p.partner with home := 1 } }) standby) 0 = true ∧ standby.plan.policy.autoHome = true ∧
    (setAt standby 0).homeConflict = false ∧ replSet standby = false ∧ (setAt standby 0).handAt = none ∧
    ({ phase := 1, phaseAt := 0, dwellS := 1, stuckOk := true, abandonOk := true } : DrillRun).abandonOk = true := by decide

/-! ### The Dumbwaiter and the Attic -/

/-- A running channel 0 with a FILL of one beat at its head. -/
def dumb (c : Channel) : State :=
  { live with dmw := { live.dmw with ch := vset live.dmw.ch 0 c, ring := [(0, 2), (4, 64)] } }
def fill0 : Descriptor := readDesc (dumb {}).dmw 0
theorem test_w_channel : 255 % 256 < 2 ^ (chanAt (dumb {}) 0).size ∧ 2 ^ (chanAt (dumb { size := 4 }) 0).size ≤ 16 % 256 ∧
    (chanAt (dumb {}) 0).st = .off ∧ (0x81 : Word).toNat % 2 = 1 ∧ 4 ≤ (0x81 : Word).toNat / 16 % 16 ∧
    (0x81 : Word).toNat / 16 % 16 ≤ 8 ∧ (chanAt (dumb { st := .run }) 0).run.isNone = true ∧
    (chanAt (dumb { st := .run, run := some { d := fill0, granted := true } }) 0).run.isSome = true ∧
    (dumb { st := .fenced }).dev.state.hostMemory = true ∧ (part .saving .persistent).dev.state.hostMemory = false := by decide
theorem test_w_ring : ringOwned (dumb { st := .run, tail := 1 }) 0x3C = true ∧ ringOwned (dumb { st := .run, tail := 1 }) 0x40 = false ∧
    ringOwned live 0x3FFFC = false := by decide
theorem test_w_descriptor : mayStart (dumb { st := .run, tail := 1 }) 0 = true ∧ descBad (dumb {}).dmw (descOffset 0 0) = false ∧
    fill0.op = 2 ∧ fill0.len = 64 ∧ startStatus (dumb {}) (chanAt (dumb { st := .run, tail := 1 }) 0) fill0 = none ∧
    ({ fill0 with len := 0 }.len = 0) ∧ fill0.badReserved = false ∧ { fill0 with len := 63 }.misaligned = true ∧
    descTranslates { dumb {} with sui := [] } (chanAt (dumb {}) 0) fill0 = false := by decide
/-- A copy of one beat from the Suite's Room to itself, tile 1. -/
def copy1 : DescRun := { d := { fill0 with op := 1, dstOfs := 65536 } }
def step0 : State := dumb { st := .run, run := some copy1 }
theorem test_w_step : step0.dev.state.hostMemory = true ∧ (grantOrder step0).find? (stepGrantable step0) = some 0 ∧
    (stepRooms step0 copy1).any (roomFails step0) = false ∧ heldRooms step0 copy1 = [] ∧
    (∀ k, k < 16 → (chanAt step0 k).run.all (fun q => !q.granted) = true) := by decide
def accepts : State := { tile0 .persistent {} (dumb { st := .run, run := some { copy1 with granted := true } }) with
  stw := { live.stw with rekCeil := 1 }, sui := [{ suite .persistent with cfg := { (suite .persistent).cfg with quota := 1 } }] }
theorem test_w_step_ready : ({ copy1 with granted := true } : DescRun).claimed = false ∧
    writeReady (modChan 0 (fun c => { c with held := false }) accepts) 0 { copy1 with granted := true } = true := by decide
theorem test_w_step_write : copy1.d.usesDst = true ∧ tileClass accepts 1 = .persistent ∧
    claimVerdict accepts 1 { suite .persistent with cfg := { (suite .persistent).cfg with quota := 1 } } = .grant ∧
    (dstDpa accepts copy1.d + copy1.cursor + copy1.stepDone) / 65536 = 1 ∧
    (suiteOf accepts (tileSuite accepts 1)).isSome = true ∧ (chanAt accepts 0).stalled = false ∧ (chanAt accepts 0).held = false := by
  decide
def cycles3 (c : Nat) : List AtticCycle := [⟨0x1A38, 0x6E⟩, ⟨0x2C70, 0xD1⟩, ⟨0x10000, c⟩, ⟨0x10000, 255 - c⟩]
theorem test_w_attic : atticOpen live = true ∧ (bankAt live 1).bound = none ∧
    cyclesFit .program (cyclePairs [⟨0x1A38, 0x6E⟩, ⟨0x2C70, 0xD1⟩, ⟨0x1A38, AtticOpKind.program.cycle3⟩, ⟨0x7FFFF8, 0⟩]) = true ∧
    cyclesFit .sectorErase (cyclePairs (cycles3 AtticOpKind.sectorErase.cycle3)) = true ∧
    cyclesFit .recover (cyclePairs (cycles3 AtticOpKind.recover.cycle3)) = true ∧
    cyclesFit .rowProgram (cyclePairs ([⟨0x1A38, 0x6E⟩, ⟨0x2C70, 0xD1⟩, ⟨0x10000, AtticOpKind.rowProgram.cycle3⟩] ++
      ((List.range 32).map fun i => ⟨0x10000 + 8 * i, 0⟩) ++ [⟨0x10000, 0xAD⟩])) = true ∧
    cyclesFit .program (cyclePairs [⟨0, 0⟩]) = false := by decide
/-- An erase of sector 1 of bank 1 by a core, and banks that hold it. -/
def erase1 : AtticOp := { kind := .sectorErase, owner := 2, sector := 1, ofs := 0x10000, words := [] }
def bank1 (k : AtticBank) : State := { live with att := { live.att with bank := vset live.att.bank 1 k } }
theorem test_w_attic_ops : (bankAt (bank1 { op := some erase1 }) 1).op = some erase1 ∧ erase1.kind.erases = true ∧ erase1.susp = .no ∧
    { erase1 with pulses := 198 }.pulses + 1 < 200 ∧ erase1.owner ≠ mAttic ∧ { erase1 with susp := .byForeign }.susp ≠ .no ∧
    erase1.starved = false ∧ AtticOpKind.program.erases = false ∧ scanOf (bankAt (bank1 {}) 1) 1 ≠ some .halfErased ∧
    (bankAt (bank1 { err := some (2, 0) }) 1).err = some (2, 0) ∧ (bankAt (bank1 { bound := some (2, []) }) 1).bound = some (2, []) ∧
    (0x800008 : Nat) / bankBytes = 1 ∧ twf factorySeal (bankAt (bank1 { op := some erase1 }) 1).seals = true := by decide
theorem test_w_attic_window : live.att.scanned = true ∧ 0xFFFFF8 < 2 * bankBytes ∧ (bankAt live 1).op = none ∧ (bankAt live 1).prog = none ∧
    (bankAt live 1).err = none ∧ live.ecc.apatch = [] ∧ scanOf (bankAt live 1) 127 = none ∧ (atticWord (bankAt live 1) 0).torn = false ∧
    foreignTo (bankAt (bank1 { op := some erase1 }) 1) 3 = true ∧ (part .boot .persistent).att.closed = false ∧
    State.reset.att.scanned = false ∧ poweredState State.reset.dev.state = true := by decide
theorem test_w_attic_word : (shownWord 1 {} 0).torn = false := by decide
theorem test_w_attic_seal (k : AtticBank) : (shownWord 1 k 0xFFF8).torn = false := by
  simp only [shownWord, show 0xFFF8 % 0x10000 / 8 = 0x1FFF from rfl, if_true]
  split <;> rfl
theorem test_w_attic_ones : ∀ v ∈ [BitVec.allOnes 64], v = BitVec.allOnes 64 := by simp

/-! ### On-chip integrity -/

theorem test_w_chip : regionOf 0x2010000 = some 10 ∧ regionOf 0x1FFFC00 = some 8 ∧ regionOf 0x1FFF000 = some 7 ∧
    mHost ≠ mKeeper ∧ sramScrubs live = true ∧ nextWord 0x409FFE = some 0x409FFF ∧ nextWord 0x409FFF = none ∧
    live.ecc.errPrev.contains live.ecc.sramPos = false ∧ live.ecc.atticH ≠ 0 ∧ live.ecc.recoverWait = [] ∧ live.ecc.testBusy = false ∧
    (∀ i, i < 8 → (decodeByte (tget {} live.ecc.window (127 * 8 + i))).1 = .clean) ∧ (0 : Word).getLsbD 1 = false ∧
    twf {} live.ecc.window = true ∧ alookup { live.ecc with reload := [(mKeeper, 9)] }.reload mKeeper = some 9 ∧
    alookup live.ecc.reload mKeeper = none := by decide
theorem test_w_attic_scrub : 1048574 < 1048575 ∧ { live.ecc with atticRun := true }.atticRun = true ∧ stageNow live = 0 ∧
    scanOf (bankAt live 0) (sectorOf (1048574 * 8)) = none ∧ (atticWord (bankAt live 0) (1048574 * 8)).torn = false := by decide

/-! ### Two-wire ports, service hatch, Log, TAP -/

def wired : State := tile0 .persistent {} live
theorem test_w_sideband : sbServes wired = true ∧ wired.tws.ignoring = false ∧ wired.tws.sleeping = false ∧ justWoken wired = false ∧
    0 ≠ wired.plan.sideband.addr ∧ alertDriven (sbStart wired) = false ∧
    alertDriven (sbStart { wired with tws := { wired.tws with alert := 2 } }) = true ∧
    2 * wired.plan.sideband.addr < 2 * wired.plan.sideband.addr + 1 ∧ 0 < 2 * wired.plan.sideband.addr ∧ wired.tws.sleepMs ≠ 0 ∧ wired.plan.sideband.timeoutEn = true ∧
    wired.tws.timeoutEn = true ∧ { wired.tws with sleeping := true }.sleeping = true := by decide
def bus (p : Option PbPending) : State := { wired with twp := { wired.twp with clearOwed := false, pending := p } }
theorem test_w_pack_bus : pbStarts 0x12 (bus none) = true ∧ (bus none).twp.pending = none ∧
    pbStarts 0x12 (bus (some { cmd := 0x12, fails := 2, failedAt := 0 })) = true := by decide
theorem test_w_session : hatchServed live = true ∧ live.svc.session = .none ∧ live.svc.owed = none ∧ live.svc.phase ≠ 1 ∧
    num [0, 0, 1, 0] 2 2 = 1 ∧ num [0, 0, 2, 0] 2 2 ≠ 1 ∧ live.svc.badVersion = false ∧ notSaving live = true ∧
    live.svc.lockedUntil = none ∧ (svc (fun v => { v with pres := true, lockedUntil := some 9, session := .open_ }) live).svc.pres = true := by
  decide
theorem test_w_auth : ∃ (s : State) (i : List Byte), hatchServed s = true ∧ s.svc.session = .open_ ∧ i.length = 193 ∧
    Config.sha256 (i.take 64) = s.fuses.rootHash ∧ num i 128 1 < 16 :=
  ⟨{ svc (fun v => { v with session := .open_ }) live with
     fuses := { live.fuses with rootHash := Config.sha256 (List.replicate 64 0) } }, List.replicate 193 0, rfl, rfl, rfl, rfl, by decide⟩
def tool : State := svc (fun v => { v with pres := true, session := .authenticated, roles := 15, lastSeq := some 65535 }) live
theorem test_w_tool : hatchServed tool = true ∧ tool.svc.session = .authenticated ∧ tool.svc.owed = none ∧
    tool.svc.lastSeq = some ((0 + 65535) % 65536) ∧ tool.svc.roles.getLsbD 0 = true ∧ tool.svc.roles.getLsbD 3 = true ∧
    1 ≤ num [0, 0, 0, 0, 67, 0] 4 2 ∧ num [0, 0, 0, 0, 67, 0] 4 2 ≤ 67 ∧ num [0, 0, 0, 0, 0, 4] 4 2 ≤ 1024 ∧
    nandPlace tool 0 0 0 0 3 3 = true ∧ protectedRange (num [0, 0, 0x65, 0, 8, 0] 0 4) 8 = true ∧
    protectedRange (num [0, 0, 0x64, 0, 8, 0] 0 4) 8 = false ∧ num [0, 0, 0x64, 0, 8, 0] 0 4 % 8 = 0 ∧
    (svc (fun v => { v with roles := 0 }) tool).svc.roles.getLsbD 0 = false := by decide
theorem test_w_read_attic : ∃ l t, readWords (8 / 8) 0 0x640000 none tool = (some l, t) := ⟨_, _, rfl⟩
/-- A header of KIND 4, and packages that have it. -/
def input4 : List Byte := [0x48, 0x50, 0x4B, 0x47, 1, 0, 4] ++ List.replicate 393 0
def pkg4 : PkgRun := { hdr := { pkgHeader input4 with entries := 2 } }
theorem test_w_package : input4.length = 400 ∧ (pkgHeader input4).magic = 0x474B5048 ∧ (pkgHeader input4).format = 1 ∧
    (pkgHeader input4).kind = 4 ∧ (pkgHeader input4).reservedSet = false ∧ tool.svc.pkg.isNone = true ∧ tool.svc.phase = 0 ∧
    tool.fpl.liveHeld = none ∧ tool.svc.denyUpdate = false ∧ logHolds tool = false ∧ pkg4.table.isNone = true ∧
    pkg4.hdr.encrypted = false ∧ num (List.replicate 40 0) 0 1 = 0 ∧ num (List.replicate 40 0) 4 4 = pkg4.tableNext ∧
    num [0, 0, 0, 0, 1, 0, 0, 0] 4 4 ≠ pkg4.tableNext ∧ ((List.replicate 40 (0 : Byte)).drop 8).length % 32 = 0 ∧
    pkg4.tableBytes.length + ((List.replicate 40 (0 : Byte)).drop 8).length < pkg4.hdr.entries * 32 ∧
    { pkg4 with table := some [] }.dataNext = (([] : List ChunkEntry).filter fun e => e.op = 0).length ∧
    tool.svc.roles.getLsbD (kindRole 4) = true := by decide +kernel
/-- A bank that has been activated and is not confirmed, as the spare one and as the one in force. -/
def activated : AtticBank := { factoryBank with words := factoryBank.words.filter fun w => w.1 ≠ 258 }
def updating (p inForce : Nat) : State :=
  svc (fun v => { v with phase := p, inForce := inForce, auto := true })
    { tool with att := { live.att with bank := #v[factoryBank, activated] } }
theorem test_w_update : bankState (svcBank (updating 0 0) (spareBank (updating 0 0))) = 3 ∧ probeAccepts (updating 0 0) 1 = true ∧
    (updating 0 0).svc.inForce < 2 ∧ autoPending (updating 4 1) = true ∧ logHolds (updating 4 1) = false ∧
    programCode (markerValue (bankGen (svcBank (updating 4 1) 1)) .confirmed) (atticWord (svcBank (updating 4 1) 1) Marker.confirmed.ofs) = .none ∧
    (updating 3 0).svc.phase = 3 := by decide
theorem test_w_boot_bank : selectBank State.reset = some 0 ∧ State.reset.fuses.epoch ≤ hdrField State.reset 0 9 1 ∧
    markerCounts (svcBank State.reset 0) .migrated = true ∧ bankState (svcBank State.reset 1) = 0 ∧
    selectBank { State.reset with att := { State.reset.att with bank := #v[{}, {}] } } = none := by decide
theorem test_w_log : logHolds live = false ∧ live.log.holding = [] ∧ { live.log with written := 1 }.written % ringSize % sectorRecords ≠ 0 ∧
    (part .saved .persistent).dev.state = .saved ∧ { live.log with aonPowered := false }.aonPowered = false := by decide
theorem test_w_tap : tapPowered live = true ∧ scanAllowed { live with fpl := { live.fpl with isDefault := true } } = true ∧
    scanAllowed live = false := by decide

/-! ### The whole machine -/

theorem test_w_beat_write : Memory.wf State.reset.dram = true ∧ allEnables ≠ 1 := by decide
theorem test_w_tile_port : twf {} wired.cht.tiles = true ∧ twf {} wired.cht.entries = true ∧ (tileClass wired 0).saved = true := by decide
theorem test_w_muster : (part .restore .persistent).plan.pins.musterInEn = true ∧
    (plan (fun p => { p with pins := { p.pins with musterInEn := false } }) live).plan.pins.musterInEn = false := by decide
theorem test_reset_canonical : State.reset.memoryWf = true := by decide
theorem test_idle_step : ∃ t, step State.reset = .next t ∧ t.almanac = 1 := ⟨_, rfl, rfl⟩
theorem test_front_command : ∃ t, step { live with pending := [.jtagIdcode, .jtagBypass] } = .next t ∧
    t.pending = [.jtagBypass] ∧ t.out = [.tap 0xB782456B] := ⟨_, rfl, rfl, rfl⟩

/-! ### The spec's worked examples -/

/-- 15_onchip_integrity, the example below Table 15-1: the check bits of 0xA7. -/
theorem test_example_byte_code : (encodeByte 0xA7).chk = 0b10110 := by decide
/-- 02_floor_plan, 03_host_link and 05_rooms_suites_chart: the module of the Floor Plan example and its write at HPA 0xCC_0012_3440. -/
def example2T : State :=
  let p : Plan := { factoryPlan with
    topo := { subchMask := 0xFFFF, physRanks := 1, stack := 2, devWidth := 4, dieGbit := 32 },
    layout := { ilWays := 8, ilGran := 0, persRooms := 229376, volRooms := 32768 } }
  { live with
    fpl := { live.fpl with plan := p },
    hst := { live.hst with hdm := vset live.hst.hdm 0 { base := 0x4000000000, size := 2 ^ 40, committed := true } } }
theorem test_example_hpa : hpaToDpa example2T 0xCC00123440 = some (432 * 2 ^ 30 + 1193024) := by decide
theorem test_example_subchannel : dpaToSubch example2T (432 * 2 ^ 30 + 1193024) = some (8, 452985997) := by decide
theorem test_example_capacity : capacity example2T.plan.topo = 2 ^ 40 := by decide
/-- 17_two_wire_ports, the example of the alert response address: the part's 0xB4 loses against 0x58, then wins alone. -/
theorem test_example_alert_lost : ∃ t, exec (.sbAlertResponse (some 0x58) false) { wired with tws := { wired.tws with alert := 2 } } = .next t ∧
    t.out = [.sb true [0x58]] ∧ t.tws.araHeld = false := ⟨_, rfl, rfl, rfl⟩
theorem test_example_alert_won : ∃ t, exec (.sbAlertResponse none false) { wired with tws := { wired.tws with alert := 2 } } = .next t ∧
    t.out = [.sb true [0xB4]] ∧ t.tws.araHeld = true := ⟨_, rfl, rfl, rfl⟩
/-- 15_onchip_integrity Table 15-1 and R532: one inverted bit is corrected, two are not. -/
theorem test_byte_code_single : (decodeByte { encodeByte 0xA7 with chk := 0b10110 ^^^ 0b01000 }) = (.corrected, 0xA7) := by decide
theorem test_byte_code_double : (decodeByte { encodeByte 0xA7 with chk := 0b10110 ^^^ 0b01001 }).1 = .uncorrectable := by decide

/-! ### Single steps -/

/-- 01_architecture Table 01-7: P12V falls in SERVICE. -/
theorem test_fence_closes : ∃ t, exec .p12vBelowThreshold live = .next t ∧ t.dev.state = .fenced ∧ t.dev.entryCause = 7 ∧
    t.hst.gateClosed = true := ⟨_, rfl, rfl, rfl, rfl⟩
/-- 01_architecture R39: DRYDOCK ends only with power. -/
theorem test_drydock : ∃ t, exec .p12vBelowThreshold (part .drydock .persistent) = .next t ∧ t.dev.state = .drydock := ⟨_, rfl, rfl⟩
/-- 10_energy_pack R372, R375 (Table 10-4): the resistance at PACK_ID, within 6 % of a code's resistor. -/
theorem test_pack_reading : packReading 500000 = .open_ ∧ packReading 2200 = .code 3 ∧ packReading 2332 = .code 3 ∧
    packReading 100 = .short := by decide
/-- 12_partner_mirroring Table 12-2: beat 1 of set 1, WSEQ 5, whole, carried by resynchronisation; a partial, poisoned one. -/
theorem test_write_header :
    writeHeader { set := 1, wseq := 5, w := ⟨1, [], allEnables, false⟩, resync := true, hostTag := none, at_ := 0 } =
      [1, 0, 0, 0, 0x88, 5, 0, 0, 0, 0, 0, 0] ∧
    writeHeader { set := 0, wseq := 0x01020304, w := ⟨2, [], 1, true⟩, resync := false, hostTag := none, at_ := 0 } =
      [2, 0, 0, 0, 0x60, 4, 3, 2, 1, 0, 0, 0] := by decide
/-- 14_attic R508, R527: a word reads clean, with one cell inverted, with two in one byte at the nominal threshold, with two at all four;
with two marker cells inverted the other slot decodes. -/
theorem test_attic_word :
    readWord { value := 0x0123456789ABCDEF } [] = some (.clean, 0x0123456789ABCDEF) ∧
    readWord { value := 0x0123456789ABCDEF } [[9]] = some (.corrected, 0x0123456789ABCDEF) ∧
    readWord { value := 0x0123456789ABCDEF } [[0, 1]] = some (.shifted, 0x0123456789ABCDEF) ∧
    readWord { value := 0x0123456789ABCDEF } [[0, 1], [0, 1], [0, 1], [0, 1]] = none ∧
    readWord { value := 0x05, twice := true, first := 0x3F } [[144, 145]] = some (.clean, 0x05) ∧
    readWord {} [] = some (.clean, 0xFFFFFFFFFFFFFFFF) := by decide +kernel
/-- 21_package_pins_electrical R696: the IDCODE. -/
theorem test_idcode : ∃ t, exec .jtagIdcode State.reset = .next t ∧ t.out = [.tap 0xB782456B] := ⟨_, rfl, rfl⟩
/-- 18_service_update R634: the factory's bank passes at the first boot. -/
theorem test_boot_bank : ∃ t, exec (.bootImageCheck true) State.reset = .next t ∧ t.svc.selected = true ∧ t.dev.state = .boot :=
  ⟨_, rfl, rfl, rfl⟩
/-- 18_service_update R291: a set that fails its check. -/
theorem test_boot_bank_fails : ∃ t, exec (.bootImageCheck false) State.reset = .next t ∧ t.dev.state = .drydock ∧ t.dev.entryCause = 4 :=
  ⟨_, rfl, rfl, rfl⟩

/-! ### Ill-formed commands: one for each check, the other operands as they should be -/

theorem test_refused_1 : ([
   .hostLinkTrained (2 ^ 4) 0 0 false false 0, .hostLinkTrained 0 (2 ^ 5) 0 false false 0,
   .hostLinkTrained 0 0 (2 ^ 4) false false 0, .badAccess false (2 ^ 24) 0 false, .badAccess false 0 (2 ^ 64) false,
   .registerWrite false (2 ^ 24) 0, .regPairLoRead false (2 ^ 24), .regPairHiWrite (2 ^ 24) 0 0,
   .hostWriteRequest (2 ^ 64) 0 (List.replicate 64 0) 0 false false,
   .hostWriteRequest 0 (2 ^ 52) (List.replicate 64 0) 0 false false, .hostWriteRequest 0 0 [] 0 false false,
   .claimPresent (2 ^ 64), .hostWriteAccept (2 ^ 64), .hostRead (2 ^ 64) 0, .hostRead 0 (2 ^ 52), .volatileFillDone (2 ^ 25),
   .ideIntegrityFailure (2 ^ 8), .getEventRecords (2 ^ 8), .clearEventRecords (2 ^ 8) false [],
   .clearEventRecords 0 false [2 ^ 16], .setEventInterruptPolicy [2 ^ 8], .setTimestamp (2 ^ 64)] : List Instr).all (fun i => !WellFormed i) = true := by
  decide +kernel

theorem test_refused_2 : ([
   .getLog (2 ^ 32) 0, .getLog 0 (2 ^ 64), .getLsa (2 ^ 32) 0 false, .getLsa 0 (2 ^ 64) false, .setLsa (2 ^ 32) [],
   .setLsa 0 (List.replicate 16385 0), .setAlertConfiguration [2 ^ 16], .getPoisonList (2 ^ 64) 0, .getPoisonList 0 (2 ^ 64),
   .injectPoison (2 ^ 64), .clearPoison (2 ^ 64) (List.replicate 64 0), .clearPoison 0 [], .mailboxUnsupported (2 ^ 16),
   .getSuiteStatus (2 ^ 16) 0, .getSuiteStatus 0 (2 ^ 16), .setEnergyGrant (2 ^ 32) 0 0, .setEnergyGrant 0 (2 ^ 32) 0,
   .setEnergyGrant 0 0 (2 ^ 32), .getRestoredPoisonTiles (2 ^ 32), .promote (2 ^ 8) false, .handover (2 ^ 8) 0,
   .handover 0 (2 ^ 16)] : List Instr).all (fun i => !WellFormed i) = true := by
  decide +kernel

theorem test_refused_3 : ([
   .drill (2 ^ 8) 0, .drill 0 (2 ^ 16), .getDrillResult (2 ^ 8), .trainingAttemptEnd (2 ^ 4) false (List.replicate 16 0),
   .trainingAttemptEnd 0 false [], .zqCalDue (2 ^ 4) false, .dqsOscDue (2 ^ 4) 0 false, .calDeferExpire (2 ^ 4) 0,
   .calDeferExpire 0 3, .drcPick (2 ^ 4) ⟨false, 0⟩, .refreshTick (2 ^ 4) 0, .refreshTick 0 (2 ^ 64),
   .mr4Read (2 ^ 4) 0 0 false false false, .mr4Read 0 (2 ^ 3) 0 false false false, .mr4Read 0 0 (2 ^ 3) false false false,
   .selfRefreshIdle (2 ^ 4), .selfRefreshExit (2 ^ 4) false, .dramReadReturn (2 ^ 35) 0 [], .dramReadReturn 0 (2 ^ 8) [],
   .dramReadReturn 0 0 [(80, 1)], .patrolRead [(80, 1)], .chartEntryUe (2 ^ 19)] : List Instr).all (fun i => !WellFormed i) = true := by
  decide +kernel

theorem test_refused_4 : ([
   .mapRereadDone (2 ^ 19) false, .tileStateUe (2 ^ 24), .suiteContextUe (2 ^ 10), .padTimeout (2 ^ 5),
   .nandProgramDone (2 ^ 5) 0 false, .nandProgramDone 0 (2 ^ 32) false, .roomMapBuild (2 ^ 19),
   .metaProgramDone (2 ^ 32) 0 false false, .metaProgramDone 0 (2 ^ 32) false false, .stowCompletion (2 ^ 19),
   .stallBound (2 ^ 32), .saveTileDone (2 ^ 26) 0 false, .saveTileDone 0 (2 ^ 32) false, .saveRateTick 0 (2 ^ 32),
   .railUv (2 ^ 2) false, .railLost (2 ^ 2), .metaReadDone [] [2 ^ 6] {}, .metaReadDone [] [] { dies := [2 ^ 5] },
   .restoreTileWritten (2 ^ 25) false false, .nandReadDone (2 ^ 2) 0 0 [] [] false none,
   .nandReadDone 0 (2 ^ 5) 0 [] [] false none, .nandReadDone 0 0 (2 ^ 12) [] [] false none, .nandReadDone 0 0 0 [17] [] false none] : List Instr).all (fun i => !WellFormed i) = true := by
  decide +kernel

theorem test_refused_5 : ([
   .nandReadDone 0 0 0 [] [17] false none, .nandEraseDone (2 ^ 2) 0 0 false, .nandEraseDone 0 (2 ^ 5) 0 false,
   .nandEraseDone 0 0 (2 ^ 12) false, .journalBlockReclaim (2 ^ 5) 0, .journalBlockReclaim 0 (2 ^ 12), .gcReclaim (2 ^ 5),
   .wearLevelMove (2 ^ 2) 0, .wearLevelMove 0 (2 ^ 5), .nandPatrolRead (2 ^ 2) 0 0 0 false [] false,
   .nandPatrolRead 0 (2 ^ 5) 0 0 false [] false, .nandPatrolRead 0 0 (2 ^ 12) 0 false [] false,
   .nandPatrolRead 0 0 0 17 false [] false, .packRemoved 0 (2 ^ 32) (.ok 0) (.ok 0), .packRemoved (2 ^ 32) 0 (.ok 0) (.ok 0),
   .packInserted (2 ^ 32) 0 (.ok 0) (.ok 0) false ⟨none, none, none, none⟩, .packInserted 0 (2 ^ 32) (.ok 0) (.ok 0) false ⟨none, none, none, none⟩, .packAuthPoll none (List.replicate 65 0) [],
   .packAuthPoll none [] (List.replicate 65 0), .packThermSample (.ok 0) (.ok 0) (2 ^ 32), .packMeasure (2 ^ 32) 0 0 false,
   .packMeasure 0 0 (2 ^ 32) false, .klTrained (2 ^ 8) 0, .klTrained 0 (2 ^ 8)] : List Instr).all (fun i => !WellFormed i) = true := by
  decide +kernel

theorem test_refused_6 : ([
   .helloMessage (2 ^ 8) (List.replicate 16 0) [], .helloMessage 0 [] [],
   .helloMessage 0 (List.replicate 16 0) (List.replicate 5 ⟨[], false, 0, 0, false⟩), .flitReceive false (2 ^ 32) 0 none,
   .flitReceive false 0 (2 ^ 8) none, .creditMessage (2 ^ 32) 0, .creditMessage 0 (2 ^ 32),
   .partnerWriteEntry (2 ^ 8) 0 0 (List.replicate 64 0) 0 false false,
   .partnerWriteEntry 0 (2 ^ 64) 0 (List.replicate 64 0) 0 false false,
   .partnerWriteEntry 0 0 (2 ^ 35) (List.replicate 64 0) 0 false false, .partnerWriteEntry 0 0 0 [] 0 false false,
   .ackMessage (2 ^ 8) 0, .ackMessage 0 (2 ^ 64), .watchAckMessage (2 ^ 64), .partingMessage (2 ^ 8),
   .roleRecordProgrammed (2 ^ 8) false, .resyncTileCopy (2 ^ 8) [], .digestMessage (2 ^ 25) (List.replicate 32 0),
   .digestMessage 0 [], .diffMessage (2 ^ 25), .handoverBoundary (2 ^ 8), .handoverMessage (2 ^ 8) 0 0] : List Instr).all (fun i => !WellFormed i) = true := by
  decide +kernel

theorem test_refused_7 : ([
   .handoverMessage 0 (2 ^ 64) 0, .handoverMessage 0 0 (2 ^ 64), .takenMessage (2 ^ 8) 0, .takenMessage 0 (2 ^ 64),
   .homeReqSend (2 ^ 8), .homeReqMessage (2 ^ 8), .drillMessage (2 ^ 8) 0 0, .drillMessage 0 (2 ^ 8) 0,
   .drillMessage 0 0 (2 ^ 8), .drillPhaseEnd (2 ^ 8), .dmwChTailWrite (2 ^ 4) 0, .dmwEnable (2 ^ 4) 0, .dmwPause (2 ^ 4),
   .dmwResume (2 ^ 4), .dmwReset (2 ^ 4), .dmwCopy (2 ^ 4), .dmwFill (2 ^ 4), .dmwStow (2 ^ 4), .dmwFetch (2 ^ 4),
   .dmwCheck (2 ^ 4), .dmwWriteAccept (2 ^ 4), .dmwDescriptorComplete (2 ^ 4)] : List Instr).all (fun i => !WellFormed i) = true := by
  decide +kernel

theorem test_refused_8 : ([
   .atticProgram (2 ^ 8) 0 [], .atticProgram 0 (2 ^ 1) [], .atticProgram 0 0 (List.replicate 37 ⟨0, 0⟩),
   .atticRowProgram (2 ^ 8) 0 [], .atticRowProgram 0 (2 ^ 1) [], .atticRowProgram 0 0 (List.replicate 37 ⟨0, 0⟩),
   .atticSectorErase (2 ^ 8) 0 [], .atticSectorErase 0 (2 ^ 1) [], .atticSectorErase 0 0 (List.replicate 37 ⟨0, 0⟩),
   .atticRecover (2 ^ 8) 0 [], .atticRecover 0 (2 ^ 1) [], .atticRecover 0 0 (List.replicate 37 ⟨0, 0⟩),
   .atticSuspend (2 ^ 8) 0, .atticSuspend 0 (2 ^ 1), .atticResume (2 ^ 8) 0, .atticResume 0 (2 ^ 1), .atticReadReset (2 ^ 8) 0,
   .atticReadReset 0 (2 ^ 1), .atticSeqTimeout (2 ^ 1), .atticBadAccess (2 ^ 8) 0, .atticBadAccess 0 (2 ^ 24),
   .atticProgramDone (2 ^ 1) false] : List Instr).all (fun i => !WellFormed i) = true := by
  decide +kernel

theorem test_refused_9 : ([
   .atticErasePulseDone (2 ^ 1) false false, .atticForeignAccess (2 ^ 8) 0 [], .atticForeignAccess 0 (2 ^ 24) [],
   .atticScrubRead [[147]], .atticRead 0 0 [[], [], [], [], []],
   .atticAutoResume (2 ^ 1), .fetchFault (2 ^ 8) 0, .fetchFault 0 (2 ^ 24), .eraseStarve (2 ^ 1), .atticBootScan [2 ^ 8],
   .atticRead (2 ^ 8) 0 [], .atticRead 0 (2 ^ 24) [], .sramUe (2 ^ 32) 0 none, .sramUe 0 (2 ^ 8) none,
   .fabricParityError (2 ^ 8) 0 .register, .fabricParityError 0 (2 ^ 32) .register, .coreReload (2 ^ 8),
   .graceExpire .hst (2 ^ 5), .quietExpire .hst (2 ^ 5), .sbRead (2 ^ 8) 0, .sbRead 0 (2 ^ 8), .sbWrite (2 ^ 8) [] none,
   .sbWrite 0 (List.replicate 256 0) none, .pbTransaction (2 ^ 8) false] : List Instr).all (fun i => !WellFormed i) = true := by
  decide +kernel

theorem test_refused_10 : ([
   .pbClkLowTimeout (2 ^ 8) false, .pbArbitrationLoss (2 ^ 8) false, .pbProtocolError (2 ^ 8), .svcHello (2 ^ 32) [],
   .svcHello 0 (List.replicate 4097 0), .svcAuth (2 ^ 32) [], .svcAuth 0 (List.replicate 4097 0), .svcClose (2 ^ 32),
   .svcStatus (2 ^ 32), .readLog (2 ^ 32) [], .readLog 0 (List.replicate 4097 0), .readReg (2 ^ 32) [],
   .readReg 0 (List.replicate 4097 0), .readAttic (2 ^ 32) [] none, .readAttic 0 (List.replicate 4097 0) none,
   .readNand (2 ^ 32) [] false, .readNand 0 (List.replicate 4097 0) false, .pkgBegin (2 ^ 32) [] none,
   .pkgBegin 0 (List.replicate 4097 0) none, .pkgChunk (2 ^ 32) [] none false, .pkgChunk 0 (List.replicate 4097 0) none false,
   .pkgEnd (2 ^ 32) none] : List Instr).all (fun i => !WellFormed i) = true := by
  decide +kernel

theorem test_refused_11 : ([
   .activate (2 ^ 32) 0 none, .activate 0 5 none, .confirm (2 ^ 32) false false, .svcAbort (2 ^ 32), .svcProgress (2 ^ 32) 0,
   .svcProgress 0 1001, .dieTempSample [] 0 (List.replicate 6 0) 0 false, .dieTempSample (List.replicate 16 0) 0 [] 0 false,
   .dieTempSample (List.replicate 16 0) 0 (List.replicate 6 0) (2 ^ 16) false, .peakClear (2 ^ 24),
   .hdmDecoderCommit (2 ^ 2) 0 0 0 0 0, .hdmDecoderCommit 0 (2 ^ 64) 0 0 0 0, .hdmDecoderCommit 0 0 (2 ^ 64) 0 0 0,
   .hdmDecoderCommit 0 0 0 (2 ^ 8) 0 0, .hdmDecoderCommit 0 0 0 0 (2 ^ 16) 0, .hdmDecoderCommit 0 0 0 0 0 (2 ^ 8),
   .backgroundEraseResume (2 ^ 5)] : List Instr).all (fun i => !WellFormed i) = true := by
  decide +kernel

theorem test_accepted : ([
   .hostLinkTrained 0 0 0 false false 0, .volatileFillDone 0, .setAlertConfiguration [], .handover 0 0,
   .mr4Read 0 0 0 false false false, .padTimeout 0, .railLost 0, .packRemoved 0 0 (.ok 0) (.ok 0),
   .partnerWriteEntry 0 0 0 (List.replicate 64 0) 0 false false, .handoverMessage 0 0 0, .dmwResume 0, .atticProgram 0 0 [],
   .atticProgramDone 0 false, .fabricParityError 0 0 .register, .pbProtocolError 0, .pkgBegin 0 [] none,
   .hdmDecoderCommit 0 0 0 0 0 0] : List Instr).all WellFormed = true := by
  decide +kernel
end Sys2Proof.Tests
end

section

/-! DRYDOCK and the image checks (R39, O59). The two sentences of R39 are one monotone quantity, the image rank
(`imageRank`). An operation that enters BOOT clears the selection of a bank, and one that leaves its state for another
excludes DRYDOCK; so each operation keeps the rank under any bound `N` that held before it (`…_rank_le`), one lemma per
operation in the order of the model. `exec_rank_le` collects the commands; the image check and the removal of power are
read off their definitions. -/

namespace Sys2Proof.Machine

/-- How far past DRYDOCK's image checks a part counts: 0 in DRYDOCK, 2 in BOOT with a selected bank, 1 in every other
state. R39 says that nothing but an image check or the removal of power raises it. -/
def imageRank : OpState → Bool → Nat
  | .drydock, _ => 0
  | .boot, true => 2
  | _, _ => 1

/-- The image rank of the operating state and of the bank's selection. -/
abbrev State.rank (s : State) : Nat := imageRank s.dev.state s.svc.selected

theorem imageRank_eq_one {o : OpState} {b : Bool} (hd : o ≠ .drydock) (hb : o = .boot → b = false) :
    imageRank o b = 1 := by
  cases o <;> cases b <;> simp_all [imageRank]

theorem one_le_imageRank {o : OpState} (b : Bool) (hd : o ≠ .drydock) : 1 ≤ imageRank o b := by
  cases o <;> cases b <;> simp_all [imageRank]

@[simp] theorem Svc.ite_selected (c : Prop) [Decidable c] (a b : Svc) :
    (if c then a else b).selected = if c then a.selected else b.selected := by split <;> rfl

@[simp] theorem Dev.ite_state (c : Prop) [Decidable c] (a b : Dev) :
    (if c then a else b).state = if c then a.state else b.state := by split <;> rfl

variable {s : State} {N : Nat}

/-! ### Entering a state -/

theorem State.one_le_of_rank_le (hs : s.dev.state ≠ .drydock) (h : s.rank ≤ N) : 1 ≤ N :=
  Nat.le_trans (one_le_imageRank _ hs) h

@[simp] theorem transition_dev_state (new : OpState) (cause : Nat) (s : State) :
    (transition new cause s).dev.state = new := by
  simp [transition, event_frame, alertBit_frame, logCore_frame]

@[simp] theorem powerCycle_selected (s : State) : (powerCycle s).svc.selected = false := rfl
@[simp] theorem cutStaging_selected (s : State) : (cutStaging s).svc.selected = s.svc.selected := by
  simp [cutStaging, logCore_frame]
@[simp] theorem advanceTo_selected (t : Nat) (s : State) : (advanceTo t s).svc.selected = s.svc.selected := by
  simp [advanceTo]

@[simp] theorem enterBoot_rank (s : State) : (enterBoot s).rank = 1 := by
  simp [enterBoot, logCore_frame, transition_frame, imageRank_eq_one]

theorem enterSaved_rank (cause : Nat) (s : State) : (enterSaved cause s).rank = 1 := by
  simp only [enterSaved]
  split
  · exact enterBoot_rank _
  · simp [imageRank_eq_one]

theorem enterOff_rank (cause : Nat) (s : State) : (enterOff cause s).rank = 1 := by
  simp [enterOff, imageRank_eq_one]

theorem closeFence_rank (cause : Nat) (s : State) : (closeFence cause s).rank = 1 := by
  refine imageRank_eq_one ?_ ?_ <;>
    simp [closeFence, gauFence_frame, plkFence_frame, fenceDirty_frame, cutStaging_frame]

theorem enterHarbour_rank (cause : Nat) (s : State) : (enterHarbour cause s).rank = 1 := by
  refine imageRank_eq_one ?_ ?_ <;>
    simp [enterHarbour, startErase_frame, notify_frame, event_frame]

theorem takeHeld_rank_le (h : s.rank ≤ N) (h1 : 1 ≤ N) : (takeHeld s).rank ≤ N := by
  simp only [takeHeld]
  repeat' split
  · rwa [closeFence_rank]
  · rwa [enterHarbour_rank]
  · rwa [enterHarbour_rank]
  · exact h

theorem enterService_rank_le (cause : Nat) (s : State) (h1 : 1 ≤ N) : (enterService cause s).rank ≤ N := by
  refine takeHeld_rank_le ?_ h1
  simpa [reeval_frame, reeval_frame3, imageRank_eq_one] using h1

theorem fenceTrigger_rank_le (cause : Nat) (h : s.rank ≤ N) : (fenceTrigger cause s).rank ≤ N := by
  have h1 : s.dev.state ≠ .drydock → 1 ≤ N := fun hs => State.one_le_of_rank_le hs h
  unfold fenceTrigger
  (repeat' split) <;> simp_all [State.rank, closeFence_rank, enterSaved_rank, enterOff_rank]

theorem levelMuster_rank_le (h : s.rank ≤ N) : (levelMuster s).rank ≤ N := by
  have h1 : s.dev.state ≠ .drydock → 1 ≤ N := fun hs => State.one_le_of_rank_le hs h
  unfold levelMuster
  (repeat' split) <;> simp_all [closeFence_rank]

@[simp] theorem blockEffect_selected (b : Block) (s : State) : (blockEffect b s).svc.selected = s.svc.selected := by
  unfold blockEffect
  (repeat' split) <;>
    simp_all [reeval_frame, linkReset_frame, drainAll_frame, celResetCopies_frame, dmwResetChan_frame, holdCore_frame,
      modStation_frame, cutOp_frame, cutProg_frame]

@[simp] theorem blockReset_selected (b : Block) (s : State) : (blockReset b s).svc.selected = s.svc.selected := by
  unfold blockReset
  split <;> simp [quarantine_frame]

theorem abandon_rank_le (h : s.rank ≤ N) : (abandon s).rank ≤ N := by
  unfold abandon
  split
  case h_7 => exact fenceTrigger_rank_le _ h
  all_goals exact h

theorem harbourAction_rank_le (h : s.rank ≤ N) : (harbourAction s).rank ≤ N := by
  have h1 : s.dev.state ≠ .drydock → 1 ≤ N := fun hs => State.one_le_of_rank_le hs h
  unfold harbourAction
  split <;> simp_all [State.rank, enterHarbour_rank]

theorem levelAction_rank_le (b : Block) (level : Nat) (h : s.rank ≤ N) : (levelAction b level s).rank ≤ N := by
  simp only [levelAction]
  (repeat' split) <;>
  simp [State.rank, *, fenceTrigger_rank_le, harbourAction_rank_le, abandon_rank_le, blockReset_frame, notify_frame]

theorem State.rank_ite_le (c : Prop) [Decidable c] (a b : State) :
    (if c then a else b).rank ≤ N ↔ if c then a.rank ≤ N else b.rank ≤ N := by split <;> rfl

theorem foldl_rank_le {α : Type} (f : State → α → State) (l : List α) (hf : ∀ s a, s.rank ≤ N → (f s a).rank ≤ N)
    (h : s.rank ≤ N) : (l.foldl f s).rank ≤ N := by
  induction l generalizing s with
  | nil => exact h
  | cons a l ih => exact ih (hf _ _ h)

@[simp] theorem stopAuto_selected (level : Nat) (s : State) : (stopAuto level s).svc.selected = s.svc.selected := by
  simp [stopAuto]

@[simp] theorem setResult_selected (r : Nat) (s : State) : (setResult r s).svc.selected = s.svc.selected := rfl
@[simp] theorem countChunk_selected (s : State) : (countChunk s).svc.selected = s.svc.selected := rfl

@[simp] theorem discardFrame_selected (s : State) : (discardFrame s).svc.selected = s.svc.selected := by
  simp [discardFrame]

@[simp] theorem loadStore_selected (kind : Nat) (l : List Byte) (s : State) :
    (loadStore kind l s).svc.selected = s.svc.selected := by
  simp only [loadStore]; (repeat' split) <;> rfl

@[simp] theorem writeTarget_selected (p : PkgRun) (e : ChunkEntry) (l : List Byte) (s : State) :
    (writeTarget p e l s).svc.selected = s.svc.selected := by
  unfold writeTarget; (repeat' split) <;> simp [programBytes_frame]

@[simp] theorem performEntry_selected (p : PkgRun) (s : State) (e : ChunkEntry) :
    (performEntry p s e).svc.selected = s.svc.selected := by
  unfold performEntry; (repeat' split) <;> simp

theorem sendResponse_rank (before : Svc) (type seq : Nat) (payload : List Byte) (s : State) :
    (sendResponse before type seq payload s).rank = s.rank := by simp [State.rank, sendResponse]

theorem answer_rank_le (before : Svc) (type seq : Nat) (a : SvcAns) (h : a.2.2.2.rank ≤ N) :
    (answer before type seq a).rank ≤ N := by
  simp only [answer, sendResponse_rank]; exact h

theorem svcFrameOpt_rank_le (type seq : Nat) (f : State → Option SvcAns × State) (h : s.rank ≤ N)
    (hf : ∀ s, s.rank ≤ N → (∀ a ∈ (f s).1, a.2.2.2.rank ≤ N) ∧ (f s).2.rank ≤ N) :
    (svcFrameOpt type seq f s).rank ≤ N := by
  unfold svcFrameOpt
  split
  · exact h
  · have hk := hf { s with svc := { s.svc with pres := true } } h
    simp only
    repeat' split
    · rwa [sendResponse_rank]
    · rwa [sendResponse_rank]
    · exact answer_rank_le _ _ _ _ h
    · exact h
    · exact answer_rank_le _ _ _ _ h
    · rename_i e
      exact answer_rank_le _ _ _ _ (hk.1 _ (by rw [e]; rfl))
    · rename_i e
      rw [e] at hk
      exact hk.2

theorem svcFrame_rank_le (type seq : Nat) (f : State → SvcAns) (h : s.rank ≤ N)
    (hf : ∀ s, s.rank ≤ N → (f s).2.2.2.rank ≤ N) : (svcFrame type seq f s).rank ≤ N := by
  refine svcFrameOpt_rank_le _ _ _ h fun s hs => ⟨?_, hs⟩
  simpa using hf s hs

@[simp] theorem payOwed_selected (type status : Nat) (s : State) :
    (payOwed type status s).svc.selected = s.svc.selected := by
  unfold payOwed
  simp only
  (repeat' split) <;> simp [answer, sendResponse, svcStat]

theorem mailbox_rank_le (op : Nat) (f : State →
  MbxAns) (h : s.rank ≤ N) (hf : (f s).2.rank ≤ N) : (mailbox op f s).rank ≤ N := by
  unfold mailbox mbxAnswer
  repeat' split
  all_goals simpa [State.rank]

theorem onStart_rank_le (f : State → State) (h : s.rank ≤ N) (hf : ∀ s, s.rank ≤ N → (f s).rank ≤ N) :
    (onStart f s).rank ≤ N := by
  have hs : (sbStart s).rank ≤ N := by simpa [State.rank, sbStart_frame] using h
  unfold onStart
  repeat' split
  all_goals simp [State.rank, sbWake_frame, wakeNak_frame, hf _ hs, *]

section

variable {f : State → SvcAns} (h : s.rank ≤ N) (hf : (f s).2.2.2.rank ≤ N)
include h hf

theorem withRole_rank_le (k : Nat) : (withRole k s f).2.2.2.rank ≤ N := by
  unfold withRole; split <;> assumption

theorem inStates_rank_le (ok : Bool) : (inStates ok s f).2.2.2.rank ≤ N := by
  unfold inStates; split <;> assumption

theorem wellInput_rank_le (ok : Bool) : (wellInput ok s f).2.2.2.rank ≤ N := by
  unfold wellInput; split <;> assumption

end

theorem giveWord_rank_le (x : Option (Option Dword) × State) (h : x.2.rank ≤ N) : (giveWord x).rank ≤ N := by
  unfold giveWord
  split <;> simpa [State.rank]

@[simp] theorem clearReason_dev_state (k : Nat) (s : State) : (clearReason k s).dev.state = s.dev.state := rfl

@[simp] theorem takeProfile_dev_state (serial : Option (List Byte)) (cls : Nat) (rested boot : Bool) (s : State) :
    (takeProfile serial cls rested boot s).dev.state = s.dev.state := by
  simp only [takeProfile]; (repeat' split) <;> simp [wantRek_frame, disqualify_frame]

@[simp] theorem beginBank_dev_state (l : List Byte) (s : State) : (beginBank l s).dev.state = s.dev.state := by
  simp only [beginBank, programBytes_frame]
  exact foldl_keeps (fun s => s.dev.state) _ (fun s i => by simp [eraseSector_frame]) _ _

@[simp] theorem pbAttempt_selected (cmd : Nat) (s : State) : (pbAttempt cmd s).2.svc.selected = s.svc.selected := by
  unfold pbAttempt; split <;> simp

theorem advanceTo_rank_le (t : Nat) (h : s.rank ≤ N) : (advanceTo t s).rank ≤ N := by
  simpa [State.rank, advanceTo_frame]

/-- CONFIRM's answer made of what `confirmSet` gives: status, detail, no payload, the state (`execConfirm_eq`). -/
def outcomeAnswer (r : Nat × Nat × State) : SvcAns := (r.1, r.2.1, [], r.2.2)

theorem outcomeAnswer_rank_le {r : Nat × Nat × State} (h : r.2.2.rank ≤ N) : (outcomeAnswer r).2.2.2.rank ≤ N := h

theorem setResult_outcome_rank_le {r : Nat × Nat × State} (h : r.2.2.rank ≤ N) : (setResult r.1 r.2.2).rank ≤ N := h

theorem noteResult_rank_le (a : SvcAns) (h : a.2.2.2.rank ≤ N) : (noteResult a).2.2.2.rank ≤ N := h

/-! ### The fault ladder -/

theorem escalate_rank_le (b : Block) (old : Nat) (h : s.rank ≤ N) : (escalate b old s).rank ≤ N := by
  unfold escalate
  simp +contextual [State.rank, ↓State.rank_ite_le, h, event_frame, levelAction_rank_le, stopAuto_frame]

theorem raiseNow_rank_le (c : FClass) (addr mstr : Nat) (access entry : Nat) (h : s.rank ≤ N) :
    (raiseNow c addr mstr access entry s).rank ≤ N := by
  simp [raiseNow, State.rank, h, alertBit_frame, modStation_frame, escalate_rank_le]

theorem raiseCore_rank_le (c : FClass) (addr mstr : Nat) (access entry : Nat) (h : s.rank ≤ N) :
    (raiseCore c addr mstr access entry s).rank ≤ N := by
  unfold raiseCore
  (repeat' split) <;> simp [State.rank, *, modStation_frame, raiseNow_rank_le]

theorem noteDrops_rank_le (before : State) (h : s.rank ≤ N) : (noteDrops before s).rank ≤ N := by
  unfold noteDrops
  (repeat' split) <;> simp [State.rank, *, raiseCore_rank_le]

theorem raiseAt_rank_le (c : FClass) (addr mstr : Nat) (access entry : Nat) (h : s.rank ≤ N) :
    (raiseAt c addr mstr access entry s).rank ≤ N := by
  simp [raiseAt, State.rank, h, raiseCore_rank_le, noteDrops_rank_le]

theorem raise_rank_le (c : FClass) (h : s.rank ≤ N) : (raise c s).rank ≤ N := by
  simp [raise, State.rank, h, raiseAt_rank_le]

theorem raiseAddr_rank_le (c : FClass) (addr mstr access : Nat) (h : s.rank ≤ N) :
    (raiseAddr c addr mstr access s).rank ≤ N := by
  simp [raiseAddr, State.rank, h, raiseAt_rank_le]

theorem logRecord_rank_le (type block : Nat) (a0 a1 : Nat) (a2 suite master : Nat)
    (h : s.rank ≤ N) : (logRecord type block a0 a1 a2 suite master s).rank ≤ N := by
  simp [logRecord, State.rank, h, logCore_frame, noteDrops_rank_le]

theorem replaceSignal_rank_le (h : s.rank ≤ N) : (replaceSignal s).rank ≤ N := by
  have h1 : s.dev.state ≠ .drydock → 1 ≤ N := fun hs => State.one_le_of_rank_le hs h
  simp only [replaceSignal]
  split <;> simp_all [State.rank, enterHarbour_rank, alertBit_frame, notify_frame, event_frame]

theorem setReason_rank_le (k : Nat) (h : s.rank ≤ N) : (setReason k s).rank ≤ N := by
  unfold setReason
  (repeat' split) <;> simp [State.rank, *, replaceSignal_rank_le]

theorem expose_rank_le (id tile : Nat) (h : s.rank ≤ N) : (expose id tile s).rank ≤ N := by
  unfold expose
  (repeat' split) <;> simp [State.rank, *, notify_frame, alertBit_frame, modSuite_frame, vendorEvent_frame,
    raiseAt_rank_le]

theorem exposeCheck_rank_le (t : Nat) (h : s.rank ≤ N) : (exposeCheck t s).rank ≤ N := by
  unfold exposeCheck
  (repeat' split) <;> simp [State.rank, *, expose_rank_le]

theorem writeEvent_rank_le (t : Nat) (h : s.rank ≤ N) : (writeEvent t s).rank ≤ N := by
  simp only [writeEvent]
  (repeat' split) <;> simp_all [State.rank, reeval_frame, reeval_frame3, writeEventCore_frame, exposeCheck_rank_le]

/-! ### The Attic sequencer -/

theorem seqError_rank_le (b ofs master : Nat) (h : s.rank ≤ N) : (seqError b ofs master s).rank ≤ N := by
  simp [seqError, State.rank, h, raiseAddr_rank_le]

theorem raiseOpError_rank_le (b : Nat) (o : AtticOp) (h : s.rank ≤ N) : (raiseOpError b o s).rank ≤ N := by
  simp [raiseOpError, State.rank, h, raiseAddr_rank_le]

theorem refuseOp_rank_le (b : Nat) (o : AtticOp) (code : AtticCode) (h : s.rank ≤ N) :
    (refuseOp b o code s).rank ≤ N := by
  simp [refuseOp, State.rank, h, modBank_frame, raiseOpError_rank_le]

theorem beginReErase_rank_le (b : Nat) (h : s.rank ≤ N) : (beginReErase b s).rank ≤ N := by
  unfold beginReErase
  (repeat' split) <;> simp [State.rank, *, raiseAddr_rank_le, beginErase_frame]

theorem startOp_rank_le (b : Nat) (o : AtticOp) (h : s.rank ≤ N) : (startOp b o s).rank ≤ N := by
  unfold startOp
  (repeat' split) <;> simp +contextual [State.rank, ↓State.rank_ite_le, *, modBank_frame, raiseAddr_rank_le,
    seqError_rank_le, refuseOp_rank_le, beginErase_frame]

theorem atticCycles_rank_le (kind : AtticOpKind) (b master : Nat) (cycles : List (Nat × Nat)) (h : s.rank ≤ N) :
    (atticCycles kind b master cycles s).rank ≤ N := by
  unfold atticCycles
  (repeat' split) <;> simp +contextual [State.rank, ↓State.rank_ite_le, *, foldl_rank_le, modBank_frame,
    seqError_rank_le, startOp_rank_le]

theorem oneCycle_rank_le (b master : Nat) (f : State → State) (hf : ∀ s, s.rank ≤ N → (f s).rank ≤ N) (h : s.rank ≤ N) :
    (oneCycle b master f s).rank ≤ N := by
  unfold oneCycle
  (repeat' split) <;> simp [State.rank, *, modBank_frame, seqError_rank_le]

theorem readArray_rank_le (master offset : Nat) (reads : List (List Nat)) (h : s.rank ≤ N) :
    (readArray master offset reads s).2.rank ≤ N := by
  simp only [readArray]
  (repeat' split) <;> simp [State.rank, *, takeFree_frame, raiseAddr_rank_le]

theorem readWindow_rank_le (master offset : Nat) (reads : List (List Nat)) (h : s.rank ≤ N) :
    (readWindow master offset reads s).2.rank ≤ N := by
  simp only [readWindow]
  have hb := ownerStatus_frame (offset / bankBytes) master s
  split <;> rename_i e <;> simp only [e] at hb
  · simpa [State.rank, hb] using h
  · (repeat' split) <;> simp [State.rank, readArray_rank_le, suspendErase_frame, hb, h]

/-! ### The Attic commands -/

theorem execAtticProgram_rank_le (master bank : Nat) (cycles : List AtticCycle) (h : s.rank ≤ N) :
    (resAfter (execAtticProgram master bank cycles s) s).rank ≤ N := by
  simp [execAtticProgram, State.rank, h, atticCycles_rank_le]

theorem execAtticRowProgram_rank_le (master bank : Nat) (cycles : List AtticCycle) (h : s.rank ≤ N) :
    (resAfter (execAtticRowProgram master bank cycles s) s).rank ≤ N := by
  simp [execAtticRowProgram, State.rank, h, atticCycles_rank_le]

theorem execAtticSectorErase_rank_le (master bank : Nat) (cycles : List AtticCycle) (h : s.rank ≤ N) :
    (resAfter (execAtticSectorErase master bank cycles s) s).rank ≤ N := by
  simp [execAtticSectorErase, State.rank, h, atticCycles_rank_le]

theorem execAtticRecover_rank_le (master bank : Nat) (cycles : List AtticCycle) (h : s.rank ≤ N) :
    (resAfter (execAtticRecover master bank cycles s) s).rank ≤ N := by
  simp [execAtticRecover, State.rank, h, atticCycles_rank_le]

theorem execAtticSuspend_rank_le (master bank : Nat) (h : s.rank ≤ N) :
    (resAfter (execAtticSuspend master bank s) s).rank ≤ N := by
  simp [execAtticSuspend, State.rank, h, oneCycle_rank_le, suspendErase_frame]

theorem execAtticResume_rank_le (master bank : Nat) (h : s.rank ≤ N) :
    (resAfter (execAtticResume master bank s) s).rank ≤ N := by
  simp [execAtticResume, State.rank, h, oneCycle_rank_le, resumeBank_frame]

theorem execAtticReadReset_rank_le (master bank : Nat) (h : s.rank ≤ N) :
    (resAfter (execAtticReadReset master bank s) s).rank ≤ N := by
  simp [execAtticReadReset, State.rank, h, modBank_frame, oneCycle_rank_le]

theorem execAtticSeqTimeout_rank_le (bank : Nat) (h : s.rank ≤ N) :
    (resAfter (execAtticSeqTimeout bank s) s).rank ≤ N := by
  unfold execAtticSeqTimeout
  (repeat' split) <;> simp [State.rank, *, modBank_frame, seqError_rank_le]

theorem execAtticBadAccess_rank_le (master offset : Nat) (h : s.rank ≤ N) :
    (resAfter (execAtticBadAccess master offset s) s).rank ≤ N := by
  simp [execAtticBadAccess, State.rank, h, emit_frame, raiseAddr_rank_le]

theorem execAtticProgramDone_rank_le (bank : Nat) (pass : Bool) (h : s.rank ≤ N) :
    (resAfter (execAtticProgramDone bank pass s) s).rank ≤ N := by
  unfold execAtticProgramDone
  (repeat' split) <;> simp [State.rank, *, modBank_frame, tearWords_frame, raiseOpError_rank_le]

theorem afterErase_rank_le (b : Nat) (o : AtticOp) (h : s.rank ≤ N) : (afterErase b o s).rank ≤ N := by
  unfold afterErase
  (repeat' split) <;> simp [State.rank, *, beginErase_frame, beginReErase_rank_le]

theorem finishRecover_rank_le (b : Nat) (o : AtticOp) (twinUe : Bool) (h : s.rank ≤ N) :
    (finishRecover b o twinUe s).rank ≤ N := by
  have hf : ∀ u : State, u.rank ≤ N →
    (raiseOpError b o (raiseAddr attRecoverFail (sectorBase b o.sector) o.owner 4 u)).rank ≤ N :=
    fun u hu => raiseOpError_rank_le _ _ (raiseAddr_rank_le _ _ _ _ hu)
  simp only [finishRecover]
  (repeat' split) <;> simp [State.rank, hf, raiseAddr_rank_le, modBank_frame, rebuildWords_frame, h]

theorem sealErase_rank_le (b : Nat) (o : AtticOp) (twinUe : Bool) (h : s.rank ≤ N) :
    (sealErase b o twinUe s).rank ≤ N := by
  unfold sealErase
  (repeat' split) <;> simp [State.rank, *, modBank_frame, noteSuspended_frame, eraseWords_frame, eraseWords_frame3,
    afterErase_rank_le, finishRecover_rank_le]

theorem execAtticErasePulseDone_rank_le (bank : Nat) (pass twinUe : Bool) (h : s.rank ≤ N) :
    (resAfter (execAtticErasePulseDone bank pass twinUe s) s).rank ≤ N := by
  simp only [execAtticErasePulseDone]
  (repeat' split) <;> simp [State.rank, *, modBank_frame, noteSuspended_frame, raiseOpError_rank_le, sealErase_rank_le]

theorem execAtticForeignAccess_rank_le (master offset : Nat) (reads : List (List Nat)) (h : s.rank ≤ N) :
    (resAfter (execAtticForeignAccess master offset reads s) s).rank ≤ N := by
  unfold execAtticForeignAccess
  split <;> simp [State.rank, giveWord_rank_le, readWindow_rank_le, h]

theorem execAtticAutoResume_rank_le (bank : Nat) (h : s.rank ≤ N) :
    (resAfter (execAtticAutoResume bank s) s).rank ≤ N := by
  simpa [State.rank, execAtticAutoResume_frame] using h

theorem execFetchFault_rank_le (master offset : Nat) (h : s.rank ≤ N) :
    (resAfter (execFetchFault master offset s) s).rank ≤ N := by
  simp only [execFetchFault]
  (repeat' split) <;> simp [State.rank, *, emit_frame, raiseAddr_rank_le]

theorem execEraseStarve_rank_le (bank : Nat) (h : s.rank ≤ N) : (resAfter (execEraseStarve bank s) s).rank ≤ N := by
  unfold execEraseStarve
  (repeat' split) <;> simp [State.rank, *, advanceTo_frame, modBank_frame, noteSuspended_frame, raiseAddr_rank_le]

theorem scanBank_rank_le (b : Nat) (h : s.rank ≤ N) : (scanBank b s).rank ≤ N := by
  simp only [scanBank]
  refine beginReErase_rank_le _ (foldl_rank_le _ _ (fun s x h => raiseAddr_rank_le _ _ _ _ h) ?_)
  refine foldl_rank_le _ _ (fun s i h => by simpa [State.rank, noteWear_frame]) ?_
  simpa [State.rank, modBank_frame]

theorem execAtticBootScan_rank_le (lostSeals : List Nat) (h : s.rank ≤ N) :
    (resAfter (execAtticBootScan lostSeals s) s).rank ≤ N := by
  have hl : (lostSeals.foldl (fun s x =>
        modBank (x / 128) (fun k => { k with seals := tset factorySeal k.seals (x % 128) none }) s) s).rank ≤ N :=
    foldl_rank_le _ _ (fun s x h => by simpa [State.rank, modBank_frame]) h
  simp only [execAtticBootScan]
  split <;> simp [State.rank, scanBank_rank_le, hl, h]

theorem brownBank_rank_le (b : Nat) (h : s.rank ≤ N) : (brownBank b s).rank ≤ N := by
  simp only [brownBank]
  (repeat' split) <;> simp [State.rank, *, cutOp_frame, cutProg_frame, raiseAddr_rank_le]

theorem execAtticBrownout_rank_le (h : s.rank ≤ N) : (resAfter (execAtticBrownout s) s).rank ≤ N := by
  simp [execAtticBrownout, State.rank, h, brownBank_rank_le]

theorem execAtticRead_rank_le (master offset : Nat) (reads : List (List Nat)) (h : s.rank ≤ N) :
    (resAfter (execAtticRead master offset reads s) s).rank ≤ N := by
  unfold execAtticRead
  split <;> simp [State.rank, giveWord_rank_le, readWindow_rank_le, h]

/-! ### The DRC queues -/

theorem enqueueWrite_rank_le (src : Nat) (w : BeatWrite) (tag : Option Nat) (h : s.rank ≤ N) :
    (enqueueWrite src w tag s).rank ≤ N := by
  unfold enqueueWrite
  simp +contextual [State.rank, ↓State.rank_ite_le, h, writeEvent_rank_le, enqueue_frame]

theorem fillPool_rank_le (sc : Nat) (h : s.rank ≤ N) : (fillPool sc s).rank ≤ N := by
  simp +contextual [fillPool, State.rank, ↓State.rank_ite_le, *, foldl_rank_le, modSubch_frame, writeEvent_rank_le,
    noteEntry_frame]

theorem uncorrectable_rank_le (beat mstr : Nat) (later : Bool) (h : s.rank ≤ N) :
    (uncorrectable beat mstr later s).rank ≤ N := by
  simp only [uncorrectable]
  (repeat' split) <;> simp [State.rank, *, addEvent_frame, listPoison_frame, modSubch_frame, raiseAddr_rank_le,
    writeEvent_rank_le, poisonBeat_frame]

/-! ### Host requests and claims -/

theorem grantClaim_rank_le (t : Nat) (exposed : Bool) (h : s.rank ≤ N) : (grantClaim t exposed s).rank ≤ N := by
  unfold grantClaim
  (repeat' split) <;> simp [State.rank, *, reeval_frame, reeval_frame3, claimTile_frame, expose_rank_le]

theorem acceptBeat_rank_le (src : Nat) (w : BeatWrite) (tag : Option Nat) (poisonSource : Nat) (h : s.rank ≤ N) :
    (acceptBeat src w tag poisonSource s).rank ≤ N := by
  unfold acceptBeat
  (repeat' split) <;> simp [State.rank, *, listPoison_frame, unlistBeat_frame, enqueueWrite_rank_le]

theorem acceptWrite_rank_le (w : HostWrite) (h : s.rank ≤ N) : (acceptWrite w s).rank ≤ N := by
  simp only [acceptWrite]
  (repeat' split) <;> simp [State.rank, *, raiseAddr_rank_le, mirrorAccept_frame, complete_frame, acceptBeat_rank_le]

/-! ### Cellar maintenance -/

theorem spareCheck_rank_le (h : s.rank ≤ N) : (spareCheck s).rank ≤ N := by
  unfold spareCheck
  (repeat' split) <;> simp [State.rank, *, raise_rank_le, setReason_rank_le]

theorem spareAtBoot_rank_le (h : s.rank ≤ N) : (spareAtBoot s).rank ≤ N := by
  unfold spareAtBoot
  (repeat' split) <;> simp [State.rank, *, clearReason_frame, spareCheck_rank_le]

theorem retireBlock_rank_le (part d b : Nat) (onErase : Bool) (h : s.rank ≤ N) :
    (retireBlock part d b onErase s).rank ≤ N := by
  unfold retireBlock
  (repeat' split) <;> simp [State.rank, *, modNand_frame, modDie_frame, spareCheck_rank_le, unplace_frame]

/-! ### Stalled claims -/

theorem reevalStalled_rank_le (h : s.rank ≤ N) : (reevalStalled s).rank ≤ N := by
  simp +contextual [reevalStalled, State.rank, ↓State.rank_ite_le, *, foldl_rank_le, grantClaim_rank_le,
    noteStall_frame, claimGranted_frame]

/-! ### The save -/

theorem halfFull_rank_le (h : s.rank ≤ N) : (halfFull s).rank ≤ N := by
  unfold halfFull
  (repeat' split) <;> simp [State.rank, *, raise_rank_le, modRun_frame]

theorem halfProgramEnd_rank_le (pass : Bool) (h : s.rank ≤ N) : (halfProgramEnd pass s).rank ≤ N := by
  unfold halfProgramEnd
  (repeat' split) <;> simp +contextual [State.rank, ↓State.rank_ite_le, *, modHalf_frame, raiseAddr_rank_le,
    modNand_frame, dieWorks_frame, modRun_frame, countWritten_frame, eraseAheadOf_frame, halfFull_rank_le,
    noteRetire_frame]

theorem endIssued_rank_le (h : s.rank ≤ N) : (endIssued s).rank ≤ N := by
  unfold endIssued
  (repeat' split) <;> simp +contextual [State.rank, *, foldl_rank_le, halfProgramEnd_rank_le]

theorem retireFailed_rank_le (h : s.rank ≤ N) : (retireFailed s).rank ≤ N := by
  simp +contextual [retireFailed, State.rank, h, foldl_rank_le, retireBlock_rank_le]

theorem logCaptures_rank_le (h : s.rank ≤ N) : (logCaptures s).rank ≤ N := by
  simp +contextual [logCaptures, State.rank, ↓State.rank_ite_le, *, foldl_rank_le, logRecord_rank_le]

theorem leaveSaving_rank_le (outcome : Nat) (h : s.rank ≤ N) : (leaveSaving outcome s).rank ≤ N := by
  simp [leaveSaving, State.rank, h, retireFailed_rank_le, logCaptures_rank_le]

theorem stopUnsealed_rank_le (h : s.rank ≤ N) : (stopUnsealed s).rank ≤ N := by
  simp [stopUnsealed, State.rank, h, endIssued_rank_le, leaveSaving_rank_le]

theorem exhausted_rank_le (h : s.rank ≤ N) : (exhausted s).rank ≤ N := by
  unfold exhausted
  split
  · have h1 := State.one_le_of_rank_le (by simp [*]) h
    rwa [enterOff_rank]
  · exact h

theorem keeperStops_rank_le (h : s.rank ≤ N) : (keeperStops s).rank ≤ N := by
  unfold keeperStops
  split
  · have h1 := State.one_le_of_rank_le (by simp [*]) h
    rwa [enterSaved_rank]
  · exact h

theorem enterWarm_rank_le (half : Option Half) (s : State) (h1 : 1 ≤ N) : (enterWarm half s).rank ≤ N := by
  refine levelMuster_rank_le ?_
  simpa [State.rank, saveReport_frame, unwriteVolatile_frame, imageRank_eq_one] using h1

theorem sealPassed_rank_le (r : SaveRun) (s : State) (h1 : 1 ≤ N) : (sealPassed r s).rank ≤ N := by
  simp only [sealPassed, State.rank_ite_le, enterWarm_rank_le _ _ h1, enterSaved_rank, h1, ite_self]

theorem openService_rank_le (cause : Nat) (s : State) (h1 : 1 ≤ N) : (openService cause s).rank ≤ N := by
  have h := enterService_rank_le cause s h1
  simp only [openService]
  split <;> simpa [State.rank, replaceItem_frame, takeCheckpoint_frame, eraseOldArea_frame, eraseReleased_frame] using h

theorem leaveHarbour_rank_le (s : State) (h1 : 1 ≤ N) : (leaveHarbour s).rank ≤ N := by
  simpa [leaveHarbour, State.rank, takeCheckpoint_frame] using enterService_rank_le _ _ h1

theorem acknowledge_rank_le (h : s.rank ≤ N) : (acknowledge s).rank ≤ N := by
  unfold acknowledge
  repeat' split
  · exact leaveHarbour_rank_le _ (State.one_le_of_rank_le (by simp [*]) h)
  all_goals exact h

theorem endPrecaution_rank_le (short : Bool) (h : s.rank ≤ N) : (endPrecaution short s).rank ≤ N := by
  simp only [endPrecaution]
  generalize hu : (if short = true then _ else _ : State) = u
  have hr : u.rank ≤ N := by
    subst hu
    split
    · exact raise_rank_le _ h
    · exact h
  split
  · exact leaveHarbour_rank_le _ (State.one_le_of_rank_le (by simp_all) hr)
  · exact hr

/-! ### The Cellar commands -/

theorem execPadTimeout_rank_le (die : Nat) (h : s.rank ≤ N) : (resAfter (execPadTimeout die s) s).rank ≤ N := by
  unfold execPadTimeout
  (repeat' split) <;> simp [State.rank, *, advanceTo_frame, modDie_frame, placeStaged_frame]

theorem execNandProgramDone_rank_le (die us : Nat) (pass : Bool) (h : s.rank ≤ N) :
    (resAfter (execNandProgramDone die us pass s) s).rank ≤ N := by
  simp only [execNandProgramDone]
  (repeat' split) <;> simp [State.rank, *, raiseAddr_rank_le, placeStaged_frame, noteTlc_frame, retireBlock_rank_le,
    endProgram_frame]

theorem execRoomMapBuild_rank_le (room : Nat) (h : s.rank ≤ N) : (resAfter (execRoomMapBuild room s) s).rank ≤ N := by
  simpa [State.rank, execRoomMapBuild_frame] using h

theorem execJournalPageIssue_rank_le (h : s.rank ≤ N) : (resAfter (execJournalPageIssue s) s).rank ≤ N := by
  unfold execJournalPageIssue
  (repeat' split) <;> simp [State.rank, *, advanceTo_frame, issuePage_frame]

theorem execMetaProgramDone_rank_le (page us : Nat) (passA passB : Bool) (h : s.rank ≤ N) :
    (resAfter (execMetaProgramDone page us passA passB s) s).rank ≤ N := by
  unfold execMetaProgramDone
  extract_lets mine
  split
  · exact h
  · rename_i ok s1 recs jn src s2 s3 s4 fail s5 s6 hm
    have h3 : s3.rank ≤ N := by
      simp only [s3, s2, s1]; split <;> simpa [State.rank, settleRecs_frame, notePslc_frame]
    have h4 : s4.rank ≤ N := foldl_rank_le _ _ (fun s d h => by simpa [State.rank, dieWorks_frame]) h3
    have hf : ∀ (q : Nat) (u : State), u.rank ≤ N → (fail q u).rank ≤ N := fun q u hu => by
      simp only [fail]; split <;> simp [State.rank, raiseAddr_rank_le, retireBlock_rank_le, hu]
    have h5 : s5.rank ≤ N := by
      simp only [s5]; split
      · exact h4
      · exact hf _ _ h4
    have h6 : s6.rank ≤ N := by
      simp only [s6]; split
      · exact h5
      · cases secondOf s5 (page / 1024)
        · exact h5
        · exact hf _ _ h5
    simpa [State.rank, placeStaged_frame] using h6

theorem execCheckpointDue_rank_le (h : s.rank ≤ N) : (resAfter (execCheckpointDue s) s).rank ≤ N := by
  simpa [State.rank, execCheckpointDue_frame] using h

theorem execJournalBlockReclaim_rank_le (die block : Nat) (h : s.rank ≤ N) :
    (resAfter (execJournalBlockReclaim die block s) s).rank ≤ N := by
  simpa [State.rank, execJournalBlockReclaim_frame] using h

theorem execNandReadDone_rank_le (part die block : Nat) (hard soft : List Nat)
    (ok : Bool) (tile : Option Nat) (h : s.rank ≤ N) :
    (resAfter (execNandReadDone part die block hard soft ok tile s) s).rank ≤ N := by
  simp only [execNandReadDone]
  cases tile <;> (repeat' split) <;> simp [State.rank, *, noteDecode_frame, noteBad_frame, raiseAddr_rank_le]

theorem execNandEraseDone_rank_le (part die block : Nat) (pass : Bool) (h : s.rank ≤ N) :
    (resAfter (execNandEraseDone part die block pass s) s).rank ≤ N := by
  unfold execNandEraseDone
  (repeat' split) <;> simp [State.rank, *, raiseAddr_rank_le, modNand_frame, modDie_frame, placeStaged_frame,
    retireBlock_rank_le, startErasures_frame, wipeBlock_frame]

theorem execBackgroundEraseResume_rank_le (die : Nat) (h : s.rank ≤ N) :
    (resAfter (execBackgroundEraseResume die s) s).rank ≤ N := by
  unfold execBackgroundEraseResume
  (repeat' split) <;> simp [State.rank, *, advanceTo_frame, modDie_frame]

theorem execGcReclaim_rank_le (die : Nat) (h : s.rank ≤ N) : (resAfter (execGcReclaim die s) s).rank ≤ N := by
  simpa [State.rank, execGcReclaim_frame] using h

theorem execWearLevelMove_rank_le (part die : Nat) (h : s.rank ≤ N) :
    (resAfter (execWearLevelMove part die s) s).rank ≤ N := by
  simpa [State.rank, execWearLevelMove_frame] using h

theorem rescue_rank_le (t : Nat) (h : s.rank ≤ N) : (rescue t s).rank ≤ N := by
  simp [rescue, State.rank, h, raiseAddr_rank_le, tileAccess_frame, startCopy_frame]

theorem execNandPatrolRead_rank_le (part die : Nat) (block set : Nat) (soft : Bool) (bad : List Nat)
    (last : Bool) (h : s.rank ≤ N) : (resAfter (execNandPatrolRead part die block set soft bad last s) s).rank ≤ N := by
  unfold execNandPatrolRead
  (repeat' split) <;> simp +contextual [State.rank, *, foldl_rank_le, noteDecode_frame, noteBad_frame,
    relocateBlock_frame, rewriteBlock_frame, rescue_rank_le, endPatrol_frame]

/-! ### The Chart commands -/

theorem chartEntryUe_rank_le (room : Nat) (h : s.rank ≤ N) : (chartEntryUe room s).rank ≤ N := by
  simp [chartEntryUe, State.rank, h, modEntry_frame, reeval_frame, reeval_frame3, raiseAddr_rank_le, modRoomTiles_frame]

theorem execChartEntryUe_rank_le (room : Nat) (h : s.rank ≤ N) : (resAfter (execChartEntryUe room s) s).rank ≤ N := by
  simp [execChartEntryUe, State.rank, h, chartEntryUe_rank_le]

theorem execMapRereadDone_rank_le (room : Nat) (pass : Bool) (h : s.rank ≤ N) :
    (resAfter (execMapRereadDone room pass s) s).rank ≤ N := by
  unfold execMapRereadDone
  (repeat' split) <;> simp [State.rank, *, modEntry_frame, raiseAddr_rank_le]

theorem tileStateUe_rank_le (byte : Nat) (h : s.rank ≤ N) : (tileStateUe byte s).rank ≤ N := by
  have hl : ∀ l : List Nat, (l.foldl (fun s t => tileUe t s) s).rank ≤ N := fun l =>
    foldl_rank_le _ _ (fun s t h => by simpa [State.rank, tileUe_frame]) h
  simp only [tileStateUe]
  (repeat' split) <;> simp [State.rank, reeval_frame, reeval_frame3, raiseAddr_rank_le, hl, h]

theorem execTileStateUe_rank_le (byte : Nat) (h : s.rank ≤ N) : (resAfter (execTileStateUe byte s) s).rank ≤ N := by
  simp [execTileStateUe, State.rank, h, tileStateUe_rank_le]

theorem execChtRoomSelWrite_rank_le (value : Word) (h : s.rank ≤ N) :
    (resAfter (execChtRoomSelWrite value s) s).rank ≤ N := by
  simpa [State.rank, execChtRoomSelWrite_frame] using h

theorem suiteContextUe_rank_le (suite : Nat) (h : s.rank ≤ N) : (suiteContextUe suite s).rank ≤ N := by
  simp [suiteContextUe, State.rank, h, modSuite_frame, reeval_frame, reeval_frame3, raiseAddr_rank_le, retotal_frame]

theorem execSuiteContextUe_rank_le (suite : Nat) (h : s.rank ≤ N) :
    (resAfter (execSuiteContextUe suite s) s).rank ≤ N := by
  simp [execSuiteContextUe, State.rank, h, suiteContextUe_rank_le]

/-! ### The Floor Plan -/

theorem rejectPlan_rank_le (e : PlanErr) (mstr : Nat) (h : s.rank ≤ N) : (rejectPlan e mstr s).rank ≤ N := by
  simp [rejectPlan, State.rank, h, raiseAddr_rank_le]

theorem applyPlan_rank_le (h : s.rank ≤ N) : (applyPlan s).rank ≤ N := by
  unfold applyPlan
  (repeat' split) <;> simp [State.rank, *, event_frame, reeval_frame, reeval_frame3, levelMuster_rank_le,
    reevalStalled_rank_le, packAlert_frame, loadFaults_frame, wantRek_frame, exerFromNow_frame]

theorem acceptPlan_rank_le (v : ValidPlan) (h : s.rank ≤ N) : (acceptPlan v s).rank ≤ N := by
  simp only [acceptPlan]
  (repeat' split) <;> simp [State.rank, *, sealPlan_frame, applyPlan_rank_le]

theorem deliverPlan_rank_le (img : List Byte) (mstr : Nat) (sealed : Bool) (h : s.rank ≤ N) :
    (deliverPlan img mstr sealed s).2.rank ≤ N := by
  unfold deliverPlan
  (repeat' split) <;> simp [State.rank, *, rejectPlan_rank_le, acceptPlan_rank_le, spoilSlot_frame]

theorem slotFails_rank_le (x : Nat × PlanErr) (h : s.rank ≤ N) : (slotFails s x).rank ≤ N := by
  simp [slotFails, State.rank, h, raiseAddr_rank_le]

theorem loadPlan_rank_le (h : s.rank ≤ N) : (loadPlan s).rank ≤ N := by
  have hl : ∀ (l : List (Nat × PlanErr)) (u : State), u.rank ≤ N → (l.foldl slotFails u).rank ≤ N := fun l u =>
    foldl_rank_le _ _ fun s x h => slotFails_rank_le x h
  simp only [loadPlan]
  (repeat' split) <;> simp [State.rank, hl, raiseAddr_rank_le, wantRek_frame, generateKeys_frame, loadFaults_frame, h]

/-! ### The restore -/

theorem writeRestored_rank_le (t : Nat) (x : Restored) (h : s.rank ≤ N) : (writeRestored t x s).rank ≤ N := by
  unfold writeRestored
  (repeat' split) <;> simp [State.rank, *, putTile_frame, listPoison_frame, reeval_frame, reeval_frame3,
    raiseAddr_rank_le, tileAccess_frame, addRoster_frame]

theorem restoreComplete_rank_le (h : s.rank ≤ N) (h1 : 1 ≤ N) : (restoreComplete s).rank ≤ N := by
  simp only [restoreComplete]
  (repeat' split) <;> simp [State.rank, *, event_frame, openService_rank_le, wantRek_frame, foldStep_frame]

theorem afterTile_rank_le (t : Nat) (h : s.rank ≤ N) (h1 : 1 ≤ N) : (afterTile t s).rank ≤ N := by
  unfold afterTile
  simp +contextual [State.rank, ↓State.rank_ite_le, h, h1, restoreComplete_rank_le, releaseTileReads_frame,
    endRoom_frame]

/-! ### The Dumbwaiter commands -/

theorem dmwBad_rank_le (h : s.rank ≤ N) : (dmwBad s).rank ≤ N := by
  simp [dmwBad, State.rank, h, raiseAddr_rank_le]

theorem dmwTailWrite_rank_le (ch : Nat) (value : Word) (h : s.rank ≤ N) : (dmwTailWrite ch value s).rank ≤ N := by
  unfold dmwTailWrite
  (repeat' split) <;> simp +contextual [State.rank, ↓State.rank_ite_le, *, modChan_frame, dmwBad_rank_le]

theorem execDmwChTailWrite_rank_le (ch : Nat) (value : Word) (h : s.rank ≤ N) :
    (resAfter (execDmwChTailWrite ch value s) s).rank ≤ N := by
  simp [execDmwChTailWrite, State.rank, h, dmwTailWrite_rank_le]

theorem dmwEnable_rank_le (ch : Nat) (value : Word) (h : s.rank ≤ N) : (dmwEnable ch value s).rank ≤ N := by
  unfold dmwEnable
  simp +contextual [State.rank, ↓State.rank_ite_le, h, modChan_frame, dmwBad_rank_le]

theorem execDmwEnable_rank_le (ch : Nat) (value : Word) (h : s.rank ≤ N) :
    (resAfter (execDmwEnable ch value s) s).rank ≤ N := by
  simp [execDmwEnable, State.rank, h, dmwEnable_rank_le]

theorem execDmwPause_rank_le (ch : Nat) (h : s.rank ≤ N) : (resAfter (execDmwPause ch s) s).rank ≤ N := by
  simpa [State.rank, execDmwPause_frame] using h

theorem execDmwResume_rank_le (ch : Nat) (h : s.rank ≤ N) : (resAfter (execDmwResume ch s) s).rank ≤ N := by
  simpa [State.rank, execDmwResume_frame] using h

theorem execDmwReset_rank_le (ch : Nat) (h : s.rank ≤ N) : (resAfter (execDmwReset ch s) s).rank ≤ N := by
  simpa [State.rank, execDmwReset_frame] using h

theorem raiseDesc_rank_le (c : FClass) (ch : Nat) (h : s.rank ≤ N) : (raiseDesc c ch s).rank ≤ N := by
  simp [raiseDesc, State.rank, h, raiseAddr_rank_le]

theorem startDesc_rank_le (op ch : Nat) (h : s.rank ≤ N) : (startDesc op ch s).rank ≤ N := by
  simp only [startDesc]
  (repeat' split) <;> simp [State.rank, *, modChan_frame, dmwComplete_frame, raiseDesc_rank_le]

theorem execDmwCopy_rank_le (ch : Nat) (h : s.rank ≤ N) : (resAfter (execDmwCopy ch s) s).rank ≤ N := by
  simp [execDmwCopy, State.rank, h, startDesc_rank_le]

theorem execDmwFill_rank_le (ch : Nat) (h : s.rank ≤ N) : (resAfter (execDmwFill ch s) s).rank ≤ N := by
  simp [execDmwFill, State.rank, h, startDesc_rank_le]

theorem execDmwStow_rank_le (ch : Nat) (h : s.rank ≤ N) : (resAfter (execDmwStow ch s) s).rank ≤ N := by
  simp [execDmwStow, State.rank, h, startDesc_rank_le]

theorem execDmwFetch_rank_le (ch : Nat) (h : s.rank ≤ N) : (resAfter (execDmwFetch ch s) s).rank ≤ N := by
  simp [execDmwFetch, State.rank, h, startDesc_rank_le]

theorem execDmwCheck_rank_le (ch : Nat) (h : s.rank ≤ N) : (resAfter (execDmwCheck ch s) s).rank ≤ N := by
  simp [execDmwCheck, State.rank, h, startDesc_rank_le]

theorem checkTile_rank_le (ch t : Nat) (h : s.rank ≤ N) : (checkTile ch t s).rank ≤ N := by
  unfold checkTile
  simp +contextual [State.rank, ↓State.rank_ite_le, h, raiseAddr_rank_le, tileAccess_frame, modDesc_frame]

theorem settleStep_rank_le (ch : Nat) (h : s.rank ≤ N) : (settleStep ch s).rank ≤ N := by
  unfold settleStep
  (repeat' split) <;> simp +contextual [State.rank, ↓State.rank_ite_le, *, dropCandidate_frame, callTile_frame,
    startStow_frame, endStep_frame, modDesc_frame, checkTile_rank_le]

theorem beginStep_rank_le (n : Nat) (r : DescRun) (unreadable : Bool) (h : s.rank ≤ N) :
    (beginStep n r unreadable s).rank ≤ N := by
  unfold beginStep
  simp +contextual [State.rank, ↓State.rank_ite_le, h, tileAccess_frame, endStep_frame, modDesc_frame,
    settleStep_rank_le, takeEntries_frame]

theorem grantStep_rank_le (n : Nat) (unreadable : Bool) (h : s.rank ≤ N) : (grantStep n unreadable s).rank ≤ N := by
  unfold grantStep
  (repeat' split) <;> simp +contextual [State.rank, ↓State.rank_ite_le, *, modChan_frame, demandFetch_frame,
    raiseDesc_rank_le, modDesc_frame, holdStep_frame, beginStep_rank_le]

theorem execDmwStepGrant_rank_le (unreadable : Bool) (h : s.rank ≤ N) :
    (resAfter (execDmwStepGrant unreadable s) s).rank ≤ N := by
  have hl : ∀ l : List Nat, (l.foldl (fun s k => settleStep k s) s).rank ≤ N := fun l =>
    foldl_rank_le _ _ (fun s k h => settleStep_rank_le k h) h
  unfold execDmwStepGrant
  generalize List.range 16 = l
  extract_lets u
  have hu : u.rank ≤ N := hl l
  clear_value u
  split <;> simp [State.rank, grantStep_rank_le, hu]

theorem acceptDmw_rank_le (ch : Nat) (r : DescRun) (h : s.rank ≤ N) : (acceptDmw ch r s).rank ≤ N := by
  unfold acceptDmw
  (repeat' split) <;> simp [State.rank, *, beatAccess_frame, acceptBeat_rank_le, endStep_frame, modDesc_frame]

theorem execDmwWriteAccept_rank_le (ch : Nat) (h : s.rank ≤ N) : (resAfter (execDmwWriteAccept ch s) s).rank ≤ N := by
  simp only [execDmwWriteAccept]
  (repeat' split) <;> simp [State.rank, *, modChan_frame, callSubch_frame, grantClaim_rank_le, stallClaim_frame,
    acceptDmw_rank_le]

theorem execDmwDescriptorComplete_rank_le (ch : Nat) (h : s.rank ≤ N) :
    (resAfter (execDmwDescriptorComplete ch s) s).rank ≤ N := by
  simp only [execDmwDescriptorComplete]
  (repeat' split) <;> simp [State.rank, *, dmwFinish_frame, settleStep_rank_le]

/-! ### The DRAM commands -/

theorem trainExclude_rank_le (sc : Nat) (h : s.rank ≤ N) : (trainExclude sc s).rank ≤ N := by
  simp [trainExclude, State.rank, h, modSubch_frame, raise_rank_le, setReason_rank_le]

theorem execTrainingAttemptEnd_rank_le (sc : Nat) (pass : Bool) (record : List Byte) (h : s.rank ≤ N) :
    (resAfter (execTrainingAttemptEnd sc pass record s) s).rank ≤ N := by
  simp only [execTrainingAttemptEnd]
  (repeat' split) <;> simp [State.rank, *, modSubch_frame, trainPass_frame, trainExclude_rank_le]

theorem execRefreshTick_rank_le (sc elapsedNs : Nat) (h : s.rank ≤ N) :
    (resAfter (execRefreshTick sc elapsedNs s) s).rank ≤ N := by
  simpa [State.rank, execRefreshTick_frame] using h

theorem calFail_rank_le (h : s.rank ≤ N) : (calFail s).rank ≤ N := by
  simp [calFail, State.rank, h, raise_rank_le]

theorem runCal_rank_le (sc kind : Nat) (c : CalOutcome) (h : s.rank ≤ N) : (runCal sc kind c s).rank ≤ N := by
  unfold runCal
  (repeat' split) <;> simp [State.rank, *, calFail_rank_le, gateAdjust_frame]

theorem calDue_rank_le (sc kind : Nat) (o : CalOutcome) (h : s.rank ≤ N) : (calDue sc kind o s).rank ≤ N := by
  unfold calDue
  (repeat' split) <;> simp [State.rank, *, modSubch_frame, runCal_rank_le]

theorem execZqCalDue_rank_le (sc : Nat) (ok : Bool) (h : s.rank ≤ N) :
    (resAfter (execZqCalDue sc ok s) s).rank ≤ N := by
  unfold execZqCalDue
  (repeat' split) <;> simp [State.rank, *, advanceTo_frame, modSubch_frame, calDue_rank_le]

theorem execDqsOscDue_rank_le (sc : Nat) (fine : Byte) (ok : Bool) (h : s.rank ≤ N) :
    (resAfter (execDqsOscDue sc fine ok s) s).rank ≤ N := by
  unfold execDqsOscDue
  (repeat' split) <;> simp [State.rank, *, advanceTo_frame, modSubch_frame, calDue_rank_le]

theorem execCalDeferExpire_rank_le (sc kind : Nat) (h : s.rank ≤ N) :
    (resAfter (execCalDeferExpire sc kind s) s).rank ≤ N := by
  unfold execCalDeferExpire
  (repeat' split) <;> simp [State.rank, *, advanceTo_frame, modSubch_frame]

theorem execMr4Read_rank_le (sc rank band : Nat) (twox high ok : Bool)
    (h : s.rank ≤ N) : (resAfter (execMr4Read sc rank band twox high ok s) s).rank ≤ N := by
  simp only [execMr4Read]
  (repeat' split) <;> simp [State.rank, *, advanceTo_frame, modSubch_frame, raise_rank_le, enterDouble_frame,
    calDue_rank_le]

theorem execSelfRefreshIdle_rank_le (sc : Nat) (h : s.rank ≤ N) : (resAfter (execSelfRefreshIdle sc s) s).rank ≤ N := by
  simp only [execSelfRefreshIdle]
  (repeat' split) <;> simp [State.rank, modSubch_frame, advanceTo_frame, h]

theorem execSelfRefreshExit_rank_le (sc : Nat) (ok : Bool) (h : s.rank ≤ N) :
    (resAfter (execSelfRefreshExit sc ok s) s).rank ≤ N := by
  unfold execSelfRefreshExit
  (repeat' split) <;> simp [State.rank, *, modSubch_frame, startRebuild_frame, calFail_rank_le]

theorem execReq_rank_le (sc : Nat) (q : DrcReq) (h : s.rank ≤ N) : (execReq sc q s).rank ≤ N := by
  unfold execReq
  (repeat' split) <;> simp [State.rank, *, modSubch_frame, fillPool_rank_le, releaseEntry_frame]

theorem makeMove_rank_le (sc : Nat) (turn : Bool) (m : DrcReq × ReqMove) (h : s.rank ≤ N) :
    (makeMove sc turn m s).rank ≤ N := by
  unfold makeMove
  (repeat' split) <;> simp [State.rank, *, activate_frame, execReq_rank_le]

theorem class6_rank_le (sc : Nat) (h : s.rank ≤ N) : (class6 sc s).rank ≤ N := by
  simp only [class6]
  (repeat' split) <;> simp [State.rank, *, modSubch_frame, makeMove_rank_le]

theorem runWork_rank_le (sc : Nat) (w : DrcWork) (o : CalOutcome) (h : s.rank ≤ N) : (runWork sc w o s).rank ≤ N := by
  unfold runWork
  (repeat' split) <;> simp [State.rank, *, modSubch_frame, payRfm_frame, forceRefresh_frame, runCal_rank_le]

theorem execDrcPick_rank_le (sc : Nat) (o : CalOutcome) (h : s.rank ≤ N) :
    (resAfter (execDrcPick sc o s) s).rank ≤ N := by
  simp only [execDrcPick]
  (repeat' split) <;> simp [State.rank, *, fillPool_rank_le, makeMove_rank_le, class6_rank_le, runWork_rank_le]

theorem correction_rank_le (beat device : Nat) (h : s.rank ≤ N) : (correction beat device s).rank ≤ N := by
  unfold correction
  (repeat' split) <;> simp +contextual [State.rank, ↓State.rank_ite_le, *, modSubch_frame, raise_rank_le,
    setReason_rank_le]

theorem noteRead_rank_le (beat mstr : Nat) (k : Decoded) (data : List Byte) (later : Bool) (h : s.rank ≤ N) :
    (noteRead beat mstr k data later s).rank ≤ N := by
  unfold noteRead
  (repeat' split) <;> simp [State.rank, *, enqueue_frame, uncorrectable_rank_le, watchRecord_frame, correction_rank_le]

theorem returnRead_rank_le (r : ReadFlight) (errors : List (Nat × Byte)) (h : s.rank ≤ N) :
    (returnRead r errors s).rank ≤ N := by
  unfold returnRead
  (repeat' split) <;> simp [State.rank, *, noteRead_rank_le, answerReturn_frame]

theorem execDramReadReturn_rank_le (beat mstr : Nat) (errors : List (Nat × Byte)) (h : s.rank ≤ N) :
    (resAfter (execDramReadReturn beat mstr errors s) s).rank ≤ N := by
  simp only [execDramReadReturn]
  (repeat' split) <;> simp [State.rank, *, poisonInFlight_frame, mergeMark_frame, noteRead_rank_le, returnRead_rank_le]

theorem execPatrolRead_rank_le (errors : List (Nat × Byte)) (h : s.rank ≤ N) :
    (resAfter (execPatrolRead errors s) s).rank ≤ N := by
  unfold execPatrolRead
  (repeat' split) <;> simp [State.rank, *, returnRead_rank_le, patrolNext_frame]

theorem execPatrolPassEnd_rank_le (h : s.rank ≤ N) : (resAfter (execPatrolPassEnd s) s).rank ≤ N := by
  simpa [State.rank, execPatrolPassEnd_frame] using h

theorem execCorrectionCount24h_rank_le (h : s.rank ≤ N) : (resAfter (execCorrectionCount24h s) s).rank ≤ N := by
  unfold execCorrectionCount24h
  (repeat' split) <;> simp [State.rank, *, advanceTo_frame, budgetRenew_frame, budgetRenew_frame3]

/-! ### On-chip errors -/

theorem raiseSram_rank_le (c : FClass) (addr master access : Nat) (h : s.rank ≤ N) :
    (raiseSram c addr master access s).rank ≤ N := by
  unfold raiseSram
  (repeat' split) <;> simp [State.rank, *, modStation_frame, raiseAddr_rank_le]

theorem coreUe_rank_le (core : Nat) (h : s.rank ≤ N) : (coreUe core s).rank ≤ N := by
  simp [coreUe, State.rank, h, holdCore_frame, quarantine_frame, raiseAddr_rank_le]

theorem regionOutcome_rank_le (a : Nat) (beat : Option Nat) (h : s.rank ≤ N) : (regionOutcome a beat s).rank ≤ N := by
  unfold regionOutcome
  (repeat' split) <;> simp [State.rank, *, modDie_frame, poisonInFlight_frame, chartEntryUe_rank_le,
    tileStateUe_rank_le, suiteContextUe_rank_le, coreUe_rank_le]

theorem sramUe_rank_le (a master : Nat) (beat : Option Nat) (h : s.rank ≤ N) : (sramUe a master beat s).rank ≤ N := by
  have hr : ∀ u : State, u.rank ≤ N → (clearMarks (a / 8 * 8) (regionOutcome a beat u)).rank ≤ N := fun u hu => by
    simpa [State.rank, clearMarks_frame] using regionOutcome_rank_le a beat hu
  have hs : (if regionOf a = some 4 ∨ regionOf a = none then s else raiseSram eccSramUe a master 1 s).rank ≤ N := by
    split
    · exact h
    · exact raiseSram_rank_le _ _ _ _ h
  simp only [sramUe]
  split
  · exact keeperStops_rank_le (hr _ hs)
  · exact hr _ hs

theorem patchSram_rank_le (word : Nat) (h : s.rank ≤ N) : (patchSram word s).rank ≤ N := by
  unfold patchSram
  (repeat' split) <;> simp [State.rank, *, raiseAddr_rank_le, setReason_rank_le]

theorem patchAttic_rank_le (word : Nat) (v : Dword) (h : s.rank ≤ N) : (patchAttic word v s).rank ≤ N := by
  unfold patchAttic
  (repeat' split) <;> simp [State.rank, *, raiseAddr_rank_le, setReason_rank_le]

theorem testWrite_rank_le (h : s.rank ≤ N) : (testWrite s).rank ≤ N := by
  unfold testWrite
  simp +contextual [State.rank, ↓State.rank_ite_le, h, raiseSram_rank_le]

theorem testRead_rank_le (h : s.rank ≤ N) : (testRead s).rank ≤ N := by
  unfold testRead
  simp +contextual [State.rank, ↓State.rank_ite_le, h, raiseSram_rank_le, decodedBytes_frame]

/-! ### The on-chip error commands -/

theorem execSramUe_rank_le (address master : Nat) (beat : Option Nat) (h : s.rank ≤ N) :
    (resAfter (execSramUe address master beat s) s).rank ≤ N := by
  simp [execSramUe, State.rank, h, sramUe_rank_le]

theorem parityOutcome_rank_le (sender address : Nat) (r : ParityReceiver) (h : s.rank ≤ N) :
    (parityOutcome sender address r s).rank ≤ N := by
  unfold parityOutcome
  (repeat' split) <;> simp [State.rank, *, modBank_frame, seqError_rank_le, acceptBeat_rank_le, poisonInFlight_frame,
    keeperStops_rank_le, coreUe_rank_le]

theorem execFabricParityError_rank_le (sender address : Nat) (receiver : ParityReceiver) (h : s.rank ≤ N) :
    (resAfter (execFabricParityError sender address receiver s) s).rank ≤ N := by
  simp [execFabricParityError, State.rank, h, raiseSram_rank_le, parityOutcome_rank_le]

theorem execCoreReload_rank_le (core : Nat) (h : s.rank ≤ N) : (resAfter (execCoreReload core s) s).rank ≤ N := by
  simpa [State.rank, execCoreReload_frame] using h

theorem noteWordError_rank_le (w : Nat) (h : s.rank ≤ N) : (noteWordError w s).rank ≤ N := by
  unfold noteWordError
  simp +contextual [State.rank, ↓State.rank_ite_le, h, patchSram_rank_le]

theorem execSramScrubRead_rank_le (finding : ScrubFinding) (beat : Option Nat) (h : s.rank ≤ N) :
    (resAfter (execSramScrubRead finding beat s) s).rank ≤ N := by
  simp only [execSramScrubRead]
  (repeat' split) <;> simp [State.rank, *, advanceTo_frame, sramUe_rank_le, advanceScrub_frame, noteWordError_rank_le]

theorem scrubAction_rank_le (b pos : Nat) (found : Option WordDecode) (v : Option Dword) (h : s.rank ≤ N) :
    (scrubAction b pos found v s).rank ≤ N := by
  unfold scrubAction
  (repeat' split) <;> simp +contextual [State.rank, ↓State.rank_ite_le, *, raiseAddr_rank_le, patchAttic_rank_le,
    wantRecover_frame]

theorem execAtticScrubRead_rank_le (reads : List (List Nat)) (h : s.rank ≤ N) :
    (resAfter (execAtticScrubRead reads s) s).rank ≤ N := by
  simp only [execAtticScrubRead]
  (repeat' split) <;> simp [State.rank, *, advanceTo_frame, readArray_rank_le, beginRecover_frame,
    startAtticPass_frame, scrubAction_rank_le, advanceAttic_frame]

theorem eccTestWrite_rank_le (value : Word) (h : s.rank ≤ N) : (eccTestWrite value s).rank ≤ N := by
  unfold eccTestWrite
  (repeat' split) <;> simp [State.rank, *, takeTestCtl_frame, testWrite_rank_le, testRead_rank_le]

theorem execEccTestWrite_rank_le (value : Word) (h : s.rank ≤ N) :
    (resAfter (execEccTestWrite value s) s).rank ≤ N := by
  simp [execEccTestWrite, State.rank, h, eccTestWrite_rank_le]

theorem eccTestRead_rank_le (value : Word) (h : s.rank ≤ N) : (eccTestRead value s).rank ≤ N := by
  unfold eccTestRead
  (repeat' split) <;> simp [State.rank, *, takeTestCtl_frame, testRead_rank_le]

theorem execEccTestRead_rank_le (value : Word) (h : s.rank ≤ N) : (resAfter (execEccTestRead value s) s).rank ≤ N := by
  simp [execEccTestRead, State.rank, h, eccTestRead_rank_le]

/-! ### Energy and the pack -/

theorem eolEval_rank_le (daily : Bool) (h : s.rank ≤ N) : (eolEval daily s).rank ≤ N := by
  unfold eolEval
  (repeat' split) <;> simp +contextual [State.rank, ↓State.rank_ite_le, *, raise_rank_le, setReason_rank_le,
    clearReason_frame]

theorem learnSample_rank_le (x : Nat) (h : s.rank ≤ N) : (learnSample x s).rank ≤ N := by
  simp [learnSample, State.rank, h, wantRek_frame, markStore_frame, eolEval_rank_le]

theorem endCellCycle_rank_le (r : LearnRun) (v : Nat) (h : s.rank ≤ N) : (endCellCycle r v s).rank ≤ N := by
  unfold endCellCycle
  (repeat' split) <;> simp +contextual [State.rank, ↓State.rank_ite_le, *, disqualify_frame, learnSample_rank_le]

theorem endSuperCycle_rank_le (r : LearnRun) (v : Nat) (h : s.rank ≤ N) : (endSuperCycle r v s).rank ≤ N := by
  unfold endSuperCycle
  (repeat' split) <;> simp +contextual [State.rank, ↓State.rank_ite_le, *, disqualify_frame, learnSample_rank_le]

theorem takeReference_rank_le (h : s.rank ≤ N) : (takeReference s).rank ≤ N := by
  unfold takeReference
  (repeat' split) <;> simp [State.rank, *, wantRek_frame, closeWindow_frame, endCellCycle_rank_le]

theorem firstReading_rank_le (h : s.rank ≤ N) : (firstReading s).rank ≤ N := by
  unfold firstReading
  (repeat' split) <;> simp +contextual [State.rank, ↓State.rank_ite_le, *, takeReference_rank_le, startCount_frame]

theorem checkDisagree_rank_le (h : s.rank ≤ N) : (checkDisagree s).rank ≤ N := by
  unfold checkDisagree
  (repeat' split) <;> simp [State.rank, *, raise_rank_le, wantRek_frame, markStore_frame]

theorem takeResistance_rank_le (x : Nat) (h : s.rank ≤ N) : (takeResistance x s).rank ≤ N := by
  simp [takeResistance, State.rank, h, wantRek_frame, markStore_frame, eolEval_rank_le]

theorem stepSample_rank_le (h : s.rank ≤ N) : (stepSample s).rank ≤ N := by
  unfold stepSample
  (repeat' split) <;> simp +contextual [State.rank, ↓State.rank_ite_le, *, takeResistance_rank_le]

theorem endAuth_rank_le (result entry : Nat) (h : s.rank ≤ N) : (endAuth result entry s).rank ≤ N := by
  unfold endAuth
  (repeat' split) <;> simp [State.rank, *, addEvent_frame, event_frame, raise_rank_le, packAlert_frame, wantRek_frame]

theorem beginAuth_rank_le (r : PackReply) (h : s.rank ≤ N) : (beginAuth r s).rank ≤ N := by
  unfold beginAuth
  (repeat' split) <;> simp +contextual [State.rank, ↓State.rank_ite_le, *, endAuth_rank_le, pbReads_frame,
    pbWrite_frame]

theorem chargeStep_rank_le (h : s.rank ≤ N) : (chargeStep s).rank ≤ N := by
  simp only [chargeStep]
  (repeat' split) <;> simp [State.rank, *, raise_rank_le, setCharge_frame, chargePause_frame]

theorem endExercise_rank_le (result : Nat) (h : s.rank ≤ N) : (endExercise result s).rank ≤ N := by
  simp only [endExercise]
  (repeat' split) <;> simp [State.rank, *, markStep_frame, raise_rank_le, markStore_frame, endSuperCycle_rank_le]

theorem packLeft_rank_le (h : s.rank ≤ N) : (packLeft s).rank ≤ N := by
  unfold packLeft
  (repeat' split) <;> simp [State.rank, *, packAlert_frame, wantRek_frame, disqualify_frame, setCharge_frame,
    endExercise_rank_le]

theorem packGone_rank_le (h : s.rank ≤ N) : (packGone s).rank ≤ N := by
  unfold packGone
  extract_lets frozen s1 src s2 s3 s4
  have h3 : s3.rank ≤ N := raise_rank_le _ (by simpa [State.rank, addEvent_frame] using packLeft_rank_le h)
  have h4 : s4.rank ≤ N := by
    simp only [s4]; split <;> simpa [State.rank, reeval_frame, reeval_frame3]
  clear_value s4
  split
  · exact exhausted_rank_le h4
  · exact h4

theorem thermFault_rank_le (ohms : Nat) (h : s.rank ≤ N) : (thermFault ohms s).rank ≤ N := by
  simp [thermFault, State.rank, h, raiseAddr_rank_le]

/-! ### The energy commands -/

theorem readingsTaken_rank_le (before : Nrg) (ohms : Nat) (h : s.rank ≤ N) :
    (readingsTaken before ohms s).rank ≤ N := by
  simp only [readingsTaken]
  (repeat' split) <;> simp [State.rank, *, packLeft_rank_le, packGone_rank_le, thermFault_rank_le]

theorem execPackRemoved_rank_le (packId ohms : Nat) (th0 th1 : Therm) (h : s.rank ≤ N) :
    (resAfter (execPackRemoved packId ohms th0 th1 s) s).rank ≤ N := by
  unfold execPackRemoved
  (repeat' split) <;> simp [State.rank, *, takeReadings_frame, readingsTaken_rank_le]

theorem execPackInserted_rank_le (packId _ohms : Nat) (th0 th1 : Therm) (atBoot : Bool)
    (reply : PackReply) (h : s.rank ≤ N) :
    (resAfter (execPackInserted packId _ohms th0 th1 atBoot reply s) s).rank ≤ N := by
  simp only [execPackInserted]
  (repeat' split) <;> simp [State.rank, *, endAuth_rank_le, beginAuth_rank_le, takeProfile_frame, raiseAddr_rank_le,
    packAlert_frame, takeReadings_frame]

theorem execPackAuthPoll_rank_le (status : Option Nat) (pubkey resp : List Byte) (h : s.rank ≤ N) :
    (resAfter (execPackAuthPoll status pubkey resp s) s).rank ≤ N := by
  simp only [execPackAuthPoll]
  (repeat' split) <;> simp [State.rank, *, advanceTo_frame, endAuth_rank_le, pbReads_frame]

theorem execPackAuthRetry_rank_le (reply : PackReply) (h : s.rank ≤ N) :
    (resAfter (execPackAuthRetry reply s) s).rank ≤ N := by
  unfold execPackAuthRetry
  (repeat' split) <;> simp [State.rank, *, advanceTo_frame, beginAuth_rank_le]

theorem execPackThermSample_rank_le (th0 th1 : Therm) (ohms : Nat) (h : s.rank ≤ N) :
    (resAfter (execPackThermSample th0 th1 ohms s) s).rank ≤ N := by
  simp only [execPackThermSample]
  (repeat' split) <;> simp [State.rank, *, advanceTo_frame, wantRek_frame, markDq_frame, chargePause_frame,
    takeReadings_frame, readingsTaken_rank_le]

theorem superCycle_rank_le (before : Nat) (h : s.rank ≤ N) : (superCycle before s).rank ≤ N := by
  unfold superCycle
  (repeat' split) <;> simp +contextual [State.rank, ↓State.rank_ite_le, *, endSuperCycle_rank_le]

theorem execPackMeasure_rank_le (packMv : Nat) (packMa : Int) (p12vMv : Nat) (limited : Bool) (h : s.rank ≤ N) :
    (resAfter (execPackMeasure packMv packMa p12vMv limited s) s).rank ≤ N := by
  unfold execPackMeasure
  split
  · extract_lets old s1 dt lim most src m s2 s3 s4
    have h2 : s2.rank ≤ N := by simpa [State.rank, s2, s1, countCharge_frame, packAlert_frame, advanceTo_frame]
    have h3 : s3.rank ≤ N := by
      simpa [State.rank, s3, endPulse_frame] using stepSample_rank_le (firstReading_rank_le h2)
    have h4 : s4.rank ≤ N := chargeStep_rank_le (superCycle_rank_le _ (by
      simpa [State.rank, watchRest_frame, checkRate_frame] using h3))
    simpa [State.rank, checkMoved_frame] using checkDisagree_rank_le h4
  · exact h

theorem execPrechargeTimeout_rank_le (h : s.rank ≤ N) : (resAfter (execPrechargeTimeout s) s).rank ≤ N := by
  unfold execPrechargeTimeout
  (repeat' split) <;> simp [State.rank, *, advanceTo_frame, raise_rank_le, setCharge_frame]

theorem execExerciseDue_rank_le (h : s.rank ≤ N) : (resAfter (execExerciseDue s) s).rank ≤ N := by
  unfold execExerciseDue
  (repeat' split) <;> simp [State.rank, *, advanceTo_frame, fireExercise_frame]

theorem execExerciseRetry_rank_le (h : s.rank ≤ N) : (resAfter (execExerciseRetry s) s).rank ≤ N := by
  unfold execExerciseRetry
  (repeat' split) <;> simp [State.rank, *, advanceTo_frame, tryExercise_frame]

theorem execExerciseStart_rank_le (h : s.rank ≤ N) : (resAfter (execExerciseStart s) s).rank ≤ N := by
  simpa [State.rank, execExerciseStart_frame] using h

theorem exerciseAbort_rank_le (h : s.rank ≤ N) : (exerciseAbort s).rank ≤ N := by
  unfold exerciseAbort
  (repeat' split) <;> simp [State.rank, *, chargeStep_rank_le, endExercise_rank_le]

theorem execExerciseAbort_rank_le (h : s.rank ≤ N) : (resAfter (execExerciseAbort s) s).rank ≤ N := by
  simp [execExerciseAbort, State.rank, h, exerciseAbort_rank_le]

theorem execExerciseStopCheck_rank_le (h : s.rank ≤ N) : (resAfter (execExerciseStopCheck s) s).rank ≤ N := by
  simp only [execExerciseStopCheck]
  (repeat' split) <;> simp [State.rank, *, advanceTo_frame, chargeStep_rank_le, endExercise_rank_le]

/-! ### The station commands -/

theorem execGraceExpire_rank_le (block : Block) (cls : Nat) (h : s.rank ≤ N) :
    (resAfter (execGraceExpire block cls s) s).rank ≤ N := by
  unfold execGraceExpire
  (repeat' split) <;> simp [State.rank, *, advanceTo_frame, modStation_frame, escalate_rank_le]

theorem execQuietExpire_rank_le (block : Block) (cls : Nat) (h : s.rank ≤ N) :
    (resAfter (execQuietExpire block cls s) s).rank ≤ N := by
  unfold execQuietExpire
  (repeat' split) <;> simp [State.rank, *, advanceTo_frame, modStation_frame]

theorem execFackWrite_rank_le (block : Block) (value : Word) (h : s.rank ≤ N) :
    (resAfter (execFackWrite block value s) s).rank ≤ N := by
  simpa [State.rank, execFackWrite_frame] using h

theorem execQuarantineEnd_rank_le (block : Block) (h : s.rank ≤ N) :
    (resAfter (execQuarantineEnd block s) s).rank ≤ N := by
  unfold execQuarantineEnd
  (repeat' split) <;> simp [State.rank, *, advanceTo_frame, modStation_frame]

theorem execDevHarbourAckWrite_rank_le (value : Word) (h : s.rank ≤ N) :
    (resAfter (execDevHarbourAckWrite value s) s).rank ≤ N := by
  unfold execDevHarbourAckWrite
  (repeat' split) <;> simp [State.rank, *, acknowledge_rank_le]

/-! ### The gauge commands -/

theorem execResistancePulse_rank_le (h : s.rank ≤ N) : (resAfter (execResistancePulse s) s).rank ≤ N := by
  simp only [execResistancePulse]
  (repeat' split) <;> simp [State.rank, startPulse_frame, advanceTo_frame, h]

theorem execPulseNow_rank_le (h : s.rank ≤ N) : (resAfter (execPulseNow s) s).rank ≤ N := by
  simpa [State.rank, execPulseNow_frame] using h

theorem execGaugeRestReference_rank_le (h : s.rank ≤ N) : (resAfter (execGaugeRestReference s) s).rank ≤ N := by
  simp only [execGaugeRestReference]
  (repeat' split) <;> simp [State.rank, *, advanceTo_frame, takeReference_rank_le]

theorem execForceRef_rank_le (h : s.rank ≤ N) : (resAfter (execForceRef s) s).rank ≤ N := by
  simpa [State.rank, execForceRef_frame] using h

theorem execRestWindowOpen_rank_le (h : s.rank ≤ N) : (resAfter (execRestWindowOpen s) s).rank ≤ N := by
  simpa [State.rank, execRestWindowOpen_frame] using h

theorem execRestWindowTimeout_rank_le (h : s.rank ≤ N) : (resAfter (execRestWindowTimeout s) s).rank ≤ N := by
  unfold execRestWindowTimeout
  (repeat' split) <;> simp [State.rank, *, advanceTo_frame, closeWindow_frame]

theorem execEstimatorStale_rank_le (h : s.rank ≤ N) : (resAfter (execEstimatorStale s) s).rank ≤ N := by
  unfold execEstimatorStale
  (repeat' split) <;> simp [State.rank, *, event_frame, advanceTo_frame, raise_rank_le, wantRek_frame, markStore_frame]

theorem execCapacityDerate_rank_le (h : s.rank ≤ N) : (resAfter (execCapacityDerate s) s).rank ≤ N := by
  unfold execCapacityDerate
  (repeat' split) <;> simp [State.rank, *, advanceTo_frame]

theorem execGaugeRecordStore_rank_le (pass : Bool) (h : s.rank ≤ N) :
    (resAfter (execGaugeRecordStore pass s) s).rank ≤ N := by
  unfold execGaugeRecordStore
  (repeat' split) <;> simp [State.rank, *, advanceTo_frame, raise_rank_le]

theorem execReckoningRun_rank_le (h : s.rank ≤ N) : (resAfter (execReckoningRun s) s).rank ≤ N := by
  simp only [execReckoningRun]
  (repeat' split) <;> simp [State.rank, *, reckon_frame, checkDisagree_rank_le, advanceTo_frame]

theorem execReckoningPublish_rank_le (h : s.rank ≤ N) : (resAfter (execReckoningPublish s) s).rank ≤ N := by
  simp only [execReckoningPublish]
  (repeat' split) <;> simp [State.rank, *, event_frame, reeval_frame, reeval_frame3, raiseAddr_rank_le,
    reevalStalled_rank_le]

theorem execRekRun_rank_le (h : s.rank ≤ N) : (resAfter (execRekRun s) s).rank ≤ N := by
  simpa [State.rank, execRekRun_frame] using h

theorem execPackEolEval_rank_le (h : s.rank ≤ N) : (resAfter (execPackEolEval s) s).rank ≤ N := by
  unfold execPackEolEval
  (repeat' split) <;> simp [State.rank, *, advanceTo_frame, eolEval_rank_le]

/-! ### The host commands -/

theorem execHostLinkReset_rank_le (kind : LinkResetKind) (h : s.rank ≤ N) :
    (resAfter (execHostLinkReset kind s) s).rank ≤ N := by
  simpa [State.rank, execHostLinkReset_frame] using h

theorem execHostLinkTrained_rank_le (vers rates widths : Nat) (answers msixEnable : Bool)
    (msixMask : Word) (h : s.rank ≤ N) :
    (resAfter (execHostLinkTrained vers rates widths answers msixEnable msixMask s) s).rank ≤ N := by
  simpa [State.rank, execHostLinkTrained_frame] using h

theorem execHdmDecoderCommit_rank_le (index base : Nat) (size ways : Nat) (gran pos : Nat)
    (h : s.rank ≤ N) : (resAfter (execHdmDecoderCommit index base size ways gran pos s) s).rank ≤ N := by
  simpa [State.rank, execHdmDecoderCommit_frame] using h

theorem execHostWriteRequest_rank_le (tag hpa : Nat) (data : List Byte) (enables : Dword) (poison : Bool)
    (parityBad : Bool) (h : s.rank ≤ N) :
    (resAfter (execHostWriteRequest tag hpa data enables poison parityBad s) s).rank ≤ N := by
  simpa [State.rank, execHostWriteRequest_frame] using h

theorem presentClaim_rank_le (tag t : Nat) (c : SuiteCtx) (h : s.rank ≤ N) : (presentClaim tag t c s).rank ≤ N := by
  unfold presentClaim
  (repeat' split) <;> simp [State.rank, *, modWrite_frame, grantClaim_rank_le, stallClaim_frame]

theorem execClaimPresent_rank_le (tag : Nat) (h : s.rank ≤ N) : (resAfter (execClaimPresent tag s) s).rank ≤ N := by
  unfold execClaimPresent
  (repeat' split) <;> simp [State.rank, *, presentClaim_rank_le]

theorem execHostWriteAccept_rank_le (tag : Nat) (h : s.rank ≤ N) :
    (resAfter (execHostWriteAccept tag s) s).rank ≤ N := by
  unfold execHostWriteAccept
  (repeat' split) <;> simp [State.rank, *, discard_frame, dropWrite_frame, admitWrites_frame, acceptWrite_rank_le]

theorem execVolatileFillDone_rank_le (tile : Nat) (h : s.rank ≤ N) :
    (resAfter (execVolatileFillDone tile s) s).rank ≤ N := by
  simpa [State.rank, execVolatileFillDone_frame] using h

theorem execDiscardWindowEnd_rank_le (h : s.rank ≤ N) : (resAfter (execDiscardWindowEnd s) s).rank ≤ N := by
  refine foldl_rank_le _ _ (fun s k hs => ?_) ?_
  · split <;> simpa [State.rank, event_frame]
  · split <;> simpa [State.rank, advanceTo_frame]

theorem execHostRead_rank_le (tag hpa : Nat) (h : s.rank ≤ N) : (resAfter (execHostRead tag hpa s) s).rank ≤ N := by
  simpa [State.rank, execHostRead_frame] using h

theorem execGpfPhase1_rank_le (h : s.rank ≤ N) : (resAfter (execGpfPhase1 s) s).rank ≤ N := by
  simpa [State.rank, execGpfPhase1_frame] using h

theorem execGpfPhase2_rank_le (h : s.rank ≤ N) : (resAfter (execGpfPhase2 s) s).rank ≤ N := by
  simpa [State.rank, execGpfPhase2_frame] using h

theorem execGpfPhase2Drained_rank_le (h : s.rank ≤ N) : (resAfter (execGpfPhase2Drained s) s).rank ≤ N := by
  simpa [State.rank, execGpfPhase2Drained_frame] using h

theorem execIdeKeyProgram_rank_le (ioSecure memSecure : Bool) (h : s.rank ≤ N) :
    (resAfter (execIdeKeyProgram ioSecure memSecure s) s).rank ≤ N := by
  simpa [State.rank, execIdeKeyProgram_frame] using h

theorem execIdeIntegrityFailure_rank_le (stream : Nat) (h : s.rank ≤ N) :
    (resAfter (execIdeIntegrityFailure stream s) s).rank ≤ N := by
  simp [execIdeIntegrityFailure, State.rank, h, event_frame, reeval_frame, reeval_frame3, raise_rank_le,
    poisonedRead_frame, discardAll_frame]

/-! ### The update steps -/

theorem setPhase_rank_le (p bank : Nat) (h : s.rank ≤ N) : (setPhase p bank s).rank ≤ N := by
  unfold setPhase
  (repeat' split) <;> simp [State.rank, *, logRecord_rank_le]

theorem beginProbation_rank_le (b : Nat) (h : s.rank ≤ N) : (beginProbation b s).rank ≤ N := by
  simp [beginProbation, State.rank, h, setPhase_rank_le]

theorem resumeHandover_rank_le (h : s.rank ≤ N) : (resumeHandover s).rank ≤ N := by
  unfold resumeHandover
  (repeat' split) <;> simp [State.rank, *, payOwed_frame, beginProbation_rank_le]

theorem confirmSet_rank_le (first second : Bool) (h : s.rank ≤ N) : (confirmSet first second s).2.2.rank ≤ N := by
  have hf : ∀ (k : Nat) (u : State), u.rank ≤ N → (setPhase 4 k (raiseAddr svcConfirmFail k mNone 0 u)).rank ≤ N :=
    fun k u hu => setPhase_rank_le _ _ (raiseAddr_rank_le _ _ _ _ hu)
  simp only [confirmSet]
  (repeat' split) <;> simp [State.rank, hf, setPhase_rank_le, raiseAddr_rank_le, programMarker_frame, migrate_frame, h]

/-! ### Losses and the log -/

theorem reportLosses_rank_le (h : s.rank ≤ N) : (reportLosses s).rank ≤ N := by
  simp only [reportLosses]
  (repeat' split) <;> simp [State.rank, *, logRecord_rank_le]

theorem writeRecords_rank_le (h : s.rank ≤ N) : (writeRecords s).rank ≤ N := by
  simp only [writeRecords]
  refine foldl_rank_le _ _ (fun s r h => by simpa [State.rank, ringWriteRec_frame, ringWriteRec_frame3]) ?_
  split
  · simpa [State.rank] using reportLosses_rank_le h
  · exact h

/-! ### The log commands -/

theorem execAlmanacColdRestore_rank_le (h : s.rank ≤ N) : (resAfter (execAlmanacColdRestore s) s).rank ≤ N := by
  simpa [State.rank, execAlmanacColdRestore_frame] using h

theorem execLogRecordWrite_rank_le (h : s.rank ≤ N) : (resAfter (execLogRecordWrite s) s).rank ≤ N := by
  unfold execLogRecordWrite
  (repeat' split) <;> simp [State.rank, *, writeRecords_rank_le]

theorem execColdLoss_rank_le (h : s.rank ≤ N) : (resAfter (execColdLoss s) s).rank ≤ N := by
  simpa [State.rank, execColdLoss_frame] using h

/-! ### Mirror sets -/

theorem splitCheck_rank_le (k : Nat) (h : s.rank ≤ N) : (splitCheck k s).rank ≤ N := by
  unfold splitCheck
  simp +contextual [State.rank, ↓State.rank_ite_le, h, raiseAddr_rank_le, modSet_frame]

theorem settle_rank_le (k role epoch : Nat) (h : s.rank ≤ N) : (settle k role epoch s).rank ≤ N := by
  unfold settle
  (repeat' split) <;> simp +contextual [State.rank, ↓State.rank_ite_le, *, startResync_frame, startStandby_frame,
    programRole_frame, splitCheck_rank_le]

theorem helloSet_rank_le (fresh : Bool) (k : Nat) (p : PeerSet) (h : s.rank ≤ N) : (helloSet fresh k p s).rank ≤ N := by
  simp only [helloSet]
  (repeat' split) <;> simp [State.rank, *, raiseAddr_rank_le, modSet_frame, settle_rank_le]

theorem settleLate_rank_le (k : Nat) (h : s.rank ≤ N) : (settleLate k s).rank ≤ N := by
  unfold settleLate
  (repeat' split) <;> simp +contextual [State.rank, ↓State.rank_ite_le, *, modSet_frame, settle_rank_le]

theorem endDrill_rank_le (k outcome : Nat) (h : s.rank ≤ N) : (endDrill k outcome s).rank ≤ N := by
  unfold endDrill
  (repeat' split) <;> simp [State.rank, *, raiseAddr_rank_le, modSet_frame]

theorem loseSet_rank_le (parting judged : Bool) (k : Nat) (h : s.rank ≤ N) :
    (loseSet parting judged k s).rank ≤ N := by
  simp only [loseSet]
  (repeat' split) <;> simp [State.rank, *, notify_frame, event_frame, raiseAddr_rank_le, modSet_frame,
    changeSet_frame, endDrill_rank_le, promote_frame]

theorem loseContact_rank_le (parting : Bool) (h : s.rank ≤ N) : (loseContact parting s).rank ≤ N := by
  unfold loseContact
  (repeat' split) <;> simp +contextual [State.rank, *, foldl_rank_le, loseSet_rank_le]

theorem linkDown_rank_le (h : s.rank ≤ N) : (linkDown s).rank ≤ N := by
  simp [linkDown, State.rank, h, raise_rank_le, loseContact_rank_le]

/-! ### The partner commands -/

theorem execKlTrained_rank_le (peerMax peerMin : Nat) (h : s.rank ≤ N) :
    (resAfter (execKlTrained peerMax peerMin s) s).rank ≤ N := by
  simp only [execKlTrained]
  (repeat' split) <;> simp [State.rank, *, emit_frame, raise_rank_le, sendHello_frame]

theorem execRevRetry_rank_le (h : s.rank ≤ N) : (resAfter (execRevRetry s) s).rank ≤ N := by
  unfold execRevRetry
  (repeat' split) <;> simp [State.rank, *, advanceTo_frame]

theorem execHelloMessage_rank_le (partner : Nat) (ident : List Byte) (peers : List PeerSet) (h : s.rank ≤ N) :
    (resAfter (execHelloMessage partner ident peers s) s).rank ≤ N := by
  unfold execHelloMessage
  (repeat' split) <;> simp +contextual [State.rank, *, foldl_rank_le, helloSet_rank_le]

theorem execFlitReceive_rank_le (crcOk : Bool) (fseq hbState : Nat) (hbCount : Option Nat) (h : s.rank ≤ N) :
    (resAfter (execFlitReceive crcOk fseq hbState hbCount s) s).rank ≤ N := by
  simp only [execFlitReceive]
  (repeat' split) <;> simp [State.rank, *, raise_rank_le]

theorem execLinkRetrainEnd_rank_le (ok : Bool) (h : s.rank ≤ N) : (resAfter (execLinkRetrainEnd ok s) s).rank ≤ N := by
  unfold execLinkRetrainEnd
  (repeat' split) <;> simp [State.rank, *, linkDown_rank_le]

theorem execCreditMessage_rank_le (inStep resync : Nat) (h : s.rank ≤ N) :
    (resAfter (execCreditMessage inStep resync s) s).rank ≤ N := by
  simpa [State.rank, execCreditMessage_frame] using h

theorem execPartnerForwardSend_rank_le (h : s.rank ≤ N) : (resAfter (execPartnerForwardSend s) s).rank ≤ N := by
  simpa [State.rank, execPartnerForwardSend_frame] using h

theorem enterPartner_rank_le (k : Nat) (w : BeatWrite) (resync : Bool) (n : Nat) (h : s.rank ≤ N) :
    (enterPartner k w resync n s).rank ≤ N := by
  unfold enterPartner
  (repeat' split) <;> simp [State.rank, *, emit_frame, listPoison_frame, unlistBeat_frame, writeEvent_rank_le,
    modSet_frame, rtNoted_frame]

theorem execPartnerWriteEntry_rank_le (set wseq beat : Nat) (data : List Byte) (enables : Dword)
    (poison resync : Bool) (h : s.rank ≤ N) :
    (resAfter (execPartnerWriteEntry set wseq beat data enables poison resync s) s).rank ≤ N := by
  simp only [execPartnerWriteEntry]
  (repeat' split) <;> simp [State.rank, roleSteps_frame, enterPartner_rank_le, h]

theorem execAckMessage_rank_le (set wseq : Nat) (h : s.rank ≤ N) :
    (resAfter (execAckMessage set wseq s) s).rank ≤ N := by
  simpa [State.rank, execAckMessage_frame] using h

theorem sendWatch_rank_le (k : Nat) (h : s.rank ≤ N) : (sendWatch k s).rank ≤ N := by
  unfold sendWatch
  simp +contextual [State.rank, ↓State.rank_ite_le, h, emit_frame, raiseAddr_rank_le, modSet_frame]

theorem execWatchSend_rank_le (h : s.rank ≤ N) : (resAfter (execWatchSend s) s).rank ≤ N := by
  unfold execWatchSend
  (repeat' split) <;> simp +contextual [State.rank, *, foldl_rank_le, advanceTo_frame, sendWatch_rank_le]

theorem applyWatchPoison_rank_le (r : WatchPoison) (h : s.rank ≤ N) : (applyWatchPoison r s).rank ≤ N := by
  unfold applyWatchPoison
  (repeat' split) <;> simp [State.rank, *, listPoison_frame, unlistBeat_frame, writeEvent_rank_le, poisonBeat_frame,
    markBuffered_frame]

theorem execWatchMessage_rank_le (w : Watch) (h : s.rank ≤ N) : (resAfter (execWatchMessage w s) s).rank ≤ N := by
  have hl : (w.poison.foldl (fun s r => applyWatchPoison r s) s).rank ≤ N :=
    foldl_rank_le _ _ (fun s r h => applyWatchPoison_rank_le r h) h
  simp only [execWatchMessage]
  (repeat' split) <;> simp [State.rank, modSet_frame, changeSet_frame, hl, h]

theorem execWatchAckMessage_rank_le (no : Nat) (h : s.rank ≤ N) : (resAfter (execWatchAckMessage no s) s).rank ≤ N := by
  unfold execWatchAckMessage
  split
  · refine foldl_rank_le _ _ (fun s k hs => ?_) h
    (repeat' split) <;> simp [State.rank, modSet_frame, hs]
  · exact h

theorem execHeartbeatSend_rank_le (h : s.rank ≤ N) : (resAfter (execHeartbeatSend s) s).rank ≤ N := by
  simp only [execHeartbeatSend]
  (repeat' split) <;> simp [State.rank, emit_frame, advanceTo_frame, h]

theorem execContactTimeout_rank_le (h : s.rank ≤ N) : (resAfter (execContactTimeout s) s).rank ≤ N := by
  unfold execContactTimeout
  (repeat' split) <;> simp [State.rank, *, advanceTo_frame, loseContact_rank_le]

theorem execPartingMessage_rank_le (cause : Nat) (h : s.rank ≤ N) :
    (resAfter (execPartingMessage cause s) s).rank ≤ N := by
  unfold execPartingMessage
  (repeat' split) <;> simp [State.rank, *, loseContact_rank_le]

theorem execPairWaitExpire_rank_le (h : s.rank ≤ N) : (resAfter (execPairWaitExpire s) s).rank ≤ N := by
  unfold execPairWaitExpire
  (repeat' split) <;> simp +contextual [State.rank, ↓State.rank_ite_le, *, foldl_rank_le, advanceTo_frame,
    raiseAddr_rank_le, changeSet_frame, programRole_frame]

theorem roleTaken_rank_le (k : Nat) (r : RoleRun) (h : s.rank ≤ N) : (roleTaken k r s).rank ≤ N := by
  simp only [roleTaken]
  (repeat' split) <;> simp [State.rank, *, emit_frame, modSet_frame, changeSet_frame, startResync_frame,
    startStandby_frame, splitCheck_rank_le, endDrill_rank_le]

theorem execRoleRecordProgrammed_rank_le (set : Nat) (pass : Bool) (h : s.rank ≤ N) :
    (resAfter (execRoleRecordProgrammed set pass s) s).rank ≤ N := by
  simp only [execRoleRecordProgrammed]
  (repeat' split) <;> simp [State.rank, *, settleLate_rank_le, roleSteps_frame, handStep_frame, putRole_frame,
    roleTaken_rank_le]

theorem execLanternAbandon_rank_le (h : s.rank ≤ N) : (resAfter (execLanternAbandon s) s).rank ≤ N := by
  simp only [execLanternAbandon]
  (repeat' split) <;> simp [State.rank, *, raise_rank_le, modSet_frame, promote_frame, drillReport_frame]

theorem execLanternStuck_rank_le (h : s.rank ≤ N) : (resAfter (execLanternStuck s) s).rank ≤ N := by
  unfold execLanternStuck
  (repeat' split) <;> simp [State.rank, *, raise_rank_le, drillReport_frame]

theorem execLanternToggling_rank_le (h : s.rank ≤ N) : (resAfter (execLanternToggling s) s).rank ≤ N := by
  simpa [State.rank, execLanternToggling_frame] using h

theorem execResyncTileCopy_rank_le (set : Nat) (equal : List Nat) (h : s.rank ≤ N) :
    (resAfter (execResyncTileCopy set equal s) s).rank ≤ N := by
  simpa [State.rank, execResyncTileCopy_frame] using h

theorem execDigestMessage_rank_le (tile : Nat) (digest : List Byte) (h : s.rank ≤ N) :
    (resAfter (execDigestMessage tile digest s) s).rank ≤ N := by
  simpa [State.rank, execDigestMessage_frame] using h

theorem execDiffMessage_rank_le (tile : Nat) (h : s.rank ≤ N) : (resAfter (execDiffMessage tile s) s).rank ≤ N := by
  simpa [State.rank, execDiffMessage_frame] using h

theorem execHandoverBoundary_rank_le (set : Nat) (h : s.rank ≤ N) :
    (resAfter (execHandoverBoundary set s) s).rank ≤ N := by
  unfold execHandoverBoundary
  (repeat' split) <;> simp [State.rank, *, advanceTo_frame, modSet_frame, changeSet_frame, handStep_frame]

theorem execHandoverMessage_rank_le (set epoch last : Nat) (h : s.rank ≤ N) :
    (resAfter (execHandoverMessage set epoch last s) s).rank ≤ N := by
  simpa [State.rank, execHandoverMessage_frame] using h

theorem execTakenMessage_rank_le (set epoch : Nat) (h : s.rank ≤ N) :
    (resAfter (execTakenMessage set epoch s) s).rank ≤ N := by
  simp only [execTakenMessage]
  (repeat' split) <;> simp [State.rank, *, modSet_frame, changeSet_frame, endDrill_rank_le]

theorem execHomeReqSend_rank_le (set : Nat) (h : s.rank ≤ N) : (resAfter (execHomeReqSend set s) s).rank ≤ N := by
  simpa [State.rank, execHomeReqSend_frame] using h

theorem execHomeReqMessage_rank_le (set : Nat) (h : s.rank ≤ N) : (resAfter (execHomeReqMessage set s) s).rank ≤ N := by
  simpa [State.rank, execHomeReqMessage_frame] using h

theorem execDrillMessage_rank_le (set phase result : Nat) (h : s.rank ≤ N) :
    (resAfter (execDrillMessage set phase result s) s).rank ≤ N := by
  simpa [State.rank, execDrillMessage_frame] using h

theorem execDrillPhaseEnd_rank_le (set : Nat) (h : s.rank ≤ N) : (resAfter (execDrillPhaseEnd set s) s).rank ≤ N := by
  simp only [execDrillPhaseEnd]
  (repeat' split) <;> simp [State.rank, *, emit_frame, advanceTo_frame, endDrill_rank_le, drillHandover_frame]

/-! ### The restore commands -/

theorem execFloorPlanLoad_rank_le (h : s.rank ≤ N) : (resAfter (execFloorPlanLoad s) s).rank ≤ N := by
  unfold execFloorPlanLoad
  (repeat' split) <;> simp [State.rank, *, loadPlan_rank_le]

theorem execFloorPlanApply_rank_le (h : s.rank ≤ N) : (resAfter (execFloorPlanApply s) s).rank ≤ N := by
  unfold execFloorPlanApply
  (repeat' split) <;> simp [State.rank, *, applyPlan_rank_le]

theorem readLastSave_rank_le (h : s.rank ≤ N) : (readLastSave s).rank ≤ N := by
  unfold readLastSave
  split
  · exact h
  · extract_lets fresh s1 s2
    have h2 : s2.rank ≤ N := by
      simp only [s2, s1]
      split <;> simp [State.rank, recordDirty_frame, raise_rank_le, countSave_frame, loadLastSave_frame, h]
    clear_value s2
    split <;> simpa [State.rank, wantRek_frame, saveReport_frame, measureCost_frame]

theorem loseKeys_rank_le (l : List Nat) (h : s.rank ≤ N) : (loseKeys l s).rank ≤ N := by
  simp +contextual [loseKeys, State.rank, h, foldl_rank_le, raise_rank_le, generateKeys_frame]

theorem execMetaReadDone_rank_le (lostPages lostKeys : List Nat) (bad : MetaBad) (h : s.rank ≤ N) :
    (resAfter (execMetaReadDone lostPages lostKeys bad s) s).rank ≤ N := by
  unfold execMetaReadDone
  split
  · extract_lets s0 src s1 s2 lost s3 src' s4 s5 s6 s7 s8 src'' s9
    have h4 : s4.rank ≤ N := by
      simpa [State.rank, s4, s3, s2, s1, loadRoles_frame, loadCounters_frame, loadMaps_frame, loadCheckpoint_frame]
    have h5 : s5.rank ≤ N := by
      simp only [s5]; split
      · exact h4
      · exact raise_rank_le _ h4
    have h6 : s6.rank ≤ N := by
      simp only [s6]; split
      · exact h5
      · exact loseKeys_rank_le _ h5
    have h7 : s7.rank ≤ N := foldl_rank_le _ _ (fun s d h => raiseAddr_rank_le _ _ _ _ h) h6
    have h9 : s9.rank ≤ N := by simpa [State.rank, s9, s8, stepAlmanac_frame] using h7
    refine spareAtBoot_rank_le ?_
    simpa [State.rank, patrolAtBoot_frame, noteReadyAny_frame] using readLastSave_rank_le h9
  · exact h

theorem holdBoot_rank_le (h : s.rank ≤ N) : (holdBoot s).rank ≤ N := by
  simp [holdBoot, State.rank, h, raiseAddr_rank_le]

theorem decideRestore_rank_le (s : State) (h1 : 1 ≤ N) : (decideRestore s).rank ≤ N := by
  have ht : ∀ u : State, (transition .restore 0x02 u).rank ≤ N := fun u => by
    simpa [State.rank, imageRank_eq_one] using h1
  simp only [decideRestore]
  split
  · simpa [State.rank, recordDirty_frame] using raise_rank_le savNoHeader (ht _)
  · exact ht _

theorem decide_rank_le (h : s.rank ≤ N) (h1 : 1 ≤ N) : (decide_ s).rank ≤ N := by
  unfold decide_
  simp +contextual [State.rank, ↓State.rank_ite_le, h, h1, decideHalf_frame, holdBoot_rank_le, decideRestore_rank_le]

theorem execRestoreDecision_rank_le (h : s.rank ≤ N) : (resAfter (execRestoreDecision s) s).rank ≤ N := by
  have h1 : decisionDue s = true → 1 ≤ N := fun hd => State.one_le_of_rank_le (by simp_all [decisionDue]) h
  unfold execRestoreDecision
  repeat' split
  · exact decide_rank_le h (h1 ‹_›)
  all_goals exact h

theorem execZeroFillDone_rank_le (h : s.rank ≤ N) : (resAfter (execZeroFillDone s) s).rank ≤ N := by
  have h1 : s.dev.state ≠ .drydock → 1 ≤ N := fun hs => State.one_le_of_rank_le hs h
  unfold execZeroFillDone
  split <;> simp_all [State.rank, openService_rank_le]

theorem raiseTimes_rank_le (c : FClass) (addr k : Nat) (h : s.rank ≤ N) : (raiseTimes c addr k s).rank ≤ N := by
  induction k generalizing s with
  | zero => exact h
  | succ k ih => exact ih (raiseAddr_rank_le _ _ _ _ h)

theorem execRestorePresetDone_rank_le (badOwn badBase : List Nat) (mapBad : Bool) (h : s.rank ≤ N) :
    (resAfter (execRestorePresetDone badOwn badBase mapBad s) s).rank ≤ N := by
  unfold execRestorePresetDone
  split
  · rename_i hc
    have h1 : 1 ≤ N := State.one_le_of_rank_le (fun hd => by simp [restoring, hd] at hc) h
    extract_lets r lostMap v s1 s2 s3 s4 ov ovBase v' v'' s5 s6 v3 v4 s7
    have h2 : s2.rank ≤ N := by
      simp only [s2]; split
      · exact raiseTimes_rank_le _ _ _ h
      · exact h
    have h3 : s3.rank ≤ N := by
      simp only [s3]; split
      · exact raiseTimes_rank_le _ _ _ h2
      · exact h2
    have h4 : s4.rank ≤ N := by
      simp only [s4]; (repeat' split) <;> simp [State.rank, raiseAddr_rank_le, h3]
    have h7 : s7.rank ≤ N := by simpa [State.rank, s7, s6, s5, presetTiles_frame, noteSearch_frame] using h4
    clear_value s7
    split <;> simp [State.rank, restoreComplete_rank_le, h7, h1]
  · exact h

theorem execEarlyTenancyEntry_rank_le (h : s.rank ≤ N) : (resAfter (execEarlyTenancyEntry s) s).rank ≤ N := by
  unfold execEarlyTenancyEntry
  split
  · have h1 := State.one_le_of_rank_le (by simp_all) h
    simpa [State.rank, eraseReleased_frame, reeval_frame, reeval_frame3, imageRank_eq_one] using h1
  · exact h

theorem execRestoreTileWritten_rank_le (tile : Nat) (halfBad imageBad : Bool) (h : s.rank ≤ N) :
    (resAfter (execRestoreTileWritten tile halfBad imageBad s) s).rank ≤ N := by
  have h1 : restoring s = true → 1 ≤ N := fun hr => State.one_le_of_rank_le (fun hd => by simp [restoring, hd] at hr) h
  have hw : (writeRestored tile (restoredTile s tile halfBad imageBad)
      ((sourceDie s tile).elim s fun d => dieWorks d s)).rank ≤ N :=
    writeRestored_rank_le _ _ (by cases sourceDie s tile <;> simpa [State.rank, dieWorks_frame])
  simp only [execRestoreTileWritten]
  (repeat' split) <;> simp_all [State.rank, afterTile_rank_le, callTile_frame, reeval_frame, reeval_frame3]

theorem execFoldStart_rank_le (h : s.rank ≤ N) : (resAfter (execFoldStart s) s).rank ≤ N := by
  simpa [State.rank, execFoldStart_frame] using h

/-! ### The save commands -/

theorem execStaggerElapsed_rank_le (h : s.rank ≤ N) : (resAfter (execStaggerElapsed s) s).rank ≤ N := by
  unfold execStaggerElapsed
  (repeat' split) <;> simp [State.rank, *, advanceTo_frame]

theorem execDrainComplete_rank_le (h : s.rank ≤ N) : (resAfter (execDrainComplete s) s).rank ≤ N := by
  simpa [State.rank, execDrainComplete_frame] using h

theorem beginSave_rank_le (h : s.rank ≤ N) : (beginSave s).rank ≤ N := by
  simp only [beginSave]
  (repeat' split) <;> simp [State.rank, *, modHalf_frame, raise_rank_le]

theorem execSavingEntry_rank_le (h : s.rank ≤ N) : (resAfter (execSavingEntry s) s).rank ≤ N := by
  have hb : 1 ≤ N → ∀ u : State, (beginSave (settleTiles (transition .saving 0x0A u))).rank ≤ N := fun h1 u =>
    beginSave_rank_le (by simpa [State.rank, settleTiles_frame, imageRank_eq_one] using h1)
  have h1 : s.dev.state ≠ .drydock → 1 ≤ N := fun hs => State.one_le_of_rank_le hs h
  simp only [execSavingEntry]
  (repeat' split) <;> simp_all [State.rank, exhausted_rank_le]

theorem execSaveHeaderDone_rank_le (h : s.rank ≤ N) : (resAfter (execSaveHeaderDone s) s).rank ≤ N := by
  simpa [State.rank, execSaveHeaderDone_frame] using h

theorem execSaveTileRead_rank_le (h : s.rank ≤ N) : (resAfter (execSaveTileRead s) s).rank ≤ N := by
  unfold execSaveTileRead
  split
  · extract_lets s1 src s2
    have h2 : s2.rank ≤ N := by simp only [s2, s1]; split <;> simpa [State.rank, programList_frame]
    clear_value s2
    split
    · exact h2
    · split
      · exact h2
      · simp only
        generalize nextFlight _ _ = slot
        have h3 : ∀ (o : Option Nat) (f : Nat → Nat), (o.elim s2 fun x => dieWorks (f x) s2).rank ≤ N := fun o f => by
          cases o <;> simpa [State.rank, dieWorks_frame]
        (repeat' split) <;> simp [State.rank, h2, h3, halfFull_rank_le, callTile_frame, selfRefreshRead_frame,
          readTile_frame]
  · exact h

theorem fullProgramEnd_rank_le (idx : Nat) (h : s.rank ≤ N) : (fullProgramEnd idx s).rank ≤ N := by
  unfold fullProgramEnd
  (repeat' split) <;> simp [State.rank, *, raiseAddr_rank_le, startCopy_frame, modRun_frame]

theorem execSaveTileDone_rank_le (index us : Nat) (pass : Bool) (h : s.rank ≤ N) :
    (resAfter (execSaveTileDone index us pass s) s).rank ≤ N := by
  unfold execSaveTileDone
  (repeat' split) <;> simp [State.rank, *, notePslc_frame, halfProgramEnd_rank_le, fullProgramEnd_rank_le,
    noteLeft_frame]

theorem rateStep_rank_le (i : Int) (v kind : Nat) (h : s.rank ≤ N) : (rateStep i v kind s).rank ≤ N := by
  simp only [rateStep]
  (repeat' split) <;> simp [State.rank, *, modRun_frame, exhausted_rank_le]

theorem execSaveRateTick_rank_le (packMa : Int) (packMv : Nat) (h : s.rank ≤ N) :
    (resAfter (execSaveRateTick packMa packMv s) s).rank ≤ N := by
  simp only [execSaveRateTick]
  (repeat' split) <;> simp_all [State.rank, advanceTo_frame, rateStep_rank_le]

theorem execPackExhausted_rank_le (h : s.rank ≤ N) : (resAfter (execPackExhausted s) s).rank ≤ N := by
  unfold execPackExhausted
  (repeat' split) <;> simp [State.rank, *, exhausted_rank_le]

theorem execVbusLowTimeout_rank_le (h : s.rank ≤ N) : (resAfter (execVbusLowTimeout s) s).rank ≤ N := by
  unfold execVbusLowTimeout
  (repeat' split) <;> simp [State.rank, *, exhausted_rank_le]

theorem execKeeperBusError_rank_le (fromAttic : Bool) (h : s.rank ≤ N) :
    (resAfter (execKeeperBusError fromAttic s) s).rank ≤ N := by
  unfold execKeeperBusError
  (repeat' split) <;> simp [State.rank, *, keeperStops_rank_le]

theorem sealFailed_rank_le (r : SaveRun) (h : s.rank ≤ N) : (sealFailed r s).rank ≤ N := by
  unfold sealFailed
  (repeat' split) <;> simp [State.rank, *, retireBlock_rank_le, noteRetire_frame]

theorem execSaveSealDone_rank_le (pass : Bool) (h : s.rank ≤ N) : (resAfter (execSaveSealDone pass s) s).rank ≤ N := by
  have h1 : s.dev.state ≠ .drydock → 1 ≤ N := fun hs => State.one_le_of_rank_le hs h
  unfold execSaveSealDone
  (repeat' split) <;> simp_all [State.rank, sealPassed_rank_le, resumeRebuild_frame, raiseAddr_rank_le,
    sealFailed_rank_le]

theorem execWarmReturnComplete_rank_le (h : s.rank ≤ N) : (resAfter (execWarmReturnComplete s) s).rank ≤ N := by
  have h1 : s.dev.state ≠ .drydock → 1 ≤ N := fun hs => State.one_le_of_rank_le hs h
  unfold execWarmReturnComplete
  split <;> simp_all [State.rank, openService_rank_le, resumeHandover_rank_le]

theorem execServiceOpenProgrammed_rank_le (h : s.rank ≤ N) : (resAfter (execServiceOpenProgrammed s) s).rank ≤ N := by
  simpa [State.rank, execServiceOpenProgrammed_frame] using h

theorem execHalfEraseDone_rank_le (half : Half) (h : s.rank ≤ N) :
    (resAfter (execHalfEraseDone half s) s).rank ≤ N := by
  simpa [State.rank, execHalfEraseDone_frame] using h

theorem execPrecautionStart_rank_le (h : s.rank ≤ N) : (resAfter (execPrecautionStart s) s).rank ≤ N := by
  simpa [State.rank, execPrecautionStart_frame] using h

theorem execPrecautionEnd_rank_le (h : s.rank ≤ N) : (resAfter (execPrecautionEnd s) s).rank ≤ N := by
  unfold execPrecautionEnd
  (repeat' split) <;> simp [State.rank, *, modHalf_frame, modRec_frame, retireFailed_rank_le, endPrecaution_rank_le]

theorem execPrecautionWaitTimeout_rank_le (h : s.rank ≤ N) : (resAfter (execPrecautionWaitTimeout s) s).rank ≤ N := by
  unfold execPrecautionWaitTimeout
  (repeat' split) <;> simp [State.rank, *, advanceTo_frame, endPrecaution_rank_le]

/-! ### The stow commands -/

theorem execSweepVisit_rank_le (h : s.rank ≤ N) : (resAfter (execSweepVisit s) s).rank ≤ N := by
  simpa [State.rank, execSweepVisit_frame] using h

theorem execStowStart_rank_le (h : s.rank ≤ N) : (resAfter (execStowStart s) s).rank ≤ N := by
  simpa [State.rank, execStowStart_frame] using h

theorem deliver_rank_le (pass : Bool) (t : Nat) (h : s.rank ≤ N) : (deliver pass t s).rank ≤ N := by
  unfold deliver
  simp +contextual [State.rank, ↓State.rank_ite_le, h, completeTile_frame, raiseAddr_rank_le]

theorem execStowCompletion_rank_le (room : Nat) (h : s.rank ≤ N) :
    (resAfter (execStowCompletion room s) s).rank ≤ N := by
  unfold execStowCompletion
  split
  · extract_lets failed recs copies rest v s1 s2 s3
    have hd : ∀ (pass : Bool) (l : List (Nat × Nat × CopySrc)) (u : State), u.rank ≤ N →
        (l.foldl (fun s x => deliver pass x.1 s) u).rank ≤ N := fun pass l u =>
      foldl_rank_le _ _ fun s x h => deliver_rank_le _ _ h
    have h2 : s2.rank ≤ N := foldl_rank_le _ _ (fun s r h => hd _ _ _ (by
      split <;> simpa [State.rank, foldMarked_frame, putInForce_frame])) h
    have h3 : s3.rank ≤ N := foldl_rank_le _ _ (fun s c h => deliver_rank_le _ _ h) h2
    simpa [State.rank, foldStep_frame, startErasures_frame, reeval_frame, reeval_frame3] using h3
  · exact h

theorem execStallReevaluate_rank_le (h : s.rank ≤ N) : (resAfter (execStallReevaluate s) s).rank ≤ N := by
  unfold execStallReevaluate
  (repeat' split) <;> simp [State.rank, *, reevalStalled_rank_le]

theorem execStallBound_rank_le (index : Nat) (h : s.rank ≤ N) : (resAfter (execStallBound index s) s).rank ≤ N := by
  unfold execStallBound
  (repeat' split) <;> simp [State.rank, *, modSuite_frame, advanceTo_frame, grantClaim_rank_le, noteStall_frame,
    claimGranted_frame]

theorem execStallEventWindow_rank_le (h : s.rank ≤ N) : (resAfter (execStallEventWindow s) s).rank ≤ N := by
  unfold execStallEventWindow
  (repeat' split) <;> simp [State.rank, *, event_frame, advanceTo_frame]

theorem execWearAccrualTick_rank_le (h : s.rank ≤ N) : (resAfter (execWearAccrualTick s) s).rank ≤ N := by
  unfold execWearAccrualTick
  (repeat' split) <;> simp [State.rank, *, advanceTo_frame]

theorem execCounterStore_rank_le (h : s.rank ≤ N) : (resAfter (execCounterStore s) s).rank ≤ N := by
  unfold execCounterStore
  (repeat' split) <;> simp [State.rank, *, advanceTo_frame]

theorem execWearProjection_rank_le (h : s.rank ≤ N) : (resAfter (execWearProjection s) s).rank ≤ N := by
  simp only [execWearProjection]
  (repeat' split) <;> simp [State.rank, *, advanceTo_frame, raise_rank_le, setReason_rank_le, clearReason_frame]

/-! ### Register reads -/

theorem readAs_rank_le (master ofs : Nat) (h : s.rank ≤ N) : (readAs master ofs s).2.rank ≤ N := by
  have hr := readReg_frame ofs s
  simp only [readAs]
  split <;> rename_i e <;> simp_all [State.rank, raiseAddr_rank_le]

/-! ### Mailbox operations -/

theorem startBackground_rank_le (op : Nat) (f : State → State) (h : s.rank ≤ N)
    (hf : (f { s with hst := { s.hst with bg := some { opcode := op, startedAt := s.almanac } } }).rank ≤ N) :
    (startBackground op f s).2.rank ≤ N := by
  unfold startBackground
  split
  · exact h
  · exact hf

theorem forSet_rank_le (k : Nat) (f : MirrorSet → MbxAns) (h : s.rank ≤ N) (hf : (f (setAt s k)).2.rank ≤ N) :
    (forSet k s f).2.rank ≤ N := by
  unfold forSet
  repeat' split
  · exact h
  · exact h
  · exact hf

theorem injectPoison_rank_le (dpa : Nat) (h : s.rank ≤ N) : (injectPoison dpa s).rank ≤ N := by
  simp [injectPoison, State.rank, h, listPoison_frame, enqueueWrite_rank_le, watchRecord_frame, fillTile_frame]

theorem endRestore_rank_le (h : s.rank ≤ N) : (endRestore s).rank ≤ N := by
  unfold endRestore
  split
  · have hu : (s.sav.restore.order.foldl (fun s r => endRoom r s) s).rank ≤ N :=
      foldl_rank_le _ _ (fun s r h => by simpa [State.rank, endRoom_frame]) h
    exact restoreComplete_rank_le (by simpa [State.rank, releaseReads_frame] using hu)
      (State.one_le_of_rank_le (by simp [*]) h)
  · exact h

theorem eraseAll_rank_le (op : Nat) (h : s.rank ≤ N) : (eraseAll op s).rank ≤ N := by
  unfold eraseAll
  (repeat' split) <;> simp [State.rank, *, reeval_frame, reeval_frame3, noteReadyAny_frame, resetChart_frame,
    reevalStalled_rank_le, replaceKeys_frame, dropMaps_frame, eraseNand_frame, zeroDram_frame, endStows_frame,
    endRestore_rank_le]

/-! ### The mailbox commands -/

theorem execIdentify_rank_le (h : s.rank ≤ N) : (resAfter (execIdentify s) s).rank ≤ N := by
  simpa [State.rank, execIdentify_frame] using h

theorem execBackgroundOperationStatus_rank_le (h : s.rank ≤ N) :
    (resAfter (execBackgroundOperationStatus s) s).rank ≤ N := by
  simpa [State.rank, execBackgroundOperationStatus_frame] using h

theorem execGetEventRecords_rank_le (log : Nat) (h : s.rank ≤ N) :
    (resAfter (execGetEventRecords log s) s).rank ≤ N := by
  simpa [State.rank, execGetEventRecords_frame] using h

theorem execClearEventRecords_rank_le (log : Nat) (all : Bool) (handles : List Nat) (h : s.rank ≤ N) :
    (resAfter (execClearEventRecords log all handles s) s).rank ≤ N := by
  rw [execClearEventRecords, resAfter_next]
  refine mailbox_rank_le _ _ h ?_
  simp only
  (repeat' split) <;> simp [State.rank, mbxRc, modLog_frame, h]

theorem execGetEventInterruptPolicy_rank_le (h : s.rank ≤ N) :
    (resAfter (execGetEventInterruptPolicy s) s).rank ≤ N := by
  simpa [State.rank, execGetEventInterruptPolicy_frame] using h

theorem execSetEventInterruptPolicy_rank_le (settings : List Nat) (h : s.rank ≤ N) :
    (resAfter (execSetEventInterruptPolicy settings s) s).rank ≤ N := by
  simpa [State.rank, execSetEventInterruptPolicy_frame] using h

theorem execGetFwInfo_rank_le (h : s.rank ≤ N) : (resAfter (execGetFwInfo s) s).rank ≤ N := by
  simpa [State.rank, execGetFwInfo_frame] using h

theorem execTransferFw_rank_le (h : s.rank ≤ N) : (resAfter (execTransferFw s) s).rank ≤ N := by
  simpa [State.rank, execTransferFw_frame] using h

theorem execActivateFw_rank_le (h : s.rank ≤ N) : (resAfter (execActivateFw s) s).rank ≤ N := by
  simpa [State.rank, execActivateFw_frame] using h

theorem execGetTimestamp_rank_le (h : s.rank ≤ N) : (resAfter (execGetTimestamp s) s).rank ≤ N := by
  simpa [State.rank, execGetTimestamp_frame] using h

theorem setCalendar_rank_le (ns : Nat) (h : s.rank ≤ N) : (setCalendar ns s).rank ≤ N := by
  simp only [setCalendar]
  (repeat' split) <;> simp [State.rank, *, logRecord_rank_le, calendarStep_frame]

theorem execSetTimestamp_rank_le (ns : Nat) (h : s.rank ≤ N) : (resAfter (execSetTimestamp ns s) s).rank ≤ N := by
  rw [execSetTimestamp, resAfter_next]
  exact mailbox_rank_le _ _ h (setCalendar_rank_le _ h)

theorem execGetSupportedLogs_rank_le (h : s.rank ≤ N) : (resAfter (execGetSupportedLogs s) s).rank ≤ N := by
  rw [execGetSupportedLogs, resAfter_next]
  exact mailbox_rank_le _ _ h h

theorem execGetLog_rank_le (ofs len : Nat) (h : s.rank ≤ N) : (resAfter (execGetLog ofs len s) s).rank ≤ N := by
  simpa [State.rank, execGetLog_frame] using h

theorem execIdentifyMemoryDevice_rank_le (h : s.rank ≤ N) : (resAfter (execIdentifyMemoryDevice s) s).rank ≤ N := by
  simpa [State.rank, execIdentifyMemoryDevice_frame] using h

theorem execGetPartitionInfo_rank_le (h : s.rank ≤ N) : (resAfter (execGetPartitionInfo s) s).rank ≤ N := by
  simpa [State.rank, execGetPartitionInfo_frame] using h

theorem execSetPartitionInfo_rank_le (h : s.rank ≤ N) : (resAfter (execSetPartitionInfo s) s).rank ≤ N := by
  simpa [State.rank, execSetPartitionInfo_frame] using h

theorem execGetLsa_rank_le (ofs len : Nat) (ok : Bool) (h : s.rank ≤ N) :
    (resAfter (execGetLsa ofs len ok s) s).rank ≤ N := by
  rw [execGetLsa, resAfter_next]
  refine mailbox_rank_le _ _ h ?_
  (repeat' split) <;> simp [State.rank, mbxRc, mbxOut, raiseAddr_rank_le, h]

theorem execSetLsa_rank_le (ofs : Nat) (data : List Byte) (h : s.rank ≤ N) :
    (resAfter (execSetLsa ofs data s) s).rank ≤ N := by
  simpa [State.rank, execSetLsa_frame] using h

theorem execGetHealthInfo_rank_le (h : s.rank ≤ N) : (resAfter (execGetHealthInfo s) s).rank ≤ N := by
  simpa [State.rank, execGetHealthInfo_frame] using h

theorem execGetAlertConfiguration_rank_le (h : s.rank ≤ N) : (resAfter (execGetAlertConfiguration s) s).rank ≤ N := by
  simpa [State.rank, execGetAlertConfiguration_frame] using h

theorem execSetAlertConfiguration_rank_le (cfg : List Nat) (h : s.rank ≤ N) :
    (resAfter (execSetAlertConfiguration cfg s) s).rank ≤ N := by
  rw [execSetAlertConfiguration, resAfter_next]
  refine mailbox_rank_le _ _ h ?_
  (repeat' split) <;> exact h

theorem execGetShutdownState_rank_le (h : s.rank ≤ N) : (resAfter (execGetShutdownState s) s).rank ≤ N := by
  simpa [State.rank, execGetShutdownState_frame] using h

theorem execSetShutdownState_rank_le (dirty : Bool) (h : s.rank ≤ N) :
    (resAfter (execSetShutdownState dirty s) s).rank ≤ N := by
  rw [execSetShutdownState, resAfter_next]
  exact mailbox_rank_le _ _ h h

theorem execGetPoisonList_rank_le (dpa len : Nat) (h : s.rank ≤ N) :
    (resAfter (execGetPoisonList dpa len s) s).rank ≤ N := by
  rw [execGetPoisonList, resAfter_next]
  refine mailbox_rank_le _ _ h ?_
  split <;> exact h

theorem execInjectPoison_rank_le (dpa : Nat) (h : s.rank ≤ N) : (resAfter (execInjectPoison dpa s) s).rank ≤ N := by
  rw [execInjectPoison, resAfter_next]
  refine mailbox_rank_le _ _ h ?_
  split <;> simp [State.rank, mbxRc, injectPoison_rank_le, h]

theorem goOn_rank_le (tag : Nat) (h : s.rank ≤ N) : (goOn tag s).rank ≤ N := by
  simp only [goOn]
  (repeat' split) <;> simp [State.rank, *, acceptWrite_rank_le, presentClaim_rank_le]

theorem execClearPoison_rank_le (dpa : Nat) (data : List Byte) (h : s.rank ≤ N) :
    (resAfter (execClearPoison dpa data s) s).rank ≤ N := by
  rw [execClearPoison, resAfter_next]
  refine mailbox_rank_le _ _ h ?_
  simp only
  (repeat' split) <;> simp [State.rank, mbxRc, discard_frame, goOn_rank_le, takeWrite_frame, watchRecord_frame, h]

theorem execGetScanMediaCapabilities_rank_le (h : s.rank ≤ N) :
    (resAfter (execGetScanMediaCapabilities s) s).rank ≤ N := by
  simpa [State.rank, execGetScanMediaCapabilities_frame] using h

theorem execScanMedia_rank_le (h : s.rank ≤ N) : (resAfter (execScanMedia s) s).rank ≤ N := by
  rw [execScanMedia, resAfter_next]
  exact mailbox_rank_le _ _ h (startBackground_rank_le _ _ h h)

theorem execScanMediaComplete_rank_le (h : s.rank ≤ N) : (resAfter (execScanMediaComplete s) s).rank ≤ N := by
  simpa [State.rank, execScanMediaComplete_frame] using h

theorem execGetScanMediaResults_rank_le (h : s.rank ≤ N) : (resAfter (execGetScanMediaResults s) s).rank ≤ N := by
  rw [execGetScanMediaResults, resAfter_next]
  exact mailbox_rank_le _ _ h h

theorem execSanitize_rank_le (h : s.rank ≤ N) : (resAfter (execSanitize s) s).rank ≤ N := by
  rw [execSanitize, resAfter_next]
  refine mailbox_rank_le _ _ h ?_
  split
  · exact h
  · exact startBackground_rank_le _ _ h h

theorem execSecureErase_rank_le (h : s.rank ≤ N) : (resAfter (execSecureErase s) s).rank ≤ N := by
  simpa [State.rank, execSecureErase_frame] using h

theorem execSanitizeComplete_rank_le (h : s.rank ≤ N) : (resAfter (execSanitizeComplete s) s).rank ≤ N := by
  have he : ∀ op, (eraseAll op s).rank ≤ N := fun op => eraseAll_rank_le op h
  simp only [execSanitizeComplete]
  (repeat' split) <;> simp [State.rank, he, endBackground_frame, h]

theorem execPendingSanitizeReplay_rank_le (h : s.rank ≤ N) : (resAfter (execPendingSanitizeReplay s) s).rank ≤ N := by
  simpa [State.rank, execPendingSanitizeReplay_frame] using h

theorem execMailboxUnsupported_rank_le (opcode : Nat) (h : s.rank ≤ N) :
    (resAfter (execMailboxUnsupported opcode s) s).rank ≤ N := by
  simpa [State.rank, execMailboxUnsupported_frame] using h

theorem execGetVendorIdentity_rank_le (h : s.rank ≤ N) : (resAfter (execGetVendorIdentity s) s).rank ≤ N := by
  simpa [State.rank, execGetVendorIdentity_frame] using h

theorem execGetPersistenceStatus_rank_le (h : s.rank ≤ N) : (resAfter (execGetPersistenceStatus s) s).rank ≤ N := by
  simpa [State.rank, execGetPersistenceStatus_frame] using h

theorem execGetSuiteStatus_rank_le (first count : Nat) (h : s.rank ≤ N) :
    (resAfter (execGetSuiteStatus first count s) s).rank ≤ N := by
  simpa [State.rank, execGetSuiteStatus_frame] using h

theorem execHarbourAcknowledge_rank_le (h : s.rank ≤ N) : (resAfter (execHarbourAcknowledge s) s).rank ≤ N := by
  rw [execHarbourAcknowledge, resAfter_next]
  exact mailbox_rank_le _ _ h (acknowledge_rank_le h)

theorem lapse_rank_le (h : s.rank ≤ N) : (lapse s).rank ≤ N := by
  simp [lapse, State.rank, h, raise_rank_le, wantRek_frame]

theorem execSetEnergyGrant_rank_le (joules validS seq : Nat) (h : s.rank ≤ N) :
    (resAfter (execSetEnergyGrant joules validS seq s) s).rank ≤ N := by
  rw [execSetEnergyGrant, resAfter_next]
  refine mailbox_rank_le _ _ h ?_
  simp only
  (repeat' split) <;> simp [State.rank, mbxRc, lapse_rank_le, wantRek_frame, h]

theorem execGrantLapse_rank_le (h : s.rank ≤ N) : (resAfter (execGrantLapse s) s).rank ≤ N := by
  unfold execGrantLapse
  (repeat' split) <;> simp [State.rank, *, advanceTo_frame, lapse_rank_le]

theorem execGetReckoning_rank_le (h : s.rank ≤ N) : (resAfter (execGetReckoning s) s).rank ≤ N := by
  simpa [State.rank, execGetReckoning_frame] using h

theorem execGetLastSaveReport_rank_le (h : s.rank ≤ N) : (resAfter (execGetLastSaveReport s) s).rank ≤ N := by
  simpa [State.rank, execGetLastSaveReport_frame] using h

theorem execGetRestoredPoisonTiles_rank_le (start : Nat) (h : s.rank ≤ N) :
    (resAfter (execGetRestoredPoisonTiles start s) s).rank ≤ N := by
  simpa [State.rank, execGetRestoredPoisonTiles_frame] using h

theorem execGetLifetimeCounters_rank_le (h : s.rank ≤ N) : (resAfter (execGetLifetimeCounters s) s).rank ≤ N := by
  simpa [State.rank, execGetLifetimeCounters_frame] using h

theorem execGetMirrorStatus_rank_le (h : s.rank ≤ N) : (resAfter (execGetMirrorStatus s) s).rank ≤ N := by
  simpa [State.rank, execGetMirrorStatus_frame] using h

theorem execPromote_rank_le (set : Nat) (force : Bool) (h : s.rank ≤ N) :
    (resAfter (execPromote set force s) s).rank ≤ N := by
  rw [execPromote, resAfter_next]
  refine mailbox_rank_le _ _ h ?_
  split
  · exact h
  · refine forSet_rank_le _ _ h ?_
    (repeat' split) <;> simp [State.rank, mbxRc, emit_frame, schedule_frame, promote_frame, h]

theorem execHandover_rank_le (set noticeMs : Nat) (h : s.rank ≤ N) :
    (resAfter (execHandover set noticeMs s) s).rank ≤ N := by
  rw [execHandover, resAfter_next]
  refine mailbox_rank_le _ _ h (forSet_rank_le _ _ h ?_)
  split <;> simp [State.rank, mbxRc, schedule_frame, h]

theorem execDrill_rank_le (set dwellS : Nat) (h : s.rank ≤ N) : (resAfter (execDrill set dwellS s) s).rank ≤ N := by
  rw [execDrill, resAfter_next]
  refine mailbox_rank_le _ _ h (forSet_rank_le _ _ h ?_)
  split <;> simp [State.rank, mbxRc, emit_frame, modSet_frame, h]

theorem execGetDrillResult_rank_le (set : Nat) (h : s.rank ≤ N) : (resAfter (execGetDrillResult set s) s).rank ≤ N := by
  simpa [State.rank, execGetDrillResult_frame] using h

/-! ### The power commands -/

theorem execP12vBelowThreshold_rank_le (h : s.rank ≤ N) : (resAfter (execP12vBelowThreshold s) s).rank ≤ N := by
  simp only [execP12vBelowThreshold]
  (repeat' split) <;> simp_all [State.rank, markStep_frame, fenceTrigger_rank_le, exhausted_rank_le]

theorem bootFromOff_rank_le (h : s.rank ≤ N) (h1 : 1 ≤ N) : (bootFromOff s).rank ≤ N := by
  unfold bootFromOff
  split
  · rwa [enterBoot_rank]
  · exact h

theorem bootFromSaved_rank_le (ends : Bool) (h : s.rank ≤ N) (h1 : 1 ≤ N) : (bootFromSaved ends s).rank ≤ N := by
  unfold bootFromSaved
  split
  · rwa [enterBoot_rank]
  · exact h

theorem execP12vValid_rank_le (aux : Bool) (h : s.rank ≤ N) : (resAfter (execP12vValid aux s) s).rank ≤ N := by
  have h1 : s.dev.state ≠ .drydock → 1 ≤ N := fun hs => State.one_le_of_rank_le hs h
  simp only [execP12vValid]
  (repeat' split) <;> simp_all [State.rank, bootFromOff_rank_le, bootFromSaved_rank_le, markStep_frame,
    mainsInSaving_frame]

theorem execMusterInLow_rank_le (highAfter : Option Nat) (h : s.rank ≤ N) :
    (resAfter (execMusterInLow highAfter s) s).rank ≤ N := by
  simp only [execMusterInLow]
  (repeat' split) <;> simp [State.rank, *, fenceTrigger_rank_le]

theorem execPerstNDeassert_rank_le (h : s.rank ≤ N) : (resAfter (execPerstNDeassert s) s).rank ≤ N := by
  have h1 : s.dev.state ≠ .drydock → 1 ≤ N := fun hs => State.one_le_of_rank_le hs h
  simp only [execPerstNDeassert]
  (repeat' split) <;> simp_all [State.rank, bootFromOff_rank_le, bootFromSaved_rank_le]

theorem execRailsValid_rank_le (h : s.rank ≤ N) : (resAfter (execRailsValid s) s).rank ≤ N := by
  simpa [State.rank, execRailsValid_frame] using h

theorem execRailUv_rank_le (rail : Nat) (foldback : Bool) (h : s.rank ≤ N) :
    (resAfter (execRailUv rail foldback s) s).rank ≤ N := by
  unfold execRailUv
  (repeat' split) <;> simp [State.rank, *, raiseAddr_rank_le]

theorem execRailLost_rank_le (rail : Nat) (h : s.rank ≤ N) : (resAfter (execRailLost rail s) s).rank ≤ N := by
  unfold execRailLost
  (repeat' split) <;> simp [State.rank, *, raiseAt_rank_le]

theorem enterStage_rank_le (new : Nat) (h : s.rank ≤ N) : (enterStage new s).rank ≤ N := by
  simp only [enterStage]
  (repeat' split) <;> simp [State.rank, *, alertBit_frame, addEvent_frame, raiseAddr_rank_le, endExercise_rank_le]

theorem execDieTempSample_rank_le (die : List Int) (stackTemps : Word) (rails : List Nat) (powerDw : Nat)
    (refPresent : Bool) (h : s.rank ≤ N) :
    (resAfter (execDieTempSample die stackTemps rails powerDw refPresent s) s).rank ≤ N := by
  simp only [execDieTempSample]
  (repeat' split) <;> simp [State.rank, *, advanceTo_frame, raiseAt_rank_le, enterStage_rank_le]

theorem execThrottleExit_rank_le (h : s.rank ≤ N) : (resAfter (execThrottleExit s) s).rank ≤ N := by
  unfold execThrottleExit
  (repeat' split) <;> simp [State.rank, *, alertBit_frame, addEvent_frame, advanceTo_frame]

/-! ### Register writes -/

theorem badWrite_rank_le (c : FClass) (h : s.rank ≤ N) : (badWrite c s).rank ≤ N := by
  simp [badWrite, State.rank, h, raiseAddr_rank_le]

theorem ranged_rank_le (ok : Bool) (c : FClass) (f : State → State) (hf : (f s).rank ≤ N) (h : s.rank ≤ N) :
    (ranged ok c f s).rank ≤ N := by
  unfold ranged
  (repeat' split) <;> simp [State.rank, *, badWrite_rank_le]

theorem writeDrc_rank_le (o : Nat) (w : Word) (h : s.rank ≤ N) : (writeDrc o w s).rank ≤ N := by
  unfold writeDrc
  (repeat' split) <;> simp [State.rank, *, forceDouble_frame, ranged_rank_le]

theorem writeStw_rank_le (o : Nat) (w : Word) (h : s.rank ≤ N) : (writeStw o w s).rank ≤ N := by
  unfold writeStw
  (repeat' split) <;> simp [State.rank, *, reeval_frame, reeval_frame3, ranged_rank_le, clearBit31_frame]

theorem newThresh_rank_le (t : Nat) (h : s.rank ≤ N) : (newThresh t s).rank ≤ N := by
  unfold newThresh
  simp +contextual [State.rank, ↓State.rank_ite_le, h, clearReason_frame, spareCheck_rank_le]

theorem writeCel_rank_le (o : Nat) (w : Word) (h : s.rank ≤ N) : (writeCel o w s).rank ≤ N := by
  unfold writeCel
  (repeat' split) <;> simp [State.rank, *, ranged_rank_le, newThresh_rank_le]

theorem writeNrg_rank_le (o : Nat) (w : Word) (h : s.rank ≤ N) : (writeNrg o w s).rank ≤ N := by
  unfold writeNrg
  (repeat' split) <;> simp [State.rank, *, exerciseStart_frame, exerciseAbort_rank_le, ranged_rank_le]

theorem writeRek_rank_le (o : Nat) (w : Word) (h : s.rank ≤ N) : (writeRek o w s).rank ≤ N := by
  unfold writeRek
  (repeat' split) <;> simp [State.rank, *, rekRunCmd_frame, ranged_rank_le]

theorem writePlk_rank_le (o : Nat) (w : Word) (h : s.rank ≤ N) : (writePlk o w s).rank ≤ N := by
  unfold writePlk
  (repeat' split) <;> simp [State.rank, *, ranged_rank_le, clearBit31_frame]

theorem writeChanCtl_rank_le (n : Nat) (w : Word) (h : s.rank ≤ N) : (writeChanCtl n w s).rank ≤ N := by
  unfold writeChanCtl
  (repeat' split) <;> simp [State.rank, *, dmwBad_rank_le, dmwEnable_rank_le, dmwPause_frame, dmwResume_frame,
    dmwResetCmd_frame]

theorem writeChanWin_rank_le (n : Nat) (w : Word) (h : s.rank ≤ N) : (writeChanWin n w s).rank ≤ N := by
  unfold writeChanWin
  simp +contextual [State.rank, ↓State.rank_ite_le, h, modChan_frame, dmwBad_rank_le]

theorem writeDmw_rank_le (o : Nat) (w : Word) (h : s.rank ≤ N) : (writeDmw o w s).rank ≤ N := by
  simp only [writeDmw]
  (repeat' split) <;> simp [State.rank, *, clearBit31_frame, writeChanCtl_rank_le, dmwTailWrite_rank_le,
    writeChanWin_rank_le]

theorem writeAtt_rank_le (o : Nat) (w : Word) (h : s.rank ≤ N) : (writeAtt o w s).rank ≤ N := by
  unfold writeAtt
  (repeat' split) <;> simp [State.rank, *, ranged_rank_le]

theorem writeEcc_rank_le (o : Nat) (w : Word) (h : s.rank ≤ N) : (writeEcc o w s).rank ≤ N := by
  unfold writeEcc
  (repeat' split) <;> simp [State.rank, *, takeTestCtl_frame, eccTestWrite_rank_le, eccTestRead_rank_le, ranged_rank_le]

theorem writeSvc_rank_le (o : Nat) (w : Word) (h : s.rank ≤ N) : (writeSvc o w s).rank ≤ N := by
  unfold writeSvc
  (repeat' split) <;> simp [State.rank, *, ranged_rank_le]

theorem writeLog_rank_le (o : Nat) (w : Word) (h : s.rank ≤ N) : (writeLog o w s).rank ≤ N := by
  unfold writeLog
  (repeat' split) <;> simp [State.rank, *, ranged_rank_le]

theorem writePwr_rank_le (o : Nat) (w : Word) (h : s.rank ≤ N) : (writePwr o w s).rank ≤ N := by
  unfold writePwr
  (repeat' split) <;> simp [State.rank, *, ranged_rank_le, clearBit31_frame]

theorem writeBlock_rank_le (b : Block) (o : Nat) (w : Word) (h : s.rank ≤ N) : (writeBlock b o w s).rank ≤ N := by
  unfold writeBlock
  (repeat' split) <;> simp [State.rank, *, acknowledge_rank_le, selectRoom_frame, writeHst_frame, writeDrc_rank_le,
    writeStw_rank_le, writeSav_frame, writeCel_rank_le, writeNrg_rank_le, writeGau_frame, writeRek_rank_le,
    writePlk_rank_le, writeDmw_rank_le, writeAtt_rank_le, writeEcc_rank_le, writeTws_frame, writeTwp_frame,
    writeSvc_rank_le, writeLog_rank_le, writePwr_rank_le]

theorem writeAt_rank_le (ofs : Nat) (w : Word) (h : s.rank ≤ N) : (writeAt ofs w s).rank ≤ N := by
  unfold writeAt
  (repeat' split) <;> simp +contextual [State.rank, ↓State.rank_ite_le, *, writeStation_frame, writeBlock_rank_le,
    holdLo_frame, writeHi_frame]

theorem writeReg_rank_le (ofs : Nat) (w : Word) (h : s.rank ≤ N) : (writeReg ofs w s).rank ≤ N := by
  unfold writeReg
  (repeat' split) <;> simp [State.rank, *, raiseAddr_rank_le, writeAt_rank_le]

/-! ### The register commands -/

theorem execBadAccess_rank_le (bar2 : Bool) (offset size : Nat) (write : Bool) (h : s.rank ≤ N) :
    (resAfter (execBadAccess bar2 offset size write s) s).rank ≤ N := by
  unfold execBadAccess
  (repeat' split) <;> simp [State.rank, *, emit_frame, raiseAddr_rank_le]

theorem ringHostWrite_rank_le (ofs : Nat) (w : Word) (h : s.rank ≤ N) : (ringHostWrite ofs w s).rank ≤ N := by
  unfold ringHostWrite
  (repeat' split) <;> simp [State.rank, *, raiseAddr_rank_le]

theorem execRegisterWrite_rank_le (bar2 : Bool) (offset : Nat) (value : Word) (h : s.rank ≤ N) :
    (resAfter (execRegisterWrite bar2 offset value s) s).rank ≤ N := by
  unfold execRegisterWrite
  (repeat' split) <;> simp [State.rank, *, raiseAddr_rank_le, writeReg_rank_le, ringHostWrite_rank_le]

theorem ringHostRead_rank_le (ofs : Nat) (h : s.rank ≤ N) : (ringHostRead ofs s).rank ≤ N := by
  simp only [ringHostRead]
  (repeat' split) <;> simp [State.rank, *, emit_frame, raiseAddr_rank_le, sramUe_rank_le]

theorem hostRead_rank_le (ofs : Nat) (h : s.rank ≤ N) : (hostRead ofs s).rank ≤ N := by
  unfold hostRead
  (repeat' split) <;> simp [State.rank, *, emit_frame, raiseAddr_rank_le, readAs_rank_le]

theorem execRegPairLoRead_rank_le (bar2 : Bool) (offset : Nat) (h : s.rank ≤ N) :
    (resAfter (execRegPairLoRead bar2 offset s) s).rank ≤ N := by
  unfold execRegPairLoRead
  (repeat' split) <;> simp [State.rank, *, ringHostRead_rank_le, hostRead_rank_le]

theorem execRegPairHiWrite_rank_le (offset : Nat) (lo hi : Word) (h : s.rank ≤ N) :
    (resAfter (execRegPairHiWrite offset lo hi s) s).rank ≤ N := by
  unfold execRegPairHiWrite
  (repeat' split) <;> simp [State.rank, *, writeReg_rank_le]

theorem execPeakClear_rank_le (offset : Nat) (h : s.rank ≤ N) : (resAfter (execPeakClear offset s) s).rank ≤ N := by
  simpa [State.rank, execPeakClear_frame] using h

/-! ### The service port operations -/

theorem dropPackage_rank_le (h : s.rank ≤ N) : (dropPackage s).rank ≤ N := by
  unfold dropPackage
  (repeat' split) <;> simp [State.rank, *, setPhase_rank_le]

theorem endSession_rank_le (h : s.rank ≤ N) : (endSession s).rank ≤ N := by
  simp [endSession, State.rank, h, dropPackage_rank_le]

theorem helloCmd_rank_le (input : List Byte) (h : s.rank ≤ N) : (helloCmd input s).2.2.2.rank ≤ N := by
  refine wellInput_rank_le h ?_ _
  simp only
  split
  · simpa [State.rank, svcStat] using endSession_rank_le h
  · simpa [State.rank] using endSession_rank_le h

theorem authFails_rank_le (status : Nat) (h : s.rank ≤ N) : (authFails status s).2.2.2.rank ≤ N := by
  simp only [authFails]
  (repeat' split) <;> simp [State.rank, *, raise_rank_le, svcStat_frame, endSession_rank_le]

theorem authCmd_rank_le (input : List Byte) (h : s.rank ≤ N) : (authCmd input s).2.2.2.rank ≤ N := by
  refine inStates_rank_le h (wellInput_rank_le h ?_ _) _
  simp only
  (repeat' split) <;> simp [State.rank, svcStat, authFails_rank_le, h]

theorem readRegs_rank_le (k ofs : Nat) (h : s.rank ≤ N) : (readRegs k ofs s).2.rank ≤ N := by
  induction k generalizing ofs s with
  | zero => exact h
  | succ k ih =>
    simp only [readRegs]
    split <;> exact ih _ (by simp [State.rank, readAs_rank_le, raiseAddr_rank_le, h])

theorem readWords_rank_le (k i ofs : Nat) (failAt : Option Nat) (h : s.rank ≤ N) :
    (readWords k i ofs failAt s).2.rank ≤ N := by
  induction k generalizing s i ofs with
  | zero => exact h
  | succ k ih =>
    have hw := readWindow_rank_le mService ofs (if failAt = some i then List.replicate 4 [0, 1] else []) h
    simp only [readWords]
    generalize readWindow mService ofs _ s = r at hw ⊢
    obtain ⟨_ | x, u⟩ := r
    · have ha := readArray_rank_le mService ofs (if failAt = some i then List.replicate 4 [0, 1] else []) hw
      simp only
      split
      · exact ha
      · exact ih _ _ ha
    · simp only
      split
      · exact hw
      · exact ih _ _ hw

theorem pkgBegin_rank_le (input : List Byte) (attic : Option Nat) (h : s.rank ≤ N) :
    (pkgBegin input attic s).2.2.2.rank ≤ N := by
  have hl : ∀ (l : List Nat) (u : State), u.rank ≤ N →
    (l.foldl (fun s i => eraseSector (spareBank s) i s) u).rank ≤ N := fun l u =>
    foldl_rank_le _ _ fun s i h => by simpa [State.rank, eraseSector_frame]
  refine wellInput_rank_le h (withRole_rank_le h (inStates_rank_le h ?_ _) _) _
  (repeat' split) <;> simp [State.rank, svcStat, setPhase_rank_le, rejectPlan_rank_le, beginBank_frame, hl, h]

theorem pkgFails_rank_le (status detail index : Nat) (h : s.rank ≤ N) :
    (pkgFails status detail index s).2.2.2.rank ≤ N := by
  simp [pkgFails, State.rank, h, raiseAddr_rank_le, dropPackage_rank_le]

theorem tableChunk_rank_le (p : PkgRun) (index : Nat) (body : List Byte) (attic : Option Nat) (h : s.rank ≤ N) :
    (tableChunk p index body attic s).2.2.2.rank ≤ N := by
  have hl : ∀ (q : PkgRun) (l : List ChunkEntry) (u : State), u.rank ≤ N →
    (l.foldl (performEntry q) u).rank ≤ N := fun q l u =>
    foldl_rank_le _ _ fun s e h => by simpa [State.rank, performEntry_frame]
  simp only [tableChunk]
  (repeat' split) <;> simp [State.rank, svcStat, pkgFails_rank_le, countChunk_frame, hl, h]

theorem dataChunk_rank_le (p : PkgRun) (t : List ChunkEntry) (index : Nat) (body : List Byte) (attic : Option Nat)
    (readBack : Bool) (h : s.rank ≤ N) : (dataChunk p t index body attic readBack s).2.2.2.rank ≤ N := by
  simp only [dataChunk]
  (repeat' split) <;> simp [State.rank, *, svcStat_frame, writeTarget_frame, pkgFails_rank_le, countChunk_frame]

theorem pkgChunk_rank_le (input : List Byte) (attic : Option Nat) (readBack : Bool) (h : s.rank ≤ N) :
    (pkgChunk input attic readBack s).2.2.2.rank ≤ N := by
  unfold pkgChunk
  split
  · exact h
  · refine withRole_rank_le h (inStates_rank_le h (wellInput_rank_le h ?_ _) _) _
    simp only
    (repeat' split) <;> simp [State.rank, svcStat, pkgFails_rank_le, tableChunk_rank_le, dataChunk_rank_le, h]

theorem pkgEnd_rank_le (attic : Option Nat) (h : s.rank ≤ N) : (pkgEnd attic s).2.2.2.rank ≤ N := by
  unfold pkgEnd
  split
  · exact h
  · refine withRole_rank_le h (inStates_rank_le h ?_ _) _
    simp only
    (repeat' split) <;> simp [State.rank, svcStat, dropPackage_rank_le, setPhase_rank_le, deliverPlan_rank_le,
      programMarker_frame, loadStore_frame, h]

theorem pkgAbort_rank_le (h : s.rank ≤ N) : (pkgAbort s).2.2.2.rank ≤ N := by
  unfold pkgAbort
  split
  · exact withRole_rank_le h (inStates_rank_le h (dropPackage_rank_le h) _) _
  · refine withRole_rank_le h (inStates_rank_le h ?_ _) _
    simp only
    split <;> simp [State.rank, svcStat, setPhase_rank_le, programMarker_frame, h]

/-! ### The service port commands -/

theorem execSvcHello_rank_le (seq : Nat) (input : List Byte) (h : s.rank ≤ N) :
    (resAfter (execSvcHello seq input s) s).rank ≤ N := by
  simp +contextual [execSvcHello, State.rank, h, svcFrame_rank_le, helloCmd_rank_le]

theorem execSvcAuth_rank_le (seq : Nat) (input : List Byte) (h : s.rank ≤ N) :
    (resAfter (execSvcAuth seq input s) s).rank ≤ N := by
  simp +contextual [execSvcAuth, State.rank, h, svcFrame_rank_le, authCmd_rank_le]

theorem execSvcClose_rank_le (seq : Nat) (h : s.rank ≤ N) : (resAfter (execSvcClose seq s) s).rank ≤ N := by
  simp +contextual [execSvcClose, State.rank, h, svcStat_frame, svcFrame_rank_le, endSession_rank_le]

theorem execSvcStatus_rank_le (seq : Nat) (h : s.rank ≤ N) : (resAfter (execSvcStatus seq s) s).rank ≤ N :=
  svcFrame_rank_le _ _ _ h fun _ hs => hs

theorem execReadLog_rank_le (seq : Nat) (input : List Byte) (h : s.rank ≤ N) :
    (resAfter (execReadLog seq input s) s).rank ≤ N :=
  svcFrame_rank_le _ _ _ h fun _ hs =>
    withRole_rank_le hs (inStates_rank_le hs (wellInput_rank_le hs hs _) _) _

theorem execReadReg_rank_le (seq : Nat) (input : List Byte) (h : s.rank ≤ N) :
    (resAfter (execReadReg seq input s) s).rank ≤ N :=
  svcFrame_rank_le _ _ _ h fun _ h =>
    withRole_rank_le h (inStates_rank_le h (wellInput_rank_le h (readRegs_rank_le _ _ h) _) _) _

theorem execReadAttic_rank_le (seq : Nat) (input : List Byte) (failAt : Option Nat) (h : s.rank ≤ N) :
    (resAfter (execReadAttic seq input failAt s) s).rank ≤ N := by
  refine svcFrame_rank_le _ _ _ h fun s h => withRole_rank_le h (inStates_rank_le h (wellInput_rank_le h ?_ _) _) _
  have hr := readWords_rank_le (num input 4 2 / 8) 0 (num input 0 4) failAt h
  split
  · exact h
  · split <;> simp_all [State.rank, svcStat]

theorem execReadNand_rank_le (seq : Nat) (input : List Byte) (ok : Bool) (h : s.rank ≤ N) :
    (resAfter (execReadNand seq input ok s) s).rank ≤ N := by
  refine svcFrame_rank_le _ _ _ h fun s h => withRole_rank_le h (inStates_rank_le h (wellInput_rank_le h ?_ _) _) _
  simp only
  split <;> simp [State.rank, svcStat, raiseAddr_rank_le, takeFree_frame, h]

theorem execPkgBegin_rank_le (seq : Nat) (input : List Byte) (attic : Option Nat) (h : s.rank ≤ N) :
    (resAfter (execPkgBegin seq input attic s) s).rank ≤ N :=
  svcFrame_rank_le _ _ _ h fun _ h => pkgBegin_rank_le _ _ h

theorem execPkgChunk_rank_le (seq : Nat) (input : List Byte) (attic : Option Nat) (readBack : Bool) (h : s.rank ≤ N) :
    (resAfter (execPkgChunk seq input attic readBack s) s).rank ≤ N :=
  svcFrame_rank_le _ _ _ h fun _ h => pkgChunk_rank_le _ _ _ h

theorem execPkgEnd_rank_le (seq : Nat) (attic : Option Nat) (h : s.rank ≤ N) :
    (resAfter (execPkgEnd seq attic s) s).rank ≤ N :=
  svcFrame_rank_le _ _ _ h fun _ h => pkgEnd_rank_le _ h

theorem activateSet_rank_le (cores : Nat) (attic : Option Nat) (h : s.rank ≤ N) :
    (∀ a ∈ (activateSet cores attic s).1, a.2.2.2.rank ≤ N) ∧ (activateSet cores attic s).2.rank ≤ N := by
  simp only [activateSet]
  (repeat' split) <;> simp [State.rank, *, raise_rank_le, svcStat_frame, setPhase_rank_le, programMarker_frame,
    beginProbation_rank_le]

theorem execActivate_rank_le (seq cores : Nat) (attic : Option Nat) (h : s.rank ≤ N) :
    (resAfter (execActivate seq cores attic s) s).rank ≤ N := by
  rw [execActivate, resAfter_next]
  refine svcFrameOpt_rank_le _ _ _ h fun s h => ?_
  have ha := activateSet_rank_le cores attic h
  refine ⟨fun a hm => ?_, ha.2⟩
  obtain ⟨b, hb, rfl⟩ := Option.map_eq_some_iff.mp hm
  exact ha.1 b hb

theorem execHandoverReadyTimeout_rank_le (h : s.rank ≤ N) : (resAfter (execHandoverReadyTimeout s) s).rank ≤ N := by
  unfold execHandoverReadyTimeout
  (repeat' split) <;> simp [State.rank, *, advanceTo_frame, raiseAddr_rank_le, payOwed_frame, setPhase_rank_le]

theorem execConfirm_eq (seq : Nat) (first second : Bool) (s : State) :
    execConfirm seq first second s = .next (svcFrame 0x24 seq (fun s => noteResult (withRole 1 s fun s =>
      inStates (serviceOrHarbour s && decide (s.svc.phase = 4)) s fun s =>
        outcomeAnswer (confirmSet first second s))) s) := rfl

theorem execConfirm_rank_le (seq : Nat) (first second : Bool) (h : s.rank ≤ N) :
    (resAfter (execConfirm seq first second s) s).rank ≤ N := by
  rw [execConfirm_eq, resAfter_next]
  refine svcFrame_rank_le _ _ _ h fun s hs =>
    noteResult_rank_le _ (withRole_rank_le hs (inStates_rank_le hs ?_ _) _)
  exact outcomeAnswer_rank_le (confirmSet_rank_le first second hs)

theorem execAutoConfirm_rank_le (first second : Bool) (h : s.rank ≤ N) :
    (resAfter (execAutoConfirm first second s) s).rank ≤ N := by
  unfold execAutoConfirm
  split
  · exact setResult_outcome_rank_le (confirmSet_rank_le first second (advanceTo_rank_le _ h))
  · exact h

theorem execSvcAbort_rank_le (seq : Nat) (h : s.rank ≤ N) : (resAfter (execSvcAbort seq s) s).rank ≤ N := by
  simp +contextual [execSvcAbort, State.rank, h, svcFrame_rank_le, pkgAbort_rank_le]

theorem execSvcProgress_rank_le (seq permille : Nat) (h : s.rank ≤ N) :
    (resAfter (execSvcProgress seq permille s) s).rank ≤ N := by
  unfold execSvcProgress
  (repeat' split) <;> simp [State.rank, *, advanceTo_frame, sendResponse_frame]

theorem execSvcFrameTimeout_rank_le (h : s.rank ≤ N) : (resAfter (execSvcFrameTimeout s) s).rank ≤ N := by
  simp [execSvcFrameTimeout, State.rank, h, discardFrame_frame]

theorem execDiscardedFrame_rank_le (h : s.rank ≤ N) : (resAfter (execDiscardedFrame s) s).rank ≤ N := by
  simp [execDiscardedFrame, State.rank, h, discardFrame_frame]

theorem execSvcPresHigh_rank_le (h : s.rank ≤ N) : (resAfter (execSvcPresHigh s) s).rank ≤ N := by
  unfold execSvcPresHigh
  (repeat' split) <;> simp [State.rank, *, advanceTo_frame, endSession_rank_le]

theorem execSvcSessionIdle_rank_le (h : s.rank ≤ N) : (resAfter (execSvcSessionIdle s) s).rank ≤ N := by
  unfold execSvcSessionIdle
  (repeat' split) <;> simp [State.rank, *, advanceTo_frame, endSession_rank_le]

theorem execAuthLockoutExpire_rank_le (h : s.rank ≤ N) : (resAfter (execAuthLockoutExpire s) s).rank ≤ N := by
  unfold execAuthLockoutExpire
  (repeat' split) <;> simp [State.rank, *, advanceTo_frame]

/-! ### The test access port -/

theorem execJtagBypass_rank_le (h : s.rank ≤ N) : (resAfter (execJtagBypass s) s).rank ≤ N := by
  simpa [State.rank, execJtagBypass_frame] using h

theorem execJtagIdcode_rank_le (h : s.rank ≤ N) : (resAfter (execJtagIdcode s) s).rank ≤ N := by
  simpa [State.rank, execJtagIdcode_frame] using h

theorem execJtagSamplePreload_rank_le (pins cells : List Bool) (h : s.rank ≤ N) :
    (resAfter (execJtagSamplePreload pins cells s) s).rank ≤ N := by
  simpa [State.rank, execJtagSamplePreload_frame] using h

theorem execJtagExtest_rank_le (pins cells : List Bool) (h : s.rank ≤ N) :
    (resAfter (execJtagExtest pins cells s) s).rank ≤ N := by
  simpa [State.rank, execJtagExtest_frame] using h

theorem execJtagClamp_rank_le (h : s.rank ≤ N) : (resAfter (execJtagClamp s) s).rank ≤ N := by
  simpa [State.rank, execJtagClamp_frame] using h

theorem execJtagHighz_rank_le (h : s.rank ≤ N) : (resAfter (execJtagHighz s) s).rank ≤ N := by
  simpa [State.rank, execJtagHighz_frame] using h

/-! ### The two-wire slave -/

theorem twsRaise_rank_le (c : FClass) (h : s.rank ≤ N) : (twsRaise c s).rank ≤ N := by
  simp [twsRaise, State.rank, h, raiseAddr_rank_le]

theorem pecError_rank_le (h : s.rank ≤ N) : (pecError s).rank ≤ N := by
  simp [pecError, State.rank, h, twsRaise_rank_le]

theorem sbStop_rank_le (addr : Byte) (l : List Byte) (h : s.rank ≤ N) : (sbStop addr l s).rank ≤ N := by
  unfold sbStop
  (repeat' split) <;> simp [State.rank, *, applyWrite_frame, pecError_rank_le]

theorem sbRestart_rank_le (l : List Byte) (h : s.rank ≤ N) : (sbRestart l s).rank ≤ N := by
  unfold sbRestart
  (repeat' split) <;> simp [State.rank, *, applyWrite_frame, pecError_rank_le]

theorem pbGivesUp_rank_le (h : s.rank ≤ N) : (pbGivesUp s).rank ≤ N := by
  unfold pbGivesUp
  simp +contextual [State.rank, ↓State.rank_ite_le, h, endAuth_rank_le]

theorem pbXferFail_rank_le (cmd : Nat) (h : s.rank ≤ N) : (pbXferFail cmd s).rank ≤ N := by
  simp [pbXferFail, State.rank, h, raiseAddr_rank_le, pbGivesUp_rank_le]

theorem pbFail_rank_le (cmd : Nat) (h : s.rank ≤ N) : (pbFail cmd s).rank ≤ N := by
  unfold pbFail
  (repeat' split) <;> simp [State.rank, *, pbXferFail_rank_le]

theorem pbEnd_rank_le (cmd : Nat) (ok : Bool) (h : s.rank ≤ N) : (pbEnd cmd ok s).rank ≤ N := by
  unfold pbEnd
  (repeat' split) <;> simp [State.rank, *, pbFail_rank_le]

theorem pbBroken_rank_le (cmd : Nat) (mark : Twp →
  Twp) (c : FClass) (h : s.rank ≤ N) : (pbBroken cmd mark c s).rank ≤ N := by
  simp only [pbBroken]
  exact pbFail_rank_le _ (raiseAddr_rank_le _ _ _ _ (by simpa [State.rank, pbAttempt_frame]))

theorem busClear_rank_le (sdaHigh : Bool) (h : s.rank ≤ N) : (busClear sdaHigh s).rank ≤ N := by
  unfold busClear
  (repeat' split) <;> simp [State.rank, *, raiseAddr_rank_le, pbGivesUp_rank_le]

/-! ### The two-wire commands -/

theorem execSbSleep_rank_le (h : s.rank ≤ N) : (resAfter (execSbSleep s) s).rank ≤ N := by
  unfold execSbSleep
  (repeat' split) <;> simp [State.rank, *, advanceTo_frame]

theorem execSbWake_rank_le (h : s.rank ≤ N) : (resAfter (execSbWake s) s).rank ≤ N := by
  simpa [State.rank, execSbWake_frame] using h

theorem execSbRead_rank_le (addr n : Nat) (h : s.rank ≤ N) : (resAfter (execSbRead addr n s) s).rank ≤ N := by
  simpa [State.rank, execSbRead_frame] using h

theorem execSbWrite_rank_le (addr : Nat) (data : List Byte) (reread : Option Nat) (h : s.rank ≤ N) :
    (resAfter (execSbWrite addr data reread s) s).rank ≤ N := by
  rw [execSbWrite, resAfter_next]
  refine onStart_rank_le _ h fun s h => ?_
  simp only
  (repeat' split) <;> simp [State.rank, sbStop_rank_le, sbRestart_rank_le, sbRead_frame, countXfer_frame, h]

theorem execSbAlertResponse_rank_le (other : Option Nat) (more : Bool) (h : s.rank ≤ N) :
    (resAfter (execSbAlertResponse other more s) s).rank ≤ N := by
  simpa [State.rank, execSbAlertResponse_frame] using h

theorem execSbClkLowTimeout_rank_le (acked : Bool) (h : s.rank ≤ N) :
    (resAfter (execSbClkLowTimeout acked s) s).rank ≤ N := by
  rw [execSbClkLowTimeout, resAfter_next]
  refine onStart_rank_le _ h fun s h => ?_
  simp only
  (repeat' split) <;> simp [State.rank, twsRaise_rank_le, advanceTo_frame, countXfer_frame, h]

theorem execSbDataLowTimeout_rank_le (h : s.rank ≤ N) : (resAfter (execSbDataLowTimeout s) s).rank ≤ N := by
  unfold execSbDataLowTimeout
  (repeat' split) <;> simp [State.rank, *, advanceTo_frame, twsRaise_rank_le]

theorem execSbProtocolError_rank_le (released : Bool) (h : s.rank ≤ N) :
    (resAfter (execSbProtocolError released s) s).rank ≤ N := by
  rw [execSbProtocolError, resAfter_next]
  refine onStart_rank_le _ h fun s h => ?_
  simp [State.rank, twsRaise_rank_le, countXfer_frame, h]

theorem execTwsAlertWrite_rank_le (value : Word) (h : s.rank ≤ N) :
    (resAfter (execTwsAlertWrite value s) s).rank ≤ N := by
  simpa [State.rank, execTwsAlertWrite_frame] using h

theorem execPbTransaction_rank_le (cmd : Nat) (ok : Bool) (h : s.rank ≤ N) :
    (resAfter (execPbTransaction cmd ok s) s).rank ≤ N := by
  simp only [execPbTransaction]
  split <;> simp [State.rank, *, pbEnd_rank_le, pbAttempt_frame]

theorem execPbRetry_rank_le (ok : Bool) (h : s.rank ≤ N) : (resAfter (execPbRetry ok s) s).rank ≤ N := by
  simp only [execPbRetry]
  (repeat' split) <;> simp [State.rank, *, pbEnd_rank_le, pbAttempt_frame]

theorem execPbClkLowTimeout_rank_le (cmd : Nat) (sdaLow : Bool) (h : s.rank ≤ N) :
    (resAfter (execPbClkLowTimeout cmd sdaLow s) s).rank ≤ N := by
  unfold execPbClkLowTimeout
  (repeat' split) <;> simp [State.rank, *, advanceTo_frame, pbBroken_rank_le]

theorem execPbArbitrationLoss_rank_le (cmd : Nat) (cond : Bool) (h : s.rank ≤ N) :
    (resAfter (execPbArbitrationLoss cmd cond s) s).rank ≤ N := by
  unfold execPbArbitrationLoss
  (repeat' split) <;> simp [State.rank, *, pbBroken_rank_le]

theorem execPbProtocolError_rank_le (cmd : Nat) (h : s.rank ≤ N) :
    (resAfter (execPbProtocolError cmd s) s).rank ≤ N := by
  unfold execPbProtocolError
  (repeat' split) <;> simp [State.rank, *, pbBroken_rank_le]

theorem execPbBusClear_rank_le (sdaHigh : Bool) (h : s.rank ≤ N) :
    (resAfter (execPbBusClear sdaHigh s) s).rank ≤ N := by
  unfold execPbBusClear
  (repeat' split) <;> simp [State.rank, *, busClear_rank_le]

/-! ### Every command -/

theorem resAfter_rank_le {q r : Res} (h : (resAfter r s).rank ≤ N) (e : q = r) : (resAfter q s).rank ≤ N := e ▸ h

theorem exec_rank_le (c : Instr) (hb : ∀ pass, c ≠ .bootImageCheck pass) (hd : c ≠ .drydockPowerRemoved)
    (h : s.rank ≤ N) : (resAfter (exec c s) s).rank ≤ N := by
  cases c with
  | p12vBelowThreshold => exact resAfter_rank_le (execP12vBelowThreshold_rank_le h) rfl
  | p12vValid aux => exact resAfter_rank_le (execP12vValid_rank_le aux h) rfl
  | musterInLow highAfter => exact resAfter_rank_le (execMusterInLow_rank_le highAfter h) rfl
  | perstNDeassert => exact resAfter_rank_le (execPerstNDeassert_rank_le h) rfl
  | hostLinkReset kind => exact resAfter_rank_le (execHostLinkReset_rank_le kind h) rfl
  | hostLinkTrained ver rate width flit256 msixEnable msixMask =>
    exact resAfter_rank_le (execHostLinkTrained_rank_le ver rate width flit256 msixEnable msixMask h) rfl
  | drydockPowerRemoved => exact absurd rfl hd
  | badAccess bar2 offset size write => exact resAfter_rank_le (execBadAccess_rank_le bar2 offset size write h) rfl
  | registerWrite bar2 offset value => exact resAfter_rank_le (execRegisterWrite_rank_le bar2 offset value h) rfl
  | regPairLoRead bar2 offset => exact resAfter_rank_le (execRegPairLoRead_rank_le bar2 offset h) rfl
  | regPairHiWrite offset lo hi => exact resAfter_rank_le (execRegPairHiWrite_rank_le offset lo hi h) rfl
  | hostWriteRequest tag hpa data enables poison parityBad =>
    exact resAfter_rank_le (execHostWriteRequest_rank_le tag hpa data enables poison parityBad h) rfl
  | claimPresent tag => exact resAfter_rank_le (execClaimPresent_rank_le tag h) rfl
  | hostWriteAccept tag => exact resAfter_rank_le (execHostWriteAccept_rank_le tag h) rfl
  | hostRead tag hpa => exact resAfter_rank_le (execHostRead_rank_le tag hpa h) rfl
  | volatileFillDone tile => exact resAfter_rank_le (execVolatileFillDone_rank_le tile h) rfl
  | discardWindowEnd => exact resAfter_rank_le (execDiscardWindowEnd_rank_le h) rfl
  | gpfPhase1 => exact resAfter_rank_le (execGpfPhase1_rank_le h) rfl
  | gpfPhase2 => exact resAfter_rank_le (execGpfPhase2_rank_le h) rfl
  | gpfPhase2Drained => exact resAfter_rank_le (execGpfPhase2Drained_rank_le h) rfl
  | ideKeyProgram ioSecure memSecure => exact resAfter_rank_le (execIdeKeyProgram_rank_le ioSecure memSecure h) rfl
  | ideIntegrityFailure stream => exact resAfter_rank_le (execIdeIntegrityFailure_rank_le stream h) rfl
  | identify => exact resAfter_rank_le (execIdentify_rank_le h) rfl
  | backgroundOperationStatus => exact resAfter_rank_le (execBackgroundOperationStatus_rank_le h) rfl
  | getEventRecords log => exact resAfter_rank_le (execGetEventRecords_rank_le log h) rfl
  | clearEventRecords log all handles => exact resAfter_rank_le (execClearEventRecords_rank_le log all handles h) rfl
  | getEventInterruptPolicy => exact resAfter_rank_le (execGetEventInterruptPolicy_rank_le h) rfl
  | setEventInterruptPolicy settings => exact resAfter_rank_le (execSetEventInterruptPolicy_rank_le settings h) rfl
  | getFwInfo => exact resAfter_rank_le (execGetFwInfo_rank_le h) rfl
  | transferFw => exact resAfter_rank_le (execTransferFw_rank_le h) rfl
  | activateFw => exact resAfter_rank_le (execActivateFw_rank_le h) rfl
  | getTimestamp => exact resAfter_rank_le (execGetTimestamp_rank_le h) rfl
  | setTimestamp ns => exact resAfter_rank_le (execSetTimestamp_rank_le ns h) rfl
  | getSupportedLogs => exact resAfter_rank_le (execGetSupportedLogs_rank_le h) rfl
  | getLog ofs len => exact resAfter_rank_le (execGetLog_rank_le ofs len h) rfl
  | identifyMemoryDevice => exact resAfter_rank_le (execIdentifyMemoryDevice_rank_le h) rfl
  | getPartitionInfo => exact resAfter_rank_le (execGetPartitionInfo_rank_le h) rfl
  | setPartitionInfo => exact resAfter_rank_le (execSetPartitionInfo_rank_le h) rfl
  | getLsa ofs len ok => exact resAfter_rank_le (execGetLsa_rank_le ofs len ok h) rfl
  | setLsa ofs data => exact resAfter_rank_le (execSetLsa_rank_le ofs data h) rfl
  | getHealthInfo => exact resAfter_rank_le (execGetHealthInfo_rank_le h) rfl
  | getAlertConfiguration => exact resAfter_rank_le (execGetAlertConfiguration_rank_le h) rfl
  | setAlertConfiguration cfg => exact resAfter_rank_le (execSetAlertConfiguration_rank_le cfg h) rfl
  | getShutdownState => exact resAfter_rank_le (execGetShutdownState_rank_le h) rfl
  | setShutdownState dirty => exact resAfter_rank_le (execSetShutdownState_rank_le dirty h) rfl
  | getPoisonList dpa len => exact resAfter_rank_le (execGetPoisonList_rank_le dpa len h) rfl
  | injectPoison dpa => exact resAfter_rank_le (execInjectPoison_rank_le dpa h) rfl
  | clearPoison dpa data => exact resAfter_rank_le (execClearPoison_rank_le dpa data h) rfl
  | getScanMediaCapabilities => exact resAfter_rank_le (execGetScanMediaCapabilities_rank_le h) rfl
  | scanMedia => exact resAfter_rank_le (execScanMedia_rank_le h) rfl
  | scanMediaComplete => exact resAfter_rank_le (execScanMediaComplete_rank_le h) rfl
  | getScanMediaResults => exact resAfter_rank_le (execGetScanMediaResults_rank_le h) rfl
  | sanitize => exact resAfter_rank_le (execSanitize_rank_le h) rfl
  | secureErase => exact resAfter_rank_le (execSecureErase_rank_le h) rfl
  | sanitizeComplete => exact resAfter_rank_le (execSanitizeComplete_rank_le h) rfl
  | pendingSanitizeReplay => exact resAfter_rank_le (execPendingSanitizeReplay_rank_le h) rfl
  | mailboxUnsupported opcode => exact resAfter_rank_le (execMailboxUnsupported_rank_le opcode h) rfl
  | getVendorIdentity => exact resAfter_rank_le (execGetVendorIdentity_rank_le h) rfl
  | getPersistenceStatus => exact resAfter_rank_le (execGetPersistenceStatus_rank_le h) rfl
  | getSuiteStatus first count => exact resAfter_rank_le (execGetSuiteStatus_rank_le first count h) rfl
  | harbourAcknowledge => exact resAfter_rank_le (execHarbourAcknowledge_rank_le h) rfl
  | setEnergyGrant joules validS seq => exact resAfter_rank_le (execSetEnergyGrant_rank_le joules validS seq h) rfl
  | grantLapse => exact resAfter_rank_le (execGrantLapse_rank_le h) rfl
  | getReckoning => exact resAfter_rank_le (execGetReckoning_rank_le h) rfl
  | getLastSaveReport => exact resAfter_rank_le (execGetLastSaveReport_rank_le h) rfl
  | getRestoredPoisonTiles start => exact resAfter_rank_le (execGetRestoredPoisonTiles_rank_le start h) rfl
  | getLifetimeCounters => exact resAfter_rank_le (execGetLifetimeCounters_rank_le h) rfl
  | getMirrorStatus => exact resAfter_rank_le (execGetMirrorStatus_rank_le h) rfl
  | promote set force => exact resAfter_rank_le (execPromote_rank_le set force h) rfl
  | handover set noticeMs => exact resAfter_rank_le (execHandover_rank_le set noticeMs h) rfl
  | drill set dwellS => exact resAfter_rank_le (execDrill_rank_le set dwellS h) rfl
  | getDrillResult set => exact resAfter_rank_le (execGetDrillResult_rank_le set h) rfl
  | trainingAttemptEnd sc pass record => exact resAfter_rank_le (execTrainingAttemptEnd_rank_le sc pass record h) rfl
  | zqCalDue sc ok => exact resAfter_rank_le (execZqCalDue_rank_le sc ok h) rfl
  | dqsOscDue sc fine ok => exact resAfter_rank_le (execDqsOscDue_rank_le sc fine ok h) rfl
  | calDeferExpire sc kind => exact resAfter_rank_le (execCalDeferExpire_rank_le sc kind h) rfl
  | drcPick sc ok => exact resAfter_rank_le (execDrcPick_rank_le sc ok h) rfl
  | refreshTick sc elapsedNs => exact resAfter_rank_le (execRefreshTick_rank_le sc elapsedNs h) rfl
  | mr4Read sc rank band twox high ok => exact resAfter_rank_le (execMr4Read_rank_le sc rank band twox high ok h) rfl
  | selfRefreshIdle sc => exact resAfter_rank_le (execSelfRefreshIdle_rank_le sc h) rfl
  | selfRefreshExit sc ok => exact resAfter_rank_le (execSelfRefreshExit_rank_le sc ok h) rfl
  | dramReadReturn beat mstr errors => exact resAfter_rank_le (execDramReadReturn_rank_le beat mstr errors h) rfl
  | patrolRead errors => exact resAfter_rank_le (execPatrolRead_rank_le errors h) rfl
  | patrolPassEnd => exact resAfter_rank_le (execPatrolPassEnd_rank_le h) rfl
  | chartEntryUe room => exact resAfter_rank_le (execChartEntryUe_rank_le room h) rfl
  | mapRereadDone room pass => exact resAfter_rank_le (execMapRereadDone_rank_le room pass h) rfl
  | tileStateUe byte => exact resAfter_rank_le (execTileStateUe_rank_le byte h) rfl
  | chtRoomSelWrite value => exact resAfter_rank_le (execChtRoomSelWrite_rank_le value h) rfl
  | suiteContextUe suite => exact resAfter_rank_le (execSuiteContextUe_rank_le suite h) rfl
  | sweepVisit => exact resAfter_rank_le (execSweepVisit_rank_le h) rfl
  | stowStart => exact resAfter_rank_le (execStowStart_rank_le h) rfl
  | padTimeout die => exact resAfter_rank_le (execPadTimeout_rank_le die h) rfl
  | nandProgramDone die us pass => exact resAfter_rank_le (execNandProgramDone_rank_le die us pass h) rfl
  | roomMapBuild room => exact resAfter_rank_le (execRoomMapBuild_rank_le room h) rfl
  | journalPageIssue => exact resAfter_rank_le (execJournalPageIssue_rank_le h) rfl
  | metaProgramDone page us passA passB =>
    exact resAfter_rank_le (execMetaProgramDone_rank_le page us passA passB h) rfl
  | stowCompletion room => exact resAfter_rank_le (execStowCompletion_rank_le room h) rfl
  | stallReevaluate => exact resAfter_rank_le (execStallReevaluate_rank_le h) rfl
  | stallBound index => exact resAfter_rank_le (execStallBound_rank_le index h) rfl
  | stallEventWindow => exact resAfter_rank_le (execStallEventWindow_rank_le h) rfl
  | wearAccrualTick => exact resAfter_rank_le (execWearAccrualTick_rank_le h) rfl
  | counterStore => exact resAfter_rank_le (execCounterStore_rank_le h) rfl
  | wearProjection => exact resAfter_rank_le (execWearProjection_rank_le h) rfl
  | staggerElapsed => exact resAfter_rank_le (execStaggerElapsed_rank_le h) rfl
  | drainComplete => exact resAfter_rank_le (execDrainComplete_rank_le h) rfl
  | savingEntry => exact resAfter_rank_le (execSavingEntry_rank_le h) rfl
  | saveHeaderDone => exact resAfter_rank_le (execSaveHeaderDone_rank_le h) rfl
  | saveTileRead => exact resAfter_rank_le (execSaveTileRead_rank_le h) rfl
  | saveTileDone index us pass => exact resAfter_rank_le (execSaveTileDone_rank_le index us pass h) rfl
  | saveRateTick packMa packMv => exact resAfter_rank_le (execSaveRateTick_rank_le packMa packMv h) rfl
  | packExhausted => exact resAfter_rank_le (execPackExhausted_rank_le h) rfl
  | vbusLowTimeout => exact resAfter_rank_le (execVbusLowTimeout_rank_le h) rfl
  | keeperBusError fromAttic => exact resAfter_rank_le (execKeeperBusError_rank_le fromAttic h) rfl
  | saveSealDone pass => exact resAfter_rank_le (execSaveSealDone_rank_le pass h) rfl
  | warmReturnComplete => exact resAfter_rank_le (execWarmReturnComplete_rank_le h) rfl
  | serviceOpenProgrammed => exact resAfter_rank_le (execServiceOpenProgrammed_rank_le h) rfl
  | halfEraseDone half => exact resAfter_rank_le (execHalfEraseDone_rank_le half h) rfl
  | bootImageCheck pass => exact absurd rfl (hb _)
  | floorPlanLoad => exact resAfter_rank_le (execFloorPlanLoad_rank_le h) rfl
  | railsValid => exact resAfter_rank_le (execRailsValid_rank_le h) rfl
  | railUv rail foldback => exact resAfter_rank_le (execRailUv_rank_le rail foldback h) rfl
  | railLost rail => exact resAfter_rank_le (execRailLost_rank_le rail h) rfl
  | metaReadDone lostPages lostKeys bad =>
    exact resAfter_rank_le (execMetaReadDone_rank_le lostPages lostKeys bad h) rfl
  | restoreDecision => exact resAfter_rank_le (execRestoreDecision_rank_le h) rfl
  | zeroFillDone => exact resAfter_rank_le (execZeroFillDone_rank_le h) rfl
  | restorePresetDone badOwn badBase mapBad =>
    exact resAfter_rank_le (execRestorePresetDone_rank_le badOwn badBase mapBad h) rfl
  | earlyTenancyEntry => exact resAfter_rank_le (execEarlyTenancyEntry_rank_le h) rfl
  | restoreTileWritten tile halfBad imageBad =>
    exact resAfter_rank_le (execRestoreTileWritten_rank_le tile halfBad imageBad h) rfl
  | foldStart => exact resAfter_rank_le (execFoldStart_rank_le h) rfl
  | nandReadDone part die block set soft ok tile =>
    exact resAfter_rank_le (execNandReadDone_rank_le part die block set soft ok tile h) rfl
  | nandEraseDone part die block pass => exact resAfter_rank_le (execNandEraseDone_rank_le part die block pass h) rfl
  | checkpointDue => exact resAfter_rank_le (execCheckpointDue_rank_le h) rfl
  | journalBlockReclaim die block => exact resAfter_rank_le (execJournalBlockReclaim_rank_le die block h) rfl
  | gcReclaim die => exact resAfter_rank_le (execGcReclaim_rank_le die h) rfl
  | wearLevelMove part die => exact resAfter_rank_le (execWearLevelMove_rank_le part die h) rfl
  | nandPatrolRead part die block set soft bad last =>
    exact resAfter_rank_le (execNandPatrolRead_rank_le part die block set soft bad last h) rfl
  | packRemoved packId ohms th0 th1 => exact resAfter_rank_le (execPackRemoved_rank_le packId ohms th0 th1 h) rfl
  | packInserted packId ohms th0 th1 atBoot reply =>
    exact resAfter_rank_le (execPackInserted_rank_le packId ohms th0 th1 atBoot reply h) rfl
  | packAuthPoll status pubkey resp => exact resAfter_rank_le (execPackAuthPoll_rank_le status pubkey resp h) rfl
  | packAuthRetry reply => exact resAfter_rank_le (execPackAuthRetry_rank_le reply h) rfl
  | packThermSample th0 th1 ohms => exact resAfter_rank_le (execPackThermSample_rank_le th0 th1 ohms h) rfl
  | packMeasure packMv packMa p12vMv limited =>
    exact resAfter_rank_le (execPackMeasure_rank_le packMv packMa p12vMv limited h) rfl
  | prechargeTimeout => exact resAfter_rank_le (execPrechargeTimeout_rank_le h) rfl
  | exerciseDue => exact resAfter_rank_le (execExerciseDue_rank_le h) rfl
  | exerciseRetry => exact resAfter_rank_le (execExerciseRetry_rank_le h) rfl
  | exerciseStart => exact resAfter_rank_le (execExerciseStart_rank_le h) rfl
  | exerciseAbort => exact resAfter_rank_le (execExerciseAbort_rank_le h) rfl
  | exerciseStopCheck => exact resAfter_rank_le (execExerciseStopCheck_rank_le h) rfl
  | resistancePulse => exact resAfter_rank_le (execResistancePulse_rank_le h) rfl
  | pulseNow => exact resAfter_rank_le (execPulseNow_rank_le h) rfl
  | gaugeRestReference => exact resAfter_rank_le (execGaugeRestReference_rank_le h) rfl
  | forceRef => exact resAfter_rank_le (execForceRef_rank_le h) rfl
  | restWindowOpen => exact resAfter_rank_le (execRestWindowOpen_rank_le h) rfl
  | restWindowTimeout => exact resAfter_rank_le (execRestWindowTimeout_rank_le h) rfl
  | estimatorStale => exact resAfter_rank_le (execEstimatorStale_rank_le h) rfl
  | capacityDerate => exact resAfter_rank_le (execCapacityDerate_rank_le h) rfl
  | gaugeRecordStore pass => exact resAfter_rank_le (execGaugeRecordStore_rank_le pass h) rfl
  | reckoningRun => exact resAfter_rank_le (execReckoningRun_rank_le h) rfl
  | reckoningPublish => exact resAfter_rank_le (execReckoningPublish_rank_le h) rfl
  | rekRun => exact resAfter_rank_le (execRekRun_rank_le h) rfl
  | packEolEval => exact resAfter_rank_le (execPackEolEval_rank_le h) rfl
  | klTrained peerMax peerMin => exact resAfter_rank_le (execKlTrained_rank_le peerMax peerMin h) rfl
  | revRetry => exact resAfter_rank_le (execRevRetry_rank_le h) rfl
  | helloMessage partner ident peers => exact resAfter_rank_le (execHelloMessage_rank_le partner ident peers h) rfl
  | flitReceive crcOk fseq hbState hbCount =>
    exact resAfter_rank_le (execFlitReceive_rank_le crcOk fseq hbState hbCount h) rfl
  | linkRetrainEnd ok => exact resAfter_rank_le (execLinkRetrainEnd_rank_le ok h) rfl
  | creditMessage inStep resync => exact resAfter_rank_le (execCreditMessage_rank_le inStep resync h) rfl
  | partnerForwardSend => exact resAfter_rank_le (execPartnerForwardSend_rank_le h) rfl
  | partnerWriteEntry set wseq beat data enables poison resync =>
    exact resAfter_rank_le (execPartnerWriteEntry_rank_le set wseq beat data enables poison resync h) rfl
  | ackMessage set wseq => exact resAfter_rank_le (execAckMessage_rank_le set wseq h) rfl
  | watchSend => exact resAfter_rank_le (execWatchSend_rank_le h) rfl
  | watchMessage w => exact resAfter_rank_le (execWatchMessage_rank_le w h) rfl
  | watchAckMessage no => exact resAfter_rank_le (execWatchAckMessage_rank_le no h) rfl
  | heartbeatSend => exact resAfter_rank_le (execHeartbeatSend_rank_le h) rfl
  | contactTimeout => exact resAfter_rank_le (execContactTimeout_rank_le h) rfl
  | partingMessage cause => exact resAfter_rank_le (execPartingMessage_rank_le cause h) rfl
  | pairWaitExpire => exact resAfter_rank_le (execPairWaitExpire_rank_le h) rfl
  | roleRecordProgrammed set pass => exact resAfter_rank_le (execRoleRecordProgrammed_rank_le set pass h) rfl
  | lanternAbandon => exact resAfter_rank_le (execLanternAbandon_rank_le h) rfl
  | lanternStuck => exact resAfter_rank_le (execLanternStuck_rank_le h) rfl
  | lanternToggling => exact resAfter_rank_le (execLanternToggling_rank_le h) rfl
  | resyncTileCopy set equal => exact resAfter_rank_le (execResyncTileCopy_rank_le set equal h) rfl
  | digestMessage tile digest => exact resAfter_rank_le (execDigestMessage_rank_le tile digest h) rfl
  | diffMessage tile => exact resAfter_rank_le (execDiffMessage_rank_le tile h) rfl
  | handoverBoundary set => exact resAfter_rank_le (execHandoverBoundary_rank_le set h) rfl
  | handoverMessage set epoch last => exact resAfter_rank_le (execHandoverMessage_rank_le set epoch last h) rfl
  | takenMessage set epoch => exact resAfter_rank_le (execTakenMessage_rank_le set epoch h) rfl
  | homeReqSend set => exact resAfter_rank_le (execHomeReqSend_rank_le set h) rfl
  | homeReqMessage set => exact resAfter_rank_le (execHomeReqMessage_rank_le set h) rfl
  | drillMessage set phase result => exact resAfter_rank_le (execDrillMessage_rank_le set phase result h) rfl
  | drillPhaseEnd set => exact resAfter_rank_le (execDrillPhaseEnd_rank_le set h) rfl
  | dmwChTailWrite ch value => exact resAfter_rank_le (execDmwChTailWrite_rank_le ch value h) rfl
  | dmwEnable ch value => exact resAfter_rank_le (execDmwEnable_rank_le ch value h) rfl
  | dmwPause ch => exact resAfter_rank_le (execDmwPause_rank_le ch h) rfl
  | dmwResume ch => exact resAfter_rank_le (execDmwResume_rank_le ch h) rfl
  | dmwReset ch => exact resAfter_rank_le (execDmwReset_rank_le ch h) rfl
  | dmwCopy ch => exact resAfter_rank_le (execDmwCopy_rank_le ch h) rfl
  | dmwFill ch => exact resAfter_rank_le (execDmwFill_rank_le ch h) rfl
  | dmwStow ch => exact resAfter_rank_le (execDmwStow_rank_le ch h) rfl
  | dmwFetch ch => exact resAfter_rank_le (execDmwFetch_rank_le ch h) rfl
  | dmwCheck ch => exact resAfter_rank_le (execDmwCheck_rank_le ch h) rfl
  | dmwStepGrant unreadable => exact resAfter_rank_le (execDmwStepGrant_rank_le unreadable h) rfl
  | dmwWriteAccept ch => exact resAfter_rank_le (execDmwWriteAccept_rank_le ch h) rfl
  | dmwDescriptorComplete ch => exact resAfter_rank_le (execDmwDescriptorComplete_rank_le ch h) rfl
  | atticProgram master bank cycles => exact resAfter_rank_le (execAtticProgram_rank_le master bank cycles h) rfl
  | atticRowProgram master bank cycles => exact resAfter_rank_le (execAtticRowProgram_rank_le master bank cycles h) rfl
  | atticSectorErase master bank cycles =>
    exact resAfter_rank_le (execAtticSectorErase_rank_le master bank cycles h) rfl
  | atticRecover master bank cycles => exact resAfter_rank_le (execAtticRecover_rank_le master bank cycles h) rfl
  | atticSuspend master bank => exact resAfter_rank_le (execAtticSuspend_rank_le master bank h) rfl
  | atticResume master bank => exact resAfter_rank_le (execAtticResume_rank_le master bank h) rfl
  | atticReadReset master bank => exact resAfter_rank_le (execAtticReadReset_rank_le master bank h) rfl
  | atticSeqTimeout bank => exact resAfter_rank_le (execAtticSeqTimeout_rank_le bank h) rfl
  | atticBadAccess master offset => exact resAfter_rank_le (execAtticBadAccess_rank_le master offset h) rfl
  | atticProgramDone bank pass => exact resAfter_rank_le (execAtticProgramDone_rank_le bank pass h) rfl
  | atticErasePulseDone bank pass twinUe =>
    exact resAfter_rank_le (execAtticErasePulseDone_rank_le bank pass twinUe h) rfl
  | atticForeignAccess master offset decode =>
    exact resAfter_rank_le (execAtticForeignAccess_rank_le master offset decode h) rfl
  | atticAutoResume bank => exact resAfter_rank_le (execAtticAutoResume_rank_le bank h) rfl
  | fetchFault master offset => exact resAfter_rank_le (execFetchFault_rank_le master offset h) rfl
  | eraseStarve bank => exact resAfter_rank_le (execEraseStarve_rank_le bank h) rfl
  | atticBootScan lostSeals => exact resAfter_rank_le (execAtticBootScan_rank_le lostSeals h) rfl
  | atticBrownout => exact resAfter_rank_le (execAtticBrownout_rank_le h) rfl
  | atticRead master offset decode => exact resAfter_rank_le (execAtticRead_rank_le master offset decode h) rfl
  | sramUe address master beat => exact resAfter_rank_le (execSramUe_rank_le address master beat h) rfl
  | fabricParityError sender address receiver =>
    exact resAfter_rank_le (execFabricParityError_rank_le sender address receiver h) rfl
  | coreReload core => exact resAfter_rank_le (execCoreReload_rank_le core h) rfl
  | sramScrubRead finding beat => exact resAfter_rank_le (execSramScrubRead_rank_le finding beat h) rfl
  | atticScrubRead decode => exact resAfter_rank_le (execAtticScrubRead_rank_le decode h) rfl
  | eccTestWrite value => exact resAfter_rank_le (execEccTestWrite_rank_le value h) rfl
  | eccTestRead value => exact resAfter_rank_le (execEccTestRead_rank_le value h) rfl
  | graceExpire block cls => exact resAfter_rank_le (execGraceExpire_rank_le block cls h) rfl
  | quietExpire block cls => exact resAfter_rank_le (execQuietExpire_rank_le block cls h) rfl
  | fackWrite block value => exact resAfter_rank_le (execFackWrite_rank_le block value h) rfl
  | quarantineEnd block => exact resAfter_rank_le (execQuarantineEnd_rank_le block h) rfl
  | devHarbourAckWrite value => exact resAfter_rank_le (execDevHarbourAckWrite_rank_le value h) rfl
  | precautionStart => exact resAfter_rank_le (execPrecautionStart_rank_le h) rfl
  | precautionEnd => exact resAfter_rank_le (execPrecautionEnd_rank_le h) rfl
  | precautionWaitTimeout => exact resAfter_rank_le (execPrecautionWaitTimeout_rank_le h) rfl
  | floorPlanApply => exact resAfter_rank_le (execFloorPlanApply_rank_le h) rfl
  | sbSleep => exact resAfter_rank_le (execSbSleep_rank_le h) rfl
  | sbWake => exact resAfter_rank_le (execSbWake_rank_le h) rfl
  | sbRead addr n => exact resAfter_rank_le (execSbRead_rank_le addr n h) rfl
  | sbWrite addr data reread => exact resAfter_rank_le (execSbWrite_rank_le addr data reread h) rfl
  | sbAlertResponse other more => exact resAfter_rank_le (execSbAlertResponse_rank_le other more h) rfl
  | sbClkLowTimeout acked => exact resAfter_rank_le (execSbClkLowTimeout_rank_le acked h) rfl
  | sbDataLowTimeout => exact resAfter_rank_le (execSbDataLowTimeout_rank_le h) rfl
  | sbProtocolError released => exact resAfter_rank_le (execSbProtocolError_rank_le released h) rfl
  | twsAlertWrite value => exact resAfter_rank_le (execTwsAlertWrite_rank_le value h) rfl
  | pbTransaction cmd ok => exact resAfter_rank_le (execPbTransaction_rank_le cmd ok h) rfl
  | pbRetry ok => exact resAfter_rank_le (execPbRetry_rank_le ok h) rfl
  | pbClkLowTimeout cmd sdaLow => exact resAfter_rank_le (execPbClkLowTimeout_rank_le cmd sdaLow h) rfl
  | pbArbitrationLoss cmd cond => exact resAfter_rank_le (execPbArbitrationLoss_rank_le cmd cond h) rfl
  | pbProtocolError cmd => exact resAfter_rank_le (execPbProtocolError_rank_le cmd h) rfl
  | pbBusClear sdaHigh => exact resAfter_rank_le (execPbBusClear_rank_le sdaHigh h) rfl
  | svcHello seq input => exact resAfter_rank_le (execSvcHello_rank_le seq input h) rfl
  | svcAuth seq input => exact resAfter_rank_le (execSvcAuth_rank_le seq input h) rfl
  | svcClose seq => exact resAfter_rank_le (execSvcClose_rank_le seq h) rfl
  | svcStatus seq => exact resAfter_rank_le (execSvcStatus_rank_le seq h) rfl
  | readLog seq input => exact resAfter_rank_le (execReadLog_rank_le seq input h) rfl
  | readReg seq input => exact resAfter_rank_le (execReadReg_rank_le seq input h) rfl
  | readAttic seq input failAt => exact resAfter_rank_le (execReadAttic_rank_le seq input failAt h) rfl
  | readNand seq input ok => exact resAfter_rank_le (execReadNand_rank_le seq input ok h) rfl
  | pkgBegin seq input attic => exact resAfter_rank_le (execPkgBegin_rank_le seq input attic h) rfl
  | pkgChunk seq input attic readBack => exact resAfter_rank_le (execPkgChunk_rank_le seq input attic readBack h) rfl
  | pkgEnd seq attic => exact resAfter_rank_le (execPkgEnd_rank_le seq attic h) rfl
  | activate seq cores attic => exact resAfter_rank_le (execActivate_rank_le seq cores attic h) rfl
  | handoverReadyTimeout => exact resAfter_rank_le (execHandoverReadyTimeout_rank_le h) rfl
  | confirm seq first second => exact resAfter_rank_le (execConfirm_rank_le seq first second h) rfl
  | autoConfirm first second => exact resAfter_rank_le (execAutoConfirm_rank_le first second h) rfl
  | svcAbort seq => exact resAfter_rank_le (execSvcAbort_rank_le seq h) rfl
  | svcProgress seq permille => exact resAfter_rank_le (execSvcProgress_rank_le seq permille h) rfl
  | svcFrameTimeout => exact resAfter_rank_le (execSvcFrameTimeout_rank_le h) rfl
  | svcPresHigh => exact resAfter_rank_le (execSvcPresHigh_rank_le h) rfl
  | svcSessionIdle => exact resAfter_rank_le (execSvcSessionIdle_rank_le h) rfl
  | authLockoutExpire => exact resAfter_rank_le (execAuthLockoutExpire_rank_le h) rfl
  | almanacColdRestore => exact resAfter_rank_le (execAlmanacColdRestore_rank_le h) rfl
  | logRecordWrite => exact resAfter_rank_le (execLogRecordWrite_rank_le h) rfl
  | dieTempSample die stackTemps rails powerDw refPresent =>
    exact resAfter_rank_le (execDieTempSample_rank_le die stackTemps rails powerDw refPresent h) rfl
  | throttleExit => exact resAfter_rank_le (execThrottleExit_rank_le h) rfl
  | peakClear offset => exact resAfter_rank_le (execPeakClear_rank_le offset h) rfl
  | jtagBypass => exact resAfter_rank_le (execJtagBypass_rank_le h) rfl
  | jtagIdcode => exact resAfter_rank_le (execJtagIdcode_rank_le h) rfl
  | jtagSamplePreload pins cells => exact resAfter_rank_le (execJtagSamplePreload_rank_le pins cells h) rfl
  | jtagExtest pins cells => exact resAfter_rank_le (execJtagExtest_rank_le pins cells h) rfl
  | jtagClamp => exact resAfter_rank_le (execJtagClamp_rank_le h) rfl
  | jtagHighz => exact resAfter_rank_le (execJtagHighz_rank_le h) rfl
  | hdmDecoderCommit index base size ways gran pos =>
    exact resAfter_rank_le (execHdmDecoderCommit_rank_le index base size ways gran pos h) rfl
  | discardedFrame => exact resAfter_rank_le (execDiscardedFrame_rank_le h) rfl
  | coldLoss => exact resAfter_rank_le (execColdLoss_rank_le h) rfl
  | backgroundEraseResume die => exact resAfter_rank_le (execBackgroundEraseResume_rank_le die h) rfl
  | correctionCount24h => exact resAfter_rank_le (execCorrectionCount24h_rank_le h) rfl

theorem State.rank_eq_zero_iff : s.rank = 0 ↔ s.dev.state = .drydock := by
  simp only [State.rank]
  cases s.dev.state <;> cases s.svc.selected <;> simp [imageRank]

theorem State.rank_le_one_iff : s.rank ≤ 1 ↔ (s.dev.state = .boot → s.svc.selected = false) := by
  simp only [State.rank]
  cases s.dev.state <;> cases s.svc.selected <;> simp [imageRank]

theorem exec_bootImageCheck_of_ne_boot (pass : Bool) (h : s.dev.state ≠ .boot) :
    exec (.bootImageCheck pass) s = .next s := by
  show execBootImageCheck pass s = _
  simp [execBootImageCheck, h]

theorem exec_drydockPowerRemoved_of_drydock (h : s.dev.state = .drydock) :
    (resAfter (exec .drydockPowerRemoved s) s).dev.state = .off := by
  show (resAfter (execDrydockPowerRemoved s) s).dev.state = _
  simp [execDrydockPowerRemoved, h, enterOff]

theorem exec_drydockPowerRemoved_of_ne_drydock (h : s.dev.state ≠ .drydock) :
    exec .drydockPowerRemoved s = .next s := by
  show execDrydockPowerRemoved s = _
  unfold execDrydockPowerRemoved
  split
  · contradiction
  · rfl

/-- Settles O59: no command raises the image rank of a part, except the image check, which does nothing outside BOOT,
and the removal of power in DRYDOCK, which leads to OFF. -/
theorem drydockPersists : Obligations.DrydockPersists := by
  intro c s t e
  have ht : t = resAfter (exec c s) s := by rw [e, resAfter_next]
  by_cases hb : ∃ pass, c = .bootImageCheck pass
  · obtain ⟨pass, rfl⟩ := hb
    have hk : s.dev.state ≠ .boot → t = s := fun h => by
      rw [ht, exec_bootImageCheck_of_ne_boot pass h, resAfter_next]
    refine ⟨fun hs hn => ?_, fun hs hn => absurd (hk hs ▸ hn) hs⟩
    rw [hk (by simp [hs])] at hn
    exact absurd hs hn
  by_cases hd : c = .drydockPowerRemoved
  · subst hd
    by_cases hs : s.dev.state = .drydock
    · have ho : t.dev.state = .off := ht ▸ exec_drydockPowerRemoved_of_drydock hs
      simp [ho]
    · rw [exec_drydockPowerRemoved_of_ne_drydock hs, resAfter_next] at ht
      subst ht
      exact ⟨fun h => absurd h hs, fun h hn => absurd hn h⟩
  · have hr : t.rank ≤ s.rank := ht ▸ exec_rank_le c (fun pass h => hb ⟨pass, h⟩) hd (Nat.le_refl _)
    constructor
    · intro hs hn
      rw [State.rank_eq_zero_iff.2 hs, Nat.le_zero] at hr
      exact absurd (State.rank_eq_zero_iff.1 hr) hn
    · intro hs
      exact State.rank_le_one_iff.1 (Nat.le_trans hr (State.rank_le_one_iff.2 fun h => absurd h hs))
end Sys2Proof.Machine
end

section

/-! The host link (03_host_link): Set Energy Grant and the end of a grant (R110), GPF requests (R97, R99). A mailbox command
that the state serves is its own function (`mailbox_of_serves`); a GPF request is decided by `gpfAnswers`, which says one
thing before the Fence has closed and another after it. -/

namespace Sys2Proof.Machine

variable {s : State}

/-! ### The mailbox -/

theorem mailbox_of_serves {op : Nat} {f : State → MbxAns} (h : serves s op) : mailbox op f s = mbxAnswer op (f s) := by
  rw [serves] at h
  simp only [mailbox, h]

@[simp] theorem mbxAnswer_mbxRc (op rc : Nat) (s : State) : mbxAnswer op (mbxRc rc s) = emit (.mailbox op rc []) s := rfl

/-! ### Energy grants (R110, R422) -/

theorem exec_setEnergyGrant (joules validS seq : Nat) (s : State) :
    exec (.setEnergyGrant joules validS seq) s = execSetEnergyGrant joules validS seq s := rfl

theorem exec_grantLapse (s : State) : exec .grantLapse s = execGrantLapse s := rfl

theorem setEnergyGrant_accepted {joules validS seq : Nat} (hs : serves s 0xC010) (hm : s.plan.domain.grantMode = true)
    (hn : ∀ n, s.rek.lastSeq = some n → n < seq) (hv : validS ≠ 0) :
    exec (.setEnergyGrant joules validS seq) s = .next (emit (.mailbox 0xC010 0 []) { s with rek := { s.rek with
      grant := some { joules := joules, validS := validS, seq := seq, at_ := s.almanac }, lastSeq := some seq,
      again := true } }) := by
  rw [exec_setEnergyGrant, execSetEnergyGrant, mailbox_of_serves hs]
  cases hl : s.rek.lastSeq with
  | none => simp [hm, hv, wantRek, rcSuccess]
  | some n =>
    have hnew : ¬ seq ≤ n := Nat.not_le.2 (hn n hl)
    simp [hm, hv, hnew, wantRek, rcSuccess]

theorem setEnergyGrant_invalid_of_grantMode {joules validS seq : Nat} (hs : serves s 0xC010)
    (hm : s.plan.domain.grantMode = false) : Answers (.setEnergyGrant joules validS seq) s 0xC010 2 [] := by
  rw [Answers, exec_setEnergyGrant, execSetEnergyGrant, mailbox_of_serves hs]
  simp [hm, rcInvalid]

theorem setEnergyGrant_invalid_of_seq {joules validS seq n : Nat} (hs : serves s 0xC010) (hl : s.rek.lastSeq = some n)
    (hn : seq ≤ n) : Answers (.setEnergyGrant joules validS seq) s 0xC010 2 [] := by
  rw [Answers, exec_setEnergyGrant, execSetEnergyGrant, mailbox_of_serves hs]
  simp [hl, hn, rcInvalid]

theorem advanceTo_rek (t : Nat) (s : State) : (advanceTo t s).rek = s.rek := by simp [advanceTo_frame]

theorem grantLapse_of_grant {g : Grant} (h : s.rek.grant = some g) :
    exec .grantLapse s = .next (wantRek (raise rekGrantLapse
      { advanceTo (g.at_ + g.validS * 1000000) s with rek := { s.rek with grant := none } })) := by
  simp only [exec_grantLapse, execGrantLapse, h, lapse, advanceTo_rek]

/-- Settles O8: each clause is one answer of the command, and the lapse leaves the rest of the Reckoning's state as it was
because moving the Almanac does not touch it. -/
theorem energyGrants : Obligations.EnergyGrants := fun _ _ _ _ =>
  ⟨setEnergyGrant_accepted, setEnergyGrant_invalid_of_grantMode, fun _ => setEnergyGrant_invalid_of_seq,
    fun _ => grantLapse_of_grant⟩

/-! ### GPF requests (R97, R99) -/

theorem exec_gpfPhase1 (s : State) : exec .gpfPhase1 s = execGpfPhase1 s := rfl

theorem exec_gpfPhase2 (s : State) : exec .gpfPhase2 s = execGpfPhase2 s := rfl

theorem gpfAnswers_of_open (hl : s.hst.linkUp = true) (h : s.dev.state = .boot ∨ s.dev.state = .restore ∨
    s.dev.state = .tenancy ∨ s.dev.state = .service ∨ s.dev.state = .harbour) : gpfAnswers s = true := by
  rcases h with h | h | h | h | h <;> simp [gpfAnswers, hl, h]

theorem gpfAnswers_of_closed (h : s.dev.state = .fenced ∨ s.dev.state = .saving ∨ s.dev.state = .warmReturn ∨
    s.dev.state = .saved) : gpfAnswers s = false := by
  rcases h with h | h | h | h <;> simp [gpfAnswers, h]

theorem gpfPhase1_of_answers (h : gpfAnswers s = true) : exec .gpfPhase1 s = .next (emit (.gpf 1) s) := by
  rw [exec_gpfPhase1, execGpfPhase1, if_pos h]

theorem gpfPhase1_of_not_answers (h : gpfAnswers s = false) : exec .gpfPhase1 s = .next s := by
  simp [exec_gpfPhase1, execGpfPhase1, h]

theorem gpfPhase2_of_not_answers (h : gpfAnswers s = false) : exec .gpfPhase2 s = .next s := by
  simp [exec_gpfPhase2, execGpfPhase2, h]

/-- Settles O20: `gpfAnswers` holds in each open state with the link up and in none after the Fence, and decides both
phases. -/
theorem gpfRequests : Obligations.GpfRequests := fun _ =>
  ⟨fun hl h => gpfPhase1_of_answers (gpfAnswers_of_open hl h), fun h =>
    have hc := gpfAnswers_of_closed h
    ⟨gpfPhase1_of_not_answers hc, gpfPhase2_of_not_answers hc⟩⟩

end Sys2Proof.Machine
end

section

/-! MUSTER_IN_N and the Fence (07_fence_save R247, R250, R255). An enabled low level is a Fence trigger of cause 0x08
(`exec_musterInLow`): it closes the Fence in the four states that have one to close, and ends a restore in SAVED. The part
stays in SAVED because only an absence of power or an assertion of PERST_N begun since the Fence starts BOOT from there
(R710), and a trigger of another cause than 0x07 begins none. -/

namespace Sys2Proof.Machine

variable {s : State} {cause : Nat}

/-! ### Closing the Fence (R247) -/

@[simp] theorem closeFence_dev_state (cause : Nat) (s : State) : (closeFence cause s).dev.state = .fenced := by
  simp [closeFence, cutStaging_frame, gauFence_frame, plkFence_frame, fenceDirty_frame]

theorem fenceTrigger_eq_closeFence (hc : cause ≠ 0x09) (h : s.dev.state = .service ∨ s.dev.state = .tenancy ∨
    s.dev.state = .harbour ∨ s.dev.state = .warmReturn) : fenceTrigger cause s = closeFence cause s := by
  rcases h with h | h | h | h <;> simp [fenceTrigger, h, hc]

/-! ### Ending a restore in SAVED (R255, R710) -/

/-- The part as it comes into SAVED: the rails off, the power path AUX, the save sequencer idle. -/
def savedPower (s : State) : State :=
  { railsOff s with nrg := { (railsOff s).nrg with path := .aux }, sav := { (railsOff s).sav with phase := .idle } }

theorem enterSaved_of_no_absence (h : s.sav.absenceSinceFence = false) :
    enterSaved cause s = transition .saved cause (savedPower s) := by
  have hb : ¬ bootsAtOnce (transition .saved cause (savedPower s)) = true := by
    simp [bootsAtOnce, transition_frame, savedPower, railsOff, h]
  exact if_neg hb

/-- The part with its restore stopped by a trigger that is no absence of power. -/
def stoppedRestore (s : State) : State :=
  { s with sav := { s.sav with absenceSinceFence := false, restore := stopRestore s.almanac s.sav.restore } }

theorem fenceTrigger_of_restore (hc : cause ≠ 0x07) (h : s.dev.state = .restore) :
    fenceTrigger cause s = transition .saved cause (savedPower (stoppedRestore s)) := by
  simp only [fenceTrigger, h, hc, decide_false]
  exact enterSaved_of_no_absence rfl

/-! ### The pin (R255) -/

/-- The part with MUSTER_IN_N's low level taken in: the level stays low, or is high again `high` µs from now. -/
def takeMusterLow (high : Option Nat) (s : State) : State :=
  { s with sav := { s.sav with musterIn := high.isSome,
                               musterHighAt := high.elim s.sav.musterHighAt fun d => s.almanac + d } }

theorem exec_musterInLow (high : Option Nat) (s : State) : exec (.musterInLow high) s = .next
    (if s.plan.pins.musterInEn then fenceTrigger 0x08 (takeMusterLow high s) else takeMusterLow high s) := by
  cases high <;> rfl

theorem musterInLow_closes_fence (high : Option Nat) (he : s.plan.pins.musterInEn = true) (h : s.dev.state = .service ∨
    s.dev.state = .tenancy ∨ s.dev.state = .harbour ∨ s.dev.state = .warmReturn) :
    exec (.musterInLow high) s = .next (closeFence 0x08 (takeMusterLow high s)) := by
  rw [exec_musterInLow, if_pos he, fenceTrigger_eq_closeFence (s := takeMusterLow high s) (by decide) h]

theorem musterInLow_ends_restore (high : Option Nat) (he : s.plan.pins.musterInEn = true) (h : s.dev.state = .restore) :
    exec (.musterInLow high) s =
      .next (transition .saved 0x08 (savedPower (stoppedRestore (takeMusterLow high s)))) := by
  rw [exec_musterInLow, if_pos he, fenceTrigger_of_restore (s := takeMusterLow high s) (by decide) h]

theorem musterInLow_ignored (high : Option Nat) (he : s.plan.pins.musterInEn = false) :
    exec (.musterInLow high) s = .next (takeMusterLow high s) := by
  rw [exec_musterInLow, he]
  rfl

/-- Settles O12: a low level is a Fence trigger of cause 0x08 where MUSTER_IN_EN is 1, and is only taken in where it is 0.
Neither closing the Fence nor the way to SAVED touches DRAM, and the latter leaves what the halves hold. -/
theorem musterIn : Obligations.MusterIn := fun _ high =>
  ⟨fun he h => ⟨_, musterInLow_closes_fence none he h, closeFence_dev_state _ _, by
      simp [closeFence_frame, takeMusterLow]⟩,
    fun he h => ⟨_, musterInLow_ends_restore none he h, by
      simp [transition_frame, savedPower, railsOff, stoppedRestore, takeMusterLow]⟩,
    fun he => ⟨_, musterInLow_ignored high he, rfl⟩⟩

end Sys2Proof.Machine
end

section

/-! The host calendar (19_almanac_log_identity R652): Set Timestamp and Get Timestamp. Set Timestamp puts OFFSET and
CAL_VALID and may then write a Log record (R653), and a record that the holding queue drops raises HOLD_DROP (R659): the
raise may climb its station's ladder to a block reset, HARBOUR or the Fence. The bulk of this part says that no step of the
ladder moves the host clock that the Log block holds; each lemma follows the branches of its function. -/

namespace Sys2Proof.Machine

/-- The host clock that the always-on domain holds (R652): OFFSET and CAL_VALID. -/
def Log.hostClock (l : Log) : Int × Bool := (l.offset, l.calValid)

theorem Log.hostClock_eq_iff {l m : Log} :
    l.hostClock = m.hostClock ↔ l.offset = m.offset ∧ l.calValid = m.calValid :=
  Iff.of_eq (Prod.mk.injEq ..)

/-- Both branches of a step keep the host clock of a state. -/
theorem hostClock_ite {c : Prop} [Decidable c] {a b s : State} (ha : a.log.hostClock = s.log.hostClock)
    (hb : b.log.hostClock = s.log.hostClock) : (if c then a else b).log.hostClock = s.log.hostClock := by
  split
  · exact ha
  · exact hb

/-- A step that is taken or left out keeps the host clock of what came before it. -/
theorem hostClock_ite_step {c : Prop} [Decidable c] {t' t s : State} (h' : t'.log.hostClock = t.log.hostClock)
    (h : t.log.hostClock = s.log.hostClock) : (if c then t' else t).log.hostClock = s.log.hostClock :=
  hostClock_ite (h'.trans h) h

theorem foldl_hostClock {α : Type} {f : State → α → State} (h : ∀ s a, (f s a).log.hostClock = s.log.hostClock)
    (l : List α) (s : State) : (l.foldl f s).log.hostClock = s.log.hostClock :=
  foldl_keeps (fun s => s.log.hostClock) f h l s

/-! ### Records, events and transitions keep the host clock -/

section

variable (s : State)

theorem logCore_hostClock (type block a0 a1 a2 suite master : Nat) :
    (logCore type block a0 a1 a2 suite master s).log.hostClock = s.log.hostClock :=
  hostClock_ite (hostClock_ite rfl rfl) rfl

theorem notify_hostClock (v : Nat) : (notify v s).log.hostClock = s.log.hostClock := by
  simp only [notify_frame]

theorem alertBit_hostClock (k : Nat) : (alertBit k s).log.hostClock = s.log.hostClock := by
  simp only [alertBit_frame]

theorem event_hostClock (code : Nat) (b : Block) (a0 a1 : Nat) :
    (event code b a0 a1 s).log.hostClock = s.log.hostClock := by
  simp only [event, vendorEvent, logCore_hostClock, addEvent_frame]

theorem transition_hostClock (new : OpState) (cause : Nat) :
    (transition new cause s).log.hostClock = s.log.hostClock :=
  (event_hostClock ..).trans <| (logCore_hostClock ..).trans <| (alertBit_hostClock ..).trans <| hostClock_ite rfl rfl

theorem setArmed_hostClock (a : Bool) : (setArmed a s).log.hostClock = s.log.hostClock :=
  hostClock_ite rfl <| (alertBit_hostClock ..).trans <| (notify_hostClock ..).trans (event_hostClock ..)

theorem reeval_hostClock : (reeval s).log.hostClock = s.log.hostClock :=
  hostClock_ite
    (hostClock_ite ((notify_hostClock ..).trans (setArmed_hostClock ..)) (setArmed_hostClock ..))
    (hostClock_ite (setArmed_hostClock ..) rfl)

theorem completeTile_hostClock (pass : Bool) (t : Nat) :
    (completeTile pass t s).log.hostClock = s.log.hostClock := by
  simp only [completeTile, endWait_frame, putTile_frame]
  exact hostClock_ite rfl rfl

/-! ### Power: BOOT, SAVED and OFF -/

theorem powerCycle_hostClock : (powerCycle s).log.hostClock = s.log.hostClock := rfl

theorem enterBoot_hostClock : (enterBoot s).log.hostClock = s.log.hostClock :=
  (logCore_hostClock ..).trans <| (transition_hostClock ..).trans (powerCycle_hostClock s)

theorem transition_savedPower_hostClock (new : OpState) (cause : Nat) :
    (transition new cause (savedPower s)).log.hostClock = s.log.hostClock :=
  transition_hostClock (savedPower s) new cause

theorem enterSaved_hostClock (cause : Nat) : (enterSaved cause s).log.hostClock = s.log.hostClock :=
  have h := transition_savedPower_hostClock s .saved cause
  hostClock_ite ((enterBoot_hostClock _).trans h) h

theorem enterOff_hostClock (cause : Nat) : (enterOff cause s).log.hostClock = s.log.hostClock :=
  transition_savedPower_hostClock s .off cause

/-! ### The Fence and HARBOUR -/

theorem recordDirty_hostClock (k : Nat) : (recordDirty k s).log.hostClock = s.log.hostClock :=
  hostClock_ite rfl (event_hostClock ..)

theorem fenceDirty_hostClock : (fenceDirty s).log.hostClock = s.log.hostClock :=
  hostClock_ite (recordDirty_hostClock ..) (hostClock_ite (recordDirty_hostClock ..) rfl)

theorem cutStaging_hostClock : (cutStaging s).log.hostClock = s.log.hostClock :=
  hostClock_ite (logCore_hostClock ..) rfl

theorem gauFence_hostClock (cause : Nat) : (gauFence cause s).log.hostClock = s.log.hostClock :=
  hostClock_ite_step rfl (hostClock_ite_step rfl rfl)

theorem plkFence_hostClock : (plkFence s).log.hostClock = s.log.hostClock := by
  refine hostClock_ite_step rfl ((foldl_hostClock ?_ _ _).trans (foldl_hostClock ?_ _ _))
  · exact fun _ _ => (notify_hostClock ..).trans (event_hostClock ..)
  · exact fun _ _ => by simp only [sendFlit_frame]

theorem closeFence_hostClock (cause : Nat) : (closeFence cause s).log.hostClock = s.log.hostClock :=
  (cutStaging_hostClock ..).trans <| (gauFence_hostClock ..).trans <| by
    simp only [stopPrecaution_frame, plkFence_hostClock, fenceDirty_hostClock, transition_hostClock, atticFence_frame]

theorem fenceTrigger_hostClock (cause : Nat) : (fenceTrigger cause s).log.hostClock = s.log.hostClock := by
  unfold fenceTrigger
  split
  iterate 3 exact closeFence_hostClock ..
  · exact hostClock_ite rfl (closeFence_hostClock ..)
  · exact enterSaved_hostClock ..
  · exact hostClock_ite (enterOff_hostClock ..) (hostClock_ite (enterSaved_hostClock ..) rfl)
  all_goals rfl

theorem startErase_hostClock (h : Half) : (startErase h s).log.hostClock = s.log.hostClock := by
  simp only [startErase_frame]

theorem enterHarbour_hostClock (cause : Nat) : (enterHarbour cause s).log.hostClock = s.log.hostClock := by
  unfold enterHarbour
  extract_lets s₁ s₂ s₃ s₄
  have h₂ : s₂.log.hostClock = s.log.hostClock :=
    (notify_hostClock ..).trans <| (event_hostClock ..).trans (transition_hostClock ..)
  have h₃ : s₃.log.hostClock = s.log.hostClock := hostClock_ite_step (startErase_hostClock ..) h₂
  have h₄ : s₄.log.hostClock = s.log.hostClock := hostClock_ite_step (startErase_hostClock ..) h₃
  -- what is set last is a record of a state's fields: Lean compares it with `s₄` at once when `s₄` is not unfolded
  clear_value s₄
  exact h₄

/-! ### Block resets -/

theorem modStation_hostClock (b : Block) (f : Station → Station) :
    (modStation b f s).log.hostClock = s.log.hostClock := rfl

theorem holdCore_hostClock (core : Nat) : (holdCore core s).log.hostClock = s.log.hostClock := rfl

theorem celResetCopies_hostClock : (celResetCopies s).log.hostClock = s.log.hostClock := by
  refine (modStation_hostClock ..).trans (foldl_hostClock ?_ _ _)
  exact fun _ _ => completeTile_hostClock ..

theorem drainAll_hostClock : (drainAll s).log.hostClock = s.log.hostClock := by
  unfold drainAll
  extract_lets owed s₁ writes hst plk s₂
  have h₁ : s₁.log.hostClock = s.log.hostClock :=
    foldl_hostClock (fun _ _ => by simp only [drainSubch_frame]) _ _
  have h : s₂.log.hostClock = s.log.hostClock := h₁
  clear_value s₂
  refine hostClock_ite h ((reeval_hostClock _).trans ((foldl_hostClock ?_ _ _).trans h))
  exact fun _ _ => by simp only [writeEventCore_frame]

theorem blockEffect_hostClock (b : Block) : (blockEffect b s).log.hostClock = s.log.hostClock := by
  cases b with
  | hst => simp only [blockEffect, reeval_hostClock, linkReset_frame]
  | drc => exact drainAll_hostClock s
  | cel => exact celResetCopies_hostClock s
  | dmw =>
    rw [blockEffect, reeval_hostClock]
    exact foldl_hostClock (fun _ _ => by simp only [dmwResetChan_frame]) _ _
  | plk =>
    rw [blockEffect, holdCore_hostClock]
    exact hostClock_ite rfl rfl
  | att => simp only [blockEffect, cutOp_frame, cutProg_frame]
  | svc => exact cutStaging_hostClock s
  | _ => rfl

theorem blockReset_hostClock (b : Block) : (blockReset b s).log.hostClock = s.log.hostClock := by
  unfold blockReset
  split
  · rfl
  · simp only [blockEffect_hostClock, quarantine_frame]

/-! ### The ladder of a fault station (R555 to R561) -/

theorem abandon_hostClock : (abandon s).log.hostClock = s.log.hostClock := by
  unfold abandon
  split
  case h_7 => exact fenceTrigger_hostClock ..
  all_goals rfl

theorem harbourAction_hostClock : (harbourAction s).log.hostClock = s.log.hostClock := by
  unfold harbourAction
  split
  case h_1 => exact enterHarbour_hostClock ..
  all_goals rfl

theorem levelAction_hostClock (b : Block) (level : Nat) :
    (levelAction b level s).log.hostClock = s.log.hostClock := by
  unfold levelAction
  extract_lets s₁
  have h : s₁.log.hostClock = s.log.hostClock := hostClock_ite rfl (notify_hostClock ..)
  exact hostClock_ite (hostClock_ite ((fenceTrigger_hostClock ..).trans h) h) <|
    hostClock_ite ((blockReset_hostClock ..).trans h) <| hostClock_ite ((harbourAction_hostClock _).trans h) <|
      hostClock_ite ((abandon_hostClock _).trans h) h

theorem escalate_hostClock (b : Block) (old : Nat) : (escalate b old s).log.hostClock = s.log.hostClock := by
  refine hostClock_ite_step ((levelAction_hostClock ..).trans (event_hostClock ..)) (hostClock_ite_step ?_ rfl)
  simp only [stopAuto_frame]

theorem raiseNow_hostClock (c : FClass) (addr mstr access entry : Nat) :
    (raiseNow c addr mstr access entry s).log.hostClock = s.log.hostClock :=
  (escalate_hostClock ..).trans <| hostClock_ite (alertBit_hostClock ..) rfl

theorem raiseCore_hostClock (c : FClass) (addr mstr access entry : Nat) :
    (raiseCore c addr mstr access entry s).log.hostClock = s.log.hostClock :=
  hostClock_ite rfl (raiseNow_hostClock ..)

theorem noteDrops_hostClock (before : State) : (noteDrops before s).log.hostClock = s.log.hostClock :=
  hostClock_ite (raiseCore_hostClock ..) rfl

theorem logRecord_hostClock (type block a0 a1 a2 suite master : Nat) :
    (logRecord type block a0 a1 a2 suite master s).log.hostClock = s.log.hostClock :=
  (noteDrops_hostClock ..).trans (logCore_hostClock ..)

end

/-! ### Set Timestamp -/

variable {s : State}

/-- The state with OFFSET set by a host time, in the always-on domain and in the Attic (R652). -/
def putOffset (ns : Nat) (s : State) : State :=
  { s with log := { s.log with offset := (ns : Int) - s.almanac * 1000, calValid := true, timeSetSinceCold := true },
           cal := { s.cal with offset := (ns : Int) - s.almanac * 1000 } }

theorem setCalendar_log_and_cal (ns : Nat) (s : State) :
    (setCalendar ns s).log.hostClock = (putOffset ns s).log.hostClock ∧ (setCalendar ns s).cal = (putOffset ns s).cal := by
  simp only [setCalendar, calendarStep_frame]
  split
  · exact ⟨logRecord_hostClock .., by simp only [logRecord_frame, putOffset]⟩
  · exact ⟨rfl, rfl⟩

theorem setCalendar_offset (ns : Nat) (s : State) :
    (setCalendar ns s).log.offset = (ns : Int) - s.almanac * 1000 ∧ (setCalendar ns s).log.calValid = true ∧
      (setCalendar ns s).cal.offset = (setCalendar ns s).log.offset := by
  obtain ⟨hlog, hcal⟩ := setCalendar_log_and_cal ns s
  obtain ⟨hoffset, hvalid⟩ := Log.hostClock_eq_iff.1 hlog
  exact ⟨hoffset, hvalid, by rw [hcal, hoffset]; rfl⟩

theorem exec_setTimestamp (ns : Nat) (s : State) : exec (.setTimestamp ns) s = execSetTimestamp ns s := rfl

theorem exec_setTimestamp_of_serves {ns : Nat} (hs : serves s 0x0301) (hn : ns < 2 ^ 64) :
    exec (.setTimestamp ns) s = .next (emit (.mailbox 0x0301 rcSuccess []) (setCalendar ns s)) := by
  rw [exec_setTimestamp, execSetTimestamp, mailbox_of_serves hs, mbxAnswer_mbxRc, Nat.mod_eq_of_lt hn]

/-! ### Get Timestamp -/

theorem exec_getTimestamp (s : State) : exec .getTimestamp s = execGetTimestamp s := rfl

theorem mbxAnswer_mbxOut (op : Nat) (l : List Byte) (s : State) :
    mbxAnswer op (mbxOut l s) = emit (.mailbox op rcSuccess l) s := rfl

theorem getTimestamp_answers_calendar (hs : serves s 0x0300) :
    Answers .getTimestamp s 0x0300 rcSuccess (leBytes 8 (calendar s s.almanac)) := by
  rw [Answers, exec_getTimestamp, execGetTimestamp, mailbox_of_serves hs, mbxAnswer_mbxOut]

theorem getTimestamp_of_valid (hs : serves s 0x0300) (hv : s.log.calValid = true) :
    Answers .getTimestamp s 0x0300 rcSuccess (leBytes 8 ((s.almanac : Int) * 1000 + s.log.offset).toNat) := by
  have hc : calendar s s.almanac = ((s.almanac : Int) * 1000 + s.log.offset).toNat := if_pos hv
  exact hc ▸ getTimestamp_answers_calendar hs

theorem getTimestamp_of_not_valid (hs : serves s 0x0300) (hv : s.log.calValid = false) :
    Answers .getTimestamp s 0x0300 rcSuccess (List.replicate 8 0) := by
  have hc : calendar s s.almanac = 0 := if_neg (hv ▸ Bool.false_ne_true)
  have hb : leBytes 8 0 = List.replicate 8 0 := rfl
  exact hb ▸ hc ▸ getTimestamp_answers_calendar hs

/-- Settles O7: Set Timestamp answers with the calendar set, which neither the record of the step nor the Exercise that the
step fires changes; Get Timestamp answers the calendar of the Almanac, valid or not. -/
theorem timestampIsAlmanacPlusOffset : Obligations.TimestampIsAlmanacPlusOffset := fun s ns =>
  ⟨fun hs hn => ⟨_, exec_setTimestamp_of_serves hs hn, setCalendar_offset ns s⟩, getTimestamp_of_valid,
    getTimestamp_of_not_valid⟩

end Sys2Proof.Machine
end

section

/-! What every step keeps (95_what_each_step_holds; O55, O57, O58, O60): the canonical form of the stored arrays, the Almanac
while the always-on domain has power, the service key store, the fuses and the queue. All of them are one relation
(`State.Upholds`): a state upholds what the state `s₀` before the step guarantees. Each operation of the model carries the
relation on (`…_upholds`), one lemma per operation in the order of the model: an equivalence where the operation leaves all
parts alone, and an implication where it stores into an array, moves the Almanac or blows a fuse. An operation on the state
that a larger one builds is a step of its own: `upholds_mk` reads the relation off a state written out field by field.
`exec_upholds` collects the commands. -/

namespace Sys2Proof.Machine

/-- The words and the seals of an Attic bank are in canonical form. -/
def AtticBank.wf (k : AtticBank) : Bool := twf {} k.words && twf factorySeal k.seals

@[simp] theorem bank_wf_iff (k : AtticBank) : twf {} k.words = true ∧ twf factorySeal k.seals = true ↔ k.wf = true :=
  (Bool.and_eq_true_iff ..).symm

theorem AtticBank.words_wf {k : AtticBank} (h : k.wf = true) : twf {} k.words = true := ((bank_wf_iff k).2 h).1

theorem AtticBank.seals_wf {k : AtticBank} (h : k.wf = true) : twf factorySeal k.seals = true := ((bank_wf_iff k).2 h).2

@[simp] theorem bank_wf_mk (words seals scan intent0 intent1 log1 bound op prog err) :
    (AtticBank.mk words seals scan intent0 intent1 log1 bound op prog err).wf =
      (twf {} words && twf factorySeal seals) := rfl

section

variable {s₀ : State} {a : Nat} {d : Dram} {e : Table ChartEntry} {t : Table Tile} {r : Table Byte} {w : Table CodedByte}
  {l : Table Byte} {q : Table (List Byte)} {b : Vector AtticBank 2} {k : List KeyEntry} {f : Fuses} {p : List Instr}

/-- The stored arrays of a state in canonical form, array by array. -/
def ArraysWf (d : Dram) (e : Table ChartEntry) (t : Table Tile) (r : Table Byte) (w : Table CodedByte) (l : Table Byte)
    (q : Table (List Byte)) (b : Vector AtticBank 2) : Prop :=
  Memory.wf d = true ∧ twf {} e = true ∧ twf {} t = true ∧ twf 0 r = true ∧ twf {} w = true ∧ twf 0xFF l = true ∧
    twf [] q = true ∧ b.toList.all AtticBank.wf = true

theorem ArraysWf.dram (h : ArraysWf d e t r w l q b) : Memory.wf d = true := h.1
theorem ArraysWf.entries (h : ArraysWf d e t r w l q b) : twf {} e = true := h.2.1
theorem ArraysWf.tiles (h : ArraysWf d e t r w l q b) : twf {} t = true := h.2.2.1
theorem ArraysWf.ring (h : ArraysWf d e t r w l q b) : twf 0 r = true := h.2.2.2.1
theorem ArraysWf.window (h : ArraysWf d e t r w l q b) : twf {} w = true := h.2.2.2.2.1
theorem ArraysWf.lsa (h : ArraysWf d e t r w l q b) : twf 0xFF l = true := h.2.2.2.2.2.1
theorem ArraysWf.records (h : ArraysWf d e t r w l q b) : twf [] q = true := h.2.2.2.2.2.2.1
theorem ArraysWf.bank (h : ArraysWf d e t r w l q b) : b.toList.all AtticBank.wf = true := h.2.2.2.2.2.2.2

/-- What every step owes to the state `s₀` before it, over the parts of the state that it speaks of. -/
def Owes (s₀ : State) (a : Nat) (d : Dram) (e : Table ChartEntry) (t : Table Tile) (r : Table Byte) (w : Table CodedByte)
    (l : Table Byte) (q : Table (List Byte)) (b : Vector AtticBank 2) (k : List KeyEntry) (f : Fuses) (p : List Instr) : Prop :=
  s₀.almanac ≤ a ∧ (s₀.memoryWf = true → ArraysWf d e t r w l q b) ∧ k = s₀.svc.keyStore ∧ s₀.fuses.epoch ≤ f.epoch ∧
    f = { s₀.fuses with epoch := f.epoch } ∧ p = s₀.pending

theorem Owes.almanac (h : Owes s₀ a d e t r w l q b k f p) : s₀.almanac ≤ a := h.1
theorem Owes.arrays (h : Owes s₀ a d e t r w l q b k f p) : s₀.memoryWf = true → ArraysWf d e t r w l q b := h.2.1
theorem Owes.keys (h : Owes s₀ a d e t r w l q b k f p) : k = s₀.svc.keyStore := h.2.2.1
theorem Owes.epoch (h : Owes s₀ a d e t r w l q b k f p) : s₀.fuses.epoch ≤ f.epoch := h.2.2.2.1
theorem Owes.fuses (h : Owes s₀ a d e t r w l q b k f p) : f = { s₀.fuses with epoch := f.epoch } := h.2.2.2.2.1
theorem Owes.pending (h : Owes s₀ a d e t r w l q b k f p) : p = s₀.pending := h.2.2.2.2.2

/-- Another Almanac. -/
theorem Owes.of_almanac (h : Owes s₀ a d e t r w l q b k f p) {a' : Nat} (ha : s₀.almanac ≤ a') : Owes s₀ a' d e t r w l q b k f p :=
  ⟨ha, h.2⟩

/-- Other arrays. -/
theorem Owes.of_arrays (h : Owes s₀ a d e t r w l q b k f p) {d' e' t' r' w' l' q' b'}
    (ha : ArraysWf d e t r w l q b → ArraysWf d' e' t' r' w' l' q' b') : Owes s₀ a d' e' t' r' w' l' q' b' k f p :=
  ⟨h.almanac, fun m => ha (h.arrays m), h.2.2⟩

end

def State.Upholds (s s₀ : State) : Prop :=
  Owes s₀ s.almanac s.dram s.cht.entries s.cht.tiles s.dmw.ring s.ecc.window s.cal.lsa s.log.ring s.att.bank s.svc.keyStore
    s.fuses s.pending

/-- A state that does not uphold what `s₀` guarantees: its queue is longer. -/
def State.broken (s₀ : State) : State := { s₀ with pending := .coldLoss :: s₀.pending }

/-- A command answers a next state that upholds what `s₀` guarantees: for any other outcome stands a state that does not. -/
def Res.Upholds (s₀ : State) (r : Res) : Prop := (resAfter r s₀.broken).Upholds s₀

variable {s s₀ : State}

@[simp] theorem next_upholds (t : State) : Res.Upholds s₀ (.next t) ↔ t.Upholds s₀ := Iff.rfl

theorem memoryWf_iff : s.memoryWf = true ↔ ArraysWf s.dram s.cht.entries s.cht.tiles s.dmw.ring s.ecc.window s.cal.lsa
    s.log.ring s.att.bank := by
  simp only [State.memoryWf, Bool.and_eq_true]
  constructor
  · rintro ⟨⟨⟨⟨⟨⟨⟨h1, h2⟩, h3⟩, h4⟩, h5⟩, h6⟩, h7⟩, h8⟩
    exact ⟨h1, h2, h3, h4, h5, h6, h7, h8⟩
  · rintro ⟨h1, h2, h3, h4, h5, h6, h7, h8⟩
    exact ⟨⟨⟨⟨⟨⟨⟨h1, h2⟩, h3⟩, h4⟩, h5⟩, h6⟩, h7⟩, h8⟩

theorem owes_eq : Owes s₀ s.almanac s.dram s.cht.entries s.cht.tiles s.dmw.ring s.ecc.window s.cal.lsa s.log.ring
    s.att.bank s.svc.keyStore s.fuses s.pending = s.Upholds s₀ := propext Iff.rfl

theorem upholds_mk (almanac dev stations hst drc dram cht sui stw sav cel dmw nrg gau rek plk att ecc tws twp svc log pwr fpl
    jtag fuses cal out free pending) :
    (State.mk almanac dev stations hst drc dram cht sui stw sav cel dmw nrg gau rek plk att ecc tws twp svc log pwr fpl
      jtag fuses cal out free pending).Upholds s₀ ↔
    Owes s₀ almanac dram cht.entries cht.tiles dmw.ring ecc.window cal.lsa log.ring att.bank svc.keyStore fuses pending := Iff.rfl

/-- `upholds_mk` as an equation, for `simp`. -/
theorem upholds_mk_eq (almanac dev stations hst drc dram cht sui stw sav cel dmw nrg gau rek plk att ecc tws twp svc log pwr fpl
    jtag fuses cal out free pending) :
    (State.mk almanac dev stations hst drc dram cht sui stw sav cel dmw nrg gau rek plk att ecc tws twp svc log pwr fpl
      jtag fuses cal out free pending).Upholds s₀ =
    Owes s₀ almanac dram cht.entries cht.tiles dmw.ring ecc.window cal.lsa log.ring att.bank svc.keyStore fuses pending :=
  propext (upholds_mk ..)

theorem upholds_refl (s : State) : s.Upholds s := ⟨Nat.le_refl _, memoryWf_iff.1, rfl, Nat.le_refl _, rfl, rfl⟩

/-- What upholds a guarantee is a next state. -/
theorem Res.Upholds.exists_next {r : Res} (h : r.Upholds s₀) : ∃ t, r = .next t := by
  cases r with
  | next t => exact ⟨t, rfl⟩
  | fault e => exact absurd h.pending (List.cons_ne_self _ _)
  | refused e => exact absurd h.pending (List.cons_ne_self _ _)

theorem upholds_ite (c : Prop) [Decidable c] (x y : State) :
    (if c then x else y).Upholds s₀ = if c then x.Upholds s₀ else y.Upholds s₀ := by split <;> rfl

theorem ite_upholds (c : Prop) [Decidable c] {x y : State} (hx : x.Upholds s₀) (hy : y.Upholds s₀) :
    (if c then x else y).Upholds s₀ := by
  split
  · exact hx
  · exact hy

theorem ite_res_upholds (c : Prop) [Decidable c] {x y : Res} (hx : x.Upholds s₀) (hy : y.Upholds s₀) :
    (if c then x else y).Upholds s₀ := by
  split
  · exact hx
  · exact hy

theorem ite_upholds_iff {c : Prop} [Decidable c] {x y : State} {p : Prop} (hx : x.Upholds s₀ ↔ p) (hy : y.Upholds s₀ ↔ p) :
    (if c then x else y).Upholds s₀ ↔ p := by
  split
  · exact hx
  · exact hy

theorem upholds_of_pair {α : Type} {p : α × State} {a : α} {t : State} (h : p.2.Upholds s₀) (e : p = (a, t)) :
    t.Upholds s₀ := by
  subst e
  exact h

theorem foldl_upholds {α : Type} {f : State → α → State} (l : List α) (h : s.Upholds s₀)
    (hf : ∀ s a, s.Upholds s₀ → (f s a).Upholds s₀) : (l.foldl f s).Upholds s₀ := by
  induction l generalizing s with
  | nil => exact h
  | cons a l ih => exact ih (hf _ _ h)

theorem foldr_upholds {α : Type} {f : α → State → State} (l : List α) (h : s.Upholds s₀)
    (hf : ∀ s a, s.Upholds s₀ → (f a s).Upholds s₀) : (l.foldr f s).Upholds s₀ := by
  induction l with
  | nil => exact h
  | cons a l ih => exact hf _ _ ih

theorem upholds_dram (h : s.Upholds s₀) {d : Dram} (hd : Memory.wf s.dram = true → Memory.wf d = true) :
    Owes s₀ s.almanac d s.cht.entries s.cht.tiles s.dmw.ring s.ecc.window s.cal.lsa s.log.ring
    s.att.bank s.svc.keyStore s.fuses s.pending :=
  h.of_arrays fun m => ⟨hd m.dram, m.entries, m.tiles, m.ring, m.window, m.lsa, m.records, m.bank⟩

theorem upholds_cht (h : s.Upholds s₀) {e : Table ChartEntry} {t : Table Tile}
    (he : twf {} s.cht.entries = true → twf {} e = true) (ht : twf {} s.cht.tiles = true → twf {} t = true) :
    Owes s₀ s.almanac s.dram e t s.dmw.ring s.ecc.window s.cal.lsa s.log.ring s.att.bank s.svc.keyStore s.fuses s.pending :=
  h.of_arrays fun m => ⟨m.dram, he m.entries, ht m.tiles, m.ring, m.window, m.lsa, m.records, m.bank⟩

theorem upholds_ring (h : s.Upholds s₀) {r : Table Byte} (hr : twf 0 s.dmw.ring = true → twf 0 r = true) :
    Owes s₀ s.almanac s.dram s.cht.entries s.cht.tiles r s.ecc.window s.cal.lsa s.log.ring s.att.bank s.svc.keyStore s.fuses
      s.pending :=
  h.of_arrays fun m => ⟨m.dram, m.entries, m.tiles, hr m.ring, m.window, m.lsa, m.records, m.bank⟩

theorem upholds_window (h : s.Upholds s₀) {w : Table CodedByte} (hw : twf {} s.ecc.window = true → twf {} w = true) :
    Owes s₀ s.almanac s.dram s.cht.entries s.cht.tiles s.dmw.ring w s.cal.lsa s.log.ring s.att.bank s.svc.keyStore s.fuses
      s.pending :=
  h.of_arrays fun m => ⟨m.dram, m.entries, m.tiles, m.ring, hw m.window, m.lsa, m.records, m.bank⟩

theorem upholds_bank (h : s.Upholds s₀) {k : Vector AtticBank 2}
    (hk : s.att.bank.toList.all AtticBank.wf = true → k.toList.all AtticBank.wf = true) :
    Owes s₀ s.almanac s.dram s.cht.entries s.cht.tiles s.dmw.ring s.ecc.window s.cal.lsa s.log.ring k s.svc.keyStore s.fuses
      s.pending :=
  h.of_arrays fun m => ⟨m.dram, m.entries, m.tiles, m.ring, m.window, m.lsa, m.records, hk m.bank⟩

theorem upholds_almanac (h : s.Upholds s₀) {t : Nat} (ht : s.almanac ≤ t) :
    Owes s₀ t s.dram s.cht.entries s.cht.tiles s.dmw.ring s.ecc.window s.cal.lsa s.log.ring s.att.bank s.svc.keyStore s.fuses
      s.pending :=
  h.of_almanac (Nat.le_trans h.almanac ht)

section

variable (c : Prop) [Decidable c]

@[simp] theorem Svc.ite_keyStore (x y : Svc) : (if c then x else y).keyStore = if c then x.keyStore else y.keyStore := by
  split <;> rfl

@[simp] theorem Log.ite_ring (x y : Log) : (if c then x else y).ring = if c then x.ring else y.ring := by split <;> rfl

@[simp] theorem Dmw.ite_ring (x y : Dmw) : (if c then x else y).ring = if c then x.ring else y.ring := by split <;> rfl

@[simp] theorem Ecc.ite_window (x y : Ecc) : (if c then x else y).window = if c then x.window else y.window := by
  split <;> rfl

@[simp] theorem Att.ite_bank (x y : Att) : (if c then x else y).bank = if c then x.bank else y.bank := by split <;> rfl

@[simp] theorem Calib.ite_lsa (x y : Calib) : (if c then x else y).lsa = if c then x.lsa else y.lsa := by split <;> rfl

end

/-! ### Operations of the model (`Ops`) -/

@[simp] theorem emit_upholds (o : Output) : (emit o s).Upholds s₀ ↔ s.Upholds s₀ :=
  Iff.rfl

@[simp] theorem takeFree_upholds : (takeFree s).2.Upholds s₀ ↔ s.Upholds s₀ :=
  Iff.rfl

@[simp] theorem notify_upholds (v : Nat) : (notify v s).Upholds s₀ ↔ s.Upholds s₀ := by
  have q := @notify_frame
  simp only [State.Upholds, q]

@[simp] theorem alertBit_upholds (k : Nat) : (alertBit k s).Upholds s₀ ↔ s.Upholds s₀ :=
  Iff.rfl

@[simp] theorem modSuite_upholds (id : Nat) (f : SuiteCtx → SuiteCtx) : (modSuite id f s).Upholds s₀ ↔ s.Upholds s₀ :=
  Iff.rfl

@[simp] theorem logCore_upholds (type : Nat) (block : Nat) (a0 : Nat) (a1 : Nat) (a2 : Nat) (suite : Nat) (master : Nat) :
    (logCore type block a0 a1 a2 suite master s).Upholds s₀ ↔ s.Upholds s₀ := by
  simp only [logCore]; (repeat' split) <;> simp [↓upholds_mk_eq, ↓owes_eq]

@[simp] theorem addEvent_upholds (i : Nat) (r : EventRecord) : (addEvent i r s).Upholds s₀ ↔ s.Upholds s₀ := by
  have q := @addEvent_frame
  simp only [State.Upholds, q]

@[simp] theorem vendorEvent_upholds (code : Nat) (b : Block) (master : Nat) (suite : Nat) (dpa : Nat) (a0 : Nat) (a1 : Nat) :
    (vendorEvent code b master suite dpa a0 a1 s).Upholds s₀ ↔ s.Upholds s₀ := by
  simp [vendorEvent]

@[simp] theorem event_upholds (code : Nat) (b : Block) (a0 : Nat) (a1 : Nat) : (event code b a0 a1 s).Upholds s₀ ↔ s.Upholds s₀ := by
  simp [event]

@[simp] theorem advanceTo_upholds (t : Nat) (hs : s.Upholds s₀) : (advanceTo t s).Upholds s₀ := by
  unfold advanceTo
  split
  · simpa [↓upholds_mk_eq] using upholds_almanac hs (Nat.le_max_left s.almanac t)
  · exact hs

@[simp] theorem tick_upholds (hs : s.Upholds s₀) : (tick s).Upholds s₀ := by
  simp [tick, hs]

@[simp] theorem transition_upholds (new : OpState) (cause : Nat) : (transition new cause s).Upholds s₀ ↔ s.Upholds s₀ := by
  unfold transition; (repeat' split) <;> simp [↓upholds_mk_eq, ↓owes_eq]

/-! ### Operations of the model (`OpsTile`) -/

@[simp] theorem modEntry_upholds (r : Nat) (f : ChartEntry → ChartEntry) (hs : s.Upholds s₀) : (modEntry r f s).Upholds s₀ :=
  upholds_cht hs (twf_tmod _ _) id

@[simp] theorem putTile_upholds (t : Nat) (x : Tile) (hs : s.Upholds s₀) : (putTile t x s).Upholds s₀ := by
  simp only [putTile]
  split
  · simp only [↓upholds_mk_eq, modSuite, modEntry]
    exact upholds_cht hs (twf_tmod _ _) (twf_tset _ _)
  · exact upholds_cht hs id (twf_tset _ _)

@[simp] theorem chartPoison_upholds (r : Nat) (tile : Bool) (unlisted : Bool) (hs : s.Upholds s₀) :
    (chartPoison r tile unlisted s).Upholds s₀ := by
  simp [chartPoison, hs]

@[simp] theorem listPoison_upholds (dpa : Nat) (tile : Bool) (source : Nat) (hs : s.Upholds s₀) :
    (listPoison dpa tile source s).Upholds s₀ := by
  simp only [listPoison]; (repeat' split) <;> simp [*, ↓upholds_mk_eq, ↓owes_eq]

@[simp] theorem unlistBeat_upholds (beat : Nat) : (unlistBeat beat s).Upholds s₀ ↔ s.Upholds s₀ :=
  Iff.rfl

@[simp] theorem setArmed_upholds (a : Bool) : (setArmed a s).Upholds s₀ ↔ s.Upholds s₀ := by
  unfold setArmed; (repeat' split) <;> simp [↓upholds_mk_eq, ↓owes_eq]

@[simp] theorem reeval_upholds : (reeval s).Upholds s₀ ↔ s.Upholds s₀ := by
  unfold reeval
  extract_lets stw s₁ l clears l' s₂
  have h₂ : s₂.Upholds s₀ ↔ s.Upholds s₀ := setArmed_upholds _
  exact ite_upholds_iff (ite_upholds_iff ((notify_upholds _).trans h₂) h₂) (ite_upholds_iff (setArmed_upholds _) Iff.rfl)

@[simp] theorem clearWatches_upholds (t : Nat) : (clearWatches t s).Upholds s₀ ↔ s.Upholds s₀ := by
  exact Iff.rfl

@[simp] theorem writeEventCore_upholds (t : Nat) (hs : s.Upholds s₀) : (writeEventCore t s).Upholds s₀ := by
  simp only [writeEventCore]; (repeat' split) <;> simp [*, ↓upholds_mk_eq, ↓owes_eq]

@[simp] theorem claimTile_upholds (t : Nat) (hs : s.Upholds s₀) : (claimTile t s).Upholds s₀ := by
  simp only [claimTile]; (repeat' split) <;> simp [*]

@[simp] theorem endWait_upholds (t : Nat) : (endWait t s).Upholds s₀ ↔ s.Upholds s₀ := by
  exact Iff.rfl

@[simp] theorem completeTile_upholds (pass : Bool) (t : Nat) (hs : s.Upholds s₀) :
    (completeTile pass t s).Upholds s₀ := by
  unfold completeTile
  extract_lets x w w₁ w₂ w₃ s₁ log life s₂
  have h₁ : s₁.Upholds s₀ := hs
  have h₂ : s₂.Upholds s₀ := ite_upholds _ (h₁) h₁
  exact (endWait_upholds _).2 (putTile_upholds _ _ h₂)

@[simp] theorem dropCandidate_upholds (t : Nat) : (dropCandidate t s).Upholds s₀ ↔ s.Upholds s₀ :=
  Iff.rfl

/-! ### Operations of the model (`OpsBoot`) -/

@[simp] theorem railsOff_upholds : (railsOff s).Upholds s₀ ↔ s.Upholds s₀ :=
  Iff.rfl

theorem all_map_wf {f : AtticBank → AtticBank} (hf : ∀ k, k.wf = true → (f k).wf = true) (v : Vector AtticBank 2)
    (h : v.toList.all AtticBank.wf = true) : (v.map f).toList.all AtticBank.wf = true := by
  simp only [Vector.toList_map, List.all_map, List.all_eq_true] at h ⊢
  exact fun k hk => hf k (h k hk)

/-- A power cycle empties the Chart, the ring store and the test window and keeps the other arrays. -/
@[simp] theorem powerCycle_upholds (hs : s.Upholds s₀) : (powerCycle s).Upholds s₀ :=
  hs.of_arrays fun m => ⟨m.dram, rfl, rfl, rfl, rfl, m.lsa, m.records, all_map_wf (f := bootBank) (fun _ h => h) _ m.bank⟩

@[simp] theorem enterBoot_upholds (hs : s.Upholds s₀) : (enterBoot s).Upholds s₀ := by
  simp [enterBoot, hs, ↓upholds_mk_eq, ↓owes_eq]

@[simp] theorem enterSaved_upholds (cause : Nat) (hs : s.Upholds s₀) : (enterSaved cause s).Upholds s₀ := by
  simp only [enterSaved]; (repeat' split) <;> simp [*, ↓upholds_mk_eq, ↓owes_eq]

@[simp] theorem enterOff_upholds (cause : Nat) : (enterOff cause s).Upholds s₀ ↔ s.Upholds s₀ := by
  simp [enterOff, ↓upholds_mk_eq, ↓owes_eq]

@[simp] theorem markStep_upholds : (markStep s).Upholds s₀ ↔ s.Upholds s₀ :=
  Iff.rfl

/-! ### Operations of the model (`OpsDmw`) -/

@[simp] theorem modChan_upholds (n : Nat) (f : Channel → Channel) : (modChan n f s).Upholds s₀ ↔ s.Upholds s₀ := by
  exact Iff.rfl

theorem ringWrite_upholds (ofs : Nat) (l : List Byte) (hs : s.Upholds s₀) :
    { s with dmw := ringWrite ofs l s.dmw }.Upholds s₀ :=
  upholds_ring hs (twf_ringWrite l ofs s.dmw)

@[simp] theorem dmwComplete_upholds (n : Nat) (status : Nat) (r0 : Nat) (r1 : Nat) (irq : Bool) (hs : s.Upholds s₀) :
    (dmwComplete n status r0 r1 irq s).Upholds s₀ := by
  have h := ringWrite_upholds (descOffset n (chanAt s n).head + 0x30) (leBytes 4 r0 ++ leBytes 4 r1 ++ leBytes 8 s.almanac)
    (ringWrite_upholds (descOffset n (chanAt s n).head + 2) (leBytes 1 status) hs)
  simp only [dmwComplete]
  split
  · simpa using h
  · simpa using h

@[simp] theorem dmwFinish_upholds (n : Nat) (status : Nat) (r : DescRun) (hs : s.Upholds s₀) :
    (dmwFinish n status r s).Upholds s₀ := by
  simp [dmwFinish, hs]

@[simp] theorem dmwAbort_upholds (n : Nat) (hs : s.Upholds s₀) : (dmwAbort n s).Upholds s₀ := by
  unfold dmwAbort; (repeat' split) <;> simp [*]

@[simp] theorem dmwReset_upholds (n : Nat) (hs : s.Upholds s₀) : (dmwReset n s).Upholds s₀ := by
  simp [dmwReset, hs]

@[simp] theorem dmwResetChan_upholds (n : Nat) (hs : s.Upholds s₀) : (dmwResetChan n s).Upholds s₀ := by
  simp [dmwResetChan, hs, ↓upholds_mk_eq, ↓owes_eq]

/-! ### Operations of the model (`OpsFlit`) -/

@[simp] theorem sendFlit_upholds (b : FwdBeat) : (sendFlit b s).Upholds s₀ ↔ s.Upholds s₀ :=
  Iff.rfl

/-! ### Operations of the model (`OpsAttic`) -/

theorem all_vmod_wf {f : AtticBank → AtticBank} (hf : ∀ k, k.wf = true → (f k).wf = true) (b : Nat) (v : Vector AtticBank 2)
    (h : v.toList.all AtticBank.wf = true) : (vmod v b f).toList.all AtticBank.wf = true := by
  rw [vmod]
  split
  next hb =>
    simp only [List.all_eq_true, Vector.mem_toList_iff] at h ⊢
    intro k hk
    rcases Vector.mem_or_eq_of_mem_set hk with hk | rfl
    · exact h k hk
    · exact hf _ (h _ (Vector.getElem_mem hb))
  · exact h

theorem modBank_upholds (b : Nat) {f : AtticBank → AtticBank} (hf : ∀ k, k.wf = true → (f k).wf = true) (hs : s.Upholds s₀) :
    (modBank b f s).Upholds s₀ :=
  upholds_bank hs (all_vmod_wf hf b _)

/-- A change of a bank that leaves its words and its seals. -/
@[simp] theorem modBank_upholds_of_same (b : Nat) {f : AtticBank → AtticBank}
    (hf : ∀ k, (f k).words = k.words ∧ (f k).seals = k.seals) (hs : s.Upholds s₀) : (modBank b f s).Upholds s₀ :=
  modBank_upholds b (fun k hk => by rwa [AtticBank.wf, (hf k).1, (hf k).2]) hs

theorem modBank_words_upholds (b : Nat) {g : AtticBank → Table AtticWord} (hs : s.Upholds s₀)
    (hw : ∀ k, twf {} k.words = true → twf {} (g k) = true) : (modBank b (fun k => { k with words := g k }) s).Upholds s₀ :=
  modBank_upholds b (fun k hk => (bank_wf_iff { k with words := g k }).1
    ⟨hw k (AtticBank.words_wf hk), AtticBank.seals_wf (k := k) hk⟩) hs

theorem modBank_seals_upholds (b : Nat) {f : AtticBank → AtticBank} (hs : s.Upholds s₀) (hw : ∀ k, (f k).words = k.words)
    (hl : ∀ k, twf factorySeal k.seals = true → twf factorySeal (f k).seals = true) : (modBank b f s).Upholds s₀ :=
  modBank_upholds b (fun k hk => (bank_wf_iff _).1 ⟨(hw k) ▸ AtticBank.words_wf hk, hl k (AtticBank.seals_wf hk)⟩) hs

@[simp] theorem AtticBank.ite_words (c : Prop) [Decidable c] (x y : AtticBank) :
    (if c then x else y).words = if c then x.words else y.words := by split <;> rfl

@[simp] theorem AtticBank.ite_seals (c : Prop) [Decidable c] (x y : AtticBank) :
    (if c then x else y).seals = if c then x.seals else y.seals := by split <;> rfl

@[simp] theorem opFails_words (b : Nat) (o : AtticOp) (code : AtticCode) (k : AtticBank) :
    (opFails b o code k).words = k.words := rfl

@[simp] theorem opFails_seals (b : Nat) (o : AtticOp) (code : AtticCode) (k : AtticBank) :
    (opFails b o code k).seals = k.seals := rfl

theorem foldl_twf {α β : Type} [DecidableEq α] {d : α} {f : Table α → β → Table α}
    (hf : ∀ t x, twf d t = true → twf d (f t x) = true)
    (l : List β) (t : Table α) (h : twf d t = true) : twf d (l.foldl f t) = true := by
  induction l generalizing t with
  | nil => exact h
  | cons x l ih => exact ih _ (hf _ _ h)

@[simp] theorem tearWords_upholds (b : Nat) (o : AtticOp) (hs : s.Upholds s₀) : (tearWords b o s).Upholds s₀ :=
  foldl_upholds _ hs fun _ _ hs => modBank_words_upholds b (takeFree_upholds.2 hs) fun _ h => twf_tmod _ _ h

@[simp] theorem noteSuspended_upholds (o : AtticOp) : (noteSuspended o s).Upholds s₀ ↔ s.Upholds s₀ := by
  exact Iff.rfl

@[simp] theorem cutOp_upholds (b : Nat) (code : AtticCode) (hs : s.Upholds s₀) : (cutOp b code s).Upholds s₀ := by
  unfold cutOp; (repeat' split) <;> simp [*, ↓upholds_mk_eq, ↓owes_eq]

@[simp] theorem cutProg_upholds (b : Nat) (code : AtticCode) (hs : s.Upholds s₀) : (cutProg b code s).Upholds s₀ := by
  unfold cutProg; (repeat' split) <;> simp [*, ↓upholds_mk_eq, ↓owes_eq]

@[simp] theorem atticFence_upholds (hs : s.Upholds s₀) : (atticFence s).Upholds s₀ := by
  have hb : ∀ (b : Nat) (s : State), s.Upholds s₀ → (match (bankAt s b).op with
      | some o => if o.kind = AtticOpKind.program ∨ o.kind = AtticOpKind.rowProgram then s else cutOp b .fence s
      | none => s).Upholds s₀ := by
    intro b s hs
    (repeat' split) <;> simp [*]
  exact upholds_bank (hb 0 _ (hb 1 _ hs)) (all_map_wf (f := fun k => { k with bound := none }) (fun _ h => h) _)

/-! ### Operations of the model (`OpsSvc`) -/

@[simp] theorem cutStaging_upholds : (cutStaging s).Upholds s₀ ↔ s.Upholds s₀ := by
  unfold cutStaging; (repeat' split) <;> simp [↓upholds_mk_eq, ↓owes_eq]

/-! ### Operations of the model (`OpsFence`) -/

@[simp] theorem recordDirty_upholds (case_ : Nat) : (recordDirty case_ s).Upholds s₀ ↔ s.Upholds s₀ := by
  unfold recordDirty; (repeat' split) <;> simp [↓upholds_mk_eq, ↓owes_eq]

@[simp] theorem fenceDirty_upholds : (fenceDirty s).Upholds s₀ ↔ s.Upholds s₀ := by
  simp only [fenceDirty]; (repeat' split) <;> simp [↓upholds_mk_eq, ↓owes_eq]

@[simp] theorem plkFence_upholds (hs : s.Upholds s₀) :
    (plkFence s).Upholds s₀ := by
  unfold plkFence
  extract_lets p ids out left n s₁ plk q s₂ s₃
  have h₁ : s₁.Upholds s₀ := foldl_upholds _ hs fun _ _ => (sendFlit_upholds _).2
  have h₂ : s₂.Upholds s₀ := h₁
  have h₃ : s₃.Upholds s₀ := foldl_upholds _ h₂ fun _ _ h => (notify_upholds _).2 ((event_upholds ..).2 h)
  exact ite_upholds _ ((emit_upholds _).2 h₃) h₃

@[simp] theorem giveAbandon_upholds : (giveAbandon s).Upholds s₀ ↔ s.Upholds s₀ :=
  Iff.rfl

@[simp] theorem stopPrecaution_upholds : (stopPrecaution s).Upholds s₀ ↔ s.Upholds s₀ := by
  have q := @stopPrecaution_frame
  simp only [State.Upholds, q]

@[simp] theorem gauFence_upholds (cause : Nat) : (gauFence cause s).Upholds s₀ ↔ s.Upholds s₀ := by
  unfold gauFence
  extract_lets gau s₁ flows s₂
  have h₂ : s₂.Upholds s₀ ↔ s.Upholds s₀ := ite_upholds_iff markStep_upholds Iff.rfl
  exact ite_upholds_iff h₂ h₂

@[simp] theorem closeFence_upholds (cause : Nat) (hs : s.Upholds s₀) : (closeFence cause s).Upholds s₀ := by
  simp [closeFence, hs, ↓upholds_mk_eq, ↓owes_eq]

@[simp] theorem fenceTrigger_upholds (cause : Nat) (hs : s.Upholds s₀) : (fenceTrigger cause s).Upholds s₀ := by
  unfold fenceTrigger; (repeat' split) <;> simp [*, ↓upholds_mk_eq, ↓owes_eq]

@[simp] theorem levelMuster_upholds (hs : s.Upholds s₀) : (levelMuster s).Upholds s₀ := by
  unfold levelMuster; (repeat' split) <;> simp [*]

@[simp] theorem putHalf_upholds (h : Half) (f : HalfData → HalfData) : (putHalf h f s).Upholds s₀ ↔ s.Upholds s₀ := by
  have q := @putHalf_frame
  simp only [State.Upholds, q]

@[simp] theorem noteReadyAny_upholds (before : State) : (noteReadyAny before s).Upholds s₀ ↔ s.Upholds s₀ := by
  have q := @noteReadyAny_frame
  simp only [State.Upholds, q]

@[simp] theorem modHalf_upholds (h : Half) (f : HalfData → HalfData) : (modHalf h f s).Upholds s₀ ↔ s.Upholds s₀ := by
  have q := @modHalf_frame
  simp only [State.Upholds, q]

@[simp] theorem startErase_upholds (h : Half) : (startErase h s).Upholds s₀ ↔ s.Upholds s₀ := by
  have q := @startErase_frame
  simp only [State.Upholds, q]

@[simp] theorem enterHarbour_upholds (cause : Nat) : (enterHarbour cause s).Upholds s₀ ↔ s.Upholds s₀ := by
  unfold enterHarbour
  extract_lets s₁ s₂ s₃ s₄
  have h₂ : s₂.Upholds s₀ ↔ s.Upholds s₀ := (notify_upholds _).trans ((event_upholds ..).trans (transition_upholds _ _))
  have h₃ : s₃.Upholds s₀ ↔ s.Upholds s₀ := ite_upholds_iff ((startErase_upholds _).trans h₂) h₂
  have h₄ : s₄.Upholds s₀ ↔ s.Upholds s₀ := ite_upholds_iff ((startErase_upholds _).trans h₃) h₃
  clear_value s₄
  exact h₄

@[simp] theorem takeHeld_upholds (hs : s.Upholds s₀) : (takeHeld s).Upholds s₀ := by
  simp only [takeHeld]; (repeat' split) <;> simp [*, ↓upholds_mk_eq, ↓owes_eq]

@[simp] theorem enterService_upholds (cause : Nat) (hs : s.Upholds s₀) : (enterService cause s).Upholds s₀ := by
  simp [enterService, hs, ↓upholds_mk_eq, ↓owes_eq]

/-! ### Operations of the model (`OpsMap`) -/

@[simp] theorem modSubch_upholds (sc : Nat) (f : Subch → Subch) : (modSubch sc f s).Upholds s₀ ↔ s.Upholds s₀ :=
  Iff.rfl

theorem completeAll_wf (l : List DrcReq) (x : Dram × List ReadFlight) (h : Memory.wf x.1 = true) :
    Memory.wf (completeAll l x).1 = true := by
  induction l generalizing x with
  | nil => exact h
  | cons q l ih =>
    rw [completeAll]
    split
    · exact ih _ h
    · exact ih _ (dramWrite_wf _ h)

@[simp] theorem drainSubch_upholds (sc : Nat) (hs : s.Upholds s₀) : (drainSubch sc s).Upholds s₀ :=
  upholds_dram hs fun h => completeAll_wf _ _ h

@[simp] theorem drainAll_upholds (hs : s.Upholds s₀) : (drainAll s).Upholds s₀ := by
  unfold drainAll
  extract_lets owed s₁ writes hst plk s₂
  have h₁ : s₁.Upholds s₀ := foldl_upholds _ hs fun _ _ => drainSubch_upholds _
  clear_value s₁
  have h₂ : s₂.Upholds s₀ := h₁
  clear_value s₂
  split
  · exact h₂
  · exact reeval_upholds.2 (foldl_upholds _ h₂ fun _ _ => writeEventCore_upholds _)

/-! ### Operations of the model (`OpsFault`) -/

@[simp] theorem modStation_upholds (b : Block) (f : Station → Station) : (modStation b f s).Upholds s₀ ↔ s.Upholds s₀ :=
  Iff.rfl

@[simp] theorem linkReset_upholds : (linkReset s).Upholds s₀ ↔ s.Upholds s₀ :=
  Iff.rfl

@[simp] theorem celResetCopies_upholds (hs : s.Upholds s₀) : (celResetCopies s).Upholds s₀ := by
  simp +contextual [celResetCopies, hs, ↓upholds_mk_eq, ↓owes_eq, foldl_upholds]

@[simp] theorem holdCore_upholds (core : Nat) : (holdCore core s).Upholds s₀ ↔ s.Upholds s₀ := by
  exact Iff.rfl

@[simp] theorem quarantine_upholds (bs : List Block) (t : Nat) : (quarantine bs t s).Upholds s₀ ↔ s.Upholds s₀ := by
  have q := @quarantine_frame
  simp only [State.Upholds, q]

@[simp] theorem blockEffect_upholds (b : Block) (hs : s.Upholds s₀) : (blockEffect b s).Upholds s₀ := by
  cases b with
  | hst => simpa [blockEffect] using hs
  | drc => simpa [blockEffect, ↓upholds_mk_eq, ↓owes_eq] using drainAll_upholds hs
  | cel => simpa [blockEffect, ↓upholds_mk_eq, ↓owes_eq] using celResetCopies_upholds hs
  | dmw => simpa [blockEffect] using foldl_upholds (List.range 16) hs fun _ n => dmwResetChan_upholds n
  | plk =>
    rw [blockEffect, holdCore_upholds, upholds_ite]
    split <;> exact hs
  | att =>
    have h := cutOp_upholds 0 .brownout (cutOp_upholds 1 .brownout (cutProg_upholds 0 .brownout (cutProg_upholds 1 .brownout hs)))
    simp only [blockEffect, ↓upholds_mk_eq]
    exact upholds_bank h (all_map_wf (f := fun k => { k with bound := none }) (fun _ h => h) _)
  | svc => exact cutStaging_upholds.2 hs
  | _ => exact hs

@[simp] theorem blockReset_upholds (b : Block) (hs : s.Upholds s₀) : (blockReset b s).Upholds s₀ := by
  unfold blockReset; (repeat' split) <;> simp [*]

@[simp] theorem abandon_upholds (hs : s.Upholds s₀) : (abandon s).Upholds s₀ := by
  unfold abandon; (repeat' split) <;> simp [*, ↓upholds_mk_eq, ↓owes_eq]

@[simp] theorem harbourAction_upholds : (harbourAction s).Upholds s₀ ↔ s.Upholds s₀ := by
  unfold harbourAction; (repeat' split) <;> simp [↓upholds_mk_eq, ↓owes_eq]

@[simp] theorem levelAction_upholds (b : Block) (level : Nat) (hs : s.Upholds s₀) : (levelAction b level s).Upholds s₀ := by
  simp only [levelAction]; (repeat' split) <;> simp [*]

@[simp] theorem stopAuto_upholds (level : Nat) : (stopAuto level s).Upholds s₀ ↔ s.Upholds s₀ := by
  unfold stopAuto; (repeat' split) <;> simp [↓upholds_mk_eq, ↓owes_eq]

@[simp] theorem escalate_upholds (b : Block) (old : Nat) (hs : s.Upholds s₀) : (escalate b old s).Upholds s₀ := by
  simp only [escalate]; (repeat' split) <;> simp [*]

@[simp] theorem raiseNow_upholds (c : FClass) (addr : Nat) (mstr : Nat) (access : Nat) (entry : Nat) (hs : s.Upholds s₀) :
    (raiseNow c addr mstr access entry s).Upholds s₀ := by
  simp only [raiseNow]; (repeat' split) <;> simp [*]

@[simp] theorem raiseCore_upholds (c : FClass) (addr : Nat) (mstr : Nat) (access : Nat) (entry : Nat) (hs : s.Upholds s₀) :
    (raiseCore c addr mstr access entry s).Upholds s₀ := by
  unfold raiseCore; (repeat' split) <;> simp [*]

@[simp] theorem noteDrops_upholds (before : State) (hs : s.Upholds s₀) : (noteDrops before s).Upholds s₀ := by
  unfold noteDrops; (repeat' split) <;> simp [*]

@[simp] theorem raiseAt_upholds (c : FClass) (addr : Nat) (mstr : Nat) (access : Nat) (entry : Nat) (hs : s.Upholds s₀) :
    (raiseAt c addr mstr access entry s).Upholds s₀ := by
  simp [raiseAt, hs]

@[simp] theorem raise_upholds (c : FClass) (hs : s.Upholds s₀) : (raise c s).Upholds s₀ := by
  simp [raise, hs]

@[simp] theorem raiseAddr_upholds (c : FClass) (addr : Nat) (mstr : Nat) (access : Nat) (hs : s.Upholds s₀) :
    (raiseAddr c addr mstr access s).Upholds s₀ := by
  simp [raiseAddr, hs]

@[simp] theorem logRecord_upholds (type : Nat) (block : Nat) (a0 : Nat) (a1 : Nat) (a2 : Nat) (suite : Nat) (master : Nat)
    (hs : s.Upholds s₀) : (logRecord type block a0 a1 a2 suite master s).Upholds s₀ := by
  simp [logRecord, hs]

@[simp] theorem replaceSignal_upholds : (replaceSignal s).Upholds s₀ ↔ s.Upholds s₀ := by
  simp only [replaceSignal]; (repeat' split) <;> simp [↓upholds_mk_eq, ↓owes_eq]

@[simp] theorem setReason_upholds (k : Nat) : (setReason k s).Upholds s₀ ↔ s.Upholds s₀ := by
  unfold setReason; (repeat' split) <;> simp [↓upholds_mk_eq, ↓owes_eq]

@[simp] theorem clearReason_upholds (k : Nat) : (clearReason k s).Upholds s₀ ↔ s.Upholds s₀ := by
  exact Iff.rfl

@[simp] theorem expose_upholds (id : Nat) (tile : Nat) (hs : s.Upholds s₀) : (expose id tile s).Upholds s₀ := by
  unfold expose; (repeat' split) <;> simp [*]

@[simp] theorem exposeCheck_upholds (t : Nat) (hs : s.Upholds s₀) : (exposeCheck t s).Upholds s₀ := by
  unfold exposeCheck; (repeat' split) <;> simp [*]

@[simp] theorem writeEvent_upholds (t : Nat) (hs : s.Upholds s₀) : (writeEvent t s).Upholds s₀ := by
  simp only [writeEvent]; (repeat' split) <;> simp [*]

@[simp] theorem poisonBeat_upholds (beat : Nat) (source : Nat) (hs : s.Upholds s₀) : (poisonBeat beat source s).Upholds s₀ :=
  listPoison_upholds _ _ _ (s := { s with dram := dramMark beat s.dram }) (upholds_dram hs (dramMark_wf beat))

/-! ### Operations of the model (`OpsFlash`) -/

@[simp] theorem seqError_upholds (b : Nat) (ofs : Nat) (master : Nat) (hs : s.Upholds s₀) : (seqError b ofs master s).Upholds s₀ := by
  simp [seqError, hs, ↓upholds_mk_eq, ↓owes_eq]

@[simp] theorem raiseOpError_upholds (b : Nat) (o : AtticOp) (hs : s.Upholds s₀) : (raiseOpError b o s).Upholds s₀ := by
  simp [raiseOpError, hs]

@[simp] theorem refuseOp_upholds (b : Nat) (o : AtticOp) (code : AtticCode) (hs : s.Upholds s₀) :
    (refuseOp b o code s).Upholds s₀ := by
  simp [refuseOp, hs]

@[simp] theorem noteWear_upholds (b : Nat) (sector : Nat) (count : Nat) : (noteWear b sector count s).Upholds s₀ ↔ s.Upholds s₀ := by
  unfold noteWear; (repeat' split) <;> simp [↓upholds_mk_eq, ↓owes_eq]

@[simp] theorem programIntent_upholds (b : Nat) (sector : Nat) (owner : Nat) (hs : s.Upholds s₀) :
    (programIntent b sector owner s).Upholds s₀ := by
  simp [programIntent, hs, ↓upholds_mk_eq, ↓owes_eq]

@[simp] theorem rotateIntent_upholds (b : Nat) (hs : s.Upholds s₀) : (rotateIntent b s).Upholds s₀ := by
  unfold rotateIntent
  extract_lets k l other x s'
  split
  · exact hs
  · refine modBank_seals_upholds b (programIntent_upholds _ _ _ hs) (fun k => ?_) (fun _ h => twf_tset _ _ h)
    split <;> rfl

@[simp] theorem beginErase_upholds (b : Nat) (sector : Nat) (owner : Nat) (kind : AtticOpKind) (hs : s.Upholds s₀) :
    (beginErase b sector owner kind s).Upholds s₀ :=
  modBank_upholds_of_same _ (fun _ => ⟨rfl, rfl⟩) (programIntent_upholds _ _ _ (rotateIntent_upholds _ hs))

@[simp] theorem beginReErase_upholds (b : Nat) (hs : s.Upholds s₀) : (beginReErase b s).Upholds s₀ := by
  unfold beginReErase; (repeat' split) <;> simp [*, ↓upholds_mk_eq, ↓owes_eq]

@[simp] theorem eraseWords_upholds (b : Nat) (sector : Nat) (hs : s.Upholds s₀) : (eraseWords b sector s).Upholds s₀ := by
  have h : (modBank b (fun k =>
      { k with words := tclear k.words (sector * sectorWords) (sector * sectorWords + sectorWords) }) s).Upholds s₀ :=
    modBank_words_upholds b hs (fun _ h => twf_tclear _ _ h)
  simp only [eraseWords]
  split
  · exact (clearReason_upholds ..).2 h
  · exact h

@[simp] theorem eraseSector_upholds (b : Nat) (sector : Nat) (hs : s.Upholds s₀) : (eraseSector b sector s).Upholds s₀ :=
  modBank_seals_upholds b (eraseWords_upholds _ _ (programIntent_upholds _ _ _ (rotateIntent_upholds _ hs))) (fun _ => rfl)
    (fun _ h => twf_tset _ _ h)

@[simp] theorem rebuildWords_upholds (b : Nat) (sector : Nat) (hs : s.Upholds s₀) : (rebuildWords b sector s).Upholds s₀ :=
  modBank_words_upholds b hs fun _ => foldl_twf (fun t x h => by
    split
    · exact h
    · exact twf_tset _ _ h) _ _

@[simp] theorem startOp_upholds (b : Nat) (o : AtticOp) (hs : s.Upholds s₀) : (startOp b o s).Upholds s₀ := by
  unfold startOp
  extract_lets k s₁ c
  have h₁ : s₁.Upholds s₀ := modBank_upholds_of_same _ (fun _ => ⟨rfl, rfl⟩) hs
  split
  · exact seqError_upholds _ _ _ hs
  split
  · exact refuseOp_upholds _ _ _ h₁
  have h₂ : (modBank b (opFails b o .brownout)
      { s₁ with att := { s₁.att with brownouts := satInc 0xFFFF s₁.att.brownouts } }).Upholds s₀ := by
    simp [h₁, ↓upholds_mk_eq, ↓owes_eq]
  split
  · exact raiseAddr_upholds _ _ _ _ h₂
  (repeat' split) <;> simp [h₁]

@[simp] theorem atticCycles_upholds (kind : AtticOpKind) (b : Nat) (master : Nat) (cycles : List (Nat × Nat)) (hs : s.Upholds s₀) :
    (atticCycles kind b master cycles s).Upholds s₀ := by
  unfold atticCycles; (repeat' split) <;> simp +contextual [*, ↓upholds_ite, foldl_upholds]

theorem oneCycle_upholds (b : Nat) (master : Nat) {f : State → State} (hf : s.Upholds s₀ → (f s).Upholds s₀)
    (hs : s.Upholds s₀) : (oneCycle b master f s).Upholds s₀ := by
  unfold oneCycle
  (repeat' split) <;> simp [*]

@[simp] theorem suspendErase_upholds (b : Nat) (how : SuspendKind) (hs : s.Upholds s₀) : (suspendErase b how s).Upholds s₀ := by
  unfold suspendErase; (repeat' split) <;> simp [*, ↓upholds_mk_eq, ↓owes_eq]

@[simp] theorem resumeErase_upholds (b : Nat) (hs : s.Upholds s₀) : (resumeErase b s).Upholds s₀ := by
  unfold resumeErase; (repeat' split) <;> simp [*]

@[simp] theorem ownerStatus_upholds (b : Nat) (master : Nat) (hs : s.Upholds s₀) : (ownerStatus b master s).2.Upholds s₀ := by
  simp only [ownerStatus]; (repeat' split) <;> simp [*]

@[simp] theorem readArray_upholds (master : Nat) (offset : Nat) (reads : List (List Nat)) (hs : s.Upholds s₀) :
    (readArray master offset reads s).2.Upholds s₀ := by
  unfold readArray
  extract_lets b ofs k sec
  split
  · exact hs
  split
  · exact hs
  split
  · exact takeFree_upholds.2 hs
  split
  · exact raiseAddr_upholds _ _ _ _ hs
  · exact raiseAddr_upholds _ _ _ _ hs
  · exact hs

@[simp] theorem readWindow_upholds (master : Nat) (offset : Nat) (reads : List (List Nat)) (hs : s.Upholds s₀) :
    (readWindow master offset reads s).2.Upholds s₀ := by
  have ho := ownerStatus_upholds (offset / bankBytes) master hs
  simp only [readWindow]
  split <;> rename_i he <;> rw [he] at ho
  · exact ho
  · (repeat' split) <;> simp_all

@[simp] theorem giveWord_upholds (x : Option (Option Dword) × State) : (giveWord x).Upholds s₀ ↔ x.2.Upholds s₀ := by
  unfold giveWord
  (repeat' split) <;> simp

/-! ### Commands of the model (`Attic`) -/

theorem execAtticProgram_upholds (master : Nat) (bank : Nat) (cycles : List AtticCycle) (hs : s.Upholds s₀) :
    (execAtticProgram master bank cycles s).Upholds s₀ := by
  simp [execAtticProgram, hs]

theorem execAtticRowProgram_upholds (master : Nat) (bank : Nat) (cycles : List AtticCycle) (hs : s.Upholds s₀) :
    (execAtticRowProgram master bank cycles s).Upholds s₀ := by
  simp [execAtticRowProgram, hs]

theorem execAtticSectorErase_upholds (master : Nat) (bank : Nat) (cycles : List AtticCycle) (hs : s.Upholds s₀) :
    (execAtticSectorErase master bank cycles s).Upholds s₀ := by
  simp [execAtticSectorErase, hs]

theorem execAtticRecover_upholds (master : Nat) (bank : Nat) (cycles : List AtticCycle) (hs : s.Upholds s₀) :
    (execAtticRecover master bank cycles s).Upholds s₀ := by
  simp [execAtticRecover, hs]

theorem execAtticSuspend_upholds (master : Nat) (bank : Nat) (hs : s.Upholds s₀) :
    (execAtticSuspend master bank s).Upholds s₀ :=
  oneCycle_upholds _ _ (suspendErase_upholds _ _) hs

@[simp] theorem resumeBank_upholds (b : Nat) (hs : s.Upholds s₀) : (resumeBank b s).Upholds s₀ := by
  unfold resumeBank; (repeat' split) <;> simp [*]

theorem execAtticResume_upholds (master : Nat) (bank : Nat) (hs : s.Upholds s₀) :
    (execAtticResume master bank s).Upholds s₀ :=
  oneCycle_upholds _ _ (resumeBank_upholds _) hs

theorem execAtticReadReset_upholds (master : Nat) (bank : Nat) (hs : s.Upholds s₀) :
    (execAtticReadReset master bank s).Upholds s₀ :=
  oneCycle_upholds _ _ (modBank_upholds_of_same _ fun _ => ⟨rfl, rfl⟩) hs

theorem execAtticSeqTimeout_upholds (bank : Nat) (hs : s.Upholds s₀) :
    (execAtticSeqTimeout bank s).Upholds s₀ := by
  unfold execAtticSeqTimeout; (repeat' split) <;> simp [*]

theorem execAtticBadAccess_upholds (master : Nat) (offset : Nat) (hs : s.Upholds s₀) :
    (execAtticBadAccess master offset s).Upholds s₀ := by
  simp [execAtticBadAccess, hs]

@[simp] theorem putWords_wf (o : AtticOp) {k : AtticBank} (h : k.wf = true) : (putWords o k).wf = true :=
  (bank_wf_iff _).1 ⟨foldl_twf (fun _ _ h => twf_tmod _ _ h) _ _ (AtticBank.words_wf h), AtticBank.seals_wf (k := k) h⟩

theorem execAtticProgramDone_upholds (bank : Nat) (pass : Bool) (hs : s.Upholds s₀) :
    (execAtticProgramDone bank pass s).Upholds s₀ := by
  unfold execAtticProgramDone
  split
  · exact hs
  next o _ =>
    extract_lets s₁
    have h₁ : s₁.Upholds s₀ := modBank_upholds_of_same _ (fun k => by split <;> exact ⟨rfl, rfl⟩) hs
    (repeat' split)
    · exact hs
    · exact modBank_upholds _ (fun _ => putWords_wf o) h₁
    · exact raiseOpError_upholds _ _ (tearWords_upholds _ _ (modBank_upholds_of_same _ (fun _ => ⟨rfl, rfl⟩) h₁))

@[simp] theorem afterErase_upholds (b : Nat) (o : AtticOp) (hs : s.Upholds s₀) : (afterErase b o s).Upholds s₀ := by
  unfold afterErase; (repeat' split) <;> simp [*]

@[simp] theorem finishRecover_upholds (b : Nat) (o : AtticOp) (twinUe : Bool) (hs : s.Upholds s₀) :
    (finishRecover b o twinUe s).Upholds s₀ := by
  unfold finishRecover
  extract_lets a s₁ s₂
  have h₁ : s₁.Upholds s₀ := modBank_upholds_of_same _ (fun _ => ⟨rfl, rfl⟩) hs
  have h₂ := raiseAddr_upholds attRecoverFail (sectorBase b o.sector) o.owner 4 h₁
  have h₃ : s₂.Upholds s₀ := raiseOpError_upholds b o h₂
  clear_value s₂
  split
  · split
    · exact raiseAddr_upholds _ _ _ _ h₃
    · exact h₃
  · exact rebuildWords_upholds _ _ hs

@[simp] theorem sealErase_upholds (b : Nat) (o : AtticOp) (twinUe : Bool) (hs : s.Upholds s₀) :
    (sealErase b o twinUe s).Upholds s₀ := by
  unfold sealErase
  extract_lets x s₁ s₂
  have h₂ : s₂.Upholds s₀ := modBank_seals_upholds b (noteSuspended_upholds o |>.2 (eraseWords_upholds _ _ hs)) (fun _ => rfl)
    (fun k h => twf_tset (t := k.seals) _ _ h)
  (repeat' split) <;> simp [h₂]

theorem execAtticErasePulseDone_upholds (bank : Nat) (pass twinUe : Bool) (hs : s.Upholds s₀) :
    (execAtticErasePulseDone bank pass twinUe s).Upholds s₀ := by
  simp only [execAtticErasePulseDone]
  (repeat' split)
  · exact hs
  · exact sealErase_upholds _ _ _ hs
  · exact modBank_upholds_of_same _ (fun _ => ⟨rfl, rfl⟩) hs
  · refine raiseOpError_upholds _ _ ((noteSuspended_upholds _).2 (modBank_seals_upholds _ hs (fun _ => rfl) fun k h => ?_))
    exact twf_tset _ _ h
  · exact hs

theorem execAtticForeignAccess_upholds (master : Nat) (offset : Nat) (reads : List (List Nat)) (hs : s.Upholds s₀) :
    (execAtticForeignAccess master offset reads s).Upholds s₀ := by
  unfold execAtticForeignAccess; (repeat' split) <;> simp [*]

theorem execAtticAutoResume_upholds (bank : Nat) (hs : s.Upholds s₀) :
    (execAtticAutoResume bank s).Upholds s₀ := by
  unfold execAtticAutoResume; (repeat' split) <;> simp [*]

theorem execFetchFault_upholds (master : Nat) (offset : Nat) (hs : s.Upholds s₀) :
    (execFetchFault master offset s).Upholds s₀ := by
  simp only [execFetchFault]; (repeat' split) <;> simp [*, ↓upholds_mk_eq, ↓owes_eq]

theorem execEraseStarve_upholds (bank : Nat) (hs : s.Upholds s₀) : (execEraseStarve bank s).Upholds s₀ := by
  unfold execEraseStarve
  (repeat' split)
  · exact hs
  next o _ _ =>
    have h := advanceTo_upholds (o.suspSince + (s.att.starveMs * 1000 - o.suspUs) + 1) hs
    simp [h, ↓upholds_mk_eq, ↓owes_eq]
  · exact hs

@[simp] theorem scanBank_upholds (b : Nat) (hs : s.Upholds s₀) : (scanBank b s).Upholds s₀ := by
  unfold scanBank
  extract_lets k l s₁ top att s₂ s₃ s₄
  have h₁ : s₁.Upholds s₀ := modBank_upholds_of_same _ (fun _ => ⟨rfl, rfl⟩) hs
  have h₂ : s₂.Upholds s₀ := h₁
  have h₃ : s₃.Upholds s₀ := foldl_upholds _ h₂ fun _ _ hs => by simpa using hs
  have h₄ : s₄.Upholds s₀ := foldl_upholds _ h₃ fun _ _ hs => raiseAddr_upholds _ _ _ _ hs
  exact beginReErase_upholds _ h₄

theorem execAtticBootScan_upholds (lostSeals : List Nat) (hs : s.Upholds s₀) :
    (execAtticBootScan lostSeals s).Upholds s₀ := by
  unfold execAtticBootScan
  split
  · have h : (lostSeals.foldl (fun s x => modBank (x / 128) (fun k =>
        { k with seals := tset factorySeal k.seals (x % 128) none }) s) s).Upholds s₀ :=
      foldl_upholds _ hs fun _ _ hs =>
        modBank_seals_upholds _ hs (fun _ => rfl) (fun k h => twf_tset (t := k.seals) _ _ h)
    simpa [↓upholds_mk_eq, ↓owes_eq] using scanBank_upholds 1 (scanBank_upholds 0 h)
  · exact hs

@[simp] theorem brownBank_upholds (b : Nat) (hs : s.Upholds s₀) : (brownBank b s).Upholds s₀ := by
  have h := cutProg_upholds b .brownout (cutOp_upholds b .brownout hs)
  simp only [brownBank]
  (repeat' split) <;> simp [h]

theorem execAtticBrownout_upholds (hs : s.Upholds s₀) : (execAtticBrownout s).Upholds s₀ := by
  simp [execAtticBrownout, hs, ↓upholds_mk_eq, ↓owes_eq]

theorem execAtticRead_upholds (master : Nat) (offset : Nat) (reads : List (List Nat)) (hs : s.Upholds s₀) :
    (execAtticRead master offset reads s).Upholds s₀ := by
  unfold execAtticRead; (repeat' split) <;> simp [*]

/-! ### Operations of the model (`OpsDram`) -/

@[simp] theorem noteEntry_upholds (sc : Nat) (beat : Nat) : (noteEntry sc beat s).Upholds s₀ ↔ s.Upholds s₀ :=
  Iff.rfl

@[simp] theorem enqueue_upholds (src : Nat) (beat : Nat) (k : DrcKind) : (enqueue src beat k s).Upholds s₀ ↔ s.Upholds s₀ := by
  have q := @enqueue_frame
  simp only [State.Upholds, q]

@[simp] theorem enqueueWrite_upholds (src : Nat) (w : BeatWrite) (tag : Option Nat) (hs : s.Upholds s₀) :
    (enqueueWrite src w tag s).Upholds s₀ := by
  simp only [enqueueWrite]; (repeat' split) <;> simp [*]

@[simp] theorem fillPool_upholds (sc : Nat) (hs : s.Upholds s₀) : (fillPool sc s).Upholds s₀ := by
  refine foldl_upholds _ (foldl_upholds _ hs fun s q hs => ?_) fun s q hs => ?_
  · dsimp only
    (repeat' split) <;> simp [hs]
  · dsimp only
    split <;> simp [hs, ↓upholds_mk_eq, ↓owes_eq]

@[simp] theorem callSubch_upholds (l : List Nat) : (callSubch l s).Upholds s₀ ↔ s.Upholds s₀ :=
  Iff.rfl

@[simp] theorem callTile_upholds (t : Nat) : (callTile t s).Upholds s₀ ↔ s.Upholds s₀ :=
  Iff.rfl

@[simp] theorem activate_upholds (sc : Nat) (bank : Nat) (row : Nat) (turn : Bool) :
    (activate sc bank row turn s).Upholds s₀ ↔ s.Upholds s₀ :=
  Iff.rfl

@[simp] theorem payRfm_upholds (sc : Nat) (bank : Nat) : (payRfm sc bank s).Upholds s₀ ↔ s.Upholds s₀ :=
  Iff.rfl

@[simp] theorem openFor_upholds (dpa : Nat) : (openFor s dpa).Upholds s₀ ↔ s.Upholds s₀ := by
  have q := @openFor_frame
  simp only [State.Upholds, q]

@[simp] theorem tileAccess_upholds (t : Nat) : (tileAccess t s).Upholds s₀ ↔ s.Upholds s₀ := by
  have q := @tileAccess_frame
  simp only [State.Upholds, q]

@[simp] theorem beatAccess_upholds (beat : Nat) : (beatAccess beat s).Upholds s₀ ↔ s.Upholds s₀ := by
  have q := @beatAccess_frame
  simp only [State.Upholds, q]

theorem dramLost_wf (beat : Nat) {d : Dram} (h : Memory.wf d = true) : Memory.wf (dramLost beat d) = true := by
  rw [memory_wf_iff] at h ⊢
  simp only [dramLost]
  exact ⟨twf_storeBytes _ _ _ _ _ h.1, h.2⟩

@[simp] theorem uncorrectable_upholds (beat mstr : Nat) (later : Bool) (hs : s.Upholds s₀) :
    (uncorrectable beat mstr later s).Upholds s₀ := by
  unfold uncorrectable
  extract_lets dpa drc s₁ s₂ s₃
  have h₁ : s₁.Upholds s₀ := hs
  have h₂ : s₂.Upholds s₀ := by
    simp only [s₂]
    split <;> simp [h₁]
  have h₃ : s₃.Upholds s₀ := by
    simp only [s₃]
    split
    · exact listPoison_upholds _ _ _ h₂
    · exact writeEvent_upholds _ (poisonBeat_upholds _ _ (s := { s₂ with dram := dramLost beat s₂.dram })
        (upholds_dram h₂ (dramLost_wf _)))
  exact (addEvent_upholds ..).2 (raiseAddr_upholds _ _ _ _ h₃)

/-! ### Operations of the model (`OpsMirror`) -/

@[simp] theorem modSet_upholds (k : Nat) (f : MirrorSet → MirrorSet) : (modSet k f s).Upholds s₀ ↔ s.Upholds s₀ :=
  Iff.rfl

@[simp] theorem markDrift_upholds (k : Nat) (room : Nat) : (markDrift k room s).Upholds s₀ ↔ s.Upholds s₀ :=
  Iff.rfl

@[simp] theorem mirrorAccept_upholds (k : Nat) (w : BeatWrite) (tag : Option Nat) (old : Bool) :
    (mirrorAccept k w tag old s).2.Upholds s₀ ↔ s.Upholds s₀ := by
  have q := @mirrorAccept_frame
  simp only [State.Upholds, q]

@[simp] theorem watchRecord_upholds (dpa : Nat) (op : Nat) (len : Nat) : (watchRecord dpa op len s).Upholds s₀ ↔ s.Upholds s₀ := by
  have q := @watchRecord_frame
  simp only [State.Upholds, q]

/-! ### Operations of the model (`OpsHost`) -/

@[simp] theorem demandFetch_upholds (room : Nat) : (demandFetch room s).Upholds s₀ ↔ s.Upholds s₀ := by
  have q := @demandFetch_frame
  simp only [State.Upholds, q]

@[simp] theorem complete_upholds (tag : Nat) (effect : Bool) : (complete tag effect s).Upholds s₀ ↔ s.Upholds s₀ := by
  have q := @complete_frame
  simp only [State.Upholds, q]

@[simp] theorem discard_upholds (tag : Nat) (reason : Nat) : (discard tag reason s).Upholds s₀ ↔ s.Upholds s₀ := by
  have q := @discard_frame
  simp only [State.Upholds, q]

@[simp] theorem modWrite_upholds (tag : Nat) (f : HostWrite → HostWrite) : (modWrite tag f s).Upholds s₀ ↔ s.Upholds s₀ :=
  Iff.rfl

@[simp] theorem dropWrite_upholds (tag : Nat) : (dropWrite tag s).Upholds s₀ ↔ s.Upholds s₀ :=
  Iff.rfl

@[simp] theorem enterWrite_upholds (w : HostWrite) : (enterWrite w s).Upholds s₀ ↔ s.Upholds s₀ := by
  have q := @enterWrite_frame
  simp only [State.Upholds, q]

@[simp] theorem admitWaiting_upholds (x0 : Nat) : (admitWaiting x0 s).Upholds s₀ ↔ s.Upholds s₀ := by
  have q := @admitWaiting_frame
  simp only [State.Upholds, q]

@[simp] theorem admitWrites_upholds : (admitWrites s).Upholds s₀ ↔ s.Upholds s₀ := by
  have q := @admitWrites_frame
  simp only [State.Upholds, q]

@[simp] theorem releaseEntry_upholds (tag : Nat) : (releaseEntry tag s).Upholds s₀ ↔ s.Upholds s₀ := by
  have q := @releaseEntry_frame
  simp only [State.Upholds, q]

@[simp] theorem grantClaim_upholds (t : Nat) (exposed : Bool) (hs : s.Upholds s₀) : (grantClaim t exposed s).Upholds s₀ := by
  unfold grantClaim; (repeat' split) <;> simp [*]

@[simp] theorem stallClaim_upholds (tag : Option Nat) (ch : Nat) (t : Nat) (suite : Nat) :
    (stallClaim tag ch t suite s).Upholds s₀ ↔ s.Upholds s₀ := by
  simp [stallClaim, ↓upholds_mk_eq, ↓owes_eq]

@[simp] theorem noteStall_upholds (c : StalledClaim) : (noteStall c s).Upholds s₀ ↔ s.Upholds s₀ :=
  Iff.rfl

@[simp] theorem claimGranted_upholds (c : StalledClaim) : (claimGranted c s).Upholds s₀ ↔ s.Upholds s₀ := by
  unfold claimGranted; (repeat' split) <;> simp [↓upholds_mk_eq, ↓owes_eq]

@[simp] theorem acceptBeat_upholds (src : Nat) (w : BeatWrite) (tag : Option Nat) (poisonSource : Nat) (hs : s.Upholds s₀) :
    (acceptBeat src w tag poisonSource s).Upholds s₀ := by
  unfold acceptBeat; (repeat' split) <;> simp [*, ↓upholds_mk_eq, ↓owes_eq]

@[simp] theorem acceptWrite_upholds (w : HostWrite) (hs : s.Upholds s₀) : (acceptWrite w s).Upholds s₀ := by
  unfold acceptWrite
  extract_lets w' b hst log life s₁ k
  clear_value k
  split
  next ack s₂ e =>
    have h₂ : s₂.Upholds s₀ := by
      split at e
      · exact upholds_of_pair ((mirrorAccept_upholds (s := s₁) ..).2 hs) e
      · exact upholds_of_pair (p := (none, s₁)) hs e
    extract_lets hst s₃ s₄ s₅
    have h₄ : s₄.Upholds s₀ := acceptBeat_upholds _ _ _ _ h₂
    have h₅ : s₅.Upholds s₀ := ite_upholds _ ((complete_upholds _ _).2 h₄) h₄
    exact ite_upholds _ (raiseAddr_upholds _ _ _ _ h₅) h₅

@[simp] theorem startRead_upholds (r : HostRead) : (startRead r s).Upholds s₀ ↔ s.Upholds s₀ := by
  have q := @startRead_frame
  simp only [State.Upholds, q]

@[simp] theorem admitRead_upholds (r : HostRead) : (admitRead r s).Upholds s₀ ↔ s.Upholds s₀ := by
  have q := @admitRead_frame
  simp only [State.Upholds, q]

@[simp] theorem admitReads_upholds (x0 : Nat) : (admitReads x0 s).Upholds s₀ ↔ s.Upholds s₀ := by
  have q := @admitReads_frame
  simp only [State.Upholds, q]

@[simp] theorem releaseReads_upholds (keep : Nat → Bool) : (releaseReads keep s).Upholds s₀ ↔ s.Upholds s₀ := by
  have q := @releaseReads_frame
  simp only [State.Upholds, q]

@[simp] theorem releaseRoomWrites_upholds (room : Nat) : (releaseRoomWrites room s).Upholds s₀ ↔ s.Upholds s₀ :=
  Iff.rfl

@[simp] theorem releaseFill_upholds (t : Nat) : (releaseFill t s).Upholds s₀ ↔ s.Upholds s₀ := by
  exact Iff.rfl

@[simp] theorem fillTile_upholds (t : Nat) (hs : s.Upholds s₀) : (fillTile t s).Upholds s₀ := by
  simp only [fillTile, releaseFill_upholds]
  have h := tileAccess_upholds t |>.2 hs
  exact putTile_upholds t _ (s := { tileAccess t s with dram := zeroTile t (tileAccess t s).dram })
    (upholds_dram h (zeroTile_wf _))

/-! ### Operations of the model (`OpsRoles`) -/

@[simp] theorem freeEntries_upholds (tags : List Nat) : (freeEntries tags s).Upholds s₀ ↔ s.Upholds s₀ := by
  have q := @freeEntries_frame
  simp only [State.Upholds, q]

@[simp] theorem releaseWaiting_upholds (k : Nat) : (releaseWaiting k s).Upholds s₀ ↔ s.Upholds s₀ := by
  have q := @releaseWaiting_frame
  simp only [State.Upholds, q]

@[simp] theorem oldRoles_upholds (k : Nat) : (oldRoles k s).Upholds s₀ ↔ s.Upholds s₀ :=
  Iff.rfl

@[simp] theorem leaveActive_upholds (k : Nat) (old : SetState) (new : SetState) :
    (leaveActive k old new s).Upholds s₀ ↔ s.Upholds s₀ := by
  have q := @leaveActive_frame
  simp only [State.Upholds, q]

@[simp] theorem changeSet_upholds (k : Nat) (new : SetState) : (changeSet k new s).Upholds s₀ ↔ s.Upholds s₀ := by
  unfold changeSet
  extract_lets old any0 s₁ s₂ s₃ s₄ s₅ s₆
  have h₃ : s₃.Upholds s₀ ↔ s.Upholds s₀ := ite_upholds_iff Iff.rfl (alertBit_upholds _)
  have h₄ : s₄.Upholds s₀ ↔ s.Upholds s₀ := ite_upholds_iff h₃ ((notify_upholds _).trans ((event_upholds ..).trans h₃))
  have h₅ : s₅.Upholds s₀ ↔ s.Upholds s₀ := ite_upholds_iff h₄ ((notify_upholds _).trans ((event_upholds ..).trans h₄))
  have h₆ : s₆.Upholds s₀ ↔ s.Upholds s₀ := ite_upholds_iff ((oldRoles_upholds _).trans h₅) h₅
  exact ite_upholds_iff Iff.rfl ((leaveActive_upholds ..).trans h₆)

/-! ### Operations of the model (`OpsCellar`) -/

@[simp] theorem modNand_upholds (part : Nat) (d : Nat) (b : Nat) (f : NandBlock → NandBlock) :
    (modNand part d b f s).Upholds s₀ ↔ s.Upholds s₀ :=
  Iff.rfl

@[simp] theorem modDie_upholds (d : Nat) (f : Die → Die) : (modDie d f s).Upholds s₀ ↔ s.Upholds s₀ :=
  Iff.rfl

@[simp] theorem dieWorks_upholds (d : Nat) : (dieWorks d s).Upholds s₀ ↔ s.Upholds s₀ :=
  Iff.rfl

@[simp] theorem issueDie_upholds (d : Nat) : (issueDie d s).Upholds s₀ ↔ s.Upholds s₀ := by
  have q := @issueDie_frame
  simp only [State.Upholds, q]

@[simp] theorem issueAll_upholds : (issueAll s).Upholds s₀ ↔ s.Upholds s₀ := by
  have q := @issueAll_frame
  simp only [State.Upholds, q]

@[simp] theorem giveSlot_upholds (c : CopyFlight) : (giveSlot c s).2.Upholds s₀ ↔ s.Upholds s₀ := by
  have q := @giveSlot_frame
  simp only [State.Upholds, q]

@[simp] theorem placeCopy_upholds (c : CopyFlight) : (placeCopy c s).Upholds s₀ ↔ s.Upholds s₀ := by
  have q := @placeCopy_frame
  simp only [State.Upholds, q]

@[simp] theorem placeAll_upholds : (placeAll s).Upholds s₀ ↔ s.Upholds s₀ := by
  have q := @placeAll_frame
  simp only [State.Upholds, q]

@[simp] theorem placeStaged_upholds : (placeStaged s).Upholds s₀ ↔ s.Upholds s₀ := by
  have q := @placeStaged_frame
  simp only [State.Upholds, q]

@[simp] theorem startCopy_upholds (t : Nat) (src : CopySrc) (img : Image) :
    (startCopy t src img s).Upholds s₀ ↔ s.Upholds s₀ := by
  have q := @startCopy_frame
  simp only [State.Upholds, q]

@[simp] theorem tprogBand_upholds (typ : Nat) (old : List Nat) (new : List Nat) :
    (tprogBand typ old new s).Upholds s₀ ↔ s.Upholds s₀ := by
  have q := @tprogBand_frame
  simp only [State.Upholds, q]

@[simp] theorem noteTlc_upholds (us : Nat) : (noteTlc us s).Upholds s₀ ↔ s.Upholds s₀ := by
  have q := @noteTlc_frame
  simp only [State.Upholds, q]

@[simp] theorem notePslc_upholds (us : Nat) : (notePslc us s).Upholds s₀ ↔ s.Upholds s₀ := by
  have q := @notePslc_frame
  simp only [State.Upholds, q]

@[simp] theorem spareCheck_upholds (hs : s.Upholds s₀) : (spareCheck s).Upholds s₀ := by
  unfold spareCheck; (repeat' split) <;> simp [*]

@[simp] theorem spareAtBoot_upholds (hs : s.Upholds s₀) : (spareAtBoot s).Upholds s₀ := by
  unfold spareAtBoot; (repeat' split) <;> simp [*]

@[simp] theorem unplace_upholds (d : Nat) (b : Nat) : (unplace d b s).Upholds s₀ ↔ s.Upholds s₀ :=
  Iff.rfl

@[simp] theorem retireBlock_upholds (part d b : Nat) (onErase : Bool) (hs : s.Upholds s₀) :
    (retireBlock part d b onErase s).Upholds s₀ := by
  unfold retireBlock
  extract_lets cel s₁ k place e cel₁ s₂ s₃
  have h₁ : s₁.Upholds s₀ := hs
  have h₂ : s₂.Upholds s₀ := by
    apply ite_upholds
    · exact (modNand_upholds ..).2 h₁
    · exact (modNand_upholds ..).2 ((modDie_upholds ..).2 (h₁))
  have h₃ : s₃.Upholds s₀ := (modDie_upholds ..).2 h₂
  exact spareCheck_upholds (ite_upholds _ ((unplace_upholds _ _).2 h₃) h₃)

@[simp] theorem putMeta_upholds (q : Nat) (x : MetaBlk) : (putMeta q x s).Upholds s₀ ↔ s.Upholds s₀ :=
  Iff.rfl

@[simp] theorem takePages_upholds (q : Nat) (n : Nat) : (takePages q n s).Upholds s₀ ↔ s.Upholds s₀ := by
  have q := @takePages_frame
  simp only [State.Upholds, q]

@[simp] theorem dropDead_upholds : (dropDead s).Upholds s₀ ↔ s.Upholds s₀ :=
  Iff.rfl

@[simp] theorem dropItem_upholds (i : MetaItem) : (dropItem i s).Upholds s₀ ↔ s.Upholds s₀ :=
  Iff.rfl

@[simp] theorem programPages_upholds (type : Nat) (sub : Nat) (i : MetaItem) (x3 : Nat) (x4 : Nat) (x5 : Nat) :
    (programPages type sub i x3 x4 x5 s).Upholds s₀ ↔ s.Upholds s₀ := by
  have q := @programPages_frame
  simp only [State.Upholds, q]

@[simp] theorem programItem_upholds (type : Nat) (sub : Nat) (i : MetaItem) (first : Nat) (n : Nat) :
    (programItem type sub i first n s).Upholds s₀ ↔ s.Upholds s₀ := by
  have q := @programItem_frame
  simp only [State.Upholds, q]

@[simp] theorem replaceItem_upholds (type : Nat) (i : MetaItem) : (replaceItem type i s).Upholds s₀ ↔ s.Upholds s₀ := by
  have q := @replaceItem_frame
  simp only [State.Upholds, q]

@[simp] theorem buildRecord_upholds (r : Nat) (full : Bool) : (buildRecord r full s).Upholds s₀ ↔ s.Upholds s₀ := by
  have q := @buildRecord_frame
  simp only [State.Upholds, q]

@[simp] theorem refreshRecord_upholds (r : Nat) : (refreshRecord r s).Upholds s₀ ↔ s.Upholds s₀ := by
  have q := @refreshRecord_frame
  simp only [State.Upholds, q]

@[simp] theorem putInForce_upholds (m : RoomMap) (ptr : Nat) (hs : s.Upholds s₀) : (putInForce m ptr s).Upholds s₀ := by
  unfold putInForce; (repeat' split) <;> simp [*]

@[simp] theorem startErasures_upholds : (startErasures s).Upholds s₀ ↔ s.Upholds s₀ := by
  have q := @startErasures_frame
  simp only [State.Upholds, q]

@[simp] theorem takeCheckpoint_upholds : (takeCheckpoint s).Upholds s₀ ↔ s.Upholds s₀ := by
  have q := @takeCheckpoint_frame
  simp only [State.Upholds, q]

@[simp] theorem poisonInFlight_upholds (beat : Nat) : (poisonInFlight beat s).Upholds s₀ ↔ s.Upholds s₀ :=
  Iff.rfl

/-! ### Operations of the model (`OpsChart`) -/

@[simp] theorem retotal_upholds : (retotal s).Upholds s₀ ↔ s.Upholds s₀ := by
  exact Iff.rfl

@[simp] theorem recountAll_upholds (hs : s.Upholds s₀) : (recountAll s).Upholds s₀ :=
  upholds_cht hs (twf_tmap _) id

@[simp] theorem modRoomTiles_upholds (r : Nat) (f : Tile → Tile) (hs : s.Upholds s₀) : (modRoomTiles r f s).Upholds s₀ :=
  foldl_upholds _ hs fun _ _ => putTile_upholds _ _

@[simp] theorem resetChart_upholds (hs : s.Upholds s₀) : (resetChart s).Upholds s₀ := by
  simp only [resetChart, ↓upholds_mk_eq]
  exact upholds_cht hs (twf_tmap _) fun _ => rfl

@[simp] theorem reevalStalled_upholds (hs : s.Upholds s₀) : (reevalStalled s).Upholds s₀ := by
  simp +contextual [reevalStalled, hs, ↓upholds_mk_eq, ↓owes_eq, ↓upholds_ite, foldl_upholds]

/-! ### Operations of the model (`OpsStow`) -/

@[simp] theorem addCandidate_upholds (t : Nat) : (addCandidate t s).Upholds s₀ ↔ s.Upholds s₀ := by
  have q := @addCandidate_frame
  simp only [State.Upholds, q]

@[simp] theorem visitTile_upholds (t : Nat) (hs : s.Upholds s₀) : (visitTile t s).Upholds s₀ := by
  simp only [visitTile]; (repeat' split) <;> simp [*]

@[simp] theorem noteStart_upholds : (noteStart s).Upholds s₀ ↔ s.Upholds s₀ :=
  Iff.rfl

@[simp] theorem takeWear_upholds : (takeWear s).Upholds s₀ ↔ s.Upholds s₀ := by
  simp only [takeWear]; (repeat' split) <;> simp [↓upholds_mk_eq, ↓owes_eq]

@[simp] theorem startStow_upholds (t : Nat) (src : CopySrc) (hs : s.Upholds s₀) : (startStow t src s).Upholds s₀ := by
  simp [startStow, hs]

/-! ### Operations of the model (`OpsSave`) -/

@[simp] theorem packAlert_upholds (before : State) : (packAlert before s).Upholds s₀ ↔ s.Upholds s₀ := by
  have q := @packAlert_frame
  simp only [State.Upholds, q]

@[simp] theorem modRec_upholds (f : SaveRecord → SaveRecord) : (modRec f s).Upholds s₀ ↔ s.Upholds s₀ := by
  have q := @modRec_frame
  simp only [State.Upholds, q]

@[simp] theorem modRun_upholds (f : SaveRun → SaveRun) : (modRun f s).Upholds s₀ ↔ s.Upholds s₀ :=
  Iff.rfl

@[simp] theorem eraseHeads_upholds (h : Half) (ahead : Bool) : (eraseHeads h ahead s).Upholds s₀ ↔ s.Upholds s₀ := by
  have q := @eraseHeads_frame
  simp only [State.Upholds, q]

@[simp] theorem clearArea_upholds (b : Bool) : (clearArea b s).Upholds s₀ ↔ s.Upholds s₀ :=
  Iff.rfl

@[simp] theorem programHeader_upholds : (programHeader s).Upholds s₀ ↔ s.Upholds s₀ := by
  have q := @programHeader_frame
  simp only [State.Upholds, q]

@[simp] theorem programArea_upholds (first : Nat) (n : Nat) : (programArea first n s).Upholds s₀ ↔ s.Upholds s₀ := by
  have q := @programArea_frame
  simp only [State.Upholds, q]

@[simp] theorem programList_upholds : (programList s).Upholds s₀ ↔ s.Upholds s₀ := by
  have q := @programList_frame
  simp only [State.Upholds, q]

@[simp] theorem countWritten_upholds (n : Nat) : (countWritten n s).Upholds s₀ ↔ s.Upholds s₀ := by
  have q := @countWritten_frame
  simp only [State.Upholds, q]

@[simp] theorem eraseAheadOf_upholds (h : Half) (x : Nat) (ahead : Bool) :
    (eraseAheadOf h x ahead s).Upholds s₀ ↔ s.Upholds s₀ := by
  have q := @eraseAheadOf_frame
  simp only [State.Upholds, q]

@[simp] theorem halfFull_upholds (hs : s.Upholds s₀) : (halfFull s).Upholds s₀ := by
  unfold halfFull; (repeat' split) <;> simp [*]

@[simp] theorem noteRetire_upholds (k : Nat) : (noteRetire k s).Upholds s₀ ↔ s.Upholds s₀ := by
  have q := @noteRetire_frame
  simp only [State.Upholds, q]

@[simp] theorem halfProgramEnd_upholds (pass : Bool) (hs : s.Upholds s₀) : (halfProgramEnd pass s).Upholds s₀ := by
  unfold halfProgramEnd
  split
  · exact hs
  · split
    · extract_lets x s₁ s₂ skip s₃ s₄ p
      have h₂ : s₂.Upholds s₀ := (modNand_upholds ..).2 ((dieWorks_upholds ..).2 ((eraseAheadOf_upholds _ _ _).2 hs))
      exact ite_upholds _ (halfFull_upholds ((modRun_upholds _).2 hs)) (ite_upholds _
        ((countWritten_upholds _).2 ((modRun_upholds _).2 ((modHalf_upholds _ _).2 h₂)))
        (raiseAddr_upholds _ _ _ _ ((noteRetire_upholds _).2 ((modRun_upholds _).2 h₂))))
    · exact hs

@[simp] theorem endIssued_upholds (hs : s.Upholds s₀) : (endIssued s).Upholds s₀ := by
  unfold endIssued; (repeat' split) <;> simp +contextual [*, foldl_upholds]

@[simp] theorem retireFailed_upholds (hs : s.Upholds s₀) : (retireFailed s).Upholds s₀ := by
  simp +contextual [retireFailed, hs, ↓upholds_mk_eq, ↓owes_eq, foldl_upholds]

@[simp] theorem logCaptures_upholds (hs : s.Upholds s₀) : (logCaptures s).Upholds s₀ := by
  simp +contextual [logCaptures, hs, ↓upholds_ite, foldl_upholds]

@[simp] theorem leaveSaving_upholds (outcome : Nat) (hs : s.Upholds s₀) : (leaveSaving outcome s).Upholds s₀ := by
  simp [leaveSaving, hs, ↓upholds_mk_eq, ↓owes_eq]

@[simp] theorem stopUnsealed_upholds (hs : s.Upholds s₀) : (stopUnsealed s).Upholds s₀ := by
  simp [stopUnsealed, hs, ↓upholds_mk_eq, ↓owes_eq]

@[simp] theorem exhausted_upholds (hs : s.Upholds s₀) : (exhausted s).Upholds s₀ := by
  unfold exhausted; (repeat' split) <;> simp [*]

@[simp] theorem keeperStops_upholds (hs : s.Upholds s₀) : (keeperStops s).Upholds s₀ := by
  unfold keeperStops; (repeat' split) <;> simp [*]

@[simp] theorem saveReport_upholds : (saveReport s).Upholds s₀ ↔ s.Upholds s₀ := by
  simp [saveReport]

@[simp] theorem unwriteVolatile_upholds (hs : s.Upholds s₀) : (unwriteVolatile s).Upholds s₀ :=
  upholds_cht hs id (twfFrom_filter _)

@[simp] theorem enterWarm_upholds (half : Option Half) (hs : s.Upholds s₀) : (enterWarm half s).Upholds s₀ := by
  simp [enterWarm, hs, ↓upholds_mk_eq, ↓owes_eq]

@[simp] theorem sealPassed_upholds (r : SaveRun) (hs : s.Upholds s₀) : (sealPassed r s).Upholds s₀ := by
  unfold sealPassed
  extract_lets k s₁ s₂ sav hst s₃ s₄
  have h₁ : s₁.Upholds s₀ := (modRec_upholds _).2 ((programArea_upholds _ _).2 (programList_upholds.2 hs))
  have h₂ : s₂.Upholds s₀ := by
    simp only [s₂]
    split
    · exact (modHalf_upholds _ _).2 h₁
    · exact h₁
  have h₄ : s₄.Upholds s₀ := leaveSaving_upholds (s := s₃) _ h₂
  exact ite_upholds _ (enterWarm_upholds _ h₄) (enterSaved_upholds _ h₄)

@[simp] theorem releaseHalf_upholds (h : Half) : (releaseHalf h s).Upholds s₀ ↔ s.Upholds s₀ := by
  have q := @releaseHalf_frame
  simp only [State.Upholds, q]

@[simp] theorem eraseReleased_upholds : (eraseReleased s).Upholds s₀ ↔ s.Upholds s₀ :=
  Iff.rfl

@[simp] theorem eraseOldArea_upholds : (eraseOldArea s).Upholds s₀ ↔ s.Upholds s₀ := by
  have q := @eraseOldArea_frame
  simp only [State.Upholds, q]

@[simp] theorem openService_upholds (cause : Nat) (hs : s.Upholds s₀) : (openService cause s).Upholds s₀ := by
  simp only [openService]; (repeat' split) <;> simp [*, ↓upholds_mk_eq, ↓owes_eq]

@[simp] theorem leaveHarbour_upholds (hs : s.Upholds s₀) : (leaveHarbour s).Upholds s₀ := by
  simp [leaveHarbour, hs, ↓upholds_mk_eq, ↓owes_eq]

@[simp] theorem acknowledge_upholds (hs : s.Upholds s₀) : (acknowledge s).Upholds s₀ := by
  unfold acknowledge; (repeat' split) <;> simp [*, ↓upholds_mk_eq, ↓owes_eq]

@[simp] theorem endPrecaution_upholds (short : Bool) (hs : s.Upholds s₀) : (endPrecaution short s).Upholds s₀ := by
  simp only [endPrecaution]; (repeat' split) <;> simp [*, ↓upholds_mk_eq, ↓owes_eq]

/-! ### Commands of the model (`Cellar`) -/

theorem execPadTimeout_upholds (die : Nat) (hs : s.Upholds s₀) : (execPadTimeout die s).Upholds s₀ := by
  unfold execPadTimeout; (repeat' split) <;> simp [*]

@[simp] theorem endProgram_upholds (d : Nat) (pass : Bool) : (endProgram d pass s).Upholds s₀ ↔ s.Upholds s₀ := by
  have q := @endProgram_frame
  simp only [State.Upholds, q]

theorem execNandProgramDone_upholds (die : Nat) (us : Nat) (pass : Bool) (hs : s.Upholds s₀) :
    (execNandProgramDone die us pass s).Upholds s₀ := by
  simp only [execNandProgramDone]; (repeat' split) <;> simp [*]

theorem execRoomMapBuild_upholds (room : Nat) : (execRoomMapBuild room s).Upholds s₀ ↔ s.Upholds s₀ := by
  unfold execRoomMapBuild; (repeat' split) <;> simp

@[simp] theorem issuePage_upholds : (issuePage s).Upholds s₀ ↔ s.Upholds s₀ := by
  have q := @issuePage_frame
  simp only [State.Upholds, q]

theorem execJournalPageIssue_upholds (hs : s.Upholds s₀) : (execJournalPageIssue s).Upholds s₀ := by
  unfold execJournalPageIssue; (repeat' split) <;> simp [*]

@[simp] theorem keeperErases_upholds : (keeperErases s).Upholds s₀ ↔ s.Upholds s₀ := by
  have q := @keeperErases_frame
  simp only [State.Upholds, q]

@[simp] theorem settleRecs_upholds (l : List RecFlight) (ok : Bool) (hs : s.Upholds s₀) : (settleRecs l ok s).Upholds s₀ := by
  simp +contextual [settleRecs, hs, ↓upholds_mk_eq, ↓owes_eq, ↓upholds_ite, foldl_upholds]

theorem execMetaProgramDone_upholds (page us : Nat) (passA passB : Bool) (hs : s.Upholds s₀) :
    (execMetaProgramDone page us passA passB s).Upholds s₀ := by
  have hf : ∀ (q : Nat) (s : State) (l : List RecFlight), s.Upholds s₀ →
      (let s' := retireBlock 2 (metaDie s q) (metaNo s q) false s
       if inSave s' then s' else raiseAddr celProgFail (blockAddr s 2 (metaDie s q) (metaNo s q)) (recsMaster l) 2 s').Upholds s₀ := by
    intro q s l hs
    dsimp only
    split <;> simp [hs]
  unfold execMetaProgramDone
  extract_lets mine ok s₁ recs jn cel s₂ s₃ s₄ fail s₅ s₆
  split
  · exact hs
  have h₁ : s₁.Upholds s₀ := by simp [s₁, hs]
  have h₂ : s₂.Upholds s₀ := h₁
  have h₃ : s₃.Upholds s₀ := by
    simp only [s₃]
    split <;> simp [h₂]
  have h₄ : s₄.Upholds s₀ := foldl_upholds _ h₃ fun _ _ hs => by simp [hs]
  have h₅ : s₅.Upholds s₀ := by
    simp only [s₅]
    split
    · exact h₄
    · exact hf _ _ _ h₄
  have h₆ : s₆.Upholds s₀ := by
    simp only [s₆]
    split
    · exact h₅
    cases secondOf s₅ (page / 1024) with
    | none => exact h₅
    | some q => exact hf _ _ _ h₅
  exact placeStaged_upholds.2 h₆

theorem execCheckpointDue_upholds : (execCheckpointDue s).Upholds s₀ ↔ s.Upholds s₀ := by
  unfold execCheckpointDue; (repeat' split) <;> simp

theorem execJournalBlockReclaim_upholds (die : Nat) (block : Nat) (hs : s.Upholds s₀) :
    (execJournalBlockReclaim die block s).Upholds s₀ :=
  ite_res_upholds _
    (ite_res_upholds _ (ite_upholds _ ((modDie_upholds _ _).2 (takeCheckpoint_upholds.2 hs)) (takeCheckpoint_upholds.2 hs))
      (foldl_upholds _ hs fun _ _ => (refreshRecord_upholds _).2)) hs

@[simp] theorem noteDecode_upholds (part : Nat) (die : Nat) (block : Nat) (x : Nat × Bool) :
    (noteDecode part die block x s).Upholds s₀ ↔ s.Upholds s₀ :=
  Iff.rfl

@[simp] theorem noteBad_upholds (t : Nat) : (noteBad t s).Upholds s₀ ↔ s.Upholds s₀ := by
  have q := @noteBad_frame
  simp only [State.Upholds, q]

theorem execNandReadDone_upholds (part die block : Nat) (hard soft : List Nat) (ok : Bool) (tile : Option Nat)
    (hs : s.Upholds s₀) : (execNandReadDone part die block hard soft ok tile s).Upholds s₀ := by
  unfold execNandReadDone
  split
  · simp [hs]
  · cases tile <;> (dsimp only; split) <;> simp [hs, ↓upholds_mk_eq, ↓owes_eq]

@[simp] theorem wipeBlock_upholds (part : Nat) (d : Nat) (b : Nat) : (wipeBlock part d b s).Upholds s₀ ↔ s.Upholds s₀ := by
  have q := @wipeBlock_frame
  simp only [State.Upholds, q]

theorem execNandEraseDone_upholds (part : Nat) (die : Nat) (block : Nat) (pass : Bool) (hs : s.Upholds s₀) :
    (execNandEraseDone part die block pass s).Upholds s₀ := by
  unfold execNandEraseDone; (repeat' split) <;> simp [*]

theorem execBackgroundEraseResume_upholds (die : Nat) (hs : s.Upholds s₀) :
    (execBackgroundEraseResume die s).Upholds s₀ := by
  unfold execBackgroundEraseResume; (repeat' split) <;> simp [*]

@[simp] theorem relocateBlock_upholds (d : Nat) (b : Nat) : (relocateBlock d b s).Upholds s₀ ↔ s.Upholds s₀ := by
  have q := @relocateBlock_frame
  simp only [State.Upholds, q]

theorem execGcReclaim_upholds (die : Nat) : (execGcReclaim die s).Upholds s₀ ↔ s.Upholds s₀ := by
  unfold execGcReclaim; (repeat' split) <;> simp [↓upholds_mk_eq, ↓owes_eq]

@[simp] theorem exchangeBlock_upholds (part : Nat) (d : Nat) (b : Nat) (part' : Nat) (k : Nat) :
    (exchangeBlock part d b part' k s).Upholds s₀ ↔ s.Upholds s₀ :=
  Iff.rfl

@[simp] theorem rewriteBlock_upholds (part : Nat) (d : Nat) (b : Nat) : (rewriteBlock part d b s).Upholds s₀ ↔ s.Upholds s₀ := by
  have q := @rewriteBlock_frame
  simp only [State.Upholds, q]

theorem execWearLevelMove_upholds (part : Nat) (die : Nat) (hs : s.Upholds s₀) :
    (execWearLevelMove part die s).Upholds s₀ :=
  ite_res_upholds _
    (ite_res_upholds _ (ite_res_upholds _ ((relocateBlock_upholds _ _).2 hs) hs)
      (ite_res_upholds _ ((rewriteBlock_upholds _ _ _).2 hs) hs)) hs

@[simp] theorem rescue_upholds (t : Nat) (hs : s.Upholds s₀) : (rescue t s).Upholds s₀ := by
  simp only [rescue]; (repeat' split) <;> simp [*, ↓upholds_mk_eq, ↓owes_eq]

@[simp] theorem endPatrol_upholds : (endPatrol s).Upholds s₀ ↔ s.Upholds s₀ :=
  Iff.rfl

theorem execNandPatrolRead_upholds (part : Nat) (die : Nat) (block : Nat) (set : Nat) (soft : Bool) (bad : List Nat)
    (last : Bool) (hs : s.Upholds s₀) : (execNandPatrolRead part die block set soft bad last s).Upholds s₀ := by
  unfold execNandPatrolRead
  extract_lets c n next s₁ s₂ s₃ s₄
  have h₃ : s₃.Upholds s₀ :=
    foldl_upholds _ ((noteDecode_upholds (s := s₁) ..).2 hs) fun _ t h => rescue_upholds t ((noteBad_upholds t).2 h)
  have h₄ : s₄.Upholds s₀ :=
    ite_upholds _ (ite_upholds _ ((relocateBlock_upholds _ _).2 h₃) ((rewriteBlock_upholds _ _ _).2 h₃)) h₃
  exact ite_res_upholds _ (ite_upholds _ (endPatrol_upholds.2 h₄) h₄) hs

/-! ### Commands of the model (`Chart`) -/

@[simp] theorem chartEntryUe_upholds (room : Nat) (hs : s.Upholds s₀) : (chartEntryUe room s).Upholds s₀ := by
  unfold chartEntryUe
  extract_lets e v sm stw s₁ chtA s₂ old s₃ chtB s₄
  have hm : sm.Upholds s₀ := modRoomTiles_upholds _ _ hs
  clear_value sm
  have h₁ : s₁.Upholds s₀ := by
    simp only [s₁]
    split
    · exact hm
    · exact hs
  clear_value s₁
  have h₂ : s₂.Upholds s₀ := by
    simp only [s₂]
    split <;> exact h₁
  clear_value s₂
  have h₃ : s₃.Upholds s₀ := modEntry_upholds _ _ h₂
  clear_value s₃
  exact reeval_upholds.2 (raiseAddr_upholds _ _ _ _ (s := s₄) h₃)

theorem execChartEntryUe_upholds (room : Nat) (hs : s.Upholds s₀) :
    (execChartEntryUe room s).Upholds s₀ := by
  simp [execChartEntryUe, hs]

theorem execMapRereadDone_upholds (room : Nat) (pass : Bool) (hs : s.Upholds s₀) :
    (execMapRereadDone room pass s).Upholds s₀ := by
  unfold execMapRereadDone; (repeat' split) <;> simp [*, ↓upholds_mk_eq, ↓owes_eq]

@[simp] theorem tileUe_upholds (t : Nat) (hs : s.Upholds s₀) : (tileUe t s).Upholds s₀ := by
  unfold tileUe
  split
  · exact hs
  · extract_lets r was s₁ s₂ s₃
    have h₁ : s₁.Upholds s₀ := by
      simp only [s₁, tileAccess_upholds]
      split <;> simp [hs]
    have h₂ : s₂.Upholds s₀ := by
      simp only [s₂, ↓upholds_mk_eq]
      exact upholds_dram h₁ fun h => markTile_wf _ (zeroTile_wf _ h)
    exact (releaseFill_upholds _).2 (modEntry_upholds _ _ (listPoison_upholds _ _ _ (putTile_upholds _ _ h₂)))
  · exact putTile_upholds _ _ hs

@[simp] theorem tileStateUe_upholds (byte : Nat) (hs : s.Upholds s₀) : (tileStateUe byte s).Upholds s₀ := by
  have hl := foldl_upholds (byteTiles byte) hs fun _ t => tileUe_upholds t
  unfold tileStateUe
  extract_lets l s₁ cht s₂
  have h₁ : s₁.Upholds s₀ := by
    simp only [s₁]
    split
    · exact hs
    · exact hl
  split
  · exact reeval_upholds.2 (raiseAddr_upholds _ _ _ _ (s := s₂) h₁)
  · exact hs

theorem execTileStateUe_upholds (byte : Nat) (hs : s.Upholds s₀) : (execTileStateUe byte s).Upholds s₀ := by
  simp [execTileStateUe, hs]

@[simp] theorem selectRoom_upholds (value : Word) : (selectRoom value s).Upholds s₀ ↔ s.Upholds s₀ := by
  exact Iff.rfl

theorem execChtRoomSelWrite_upholds (value : Word) :
    (execChtRoomSelWrite value s).Upholds s₀ ↔ s.Upholds s₀ := by
  exact Iff.rfl

@[simp] theorem suiteContextUe_upholds (suite : Nat) (hs : s.Upholds s₀) : (suiteContextUe suite s).Upholds s₀ := by
  simp [suiteContextUe, hs]

theorem execSuiteContextUe_upholds (suite : Nat) (hs : s.Upholds s₀) :
    (execSuiteContextUe suite s).Upholds s₀ := by
  simp [execSuiteContextUe, hs]

/-! ### Operations of the model (`OpsPlan`) -/

theorem wordsPut_wf (ofs : Nat) (l : List Byte) {t : Table AtticWord} (h : twf {} t = true) :
    twf {} ((List.range ((l.length + 7) / 8)).foldl (fun t i =>
      tset {} t (ofs / 8 + i) { value := BitVec.ofNat 64 (num l (8 * i) 8) }) t) = true :=
  foldl_twf (fun _ _ h => twf_tset _ _ h) _ _ h

@[simp] theorem writeSlot_upholds (n : Nat) (img seal_ : List Byte) (hs : s.Upholds s₀) : (writeSlot n img seal_ s).Upholds s₀ :=
  modBank_words_upholds n (eraseSector_upholds _ _ (eraseSector_upholds _ _ hs)) fun _ h => wordsPut_wf _ _ (wordsPut_wf _ _ h)

@[simp] theorem sealPlan_upholds (v : ValidPlan) (hs : s.Upholds s₀) : (sealPlan v s).2.Upholds s₀ := by
  simp [sealPlan, hs, ↓upholds_mk_eq, ↓owes_eq]

@[simp] theorem rejectPlan_upholds (e : PlanErr) (mstr : Nat) (hs : s.Upholds s₀) : (rejectPlan e mstr s).Upholds s₀ := by
  simp [rejectPlan, hs, ↓upholds_mk_eq, ↓owes_eq]

@[simp] theorem loadFaults_upholds (old : Plan) (new : Plan) : (loadFaults old new s).Upholds s₀ ↔ s.Upholds s₀ := by
  have q := @loadFaults_frame
  simp only [State.Upholds, q]

@[simp] theorem wantRek_upholds : (wantRek s).Upholds s₀ ↔ s.Upholds s₀ :=
  Iff.rfl

@[simp] theorem exerFromNow_upholds : (exerFromNow s).Upholds s₀ ↔ s.Upholds s₀ :=
  Iff.rfl

@[simp] theorem applyPlan_upholds (hs : s.Upholds s₀) :
    (applyPlan s).Upholds s₀ := by
  unfold applyPlan
  extract_lets old n fpl s₁ fpl₁
  have h₁ : s₁.Upholds s₀ := ite_upholds _ (hs) hs
  split
  · exact hs
  · extract_lets s₂ s₃ stw s₄ hst s₅ s₆ s₇
    have h₂ : s₂.Upholds s₀ := (packAlert_upholds _).2 (h₁)
    have h₃ : s₃.Upholds s₀ := (loadFaults_upholds _ _).2 h₂
    have h₄ : s₄.Upholds s₀ := ite_upholds _ h₃ (h₃)
    have h₅ : s₅.Upholds s₀ := h₄
    have h₆ : s₆.Upholds s₀ := ite_upholds _ h₅ (exerFromNow_upholds.2 h₅)
    have h₇ : s₇.Upholds s₀ := (event_upholds ..).2 h₆
    exact levelMuster_upholds (reeval_upholds.2 (reevalStalled_upholds (wantRek_upholds.2 h₇)))

@[simp] theorem acceptPlan_upholds (v : ValidPlan) (hs : s.Upholds s₀) : (acceptPlan v s).Upholds s₀ := by
  simp only [acceptPlan]; (repeat' split) <;> simp [*, ↓upholds_mk_eq, ↓owes_eq]

@[simp] theorem spoilSlot_upholds (hs : s.Upholds s₀) : (spoilSlot s).Upholds s₀ := by
  simp [spoilSlot, hs, ↓upholds_mk_eq, ↓owes_eq]

@[simp] theorem deliverPlan_upholds (img : List Byte) (mstr : Nat) (sealed : Bool) (hs : s.Upholds s₀) :
    (deliverPlan img mstr sealed s).2.Upholds s₀ := by
  unfold deliverPlan; (repeat' split) <;> simp [*]

@[simp] theorem slotFails_upholds (x : Nat × PlanErr) (hs : s.Upholds s₀) : (slotFails s x).Upholds s₀ := by
  simp [slotFails, hs, ↓upholds_mk_eq, ↓owes_eq]

@[simp] theorem generateKeys_upholds : (generateKeys s).Upholds s₀ ↔ s.Upholds s₀ := by
  have q := @generateKeys_frame
  simp only [State.Upholds, q]

theorem buildEntries_wf (s : State) : twf {} (buildEntries s) = true := foldl_twf (fun _ _ h => twf_tset _ _ h) _ _ rfl

@[simp] theorem loadPlan_upholds (hs : s.Upholds s₀) : (loadPlan s).Upholds s₀ := by
  unfold loadPlan
  generalize pickSlot s (slotOrder s) = x
  obtain ⟨bad, found⟩ := x
  extract_lets old fpl
  dsimp -zeta only
  extract_lets p s₁ hst cht s₂ s₃ acc stw s₄ log life s₅ s₆ s₇ fplB
  have h₁ : s₁.Upholds s₀ := hs
  have h₂ : s₂.Upholds s₀ := upholds_cht h₁ (fun _ => buildEntries_wf _) fun _ => rfl
  have h₃ : s₃.Upholds s₀ := (loadFaults_upholds _ _).2 h₂
  have h₄ : s₄.Upholds s₀ := h₃
  have h₅ : s₅.Upholds s₀ := by
    apply ite_upholds
    · exact h₄
    · exact h₄
  have h₆ : s₆.Upholds s₀ := by simpa [s₆] using h₅
  have h₇ : s₇.Upholds s₀ := foldl_upholds _ h₆ fun _ x => slotFails_upholds x
  apply ite_upholds
  · exact raiseAddr_upholds _ _ _ _ h₇
  · exact h₇

/-! ### Operations of the model (`OpsRestore`) -/

@[simp] theorem addRoster_upholds (t : Nat) : (addRoster t s).Upholds s₀ ↔ s.Upholds s₀ := by
  have q := @addRoster_frame
  simp only [State.Upholds, q]

@[simp] theorem dropRoster_upholds : (dropRoster s).Upholds s₀ ↔ s.Upholds s₀ :=
  Iff.rfl

@[simp] theorem writeRestored_upholds (t : Nat) (x : Restored) (hs : s.Upholds s₀) : (writeRestored t x s).Upholds s₀ := by
  unfold writeRestored
  extract_lets s₁ d s₂ s₃ r r' sav s₄ s₅
  have h₁ : s₁.Upholds s₀ := (tileAccess_upholds _).2 hs
  have h₂ : s₂.Upholds s₀ := by
    refine upholds_dram h₁ fun h => ?_
    have hw : Memory.wf d = true := writeImage_wf t x.img h
    simp only [s₂]
    split
    · exact markTile_wf _ hw
    · exact hw
  have h₃ : s₃.Upholds s₀ := by
    simp only [s₃]
    split <;> simp [h₂]
  have h₄ : s₄.Upholds s₀ := h₃
  have h₅ : s₅.Upholds s₀ := by
    simp only [s₅]
    split <;> simp [h₄]
  split <;> simp [h₅]

@[simp] theorem beginRestore_upholds (x : Option (SaveRecord × Option Half)) :
    (beginRestore x s).Upholds s₀ ↔ s.Upholds s₀ :=
  Iff.rfl

@[simp] theorem startRebuild_upholds : (startRebuild s).Upholds s₀ ↔ s.Upholds s₀ := by
  have q := @startRebuild_frame
  simp only [State.Upholds, q]

@[simp] theorem presetTiles_upholds (hs : s.Upholds s₀) : (presetTiles s).Upholds s₀ :=
  reeval_upholds.2 (foldl_upholds _ hs fun _ _ hs => foldl_upholds _ hs fun _ _ => putTile_upholds _ _)

@[simp] theorem impairedRecords_upholds : (impairedRecords s).Upholds s₀ ↔ s.Upholds s₀ := by
  have q := @impairedRecords_frame
  simp only [State.Upholds, q]

@[simp] theorem foldRelease_upholds : (foldRelease s).Upholds s₀ ↔ s.Upholds s₀ := by
  have q := @foldRelease_frame
  simp only [State.Upholds, q]

@[simp] theorem foldStep_upholds : (foldStep s).Upholds s₀ ↔ s.Upholds s₀ := by
  have q := @foldStep_frame
  simp only [State.Upholds, q]

@[simp] theorem foldMarked_upholds (m : RoomMap) : (foldMarked m s).Upholds s₀ ↔ s.Upholds s₀ :=
  Iff.rfl

@[simp] theorem restoreComplete_upholds (hs : s.Upholds s₀) : (restoreComplete s).Upholds s₀ := by
  simp only [restoreComplete]; (repeat' split) <;> simp [*, ↓upholds_mk_eq, ↓owes_eq]

@[simp] theorem noteLatency_upholds (room : Nat) : (noteLatency room s).Upholds s₀ ↔ s.Upholds s₀ := by
  have q := @noteLatency_frame
  simp only [State.Upholds, q]

@[simp] theorem releaseTileReads_upholds (t : Nat) : (releaseTileReads t s).Upholds s₀ ↔ s.Upholds s₀ := by
  simp only [releaseTileReads]; (repeat' split) <;> simp [↓upholds_mk_eq, ↓owes_eq]

@[simp] theorem endRoom_upholds (room : Nat) : (endRoom room s).Upholds s₀ ↔ s.Upholds s₀ :=
  Iff.rfl

@[simp] theorem afterTile_upholds (t : Nat) (hs : s.Upholds s₀) : (afterTile t s).Upholds s₀ := by
  simp only [afterTile]; (repeat' split) <;> simp [*]

/-! ### Commands of the model (`Dmw`) -/

@[simp] theorem dmwBad_upholds (hs : s.Upholds s₀) : (dmwBad s).Upholds s₀ := by
  simp [dmwBad, hs]

@[simp] theorem dmwTailWrite_upholds (ch : Nat) (value : Word) (hs : s.Upholds s₀) : (dmwTailWrite ch value s).Upholds s₀ := by
  simp only [dmwTailWrite]; (repeat' split) <;> simp [*]

theorem execDmwChTailWrite_upholds (ch : Nat) (value : Word) (hs : s.Upholds s₀) :
    (execDmwChTailWrite ch value s).Upholds s₀ := by
  simp [execDmwChTailWrite, hs]

@[simp] theorem dmwEnable_upholds (ch : Nat) (value : Word) (hs : s.Upholds s₀) : (dmwEnable ch value s).Upholds s₀ := by
  simp only [dmwEnable]; (repeat' split) <;> simp [*]

theorem execDmwEnable_upholds (ch : Nat) (value : Word) (hs : s.Upholds s₀) :
    (execDmwEnable ch value s).Upholds s₀ := by
  simp [execDmwEnable, hs]

@[simp] theorem dmwPause_upholds (ch : Nat) : (dmwPause ch s).Upholds s₀ ↔ s.Upholds s₀ := by
  simp only [dmwPause]; (repeat' split) <;> simp

theorem execDmwPause_upholds (ch : Nat) : (execDmwPause ch s).Upholds s₀ ↔ s.Upholds s₀ := by
  simp [execDmwPause]

@[simp] theorem dmwResume_upholds (ch : Nat) : (dmwResume ch s).Upholds s₀ ↔ s.Upholds s₀ := by
  simp only [dmwResume]; (repeat' split) <;> simp

theorem execDmwResume_upholds (ch : Nat) : (execDmwResume ch s).Upholds s₀ ↔ s.Upholds s₀ := by
  simp [execDmwResume]

@[simp] theorem dmwResetCmd_upholds (ch : Nat) (hs : s.Upholds s₀) : (dmwResetCmd ch s).Upholds s₀ := by
  unfold dmwResetCmd; (repeat' split) <;> simp [*]

theorem execDmwReset_upholds (ch : Nat) (hs : s.Upholds s₀) : (execDmwReset ch s).Upholds s₀ := by
  simp [execDmwReset, hs]

@[simp] theorem raiseDesc_upholds (c : FClass) (ch : Nat) (hs : s.Upholds s₀) : (raiseDesc c ch s).Upholds s₀ := by
  simp [raiseDesc, hs]

@[simp] theorem startDesc_upholds (op : Nat) (ch : Nat) (hs : s.Upholds s₀) : (startDesc op ch s).Upholds s₀ := by
  simp only [startDesc]; (repeat' split) <;> simp [*]

theorem execDmwCopy_upholds (ch : Nat) (hs : s.Upholds s₀) : (execDmwCopy ch s).Upholds s₀ := by
  simp [execDmwCopy, hs]

theorem execDmwFill_upholds (ch : Nat) (hs : s.Upholds s₀) : (execDmwFill ch s).Upholds s₀ := by
  simp [execDmwFill, hs]

theorem execDmwStow_upholds (ch : Nat) (hs : s.Upholds s₀) : (execDmwStow ch s).Upholds s₀ := by
  simp [execDmwStow, hs]

theorem execDmwFetch_upholds (ch : Nat) (hs : s.Upholds s₀) : (execDmwFetch ch s).Upholds s₀ := by
  simp [execDmwFetch, hs]

theorem execDmwCheck_upholds (ch : Nat) (hs : s.Upholds s₀) : (execDmwCheck ch s).Upholds s₀ := by
  simp [execDmwCheck, hs]

@[simp] theorem endStep_upholds (ch : Nat) (hs : s.Upholds s₀) : (endStep ch s).Upholds s₀ := by
  unfold endStep
  split
  · exact hs
  · extract_lets cur r' s₁ c
    have h₁ : s₁.Upholds s₀ := (modChan_upholds _ _).2 hs
    exact ite_upholds _ (dmwReset_upholds _ h₁) (ite_upholds _ ((modChan_upholds _ _).2 h₁) h₁)

@[simp] theorem modDesc_upholds (ch : Nat) (f : DescRun → DescRun) : (modDesc ch f s).Upholds s₀ ↔ s.Upholds s₀ := by
  exact Iff.rfl

@[simp] theorem checkTile_upholds (ch : Nat) (t : Nat) (hs : s.Upholds s₀) : (checkTile ch t s).Upholds s₀ := by
  unfold checkTile
  extract_lets s₁ e image same s₂
  have h₂ : s₂.Upholds s₀ := (modDesc_upholds _ _).2 ((tileAccess_upholds _).2 hs)
  exact ite_upholds _ h₂ (raiseAddr_upholds _ _ _ _ h₂)

@[simp] theorem settleStep_upholds (ch : Nat) (hs : s.Upholds s₀) : (settleStep ch s).Upholds s₀ := by
  have he := endStep_upholds ch hs
  have hm (f) : (modDesc ch f s).Upholds s₀ := (modDesc_upholds _ _).2 hs
  unfold settleStep
  split
  · exact hs
  · extract_lets t
    refine ite_upholds _ hs (ite_upholds _ (ite_upholds _ hs (ite_upholds _ he (ite_upholds _ (ite_upholds _ ?_ hs) (hm _))))
      (ite_upholds _ (ite_upholds _ (ite_upholds _ (endStep_upholds _ (checkTile_upholds _ _ hs)) ((callTile_upholds _).2 hs)) he)
        hs))
    exact startStow_upholds _ _ ((modDesc_upholds _ _).2 ((dropCandidate_upholds _).2 hs))

@[simp] theorem takeEntries_upholds (n : Nat) (e : Nat) : (takeEntries n e s).Upholds s₀ ↔ s.Upholds s₀ := by
  exact Iff.rfl

@[simp] theorem holdStep_upholds (n : Nat) (r : DescRun) : (holdStep n r s).Upholds s₀ ↔ s.Upholds s₀ :=
  Iff.rfl

@[simp] theorem beginStep_upholds (n : Nat) (r : DescRun) (unreadable : Bool) (hs : s.Upholds s₀) :
    (beginStep n r unreadable s).Upholds s₀ := by
  unfold beginStep
  extract_lets e dmw s₁ t r' x s₂ x'
  have h₁ : s₁.Upholds s₀ := (takeEntries_upholds _ _).2 hs
  have hd (f) : (modDesc n f s₁).Upholds s₀ := (modDesc_upholds _ _).2 h₁
  have h₂ : s₂.Upholds s₀ := (tileAccess_upholds _).2 h₁
  clear_value s₁ s₂
  exact ite_upholds _ (hd _) (ite_upholds _ (hd _) (ite_upholds _ (endStep_upholds _ ((modDesc_upholds _ _).2 h₂))
    (ite_upholds _ (settleStep_upholds _ (hd _)) (hd _))))

@[simp] theorem grantStep_upholds (n : Nat) (unreadable : Bool) (hs : s.Upholds s₀) : (grantStep n unreadable s).Upholds s₀ := by
  unfold grantStep; (repeat' split) <;> simp +contextual [*, ↓upholds_ite, foldl_upholds]

theorem execDmwStepGrant_upholds (unreadable : Bool) (hs : s.Upholds s₀) :
    (execDmwStepGrant unreadable s).Upholds s₀ := by
  unfold execDmwStepGrant
  extract_lets s₁
  have h₁ : s₁.Upholds s₀ := foldl_upholds _ hs fun _ n => settleStep_upholds n
  split <;> simp [h₁]

@[simp] theorem acceptDmw_upholds (ch : Nat) (r : DescRun) (hs : s.Upholds s₀) : (acceptDmw ch r s).Upholds s₀ := by
  simp only [acceptDmw]; (repeat' split) <;> simp [*]

theorem execDmwWriteAccept_upholds (ch : Nat) (hs : s.Upholds s₀) : (execDmwWriteAccept ch s).Upholds s₀ := by
  unfold execDmwWriteAccept
  split
  · exact hs
  · extract_lets t s₁
    have h₁ : s₁.Upholds s₀ := hs
    clear_value s₁
    refine ite_res_upholds _ (ite_res_upholds _ hs (ite_res_upholds _ (ite_upholds _ ((callSubch_upholds _).2 h₁) h₁) ?_)) hs
    split
    · exact h₁
    · refine ite_res_upholds _ (acceptDmw_upholds _ _ h₁) ?_
      split
      · exact acceptDmw_upholds _ _ (grantClaim_upholds _ _ h₁)
      · exact acceptDmw_upholds _ _ (grantClaim_upholds _ _ h₁)
      · exact (stallClaim_upholds _ _ _ _).2 ((modChan_upholds _ _).2 h₁)

theorem execDmwDescriptorComplete_upholds (ch : Nat) (hs : s.Upholds s₀) :
    (execDmwDescriptorComplete ch s).Upholds s₀ := by
  simp only [execDmwDescriptorComplete]; (repeat' split) <;> simp [*]

/-! ### Commands of the model (`Dram`) -/

@[simp] theorem trainPass_upholds (sc : Nat) (record : List Byte) : (trainPass sc record s).Upholds s₀ ↔ s.Upholds s₀ := by
  exact Iff.rfl

@[simp] theorem trainExclude_upholds (sc : Nat) (hs : s.Upholds s₀) : (trainExclude sc s).Upholds s₀ := by
  unfold trainExclude
  extract_lets s₁ es cht
  have h₁ : s₁.Upholds s₀ := (modSubch_upholds ..).2 hs
  have he : twf {} s₁.cht.entries = true → twf {} es = true := twf_tmap _
  exact (setReason_upholds _).2 (raise_upholds _ ((upholds_cht h₁ he id)))

theorem execTrainingAttemptEnd_upholds (sc : Nat) (pass : Bool) (record : List Byte) (hs : s.Upholds s₀) :
    (execTrainingAttemptEnd sc pass record s).Upholds s₀ := by
  simp only [execTrainingAttemptEnd]; (repeat' split) <;> simp [*]

@[simp] theorem forceRefresh_upholds (sc : Nat) (r : Nat) (b : Nat) : (forceRefresh sc r b s).Upholds s₀ ↔ s.Upholds s₀ := by
  have q := @forceRefresh_frame
  simp only [State.Upholds, q]

@[simp] theorem enterDouble_upholds (sc : Nat) (r : Nat) : (enterDouble sc r s).Upholds s₀ ↔ s.Upholds s₀ :=
  Iff.rfl

@[simp] theorem forceDouble_upholds : (forceDouble s).Upholds s₀ ↔ s.Upholds s₀ :=
  Iff.rfl

@[simp] theorem runRefreshes_upholds (sc : Nat) (x1 : Nat) : (runRefreshes sc x1 s).Upholds s₀ ↔ s.Upholds s₀ := by
  have q := @runRefreshes_frame
  simp only [State.Upholds, q]

theorem execRefreshTick_upholds (sc : Nat) (elapsedNs : Nat) :
    (execRefreshTick sc elapsedNs s).Upholds s₀ ↔ s.Upholds s₀ := by
  unfold execRefreshTick; (repeat' split) <;> simp

@[simp] theorem calFail_upholds (hs : s.Upholds s₀) : (calFail s).Upholds s₀ := by
  simp [calFail, hs]

@[simp] theorem gateAdjust_upholds (sc : Nat) (fine : Byte) : (gateAdjust sc fine s).Upholds s₀ ↔ s.Upholds s₀ :=
  Iff.rfl

@[simp] theorem runCal_upholds (sc : Nat) (kind : Nat) (c : CalOutcome) (hs : s.Upholds s₀) : (runCal sc kind c s).Upholds s₀ := by
  unfold runCal; (repeat' split) <;> simp [*]

@[simp] theorem calDue_upholds (sc : Nat) (kind : Nat) (o : CalOutcome) (hs : s.Upholds s₀) : (calDue sc kind o s).Upholds s₀ := by
  unfold calDue; (repeat' split) <;> simp [*]

theorem execZqCalDue_upholds (sc : Nat) (ok : Bool) (hs : s.Upholds s₀) :
    (execZqCalDue sc ok s).Upholds s₀ := by
  unfold execZqCalDue; (repeat' split) <;> simp [*]

theorem execDqsOscDue_upholds (sc : Nat) (fine : Byte) (ok : Bool) (hs : s.Upholds s₀) :
    (execDqsOscDue sc fine ok s).Upholds s₀ := by
  unfold execDqsOscDue; (repeat' split) <;> simp [*]

theorem execCalDeferExpire_upholds (sc : Nat) (kind : Nat) (hs : s.Upholds s₀) :
    (execCalDeferExpire sc kind s).Upholds s₀ := by
  unfold execCalDeferExpire; (repeat' split) <;> simp [*]

theorem execMr4Read_upholds (sc rank band : Nat) (twox high ok : Bool) (hs : s.Upholds s₀) :
    (execMr4Read sc rank band twox high ok s).Upholds s₀ := by
  unfold execMr4Read
  extract_lets c s₁ s₂ s₃ moved put s₄
  have h₂ : s₂.Upholds s₀ := (modSubch_upholds ..).2 (advanceTo_upholds _ hs)
  have h₃ : s₃.Upholds s₀ := by
    simp only [s₃]
    (repeat' split) <;> simp [h₂]
  have h₄ : s₄.Upholds s₀ := by
    simp only [s₄, put]
    (repeat' split) <;> simp [h₃]
  split
  · exact hs
  · simp only [next_upholds]
    split <;> simp [h₄]

theorem execSelfRefreshIdle_upholds (sc : Nat) (hs : s.Upholds s₀) :
    (execSelfRefreshIdle sc s).Upholds s₀ := by
  simp only [execSelfRefreshIdle]; (repeat' split) <;> simp [*]

theorem execSelfRefreshExit_upholds (sc : Nat) (ok : Bool) (hs : s.Upholds s₀) :
    (execSelfRefreshExit sc ok s).Upholds s₀ := by
  simp only [execSelfRefreshExit]; (repeat' split) <;> simp [*, ↓upholds_mk_eq, ↓owes_eq]

@[simp] theorem execReq_upholds (sc : Nat) (q : DrcReq) (hs : s.Upholds s₀) : (execReq sc q s).Upholds s₀ := by
  unfold execReq
  extract_lets k s₁ plk s₂
  have h₁ : s₁.Upholds s₀ := (modSubch_upholds ..).2 hs
  have h₂ : s₂.Upholds s₀ := h₁
  refine fillPool_upholds _ ?_
  split
  · simp [h₂]
  next w tag _ =>
    extract_lets s₃
    have h₃ : s₃.Upholds s₀ := upholds_dram h₂ (dramWrite_wf _)
    split <;> simp [h₃]

@[simp] theorem makeMove_upholds (sc : Nat) (turn : Bool) (m : DrcReq × ReqMove) (hs : s.Upholds s₀) :
    (makeMove sc turn m s).Upholds s₀ := by
  unfold makeMove; (repeat' split) <;> simp [*]

@[simp] theorem class6_upholds (sc : Nat) (hs : s.Upholds s₀) : (class6 sc s).Upholds s₀ := by
  simp only [class6]; (repeat' split) <;> simp [*]

@[simp] theorem runWork_upholds (sc : Nat) (w : DrcWork) (o : CalOutcome) (hs : s.Upholds s₀) :
    (runWork sc w o s).Upholds s₀ := by
  unfold runWork; (repeat' split) <;> simp [*]

theorem execDrcPick_upholds (sc : Nat) (o : CalOutcome) (hs : s.Upholds s₀) :
    (execDrcPick sc o s).Upholds s₀ := by
  simp only [execDrcPick]; (repeat' split) <;> simp [*]

@[simp] theorem correction_upholds (beat : Nat) (device : Nat) (hs : s.Upholds s₀) : (correction beat device s).Upholds s₀ := by
  unfold correction
  split
  · exact hs
  next sc a _ =>
    extract_lets k key n vol s₁ d past s₂
    have h₁ : s₁.Upholds s₀ := (modSubch_upholds _ _).2 hs
    have h₂ : s₂.Upholds s₀ := h₁
    exact ite_upholds _ ((setReason_upholds _).2 (raise_upholds _ h₂)) h₂

@[simp] theorem mergeMark_upholds (beat : Nat) (mstr : Nat) : (mergeMark beat mstr s).Upholds s₀ ↔ s.Upholds s₀ := by
  have q := @mergeMark_frame
  simp only [State.Upholds, q]

@[simp] theorem noteRead_upholds (beat : Nat) (mstr : Nat) (k : Decoded) (data : List Byte) (later : Bool) (hs : s.Upholds s₀) :
    (noteRead beat mstr k data later s).Upholds s₀ := by
  unfold noteRead
  extract_lets s₁ hst
  have h₁ : s₁.Upholds s₀ := by
    cases k with
    | clean => exact hs
    | poisoned => exact hs
    | corrected d _ => exact ite_upholds _ ((enqueue_upholds ..).2 (correction_upholds _ _ hs)) (correction_upholds _ _ hs)
    | uncorrectable => exact (watchRecord_upholds _ _ _).2 (uncorrectable_upholds _ _ _ hs)
  exact ite_upholds _ h₁ h₁

@[simp] theorem answerReturn_upholds (seq : Nat) (data : List Byte) (poison : Bool) :
    (answerReturn seq data poison s).Upholds s₀ ↔ s.Upholds s₀ := by
  have q := @answerReturn_frame
  simp only [State.Upholds, q]

@[simp] theorem returnRead_upholds (r : ReadFlight) (errors : List (Nat × Byte)) (hs : s.Upholds s₀) :
    (returnRead r errors s).Upholds s₀ := by
  simp [returnRead, hs, ↓upholds_mk_eq, ↓owes_eq]

theorem execDramReadReturn_upholds (beat : Nat) (mstr : Nat) (errors : List (Nat × Byte)) (hs : s.Upholds s₀) :
    (execDramReadReturn beat mstr errors s).Upholds s₀ := by
  simp only [execDramReadReturn]; (repeat' split) <;> simp [*]

@[simp] theorem patrolAsk_upholds (beat : Nat) : (patrolAsk beat s).Upholds s₀ ↔ s.Upholds s₀ := by
  have q := @patrolAsk_frame
  simp only [State.Upholds, q]

@[simp] theorem patrolNext_upholds : (patrolNext s).Upholds s₀ ↔ s.Upholds s₀ := by
  have q := @patrolNext_frame
  simp only [State.Upholds, q]

theorem execPatrolRead_upholds (errors : List (Nat × Byte)) (hs : s.Upholds s₀) :
    (execPatrolRead errors s).Upholds s₀ := by
  unfold execPatrolRead; (repeat' split) <;> simp [*]

@[simp] theorem budgetRenew_upholds : (budgetRenew s).Upholds s₀ ↔ s.Upholds s₀ := by
  simp only [budgetRenew]; (repeat' split) <;> simp [↓upholds_mk_eq, ↓owes_eq]

theorem execPatrolPassEnd_upholds : (execPatrolPassEnd s).Upholds s₀ ↔ s.Upholds s₀ := by
  simp only [execPatrolPassEnd]; (repeat' split) <;> simp [↓upholds_mk_eq, ↓owes_eq]

theorem execCorrectionCount24h_upholds (hs : s.Upholds s₀) : (execCorrectionCount24h s).Upholds s₀ := by
  unfold execCorrectionCount24h; (repeat' split) <;> simp [*, ↓upholds_mk_eq, ↓owes_eq]

/-! ### Operations of the model (`OpsEcc`) -/

@[simp] theorem raiseSram_upholds (c : FClass) (addr : Nat) (master : Nat) (access : Nat) (hs : s.Upholds s₀) :
    (raiseSram c addr master access s).Upholds s₀ := by
  unfold raiseSram; (repeat' split) <;> simp [*]

@[simp] theorem coreUe_upholds (core : Nat) (hs : s.Upholds s₀) : (coreUe core s).Upholds s₀ := by
  simp [coreUe, hs]

@[simp] theorem regionOutcome_upholds (a : Nat) (beat : Option Nat) (hs : s.Upholds s₀) : (regionOutcome a beat s).Upholds s₀ := by
  unfold regionOutcome
  split
  · exact chartEntryUe_upholds _ hs
  · exact tileStateUe_upholds _ hs
  · cases beat with
    | some b => exact (poisonInFlight_upholds _).2 hs
    | none => exact hs
  · cases beat with
    | some b => exact hs
    | none => exact hs
  · exact coreUe_upholds _ hs
  · exact (modDie_upholds _ _).2 hs
  · exact hs
  · exact suiteContextUe_upholds _ hs
  · exact hs
  · exact hs

@[simp] theorem clearMarks_upholds (a : Nat) : (clearMarks a s).Upholds s₀ ↔ s.Upholds s₀ := by
  exact Iff.rfl

@[simp] theorem sramUe_upholds (a master : Nat) (beat : Option Nat) (hs : s.Upholds s₀) : (sramUe a master beat s).Upholds s₀ := by
  unfold sramUe
  extract_lets s₁ s₂
  have h₁ : s₁.Upholds s₀ := by
    simp only [s₁]
    split <;> simp [hs]
  have h₂ : s₂.Upholds s₀ := by simp [s₂, h₁]
  split <;> simp [h₂]

@[simp] theorem patchSram_upholds (word : Nat) (hs : s.Upholds s₀) : (patchSram word s).Upholds s₀ := by
  unfold patchSram; (repeat' split) <;> simp [*, ↓upholds_mk_eq, ↓owes_eq]

@[simp] theorem patchAttic_upholds (word : Nat) (v : Dword) (hs : s.Upholds s₀) : (patchAttic word v s).Upholds s₀ := by
  unfold patchAttic; (repeat' split) <;> simp [*, ↓upholds_mk_eq, ↓owes_eq]

@[simp] theorem takeTestCtl_upholds (v : Word) : (takeTestCtl v s).Upholds s₀ ↔ s.Upholds s₀ := by
  exact Iff.rfl

@[simp] theorem testWrite_upholds (hs : s.Upholds s₀) : (testWrite s).Upholds s₀ := by
  unfold testWrite
  extract_lets e l s₁ ecc
  have h₁ : s₁.Upholds s₀ := upholds_window hs (twf_setWindow _ _)
  split
  · exact raiseSram_upholds _ _ _ _ h₁
  · exact h₁

@[simp] theorem decodedBytes_upholds (x0 : List CodedByte) : (decodedBytes x0 s).2.Upholds s₀ ↔ s.Upholds s₀ := by
  have q := @decodedBytes_frame
  simp only [State.Upholds, q]

@[simp] theorem testRead_upholds (hs : s.Upholds s₀) : (testRead s).Upholds s₀ := by
  unfold testRead
  extract_lets w l r
  split
  next data s₁ e =>
    have h₁ : s₁.Upholds s₀ := upholds_of_pair ((decodedBytes_upholds _).2 hs) e
    extract_lets ecc s₂ ecc' s₃ ecc''
    have h₃ : s₃.Upholds s₀ := ite_upholds _ h₁ h₁
    exact ite_upholds _ (raiseSram_upholds _ _ _ _ h₃) h₃

/-! ### Commands of the model (`Ecc`) -/

theorem execSramUe_upholds (address : Nat) (master : Nat) (beat : Option Nat) (hs : s.Upholds s₀) :
    (execSramUe address master beat s).Upholds s₀ := by
  simp [execSramUe, hs, ↓upholds_mk_eq, ↓owes_eq]

@[simp] theorem parityOutcome_upholds (sender address : Nat) (r : ParityReceiver) (hs : s.Upholds s₀) :
    (parityOutcome sender address r s).Upholds s₀ := by
  cases r with
  | sram data bad =>
    simp only [parityOutcome]
    split
    · exact ringWrite_upholds _ _ hs
    split
    · exact upholds_window hs (foldl_twf (fun _ _ h => twf_tset _ _ h) _ _)
    · exact hs
  | response requester beat =>
    cases beat with
    | some b =>
      exact ite_upholds _ (keeperStops_upholds ((poisonInFlight_upholds _).2 hs))
        (ite_upholds _ (coreUe_upholds _ ((poisonInFlight_upholds _).2 hs)) ((poisonInFlight_upholds _).2 hs))
    | none => exact ite_upholds _ (keeperStops_upholds hs) (ite_upholds _ (coreUe_upholds _ hs) hs)
  | attic bank =>
    simp only [parityOutcome]
    split <;> simp [hs]
  | _ => simp [parityOutcome, hs]

theorem execFabricParityError_upholds (sender : Nat) (address : Nat) (receiver : ParityReceiver) (hs : s.Upholds s₀) :
    (execFabricParityError sender address receiver s).Upholds s₀ := by
  simp [execFabricParityError, hs, ↓upholds_mk_eq, ↓owes_eq]

@[simp] theorem endReload_upholds (core : Nat) (t : Nat) : (endReload core t s).Upholds s₀ ↔ s.Upholds s₀ := by
  have q := @endReload_frame
  simp only [State.Upholds, q]

theorem execCoreReload_upholds (core : Nat) : (execCoreReload core s).Upholds s₀ ↔ s.Upholds s₀ := by
  unfold execCoreReload; (repeat' split) <;> simp [↓upholds_mk_eq, ↓owes_eq]

@[simp] theorem advanceScrub_upholds : (advanceScrub s).Upholds s₀ ↔ s.Upholds s₀ := by
  simp only [advanceScrub]; (repeat' split) <;> simp [↓upholds_mk_eq, ↓owes_eq]

@[simp] theorem noteWordError_upholds (w : Nat) (hs : s.Upholds s₀) : (noteWordError w s).Upholds s₀ := by
  simp only [noteWordError]; (repeat' split) <;> simp [*, ↓upholds_mk_eq, ↓owes_eq]

theorem execSramScrubRead_upholds (finding : ScrubFinding) (beat : Option Nat) (hs : s.Upholds s₀) :
    (execSramScrubRead finding beat s).Upholds s₀ := by
  unfold execSramScrubRead
  split
  · extract_lets w s₁ eccA s₂ found eccB s₃
    have h₁ : s₁.Upholds s₀ := advanceTo_upholds _ hs
    clear_value s₁
    have h₂ : s₂.Upholds s₀ := h₁
    clear_value s₂
    have h₃ : s₃.Upholds s₀ := by
      clear_value found
      cases found
      · exact h₂
      · exact noteWordError_upholds _ (h₂)
      · exact noteWordError_upholds _ (sramUe_upholds _ _ _ (h₂))
    exact advanceScrub_upholds.2 h₃
  · exact hs

@[simp] theorem beginRecover_upholds (hs : s.Upholds s₀) : (beginRecover s).Upholds s₀ := by
  unfold beginRecover; (repeat' split) <;> simp [*, ↓upholds_mk_eq, ↓owes_eq]

@[simp] theorem startAtticPass_upholds : (startAtticPass s).Upholds s₀ ↔ s.Upholds s₀ := by
  exact Iff.rfl

@[simp] theorem wantRecover_upholds (b : Nat) (sec : Nat) (once : Bool) : (wantRecover b sec once s).Upholds s₀ ↔ s.Upholds s₀ := by
  simp only [wantRecover]; (repeat' split) <;> simp [↓upholds_mk_eq, ↓owes_eq]

@[simp] theorem scrubAction_upholds (b : Nat) (pos : Nat) (found : Option WordDecode) (v : Option Dword) (hs : s.Upholds s₀) :
    (scrubAction b pos found v s).Upholds s₀ := by
  simp only [scrubAction]; (repeat' split) <;> simp [*, ↓upholds_mk_eq, ↓owes_eq]

@[simp] theorem advanceAttic_upholds (b : Nat) : (advanceAttic b s).Upholds s₀ ↔ s.Upholds s₀ := by
  unfold advanceAttic
  extract_lets ecc e
  have he : e.window = s.ecc.window := by
    simp only [e]
    split <;> rfl
  clear_value e
  rw [upholds_ite, upholds_mk_eq, upholds_mk_eq, he, ite_self, owes_eq]

theorem execAtticScrubRead_upholds (reads : List (List Nat)) (hs : s.Upholds s₀) :
    (execAtticScrubRead reads s).Upholds s₀ := by
  unfold execAtticScrubRead
  split
  · extract_lets s₁ s₂
    have h₁ : s₁.Upholds s₀ := beginRecover_upholds hs
    have h₂ : s₂.Upholds s₀ := by
      simp only [s₂]
      split <;> simp [h₁]
    split
    · exact h₂
    · refine (advanceAttic_upholds _).2 ?_
      split
      · exact readArray_upholds _ _ _ h₂
      · exact scrubAction_upholds _ _ _ _ (readArray_upholds _ _ _ h₂)
  · exact hs

@[simp] theorem eccTestWrite_upholds (value : Word) (hs : s.Upholds s₀) : (eccTestWrite value s).Upholds s₀ := by
  unfold eccTestWrite; (repeat' split) <;> simp [*]

theorem execEccTestWrite_upholds (value : Word) (hs : s.Upholds s₀) :
    (execEccTestWrite value s).Upholds s₀ := by
  simp [execEccTestWrite, hs]

@[simp] theorem eccTestRead_upholds (value : Word) (hs : s.Upholds s₀) : (eccTestRead value s).Upholds s₀ := by
  unfold eccTestRead; (repeat' split) <;> simp [*]

theorem execEccTestRead_upholds (value : Word) (hs : s.Upholds s₀) :
    (execEccTestRead value s).Upholds s₀ := by
  simp [execEccTestRead, hs]

/-! ### Operations of the model (`OpsEnergy`) -/

@[simp] theorem markStore_upholds : (markStore s).Upholds s₀ ↔ s.Upholds s₀ :=
  Iff.rfl

@[simp] theorem closeWindow_upholds : (closeWindow s).Upholds s₀ ↔ s.Upholds s₀ :=
  Iff.rfl

@[simp] theorem openWindow_upholds : (openWindow s).Upholds s₀ ↔ s.Upholds s₀ :=
  Iff.rfl

@[simp] theorem eolEval_upholds (daily : Bool) (hs : s.Upholds s₀) : (eolEval daily s).Upholds s₀ := by
  simp only [eolEval]; (repeat' split) <;> simp [*, ↓upholds_mk_eq, ↓owes_eq]

@[simp] theorem disqualify_upholds (code : Nat) : (disqualify code s).Upholds s₀ ↔ s.Upholds s₀ :=
  Iff.rfl

@[simp] theorem learnSample_upholds (x : Nat) (hs : s.Upholds s₀) : (learnSample x s).Upholds s₀ := by
  simp [learnSample, hs, ↓upholds_mk_eq, ↓owes_eq]

@[simp] theorem endCellCycle_upholds (r : LearnRun) (v : Nat) (hs : s.Upholds s₀) : (endCellCycle r v s).Upholds s₀ := by
  simp only [endCellCycle]; (repeat' split) <;> simp [*]

@[simp] theorem endSuperCycle_upholds (r : LearnRun) (v : Nat) (hs : s.Upholds s₀) : (endSuperCycle r v s).Upholds s₀ := by
  simp only [endSuperCycle]; (repeat' split) <;> simp [*]

@[simp] theorem markDq_upholds (code : Nat) : (markDq code s).Upholds s₀ ↔ s.Upholds s₀ :=
  Iff.rfl

@[simp] theorem takeReference_upholds (hs : s.Upholds s₀) : (takeReference s).Upholds s₀ := by
  unfold takeReference; (repeat' split) <;> simp [*, ↓upholds_mk_eq, ↓owes_eq]

@[simp] theorem startCount_upholds : (startCount s).Upholds s₀ ↔ s.Upholds s₀ :=
  Iff.rfl

@[simp] theorem firstReading_upholds (hs : s.Upholds s₀) : (firstReading s).Upholds s₀ := by
  simp only [firstReading]; (repeat' split) <;> simp [*, ↓upholds_mk_eq, ↓owes_eq]

@[simp] theorem checkDisagree_upholds (hs : s.Upholds s₀) : (checkDisagree s).Upholds s₀ := by
  unfold checkDisagree; (repeat' split) <;> simp [*, ↓upholds_mk_eq, ↓owes_eq]

@[simp] theorem checkMoved_upholds : (checkMoved s).Upholds s₀ ↔ s.Upholds s₀ := by
  have q := @checkMoved_frame
  simp only [State.Upholds, q]

@[simp] theorem takeResistance_upholds (x : Nat) (hs : s.Upholds s₀) : (takeResistance x s).Upholds s₀ := by
  unfold takeResistance
  extract_lets g n d s₁ s₂
  have h₂ : s₂.Upholds s₀ := ite_upholds _ (markStore_upholds.2 hs) hs
  exact eolEval_upholds _ (ite_upholds _ h₂ (wantRek_upholds.2 h₂))

@[simp] theorem stepSample_upholds (hs : s.Upholds s₀) : (stepSample s).Upholds s₀ := by
  simp only [stepSample]; (repeat' split) <;> simp [*, ↓upholds_mk_eq, ↓owes_eq]

@[simp] theorem takeProfile_upholds (serial : Option (List Byte)) (cls : Nat) (rested boot : Bool) (hs : s.Upholds s₀) :
    (takeProfile serial cls rested boot s).Upholds s₀ := by
  unfold takeProfile
  extract_lets found same k p p₁ keep cut gau g nrg s₁ s₂ rek
  have h₁ : s₁.Upholds s₀ := hs
  have h₂ : s₂.Upholds s₀ := wantRek_upholds.2 (ite_upholds _ ((disqualify_upholds _).2 h₁) h₁)
  exact ite_upholds _ h₂ ((clearReason_upholds _).2 (h₂))

@[simp] theorem endAuth_upholds (result entry : Nat) (hs : s.Upholds s₀) :
    (endAuth result entry s).Upholds s₀ := by
  unfold endAuth
  extract_lets report nrg n s₁ s₂ gau s₃ s₄
  have h₁ : s₁.Upholds s₀ := (packAlert_upholds _).2 (hs)
  have h₂ : s₂.Upholds s₀ := ite_upholds _ h₁ (raise_upholds _ h₁)
  have h₃ : s₃.Upholds s₀ := ite_upholds _ (h₂) h₂
  have h₄ : s₄.Upholds s₀ := (event_upholds ..).2 ((addEvent_upholds ..).2 h₃)
  exact ite_upholds _ (wantRek_upholds.2 h₄) h₃

@[simp] theorem pbReads_upholds (l : List Nat) : (pbReads l s).Upholds s₀ ↔ s.Upholds s₀ := by
  have q := @pbReads_frame
  simp only [State.Upholds, q]

@[simp] theorem pbWrite_upholds (c : Nat) (data : List Byte) : (pbWrite c data s).Upholds s₀ ↔ s.Upholds s₀ :=
  Iff.rfl

@[simp] theorem beginAuth_upholds (r : PackReply) (hs : s.Upholds s₀) :
    (beginAuth r s).Upholds s₀ := by
  unfold beginAuth
  extract_lets nrg s₁ id s₂ s₃ n nrg₁
  have h₁ : s₁.Upholds s₀ := hs
  have h₂ : s₂.Upholds s₀ := (pbReads_upholds _).2 h₁
  have h₃ : s₃.Upholds s₀ := (pbReads_upholds _).2 h₂
  split
  · exact endAuth_upholds _ _ h₂
  · refine ite_upholds _ (endAuth_upholds _ _ h₂) ?_
    split
    · exact ite_upholds _ (endAuth_upholds _ _ h₃) ((pbWrite_upholds _ _).2 (h₃))
    · exact endAuth_upholds _ _ h₃

@[simp] theorem setCharge_upholds (p : ChargePhase) : (setCharge p s).Upholds s₀ ↔ s.Upholds s₀ := by
  have q := @setCharge_frame
  simp only [State.Upholds, q]

@[simp] theorem chargePause_upholds : (chargePause s).Upholds s₀ ↔ s.Upholds s₀ :=
  Iff.rfl

@[simp] theorem chargeStep_upholds (hs : s.Upholds s₀) :
    (chargeStep s).Upholds s₀ := by
  unfold chargeStep
  extract_lets e s₁ v nrg s₂ s₃ nrg₁ nrg₂ s₄ nrg₃
  have h₁ : s₁.Upholds s₀ := chargePause_upholds.2 hs
  have h₂ : s₂.Upholds s₀ := by
    apply ite_upholds
    · exact raise_upholds _ ((setCharge_upholds _).2 (h₁))
    · exact ite_upholds _ (h₁) h₁
  have h₃ : s₃.Upholds s₀ := (setCharge_upholds _).2 h₂
  have h₄ : s₄.Upholds s₀ := (setCharge_upholds _).2 h₂
  exact ite_upholds _ (h₃) (ite_upholds _ (h₂) (h₄))

@[simp] theorem startExercise_upholds : (startExercise s).Upholds s₀ ↔ s.Upholds s₀ := by
  have q := @startExercise_frame
  simp only [State.Upholds, q]

@[simp] theorem endExercise_upholds (result : Nat) (hs : s.Upholds s₀) :
    (endExercise result s).Upholds s₀ := by
  unfold endExercise
  extract_lets s₁ nrg life l log
  have h₁ : s₁.Upholds s₀ := markStep_upholds.2 hs
  split
  · exact hs
  · extract_lets n s₂ s₃ gau s₄ s₅
    have h₂ : s₂.Upholds s₀ := h₁
    have h₃ : s₃.Upholds s₀ := by
      simp only [s₃]
      split
      · exact ite_upholds _ (endSuperCycle_upholds _ _ h₂) h₂
      · exact h₂
    have h₄ : s₄.Upholds s₀ := ite_upholds _ (h₃) h₃
    have h₅ : s₅.Upholds s₀ := markStore_upholds.2 h₄
    exact ite_upholds _ (raise_upholds _ h₅) h₅

@[simp] theorem tryExercise_upholds : (tryExercise s).Upholds s₀ ↔ s.Upholds s₀ := by
  have q := @tryExercise_frame
  simp only [State.Upholds, q]

@[simp] theorem fireExercise_upholds (due : Nat) : (fireExercise due s).Upholds s₀ ↔ s.Upholds s₀ := by
  have q := @fireExercise_frame
  simp only [State.Upholds, q]

@[simp] theorem packLeft_upholds (hs : s.Upholds s₀) :
    (packLeft s).Upholds s₀ := by
  unfold packLeft
  extract_lets s₁ met s₂ nrg n cut rek s₃ s₄ gau g
  have h₁ : s₁.Upholds s₀ := ite_upholds _ (endExercise_upholds _ hs) hs
  have h₂ : s₂.Upholds s₀ := (setCharge_upholds _).2 h₁
  have h₃ : s₃.Upholds s₀ := (packAlert_upholds _).2 (h₂)
  have h₄ : s₄.Upholds s₀ := ite_upholds _ ((disqualify_upholds _).2 h₃) h₃
  exact wantRek_upholds.2 (h₄)

@[simp] theorem packGone_upholds (hs : s.Upholds s₀) : (packGone s).Upholds s₀ := by
  unfold packGone
  extract_lets frozen s₁ stw s₂ s₃ s₄
  have h₁ : s₁.Upholds s₀ := packLeft_upholds hs
  have h₂ : s₂.Upholds s₀ := h₁
  have h₃ : s₃.Upholds s₀ := by simp [s₃, h₂]
  have h₄ : s₄.Upholds s₀ := by
    simp only [s₄]
    split <;> simp [h₃]
  split <;> simp [h₄]

@[simp] theorem thermFault_upholds (ohms : Nat) (hs : s.Upholds s₀) : (thermFault ohms s).Upholds s₀ := by
  simp [thermFault, hs]

/-! ### Commands of the model (`Energy`) -/

@[simp] theorem takeReadings_upholds (packId : PackIdReading) (th0 : Therm) (th1 : Therm) :
    (takeReadings packId th0 th1 s).Upholds s₀ ↔ s.Upholds s₀ := by
  have q := @takeReadings_frame
  simp only [State.Upholds, q]

@[simp] theorem readingsTaken_upholds (before : Nrg) (ohms : Nat) (hs : s.Upholds s₀) :
    (readingsTaken before ohms s).Upholds s₀ := by
  unfold readingsTaken
  extract_lets s₁ s₂ nrg
  have h₁ : s₁.Upholds s₀ := ite_upholds _ (ite_upholds _ (packGone_upholds hs) (packLeft_upholds hs)) hs
  have h₂ : s₂.Upholds s₀ := ite_upholds _ (thermFault_upholds _ h₁) h₁
  exact h₂

theorem execPackRemoved_upholds (packId : Nat) (ohms : Nat) (th0 : Therm) (th1 : Therm) (hs : s.Upholds s₀) :
    (execPackRemoved packId ohms th0 th1 s).Upholds s₀ := by
  unfold execPackRemoved; (repeat' split) <;> simp [*]

theorem execPackInserted_upholds (packId ohms : Nat) (th0 th1 : Therm) (atBoot : Bool) (reply : PackReply) (hs : s.Upholds s₀) :
    (execPackInserted packId ohms th0 th1 atBoot reply s).Upholds s₀ := by
  unfold execPackInserted
  extract_lets s₁ cls rested nrg n s₂ s₃ gau s₄ nrg₁
  have h₁ : s₁.Upholds s₀ := (takeReadings_upholds ..).2 hs
  have h₂ : s₂.Upholds s₀ := (packAlert_upholds _).2 (h₁)
  have h₃ : s₃.Upholds s₀ := ite_upholds _ h₂ (raiseAddr_upholds _ _ _ _ h₂)
  have h₄ : s₄.Upholds s₀ := takeProfile_upholds _ _ _ _ (h₃)
  split
  · exact ite_upholds _ (endAuth_upholds _ _ h₄) (ite_upholds _ (beginAuth_upholds _ h₄) (h₄))
  · exact hs

theorem execPackAuthPoll_upholds (status : Option Nat) (pubkey : List Byte) (resp : List Byte) (hs : s.Upholds s₀) :
    (execPackAuthPoll status pubkey resp s).Upholds s₀ := by
  simp only [execPackAuthPoll]; (repeat' split) <;> simp [*]

theorem execPackAuthRetry_upholds (reply : PackReply) (hs : s.Upholds s₀) :
    (execPackAuthRetry reply s).Upholds s₀ := by
  unfold execPackAuthRetry; (repeat' split) <;> simp [*, ↓upholds_mk_eq, ↓owes_eq]

theorem execPackThermSample_upholds (th0 th1 : Therm) (ohms : Nat) (hs : s.Upholds s₀) :
    (execPackThermSample th0 th1 ohms s).Upholds s₀ := by
  unfold execPackThermSample
  extract_lets s₁ before s₂ s₃ s₄ s₅ nrg s₆
  have h₁ : s₁.Upholds s₀ := advanceTo_upholds _ hs
  have h₂ : s₂.Upholds s₀ := (takeReadings_upholds ..).2 h₁
  have h₃ : s₃.Upholds s₀ := readingsTaken_upholds _ _ h₂
  have h₄ : s₄.Upholds s₀ := ite_upholds _ ((markDq_upholds _).2 h₃) h₃
  have h₅ : s₅.Upholds s₀ := chargePause_upholds.2 h₄
  have h₆ : s₆.Upholds s₀ := ite_upholds _ (h₅) h₅
  split
  · split
    · exact ite_upholds _ (wantRek_upholds.2 h₆) h₆
    · exact h₃
  · exact hs

@[simp] theorem countCharge_upholds (dt : Nat) : (countCharge dt s).Upholds s₀ ↔ s.Upholds s₀ :=
  Iff.rfl

@[simp] theorem checkRate_upholds : (checkRate s).Upholds s₀ ↔ s.Upholds s₀ := by
  have q := @checkRate_frame
  simp only [State.Upholds, q]

@[simp] theorem watchRest_upholds : (watchRest s).Upholds s₀ ↔ s.Upholds s₀ :=
  Iff.rfl

@[simp] theorem superCycle_upholds (before : Nat) (hs : s.Upholds s₀) : (superCycle before s).Upholds s₀ := by
  have he (r v) := endSuperCycle_upholds r v hs
  unfold superCycle
  refine ite_upholds _ hs ?_
  split
  · exact ite_upholds _ (ite_upholds _ (he _ _) hs) (ite_upholds _ (he _ _) (ite_upholds _ hs hs))
  · exact ite_upholds _ hs hs

@[simp] theorem endPulse_upholds : (endPulse s).Upholds s₀ ↔ s.Upholds s₀ := by
  have q := @endPulse_frame
  simp only [State.Upholds, q]

theorem execPackMeasure_upholds (packMv : Nat) (packMa : Int) (p12vMv : Nat) (limited : Bool) (hs : s.Upholds s₀) :
    (execPackMeasure packMv packMa p12vMv limited s).Upholds s₀ := by
  unfold execPackMeasure
  split
  · extract_lets old s₁ dt lim most nrg n s₂ s₃ s₄
    have h₁ : s₁.Upholds s₀ := advanceTo_upholds _ hs
    clear_value s₁
    have h₂ : s₂.Upholds s₀ := by simp [s₂, h₁, ↓upholds_mk_eq, ↓owes_eq]
    clear_value s₂
    have h₃ : s₃.Upholds s₀ := endPulse_upholds.2 (stepSample_upholds (firstReading_upholds h₂))
    clear_value s₃
    have h₄ : s₄.Upholds s₀ := by simp [s₄, h₃]
    clear_value s₄
    exact checkMoved_upholds.2 (checkDisagree_upholds h₄)
  · exact hs

theorem execPrechargeTimeout_upholds (hs : s.Upholds s₀) : (execPrechargeTimeout s).Upholds s₀ := by
  unfold execPrechargeTimeout; (repeat' split) <;> simp [*, ↓upholds_mk_eq, ↓owes_eq]

theorem execExerciseDue_upholds (hs : s.Upholds s₀) : (execExerciseDue s).Upholds s₀ := by
  unfold execExerciseDue; (repeat' split) <;> simp [*]

theorem execExerciseRetry_upholds (hs : s.Upholds s₀) : (execExerciseRetry s).Upholds s₀ := by
  unfold execExerciseRetry; (repeat' split) <;> simp [*]

@[simp] theorem exerciseStart_upholds : (exerciseStart s).Upholds s₀ ↔ s.Upholds s₀ := by
  have q := @exerciseStart_frame
  simp only [State.Upholds, q]

theorem execExerciseStart_upholds : (execExerciseStart s).Upholds s₀ ↔ s.Upholds s₀ := by
  simp [execExerciseStart]

@[simp] theorem exerciseAbort_upholds (hs : s.Upholds s₀) : (exerciseAbort s).Upholds s₀ := by
  unfold exerciseAbort; (repeat' split) <;> simp [*]

theorem execExerciseAbort_upholds (hs : s.Upholds s₀) : (execExerciseAbort s).Upholds s₀ := by
  simp [execExerciseAbort, hs]

theorem execExerciseStopCheck_upholds (hs : s.Upholds s₀) : (execExerciseStopCheck s).Upholds s₀ := by
  have h := advanceTo_upholds (nextMultiple s 100000) hs
  simp only [execExerciseStopCheck]
  (repeat' split) <;> simp [h, hs]

/-! ### Commands of the model (`Faults`) -/

theorem execGraceExpire_upholds (block : Block) (cls : Nat) (hs : s.Upholds s₀) :
    (execGraceExpire block cls s).Upholds s₀ := by
  unfold execGraceExpire; (repeat' split) <;> simp [*]

theorem execQuietExpire_upholds (block : Block) (cls : Nat) (hs : s.Upholds s₀) :
    (execQuietExpire block cls s).Upholds s₀ := by
  unfold execQuietExpire; (repeat' split) <;> simp [*]

@[simp] theorem fackWrite_upholds (block : Block) (value : Word) : (fackWrite block value s).Upholds s₀ ↔ s.Upholds s₀ :=
  Iff.rfl

theorem execFackWrite_upholds (block : Block) (value : Word) :
    (execFackWrite block value s).Upholds s₀ ↔ s.Upholds s₀ :=
  Iff.rfl

theorem execQuarantineEnd_upholds (block : Block) (hs : s.Upholds s₀) :
    (execQuarantineEnd block s).Upholds s₀ := by
  unfold execQuarantineEnd; (repeat' split) <;> simp [*]

theorem execDevHarbourAckWrite_upholds (value : Word) (hs : s.Upholds s₀) :
    (execDevHarbourAckWrite value s).Upholds s₀ := by
  unfold execDevHarbourAckWrite; (repeat' split) <;> simp [*]

/-! ### Commands of the model (`Gauge`) -/

@[simp] theorem startPulse_upholds : (startPulse s).Upholds s₀ ↔ s.Upholds s₀ :=
  Iff.rfl

theorem execResistancePulse_upholds (hs : s.Upholds s₀) : (execResistancePulse s).Upholds s₀ := by
  unfold execResistancePulse
  extract_lets s₁ s₂ gau
  have h₁ : s₁.Upholds s₀ := by
    simp only [s₁]
    split
    · exact advanceTo_upholds _ hs
    · exact hs
  exact ite_res_upholds _ (ite_upholds _ (startPulse_upholds.2 hs) hs)
    (ite_res_upholds _ (startPulse_upholds.2 h₁) h₁)

@[simp] theorem pulseNow_upholds : (pulseNow s).Upholds s₀ ↔ s.Upholds s₀ := by
  have q := @pulseNow_frame
  simp only [State.Upholds, q]

theorem execPulseNow_upholds : (execPulseNow s).Upholds s₀ ↔ s.Upholds s₀ := by
  simp [execPulseNow]

theorem execGaugeRestReference_upholds (hs : s.Upholds s₀) : (execGaugeRestReference s).Upholds s₀ := by
  simp only [execGaugeRestReference]; (repeat' split) <;> simp [*, ↓upholds_mk_eq, ↓owes_eq]

@[simp] theorem forceRefCmd_upholds : (forceRefCmd s).Upholds s₀ ↔ s.Upholds s₀ := by
  have q := @forceRefCmd_frame
  simp only [State.Upholds, q]

theorem execForceRef_upholds : (execForceRef s).Upholds s₀ ↔ s.Upholds s₀ := by
  simp [execForceRef]

theorem execRestWindowOpen_upholds : (execRestWindowOpen s).Upholds s₀ ↔ s.Upholds s₀ := by
  unfold execRestWindowOpen; (repeat' split) <;> simp

theorem execRestWindowTimeout_upholds (hs : s.Upholds s₀) : (execRestWindowTimeout s).Upholds s₀ := by
  unfold execRestWindowTimeout; (repeat' split) <;> simp [*]

theorem execEstimatorStale_upholds (hs : s.Upholds s₀) : (execEstimatorStale s).Upholds s₀ := by
  unfold execEstimatorStale; (repeat' split) <;> simp [*, ↓upholds_mk_eq, ↓owes_eq]

theorem execCapacityDerate_upholds (hs : s.Upholds s₀) : (execCapacityDerate s).Upholds s₀ := by
  unfold execCapacityDerate; (repeat' split) <;> simp [*, ↓upholds_mk_eq, ↓owes_eq]

theorem execGaugeRecordStore_upholds (pass : Bool) (hs : s.Upholds s₀) :
    (execGaugeRecordStore pass s).Upholds s₀ := by
  unfold execGaugeRecordStore; (repeat' split) <;> simp [*, ↓upholds_mk_eq, ↓owes_eq]

@[simp] theorem costOrFree_upholds (c : Option Nat) : (costOrFree c s).2.Upholds s₀ ↔ s.Upholds s₀ := by
  have q := @costOrFree_frame
  simp only [State.Upholds, q]

@[simp] theorem saveEst_upholds (rate : Nat) : (saveEst rate s).2.Upholds s₀ ↔ s.Upholds s₀ := by
  have q := @saveEst_frame
  simp only [State.Upholds, q]

@[simp] theorem reckon_upholds : (reckon s).2.Upholds s₀ ↔ s.Upholds s₀ := by
  have q := @reckon_frame
  simp only [State.Upholds, q]

theorem execReckoningRun_upholds (hs : s.Upholds s₀) : (execReckoningRun s).Upholds s₀ := by
  unfold execReckoningRun; (repeat' split) <;> simp [*, ↓upholds_mk_eq, ↓owes_eq]

theorem execReckoningPublish_upholds (hs : s.Upholds s₀) :
    (execReckoningPublish s).Upholds s₀ := by
  unfold execReckoningPublish
  extract_lets old stw sav rek
  split
  · exact hs
  · extract_lets s₁ s₂ was rek₁ s₃ s₄
    have h₁ : s₁.Upholds s₀ := hs
    have h₂ : s₂.Upholds s₀ := ite_upholds _ (raiseAddr_upholds _ _ _ _ h₁) h₁
    have h₃ : s₃.Upholds s₀ := ite_upholds _ ((event_upholds ..).2 (h₂)) h₂
    have h₄ : s₄.Upholds s₀ := ite_upholds _ ((event_upholds ..).2 h₃) h₃
    exact reevalStalled_upholds (reeval_upholds.2 h₄)

@[simp] theorem rekRunCmd_upholds : (rekRunCmd s).Upholds s₀ ↔ s.Upholds s₀ := by
  have q := @rekRunCmd_frame
  simp only [State.Upholds, q]

theorem execRekRun_upholds : (execRekRun s).Upholds s₀ ↔ s.Upholds s₀ := by
  simp [execRekRun]

theorem execPackEolEval_upholds (hs : s.Upholds s₀) : (execPackEolEval s).Upholds s₀ := by
  unfold execPackEolEval; (repeat' split) <;> simp [*]

/-! ### Commands of the model (`Host`) -/

@[simp] theorem perstDown_upholds : (perstDown s).Upholds s₀ ↔ s.Upholds s₀ :=
  Iff.rfl

@[simp] theorem deliverPending_upholds : (deliverPending s).Upholds s₀ ↔ s.Upholds s₀ := by
  have q := @deliverPending_frame
  simp only [State.Upholds, q]

theorem execHostLinkReset_upholds (kind : LinkResetKind) :
    (execHostLinkReset kind s).Upholds s₀ ↔ s.Upholds s₀ := by
  unfold execHostLinkReset; (repeat' split) <;> simp

theorem execHostLinkTrained_upholds (vers : Nat) (rates : Nat) (widths : Nat) (answers : Bool) (msixEnable : Bool)
    (msixMask : Word) : (execHostLinkTrained vers rates widths answers msixEnable msixMask s).Upholds s₀ ↔
    s.Upholds s₀ := by
  simp only [execHostLinkTrained]; (repeat' split) <;> simp [↓upholds_mk_eq, ↓owes_eq]

theorem execHdmDecoderCommit_upholds (index : Nat) (base : Nat) (size : Nat) (ways : Nat) (gran : Nat) (pos : Nat) :
    (execHdmDecoderCommit index base size ways gran pos s).Upholds s₀ ↔ s.Upholds s₀ :=
  Iff.rfl

@[simp] theorem takeWrite_upholds (tag : Nat) (beat : Nat) (data : List Byte) (enables : Dword) (poison : Bool)
    (parityBad : Bool) : (takeWrite tag beat data enables poison parityBad s).Upholds s₀ ↔ s.Upholds s₀ := by
  have q := @takeWrite_frame
  simp only [State.Upholds, q]

theorem execHostWriteRequest_upholds (tag : Nat) (hpa : Nat) (data : List Byte) (enables : Dword) (poison : Bool)
    (parityBad : Bool) : (execHostWriteRequest tag hpa data enables poison parityBad s).Upholds s₀ ↔
    s.Upholds s₀ := by
  simp only [execHostWriteRequest]; (repeat' split) <;> simp

@[simp] theorem presentClaim_upholds (tag : Nat) (t : Nat) (c : SuiteCtx) (hs : s.Upholds s₀) :
    (presentClaim tag t c s).Upholds s₀ := by
  unfold presentClaim; (repeat' split) <;> simp [*]

theorem execClaimPresent_upholds (tag : Nat) (hs : s.Upholds s₀) : (execClaimPresent tag s).Upholds s₀ := by
  unfold execClaimPresent; (repeat' split) <;> simp [*]

theorem execHostWriteAccept_upholds (tag : Nat) (hs : s.Upholds s₀) :
    (execHostWriteAccept tag s).Upholds s₀ := by
  unfold execHostWriteAccept; (repeat' split) <;> simp [*]

theorem execVolatileFillDone_upholds (tile : Nat) (hs : s.Upholds s₀) :
    (execVolatileFillDone tile s).Upholds s₀ := by
  unfold execVolatileFillDone; (repeat' split) <;> simp [*]

theorem execDiscardWindowEnd_upholds (hs : s.Upholds s₀) : (execDiscardWindowEnd s).Upholds s₀ := by
  unfold execDiscardWindowEnd
  extract_lets l hst s₁
  have h₁ : s₁.Upholds s₀ := hs
  refine foldl_upholds _ ?_ fun _ _ hs => ?_
  · split <;> simp [h₁]
  · split <;> simp [hs]

@[simp] theorem poisonedRead_upholds (tag : Nat) : (poisonedRead tag s).Upholds s₀ ↔ s.Upholds s₀ :=
  Iff.rfl

@[simp] theorem takeRead_upholds (tag : Nat) (beat : Nat) : (takeRead tag beat s).Upholds s₀ ↔ s.Upholds s₀ := by
  have q := @takeRead_frame
  simp only [State.Upholds, q]

theorem execHostRead_upholds (tag : Nat) (hpa : Nat) : (execHostRead tag hpa s).Upholds s₀ ↔ s.Upholds s₀ := by
  unfold execHostRead; (repeat' split) <;> simp

theorem execGpfPhase1_upholds : (execGpfPhase1 s).Upholds s₀ ↔ s.Upholds s₀ := by
  unfold execGpfPhase1; (repeat' split) <;> simp

theorem execGpfPhase2_upholds : (execGpfPhase2 s).Upholds s₀ ↔ s.Upholds s₀ := by
  unfold execGpfPhase2; (repeat' split) <;> simp [↓upholds_mk_eq, ↓owes_eq]

theorem execGpfPhase2Drained_upholds (hs : s.Upholds s₀) : (execGpfPhase2Drained s).Upholds s₀ := by
  unfold execGpfPhase2Drained
  split
  · exact hs
  · exact ite_res_upholds _ (ite_upholds _ ((emit_upholds _).2 (hs)) (hs)) hs

theorem execIdeKeyProgram_upholds (ioSecure : Bool) (memSecure : Bool) :
    (execIdeKeyProgram ioSecure memSecure s).Upholds s₀ ↔ s.Upholds s₀ :=
  Iff.rfl

@[simp] theorem discardAll_upholds : (discardAll s).Upholds s₀ ↔ s.Upholds s₀ := by
  have q := @discardAll_frame
  simp only [State.Upholds, q]

theorem execIdeIntegrityFailure_upholds (stream : Nat) (hs : s.Upholds s₀) :
    (execIdeIntegrityFailure stream s).Upholds s₀ := by
  unfold execIdeIntegrityFailure
  extract_lets held hst s₁ s₂ s₃
  have h₁ : s₁.Upholds s₀ := hs
  have h₂ : s₂.Upholds s₀ := (event_upholds ..).2 h₁
  have h₃ : s₃.Upholds s₀ := foldl_upholds _ (by simpa using h₂) fun _ _ hs => by simpa using hs
  exact reeval_upholds.2 (raise_upholds _ h₃)

/-! ### Operations of the model (`OpsFrame`) -/

@[simp] theorem svcStat_upholds (c : Nat) : (svcStat c s).2.2.2.Upholds s₀ ↔ s.Upholds s₀ :=
  Iff.rfl

@[simp] theorem sendResponse_upholds (before : Svc) (type : Nat) (seq : Nat) (payload : List Byte) :
    (sendResponse before type seq payload s).Upholds s₀ ↔ s.Upholds s₀ :=
  Iff.rfl

@[simp] theorem answer_upholds (before : Svc) (type seq : Nat) (a : SvcAns) :
    (answer before type seq a).Upholds s₀ ↔ a.2.2.2.Upholds s₀ := by simp [answer, ↓upholds_mk_eq, ↓owes_eq]

/-- A frame answers without its command, or shows the command a state that upholds the same and sends what it answers. -/
theorem svcFrameOpt_upholds_or (type seq : Nat) (f : State → Option SvcAns × State) (hs : s.Upholds s₀) :
    (svcFrameOpt type seq f s).Upholds s₀ ∨ ∃ t : State, t.Upholds s₀ ∧ t.svc.pkg = s.svc.pkg ∧
      svcFrameOpt type seq f s =
        match f t with
        | (some a, _) => answer t.svc type seq a
        | (none, s) => { s with svc := { s.svc with owed := some (seq % 65536), lastSeq := some (seq % 65536), lastResp := [],
                                                    lastCmdAt := s.almanac } } := by
  have hp : ({ s with svc := { s.svc with pres := true } } : State).Upholds s₀ := hs
  unfold svcFrameOpt
  split
  · exact .inl hs
  · extract_lets svc s₁ v auth
    split
    · exact .inl ((sendResponse_upholds ..).2 hp)
    split
    · exact .inl ((sendResponse_upholds ..).2 hp)
    split
    · split
      · exact .inl ((answer_upholds ..).2 hp)
      · exact .inl hp
    split
    · exact .inl ((answer_upholds ..).2 hp)
    · exact .inr ⟨s₁, hp, rfl, rfl⟩

@[simp] theorem svcFrameOpt_upholds (type seq : Nat) (f : State → Option SvcAns × State) (hs : s.Upholds s₀)
    (hf : ∀ t : State, t.Upholds s₀ → (∀ a ∈ (f t).1, a.2.2.2.Upholds s₀) ∧ (f t).2.Upholds s₀) :
    (svcFrameOpt type seq f s).Upholds s₀ := by
  obtain h | ⟨t, ht, -, e⟩ := svcFrameOpt_upholds_or type seq f hs
  · exact h
  · obtain ⟨ha, hn⟩ := hf t ht
    rw [e]
    split
    · next a _ q => exact (answer_upholds ..).2 (ha a (by rw [q]; rfl))
    · next u q =>
        rw [q] at hn
        exact hn

@[simp] theorem svcFrame_upholds (type seq : Nat) (f : State → SvcAns) (hs : s.Upholds s₀)
    (hf : ∀ t : State, t.Upholds s₀ → (f t).2.2.2.Upholds s₀) : (svcFrame type seq f s).Upholds s₀ :=
  svcFrameOpt_upholds _ _ _ hs fun t ht => ⟨fun a ha => by cases ha; exact hf t ht, ht⟩

@[simp] theorem payOwed_upholds (type status : Nat) (hs : s.Upholds s₀) : (payOwed type status s).Upholds s₀ := by
  unfold payOwed
  extract_lets svc s₁ svc₁ s₂
  have h₁ : s₁.Upholds s₀ := hs
  split
  · exact h₁
  · have h₂ : s₂.Upholds s₀ := h₁
    split
    · exact (answer_upholds ..).2 h₂
    · exact h₂

/-! ### Operations of the model (`OpsUpd`) -/

@[simp] theorem setPhase_upholds (p : Nat) (bank : Nat) (hs : s.Upholds s₀) : (setPhase p bank s).Upholds s₀ := by
  unfold setPhase; (repeat' split) <;> simp [*, ↓upholds_mk_eq, ↓owes_eq]

@[simp] theorem setResult_upholds (r : Nat) : (setResult r s).Upholds s₀ ↔ s.Upholds s₀ := by
  exact Iff.rfl

@[simp] theorem programBytes_upholds (b : Nat) (ofs : Nat) (l : List Byte) (hs : s.Upholds s₀) :
    (programBytes b ofs l s).Upholds s₀ :=
  modBank_words_upholds b hs fun _ => foldl_twf (fun _ _ h => twf_tmod _ _ h) _ _

@[simp] theorem programMarker_upholds (b : Nat) (m : Marker) (reads : Bool) (hs : s.Upholds s₀) :
    (programMarker b m reads s).Upholds s₀ :=
  modBank_words_upholds b hs fun _ h => twf_tmod _ _ h

@[simp] theorem beginProbation_upholds (b : Nat) (hs : s.Upholds s₀) : (beginProbation b s).Upholds s₀ := by
  simp [beginProbation, hs, ↓upholds_mk_eq, ↓owes_eq]

@[simp] theorem resumeHandover_upholds (hs : s.Upholds s₀) : (resumeHandover s).Upholds s₀ := by
  unfold resumeHandover; (repeat' split) <;> simp [*]

theorem upholds_fuses (h : s.Upholds s₀) {f : Fuses} (he : s.fuses.epoch ≤ f.epoch)
    (hf : f = { s.fuses with epoch := f.epoch }) :
    Owes s₀ s.almanac s.dram s.cht.entries s.cht.tiles s.dmw.ring s.ecc.window s.cal.lsa s.log.ring s.att.bank s.svc.keyStore f
      s.pending :=
  ⟨h.almanac, h.arrays, h.keys, Nat.le_trans h.epoch he, by rw [hf, h.fuses], h.pending⟩

@[simp] theorem migrate_upholds (b : Nat) (hs : s.Upholds s₀) : (migrate b s).Upholds s₀ := by
  unfold migrate
  extract_lets old s₁ fuses s₂ cal s₃
  have h₁ : s₁.Upholds s₀ := ite_upholds _ hs (programMarker_upholds _ _ _ hs)
  have h₂ : s₂.Upholds s₀ := ite_upholds _ ((upholds_fuses h₁ (Nat.le_max_left _ _) rfl)) h₁
  exact programMarker_upholds _ _ _ (h₂)

@[simp] theorem confirmSet_upholds (first second : Bool) (hs : s.Upholds s₀) : (confirmSet first second s).2.2.Upholds s₀ := by
  unfold confirmSet
  extract_lets b c fail s₁ s₂ s₃ s₄ l
  have h₁ : s₁.Upholds s₀ := setPhase_upholds _ _ hs
  have h₂ : s₂.Upholds s₀ := programMarker_upholds _ _ _ h₁
  have h₃ : s₃.Upholds s₀ := ite_upholds _ h₂ (programMarker_upholds _ _ _ h₂)
  have h₄ : s₄.Upholds s₀ := migrate_upholds _ h₃
  split
  · exact raiseAddr_upholds _ _ _ _ hs
  split
  · exact setPhase_upholds _ _ (h₄)
  · exact setPhase_upholds _ _ (raiseAddr_upholds _ _ _ _ h₃)

@[simp] theorem enterDrydock_upholds : (enterDrydock s).Upholds s₀ ↔ s.Upholds s₀ := by
  simp [enterDrydock]

@[simp] theorem imageCheck_upholds (pass : Bool) (hs : s.Upholds s₀) : (imageCheck pass s).Upholds s₀ := by
  unfold imageCheck
  split
  · exact enterDrydock_upholds.2 hs
  · split
    · exact enterDrydock_upholds.2 hs
    · extract_lets svc s₁ s₂
      have h₁ : s₁.Upholds s₀ := hs
      have h₂ : s₂.Upholds s₀ := ite_upholds _ h₁ (migrate_upholds _ h₁)
      exact foldl_upholds _ h₂ fun t n ht => ite_upholds _ (raiseAddr_upholds _ _ _ _ ht) ht

/-! ### Operations of the model (`OpsLog`) -/

theorem upholds_records (h : s.Upholds s₀) {r : Table (List Byte)} (hr : twf [] s.log.ring = true → twf [] r = true) :
    Owes s₀ s.almanac s.dram s.cht.entries s.cht.tiles s.dmw.ring s.ecc.window s.cal.lsa r s.att.bank s.svc.keyStore s.fuses
      s.pending :=
  h.of_arrays fun m => ⟨m.dram, m.entries, m.tiles, m.ring, m.window, m.lsa, hr m.records, m.bank⟩

@[simp] theorem eraseRingSector_upholds (k : Nat) (hs : s.Upholds s₀) : (eraseRingSector k s).Upholds s₀ :=
  eraseSector_upholds _ _ ((upholds_records hs (twf_tclear _ _)))

@[simp] theorem ringWriteRec_upholds (r : LogRecord) (hs : s.Upholds s₀) : (ringWriteRec r s).Upholds s₀ := by
  unfold ringWriteRec
  extract_lets p s₁
  have h₁ : s₁.Upholds s₀ := ite_upholds _ (eraseRingSector_upholds _ hs) hs
  exact (upholds_records h₁ (twf_tset _ _))

@[simp] theorem reportLosses_upholds (hs : s.Upholds s₀) : (reportLosses s).Upholds s₀ := by
  unfold reportLosses
  extract_lets l s₁
  have h₁ : s₁.Upholds s₀ := ite_upholds _ (logRecord_upholds _ _ _ _ _ _ _ hs) hs
  exact ite_upholds _ h₁ (logRecord_upholds _ _ _ _ _ _ _ h₁)

@[simp] theorem writeRecords_upholds (hs : s.Upholds s₀) : (writeRecords s).Upholds s₀ := by
  unfold writeRecords; (repeat' split) <;> simp +contextual [*, ↓upholds_mk_eq, ↓owes_eq, foldl_upholds]

/-- The restore of a part without power at its always-on domain may set the Almanac back: `s₀` is not to ask for one then. -/
theorem coldRestore_upholds (hs : s.Upholds s₀) (ha : s.log.aonPowered = false → s₀.almanac = 0) :
    (coldRestore s).Upholds s₀ := by
  unfold coldRestore
  split
  · exact hs
  · next hp =>
      have h0 := ha (by simpa using hp)
      exact exerFromNow_upholds.2 (hs.of_almanac (by simp [h0]))

@[simp] theorem coldLoss_upholds : (coldLoss s).Upholds s₀ ↔ s.Upholds s₀ := by
  exact Iff.rfl

/-! ### Commands of the model (`Logs`) -/

theorem execAlmanacColdRestore_upholds (hs : s.Upholds s₀) (ha : s.log.aonPowered = false → s₀.almanac = 0) :
    (execAlmanacColdRestore s).Upholds s₀ := coldRestore_upholds hs ha

theorem execLogRecordWrite_upholds (hs : s.Upholds s₀) : (execLogRecordWrite s).Upholds s₀ := by
  unfold execLogRecordWrite; (repeat' split) <;> simp [*]

theorem execColdLoss_upholds : (execColdLoss s).Upholds s₀ ↔ s.Upholds s₀ := by
  unfold execColdLoss; (repeat' split) <;> simp

/-! ### Operations of the model (`OpsPartner`) -/

@[simp] theorem sendHello_upholds : (sendHello s).Upholds s₀ ↔ s.Upholds s₀ :=
  Iff.rfl

@[simp] theorem startResync_upholds (k : Nat) : (startResync k s).Upholds s₀ ↔ s.Upholds s₀ := by
  simp [startResync]

@[simp] theorem resyncEnd_upholds (k : Nat) : (resyncEnd k s).Upholds s₀ ↔ s.Upholds s₀ := by
  simp only [resyncEnd]; (repeat' split) <;> simp

@[simp] theorem startStandby_upholds (k : Nat) : (startStandby k s).Upholds s₀ ↔ s.Upholds s₀ := by
  simp [startStandby]

@[simp] theorem programRole_upholds (k : Nat) (role : Nat) (epoch : Nat) (next : RoleNext) :
    (programRole k role epoch next s).Upholds s₀ ↔ s.Upholds s₀ :=
  Iff.rfl

@[simp] theorem splitCheck_upholds (k : Nat) (hs : s.Upholds s₀) : (splitCheck k s).Upholds s₀ := by
  simp only [splitCheck]; (repeat' split) <;> simp [*]

@[simp] theorem settle_upholds (k : Nat) (role : Nat) (epoch : Nat) (hs : s.Upholds s₀) : (settle k role epoch s).Upholds s₀ := by
  simp only [settle]; (repeat' split) <;> simp [*]

@[simp] theorem helloSet_upholds (fresh : Bool) (k : Nat) (p : PeerSet) (hs : s.Upholds s₀) :
    (helloSet fresh k p s).Upholds s₀ := by
  simp only [helloSet]; (repeat' split) <;> simp [*]

@[simp] theorem settleLate_upholds (k : Nat) (hs : s.Upholds s₀) : (settleLate k s).Upholds s₀ := by
  simp only [settleLate]; (repeat' split) <;> simp [*]

@[simp] theorem endDrill_upholds (k : Nat) (outcome : Nat) (hs : s.Upholds s₀) : (endDrill k outcome s).Upholds s₀ := by
  unfold endDrill; (repeat' split) <;> simp [*]

@[simp] theorem schedule_upholds (k : Nat) (at_ : Nat) : (schedule k at_ s).Upholds s₀ ↔ s.Upholds s₀ := by
  simp [schedule]

@[simp] theorem roleSteps_upholds (k : Nat) : (roleSteps k s).Upholds s₀ ↔ s.Upholds s₀ := by
  have q := @roleSteps_frame
  simp only [State.Upholds, q]

@[simp] theorem promote_upholds (k : Nat) : (promote k s).Upholds s₀ ↔ s.Upholds s₀ := by
  have q := @promote_frame
  simp only [State.Upholds, q]

@[simp] theorem loseSet_upholds (parting judged : Bool) (k : Nat) (hs : s.Upholds s₀) :
    (loseSet parting judged k s).Upholds s₀ := by
  unfold loseSet
  extract_lets m new s₁ s₂ s₃ s₄ s₅
  have h₁ : s₁.Upholds s₀ := by
    simp only [s₁]
    split
    · exact endDrill_upholds _ _ hs
    · exact hs
  have h₂ : s₂.Upholds s₀ := (changeSet_upholds _ _).2 h₁
  have h₃ : s₃.Upholds s₀ := (modSet_upholds ..).2 h₂
  have h₄ : s₄.Upholds s₀ := ite_upholds _ ((notify_upholds _).2 ((event_upholds ..).2 h₃)) h₃
  have h₅ : s₅.Upholds s₀ := ite_upholds _ h₄ (raiseAddr_upholds _ _ _ _ h₄)
  exact ite_upholds _ ((promote_upholds _).2 h₅) h₅

@[simp] theorem loseContact_upholds (parting : Bool) (hs : s.Upholds s₀) : (loseContact parting s).Upholds s₀ := by
  simp +contextual [loseContact, hs, ↓upholds_mk_eq, ↓owes_eq, ↓upholds_ite, foldl_upholds]

@[simp] theorem linkDown_upholds (hs : s.Upholds s₀) : (linkDown s).Upholds s₀ := by
  simp [linkDown, hs, ↓upholds_mk_eq, ↓owes_eq]

@[simp] theorem handStep_upholds (k : Nat) : (handStep k s).Upholds s₀ ↔ s.Upholds s₀ := by
  have q := @handStep_frame
  simp only [State.Upholds, q]

@[simp] theorem drillHandover_upholds (k : Nat) (phase : Nat) : (drillHandover k phase s).Upholds s₀ ↔ s.Upholds s₀ := by
  unfold drillHandover; (repeat' split) <;> simp

/-! ### Commands of the model (`Partner`) -/

theorem execKlTrained_upholds (peerMax : Nat) (peerMin : Nat) (hs : s.Upholds s₀) : (execKlTrained peerMax peerMin s).Upholds s₀ := by
  unfold execKlTrained
  extract_lets r s₁
  have h₁ : s₁.Upholds s₀ := (emit_upholds _).2 hs
  exact ite_res_upholds _ (ite_res_upholds _ (raise_upholds _ h₁) (sendHello_upholds.2 h₁)) hs

theorem execRevRetry_upholds (hs : s.Upholds s₀) : (execRevRetry s).Upholds s₀ := by
  unfold execRevRetry; (repeat' split) <;> simp [*, ↓upholds_mk_eq, ↓owes_eq]

theorem execHelloMessage_upholds (partner : Nat) (ident : List Byte) (peers : List PeerSet) (hs : s.Upholds s₀) :
    (execHelloMessage partner ident peers s).Upholds s₀ := by
  unfold execHelloMessage; (repeat' split) <;> simp +contextual [*, ↓upholds_mk_eq, ↓owes_eq, foldl_upholds]

theorem execFlitReceive_upholds (crcOk : Bool) (fseq hbState : Nat) (hbCount : Option Nat) (hs : s.Upholds s₀) :
    (execFlitReceive crcOk fseq hbState hbCount s).Upholds s₀ := by
  unfold execFlitReceive
  extract_lets p q
  split
  · split
    · exact hs
    · split
      · exact hs
      · exact raise_upholds _ (hs)
  · exact hs

theorem execLinkRetrainEnd_upholds (ok : Bool) (hs : s.Upholds s₀) :
    (execLinkRetrainEnd ok s).Upholds s₀ := by
  unfold execLinkRetrainEnd; (repeat' split) <;> simp [*, ↓upholds_mk_eq, ↓owes_eq]

theorem execCreditMessage_upholds (inStep : Nat) (resync : Nat) :
    (execCreditMessage inStep resync s).Upholds s₀ ↔ s.Upholds s₀ := by
  unfold execCreditMessage; (repeat' split) <;> simp [↓upholds_mk_eq, ↓owes_eq]

theorem execPartnerForwardSend_upholds (hs : s.Upholds s₀) : (execPartnerForwardSend s).Upholds s₀ := by
  unfold execPartnerForwardSend
  split
  · exact hs
  · exact ite_res_upholds _ ((sendFlit_upholds _).2 (hs)) hs

@[simp] theorem rtNoted_upholds (beat : Nat) : (rtNoted beat s).Upholds s₀ ↔ s.Upholds s₀ := by
  have q := @rtNoted_frame
  simp only [State.Upholds, q]

@[simp] theorem enterPartner_upholds (k : Nat) (w : BeatWrite) (resync : Bool) (n : Nat) (hs : s.Upholds s₀) :
    (enterPartner k w resync n s).Upholds s₀ := by
  unfold enterPartner
  extract_lets s₁ s₂ plk p s₃
  have h₂ : s₂.Upholds s₀ := ite_upholds _ (listPoison_upholds _ _ _ hs) (ite_upholds _ ((unlistBeat_upholds _).2 hs) hs)
  have h₃ : s₃.Upholds s₀ := (rtNoted_upholds _).2 h₂
  exact (emit_upholds _).2 (writeEvent_upholds _ h₃)

theorem execPartnerWriteEntry_upholds (set : Nat) (wseq : Nat) (beat : Nat) (data : List Byte) (enables : Dword)
    (poison : Bool) (resync : Bool) (hs : s.Upholds s₀) : (execPartnerWriteEntry set wseq beat data enables poison resync s).Upholds s₀ := by
  simp only [execPartnerWriteEntry]; (repeat' split) <;> simp [*]

@[simp] theorem ackBeat_upholds (b : FwdBeat) : (ackBeat b s).Upholds s₀ ↔ s.Upholds s₀ := by
  have q := @ackBeat_frame
  simp only [State.Upholds, q]

theorem execAckMessage_upholds (set : Nat) (wseq : Nat) (hs : s.Upholds s₀) :
    (execAckMessage set wseq s).Upholds s₀ := by
  unfold execAckMessage; (repeat' split) <;> simp +contextual [*, ↓upholds_mk_eq, ↓owes_eq, foldl_upholds]

@[simp] theorem sendWatch_upholds (k : Nat) (hs : s.Upholds s₀) : (sendWatch k s).Upholds s₀ := by
  simp only [sendWatch]; (repeat' split) <;> simp [*, ↓upholds_mk_eq, ↓owes_eq]

theorem execWatchSend_upholds (hs : s.Upholds s₀) : (execWatchSend s).Upholds s₀ := by
  unfold execWatchSend; (repeat' split) <;> simp +contextual [*, foldl_upholds]

@[simp] theorem markBuffered_upholds (cover : Nat → Bool) : (markBuffered cover s).Upholds s₀ ↔ s.Upholds s₀ :=
  Iff.rfl

@[simp] theorem applyWatchPoison_upholds (r : WatchPoison) (hs : s.Upholds s₀) : (applyWatchPoison r s).Upholds s₀ := by
  unfold applyWatchPoison
  split
  · extract_lets b s₁
    have h₁ : s₁.Upholds s₀ := (markBuffered_upholds _).2 hs
    refine ite_upholds _ (writeEvent_upholds _ (listPoison_upholds _ _ _ ?_)) (writeEvent_upholds _ (poisonBeat_upholds _ _ h₁))
    exact (upholds_mk ..).2 (upholds_dram h₁ (markTile_wf _))
  · exact ite_upholds _ ((unlistBeat_upholds _).2 hs) hs

theorem execWatchMessage_upholds (w : Watch) (hs : s.Upholds s₀) : (execWatchMessage w s).Upholds s₀ := by
  simp only [execWatchMessage]; (repeat' split) <;> simp +contextual [*, foldl_upholds]

theorem execWatchAckMessage_upholds (no : Nat) (hs : s.Upholds s₀) :
    (execWatchAckMessage no s).Upholds s₀ := by
  unfold execWatchAckMessage
  split
  · refine foldl_upholds _ hs fun t k ht => ?_
    split
    · exact ite_upholds _ ((modSet_upholds ..).2 ht) ht
    · exact ht
  · exact hs

theorem execHeartbeatSend_upholds (hs : s.Upholds s₀) : (execHeartbeatSend s).Upholds s₀ := by
  unfold execHeartbeatSend
  extract_lets s₁ n plk s₂ g plk'
  have h₁ : s₁.Upholds s₀ := advanceTo_upholds _ hs
  have h₂ : s₂.Upholds s₀ := (emit_upholds _).2 h₁
  clear_value s₁ s₂
  exact ite_res_upholds _ (ite_res_upholds _ h₁ (ite_res_upholds _ h₂ ((emit_upholds _).2 h₂))) hs

theorem execContactTimeout_upholds (hs : s.Upholds s₀) : (execContactTimeout s).Upholds s₀ := by
  unfold execContactTimeout; (repeat' split) <;> simp [*]

theorem execPartingMessage_upholds (cause : Nat) (hs : s.Upholds s₀) :
    (execPartingMessage cause s).Upholds s₀ := by
  unfold execPartingMessage; (repeat' split) <;> simp [*, ↓upholds_mk_eq, ↓owes_eq]

theorem execPairWaitExpire_upholds (hs : s.Upholds s₀) : (execPairWaitExpire s).Upholds s₀ := by
  unfold execPairWaitExpire; (repeat' split) <;> simp +contextual [*, ↓upholds_ite, foldl_upholds]

@[simp] theorem putRole_upholds (k : Nat) (r : RoleRun) : (putRole k r s).Upholds s₀ ↔ s.Upholds s₀ := by
  have q := @putRole_frame
  simp only [State.Upholds, q]

@[simp] theorem roleTaken_upholds (k : Nat) (r : RoleRun) (hs : s.Upholds s₀) : (roleTaken k r s).Upholds s₀ := by
  unfold roleTaken
  split
  · exact ite_upholds _ ((startResync_upholds _).2 hs) ((changeSet_upholds _ _).2 hs)
  · exact (changeSet_upholds _ _).2 hs
  · exact (modSet_upholds _ _).2 ((changeSet_upholds _ _).2 hs)
  · exact (emit_upholds _).2 ((modSet_upholds _ _).2 hs)
  · extract_lets s₁ s₂
    have h₁ : s₁.Upholds s₀ := (modSet_upholds _ _).2 ((changeSet_upholds _ _).2 hs)
    have h₂ : s₂.Upholds s₀ := ite_upholds _ ((emit_upholds _).2 h₁) h₁
    split
    · exact ite_upholds _ (endDrill_upholds _ _ h₂) (ite_upholds _ (endDrill_upholds _ _ ((modSet_upholds _ _).2 h₂)) h₂)
    · exact h₂
  · exact (startStandby_upholds _).2 (splitCheck_upholds _ hs)

theorem execRoleRecordProgrammed_upholds (set : Nat) (pass : Bool) (hs : s.Upholds s₀) :
    (execRoleRecordProgrammed set pass s).Upholds s₀ := by
  simp only [execRoleRecordProgrammed]; (repeat' split) <;> simp [*]

@[simp] theorem drillReport_upholds (result : Nat) : (drillReport result s).Upholds s₀ ↔ s.Upholds s₀ := by
  have q := @drillReport_frame
  simp only [State.Upholds, q]

theorem execLanternAbandon_upholds (hs : s.Upholds s₀) : (execLanternAbandon s).Upholds s₀ := by
  unfold execLanternAbandon; (repeat' split) <;> simp +contextual [*, ↓upholds_mk_eq, ↓owes_eq, ↓upholds_ite, foldl_upholds]

theorem execLanternStuck_upholds (hs : s.Upholds s₀) : (execLanternStuck s).Upholds s₀ := by
  unfold execLanternStuck; (repeat' split) <;> simp [*, ↓upholds_mk_eq, ↓owes_eq]

theorem execLanternToggling_upholds : (execLanternToggling s).Upholds s₀ ↔ s.Upholds s₀ := by
  unfold execLanternToggling; (repeat' split) <;> simp [↓upholds_mk_eq, ↓owes_eq]

@[simp] theorem queueTile_upholds (k : Nat) (t : Nat) : (queueTile k t s).Upholds s₀ ↔ s.Upholds s₀ :=
  Iff.rfl

@[simp] theorem watchTile_upholds (k : Nat) (t : Nat) : (watchTile k t s).Upholds s₀ ↔ s.Upholds s₀ := by
  have q := @watchTile_frame
  simp only [State.Upholds, q]

theorem execResyncTileCopy_upholds (set : Nat) (equal : List Nat) (hs : s.Upholds s₀) :
    (execResyncTileCopy set equal s).Upholds s₀ := by
  unfold execResyncTileCopy
  extract_lets s₁ m plk
  have h₁ : s₁.Upholds s₀ := (modSet_upholds ..).2 hs
  have hw (t : Nat) : Res.Upholds s₀ (.next (watchTile set t s₁)) := (watchTile_upholds _ _).2 h₁
  have hc (t : Nat) : Res.Upholds s₀ (.next (callTile t s₁)) := (callTile_upholds _).2 h₁
  split
  · split
    · split
      · split
        · exact hc _
        · exact (queueTile_upholds _ _).2 ((modSet_upholds ..).2 (h₁))
      · exact hw _
    · split
      · exact hw _
      · split
        · exact (resyncEnd_upholds _).2 h₁
        · split
          · split
            · exact hc _
            · exact (emit_upholds _).2 ((modSet_upholds ..).2 ((tileAccess_upholds _).2 h₁))
          · exact hw _
  · exact hs

theorem execDigestMessage_upholds (tile : Nat) (digest : List Byte) (hs : s.Upholds s₀) :
    (execDigestMessage tile digest s).Upholds s₀ := by
  have h := (tileAccess_upholds tile).2 hs
  unfold execDigestMessage
  split
  · exact hs
  · exact ite_res_upholds _ (ite_res_upholds _ ((callTile_upholds _).2 hs) (ite_res_upholds _ h ((emit_upholds _).2 h))) hs

theorem execDiffMessage_upholds (tile : Nat) : (execDiffMessage tile s).Upholds s₀ ↔ s.Upholds s₀ := by
  unfold execDiffMessage; (repeat' split) <;> simp

theorem execHandoverBoundary_upholds (set : Nat) (hs : s.Upholds s₀) :
    (execHandoverBoundary set s).Upholds s₀ := by
  simp only [execHandoverBoundary]; (repeat' split) <;> simp [*]

theorem execHandoverMessage_upholds (set : Nat) (epoch : Nat) (last : Nat) :
    (execHandoverMessage set epoch last s).Upholds s₀ ↔ s.Upholds s₀ := by
  unfold execHandoverMessage; (repeat' split) <;> simp

theorem execTakenMessage_upholds (set : Nat) (epoch : Nat) (hs : s.Upholds s₀) :
    (execTakenMessage set epoch s).Upholds s₀ := by
  simp only [execTakenMessage]; (repeat' split) <;> simp [*]

theorem execHomeReqSend_upholds (set : Nat) : (execHomeReqSend set s).Upholds s₀ ↔ s.Upholds s₀ := by
  simp only [execHomeReqSend]; (repeat' split) <;> simp

theorem execHomeReqMessage_upholds (set : Nat) : (execHomeReqMessage set s).Upholds s₀ ↔ s.Upholds s₀ := by
  simp only [execHomeReqMessage]; (repeat' split) <;> simp

theorem execDrillMessage_upholds (set : Nat) (phase : Nat) (result : Nat) (hs : s.Upholds s₀) :
    (execDrillMessage set phase result s).Upholds s₀ := by
  unfold execDrillMessage
  extract_lets m
  refine ite_res_upholds _ (ite_res_upholds _ ((modSet_upholds _ _).2 hs) (ite_res_upholds _ ((schedule_upholds _ _).2 hs) ?_)) hs
  split
  · exact ite_res_upholds _ ((modSet_upholds _ _).2 hs) (ite_res_upholds _ ((modSet_upholds _ _).2 hs) hs)
  · exact hs

theorem execDrillPhaseEnd_upholds (set : Nat) (hs : s.Upholds s₀) :
    (execDrillPhaseEnd set s).Upholds s₀ := by
  simp only [execDrillPhaseEnd]; (repeat' split) <;> simp [*]

/-! ### Commands of the model (`Restore`) -/

theorem execFloorPlanLoad_upholds (hs : s.Upholds s₀) : (execFloorPlanLoad s).Upholds s₀ := by
  unfold execFloorPlanLoad; (repeat' split) <;> simp [*]

theorem execFloorPlanApply_upholds (hs : s.Upholds s₀) : (execFloorPlanApply s).Upholds s₀ := by
  unfold execFloorPlanApply; (repeat' split) <;> simp [*]

@[simp] theorem loadCheckpoint_upholds (bad : List Nat) : (loadCheckpoint bad s).Upholds s₀ ↔ s.Upholds s₀ := by
  have q := @loadCheckpoint_frame
  simp only [State.Upholds, q]

@[simp] theorem loadMaps_upholds (bad lost : List Nat) (hs : s.Upholds s₀) : (loadMaps bad lost s).Upholds s₀ := by
  refine foldl_upholds _ hs fun t e ht => ite_upholds _ ?_ ht
  split
  · exact ht
  · exact ite_upholds _ (ht) (modEntry_upholds _ _ ht)

@[simp] theorem loadCounters_upholds (bad : List Nat) : (loadCounters bad s).Upholds s₀ ↔ s.Upholds s₀ :=
  Iff.rfl

@[simp] theorem stepAlmanac_upholds (hs : s.Upholds s₀) : (stepAlmanac s).Upholds s₀ := by
  unfold stepAlmanac
  split
  · next h =>
      have : s.almanac ≤ metaTimes s := by simpa using (Bool.and_eq_true_iff.1 h).2
      exact (upholds_mk ..).2 (upholds_almanac hs (by omega))
  · exact hs

@[simp] theorem loadLastSave_upholds (r : SaveRecord) : (loadLastSave r s).Upholds s₀ ↔ s.Upholds s₀ :=
  Iff.rfl

@[simp] theorem countSave_upholds (r : SaveRecord) : (countSave r s).Upholds s₀ ↔ s.Upholds s₀ := by
  unfold countSave; (repeat' split) <;> simp [↓upholds_mk_eq, ↓owes_eq]

@[simp] theorem measureCost_upholds (r : SaveRecord) : (measureCost r s).Upholds s₀ ↔ s.Upholds s₀ := by
  have q := @measureCost_frame
  simp only [State.Upholds, q]

@[simp] theorem readLastSave_upholds (hs : s.Upholds s₀) : (readLastSave s).Upholds s₀ := by
  simp only [readLastSave]; (repeat' split) <;> simp [*]

@[simp] theorem patrolAtBoot_upholds : (patrolAtBoot s).Upholds s₀ ↔ s.Upholds s₀ := by
  have q := @patrolAtBoot_frame
  simp only [State.Upholds, q]

@[simp] theorem loseKeys_upholds (l : List Nat) (hs : s.Upholds s₀) : (loseKeys l s).Upholds s₀ := by
  simp +contextual [loseKeys, hs, ↓upholds_mk_eq, ↓owes_eq, foldl_upholds]

@[simp] theorem loadRoles_upholds : (loadRoles s).Upholds s₀ ↔ s.Upholds s₀ := by
  have q := @loadRoles_frame
  simp only [State.Upholds, q]

theorem execMetaReadDone_upholds (lostPages lostKeys : List Nat) (bad : MetaBad) (hs : s.Upholds s₀) :
    (execMetaReadDone lostPages lostKeys bad s).Upholds s₀ := by
  unfold execMetaReadDone
  split
  · extract_lets s0 sav s₁ s₂ lost s₃ cel s₄ s₅ s₆ s₇ s₈ sav₁ s₉
    have h₁ : s₁.Upholds s₀ := hs
    have h₂ : s₂.Upholds s₀ := (loadCheckpoint_upholds _).2 h₁
    have h₃ : s₃.Upholds s₀ := (loadCounters_upholds _).2 (loadMaps_upholds _ _ h₂)
    have h₄ : s₄.Upholds s₀ := loadRoles_upholds.2 (h₃)
    have h₅ : s₅.Upholds s₀ := ite_upholds _ h₄ (raise_upholds _ h₄)
    have h₆ : s₆.Upholds s₀ := ite_upholds _ h₅ (loseKeys_upholds _ h₅)
    have h₇ : s₇.Upholds s₀ := foldl_upholds _ h₆ fun _ _ => raiseAddr_upholds _ _ _ _
    have h₈ : s₈.Upholds s₀ := stepAlmanac_upholds h₇
    have h₉ : s₉.Upholds s₀ := h₈
    exact spareAtBoot_upholds (patrolAtBoot_upholds.2 ((noteReadyAny_upholds _).2 (readLastSave_upholds h₉)))
  · exact hs

@[simp] theorem decideHalf_upholds (hold : Bool) (keep : List Half) (h : Half) :
    (decideHalf hold keep s h).Upholds s₀ ↔ s.Upholds s₀ := by
  have q := @decideHalf_frame
  simp only [State.Upholds, q]

@[simp] theorem holdBoot_upholds (hs : s.Upholds s₀) : (holdBoot s).Upholds s₀ := by
  simp [holdBoot, hs, ↓upholds_mk_eq, ↓owes_eq]

@[simp] theorem decideRestore_upholds (hs : s.Upholds s₀) :
    (decideRestore s).Upholds s₀ := by
  unfold decideRestore
  extract_lets hl x et s₁ sav log life s₂ s₃
  have h₁ : s₁.Upholds s₀ := (beginRestore_upholds _).2 hs
  have h₂ : s₂.Upholds s₀ := h₁
  have h₃ : s₃.Upholds s₀ := (transition_upholds _ _).2 h₂
  exact ite_upholds _ ((recordDirty_upholds _).2 (raise_upholds _ h₃)) h₃

@[simp] theorem upholds_decide (hs : s.Upholds s₀) : (decide_ s).Upholds s₀ := by
  simp only [decide_]; (repeat' split) <;> simp [*, ↓upholds_mk_eq, ↓owes_eq]

theorem execRestoreDecision_upholds (hs : s.Upholds s₀) : (execRestoreDecision s).Upholds s₀ := by
  unfold execRestoreDecision; (repeat' split) <;> simp [*, ↓upholds_mk_eq, ↓owes_eq]

@[simp] theorem zeroFill_upholds (hs : s.Upholds s₀) : (zeroFill s).Upholds s₀ := by
  refine foldl_upholds _ hs fun t e ht => ite_upholds _ ?_ ht
  exact modRoomTiles_upholds _ _ (foldl_upholds _ ht fun u _ hu => (upholds_dram hu (zeroTile_wf _)))

theorem execZeroFillDone_upholds (hs : s.Upholds s₀) : (execZeroFillDone s).Upholds s₀ := by
  unfold execZeroFillDone; (repeat' split) <;> simp [*]

@[simp] theorem raiseTimes_upholds (c : FClass) (addr n : Nat) (hs : s.Upholds s₀) : (raiseTimes c addr n s).Upholds s₀ := by
  induction n generalizing s with
  | zero => exact hs
  | succ n ih => exact ih (raiseAddr_upholds _ _ _ _ hs)

@[simp] theorem noteSearch_upholds : (noteSearch s).Upholds s₀ ↔ s.Upholds s₀ :=
  Iff.rfl

theorem execRestorePresetDone_upholds (badOwn badBase : List Nat) (mapBad : Bool) (hs : s.Upholds s₀) :
    (execRestorePresetDone badOwn badBase mapBad s).Upholds s₀ := by
  unfold execRestorePresetDone
  split
  · extract_lets r lostMap sav s₁ s₂ s₃ s₄ ov ovBase sav₁ run₁ s₅ s₆ sav₂ run₂ s₇
    have h₁ : s₁.Upholds s₀ := hs
    have h₂ : s₂.Upholds s₀ := by
      simp only [s₂]
      split
      · exact raiseTimes_upholds _ _ _ h₁
      · exact h₁
    have h₃ : s₃.Upholds s₀ := by
      simp only [s₃]
      split
      · exact raiseTimes_upholds _ _ _ h₂
      · exact h₂
    have h₄ : s₄.Upholds s₀ := by
      simp only [s₄]
      split
      · exact ite_upholds _ (raiseAddr_upholds _ _ _ _ h₃) h₃
      · exact h₃
    have h₅ : s₅.Upholds s₀ := h₄
    have h₆ : s₆.Upholds s₀ := presetTiles_upholds (noteSearch_upholds.2 h₅)
    have h₇ : s₇.Upholds s₀ := h₆
    exact ite_upholds _ (restoreComplete_upholds h₇) h₇
  · exact hs

theorem execEarlyTenancyEntry_upholds : (execEarlyTenancyEntry s).Upholds s₀ ↔ s.Upholds s₀ := by
  unfold execEarlyTenancyEntry; (repeat' split) <;> simp [↓upholds_mk_eq, ↓owes_eq]

theorem execRestoreTileWritten_upholds (tile : Nat) (halfBad imageBad : Bool) (hs : s.Upholds s₀) :
    (execRestoreTileWritten tile halfBad imageBad s).Upholds s₀ := by
  unfold execRestoreTileWritten
  extract_lets user d
  have hd : d.Upholds s₀ := by
    simp only [d]
    cases sourceDie s tile
    · exact hs
    · exact (dieWorks_upholds _).2 hs
  split
  · split
    · exact (callTile_upholds _).2 hs
    · exact afterTile_upholds _ (reeval_upholds.2 (writeRestored_upholds _ _ hd))
  · exact hs

@[simp] theorem foldRecordOnly_upholds (t : Nat) : (foldRecordOnly t s).Upholds s₀ ↔ s.Upholds s₀ :=
  Iff.rfl

@[simp] theorem startFold_upholds (t : Nat) (hs : s.Upholds s₀) : (startFold t s).Upholds s₀ := by
  simp only [startFold]; (repeat' split) <;> simp [*, ↓upholds_mk_eq, ↓owes_eq]

theorem execFoldStart_upholds (hs : s.Upholds s₀) : (execFoldStart s).Upholds s₀ := by
  simp only [execFoldStart]; (repeat' split) <;> simp [*, ↓upholds_mk_eq, ↓owes_eq]

/-! ### Commands of the model (`Save`) -/

theorem execStaggerElapsed_upholds (hs : s.Upholds s₀) : (execStaggerElapsed s).Upholds s₀ := by
  unfold execStaggerElapsed; (repeat' split) <;> simp [*, ↓upholds_mk_eq, ↓owes_eq]

theorem execDrainComplete_upholds : (execDrainComplete s).Upholds s₀ ↔ s.Upholds s₀ := by
  unfold execDrainComplete; (repeat' split) <;> simp [↓upholds_mk_eq, ↓owes_eq]

@[simp] theorem settleTiles_upholds (hs : s.Upholds s₀) : (settleTiles s).Upholds s₀ := by
  have ht : twf {} s.cht.tiles = true → twf {} (tmap {} (fun _ => settleTile) s.cht.tiles) = true := twf_tmap _
  exact recountAll_upholds ((upholds_cht hs id ht))

@[simp] theorem beginSave_upholds (hs : s.Upholds s₀) : (beginSave s).Upholds s₀ := by
  simp only [beginSave]; (repeat' split) <;> simp [*, ↓upholds_mk_eq, ↓owes_eq]

theorem execSavingEntry_upholds (hs : s.Upholds s₀) : (execSavingEntry s).Upholds s₀ := by
  unfold execSavingEntry
  split
  · extract_lets sav s₁
    have h₁ : s₁.Upholds s₀ :=
      beginSave_upholds (settleTiles_upholds ((transition_upholds _ _).2 (hs)))
    exact ite_upholds _ (exhausted_upholds h₁) h₁
  · exact hs

theorem execSaveHeaderDone_upholds : (execSaveHeaderDone s).Upholds s₀ ↔ s.Upholds s₀ := by
  unfold execSaveHeaderDone; (repeat' split) <;> simp [↓upholds_mk_eq, ↓owes_eq]

@[simp] theorem selfRefreshRead_upholds : (selfRefreshRead s).Upholds s₀ ↔ s.Upholds s₀ :=
  Iff.rfl

@[simp] theorem readTile_upholds (r : SaveRun) (i : Nat) (t : Nat) (rest : List (Nat × Nat)) :
    (readTile r i t rest s).Upholds s₀ ↔ s.Upholds s₀ := by
  have q := @readTile_frame
  simp only [State.Upholds, q]

theorem execSaveTileRead_upholds (hs : s.Upholds s₀) : (execSaveTileRead s).Upholds s₀ := by
  unfold execSaveTileRead
  split
  · extract_lets s₁ sav s₂
    have h₁ : s₁.Upholds s₀ := programList_upholds.2 hs
    have h₂ : s₂.Upholds s₀ := ite_upholds _ (h₁) h₁
    split
    · exact h₂
    · split
      · exact h₂
      · extract_lets slot s₃
        have h₃ : s₃.Upholds s₀ := by
          simp only [s₃]
          cases slot <;> simp [h₂]
        split
        · exact halfFull_upholds h₂
        split
        · exact h₂
        split
        · exact h₂
        split
        · exact (callTile_upholds _).2 h₂
        · exact ite_upholds _ (selfRefreshRead_upholds.2 h₃) h₃
  · exact hs

@[simp] theorem fullProgramEnd_upholds (idx : Nat) (hs : s.Upholds s₀) : (fullProgramEnd idx s).Upholds s₀ := by
  unfold fullProgramEnd
  split
  · exact hs
  split
  · exact hs
  split
  · exact hs
  · exact ite_upholds _ ((modRun_upholds _).2 hs) (raiseAddr_upholds _ _ _ _ ((startCopy_upholds ..).2 hs))

@[simp] theorem noteLeft_upholds : (noteLeft s).Upholds s₀ ↔ s.Upholds s₀ := by
  have q := @noteLeft_frame
  simp only [State.Upholds, q]

theorem execSaveTileDone_upholds (index : Nat) (us : Nat) (pass : Bool) (hs : s.Upholds s₀) :
    (execSaveTileDone index us pass s).Upholds s₀ := by
  unfold execSaveTileDone; (repeat' split) <;> simp [*]

@[simp] theorem rateStep_upholds (i : Int) (v kind : Nat) (hs : s.Upholds s₀) :
    (rateStep i v kind s).Upholds s₀ := by
  unfold rateStep
  extract_lets x lo lim top down calm hold up rate fell s₁ timer sav s₂
  have h₁ : s₁.Upholds s₀ := ite_upholds _ ((modRun_upholds _).2 hs) hs
  have h₂ : s₂.Upholds s₀ := h₁
  exact ite_upholds _ (exhausted_upholds h₂) h₂

theorem execSaveRateTick_upholds (packMa : Int) (packMv : Nat) (hs : s.Upholds s₀) :
    (execSaveRateTick packMa packMv s).Upholds s₀ := by
  simp only [execSaveRateTick]; (repeat' split) <;> simp [*, ↓upholds_mk_eq, ↓owes_eq]

theorem execPackExhausted_upholds (hs : s.Upholds s₀) : (execPackExhausted s).Upholds s₀ := by
  unfold execPackExhausted; (repeat' split) <;> simp [*]

theorem execVbusLowTimeout_upholds (hs : s.Upholds s₀) : (execVbusLowTimeout s).Upholds s₀ := by
  unfold execVbusLowTimeout; (repeat' split) <;> simp [*]

theorem execKeeperBusError_upholds (fromAttic : Bool) (hs : s.Upholds s₀) :
    (execKeeperBusError fromAttic s).Upholds s₀ := by
  unfold execKeeperBusError; (repeat' split) <;> simp [*, ↓upholds_mk_eq, ↓owes_eq]

@[simp] theorem resumeRebuild_upholds : (resumeRebuild s).Upholds s₀ ↔ s.Upholds s₀ := by
  have q := @resumeRebuild_frame
  simp only [State.Upholds, q]

@[simp] theorem sealFailed_upholds (r : SaveRun) (hs : s.Upholds s₀) : (sealFailed r s).Upholds s₀ := by
  unfold sealFailed; (repeat' split) <;> simp [*]

theorem execSaveSealDone_upholds (pass : Bool) (hs : s.Upholds s₀) :
    (execSaveSealDone pass s).Upholds s₀ := by
  unfold execSaveSealDone; (repeat' split) <;> simp [*, ↓upholds_mk_eq, ↓owes_eq]

theorem execWarmReturnComplete_upholds (hs : s.Upholds s₀) : (execWarmReturnComplete s).Upholds s₀ := by
  unfold execWarmReturnComplete; (repeat' split) <;> simp [*]

@[simp] theorem releaseWarm_upholds : (releaseWarm s).Upholds s₀ ↔ s.Upholds s₀ := by
  have q := @releaseWarm_frame
  simp only [State.Upholds, q]

theorem execServiceOpenProgrammed_upholds : (execServiceOpenProgrammed s).Upholds s₀ ↔ s.Upholds s₀ := by
  unfold execServiceOpenProgrammed; (repeat' split) <;> simp [↓upholds_mk_eq, ↓owes_eq]

theorem execHalfEraseDone_upholds (half : Half) :
    (execHalfEraseDone half s).Upholds s₀ ↔ s.Upholds s₀ := by
  unfold execHalfEraseDone; (repeat' split) <;> simp [↓upholds_mk_eq, ↓owes_eq]

theorem execPrecautionStart_upholds : (execPrecautionStart s).Upholds s₀ ↔ s.Upholds s₀ := by
  unfold execPrecautionStart; (repeat' split) <;> simp [↓upholds_mk_eq, ↓owes_eq]

theorem execPrecautionEnd_upholds (hs : s.Upholds s₀) :
    (execPrecautionEnd s).Upholds s₀ := by
  unfold execPrecautionEnd
  split
  · split
    · exact hs
    · split
      · extract_lets short k s₁ s₂ sav
        have h₁ : s₁.Upholds s₀ := ite_upholds _ hs ((modRec_upholds _).2 hs)
        have h₂ : s₂.Upholds s₀ := by
          simp only [s₂]
          split
          · exact (modHalf_upholds _ _).2 h₁
          · exact h₁
        exact endPrecaution_upholds _ (retireFailed_upholds (h₂))
      · exact hs
  · exact hs

theorem execPrecautionWaitTimeout_upholds (hs : s.Upholds s₀) :
    (execPrecautionWaitTimeout s).Upholds s₀ := by
  unfold execPrecautionWaitTimeout
  split
  · exact endPrecaution_upholds _ (advanceTo_upholds _ hs)
  · exact hs

/-! ### Commands of the model (`Stow`) -/

theorem execSweepVisit_upholds (hs : s.Upholds s₀) :
    (execSweepVisit s).Upholds s₀ := by
  unfold execSweepVisit
  extract_lets stw s₁ stw₁
  have h₁ : s₁.Upholds s₀ := ite_upholds _ ((upholds_mk ..).2 hs) hs
  split
  · split
    · exact (upholds_mk ..).2 h₁
    · extract_lets s₂ stw₂
      have h₂ : s₂.Upholds s₀ := foldl_upholds _ h₁ fun _ _ => visitTile_upholds _
      refine ite_res_upholds _ ?_ ?_
      · exact (upholds_mk ..).2 h₂
      · exact (upholds_mk ..).2 h₂
  · exact hs

theorem execStowStart_upholds (hs : s.Upholds s₀) : (execStowStart s).Upholds s₀ := by
  simp only [execStowStart]; (repeat' split) <;> simp [*]

@[simp] theorem deliver_upholds (pass : Bool) (t : Nat) (hs : s.Upholds s₀) : (deliver pass t s).Upholds s₀ := by
  unfold deliver
  extract_lets stray s₁ s₂
  have h₁ : s₁.Upholds s₀ := completeTile_upholds _ _ hs
  have h₂ : s₂.Upholds s₀ := ite_upholds _ h₁ (raiseAddr_upholds _ _ _ _ h₁)
  exact ite_upholds _ (raiseAddr_upholds _ _ _ _ h₂) h₂

theorem execStowCompletion_upholds (room : Nat) (hs : s.Upholds s₀) :
    (execStowCompletion room s).Upholds s₀ := by
  unfold execStowCompletion
  split
  · extract_lets failed recs copies rest cel s₁ s₂ s₃
    have h₁ : s₁.Upholds s₀ := hs
    have h₂ : s₂.Upholds s₀ := foldl_upholds _ h₁ fun t r ht =>
      foldl_upholds _ (ite_upholds _ ((foldMarked_upholds _).2 (putInForce_upholds _ _ ht)) ht) fun _ _ => deliver_upholds _ _
    have h₃ : s₃.Upholds s₀ := foldl_upholds _ h₂ fun _ _ => deliver_upholds _ _
    simp [h₃]
  · exact hs

theorem execStallReevaluate_upholds (hs : s.Upholds s₀) : (execStallReevaluate s).Upholds s₀ := by
  unfold execStallReevaluate; (repeat' split) <;> simp [*]

theorem execStallBound_upholds (index : Nat) (hs : s.Upholds s₀) : (execStallBound index s).Upholds s₀ := by
  unfold execStallBound; (repeat' split) <;> simp [*, ↓upholds_mk_eq, ↓owes_eq]

theorem execStallEventWindow_upholds (hs : s.Upholds s₀) : (execStallEventWindow s).Upholds s₀ := by
  unfold execStallEventWindow; (repeat' split) <;> simp [*, ↓upholds_mk_eq, ↓owes_eq]

theorem execWearAccrualTick_upholds (hs : s.Upholds s₀) : (execWearAccrualTick s).Upholds s₀ := by
  unfold execWearAccrualTick; (repeat' split) <;> simp [*, ↓upholds_mk_eq, ↓owes_eq]

theorem execCounterStore_upholds (hs : s.Upholds s₀) : (execCounterStore s).Upholds s₀ := by
  unfold execCounterStore; (repeat' split) <;> simp [*, ↓upholds_mk_eq, ↓owes_eq]

theorem execWearProjection_upholds (hs : s.Upholds s₀) :
    (execWearProjection s).Upholds s₀ := by
  unfold execWearProjection
  extract_lets s₁ u e ahead w run under set clr s₂
  have h₁ : s₁.Upholds s₀ := advanceTo_upholds _ hs
  have h₂ : s₂.Upholds s₀ := h₁
  split
  · split
    · exact (setReason_upholds _).2 (raise_upholds _ h₂)
    split
    · exact (clearReason_upholds _).2 h₂
    · exact h₂
  · exact hs

/-! ### Operations of the model (`OpsRegRead`) -/

@[simp] theorem readReg_upholds (ofs : Nat) : (readReg ofs s).2.Upholds s₀ ↔ s.Upholds s₀ := by
  have q := @readReg_frame
  simp only [State.Upholds, q]

@[simp] theorem readAs_upholds (master ofs : Nat) (hs : s.Upholds s₀) : (readAs master ofs s).2.Upholds s₀ := by
  have hr : (readReg ofs s).2.Upholds s₀ := (readReg_upholds _).2 hs
  unfold readAs
  split
  · next e => rwa [e] at hr
  · next e =>
      rw [e] at hr
      exact raiseAddr_upholds _ _ _ _ hr

/-! ### Operations of the model (`OpsMailbox`) -/

@[simp] theorem mbxOut_upholds (l : List Byte) : (mbxOut l s).2.Upholds s₀ ↔ s.Upholds s₀ := by
  exact Iff.rfl

@[simp] theorem mbxRc_upholds (rc : Nat) : (mbxRc rc s).2.Upholds s₀ ↔ s.Upholds s₀ := by
  exact Iff.rfl

@[simp] theorem mbxAnswer_upholds (op : Nat) (r : MbxAns) : (mbxAnswer op r).Upholds s₀ ↔ r.2.Upholds s₀ := by
  unfold mbxAnswer
  split <;> simp

@[simp] theorem mailbox_upholds (op : Nat) (f : State → MbxAns) (hs : s.Upholds s₀) (hf : (f s).2.Upholds s₀) :
    (mailbox op f s).Upholds s₀ := by
  unfold mailbox
  split <;> simp [hs, hf]

@[simp] theorem startBackground_upholds (op : Nat) (f : State → State) (hs : s.Upholds s₀)
    (hf : ∀ t : State, t.Upholds s₀ → (f t).Upholds s₀) : (startBackground op f s).2.Upholds s₀ := by
  unfold startBackground
  split
  · exact hs
  · exact hf _ (hs)

@[simp] theorem endBackground_upholds (op : Nat) : (endBackground op s).Upholds s₀ ↔ s.Upholds s₀ := by
  have q := @endBackground_frame
  simp only [State.Upholds, q]

@[simp] theorem modLog_upholds (i : Nat) (f : EventLog → EventLog) : (modLog i f s).Upholds s₀ ↔ s.Upholds s₀ :=
  Iff.rfl

@[simp] theorem setPolicy_upholds (i : Nat) (n : Nat) : (setPolicy i n s).Upholds s₀ ↔ s.Upholds s₀ :=
  Iff.rfl

@[simp] theorem getPoison_upholds (dpa : Nat) (len : Nat) : (getPoison dpa len s).2.Upholds s₀ ↔ s.Upholds s₀ := by
  exact Iff.rfl

@[simp] theorem injectPoison_upholds (dpa : Nat) (hs : s.Upholds s₀) : (injectPoison dpa s).Upholds s₀ := by
  unfold injectPoison
  extract_lets t s₁ mark
  have h₁ : s₁.Upholds s₀ := ite_upholds _ (fillTile_upholds _ hs) hs
  exact (watchRecord_upholds _ _ _).2 (enqueueWrite_upholds _ _ _ (listPoison_upholds _ _ _ h₁))

@[simp] theorem clearSummaries_upholds (hs : s.Upholds s₀) : (clearSummaries s).Upholds s₀ := by
  unfold clearSummaries
  extract_lets found clear cht
  have he : twf {} s.cht.entries = true → twf {} (tmap {} clear s.cht.entries) = true := twf_tmap _
  exact (upholds_cht hs he id)

@[simp] theorem scanEnds_upholds (hs : s.Upholds s₀) : (scanEnds s).Upholds s₀ := by
  simp [scanEnds, hs, ↓upholds_mk_eq, ↓owes_eq]

@[simp] theorem replaceKeys_upholds : (replaceKeys s).Upholds s₀ ↔ s.Upholds s₀ := by
  have q := @replaceKeys_frame
  simp only [State.Upholds, q]

@[simp] theorem dropMaps_upholds : (dropMaps s).Upholds s₀ ↔ s.Upholds s₀ := by
  have q := @dropMaps_frame
  simp only [State.Upholds, q]

@[simp] theorem eraseNand_upholds : (eraseNand s).Upholds s₀ ↔ s.Upholds s₀ := by
  have q := @eraseNand_frame
  simp only [State.Upholds, q]

@[simp] theorem zeroDram_upholds (hs : s.Upholds s₀) : (zeroDram s).Upholds s₀ :=
  (upholds_dram hs fun _ => rfl)

@[simp] theorem endStows_upholds (hs : s.Upholds s₀) : (endStows s).Upholds s₀ := by
  simp +contextual [endStows, hs, ↓upholds_mk_eq, ↓owes_eq, foldl_upholds]

@[simp] theorem endRestore_upholds (hs : s.Upholds s₀) : (endRestore s).Upholds s₀ := by
  simp +contextual [endRestore, hs, ↓upholds_ite, foldl_upholds]

@[simp] theorem eraseAll_upholds (op : Nat) (hs : s.Upholds s₀) : (eraseAll op s).Upholds s₀ := by
  unfold eraseAll
  extract_lets before s₁ s₂ s₃ hst fpl cal s₄
  have h₁ : s₁.Upholds s₀ := dropMaps_upholds.2 (endStows_upholds (zeroDram_upholds hs))
  have h₂ : s₂.Upholds s₀ := ite_upholds _ (eraseNand_upholds.2 h₁) h₁
  have h₃ : s₃.Upholds s₀ := resetChart_upholds (replaceKeys_upholds.2 h₂)
  have h₄ : s₄.Upholds s₀ := h₃
  exact endRestore_upholds (reeval_upholds.2 (reevalStalled_upholds ((noteReadyAny_upholds _).2 h₄)))

@[simp] theorem beginErasure_upholds (op : Nat) : (beginErasure op s).Upholds s₀ ↔ s.Upholds s₀ := by
  exact Iff.rfl

@[simp] theorem forSet_upholds (k : Nat) (f : MirrorSet → MbxAns) (hs : s.Upholds s₀) (hf : ∀ m, (f m).2.Upholds s₀) :
    (forSet k s f).2.Upholds s₀ := by
  unfold forSet
  split
  · exact hs
  split
  · exact hs
  · exact hf _

/-! ### Commands of the model (`Mailbox`) -/

theorem execIdentify_upholds (hs : s.Upholds s₀) : (execIdentify s).Upholds s₀ :=
  mailbox_upholds _ _ hs hs

@[simp] theorem bgPercent_upholds (op : BgOp) : (bgPercent op s).2.Upholds s₀ ↔ s.Upholds s₀ := by
  have q := @bgPercent_frame
  simp only [State.Upholds, q]

theorem execBackgroundOperationStatus_upholds (hs : s.Upholds s₀) : (execBackgroundOperationStatus s).Upholds s₀ := by
  refine (next_upholds _).2 (mailbox_upholds _ _ hs ?_)
  split
  · exact (mbxOut_upholds _).2 ((bgPercent_upholds _).2 hs)
  · exact hs

theorem execGetEventRecords_upholds (log : Nat) (hs : s.Upholds s₀) : (execGetEventRecords log s).Upholds s₀ := by
  refine (next_upholds _).2 (mailbox_upholds _ _ hs ?_)
  split
  · exact hs
  · exact hs

theorem execClearEventRecords_upholds (log : Nat) (all : Bool) (handles : List Nat) (hs : s.Upholds s₀) :
    (execClearEventRecords log all handles s).Upholds s₀ := by
  unfold execClearEventRecords
  rw [next_upholds]
  refine mailbox_upholds _ _ hs ?_
  dsimp only
  split
  · exact hs
  split
  · exact (modLog_upholds ..).2 hs
  split
  · exact (modLog_upholds ..).2 hs
  · exact hs

theorem execGetEventInterruptPolicy_upholds (hs : s.Upholds s₀) : (execGetEventInterruptPolicy s).Upholds s₀ :=
  mailbox_upholds _ _ hs hs

theorem execSetEventInterruptPolicy_upholds (settings : List Nat) (hs : s.Upholds s₀) : (execSetEventInterruptPolicy settings s).Upholds s₀ := by
  refine (next_upholds _).2 (mailbox_upholds _ _ hs ?_)
  split
  · exact foldl_upholds _ hs fun _ _ => (setPolicy_upholds _ _).2
  · exact hs

theorem execGetFwInfo_upholds (hs : s.Upholds s₀) : (execGetFwInfo s).Upholds s₀ :=
  mailbox_upholds _ _ hs hs

theorem execTransferFw_upholds (hs : s.Upholds s₀) : (execTransferFw s).Upholds s₀ :=
  mailbox_upholds _ _ hs hs

theorem execActivateFw_upholds (hs : s.Upholds s₀) : (execActivateFw s).Upholds s₀ :=
  mailbox_upholds _ _ hs hs

theorem execGetTimestamp_upholds (hs : s.Upholds s₀) : (execGetTimestamp s).Upholds s₀ :=
  mailbox_upholds _ _ hs hs

@[simp] theorem calendarStep_upholds (valid : Bool) (step : Int) : (calendarStep valid step s).Upholds s₀ ↔ s.Upholds s₀ := by
  have q := @calendarStep_frame
  simp only [State.Upholds, q]

@[simp] theorem setCalendar_upholds (ns : Nat) (hs : s.Upholds s₀) : (setCalendar ns s).Upholds s₀ := by
  simp only [setCalendar]; (repeat' split) <;> simp [*, ↓upholds_mk_eq, ↓owes_eq]

theorem execSetTimestamp_upholds (ns : Nat) (hs : s.Upholds s₀) : (execSetTimestamp ns s).Upholds s₀ := by
  simp [execSetTimestamp, hs]

theorem execGetSupportedLogs_upholds (hs : s.Upholds s₀) : (execGetSupportedLogs s).Upholds s₀ := by
  simp [execGetSupportedLogs, hs]

theorem execGetLog_upholds (ofs : Nat) (len : Nat) (hs : s.Upholds s₀) : (execGetLog ofs len s).Upholds s₀ := by
  refine (next_upholds _).2 (mailbox_upholds _ _ hs ?_)
  split
  · exact hs
  · exact hs

theorem execIdentifyMemoryDevice_upholds (hs : s.Upholds s₀) : (execIdentifyMemoryDevice s).Upholds s₀ :=
  mailbox_upholds _ _ hs hs

theorem execGetPartitionInfo_upholds (hs : s.Upholds s₀) : (execGetPartitionInfo s).Upholds s₀ :=
  mailbox_upholds _ _ hs hs

theorem execSetPartitionInfo_upholds (hs : s.Upholds s₀) : (execSetPartitionInfo s).Upholds s₀ :=
  mailbox_upholds _ _ hs hs

theorem execGetLsa_upholds (ofs : Nat) (len : Nat) (ok : Bool) (hs : s.Upholds s₀) :
    (execGetLsa ofs len ok s).Upholds s₀ := by
  unfold execGetLsa; (repeat' split) <;> simp [*, ↓upholds_mk_eq, ↓owes_eq]

theorem upholds_lsa (h : s.Upholds s₀) {l : Table Byte} (hl : twf 0xFF s.cal.lsa = true → twf 0xFF l = true) :
    Owes s₀ s.almanac s.dram s.cht.entries s.cht.tiles s.dmw.ring s.ecc.window l s.log.ring s.att.bank s.svc.keyStore s.fuses
      s.pending :=
  h.of_arrays fun m => ⟨m.dram, m.entries, m.tiles, m.ring, m.window, hl m.lsa, m.records, m.bank⟩

theorem execSetLsa_upholds (ofs : Nat) (data : List Byte) (hs : s.Upholds s₀) :
    (execSetLsa ofs data s).Upholds s₀ := by
  unfold execSetLsa
  rw [next_upholds]
  refine mailbox_upholds _ _ hs ?_
  split
  · exact (mbxRc_upholds _).2 ((upholds_lsa hs (twf_foldl_tset _ _ _ _)))
  · exact hs

theorem execGetHealthInfo_upholds (hs : s.Upholds s₀) : (execGetHealthInfo s).Upholds s₀ :=
  mailbox_upholds _ _ hs hs

theorem execGetAlertConfiguration_upholds (hs : s.Upholds s₀) : (execGetAlertConfiguration s).Upholds s₀ :=
  mailbox_upholds _ _ hs hs

theorem execSetAlertConfiguration_upholds (cfg : List Nat) (hs : s.Upholds s₀) :
    (execSetAlertConfiguration cfg s).Upholds s₀ := by
  refine (next_upholds _).2 (mailbox_upholds _ _ hs ?_)
  split
  · split
    · exact hs
    · exact hs
  · exact hs

theorem execGetShutdownState_upholds (hs : s.Upholds s₀) : (execGetShutdownState s).Upholds s₀ :=
  mailbox_upholds _ _ hs hs

theorem execSetShutdownState_upholds (dirty : Bool) (hs : s.Upholds s₀) :
    (execSetShutdownState dirty s).Upholds s₀ := by
  simp [execSetShutdownState, hs, ↓upholds_mk_eq, ↓owes_eq]

theorem execGetPoisonList_upholds (dpa : Nat) (len : Nat) (hs : s.Upholds s₀) :
    (execGetPoisonList dpa len s).Upholds s₀ := by
  unfold execGetPoisonList; (repeat' split) <;> simp [*]

theorem execInjectPoison_upholds (dpa : Nat) (hs : s.Upholds s₀) : (execInjectPoison dpa s).Upholds s₀ := by
  unfold execInjectPoison
  rw [next_upholds]
  refine mailbox_upholds _ _ hs ?_
  split
  · exact (mbxRc_upholds _).2 (injectPoison_upholds _ hs)
  · exact hs

@[simp] theorem goOn_upholds (tag : Nat) (hs : s.Upholds s₀) : (goOn tag s).Upholds s₀ := by
  simp only [goOn]; (repeat' split) <;> simp [*]

theorem execClearPoison_upholds (dpa : Nat) (data : List Byte) (hs : s.Upholds s₀) :
    (execClearPoison dpa data s).Upholds s₀ := by
  unfold execClearPoison
  rw [next_upholds]
  refine mailbox_upholds _ _ hs ?_
  split
  · split
    · exact (discard_upholds _ _).2 hs
    · exact goOn_upholds _ ((takeWrite_upholds ..).2 ((watchRecord_upholds ..).2 hs))
  · exact hs

theorem execGetScanMediaCapabilities_upholds (hs : s.Upholds s₀) : (execGetScanMediaCapabilities s).Upholds s₀ :=
  mailbox_upholds _ _ hs hs

theorem execScanMedia_upholds (hs : s.Upholds s₀) : (execScanMedia s).Upholds s₀ := by
  simp [execScanMedia, hs, ↓upholds_mk_eq, ↓owes_eq]

theorem execScanMediaComplete_upholds (hs : s.Upholds s₀) : (execScanMediaComplete s).Upholds s₀ := by
  unfold execScanMediaComplete; (repeat' split) <;> simp [*]

theorem execGetScanMediaResults_upholds (hs : s.Upholds s₀) : (execGetScanMediaResults s).Upholds s₀ := by
  simp [execGetScanMediaResults, hs, ↓upholds_mk_eq, ↓owes_eq]

theorem execSanitize_upholds (hs : s.Upholds s₀) : (execSanitize s).Upholds s₀ := by
  unfold execSanitize
  rw [next_upholds]
  refine mailbox_upholds _ _ hs ?_
  split
  · exact hs
  · exact startBackground_upholds _ _ hs fun _ => (beginErasure_upholds _).2

theorem execSecureErase_upholds (hs : s.Upholds s₀) : (execSecureErase s).Upholds s₀ := by
  unfold execSecureErase
  rw [next_upholds]
  refine mailbox_upholds _ _ hs ?_
  split
  · exact hs
  · exact (beginErasure_upholds _).2 hs

theorem execSanitizeComplete_upholds (hs : s.Upholds s₀) : (execSanitizeComplete s).Upholds s₀ := by
  unfold execSanitizeComplete
  split
  · exact hs
  next op _ =>
    have h := eraseAll_upholds op hs
    generalize eraseAll op s = t at h ⊢
    exact ite_res_upholds _ hs (ite_res_upholds _ (ite_upholds _ h h)
      (ite_upholds _ ((endBackground_upholds _).2 h) ((emit_upholds _).2 h)))

theorem execPendingSanitizeReplay_upholds : (execPendingSanitizeReplay s).Upholds s₀ ↔ s.Upholds s₀ := by
  unfold execPendingSanitizeReplay; (repeat' split) <;> simp [↓upholds_mk_eq, ↓owes_eq]

theorem execMailboxUnsupported_upholds (opcode : Nat) (hs : s.Upholds s₀) : (execMailboxUnsupported opcode s).Upholds s₀ :=
  ite_upholds _ hs (mailbox_upholds _ _ hs hs)

theorem execGetVendorIdentity_upholds (hs : s.Upholds s₀) : (execGetVendorIdentity s).Upholds s₀ :=
  mailbox_upholds _ _ hs hs

theorem execGetPersistenceStatus_upholds (hs : s.Upholds s₀) : (execGetPersistenceStatus s).Upholds s₀ :=
  mailbox_upholds _ _ hs hs

theorem execGetSuiteStatus_upholds (first : Nat) (count : Nat) (hs : s.Upholds s₀) : (execGetSuiteStatus first count s).Upholds s₀ := by
  refine (next_upholds _).2 (mailbox_upholds _ _ hs ?_)
  split
  · exact hs
  · exact hs

theorem execHarbourAcknowledge_upholds (hs : s.Upholds s₀) : (execHarbourAcknowledge s).Upholds s₀ := by
  simp [execHarbourAcknowledge, hs]

@[simp] theorem lapse_upholds (hs : s.Upholds s₀) : (lapse s).Upholds s₀ := by
  simp [lapse, hs, ↓upholds_mk_eq, ↓owes_eq]

theorem execSetEnergyGrant_upholds (joules validS seq : Nat) (hs : s.Upholds s₀) :
    (execSetEnergyGrant joules validS seq s).Upholds s₀ := by
  unfold execSetEnergyGrant
  rw [next_upholds]
  refine mailbox_upholds _ _ hs ?_
  extract_lets old g rek s₁
  have h₁ : s₁.Upholds s₀ := hs
  split
  · exact hs
  · exact (mbxRc_upholds _).2 (ite_upholds _ (lapse_upholds h₁) (wantRek_upholds.2 h₁))

theorem execGrantLapse_upholds (hs : s.Upholds s₀) : (execGrantLapse s).Upholds s₀ := by
  unfold execGrantLapse; (repeat' split) <;> simp [*]

theorem execGetReckoning_upholds (hs : s.Upholds s₀) : (execGetReckoning s).Upholds s₀ :=
  mailbox_upholds _ _ hs hs

theorem execGetLastSaveReport_upholds (hs : s.Upholds s₀) : (execGetLastSaveReport s).Upholds s₀ :=
  mailbox_upholds _ _ hs hs

theorem execGetRestoredPoisonTiles_upholds (start : Nat) (hs : s.Upholds s₀) : (execGetRestoredPoisonTiles start s).Upholds s₀ :=
  mailbox_upholds _ _ hs hs

theorem execGetLifetimeCounters_upholds (hs : s.Upholds s₀) : (execGetLifetimeCounters s).Upholds s₀ :=
  mailbox_upholds _ _ hs hs

theorem execGetMirrorStatus_upholds (hs : s.Upholds s₀) : (execGetMirrorStatus s).Upholds s₀ :=
  mailbox_upholds _ _ hs hs

theorem execPromote_upholds (set : Nat) (force : Bool) (hs : s.Upholds s₀) :
    (execPromote set force s).Upholds s₀ := by
  unfold execPromote
  rw [next_upholds]
  refine mailbox_upholds _ _ hs ?_
  split
  · exact hs
  · refine forSet_upholds _ _ hs fun m => ?_
    (repeat' split) <;> simp [hs]

theorem execHandover_upholds (set noticeMs : Nat) (hs : s.Upholds s₀) :
    (execHandover set noticeMs s).Upholds s₀ := by
  unfold execHandover
  rw [next_upholds]
  refine mailbox_upholds _ _ hs ?_
  refine forSet_upholds _ _ hs fun m => ?_
  split <;> simp [hs]

theorem execDrill_upholds (set dwellS : Nat) (hs : s.Upholds s₀) : (execDrill set dwellS s).Upholds s₀ := by
  unfold execDrill
  rw [next_upholds]
  refine mailbox_upholds _ _ hs ?_
  refine forSet_upholds _ _ hs fun m => ?_
  split <;> simp [hs]

theorem execGetDrillResult_upholds (set : Nat) (hs : s.Upholds s₀) : (execGetDrillResult set s).Upholds s₀ := by
  refine (next_upholds _).2 (mailbox_upholds _ _ hs ?_)
  split
  · exact hs
  · exact hs

/-! ### Commands of the model (`Power`) -/

theorem execP12vBelowThreshold_upholds (hs : s.Upholds s₀) :
    (execP12vBelowThreshold s).Upholds s₀ := by
  unfold execP12vBelowThreshold
  split
  · extract_lets nrg s₁ nrg₁ s₂ sav s₃ sav₁ s₄ sav₂
    have h₁ : s₁.Upholds s₀ := hs
    have h₂ : s₂.Upholds s₀ := ite_upholds _ h₁ (markStep_upholds.2 (h₁))
    have h₃ : s₃.Upholds s₀ := h₂
    have h₄ : s₄.Upholds s₀ := fenceTrigger_upholds _ (h₃)
    have he : Res.Upholds s₀ (.next (if packUsable s₄ then s₄ else exhausted s₄)) :=
      ite_upholds _ h₄ (exhausted_upholds h₄)
    split
    · exact he
    · exact he
    · exact fenceTrigger_upholds _ (h₁)
    · exact fenceTrigger_upholds _ (h₁)
    · exact fenceTrigger_upholds _ (h₁)
    · exact fenceTrigger_upholds _ h₁
  · exact hs

theorem bootFromOff_upholds (hs : s.Upholds s₀) (ha : s.log.aonPowered = false → s₀.almanac = 0) :
    (bootFromOff s).Upholds s₀ := by
  unfold bootFromOff
  exact ite_upholds _ (enterBoot_upholds (coldRestore_upholds hs ha)) hs

theorem bootFromSaved_upholds (ends : Bool) (hs : s.Upholds s₀) (ha : s.log.aonPowered = false → s₀.almanac = 0) :
    (bootFromSaved ends s).Upholds s₀ := by
  unfold bootFromSaved
  exact ite_upholds _ (enterBoot_upholds (coldRestore_upholds hs ha)) hs

@[simp] theorem mainsInSaving_upholds : (mainsInSaving s).Upholds s₀ ↔ s.Upholds s₀ := by
  have q := @mainsInSaving_frame
  simp only [State.Upholds, q]

theorem execP12vValid_upholds (aux : Bool) (hs : s.Upholds s₀) (ha : s.log.aonPowered = false → s₀.almanac = 0) :
    (execP12vValid aux s).Upholds s₀ := by
  unfold execP12vValid
  extract_lets absent nrg s₁
  have h₁ : s₁.Upholds s₀ := hs
  have a₁ : s₁.log.aonPowered = false → s₀.almanac = 0 := ha
  split
  · exact bootFromOff_upholds (h₁) a₁
  · exact bootFromSaved_upholds _ h₁ a₁
  · exact h₁
  · split
    · exact h₁
    · simp [h₁, ↓upholds_mk_eq, ↓owes_eq]

theorem execMusterInLow_upholds (highAfter : Option Nat) (hs : s.Upholds s₀) :
    (execMusterInLow highAfter s).Upholds s₀ := by
  simp only [execMusterInLow]; (repeat' split) <;> simp [*, ↓upholds_mk_eq, ↓owes_eq]

theorem execPerstNDeassert_upholds (hs : s.Upholds s₀) (ha : s.log.aonPowered = false → s₀.almanac = 0) :
    (execPerstNDeassert s).Upholds s₀ := by
  unfold execPerstNDeassert
  extract_lets asserted nrg s₁
  have h₁ : s₁.Upholds s₀ := hs
  have a₁ : s₁.log.aonPowered = false → s₀.almanac = 0 := ha
  split
  · exact bootFromOff_upholds h₁ a₁
  · exact bootFromSaved_upholds _ h₁ a₁
  · exact h₁

theorem execDrydockPowerRemoved_upholds : (execDrydockPowerRemoved s).Upholds s₀ ↔ s.Upholds s₀ := by
  unfold execDrydockPowerRemoved; (repeat' split) <;> simp [↓upholds_mk_eq, ↓owes_eq]

theorem execRailsValid_upholds : (execRailsValid s).Upholds s₀ ↔ s.Upholds s₀ := by
  unfold execRailsValid; (repeat' split) <;> simp [↓upholds_mk_eq, ↓owes_eq]

theorem execRailUv_upholds (rail : Nat) (foldback : Bool) (hs : s.Upholds s₀) :
    (execRailUv rail foldback s).Upholds s₀ := by
  unfold execRailUv; (repeat' split) <;> simp [*, ↓upholds_mk_eq, ↓owes_eq]

theorem execRailLost_upholds (rail : Nat) (hs : s.Upholds s₀) : (execRailLost rail s).Upholds s₀ := by
  unfold execRailLost; (repeat' split) <;> simp [*, ↓upholds_mk_eq, ↓owes_eq]

@[simp] theorem enterStage_upholds (new : Nat) (hs : s.Upholds s₀) : (enterStage new s).Upholds s₀ := by
  simp only [enterStage]; (repeat' split) <;> simp [*, ↓upholds_mk_eq, ↓owes_eq]

theorem execDieTempSample_upholds (die : List Int) (stackTemps : Word) (rails : List Nat) (powerDw : Nat) (refPresent : Bool)
    (hs : s.Upholds s₀) : (execDieTempSample die stackTemps rails powerDw refPresent s).Upholds s₀ := by
  unfold execDieTempSample
  split
  · generalize hottest die = x
    obtain ⟨tj, idx⟩ := x
    extract_lets s₁ was r pwr
    have h₁ : s₁.Upholds s₀ := advanceTo_upholds _ hs
    dsimp -zeta only
    extract_lets p s₂ cool pwr₁ s₃
    have h₂ : s₂.Upholds s₀ := enterStage_upholds _ (h₁)
    have h₃ : s₃.Upholds s₀ := h₂
    exact ite_upholds _ (raiseAt_upholds _ _ _ _ _ h₃) h₃
  · exact hs

theorem execThrottleExit_upholds (hs : s.Upholds s₀) : (execThrottleExit s).Upholds s₀ := by
  unfold execThrottleExit
  split
  · exact hs
  · extract_lets s₁ n cool pwr s₂ s₃
    have h₁ : s₁.Upholds s₀ := advanceTo_upholds _ hs
    have h₃ : s₃.Upholds s₀ := (addEvent_upholds (s := s₂) _ _).2 h₁
    exact ite_res_upholds _ (ite_upholds _ ((alertBit_upholds _).2 h₃) h₃) hs

/-! ### Operations of the model (`OpsRegWrite`) -/

@[simp] theorem badWrite_upholds (c : FClass) (hs : s.Upholds s₀) : (badWrite c s).Upholds s₀ := by
  simp [badWrite, hs]

@[simp] theorem ranged_upholds (ok : Bool) (c : FClass) (f : State → State) (hs : s.Upholds s₀)
    (hf : (f s).Upholds s₀) : (ranged ok c f s).Upholds s₀ := by
  unfold ranged
  exact ite_upholds _ hf (badWrite_upholds _ hs)

@[simp] theorem clearPeak_upholds (ofs : Nat) : (clearPeak ofs s).Upholds s₀ ↔ s.Upholds s₀ := by
  unfold clearPeak; (repeat' split) <;> simp [↓upholds_mk_eq, ↓owes_eq]

@[simp] theorem clearBit31_upholds (ofs : Nat) (w : Word) : (clearBit31 ofs w s).Upholds s₀ ↔ s.Upholds s₀ := by
  unfold clearBit31; (repeat' split) <;> simp

@[simp] theorem writeHst_upholds (o : Nat) (w : Word) : (writeHst o w s).Upholds s₀ ↔ s.Upholds s₀ := by
  unfold writeHst; (repeat' split) <;> simp [↓upholds_mk_eq, ↓owes_eq]

@[simp] theorem writeDrc_upholds (o : Nat) (w : Word) (hs : s.Upholds s₀) : (writeDrc o w s).Upholds s₀ := by
  unfold writeDrc
  extract_lets d set
  have hset : ∀ x : Drc, (set x s).Upholds s₀ := fun _ => hs
  clear_value set
  split
  · exact ranged_upholds _ _ _ hs (hset _)
  · exact ranged_upholds _ _ _ hs (hset _)
  · exact ranged_upholds _ _ _ hs (ite_upholds _ (forceDouble_upholds.2 (hset _)) (hset _))
  · exact ranged_upholds _ _ _ hs (hset _)
  · exact ranged_upholds _ _ _ hs (hset _)
  · exact hset _
  · exact ranged_upholds _ _ _ hs (hset _)
  · exact hset _
  · exact hs

@[simp] theorem writeStw_upholds (o : Nat) (w : Word) (hs : s.Upholds s₀) : (writeStw o w s).Upholds s₀ := by
  unfold writeStw; (repeat' split) <;> simp [*, ↓upholds_mk_eq, ↓owes_eq]

@[simp] theorem writeSav_upholds (o : Nat) (w : Word) : (writeSav o w s).Upholds s₀ ↔ s.Upholds s₀ := by
  simp only [writeSav]; (repeat' split) <;> simp [↓upholds_mk_eq, ↓owes_eq]

@[simp] theorem newThresh_upholds (t : Nat) (hs : s.Upholds s₀) : (newThresh t s).Upholds s₀ := by
  simp only [newThresh]; (repeat' split) <;> simp [*, ↓upholds_mk_eq, ↓owes_eq]

@[simp] theorem writeCel_upholds (o : Nat) (w : Word) (hs : s.Upholds s₀) : (writeCel o w s).Upholds s₀ := by
  unfold writeCel; (repeat' split) <;> simp [*, ↓upholds_mk_eq, ↓owes_eq]

@[simp] theorem writeNrg_upholds (o : Nat) (w : Word) (hs : s.Upholds s₀) : (writeNrg o w s).Upholds s₀ := by
  unfold writeNrg
  split
  · exact ranged_upholds _ _ _ hs hs
  · exact ranged_upholds _ _ _ hs hs
  · refine ranged_upholds _ _ _ hs ?_
    extract_lets nrg s₁ s₂
    have h₂ : s₂.Upholds s₀ := ite_upholds _ (exerciseStart_upholds.2 hs) hs
    exact ite_upholds _ (exerciseAbort_upholds h₂) h₂
  · exact hs

@[simp] theorem writeGau_upholds (o : Nat) (w : Word) : (writeGau o w s).Upholds s₀ ↔ s.Upholds s₀ := by
  have q := @writeGau_frame
  simp only [State.Upholds, q]

@[simp] theorem writeRek_upholds (o : Nat) (w : Word) (hs : s.Upholds s₀) : (writeRek o w s).Upholds s₀ := by
  unfold writeRek; (repeat' split) <;> simp [*, ↓upholds_mk_eq, ↓owes_eq]

@[simp] theorem writePlk_upholds (o : Nat) (w : Word) (hs : s.Upholds s₀) : (writePlk o w s).Upholds s₀ := by
  unfold writePlk; (repeat' split) <;> simp [*, ↓upholds_mk_eq, ↓owes_eq]

@[simp] theorem writeChanCtl_upholds (n : Nat) (w : Word) (hs : s.Upholds s₀) : (writeChanCtl n w s).Upholds s₀ := by
  unfold writeChanCtl; (repeat' split) <;> simp [*]

@[simp] theorem writeChanWin_upholds (n : Nat) (w : Word) (hs : s.Upholds s₀) : (writeChanWin n w s).Upholds s₀ := by
  simp only [writeChanWin]; (repeat' split) <;> simp [*]

@[simp] theorem writeDmw_upholds (o : Nat) (w : Word) (hs : s.Upholds s₀) : (writeDmw o w s).Upholds s₀ := by
  unfold writeDmw; (repeat' split) <;> simp [*]

@[simp] theorem writeAtt_upholds (o : Nat) (w : Word) (hs : s.Upholds s₀) : (writeAtt o w s).Upholds s₀ := by
  unfold writeAtt; (repeat' split) <;> simp [*, ↓upholds_mk_eq, ↓owes_eq]

@[simp] theorem writeEcc_upholds (o : Nat) (w : Word) (hs : s.Upholds s₀) : (writeEcc o w s).Upholds s₀ := by
  unfold writeEcc; (repeat' split) <;> simp [*, ↓upholds_mk_eq, ↓owes_eq]

@[simp] theorem clearAlert_upholds (b : Byte) : (clearAlert b s).Upholds s₀ ↔ s.Upholds s₀ :=
  Iff.rfl

@[simp] theorem writeAlert_upholds (w : Word) : (writeAlert w s).Upholds s₀ ↔ s.Upholds s₀ :=
  Iff.rfl

@[simp] theorem writeTws_upholds (o : Nat) (w : Word) : (writeTws o w s).Upholds s₀ ↔ s.Upholds s₀ := by
  have q := @writeTws_frame
  simp only [State.Upholds, q]

@[simp] theorem writeTwp_upholds (o : Nat) (w : Word) : (writeTwp o w s).Upholds s₀ ↔ s.Upholds s₀ := by
  have q := @writeTwp_frame
  simp only [State.Upholds, q]

@[simp] theorem writeSvc_upholds (o : Nat) (w : Word) (hs : s.Upholds s₀) : (writeSvc o w s).Upholds s₀ := by
  unfold writeSvc; (repeat' split) <;> simp [*, ↓upholds_mk_eq, ↓owes_eq]

@[simp] theorem writeLog_upholds (o : Nat) (w : Word) (hs : s.Upholds s₀) : (writeLog o w s).Upholds s₀ := by
  unfold writeLog; (repeat' split) <;> simp [*, ↓upholds_mk_eq, ↓owes_eq]

@[simp] theorem writePwr_upholds (o : Nat) (w : Word) (hs : s.Upholds s₀) : (writePwr o w s).Upholds s₀ := by
  unfold writePwr; (repeat' split) <;> simp [*, ↓upholds_mk_eq, ↓owes_eq]

@[simp] theorem writeStation_upholds (b : Block) (o : Nat) (w : Word) : (writeStation b o w s).Upholds s₀ ↔ s.Upholds s₀ := by
  have q := @writeStation_frame
  simp only [State.Upholds, q]

@[simp] theorem writeBlock_upholds (b : Block) (o : Nat) (w : Word) (hs : s.Upholds s₀) : (writeBlock b o w s).Upholds s₀ := by
  unfold writeBlock; (repeat' split) <;> simp [*]

@[simp] theorem writePair_upholds (lo : Nat) (l : Word) (h : Word) : (writePair lo l h s).Upholds s₀ ↔ s.Upholds s₀ := by
  unfold writePair; (repeat' split) <;> simp [↓upholds_mk_eq, ↓owes_eq]

@[simp] theorem holdLo_upholds (ofs : Nat) (w : Word) : (holdLo ofs w s).Upholds s₀ ↔ s.Upholds s₀ :=
  Iff.rfl

@[simp] theorem writeHi_upholds (lo : Nat) (w : Word) : (writeHi lo w s).Upholds s₀ ↔ s.Upholds s₀ := by
  simp [writeHi, ↓upholds_mk_eq, ↓owes_eq]

@[simp] theorem writeAt_upholds (ofs : Nat) (w : Word) (hs : s.Upholds s₀) :
    (writeAt ofs w s).Upholds s₀ := by
  unfold writeAt
  refine ite_upholds _ ((holdLo_upholds ..).2 hs) (ite_upholds _ ((writeHi_upholds ..).2 hs) ?_)
  split
  · exact hs
  · exact ite_upholds _ ((writeStation_upholds ..).2 hs) (writeBlock_upholds _ _ _ hs)

@[simp] theorem writeReg_upholds (ofs : Nat) (w : Word) (hs : s.Upholds s₀) : (writeReg ofs w s).Upholds s₀ := by
  unfold writeReg; (repeat' split) <;> simp [*]

/-! ### Commands of the model (`Registers`) -/

theorem execBadAccess_upholds (bar2 : Bool) (offset : Nat) (size : Nat) (write : Bool) (hs : s.Upholds s₀) :
    (execBadAccess bar2 offset size write s).Upholds s₀ := by
  unfold execBadAccess; (repeat' split) <;> simp [*]

@[simp] theorem ringHostWrite_upholds (ofs : Nat) (w : Word) (hs : s.Upholds s₀) : (ringHostWrite ofs w s).Upholds s₀ := by
  unfold ringHostWrite
  refine ite_upholds _ (ite_upholds _ hs ?_) (raiseAddr_upholds _ _ _ _ hs)
  exact (upholds_ring hs (twf_ringWrite _ _ _))

theorem execRegisterWrite_upholds (bar2 : Bool) (offset : Nat) (value : Word) (hs : s.Upholds s₀) :
    (execRegisterWrite bar2 offset value s).Upholds s₀ := by
  unfold execRegisterWrite; (repeat' split) <;> simp [*]

@[simp] theorem ringHostRead_upholds (ofs : Nat) (hs : s.Upholds s₀) : (ringHostRead ofs s).Upholds s₀ := by
  simp only [ringHostRead]; (repeat' split) <;> simp [*, ↓upholds_mk_eq, ↓owes_eq]

@[simp] theorem hostRead_upholds (ofs : Nat) (hs : s.Upholds s₀) : (hostRead ofs s).Upholds s₀ := by
  unfold hostRead; (repeat' split) <;> simp [*]

theorem execRegPairLoRead_upholds (bar2 : Bool) (offset : Nat) (hs : s.Upholds s₀) :
    (execRegPairLoRead bar2 offset s).Upholds s₀ := by
  unfold execRegPairLoRead; (repeat' split) <;> simp [*]

theorem execRegPairHiWrite_upholds (offset : Nat) (lo : Word) (hi : Word) (hs : s.Upholds s₀) :
    (execRegPairHiWrite offset lo hi s).Upholds s₀ := by
  unfold execRegPairHiWrite; (repeat' split) <;> simp [*]

theorem execPeakClear_upholds (offset : Nat) : (execPeakClear offset s).Upholds s₀ ↔ s.Upholds s₀ := by
  unfold execPeakClear; (repeat' split) <;> simp

/-! ### Operations of the model (`OpsHatch`) -/

@[simp] theorem dropPackage_upholds (hs : s.Upholds s₀) : (dropPackage s).Upholds s₀ := by
  unfold dropPackage; (repeat' split) <;> simp [*, ↓upholds_mk_eq, ↓owes_eq]

@[simp] theorem endSession_upholds (hs : s.Upholds s₀) : (endSession s).Upholds s₀ := by
  simp [endSession, hs, ↓upholds_mk_eq, ↓owes_eq]

@[simp] theorem withRole_upholds (k : Nat) (f : State → SvcAns) (hs : s.Upholds s₀) (hf : (f s).2.2.2.Upholds s₀) :
    (withRole k s f).2.2.2.Upholds s₀ := by
  unfold withRole
  split
  · exact hf
  · exact hs

@[simp] theorem inStates_upholds (ok : Bool) (f : State → SvcAns) (hs : s.Upholds s₀) (hf : (f s).2.2.2.Upholds s₀) :
    (inStates ok s f).2.2.2.Upholds s₀ := by
  unfold inStates
  split
  · exact hf
  · exact hs

@[simp] theorem wellInput_upholds (ok : Bool) (f : State → SvcAns) (hs : s.Upholds s₀) (hf : (f s).2.2.2.Upholds s₀) :
    (wellInput ok s f).2.2.2.Upholds s₀ := by
  unfold wellInput
  split
  · exact hf
  · exact hs

@[simp] theorem helloCmd_upholds (input : List Byte) (hs : s.Upholds s₀) : (helloCmd input s).2.2.2.Upholds s₀ := by
  refine wellInput_upholds _ _ hs ?_
  have h₁ : (endSession s).Upholds s₀ := by simp [hs]
  dsimp only
  split
  · exact h₁
  · exact h₁

@[simp] theorem authFails_upholds (status : Nat) (hs : s.Upholds s₀) :
    (authFails status s).2.2.2.Upholds s₀ := by
  unfold authFails
  extract_lets v fails s₁ locks s₂ until_ svc
  have h₁ : s₁.Upholds s₀ := raise_upholds _ (hs)
  have h₂ : s₂.Upholds s₀ := ite_upholds _ (endSession_upholds h₁) h₁
  exact h₂

@[simp] theorem authCmd_upholds (input : List Byte) (hs : s.Upholds s₀) : (authCmd input s).2.2.2.Upholds s₀ := by
  refine inStates_upholds _ _ hs (wellInput_upholds _ _ hs ?_)
  split
  · exact hs
  · extract_lets key qT roles sig m
    split
    · simp [hs]
    · split
      · simp [hs]
      split
      · simp [hs]
      · exact hs

@[simp] theorem readRegs_upholds (n ofs : Nat) (hs : s.Upholds s₀) : (readRegs n ofs s).2.Upholds s₀ := by
  induction n generalizing ofs s with
  | zero => exact hs
  | succ n ih =>
      refine ih _ ?_
      split
      · exact readAs_upholds _ _ hs
      · exact raiseAddr_upholds _ _ _ _ hs

@[simp] theorem readWords_upholds (n i ofs : Nat) (failAt : Option Nat) (hs : s.Upholds s₀) :
    (readWords n i ofs failAt s).2.Upholds s₀ := by
  induction n generalizing i ofs s with
  | zero => exact hs
  | succ n ih =>
      unfold readWords
      extract_lets d r
      have hr : r.2.Upholds s₀ := by
        have hw := readWindow_upholds mService ofs d hs
        simp only [r]
        split
        · next e => rwa [e] at hw
        · next e =>
            rw [e] at hw
            exact readArray_upholds _ _ _ hw
      split
      · exact hr
      · exact ih _ _ hr

@[simp] theorem beginBank_upholds (l : List Byte) (hs : s.Upholds s₀) : (beginBank l s).Upholds s₀ := by
  unfold beginBank
  exact programBytes_upholds _ _ _ (programBytes_upholds _ _ _ (foldl_upholds _ hs fun _ _ => eraseSector_upholds _ _))

@[simp] theorem pkgBegin_upholds (input : List Byte) (attic : Option Nat) (hs : s.Upholds s₀) :
    (pkgBegin input attic s).2.2.2.Upholds s₀ := by
  unfold pkgBegin
  refine wellInput_upholds _ _ hs (withRole_upholds _ _ hs (inStates_upholds _ _ hs ?_))
  split
  · exact ite_upholds _ (rejectPlan_upholds _ _ hs) hs
  split
  · exact hs
  split
  · exact hs
  split
  · exact hs
  split
  · exact hs
  extract_lets svc s₁ svc₁ s₂ svc₂
  have h₁ : s₁.Upholds s₀ := hs
  have h₂ : s₂.Upholds s₀ := ite_upholds _ (beginBank_upholds _ h₁) h₁
  split
  · split
    · dsimp only
      refine setPhase_upholds _ _ ?_
      exact foldl_upholds _ h₁ fun _ _ => eraseSector_upholds _ _
    · exact setPhase_upholds _ _ (h₁)
  · exact setPhase_upholds _ _ (h₂)

@[simp] theorem writeTarget_upholds (p : PkgRun) (e : ChunkEntry) (l : List Byte) (hs : s.Upholds s₀) :
    (writeTarget p e l s).Upholds s₀ := by
  unfold writeTarget; (repeat' split) <;> simp [*, ↓upholds_mk_eq, ↓owes_eq]

@[simp] theorem performEntry_upholds (p : PkgRun) (e : ChunkEntry) (hs : s.Upholds s₀) : (performEntry p s e).Upholds s₀ := by
  unfold performEntry; (repeat' split) <;> simp [*]

@[simp] theorem pkgFails_upholds (status : Nat) (detail : Nat) (index : Nat) (hs : s.Upholds s₀) :
    (pkgFails status detail index s).2.2.2.Upholds s₀ := by
  simp [pkgFails, hs]

@[simp] theorem countChunk_upholds : (countChunk s).Upholds s₀ ↔ s.Upholds s₀ := by
  exact Iff.rfl

@[simp] theorem tableChunk_upholds (p : PkgRun) (index : Nat) (body : List Byte) (attic : Option Nat) (hs : s.Upholds s₀) :
    (tableChunk p index body attic s).2.2.2.Upholds s₀ := by
  simp only [tableChunk]; (repeat' split) <;> simp +contextual [*, ↓upholds_mk_eq, ↓owes_eq, foldl_upholds]

@[simp] theorem dataChunk_upholds (p : PkgRun) (t : List ChunkEntry) (index : Nat) (body : List Byte) (attic : Option Nat)
    (readBack : Bool) (hs : s.Upholds s₀) : (dataChunk p t index body attic readBack s).2.2.2.Upholds s₀ := by
  unfold dataChunk
  split
  · exact hs
  next e _ =>
    have h := writeTarget_upholds p e body hs
    split
    · exact pkgFails_upholds _ _ _ hs
    · cases attic with
      | some c => exact pkgFails_upholds _ _ _ hs
      | none =>
          dsimp only
          split
          · exact pkgFails_upholds _ _ _ h
          · split
            · exact h
            · exact countChunk_upholds.2 h

@[simp] theorem pkgChunk_upholds (input : List Byte) (attic : Option Nat) (readBack : Bool) (hs : s.Upholds s₀) :
    (pkgChunk input attic readBack s).2.2.2.Upholds s₀ := by
  unfold pkgChunk
  split
  · exact hs
  · refine withRole_upholds _ _ hs (inStates_upholds _ _ hs (wellInput_upholds _ _ hs ?_))
    extract_lets index data next
    split
    · exact hs
    · split
      · exact pkgFails_upholds _ _ _ hs
      · exact tableChunk_upholds _ _ _ _ hs
      · exact dataChunk_upholds _ _ _ _ _ _ hs

/-- The state `s` with the service key store `keys`. -/
def withKeys (keys : List KeyEntry) (s : State) : State := { s with svc := { s.svc with keyStore := keys } }

/-- Only a package of KIND 4 replaces the key store, with at most four entries (R616). -/
theorem loadStore_upholds (kind : Nat) (l : List Byte) (hs : s.Upholds s₀) :
    (loadStore kind l s).Upholds s₀ ∨ kind = 4 ∧ ∃ keys : List KeyEntry, keys.length ≤ 4 ∧
      (loadStore kind l s).Upholds (withKeys keys s₀) := by
  unfold loadStore
  split
  · exact .inl (hs)
  · split
    · next h => exact .inr ⟨h, (List.range (min 4 (l.length / 64))).map fun i =>
        { hash := (l.drop (64 * i)).take 32, roles := num l (64 * i + 32) 1 },
        by simpa only [List.length_map, List.length_range] using Nat.min_le_left 4 _, ⟨hs.almanac, hs.arrays, rfl, hs.epoch, hs.fuses, hs.pending⟩⟩
    · exact .inl hs

theorem guarded_of_upholds (k : Nat) (ok : State → Bool) (f : State → SvcAns) (hs : s.Upholds s₀) :
    (withRole k s fun s => inStates (ok s) s f).2.2.2.Upholds s₀ ∨ (withRole k s fun s => inStates (ok s) s f) = f s := by
  unfold withRole inStates
  split
  · dsimp only
    split
    · exact .inr rfl
    · exact .inl hs
  · exact .inl hs

theorem pkgEnd_upholds (attic : Option Nat) (hs : s.Upholds s₀) :
    (pkgEnd attic s).2.2.2.Upholds s₀ ∨ ∃ p, s.svc.pkg = some p ∧ p.hdr.kind = 4 ∧ ∃ keys : List KeyEntry, keys.length ≤ 4 ∧
      (pkgEnd attic s).2.2.2.Upholds (withKeys keys s₀) := by
  unfold pkgEnd
  split
  · exact .inl hs
  · next p hp =>
      obtain h | e := guarded_of_upholds (kindRole p.hdr.kind) (fun s => kindStates s p.hdr.kind) (fun s => _) hs
      · exact .inl h
      rw [e]
      extract_lets done obj closed r s₁
      have hc : (closed s).Upholds s₀ := hs
      have hr : r.2.Upholds s₀ := deliverPlan_upholds _ _ _ hc
      have h₁ : s₁.Upholds s₀ := setPhase_upholds _ _ hr
      split
      · exact .inl hs
      split
      · exact .inl (dropPackage_upholds hs)
      split
      · left
        split
        · exact h₁
        · split <;> exact h₁
      · split
        · exact .inl (dropPackage_upholds hs)
        · split
          · exact .inl (setPhase_upholds _ _ (programMarker_upholds _ _ _ hc))
          · obtain h | ⟨hk, keys, hl, h⟩ := loadStore_upholds p.hdr.kind obj hc
            · exact .inl (setPhase_upholds _ _ h)
            · exact .inr ⟨p, hp, hk, keys, hl, setPhase_upholds _ _ h⟩

@[simp] theorem pkgAbort_upholds (hs : s.Upholds s₀) : (pkgAbort s).2.2.2.Upholds s₀ := by
  unfold pkgAbort
  split
  · exact withRole_upholds _ _ hs (inStates_upholds _ _ hs (dropPackage_upholds hs))
  · refine withRole_upholds _ _ hs (inStates_upholds _ _ hs ?_)
    dsimp only
    split
    · exact setPhase_upholds _ _ (programMarker_upholds _ _ _ hs)
    · exact hs

@[simp] theorem noteResult_upholds (a : SvcAns) : (noteResult a).2.2.2.Upholds s₀ ↔ a.2.2.2.Upholds s₀ :=
  Iff.rfl

/-! ### Commands of the model (`Service`) -/

theorem execSvcHello_upholds (seq : Nat) (input : List Byte) (hs : s.Upholds s₀) :
    (execSvcHello seq input s).Upholds s₀ := by
  simp +contextual [execSvcHello, hs]

theorem execSvcAuth_upholds (seq : Nat) (input : List Byte) (hs : s.Upholds s₀) :
    (execSvcAuth seq input s).Upholds s₀ := by
  simp +contextual [execSvcAuth, hs]

theorem execSvcClose_upholds (seq : Nat) (hs : s.Upholds s₀) : (execSvcClose seq s).Upholds s₀ := by
  simp +contextual [execSvcClose, hs]

theorem execSvcStatus_upholds (seq : Nat) (hs : s.Upholds s₀) : (execSvcStatus seq s).Upholds s₀ := by
  simp [execSvcStatus, hs]

theorem execReadLog_upholds (seq : Nat) (input : List Byte) (hs : s.Upholds s₀) :
    (execReadLog seq input s).Upholds s₀ :=
  svcFrame_upholds _ _ _ hs fun _ ht => withRole_upholds _ _ ht (inStates_upholds _ _ ht (wellInput_upholds _ _ ht ht))

theorem execReadReg_upholds (seq : Nat) (input : List Byte) (hs : s.Upholds s₀) :
    (execReadReg seq input s).Upholds s₀ :=
  svcFrame_upholds _ _ _ hs fun _ ht =>
    withRole_upholds _ _ ht (inStates_upholds _ _ ht (wellInput_upholds _ _ ht (readRegs_upholds _ _ ht)))

theorem execReadAttic_upholds (seq : Nat) (input : List Byte) (failAt : Option Nat) (hs : s.Upholds s₀) :
    (execReadAttic seq input failAt s).Upholds s₀ := by
  refine svcFrame_upholds _ _ _ hs fun t ht => withRole_upholds _ _ ht (inStates_upholds _ _ ht (wellInput_upholds _ _ ht ?_))
  split
  · exact ht
  · have hr := readWords_upholds (num input 4 2 / 8) 0 (num input 0 4) failAt ht
    split <;> next e => rwa [e] at hr

theorem execReadNand_upholds (seq : Nat) (input : List Byte) (ok : Bool) (hs : s.Upholds s₀) :
    (execReadNand seq input ok s).Upholds s₀ := by
  refine svcFrame_upholds _ _ _ hs fun t ht => withRole_upholds _ _ ht (inStates_upholds _ _ ht (wellInput_upholds _ _ ht ?_))
  split
  · exact raiseAddr_upholds _ _ _ _ (ht)
  · exact ht

theorem execPkgBegin_upholds (seq : Nat) (input : List Byte) (attic : Option Nat) (hs : s.Upholds s₀) :
    (execPkgBegin seq input attic s).Upholds s₀ := by
  simp +contextual [execPkgBegin, hs]

theorem execPkgChunk_upholds (seq : Nat) (input : List Byte) (attic : Option Nat) (readBack : Bool) (hs : s.Upholds s₀) :
    (execPkgChunk seq input attic readBack s).Upholds s₀ := by
  simp +contextual [execPkgChunk, hs]

theorem execPkgEnd_upholds (seq : Nat) (attic : Option Nat) (hs : s.Upholds s₀) :
    (execPkgEnd seq attic s).Upholds s₀ ∨ ∃ p, s.svc.pkg = some p ∧ p.hdr.kind = 4 ∧
      ∃ keys : List KeyEntry, keys.length ≤ 4 ∧ (execPkgEnd seq attic s).Upholds (withKeys keys s₀) := by
  obtain h | ⟨t, ht, hp, e⟩ := svcFrameOpt_upholds_or 0x22 seq (fun s => (some (noteResult (pkgEnd attic s)), s)) hs
  · exact .inl h
  · rw [show execPkgEnd seq attic s = .next _ from congrArg Host.Outcome.next e]
    obtain h | ⟨p, hq, hk, keys, hl, h⟩ := pkgEnd_upholds attic ht
    · exact .inl ((answer_upholds ..).2 ((setResult_upholds _).2 h))
    · exact .inr ⟨p, hp ▸ hq, hk, keys, hl, (answer_upholds ..).2 ((setResult_upholds _).2 h)⟩

@[simp] theorem activateSet_upholds (cores : Nat) (attic : Option Nat) (hs : s.Upholds s₀) :
    (∀ a ∈ (activateSet cores attic s).1, a.2.2.2.Upholds s₀) ∧ (activateSet cores attic s).2.Upholds s₀ := by
  have both : ∀ {a : SvcAns} {t : State}, a.2.2.2.Upholds s₀ → t.Upholds s₀ →
      (∀ b ∈ some a, b.2.2.2.Upholds s₀) ∧ t.Upholds s₀ := fun ha ht => ⟨fun b hb => by cases hb; exact ha, ht⟩
  unfold activateSet
  extract_lets b st no s₁ svc s₂ s₃
  have h₁ : s₁.Upholds s₀ := ite_upholds _ (programMarker_upholds _ _ _ hs) hs
  have h₂ : s₂.Upholds s₀ := setPhase_upholds _ _ (h₁)
  have h₃ : s₃.Upholds s₀ := by simp [s₃, h₂]
  split
  · exact both hs hs
  split
  · exact both hs hs
  split
  · exact both hs hs
  split
  · exact both hs hs
  split
  · exact both (raise_upholds _ hs) (raise_upholds _ hs)
  · cases attic with
    | some c => exact both hs hs
    | none =>
        dsimp only
        split
        · exact both h₃ h₃
        · exact ⟨fun _ h => (by cases h), h₂⟩

theorem execActivate_upholds (seq cores : Nat) (attic : Option Nat) (hs : s.Upholds s₀) :
    (execActivate seq cores attic s).Upholds s₀ := by
  unfold execActivate
  rw [next_upholds]
  refine svcFrameOpt_upholds _ _ _ hs fun t ht => ?_
  dsimp only
  obtain ⟨h₁, h₂⟩ := activateSet_upholds cores attic ht
  refine ⟨fun a ha => ?_, h₂⟩
  obtain ⟨b, hb, rfl⟩ := Option.map_eq_some_iff.1 ha
  exact (noteResult_upholds b).2 (h₁ b hb)

theorem execHandoverReadyTimeout_upholds (hs : s.Upholds s₀) :
    (execHandoverReadyTimeout s).Upholds s₀ := by
  unfold execHandoverReadyTimeout
  split
  · extract_lets s₁ s₂ svc
    have h₁ : s₁.Upholds s₀ := advanceTo_upholds _ hs
    have h₂ : s₂.Upholds s₀ := raiseAddr_upholds _ _ _ _ h₁
    exact payOwed_upholds _ _ (setPhase_upholds _ _ (h₂))
  · exact hs

theorem outcomeAnswer_upholds {r : Nat × Nat × State} (h : r.2.2.Upholds s₀) : (outcomeAnswer r).2.2.2.Upholds s₀ := h

theorem setResult_outcome_upholds {r : Nat × Nat × State} (h : r.2.2.Upholds s₀) : (setResult r.1 r.2.2).Upholds s₀ :=
  (setResult_upholds _).2 h

theorem execConfirm_upholds (seq : Nat) (first second : Bool) (hs : s.Upholds s₀) :
    (execConfirm seq first second s).Upholds s₀ := by
  rw [execConfirm_eq, next_upholds]
  refine svcFrame_upholds _ _ _ hs fun t ht =>
    (noteResult_upholds _).2 (withRole_upholds _ _ ht (inStates_upholds _ _ ht ?_))
  exact outcomeAnswer_upholds (confirmSet_upholds first second ht)

theorem execAutoConfirm_upholds (first second : Bool) (hs : s.Upholds s₀) :
    (execAutoConfirm first second s).Upholds s₀ := by
  unfold execAutoConfirm
  split
  · exact setResult_outcome_upholds (confirmSet_upholds first second (advanceTo_upholds _ hs))
  · exact hs

theorem execSvcAbort_upholds (seq : Nat) (hs : s.Upholds s₀) : (execSvcAbort seq s).Upholds s₀ := by
  simp +contextual [execSvcAbort, hs]

theorem execSvcProgress_upholds (seq : Nat) (permille : Nat) (hs : s.Upholds s₀) :
    (execSvcProgress seq permille s).Upholds s₀ := by
  unfold execSvcProgress; (repeat' split) <;> simp [*, ↓upholds_mk_eq, ↓owes_eq]

@[simp] theorem discardFrame_upholds : (discardFrame s).Upholds s₀ ↔ s.Upholds s₀ := by
  unfold discardFrame; (repeat' split) <;> simp [↓upholds_mk_eq, ↓owes_eq]

theorem execSvcFrameTimeout_upholds : (execSvcFrameTimeout s).Upholds s₀ ↔ s.Upholds s₀ := by
  simp [execSvcFrameTimeout]

theorem execDiscardedFrame_upholds : (execDiscardedFrame s).Upholds s₀ ↔ s.Upholds s₀ := by
  simp [execDiscardedFrame]

theorem execSvcPresHigh_upholds (hs : s.Upholds s₀) : (execSvcPresHigh s).Upholds s₀ := by
  unfold execSvcPresHigh; (repeat' split) <;> simp [*, ↓upholds_mk_eq, ↓owes_eq]

theorem execSvcSessionIdle_upholds (hs : s.Upholds s₀) : (execSvcSessionIdle s).Upholds s₀ := by
  unfold execSvcSessionIdle; (repeat' split) <;> simp [*]

theorem execAuthLockoutExpire_upholds (hs : s.Upholds s₀) : (execAuthLockoutExpire s).Upholds s₀ := by
  unfold execAuthLockoutExpire; (repeat' split) <;> simp [*, ↓upholds_mk_eq, ↓owes_eq]

theorem execBootImageCheck_upholds (pass : Bool) (hs : s.Upholds s₀) :
    (execBootImageCheck pass s).Upholds s₀ := by
  unfold execBootImageCheck; (repeat' split) <;> simp [*]

/-! ### Commands of the model (`Tap`) -/

@[simp] theorem tapLoad_upholds (i : TapInstr) (out : Nat) : (tapLoad i out s).Upholds s₀ ↔ s.Upholds s₀ := by
  have q := @tapLoad_frame
  simp only [State.Upholds, q]

theorem execJtagBypass_upholds : (execJtagBypass s).Upholds s₀ ↔ s.Upholds s₀ := by
  simp [execJtagBypass]

theorem execJtagIdcode_upholds : (execJtagIdcode s).Upholds s₀ ↔ s.Upholds s₀ := by
  simp [execJtagIdcode]

theorem execJtagSamplePreload_upholds (pins : List Bool) (cells : List Bool) :
    (execJtagSamplePreload pins cells s).Upholds s₀ ↔ s.Upholds s₀ := by
  unfold execJtagSamplePreload; (repeat' split) <;> simp [↓upholds_mk_eq, ↓owes_eq]

theorem execJtagExtest_upholds (pins : List Bool) (cells : List Bool) :
    (execJtagExtest pins cells s).Upholds s₀ ↔ s.Upholds s₀ := by
  unfold execJtagExtest; (repeat' split) <;> simp [↓upholds_mk_eq, ↓owes_eq]

theorem execJtagClamp_upholds : (execJtagClamp s).Upholds s₀ ↔ s.Upholds s₀ := by
  simp [execJtagClamp]

theorem execJtagHighz_upholds : (execJtagHighz s).Upholds s₀ ↔ s.Upholds s₀ := by
  simp [execJtagHighz]

/-! ### Operations of the model (`OpsTws`) -/

@[simp] theorem movePointer_upholds (n : Nat) : (movePointer n s).Upholds s₀ ↔ s.Upholds s₀ :=
  Iff.rfl

@[simp] theorem applyByte_upholds (b : Byte) : (applyByte b s).Upholds s₀ ↔ s.Upholds s₀ := by
  have q := @applyByte_frame
  simp only [State.Upholds, q]

@[simp] theorem applyWrite_upholds (l : List Byte) : (applyWrite l s).Upholds s₀ ↔ s.Upholds s₀ := by
  have q := @applyWrite_frame
  simp only [State.Upholds, q]

@[simp] theorem twsRaise_upholds (c : FClass) (hs : s.Upholds s₀) : (twsRaise c s).Upholds s₀ := by
  simp [twsRaise, hs]

@[simp] theorem pecError_upholds (hs : s.Upholds s₀) : (pecError s).Upholds s₀ := by
  simp [pecError, hs, ↓upholds_mk_eq, ↓owes_eq]

@[simp] theorem sbStart_upholds : (sbStart s).Upholds s₀ ↔ s.Upholds s₀ :=
  Iff.rfl

@[simp] theorem wakeNak_upholds : (wakeNak s).Upholds s₀ ↔ s.Upholds s₀ :=
  Iff.rfl

@[simp] theorem sbWake_upholds : (sbWake s).Upholds s₀ ↔ s.Upholds s₀ :=
  Iff.rfl

@[simp] theorem onStart_upholds (f : State → State) (hs : s.Upholds s₀) (hf : ∀ t : State, t.Upholds s₀ → (f t).Upholds s₀) :
    (onStart f s).Upholds s₀ := by
  unfold onStart
  split
  · exact (emit_upholds _).2 hs
  split
  · exact (emit_upholds _).2 (hs)
  split
  · exact sbWake_upholds.2 hs
  split
  · exact wakeNak_upholds.2 hs
  · exact hf _ (sbStart_upholds.2 hs)

@[simp] theorem countXfer_upholds : (countXfer s).Upholds s₀ ↔ s.Upholds s₀ :=
  Iff.rfl

@[simp] theorem sbRead_upholds (before : List Byte) (n : Nat) : (sbRead before n s).Upholds s₀ ↔ s.Upholds s₀ := by
  have q := @sbRead_frame
  simp only [State.Upholds, q]

@[simp] theorem sbStop_upholds (addr : Byte) (l : List Byte) (hs : s.Upholds s₀) : (sbStop addr l s).Upholds s₀ := by
  unfold sbStop; (repeat' split) <;> simp [*, ↓upholds_mk_eq, ↓owes_eq]

@[simp] theorem sbRestart_upholds (l : List Byte) (hs : s.Upholds s₀) : (sbRestart l s).Upholds s₀ := by
  unfold sbRestart; (repeat' split) <;> simp [*, ↓upholds_mk_eq, ↓owes_eq]

@[simp] theorem pbGivesUp_upholds (hs : s.Upholds s₀) : (pbGivesUp s).Upholds s₀ := by
  simp only [pbGivesUp]; (repeat' split) <;> simp [*, ↓upholds_mk_eq, ↓owes_eq]

@[simp] theorem pbXferFail_upholds (cmd : Nat) (hs : s.Upholds s₀) : (pbXferFail cmd s).Upholds s₀ := by
  simp [pbXferFail, hs, ↓upholds_mk_eq, ↓owes_eq]

@[simp] theorem pbFail_upholds (cmd : Nat) (hs : s.Upholds s₀) : (pbFail cmd s).Upholds s₀ := by
  unfold pbFail; (repeat' split) <;> simp [*, ↓upholds_mk_eq, ↓owes_eq]

@[simp] theorem pbAttempt_upholds (cmd : Nat) (hs : s.Upholds s₀) : (pbAttempt cmd s).2.Upholds s₀ := by
  unfold pbAttempt; (repeat' split) <;> simp [*, ↓upholds_mk_eq, ↓owes_eq]

@[simp] theorem pbEnd_upholds (cmd : Nat) (ok : Bool) (hs : s.Upholds s₀) : (pbEnd cmd ok s).Upholds s₀ := by
  unfold pbEnd; (repeat' split) <;> simp [*, ↓upholds_mk_eq, ↓owes_eq]

@[simp] theorem pbBroken_upholds (cmd : Nat) (mark : Twp → Twp) (c : FClass) (hs : s.Upholds s₀) :
    (pbBroken cmd mark c s).Upholds s₀ := by
  have ha : (pbAttempt cmd s).2.Upholds s₀ := by simp [hs]
  unfold pbBroken
  generalize pbAttempt cmd s = t at ha
  exact pbFail_upholds _ (raiseAddr_upholds _ _ _ _ (ha))

@[simp] theorem busClear_upholds (sdaHigh : Bool) (hs : s.Upholds s₀) : (busClear sdaHigh s).Upholds s₀ := by
  unfold busClear; (repeat' split) <;> simp [*, ↓upholds_mk_eq, ↓owes_eq]

/-! ### Commands of the model (`TwoWire`) -/

theorem execSbSleep_upholds (hs : s.Upholds s₀) : (execSbSleep s).Upholds s₀ := by
  unfold execSbSleep; (repeat' split) <;> simp [*, ↓upholds_mk_eq, ↓owes_eq]

theorem execSbWake_upholds : (execSbWake s).Upholds s₀ ↔ s.Upholds s₀ := by
  unfold execSbWake; (repeat' split) <;> simp

theorem execSbRead_upholds (addr : Nat) (n : Nat) (hs : s.Upholds s₀) : (execSbRead addr n s).Upholds s₀ :=
  onStart_upholds _ hs fun _ h => ite_upholds _ ((sbRead_upholds _ _).2 (countXfer_upholds.2 h)) ((emit_upholds _).2 h)

theorem execSbWrite_upholds (addr : Nat) (data : List Byte) (reread : Option Nat) (hs : s.Upholds s₀) :
    (execSbWrite addr data reread s).Upholds s₀ := by
  unfold execSbWrite
  rw [next_upholds]
  refine onStart_upholds _ hs fun t ht => ite_upholds _ ?_ ((emit_upholds _).2 ht)
  cases reread <;> simp [ht]

theorem execSbAlertResponse_upholds (other : Option Nat) (more : Bool) (hs : s.Upholds s₀) :
    (execSbAlertResponse other more s).Upholds s₀ := by
  refine (next_upholds _).2 (onStart_upholds _ hs fun t ht => ?_)
  have h := countXfer_upholds.2 ht
  split
  · cases other with
    | some o => exact ite_upholds _ ((emit_upholds _).2 h) ((emit_upholds _).2 (h))
    | none => exact (emit_upholds _).2 (h)
  · exact (emit_upholds _).2 ht

theorem execSbClkLowTimeout_upholds (acked : Bool) (hs : s.Upholds s₀) :
    (execSbClkLowTimeout acked s).Upholds s₀ := by
  unfold execSbClkLowTimeout
  rw [next_upholds]
  refine onStart_upholds _ hs fun t ht => ?_
  have h₁ : (if acked then countXfer t else t).Upholds s₀ := ite_upholds _ ((countXfer_upholds).2 ht) ht
  extract_lets s₁
  have h₂ : s₁.Upholds s₀ := h₁
  exact ite_upholds _ (twsRaise_upholds _ ((advanceTo_upholds _ h₂))) h₂

theorem execSbDataLowTimeout_upholds (hs : s.Upholds s₀) : (execSbDataLowTimeout s).Upholds s₀ := by
  unfold execSbDataLowTimeout; (repeat' split) <;> simp [*, ↓upholds_mk_eq, ↓owes_eq]

theorem execSbProtocolError_upholds (released : Bool) (hs : s.Upholds s₀) :
    (execSbProtocolError released s).Upholds s₀ := by
  unfold execSbProtocolError
  rw [next_upholds]
  exact onStart_upholds _ hs fun _ ht => twsRaise_upholds _ ((countXfer_upholds.2 ht))

theorem execTwsAlertWrite_upholds (value : Word) :
    (execTwsAlertWrite value s).Upholds s₀ ↔ s.Upholds s₀ := by
  unfold execTwsAlertWrite; (repeat' split) <;> simp

theorem execPbTransaction_upholds (cmd : Nat) (ok : Bool) (hs : s.Upholds s₀) :
    (execPbTransaction cmd ok s).Upholds s₀ := by
  unfold execPbTransaction; (repeat' split) <;> simp [*]

theorem execPbRetry_upholds (ok : Bool) (hs : s.Upholds s₀) : (execPbRetry ok s).Upholds s₀ := by
  unfold execPbRetry; (repeat' split) <;> simp [*]

theorem execPbClkLowTimeout_upholds (cmd : Nat) (sdaLow : Bool) (hs : s.Upholds s₀) :
    (execPbClkLowTimeout cmd sdaLow s).Upholds s₀ := by
  unfold execPbClkLowTimeout; (repeat' split) <;> simp [*]

theorem execPbArbitrationLoss_upholds (cmd : Nat) (cond : Bool) (hs : s.Upholds s₀) :
    (execPbArbitrationLoss cmd cond s).Upholds s₀ := by
  unfold execPbArbitrationLoss; (repeat' split) <;> simp [*]

theorem execPbProtocolError_upholds (cmd : Nat) (hs : s.Upholds s₀) :
    (execPbProtocolError cmd s).Upholds s₀ := by
  unfold execPbProtocolError; (repeat' split) <;> simp [*]

theorem execPbBusClear_upholds (sdaHigh : Bool) (hs : s.Upholds s₀) :
    (execPbBusClear sdaHigh s).Upholds s₀ := by
  unfold execPbBusClear; (repeat' split) <;> simp [*]

/-! ### Every command, and the obligations -/

theorem res_upholds {q r : Res} (h : r.Upholds s₀) (e : q = r) : q.Upholds s₀ := e ▸ h

/-- Every command but the end of a package upholds what `s₀` guarantees. A command that restores the always-on domain may set
the Almanac back, so `s₀` asks for no Almanac where that domain has no power. -/
theorem exec_upholds (c : Instr) (hp : ∀ seq attic, c ≠ .pkgEnd seq attic) (h : s.Upholds s₀)
    (ha : s.log.aonPowered = false → s₀.almanac = 0) : Res.Upholds s₀ (exec c s) := by
  cases c with
  | p12vBelowThreshold => exact res_upholds (execP12vBelowThreshold_upholds h) rfl
  | p12vValid aux => exact res_upholds (execP12vValid_upholds aux h ha) rfl
  | musterInLow highAfter => exact res_upholds (execMusterInLow_upholds highAfter h) rfl
  | perstNDeassert => exact res_upholds (execPerstNDeassert_upholds h ha) rfl
  | hostLinkReset kind => exact res_upholds ((execHostLinkReset_upholds kind).2 h) rfl
  | hostLinkTrained ver rate width flit256 msixEnable msixMask =>
    exact res_upholds ((execHostLinkTrained_upholds ver rate width flit256 msixEnable msixMask).2 h) rfl
  | drydockPowerRemoved => exact res_upholds ((execDrydockPowerRemoved_upholds).2 h) rfl
  | badAccess bar2 offset size write => exact res_upholds (execBadAccess_upholds bar2 offset size write h) rfl
  | registerWrite bar2 offset value => exact res_upholds (execRegisterWrite_upholds bar2 offset value h) rfl
  | regPairLoRead bar2 offset => exact res_upholds (execRegPairLoRead_upholds bar2 offset h) rfl
  | regPairHiWrite offset lo hi => exact res_upholds (execRegPairHiWrite_upholds offset lo hi h) rfl
  | hostWriteRequest tag hpa data enables poison parityBad =>
    exact res_upholds ((execHostWriteRequest_upholds tag hpa data enables poison parityBad).2 h) rfl
  | claimPresent tag => exact res_upholds (execClaimPresent_upholds tag h) rfl
  | hostWriteAccept tag => exact res_upholds (execHostWriteAccept_upholds tag h) rfl
  | hostRead tag hpa => exact res_upholds ((execHostRead_upholds tag hpa).2 h) rfl
  | volatileFillDone tile => exact res_upholds (execVolatileFillDone_upholds tile h) rfl
  | discardWindowEnd => exact res_upholds (execDiscardWindowEnd_upholds h) rfl
  | gpfPhase1 => exact res_upholds ((execGpfPhase1_upholds).2 h) rfl
  | gpfPhase2 => exact res_upholds ((execGpfPhase2_upholds).2 h) rfl
  | gpfPhase2Drained => exact res_upholds (execGpfPhase2Drained_upholds h) rfl
  | ideKeyProgram ioSecure memSecure => exact res_upholds ((execIdeKeyProgram_upholds ioSecure memSecure).2 h) rfl
  | ideIntegrityFailure stream => exact res_upholds (execIdeIntegrityFailure_upholds stream h) rfl
  | identify => exact res_upholds (execIdentify_upholds h) rfl
  | backgroundOperationStatus => exact res_upholds (execBackgroundOperationStatus_upholds h) rfl
  | getEventRecords log => exact res_upholds (execGetEventRecords_upholds log h) rfl
  | clearEventRecords log all handles => exact res_upholds (execClearEventRecords_upholds log all handles h) rfl
  | getEventInterruptPolicy => exact res_upholds (execGetEventInterruptPolicy_upholds h) rfl
  | setEventInterruptPolicy settings => exact res_upholds (execSetEventInterruptPolicy_upholds settings h) rfl
  | getFwInfo => exact res_upholds (execGetFwInfo_upholds h) rfl
  | transferFw => exact res_upholds (execTransferFw_upholds h) rfl
  | activateFw => exact res_upholds (execActivateFw_upholds h) rfl
  | getTimestamp => exact res_upholds (execGetTimestamp_upholds h) rfl
  | setTimestamp ns => exact res_upholds (execSetTimestamp_upholds ns h) rfl
  | getSupportedLogs => exact res_upholds (execGetSupportedLogs_upholds h) rfl
  | getLog ofs len => exact res_upholds (execGetLog_upholds ofs len h) rfl
  | identifyMemoryDevice => exact res_upholds (execIdentifyMemoryDevice_upholds h) rfl
  | getPartitionInfo => exact res_upholds (execGetPartitionInfo_upholds h) rfl
  | setPartitionInfo => exact res_upholds (execSetPartitionInfo_upholds h) rfl
  | getLsa ofs len ok => exact res_upholds (execGetLsa_upholds ofs len ok h) rfl
  | setLsa ofs data => exact res_upholds (execSetLsa_upholds ofs data h) rfl
  | getHealthInfo => exact res_upholds (execGetHealthInfo_upholds h) rfl
  | getAlertConfiguration => exact res_upholds (execGetAlertConfiguration_upholds h) rfl
  | setAlertConfiguration cfg => exact res_upholds (execSetAlertConfiguration_upholds cfg h) rfl
  | getShutdownState => exact res_upholds (execGetShutdownState_upholds h) rfl
  | setShutdownState dirty => exact res_upholds (execSetShutdownState_upholds dirty h) rfl
  | getPoisonList dpa len => exact res_upholds (execGetPoisonList_upholds dpa len h) rfl
  | injectPoison dpa => exact res_upholds (execInjectPoison_upholds dpa h) rfl
  | clearPoison dpa data => exact res_upholds (execClearPoison_upholds dpa data h) rfl
  | getScanMediaCapabilities => exact res_upholds (execGetScanMediaCapabilities_upholds h) rfl
  | scanMedia => exact res_upholds (execScanMedia_upholds h) rfl
  | scanMediaComplete => exact res_upholds (execScanMediaComplete_upholds h) rfl
  | getScanMediaResults => exact res_upholds (execGetScanMediaResults_upholds h) rfl
  | sanitize => exact res_upholds (execSanitize_upholds h) rfl
  | secureErase => exact res_upholds (execSecureErase_upholds h) rfl
  | sanitizeComplete => exact res_upholds (execSanitizeComplete_upholds h) rfl
  | pendingSanitizeReplay => exact res_upholds ((execPendingSanitizeReplay_upholds).2 h) rfl
  | mailboxUnsupported opcode => exact res_upholds (execMailboxUnsupported_upholds opcode h) rfl
  | getVendorIdentity => exact res_upholds (execGetVendorIdentity_upholds h) rfl
  | getPersistenceStatus => exact res_upholds (execGetPersistenceStatus_upholds h) rfl
  | getSuiteStatus first count => exact res_upholds (execGetSuiteStatus_upholds first count h) rfl
  | harbourAcknowledge => exact res_upholds (execHarbourAcknowledge_upholds h) rfl
  | setEnergyGrant joules validS seq => exact res_upholds (execSetEnergyGrant_upholds joules validS seq h) rfl
  | grantLapse => exact res_upholds (execGrantLapse_upholds h) rfl
  | getReckoning => exact res_upholds (execGetReckoning_upholds h) rfl
  | getLastSaveReport => exact res_upholds (execGetLastSaveReport_upholds h) rfl
  | getRestoredPoisonTiles start => exact res_upholds (execGetRestoredPoisonTiles_upholds start h) rfl
  | getLifetimeCounters => exact res_upholds (execGetLifetimeCounters_upholds h) rfl
  | getMirrorStatus => exact res_upholds (execGetMirrorStatus_upholds h) rfl
  | promote set force => exact res_upholds (execPromote_upholds set force h) rfl
  | handover set noticeMs => exact res_upholds (execHandover_upholds set noticeMs h) rfl
  | drill set dwellS => exact res_upholds (execDrill_upholds set dwellS h) rfl
  | getDrillResult set => exact res_upholds (execGetDrillResult_upholds set h) rfl
  | trainingAttemptEnd sc pass record => exact res_upholds (execTrainingAttemptEnd_upholds sc pass record h) rfl
  | zqCalDue sc ok => exact res_upholds (execZqCalDue_upholds sc ok h) rfl
  | dqsOscDue sc fine ok => exact res_upholds (execDqsOscDue_upholds sc fine ok h) rfl
  | calDeferExpire sc kind => exact res_upholds (execCalDeferExpire_upholds sc kind h) rfl
  | drcPick sc ok => exact res_upholds (execDrcPick_upholds sc ok h) rfl
  | refreshTick sc elapsedNs => exact res_upholds ((execRefreshTick_upholds sc elapsedNs).2 h) rfl
  | mr4Read sc rank band twox high ok => exact res_upholds (execMr4Read_upholds sc rank band twox high ok h) rfl
  | selfRefreshIdle sc => exact res_upholds (execSelfRefreshIdle_upholds sc h) rfl
  | selfRefreshExit sc ok => exact res_upholds (execSelfRefreshExit_upholds sc ok h) rfl
  | dramReadReturn beat mstr errors => exact res_upholds (execDramReadReturn_upholds beat mstr errors h) rfl
  | patrolRead errors => exact res_upholds (execPatrolRead_upholds errors h) rfl
  | patrolPassEnd => exact res_upholds ((execPatrolPassEnd_upholds).2 h) rfl
  | chartEntryUe room => exact res_upholds (execChartEntryUe_upholds room h) rfl
  | mapRereadDone room pass => exact res_upholds (execMapRereadDone_upholds room pass h) rfl
  | tileStateUe byte => exact res_upholds (execTileStateUe_upholds byte h) rfl
  | chtRoomSelWrite value => exact res_upholds ((execChtRoomSelWrite_upholds value).2 h) rfl
  | suiteContextUe suite => exact res_upholds (execSuiteContextUe_upholds suite h) rfl
  | sweepVisit => exact res_upholds (execSweepVisit_upholds h) rfl
  | stowStart => exact res_upholds (execStowStart_upholds h) rfl
  | padTimeout die => exact res_upholds (execPadTimeout_upholds die h) rfl
  | nandProgramDone die us pass => exact res_upholds (execNandProgramDone_upholds die us pass h) rfl
  | roomMapBuild room => exact res_upholds ((execRoomMapBuild_upholds room).2 h) rfl
  | journalPageIssue => exact res_upholds (execJournalPageIssue_upholds h) rfl
  | metaProgramDone page us passA passB => exact res_upholds (execMetaProgramDone_upholds page us passA passB h) rfl
  | stowCompletion room => exact res_upholds (execStowCompletion_upholds room h) rfl
  | stallReevaluate => exact res_upholds (execStallReevaluate_upholds h) rfl
  | stallBound index => exact res_upholds (execStallBound_upholds index h) rfl
  | stallEventWindow => exact res_upholds (execStallEventWindow_upholds h) rfl
  | wearAccrualTick => exact res_upholds (execWearAccrualTick_upholds h) rfl
  | counterStore => exact res_upholds (execCounterStore_upholds h) rfl
  | wearProjection => exact res_upholds (execWearProjection_upholds h) rfl
  | staggerElapsed => exact res_upholds (execStaggerElapsed_upholds h) rfl
  | drainComplete => exact res_upholds ((execDrainComplete_upholds).2 h) rfl
  | savingEntry => exact res_upholds (execSavingEntry_upholds h) rfl
  | saveHeaderDone => exact res_upholds ((execSaveHeaderDone_upholds).2 h) rfl
  | saveTileRead => exact res_upholds (execSaveTileRead_upholds h) rfl
  | saveTileDone index us pass => exact res_upholds (execSaveTileDone_upholds index us pass h) rfl
  | saveRateTick packMa packMv => exact res_upholds (execSaveRateTick_upholds packMa packMv h) rfl
  | packExhausted => exact res_upholds (execPackExhausted_upholds h) rfl
  | vbusLowTimeout => exact res_upholds (execVbusLowTimeout_upholds h) rfl
  | keeperBusError fromAttic => exact res_upholds (execKeeperBusError_upholds fromAttic h) rfl
  | saveSealDone pass => exact res_upholds (execSaveSealDone_upholds pass h) rfl
  | warmReturnComplete => exact res_upholds (execWarmReturnComplete_upholds h) rfl
  | serviceOpenProgrammed => exact res_upholds ((execServiceOpenProgrammed_upholds).2 h) rfl
  | halfEraseDone half => exact res_upholds ((execHalfEraseDone_upholds half).2 h) rfl
  | bootImageCheck pass => exact res_upholds (execBootImageCheck_upholds pass h) rfl
  | floorPlanLoad => exact res_upholds (execFloorPlanLoad_upholds h) rfl
  | railsValid => exact res_upholds ((execRailsValid_upholds).2 h) rfl
  | railUv rail foldback => exact res_upholds (execRailUv_upholds rail foldback h) rfl
  | railLost rail => exact res_upholds (execRailLost_upholds rail h) rfl
  | metaReadDone lostPages lostKeys bad => exact res_upholds (execMetaReadDone_upholds lostPages lostKeys bad h) rfl
  | restoreDecision => exact res_upholds (execRestoreDecision_upholds h) rfl
  | zeroFillDone => exact res_upholds (execZeroFillDone_upholds h) rfl
  | restorePresetDone badOwn badBase mapBad =>
    exact res_upholds (execRestorePresetDone_upholds badOwn badBase mapBad h) rfl
  | earlyTenancyEntry => exact res_upholds ((execEarlyTenancyEntry_upholds).2 h) rfl
  | restoreTileWritten tile halfBad imageBad =>
    exact res_upholds (execRestoreTileWritten_upholds tile halfBad imageBad h) rfl
  | foldStart => exact res_upholds (execFoldStart_upholds h) rfl
  | nandReadDone part die block set soft ok tile =>
    exact res_upholds (execNandReadDone_upholds part die block set soft ok tile h) rfl
  | nandEraseDone part die block pass => exact res_upholds (execNandEraseDone_upholds part die block pass h) rfl
  | checkpointDue => exact res_upholds ((execCheckpointDue_upholds).2 h) rfl
  | journalBlockReclaim die block => exact res_upholds (execJournalBlockReclaim_upholds die block h) rfl
  | gcReclaim die => exact res_upholds ((execGcReclaim_upholds die).2 h) rfl
  | wearLevelMove part die => exact res_upholds (execWearLevelMove_upholds part die h) rfl
  | nandPatrolRead part die block set soft bad last =>
    exact res_upholds (execNandPatrolRead_upholds part die block set soft bad last h) rfl
  | packRemoved packId ohms th0 th1 => exact res_upholds (execPackRemoved_upholds packId ohms th0 th1 h) rfl
  | packInserted packId ohms th0 th1 atBoot reply =>
    exact res_upholds (execPackInserted_upholds packId ohms th0 th1 atBoot reply h) rfl
  | packAuthPoll status pubkey resp => exact res_upholds (execPackAuthPoll_upholds status pubkey resp h) rfl
  | packAuthRetry reply => exact res_upholds (execPackAuthRetry_upholds reply h) rfl
  | packThermSample th0 th1 ohms => exact res_upholds (execPackThermSample_upholds th0 th1 ohms h) rfl
  | packMeasure packMv packMa p12vMv limited =>
    exact res_upholds (execPackMeasure_upholds packMv packMa p12vMv limited h) rfl
  | prechargeTimeout => exact res_upholds (execPrechargeTimeout_upholds h) rfl
  | exerciseDue => exact res_upholds (execExerciseDue_upholds h) rfl
  | exerciseRetry => exact res_upholds (execExerciseRetry_upholds h) rfl
  | exerciseStart => exact res_upholds ((execExerciseStart_upholds).2 h) rfl
  | exerciseAbort => exact res_upholds (execExerciseAbort_upholds h) rfl
  | exerciseStopCheck => exact res_upholds (execExerciseStopCheck_upholds h) rfl
  | resistancePulse => exact res_upholds (execResistancePulse_upholds h) rfl
  | pulseNow => exact res_upholds ((execPulseNow_upholds).2 h) rfl
  | gaugeRestReference => exact res_upholds (execGaugeRestReference_upholds h) rfl
  | forceRef => exact res_upholds ((execForceRef_upholds).2 h) rfl
  | restWindowOpen => exact res_upholds ((execRestWindowOpen_upholds).2 h) rfl
  | restWindowTimeout => exact res_upholds (execRestWindowTimeout_upholds h) rfl
  | estimatorStale => exact res_upholds (execEstimatorStale_upholds h) rfl
  | capacityDerate => exact res_upholds (execCapacityDerate_upholds h) rfl
  | gaugeRecordStore pass => exact res_upholds (execGaugeRecordStore_upholds pass h) rfl
  | reckoningRun => exact res_upholds (execReckoningRun_upholds h) rfl
  | reckoningPublish => exact res_upholds (execReckoningPublish_upholds h) rfl
  | rekRun => exact res_upholds ((execRekRun_upholds).2 h) rfl
  | packEolEval => exact res_upholds (execPackEolEval_upholds h) rfl
  | klTrained peerMax peerMin => exact res_upholds (execKlTrained_upholds peerMax peerMin h) rfl
  | revRetry => exact res_upholds (execRevRetry_upholds h) rfl
  | helloMessage partner ident peers => exact res_upholds (execHelloMessage_upholds partner ident peers h) rfl
  | flitReceive crcOk fseq hbState hbCount => exact res_upholds (execFlitReceive_upholds crcOk fseq hbState hbCount h) rfl
  | linkRetrainEnd ok => exact res_upholds (execLinkRetrainEnd_upholds ok h) rfl
  | creditMessage inStep resync => exact res_upholds ((execCreditMessage_upholds inStep resync).2 h) rfl
  | partnerForwardSend => exact res_upholds (execPartnerForwardSend_upholds h) rfl
  | partnerWriteEntry set wseq beat data enables poison resync =>
    exact res_upholds (execPartnerWriteEntry_upholds set wseq beat data enables poison resync h) rfl
  | ackMessage set wseq => exact res_upholds (execAckMessage_upholds set wseq h) rfl
  | watchSend => exact res_upholds (execWatchSend_upholds h) rfl
  | watchMessage w => exact res_upholds (execWatchMessage_upholds w h) rfl
  | watchAckMessage no => exact res_upholds (execWatchAckMessage_upholds no h) rfl
  | heartbeatSend => exact res_upholds (execHeartbeatSend_upholds h) rfl
  | contactTimeout => exact res_upholds (execContactTimeout_upholds h) rfl
  | partingMessage cause => exact res_upholds (execPartingMessage_upholds cause h) rfl
  | pairWaitExpire => exact res_upholds (execPairWaitExpire_upholds h) rfl
  | roleRecordProgrammed set pass => exact res_upholds (execRoleRecordProgrammed_upholds set pass h) rfl
  | lanternAbandon => exact res_upholds (execLanternAbandon_upholds h) rfl
  | lanternStuck => exact res_upholds (execLanternStuck_upholds h) rfl
  | lanternToggling => exact res_upholds ((execLanternToggling_upholds).2 h) rfl
  | resyncTileCopy set equal => exact res_upholds (execResyncTileCopy_upholds set equal h) rfl
  | digestMessage tile digest => exact res_upholds (execDigestMessage_upholds tile digest h) rfl
  | diffMessage tile => exact res_upholds ((execDiffMessage_upholds tile).2 h) rfl
  | handoverBoundary set => exact res_upholds (execHandoverBoundary_upholds set h) rfl
  | handoverMessage set epoch last => exact res_upholds ((execHandoverMessage_upholds set epoch last).2 h) rfl
  | takenMessage set epoch => exact res_upholds (execTakenMessage_upholds set epoch h) rfl
  | homeReqSend set => exact res_upholds ((execHomeReqSend_upholds set).2 h) rfl
  | homeReqMessage set => exact res_upholds ((execHomeReqMessage_upholds set).2 h) rfl
  | drillMessage set phase result => exact res_upholds (execDrillMessage_upholds set phase result h) rfl
  | drillPhaseEnd set => exact res_upholds (execDrillPhaseEnd_upholds set h) rfl
  | dmwChTailWrite ch value => exact res_upholds (execDmwChTailWrite_upholds ch value h) rfl
  | dmwEnable ch value => exact res_upholds (execDmwEnable_upholds ch value h) rfl
  | dmwPause ch => exact res_upholds ((execDmwPause_upholds ch).2 h) rfl
  | dmwResume ch => exact res_upholds ((execDmwResume_upholds ch).2 h) rfl
  | dmwReset ch => exact res_upholds (execDmwReset_upholds ch h) rfl
  | dmwCopy ch => exact res_upholds (execDmwCopy_upholds ch h) rfl
  | dmwFill ch => exact res_upholds (execDmwFill_upholds ch h) rfl
  | dmwStow ch => exact res_upholds (execDmwStow_upholds ch h) rfl
  | dmwFetch ch => exact res_upholds (execDmwFetch_upholds ch h) rfl
  | dmwCheck ch => exact res_upholds (execDmwCheck_upholds ch h) rfl
  | dmwStepGrant unreadable => exact res_upholds (execDmwStepGrant_upholds unreadable h) rfl
  | dmwWriteAccept ch => exact res_upholds (execDmwWriteAccept_upholds ch h) rfl
  | dmwDescriptorComplete ch => exact res_upholds (execDmwDescriptorComplete_upholds ch h) rfl
  | atticProgram master bank cycles => exact res_upholds (execAtticProgram_upholds master bank cycles h) rfl
  | atticRowProgram master bank cycles => exact res_upholds (execAtticRowProgram_upholds master bank cycles h) rfl
  | atticSectorErase master bank cycles => exact res_upholds (execAtticSectorErase_upholds master bank cycles h) rfl
  | atticRecover master bank cycles => exact res_upholds (execAtticRecover_upholds master bank cycles h) rfl
  | atticSuspend master bank => exact res_upholds (execAtticSuspend_upholds master bank h) rfl
  | atticResume master bank => exact res_upholds (execAtticResume_upholds master bank h) rfl
  | atticReadReset master bank => exact res_upholds (execAtticReadReset_upholds master bank h) rfl
  | atticSeqTimeout bank => exact res_upholds (execAtticSeqTimeout_upholds bank h) rfl
  | atticBadAccess master offset => exact res_upholds (execAtticBadAccess_upholds master offset h) rfl
  | atticProgramDone bank pass => exact res_upholds (execAtticProgramDone_upholds bank pass h) rfl
  | atticErasePulseDone bank pass twinUe => exact res_upholds (execAtticErasePulseDone_upholds bank pass twinUe h) rfl
  | atticForeignAccess master offset decode =>
    exact res_upholds (execAtticForeignAccess_upholds master offset decode h) rfl
  | atticAutoResume bank => exact res_upholds (execAtticAutoResume_upholds bank h) rfl
  | fetchFault master offset => exact res_upholds (execFetchFault_upholds master offset h) rfl
  | eraseStarve bank => exact res_upholds (execEraseStarve_upholds bank h) rfl
  | atticBootScan lostSeals => exact res_upholds (execAtticBootScan_upholds lostSeals h) rfl
  | atticBrownout => exact res_upholds (execAtticBrownout_upholds h) rfl
  | atticRead master offset decode => exact res_upholds (execAtticRead_upholds master offset decode h) rfl
  | sramUe address master beat => exact res_upholds (execSramUe_upholds address master beat h) rfl
  | fabricParityError sender address receiver =>
    exact res_upholds (execFabricParityError_upholds sender address receiver h) rfl
  | coreReload core => exact res_upholds ((execCoreReload_upholds core).2 h) rfl
  | sramScrubRead finding beat => exact res_upholds (execSramScrubRead_upholds finding beat h) rfl
  | atticScrubRead decode => exact res_upholds (execAtticScrubRead_upholds decode h) rfl
  | eccTestWrite value => exact res_upholds (execEccTestWrite_upholds value h) rfl
  | eccTestRead value => exact res_upholds (execEccTestRead_upholds value h) rfl
  | graceExpire block cls => exact res_upholds (execGraceExpire_upholds block cls h) rfl
  | quietExpire block cls => exact res_upholds (execQuietExpire_upholds block cls h) rfl
  | fackWrite block value => exact res_upholds ((execFackWrite_upholds block value).2 h) rfl
  | quarantineEnd block => exact res_upholds (execQuarantineEnd_upholds block h) rfl
  | devHarbourAckWrite value => exact res_upholds (execDevHarbourAckWrite_upholds value h) rfl
  | precautionStart => exact res_upholds ((execPrecautionStart_upholds).2 h) rfl
  | precautionEnd => exact res_upholds (execPrecautionEnd_upholds h) rfl
  | precautionWaitTimeout => exact res_upholds (execPrecautionWaitTimeout_upholds h) rfl
  | floorPlanApply => exact res_upholds (execFloorPlanApply_upholds h) rfl
  | sbSleep => exact res_upholds (execSbSleep_upholds h) rfl
  | sbWake => exact res_upholds ((execSbWake_upholds).2 h) rfl
  | sbRead addr n => exact res_upholds (execSbRead_upholds addr n h) rfl
  | sbWrite addr data reread => exact res_upholds (execSbWrite_upholds addr data reread h) rfl
  | sbAlertResponse other more => exact res_upholds (execSbAlertResponse_upholds other more h) rfl
  | sbClkLowTimeout acked => exact res_upholds (execSbClkLowTimeout_upholds acked h) rfl
  | sbDataLowTimeout => exact res_upholds (execSbDataLowTimeout_upholds h) rfl
  | sbProtocolError released => exact res_upholds (execSbProtocolError_upholds released h) rfl
  | twsAlertWrite value => exact res_upholds ((execTwsAlertWrite_upholds value).2 h) rfl
  | pbTransaction cmd ok => exact res_upholds (execPbTransaction_upholds cmd ok h) rfl
  | pbRetry ok => exact res_upholds (execPbRetry_upholds ok h) rfl
  | pbClkLowTimeout cmd sdaLow => exact res_upholds (execPbClkLowTimeout_upholds cmd sdaLow h) rfl
  | pbArbitrationLoss cmd cond => exact res_upholds (execPbArbitrationLoss_upholds cmd cond h) rfl
  | pbProtocolError cmd => exact res_upholds (execPbProtocolError_upholds cmd h) rfl
  | pbBusClear sdaHigh => exact res_upholds (execPbBusClear_upholds sdaHigh h) rfl
  | svcHello seq input => exact res_upholds (execSvcHello_upholds seq input h) rfl
  | svcAuth seq input => exact res_upholds (execSvcAuth_upholds seq input h) rfl
  | svcClose seq => exact res_upholds (execSvcClose_upholds seq h) rfl
  | svcStatus seq => exact res_upholds (execSvcStatus_upholds seq h) rfl
  | readLog seq input => exact res_upholds (execReadLog_upholds seq input h) rfl
  | readReg seq input => exact res_upholds (execReadReg_upholds seq input h) rfl
  | readAttic seq input failAt => exact res_upholds (execReadAttic_upholds seq input failAt h) rfl
  | readNand seq input ok => exact res_upholds (execReadNand_upholds seq input ok h) rfl
  | pkgBegin seq input attic => exact res_upholds (execPkgBegin_upholds seq input attic h) rfl
  | pkgChunk seq input attic readBack => exact res_upholds (execPkgChunk_upholds seq input attic readBack h) rfl
  | pkgEnd seq attic => exact absurd rfl (hp _ _)
  | activate seq cores attic => exact res_upholds (execActivate_upholds seq cores attic h) rfl
  | handoverReadyTimeout => exact res_upholds (execHandoverReadyTimeout_upholds h) rfl
  | confirm seq first second => exact res_upholds (execConfirm_upholds seq first second h) rfl
  | autoConfirm first second => exact res_upholds (execAutoConfirm_upholds first second h) rfl
  | svcAbort seq => exact res_upholds (execSvcAbort_upholds seq h) rfl
  | svcProgress seq permille => exact res_upholds (execSvcProgress_upholds seq permille h) rfl
  | svcFrameTimeout => exact res_upholds ((execSvcFrameTimeout_upholds).2 h) rfl
  | svcPresHigh => exact res_upholds (execSvcPresHigh_upholds h) rfl
  | svcSessionIdle => exact res_upholds (execSvcSessionIdle_upholds h) rfl
  | authLockoutExpire => exact res_upholds (execAuthLockoutExpire_upholds h) rfl
  | almanacColdRestore => exact res_upholds (execAlmanacColdRestore_upholds h ha) rfl
  | logRecordWrite => exact res_upholds (execLogRecordWrite_upholds h) rfl
  | dieTempSample die stackTemps rails powerDw refPresent =>
    exact res_upholds (execDieTempSample_upholds die stackTemps rails powerDw refPresent h) rfl
  | throttleExit => exact res_upholds (execThrottleExit_upholds h) rfl
  | peakClear offset => exact res_upholds ((execPeakClear_upholds offset).2 h) rfl
  | jtagBypass => exact res_upholds ((execJtagBypass_upholds).2 h) rfl
  | jtagIdcode => exact res_upholds ((execJtagIdcode_upholds).2 h) rfl
  | jtagSamplePreload pins cells => exact res_upholds ((execJtagSamplePreload_upholds pins cells).2 h) rfl
  | jtagExtest pins cells => exact res_upholds ((execJtagExtest_upholds pins cells).2 h) rfl
  | jtagClamp => exact res_upholds ((execJtagClamp_upholds).2 h) rfl
  | jtagHighz => exact res_upholds ((execJtagHighz_upholds).2 h) rfl
  | hdmDecoderCommit index base size ways gran pos =>
    exact res_upholds ((execHdmDecoderCommit_upholds index base size ways gran pos).2 h) rfl
  | discardedFrame => exact res_upholds ((execDiscardedFrame_upholds).2 h) rfl
  | coldLoss => exact res_upholds ((execColdLoss_upholds).2 h) rfl
  | backgroundEraseResume die => exact res_upholds (execBackgroundEraseResume_upholds die h) rfl
  | correctionCount24h => exact res_upholds (execCorrectionCount24h_upholds h) rfl

/-- Every command upholds what `s₀` guarantees, but that the end of a package of KIND 4 takes a key store of its own. -/
theorem exec_upholds_but_keys (c : Instr) (h : s.Upholds s₀) (ha : s.log.aonPowered = false → s₀.almanac = 0) :
    Res.Upholds s₀ (exec c s) ∨ ∃ seq attic p, c = .pkgEnd seq attic ∧ s.svc.pkg = some p ∧ p.hdr.kind = 4 ∧
      ∃ keys : List KeyEntry, keys.length ≤ 4 ∧ Res.Upholds (withKeys keys s₀) (exec c s) := by
  by_cases hp : ∃ seq attic, c = .pkgEnd seq attic
  · obtain ⟨seq, attic, rfl⟩ := hp
    obtain hu | ⟨p, hs, hk, keys, hl, hu⟩ := execPkgEnd_upholds seq attic h
    · exact .inl hu
    · exact .inr ⟨seq, attic, p, rfl, hs, hk, keys, hl, hu⟩
  · exact .inl (exec_upholds c (fun seq attic e => hp ⟨seq, attic, e⟩) h ha)

/-- What a command guarantees of the part but the key store: the state with some other key store. -/
theorem exec_upholds_some_keys (c : Instr) (h : s.Upholds s₀) (ha : s.log.aonPowered = false → s₀.almanac = 0) :
    ∃ keys, Res.Upholds (withKeys keys s₀) (exec c s) := by
  obtain hu | ⟨-, -, -, -, -, -, keys, -, hu⟩ := exec_upholds_but_keys c h ha
  · exact ⟨s₀.svc.keyStore, hu⟩
  · exact ⟨keys, hu⟩

/-- A step upholds what `s₀` guarantees wherever every queue is given to the state before it. -/
theorem step_upholds {t : State} (e : step s = .next t)
    (h : ∀ r, ({ s with pending := r } : State).Upholds { s₀ with pending := r })
    (ha : s.log.aonPowered = false → s₀.almanac = 0) : ∃ r keys, t.Upholds (withKeys keys { s₀ with pending := r }) := by
  unfold step at e
  split at e
  · next hq =>
      injection e with e
      subst e
      have hs : s.Upholds { s₀ with pending := [] } := by simpa [← hq] using h []
      exact ⟨[], _, advanceTo_upholds _ hs⟩
  · next c r _ =>
      obtain ⟨keys, hu⟩ := exec_upholds_some_keys c (h r) ha
      rw [e, next_upholds] at hu
      exact ⟨r, keys, hu⟩

/-- A state upholds its own guarantees whatever its queue is. -/
theorem upholds_pending (s : State) (r : List Instr) : ({ s with pending := r } : State).Upholds { s with pending := r } :=
  upholds_refl _

/-- A state upholds its own guarantees but the Almanac's. -/
theorem upholds_almanac_zero (s : State) (r : List Instr) :
    ({ s with pending := r } : State).Upholds { { s with almanac := 0 } with pending := r } :=
  ⟨Nat.zero_le _, (upholds_pending s r).arrays, rfl, Nat.le_refl _, rfl, rfl⟩

/-- Settles O57: each operation keeps every stored array canonical (`…_upholds`), so each command does, and the microsecond
of an empty queue stores nothing. -/
theorem memoryStaysCanonical : Obligations.MemoryStaysCanonical := by
  intro s t hw e
  obtain ⟨r, keys, hu⟩ := step_upholds e (upholds_almanac_zero s) fun _ => rfl
  exact memoryWf_iff.2 (hu.arrays hw)

/-- Settles O58: each operation that moves the Almanac takes it to a maximum with its present time, but the restore of an
always-on domain that had no power. -/
theorem almanacNeverGoesBack : Obligations.AlmanacNeverGoesBack := by
  intro s t hp e
  obtain ⟨r, keys, hu⟩ := step_upholds e (upholds_pending s) (by simp [hp])
  exact hu.almanac

/-- Settles O60: of all operations only `loadStore` replaces the key store (`loadStore_upholds`), and only `migrate` moves the
fused epoch, to a maximum. -/
theorem keysAndFuses : Obligations.KeysAndFuses := by
  intro c s t e
  have hs : s.Upholds { s with almanac := 0 } := upholds_almanac_zero s s.pending
  obtain hu | ⟨seq, attic, p, hc, hp, hk, keys, hl, hu⟩ := exec_upholds_but_keys c hs fun _ => rfl
  · rw [e, next_upholds] at hu
    exact ⟨fun h => absurd hu.keys h, hu.epoch, hu.fuses⟩
  · rw [e, next_upholds] at hu
    exact ⟨fun _ => ⟨⟨seq, attic, p, hc, hp, hk⟩, hu.keys ▸ hl⟩, hu.epoch, hu.fuses⟩

/-- Settles O56: a command that upholds a guarantee answers a next state. -/
theorem everyCommandCompletes : Obligations.EveryCommandCompletes := by
  intro c s
  obtain ⟨keys, hu⟩ := exec_upholds_some_keys c (upholds_almanac_zero s s.pending) fun _ => rfl
  obtain ⟨t, ht⟩ := hu.exists_next
  exact ⟨t, ht, trivial⟩

/-- Settles O55: no operation touches the queue. -/
theorem commandsLeaveTheQueue : Obligations.CommandsLeaveTheQueue := by
  intro c s t e
  have hs : s.Upholds { s with almanac := 0 } := upholds_almanac_zero s s.pending
  obtain ⟨keys, hu⟩ := exec_upholds_some_keys c hs fun _ => rfl
  rw [e, next_upholds] at hu
  exact hu.pending

end Sys2Proof.Machine
end

section

/-! Steps and the reset state (95_what_each_step_holds, 19_almanac_log_identity R648, 01_architecture Table 01-6; O1, O2, O54). -/

namespace Sys2Proof.Machine

/-- Settles O1: `step` by definition. -/
theorem stepRunsFrontCommand : Obligations.StepRunsFrontCommand := by
  intro c r s h
  simp only [step, h]

/-- Settles O2: the idle step is `tick`, which advances to the next microsecond. -/
theorem idleStepIsOneMicrosecond : Obligations.IdleStepIsOneMicrosecond := by
  intro s h
  refine ⟨tick s, by simp only [step, h], ?_, ?_⟩
  · unfold tick advanceTo
    split
    · exact Nat.max_eq_right (Nat.le_succ _)
    · rfl
  · unfold tick advanceTo
    split
    · extract_lets d lf lf₁ lf₂ pr
      by_cases hp : pr
      · rw [if_pos hp]
      · rw [if_neg hp]
    · rfl

/-- Settles O54: the reset state is written out in the model; its registers and arrays are evaluated. -/
theorem resetState : Obligations.ResetState := by
  refine ⟨⟨rfl, rfl, rfl, rfl, fun b => ?_, ?_⟩, ?_⟩
  · cases b <;> exact ⟨rfl, rfl, rfl⟩
  · decide
  · decide

end Sys2Proof.Machine
end
section

/-! The byte code (15_onchip_integrity R531, R532; O44). The check group is linear in the data: whatever bits are inverted, the
syndrome and the parity that a decode sees are those of the inverted bits alone (`decodeByte_inverted`), and those are finitely
many. -/

namespace Sys2Proof.Machine

theorem xorBits_xor (a b : Byte) (l : List Nat) : xorBits (a ^^^ b) l = (xorBits a l != xorBits b l) := by
  unfold xorBits
  suffices h : ∀ x y : Bool, l.foldl (fun z i => z != (a ^^^ b).getLsbD i) (x != y) =
      (l.foldl (fun z i => z != a.getLsbD i) x != l.foldl (fun z i => z != b.getLsbD i) y) from h false false
  induction l with
  | nil => exact fun _ _ => rfl
  | cons i l ih =>
      intro x y
      have e : ((x != y) != (a ^^^ b).getLsbD i) = ((x != a.getLsbD i) != (y != b.getLsbD i)) := by
        rw [BitVec.getLsbD_xor]
        cases x <;> cases y <;> cases a.getLsbD i <;> cases b.getLsbD i <;> rfl
      simp only [List.foldl_cons, e, ih]

theorem hamming_xor (a b : Byte) : hamming (a ^^^ b) = hamming a ^^^ hamming b := by
  have pack : ∀ p q r t p' q' r' t' : Bool,
      BitVec.ofNat 4 (b2n (p != p') + 2 * b2n (q != q') + 4 * b2n (r != r') + 8 * b2n (t != t')) =
        BitVec.ofNat 4 (b2n p + 2 * b2n q + 4 * b2n r + 8 * b2n t) ^^^
          BitVec.ofNat 4 (b2n p' + 2 * b2n q' + 4 * b2n r' + 8 * b2n t') := by decide
  simp only [hamming, xorBits_xor, pack]

theorem oddOnes_cons (n i : Nat) (l : List Nat) : oddOnes n (i :: l) = (n.testBit i != oddOnes n l) := by
  unfold oddOnes
  rw [List.filter_cons]
  cases n.testBit i
  · simp
  · simp only [List.length_cons, if_true]
    rcases Nat.mod_two_eq_zero_or_one (l.filter fun i => n.testBit i).length with h | h
    · simp [h, Nat.add_mod]
    · simp [h, Nat.add_mod]

theorem oddOnes_xor (m n : Nat) (l : List Nat) : oddOnes (m ^^^ n) l = (oddOnes m l != oddOnes n l) := by
  induction l with
  | nil => rfl
  | cons i l ih =>
      simp only [oddOnes_cons, ih, Nat.testBit_xor]
      cases m.testBit i <;> cases n.testBit i <;> cases oddOnes m l <;> cases oddOnes n l <;> rfl

/-- The check group of a Hamming code `h` and a data parity `odd`. -/
theorem checkGroup_parts : ∀ (h : BitVec 4) (odd : Bool),
    (BitVec.ofNat 5 (h.toNat + 16 * b2n (odd != oddOnes h.toNat (List.range 4)))).toNat % 16 = h.toNat ∧
      oddOnes (BitVec.ofNat 5 (h.toNat + 16 * b2n (odd != oddOnes h.toNat (List.range 4)))).toNat (List.range 5) = odd := by
  decide

theorem checkGroup_mod (d : Byte) : (checkGroup d).toNat % 16 = (hamming d).toNat := (checkGroup_parts _ _).1

theorem checkGroup_odd (d : Byte) : oddOnes (checkGroup d).toNat (List.range 5) = oddOnes d.toNat (List.range 8) :=
  (checkGroup_parts _ _).2

/-- The syndrome of inverted data bits `e` and check bits `f`. -/
def errorSyndrome (e : Byte) (f : BitVec 5) : Nat := (hamming e).toNat ^^^ (f.toNat % 16)

/-- Whether an odd number of bits is inverted. -/
def errorOdd (e : Byte) (f : BitVec 5) : Bool := oddOnes e.toNat (List.range 8) != oddOnes f.toNat (List.range 5)

/-- A decode sees the inverted bits alone: their syndrome and their parity. -/
theorem decodeByte_inverted (d e : Byte) (f : BitVec 5) :
    decodeByte { data := d ^^^ e, chk := checkGroup d ^^^ f } =
      if errorSyndrome e f = 0 then (if errorOdd e f then .corrected else .clean, d ^^^ e)
      else if errorOdd e f && errorSyndrome e f ≤ 12 then
        (.corrected, (dataBitAt (errorSyndrome e f)).elim (d ^^^ e) fun i => d ^^^ e ^^^ BitVec.ofNat 8 (2 ^ i))
      else (.uncorrectable, d ^^^ e) := by
  have hs : (hamming (d ^^^ e)).toNat ^^^ ((checkGroup d ^^^ f).toNat % 16) = errorSyndrome e f := by
    have hm : (checkGroup d ^^^ f).toNat % 16 = (hamming d).toNat ^^^ (f.toNat % 16) := by
      rw [BitVec.toNat_xor, ← checkGroup_mod d]
      exact Nat.xor_mod_two_pow (n := 4)
    rw [hm, hamming_xor, BitVec.toNat_xor, errorSyndrome, Nat.xor_comm (hamming d).toNat, Nat.xor_assoc,
      ← Nat.xor_assoc (hamming d).toNat, Nat.xor_self, Nat.zero_xor]
  have ho : (oddOnes (d ^^^ e).toNat (List.range 8) != oddOnes (checkGroup d ^^^ f).toNat (List.range 5)) = errorOdd e f := by
    rw [BitVec.toNat_xor, BitVec.toNat_xor, oddOnes_xor, oddOnes_xor, checkGroup_odd, errorOdd]
    cases oddOnes d.toNat (List.range 8) <;> cases oddOnes e.toNat (List.range 8) <;>
      cases oddOnes f.toNat (List.range 5) <;> rfl
  unfold decodeByte
  simp only [hs, ho]
  cases dataBitAt (errorSyndrome e f) <;> rfl

/-- The data bits that an inversion of bit `i` of the thirteen inverts. -/
def invertedData (i : Nat) : Byte := if i < 8 then BitVec.ofNat 8 (2 ^ i) else 0

/-- The check bits that an inversion of bit `i` of the thirteen inverts. -/
def invertedChk (i : Nat) : BitVec 5 := if i < 8 then 0 else BitVec.ofNat 5 (2 ^ (i - 8))

theorem inverted_one : ∀ i, i < 13 → errorOdd (invertedData i) (invertedChk i) = true ∧
    (errorSyndrome (invertedData i) (invertedChk i) = 0 ∧ invertedData i = 0 ∨
      errorSyndrome (invertedData i) (invertedChk i) ≠ 0 ∧ errorSyndrome (invertedData i) (invertedChk i) ≤ 12 ∧
        dataBitAt (errorSyndrome (invertedData i) (invertedChk i)) = if i < 8 then some i else none) := by
  decide

theorem inverted_two : ∀ i, i < 13 → ∀ j, j < 13 → i ≠ j →
    errorOdd (invertedData j ^^^ invertedData i) (invertedChk j ^^^ invertedChk i) = false ∧
      errorSyndrome (invertedData j ^^^ invertedData i) (invertedChk j ^^^ invertedChk i) ≠ 0 := by
  decide

theorem decodeByte_encodeByte (d : Byte) : decodeByte (encodeByte d) = (.clean, d) := by
  have h := decodeByte_inverted d 0#8 0#5
  rw [BitVec.xor_zero, BitVec.xor_zero] at h
  exact h

theorem decodeByte_inverted_one (d : Byte) {i : Nat} (hi : i < 13) :
    decodeByte { data := d ^^^ invertedData i, chk := checkGroup d ^^^ invertedChk i } = (.corrected, d) := by
  obtain ⟨ho, ⟨hz, hd⟩ | ⟨hn, hl, hb⟩⟩ := inverted_one i hi
  · have hd : invertedData i = 0#8 := hd
    rw [decodeByte_inverted, if_pos hz, if_pos ho, hd, BitVec.xor_zero]
  · rw [decodeByte_inverted, if_neg hn, ho, hb, Bool.true_and, decide_eq_true hl, if_pos rfl]
    by_cases h8 : i < 8
    · simp only [h8, if_true, Option.elim_some, invertedData, BitVec.xor_assoc, BitVec.xor_self, BitVec.xor_zero]
    · simp [h8, invertedData]

theorem decodeByte_inverted_two (d : Byte) {i j : Nat} (hi : i < 13) (hj : j < 13) (hij : i ≠ j) :
    (decodeByte { data := d ^^^ invertedData j ^^^ invertedData i,
                  chk := checkGroup d ^^^ invertedChk j ^^^ invertedChk i }).1 = .uncorrectable := by
  obtain ⟨ho, hn⟩ := inverted_two i hi j hj hij
  rw [BitVec.xor_assoc, BitVec.xor_assoc, decodeByte_inverted, if_neg hn, ho]
  rfl

/-- Settles O44: linearity takes every inversion to its own bits (`decodeByte_inverted`); one inverted bit has its own
syndrome, and two have a syndrome that is not 0 and even parity. -/
theorem byteCodeCorrectsOneDetectsTwo : Obligations.ByteCodeCorrectsOneDetectsTwo := by
  intro d flip
  have hflip (i : Nat) (b : CodedByte) :
      flip i b = { data := b.data ^^^ invertedData i, chk := b.chk ^^^ invertedChk i } := by
    by_cases h : i < 8 <;> simp [flip, h, invertedData, invertedChk]
  refine ⟨decodeByte_encodeByte d, fun i hi => ?_, fun i j hi hj hij => ?_⟩
  · rw [hflip]
    exact decodeByte_inverted_one d hi
  · rw [hflip, hflip]
    exact decodeByte_inverted_two d hi hj hij

end Sys2Proof.Machine
end
section

/-! A beat write into DRAM (03_host_link R92, R102; O52): `storeBytes` lays the enabled bytes side by side, and the mark of the
beat follows R102. -/

namespace Sys2Proof.Machine

/-- A byte that `storeBytes` does not write keeps its value. -/
theorem tget_storeBytes_other (beat : Nat) (en : Dword) (l : List Byte) {a : Nat} : ∀ (i : Nat) (t : Table Byte), twf 0 t = true →
    (∀ k, k < l.length → en.getLsbD (i + k) = true → a ≠ beat * beatBytes + (i + k)) →
    tget 0 (storeBytes beat en i l t) a = tget 0 t a := by
  induction l with
  | nil => exact fun _ _ _ _ => rfl
  | cons b r ih =>
      intro i t h ha
      have hr : ∀ k, k < r.length → en.getLsbD (i + 1 + k) = true → a ≠ beat * beatBytes + (i + 1 + k) := fun k hk he => by
        have := ha (k + 1) (by simpa using hk)
        rw [show i + (k + 1) = i + 1 + k by omega] at this
        exact this he
      rw [storeBytes]
      split
      · next he =>
          rw [ih _ _ (twf_tset _ _ h) hr]
          exact tget_tset_other _ h (ha 0 (Nat.succ_pos _) he)
      · exact ih _ _ h hr

/-- A byte that `storeBytes` writes has its new value. -/
theorem tget_storeBytes (beat : Nat) (en : Dword) (l : List Byte) : ∀ (i : Nat) (t : Table Byte) (k : Nat), twf 0 t = true →
    k < l.length → en.getLsbD (i + k) = true →
    tget 0 (storeBytes beat en i l t) (beat * beatBytes + (i + k)) = l.getD k 0 := by
  induction l with
  | nil => exact fun _ _ _ _ hk => absurd hk (Nat.not_lt_zero _)
  | cons b r ih =>
      intro i t k h hk he
      cases k with
      | zero =>
          rw [storeBytes, if_pos (by simpa using he), tget_storeBytes_other _ _ _ _ _ (twf_tset _ _ h) fun k _ _ => by omega]
          exact tget_tset_same _ _ h
      | succ k =>
          rw [show i + (k + 1) = i + 1 + k by omega] at he ⊢
          rw [storeBytes]
          split
          · exact ih _ _ _ (twf_tset _ _ h) (by simpa using hk) he
          · exact ih _ _ _ h (by simpa using hk) he

theorem padTo_length (n : Nat) (l : List Byte) : (padTo n l).length = n := by
  simp only [padTo, List.length_take, List.length_append, List.length_replicate]
  omega

theorem dramPoison_dramWrite {w : BeatWrite} {d : Dram} (h : Memory.wf d = true) (b : Nat) :
    dramPoison (dramWrite w d) b =
      if b = w.beat then w.poison || (w.enables ≠ allEnables && dramPoison d w.beat) else dramPoison d b :=
  tget_tset _ _ _ ((memory_wf_iff d).1 h).2

/-- Settles O52: the bytes by `tget_storeBytes` and `tget_storeBytes_other`, the marks by `dramPoison_dramWrite`. -/
theorem beatWriteIntoDram : Obligations.BeatWriteIntoDram := by
  intro w d h
  have hb : twf 0 d.bytes = true := ((memory_wf_iff d).1 h).1
  refine ⟨dramWrite_wf w h, fun i hi he => ?_, fun a ha => ?_, fun hp he => ?_, fun hp he => ?_, fun hp => ?_, fun b hne => ?_⟩
  · have := tget_storeBytes w.beat w.enables (padTo beatBytes w.data) 0 d.bytes i hb (by rwa [padTo_length]) (by rwa [Nat.zero_add])
    rwa [Nat.zero_add] at this
  · refine tget_storeBytes_other w.beat w.enables _ 0 d.bytes hb fun k hk he => ?_
    rw [padTo_length] at hk
    rw [Nat.zero_add] at he ⊢
    exact ha k hk he
  · simp [dramPoison_dramWrite h, hp, he]
  · simp [dramPoison_dramWrite h, hp, he]
  · simp [dramPoison_dramWrite h, hp]
  · simp [dramPoison_dramWrite h, hne]

end Sys2Proof.Machine
end
section

/-! The tile state port (05_rooms_suites_chart R178; O53). -/

namespace Sys2Proof.Machine

variable {s : State}

/-- The counts of a Suite after one of its tiles goes from state `o` to state `n`. -/
def SuiteCtx.recounted (o n : TileSt) (c : SuiteCtx) : SuiteCtx :=
  { c with dirty := recount c.dirty o.counts n.counts, stowing := recount c.stowing (o = .stowing) (n = .stowing) }

/-- The counts of a Room after one of its tiles goes from state `o` to state `n`. -/
def ChartEntry.recounted (o n : TileSt) (e : ChartEntry) : ChartEntry :=
  { e with dirtyCnt := recount e.dirtyCnt o.counts n.counts, stowingCnt := recount e.stowingCnt (o = .stowing) (n = .stowing) }

/-- What the port does to a tile of a saved class, part by part. -/
theorem putTile_of_saved {t : Nat} (x : Tile) (h : (tileClass s t).saved = true) :
    (putTile t x s).cht.tiles = tset {} s.cht.tiles t x ∧
      (putTile t x s).cht.entries =
        tmod {} s.cht.entries (t / tilesPerRoom) (ChartEntry.recounted (tileAt s t).st x.st) ∧
      (putTile t x s).cht.dirtyTotal = recount s.cht.dirtyTotal (tileAt s t).st.counts x.st.counts ∧
      (putTile t x s).cht.stowingTotal = recount s.cht.stowingTotal ((tileAt s t).st = .stowing) (x.st = .stowing) ∧
      (putTile t x s).sui = (s.sui.map fun c =>
        if c.cfg.id = tileSuite s t then c.recounted (tileAt s t).st x.st else c) ∧
      (putTile t x s).dram = s.dram ∧ (putTile t x s).dev = s.dev := by
  have h : (entryAt s (t / tilesPerRoom)).cls.saved = true := h
  unfold putTile
  extract_lets r o e s₁ dO dN sO sN s₂ s₃
  rw [if_pos h]
  exact ⟨rfl, rfl, rfl, rfl, rfl, rfl, rfl⟩

theorem find_map_recounted (l : List SuiteCtx) (id : Nat) (f : SuiteCtx → SuiteCtx) (hf : ∀ c, (f c).cfg = c.cfg) :
    (l.map fun c => if c.cfg.id = id then f c else c).find? (fun c => c.cfg.id = id) =
      (l.find? fun c => c.cfg.id = id).map f := by
  induction l with
  | nil => rfl
  | cons c l ih =>
      by_cases h : c.cfg.id = id
      · simp [h, hf]
      · simp [h, ih]

/-- Settles O53: `putTile_of_saved`, read through the tables. -/
theorem tilePortKeepsCounts : Obligations.TilePortKeepsCounts := by
  intro s t x ht he hs u r
  obtain ⟨htiles, hentries, hdirty, hstowing, hsui, hdram, hdev⟩ := putTile_of_saved x hs
  have hr : entryAt u r = (entryAt s r).recounted (tileAt s t).st x.st := by
    show tget {} u.cht.entries r = _
    rw [show u.cht.entries = _ from hentries]
    exact tget_tset_same _ _ he
  refine ⟨fun k => ?_, fun k hk => ?_, by rw [hr]; rfl, by rw [hr]; rfl, hdirty, hstowing, fun c hc => ?_, hdram, hdev⟩
  · show tget {} u.cht.tiles k = _
    rw [show u.cht.tiles = _ from htiles]
    exact tget_tset _ _ _ ht
  · show tget {} u.cht.entries k = _
    rw [show u.cht.entries = _ from hentries]
    exact tget_tset_other _ he hk
  · refine ⟨c.recounted (tileAt s t).st x.st, ?_, rfl, rfl, rfl⟩
    show u.sui.find? _ = _
    rw [show u.sui = _ from hsui, find_map_recounted _ _ (SuiteCtx.recounted _ _) fun _ => rfl]
    exact congrArg _ hc

end Sys2Proof.Machine
end
section

/-! Transitions and raises (01_architecture R34, 19_almanac_log_identity R650, 16_fault_stations R555 to R559; O51, O23). -/

namespace Sys2Proof.Machine

variable {s : State}

/-! ### A transition -/

/-- A record is appended to the ready ones while the Log does not hold records. -/
theorem logCore_of_not_holds (type block a0 a1 a2 suite master : Nat) (h : logHolds s = false) :
    (logCore type block a0 a1 a2 suite master s).log =
      { s.log with ready := s.log.ready ++ [mkLog type block a0 a1 a2 suite master s], next := (s.log.next + 1) % 2 ^ 32 } := by
  simp [logCore, h]

theorem logHolds_addEvent (i : Nat) (r : EventRecord) : logHolds (addEvent i r s) = logHolds s := by
  have f₁ := @addEvent_frame
  simp only [logHolds, f₁]

/-- A vendor event is a record of its code behind the ready ones. -/
theorem event_of_not_holds (code : Nat) (b : Block) (a0 a1 : Nat) (h : logHolds s = false) :
    ∃ r : LogRecord, (event code b a0 a1 s).log.ready = s.log.ready ++ [r] ∧ r.type = code ∧ r.arg0 = a0 ∧ r.arg1 = a1 ∧
      (event code b a0 a1 s).log.lastRun = s.log.lastRun := by
  have f₁ := @addEvent_frame
  unfold event vendorEvent
  extract_lets e
  rw [logCore_of_not_holds _ _ _ _ _ _ _ (by rwa [logHolds_addEvent])]
  simp only [f₁]
  exact ⟨_, rfl, rfl, rfl, rfl, trivial⟩

/-- Settles O51: the record of TYPE 0x0100 by `logCore_of_not_holds`, that of the vendor event by `event_of_not_holds`. -/
theorem transitionIsRecorded : Obligations.TransitionIsRecorded := by
  have f₁ := @alertBit_frame
  have f₂ := @event_frame
  have f₃ := @logCore_frame
  intro s new cause h t
  let s₁ : State := alertBit 0 (if new = .saved ∨ new = .off then
    { s with dev := { s.dev with state := new, prev := s.dev.state, entryCause := cause },
             log := { s.log with lastRun := s.almanac } }
    else { s with dev := { s.dev with state := new, prev := s.dev.state, entryCause := cause } })
  let s₂ : State := logCore 0x0100 (blockNum .dev) new.code cause s.dev.state.code 0xFFFF mNone s₁
  have ht : t = event 0x0001 .dev new.code cause s₂ := rfl
  have h₁ : logHolds s₁ = false := by simpa only [logHolds, s₁, f₁, State.ite_att, ite_self] using h
  have hl : s₂.log = _ := logCore_of_not_holds _ _ _ _ _ _ _ h₁
  have h₂ : logHolds s₂ = false := by simpa only [logHolds, s₂, f₃] using h₁
  obtain ⟨b, hready, htype, harg0, harg1, hrun⟩ := event_of_not_holds 0x0001 .dev new.code cause h₂
  have hdev : s₁.dev = { s.dev with state := new, prev := s.dev.state, entryCause := cause } := by
    simp only [s₁, f₁, State.ite_dev, ite_self]
  have hlog : s₁.log.ready = s.log.ready ∧ s₁.log.lastRun = if new = .saved ∨ new = .off then s.almanac else s.log.lastRun := by
    simp only [s₁, f₁]
    split <;> exact ⟨rfl, rfl⟩
  obtain ⟨hr₁, hrun₁⟩ := hlog
  have halert : s₁.tws.alert = s.tws.alert ||| 1 := by
    simp only [s₁, alertBit]
    split <;> rfl
  have halm : s₁.almanac = s.almanac := by simp only [s₁, f₁, State.ite_almanac, ite_self]
  have hd : t.dev = s₁.dev := by rw [ht]; simp only [f₂, s₂, f₃]
  rw [hd, hdev]
  refine ⟨rfl, rfl, rfl, ⟨mkLog 0x0100 (blockNum .dev) new.code cause s.dev.state.code 0xFFFF mNone s₁, b, ?_, rfl, rfl, rfl,
    rfl, halm, ?_, htype, harg0, harg1⟩, ?_, ?_, ?_, ?_, ?_, ?_⟩
  · rw [ht, hready, hl, hr₁, List.append_assoc]
    rfl
  · exact congrArg (fun d : Dev => d.state.code) hdev
  · rw [ht, ← halert]
    simp only [f₂, s₂, f₃]
  · rw [ht, hrun, hl]
    exact hrun₁
  all_goals rw [ht]; simp only [f₂, s₂, f₃, s₁, f₁]
  all_goals split <;> rfl

/-! ### A raise at a station -/

theorem getLsbD_one_bit {b k : Nat} (hk : k < 32) : (BitVec.ofNat 32 (2 ^ b)).getLsbD k = decide (k = b) := by
  rw [BitVec.getLsbD_ofNat, Nat.testBit_two_pow, decide_eq_true hk, Bool.true_and]
  simp only [eq_comm]

/-- Settles O23: `raiseStation`, field by field. -/
theorem raiseRecordsTheClass : Obligations.RaiseRecordsTheClass := by
  intro c addr mstr access entry s x y _
  refine ⟨fun k hk => ?_, fun k hk => ?_, ?_, fun h => ?_, fun h => ?_, fun h => ?_⟩
  · simp only [y, raiseStation]
    split <;> rw [BitVec.getLsbD_or, getLsbD_one_bit hk]
  · simp only [y, raiseStation]
    split <;> rw [BitVec.getLsbD_or, getLsbD_one_bit hk]
  · have hs : y.raised = satInc 0xFFFF x.raised := by
      simp only [y, raiseStation]
      split <;> rfl
    rw [hs, satInc]
    grind
  · simp [y, raiseStation, h]
  · simp only [y, raiseStation]
    rw [if_neg h]
    exact ⟨rfl, rfl, rfl, rfl⟩
  · simp only [y, raiseStation]
    split <;> grind

end Sys2Proof.Machine
end

section

/-! Mailbox commands (03_host_link R106 to R114; O3, O4, O5, O6). A command that the state serves answers what its own function
gives (`exec_of_serves`); one that RESTORE and WARM-RETURN do not name answers Busy there (`answers_busy`). -/

namespace Sys2Proof.Machine

variable {s : State}

/-! ### Served and busy commands -/

theorem exec_of_serves {c : Instr} {op rc : Nat} {out : List Byte} {f : State → MbxAns} {t : State} (hs : serves s op)
    (hc : exec c s = .next (mailbox op f s)) (hf : f s = (some (rc, out), t)) :
    exec c s = .next (emit (.mailbox op rc out) t) := by
  rw [hc, mailbox_of_serves hs, hf]
  rfl

theorem answers_of_serves {c : Instr} {op rc : Nat} {out : List Byte} {f : State → MbxAns} (hs : serves s op)
    (hc : exec c s = .next (mailbox op f s)) (hf : f s = (some (rc, out), s)) : Answers c s op rc out :=
  exec_of_serves hs hc hf

theorem answers_busy {c : Instr} {op : Nat} {f : State → MbxAns} (h : s.dev.state = .restore ∨ s.dev.state = .warmReturn)
    (ho : servedInRestore op = false) (hc : exec c s = .next (mailbox op f s)) : Answers c s op rcBusy [] := by
  have hb : mailboxServes s op = some false := by
    rcases h with h | h <;> simp [mailboxServes, h, ho]
  rw [Answers, hc, mailbox, hb]

/-! ### Reports -/

theorem units256_reported (n : Nat) : units256 (n / 2 ^ 28 * 2 ^ 28) = n / 2 ^ 28 :=
  Nat.mul_div_cancel _ (Nat.two_pow_pos 28)

theorem getTimestamp_bytes (h : s.log.calValid = true) :
    calendar s s.almanac = ((s.almanac : Int) * 1000 + s.log.offset).toNat := if_pos h

theorem getTimestamp_zero (h : s.log.calValid = false) : leBytes 8 (calendar s s.almanac) = List.replicate 8 0 := by
  rw [calendar, h, if_neg Bool.false_ne_true]
  rfl

/-- Settles O3: each report is the bytes that its function gives. -/
theorem mailboxReportsOfState : Obligations.MailboxReportsOfState := by
  refine ⟨fun s => ⟨fun h => ?_, fun h => ?_, fun h hv => ?_, fun h hv => ?_, fun h => ?_, fun ofs len h hl => ?_, fun h => ?_,
    fun h => ?_⟩, fun s => ⟨fun h => ?_, fun h => ?_, fun h => ?_, fun h => ?_, fun first count h hf h1 h2 => ?_, fun h => ?_,
    fun h => ?_, fun start h => ?_, fun h => ?_, fun h => ?_, fun set h hset => ?_⟩⟩
  · exact answers_of_serves h rfl rfl
  · exact answers_of_serves h rfl rfl
  · exact answers_of_serves h rfl (congrArg (mbxOut · s) (getTimestamp_zero hv))
  · exact answers_of_serves h rfl (congrArg (fun n => mbxOut (leBytes 8 n) s) (getTimestamp_bytes hv))
  · exact answers_of_serves h rfl rfl
  · exact answers_of_serves h rfl (if_neg (Nat.not_lt.2 hl))
  · exact answers_of_serves h rfl rfl
  · exact answers_of_serves h rfl rfl
  · refine answers_of_serves h rfl ?_
    simp only [volReported, persReported, units256_reported]
    rfl
  · exact answers_of_serves h rfl rfl
  · exact answers_of_serves h rfl rfl
  · exact answers_of_serves h rfl rfl
  · exact answers_of_serves h rfl (if_neg (by omega))
  · exact answers_of_serves h rfl rfl
  · exact answers_of_serves h rfl rfl
  · exact answers_of_serves h rfl rfl
  · exact answers_of_serves h rfl rfl
  · exact answers_of_serves h rfl rfl
  · exact answers_of_serves h rfl (if_pos hset)

theorem backgroundStatus_of_none (h : s.hst.bg = none) (ho : s.hst.lastBgOpcode ≠ 0) (hs : serves s 0x0002) :
    Answers .backgroundOperationStatus s 0x0002 0
      ([200, 0] ++ leBytes 2 s.hst.lastBgOpcode ++ leBytes 2 s.hst.lastBgRc ++ [0, 0]) := by
  refine answers_of_serves hs rfl ?_
  simp only [h, if_neg ho]
  rfl

theorem backgroundStatus_of_scan {at_ : Nat} (h : s.hst.bg = some { opcode := 0x4304, startedAt := at_ })
    (hd : dramBeats s ≠ 0) (hs : serves s 0x0002) : Answers .backgroundOperationStatus s 0x0002 0
      ([BitVec.ofNat 8 (1 + 2 * (s.drc.scanBeat * 100 / dramBeats s)), 0] ++ leBytes 2 0x4304 ++ [0, 0, 0, 0]) := by
  refine answers_of_serves hs rfl ?_
  simp only [h, bgPercent, if_true, if_neg hd]
  rfl

theorem getPoison_whole {dpa len : Nat} (hl : (poisonIn s dpa len).length ≤ 1022) (hn : s.hst.poisonNext = none) :
    getPoison dpa len s = mbxOut ([BitVec.ofNat 8 (2 * b2n s.hst.poisonOverflow + 4 * b2n s.hst.scanning), 0] ++
      leBytes 8 (if s.hst.poisonOverflow then calendar s s.hst.poisonOverflowAt else 0) ++
      leBytes 2 (poisonIn s dpa len).length ++ List.replicate 20 0 ++ (poisonIn s dpa len).flatMap poisonRecord) s := by
  have hs : { s with hst := { s.hst with poisonNext := none } } = s := by rw [← hn]
  have hf : pkNat [bit 0 false, bit 1 s.hst.poisonOverflow, bit 2 s.hst.scanning] =
      2 * b2n s.hst.poisonOverflow + 4 * b2n s.hst.scanning := by
    cases s.hst.poisonOverflow <;> cases s.hst.scanning <;> rfl
  simp only [getPoison, hn, List.drop_zero, recordsPerCall, Nat.not_lt.2 hl, decide_false, List.take_of_length_le hl, hf,
    Bool.false_eq_true, if_false, hs]

/-- Settles O4: each report is the bytes that its function gives; a list that fits one answer is given whole. -/
theorem mailboxRecordReports : Obligations.MailboxRecordReports := by
  refine fun s => ⟨fun log h hl => ?_, fun h => ?_, fun h hb ho => backgroundStatus_of_none hb ho h,
    fun _ h hb hd => backgroundStatus_of_scan hb hd h, fun h => ?_, fun dpa len h hd hl hn => ?_, fun h hn hl => ?_,
    fun ofs len h h1 h2 h3 h4 => ?_⟩
  · exact answers_of_serves h rfl (if_pos hl)
  · exact answers_of_serves h rfl rfl
  · exact answers_of_serves h rfl rfl
  · exact answers_of_serves h rfl ((if_pos hd).trans (getPoison_whole hl hn))
  · have hs : { s with hst := { s.hst with scanNext := 0 } } = s := by rw [← hn]
    refine answers_of_serves h rfl ?_
    simp only [hn, List.drop_zero, recordsPerCall, Nat.not_lt.2 hl, decide_false, List.take_of_length_le hl,
      Bool.false_eq_true, if_false, hs]
    rfl
  · refine answers_of_serves h rfl ?_
    simp only [lsaRange, h1, h2, h3, h4, decide_true, Bool.and_true, Bool.not_true, Bool.false_eq_true, if_false]
    rfl

/-- Settles O5: a served opcode without support is answered so; `answers_busy` gives the rest. -/
theorem unsupportedAndBusy : Obligations.UnsupportedAndBusy := by
  refine ⟨fun s => ⟨fun h => ?_, fun h => ?_, fun h => ?_, fun op h ho => ?_⟩, fun s h =>
    ⟨answers_busy h rfl rfl, answers_busy h rfl rfl, fun _ => answers_busy h rfl rfl, fun _ _ => answers_busy h rfl rfl,
      answers_busy h rfl rfl, answers_busy h rfl rfl, answers_busy h rfl rfl, fun _ _ _ => answers_busy h rfl rfl,
      fun _ _ => answers_busy h rfl rfl⟩⟩
  · exact answers_of_serves h rfl rfl
  · exact answers_of_serves h rfl rfl
  · exact answers_of_serves h rfl rfl
  · refine answers_of_serves h (congrArg _ (if_neg ?_)) rfl
    simpa using ho

/-! ### Settings -/

theorem clearEventRecords_one {log h : Nat} (hs : serves s 0x0101) (hl : log < 4)
    (hh : ∃ r ∈ (eventLog s log).records, r.1 = h) : exec (.clearEventRecords log false [h]) s =
      .next (emit (.mailbox 0x0101 0 []) { s with hst := { s.hst with logs := vmod s.hst.logs log fun l =>
        { l with records := l.records.filter (fun r => r.1 ≠ h), overflow := false, dropped := 0, firstDrop := 0,
                 lastDrop := 0 } } }) := by
  have hany : ((eventLog s log).records.any fun r => r.1 = h) = true := by simpa using hh
  have hfilter (l : List (Nat × EventRecord)) : (l.filter fun r => !([h].contains r.1)) = l.filter fun r => r.1 ≠ h :=
    List.filter_congr fun r _ => by simp
  refine exec_of_serves hs rfl ((if_neg (by simp [Nat.not_le.2 hl])).trans ((if_neg Bool.false_ne_true).trans
    ((if_pos ?_).trans ?_)))
  · rw [List.all_cons, List.all_nil, Bool.and_true]
    exact hany
  · simp only [hfilter]
    rfl

theorem setAlertConfiguration_life {en life : Nat} (hs : serves s 0x4202) (he : en < 32) :
    exec (.setAlertConfiguration [1, en, life, 0, 0, 0, 0]) s = .next (emit (.mailbox 0x4202 0 [])
      { s with hst := { s.hst with alerts := { s.hst.alerts with
        enables := en % 2 + (s.hst.alerts.enables &&& 30), lifeUsedPct := life % 256 } } }) := by
  refine exec_of_serves hs rfl ?_
  simp only [Nat.not_le.2 he, show ¬ (32 : Nat) ≤ 1 by decide, or_self, if_false, Nat.and_one_is_mod]
  rfl

/-- The mode and the vector that a policy byte `n` with interrupts gives log `i`. -/
def EventLog.interrupts (i n : Nat) (l : EventLog) : EventLog :=
  { l with irq := true, vector := if n / 16 = 0 then i + 1 else n / 16 }

/-- A policy byte that enables interrupts gives its log the mode and the vector. -/
theorem setPolicy_of_interrupt {i n : Nat} (h : n % 4 = 1 ∧ n < 256) : setPolicy i n s =
    modLog i (EventLog.interrupts i n) s := by
  have hv : n / 16 % 16 = n / 16 := by omega
  simp only [setPolicy, h.1, hv, decide_true, if_true]
  rfl

theorem setEventInterruptPolicy_of_interrupts {a b c d : Nat} (hs : serves s 0x0103)
    (hn : ∀ n ∈ [a, b, c, d], n % 4 = 1 ∧ n < 256) : exec (.setEventInterruptPolicy [a, b, c, d]) s =
      .next (emit (.mailbox 0x0103 0 []) { s with hst := { s.hst with logs := vmod (vmod (vmod (vmod s.hst.logs
        0 (EventLog.interrupts 0 a)) 1 (EventLog.interrupts 1 b)) 2 (EventLog.interrupts 2 c)) 3 (EventLog.interrupts 3 d) } }) := by
  have hok : [a, b, c, d].all policyOk = true := by
    refine List.all_eq_true.2 fun n hmem => ?_
    obtain ⟨h4, h256⟩ := hn n hmem
    simp [policyOk, h4, h256]
  refine exec_of_serves hs rfl ((if_pos ⟨rfl, hok⟩).trans ?_)
  have hfold : [a, b, c, d].zipIdx.foldl (fun s x => setPolicy x.2 x.1 s) s =
      setPolicy 3 d (setPolicy 2 c (setPolicy 1 b (setPolicy 0 a s))) := rfl
  rw [hfold, setPolicy_of_interrupt (hn a (by simp)), setPolicy_of_interrupt (hn b (by simp)),
    setPolicy_of_interrupt (hn c (by simp)), setPolicy_of_interrupt (hn d (by simp))]
  simp only [modLog]
  rfl

/-- Settles O6: each command is its own function on a served state; the four policies by `setPolicy_of_interrupt`. -/
theorem mailboxSettings : Obligations.MailboxSettings := by
  refine ⟨fun s => ⟨fun log h hl => ?_, fun log h hs hl hh => clearEventRecords_one hs hl hh, fun ofs data h h1 h2 h3 h4 => ?_,
    fun dirty h => ?_, fun act en life h ha he => ?_, fun h => ?_, fun h hb => ?_, fun h hb hm => ?_, fun h hm hz => ?_⟩,
    fun s a b c d h hn => ?_⟩
  · exact exec_of_serves h rfl (if_neg (by simp [Nat.not_le.2 hl]))
  · refine exec_of_serves h rfl (if_pos ?_)
    simp [lsaRange, h1, h2, h3, h4]
  · exact exec_of_serves h rfl rfl
  · subst ha
    exact setAlertConfiguration_life h he
  · exact ⟨_, rfl, answers_of_serves h rfl rfl⟩
  · refine exec_of_serves h rfl (if_neg ?_)
    simp [hb]
  · refine exec_of_serves h rfl ((if_neg (by simp [hm])).trans (if_neg ?_))
    simp [hb]
  · show _ = Host.Outcome.next _
    rw [show exec .secureErase s = execSecureErase s from rfl, execSecureErase, mailbox_of_serves h]
    simp only [hm, hz, Option.isSome_none, Bool.or_self, Bool.false_eq_true, if_false]
    rfl
  · refine ⟨_, setEventInterruptPolicy_of_interrupts h hn, fun x hx => ?_, rfl, rfl⟩
    simp only [eventLog, emit, vget_vmod _ _ _ _ _ (show 0 < 4 by decide), vget_vmod _ _ _ _ _ (show 1 < 4 by decide),
      vget_vmod _ _ _ _ _ (show 2 < 4 by decide), vget_vmod _ _ _ _ _ (show 3 < 4 by decide)]
    simp only [List.mem_cons, List.not_mem_nil, or_false] at hx
    rcases hx with rfl | rfl | rfl | rfl <;> rfl

end Sys2Proof.Machine
end

section

/-! Vectors and stations: a change at an index looks at the value there alone. Then the commits of the HDM decoders (03_host_link
R84; O16), the timers of a station (16_fault_stations R558 to R566; O24), the control of a Dumbwaiter channel (13_dumbwaiter
R476 to R500; O41) and the Exercise (10_energy_pack R389 to R391; O36). -/

namespace Sys2Proof.Machine

variable {s : State}

/-! ### Changes at an index -/

theorem vmod_congr {α : Type} {n : Nat} {e : α} {v : Vector α n} {i : Nat} {f g : α → α} (h : f (vget e v i) = g (vget e v i)) :
    vmod v i f = vmod v i g := by
  unfold vmod
  split
  · next hi =>
      simp only [vget, hi, dite_true] at h
      rw [h]
  · rfl

theorem vmod_vmod {α : Type} {n : Nat} (v : Vector α n) (i : Nat) (f g : α → α) :
    vmod (vmod v i f) i g = vmod v i fun x => g (f x) := by
  unfold vmod
  split
  · simp [Vector.set_set]
  · rfl

theorem modStation_congr {b : Block} {f g : Station → Station} (h : f (stationAt s b) = g (stationAt s b)) :
    modStation b f s = modStation b g s := by
  rw [modStation, modStation, vmod_congr h]

theorem modChan_congr {n : Nat} {f g : Channel → Channel} (h : f (chanAt s n) = g (chanAt s n)) :
    modChan n f s = modChan n g s := by
  rw [modChan, modChan, vmod_congr h]

theorem modChan_modChan (n : Nat) (f g : Channel → Channel) (s : State) :
    modChan n g (modChan n f s) = modChan n (fun c => g (f c)) s := by
  simp only [modChan, vmod_vmod]

theorem advanceTo_nrg (t : Nat) (s : State) : (advanceTo t s).nrg = s.nrg := by
  rw [(advanceTo_frame t s).2.2.2.2.2.2.2.2.2.2.2.1]

theorem advanceTo_almanac {t : Nat} (h : s.log.aonPowered = true) : (advanceTo t s).almanac = max s.almanac t := by
  simp only [advanceTo, h, if_true]

theorem stationAt_advanceTo (t : Nat) (s : State) (b : Block) : stationAt (advanceTo t s) b = stationAt s b := by
  have hs := (advanceTo_frame t s).2.1
  rw [stationAt, hs, stationAt]

/-! ### HDM decoders -/

theorem all_take_committed (v : Vector HdmDecoder 4) {i : Nat} (hi : i < 4) :
    ((v.toList.take i).all fun d => d.committed) = true ↔ ∀ j, j < i → (vget {} v j).committed = true := by
  rw [List.all_eq_true]
  constructor
  · intro h j hj
    have hj4 : j < 4 := Nat.lt_trans hj hi
    simp only [vget, hj4, dite_true]
    exact h _ (List.mem_take_iff_getElem.2 ⟨j, by rw [Vector.length_toList]; exact Nat.lt_min.2 ⟨hj, hj4⟩, by simp⟩)
  · intro h d hd
    obtain ⟨j, hj, rfl⟩ := List.mem_take_iff_getElem.1 hd
    rw [Vector.length_toList] at hj
    replace hj : j < i ∧ j < 4 := Nat.lt_min.1 hj
    simpa [vget, hj.2] using h j hj.1

theorem hdmSupported_iff {base size ways gran pos : Nat} : hdmSupported base size ways gran pos = true ↔
    ways ∈ [1, 2, 4, 8, 16] ∧ gran ∈ [256, 512, 1024, 2048, 4096, 8192, 16384] ∧ base % 2 ^ 28 = 0 ∧ size % 2 ^ 28 = 0 ∧
      pos < ways := by
  simp only [hdmSupported, Bool.and_eq_true, List.contains_iff_mem, decide_eq_true_eq, and_assoc]

theorem hdmDecoderCommit_sets (s : State) (i base size ways gran pos : Nat) : ∃ d : HdmDecoder,
    exec (.hdmDecoderCommit i base size ways gran pos) s =
        .next { s with hst := { s.hst with hdm := vset s.hst.hdm i d } } ∧
      d.committed = (hdmSupported base size ways gran pos && (s.hst.hdm.toList.take i).all fun d => d.committed) ∧
      d.err = !d.committed :=
  ⟨_, rfl, rfl, rfl⟩

/-- Settles O16: the decoder written is committed exactly with a supported value and every lower decoder committed. -/
theorem hdmDecoderCommit : Obligations.HdmDecoderCommit := by
  intro s i base size ways gran pos hi
  obtain ⟨d, he, hc, herr⟩ := hdmDecoderCommit_sets s i base size ways gran pos
  have hd : vget {} (vset s.hst.hdm i d) i = d := (vget_vset _ _ _ _ _ hi).trans (if_pos rfl)
  refine ⟨_, he, fun j _ hne => (vget_vset _ _ _ _ _ hi).trans (if_neg hne), ?_, ?_, rfl⟩
  · refine (congrArg HdmDecoder.committed hd).trans (hc.trans (Bool.eq_iff_iff.2 ?_))
    rw [Bool.and_eq_true, hdmSupported_iff, all_take_committed _ hi, decide_eq_true_eq]
    simp only [and_assoc]
  · show (vget {} (vset s.hst.hdm i d) i).err = !(vget {} (vset s.hst.hdm i d) i).committed
    rw [hd, herr]

/-! ### Stations -/

/-- Settles O24: each command is one change of its station; a grace timer looks at the station that the Almanac's move keeps. -/
theorem stationTimersAndAcknowledge : Obligations.StationTimersAndAcknowledge := by
  refine fun s b => ⟨fun cls t h => ?_, fun v => rfl, fun t h => ?_, fun cls t h hs hl => ?_⟩
  · show execQuietExpire b cls s = _
    simp only [execQuietExpire, h]
  · show execQuarantineEnd b s = _
    simp only [execQuarantineEnd, h]
  · show execGraceExpire b cls s = _
    simp only [execGraceExpire, h, stationAt_advanceTo]
    refine congrArg (fun u => Host.Outcome.next (escalate b (stationAt s b).level u)) (modStation_congr ?_)
    rw [stationAt_advanceTo]
    simp only [graceStation, hs, hl, Bool.and_self, if_true]

/-! ### Channels -/

/-- Settles O41: each command is one change of its channel. -/
theorem channelControl : Obligations.ChannelControl := by
  refine fun s ch hch => ⟨fun v hv => ?_, fun v hv => ?_, fun v ho h2 h4 h8 => ?_, fun hs hr => ?_, fun r hs hr hg => ?_, fun h => ?_,
    fun hf hm => ?_, fun hr => ?_⟩
  · show Host.Outcome.next (dmwTailWrite ch v s) = _
    simp only [dmwTailWrite, Nat.not_le.2 hch, Nat.not_le.2 hv, if_false]
  · show Host.Outcome.next (dmwTailWrite ch v s) = _
    simp only [dmwTailWrite, Nat.not_le.2 hch, hv, if_false, if_true, dmwBad]
  · show Host.Outcome.next (dmwEnable ch v s) = _
    simp only [dmwEnable, Nat.not_le.2 hch, Nat.not_lt.2 h4, Nat.not_lt.2 h8, ho, h2, ne_eq, not_true_eq_false, false_and,
      or_self, if_false, if_true, modChan_modChan]
  · show Host.Outcome.next (dmwPause ch s) = _
    rw [dmwPause, if_pos ⟨hch, hs⟩]
    exact congrArg _ (modChan_congr (if_neg (by simp [inStep, hr])))
  · show Host.Outcome.next (dmwPause ch s) = _
    rw [dmwPause, if_pos ⟨hch, hs⟩]
    exact congrArg _ (modChan_congr (if_pos (by simp [inStep, hr, hg])))
  · show Host.Outcome.next (dmwResume ch s) = _
    rw [dmwResume, if_pos ⟨hch, h⟩]
  · show Host.Outcome.next (dmwResume ch s) = _
    rw [dmwResume, if_neg (by simp [hf, hm])]
  · show Host.Outcome.next (dmwResetCmd ch s) = _
    have hn : inStep (chanAt s ch) = false := by simp [inStep, hr]
    simp only [dmwResetCmd, Nat.not_le.2 hch, hn, if_false, Bool.false_eq_true, dmwReset, dmwAbort, hr]

/-! ### The Exercise -/

theorem execExerciseDue_fires {h d : Nat} (hc : exerClock s s.almanac = some h) (hd : s.plan.policy.exerDays ≠ 0)
    (hp : poweredState s.dev.state = true) (hl : lastDue s h = some d) (hf : s.nrg.exerFired < d) :
    exec .exerciseDue s = .next (fireExercise d s) := by
  show execExerciseDue s = _
  simp only [execExerciseDue, hc, hl, hd, hp, hf, Bool.not_true, Bool.false_eq_true, or_self, if_false, if_true]

theorem execExerciseStopCheck_stops {x : ExerciseRun} (h : s.nrg.exer = some x) :
    exec .exerciseStopCheck s = .next (((exerciseStop (advanceTo (nextMultiple s 100000) s) x).elim
      (advanceTo (nextMultiple s 100000) s) fun r => chargeStep (endExercise r (advanceTo (nextMultiple s 100000) s)))) := by
  show execExerciseStopCheck s = _
  simp only [execExerciseStopCheck, h, advanceTo_nrg]
  cases exerciseStop (advanceTo (nextMultiple s 100000) s) x <;> rfl

/-- Settles O36: the conditions of the Exercise do not look at the count of its tries, so it starts as soon as it fires. -/
theorem exercise : Obligations.Exercise := by
  refine fun s => ⟨fun h => congrArg _ (if_pos h), fun h d hc hd hp hl hf hn => ?_, fun h d hc hd hp hl hf hy => ?_,
    fun h => if_pos h, fun x h => ?_, fun x h _ hn => ?_, fun x r h _ hr => ?_⟩
  · rw [execExerciseDue_fires hc hd hp hl hf]
    exact congrArg _ ((if_neg fun h => Bool.false_ne_true (hn.symm.trans h)).trans rfl)
  · rw [execExerciseDue_fires hc hd hp hl hf]
    exact congrArg _ (if_pos hy)
  · exact congrArg _ (if_pos (by simp [h]))
  · rw [execExerciseStopCheck_stops h]
    exact congrArg (fun o : Option Nat => Host.Outcome.next (o.elim _ _)) hn
  · rw [execExerciseStopCheck_stops h]
    exact congrArg (fun o : Option Nat => Host.Outcome.next (o.elim _ _)) hr

end Sys2Proof.Machine
end
section

/-! Accesses to the Control Block (00_scope R13 to R19, 13_dumbwaiter R474, R476; O22): a read is `readReg`, a write is
`writeReg` where a register lies. -/

namespace Sys2Proof.Machine

variable {s : State}

theorem exec_registerWrite_of_view {ofs : Nat} {v : Word} (ho : barOpen s = true) (ha : ofs % 4 = 0)
    (hv : (regView s ofs).isSome = true) : exec (.registerWrite false ofs v) s = .next (writeAt ofs v s) := by
  show execRegisterWrite false ofs v s = _
  simp only [execRegisterWrite, ho, ha, writeReg, hv, Bool.false_eq_true, if_true, if_false]

theorem exec_regRead {ofs : Nat} (ho : barOpen s = true) (ha : ofs % 4 = 0) :
    exec (.regPairLoRead false ofs) s = .next (emit (.regValue ofs (readAs mHost ofs s).1) (readAs mHost ofs s).2) := by
  show execRegPairLoRead false ofs s = _
  simp only [execRegPairLoRead, ho, hostRead, ha, Bool.false_eq_true, if_true, if_false]

theorem readReg_hi {ofs : Nat} (h : isPairLo ofs = true) :
    readReg (ofs + 4) s = (some ((alookup s.dev.hiCopies (ofs + 4)).getD (hiReset s (ofs + 4))), s) := by
  simp [readReg, h]

theorem readReg_of_not_hi {ofs : Nat} (h : ofs < 4 ∨ isPairLo (ofs - 4) = false) : readReg ofs s =
    (regView s ofs, if isPairLo ofs then { s with dev := { s.dev with
      hiCopies := aset s.dev.hiCopies (ofs + 4) ((regView s (ofs + 4)).getD 0) } } else s) := by
  have hn : ¬ (4 ≤ ofs ∧ isPairLo (ofs - 4) = true) := by
    rcases h with h | h
    · omega
    · simp [h]
  simp only [readReg, if_neg hn]
  split <;> rfl

theorem readAs_of_some {ofs m : Nat} {v : Word} {t : State} (h : readReg ofs s = (some v, t)) : readAs m ofs s = (v, t) := by
  rw [readAs, h]

theorem fld_low_half (v : Word) : fld v 0 16 = v.toNat % 65536 := by
  simp [fld]

/-- The low half of a pair, then its high half. -/
theorem writeReg_pair (lo hi : Word) (s : State) : writeReg 0xF0088 hi (writeReg 0xF0084 lo s) = { s with
    dev := { s.dev with loHeld := aerase (aset s.dev.loHeld 0xF0084 lo) 0xF0084 }, ecc := { s.ecc with testData := hi ++ lo } } := by
  have hlo : writeReg 0xF0084 lo s = holdLo 0xF0084 lo s := rfl
  have hhi (u : State) : writeReg 0xF0088 hi u = writeHi 0xF0084 hi u := rfl
  rw [hlo, hhi]
  simp only [writeHi, holdLo, alookup, aset, List.find?_cons_of_pos, decide_true, Option.map_some, Option.getD_some]
  rfl

/-- Settles O22: reads by `readReg_of_not_hi` and `readReg_hi`, writes by `exec_registerWrite_of_view`. -/
theorem controlBlockAccess : Obligations.ControlBlockAccess := by
  refine fun s ho => ⟨fun ofs v ha hv hn => ⟨fun hp => ?_, fun hp => ?_⟩, fun ofs ha hp => ?_, fun ofs ha hl hb => ?_,
    fun bar2 ofs size h => ⟨?_, ?_⟩, fun v => ?_, fun v h1 h2 => ?_, fun v h => ?_, fun ofs v ha hv => ?_, fun ofs v ha hv => ?_,
    fun lo hi => ?_, ?_, ?_, fun ofs v ha hl => ⟨fun h => ?_, fun h => ?_⟩⟩
  · rw [exec_regRead ho ha, readAs_of_some ((readReg_of_not_hi hn).trans (by rw [hv])), hp]
    rfl
  · rw [exec_regRead ho ha, readAs_of_some ((readReg_of_not_hi hn).trans (by rw [hv])), hp]
    rfl
  · rw [exec_regRead ho (by omega), readAs_of_some (readReg_hi hp)]
  · show execRegPairLoRead true ofs s = _
    have hbad : ((List.range 4).find? fun i => tget false s.dmw.ringBad (ofs + i)) = none :=
      List.find?_eq_none.2 fun i hi => by simp [hb i (List.mem_range.1 hi)]
    have hacc : ringAccess ofs 4 = true := by simp [ringAccess, ha, hl]
    simp only [execRegPairLoRead, ho, ringHostRead, hbad, hacc, if_true]
  · show execBadAccess bar2 ofs size false s = _
    simp only [execBadAccess, ho, h, Bool.and_self, Bool.false_eq_true, if_true, if_false]
  · show execBadAccess bar2 ofs size true s = _
    simp only [execBadAccess, ho, h, Bool.and_self, if_true]
  · rw [exec_registerWrite_of_view ho rfl rfl]
    rw [show writeAt 0x20028 v s = { s with drc := { s.drc with srIdleUs := fld v 0 16 } } from rfl, fld_low_half]
  · rw [exec_registerWrite_of_view ho rfl rfl, show writeAt 0x60004 v s = ranged (within 1 (fld v 0 16) 45000) stwBadWrite
      (fun s => { s with stw := { s.stw with maxTps := fld v 0 16 } }) s from rfl, fld_low_half, ranged,
      if_pos (by simp [within, h1, h2])]
  · rw [exec_registerWrite_of_view ho rfl rfl, show writeAt 0x60004 v s = ranged (within 1 (fld v 0 16) 45000) stwBadWrite
      (fun s => { s with stw := { s.stw with maxTps := fld v 0 16 } }) s from rfl, fld_low_half, ranged,
      if_neg (by simp only [within, Bool.and_eq_true, decide_eq_true_eq]; omega)]
    rfl
  · exact exec_registerWrite_of_view ho ha hv
  · show execRegisterWrite false ofs v s = _
    simp only [execRegisterWrite, ho, ha, writeReg, hv, Option.isSome_none, Bool.false_eq_true, if_true, if_false]
  · show execRegPairHiWrite 0xF0084 lo hi s = _
    simp only [execRegPairHiWrite, ho, Bool.true_and, decide_true, if_true]
    exact congrArg _ (writeReg_pair lo hi s)
  · show Host.Outcome.next _ = _
    rw [if_pos ho]
    rfl
  · show Host.Outcome.next _ = _
    rw [if_pos ho]
    rfl
  · show execRegisterWrite true ofs v s = _
    have hacc : ringAccess ofs 4 = true := by simp [ringAccess, ha, hl]
    simp only [execRegisterWrite, ho, ringHostWrite, hacc, h, Bool.false_eq_true, if_true, if_false]
  · show execRegisterWrite true ofs v s = _
    have hacc : ringAccess ofs 4 = true := by simp [ringAccess, ha, hl]
    simp only [execRegisterWrite, ho, ringHostWrite, hacc, h, if_true]

end Sys2Proof.Machine
end

section

/-! The Fence closes (07_fence_save R247, R252, R255, R256; O13): what `closeFence` latches and gives up. -/

namespace Sys2Proof.Machine

variable {s : State}

theorem transition_dev (new : OpState) (cause : Nat) (s : State) :
    (transition new cause s).dev = { s.dev with state := new, prev := s.dev.state, entryCause := cause } := by
  have f₁ := @event_frame
  have f₂ := @logCore_frame
  have f₃ := @alertBit_frame
  simp only [transition, f₁, f₂, f₃, State.ite_dev, ite_self]

theorem stopPrecaution_dev (s : State) : (stopPrecaution s).dev.prev = s.dev.prev ∧
    (stopPrecaution s).dev.entryCause = s.dev.entryCause ∧ (stopPrecaution s).dev.state = s.dev.state := by
  unfold stopPrecaution
  split
  · exact ⟨rfl, rfl, rfl⟩
  · split <;> exact ⟨rfl, rfl, rfl⟩

theorem stopPrecaution_sav (s : State) : (stopPrecaution s).sav.cause = s.sav.cause ∧
    (stopPrecaution s).sav.fenceTime = s.sav.fenceTime ∧ (stopPrecaution s).sav.musterIn = s.sav.musterIn ∧
      (stopPrecaution s).sav.musterOut = s.sav.musterOut := by
  unfold stopPrecaution
  split
  · cases s.dev.harbourHalf <;> exact ⟨rfl, rfl, rfl, rfl⟩
  · split <;> exact ⟨rfl, rfl, rfl, rfl⟩

theorem nrgFence_path (cause : Nat) (s : State) : (nrgFence cause s).path = fencePath cause s.nrg ∧
    (nrgFence cause s).p12vValid = s.nrg.p12vValid := by
  unfold nrgFence
  extract_lets n
  split <;> exact ⟨rfl, rfl⟩

/-- What the closing of the Fence latches, gives up and leaves alone. -/
theorem closeFence_latches (cause : Nat) (s : State) :
    ((closeFence cause s).dev.state = .fenced ∧ (closeFence cause s).dev.prev = s.dev.state ∧
      (closeFence cause s).dev.entryCause = cause) ∧
    ((closeFence cause s).sav.cause = cause ∧ (closeFence cause s).sav.fenceTime = s.almanac ∧
      (closeFence cause s).sav.musterIn = s.sav.musterIn ∧
      (closeFence cause s).sav.musterOut = (decide (cause = 0x07) && s.plan.pins.musterOutEn)) ∧
    ((closeFence cause s).nrg.path = fencePath cause s.nrg ∧ (closeFence cause s).nrg.p12vValid = s.nrg.p12vValid) ∧
    (closeFence cause s).hst.gateClosed = true ∧ (∀ w ∈ (closeFence cause s).hst.writes, w.accepted = true) ∧
    (closeFence cause s).stw.stalled = [] ∧ (closeFence cause s).dram = s.dram ∧ (closeFence cause s).cht = s.cht := by
  have f₁ := @cutStaging_frame
  have f₂ := @gauFence_frame
  have f₃ := @plkFence_frame
  have f₄ := @fenceDirty_frame
  have f₅ := @atticFence_frame
  have f₆ := @transition_frame
  have f₇ := @stopPrecaution_frame
  refine ⟨⟨closeFence_dev_state cause s, ?_, ?_⟩, ⟨?_, ?_, ?_, ?_⟩, ⟨?_, ?_⟩, rfl, fun w hw => (List.mem_filter.1 hw).2, rfl, ?_, ?_⟩
  · simp only [closeFence, f₁, f₂, stopPrecaution_dev, f₃, f₄, transition_dev,
      f₅]
  · simp only [closeFence, f₁, f₂, stopPrecaution_dev, f₃, f₄, transition_dev,
      f₅]
  · simp only [closeFence, f₁, f₂, stopPrecaution_sav, f₃, f₄,
      f₆, f₅, savFence]
  · simp only [closeFence, f₁, f₂, stopPrecaution_sav, f₃, f₄,
      f₆, f₅, savFence]
  · simp only [closeFence, f₁, f₂, stopPrecaution_sav, f₃, f₄,
      f₆, f₅, savFence]
  · simp only [closeFence, f₁, f₂, stopPrecaution_sav, f₃, f₄,
      f₆, f₅, savFence]
  · simp only [closeFence, nrgFence_path, f₁, f₂, f₇, f₃,
      f₄, f₆, f₅]
  · simp only [closeFence, nrgFence_path, f₁, f₂, f₇, f₃,
      f₄, f₆, f₅]
  · exact (closeFence_frame cause s).2.2.2.1
  · exact (closeFence_frame cause s).2.2.2.2.1

/-- The part with P12V below its threshold. -/
def p12vFallen (s : State) : State := { s with nrg := { s.nrg with p12vValid := false } }

theorem p12vBelowThreshold_closes_fence (hp : s.nrg.p12vValid = true) (h : s.dev.state = .service ∨ s.dev.state = .tenancy ∨
    s.dev.state = .harbour ∨ s.dev.state = .warmReturn) : exec .p12vBelowThreshold s = .next (closeFence 0x07 (p12vFallen s)) := by
  rw [← fenceTrigger_eq_closeFence (s := p12vFallen s) (by decide) h]
  show execP12vBelowThreshold s = _
  rw [execP12vBelowThreshold, if_pos hp]
  rcases h with h | h | h | h <;> simp only [h, p12vFallen]

theorem fencePath_p12v (n : Nrg) : fencePath 0x07 n = .pack := rfl

/-- Settles O13: both triggers close the Fence, and `closeFence_latches` says what that does. -/
theorem fenceCloses : Obligations.FenceCloses := by
  refine fun s h => ⟨fun hp => ⟨_, p12vBelowThreshold_closes_fence hp h, ?_⟩, fun he => ⟨_, musterInLow_closes_fence none he h, ?_⟩⟩
  · obtain ⟨⟨hs, hprev, hc⟩, ⟨hcause, htime, -, -⟩, ⟨hpath, hvalid⟩, hg, hw, hst, hd, hch⟩ := closeFence_latches 0x07 (p12vFallen s)
    exact ⟨hs, hprev, hc, hcause, htime, hpath.trans (fencePath_p12v _), hvalid.trans rfl, hg, hw, hst, hd, hch⟩
  · obtain ⟨⟨hs, hprev, hc⟩, ⟨hcause, htime, hin, hout⟩, -, hg, hw, hst, hd, hch⟩ := closeFence_latches 0x08 (takeMusterLow none s)
    exact ⟨hs, hprev, hc, hcause, htime, hin, hout.trans rfl, hg, hw, hst, hd, hch⟩

end Sys2Proof.Machine
end

section

/-! The precautionary stow of HARBOUR and the Safe Harbour acknowledge (16_fault_stations R573 to R575; O11). -/

namespace Sys2Proof.Machine

variable {s : State}

/-! ### The half of a save -/

theorem modRec_port_st (f : SaveRecord → SaveRecord) (s : State) : (modRec f s).sav.port.st = s.sav.port.st := by
  have f₁ := @noteReadyAny_frame
  unfold modRec
  split
  · rfl
  · split
    · next h _ => cases h <;> simp only [modHalf, putHalf, f₁]
    · rfl

theorem programList_port_st (s : State) : (programList s).sav.port.st = s.sav.port.st := by
  have f₁ := @programArea_frame
  unfold programList
  split
  · rfl
  · split <;> simp only [modRec_port_st, f₁]

theorem programHeader_port_st {r : SaveRun} (hr : s.sav.run = some r) (hh : r.half = some .port) :
    (programHeader s).sav.port.st = .writing := by
  have f₁ := @modNand_frame
  have f₂ := @eraseHeads_frame
  have f₃ := @noteReadyAny_frame
  simp only [programHeader, hr, hh, State.foldl_sav, f₁, implies_true, f₂, modHalf, putHalf,
    f₃]

theorem noteLeft_dev (s : State) : (noteLeft s).dev.phase = s.dev.phase ∧ (noteLeft s).dev.harbourHalf = s.dev.harbourHalf := by
  unfold noteLeft
  split
  · split <;> exact ⟨rfl, rfl⟩
  · exact ⟨rfl, rfl⟩

/-- The stow of HARBOUR at its start: the run of the half `h`. -/
def precautionRun (h : Half) (s : State) : State :=
  { s with sav := { s.sav with run := some { header := makeHeader s 3 (some h) false, half := some h, list := dirtyList s,
                                             todo := number ((dirtyList s).map fun e => e.tile) } },
           dev := { s.dev with phase := .writing, harbourHalf := h } }

theorem precautionStart_starts {h : Half} (hs : s.dev.state = .harbour) (hp : s.dev.phase = .waiting)
    (hh : precautionHalf s = some h) :
    exec .precautionStart s = .next (noteLeft (programList (programHeader (precautionRun h s)))) := by
  show execPrecautionStart s = _
  rw [execPrecautionStart, if_pos (by simp [hs, hp]), hh]
  rfl

/-! ### The end of the stow -/

theorem modRec_retireAfterSave (f : SaveRecord → SaveRecord) (s : State) :
    (modRec f s).cel.retireAfterSave = s.cel.retireAfterSave := by
  have f₁ := @modHalf_frame
  unfold modRec
  split
  · rfl
  · split
    · simp only [f₁]
    · rfl

/-- With no failed block noted, nothing is retired. -/
theorem retireFailed_of_nil (h : s.cel.retireAfterSave = []) :
    retireFailed s = { s with cel := { s.cel with retireAfterSave := [] } } := by
  simp only [retireFailed, h, List.foldl_nil]

theorem endPrecaution_whole (ha : s.dev.ackPend = false) : endPrecaution false s =
    { s with dev := { s.dev with phase := .ended, short := false, harbourList := [] } } := by
  simp only [endPrecaution, ha, Bool.false_and, Bool.false_eq_true, if_false]

/-- The part once the half of a whole stow is sealed and has its state: no run is left. -/
def precautionSealed (r : SaveRun) (s : State) : State :=
  let u := modRec (fun x => { x with sealed := some (makeSeal s r) }) s
  let v := match r.half with
    | some h => modHalf h (fun d => { d with st := .precaution }) u
    | none => u
  { v with sav := { v.sav with run := none } }

theorem precautionSealed_keeps (r : SaveRun) (s : State) : (precautionSealed r s).dev = s.dev ∧
    (precautionSealed r s).sav.run = none ∧ (precautionSealed r s).cel.retireAfterSave = s.cel.retireAfterSave := by
  have f₁ := @modHalf_frame
  have f₂ := @modRec_frame
  refine ⟨?_, rfl, ?_⟩
  · cases h : r.half <;> simp only [precautionSealed, h, f₁, f₂]
  · cases h : r.half <;> simp only [precautionSealed, h, f₁, modRec_retireAfterSave]

theorem precautionEnd_ends {r : SaveRun} (hs : s.dev.state = .harbour) (hp : s.dev.phase = .writing) (hr : s.sav.run = some r)
    (ht : r.todo = []) (hf : r.inFlight = []) (hw : r.list.length ≤ r.written) :
    exec .precautionEnd s = .next (endPrecaution false (retireFailed (precautionSealed r s))) := by
  show execPrecautionEnd s = _
  rw [execPrecautionEnd, if_pos (by simp [hs, hp]), hr]
  have hn : decide (r.written < r.list.length) = false := by simpa using hw
  simp only [ht, hf, hn, List.isEmpty_nil, Bool.and_self, if_true, Bool.false_eq_true, if_false]
  rfl

/-! ### Leaving HARBOUR -/

theorem reeval_dev (s : State) : ∃ a, (reeval s).dev = { s.dev with armed := a } := by
  have f₁ := @alertBit_frame
  have f₂ := @notify_frame
  have f₃ := @event_frame
  have q : ∀ a s, (setArmed a s).dev = { s.dev with armed := a } := by
    intro a s
    unfold setArmed
    split
    · next h => rw [← h]
    · simp only [f₁, f₂, f₃]
  simp only [reeval]
  (repeat' split)
  · exact ⟨_, by rw [(notify_frame _ _).2.1, q]⟩
  · exact ⟨_, by rw [q]⟩
  · exact ⟨_, by rw [q]⟩
  · exact ⟨_, rfl⟩

/-- The acknowledge in HARBOUR, once its stow has ended and nothing is held. -/
theorem leaveHarbour_dev (ha : s.dev.heldAbandon = false) (hr : s.dev.heldReplace = false) (hh : s.dev.heldHarbour = false) :
    (leaveHarbour s).dev.state = .service ∧ (leaveHarbour s).dev.prev = s.dev.state ∧ (leaveHarbour s).dev.entryCause = 0x10 ∧
      (leaveHarbour s).dev.ackPend = false := by
  have f₁ := @takeCheckpoint_frame
  simp only [leaveHarbour, f₁, enterService]
  generalize hu : ({ transition .service 0x10 { s with dev := { s.dev with ackPend := false } } with
    hst := _, log := _, rek := _ } : State) = u
  have hd : u.dev = { s.dev with ackPend := false, state := .service, prev := s.dev.state, entryCause := 0x10 } := by
    rw [← hu]
    exact transition_dev _ _ _
  obtain ⟨a, he⟩ := reeval_dev u
  have ht : takeHeld (reeval u) = reeval u := by
    simp only [takeHeld, he, hd, ha, hr, hh, Bool.false_eq_true, if_false]
  rw [ht, he, hd]
  exact ⟨rfl, rfl, rfl, rfl⟩

/-- Settles O11: the start by `precautionStart_starts`, the end by `precautionEnd_ends`, the acknowledge by `leaveHarbour_dev`. -/
theorem harbourStowAndAcknowledge : Obligations.HarbourStowAndAcknowledge := by
  have f₁ := @programList_frame
  have f₂ := @programHeader_frame
  have f₃ := @noteLeft_frame
  refine ⟨fun s hs => ⟨fun hp hh => ⟨_, precautionStart_starts hs hp hh, ?_⟩, fun r hp hr ht hf hw ha hc => ?_, fun hp => ?_⟩,
    fun s => ⟨fun hs hp h => ?_, fun hs hp v hv => ?_, fun hs hp ha hr hh v hv => ?_, fun hs v => ?_⟩⟩
  · refine ⟨?_, ?_, ?_, ?_, ?_, ?_⟩
    · simp only [noteLeft_dev, f₁, f₂, precautionRun]
    · simp only [noteLeft_dev, f₁, f₂, precautionRun]
    · simp only [f₃, f₁, f₂, precautionRun, hs]
    · simp only [f₃, programList_port_st]
      exact programHeader_port_st rfl rfl
    · simp only [f₃, f₁, f₂, precautionRun]
    · simp only [f₃, f₁, f₂, precautionRun]
  · obtain ⟨hd, hn, hl⟩ := precautionSealed_keeps r s
    refine ⟨_, precautionEnd_ends hs hp hr ht hf hw, ?_⟩
    rw [retireFailed_of_nil (hl.trans hc), endPrecaution_whole (by rw [hd]; exact ha)]
    exact ⟨rfl, rfl, hn, (congrArg Dev.state hd).trans hs⟩
  · show execPrecautionWaitTimeout s = _
    rw [execPrecautionWaitTimeout, if_pos (by simp [hs, hp])]
  · exact exec_of_serves h rfl (congrArg (mbxRc rcSuccess) ((if_pos hs).trans (if_neg hp)))
  · show Host.Outcome.next _ = _
    rw [if_pos hv]
    exact congrArg _ ((if_pos hs).trans (if_neg hp))
  · refine ⟨leaveHarbour s, ?_, ?_⟩
    · show Host.Outcome.next _ = _
      rw [if_pos hv]
      exact congrArg _ ((if_pos hs).trans (if_pos hp))
    · obtain ⟨h1, h2, h3, h4⟩ := leaveHarbour_dev ha hr hh
      exact ⟨h1, h2.trans hs, h3, h4, (leaveHarbour_frame s).2.2.2.1⟩
  · show Host.Outcome.next _ = _
    refine congrArg _ ?_
    split
    · exact if_neg hs
    · rfl

end Sys2Proof.Machine
end

section

/-! The two-wire ports (17_two_wire_ports R580 to R601; O46, O47). A START that the target serves, awake, is its own function
(`onStart_awake`); a transaction of the pack bus is one attempt (`pbAttempt`) and its end. -/

namespace Sys2Proof.Machine

variable {s : State}

/-! ### The sideband target -/

theorem onStart_awake {f : State → State} (hv : sbServes s = true) (hi : s.tws.ignoring = false) (hs : s.tws.sleeping = false)
    (hj : justWoken s = false) : onStart f s = f (sbStart s) := by
  simp only [onStart, hv, hi, hs, hj, Bool.not_true, Bool.false_eq_true, if_false]

theorem exec_of_onStart {c : Instr} {f : State → State} {t : State} (hv : sbServes s = true) (hi : s.tws.ignoring = false)
    (hs : s.tws.sleeping = false) (hj : justWoken s = false) (hc : exec c s = .next (onStart f s))
    (hf : f (sbStart s) = t) : exec c s = .next t := by
  rw [hc, onStart_awake hv hi hs hj, hf]

/-- The answer of the alert response address while the alert is driven. -/
theorem alertResponse_driven {o : Nat} {more : Bool} (hv : sbServes s = true) (hi : s.tws.ignoring = false)
    (hs : s.tws.sleeping = false) (hj : justWoken s = false) (hd : alertDriven (sbStart s) = true)
    (ho : 2 * s.plan.sideband.addr < o) : exec (.sbAlertResponse (some o) more) s =
      .next (emit (.sb true (BitVec.ofNat 8 (2 * s.plan.sideband.addr) ::
          if s.plan.sideband.pec = true ∧ more = true then [pec [0x19, BitVec.ofNat 8 (2 * s.plan.sideband.addr)]] else []))
        { countXfer (sbStart s) with tws := { (countXfer (sbStart s)).tws with araHeld := true } }) := by
  have hpec : ((countXfer (sbStart s)).tws.pec && more) = true ↔ s.plan.sideband.pec = true ∧ more = true := Bool.and_eq_true_iff
  refine exec_of_onStart hv hi hs hj rfl ((if_pos hd).trans ((if_neg (Nat.not_lt.2 (Nat.le_of_lt ho))).trans ?_))
  simp only [hpec]
  rfl

/-- Settles O46: each transaction is its function after the START; the faults set their bits. -/
theorem sideband : Obligations.Sideband := by
  refine ⟨fun s hv hi => ⟨fun hs hj => ⟨fun n => ?_, fun a n ha => ?_, fun l => ?_, fun l n => ?_, fun hd o ho more => ?_,
    fun hd o ho more => ?_, fun hd o more => ?_⟩, fun hs hm ha => ?_, fun hs => ?_⟩,
    fun s hv hi hs => ⟨fun hj ht => ?_, fun ht => ?_, fun hj r => ?_, fun hd v => ?_⟩⟩
  · exact exec_of_onStart hv hi hs hj rfl (if_pos rfl)
  · exact exec_of_onStart hv hi hs hj rfl (if_neg ha)
  · exact exec_of_onStart hv hi hs hj rfl (if_pos rfl)
  · exact exec_of_onStart hv hi hs hj rfl (if_pos rfl)
  · exact alertResponse_driven hv hi hs hj hd ho
  · exact exec_of_onStart hv hi hs hj rfl ((if_pos hd).trans (if_pos ho))
  · exact exec_of_onStart hv hi hs hj rfl (if_neg (by simp [hd]))
  · refine ⟨_, if_pos (by simp [hv, hs, hm, ha]), ?_, ?_, ?_, fun h => advanceTo_almanac h⟩
    · show { (advanceTo _ s).tws with sleeping := true } = _
      simp only [advanceTo_frame]
    · show (advanceTo _ s).dram = _
      simp only [advanceTo_frame]
    · show (advanceTo _ s).stations = _
      simp only [advanceTo_frame]
  · exact congrArg _ (if_pos (by simp [hv, hs]))
  · exact exec_of_onStart hv hi hs hj rfl (if_pos ht)
  · exact if_pos (by simp [hv, hs, ht])
  · exact exec_of_onStart hv hi hs hj rfl rfl
  · show execTwsAlertWrite v s = _
    simp only [execTwsAlertWrite, hd]

/-! ### The pack bus -/

theorem pbStarts_of_pending {p : PbPending} (h : s.twp.pending = some p) {c d : Nat} (hc : pbStarts c s = true) :
    pbStarts d s = true := by
  simpa [pbStarts, h] using hc

theorem pbAttempt_first {cmd : Nat} (h : s.twp.pending = none) : pbAttempt cmd s = (cmd, emit (.pb cmd 1) s) := by
  rw [pbAttempt, h]

theorem pbTransaction_first {cmd : Nat} {ok : Bool} (hs : pbStarts cmd s = true) (h : s.twp.pending = none) :
    exec (.pbTransaction cmd ok) s = .next (pbEnd cmd ok (emit (.pb cmd 1) s)) := by
  show execPbTransaction cmd ok s = _
  simp only [execPbTransaction, hs, h, Option.isNone_none, Bool.and_self, if_true, pbAttempt_first h]

/-- The attempt of a retry: a millisecond after the failure, with its number given out. -/
def pbRetried (p : PbPending) (s : State) : State :=
  let u := advanceTo (p.failedAt + 1000) s
  emit (.pb p.cmd (p.fails + 1)) { u with twp := { u.twp with retries := satInc 0xFF u.twp.retries } }

theorem pbRetried_frame (p : PbPending) (s : State) :
    (pbRetried p s).twp = { s.twp with retries := satInc 0xFF s.twp.retries } ∧
      (pbRetried p s).out = .pb p.cmd (p.fails + 1) :: s.out ∧ (pbRetried p s).dram = s.dram ∧
      (pbRetried p s).stations = s.stations ∧ (pbRetried p s).nrg = s.nrg := by
  simp only [pbRetried, emit, advanceTo_frame, and_self]

theorem pbRetry_retried {p : PbPending} {c : Nat} {ok : Bool} (hs : pbStarts c s = true) (h : s.twp.pending = some p) :
    exec (.pbRetry ok) s = .next (pbEnd p.cmd ok (pbRetried p s)) := by
  show execPbRetry ok s = _
  simp only [execPbRetry, h, pbStarts_of_pending h hs, if_true, pbAttempt, pbRetried]

theorem pbFail_third {p : PbPending} {c : Nat} (h : s.twp.pending = some p) (h2 : p.fails = 2) :
    pbFail c s = pbXferFail p.cmd s := by
  simp only [pbFail, h, h2, Nat.le_refl, if_true]

/-- Settles O47: a first attempt by `pbTransaction_first`, a retry by `pbRetry_retried`. -/
theorem packBus : Obligations.PackBus := by
  refine fun s cmd hs => ⟨fun hn => ⟨pbTransaction_first hs hn, ?_, fun low => congrArg _ (if_pos hs), congrArg _ (if_pos hs),
    congrArg _ (if_pos hs), congrArg _ (if_pos hs)⟩, fun p hp => ⟨_, pbRetry_retried hs hp, ?_⟩, fun p hp h2 => ?_, ?_⟩
  · rw [pbTransaction_first hs hn]
    have hn : (emit (.pb cmd 1) s).twp.pending = none := hn
    simp only [pbEnd, pbFail, hn, Bool.false_eq_true, if_false]
    rfl
  · obtain ⟨htwp, hout, hdram, hst, hnrg⟩ := pbRetried_frame p s
    exact ⟨rfl, by simp only [pbEnd, htwp, if_true], by simp only [pbEnd, htwp, if_true], hout, hdram, hst, hnrg⟩
  · obtain ⟨htwp, hout, hdram, -, -⟩ := pbRetried_frame p s
    have hp' : (pbRetried p s).twp.pending = some p := by rw [htwp]; exact hp
    refine ⟨{ pbRetried p s with twp := { (pbRetried p s).twp with xferFail := true } }, ?_, rfl, ?_, hdram⟩
    · exact (pbRetry_retried hs hp).trans (congrArg _ (pbFail_third hp' h2))
    · rw [h2] at hout
      exact hout
  · have hr : pbRuns s = true := by
      simp only [pbStarts, Bool.and_eq_true] at hs
      exact hs.1.1.1
    exact congrArg _ (if_pos hr)

end Sys2Proof.Machine
end

section

/-! The Kenene Link, contact and replication (12_partner_mirroring R431 to R452; O38, O39). -/

namespace Sys2Proof.Machine

variable {s : State}

/-! ### The link -/

theorem powered_of_plkActs (h : plkActs s = true) : poweredState s.dev.state = true := by
  simp only [plkActs, Bool.and_eq_true] at h
  exact h.1.1.1.1.2

theorem pilotAway_of_no_reload (h : s.ecc.reload = []) : pilotAway s = false := by
  simp only [pilotAway, h]
  rfl

theorem grantable_of_no_contact (h : s.plk.contact = false) : grantable s = (0, 0) := by
  simp only [grantable, h, Bool.and_false, Bool.false_eq_true, if_false]

theorem loseContact_of_contact {parting : Bool} (h : s.plk.contact = true) (hs : setList s = []) : loseContact parting s =
    { s with plk := { s.plk with contact := false, losses := satInc 0xFFFF s.plk.losses, credits := 0, resyncCredits := 0,
                                 granted := 0, resyncGranted := 0, watches := [] } } := by
  simp only [loseContact, h, if_true, hs, List.foldl_nil]

theorem setList_advanceTo (t : Nat) (s : State) : setList (advanceTo t s) = setList s := by
  have h := advanceTo_frame t s
  simp only [setList, State.plan, h]

theorem setAt_advanceTo (t : Nat) (s : State) (k : Nat) : setAt (advanceTo t s) k = setAt s k := by
  have h := advanceTo_frame t s
  simp only [setAt, h]

theorem setList_of_sets {n : Nat} (h : s.plan.partner.sets = n) : setList s = List.range n := congrArg List.range h

/-- A heartbeat without contact: the count goes on, and no credit is granted. -/
theorem heartbeatSend_without_contact (hn : 0 < s.plan.partner.sets) (hs : s.dev.state = .service) (hr : s.plk.rev ≠ 0)
    (he : s.ecc.reload = []) (hc : s.plk.contact = false) : ∃ u : State,
      exec .heartbeatSend s = .next (emit (.link 0x101 [u.dev.state.code, (u.plk.hbCount + 1) % 65536])
        { u with plk := { u.plk with hbCount := (u.plk.hbCount + 1) % 65536 } }) ∧
      u.dev = s.dev ∧ u.plk = s.plk ∧ u.out = s.out ∧ u.dram = s.dram := by
  have hf := advanceTo_frame (nextMultiple s 10) s
  generalize hu : advanceTo (nextMultiple s 10) s = u at hf
  have ha : pilotAway u = false := pilotAway_of_no_reload (by simp only [hf, he])
  have hg : grantable (emit (.link 0x101 [u.dev.state.code, (u.plk.hbCount + 1) % 65536])
      { u with plk := { u.plk with hbCount := (u.plk.hbCount + 1) % 65536 } }) = (0, 0) :=
    grantable_of_no_contact (show u.plk.contact = false by simp only [hf, hc])
  refine ⟨u, ?_, by simp only [hf], by simp only [hf], by simp only [hf], by simp only [hf]⟩
  show execHeartbeatSend s = _
  rw [execHeartbeatSend, if_pos (by simp [hn, hs, hr, poweredState])]
  simp only [hu, ha, Bool.false_eq_true, if_false]
  exact if_pos hg

/-- Settles O38: each message is one change of the link's state. -/
theorem partnerLinkAndContact : Obligations.PartnerLinkAndContact := by
  refine ⟨fun s ha => ⟨fun mx mn h0 hm h1 h2 h3 => ?_, fun t ht => ?_, fun hb h0 hr hk => ?_, fun hr ht => ?_, fun hr ht ok => ?_,
    fun a b hc => ?_, fun b r hf hb hc hr hk => ?_⟩,
    fun s => ⟨fun p id ha h0 => ?_, fun hn hs hr he hc => ?_, fun hc hn => ?_, fun c h0 hc hs hn => ?_,
      fun ha hc hn hp hr h1 hl => ?_⟩⟩
  · show execKlTrained mx mn s = _
    rw [execKlTrained, if_pos (by simp [ha, h0, hm])]
    have hr : ¬ (min s.plan.partner.klMax mx < s.plan.partner.klMin ∨ min s.plan.partner.klMax mx < mn ∨
        min s.plan.partner.klMax mx = 0) := by omega
    exact if_neg hr
  · show execRevRetry s = _
    simp only [execRevRetry, ht]
  · show execFlitReceive true _ hb none s = _
    rw [execFlitReceive, if_pos (by simp [ha, h0, hr])]
    exact if_pos (by simp [Nat.mod_eq_of_lt (Nat.succ_lt_succ hk)])
  · show execLinkRetrainEnd true s = _
    simp only [execLinkRetrainEnd, hr, ht, decide_true, Bool.and_self, if_true]
  · show execLinkRetrainEnd ok s = _
    simp only [execLinkRetrainEnd, hr, Nat.not_le.2 ht, decide_false, Bool.and_false, Bool.false_eq_true, if_true, if_false]
  · exact if_pos (by simp [ha, hc])
  · show execPartnerForwardSend s = _
    simp only [execPartnerForwardSend, hf, hb, ha, hc, hr, hk, Bool.false_eq_true, if_false, Bool.not_false, decide_true,
      Bool.and_self, if_true]
  · show execHelloMessage p id [] s = _
    rw [execHelloMessage, if_pos (by simp [ha, h0])]
    simp only [List.take_nil, List.zipIdx_nil, List.foldl_nil]
  · obtain ⟨u, hu, hdev, hplk, hout, hdram⟩ := heartbeatSend_without_contact hn hs hr he hc
    refine ⟨_, hu, ?_, ?_, hdram, hdev⟩
    · show (u.plk.hbCount + 1) % 65536 = _
      rw [hplk]
    · show _ :: u.out = _
      rw [hplk, hdev, hout]
  · have hl : setList (advanceTo (s.plk.hbAt + 100) s) = [] := (setList_advanceTo _ s).trans (setList_of_sets hn)
    have hf := advanceTo_frame (s.plk.hbAt + 100) s
    refine ⟨_, (if_pos hc).trans (congrArg _ (loseContact_of_contact ?_ hl)), rfl, ?_, rfl, ?_, ?_⟩
    all_goals simp only [hf, hc]
  · refine ⟨_, (if_pos (by simp [hc, hs, poweredState])).trans (congrArg _ (loseContact_of_contact hc (setList_of_sets hn))),
      rfl, if_neg h0, rfl, rfl, rfl⟩
  · have hlist : setList (advanceTo (s.sav.bootAt + s.plk.pairWait * 10000) s) = [0] :=
      (setList_advanceTo _ s).trans (setList_of_sets hn)
    have hlantern : (advanceTo (s.sav.bootAt + s.plk.pairWait * 10000) s).plk.lanternIn ≠ .toggling := by
      simpa only [advanceTo_frame] using hl
    show execPairWaitExpire s = _
    rw [execPairWaitExpire, if_pos (by simp [ha, hc])]
    simp [hlist, setAt_advanceTo, hp, hr, h1, hlantern]

/-! ### Replication -/

theorem admitWrites_of_no_wait (hw : s.hst.waiting = []) (hc : s.hst.creditHeldAt = none) : admitWrites s = s := by
  have hs : creditSpan s.almanac s.hst = s.hst := by simp only [creditSpan, hc]
  simp only [admitWrites, hw, List.length_nil, admitWaiting, hs, ite_self]

theorem resyncEnd_of_standby {k : Nat} (h : (setAt s k).st = .standby) : resyncEnd k s = s := by
  simp [resyncEnd, h]

theorem handStep_of_standby {k : Nat} (h : (setAt s k).st = .standby) : handStep k s = s := by
  simp [handStep, h]

theorem setAt_modSet {k : Nat} (hk : k < 4) (f : MirrorSet → MirrorSet) (s : State) : setAt (modSet k f s) k = f (setAt s k) :=
  (vget_vmod _ _ _ _ _ hk).trans (if_pos rfl)

theorem ackMessage_standby {k n : Nat} (ha : plkActs s = true) (hc : s.plk.contact = true) (hk : k < s.plan.partner.sets)
    (h4 : k < 4) (hs : s.plk.sent = []) (hst : (setAt s k).st = .standby) (hw : s.hst.waiting = [])
    (hcr : s.hst.creditHeldAt = none) :
    exec (.ackMessage k n) s = .next (modSet k (fun m => { m with acked := ackReach (setAt s k).acked n }) s) := by
  have hsent : { s with plk := { s.plk with sent := [] } } = s := by rw [← hs]
  have hstu := (congrArg MirrorSet.st (setAt_modSet h4 (fun m => { m with acked := ackReach (setAt s k).acked n }) s)).trans hst
  show execAckMessage k n s = _
  rw [execAckMessage, if_pos (by simp [hc, hk, powered_of_plkActs ha])]
  simp only [hs, List.filter_nil, List.foldl_nil, hsent]
  rw [admitWrites_of_no_wait (s := modSet k _ s) hw hcr, resyncEnd_of_standby hstu, handStep_of_standby hstu]

theorem foldl_fixed {α β : Type} {f : β → α → β} {b : β} {l : List α} (h : ∀ a ∈ l, f b a = b) : l.foldl f b = b := by
  induction l with
  | nil => rfl
  | cons a l ih => rw [List.foldl_cons, h a List.mem_cons_self, ih fun x hx => h x (List.mem_cons_of_mem a hx)]

/-- Settles O39: each message is the change of its own set. -/
theorem partnerReplication : Obligations.PartnerReplication := by
  refine fun s k ha hc hk => ⟨fun n beat data en poi hs hst hrt hsy hn => ?_, fun n h4 hse hst hw hcr =>
    ackMessage_standby ha hc hk h4 hse hst hw hcr, fun hf hp => ?_, fun w hw hpo hst => ?_, fun w h4 hl hw hf => ?_, fun no hn => ?_⟩
  · show execPartnerWriteEntry k n beat data en poi false s = _
    rw [execPartnerWriteEntry, if_pos (by simp [ha, takesPartner, hs, hc, hk, hst, hrt, hsy, rtBeats]; omega)]
    simp only [hsy, if_true]
  · have hl (t : Nat) : (setList (advanceTo t s)).filter (forwards (advanceTo t s)) = [k] := by
      have he : forwards (advanceTo t s) = forwards s := funext fun j => by simp only [forwards, setAt_advanceTo]
      rw [setList_advanceTo, he, hf]
    show execWatchSend s = _
    simp only [execWatchSend, ha, hc, Bool.and_self, if_true, hl, List.foldl_cons, List.foldl_nil]
    rfl
  · subst hw
    show execWatchMessage w s = _
    rw [execWatchMessage, if_pos (by simp [ha, hc, hpo, hk, hst])]
    simp [hpo, hst]
  · show execWatchAckMessage w.no s = _
    simp only [execWatchAckMessage, ha, hc, Bool.and_self, if_true, hl, List.foldl_cons, List.foldl_nil, hw, hf, decide_true]
  · show execWatchAckMessage no s = _
    rw [execWatchAckMessage, if_pos (by simp [ha, hc])]
    refine congrArg _ (foldl_fixed fun j hj => ?_)
    simp only [hn j (List.mem_range.1 hj)]

end Sys2Proof.Machine
end

section

/-! Mirror commands, ROLE records and the Lantern (12_partner_mirroring R439 to R471; O10); the Wear Allowance (06_stowing_ceiling
R241 to R244; O29). -/

namespace Sys2Proof.Machine

variable {s : State}

theorem forSet_free {k : Nat} {f : MirrorSet → MbxAns} (hk : k < s.plan.partner.sets) (hb : setBusy (setAt s k) = false) :
    forSet k s f = f (setAt s k) := by
  simp only [forSet, Nat.not_le.2 hk, hb, if_false, Bool.false_eq_true]

theorem roleSteps_of_running {k : Nat} {r : RoleRun} (h : (setAt s k).roleRun = some r) : roleSteps k s = s := by
  simp only [roleSteps, h, Option.isSome_some, true_or, if_true]

theorem handStep_of_running {k : Nat} {r : RoleRun} (h : (setAt s k).roleRun = some r) : handStep k s = s := by
  simp [handStep, h]

theorem promote_forced {k : Nat} {force : Bool} (hs : serves s 0xC051) (hk : k < s.plan.partner.sets)
    (hb : setBusy (setAt s k) = false) (hst : (setAt s k).st = .standbySync) : exec (.promote k force) s =
      .next (mbxAnswer 0xC051 (if force then mbxRc rcSuccess (promote k s) else mbxRc rcInvalid s)) := by
  show Host.Outcome.next (mailbox _ _ s) = _
  rw [mailbox_of_serves hs, if_neg (by simp [hst]), forSet_free hk hb, hst]

theorem roleRecordProgrammed_of_running {k : Nat} {pass : Bool} {r : RoleRun} (hk : k < s.plan.partner.sets)
    (ha : plkActs s = true) (h : (setAt s k).roleRun = some r) : exec (.roleRecordProgrammed k pass) s =
      if pass then .next (settleLate k (roleTaken k r (putRole k r s))) else .next s := by
  show execRoleRecordProgrammed k pass s = _
  simp only [execRoleRecordProgrammed, hk, ha, decide_true, Bool.and_self, if_true, roleSteps_of_running h,
    handStep_of_running h, h]

theorem setList_of_no_sets (h : s.plan.partner.sets = 0) : setList s = [] := setList_of_sets h

/-- The part with the Lantern read as `l`. -/
def lanternSeen (l : Lantern) (s : State) : State := { s with plk := { s.plk with lanternIn := l, lanternRead := true } }

/-- Without contact and sets, what follows the reading changes nothing. -/
theorem lanternAbandon_rest (f : State → Nat → State) (hc : s.plk.contact = false) (hl : setList s = []) :
    (let t := drillReport 2 (if s.plk.contact then raise plkLanternStuck s else s)
     (setList t).foldl f t) = s := by
  simp only [hc, Bool.false_eq_true, if_false, drillReport, hl, List.filter_nil, List.foldl_nil]

theorem lanternAbandon_alone (hp : poweredState s.dev.state = true) (hl : s.plk.lanternIn ≠ .abandon)
    (hc : s.plk.contact = false) (hn : s.plan.partner.sets = 0) : exec .lanternAbandon s = .next (lanternSeen .abandon s) :=
  (if_pos (by simp [hp, hl])).trans
    (congrArg _ (lanternAbandon_rest (s := lanternSeen .abandon s) _ hc (setList_of_no_sets hn)))

/-- Settles O10: a command for a free set is its own branch; the Lantern's readings are stored as they are. -/
theorem mirrorCommandsRolesAndLantern : Obligations.MirrorCommandsRolesAndLantern := by
  refine ⟨fun s k hk hb => ⟨fun ms hs hst hm => ?_, fun d hs hst h1 h2 => ?_, fun hs hst => promote_forced hs hk hb hst,
    fun hs hst => promote_forced hs hk hb hst⟩,
    fun s => ⟨fun k r hk ha h => roleRecordProgrammed_of_running hk ha h, fun k r hk ha h => roleRecordProgrammed_of_running hk ha h,
      fun hp hl hc hn => ?_, fun hp hl hn => ?_, fun hp => ?_⟩⟩
  · exact exec_of_serves hs rfl ((forSet_free hk hb).trans (if_pos ⟨hst, hm⟩))
  · exact exec_of_serves hs rfl ((forSet_free hk hb).trans (if_pos ⟨hst, h1, h2⟩))
  · exact lanternAbandon_alone hp hl hc hn
  · exact if_pos (by simpa [hp] using hl)
  · show execLanternToggling s = _
    simp only [execLanternToggling, hp, if_true, decide_eq_true_eq]

/-! ### The Wear Allowance -/

theorem lt_nextMultiple (s : State) {n : Nat} (hn : 0 < n) : s.almanac < nextMultiple s n := by
  rw [nextMultiple, Nat.add_mul, Nat.one_mul]
  exact Nat.lt_div_mul_add hn

theorem advanceTo_nextMultiple {n : Nat} (hn : 0 < n) (h : s.log.aonPowered = true) :
    (advanceTo (nextMultiple s n) s).almanac = (s.almanac / n + 1) * n :=
  (advanceTo_almanac h).trans (Nat.max_eq_right (Nat.le_of_lt (lt_nextMultiple s hn)))

theorem wearAccrualTick_moves (hp : poweredState s.dev.state = true) (hl : s.log.aonPowered = true) :
    Completes (exec .wearAccrualTick s) fun t =>
      t.stw.bucket = min (30 * s.stw.accrual) (s.stw.bucket + (s.stw.accrual + s.stw.accrualRem) / 86400) ∧
      t.stw.accrualRem = (s.stw.accrual + s.stw.accrualRem) % 86400 ∧ t.almanac = (s.almanac / 1000000 + 1) * 1000000 ∧
      t.dram = s.dram ∧ t.cht = s.cht ∧ t.dev = s.dev := by
  have hf := advanceTo_frame (nextMultiple s 1000000) s
  refine ⟨_, if_pos hp, ?_, ?_, advanceTo_nextMultiple (by decide) hl, ?_, ?_, ?_⟩
  all_goals simp only [hf]

theorem counterStore_stores (hh : logHolds s = false) : Completes (exec .counterStore s) fun t =>
    t.log.lifeStored = t.log.life ∧ t.log.lifeStoredAt = t.almanac ∧ t.stw.bucketStored = some (s.stw.bucket, t.almanac) ∧
      t.dram = s.dram ∧ t.cht = s.cht ∧ t.dev = s.dev := by
  have hf := advanceTo_frame (s.log.lastStore + 3600000000) s
  refine ⟨_, if_neg (by simp [hh]), rfl, rfl, ?_, ?_, ?_, ?_⟩
  all_goals simp only [hf]

/-- The projection where no years of service are planned. -/
theorem wearProjection_unplanned (hp : poweredState s.dev.state = true) (hy : s.plan.policy.serviceYears = 0)
    (hw : s.stw.wearShort = false) (ho : s.stw.overRun < 6) (hl : s.log.aonPowered = true) :
    Completes (exec .wearProjection s) fun t => t.stw.elapsedPct = 0 ∧ t.stw.wearShort = false ∧ t.almanac = nextPhase s 2 ∧
      t.dram = s.dram ∧ t.cht = s.cht ∧ t.dev = s.dev := by
  have hf := advanceTo_frame (nextPhase s 2) s
  have ha : (advanceTo (nextPhase s 2) s).almanac = nextPhase s 2 := (advanceTo_almanac hl).trans (Nat.max_eq_right (by
    simp only [nextPhase]
    split <;> omega))
  generalize hu : advanceTo (nextPhase s 2) s = u at hf ha
  have he : elapsedPct u = 0 := by
    have hy : u.plan.policy.serviceYears = 0 := by
      simp only [State.plan, hf]
      exact hy
    simp only [elapsedPct, hy, if_true]
    split <;> rfl
  have hrun : (if 10 < cellarWear u then min 7 (s.stw.overRun + 1) else 0) ≠ 7 := by
    split <;> omega
  show Completes (execWearProjection s) _
  rw [execWearProjection, if_pos hp, hu]
  simp only [he, Nat.zero_add, hf, hw, hrun, decide_false, Bool.false_and, Bool.and_false, Bool.or_self, Bool.false_eq_true,
    if_false]
  exact ⟨_, rfl, rfl, rfl, ha, rfl, rfl, rfl⟩

/-- Settles O29: the second by `wearAccrualTick_moves`, the hour by `counterStore_stores`, the day by `wearProjection_unplanned`. -/
theorem wearAllowance : Obligations.WearAllowance :=
  fun _ => ⟨wearAccrualTick_moves, counterStore_stores, wearProjection_unplanned⟩

end Sys2Proof.Machine
end

section

/-! A host write request (03_host_link R87, R90, R94 to R96; O17): discarded, entered or held back. -/

namespace Sys2Proof.Machine

variable {s : State}

theorem discardReason_none (hi : s.hst.ideBroken = false) {a : Nat} {c : SuiteCtx} (hc : decodeDpa s a = .ok c)
    (hp : c.cfg.policy ≠ .readOnly) : discardReason s (some a) = none := by
  simp only [discardReason, hi, Bool.false_eq_true, if_false, hc, if_neg hp]

/-- In SERVICE no Room waits for its restore, so none is fetched on demand. -/
theorem demandFetch_of_service (r : Nat) (h : s.dev.state = .service) : demandFetch r s = s := by
  simp [demandFetch, roomPending, h]

theorem complete_of_link {tag : Nat} (effect : Bool) (hl : s.hst.linkUp = true) (ht : tag < 2 ^ 64) :
    complete tag effect s = emit (.writeDone tag effect) s := by
  have hc : ¬ clearTags ≤ tag := Nat.not_le.2 ht
  rw [complete, if_pos hl, if_neg hc]

theorem discard_of_open {tag : Nat} (k : Nat) (hg : s.hst.gateClosed = false) (hl : s.hst.linkUp = true) (ht : tag < 2 ^ 64) :
    discard tag k s = emit (.writeDone tag false) { s with hst := { s.hst with
      discards := satInc 0xFFFFFFF s.hst.discards, lastReason := k,
      windowDiscards := aset s.hst.windowDiscards k ((alookup s.hst.windowDiscards k).getD 0 + 1) } } := by
  rw [discard, if_neg (by simp [hg])]
  exact complete_of_link false hl ht

theorem hostWriteRequest_taken {a : Nat} {c : SuiteCtx} (tag : Nat) {hpa : Nat} (data : List Byte) (en : Dword) (poi bad : Bool)
    (hg : s.hst.gateClosed = false) (hl : s.hst.linkUp = true) (hi : s.hst.ideBroken = false) (ha : hpaToDpa s hpa = some a)
    (hc : decodeDpa s a = .ok c) (hp : c.cfg.policy ≠ .readOnly) :
    exec (.hostWriteRequest tag hpa data en poi bad) s = .next (takeWrite tag (a / 64) data en poi bad s) := by
  show execHostWriteRequest tag hpa data en poi bad s = _
  simp only [execHostWriteRequest, hg, hl, Bool.not_true, Bool.or_self, Bool.false_eq_true, if_false, ha,
    discardReason_none hi hc hp]
  rfl

/-- A write with an entry free, in SERVICE: with the last one, write credits are withheld from then on. -/
theorem enterWrite_of_service (w : HostWrite) (h : s.dev.state = .service) :
    enterWrite w s = if s.hst.writes.length + 1 < 14336 ∨ s.hst.creditHeldAt.isSome = true then
        { s with hst := { s.hst with writes := s.hst.writes ++ [{ w with hold := holdFor s w.w }] } }
      else { s with hst := { s.hst with writes := s.hst.writes ++ [{ w with hold := holdFor s w.w }],
                                        creditHeldAt := some s.almanac } } := by
  simp only [enterWrite, demandFetch_of_service _ h, writeRoom, List.length_append, List.length_singleton, Bool.or_eq_true,
    decide_eq_true_eq]

/-- Settles O17: `discardReason_none` and `enterWrite_of_service`, by the entries in use. -/
theorem hostWriteRequestEnters : Obligations.HostWriteRequestEnters := by
  intro s tag hpa data en poi bad hg hl ht
  refine ⟨fun hi hn => ?_, fun a c hi ha hc hp hw hr hs => ?_, fun a c hi ha hc hp hw hr hh hs => ?_,
    fun a c hi ha hc hp hr => ?_⟩
  · show execHostWriteRequest tag hpa data en poi bad s = _
    have hd : discardReason s none = some 0 := by simp only [discardReason, hi, Bool.false_eq_true, if_false]
    rw [execHostWriteRequest, if_neg (by simp [hg, hl]), hn]
    dsimp only
    rw [hd]
    exact congrArg _ (discard_of_open 0 hg hl ht)
  · refine ⟨_, hostWriteRequest_taken tag data en poi bad hg hl hi ha hc hp, ?_⟩
    have hroom : writeRoom s = true := decide_eq_true (by omega)
    rw [takeWrite, if_pos (by rw [hw, hroom]; rfl), enterWrite_of_service _ hs, if_pos (.inl (by omega))]
    exact ⟨_, rfl, rfl, rfl, rfl, rfl, rfl⟩
  · refine ⟨_, hostWriteRequest_taken tag data en poi bad hg hl hi ha hc hp, ?_⟩
    have hroom : writeRoom s = true := decide_eq_true (by omega)
    rw [takeWrite, if_pos (by rw [hw, hroom]; rfl), enterWrite_of_service _ hs, if_neg (by rw [hh]; simp; omega)]
    exact ⟨_, rfl, rfl, rfl, rfl⟩
  · refine ⟨_, hostWriteRequest_taken tag data en poi bad hg hl hi ha hc hp, ?_⟩
    have hroom : writeRoom s = false := decide_eq_false (by omega)
    rw [takeWrite, hroom, Bool.and_false, if_neg Bool.false_ne_true]
    exact ⟨_, rfl, rfl, rfl⟩

end Sys2Proof.Machine
end

section

/-! Claims and acceptance of host writes (03_host_link R88, R91, 06_stowing_ceiling R210, R231, R232; O18). -/

namespace Sys2Proof.Machine

variable {s : State}

/-- What a write event leaves of the host side: the count of accepted writes, the link, DRAM and the sanitized mark. -/
def HostKept (t s : State) : Prop :=
  t.hst.accepts = s.hst.accepts ∧ t.hst.linkUp = s.hst.linkUp ∧ t.dram = s.dram ∧ t.fpl = s.fpl

theorem HostKept.trans {u t s : State} (h : HostKept u t) (g : HostKept t s) : HostKept u s :=
  ⟨h.1.trans g.1, h.2.1.trans g.2.1, h.2.2.1.trans g.2.2.1, h.2.2.2.trans g.2.2.2⟩

theorem ite_hostKept {c : Prop} [Decidable c] {x y s : State} (hx : HostKept x s) (hy : HostKept y s) :
    HostKept (if c then x else y) s := by
  split
  · exact hx
  · exact hy

theorem hostKept_refl (s : State) : HostKept s s := ⟨rfl, rfl, rfl, rfl⟩

theorem notify_hostKept (v : Nat) (s : State) : HostKept (notify v s) s := by
  unfold notify
  exact ite_hostKept (ite_hostKept (hostKept_refl s) (hostKept_refl s)) (hostKept_refl s)

theorem logCore_hostKept (type block a0 a1 a2 suite master : Nat) (s : State) :
    HostKept (logCore type block a0 a1 a2 suite master s) s := by
  have f := @logCore_frame
  exact ⟨by simp only [f], by simp only [f], by simp only [f], by simp only [f]⟩

theorem addEvent_hostKept (i : Nat) (r : EventRecord) (s : State) : HostKept (addEvent i r s) s := by
  unfold addEvent
  extract_lets l l' hst s₁ l''
  have h₁ : HostKept s₁ s := ⟨rfl, rfl, rfl, rfl⟩
  exact ite_hostKept (ite_hostKept ((notify_hostKept _ _).trans h₁) h₁) ⟨rfl, rfl, rfl, rfl⟩

theorem event_hostKept (code : Nat) (b : Block) (a0 a1 : Nat) (s : State) : HostKept (event code b a0 a1 s) s :=
  (logCore_hostKept ..).trans (addEvent_hostKept ..)

theorem setArmed_hostKept (a : Bool) (s : State) : HostKept (setArmed a s) s := by
  refine ite_hostKept (hostKept_refl s) (HostKept.trans (t := notify 5 _) ⟨rfl, rfl, rfl, rfl⟩ ?_)
  exact (notify_hostKept _ _).trans ((event_hostKept ..).trans ⟨rfl, rfl, rfl, rfl⟩)

theorem reeval_hostKept (s : State) : HostKept (reeval s) s := by
  unfold reeval
  extract_lets stw s₁ l clears l' s₂
  have h₂ : HostKept s₂ s := setArmed_hostKept _ _
  clear_value s₂
  exact ite_hostKept (ite_hostKept ((notify_hostKept _ _).trans h₂) h₂) (ite_hostKept (setArmed_hostKept _ _) (hostKept_refl s))

theorem writeEventCore_hostKept (t : Nat) (s : State) : HostKept (writeEventCore t s) s := by
  have f := @writeEventCore_frame
  exact ⟨by simp only [f], by simp only [f], by simp only [f], by simp only [f]⟩

/-- A write event of a tile that is not Clean exposes nothing. -/
theorem writeEvent_hostKept {t : Nat} (h : (tileClass s t).saved = false ∨ (tileAt s t).st ≠ .clean) :
    HostKept (writeEvent t s) s := by
  have hc : ((tileClass s t).saved && (tileAt s t).st = .clean) = false := by
    rcases h with h | h <;> simp [h]
  unfold writeEvent
  simp only [hc, Bool.false_eq_true, if_false]
  exact ite_hostKept (hostKept_refl s) ((reeval_hostKept _).trans (writeEventCore_hostKept t s))

theorem enqueue_hostKept (src beat : Nat) (k : DrcKind) (s : State) : HostKept (enqueue src beat k s) s := by
  have f := @enqueue_frame
  exact ⟨by simp only [f], by simp only [f], by simp only [f], by simp only [f]⟩

theorem enqueueWrite_hostKept {w : BeatWrite} (src : Nat) (tag : Option Nat)
    (h : (tileClass s (writeTile w)).saved = false ∨ (tileAt s (writeTile w)).st ≠ .clean) :
    HostKept (enqueueWrite src w tag s) s := by
  have q := enqueue_hostKept src w.beat (.write w tag) s
  have hc : (enqueue src w.beat (.write w tag) s).cht = s.cht := by
    have f := @enqueue_frame
    simp only [f]
  refine ite_hostKept ((writeEvent_hostKept ?_).trans q) q
  rwa [tileClass, tileAt, entryAt, hc]

/-- The acceptance of a beat without poison: the host side keeps its counts, and the array is not sanitized any more. -/
theorem acceptBeat_hostKept {w : BeatWrite} (tag : Option Nat) (n : Nat) (hp : w.poison = false)
    (h : (tileClass s (writeTile w)).saved = false ∨ (tileAt s (writeTile w)).st ≠ .clean) :
    HostKept (acceptBeat mHost w tag n s) { s with fpl := { s.fpl with sanitized := false } } := by
  unfold acceptBeat
  extract_lets s₁
  have h₁ : HostKept s₁ s ∧ s₁.cht = s.cht := by
    simp only [s₁, hp, Bool.false_eq_true, if_false]
    split <;> exact ⟨⟨rfl, rfl, rfl, rfl⟩, rfl⟩
  clear_value s₁
  obtain ⟨⟨ha, hl, hd, hf⟩, hc⟩ := h₁
  refine (enqueueWrite_hostKept _ _ ?_).trans ⟨ha, hl, hd, ?_⟩
  · show (entryAt s₁ _).cls.saved = false ∨ _
    rwa [entryAt, tileAt, hc]
  · exact (congrArg (fun f : Fpl => { f with sanitized := f.sanitized && (mHost != mHost) }) hf).trans
      (congrArg (fun b => { s.fpl with sanitized := b }) (Bool.and_false s.fpl.sanitized))

/-- The state of an acceptance with its counts, before the beat is entered. -/
def acceptCounted (w : HostWrite) (s : State) : State :=
  { s with hst := { s.hst with accepts := s.hst.accepts + 1, writes := s.hst.writes.map fun x =>
             if x.tag = w.tag && !x.accepted then { x with accepted := true, waitAck := none } else x },
           log := { s.log with life := { s.log.life with hostBytes := s.log.life.hostBytes + beatBytes } } }

theorem acceptWrite_unmirrored {w : HostWrite} (hb : w.parityBad = false)
    (hk : (suiteOfRoom s (w.w.beat * beatBytes / roomBytes)).bind suiteSet = none) :
    acceptWrite w s = complete w.tag true (acceptBeat mHost w.w (some w.tag) 1 (acceptCounted w s)) := by
  unfold acceptWrite
  extract_lets w' b hst log life s₁ k
  have hw : b = w.w := congrArg (fun p => { w.w with poison := p }) ((congrArg _ hb).trans (Bool.or_false _))
  have hkn : k = none := hk
  clear_value k b
  subst hkn hw
  rw [hb]
  rfl

/-- Settles O18: the grant and the stall by the verdict, the acceptance by `acceptBeat_hostKept`. -/
theorem claimAndAcceptance : Obligations.ClaimAndAcceptance := by
  intro s w c hw
  refine ⟨fun hd hv => ?_, fun hd hv => ?_, fun ha hp hb hl ht hc hk => ?_⟩
  · show execClaimPresent w.tag s = _
    rw [execClaimPresent, hw]
    dsimp only
    rw [hd]
    dsimp only
    rw [presentClaim, hv]
    rfl
  · show execClaimPresent w.tag s = _
    rw [execClaimPresent, hw]
    dsimp only
    rw [hd]
    dsimp only
    rw [presentClaim, hv]
  · have he : execHostWriteAccept w.tag s = .next (acceptWrite w s) := by
      rw [execHostWriteAccept, hw]
      exact if_pos ha
    refine ⟨_, he, ?_⟩
    obtain ⟨hacc, hlink, hdram, hfpl⟩ := acceptBeat_hostKept (s := acceptCounted w s) (some w.tag) 1 hp hc
    rw [acceptWrite_unmirrored hb hk, complete_of_link true (hlink.trans hl) ht]
    exact ⟨hacc, hdram, congrArg Fpl.sanitized hfpl, _, rfl⟩

end Sys2Proof.Machine
end

section

/-! Host reads, the drained flush and the discard windows (03_host_link R90, R93, R95, R97, R98, R191; O19). -/

namespace Sys2Proof.Machine

variable {s : State}

/-- A read in SERVICE with an entry free is started. -/
theorem takeRead_of_service (tag beat : Nat) (hs : s.dev.state = .service) (hr : s.hst.reads.length < 2048)
    (hw : s.hst.readsWaiting = []) :
    takeRead tag beat s = startRead { tag := tag, beat := beat, at_ := s.almanac, req := none } s := by
  have hroom : readRoom s = true := decide_eq_true hr
  have hp (r : Nat) : roomPending s r = false := by simp [roomPending, hs]
  rw [takeRead, if_pos (by rw [hroom, hw]; rfl)]
  unfold admitRead
  extract_lets t s₁
  have h₁ : s₁ = s := demandFetch_of_service _ hs
  clear_value s₁
  subst h₁
  exact if_neg (by rw [hp]; exact Bool.false_ne_true)

theorem notify_windowDiscards (v : Nat) (s : State) : (notify v s).hst.windowDiscards = s.hst.windowDiscards := by
  unfold notify
  split
  · split <;> rfl
  · rfl

theorem addEvent_windowDiscards (i : Nat) (r : EventRecord) (s : State) :
    (addEvent i r s).hst.windowDiscards = s.hst.windowDiscards := by
  unfold addEvent
  extract_lets l l' hst s₁ hst'
  split
  · split
    · exact notify_windowDiscards _ _
    · rfl
  · rfl

theorem event_windowDiscards (code : Nat) (b : Block) (a0 a1 : Nat) (s : State) :
    (event code b a0 a1 s).hst.windowDiscards = s.hst.windowDiscards := by
  have f := @logCore_frame
  simp only [event, vendorEvent, f, addEvent_windowDiscards]

/-- The part with its discard window ended at the millisecond. -/
def windowEnded (s : State) : State :=
  advanceTo ((s.almanac / 1000 + 1) * 1000) { s with hst := { s.hst with windowDiscards := [] } }

theorem discardWindowEnd_reports {n : Nat} (h : s.hst.windowDiscards = [(0, n)]) :
    exec .discardWindowEnd s = .next (event 0x0004 .hst 0 n (windowEnded s)) := by
  show execDiscardWindowEnd s = _
  unfold execDiscardWindowEnd
  rw [h]
  rfl

theorem windowEnded_keeps (s : State) : (windowEnded s).hst.windowDiscards = [] ∧ (windowEnded s).log.ready = s.log.ready ∧
    (windowEnded s).att = s.att ∧ (windowEnded s).dram = s.dram ∧ (windowEnded s).dev = s.dev ∧
      (windowEnded s).stations = s.stations := by
  unfold windowEnded advanceTo
  split <;> exact ⟨rfl, rfl, rfl, rfl, rfl, rfl⟩

theorem windowReported_holds {n : Nat} (hp : s.log.aonPowered = true) (hh : logHolds s = false) :
    let t := event 0x0004 .hst 0 n (windowEnded s)
    t.hst.windowDiscards = [] ∧ t.almanac = (s.almanac / 1000 + 1) * 1000 ∧ t.log.ready.length = s.log.ready.length + 1 ∧
      t.dram = s.dram ∧ t.dev = s.dev ∧ t.stations = s.stations := by
  have ha : (windowEnded s).almanac = (s.almanac / 1000 + 1) * 1000 :=
    (advanceTo_almanac (by exact hp)).trans (Nat.max_eq_right (by dsimp only; omega))
  obtain ⟨hw, hr, hatt, hdram, hdev, hsta⟩ := windowEnded_keeps s
  obtain ⟨rec, hready, -⟩ := event_of_not_holds 0x0004 .hst 0 n (s := windowEnded s) (by rw [logHolds, hatt]; exact hh)
  have f := @event_frame
  refine ⟨(event_windowDiscards ..).trans hw, ?_, ?_, ?_, ?_, ?_⟩
  · simp only [f, ha]
  · rw [hready, hr, List.length_append, List.length_singleton]
  all_goals simp only [f, hdram, hdev, hsta]

theorem gpfPhase2Drained_answers {g : GpfPhase2} {r : List GpfPhase2} (hl : s.hst.linkUp = true) (hq : s.hst.gpf = g :: r)
    (hr : gpfReady s g = true) (hd : hostDrained s = true) : Completes (exec .gpfPhase2Drained s) fun t =>
      t.hst.gpf = r ∧ t.hst.ph2Count = satInc 0xFFFF s.hst.ph2Count ∧ t.out = .gpf 2 :: s.out ∧
      t.dram = s.dram ∧ t.cht = s.cht ∧ t.dev = s.dev := by
  show Completes (execGpfPhase2Drained s) _
  rw [execGpfPhase2Drained, hq]
  dsimp only
  rw [if_pos (by rw [hr, hd]; rfl), if_pos hl]
  exact ⟨_, rfl, rfl, rfl, rfl, rfl, rfl, rfl⟩

theorem hostRead_taken {a : Nat} {c : SuiteCtx} (tag : Nat) {hpa : Nat} (hg : s.hst.gateClosed = false)
    (hl : s.hst.linkUp = true) (hi : s.hst.ideBroken = false) (ha : hpaToDpa s hpa = some a) (hc : decodeDpa s a = .ok c) :
    exec (.hostRead tag hpa) s = .next (takeRead tag (a / 64) s) := by
  show execHostRead tag hpa s = _
  rw [execHostRead, if_neg (by simp [hg, hl]), if_neg (by simp [hi]), ha]
  dsimp only
  rw [hc]
  rfl

/-- Settles O19: `takeRead_of_service`, `discardWindowEnd_reports` and the guards of the two phases. -/
theorem readsAndFlush : Obligations.ReadsAndFlush := by
  refine fun s hg hl => ⟨fun tag hpa a c hi ha hc hs hr hw => ⟨fun ht hb => ?_, fun ht hst => ?_⟩, fun tag hpa hn => ?_,
    fun hs => ?_, fun g r hq hr hd => ?_, fun n hw hp hh => ?_⟩
  · rw [hostRead_taken tag hg hl hi ha hc, takeRead_of_service _ _ hs hr hw, startRead]
    refine congrArg _ ((if_neg fun h => ?_).trans (if_neg (by simpa using hb)))
    exact RoomClass.noConfusion (ht.symm.trans (of_decide_eq_true (Bool.and_eq_true_iff.1 h).1))
  · rw [hostRead_taken tag hg hl hi ha hc, takeRead_of_service _ _ hs hr hw, startRead]
    exact congrArg _ (if_pos (Bool.and_eq_true_iff.2 ⟨decide_eq_true ht, decide_eq_true hst⟩))
  · show execHostRead tag hpa s = _
    rw [execHostRead, if_neg (by simp [hg, hl]), hn]
    exact ite_self _
  · have ha : gpfAnswers s = true := by rcases hs with h | h | h <;> simp [gpfAnswers, hl, h]
    exact if_pos ha
  · exact gpfPhase2Drained_answers hl hq hr hd
  · exact ⟨_, discardWindowEnd_reports hw, windowReported_holds hp hh⟩

end Sys2Proof.Machine
end

section

/-! The fill of an Unwritten volatile tile (05_rooms_suites_chart R191; O21). -/

namespace Sys2Proof.Machine

variable {s : State}

/-- The port changes the tile alone in a Room that is not saved. -/
theorem putTile_of_not_saved {t : Nat} (x : Tile) (h : (tileClass s t).saved = false) :
    putTile t x s = { s with cht := { s.cht with tiles := tset {} s.cht.tiles t x } } :=
  if_neg (by rw [show (entryAt s _).cls.saved = false from h]; exact Bool.false_ne_true)

/-- A tile filled, once its access is served: `u` is the state with the access. -/
def filled (t : Nat) (u : State) : State :=
  { u with dram := zeroTile t u.dram, cht := { u.cht with tiles := tset {} u.cht.tiles t { tileAt u t with st := .dirty } } }

theorem tileAccess_keeps (t : Nat) (s : State) : (tileAccess t s).dev = s.dev ∧ (tileAccess t s).stations = s.stations ∧
    (tileAccess t s).dram = s.dram ∧ (tileAccess t s).cht = s.cht ∧ (tileAccess t s).out = s.out := by
  have f := @tileAccess_frame
  simp only [f, and_self]

theorem volatileFillDone_fills {t : Nat} (hv : tileClass s t = .volatile) (hc : (tileAt s t).st = .clean)
    (hw : fillWanted s t = true) (hs : tileServed s mNone t = true) :
    exec (.volatileFillDone t) s = .next (releaseFill t (filled t (tileAccess t s))) := by
  have hcht : (tileAccess t s).cht = s.cht := (tileAccess_frame t s).2.2.2.2.2.1
  have hp : (tileClass { tileAccess t s with dram := zeroTile t (tileAccess t s).dram } t).saved = false := by
    show (tget {} (tileAccess t s).cht.entries _).cls.saved = false
    rw [hcht]
    exact (congrArg RoomClass.saved hv).trans rfl
  refine (if_pos (by simp [hv, hc, hw])).trans (congrArg _ ((if_pos hs).trans (congrArg (releaseFill t) ?_)))
  exact putTile_of_not_saved _ hp

theorem tget_zeroTile_bytes {d : Dram} (h : Memory.wf d = true) (t a : Nat) : tget 0 (zeroTile t d).bytes a =
    if t * 65536 ≤ a ∧ a < (t + 1) * 65536 then 0 else tget 0 d.bytes a :=
  tget_tclear _ _ _ (Bool.and_eq_true_iff.1 h).1

theorem dramPoison_zeroTile {d : Dram} (h : Memory.wf d = true) (t b : Nat) : dramPoison (zeroTile t d) b =
    if t * 1024 ≤ b ∧ b < (t + 1) * 1024 then false else dramPoison d b :=
  tget_tclear _ _ _ (Bool.and_eq_true_iff.1 h).2

theorem releaseFill_hold (t : Nat) (u : State) : ∀ w ∈ (releaseFill t u).hst.writes, w.hold = .fill → writeTile w.w ≠ t := by
  intro w hw hf ht
  obtain ⟨x, -, rfl⟩ := List.mem_map.1 hw
  split at hf
  · cases hf
  next h => exact h (by rw [if_neg h] at ht; simp [hf, ht])

/-- Settles O21: `volatileFillDone_fills`, read through the arrays. -/
theorem volatileFill : Obligations.VolatileFill := by
  intro s t hv hc hw hd ht hs
  refine ⟨_, volatileFillDone_fills hv hc hw hs, ?_⟩
  obtain ⟨hdev, hsta, hdram, hcht, hout⟩ := tileAccess_keeps t s
  generalize tileAccess t s = u at *
  have hk (k : Nat) : tileAt (releaseFill t (filled t u)) k = tget {} (tset {} s.cht.tiles t { tileAt s t with st := .dirty }) k := by
    show tget {} (tset {} u.cht.tiles t { tget {} u.cht.tiles t with st := .dirty }) k = _
    rw [hcht]
    rfl
  refine ⟨fun a => ?_, fun b => ?_, ?_, fun k hn => ?_, hdev, hsta, hout, releaseFill_hold t _⟩
  · rw [← hdram]
    exact tget_zeroTile_bytes (hdram ▸ hd) t a
  · rw [← hdram]
    exact dramPoison_zeroTile (hdram ▸ hd) t b
  · rw [hk, tget_tset_same _ _ ht]
  · rw [hk, tget_tset_other _ ht hn]
    rfl

end Sys2Proof.Machine
end

section
/-! Descriptors of the Dumbwaiter (13_dumbwaiter R479 to R497): their starts, the grant of a step, the acceptance of a write and the
completion. -/

namespace Sys2Proof.Machine

variable {s : State}

/-! ### Starts -/

theorem not_badOp_of_op {d : Descriptor} (h1 : 1 ≤ d.op) (h5 : d.op ≤ 5) : d.badOp = false :=
  Bool.or_eq_false_iff.2 ⟨decide_eq_false (Nat.ne_of_gt h1), decide_eq_false (Nat.not_lt.2 h5)⟩

/-- The descriptor at HEAD, well read and of the operation asked for, begins when it has no status at its start. -/
theorem startDesc_begins {op ch : Nat} {d : Descriptor} (hm : mayStart s ch = true)
    (hb : descBad s.dmw (descOffset ch (chanAt s ch).head) = false) (hd : readDesc s.dmw (descOffset ch (chanAt s ch).head) = d)
    (ho : d.op = op) (h : startStatus s (chanAt s ch) d = none) :
    startDesc op ch s = modChan ch (fun k => { k with run := some { d := d } }) s := by
  rw [startDesc, if_pos hm]
  dsimp only
  rw [if_neg (by simp [hb]), hd, if_pos (Or.inl ho), h]

/-- … and completes with the status that it has. -/
theorem startDesc_completes {op ch x : Nat} {d : Descriptor} (hm : mayStart s ch = true)
    (hb : descBad s.dmw (descOffset ch (chanAt s ch).head) = false) (hd : readDesc s.dmw (descOffset ch (chanAt s ch).head) = d)
    (ho : d.op = op) (h : startStatus s (chanAt s ch) d = some x) :
    startDesc op ch s = dmwComplete ch x 0 0 d.irq (if x = 5 then raiseDesc dmwProt ch s else s) := by
  rw [startDesc, if_pos hm]
  dsimp only
  rw [if_neg (by simp [hb]), hd, if_pos (Or.inl ho), h]

theorem exec_startDesc {c : Instr} {op ch : Nat} {d : Descriptor} (hc : exec c s = .next (startDesc op ch s)) (h1 : 1 ≤ op)
    (h5 : op ≤ 5) (hm : mayStart s ch = true) (hb : descBad s.dmw (descOffset ch (chanAt s ch).head) = false)
    (hd : readDesc s.dmw (descOffset ch (chanAt s ch).head) = d) (ho : d.op = op) :
    (startStatus s (chanAt s ch) d = none → exec c s = .next (modChan ch (fun k => { k with run := some { d := d } }) s)) ∧
    (d.len = 0 → exec c s = .next (dmwComplete ch 2 0 0 d.irq s)) ∧
    (d.len ≠ 0 → d.badReserved = false → d.misaligned = true → exec c s = .next (dmwComplete ch 4 0 0 d.irq s)) ∧
    (d.len ≠ 0 → d.badReserved = false → d.misaligned = false → descTranslates s (chanAt s ch) d = false →
      exec c s = .next (dmwComplete ch 5 0 0 d.irq (raiseAddr dmwProt (descOffset ch (chanAt s ch).head) (mDmw ch) 4 s))) := by
  have hn := not_badOp_of_op (ho.symm ▸ h1) (ho.symm ▸ h5)
  have hx {x : Nat} (h : startStatus s (chanAt s ch) d = some x) :=
    hc.trans (congrArg _ (startDesc_completes hm hb hd ho h))
  exact ⟨fun h => hc.trans (congrArg _ (startDesc_begins hm hb hd ho h)), fun h0 => hx (x := 2) (by simp [startStatus, hn, h0]),
    fun h0 hr ha => hx (x := 4) (by simp [startStatus, hn, h0, hr, ha]),
    fun h0 hr ha ht => hx (x := 5) (by simp [startStatus, hn, h0, hr, ha, ht])⟩

/-- The five commands that start a descriptor, each with its OP. -/
theorem startCommands (s : State) (ch : Nat) : ∀ p ∈ [(1, Instr.dmwCopy ch), (2, .dmwFill ch), (3, .dmwStow ch), (4, .dmwFetch ch),
    (5, .dmwCheck ch)], exec p.2 s = .next (startDesc p.1 ch s) ∧ 1 ≤ p.1 ∧ p.1 ≤ 5 := by
  simp only [List.forall_mem_cons]
  exact ⟨⟨rfl, by decide, by decide⟩, ⟨rfl, by decide, by decide⟩, ⟨rfl, by decide, by decide⟩, ⟨rfl, by decide, by decide⟩,
    ⟨rfl, by decide, by decide⟩, fun _ h => (List.not_mem_nil h).elim⟩

/-! ### Steps -/

/-- The state with another list of demand fetches, which is all that a demand fetch changes. -/
noncomputable def withDemand (l : List (Nat × Nat × Bool)) (s : State) : State :=
  { s with sav := { s.sav with restore := { s.sav.restore with demand := l } } }

theorem demandFetch_demand (room : Nat) (s : State) : ∃ l, demandFetch room s = withDemand l s := by
  by_cases h : (roomPending s room && !(s.sav.restore.demand.any fun d => d.1 = room)) = true
  · exact ⟨_, if_pos h⟩
  · exact ⟨s.sav.restore.demand, if_neg h⟩

theorem foldl_demandFetch (rooms : List Nat) (s : State) :
    ∃ l, rooms.foldl (fun s x => demandFetch x s) s = withDemand l s := by
  induction rooms generalizing s with
  | nil => exact ⟨s.sav.restore.demand, rfl⟩
  | cons x xs ih =>
    obtain ⟨l, hl⟩ := demandFetch_demand x s
    obtain ⟨l', hl'⟩ := ih (withDemand l s)
    exact ⟨l', by rw [List.foldl_cons, hl, hl']; rfl⟩

/-- A channel whose step is not granted has nothing to settle. -/
theorem settleStep_of_not_granted {n : Nat} (h : ∀ q, (chanAt s n).run = some q → q.granted = false) : settleStep n s = s := by
  unfold settleStep
  split
  · rfl
  · exact if_pos (by rw [h _ ‹_›]; rfl)

theorem chanAt_modChan {n : Nat} (k : Nat) (f : Channel → Channel) (s : State) (hn : n < 16) :
    chanAt (modChan n f s) k = if k = n then f (chanAt s n) else chanAt s k := vget_vmod _ _ _ _ _ hn

/-- A channel `n` whose step `r` is granted with its entries. -/
noncomputable def stepTaken (n e : Nat) (r : DescRun) (s : State) : State :=
  modDesc n (fun _ => { r with granted := true })
    (takeEntries n e (modChan n (fun c => { c with held := false, heldReads := [] }) s))

theorem chanAt_stepTaken {n e : Nat} {r q : DescRun} (hn : n < 16) (hr : (chanAt s n).run = some q) (k : Nat) :
    chanAt (stepTaken n e r s) k = if k = n then
      { chanAt s n with held := false, heldReads := [], entries := e, run := some { r with granted := true } } else chanAt s k := by
  have ht (u : State) (j : Nat) : chanAt (takeEntries n e u) j = if j = n then { chanAt u n with entries := e } else chanAt u j :=
    chanAt_modChan j _ u hn
  rw [stepTaken, modDesc, chanAt_modChan k _ _ hn]
  simp only [ht, chanAt_modChan _ _ _ hn, if_true, hr, Option.map_some]
  split <;> simp only [*]

theorem stepTaken_frame (n e : Nat) (r : DescRun) (s : State) : (stepTaken n e r s).dram = s.dram ∧
    (stepTaken n e r s).cht = s.cht ∧ (stepTaken n e r s).stations = s.stations := ⟨rfl, rfl, rfl⟩

/-- The step of a COPY holds its entries and is granted. -/
theorem beginStep_copy {n : Nat} {r : DescRun} (u : Bool) (hop : r.d.op = 1) :
    beginStep n r u s = stepTaken n (stepLen s r / 64) r s := by
  have h4 : ¬ r.d.op = 4 := by omega
  have h5 : ¬ r.d.op = 5 := by omega
  have h3 : ¬ r.d.op = 3 := by omega
  have he : stepEntries s r = stepLen s r / 64 := if_neg h3
  unfold beginStep
  dsimp only
  rw [if_neg h4, if_neg (fun h => h5 h.1), if_neg h5, if_neg h3, he]
  rfl

theorem grantStep_copy {n : Nat} {r : DescRun} (u : Bool) (hr : (chanAt s n).run = some r)
    (hf : (stepRooms s r).any (roomFails s) = false) (hh : heldRooms s r = []) :
    ∃ l, grantStep n u s = beginStep n r u (withDemand l s) := by
  obtain ⟨l, hl⟩ := foldl_demandFetch (stepRooms s r) s
  refine ⟨l, ?_⟩
  have hh' : heldRooms (withDemand l s) r = [] := hh
  unfold grantStep
  rw [hr]
  dsimp only
  rw [if_neg (by simp [hf]), hl, if_neg (by simp [hh'])]

/-- The write of a granted step on a saved tile, ready and with its claim granted, is accepted. -/
theorem writeAccept_granted {n : Nat} {r : DescRun} {c : SuiteCtx} (hn : n < 16) (hr : (chanAt s n).run = some r) (hg : r.granted = true)
    (hu : r.d.usesDst = true) (hh : s.dev.state.hostMemory = true) (hst : (chanAt s n).stalled = false)
    (hcl : tileClass s ((dstDpa s r.d + r.cursor + r.stepDone) / tileBytes) = .persistent)
    (hsu : suiteOf s (tileSuite s ((dstDpa s r.d + r.cursor + r.stepDone) / tileBytes)) = some c)
    (hv : claimVerdict s ((dstDpa s r.d + r.cursor + r.stepDone) / tileBytes) c = .grant) (hcm : r.claimed = false)
    (hw : writeReady (modChan n (fun c => { c with held := false }) s) n r = true) :
    exec (.dmwWriteAccept n) s = .next (acceptDmw n r (grantClaim ((dstDpa s r.d + r.cursor + r.stepDone) / tileBytes) false
      (modChan n (fun c => { c with held := false }) s))) := by
  show execDmwWriteAccept n s = _
  unfold execDmwWriteAccept
  rw [hr]
  refine (if_pos ⟨hn, hg, hu, hh, hst⟩).trans ((if_neg ?_).trans ((if_neg (by simp [hw])).trans ?_))
  · rw [hcl]
    exact Bool.false_ne_true
  · have hsu' : suiteOf (modChan n (fun c => { c with held := false }) s) (tileSuite (modChan n (fun c => { c with held := false }) s)
      ((dstDpa s r.d + r.cursor + r.stepDone) / tileBytes)) = some c := hsu
    rw [hsu']
    refine (if_neg ?_).trans ?_
    · rw [show tileClass (modChan n _ s) _ = _ from hcl, hcm]
      exact Bool.false_ne_true
    · rw [show claimVerdict (modChan n _ s) _ c = _ from hv]

/-- Settles O42: the starts by `exec_startDesc`; a grant through `grantStep_copy`; an acceptance along the branches of its
command. -/
theorem descriptors : Obligations.Descriptors := by
  refine ⟨fun s ch op c hc hm hb d hd ho => ?_, fun s n r hr hn hh => ⟨fun u hng hfi hf hhe hop => ?_,
    fun c hg hu hst _ hcl hsu hv hclm hwr => ?_, fun x hg hx hf => ?_⟩⟩
  · obtain ⟨hx, h1, h5⟩ := startCommands s ch _ hc
    exact exec_startDesc hx h1 h5 hm hb hd ho
  · obtain ⟨l, hl⟩ := grantStep_copy u hr hf hhe
    have hx : exec (.dmwStepGrant u) s = .next (grantStep n u s) := by
      show execDmwStepGrant u s = _
      unfold execDmwStepGrant
      rw [foldl_fixed fun k hk => settleStep_of_not_granted (hng k (List.mem_range.1 hk))]
      dsimp only
      rw [hfi]
    have hlen : stepLen (withDemand l s) r = stepLen s r := rfl
    rw [hl, beginStep_copy u hop, hlen] at hx
    refine ⟨_, hx, ?_⟩
    have hch := chanAt_stepTaken (e := stepLen s r / 64) (r := r) hn (show (chanAt (withDemand l s) n).run = some r from hr)
    generalize stepLen s r / 64 = e at hch ⊢
    have hsame := (hch n).trans (if_pos (Eq.refl n))
    exact ⟨congrArg Channel.run hsame, congrArg Channel.entries hsame, fun k hk => (hch k).trans (if_neg hk), stepTaken_frame n e r (withDemand l s)⟩
  · exact writeAccept_granted hn hr hg hu hh hst hcl hsu hv hclm hwr
  · show execDmwDescriptorComplete n s = _
    unfold execDmwDescriptorComplete
    rw [settleStep_of_not_granted fun q hq => by rw [Option.some.inj (hr.symm.trans hq)] at hg; exact hg]
    dsimp only
    rw [hr]
    dsimp only
    rw [hx]
    exact congrArg _ (if_pos ⟨hn, hh, hf⟩)

end Sys2Proof.Machine
end

section
/-! On-chip errors and the scrubbers (15_onchip_integrity R535 to R551): an uncorrectable byte, a parity error and the end of a core's
reload; a clean word of the SRAM and of the Attic; the test window. -/

namespace Sys2Proof.Machine

variable {s : State}

/-! ### The end of a reload -/

theorem blockNum_inj {a b : Block} : blockNum a = blockNum b ↔ a = b := by
  have hf (c : Block) : Block.ofRow (blockNum c) = some c := by cases c <;> rfl
  exact ⟨fun h => Option.some.inj ((hf a).symm.trans ((congrArg Block.ofRow h).trans (hf b))), congrArg _⟩

theorem stationAt_modStation (b c : Block) (f : Station → Station) (s : State) :
    stationAt (modStation b f s) c = if c = b then f (stationAt s b) else stationAt s c := by
  have h := vget_vmod {} s.stations (blockNum b) (blockNum c) f b.row.isLt
  simp only [blockNum_inj] at h
  exact h

/-- What the end of a reload, due at `t`, makes of a station. -/
def reloadEnds (now t : Nat) (x : Station) : Station :=
  if x.quarUntil = some (t + 1) ∧ now < t then { x with quarUntil := some (now + 1) } else x

theorem endReload_stations (t : Nat) (l : List Block) (hl : l.Nodup) (s : State) (b : Block) :
    stationAt (l.foldl (fun s b => modStation b (reloadEnds s.almanac t) s) s) b =
      if b ∈ l then reloadEnds s.almanac t (stationAt s b) else stationAt s b := by
  induction l generalizing s with
  | nil => rfl
  | cons a l ih =>
    obtain ⟨ha, hl⟩ := List.nodup_cons.1 hl
    rw [List.foldl_cons, ih hl]
    simp only [stationAt_modStation, List.mem_cons]
    by_cases hb : b = a
    · subst hb
      simp only [ha, if_true, if_false, true_or]
    · simp only [hb, if_false, false_or]
      rfl

theorem coreBlocks_nodup (core : Nat) : (coreBlocks core).Nodup := by
  unfold coreBlocks
  repeat' split
  all_goals decide

theorem endReload_keeps (t : Nat) (l : List Block) (s : State) :
    let u := l.foldl (fun s b => modStation b (reloadEnds s.almanac t) s) s
    u.ecc = s.ecc ∧ u.dram = s.dram ∧ u.dev = s.dev := by
  induction l generalizing s with
  | nil => exact ⟨rfl, rfl, rfl⟩
  | cons a l ih => exact ih _

/-! ### Scrubbers -/

/-- Every byte of a stored word decodes clean in the slot that counts. -/
theorem stored_clean (w : AtticWord) {x : AtticByte} (hx : x ∈ w.stored) :
    (decodeByte { data := x.data, chk := (if w.twice then x.slotB else x.slotA) ^^^ 0b11100#5 }).1 = .clean := by
  have hg (d : Byte) : atticGroup d ^^^ 0b11100#5 = checkGroup d := by rw [atticGroup, BitVec.xor_assoc, BitVec.xor_self, BitVec.xor_zero]
  obtain ⟨i, hi⟩ := List.mem_iff_getElem?.1 hx
  obtain ⟨d, e, hd, he, rfl⟩ := List.getElem?_zipWith_eq_some.1 hi
  by_cases ht : w.twice = true
  · simp only [ht, if_true, hg]
    exact congrArg Prod.fst (decodeByte_encodeByte d)
  · simp only [ht] at he
    have hde : d = e := Option.some.inj (hd.symm.trans he)
    subst hde
    simp only [ht]
    rw [if_neg Bool.false_ne_true, hg]
    exact congrArg Prod.fst (decodeByte_encodeByte d)

theorem readOnce_clean (w : AtticWord) : ∃ v, readOnce w [] = some (false, v) := by
  have hl : (w.stored.zipIdx.map fun x => readByte [] x.1 x.2) = w.stored := by
    simp only [readByte, List.foldl_nil, List.zipIdx_map_fst]
  have hn : decide (2 ≤ markerCells w.twice []) = w.twice := by
    cases w.twice <;> decide
  have hd : ∃ v, decodeSlot w.twice w.stored = some (false, v) := by
    have hc (k : ByteResult) (hk : ¬ k = .clean) : ((w.stored.map fun x => decodeByte { data := x.data, chk :=
        (if w.twice then x.slotB else x.slotA) ^^^ 0b11100#5 }).any fun x => decide (x.1 = k)) = false := by
      rw [List.any_map, List.any_eq_false]
      intro x hx hd
      exact hk ((of_decide_eq_true hd).symm.trans (stored_clean w hx))
    unfold decodeSlot
    dsimp only
    rw [hc _ (by decide), hc _ (by decide)]
    exact ⟨_, rfl⟩
  obtain ⟨v, hv⟩ := hd
  refine ⟨v, ?_⟩
  unfold readOnce
  dsimp only
  rw [hl, hn, hv]

/-- A word that is not torn reads clean. -/
theorem readWord_clean {w : AtticWord} (h : w.torn = false) : ∃ v, readWord w [] = some (.clean, v) := by
  obtain ⟨v, hv⟩ := readOnce_clean w
  refine ⟨v, ?_⟩
  rw [readWord, h, if_neg Bool.false_ne_true]
  show List.findSome? _ (0 :: _) = _
  rw [List.findSome?_cons]
  simp [hv]

theorem shownWord_torn {b ofs : Nat} {k : AtticBank} (h : (atticWord k ofs).torn = false) : (shownWord b k ofs).torn = false := by
  unfold shownWord
  dsimp only
  split
  · split <;> rfl
  · split
    · split <;> rfl
    · exact h

/-- With no reads disturbed, a word that is not torn nor of a sector under a scan's finding is read as it is shown. -/
theorem readArray_clean {m o : Nat} (hp : s.ecc.apatch = []) (hs : scanOf (bankAt s (o / bankBytes)) (sectorOf (o % bankBytes)) = none)
    (ht : (atticWord (bankAt s (o / bankBytes)) (o % bankBytes)).torn = false) : ∃ v, readArray m o [] s = (some v, s) := by
  obtain ⟨v, hv⟩ := readWord_clean (shownWord_torn (b := o / bankBytes) ht)
  refine ⟨v, ?_⟩
  unfold readArray
  dsimp only
  rw [hp, hs, hv]
  rfl

theorem nextWord_advance {n : Nat} (h : nextWord s.ecc.sramPos = some n) :
    advanceScrub s = { s with ecc := { s.ecc with sramPos := n } } := by
  unfold advanceScrub
  dsimp only
  rw [h]

/-! ### The test window -/

theorem twf_setBytes (b : Nat) (l : List CodedByte) (k : Nat) (t : Table CodedByte) (h : twf {} t = true) :
    twf {} ((l.zipIdx k).foldl (fun t x => tset {} t (b + x.2) x.1) t) = true := by
  induction l generalizing k t with
  | nil => exact h
  | cons x l ih => exact ih _ _ (twf_tset _ _ h)

theorem tget_setBytes (b : Nat) (l : List CodedByte) (k : Nat) (t : Table CodedByte) (h : twf {} t = true) (a : Nat) :
    tget {} ((l.zipIdx k).foldl (fun t x => tset {} t (b + x.2) x.1) t) a =
      if b + k ≤ a then (l[a - (b + k)]?).getD (tget {} t a) else tget {} t a := by
  induction l generalizing k t with
  | nil => simp
  | cons x l ih =>
    rw [List.zipIdx_cons, List.foldl_cons, ih _ _ (twf_tset _ _ h), tget_tset _ _ _ h]
    by_cases hk : b + k ≤ a
    · obtain rfl | ha := Nat.eq_or_lt_of_le hk
      · rw [if_neg (show ¬ b + (k + 1) ≤ b + k by omega), if_pos rfl, if_pos (Nat.le_refl _), Nat.sub_self]
        rfl
      · have hi : a - (b + k) = a - (b + (k + 1)) + 1 := by omega
        rw [if_pos (show b + (k + 1) ≤ a by omega), if_neg (show ¬ a = b + k by omega), if_pos hk, hi, List.getElem?_cons_succ]
    · rw [if_neg (show ¬ b + (k + 1) ≤ a by omega), if_neg (show ¬ a = b + k by omega), if_neg hk]

theorem leNat_byte (l : List Byte) {i : Nat} (hi : i < l.length) : leNat l / 256 ^ i % 256 = l[i].toNat := by
  induction l generalizing i with
  | nil => exact absurd hi (Nat.not_lt_zero i)
  | cons x l ih =>
    have hx : x.toNat < 256 := x.isLt
    cases i with
    | zero =>
      show (x.toNat + 256 * leNat l) / 1 % 256 = x.toNat
      omega
    | succ i =>
      have hi' : i < l.length := Nat.lt_of_succ_lt_succ hi
      show (x.toNat + 256 * leNat l) / 256 ^ (i + 1) % 256 = l[i].toNat
      rw [Nat.pow_succ', ← Nat.div_div_eq_div_mul, show (x.toNat + 256 * leNat l) / 256 = leNat l by omega]
      exact ih hi'

theorem decodeByte_clean {b : CodedByte} (h : (decodeByte b).1 = .clean) : (decodeByte b).2 = b.data := by
  unfold decodeByte at h ⊢
  dsimp only at h ⊢
  split at h
  · rw [if_pos ‹_›]
  · split at h <;> contradiction

theorem decodedBytes_clean (l : List CodedByte) (h : ∀ b ∈ l, (decodeByte b).1 = .clean) :
    decodedBytes l s = (l.map fun b => b.data, s) := by
  induction l with
  | nil => rfl
  | cons b l ih =>
    have hb := h b List.mem_cons_self
    unfold decodedBytes
    dsimp only
    rw [if_neg (by simp [hb]), ih fun c hc => h c (List.mem_cons_of_mem b hc), decodeByte_clean hb]
    rfl

theorem testByte_leNat {e : Ecc} {l : List Byte} {i : Nat} (he : e.testData = BitVec.ofNat 64 (leNat l)) {x : Byte}
    (hx : l[i]? = some x) (hi : i < 8) : testByte e i = x := by
  apply BitVec.eq_of_toNat_eq
  obtain ⟨hl, rfl⟩ := List.getElem?_eq_some_iff.1 hx
  rw [← leNat_byte l hl]
  show ((e.testData >>> (8 * i)).setWidth 8).toNat = _
  rw [he]
  rw [BitVec.toNat_setWidth, BitVec.toNat_ushiftRight, BitVec.toNat_ofNat, Nat.shiftRight_eq_div_pow,
    show (256 : Nat) ^ i = 2 ^ (8 * i) by rw [Nat.pow_mul]]
  have h8 : 64 = 8 * i + (64 - 8 * i) := by omega
  rw [h8, Nat.pow_add, Nat.mod_mul_right_div_self]
  rw [Nat.mod_mod_of_dvd _ (Nat.pow_dvd_pow 2 (show 8 ≤ 64 - 8 * i by omega))]

/-- An SRAM_UE outside REGION 4 and 8, not of the Keeper: raised, the outcome of its region, its word's marks dropped. -/
theorem sramUe_raised {a m k : Nat} {beat : Option Nat} (hr : regionOf a = some k) (h4 : k ≠ 4) (h8 : k ≠ 8) (hm : m ≠ mKeeper) :
    sramUe a m beat s = clearMarks (a / 8 * 8) (regionOutcome a beat (raiseAddr eccSramUe a m 1 s)) := by
  have h : ¬ (regionOf a = some 4 ∨ regionOf a = none) := by simp [hr, h4]
  have h' : ¬ regionOf a = some 8 := by simp [hr, h8]
  unfold sramUe raiseSram
  rw [if_neg hm, if_neg h, if_neg h']

theorem regionOutcome_code {a : Nat} {beat : Option Nat} (hr : regionOf a = some 7) : regionOutcome a beat s = s := by
  unfold regionOutcome
  rw [hr]
  rfl

theorem regionOutcome_ring {a : Nat} {beat : Option Nat} (hr : regionOf a = some 10) : regionOutcome a beat s =
    { s with dmw := { s.dmw with ringBad := tset false s.dmw.ringBad (a - 0x2010000) true } } := by
  unfold regionOutcome
  rw [hr]
  rfl

/-- The time of the SRAM scrubber's next word. -/
def sramNext (s : State) : Nat := s.ecc.sramAt + s.ecc.sramMin * 60000000 / sramWords

/-- A word without a mark, found as the scrubber finds it. -/
theorem sramScrub_unmarked {f : ScrubFinding} {beat : Option Nat} (hs : sramScrubs s = true) (hm : markedWord s s.ecc.sramPos = false) :
    exec (.sramScrubRead f beat) s = .next (advanceScrub (
      let u := { advanceTo (sramNext s) s with ecc := { s.ecc with sramAt := (advanceTo (sramNext s) s).almanac } }
      match f with
      | .clean => u
      | .corrected => noteWordError s.ecc.sramPos { u with ecc := { u.ecc with
          ce := satInc 0xFFFF u.ecc.ce, repaired := satInc 0xFFFF u.ecc.repaired } }
      | .uncorrectable => noteWordError s.ecc.sramPos (sramUe (s.ecc.sramPos * 8) mSramScrub beat
          { u with ecc := { u.ecc with scrubUe := satInc 0xFFFF u.ecc.scrubUe } }))) := by
  have he : (advanceTo (sramNext s) s).ecc = s.ecc := by
    have f := @advanceTo_frame
    simp only [f]
  show execSramScrubRead f beat s = _
  unfold execSramScrubRead
  rw [if_pos hs]
  dsimp only
  rw [show s.ecc.sramAt + s.ecc.sramMin * 60000000 / sramWords = sramNext s from rfl, he, if_neg (by
    have : markedWord { advanceTo (sramNext s) s with ecc := { s.ecc with sramAt := (advanceTo (sramNext s) s).almanac } }
      s.ecc.sramPos = markedWord s s.ecc.sramPos := rfl
    rw [this, hm]
    exact Bool.false_ne_true)] <;> cases f <;> rfl

theorem coreReload_due {core e : Nat} (he : alookup s.ecc.reload core = some e) : exec (.coreReload core) s = .next
    ((coreBlocks core).foldl (fun s b => modStation b (reloadEnds s.almanac e) s)
      { s with ecc := { s.ecc with reload := aerase s.ecc.reload core } }) := by
  show execCoreReload core s = _
  unfold execCoreReload
  rw [he]
  rfl

/-- The data bytes of the word that TEST_CTL selects. -/
def windowData (e : Ecc) : List Byte := (windowWord e e.word).map fun b => b.data

theorem windowData_getElem (e : Ecc) {i : Nat} (hi : i < 8) :
    (windowData e)[i]? = some (tget {} e.window (e.word * 8 + i)).data := by
  rw [windowData, windowWord, List.getElem?_map, List.getElem?_map, List.getElem?_range hi]
  rfl

/-- A read of the test window whose bytes are clean. -/
theorem testRead_clean (hc : ∀ b ∈ windowWord s.ecc s.ecc.word, (decodeByte b).1 = .clean) : testRead s = { s with ecc := { s.ecc with
    testData := BitVec.ofNat 64 (leNat (windowData s.ecc)), result := 0 } } := by
  have hw : worst ((windowWord s.ecc s.ecc.word).map fun b => (decodeByte b).1) = .clean := by
    have hn (k : ByteResult) (hk : k ≠ .clean) : ((windowWord s.ecc s.ecc.word).map fun b => (decodeByte b).1).contains k = false := by
      rw [List.contains_eq_mem, decide_eq_false_iff_not, List.mem_map]
      rintro ⟨b, hb, rfl⟩
      exact hk (hc b hb)
    rw [worst, hn _ (by decide), hn _ (by decide), if_neg Bool.false_ne_true, if_neg Bool.false_ne_true]
  have ha : ((windowWord s.ecc s.ecc.word).any fun b => decide ((decodeByte b).1 = .corrected)) = false :=
    List.any_eq_false.2 fun b hb => by rw [hc b hb]; decide
  unfold testRead
  dsimp only
  rw [hw, decodedBytes_clean _ hc, ha]
  rfl

/-- The eight bytes of TEST_DATA with the groups of TEST_CHK. -/
def testBytes (e : Ecc) : List CodedByte := (List.range 8).map fun i => { data := testByte e i, chk := testGroup e i }

/-- A write of KIND 0 stores the bytes with the groups given. -/
theorem testWrite_data {v : Word} (h : v.getLsbD 2 = false) : testWrite (takeTestCtl v s) =
    { s with ecc := setWindow ((v >>> 4).toNat % 128) (testBytes s.ecc) (takeTestCtl v s).ecc } := by
  have hk : (takeTestCtl v s).ecc.kind = false := h
  have hl : ((List.range 8).map fun i =>
      if !(takeTestCtl v s).ecc.kind then { data := testByte (takeTestCtl v s).ecc i, chk := testGroup (takeTestCtl v s).ecc i : CodedByte }
      else if (takeTestCtl v s).ecc.parMask.getLsbD i then markByte (testByte (takeTestCtl v s).ecc i)
      else encodeByte (testByte (takeTestCtl v s).ecc i)) = testBytes s.ecc := by
    simp only [hk]
    rfl
  unfold testWrite
  dsimp only
  rw [hl, hk]
  rfl

/-- Settles O45: the outcomes of the commands in the order of the statement. -/
theorem onChipErrorsAndScrubbers : Obligations.OnChipErrorsAndScrubbers := by
  refine ⟨fun s => ⟨fun a m beat hr hm => ?_, fun a m beat hr hm => ?_, fun snd a hr => ?_, fun core e he => ?_, fun core he => ?_⟩,
    fun s => ⟨fun hs hm n beat hn => ?_, fun he hsc hh hst hrw hrun hpos hop hpr hpa hscan ht => ?_⟩,
    fun s v => ⟨fun hb h1 h2 hw => ?_, fun hb hc => ?_⟩⟩
  · exact congrArg _ ((sramUe_raised hr (by decide) (by decide) hm).trans (congrArg _ (regionOutcome_code hr)))
  · exact congrArg _ ((sramUe_raised hr (by decide) (by decide) hm).trans (congrArg _ (regionOutcome_ring hr)))
  · exact congrArg _ (if_neg hr)
  · obtain ⟨hecc, hdram, hdev⟩ := endReload_keeps e (coreBlocks core) { s with ecc := { s.ecc with reload := aerase s.ecc.reload core } }
    have hst := endReload_stations e (coreBlocks core) (coreBlocks_nodup core)
      { s with ecc := { s.ecc with reload := aerase s.ecc.reload core } }
    refine ⟨_, coreReload_due he, hecc, fun b hb hlt hq => ?_, fun b hb => (hst b).trans (if_neg hb), hdram, hdev⟩
    exact congrArg Station.quarUntil ((hst b).trans ((if_pos hb).trans (if_pos ⟨hq, hlt⟩)))
  · show execCoreReload core s = _
    unfold execCoreReload
    rw [he]
  · refine ⟨?_, fun hp => ?_⟩
    · exact (sramScrub_unmarked hs hm).trans (congrArg _ (nextWord_advance hn))
    · refine (sramScrub_unmarked hs hm).trans (congrArg _ ?_)
      dsimp only
      rw [noteWordError, if_neg (by simp only [hp]; exact Bool.false_ne_true)]
      exact nextWord_advance hn
  · have h0 : s.ecc.atticPos0 * 8 / bankBytes = 0 := Nat.div_eq_of_lt (by unfold bankBytes; omega)
    have hm0 : s.ecc.atticPos0 * 8 % bankBytes = s.ecc.atticPos0 * 8 := Nat.mod_eq_of_lt (by unfold bankBytes; omega)
    obtain ⟨x, hx⟩ := readWord_clean ht
    obtain ⟨v, hv⟩ := readArray_clean (s := s) (m := mAttic) (o := s.ecc.atticPos0 * 8) hpa (by rw [h0, hm0]; exact hscan)
      (by rw [h0, hm0]; exact ht)
    have hidle : bankIdle s 0 = true := by rw [bankIdle, hop, hpr]; rfl
    have hnext : nextAttic s = some (0, s.ecc.atticPos0) :=
      if_pos (Bool.and_eq_true_iff.2 ⟨decide_eq_true (show s.ecc.atticPos0 < 0x100000 by omega), hidle⟩)
    have hadv : advanceAttic 0 s = { s with ecc := { s.ecc with atticPos0 := s.ecc.atticPos0 + 1 } } :=
      if_neg fun h => absurd h.1 (by show ¬ 0x100000 ≤ s.ecc.atticPos0 + 1; omega)
    show execAtticScrubRead [] s = _
    have hrec : beginRecover s = s := by rw [beginRecover, hrw]
    unfold execAtticScrubRead
    rw [if_pos (by simp [he, hsc, hh, hst]), hrec]
    dsimp only
    rw [if_pos hrun, hnext]
    dsimp only
    have hno : (s.ecc.apatch.any fun x => decide (x.1 = 0 * bankWords + s.ecc.atticPos0)) = false := by rw [hpa]; rfl
    rw [hx, hno, show 0 * bankBytes + s.ecc.atticPos0 * 8 = s.ecc.atticPos0 * 8 by rw [Nat.zero_mul, Nat.zero_add], hv]
    exact congrArg Host.Outcome.next hadv
  · have he : eccTestWrite v s = testWrite (takeTestCtl v s) := by
      rw [eccTestWrite, if_neg (by simp [hb]), h1]
      rfl
    have hx : eccTestWrite v s = { s with ecc := setWindow ((v >>> 4).toNat % 128) (testBytes s.ecc) (takeTestCtl v s).ecc } :=
      he.trans (testWrite_data h2)
    have hl : ∀ i, i < 8 → (testBytes s.ecc)[i]? = some { data := testByte s.ecc i, chk := testGroup s.ecc i } := by
      intro i hi
      rw [testBytes, List.getElem?_map, List.getElem?_range hi]
      rfl
    refine ⟨_, congrArg Host.Outcome.next hx, fun i hi => ?_, fun a ha => ?_, rfl, rfl⟩
    · refine (tget_setBytes _ _ 0 _ hw _).trans ?_
      rw [if_pos (by omega), show (v >>> 4).toNat % 128 * 8 + i - ((v >>> 4).toNat % 128 * 8 + 0) = i by omega, hl i hi]
      rfl
    · refine (tget_setBytes _ _ 0 _ hw _).trans ?_
      split
      · rw [List.getElem?_eq_none (by rw [testBytes, List.length_map, List.length_range]; omega)]
        rfl
      · rfl
  · have hcl : ∀ b ∈ windowWord (takeTestCtl v s).ecc (takeTestCtl v s).ecc.word, (decodeByte b).1 = .clean := by
      intro b hb
      obtain ⟨i, hi, rfl⟩ := List.mem_map.1 hb
      exact hc i (List.mem_range.1 hi)
    have hx : eccTestRead v s = { takeTestCtl v s with ecc := { (takeTestCtl v s).ecc with
        testData := BitVec.ofNat 64 (leNat (windowData (takeTestCtl v s).ecc)), result := 0 } } :=
      (if_neg (by simp [hb])).trans (testRead_clean hcl)
    have hget (i : Nat) (hi : i < 8) := windowData_getElem (takeTestCtl v s).ecc hi
    generalize windowData (takeTestCtl v s).ecc = l at hx hget
    exact ⟨_, congrArg Host.Outcome.next hx, rfl, rfl, rfl, rfl, fun i hi => testByte_leNat rfl (hget i hi) hi⟩

end Sys2Proof.Machine
end

section
/-! The calendar's step, the Log, a cold loss and its restore (19_almanac_log_identity R649 to R657), and the test access port
(21_package_pins_electrical R696, R697). -/

namespace Sys2Proof.Machine

variable {s : State}

/-- With the Attic open a record joins the ready ones, and none is dropped. -/
theorem logRecord_of_not_holds (type block a0 a1 a2 suite master : Nat) (h : logHolds s = false) :
    logRecord type block a0 a1 a2 suite master s = { s with log := { s.log with
      ready := s.log.ready ++ [mkLog type block a0 a1 a2 suite master s], next := (s.log.next + 1) % 2 ^ 32 } } := by
  have hc : logCore type block a0 a1 a2 suite master s = { s with log := { s.log with
      ready := s.log.ready ++ [mkLog type block a0 a1 a2 suite master s], next := (s.log.next + 1) % 2 ^ 32 } } :=
    if_neg (by simp [h])
  rw [logRecord, hc]
  exact if_neg (Nat.lt_irrefl _)

theorem setCalendar_ready (ns : Nat) (h : logHolds s = false) : (setCalendar ns s).log.ready = s.log.ready ++
    (if 1000000000 < ((ns : Int) - s.almanac * 1000 - s.log.offset).natAbs then
      [mkLog 0x0103 (blockNum .log) (signedBits 64 ((ns : Int) - s.almanac * 1000 - s.log.offset)) (b2n (!s.log.timeSetSinceCold))
        (signedBits 64 ((ns : Int) - s.almanac * 1000)) 0xFFFF mNone s] else []) := by
  have hp : logHolds (putOffset ns s) = false := h
  have f := @calendarStep_frame
  simp only [setCalendar, f]
  by_cases hb : 1000000000 < ((ns : Int) - s.almanac * 1000 - s.log.offset).natAbs
  · rw [if_pos hb, if_pos hb]
    exact congrArg (fun u => u.log.ready) (logRecord_of_not_holds _ _ _ _ _ _ _ hp)
  · rw [if_neg hb, if_neg hb, List.append_nil]

theorem setCalendar_keeps (ns : Nat) (h : logHolds s = false) : (setCalendar ns s).almanac = s.almanac ∧
    (setCalendar ns s).dram = s.dram ∧ (setCalendar ns s).cht = s.cht ∧ (setCalendar ns s).dev = s.dev := by
  unfold setCalendar
  extract_lets new step valid first log cal s₁ s₂
  have hp : logHolds s₁ = false := h
  have h₂ : ∃ l, s₂ = { s₁ with log := l } := by
    by_cases hc : 1000000000 < step.natAbs
    · exact ⟨_, (if_pos hc).trans (logRecord_of_not_holds _ _ _ _ _ _ _ hp)⟩
    · exact ⟨s₁.log, if_neg hc⟩
  obtain ⟨l, h₂⟩ := h₂
  have f := @calendarStep_frame
  simp only [f, h₂]
  exact ⟨rfl, rfl, rfl, rfl⟩

/-- One ready record, not the first of its sector, is written to the ring. -/
theorem writeRecords_one {r : LogRecord} (hh : s.log.holding = []) (hc : s.log.coldUnreported = false) (hd : s.log.dropUnreported = 0)
    (hr : s.log.ready = [r]) (hp : s.log.written % ringSize % sectorRecords ≠ 0) : writeRecords s = { s with log := { s.log with
      ready := [], written := s.log.written + 1, ring := tset [] s.log.ring (s.log.written % ringSize) (logBytes r) } } := by
  have hl : reportLosses s = s := by rw [reportLosses, hc, if_pos hd, if_neg Bool.false_ne_true]
  have hw : waitingRecords s.log = [r] := by rw [waitingRecords, hh, hr]
  have hf : [r].filter (fun x => !([r].take 4).contains x) = [] := by simp
  unfold writeRecords
  rw [hl, ite_self]
  dsimp only
  rw [hw]
  show ringWriteRec r { s with log := { s.log with
    holding := s.log.holding.filter (fun x => !([r].take 4).contains x), ready := s.log.ready.filter (fun x => !([r].take 4).contains x) } } = _
  rw [hr, hf, show s.log.holding.filter (fun x => !([r].take 4).contains x) = s.log.holding by rw [hh]; rfl]
  unfold ringWriteRec
  dsimp only
  rw [if_neg hp]

theorem tapLoad_powered {i : TapInstr} {out : Nat} (h : tapPowered s = true) :
    tapLoad i out s = emit (.tap out) { s with jtag := { s.jtag with instr := i } } := if_pos h

/-- Settles O50: `setCalendar_ready` and `setCalendar_keeps`, `writeRecords_one`, `tapLoad_powered`; a cold loss and its restore by
their definitions. -/
theorem logColdLossAndTap : Obligations.LogColdLossAndTap := by
  refine ⟨fun s ns hs hn hh => ?_, fun s => ⟨fun r hst hh hho hc hd hr hp => ?_, fun hst => ?_, fun hp => ?_⟩,
    fun s ht => ⟨congrArg _ (tapLoad_powered ht), congrArg _ (tapLoad_powered ht), congrArg _ (tapLoad_powered ht),
      congrArg _ (tapLoad_powered ht), fun pins cells => (if_pos ht).trans (congrArg _ (tapLoad_powered ht)),
      fun pins cells hc => (if_pos ht).trans ((if_pos hc).trans (congrArg _ (tapLoad_powered ht))), fun pins cells hc => ⟨?_, ?_⟩⟩⟩
  · obtain ⟨hoff, hval, hcal⟩ := setCalendar_offset ns s
    obtain ⟨halm, hdram, hcht, hdev⟩ := setCalendar_keeps ns hh
    refine ⟨_, exec_setTimestamp_of_serves hs hn, hoff, hval, hcal, halm, hdram, hcht, congrArg Dev.state hdev, ?_, _, rfl⟩
    have ho : (emit (.mailbox 0x0301 rcSuccess []) (setCalendar ns s)).log.offset = (ns : Int) - s.almanac * 1000 := hoff
    rw [ho]
    exact setCalendar_ready ns hh
  · refine congrArg _ ((if_pos ?_).trans (writeRecords_one hho hc hd hr hp))
    rw [hst, hh]
    rfl
  · refine ⟨coldLoss s, ?_, rfl, rfl, rfl, rfl, rfl, rfl⟩
    show execColdLoss s = _
    unfold execColdLoss
    obtain h | h := hst <;> rw [h]
  · have f := @exerFromNow_frame
    have hx : exec .almanacColdRestore s = .next _ := congrArg Host.Outcome.next (if_neg (by simp [hp]))
    exact ⟨_, hx, by simp only [f], by simp only [f], by simp only [f], by simp only [f], by simp only [f]⟩
  · rw [tapActs]
    exact if_neg (by rw [show scanAllowed { s with jtag := { s.jtag with instr := .extest } } = scanAllowed s from rfl, hc]; exact Bool.false_ne_true)
  · exact ⟨_, (if_pos ht).trans ((if_neg (by simp [hc])).trans (congrArg _ (tapLoad_powered ht))), rfl, rfl⟩

end Sys2Proof.Machine
end

section
/-! Supplies, DRAM rails and die sensors (01_architecture R34, R39; 20_power_clocks_thermal R672, R673, R680 to R684). -/

namespace Sys2Proof.Machine

variable {s : State}

/-! ### Supplies -/

theorem coldRestore_supplies (s : State) : (coldRestore s).nrg.p12vValid = s.nrg.p12vValid ∧
    (coldRestore s).nrg.auxValid = s.nrg.auxValid ∧ (coldRestore s).nrg.perst = s.nrg.perst := by
  unfold coldRestore
  split
  · exact ⟨rfl, rfl, rfl⟩
  · exact ⟨rfl, rfl, rfl⟩

theorem enterBoot_dev (s : State) : (enterBoot s).dev.state = .boot ∧ (enterBoot s).dev.prev = s.dev.state := by
  have f := @logCore_frame
  simp only [enterBoot, f, transition_dev]
  exact ⟨trivial, rfl⟩

theorem enterBoot_nrg (s : State) : (enterBoot s).nrg = bootNrg s.nrg s.almanac := by
  have f₁ := @logCore_frame
  have f₂ := @transition_frame
  simp only [enterBoot, f₁, f₂]
  rfl

/-- A part that boots: BOOT after its state, its supplies as they are. -/
theorem boots (s : State) : (enterBoot (coldRestore s)).dev.state = .boot ∧ (enterBoot (coldRestore s)).dev.prev = s.dev.state ∧
    (enterBoot (coldRestore s)).nrg.p12vValid = s.nrg.p12vValid ∧ (enterBoot (coldRestore s)).nrg.auxValid = s.nrg.auxValid ∧
    (enterBoot (coldRestore s)).nrg.perst = s.nrg.perst := by
  obtain ⟨hstate, hprev⟩ := enterBoot_dev (coldRestore s)
  obtain ⟨hp12v, haux, hperst⟩ := coldRestore_supplies s
  have hd : (coldRestore s).dev = s.dev := by
    have f := @coldRestore_frame
    simp only [f]
  rw [enterBoot_nrg]
  exact ⟨hstate, hprev.trans (congrArg Dev.state hd), hp12v, haux, hperst⟩

/-! ### Die sensors -/

theorem foldl_max_le (l : List Int) (a : Int) : a ≤ l.foldl max a ∧ ∀ x ∈ l, x ≤ l.foldl max a := by
  induction l generalizing a with
  | nil => exact ⟨Int.le_refl a, nofun⟩
  | cons b l ih =>
    obtain ⟨ha, hl⟩ := ih (max a b)
    refine ⟨Int.le_trans (Int.le_max_left a b) ha, fun x hx => ?_⟩
    obtain rfl | hx := List.mem_cons.1 hx
    · exact Int.le_trans (Int.le_max_right a x) ha
    · exact hl x hx

theorem foldl_max_mem (l : List Int) (a : Int) : l.foldl max a = a ∨ l.foldl max a ∈ l := by
  induction l generalizing a with
  | nil => exact .inl rfl
  | cons b l ih =>
    rw [List.foldl_cons]
    obtain h | h := ih (max a b)
    · rw [h]
      obtain h' | h' := Int.le_total a b
      · exact .inr (by rw [Int.max_eq_right h']; exact List.mem_cons_self)
      · exact .inl (Int.max_eq_left h')
    · exact .inr (List.mem_cons_of_mem b h)

/-- The hottest sensor is one of the list, at its place, and none is above it. -/
theorem hottest_spec {l : List Int} (h : l ≠ []) : (hottest l).1 ∈ l ∧ (∀ x ∈ l, x ≤ (hottest l).1) ∧
    l[(hottest l).2]? = some (hottest l).1 := by
  have hm : (hottest l).1 ∈ l := by
    cases l with
    | nil => exact absurd rfl h
    | cons a l =>
      obtain hx | hx := foldl_max_mem (a :: l) a
      · exact List.mem_cons.2 (.inl hx)
      · exact hx
  have hi : l.findIdx (fun x => decide (x = (hottest l).1)) < l.length :=
    List.findIdx_lt_length_of_exists ⟨_, hm, decide_eq_true rfl⟩
  refine ⟨hm, (foldl_max_le l _).2, ?_⟩
  show l[l.findIdx fun x => decide (x = (hottest l).1)]? = _
  rw [List.getElem?_eq_getElem hi]
  exact congrArg some (of_decide_eq_true (List.findIdx_getElem (w := hi)))

/-- Below every threshold no stage is reached. -/
theorem enterStage_cool {tj : Int} (h : tj < 380) (s : State) : enterStage (stageReached tj) s = s := by
  have h0 : stageReached tj = 0 := (if_neg (by omega)).trans ((if_neg (by omega)).trans (if_neg (by omega)))
  rw [h0]
  unfold enterStage
  exact if_neg (Nat.not_lt_zero _)

theorem dieTempSample_cool {die : List Int} {st : Word} {rails : List Nat} {dw : Nat} {ref : Bool}
    (hp : poweredState s.dev.state = true) (hl : die.length = 16) (hc : ∀ x ∈ die, x < 380) (h0 : s.pwr.stage = 0) :
    Completes (exec (.dieTempSample die st rails dw ref) s) fun t =>
      t.pwr.stage = 0 ∧ t.pwr.tj ∈ die ∧ (∀ x ∈ die, x ≤ t.pwr.tj) ∧ die[t.pwr.hottest]? = some t.pwr.tj ∧
      t.pwr.nowDw = dw ∧ t.pwr.refPresent = ref ∧ t.stations = s.stations ∧ t.dram = s.dram ∧ t.dev = s.dev ∧ t.out = s.out := by
  obtain ⟨hm, hle, hi⟩ := hottest_spec (l := die) (by rintro rfl; exact absurd hl (by decide))
  have htj : (hottest die).1 < 380 := hc _ hm
  have ht : ¬ (s.pwr.tj < 460 ∧ 460 ≤ (hottest die).1) := fun h => absurd (Int.lt_of_le_of_lt h.2 htj) (by decide)
  have f := @advanceTo_frame
  have hx : ∃ t, exec (.dieTempSample die st rails dw ref) s = .next t ∧ ∃ p, t = { advanceTo ((s.almanac / 100 + 1) * 100) s with pwr := p } ∧
      p.stage = s.pwr.stage ∧ p.tj = (hottest die).1 ∧ p.hottest = (hottest die).2 ∧ p.nowDw = dw ∧ p.refPresent = ref := by
    show ∃ t, execDieTempSample die st rails dw ref s = .next t ∧ _
    unfold execDieTempSample
    rw [if_pos (by simp [hp, hl])]
    dsimp only
    rw [enterStage_cool htj, show (advanceTo ((s.almanac / 100 + 1) * 100) s).pwr = s.pwr by simp only [f], if_neg ht]
    exact ⟨_, rfl, _, rfl, rfl, rfl, rfl, rfl, rfl⟩
  obtain ⟨t, hx, p, rfl, hst, hptj, hph, hpd, hpr⟩ := hx
  refine ⟨_, hx, hst.trans h0, ?_⟩
  simp only [f, hptj, hph]
  exact ⟨hm, hle, hi, hpd, hpr, trivial, trivial, trivial, trivial⟩

/-- The cool second of stage 1 ends throttling with alert bit 6. -/
theorem throttleExit_last {c : Nat} (hp : poweredState s.dev.state = true) (h1 : s.pwr.stage = 1) (hc : s.pwr.coolSince = some c) :
    ∃ u, exec .throttleExit s = .next (alertBit 6 u) ∧ u.pwr.stage = 0 ∧ u.pwr.coolSince = none ∧
      u.almanac = (advanceTo (c + 1000000) s).almanac ∧ u.tws = s.tws ∧ u.dram = s.dram ∧ u.stations = s.stations ∧ u.dev = s.dev := by
  have f₁ := @advanceTo_frame
  have f₂ := @addEvent_frame
  have hs : (advanceTo (c + 1000000) s).pwr.stage = 1 := by simp only [f₁, h1]
  show ∃ u, execThrottleExit s = .next (alertBit 6 u) ∧ _
  unfold execThrottleExit
  rw [hc]
  dsimp only
  rw [if_pos (by simp [hp, h1]), hs]
  refine ⟨_, rfl, ?_⟩
  simp only [f₂, f₁]
  exact ⟨trivial, rfl, trivial, trivial, trivial, trivial, trivial⟩

/-- Settles O14: the supplies by `boots`, the sensors by `dieTempSample_cool` and `throttleExit_last`. -/
theorem suppliesRailsAndHeat : Obligations.SuppliesRailsAndHeat := by
  refine ⟨fun s => ⟨fun hs hp aux => ?_, fun hs hp aux => ?_, fun hs hv => ?_, fun hs hv ha aux => ?_, fun hs hv hp ha => ?_,
      fun hs hpa aux => ?_, fun hs => ?_⟩, fun s => ⟨fun hs hb => ?_, fun rail fold hv hr => ?_, fun rail hv hr => ?_⟩,
    fun s die st rails dw ref hp => ⟨fun hl hc h0 => dieTempSample_cool hp hl hc h0, fun h1 ha c hc => ?_⟩⟩
  · obtain ⟨h1, h2, h3, h4, -⟩ := boots { s with nrg := { s.nrg with p12vValid := true, auxValid := aux, path := .mains } }
    refine ⟨_, ?_, h1, h2.trans hs, h3, h4⟩
    show execP12vValid aux s = _
    unfold execP12vValid
    dsimp only
    rw [hs]
    exact congrArg Host.Outcome.next (if_pos (by simp [hp]))
  · refine ⟨{ s with nrg := { s.nrg with p12vValid := true, auxValid := aux, path := .mains } }, ?_, rfl, rfl, rfl⟩
    show execP12vValid aux s = _
    unfold execP12vValid
    dsimp only
    rw [hs]
    exact congrArg Host.Outcome.next (if_neg (by simp [hp]))
  · obtain ⟨h1, h2, -, -, h5⟩ := boots { s with nrg := { s.nrg with perst := false } }
    refine ⟨_, ?_, h1, h2.trans hs, h5⟩
    show execPerstNDeassert s = _
    unfold execPerstNDeassert
    dsimp only
    rw [hs]
    exact congrArg Host.Outcome.next (if_pos (by simp [hv]))
  · obtain ⟨h1, h2, h3, -⟩ := boots { s with nrg := { s.nrg with p12vValid := true, auxValid := aux } }
    refine ⟨_, ?_, h1, h2.trans hs, h3⟩
    show execP12vValid aux s = _
    unfold execP12vValid
    dsimp only
    rw [hs]
    exact congrArg Host.Outcome.next (if_pos (by simp [hv, ha]))
  · obtain ⟨h1, h2, -, -, h5⟩ := boots { s with nrg := { s.nrg with perst := false } }
    refine ⟨_, ?_, h1, h2.trans hs, h5⟩
    show execPerstNDeassert s = _
    unfold execPerstNDeassert
    dsimp only
    rw [hs]
    exact congrArg Host.Outcome.next (if_pos (by simp [hv, ha, hp]))
  · refine ⟨mainsInSaving (markStep
      { s with nrg := { s.nrg with p12vValid := true, auxValid := aux, path := .mains }, sav := { s.sav with packOnly := false } }),
      ?_, ?_⟩
    · show execP12vValid aux s = _
      unfold execP12vValid
      dsimp only
      rw [hs]
      exact if_neg (by simp [hpa])
    · have f₁ := @mainsInSaving_frame
      have f₂ := @markStep_frame
      simp only [f₁, f₂]
      exact ⟨trivial, trivial, trivial, trivial⟩
  · refine ⟨enterOff 0x07 { s with nrg := { s.nrg with p12vValid := false } }, ?_, ?_⟩
    · show execDrydockPowerRemoved s = _
      unfold execDrydockPowerRemoved
      rw [hs]
    · have f := @transition_frame
      simp only [enterOff, transition_dev, f]
      exact ⟨trivial, hs, trivial, rfl⟩
  · show execRailsValid s = _
    unfold execRailsValid
    rw [hs]
    exact if_neg (by simp [hb])
  · exact (if_pos hv).trans (by rw [Nat.mod_eq_of_lt hr])
  · exact (if_pos hv).trans (by rw [Nat.mod_eq_of_lt hr])
  · obtain ⟨u, hx, hst, hcool, halm, htws, hdram, hsta, hdev⟩ := throttleExit_last hp h1 hc
    exact ⟨_, hx, hst, hcool, halm.trans (advanceTo_almanac ha), congrArg (fun w : Tws => w.alert ||| 0x40#8) htws, hdram, hsta, hdev⟩

end Sys2Proof.Machine
end

section
/-! The host link and its encryption (03_host_link R79 to R83, R115, R116, R118): training, a reset of the link, keys and an integrity
failure. -/

namespace Sys2Proof.Machine

variable {s t u : State}

/-- The host group without its event logs and pending signals, which events and interrupts alone change. -/
noncomputable def Hst.rest (h : Hst) : Hst := { h with logs := ({} : Hst).logs, msixPending := 0 }

theorem ite_rest {c : Prop} [Decidable c] {x y : State} {h : Hst} (hx : x.hst.rest = h) (hy : y.hst.rest = h) :
    (if c then x else y).hst.rest = h := by
  split
  · exact hx
  · exact hy

theorem notify_rest (v : Nat) (s : State) : (notify v s).hst.rest = s.hst.rest := ite_rest (ite_rest rfl rfl) rfl

theorem addEvent_rest (i : Nat) (r : EventRecord) (s : State) : (addEvent i r s).hst.rest = s.hst.rest :=
  ite_rest (ite_rest ((notify_rest ..).trans rfl) rfl) rfl

theorem event_rest (code : Nat) (b : Block) (a0 a1 : Nat) (s : State) : (event code b a0 a1 s).hst.rest = s.hst.rest := by
  have f := @logCore_frame
  rw [event, vendorEvent, show ∀ h : State, (logCore code (blockNum b) a0 a1 0 0xFFFF mNone h).hst = h.hst from fun h => by simp only [f]]
  exact addEvent_rest ..

theorem setArmed_rest (a : Bool) (s : State) : (setArmed a s).hst.rest = s.hst.rest :=
  ite_rest rfl ((notify_rest ..).trans (event_rest ..))

theorem reeval_rest (s : State) : (reeval s).hst.rest = s.hst.rest := by
  unfold reeval
  extract_lets stw s₁ l clears l' s₂
  have h₂ : s₂.hst.rest = s.hst.rest := setArmed_rest _ _
  exact ite_rest (ite_rest ((notify_rest _ s₂).trans h₂) h₂) (ite_rest (setArmed_rest ..) rfl)

/-- What an evaluation and a delivery of signals leave of the host group. -/
theorem hst_of_rest {a b : Hst} (h : a.rest = b.rest) : a.linkUp = b.linkUp ∧ a.degraded = b.degraded ∧ a.cxlVer = b.cxlVer ∧
    a.rate = b.rate ∧ a.width = b.width ∧ a.flit256 = b.flit256 ∧ a.hdm = b.hdm ∧ a.writes = b.writes ∧ a.waiting = b.waiting ∧
    a.reads = b.reads :=
  have g {α : Type} (f : Hst → α) (hf : ∀ x : Hst, f x.rest = f x) : f a = f b := (hf a).symm.trans ((congrArg f h).trans (hf b))
  ⟨g Hst.linkUp fun _ => rfl, g Hst.degraded fun _ => rfl, g Hst.cxlVer fun _ => rfl, g Hst.rate fun _ => rfl,
    g Hst.width fun _ => rfl, g Hst.flit256 fun _ => rfl, g Hst.hdm fun _ => rfl, g Hst.writes fun _ => rfl,
    g Hst.waiting fun _ => rfl, g Hst.reads fun _ => rfl⟩

/-- Signals delivered change the pending ones and the output alone. -/
theorem deliverPending_only (s : State) : ∃ p o, deliverPending s = { s with hst := { s.hst with msixPending := p }, out := o } := by
  unfold deliverPending
  generalize List.range 32 = l
  induction l generalizing s with
  | nil => exact ⟨s.hst.msixPending, s.out, rfl⟩
  | cons v l ih =>
    rw [List.foldl_cons]
    split
    · obtain ⟨p, o, h⟩ := ih (emit (.msix v) { s with hst := { s.hst with msixPending := s.hst.msixPending &&& ~~~BitVec.ofNat 32 (2 ^ v) } })
      exact ⟨p, o, h⟩
    · exact ih s

theorem reeval_sui {α : Type} (f : SuiteCtx → α) (ha : ∀ c a, f { c with armed := a } = f c)
    (he : ∀ c, f { c with exposed := false, exposedSince := 0 } = f c) (s : State) : (reeval s).sui.map f = s.sui.map f := by
  have q₁ := @notify_frame
  have q₂ := @setArmed_frame
  unfold reeval
  extract_lets stw s₁ l clears l' s₂
  have hl : l'.map f = s.sui.map f := by
    show (List.map _ (List.map _ s.sui)).map f = _
    rw [List.map_map, List.map_map]
    refine congrArg (fun g => s.sui.map g) (funext fun c => ?_)
    simp only [Function.comp_apply]
    split
    · exact (he { c with armed := armedNow s₁ c }).trans (ha c _)
    · exact ha c _
  have h₂ : s₂.sui = l' := by simp only [s₂, q₂]
  split
  · split
    · rw [show (notify 5 s₂).sui = s₂.sui by simp only [q₁], h₂, hl]
    · rw [h₂, hl]
  · split
    · rw [show ∀ x : State, (setArmed false x).sui = x.sui from fun x => by simp only [q₂]]
      rw [List.map_map]
      exact congrArg (fun g => s.sui.map g) (funext fun c => ha c false)
    · rfl

/-! ### Training -/

theorem bestCommon_top {top m : Nat} (h : m.testBit (top + 1) = true) : bestCommon (top + 1) m = top + 1 := by
  rw [bestCommon, List.range_succ, List.foldl_append]
  exact if_pos h

/-- A link that comes up as far as both ends support. -/
theorem hostLinkTrained_common {vers rates widths : Nat} {en : Bool} {mask : Word} (hp : poweredState s.dev.state = true)
    (hv : bestCommon 3 vers ≠ 0) (hr : bestCommon 4 rates ≠ 0) (hw : bestCommon 3 widths ≠ 0) :
    exec (.hostLinkTrained vers rates widths true en mask) s =
      let v := bestCommon 3 vers
      let r := bestCommon 4 rates
      let w := bestCommon 3 widths
      let same := s.hst.linkUp && s.hst.cxlVer = v && s.hst.rate = r && s.hst.width = w
      let u := { s with hst := { s.hst with cxlVer := v, rate := r, width := w, flit256 := r = 4, linkUp := true,
                                            msixEnable := en, msixMask := mask } }
      .next (deliverPending (if !same && (r < 4 || w < 3) then
        event 0x0010 .hst (rateGts r) (widthLanes w) { u with hst := { u.hst with degraded := true } } else u)) :=
  if_pos (by simp [topVersion, topRate, topWidth, hp, hv, hr, hw])

theorem event_ready (code : Nat) (b : Block) (a0 a1 : Nat) (h : logHolds s = false) :
    (event code b a0 a1 s).log.ready = s.log.ready ++ [mkLog code (blockNum b) a0 a1 0 0xFFFF mNone s] := by
  have f := @addEvent_frame
  rw [event, vendorEvent, logCore_of_not_holds _ _ _ _ _ _ _ (by rwa [logHolds_addEvent])]
  simp only [mkLog, suiteName, suiteOf, logHolds_addEvent, f]

/-- With nothing held a discard of all changes nothing. -/
theorem discardAll_of_none (hw : s.hst.writes = []) (hq : s.hst.waiting = []) (hc : s.hst.creditHeldAt = none) (hs : s.stw.stalled = []) :
    discardAll s = s := by
  have he : { s with hst := { s.hst with writes := s.hst.writes.filter fun w => w.accepted, waiting := [] },
                     stw := { s.stw with stalled := s.stw.stalled.filter fun c => c.hostTag.isNone } } = s := by
    have e₁ : (s.hst.writes.filter fun w => w.accepted) = s.hst.writes := by rw [hw]; rfl
    have e₂ : (s.stw.stalled.filter fun c => c.hostTag.isNone) = s.stw.stalled := by rw [hs]; rfl
    rw [e₁, e₂, show { s.hst with writes := s.hst.writes, waiting := [] } = s.hst by rw [← hq]]
  unfold discardAll
  dsimp only
  rw [he, hw, hq]
  exact admitWrites_of_no_wait hq hc

/-- The encryption broken: both streams insecure and the reads taken out. -/
noncomputable def ideBrokenState (s : State) : State :=
  { s with hst := { s.hst with ideIoSecure := false, ideMemSecure := false, ideBroken := true, ideFail := true, reads := [],
                               readsWaiting := [] } }

theorem ideBrokenState_of_no_reads (hr : s.hst.reads = []) (hw : s.hst.readsWaiting = []) : ideBrokenState s =
    { s with hst := { s.hst with ideIoSecure := false, ideMemSecure := false, ideBroken := true, ideFail := true } } := by
  have h : ∀ x : Hst, x.reads = [] → x.readsWaiting = [] → { x with reads := [], readsWaiting := [] } = x := by
    rintro ⟨⟩ rfl rfl
    rfl
  exact congrArg (fun x => { s with hst := x }) (h { s.hst with
    ideIoSecure := false, ideMemSecure := false, ideBroken := true, ideFail := true } hr hw)

theorem ideIntegrityFailure_eq (k : Nat) : exec (.ideIntegrityFailure k) s = .next (reeval (raise hstIdeFail
    ((s.hst.reads ++ s.hst.readsWaiting).foldl (fun s r => poisonedRead r.tag s)
      (discardAll (event 0x0015 .hst k 0 (ideBrokenState s)))))) := by
  show execIdeIntegrityFailure k s = _
  rw [execIdeIntegrityFailure, ideBrokenState]

theorem linkReset_writes (s : State) : (linkReset s).hst.writes = s.hst.writes.filter fun w => w.accepted := by
  show (creditSpan s.almanac s.hst).writes.filter _ = _
  unfold creditSpan
  split <;> rfl

/-- Settles O15: training by `hostLinkTrained_common`; a reset and an integrity failure by what evaluations leave. -/
theorem hostLinkAndIde : Obligations.HostLinkAndIde := by
  refine ⟨fun s => ⟨fun vers rates widths en mask hp hv hr hw => ?_, fun vers rates widths en mask hp hv hr hw hd hl => ?_,
    fun vers rates widths en mask hp hv hv0 hr hr0 hw hw0 hl hf => ?_, fun kind => ?_⟩, fun s => ⟨fun a b => rfl, fun k hw hq hr hrw hc hs => ?_⟩⟩
  · have h3 := bestCommon_top (top := 2) hv
    have h4 := bestCommon_top (top := 3) hr
    have h3' := bestCommon_top (top := 2) hw
    rw [hostLinkTrained_common hp (by rw [h3]; decide) (by rw [h4]; decide) (by rw [h3']; decide)]
    simp only [h3, h4, h3']
    simp
  · have hs : (!(s.hst.linkUp && decide (s.hst.cxlVer = bestCommon 3 vers) && decide (s.hst.rate = bestCommon 4 rates) &&
        decide (s.hst.width = bestCommon 3 widths)) && (decide (bestCommon 4 rates < 4) || decide (bestCommon 3 widths < 3))) = true := by
      simp [hl, hd]
    rw [hostLinkTrained_common hp hv hr hw]
    dsimp only
    rw [if_pos hs]
    generalize bestCommon 3 vers = v at *
    generalize bestCommon 4 rates = r at *
    generalize bestCommon 3 widths = w at *
    obtain ⟨p, o, hx⟩ := deliverPending_only (event 0x0010 .hst (rateGts r) (widthLanes w) { s with hst := { s.hst with
      cxlVer := v, rate := r, width := w, flit256 := r = 4, linkUp := true, msixEnable := en, msixMask := mask, degraded := true } })
    obtain ⟨hlink, hdeg, hver, hrate, hwid, hflit, -⟩ := hst_of_rest (event_rest 0x0010 .hst (rateGts r) (widthLanes w) { s with hst := { s.hst with
      cxlVer := v, rate := r, width := w, flit256 := r = 4, linkUp := true, msixEnable := en, msixMask := mask, degraded := true } })
    have f := @event_frame
    refine ⟨_, congrArg Host.Outcome.next hx, hdeg, hlink, hver, hrate, hwid, hflit, fun hh => event_ready _ _ _ _ hh, ?_⟩
    simp only [f]
    exact ⟨trivial, trivial, trivial⟩
  · rw [hostLinkTrained_common hp (hv ▸ hv0) (hr ▸ hr0) (hw ▸ hw0)]
    have he : { s.hst with cxlVer := bestCommon 3 vers, rate := bestCommon 4 rates, width := bestCommon 3 widths,
                           flit256 := decide (bestCommon 4 rates = 4), linkUp := true, msixEnable := en, msixMask := mask } =
        { s.hst with msixEnable := en, msixMask := mask } := by
      rw [hv, hr, hw, ← hf, ← hl]
    dsimp only
    rw [if_neg (by simp [hl, hv, hr, hw]), he]
  · have f₁ := @reeval_frame
    have f₂ := @reeval_frame3
    have f₃ := @linkReset_frame
    let x := linkReset (if kind = .perst then perstDown (modStation .hst (fun x => { x with quarUntil := some (s.almanac + 11) }) s)
      else modStation .hst (fun x => { x with quarUntil := some (s.almanac + 11) }) s)
    obtain ⟨hlink, -, -, -, -, -, hhdm, hwr, hwait, hrd⟩ := hst_of_rest (reeval_rest x)
    have hx : x.dev = s.dev ∧ x.dram = s.dram ∧ x.cht = s.cht ∧ x.sui = s.sui := by
      refine ⟨?_, ?_, ?_, ?_⟩ <;> simp only [x, f₃] <;> split <;> rfl
    obtain ⟨hdev, hdram, hcht, hsui⟩ := hx
    refine ⟨_, rfl, hlink, hhdm, hwr.trans ((linkReset_writes _).trans ?_), hwait, hrd, ?_, ?_, ?_, ?_⟩
    · split <;> rfl
    · exact ((f₂ x).1).trans (congrArg Dev.state hdev)
    · simp only [f₁]
      exact hdram
    · simp only [f₁]
      exact hcht
    · exact (reeval_sui (fun c => (c.cfg, c.dirty, c.stowing)) (fun _ _ => rfl) (fun _ => rfl) x).trans (by rw [hsui])
  · have f := @event_frame
    obtain ⟨-, -, -, -, -, -, -, hwr, hwait, -⟩ := hst_of_rest (event_rest 0x0015 .hst k 0 (ideBrokenState s))
    rw [ideIntegrityFailure_eq, hr, hrw, discardAll_of_none (hwr.trans hw) (hwait.trans hq) ?_ ?_, ideBrokenState_of_no_reads hr hrw]
    · rfl
    · exact (congrArg Hst.creditHeldAt (event_rest 0x0015 .hst k 0 (ideBrokenState s)) :).trans hc
    · simp only [f]
      exact hs

end Sys2Proof.Machine
end

section
/-! The gauge's references and the Reckoning (11_gauge_reckoning R398 to R424). -/

namespace Sys2Proof.Machine

variable {s t u : State}

/-- The state after a rest that has lasted: the rest begins anew. -/
noncomputable def restedState (t : Nat) (s : State) : State :=
  { advanceTo (t + restTime s.plan.energy.chem) s with
    gau := { s.gau with restSince := some (advanceTo (t + restTime s.plan.energy.chem) s).almanac } }

theorem gaugeRestReference_eq {t : Nat} (h : s.gau.restSince = some t) (hc : cellMode s = true) (hi : s.nrg.inserted = true)
    (hp : poweredState s.dev.state = true) : exec .gaugeRestReference s =
      .next (if inRefRange s.plan.energy.chem (socV (restedState t s)) then takeReference (restedState t s) else restedState t s) := by
  have f := advanceTo_frame (t + restTime s.plan.energy.chem) s
  have hg : (advanceTo (t + restTime s.plan.energy.chem) s).gau = s.gau := by simp only [f]
  have hu : ∀ r, { advanceTo (t + restTime s.plan.energy.chem) s with
      gau := { (advanceTo (t + restTime s.plan.energy.chem) s).gau with restSince := r } } =
      { advanceTo (t + restTime s.plan.energy.chem) s with gau := { s.gau with restSince := r } } :=
    fun r => congrArg (fun g => { advanceTo (t + restTime s.plan.energy.chem) s with gau := { g with restSince := r } }) hg
  have hpl : (restedState t s).plan = s.plan := by
    show (advanceTo (t + restTime s.plan.energy.chem) s).plan = s.plan
    have hf : (advanceTo (t + restTime s.plan.energy.chem) s).fpl = s.fpl := by simp only [f]
    exact congrArg Fpl.plan hf
  show execGaugeRestReference s = _
  unfold execGaugeRestReference
  rw [h]
  dsimp only
  rw [if_pos (by simp [hc, hi, hp]), hu]
  show Host.Outcome.next (if inRefRange (restedState t s).plan.energy.chem (socV (restedState t s)) then takeReference (restedState t s)
    else restedState t s) = _
  rw [hpl]

theorem takeReference_gauge (s : State) : (takeReference s).gau.refValid = true ∧
    (takeReference s).gau.socRef = floorNat (socV s * 1000) ∧ (takeReference s).gau.stale = false :=
  ⟨rfl, rfl, rfl⟩

theorem checkDisagree_of_no_reference (h : s.gau.refValid = false) : checkDisagree s = s :=
  if_neg (by simp [h])

/-- A wanted run takes its snapshot at once. -/
theorem reckoningRun_wanted (hs : reckonState s = true) (hr : s.gau.refValid = false) (hn : s.rek.running = none)
    (hh : s.nrg.runHold = false) (hp : purserAway s = false) (ha : s.rek.again = true) : exec .reckoningRun s =
      let r := reckon { s with rek := { s.rek with again := false } }
      .next { r.2 with rek := { r.2.rek with running := some r.1, again := false },
                       gau := { r.2.gau with disagreeEvent := false } } := by
  show execReckoningRun s = _
  unfold execReckoningRun
  rw [if_pos (by simp [hs, hn, hh, hp]), ha]
  dsimp only
  rw [if_pos rfl, checkDisagree_of_no_reference (s := { s with rek := { s.rek with again := false } }) hr]


/-- Settles O37: `gaugeRestReference_eq` for the references; a run and its end follow `execReckoningRun` and `execReckoningPublish`. -/
theorem gaugeAndReckoning : Obligations.GaugeAndReckoning := by
  refine ⟨fun s => ⟨fun h => ?_, fun h hd => ?_, fun t ht hc hi hp hr => ?_, fun t ht hc hi hp => ?_, fun h => ?_, fun hc hw => ?_,
    fun t ht => ?_, fun hc hi hs hp => ?_, fun hi hp hd ha hl => ?_⟩, fun s => ⟨fun hs hr hn hh hp ha => ?_, fun o ho hl hc hd => ?_,
    fun h => ?_, fun hp hl hd => ?_, fun hi hp => ?_⟩⟩
  · exact congrArg Host.Outcome.next (if_pos h)
  · show execResistancePulse s = _
    rw [execResistancePulse, if_pos hd, if_pos h]
  · exact (gaugeRestReference_eq ht hc hi hp).trans (congrArg Host.Outcome.next (if_neg (Bool.not_eq_true _ ▸ hr)))
  · exact fun hr => ⟨(gaugeRestReference_eq ht hc hi hp).trans (congrArg Host.Outcome.next (if_pos hr)), takeReference_gauge _⟩
  · exact congrArg Host.Outcome.next (if_pos h)
  · refine congrArg Host.Outcome.next ?_
    rw [forceRefCmd, if_pos hc]
    exact if_neg (Bool.not_eq_true _ ▸ hw)
  · show execRestWindowTimeout s = _
    rw [execRestWindowTimeout, ht]
  · have he : execEstimatorStale s = _ := if_pos (by simp [hc, hi, hs, hp])
    exact ⟨_, he, rfl⟩
  · have f := advanceTo_frame (s.gau.learnAt + 7776000000000) s
    have hal := advanceTo_almanac (t := s.gau.learnAt + 7776000000000) ha
    have hm : ((advanceTo (s.gau.learnAt + 7776000000000) s).almanac - (s.gau.learnAt + 7776000000000)) / 2592000000000 = 0 := by
      rw [hal]
      omega
    refine ⟨?_, ?_, ?_⟩
    rotate_left
    · show execCapacityDerate s = _
      unfold execCapacityDerate
      dsimp only
      rw [if_pos (by simp [hi, hp]), if_pos hd, hm]
    · simp only [f]
      exact ⟨rfl, trivial, hal, trivial, trivial, trivial⟩
  · refine ⟨_, reckoningRun_wanted hs hr hn hh hp ha, rfl, rfl, ?_⟩
    have f := reckon_frame { s with rek := { s.rek with again := false } }
    simp only [f]
    exact ⟨trivial, trivial, trivial, trivial⟩
  · show execReckoningPublish s = _
    unfold execReckoningPublish
    rw [ho]
    dsimp only
    have h₁ : ¬ (o.limit = 1 ∧ s.rek.out.limit ≠ 1) := fun h => hl h.1
    have h₂ : ¬ ceilMoved o.ceiling s.rek.loggedCeil = true := by simp [hc]
    have h₃ : ¬ o.logsDis = true := by simp [hd]
    rw [if_neg h₁, if_neg h₂, if_neg h₃]
  · exact congrArg Host.Outcome.next (if_pos h)
  · refine ⟨?_, ?_, ?_⟩
    rotate_left
    · show execGaugeRecordStore true s = _
      unfold execGaugeRecordStore
      rw [if_pos (by simp [hp, hl]), if_pos hd]
      exact if_pos rfl
    · exact ⟨rfl, rfl, rfl, rfl, rfl, rfl⟩
  · exact if_pos (by simp [hi, hp])

end Sys2Proof.Machine
end

section
/-! Boot (08_startup_restore R290 to R298, 18_service_update R634): the bank, the plan, Meta and the decision on a restore. -/

namespace Sys2Proof.Machine

variable {s t u : State}

theorem enterDrydock_dev (s : State) : (enterDrydock s).dev.state = .drydock ∧ (enterDrydock s).dev.prev = s.dev.state ∧
    (enterDrydock s).dev.entryCause = 0x04 := by
  have f := @giveAbandon_frame
  rw [enterDrydock, (giveAbandon_frame _).2.1, transition_dev]
  exact ⟨rfl, rfl, rfl⟩

theorem takeHeld_of_none (ha : s.dev.heldAbandon = false) (hr : s.dev.heldReplace = false) (hh : s.dev.heldHarbour = false) :
    takeHeld s = s := by
  simp [takeHeld, ha, hr, hh]

/-- With nothing held a part that enters SERVICE stays there, its host gate open. -/
theorem enterService_of_none (cause : Nat) (ha : s.dev.heldAbandon = false) (hr : s.dev.heldReplace = false)
    (hh : s.dev.heldHarbour = false) : (enterService cause s).dev.state = .service ∧
      (enterService cause s).dev.prev = s.dev.state ∧ (enterService cause s).dev.entryCause = cause ∧
      (enterService cause s).hst.gateClosed = false := by
  unfold enterService
  extract_lets s₁ h l r s₂
  have h₂ : s₂.dev = { s.dev with state := .service, prev := s.dev.state, entryCause := cause } := transition_dev _ _ _
  obtain ⟨a, hd⟩ := reeval_dev s₂
  rw [h₂] at hd
  have hn : takeHeld (reeval s₂) = reeval s₂ := takeHeld_of_none (by rw [hd]; exact ha) (by rw [hd]; exact hr) (by rw [hd]; exact hh)
  rw [hn, hd]
  exact ⟨rfl, rfl, rfl, (reeval_frame3 s₂).2.2.1⟩

theorem openService_of_none (cause : Nat) (ha : s.dev.heldAbandon = false) (hr : s.dev.heldReplace = false)
    (hh : s.dev.heldHarbour = false) : (openService cause s).dev.state = .service ∧
      (openService cause s).dev.prev = s.dev.state ∧ (openService cause s).dev.entryCause = cause ∧
      (openService cause s).hst.gateClosed = false := by
  have f₁ := @replaceItem_frame
  have f₂ := @takeCheckpoint_frame
  have f₃ := @eraseOldArea_frame
  have f₄ := @eraseReleased_frame
  unfold openService
  simp only [f₁, f₂, f₃, f₄, State.ite_dev, State.ite_hst, ite_self]
  exact enterService_of_none cause ha hr hh

/-- With no save and no open record the decision is a fresh start, the halves looked at. -/
theorem decide_fresh (hp : planCheck s = true) (hc : currentSave s = none) (ho : newestOpen s = none) : ∃ v, decide_ s =
    let x := decideHalf false [] (decideHalf false [] { s with sav := v } .port) .starboard
    { x with sav := { x.sav with decision := .fresh } } := by
  let v := { s.sav with holdReason := 0, decideMs := min 65535 ((s.almanac - s.sav.bootAt) / 1000) }
  have hp' : planCheck { s with sav := v } = true := hp
  have hc' : currentSave { s with sav := v } = none := hc
  have ho' : newestOpen { s with sav := v } = none := ho
  have hk : keepHalves { s with sav := v } = [] := by rw [keepHalves, hc']
  refine ⟨v, ?_⟩
  unfold decide_
  dsimp only
  rw [hp', hc', ho', hk]
  rfl

/-! ### Meta -/

theorem keptRecord_of_empty {bad : List Nat} {r : Nat} (hj : s.cel.journal = []) (hc : s.cel.ckpts = []) : keptRecord s bad r = none := by
  simp [keptRecord, replayed, hj, hc]

theorem loadMaps_of_empty {bad lost : List Nat} (hj : s.cel.journal = []) (hc : s.cel.ckpts = []) : loadMaps bad lost s = s := by
  refine foldl_fixed fun e _ => ?_
  dsimp only
  rw [keptRecord_of_empty hj hc]
  exact ite_self _

theorem loadCheckpoint_nil (hc : s.cel.ckpts = []) : loadCheckpoint [] s = s := by
  have h : ∀ x : Cel, x.ckpts = [] → { x with ckpts := x.ckpts.filter fun c => !([] : List Nat).contains c.seq } = x := by
    rintro ⟨⟩ rfl
    rfl
  exact congrArg (fun x => { s with cel := x }) (h s.cel hc)

theorem lastSave_congr (hp : t.sav.port = s.sav.port) (hs : t.sav.stbd = s.sav.stbd) (ha : t.cel.areaA = s.cel.areaA)
    (hb : t.cel.areaB = s.cel.areaB) (hh : t.sav.badHeaders = s.sav.badHeaders) : lastSave t = lastSave s := by
  simp only [lastSave, heldSaves, headerReads, hp, hs, ha, hb, hh]

/-- Meta read back from an empty journal: the counters alone are new. -/
noncomputable def metaState (s : State) : State :=
  let x := loadCounters [] s
  let y := loadRoles { x with cel := { x.cel with metaLoaded := true } }
  { y with sav := { y.sav with openId := ((newestOpen y).map fun o => o.openId).getD 0 } }

theorem metaReadDone_empty (hb : s.dev.state = .boot) (hd : s.cht.built = true) (hl : s.cel.metaLoaded = false) (hj : s.cel.journal = [])
    (hc : s.cel.ckpts = []) (hbh : s.sav.badHeaders = []) (hbo : s.sav.badOpens = []) (hs : lastSave s = none)
    (hg : s.log.gapUnknown = false) : exec (.metaReadDone [] [] {}) s =
      .next (spareAtBoot (patrolAtBoot (noteReadyAny s (metaState s)))) := by
  have h₁ : { s with sav := { s.sav with badHeaders := [], badOpens := [] } } = s := by
    have h : ∀ x : Sav, x.badHeaders = [] → x.badOpens = [] → { x with badHeaders := [], badOpens := [] } = x := by
      rintro ⟨⟩ rfl rfl
      rfl
    exact congrArg (fun x => { s with sav := x }) (h s.sav hbh hbo)
  have hn : lostAfter s [] = [] := rfl
  have f := loadRoles_frame { loadCounters [] s with cel := { (loadCounters [] s).cel with metaLoaded := true } }
  have ha : stepAlmanac (loadRoles { loadCounters [] s with cel := { (loadCounters [] s).cel with metaLoaded := true } }) =
      loadRoles { loadCounters [] s with cel := { (loadCounters [] s).cel with metaLoaded := true } } := by
    refine if_neg ?_
    simp only [f]
    simp [loadCounters, hg]
  have hm : readLastSave (metaState s) = metaState s := by
    have h : lastSave (metaState s) = none := by
      rw [← hs]
      refine lastSave_congr ?_ ?_ ?_ ?_ ?_ <;> simp only [metaState, f] <;> rfl
    rw [readLastSave, h]
  show execMetaReadDone [] [] {} s = _
  unfold execMetaReadDone
  rw [if_pos (by simp [hb, hd, hl])]
  dsimp only
  rw [h₁, loadCheckpoint_nil hc, hn, loadMaps_of_empty hj hc, if_pos List.isEmpty_nil, if_pos List.isEmpty_nil, List.foldl_nil, ha]
  exact congrArg (fun x => Host.Outcome.next (spareAtBoot (patrolAtBoot (noteReadyAny s x)))) hm

theorem spareMin_congr (hf : t.fuses = s.fuses) (hp : t.fpl = s.fpl) (hd : t.cel.dies = s.cel.dies) : spareMin t = spareMin s := by
  have hl : spareLeft t = spareLeft s := by
    funext d
    simp only [spareLeft, spareBlocks, dieAt, cellarBlocks, vestBlocks, metaBlocks, partBlocks, dieCount, State.plan, hf, hp, hd]
  have hn : dieCount t = dieCount s := by rw [dieCount, dieCount, hf]
  rw [spareMin, spareMin, hl, hn]

theorem patrolAtBoot_cel (s : State) : ∃ r p, (patrolAtBoot s).cel = { s.cel with patrolRun := r, patrolStart := p } := by
  unfold patrolAtBoot
  extract_lets long
  split
  · exact ⟨_, _, rfl⟩
  · exact ⟨_, _, rfl⟩

/-- With spare blocks enough at boot the reason of Table 01-7 is cleared. -/
theorem spareAtBoot_of_enough (h : s.cel.spareThresh ≤ (spareMin s).1) : spareAtBoot s = clearReason 1 s :=
  if_neg (Nat.not_lt.mpr h)

theorem selectBank_lt {b : Nat} (h : selectBank s = some b) : b = 0 ∨ b = 1 := by
  unfold selectBank at h
  grind

theorem imageCheck_passed {b : Nat} (hn : selectBank s = some b) (he : s.fuses.epoch ≤ hdrField s b 9 1)
    (hm : markerCounts (svcBank s b) .migrated = true) (h₁ : bankState (svcBank s (1 - b)) ≠ 1)
    (h₃ : bankState (svcBank s (1 - b)) ≠ 3) : imageCheck true s = { s with svc := { s.svc with inForce := b, selected := true } } := by
  have hc : ¬ ((!true) = true ∨ hdrField s b 9 1 < s.fuses.epoch) := by simp [he]
  have hm' : markerCounts (svcBank { s with svc := { s.svc with inForce := b, selected := true } } b) .migrated = true := hm
  unfold imageCheck
  rw [hn]
  dsimp only
  rw [if_neg hc, if_pos hm']
  refine foldl_fixed fun n hn' => if_neg fun ⟨hne, hst⟩ => ?_
  have hnb : n = 1 - b := by
    have := selectBank_lt hn
    simp at hn'
    omega
  exact (hnb ▸ hst).elim h₁ h₃

/-- Settles O32: the boot ROM's choice and the plan by their arms, the decision by `decide_`, Meta by `metaReadDone_empty`. -/
theorem bootSteps : Obligations.BootSteps := by
  refine ⟨fun s hb hs ha hr hh => ⟨fun p hn => ?_, fun b hn => ?_, fun b hn he hm h₁ h₃ => ?_⟩, fun s hb => ⟨fun hs hc => ?_,
    fun hd hm => ?_, fun hd hm hp hc ho => ?_, fun hd hm ha hr hh => ?_, fun hc hl hj hk hbh hbo hls hg hsp => ?_⟩⟩
  · obtain ⟨hd, hv, he⟩ := enterDrydock_dev s
    have hx : exec (.bootImageCheck p) s = .next (imageCheck p s) := if_pos ⟨hb, hs⟩
    refine ⟨_, hx.trans (congrArg Host.Outcome.next ?_), hd, hv.trans hb, he⟩
    rw [imageCheck, hn]
  · obtain ⟨hd, hv, he⟩ := enterDrydock_dev s
    have hx : exec (.bootImageCheck false) s = .next (imageCheck false s) := if_pos ⟨hb, hs⟩
    refine ⟨_, hx.trans (congrArg Host.Outcome.next ?_), hd, hv.trans hb, he⟩
    rw [imageCheck, hn]
    exact if_pos (.inl rfl)
  · have hx : exec (.bootImageCheck true) s = .next (imageCheck true s) := if_pos ⟨hb, hs⟩
    exact hx.trans (congrArg Host.Outcome.next (imageCheck_passed hn he hm h₁ h₃))
  · exact if_pos (by simp [hb, hs, hc])
  · show execRestoreDecision s = _
    rw [execRestoreDecision, if_pos hd]
    exact if_neg (by simp [hm])
  · have hx : exec .restoreDecision s = .next (decide_ s) := by
      show execRestoreDecision s = _
      rw [execRestoreDecision, if_pos hd, if_pos hm]
    obtain ⟨v, hx'⟩ := decide_fresh hp hc ho
    have f := @decideHalf_frame
    refine ⟨_, hx.trans (congrArg Host.Outcome.next hx'), rfl, ?_, ?_⟩ <;> simp only [f]
  · have hx : exec .zeroFillDone s = .next (openService 0x03 (zeroFill s)) := if_pos (by simp [hb, hd, hm])
    have f := zeroFill_frame s
    have hz : (zeroFill s).dev = s.dev := by simp only [f]
    obtain ⟨h₁, h₂, h₃, h₄⟩ := openService_of_none (s := zeroFill s) 0x03 (by rw [hz]; exact ha) (by rw [hz]; exact hr) (by rw [hz]; exact hh)
    exact ⟨_, hx, h₁, h₂.trans (by rw [hz, hb]), h₃, h₄⟩
  · obtain ⟨r, p, hpc⟩ := patrolAtBoot_cel (noteReadyAny s (metaState s))
    have f₁ := @patrolAtBoot_frame
    have f₂ := @noteReadyAny_frame
    have f₃ := loadRoles_frame { loadCounters [] s with cel := { (loadCounters [] s).cel with metaLoaded := true } }
    have hcel : (noteReadyAny s (metaState s)).cel = (metaState s).cel := by simp only [f₂]
    have hmc : (metaState s).cel = { (loadCounters [] s).cel with metaLoaded := true } := by simp only [metaState, f₃]
    rw [hcel, hmc] at hpc
    have hsp' : (patrolAtBoot (noteReadyAny s (metaState s))).cel.spareThresh ≤
        (spareMin (patrolAtBoot (noteReadyAny s (metaState s)))).1 := by
      rw [spareMin_congr (s := s), hpc]
      · exact hsp
      · simp only [f₁, f₂, metaState, f₃]
        rfl
      · simp only [f₁, f₂, metaState, f₃]
        rfl
      · rw [hpc]
        rfl
    refine ⟨_, (metaReadDone_empty hb hc hl hj hk hbh hbo hls hg).trans (congrArg Host.Outcome.next (spareAtBoot_of_enough hsp')), ?_⟩
    have f₀ := @clearReason_frame
    have hm : (metaState s).almanac = s.almanac ∧ (metaState s).cht = s.cht ∧ (metaState s).dram = s.dram ∧
        (metaState s).dev = s.dev := by
      simp only [metaState, f₃]
      exact ⟨rfl, rfl, rfl, rfl⟩
    have ho : (metaState s).sav.openId = ((newestOpen s).map fun o => o.openId).getD 0 := by
      have h : newestOpen (loadRoles { loadCounters [] s with cel := { (loadCounters [] s).cel with metaLoaded := true } }) =
          newestOpen s := by
        simp only [newestOpen, f₃]
        rfl
      rw [metaState, h]
    obtain ⟨hal, hcht, hdram, hdev⟩ := hm
    have hdv : (patrolAtBoot (noteReadyAny s (metaState s))).dev = s.dev := by simp only [f₁, f₂, hdev]
    simp only [f₀, f₁, f₂, hpc]
    refine ⟨trivial, hal, ho, hcht, hdram, ?_⟩
    exact congrArg (fun d : Dev => { d with reasons := d.reasons &&& ~~~ 2#6 }) hdv

end Sys2Proof.Machine
end

section
/-! The ends of a save and Warm Return (07_fence_save R262 to R286). A fault raised in SAVING leaves the state, the host's
settings, the absence of P12V and the supplies. -/

namespace Sys2Proof.Machine

variable {s t u : State} {h : Hst} {a v : Bool}

/-- In SAVING, with host group `h` but for its signals, absence `a` since the Fence and P12V valid as `v` says. -/
def InSave (h : Hst) (a v : Bool) (s : State) : Prop :=
  s.dev.state = .saving ∧ s.hst.rest = h ∧ s.sav.absenceSinceFence = a ∧ s.nrg.p12vValid = v

theorem InSave.of_eq (hs : InSave h a v s) (hd : t.dev = s.dev) (hh : t.hst = s.hst)
    (ha : t.sav.absenceSinceFence = s.sav.absenceSinceFence) (hn : t.nrg = s.nrg) : InSave h a v t := by
  rw [InSave, hd, hh, ha, hn]
  exact hs

theorem logCore_inSave {type block a0 a1 a2 suite master : Nat} (hs : InSave h a v s) :
    InSave h a v (logCore type block a0 a1 a2 suite master s) := by
  have f := @logCore_frame
  refine hs.of_eq ?_ ?_ ?_ ?_ <;> simp only [f]

theorem event_inSave {code : Nat} {b : Block} {a0 a1 : Nat} (hs : InSave h a v s) : InSave h a v (event code b a0 a1 s) := by
  have f := @event_frame
  refine ⟨?_, (event_rest ..).trans hs.2.1, ?_, ?_⟩ <;> simp only [f]
  · exact hs.1
  · exact hs.2.2.1
  · exact hs.2.2.2

theorem notify_inSave {k : Nat} (hs : InSave h a v s) : InSave h a v (notify k s) := by
  have f := @notify_frame
  refine ⟨?_, (notify_rest ..).trans hs.2.1, ?_, ?_⟩ <;> simp only [f]
  · exact hs.1
  · exact hs.2.2.1
  · exact hs.2.2.2

theorem alertBit_inSave {k : Nat} (hs : InSave h a v s) : InSave h a v (alertBit k s) := hs

theorem modStation_inSave {b : Block} {f : Station → Station} (hs : InSave h a v s) : InSave h a v (modStation b f s) := hs

theorem stopAuto_inSave {level : Nat} (hs : InSave h a v s) : InSave h a v (stopAuto level s) := by
  unfold stopAuto
  split
  · exact hs
  · exact hs

theorem levelAction_inSave {b : Block} {level : Nat} (hs : InSave h a v s) : InSave h a v (levelAction b level s) := by
  unfold levelAction
  extract_lets x
  have hx : InSave h a v x := by
    unfold x
    split
    · exact hs
    · exact notify_inSave hs
  rw [if_pos (.inr hx.1)]
  split
  · rw [fenceTrigger, hx.1]
    exact hx
  · exact hx

theorem escalate_inSave {b : Block} {old : Nat} (hs : InSave h a v s) : InSave h a v (escalate b old s) := by
  unfold escalate
  extract_lets x y
  have hy : InSave h a v y := by
    unfold y
    split
    · exact stopAuto_inSave hs
    · exact hs
  split
  · exact levelAction_inSave (event_inSave hy)
  · exact hy

theorem raiseCore_inSave {c : FClass} {addr mstr access entry : Nat} (hs : InSave h a v s) :
    InSave h a v (raiseCore c addr mstr access entry s) := by
  unfold raiseCore
  split
  · exact hs
  · unfold raiseNow
    extract_lets low old x y
    have hy : InSave h a v y := by
      unfold y
      split
      · exact hs
      · exact hs
    exact escalate_inSave hy

theorem noteDrops_inSave {before : State} (hs : InSave h a v s) : InSave h a v (noteDrops before s) := by
  unfold noteDrops
  split
  · exact raiseCore_inSave hs
  · exact hs

theorem raiseAt_inSave {c : FClass} {addr mstr access entry : Nat} (hs : InSave h a v s) :
    InSave h a v (raiseAt c addr mstr access entry s) := noteDrops_inSave (raiseCore_inSave hs)

theorem logRecord_inSave {type block a0 a1 a2 suite master : Nat} (hs : InSave h a v s) :
    InSave h a v (logRecord type block a0 a1 a2 suite master s) := noteDrops_inSave (logCore_inSave hs)

theorem foldl_inSave {α : Type} {f : State → α → State} (hf : ∀ s x, InSave h a v s → InSave h a v (f s x)) (l : List α)
    (hs : InSave h a v s) : InSave h a v (l.foldl f s) := by
  induction l generalizing s with
  | nil => exact hs
  | cons x l ih => exact ih (hf s x hs)

theorem logCaptures_inSave (hs : InSave h a v s) : InSave h a v (logCaptures s) := by
  refine foldl_inSave (fun s b hs => ?_) _ hs
  dsimp only
  split
  · exact logRecord_inSave hs
  · exact hs

theorem setReason_inSave {k : Nat} (hs : InSave h a v s) : InSave h a v (setReason k s) := by
  unfold setReason
  split
  · exact hs
  · extract_lets r x
    unfold replaceSignal
    extract_lets y
    have hy : InSave h a v y := alertBit_inSave (notify_inSave (event_inSave hs))
    rw [hy.1]
    exact hy

theorem modNand_inSave {part d b : Nat} {f : NandBlock → NandBlock} (hs : InSave h a v s) : InSave h a v (modNand part d b f s) :=
  hs.of_eq rfl rfl rfl rfl

theorem modDie_inSave {d : Nat} {f : Die → Die} (hs : InSave h a v s) : InSave h a v (modDie d f s) := hs.of_eq rfl rfl rfl rfl

theorem eraseAheadOf_inSave {k : Half} {x : Nat} {b : Bool} (hs : InSave h a v s) : InSave h a v (eraseAheadOf k x b s) := by
  unfold eraseAheadOf
  extract_lets p
  split
  · exact modNand_inSave hs
  · exact hs

theorem modRun_inSave {f : SaveRun → SaveRun} (hs : InSave h a v s) : InSave h a v (modRun f s) := hs.of_eq rfl rfl rfl rfl

theorem spareCheck_inSave (hs : InSave h a v s) : InSave h a v (spareCheck s) := by
  unfold spareCheck
  split
  · exact setReason_inSave (raiseAt_inSave hs)
  · exact hs

theorem unplace_inSave {d b : Nat} (hs : InSave h a v s) : InSave h a v (unplace d b s) := hs.of_eq rfl rfl rfl rfl

theorem retireBlock_inSave {part d b : Nat} {e : Bool} (hs : InSave h a v s) : InSave h a v (retireBlock part d b e s) := by
  unfold retireBlock
  extract_lets q x k place e r y z
  have hx : InSave h a v x := hs.of_eq rfl rfl rfl rfl
  have hy : InSave h a v y := by
    unfold y
    split
    · exact modNand_inSave hx
    · exact modNand_inSave (modDie_inSave (hx.of_eq rfl rfl rfl rfl))
  have hz : InSave h a v z := modDie_inSave hy
  refine spareCheck_inSave ?_
  split
  · exact unplace_inSave hz
  · exact hz

theorem retireFailed_inSave (hs : InSave h a v s) : InSave h a v (retireFailed s) := by
  unfold retireFailed
  extract_lets l
  refine foldl_inSave (fun s k hs => ?_) l ?_
  · exact retireBlock_inSave hs
  · exact hs.of_eq rfl rfl rfl rfl

theorem leaveSaving_inSave {n : Nat} (hs : InSave h a v s) : InSave h a v (leaveSaving n s) := by
  unfold leaveSaving
  extract_lets x
  have hx : InSave h a v x := retireFailed_inSave (logCaptures_inSave hs)
  clear_value x
  exact hx.of_eq rfl rfl rfl rfl

theorem leaveSaving_ends (n : Nat) (s : State) : (leaveSaving n s).sav.outcome = n ∧ (leaveSaving n s).sav.run = none :=
  ⟨rfl, rfl⟩

theorem modHalf_absence (k : Half) (f : HalfData → HalfData) (s : State) :
    (modHalf k f s).sav.absenceSinceFence = s.sav.absenceSinceFence := by
  have g := noteReadyAny_frame s (putHalf k f s)
  have q : (noteReadyAny s (putHalf k f s)).sav = (putHalf k f s).sav := by simp only [g]
  rw [modHalf, q]
  cases k
  · rfl
  · rfl

theorem modHalf_inSave {k : Half} {f : HalfData → HalfData} (hs : InSave h a v s) : InSave h a v (modHalf k f s) := by
  have q := @modHalf_frame
  refine hs.of_eq ?_ ?_ (modHalf_absence ..) ?_ <;> simp only [q]

theorem raiseAddr_inSave {c : FClass} {addr mstr access : Nat} (hs : InSave h a v s) : InSave h a v (raiseAddr c addr mstr access s) :=
  raiseAt_inSave hs

theorem noteRetire_inSave {k : Nat} (hs : InSave h a v s) : InSave h a v (noteRetire k s) := by
  unfold noteRetire
  split
  · exact hs
  · exact hs

theorem countWritten_inSave {n : Nat} (hs : InSave h a v s) : InSave h a v (countWritten n s) := by
  unfold countWritten
  extract_lets x
  have hx : InSave h a v x := hs
  split
  · split
    · exact hx
    · exact hx
  · exact hx

theorem halfProgramEnd_inSave {p : Bool} (hs : InSave h a v s) : InSave h a v (halfProgramEnd p s) := by
  unfold halfProgramEnd
  split
  · exact hs
  · next r _ =>
    split
    · dsimp only
      split
      · unfold halfFull
        split
        · exact modRun_inSave hs
        · dsimp only
          split
          · exact modRun_inSave (modRun_inSave hs)
          · exact raiseAt_inSave (modRun_inSave (modRun_inSave hs))
      · split
        · exact countWritten_inSave (modRun_inSave (modHalf_inSave (modNand_inSave (modDie_inSave (eraseAheadOf_inSave hs)))))
        · exact raiseAt_inSave (noteRetire_inSave (modRun_inSave (modNand_inSave (modDie_inSave (eraseAheadOf_inSave hs)))))
    · exact hs

theorem stopUnsealed_outcome (s : State) : (stopUnsealed s).sav.outcome = 1 := by
  rw [stopUnsealed, (leaveSaving_ends 1 _).1]

theorem stopUnsealed_inSave (hs : InSave h a v s) : InSave h a v (stopUnsealed s) := by
  unfold stopUnsealed endIssued
  refine leaveSaving_inSave ?_
  split
  · exact hs
  · next r _ =>
    refine foldl_inSave (fun s _ hs => ?_) _ hs
    split
    · exact halfProgramEnd_inSave hs
    · exact hs

/-! ### The states after SAVING -/

theorem inSave_self (hs : s.dev.state = .saving) : InSave s.hst.rest s.sav.absenceSinceFence s.nrg.p12vValid s :=
  ⟨hs, rfl, rfl, rfl⟩

theorem enterOff_ends (cause : Nat) (s : State) : (enterOff cause s).dev.state = .off ∧ (enterOff cause s).dev.prev = s.dev.state ∧
    (enterOff cause s).dev.entryCause = cause ∧ (enterOff cause s).plk.outAbandon = s.plk.outAbandon ∧
    (enterOff cause s).sav.outcome = s.sav.outcome := by
  unfold enterOff
  extract_lets x
  generalize hy : { x with nrg := { x.nrg with path := .aux }, sav := { x.sav with phase := .idle } } = y
  have f := transition_frame .off cause y
  have hk : (transition .off cause y).plk = y.plk := by simp only [f]
  have hv : (transition .off cause y).sav = y.sav := by simp only [f]
  rw [transition_dev, hk, hv, ← hy]
  exact ⟨rfl, rfl, rfl, rfl, rfl⟩

theorem exhausted_ends (hs : s.dev.state = .saving) : (exhausted s).dev.state = .off ∧ (exhausted s).dev.prev = .saving ∧
    (exhausted s).dev.entryCause = 0x11 ∧ (exhausted s).plk.outAbandon = true ∧ (exhausted s).sav.outcome = 1 := by
  have hu := stopUnsealed_inSave (inSave_self hs)
  have hx : exhausted s = enterOff 0x11 (giveAbandon (stopUnsealed s)) := if_pos hs
  have ho := stopUnsealed_outcome s
  rw [hx]
  generalize stopUnsealed s = u at hu ho
  obtain ⟨hd, hp, hc, hk, hou⟩ := enterOff_ends 0x11 (giveAbandon u)
  exact ⟨hd, hp.trans hu.1, hc, hk, hou.trans ho⟩

theorem transition_rest (new : OpState) (cause : Nat) (s : State) : (transition new cause s).hst.rest = s.hst.rest := by
  unfold transition
  refine (event_rest ..).trans ?_
  have f := @logCore_frame
  simp only [f]
  split
  · rfl
  · rfl

/-- With P12V not lost since the Fence, or not back, the part stays in SAVED. -/
theorem enterSaved_stays (cause : Nat) (hb : s.sav.absenceSinceFence = false ∨ s.nrg.p12vValid = false) :
    (enterSaved cause s).dev.state = .saved ∧ (enterSaved cause s).dev.prev = s.dev.state ∧
      (enterSaved cause s).dev.entryCause = cause ∧ (enterSaved cause s).sav.outcome = s.sav.outcome ∧
      (enterSaved cause s).sav.run = s.sav.run ∧ (enterSaved cause s).hst.rest = s.hst.rest := by
  unfold enterSaved
  dsimp only
  generalize hy : { railsOff s with nrg := { (railsOff s).nrg with path := .aux }, sav := { (railsOff s).sav with phase := .idle } } = y
  have f := transition_frame .saved cause y
  have hn : (transition .saved cause y).nrg = y.nrg := by simp only [f]
  have hv : (transition .saved cause y).sav = y.sav := by simp only [f]
  have hz : ¬ bootsAtOnce (transition .saved cause y) = true := by
    rw [bootsAtOnce, hn, hv, ← hy]
    obtain h | h := hb
    · simp [railsOff, h]
    · simp [railsOff, h]
  rw [if_neg hz, hv, transition_dev, transition_rest, ← hy]
  exact ⟨rfl, rfl, rfl, rfl, rfl, rfl⟩

theorem keeperStops_ends (hs : s.dev.state = .saving) (ha : s.sav.absenceSinceFence = false) :
    (keeperStops s).dev.state = .saved ∧ (keeperStops s).dev.prev = .saving ∧ (keeperStops s).dev.entryCause = 0x12 ∧
      (keeperStops s).sav.outcome = 1 := by
  have hu := stopUnsealed_inSave (inSave_self hs)
  have ho := stopUnsealed_outcome s
  have hx : keeperStops s = enterSaved 0x12 (stopUnsealed s) := if_pos hs
  rw [hx]
  generalize stopUnsealed s = u at hu ho
  obtain ⟨hd, hp, hc, hou, -⟩ := enterSaved_stays (s := u) 0x12 (.inl (hu.2.2.1.trans ha))
  exact ⟨hd, hp.trans hu.1, hc, hou.trans ho⟩

/-- A Seal that passes without the supplies: the part is in SAVED, its shutdown clean. -/
theorem sealPassed_ends (r : SaveRun) (hs : s.dev.state = .saving) (hv : s.nrg.p12vValid = false) :
    (sealPassed r s).dev.state = .saved ∧ (sealPassed r s).dev.prev = .saving ∧ (sealPassed r s).dev.entryCause = 0x0B ∧
      (sealPassed r s).hst.shutdownDirty = false ∧ (sealPassed r s).sav.outcome = 0 ∧ (sealPassed r s).sav.run = none := by
  unfold sealPassed
  extract_lets k x y h v z w
  have hx : x.dev = s.dev ∧ x.nrg = s.nrg := by
    have f₁ := @modRec_frame
    have f₂ := @programArea_frame
    have f₃ := @programList_frame
    simp only [x, f₁, f₂, f₃]
    exact ⟨trivial, trivial⟩
  have hy : y.dev = s.dev ∧ y.nrg = s.nrg := by
    have f := @modHalf_frame
    unfold y
    split
    · simp only [f]
      exact hx
    · exact hx
  obtain ⟨hyd, hyn⟩ := hy
  have hz : InSave z.hst.rest z.sav.absenceSinceFence z.nrg.p12vValid z := inSave_self ((congrArg Dev.state hyd).trans hs)
  have hw : InSave z.hst.rest z.sav.absenceSinceFence z.nrg.p12vValid w := leaveSaving_inSave hz
  have hwv : w.nrg.p12vValid = false := hw.2.2.2.trans ((congrArg Nrg.p12vValid hyn).trans hv)
  obtain ⟨ho, hr⟩ : w.sav.outcome = 0 ∧ w.sav.run = none := leaveSaving_ends 0 z
  have hn : ¬ warmReturns w = true := by simp [warmReturns, hwv]
  have hdirty : w.hst.rest.shutdownDirty = false := congrArg Hst.shutdownDirty hw.2.1
  clear_value w
  rw [if_neg hn]
  obtain ⟨h₁, h₂, h₃, h₄, h₅, h₆⟩ := enterSaved_stays (s := w) 0x0B (.inr hwv)
  exact ⟨h₁, h₂.trans hw.1, h₃, (congrArg Hst.shutdownDirty h₆ :).trans hdirty, h₄.trans ho, h₅.trans hr⟩

theorem saveSealDone_passed {r : SaveRun} (hs : s.dev.state = .saving) (hp : s.sav.phase = .tiles) (hr : s.sav.run = some r)
    (hd : sealDue s r = true) : exec (.saveSealDone true) s = .next (resumeRebuild (sealPassed r s)) := by
  show execSaveSealDone true s = _
  unfold execSaveSealDone
  rw [if_pos (by simp [hs, hp]), hr]
  dsimp only
  rw [if_pos hd, if_pos rfl]

theorem resumeRebuild_of_not_warm (h : s.dev.state ≠ .warmReturn) : resumeRebuild s = s := if_neg (by simp [h])

/-! ### Warm Return and the halves -/

theorem openService_svc (cause : Nat) (ha : s.dev.heldAbandon = false) (hr : s.dev.heldReplace = false)
    (hh : s.dev.heldHarbour = false) : (openService cause s).svc = s.svc := by
  have f₁ := @replaceItem_frame
  have f₂ := @takeCheckpoint_frame
  have f₃ := @eraseOldArea_frame
  have f₄ := @eraseReleased_frame
  have f₅ := @reeval_frame
  have f₆ := @transition_frame
  unfold openService
  simp only [f₁, f₂, f₃, f₄, State.ite_svc, ite_self]
  unfold enterService
  extract_lets s₁ h l r s₂
  have h₂ : s₂.dev = { s.dev with state := .service, prev := s.dev.state, entryCause := cause } := transition_dev _ _ _
  obtain ⟨a, hd⟩ := reeval_dev s₂
  rw [h₂] at hd
  have hn : takeHeld (reeval s₂) = reeval s₂ := takeHeld_of_none (by rw [hd]; exact ha) (by rw [hd]; exact hr) (by rw [hd]; exact hh)
  rw [hn]
  simp only [f₅, s₂, s₁, f₆]

theorem releaseHalf_port {r : SaveRecord} (hs : evaluates s.dev.state = true) (hr : s.sav.port.rec_ = some r) :
    (releaseHalf .port s).sav = { s.sav with port := { s.sav.port with st := .erasing } } := by
  have f := @programItem_frame
  have g := @noteReadyAny_frame
  have he : halfAt s .port = s.sav.port := rfl
  unfold releaseHalf
  rw [he, hr]
  dsimp only
  rw [modHalf]
  simp only [g, putHalf, f, hs]
  rfl

/-- The release of the half that a Warm Return sealed. -/
theorem releaseWarm_port {r : SaveRecord} (hs : evaluates s.dev.state = true) (hw : s.sav.warmHalves = [.port])
    (hr : s.sav.port.rec_ = some r) :
    (releaseWarm s).sav = { s.sav with warmHalves := [], port := { s.sav.port with st := .erasing } } ∧
      (releaseWarm s).dram = s.dram ∧ (releaseWarm s).dev = s.dev := by
  have f := @releaseHalf_frame
  have hx : releaseWarm s = releaseHalf .port { s with sav := { s.sav with warmHalves := [] } } := by
    rw [releaseWarm, hw]
    rfl
  rw [hx]
  refine ⟨releaseHalf_port (s := { s with sav := { s.sav with warmHalves := [] } }) hs hr, ?_⟩
  simp only [f]
  exact ⟨trivial, trivial⟩

/-- Settles O31: `InSave` carries what a fault in SAVING leaves; the returns to SERVICE follow `openService_of_none`. -/
theorem saveEndsAndWarmReturn : Obligations.SaveEndsAndWarmReturn := by
  refine ⟨fun s hs => ⟨fun hp => ?_, fun hp hr => ?_, fun a ha => ?_, fun r hph hr hd hv ha => ?_⟩,
    fun s => ⟨fun hs hw hp ha hr hh => ?_, fun ho hs => ?_, fun ho hs hw hr => ?_, fun hs hp => ?_⟩⟩
  · have hx : exec .packExhausted s = .next (exhausted s) := if_pos hp
    exact ⟨_, hx, exhausted_ends hs⟩
  · obtain ⟨hd, hv, hc, hk, -⟩ := exhausted_ends hs
    have hx : exec .vbusLowTimeout s = .next (exhausted s) := if_pos (by simp [hp, hr])
    exact ⟨_, hx, hd, hv, hc, hk⟩
  · cases a
    · exact ⟨_, rfl, keeperStops_ends (s := { s with ecc := { s.ecc with demandUe := satInc 0xFFFF s.ecc.demandUe } }) hs ha⟩
    · exact ⟨_, rfl, keeperStops_ends (s := { s with att := { s.att with ue := satInc 0xFFFF s.att.ue } }) hs ha⟩
  · obtain ⟨h₁, h₂, h₃, h₄, h₅, h₆⟩ := sealPassed_ends r hs hv
    have hx := saveSealDone_passed hs hph hr hd
    rw [resumeRebuild_of_not_warm (by rw [h₁]; decide)] at hx
    exact ⟨_, hx, h₁, h₂, h₃, h₄, h₅, h₆⟩
  · obtain ⟨h₁, h₂, h₃, h₄⟩ := openService_of_none 0x0D ha hr hh
    have f := openService_frame 0x0D s
    have hn : resumeHandover (openService 0x0D s) = openService 0x0D s := if_neg (by rw [openService_svc 0x0D ha hr hh]; exact hp)
    have hx : exec .warmReturnComplete s = .next (resumeHandover (openService 0x0D s)) := if_pos (by simp [hs, hw])
    rw [hn] at hx
    refine ⟨_, hx, h₁, h₂.trans hs, h₃, h₄, ?_⟩
    simp only [f]
  · exact if_pos (by simp [ho, hs, evaluates])
  · have hx : exec .serviceOpenProgrammed s = _ := if_pos (by simp [ho, hs, evaluates])
    obtain ⟨r, hr⟩ := Option.ne_none_iff_exists'.mp hr
    have f := @programItem_frame
    let o : OpenRec := { openId := s.sav.openId + 1, lastSaveId := newestSaveId s, time := s.almanac }
    obtain ⟨hsav, hdram, hdev⟩ := releaseWarm_port (s := programItem 4 0 (.opened o) 0 1 { s with
      sav := { s.sav with openId := s.sav.openId + 1, openPending := false, opened := true }, cel := { s.cel with opens := o :: s.cel.opens } })
      (r := r) (by simp [f, hs, evaluates]) (by simp only [f, hw]) (by simp only [f, hr])
    refine ⟨_, hx, ?_⟩
    dsimp only
    rw [hsav, hdram, hdev]
    simp only [f]
    exact ⟨trivial, trivial, trivial, trivial, trivial, trivial, trivial⟩
  · have hx : exec (.halfEraseDone .port) s = _ := if_pos (by simp [hs, hp, evaluates, halfAt])
    have f := @modHalf_frame
    have g := @noteReadyAny_frame
    refine ⟨_, hx, ?_⟩
    simp only [f]
    simp only [modHalf, g, putHalf]
    exact ⟨trivial, trivial, rfl, trivial, trivial⟩

end Sys2Proof.Machine
end

section
/-! Resynchronisation, handover and drill (12_partner_mirroring R461 to R471). -/

namespace Sys2Proof.Machine

variable {s t u : State} {k : Nat}

theorem modSet_congr {f g : MirrorSet → MirrorSet} (h : f (setAt s k) = g (setAt s k)) : modSet k f s = modSet k g s :=
  congrArg (fun x => { s with plk := { s.plk with sets := x } }) (vmod_congr h)

theorem modSet_fixed {f : MirrorSet → MirrorSet} (h : f (setAt s k) = setAt s k) : modSet k f s = s := by
  have he : modSet k f s = modSet k (fun m => m) s := modSet_congr h
  rw [he]
  unfold modSet vmod
  split
  · rw [Vector.set_getElem_self]
  · rfl

/-- The resynchronisation with an empty list of differences takes the next tile. -/
theorem resyncTileCopy_next {x : Nat} {r : List Nat} (ha : plkActs s = true) (hc : s.plk.contact = true)
    (hk : k < s.plan.partner.sets) (ht : takesPartner s = true) (hs : (setAt s k).st = .activeSync)
    (hn : (setAt s k).copying = none) (hd : (setAt s k).diffs = []) (hr : (setAt s k).resync = x :: r)
    (hg : (setAt s k).digestSent = []) (hv : s.plk.rev = 1) : exec (.resyncTileCopy k []) s = .next (watchTile k x s) := by
  have hm : modSet k (fun m => { m with digestSent := m.digestSent.filter fun t => !([] : List Nat).contains t }) s = s := by
    have h : ∀ m : MirrorSet, m.digestSent = [] →
        { m with digestSent := m.digestSent.filter fun t => !([] : List Nat).contains t } = m := by
      rintro ⟨⟩ rfl
      rfl
    exact modSet_fixed (h _ hg)
  show execResyncTileCopy k [] s = _
  unfold execResyncTileCopy
  rw [if_pos (by simp [ha, hc, hk, ht, hs])]
  dsimp only
  rw [hm, hn, hd, hr]
  dsimp only
  rw [if_neg (by rw [hv]; decide)]

/-- Settles O40: each command at its set, by its arm; what a message leaves of the set by `modSet_congr`. -/
theorem partnerResyncAndHandover : Obligations.PartnerResyncAndHandover := by
  refine fun s k ha hc hk h4 => ⟨fun t r ht hs hn hd hr hg hv => ⟨fun hp => ?_, fun hp => ?_⟩,
    fun t d ht hs hst => ⟨fun hp => ?_, fun hp => ?_⟩, fun t ht hd => ?_, fun t ht hs => ?_, fun e last hs hy => ?_,
    fun e hs h3 hd => ?_, fun hp hb hh hs hsv hr hn => ?_, fun hs hn hd => ?_, fun hs => ?_, fun d hd hp hs hab => ?_⟩
  · rw [resyncTileCopy_next ha hc hk ht hs hn hd hr hg hv, watchTile, hp]
    rfl
  · rw [resyncTileCopy_next ha hc hk ht hs hn hd hr hg hv, watchTile, hp]
    rfl
  · show execDigestMessage t d s = _
    have hx : takesPartner s = true := by simp [takesPartner, hs]
    unfold execDigestMessage
    rw [ht]
    dsimp only
    rw [if_pos (by simp [ha, hc, hx, hst]), hp, if_neg (by decide)]
    split
    · rfl
    · rfl
  · show execDigestMessage t d s = _
    have hx : takesPartner s = true := by simp [takesPartner, hs]
    unfold execDigestMessage
    rw [ht]
    dsimp only
    rw [if_pos (by simp [ha, hc, hx, hst]), hp, if_pos (by decide)]
  · show execDiffMessage t s = _
    unfold execDiffMessage
    rw [ht]
    dsimp only
    rw [if_pos (by simp [ha, hc, hd])]
    exact congrArg Host.Outcome.next (modSet_congr (by simp [hd]))
  · show execHandoverBoundary k s = _
    have hs' : (setAt (advanceTo t s) k).st = .active := (congrArg MirrorSet.st (setAt_advanceTo t s k)).trans hs
    have hc' : (advanceTo t s).plk.contact = true := by simp only [advanceTo_frame t s, hc]
    unfold execHandoverBoundary
    rw [ht]
    dsimp only
    rw [if_pos (by simp [ha, hk]), hs', hc']
    rfl
  · show execHandoverMessage k e last s = _
    unfold execHandoverMessage
    rw [if_pos (by simp [ha, hc, hk, hs])]
    dsimp only
    rw [hy, if_neg Bool.false_ne_true]
    exact congrArg (fun x => Host.Outcome.next (roleSteps k x)) (modSet_congr (by simp [hy]))
  · show execTakenMessage k e s = _
    unfold execTakenMessage
    dsimp only
    rw [if_pos (by simp [ha, hc, hk, hs, h3]), hd]
  · exact if_pos (by simp [ha, hc, hk, hp, hb, hh, hs, hsv, hr, hn])
  · exact if_pos (by simp [ha, hc, hk, hs, hn, hd])
  · show execDrillMessage k 1 0 s = _
    unfold execDrillMessage
    dsimp only
    rw [if_pos (by simp [ha, hc, hk]), if_pos ⟨rfl, rfl, hs⟩]
  · show execDrillPhaseEnd k s = _
    unfold execDrillPhaseEnd
    rw [hd]
    dsimp only
    rw [if_pos hp, if_pos (by simp [hs, hab])]

end Sys2Proof.Machine
end

section
/-! Training and calibration of the subchannels (04_dram R125 to R146). -/

namespace Sys2Proof.Machine

variable {s t u : State} {sc : Nat}

theorem subchAt_modSubch (h : sc < 16) (f : Subch → Subch) (s : State) : subchAt (modSubch sc f s) sc = f (subchAt s sc) :=
  (vget_vmod _ _ _ _ _ h).trans (if_pos rfl)

theorem subchAt_modSubch_ne {k : Nat} (h : sc < 16) (hk : k ≠ sc) (f : Subch → Subch) (s : State) :
    subchAt (modSubch sc f s) k = subchAt s k :=
  (vget_vmod _ _ _ _ _ h).trans (if_neg hk)

theorem modSubch_congr {f g : Subch → Subch} (h : f (subchAt s sc) = g (subchAt s sc)) : modSubch sc f s = modSubch sc g s :=
  congrArg (fun x => { s with drc := { s.drc with subch := x } }) (vmod_congr h)

theorem subchAt_advanceTo (x : Nat) (s : State) (k : Nat) : subchAt (advanceTo x s) k = subchAt s k := by
  have f := advanceTo_frame x s
  simp only [subchAt, f]

theorem calRuns_of (hp : poweredState s.dev.state = true) (hr : (subchAt s sc).selfRef = false) (ht : (subchAt s sc).trained = true) :
    calRuns s sc = true := by
  simp [calRuns, hp, hr, ht]

theorem zqCalDue_taken {ok : Bool} (h : calRuns s sc = true) (hc : calTaken s sc 0 = true) : exec (.zqCalDue sc ok) s =
    let z := advanceTo ((subchAt s sc).zqAt + s.drc.zqMs * 1000) s
    .next (calDue sc 0 ⟨ok, 0⟩ (modSubch sc (fun c => { c with zqAt := z.almanac }) z)) :=
  if_pos (by simp [h, hc])

theorem dqsOscDue_taken {b : Byte} {ok : Bool} (h : calRuns s sc = true) (hc : calTaken s sc 1 = true) : exec (.dqsOscDue sc b ok) s =
    let y := advanceTo ((subchAt s sc).dqsAt + s.drc.dqsMs * 1000) s
    .next (calDue sc 1 ⟨ok, b⟩ (modSubch sc (fun c => { c with dqsAt := y.almanac }) y)) :=
  if_pos (by simp [h, hc])

/-- A calibration that may not run now is deferred. -/
theorem calDue_deferred {kind : Nat} {o : CalOutcome} (h : calNow s sc = false) (hd : (subchAt s sc).deferred = []) : calDue sc kind o s =
    modSubch sc (fun c => { c with deferred := [{ kind := kind, since := s.almanac, sinceNs := c.clockNs }] }) s := by
  rw [calDue, h, if_neg Bool.false_ne_true]
  exact modSubch_congr (by simp [hd])

theorem calTaken_of_room {kind : Nat} (h : maintFull s sc = false) : calTaken s sc kind = true := by
  simp [calTaken, h]

/-- A subchannel whose training has passed with record `r`. -/
noncomputable def trainedSubch (r : List Byte) (s : State) (c : Subch) : Subch :=
  let x := sealRecord s.plan.topo r
  { c with trained := true, train := x, trainFine := (x.getD 7 0).toNat, refresh := freshRefresh s c, zqAt := s.almanac,
           dqsAt := s.almanac, mr4At := (List.range (logicalRanks s)).map fun k => (k, s.almanac) }

theorem subchAt_trainPass (sc k : Nat) (r : List Byte) (s : State) :
    subchAt (trainPass sc r s) k = subchAt (modSubch sc (trainedSubch r s) s) k := rfl

theorem trainPass_subchAt (h : sc < 16) (r : List Byte) : (subchAt (trainPass sc r s) sc).trained = true ∧
    (subchAt (trainPass sc r s) sc).train = sealRecord s.plan.topo r ∧
    (subchAt (trainPass sc r s) sc).tries = (subchAt s sc).tries ∧
    ∀ k, k ≠ sc → subchAt (trainPass sc r s) k = subchAt s k := by
  have he : subchAt (trainPass sc r s) sc = trainedSubch r s (subchAt s sc) :=
    (subchAt_trainPass ..).trans (subchAt_modSubch h _ s)
  rw [he]
  exact ⟨rfl, rfl, rfl, fun k hk => (subchAt_trainPass ..).trans (subchAt_modSubch_ne h hk _ s)⟩

theorem alookup_aset_self {β : Type} (l : List (Nat × β)) (k : Nat) (v : β) : alookup (aset l k v) k = some v := by
  simp [alookup, aset]

/-- A reading in a band already known. -/
theorem mr4Read_known {rank band : Nat} (h : calRuns s sc = true) (hk : rank < logicalRanks s)
    (hb : alookup (subchAt s sc).bands rank = some band) : exec (.mr4Read sc rank band false false true) s =
      let z := advanceTo ((alookup (subchAt s sc).mr4At rank).getD 0 + s.drc.mr4Ms * 1000) s
      .next (modSubch sc (fun c => { c with bands := aset c.bands rank band })
        (modSubch sc (fun c => { c with rate2x := c.rate2x.filter (· ≠ rank) })
          (modSubch sc (fun c => { c with mr4At := aset c.mr4At rank z.almanac }) z))) := by
  show execMr4Read sc rank band false false true s = _
  unfold execMr4Read
  rw [if_neg (by simp [h, hk])]
  dsimp only
  rw [hb, if_neg (by simp)]
  simp

/-- Settles O25: the calibrations by `calDue` at the subchannel, training and MR4 by the subchannel's record. -/
theorem trainingAndCalibration : Obligations.TrainingAndCalibration := by
  refine ⟨fun s sc r h hs hv hp ht hf => ⟨?_, fun hn => ?_⟩, fun s sc h hp hr ht => ?_⟩
  · have hx : execTrainingAttemptEnd sc true r s = _ := if_pos (by simp [hs, hv, hp, ht, hf])
    rw [if_pos rfl] at hx
    obtain ⟨h₁, h₂, h₃, h₄⟩ := trainPass_subchAt (s := modSubch sc (fun c => { c with
      tries := c.tries + 1, seedSrc := seedOf s sc (subchAt s sc).tries }) s) h r
    refine ⟨_, hx, h₁, h₂, h₃.trans ?_, fun k hk => (h₄ k hk).trans (subchAt_modSubch_ne h hk _ s), rfl, rfl, rfl, rfl, rfl⟩
    rw [subchAt_modSubch h]
  · have hx : execTrainingAttemptEnd sc false r s = _ := if_pos (by simp [hs, hv, hp, ht, hf])
    refine hx.trans ?_
    rw [if_neg Bool.false_ne_true, if_pos (by omega)]
  · have hc := calRuns_of hp hr ht
    intro z u y v
    have hus : subchAt u sc = { subchAt s sc with zqAt := z.almanac } :=
      (subchAt_modSubch h _ z).trans (congrArg (fun c => { c with zqAt := z.almanac }) (subchAt_advanceTo _ s sc))
    have hvs : subchAt v sc = { subchAt s sc with dqsAt := y.almanac } :=
      (subchAt_modSubch h _ y).trans (congrArg (fun c => { c with dqsAt := y.almanac }) (subchAt_advanceTo _ s sc))
    refine ⟨fun hk hn => ?_, fun hk hn => ?_, fun hm hl hd => ?_, fun b hk hn hw => ?_, fun b hk hn hw => ?_, fun d hd hk => ?_,
      fun rank band hrk hb => ?_⟩
    · refine (zqCalDue_taken hc hk).trans (congrArg Host.Outcome.next ?_)
      show calDue sc 0 ⟨true, 0⟩ u = u
      rw [calDue, if_pos hn]
      rfl
    · refine (zqCalDue_taken hc hk).trans (congrArg Host.Outcome.next ?_)
      show calDue sc 0 ⟨false, 0⟩ u = raise drcCalFail u
      rw [calDue, if_pos hn]
      rfl
    · refine (zqCalDue_taken hc (calTaken_of_room hm)).trans (congrArg Host.Outcome.next ?_)
      refine calDue_deferred (s := u) ?_ ?_
      · simp [calNow, hl]
      · rw [hus]
        exact hd
    · refine (dqsOscDue_taken hc hk).trans (congrArg Host.Outcome.next ?_)
      show calDue sc 1 ⟨true, b⟩ v = gateAdjust sc b v
      have hw' : inWindow (subchAt v sc) b = true := by
        rw [hvs]
        exact hw
      rw [calDue, if_pos hn, runCal, if_neg (by simp), if_pos rfl, if_pos hw']
    · refine (dqsOscDue_taken hc hk).trans (congrArg Host.Outcome.next ?_)
      show calDue sc 1 ⟨true, b⟩ v = raise drcCalFail v
      have hw' : inWindow (subchAt v sc) b = false := by
        rw [hvs]
        exact hw
      rw [calDue, if_pos hn, runCal, if_neg (by simp), if_pos rfl, hw', if_neg Bool.false_ne_true]
      rfl
    · show execCalDeferExpire sc 1 s = _
      have hd' : (subchAt (advanceTo (d.since + s.drc.deferMs * 1000) s) sc).deferred = [d] := by rw [subchAt_advanceTo, hd]
      unfold execCalDeferExpire
      rw [hd, List.find?_cons_of_pos (by simp [hk])]
      dsimp only
      exact congrArg Host.Outcome.next (modSubch_congr (by rw [hd']; simp [hk]))
    · refine ⟨_, mr4Read_known hc hrk hb, rfl, ?_, ?_, ?_, ?_⟩
      · rw [subchAt_modSubch h, subchAt_modSubch h, subchAt_modSubch h, subchAt_advanceTo]
      · rw [subchAt_modSubch h, subchAt_modSubch h, subchAt_modSubch h]
        exact alookup_aset_self _ _ _
      · have f := @advanceTo_frame
        exact (f _ s).2.2.2.2.1
      · have f := @advanceTo_frame
        exact (f _ s).2.1

end Sys2Proof.Machine
end

section
/-! Sessions of the service hatch (18_service_update R606 to R617). A fault of the hatch changes no byte of DRAM and
authenticates no session. -/

namespace Sys2Proof.Machine

variable {s t u : State} {D : Dram}

/-! ### Faults of the hatch -/

/-- DRAM is `D` and no session is authenticated. -/
def NoAuth (D : Dram) (s : State) : Prop := s.dram = D ∧ s.svc.session ≠ .authenticated

theorem NoAuth.of_eq (hs : NoAuth D s) (hd : t.dram = s.dram) (hv : t.svc = s.svc) : NoAuth D t := by
  rw [NoAuth, hd, hv]
  exact hs

theorem ite_noAuth {c : Prop} [Decidable c] {x y : State} (hx : NoAuth D x) (hy : NoAuth D y) : NoAuth D (if c then x else y) := by
  split
  · exact hx
  · exact hy

theorem event_noAuth {code : Nat} {b : Block} {a0 a1 : Nat} (hs : NoAuth D s) : NoAuth D (event code b a0 a1 s) := by
  have f := @event_frame
  refine hs.of_eq ?_ ?_ <;> simp only [f]

theorem notify_noAuth {k : Nat} (hs : NoAuth D s) : NoAuth D (notify k s) := by
  have f := @notify_frame
  refine hs.of_eq ?_ ?_ <;> simp only [f]

theorem transition_noAuth {new : OpState} {cause : Nat} (hs : NoAuth D s) : NoAuth D (transition new cause s) := by
  have f := @transition_frame
  refine hs.of_eq ?_ ?_ <;> simp only [f]

theorem cutStaging_session (s : State) : (cutStaging s).svc.session = s.svc.session := by
  have f := @logCore_frame
  unfold cutStaging
  split
  · simp only [f]
  · rfl

theorem cutStaging_noAuth (hs : NoAuth D s) : NoAuth D (cutStaging s) := by
  have f := @cutStaging_frame
  refine ⟨?_, ?_⟩
  · simp only [f]
    exact hs.1
  · rw [cutStaging_session]
    exact hs.2

theorem closeFence_noAuth {cause : Nat} (hs : NoAuth D s) : NoAuth D (closeFence cause s) := by
  have f := closeFence_frame cause s
  refine ⟨?_, ?_⟩
  · simp only [f]
    exact hs.1
  · have g₁ := @atticFence_frame
    have g₂ := @transition_frame
    have g₃ := @fenceDirty_frame
    have g₄ := @gauFence_frame
    have g₅ := @stopPrecaution_frame
    have g₆ := @plkFence_frame
    have he : (closeFence cause s).svc.session = s.svc.session := by
      unfold closeFence
      simp only [cutStaging_session, g₁, g₂, g₃, g₄, g₅, g₆]
    rw [he]
    exact hs.2

theorem enterHarbour_noAuth {cause : Nat} (hs : NoAuth D s) : NoAuth D (enterHarbour cause s) := by
  have f := @enterHarbour_frame
  refine hs.of_eq ?_ ?_ <;> simp only [f]

theorem logCore_noAuth {type block a0 a1 a2 suite master : Nat} (hs : NoAuth D s) :
    NoAuth D (logCore type block a0 a1 a2 suite master s) := by
  have f := @logCore_frame
  refine hs.of_eq ?_ ?_ <;> simp only [f]

theorem enterBoot_noAuth (hs : NoAuth D s) : NoAuth D (enterBoot s) := by
  unfold enterBoot
  dsimp only
  exact logCore_noAuth (transition_noAuth ⟨hs.1, Session.noConfusion⟩)

theorem enterSaved_noAuth {cause : Nat} (hs : NoAuth D s) : NoAuth D (enterSaved cause s) := by
  unfold enterSaved
  dsimp only
  have h : NoAuth D (transition .saved cause { railsOff s with
    nrg := { (railsOff s).nrg with path := .aux }, sav := { (railsOff s).sav with phase := .idle } }) := transition_noAuth hs
  exact ite_noAuth (enterBoot_noAuth h) h

theorem enterOff_noAuth {cause : Nat} (hs : NoAuth D s) : NoAuth D (enterOff cause s) := transition_noAuth hs

theorem fenceTrigger_noAuth {cause : Nat} (hs : NoAuth D s) : NoAuth D (fenceTrigger cause s) := by
  unfold fenceTrigger
  split
  · exact closeFence_noAuth hs
  · exact closeFence_noAuth hs
  · exact closeFence_noAuth hs
  · exact ite_noAuth hs (closeFence_noAuth hs)
  · exact enterSaved_noAuth hs
  · exact ite_noAuth (enterOff_noAuth hs) (ite_noAuth (enterSaved_noAuth hs) hs)
  · exact hs
  · exact hs
  · exact hs
  · exact hs
  · exact hs

theorem abandon_noAuth (hs : NoAuth D s) : NoAuth D (abandon s) := by
  unfold abandon
  split
  · exact hs
  · exact hs
  · exact hs
  · exact hs
  · exact hs
  · exact hs
  · exact fenceTrigger_noAuth hs

theorem harbourAction_noAuth (hs : NoAuth D s) : NoAuth D (harbourAction s) := by
  unfold harbourAction
  split
  · exact enterHarbour_noAuth hs
  · exact hs
  · exact hs
  · exact hs
  · exact hs
  · exact hs

/-- A reset of the hatch or of the Log. -/
theorem blockReset_noAuth {b : Block} (hb : b = .svc ∨ b = .log) (hs : NoAuth D s) : NoAuth D (blockReset b s) := by
  have f := @quarantine_frame
  unfold blockReset
  split
  · exact hs
  · next n _ =>
    have hq : NoAuth D (quarantine (resetGroup b) n s) := by refine hs.of_eq ?_ ?_ <;> simp only [f]
    obtain rfl | rfl := hb
    · have hc := cutStaging_noAuth hq
      exact ⟨hc.1, Session.noConfusion⟩
    · exact hq

theorem levelAction_noAuth {b : Block} {level : Nat} (hb : b = .svc ∨ b = .log) (hs : NoAuth D s) :
    NoAuth D (levelAction b level s) := by
  unfold levelAction
  extract_lets x
  have hx : NoAuth D x := ite_noAuth hs (notify_noAuth hs)
  exact ite_noAuth (ite_noAuth (fenceTrigger_noAuth hx) hx) (ite_noAuth (blockReset_noAuth hb hx)
    (ite_noAuth (harbourAction_noAuth hx) (ite_noAuth (abandon_noAuth hx) hx)))

theorem raiseCore_noAuth {c : FClass} {addr mstr access entry : Nat} (hb : c.blk = .svc ∨ c.blk = .log) (hs : NoAuth D s) :
    NoAuth D (raiseCore c addr mstr access entry s) := by
  unfold raiseCore
  refine ite_noAuth hs ?_
  unfold raiseNow escalate
  extract_lets low old x y z w
  have hy : NoAuth D y := ite_noAuth hs hs
  have hw : NoAuth D w := by
    unfold w
    refine ite_noAuth ?_ hy
    unfold stopAuto
    exact ite_noAuth ⟨hy.1, hy.2⟩ hy
  exact ite_noAuth (levelAction_noAuth hb (event_noAuth hw)) hw

theorem raise_noAuth {c : FClass} (hb : c.blk = .svc ∨ c.blk = .log) (hs : NoAuth D s) : NoAuth D (raise c s) := by
  have hc : NoAuth D (raiseCore c 0 mNone 0 1 s) := raiseCore_noAuth hb hs
  exact ite_noAuth (raiseCore_noAuth (.inr rfl) hc) hc

/-! ### Frames and answers -/

theorem endSession_idle (hp : s.svc.phase ≠ 1) : endSession s = { s with svc := { s.svc with
    session := .none, roles := 0, key := 7, sessionKey := [], lastSeq := none, lastResp := [], sessionFails := 0,
    badVersion := false, owed := none } } := by
  have h : dropPackage s = s := if_neg hp
  rw [endSession, h]

theorem endSession_advanceTo (x : Nat) (s : State) (hp : s.svc.phase ≠ 1) :
    (endSession (advanceTo x s)).svc.session = .none ∧ (endSession (advanceTo x s)).svc.pres = s.svc.pres ∧
      (endSession (advanceTo x s)).dram = s.dram ∧ (endSession (advanceTo x s)).stations = s.stations ∧
      (endSession (advanceTo x s)).out = s.out := by
  have hv : (advanceTo x s).svc.phase = s.svc.phase ∧ (advanceTo x s).svc.pres = s.svc.pres := by
    unfold advanceTo
    dsimp only
    split
    · split
      · exact ⟨rfl, rfl⟩
      · exact ⟨rfl, rfl⟩
    · exact ⟨rfl, rfl⟩
  have f := advanceTo_frame x s
  rw [endSession_idle (by rw [hv.1]; exact hp)]
  simp only [f, hv.2]
  exact ⟨trivial, trivial, trivial, trivial, trivial⟩

/-- The hatch present, as at the start of every frame. -/
noncomputable def hatchPresent (s : State) : State := { s with svc := { s.svc with pres := true } }

/-- An open command outside an authenticated session runs on the hatch that is present. -/
theorem svcFrame_open {type seq : Nat} {f : State → SvcAns} (hh : hatchServed s = true) (ho : s.svc.owed = none)
    (hn : s.svc.session ≠ .authenticated) (hb : ¬ (s.svc.badVersion = true ∧ type ≠ 0x01)) (ht : openCommand type = true) :
    svcFrame type seq f s = answer (hatchPresent s).svc type seq (f (hatchPresent s)) := by
  unfold svcFrame svcFrameOpt
  rw [if_neg (by simp [hh, ho])]
  dsimp only
  rw [if_neg (fun h => hn h.1), if_neg (fun h => hn h.1), if_neg hb, if_neg (by simp [ht])]
  rfl

/-- An answer without a session key carries no MAC. -/
theorem answer_open {before : Svc} {type seq : Nat} {a : SvcAns} (hb : before.session ≠ .authenticated)
    (ha : a.2.2.2.svc.session ≠ .authenticated) : answer before type seq a = { a.2.2.2 with
      svc := { a.2.2.2.svc with lastSeq := some (seq % 65536), lastResp := svcPayload a.1 a.2.1 a.2.2.1, progress := none,
                                lastCmdAt := a.2.2.2.almanac },
      out := .service type seq (svcPayload a.1 a.2.1 a.2.2.1) [] :: a.2.2.2.out } := by
  unfold answer sendResponse
  dsimp only
  rw [if_neg ha, if_neg (fun h => hb h.1)]
  rfl

theorem answer_kept (before : Svc) (type seq : Nat) (a : SvcAns) : (answer before type seq a).dram = a.2.2.2.dram ∧
    (answer before type seq a).stations = a.2.2.2.stations ∧ (answer before type seq a).svc.session = a.2.2.2.svc.session ∧
    (answer before type seq a).svc.roles = a.2.2.2.svc.roles ∧
    (answer before type seq a).svc.sessionFails = a.2.2.2.svc.sessionFails :=
  ⟨rfl, rfl, rfl, rfl, rfl⟩

theorem length_padTo (n : Nat) (l : List Byte) : (padTo n l).length = n := by
  simp only [padTo, List.length_take, List.length_append, List.length_replicate]
  omega

theorem dropPackage_noAuth (hs : NoAuth D s) : NoAuth D (dropPackage s) := by
  unfold dropPackage setPhase logRecord
  refine ite_noAuth (ite_noAuth ⟨hs.1, hs.2⟩ ?_) hs
  dsimp only
  have hc : ∀ type block a0 a1 a2 suite master x, NoAuth D x → NoAuth D (noteDrops x (logCore type block a0 a1 a2 suite master x)) :=
    fun _ _ _ _ _ _ _ x hx => ite_noAuth (raiseCore_noAuth (.inr rfl) (logCore_noAuth hx)) (logCore_noAuth hx)
  exact hc _ _ _ _ _ _ _ _ ⟨hs.1, hs.2⟩

/-- A wrong signature authenticates nothing and leaves DRAM. -/
theorem authFails_noAuth {status : Nat} (hs : NoAuth D s) : NoAuth D (authFails status s).2.2.2 := by
  unfold authFails svcStat
  extract_lets v fails x locks y l
  have hx : NoAuth D x := raise_noAuth (.inl rfl) ⟨hs.1, hs.2⟩
  have hy : NoAuth D y := by
    unfold y
    refine ite_noAuth ?_ hx
    exact ⟨(dropPackage_noAuth hx).1, Session.noConfusion⟩
  exact ⟨hy.1, hy.2⟩

/-- A HELLO of the major version in force. -/
theorem helloCmd_open {input : List Byte} (hp : s.svc.phase ≠ 1) (hl : input.length = 4) (hv : num input 2 2 = 1) :
    ∃ out, helloCmd input s = (0, 0, out, { s with free := s.free + 1, svc := { s.svc with
      session := .open_, roles := 0, key := 7, sessionKey := [], lastSeq := none, lastResp := [], sessionFails := 0,
      badVersion := false, owed := none, nonce := padTo 32 (Config.random32 s.free),
      ephemeral := padTo 64 (Config.ephemeralKey s.free) } }) := by
  unfold helloCmd wellInput
  rw [hl, hv, if_pos (by decide)]
  dsimp only
  rw [endSession_idle hp]
  dsimp only
  rw [if_neg (by simp)]
  exact ⟨_, rfl⟩

theorem helloCmd_version {input : List Byte} (hp : s.svc.phase ≠ 1) (hl : input.length = 4) (hv : num input 2 2 ≠ 1) :
    ∃ v, helloCmd input s = (0x08, 0, [], { s with svc := v }) ∧ v.session = .open_ := by
  unfold helloCmd wellInput
  rw [hl, if_pos (by decide)]
  dsimp only
  rw [endSession_idle hp]
  dsimp only
  rw [if_pos hv]
  exact ⟨_, rfl, rfl⟩

/-- What the tool signs to authenticate. -/
noncomputable def rootMessage (s : State) (input : List Byte) : List Byte :=
  [0x48, 0x53, 0x56, 0x43] ++ s.svc.nonce ++ s.svc.ephemeral ++ (input.drop 64).take 64 ++ [BitVec.ofNat 8 (num input 128 1)] ++
    unitIdentity s

/-- AUTH with the root key: its signature alone decides. -/
theorem authCmd_root {input : List Byte} (hn : notSaving s = true) (hs : s.svc.session ≠ .none) (hl : input.length = 193)
    (hu : s.svc.lockedUntil = none) (hk : Config.sha256 (input.take 64) = s.fuses.rootHash) (hr : num input 128 1 < 16) :
    authCmd input s = if Config.ecdsaVerify (input.take 64) (Config.sha256 (rootMessage s input)) (input.drop 129) = true then
      svcStat 0 { s with svc := { s.svc with
        session := .authenticated, roles := BitVec.ofNat 4 (num input 128 1), key := 0, sessionFails := 0, locks := 0,
        sessionKey := Config.sessionKey s.svc.ephemeral ((input.drop 64).take 64) s.svc.nonce } }
      else authFails 0x06 s := by
  have ht : toolKey s (Config.sha256 (input.take 64)) = some (0, 15) := if_pos hk
  have hand : num input 128 1 &&& 15 = num input 128 1 :=
    (Nat.and_two_pow_sub_one_eq_mod _ 4).trans (Nat.mod_eq_of_lt hr)
  unfold authCmd inStates wellInput
  rw [if_pos (by simp [hn, hs])]
  dsimp only
  rw [if_pos (by simp [hl])]
  rw [if_neg (by simp [hu])]
  rw [ht]
  dsimp only
  rw [hand, if_neg (by simp)]
  unfold rootMessage
  cases Config.ecdsaVerify (input.take 64) (Config.sha256 ([0x48, 0x53, 0x56, 0x43] ++ s.svc.nonce ++ s.svc.ephemeral ++
    (input.drop 64).take 64 ++ [BitVec.ofNat 8 (num input 128 1)] ++ unitIdentity s)) (input.drop 129)
  · rfl
  · rfl

/-- Settles O48: `svcFrame_open` for the frames, `authFails_noAuth` for a wrong signature. -/
theorem serviceSessions : Obligations.ServiceSessions := by
  refine fun s hh => ⟨fun seq input hs ho hp hl hv => ?_, fun seq input hs ho hp hl hv => ?_,
    fun seq input hs ho hb hn hl hu hk hr => ?_, fun seq hs ho hb hp => ?_, fun seq hs ho hb => ?_, fun hp hph => ?_, fun hs hp => ?_,
    fun t ht => ?_, congrArg Host.Outcome.next (if_pos hh), congrArg Host.Outcome.next (if_pos hh)⟩
  · have hx : exec (.svcHello seq input) s = .next (answer (hatchPresent s).svc 0x01 seq (helloCmd input (hatchPresent s))) :=
      congrArg Host.Outcome.next (svcFrame_open hh ho (by simp [hs]) (by simp) rfl)
    obtain ⟨out, he⟩ := helloCmd_open (s := hatchPresent s) hp hl hv
    rw [he, answer_open (by simp [hatchPresent, hs]) (by simp)] at hx
    exact ⟨_, hx, rfl, rfl, length_padTo _ _, rfl, rfl, ⟨out, rfl⟩, rfl, rfl⟩
  · have hx : exec (.svcHello seq input) s = .next (answer (hatchPresent s).svc 0x01 seq (helloCmd input (hatchPresent s))) :=
      congrArg Host.Outcome.next (svcFrame_open hh ho (by simp [hs]) (by simp) rfl)
    obtain ⟨v, he, hv⟩ := helloCmd_version (s := hatchPresent s) hp hl hv
    rw [he, answer_open (by simp [hatchPresent, hs]) (by simp [hv])] at hx
    exact ⟨_, hx, rfl⟩
  · have hx : exec (.svcAuth seq input) s = .next (answer (hatchPresent s).svc 0x02 seq (authCmd input (hatchPresent s))) :=
      congrArg Host.Outcome.next (svcFrame_open hh ho (by simp [hs]) (by simp [hb]) rfl)
    rw [authCmd_root (s := hatchPresent s) hn (by simp [hatchPresent, hs]) hl hu hk hr] at hx
    refine ⟨_, hx, ?_⟩
    show if Config.ecdsaVerify (input.take 64) (Config.sha256 (rootMessage (hatchPresent s) input))
      (input.drop 129) = true then _ else _
    split
    · exact ⟨rfl, rfl, rfl, rfl, rfl⟩
    · have hf := authFails_noAuth (D := s.dram) (status := 0x06) (s := hatchPresent s)
        ⟨rfl, by simp [hatchPresent, hs]⟩
      exact ⟨hf.2, hf.1⟩
  · have hx : exec (.svcClose seq) s = .next (answer (hatchPresent s).svc 0x03 seq (svcStat 0 (endSession (hatchPresent s)))) :=
      congrArg Host.Outcome.next (svcFrame_open (f := fun s => svcStat 0 (endSession s)) hh ho
      (by simp [hs]) (by simp [hb]) rfl)
    rw [endSession_idle (s := hatchPresent s) hp, svcStat, answer_open (by simp [hatchPresent, hs]) (by simp)] at hx
    exact ⟨_, hx, rfl, rfl, rfl, rfl, rfl⟩
  · have hx : exec (.svcStatus seq) s = .next (answer (hatchPresent s).svc 0x10 seq (0, 0, statusOut (hatchPresent s), hatchPresent s)) :=
      congrArg Host.Outcome.next (svcFrame_open (f := fun s => (0, 0, statusOut s, s)) hh ho
      (by simp [hs]) (by simp [hb]) rfl)
    rw [answer_open (by simp [hatchPresent, hs]) (by simp [hatchPresent, hs])] at hx
    exact ⟨_, hx, rfl⟩
  · have hx : execSvcPresHigh s = _ := if_pos hp
    obtain ⟨h₁, h₂, h₃, h₄, h₅⟩ := endSession_advanceTo (s.almanac + 10000) { s with svc := { s.svc with pres := false } } hph
    exact ⟨_, hx, h₁, h₂, h₃, h₄, h₅⟩
  · have hx : execSvcSessionIdle s = _ := if_pos hs
    obtain ⟨h₁, -, h₃, h₄, h₅⟩ := endSession_advanceTo (s.svc.lastCmdAt + 300000000) s hp
    exact ⟨_, hx, h₁, h₃, h₄, h₅⟩
  · show execAuthLockoutExpire s = _
    rw [execAuthLockoutExpire, ht]

end Sys2Proof.Machine
end

section
/-! What every fault keeps: a predicate that the single operations of a fault keep is kept by the fault
(16_fault_stations R555 to R571). -/

namespace Sys2Proof.Machine

variable {P : State → Prop} {s : State}

theorem ite_keeps {c : Prop} [Decidable c] {x y : State} (hx : P x) (hy : P y) : P (if c then x else y) := by
  split
  · exact hx
  · exact hy

theorem foldl_keeps_of {α : Type} {f : State → α → State} (hf : ∀ s x, P s → P (f s x)) (l : List α) (hs : P s) : P (l.foldl f s) := by
  induction l generalizing s with
  | nil => exact hs
  | cons x l ih => exact ih (hf s x hs)

/-- The small operations of a fault: signals, records, stations and the end of what runs by itself. -/
def SignalKept (P : State → Prop) : Prop :=
  (∀ s k, P s → P (notify k s)) ∧ (∀ s k, P s → P (alertBit k s)) ∧ (∀ s code b a0 a1, P s → P (event code b a0 a1 s)) ∧
    (∀ s b f, P s → P (modStation b f s)) ∧ ∀ s level, P s → P (stopAuto level s)

/-- What a predicate on the parts that no signal, record or station touches owes. -/
theorem signalKept_of (h : ∀ s t : State, t.dev = s.dev → t.dram = s.dram → t.cht = s.cht → t.sui = s.sui → t.stw = s.stw →
    t.sav = s.sav → t.cel = s.cel → t.dmw = s.dmw → t.gau = s.gau → t.rek = s.rek → t.drc = s.drc → t.fpl = s.fpl →
    t.almanac = s.almanac → t.hst.rest = s.hst.rest →
    (∃ x, t.nrg = { s.nrg with exer := x }) → P s → P t) : SignalKept P := by
  have f₁ := @notify_frame
  have f₂ := @event_frame
  have hn : ∀ n : Nrg, ∃ x, n = { n with exer := x } := fun n => ⟨n.exer, rfl⟩
  refine ⟨fun s k hs => ?_, fun s k hs => ?_, fun s code b a0 a1 hs => ?_, fun s b f hs => ?_, fun s level hs => ?_⟩
  · refine h s _ ?_ ?_ ?_ ?_ ?_ ?_ ?_ ?_ ?_ ?_ ?_ ?_ ?_ (notify_rest ..) ?_ hs <;> simp only [f₁]
    exact hn _
  · exact h s _ rfl rfl rfl rfl rfl rfl rfl rfl rfl rfl rfl rfl rfl rfl (hn _) hs
  · refine h s _ ?_ ?_ ?_ ?_ ?_ ?_ ?_ ?_ ?_ ?_ ?_ ?_ ?_ (event_rest ..) ?_ hs <;> simp only [f₂]
    exact hn _
  · exact h s _ rfl rfl rfl rfl rfl rfl rfl rfl rfl rfl rfl rfl rfl rfl (hn _) hs
  · unfold stopAuto
    split
    · exact h s _ rfl rfl rfl rfl rfl rfl rfl rfl rfl rfl rfl rfl rfl rfl ⟨_, rfl⟩ hs
    · exact hs

/-- A level of a station acts by a reset of its block, by HARBOUR or by Abandon. -/
theorem levelAction_keeps {b : Block} {level : Nat} (h : SignalKept P) (hr : ∀ s, P s → P (blockReset b s))
    (hh : ∀ s, P s → P (harbourAction s)) (ha : ∀ s, P s → P (abandon s)) (hf : ∀ s, P s → P (fenceTrigger 0x09 s)) (hs : P s) :
    P (levelAction b level s) := by
  obtain ⟨hn, -⟩ := h
  unfold levelAction
  extract_lets x
  have hx : P x := ite_keeps hs (hn s _ hs)
  exact ite_keeps (ite_keeps (hf x hx) hx) (ite_keeps (hr x hx) (ite_keeps (hh x hx) (ite_keeps (ha x hx) hx)))

theorem raiseCore_keeps {c : FClass} {addr mstr access entry : Nat} (h : SignalKept P)
    (hl : ∀ s level, P s → P (levelAction c.blk level s)) (hs : P s) : P (raiseCore c addr mstr access entry s) := by
  obtain ⟨-, ha, he, hm, hst⟩ := h
  unfold raiseCore
  refine ite_keeps (hm _ _ _ hs) ?_
  unfold raiseNow escalate
  extract_lets low old x y z w
  have hx : P x := hm _ _ _ hs
  have hy : P y := ite_keeps (ha _ _ hx) hx
  have hw : P w := ite_keeps (hst _ _ hy) hy
  exact ite_keeps (hl _ _ (he _ _ _ _ _ hw)) hw

theorem raiseAt_keeps {c : FClass} {addr mstr access entry : Nat} (h : SignalKept P)
    (hl : ∀ s level, P s → P (levelAction c.blk level s)) (hlog : ∀ s level, P s → P (levelAction .log level s)) (hs : P s) :
    P (raiseAt c addr mstr access entry s) := by
  have hc : P (raiseCore c addr mstr access entry s) := raiseCore_keeps h hl hs
  exact ite_keeps (raiseCore_keeps h hlog hc) hc

end Sys2Proof.Machine
end

section
/-! Presence, authentication, samples and the charger of the pack (10_energy_pack R373 to R387). -/

namespace Sys2Proof.Machine

variable {s t u : State} {D : Dram} {C : Cht} {q : Bool}

/-! ### A pack that is out -/

/-- No pack is read; once `q`, no pack is served either and the ceiling is 0. DRAM is `D` and the Chart `C`. -/
def PackOut (D : Dram) (C : Cht) (q : Bool) (s : State) : Prop :=
  s.dram = D ∧ s.cht = C ∧ s.nrg.packId = .open_ ∧ (s.dev.state = .service ∨ s.dev.state = .harbour ∨ s.dev.state = .fenced) ∧
    (q = true → s.nrg.inserted = false ∧ s.nrg.chgMa = 0 ∧ s.stw.rekCeil = 0 ∧ s.rek.running = none)

theorem PackOut.of_eq (hs : PackOut D C q s) (hd : t.dram = s.dram) (hc : t.cht = s.cht) (hn : t.nrg = s.nrg)
    (hv : t.dev.state = s.dev.state) (hw : t.stw = s.stw) (hr : t.rek.running = s.rek.running) : PackOut D C q t := by
  rw [PackOut, hd, hc, hn, hv, hw, hr]
  exact hs

theorem packOut_signalKept : SignalKept (PackOut D C q) := by
  refine signalKept_of fun s t hd hm hc _ hw _ _ _ _ hr _ _ _ _ hn hs => ?_
  obtain ⟨x, hn⟩ := hn
  rw [PackOut, hd, hm, hc, hw, hr, hn]
  exact hs

theorem startErase_running (h : Half) (s : State) : (startErase h s).rek.running = s.rek.running := by
  cases h
  · unfold startErase modHalf noteReadyAny
    split
    · rfl
    · rfl
  · unfold startErase modHalf noteReadyAny
    split
    · rfl
    · rfl

theorem enterHarbour_running (cause : Nat) (s : State) : (enterHarbour cause s).rek.running = s.rek.running := by
  have f₁ := @transition_frame
  have f₂ := @event_frame
  have f₃ := @notify_frame
  have hk : ∀ (c : Prop) [Decidable c] (h : Half) (x : State), (if c then startErase h x else x).rek.running = x.rek.running := by
    intro c _ h x
    split
    · exact startErase_running h x
    · rfl
  unfold enterHarbour
  dsimp only
  rw [hk, hk]
  simp only [f₁, f₂, f₃]

theorem enterHarbour_state (cause : Nat) (s : State) : (enterHarbour cause s).dev.state = .harbour := by
  have f₁ := @startErase_frame
  have f₂ := @event_frame
  have f₃ := @notify_frame
  have hk : ∀ (c : Prop) [Decidable c] (h : Half) (x : State), (if c then startErase h x else x).dev = x.dev := by
    intro c _ h x
    split
    · simp only [f₁]
    · rfl
  unfold enterHarbour
  dsimp only
  rw [hk, hk]
  simp only [f₂, f₃, transition_dev_state]

theorem enterHarbour_packOut {cause : Nat} (hs : PackOut D C q s) : PackOut D C q (enterHarbour cause s) := by
  have f := @enterHarbour_frame
  obtain ⟨hd, hc, hp, -, hq⟩ := hs
  refine ⟨?_, ?_, ?_, .inr (.inl (enterHarbour_state ..)), fun h => ?_⟩
  · simp only [f, hd]
  · simp only [f, hc]
  · simp only [f, hp]
  · rw [enterHarbour_running]
    simp only [f]
    exact hq h

theorem closeFence_nrg (cause : Nat) (s : State) : (closeFence cause s).nrg.packId = s.nrg.packId ∧
    (closeFence cause s).nrg.inserted = s.nrg.inserted ∧ (closeFence cause s).nrg.chgMa = 0 ∧
    (closeFence cause s).stw.rekCeil = s.stw.rekCeil ∧ (closeFence cause s).rek.running = none := by
  have g₁ := @atticFence_frame
  have g₂ := @transition_frame
  have g₃ := @fenceDirty_frame
  have g₄ := @gauFence_frame
  have g₅ := @stopPrecaution_frame
  have g₆ := @plkFence_frame
  have g₇ := @cutStaging_frame
  have hn : ∀ x, (nrgFence cause x).packId = x.nrg.packId ∧ (nrgFence cause x).inserted = x.nrg.inserted ∧ (nrgFence cause x).chgMa = 0 := by
    intro x
    unfold nrgFence
    dsimp only
    split
    · exact ⟨rfl, rfl, rfl⟩
    · exact ⟨rfl, rfl, rfl⟩
  unfold closeFence rekFence
  simp only [hn, g₁, g₂, g₃, g₄, g₅, g₆, g₇]
  exact ⟨trivial, trivial, trivial, trivial, trivial⟩

theorem closeFence_packOut {cause : Nat} (hs : PackOut D C q s) : PackOut D C q (closeFence cause s) := by
  have f := @closeFence_frame
  obtain ⟨hd, hc, hp, -, hq⟩ := hs
  obtain ⟨h₁, h₂, h₃, h₄, h₅⟩ := closeFence_nrg cause s
  refine ⟨?_, ?_, h₁.trans hp, .inr (.inr (closeFence_dev_state cause s)), fun h => ⟨h₂.trans (hq h).1, h₃, h₄.trans (hq h).2.2.1, h₅⟩⟩
  · simp only [f, hd]
  · simp only [f, hc]

theorem fenceTrigger_packOut {cause : Nat} (hs : PackOut D C q s) : PackOut D C q (fenceTrigger cause s) := by
  unfold fenceTrigger
  obtain ⟨-, -, -, h | h | h, -⟩ := id hs
  · rw [h]
    exact closeFence_packOut hs
  · rw [h]
    exact closeFence_packOut hs
  · rw [h]
    exact hs.of_eq rfl rfl rfl rfl rfl rfl

theorem abandon_packOut (hs : PackOut D C q s) : PackOut D C q (abandon s) := by
  unfold abandon
  obtain ⟨-, -, -, h | h | h, -⟩ := id hs
  · rw [h]
    exact fenceTrigger_packOut (hs.of_eq rfl rfl rfl rfl rfl rfl)
  · rw [h]
    exact fenceTrigger_packOut (hs.of_eq rfl rfl rfl rfl rfl rfl)
  · rw [h]
    exact hs.of_eq rfl rfl rfl rfl rfl rfl

theorem harbourAction_packOut (hs : PackOut D C q s) : PackOut D C q (harbourAction s) := by
  unfold harbourAction
  obtain ⟨-, -, -, h | h | h, -⟩ := id hs
  · rw [h]
    exact enterHarbour_packOut hs
  · rw [h]
    exact hs.of_eq rfl rfl rfl rfl rfl rfl
  · rw [h]
    exact hs.of_eq rfl rfl rfl rfl rfl rfl

/-- A reset of the energy block, of the Reckoning or of the Log. -/
theorem blockReset_packOut {b : Block} (hb : b = .nrg ∨ b = .rek ∨ b = .log) (hs : PackOut D C q s) :
    PackOut D C q (blockReset b s) := by
  have hq : ∀ n, PackOut D C q (quarantine (resetGroup b) n s) :=
    fun n => foldl_keeps_of (fun s x hs => packOut_signalKept.2.2.2.1 s _ _ hs) _ hs
  unfold blockReset
  split
  · exact hs
  · next n _ =>
    obtain ⟨hd, hc, hp, hst, hk⟩ := hq n
    obtain rfl | rfl | rfl := hb
    · exact ⟨hd, hc, hp, hst, fun h => ⟨(hk h).1, rfl, (hk h).2.2⟩⟩
    · exact ⟨hd, hc, hp, hst, fun h => ⟨(hk h).1, (hk h).2.1, (hk h).2.2.1, rfl⟩⟩
    · exact ⟨hd, hc, hp, hst, hk⟩

theorem levelAction_packOut {b : Block} (hb : b = .nrg ∨ b = .rek ∨ b = .log) (s : State) (level : Nat) (hs : PackOut D C q s) :
    PackOut D C q (levelAction b level s) :=
  levelAction_keeps packOut_signalKept (fun _ => blockReset_packOut hb) (fun _ => harbourAction_packOut) (fun _ => abandon_packOut)
    (fun _ => fenceTrigger_packOut) hs

theorem raiseAt_packOut {c : FClass} {addr mstr access entry : Nat} (hb : c.blk = .nrg ∨ c.blk = .rek ∨ c.blk = .log)
    (hs : PackOut D C q s) : PackOut D C q (raiseAt c addr mstr access entry s) :=
  raiseAt_keeps packOut_signalKept (levelAction_packOut hb) (levelAction_packOut (.inr (.inr rfl))) hs

theorem replaceSignal_packOut (hs : PackOut D C q s) : PackOut D C q (replaceSignal s) := by
  obtain ⟨hn, ha, he, -⟩ := @packOut_signalKept D C q
  unfold replaceSignal
  extract_lets y
  have hy : PackOut D C q y := ha _ _ (hn _ _ (he _ _ _ _ _ hs))
  clear_value y
  split
  · exact enterHarbour_packOut hy
  all_goals exact hy.of_eq rfl rfl rfl rfl rfl rfl

theorem setReason_packOut {k : Nat} (hs : PackOut D C q s) : PackOut D C q (setReason k s) := by
  unfold setReason
  exact ite_keeps hs (replaceSignal_packOut (hs.of_eq rfl rfl rfl rfl rfl rfl))

theorem eolEval_packOut {b : Bool} (hs : PackOut D C q s) : PackOut D C q (eolEval b s) := by
  unfold eolEval
  dsimp only
  have hr : ∀ e, PackOut D C q { s with rek := { s.rek with eol := true, eolReason := e, eolClear := 0 } } :=
    fun e => hs.of_eq rfl rfl rfl rfl rfl rfl
  refine ite_keeps (ite_keeps (setReason_packOut (hr _)) (raiseAt_packOut (.inr (.inl rfl)) (setReason_packOut (hr _)))) ?_
  exact ite_keeps (ite_keeps (hs.of_eq rfl rfl rfl rfl rfl rfl) (hs.of_eq rfl rfl rfl rfl rfl rfl)) hs

theorem endSuperCycle_packOut {r : LearnRun} {v : Nat} (hs : PackOut D C q s) : PackOut D C q (endSuperCycle r v s) := by
  unfold endSuperCycle
  dsimp only
  refine ite_keeps (hs.of_eq rfl rfl rfl rfl rfl rfl) (ite_keeps (hs.of_eq rfl rfl rfl rfl rfl rfl) (eolEval_packOut ?_))
  exact hs.of_eq rfl rfl rfl rfl rfl rfl

theorem endExercise_packOut {n : Nat} (hs : PackOut D C q s) : PackOut D C q (endExercise n s) := by
  unfold endExercise
  split
  · exact hs
  · extract_lets x e n k l g y z a b v
    have hy : PackOut D C q y := hs
    have hz : PackOut D C q z := by
      unfold z
      split
      · exact ite_keeps (endSuperCycle_packOut hy) hy
      · exact hy
    clear_value z
    have hb : PackOut D C q b := ite_keeps (hz.of_eq rfl rfl rfl rfl rfl rfl) hz
    have hv : PackOut D C q v := hb.of_eq rfl rfl rfl rfl rfl rfl
    exact ite_keeps (raiseAt_packOut (.inl rfl) hv) hv

/-- The pack that left is served no more. -/
theorem packLeft_packOut (hs : PackOut D C false s) : PackOut D C false (packLeft s) ∧ (packLeft s).nrg.inserted = false ∧
    (packLeft s).nrg.chgMa = 0 ∧ (packLeft s).rek.running = none := by
  have f₁ := @packAlert_frame
  have f₂ := @setCharge_frame
  unfold packLeft
  extract_lets x met y a n cut rk z w b g
  have hx : PackOut D C false x := ite_keeps (endExercise_packOut hs) hs
  have hy : y.dram = x.dram ∧ y.cht = x.cht ∧ y.dev = x.dev ∧ y.nrg.packId = x.nrg.packId := by
    have hp : y.nrg.packId = x.nrg.packId := by
      unfold y setCharge
      dsimp only
      split
      · rfl
      · split
        · rfl
        · rfl
    simp only [y, f₂]
    exact ⟨trivial, trivial, trivial, hp⟩
  obtain ⟨hd, hc, hp, hst, -⟩ := hx
  obtain ⟨hyd, hyc, hyv, hyp⟩ := hy
  have hz : z.dram = y.dram ∧ z.cht = y.cht ∧ z.dev = y.dev ∧ z.nrg = n ∧ z.rek.running = none := by
    simp only [z, f₁]
    exact ⟨trivial, trivial, trivial, trivial, trivial⟩
  have hw : w.dram = z.dram ∧ w.cht = z.cht ∧ w.dev = z.dev ∧ w.nrg = z.nrg ∧ w.rek = z.rek := by
    unfold w
    split
    · exact ⟨rfl, rfl, rfl, rfl, rfl⟩
    · exact ⟨rfl, rfl, rfl, rfl, rfl⟩
  obtain ⟨hzd, hzc, hzv, hzn, hzr⟩ := hz
  obtain ⟨hwd, hwc, hwv, hwn, hwr⟩ := hw
  refine ⟨⟨hwd.trans (hzd.trans (hyd.trans hd)), hwc.trans (hzc.trans (hyc.trans hc)), ?_, ?_, Bool.noConfusion⟩, ?_, ?_, ?_⟩
  · exact (congrArg Nrg.packId (hwn.trans hzn)).trans (hyp.trans hp)
  · rw [show (wantRek { w with gau := g }).dev = x.dev from hwv.trans (hzv.trans hyv)]
    exact hst
  · exact congrArg Nrg.inserted (hwn.trans hzn)
  · exact congrArg Nrg.chgMa (hwn.trans hzn)
  · exact (congrArg Rek.running hwr).trans hzr

theorem reeval_rekCeil (s : State) : (reeval s).stw.rekCeil = s.stw.rekCeil := by
  have f₁ := @notify_frame
  have f₂ := @setArmed_frame
  unfold reeval
  simp only [apply_ite State.stw, f₁, f₂, ite_self]

theorem reeval_packOut (hs : PackOut D C q s) : PackOut D C q (reeval s) := by
  have f := @reeval_frame
  have f₃ := @reeval_frame3
  rw [PackOut, reeval_rekCeil]
  simp only [f, f₃]
  exact hs

theorem addEvent_packOut {i : Nat} {r : EventRecord} (hs : PackOut D C q s) : PackOut D C q (addEvent i r s) := by
  have f := @addEvent_frame
  rw [PackOut]
  simp only [f]
  exact hs

/-- A pack that went open or short in service: the ceiling is 0. -/
theorem packGone_packOut (hs : PackOut D C false s) (hn : s.dev.state = .service) : PackOut D C true (packGone s) := by
  obtain ⟨⟨hd, hc, hp, hst, -⟩, hi, hm, hr⟩ := packLeft_packOut hs
  have f := @reeval_frame
  have hfr : ∀ x y : State, (if (decide (s.dev.state = .fenced) || decide (s.dev.state = .saving)) = true then x else y) = y := by
    intro x y
    rw [hn]
    rfl
  unfold packGone
  dsimp only
  rw [hfr]
  have h₁ : PackOut D C true { packLeft s with stw := { (packLeft s).stw with rekCeil := 0, fullOk := false } } :=
    ⟨hd, hc, hp, hst, fun _ => ⟨hi, hm, rfl, hr⟩⟩
  have h₂ := reeval_packOut (raiseAt_packOut (c := nrgPackRemoved) (addr := 0) (mstr := mNone) (access := 0) (entry := 1) (.inl rfl)
    (addEvent_packOut (i := 0) (r := .memoryModule 1 (packLeft s).almanac) h₁))
  have hk : ∀ x : State, PackOut D C true x → PackOut D C true (if x.dev.state = .saving && x.nrg.path = .pack then exhausted x else x) := by
    intro x hx
    rw [if_neg]
    · exact hx
    · obtain ⟨-, -, -, h | h | h, -⟩ := hx <;> simp [h]
  exact hk _ h₂

/-! ### Readings -/

theorem takeReadings_nrg (p : PackIdReading) (a b : Therm) (s : State) :
    (takeReadings p a b s).nrg = { s.nrg with packId := p, th0 := a.converted, th1 := b.converted } := by
  have f := @packAlert_frame
  unfold takeReadings
  simp only [f]

/-- A pack that is read open, in service. -/
theorem readingsTaken_open {n : Nrg} {ohms : Nat} (hn : n.present = true) (hs : s.dev.state = .service) (hp : s.nrg.packId = .open_) :
    PackOut s.dram s.cht true (readingsTaken n ohms s) := by
  have hpr : s.nrg.present = false := by simp [Nrg.present, hp]
  have hop : openOrShort s.nrg = true := by simp [openOrShort, hp]
  have hg := packGone_packOut (s := s) ⟨rfl, rfl, hp, .inl hs, Bool.noConfusion⟩ hs
  have hoff : thermOff (packGone s).nrg = false := by simp [thermOff, idValid, hg.2.2.1]
  unfold readingsTaken
  rw [if_pos (by simp [hn, hpr]), if_pos hop]
  dsimp only
  rw [if_neg (by simp [hoff])]
  exact ⟨hg.1, hg.2.1, hg.2.2.1, hg.2.2.2.1, hg.2.2.2.2⟩

/-- No pack before and none read: the readings alone are new. -/
theorem readingsTaken_none {n : Nrg} {ohms : Nat} (hn : n.present = false) (hp : s.nrg.packId = .open_) :
    readingsTaken n ohms s = { s with nrg := { s.nrg with thermBad := false } } := by
  have hoff : thermOff s.nrg = false := by simp [thermOff, idValid, hp]
  unfold readingsTaken
  rw [if_neg (by simp [hn])]
  dsimp only
  rw [if_neg (by simp [hoff]), hoff]

theorem pbReads_plan (l : List Nat) (s : State) : (pbReads l s).plan = s.plan := by
  have f := pbReads_frame l s
  simp only [State.plan, f]

theorem advanceTo_plan (x : Nat) (s : State) : (advanceTo x s).plan = s.plan := by
  have f := advanceTo_frame x s
  simp only [State.plan, f]

/-- What a measurement took, the plan and the operating state. -/
def SameMeasure (u t : State) : Prop :=
  t.fpl = u.fpl ∧ t.almanac = u.almanac ∧ t.dram = u.dram ∧ t.dev = u.dev ∧ t.nrg.packMv = u.nrg.packMv ∧ t.nrg.packMa = u.nrg.packMa ∧
    t.nrg.p12vMv = u.nrg.p12vMv ∧ t.nrg.ilimActive = u.nrg.ilimActive ∧ t.nrg.measAt = u.nrg.measAt ∧ t.nrg.inserted = u.nrg.inserted

theorem SameMeasure.refl (u : State) : SameMeasure u u := ⟨rfl, rfl, rfl, rfl, rfl, rfl, rfl, rfl, rfl, rfl⟩

theorem SameMeasure.trans {w : State} (h : SameMeasure u t) (g : SameMeasure t w) : SameMeasure u w := by
  obtain ⟨h₁, h₂, h₃, h₄, h₅, h₆, h₇, h₈, h₉, h₀⟩ := h
  obtain ⟨g₁, g₂, g₃, g₄, g₅, g₆, g₇, g₈, g₉, g₀⟩ := g
  exact ⟨g₁.trans h₁, g₂.trans h₂, g₃.trans h₃, g₄.trans h₄, g₅.trans h₅, g₆.trans h₆, g₇.trans h₇, g₈.trans h₈, g₉.trans h₉, g₀.trans h₀⟩

theorem SameMeasure.inserted (h : SameMeasure u t) : t.nrg.inserted = u.nrg.inserted := by
  obtain ⟨-, -, -, -, -, -, -, -, -, h⟩ := h
  exact h

theorem cellMode_of_none (hc : s.plan.energy.chem = 0) : cellMode s = false := by simp [cellMode, hc]

theorem SameMeasure.chem (h : SameMeasure u t) (hc : u.plan.energy.chem = 0) : t.plan.energy.chem = 0 :=
  (congrArg (fun f : Fpl => f.plan.energy.chem) h.1).trans hc

theorem packUsable_of_none (hc : s.plan.energy.chem = 0) : packUsable s = false := by
  have hm : packMatches s = false := by
    unfold packMatches packClass
    split
    · next n _ =>
      rw [hc]
      have h : ∀ k l : Nat, k ≠ 0 → ¬ (some (k, l) = some (0, s.plan.energy.cells)) := by
        intro k l hk he
        exact hk (congrArg (fun o : Option (Nat × Nat) => (o.getD (0, 0)).1) he)
      refine decide_eq_false ?_
      split
      · exact h _ _ (by decide)
      · split
        · exact h _ _ (by decide)
        · split
          · exact h _ _ (by decide)
          · exact fun h => by simp at h
    · rfl
  simp [packUsable, hm]

theorem setCharge_sameMeasure (p : ChargePhase) (s : State) : SameMeasure s (setCharge p s) := by
  unfold setCharge
  dsimp only
  split
  · exact .refl s
  · split
    · exact ⟨rfl, rfl, rfl, rfl, rfl, rfl, rfl, rfl, rfl, rfl⟩
    · exact ⟨rfl, rfl, rfl, rfl, rfl, rfl, rfl, rfl, rfl, rfl⟩

/-- Without a pack no step of the charger but its end. -/
theorem chargeStep_sameMeasure (hc : s.plan.energy.chem = 0) (hi : s.nrg.inserted = false) : SameMeasure s (chargeStep s) := by
  have hu : ∀ x : State, x.fpl = s.fpl → chargeAllowed x = false := by
    intro x hx
    have h := packUsable_of_none (s := x) ((congrArg (fun f : Fpl => f.plan.energy.chem) hx).trans hc)
    simp [chargeAllowed, h]
  unfold chargeStep
  extract_lets e x v n y z
  have hx : SameMeasure s x := ⟨rfl, rfl, rfl, rfl, rfl, rfl, rfl, rfl, rfl, rfl⟩
  have hy : SameMeasure s y := by
    unfold y
    rw [if_neg (by simp [x, chargePause, hi])]
    split
    · exact ⟨rfl, rfl, rfl, rfl, rfl, rfl, rfl, rfl, rfl, rfl⟩
    · exact hx
  clear_value y
  rw [hu y hy.1, if_pos (c := (!false) = true) rfl]
  exact hy.trans ((setCharge_sameMeasure .off y).trans ⟨rfl, rfl, rfl, rfl, rfl, rfl, rfl, rfl, rfl, rfl⟩)

theorem firstReading_sameMeasure (hc : s.plan.energy.chem = 0) : SameMeasure s (firstReading s) := by
  unfold firstReading
  split
  · exact .refl s
  · dsimp only
    rw [if_pos]
    · exact ⟨rfl, rfl, rfl, rfl, rfl, rfl, rfl, rfl, rfl, rfl⟩
    · rw [cellMode_of_none]
      · rfl
      · exact hc

theorem stepSample_sameMeasure (hc : s.plan.energy.chem = 0) : SameMeasure s (stepSample s) := by
  unfold stepSample
  split
  · exact .refl s
  · dsimp only
    split
    · exact .refl s
    · rw [if_pos (.inr (.inr hc))]
      exact ⟨rfl, rfl, rfl, rfl, rfl, rfl, rfl, rfl, rfl, rfl⟩

theorem endPulse_sameMeasure (s : State) : SameMeasure s (endPulse s) := by
  unfold endPulse
  split
  · split
    · exact ⟨rfl, rfl, rfl, rfl, rfl, rfl, rfl, rfl, rfl, rfl⟩
    · exact .refl s
  · exact .refl s

theorem checkRate_of_none (hc : s.plan.energy.chem = 0) : checkRate s = s := by
  unfold checkRate
  dsimp only
  rw [cellMode_of_none hc]
  rfl

theorem superCycle_of_none {n : Nat} (hc : s.plan.energy.chem = 0) : superCycle n s = s := by
  unfold superCycle
  rw [if_pos (by simp [superMode, hc])]

theorem checks_of_none (hc : s.plan.energy.chem = 0) : checkMoved (checkDisagree s) = s := by
  have hd : checkDisagree s = s := if_neg (by simp [cellMode_of_none hc])
  rw [hd]
  exact if_neg (by simp [cellMode_of_none hc])

/-- What a measurement is evaluated to, with the readings taken in `s`. -/
theorem measured_of_none {n : Nat} (hc : s.plan.energy.chem = 0) (hi : s.nrg.inserted = false) :
    SameMeasure s (checkMoved (checkDisagree (chargeStep (superCycle n (watchRest (checkRate (endPulse (stepSample (firstReading s))))))))) := by
  have h₁ := firstReading_sameMeasure hc
  have h₂ := h₁.trans (stepSample_sameMeasure (h₁.chem hc))
  have h₃ := h₂.trans (endPulse_sameMeasure _)
  rw [checkRate_of_none (h₃.chem hc)]
  have h₄ : SameMeasure s (watchRest (endPulse (stepSample (firstReading s)))) :=
    h₃.trans ⟨rfl, rfl, rfl, rfl, rfl, rfl, rfl, rfl, rfl, rfl⟩
  rw [superCycle_of_none (h₄.chem hc)]
  have h₅ := h₄.trans (chargeStep_sameMeasure (h₄.chem hc) (h₄.inserted.trans hi))
  rw [checks_of_none (h₅.chem hc)]
  exact h₅

/-- A sample of a part without a pack takes the readings. -/
theorem packThermSample_none (a b : Int) (ohms : Nat) (hs : s.dev.state = .service) (hi : s.nrg.inserted = false)
    (hid : s.nrg.packId = .open_) : exec (.packThermSample (.ok a) (.ok b) ohms) s =
      let u := takeReadings .open_ (.ok a) (.ok b) (advanceTo (nextMultiple s 100000) s)
      .next { u with nrg := { s.nrg with packId := .open_, th0 := (Therm.ok a).converted, th1 := (Therm.ok b).converted,
                                         thermBad := false } } := by
  have hz : (advanceTo (nextMultiple s 100000) s).nrg = s.nrg := by
    have f := advanceTo_frame (nextMultiple s 100000) s
    simp only [f]
  have hp : s.nrg.present = false := by simp [Nrg.present, hid]
  have ht : thermPeriod s = 100000 := by simp [thermPeriod, hs]
  have hn := takeReadings_nrg .open_ (.ok a) (.ok b) (advanceTo (nextMultiple s 100000) s)
  rw [hz] at hn
  show execPackThermSample (.ok a) (.ok b) ohms s = _
  unfold execPackThermSample
  rw [if_pos (by simp [hs, poweredState]), ht]
  dsimp only
  rw [hz, hid, readingsTaken_none hp (by rw [hn])]
  dsimp only
  rw [hn, if_neg (by simp [hi])]

/-- The readings of a measurement taken in `z`. -/
noncomputable def measuredNrg (mv : Nat) (ma : Int) (p : Nat) (lim : Bool) (z : State) : Nrg :=
  { z.nrg with packMv := mv, packMa := min (min (chargeLimit z mv p : Int) (chargeSet z)) (clamped z ma), p12vMv := p,
               measAt := z.almanac,
               ilimActive := charging z && (lim || decide ((chargeLimit z mv p : Int) < ma ∧ (chargeLimit z mv p : Int) < chargeSet z)) }

theorem packMeasure_eq (mv : Nat) (ma : Int) (p : Nat) (lim : Bool) (hs : s.dev.state = .service) :
    exec (.packMeasure mv ma p lim) s =
      let z := advanceTo (max s.almanac (s.nrg.measAt + 1000)) s
      let u := countCharge (z.almanac - z.nrg.measAt) (packAlert z { z with nrg := measuredNrg mv ma p lim z })
      .next (checkMoved (checkDisagree (chargeStep (superCycle (floorNat (vOc s * 1000)) (watchRest (checkRate
        (endPulse (stepSample (firstReading u))))))))) := by
  have hp : measPeriod s = 1000 := by simp [measPeriod, hs]
  show execPackMeasure mv ma p lim s = _
  unfold execPackMeasure
  rw [if_pos (by simp [hs, poweredState]), hp]
  unfold measuredNrg
  simp only [Bool.decide_and]

theorem countCharge_sameMeasure (dt : Nat) (z : State) (n : Nrg) :
    SameMeasure { z with nrg := n } (countCharge dt (packAlert z { z with nrg := n })) := by
  have f := packAlert_frame z { z with nrg := n }
  have h : SameMeasure { z with nrg := n } (packAlert z { z with nrg := n }) := by
    refine ⟨?_, ?_, ?_, ?_, ?_, ?_, ?_, ?_, ?_, ?_⟩ <;> simp only [f]
  exact h.trans ⟨rfl, rfl, rfl, rfl, rfl, rfl, rfl, rfl, rfl, rfl⟩

/-- The charger's settings do not depend on the time. -/
theorem charge_advanceTo (x : Nat) (s : State) : (∀ mv p, chargeLimit (advanceTo x s) mv p = chargeLimit s mv p) ∧
    chargeSet (advanceTo x s) = chargeSet s ∧ charging (advanceTo x s) = charging s ∧
    ∀ ma, clamped (advanceTo x s) ma = clamped s ma := by
  have f := advanceTo_frame x s
  have hn : (advanceTo x s).nrg = s.nrg := by simp only [f]
  have hd : (advanceTo x s).dev = s.dev := by simp only [f]
  have ht : (advanceTo x s).stations = s.stations := by simp only [f]
  have hw : (advanceTo x s).pwr = s.pwr := by simp only [f]
  have hp := advanceTo_plan x s
  have hm : packMatches (advanceTo x s) = packMatches s := by rw [packMatches, packMatches, hn, hp]
  have hu : packUsable (advanceTo x s) = packUsable s := by rw [packUsable, packUsable, hn, hp, hm]
  have hg : stageNow (advanceTo x s) = stageNow s := by rw [stageNow, stageNow, hd, ht, hw]
  have ha : chargeAllowed (advanceTo x s) = chargeAllowed s := by rw [chargeAllowed, chargeAllowed, hn, hd, hg, hu]
  have hc : charging (advanceTo x s) = charging s := by rw [charging, charging, hn, ha]
  refine ⟨fun mv p => ?_, ?_, hc, fun ma => ?_⟩
  · rw [chargeLimit, chargeLimit, hn]
  · rw [chargeSet, chargeSet, hn, hp, hc]
  · rw [clamped, clamped, clampMa, clampMa, hn, hp]

/-- The group of an inserted pack, nothing of the one before left. -/
noncomputable def insertedNrg (s : State) (n : Nrg) : Nrg :=
  { n with inserted := true, insertions := satInc 0xFFFF s.nrg.insertions, announce := true, authAttempts := 0, authResult := 0,
           authEntry := 0, auth := none, authFailedAt := none, prechgFailed := false, overVolt := false, tempPause := false,
           runHold := false }

/-- The end of an insertion, in the state that has the pack. -/
noncomputable def insertEnds (id : Nat) (rep : PackReply) (n : Nat) (rested : Bool) (s : State) : State :=
  let s := if packMatches s then s else raiseAddr nrgIdMismatch id mNone 0 s
  let s := takeProfile (readSerial rep) n rested false { s with gau := { s.gau with pulseOwed := true } }
  if s.plan.energy.auth = 0 then endAuth 0 0 s
  else if chargeState s.dev.state then beginAuth rep s
  else { s with nrg := { s.nrg with authAgain := true } }

theorem packMatches_of {n : Nat} (hn : t.nrg.packId = .code n) (hf : t.fpl = s.fpl)
    (hc : packClass n = some (s.plan.energy.chem, s.plan.energy.cells)) : packMatches t = true := by
  rw [packMatches, hn, State.plan, hf]
  exact decide_eq_true hc

theorem insertEnds_matching {id n : Nat} {rep : PackReply} {r : Bool} (hm : packMatches s = true) (ha : s.fpl.plan.energy.auth = 0) :
    insertEnds id rep n r s =
      endAuth 0 0 (takeProfile (readSerial rep) n r false { s with gau := { s.gau with pulseOwed := true } }) := by
  have f := takeProfile_frame (readSerial rep) n r false { s with gau := { s.gau with pulseOwed := true } }
  have hp : (takeProfile (readSerial rep) n r false { s with gau := { s.gau with pulseOwed := true } }).plan.energy.auth = 0 := by
    simp only [State.plan, f]
    exact ha
  unfold insertEnds
  rw [if_pos hm]
  exact if_pos hp

/-- A pack of the plan's class that needs no authentication takes its profile. -/
theorem packInserted_matching {id ohms n : Nat} {a b : Int} {rep : PackReply} (hp : poweredState s.dev.state = true)
    (hi : s.nrg.inserted = false) (hr : packReading id = .code n)
    (hc : packClass n = some (s.plan.energy.chem, s.plan.energy.cells)) (ha : s.plan.energy.auth = 0) :
    exec (.packInserted id ohms (.ok a) (.ok b) false rep) s =
      let u := takeReadings (.code n) (.ok a) (.ok b) s
      let v := packAlert u { u with nrg := insertedNrg s u.nrg }
      .next (endAuth 0 0 (takeProfile (readSerial rep) n false false { v with gau := { v.gau with pulseOwed := true } })) := by
  generalize hu : takeReadings (.code n) (.ok a) (.ok b) s = u
  have hn : u.nrg = { s.nrg with packId := .code n, th0 := (Therm.ok a).converted, th1 := (Therm.ok b).converted } := by
    rw [← hu, takeReadings_nrg]
  have hf : u.fpl = s.fpl := by
    have f := takeReadings_frame (.code n) (.ok a) (.ok b) s
    rw [← hu]
    simp only [f]
  have hpr : u.nrg.present = true := by simp [hn, Nrg.present, Therm.converted, Therm.good]
  have hid : u.nrg.packId = .code n := by rw [hn]
  have hin : u.nrg.insertions = s.nrg.insertions := by rw [hn]
  have hnrg : insertedNrg s u.nrg = insertedNrg u u.nrg := by rw [insertedNrg, insertedNrg, hin]
  have hvn : (packAlert u { u with nrg := insertedNrg u u.nrg }).nrg = insertedNrg u u.nrg := by
    have f := packAlert_frame u { u with nrg := insertedNrg u u.nrg }
    simp only [f]
  have hvf : (packAlert u { u with nrg := insertedNrg u u.nrg }).fpl = s.fpl := by
    have f := packAlert_frame u { u with nrg := insertedNrg u u.nrg }
    simp only [f]
    exact hf
  dsimp only
  rw [hnrg]
  show execPackInserted id ohms (.ok a) (.ok b) false rep s = _
  unfold execPackInserted
  rw [hr, hu]
  dsimp only
  rw [if_pos (by simp [hp, hi, hpr])]
  change Host.Outcome.next (insertEnds id rep _ _ (packAlert u { u with nrg := insertedNrg u u.nrg })) = _
  have hm : packMatches (packAlert u { u with nrg := insertedNrg u u.nrg }) = true :=
    packMatches_of ((congrArg Nrg.packId hvn).trans hid) hvf hc
  rw [hid]
  generalize packAlert u { u with nrg := insertedNrg u u.nrg } = v at hm hvf ⊢
  generalize s.log.gapUs = o
  cases o
  · exact congrArg Host.Outcome.next (insertEnds_matching hm (hvf ▸ ha))
  · exact congrArg Host.Outcome.next (insertEnds_matching hm (hvf ▸ ha))

/-- Settles O35: `packGone_packOut` for a pack that leaves; samples and measurements of a part without a pack by their steps. -/
theorem packAndCharger : Obligations.PackAndCharger := by
  refine ⟨fun s id ohms th0 th1 hp => ⟨if_pos hp, fun hn hs hr => ?_, fun n a b rep hi h0 h1 hr hc ha => ?_, fun a ha => ⟨?_, fun key resp => ?_⟩,
    fun rep t hi hs ha hm hg hf => ?_⟩, fun s => ⟨fun a b ohms hs hi hid => ?_, fun mv ma p lim hs hi ho hc => ?_, fun hc hm => ?_⟩⟩
  · have f := takeReadings_frame (packReading id) th0 th1 s
    obtain ⟨hd, hc, hpk, -, hq⟩ := readingsTaken_open (s := takeReadings (packReading id) th0 th1 s) (ohms := ohms) hn (by simp only [f, hs])
      (by rw [takeReadings_nrg, hr])
    obtain ⟨h₁, h₂, h₃, h₄⟩ := hq rfl
    have hx : exec (.packRemoved id ohms th0 th1) s = _ := if_pos hp
    refine ⟨_, hx, hpk, h₁, h₂, h₃, h₄, hd.trans ?_, hc.trans ?_⟩ <;> simp only [f]
  · subst h0 h1
    exact packInserted_matching hp hi hr hc ha
  · show execPackAuthPoll none [] [] s = _
    rw [execPackAuthPoll, ha]
  · show execPackAuthPoll (some 2) key resp s = _
    have hpl : (pbReads [0x11] (advanceTo (a.startedAt + ((s.almanac - a.startedAt) / 10000 + 1) * 10000) s)).plan = s.plan :=
      (pbReads_plan ..).trans (advanceTo_plan ..)
    have hal : (pbReads [0x11] (advanceTo (a.startedAt + ((s.almanac - a.startedAt) / 10000 + 1) * 10000) s)).almanac =
        (advanceTo (a.startedAt + ((s.almanac - a.startedAt) / 10000 + 1) * 10000) s).almanac := by simp only [pbReads_frame]
    rw [execPackAuthPoll, ha]
    dsimp only
    rw [hpl, hal]
    by_cases hl : a.startedAt + 500000 < (advanceTo (a.startedAt + ((s.almanac - a.startedAt) / 10000 + 1) * 10000) s).almanac
    · rw [if_pos hl, if_pos (by simpa using hl)]
    · rw [if_neg hl, if_neg (by simpa using hl), if_pos rfl]
      generalize authCheck _ _ _ _ = x
      cases x
      · rfl
      · rfl
  · show execPackAuthRetry rep s = _
    unfold execPackAuthRetry
    rw [if_pos (by simp [hi, hs, ha, hm]), if_neg (by simp [hg]), hf]
  · have hx := packThermSample_none a b ohms hs hi hid
    refine ⟨_, hx, rfl, rfl, ?_⟩
    have f := advanceTo_frame (nextMultiple s 100000) s
    have g := @takeReadings_frame
    simp only [g, f]
    exact ⟨trivial, trivial, trivial, trivial, fun h => advanceTo_nextMultiple (by decide) h⟩
  · have hx := packMeasure_eq mv ma p lim hs
    have f := advanceTo_frame (max s.almanac (s.nrg.measAt + 1000)) s
    obtain ⟨h₁, h₂, h₃, h₄⟩ := charge_advanceTo (max s.almanac (s.nrg.measAt + 1000)) s
    have hal := advanceTo_almanac (t := max s.almanac (s.nrg.measAt + 1000)) ho
    rw [Nat.max_eq_right (Nat.le_max_left ..)] at hal
    have hu := countCharge_sameMeasure ((advanceTo (max s.almanac (s.nrg.measAt + 1000)) s).almanac -
      (advanceTo (max s.almanac (s.nrg.measAt + 1000)) s).nrg.measAt) (advanceTo (max s.almanac (s.nrg.measAt + 1000)) s)
      (measuredNrg mv ma p lim (advanceTo (max s.almanac (s.nrg.measAt + 1000)) s))
    have hc' : (advanceTo (max s.almanac (s.nrg.measAt + 1000)) s).plan.energy.chem = 0 := by rw [advanceTo_plan, hc]
    have hm := hu.trans (measured_of_none (n := floorNat (vOc s * 1000)) (hu.chem hc') (hu.inserted.trans ?_))
    · obtain ⟨-, m₂, m₃, m₄, m₅, m₆, m₇, m₈, m₉, -⟩ := hm
      refine ⟨_, hx, m₅, m₆.trans ?_, m₇, m₈.trans ?_, m₂.trans hal, m₉.trans m₂.symm, m₃.trans ?_, m₄.trans ?_⟩
      · simp only [measuredNrg, h₁, h₂, h₄]
      · simp only [measuredNrg, h₁, h₂, h₃]
      · simp only [f]
      · simp only [f]
    · simp only [measuredNrg, f, hi]
  · show execPrechargeTimeout s = _
    have f := advanceTo_frame (s.nrg.chgAt + 1800000000) s
    have hn : (advanceTo (s.nrg.chgAt + 1800000000) s).nrg = s.nrg := by simp only [f]
    unfold execPrechargeTimeout
    rw [if_pos (by simp [hc, hm])]
    dsimp only
    rw [hn]

end Sys2Proof.Machine
end

section
/-! A save from the Fence to its tiles (07_fence_save R253 to R279). -/

namespace Sys2Proof.Machine

variable {s t u : State} {D : Dram} {d : Dev} {w : PowerPath}

/-! ### The entry of SAVING -/

/-- In SAVING with device group `d` and on path `w`, the header still to be programmed and DRAM `D`. -/
def SaveBegun (d : Dev) (w : PowerPath) (D : Dram) (s : State) : Prop :=
  s.dev = d ∧ d.state = .saving ∧ s.sav.phase = .header ∧ s.dram = D ∧ s.nrg.path = w

theorem SaveBegun.of_eq (hs : SaveBegun d w D s) (hd : t.dev = s.dev) (hp : t.sav.phase = s.sav.phase) (hm : t.dram = s.dram) (hw : t.nrg.path = s.nrg.path) :
    SaveBegun d w D t := by
  rw [SaveBegun, hd, hp, hm, hw]
  exact hs

theorem saveBegun_signalKept : SignalKept (SaveBegun d w D) := by
  refine signalKept_of fun s t hd hm _ _ _ hv _ _ _ _ _ _ _ _ hn hs => ?_
  obtain ⟨x, hn⟩ := hn
  exact hs.of_eq hd (congrArg Sav.phase hv) hm (by rw [hn])

theorem levelAction_saveBegun {b : Block} (hb : b = .sav ∨ b = .log) (s : State) (level : Nat) (hs : SaveBegun d w D s) :
    SaveBegun d w D (levelAction b level s) := by
  refine levelAction_keeps saveBegun_signalKept (fun s hs => ?_) (fun s hs => ?_) (fun s hs => ?_) (fun s hs => ?_) hs
  · have hq : ∀ n, SaveBegun d w D (quarantine (resetGroup b) n s) :=
      fun n => foldl_keeps_of (fun s x hs => saveBegun_signalKept.2.2.2.1 s _ _ hs) _ hs
    unfold blockReset
    split
    · exact hs
    · obtain rfl | rfl := hb
      · exact hq _
      · exact hq _
  · have h : s.dev.state = .saving := hs.1 ▸ hs.2.1
    rw [harbourAction, h]
    exact hs
  · have h : s.dev.state = .saving := hs.1 ▸ hs.2.1
    rw [abandon, h]
    exact hs
  · have h : s.dev.state = .saving := hs.1 ▸ hs.2.1
    rw [fenceTrigger, h]
    exact hs.of_eq rfl rfl rfl rfl

theorem modHalf_sav (k : Half) (f : HalfData → HalfData) (s : State) : (modHalf k f s).sav = (putHalf k f s).sav := by
  have g := noteReadyAny_frame s (putHalf k f s)
  rw [modHalf]
  simp only [g]

theorem modHalf_phase (k : Half) (f : HalfData → HalfData) (s : State) : (modHalf k f s).sav.phase = s.sav.phase := by
  rw [modHalf_sav]
  cases k
  · rfl
  · rfl

theorem beginSave_saveBegun (hs : s.dev.state = .saving) : SaveBegun s.dev s.nrg.path s.dram (beginSave s) := by
  have f := @modHalf_frame
  unfold beginSave
  extract_lets r k v x y
  have hx : SaveBegun s.dev s.nrg.path s.dram x := ⟨rfl, hs, rfl, rfl, rfl⟩
  have hy : SaveBegun s.dev s.nrg.path s.dram y := by
    unfold y
    split
    · refine hx.of_eq ?_ (modHalf_phase ..) ?_ ?_ <;> simp only [f]
    · exact hx
  clear_value y
  exact ite_keeps (raiseAt_keeps saveBegun_signalKept (levelAction_saveBegun (.inl rfl)) (levelAction_saveBegun (.inr rfl)) hy) hy

/-! ### Tiles -/

theorem programHeader_saveId {r : SaveRun} (hr : s.sav.run = some r) : (programHeader s).sav.saveId = r.header.saveId := by
  unfold programHeader
  rw [hr]
  have f₁ := @eraseHeads_frame
  have f₂ := @programItem_frame
  have f₃ := @clearArea_frame
  have hn : ∀ (l : List Nat) (f : Nat → State → State) (x : State), (∀ d y, (f d y).sav = y.sav) →
      (l.foldl (fun s d => f d s) x).sav = x.sav := by
    intro l f x hf
    induction l generalizing x with
    | nil => rfl
    | cons d l ih => exact (ih (f d x)).trans (hf d x)
  dsimp only
  split
  · next h _ =>
    rw [hn (List.range _) (fun d s => modNand 3 d h.code _ s) _ (fun _ _ => rfl)]
    simp only [f₁]
    rw [modHalf_sav]
    cases h
    · rfl
    · rfl
  · split
    · simp only [f₂, f₃]
    · simp only [f₂, f₃]

/-- The next tile of the list is read into slot `o`, its entries and the DRC ready. -/
theorem saveTileRead_next {r : SaveRun} {i t : Nat} {rest : List (Nat × Nat)} (hrd : readsTiles s = true)
    (hs : (programList s).dev.state = .saving) {u : State} (hu : u = { programList s with sav := { (programList s).sav with phase := .tiles } })
    (hr : u.sav.run = some r) (ht : r.todo = (i, t) :: rest) (he : tileEntries u .save = true) (hv : tileServed u mSave t = true)
    (o : Option Nat) (ho : nextFlight u r = o) (hf : ∀ x ∈ o, x < halfSlots u ∧ dieTaken u x = false) :
    exec .saveTileRead s = .next (selfRefreshRead (readTile r i t rest (o.elim u fun x => dieWorks (halfDieOf u x) u))) := by
  have h₁ : (o.any fun x => decide (halfSlots u ≤ x)) = false := by
    cases o with
    | none => rfl
    | some x => simp [(hf x rfl).1]
  have h₂ : o.any (dieTaken u) = false := by
    cases o with
    | none => rfl
    | some x => simp [(hf x rfl).2]
  have hd : (readTile r i t rest (o.elim u fun x => dieWorks (halfDieOf u x) u)).dev.state = .saving := by
    have f := @readTile_frame
    have hs' : u.dev.state = .saving := by rw [hu]; exact hs
    cases o with
    | none => simp only [f]; exact hs'
    | some x => simp only [f]; exact hs'
  show execSaveTileRead s = _
  unfold execSaveTileRead
  rw [if_pos hrd]
  dsimp only
  rw [if_pos hs, ← hu, hr]
  dsimp only
  rw [ht]
  dsimp only
  rw [ho, if_neg (by simp [h₁]), if_neg (by simp [h₂]), he, hv, if_neg (by decide), if_neg (by decide)]
  rw [if_pos hd]

/-- Settles O30: `beginSave_saveBegun` for the entry of SAVING, `saveTileRead_next` for the reads of tiles. -/
theorem saveBeginsAndWrites : Obligations.SaveBeginsAndWrites := by
  refine ⟨fun s => ⟨fun hs hg ha => ?_, fun hs hd ha => ?_, fun hs hd hg hk hp => ?_, fun r hs hp hr => ?_⟩, fun s hs hp =>
    ⟨fun r i t rest => ?_, fun r h i t img rest us hr hh hf => ?_,
      fun r i t img us c hr hh hf hc hsr ht hph => ?_, fun ma mv hm => ?_⟩⟩
  · have hx : execStaggerElapsed s = _ := if_pos (by simp [hs, hg])
    have f := advanceTo_frame (s.sav.fenceTime + staggerUs s) s
    refine ⟨_, hx, rfl, advanceTo_almanac ha, ?_, ?_, ?_⟩ <;> simp only [f]
  · exact if_pos (by simp [hs, hd, ha])
  · have hx : execSavingEntry s = _ := if_pos (by simp [hs, hd, hg, hk])
    have f := @settleTiles_frame
    have g := @transition_frame
    obtain ⟨hdev, -, hph, hdram, hpath⟩ := beginSave_saveBegun (s := settleTiles (transition .saving 0x0A
      { s with sav := { s.sav with packOnly := s.nrg.path = .pack } })) (by simp only [f, transition_dev])
    simp only [f, g, transition_dev] at hdev hdram hpath
    dsimp only at hx
    rw [if_neg (by rw [hpath, hp]; simp)] at hx
    exact ⟨_, hx, by rw [hdev], by rw [hdev]; exact hs, by rw [hdev], hph, hdram⟩
  · have hx : execSaveHeaderDone s = _ := if_pos (by simp [hs, hp])
    have f := programHeader_frame s
    refine ⟨_, hx, rfl, programHeader_saveId hr, ?_, ?_⟩ <;> simp only [f]
  · intro u hs' hr ht he hv
    have hx := saveTileRead_next (s := s) (u := u) (by simp [readsTiles, hs, hp]) hs' rfl hr ht he hv
    refine ⟨fun hh => ?_, fun x hn hx' hd hh => ?_⟩
    · exact hx none (by simp [nextFlight, hh]) (by simp)
    · exact hx (some x) hn (by simp [hx', hd])
  · show execSaveTileDone i us true s = _
    unfold execSaveTileDone
    rw [if_pos (by simp [readsTiles, hs, hp]), hr]
    dsimp only
    rw [hh, if_pos (c := (some h).isSome = true) rfl, hf]
    dsimp only
    rw [if_pos rfl]
  · have hx : exec (.saveTileDone i us true) s = .next (fullProgramEnd i s) := by
      show execSaveTileDone i us true s = _
      unfold execSaveTileDone
      rw [if_pos (by simp [readsTiles, hs, hp]), hr]
      dsimp only
      rw [hh, if_neg (by decide)]
    have he : fullProgramEnd i s = modRun (fun r => { r with inFlight := r.inFlight.filter fun x => x.1 ≠ i }) s := by
      unfold fullProgramEnd
      rw [hr]
      dsimp only
      rw [hf, List.find?_cons_of_pos (by simp)]
      dsimp only
      rw [hc, List.find?_cons_of_pos (by simp [hsr, ht, hph])]
      dsimp only
      rw [if_pos hph]
    rw [he] at hx
    refine ⟨_, hx, ?_, rfl, rfl, rfl⟩
    simp [modRun, hr, hf]
  · have hx : execSaveRateTick ma mv s = _ := if_pos hs
    have f := advanceTo_frame (s.sav.fenceTime + ((s.almanac - s.sav.fenceTime) / 100 + 1) * 100) s
    have hn : (advanceTo (s.sav.fenceTime + ((s.almanac - s.sav.fenceTime) / 100 + 1) * 100) s).nrg = s.nrg := by simp only [f]
    rw [if_neg (by rw [hn, hm]; decide)] at hx
    refine ⟨_, hx, ?_, ?_, ?_, ?_⟩ <;> simp only [f]

end Sys2Proof.Machine
end

section
/-! Restore, Early Tenancy, Fold and the apply point (08_startup_restore R301 to R318, 02_floor_plan R74). -/

namespace Sys2Proof.Machine

variable {s t u : State}

/-- A restore without a save and without a base: the tiles of its order alone are preset. -/
noncomputable def presetState (s : State) : State :=
  presetTiles (noteSearch { s with sav := { s.sav with
    restore := { s.sav.restore with badPages := [], badBasePages := [], pendingMapLost := false, overlay := [], overlayBase := [] } } })

theorem restorePresetDone_plain (hr : restoring s = true) (hp : s.sav.restore.presetDone = false) (hs : s.sav.restore.s = none)
    (hb : s.sav.restore.base = none) (ho : s.sav.restore.order ≠ []) : exec (.restorePresetDone [] [] false) s =
      .next { presetState s with sav := { (presetState s).sav with restore := { (presetState s).sav.restore with presetDone := true } } } := by
  have hbr : ∀ x : State, x.sav.restore.base = none → baseRecord x = none := by
    intro x hx
    rw [baseRecord, hx]
  have f₁ := @presetTiles_frame
  have f₂ := @takeFree_frame
  have ho' : (presetState s).sav.restore.order.isEmpty = false := by
    simp only [presetState, f₁, noteSearch, f₂]
    exact List.isEmpty_eq_false_iff.mpr ho
  show execRestorePresetDone [] [] false s = _
  unfold execRestorePresetDone
  rw [if_pos (by simp [hr, hp])]
  extract_lets r lm a s₁ s₂ s₃ s₄ ov ob b c s₅ s₆ d e s₇
  have hr₀ : r.s = none := hs
  have hlm : lm = false := by
    unfold lm
    rw [hr₀]
  have h₂ : s₂ = s₁ := by
    unfold s₂
    rw [hr₀]
  have h₃ : s₃ = s₁ := by
    unfold s₃
    rw [h₂, hbr s₁ hb]
  have h₄ : s₄ = s₁ := by
    unfold s₄
    rw [hr₀]
    exact h₃
  have hov : ov = [] := by
    unfold ov
    rw [hr₀]
  have hob : ob = [] := by
    unfold ob
    rw [h₄, hbr s₁ hb]
  have h₅ : s₅ = { s with sav := { s.sav with restore := { s.sav.restore with
      badPages := [], badBasePages := [], pendingMapLost := false, overlay := [], overlayBase := [] } } } := by
    simp only [s₅, b, c, h₄, hov, hob, s₁, a, hlm, r]
  have h₆ : s₆ = presetState s := by
    unfold s₆
    rw [h₅, presetState]
  have h₇ : s₇ = { presetState s with sav := { (presetState s).sav with
      restore := { (presetState s).sav.restore with presetDone := true } } } := by
    simp only [s₇, d, e, h₆]
  rw [h₇]
  exact congrArg Host.Outcome.next (if_neg (by simp [ho']))

theorem reevalStalled_of_none (h : s.stw.stalled = []) : reevalStalled s = s := by
  unfold reevalStalled
  dsimp only
  rw [h]
  rfl

/-- The plan `h` is in force at `t`, and of `s` stay the array, the Save Controller and the time; no claim stalls. -/
def PlanTaken (h : HeldPlan) (s t : State) : Prop :=
  t.fpl.plan = h.plan ∧ t.fpl.slot = some h.slot ∧ t.fpl.liveHeld = none ∧ t.fpl.isDefault = false ∧
    t.fpl.liveCount = satInc 0xFFFFFFFF s.fpl.liveCount ∧ t.dram = s.dram ∧ t.stw.stalled = [] ∧ t.sav = s.sav ∧
    t.almanac = s.almanac

theorem PlanTaken.of_eq {h : HeldPlan} (ht : PlanTaken h s t) (hf : u.fpl = t.fpl) (hd : u.dram = t.dram)
    (hw : u.stw.stalled = t.stw.stalled) (hv : u.sav = t.sav) (ha : u.almanac = t.almanac) : PlanTaken h s u := by
  rw [PlanTaken, hf, hd, hw, hv, ha]
  exact ht

theorem PlanTaken.reeval {h : HeldPlan} (ht : PlanTaken h s t) : PlanTaken h s (reeval t) := by
  have f := reeval_frame t
  refine ht.of_eq (by simp only [f]) (by simp only [f]) ?_ (by simp only [f]) (by simp only [f])
  have g := @setArmed_frame
  have q := @notify_frame
  unfold Machine.reeval
  dsimp only
  split
  · split <;> simp only [g, q]
  · split
    · simp only [g]
    · rfl

/-- The pin keeps a plan from being followed by a Fence. -/
theorem PlanTaken.levelMuster {h : HeldPlan} (hm : musterPinLow s = false) (ht : PlanTaken h s t) :
    PlanTaken h s (levelMuster t) := by
  obtain ⟨h₁, h₂, h₃, h₄, h₅, h₆, h₇, hv, ha⟩ := id ht
  have hl : ¬musterLow t = true := by
    have hp : musterPinLow t = musterPinLow s := by rw [musterPinLow, musterPinLow, hv, ha]
    rw [musterLow, hp, hm, Bool.and_false]
    exact Bool.false_ne_true
  rw [Machine.levelMuster, if_neg hl]
  exact ht

/-- A plan held for its apply point is in force after it. -/
theorem applyPlan_held {h : HeldPlan} (hl : s.fpl.liveHeld = some h) (hst : s.stw.stalled = []) (hm : musterPinLow s = false) :
    PlanTaken h s (applyPlan s) := by
  have f₁ := @packAlert_frame
  have f₂ := @loadFaults_frame
  have f₃ := @exerFromNow_frame
  have f₄ := @event_frame
  have f₅ := @wantRek_frame
  unfold applyPlan
  rw [hl]
  dsimp -zeta only
  extract_lets old n a s₁ b c d e g s₂ s₃ i s₄
  obtain ⟨k₁, k₂, k₃, k₄, k₅⟩ : s₁.fpl.liveCount = s.fpl.liveCount ∧ s₁.dram = s.dram ∧ s₁.stw = s.stw ∧ s₁.sav = s.sav ∧
      s₁.almanac = s.almanac := by
    unfold s₁
    split <;> exact ⟨rfl, rfl, rfl, rfl, rfl⟩
  have hc : PlanTaken h s c := by
    simp only [PlanTaken, c, b, f₁, k₂, k₃, k₄, k₅, hst, n, and_self]
  have hd : PlanTaken h s d := hc.of_eq (by simp only [d, f₂]) (by simp only [d, f₂]) (by simp only [d, f₂])
    (by simp only [d, f₂]) (by simp only [d, f₂])
  have hg : PlanTaken h s g := by
    unfold g
    split
    · exact hd
    · exact hd.of_eq rfl rfl rfl rfl rfl
  have h₃ : PlanTaken h s s₃ := hg.of_eq rfl rfl rfl rfl rfl
  have hi : PlanTaken h s i := by
    unfold i
    split
    · exact h₃
    · exact h₃.of_eq (by simp only [f₃]) (by simp only [f₃]) (by simp only [f₃]) (by simp only [f₃]) (by simp only [f₃])
  have h₄ : PlanTaken h s (wantRek s₄) := hi.of_eq (by simp only [f₅, s₄, f₄]) (by simp only [f₅, s₄, f₄])
    (by simp only [f₅, s₄, f₄]) (by simp only [f₅, s₄, f₄]) (by simp only [f₅, s₄, f₄])
  obtain ⟨-, -, -, -, -, -, hs₄, -, -⟩ := id h₄
  rw [reevalStalled_of_none hs₄]
  exact h₄.reeval.levelMuster hm

/-- Settles O33: the presets by `restorePresetDone_plain`, a held plan by `applyPlan_held`. -/
theorem restoreAndFold : Obligations.RestoreAndFold := by
  refine fun s => ⟨fun hr hp hs hb ho => ?_, fun hs he hp ho => ?_, fun tile hb ib hr hp hn hd hother hv => ?_,
    fun t rest hs hf hl ht he hm hw => ?_, fun h hs hl hst hm => ?_⟩
  · have f₁ := @presetTiles_frame
    have f₂ := @takeFree_frame
    have hx := restorePresetDone_plain hr hp hs hb ho
    refine ⟨_, hx, rfl, ?_, ?_, ?_⟩
    · simp only [presetState, f₁, noteSearch, f₂]
    · simp only [presetState, f₁, noteSearch, f₂]
    · simp only [presetState, f₁, noteSearch, f₂]
  · have hx : execEarlyTenancyEntry s = _ := if_pos (by simp [hs, he, hp, ho])
    dsimp only at hx
    generalize hy : { transition .tenancy 0x05 s with hst := { (transition .tenancy 0x05 s).hst with gateClosed := false } } = y at hx
    have hd : y.dev = { s.dev with state := .tenancy, prev := s.dev.state, entryCause := 0x05 } := by
      rw [← hy]
      exact transition_dev _ _ _
    have hm : y.dram = s.dram := by
      have g := @transition_frame
      rw [← hy]
      simp only [g]
    have hg : y.hst.gateClosed = false := by rw [← hy]
    have f := @eraseReleased_frame
    have g := @reeval_frame
    have g₃ := @reeval_frame3
    obtain ⟨b, hr⟩ := reeval_dev y
    refine ⟨_, hx, ?_⟩
    simp only [f, g, g₃, hr, hd, hm, hg]
    exact ⟨trivial, hs, trivial, trivial, trivial⟩
  · show execRestoreTileWritten tile hb ib s = _
    have hu : tileEntries s (if (inDemand s).contains (tile / tilesPerRoom) then .demand else .other) = true := by
      split
      · exact hd
      · exact hother
    unfold execRestoreTileWritten
    dsimp only
    rw [if_pos (by rw [hr, hp, hn, hu]; rfl), hv]
    exact if_neg Bool.false_ne_true
  · show execFoldStart s = _
    have hw' : (foldWhole s t || tileServed s mFold t) = true := by simpa using hw
    unfold execFoldStart
    rw [if_pos (by simp [hs, hf]), hl]
    dsimp only
    rw [if_neg (by simp [ht, he]), if_pos hm, if_pos hw']
  · have hx : execFloorPlanApply s = _ := if_pos (.inl hs)
    obtain ⟨h₁, h₂, h₃, h₄, h₅, h₆, -⟩ := applyPlan_held hl hst hm
    exact ⟨_, hx, h₁, h₂, h₃, h₄, h₅, h₆⟩

end Sys2Proof.Machine
end
